-- ==== Sys2Proof/Word.lean ====
section
/-! DEFINITION. The word types of the WV7264: a bus word is 32 bits, memory is addressed in bytes (R18, R20, R402). -/

namespace Sys2Proof

/-- One byte of memory or of a serial field (R18). -/
abbrev Byte := BitVec 8

/-- One 32-bit bus word: a register, or an aligned word of memory (R20, R415). -/
abbrev Word := BitVec 32

end Sys2Proof
end

