-- ==== Sys2Proof/Syntax.lean ====
section
/-! DEFINITION. The commands of the WV7264: one constructor of `Instr` per row of spec/opcode_table.json, with the operands the row's rule names. The table gives no row any bits, so there is no encoding. -/

namespace Sys2Proof

/-- Who makes a register access: the host port, the runtime, or the ladle (01_architecture, initiators; R52, R53). -/
inductive Init where
  | host | runtime | ladle
deriving DecidableEq, Repr

/-- What one step of the ladle's engine does (R469): reads ahead, writes the oldest burst, or both. -/
inductive BurstStep where
  | read | write | whole
deriving DecidableEq, Repr

/-- The supplies of R374 and R375. -/
inductive Supply where
  | vddc | vddio | vdda
deriving DecidableEq, Repr

/-- The strap balls of R596, as levels: 1 where the board fits a resistor (R597). -/
structure StrapPins where
  knabMode : Nat := 0
  twinPos : Nat := 0
  bootSrc : Nat := 0
  shdnT : Nat := 0
deriving DecidableEq, Repr

/-- A received or sent Airid frame (R308): both MAC addresses, the header's fields, every byte after the header up to the FCS (body,
tag and pad), the FCS, and whether RX_ER rose. -/
structure NetFrame where
  dmac : Nat := 0
  smac : Nat := 0
  etherType : Nat := 0x88B5
  version : Nat := 1
  typ : Nat := 0
  flags : Nat := 0
  src : Nat := 0
  dst : Nat := 0
  seq : Nat := 0
  session : Nat := 0
  len : Nat := 0
  rest : List Byte := []
  fcs : Nat := 0
  rxEr : Bool := false
deriving DecidableEq, Repr

/-- Where an object-dictionary request comes from (R283, R286, R311, R296): the entry at the TAIL of ring 12, a frame on a
network port (0 NETA, 1 NETB), or a record forwarded over the sprue link (the record's bytes, most significant first). -/
inductive OdSrc where
  | ring12
  | net (port : Nat) (frame : NetFrame)
  | twin (role : Nat) (record : List Byte) (tag : Nat := 0)
deriving DecidableEq, Repr

/-- A collision in the shared window (R426, R427): none, or which port's access was the later one. -/
inductive Collision where
  | none | hostLater | fabricLater
deriving DecidableEq, Repr

/-- How a sensor-bus transaction ended at the pins (R433, R435). -/
inductive SbEnd where
  | ok (rx : List Byte)
  | nackAddr (moved : Nat)
  | nackData (moved : Nat)
  | stuck
deriving DecidableEq, Repr

/-- What a HELLO token says of its sender (R345). -/
structure Hello where
  position : Nat := 0
  sysId : Nat := 0
  rtVersion : Nat := 0
  cfgVersion : Nat := 0
  heat : Nat := 0
  role : Nat := 0
deriving DecidableEq, Repr

/-- A value of the object dictionary (R256): an integer type, a COEF, or the bytes of a STR or BLOB. -/
inductive OdVal where
  | num (v : Int)
  | coef (c : Int) (s : Nat)
  | bytes (b : List Byte)
deriving DecidableEq, Repr

/-- The drive of a FLOAT channel (R204). -/
inductive Drv where
  | none | opening | closing
deriving DecidableEq, Repr

/-- What the active mirrors of one actuator channel (R214). -/
structure ActMirror where
  ch : Nat := 0
  pos : Int := 0
  drv : Drv := .none
  run : Nat := 0
  ovr : Nat := 0
  gap : Nat := 0
  atLo : Bool := false
  atHi : Bool := false
  unsync : Bool := true
  level : Bool := false
  sinceChange : Nat := 0
  strokes : Nat := 0
deriving DecidableEq, Repr

/-- What the active mirrors of one fan (R248); times are in base ticks still to run, or run so far. -/
structure FanMirror where
  fan : Nat := 0
  state : Nat := 0
  retry : Nat := 0
  timer : Nat := 0
  elapsed : Nat := 0
  silent : Nat := 0
  rpm : Nat := 0
  lastDuty : Nat := 0
  q : Nat := 0
  slew : Bool := false
deriving DecidableEq, Repr

/-- What the active mirrors of one zone (R192). -/
structure ZoneMirror where
  zone : Nat := 0
  tsp : Int := 0
  rsp : Int := 0
  accT : Nat := 0
  accR : Nat := 0
  mode : Nat := 0
  presence : Nat := 0
  holdT : Nat := 0
  alarms : Nat := 0
deriving DecidableEq, Repr

/-- Control messages of the swap procedure (R355, R359-R365): the swap set as it is written, BEGIN with its swap set, the exchange at a class-0 boundary not before
a tick, the digest of the sender's set, CONVERGED as the standby finds it, FINISH, the outcome of the sender's journal
transaction, the end of the mixed state, and ABORT. -/
inductive SwapCtl where
  | swapSet (fns : List Nat)
  | begun (fns : List Nat)
  | exchangeAt (tick : Nat)
  | setDigest (digest : Nat)
  | converged (c : Bool)
  | finishing
  | journalDone (ok : Bool)
  | ended
  | abort
deriving DecidableEq, Repr

/-- The tokens of the sprue link by kind (R345), with what they carry; `seq` of MIRROR is the network sequence counter where it goes
with it (R354), and `run` of CONFIG names the functions in RUN. A content longer than
a body of 256 bytes goes in several tokens. -/
inductive Token where
  | claim
  | release (cause : Nat)
  | tick (tb wait : Nat)
  | graft (cls first tb : Nat) (entries : List (Int × Int))
  | runmap (slots : List Nat)
  | mirror (acts : List ActMirror) (fans : List FanMirror) (auto : Bool) (seq : Option Nat)
  | swap (ctl : SwapCtl)
  | hello (h : Hello)
  | zone (zones : List ZoneMirror) (sps : List (Nat × Word)) (vpvs : List (Nat × Word))
  | odx (response : Bool) (record : List Byte) (tag : Nat)
  | netframe (fromPartnerPort : Bool) (frame : NetFrame)
  | config (heat hdig sdig : Nat) (members : List (Nat × OdVal)) (run : List Nat)
  | image (kind offset total : Nat) (data : List Byte)
deriving DecidableEq, Repr

/-- The commands: one constructor per row of spec/opcode_table.json, in the table's order. -/
inductive Instr where
  | baseTick
  | tbcountLoRead (who : Init)
  | xtalStop
  | tboRange
  | clockLost
  | portClock (p : Nat)
  | tboLock
  | tboDiscipline (count : Nat)
  | frameBoundary
  | slotEvaluation
  | ownershipHandover
  | acqStart (who : Init)
  | acqStop (who : Init)
  | passStart
  | entryStart
  | conversionSample (code : Int)
  | conversionComplete
  | pvUpdate
  | guardConversion (code : Int)
  | fettleConversion (slice : Nat) (code : Int)
  | sliceStale (slice : Nat)
  | staleClear (slice : Nat)
  | sliceCorrWrite (who : Init) (slice : Nat) (skew : Bool) (v : Word)
  | acqClipcntRead (who : Init)
  | acqSkipcntRead (who : Init)
  | cenRun (who : Init)
  | cenStop (who : Init)
  | cenAdmit (who : Init)
  | cenPeriodWrite (who : Init) (k : Nat) (v : Word)
  | cenOvrRead (who : Init) (k : Nat)
  | traceArm (who : Init) (t : Nat)
  | traceStop (who : Init) (t : Nat)
  | traceForce (who : Init) (t : Nat)
  | traceConfigWrite (who : Init) (t : Nat) (reg : Nat) (v : Word)
  | traceLostRead (who : Init) (t : Nat)
  | odRead (src : OdSrc)
  | odWrite (src : OdSrc) (nvOk : Bool)
  | odWriteBlock (src : OdSrc) (nvOk : Bool)
  | odCall (src : OdSrc)
  | functionStop (f : Nat)
  | functionStart (f : Nat) (nvOk : Bool)
  | functionDiscard (f : Nat)
  | functionStartCommit (f : Nat)
  | functionStopCommit (f : Nat)
  | odxHeatRead (who : Init)
  | digestMismatchClear (addr : Nat)
  | zoneStep
  | zonPinCntRead (who : Init) (p : Nat)
  | scheduleEvaluate
  | pwmPeriod (n : Nat)
  | stepPulse (n : Nat)
  | actRunWrite (who : Init) (v : Word)
  | actRelease (who : Init) (v : Word)
  | safeTimeout (n : Nat)
  | actConfigWrite (who : Init) (n : Nat) (off : Nat) (v : Word)
  | fanPeriod (f : Nat)
  | stretchWindowOpen (f : Nat)
  | tachEdge (f : Nat) (cycle : Nat)
  | stretchWindowClose (f : Nat)
  | fanKickEnd (f : Nat)
  | startTimeout (f : Nat)
  | fanWaitEnd (f : Nat)
  | fanRestartEnd (f : Nat)
  | fanRetryReset (f : Nat)
  | fanClr (who : Init) (v : Word)
  | fanRefresh (who : Init)
  | fanAuto
  | fanAutoExit (who : Init) (v : Word)
  | fanConfigWrite (who : Init) (f : Nat) (off : Nat) (v : Word)
  | shdnSensor (j : Nat)
  | shdnRelease
  | shdnLock (who : Init)
  | heartbeatSend
  | heartbeatReceive (p : Nat) (m : NetFrame)
  | timeReceive (p : Nat) (m : NetFrame)
  | censusReceive (p : Nat) (m : NetFrame)
  | notifySend
  | notifyAck (p : Nat) (m : NetFrame)
  | notifyRetry
  | pourReceive (p : Nat) (m : NetFrame)
  | pourEndReceive (p : Nat) (m : NetFrame)
  | pourNakRetry
  | windowClose (addr : Nat)
  | frameDrop (p : Nat) (m : NetFrame)
  | plcaLost (p : Nat)
  | plcaResume (p : Nat)
  | frameTransmitDone (p : Nat) (collisions : Nat := 0)
  | mdioGo (who : Init) (v : Word)
  | mdioDone (data : BitVec 16)
  | rootKeyApply
  | netCounterRead (who : Init) (p : Nat) (k : Nat)
  | netNotlostRead (who : Init)
  | twinKick (who : Init)
  | twinWatchdog
  | twinForcedReset
  | ownChange (own alive : Bool)
  | claim
  | loneClaim
  | claimDrive
  | ownStuck
  | sprueDown
  | sprueUp
  | transferTimeout
  | tokenDiscard (wires : List Nat := [])
  | claimToken
  | releaseToken (cause : Nat)
  | tickToken (tb : Nat) (lag : Int)
  | graftToken (cls first tb : Nat) (entries : List (Int × Int))
  | runmapToken (slots : List Nat)
  | mirrorToken (acts : List ActMirror) (fans : List FanMirror) (auto : Bool) (seq : Option Nat)
  | zoneToken (zones : List ZoneMirror) (sps : List (Nat × Word)) (vpvs : List (Nat × Word))
  | odxToken (response : Bool) (record : List Byte) (tag : Nat := 0)
  | netframeToken (fromPartnerPort : Bool) (frame : NetFrame)
  | helloToken (h : Hello)
  | configToken (last : Bool) (heat hdig sdig : Nat) (members : List (Nat × OdVal)) (nvOk : Bool) (run : List Nat := [])
  | imageToken (kind : Nat) (offset total : Nat) (data : List Byte)
  | swapToken (ctl : SwapCtl)
  | twinPourTimeout
  | swapBegin
  | swap
  | forceSwap
  | swapFinish (nvOk : Bool)
  | swapAbort
  | swapExchange
  | swapFinishCommit
  | twnLatecntRead (who : Init)
  | twnLinkerrRead (who : Init)
  | supplyGood (pins : StrapPins) (dip : Bool)
  | supplyFall (jstep : Nat) (vbatHolds : Bool)
  | supply (which : Supply) (low : Bool)
  | nrst
  | watchdogKick (who : Init)
  | wdogWarn
  | watchdogReset
  | knabRecall (weak : List Nat)
  | selfTest (romOk ramOk : Bool)
  | pourBlock (mode3 : Bool) (payload : List Byte) (lenField : Nat)
  | pourGo (mode3 : Bool) (kind : Nat)
  | imageCheck (kind : Nat)
  | runtimeEntry (nvOk : Bool)
  | startupCommitRetry (nvOk : Bool)
  | chillRequest
  | chillEntry
  | wake (src : Nat)
  | hostId (mode3 : Bool)
  | hostStatus (mode3 : Bool)
  | hostRead (mode3 : Bool) (addr : Word) (coll : Collision) (late : Bool)
  | hostReadBurst (mode3 : Bool) (addr : Word) (count : Nat) (colls : List Collision) (late : Bool)
  | hostWrite (mode3 : Bool) (addr : Word) (words : List Word)
  | writeQueueWord (coll : Collision)
  | hostDoorbell (mode3 : Bool) (v : Byte)
  | badCommand (mode3 : Bool) (code : Byte)
  | sbusGo (who : Init) (b : Nat) (v : Word)
  | sbusTransactionEnd (b : Nat) (how : SbEnd)
  | clockStretchTimeout (b : Nat)
  | sbusEnable (who : Init) (b : Nat) (v : Word) (stuck : Bool)
  | sbusDisable (who : Init) (b : Nat) (v : Word)
  | pollDue (p : Nat)
  | pollWaitEnd (p : Nat)
  | evtPendClear (who : Init) (hi : Bool) (v : Word)
  | evtClr (who : Init) (hi : Bool) (v : Word)
  | evtMaskHostWrite (who : Init) (hi : Bool) (v : Word)
  | evtSoft (who : Init) (v : Word)
  | ringConfigWrite (who : Init) (n : Nat) (v : Word)
  | ringBaseWrite (who : Init) (n : Nat) (v : Word)
  | ringHeadWrite (who : Init) (n : Nat) (v : Word)
  | ringTailWrite (who : Init) (n : Nat) (v : Word)
  | ringDropRead (who : Init) (n : Nat)
  | ladleStart (who : Init) (n : Nat)
  | ladlePause (who : Init) (n : Nat)
  | ladleResume (who : Init) (n : Nat)
  | ladleAbort (who : Init) (n : Nat)
  | ladleDoorbell (who : Init) (n : Nat)
  | descriptorFetch (n : Nat)
  | burst (step : BurstStep := .whole)
  | ladleBuserr (n : Nat) (addr : Word) (others : List Nat)
  | replay (failed : List Nat)
  | ldlCounterRead (who : Init) (k : Nat)
  | knbJopen (who : Init)
  | knbJmapWrite (who : Init) (j : Nat) (v : Word)
  | knbCommit (who : Init)
  | knabDone
  | counterIncrement (who : Init) (v : Word) (cut : Option Nat := none)
  | counterValueRead (who : Init)
  | sliceNow (who : Init)
  | scanSlice (weak : List Nat)
  | pageRefresh (page : Nat) (stillWeak : Bool)
  | knbWeakcntRead (who : Init)
  | rtcSecond
  | rtcSecRead (who : Init)
  | rtcSnap (who : Init) (v : Word)
  | rtcFieldWrite (who : Init) (n : Nat) (v : Word)
  | rtcHalt (who : Init)
  | rtcRelease (who : Init)
  | rtcAdj (who : Init) (v : Word)
  | rtcMeasureStart (who : Init) (v : Word)
  | mainsrefCross (cycles : Nat)
  | trimUpdate
  | rtcSupplySwitch (toVbat : Bool)
  | rtcBatlow
  | rtcDomainLoss
  | rtcXstop
  | keypadScan (pressed : List Nat)
  | keyStuck (key : Nat)
  | entryTimeout
  | lockoutEnd
  | relock
  | kpdLock (who : Init)
  | kpdUnlock (who : Init)
  | kpdConfigWrite (who : Init) (off : Nat) (v : Word)
  | kpdDropRead (who : Init)
  | encoderSample (n : Nat) (a b p : Bool)
  | encoderCountWrite (who : Init) (n : Nat) (v : Word)
  | encErrRead (who : Init) (n : Nat)
  | sensorConversion (readings : List Int)
  | tripComparator
  | tripRelease
  | thmTjRead (who : Init)
  | thmLvlcntRead (who : Init)
  | faultLogWrite (nvOk : Bool)
  | registerWrite (who : Init) (addr : Word) (v : Word)
  | tboRangeRecovery
  | nrstRelease
  | xtalResume
  | mainsLost
  | rtcBatlowClear
  | rstoutRise
deriving DecidableEq, Repr

end Sys2Proof
end

