-- ==== Sys2Proof/Decode.lean ====
section
/-! DEFINITION. Words of the opcode table: spec/opcode_table.json gives no row any bits (every row's list of fields is empty), so no word spells a command. -/

namespace Sys2Proof

/-- The command that the low nbits bits of w spell by the opcode table: none, since the table gives no row bits. -/
def decodeTableWord (_nbits _w : Nat) : Option Instr := none

end Sys2Proof
end

