-- ==== Sys2Proof/Config.lean ====
section
/-! DEFINITION. What a part is configured with for good, and the values the spec leaves open. Each `opaque` constant below has no body: nothing can be proved about the value it gives, so a statement holds for every value. -/

namespace Sys2Proof

/-- The three variants of the part (R1, R2). -/
inductive Variant where
  | wv7264 | wv7248 | wv7232
deriving DecidableEq, Repr

/-- A free 32-bit value, one per use: applied to the counter `State.free` (log entry 7). -/
opaque Config.freeWord : Nat → Word

/-- A free natural number, one per use, clamped to the spec's bound where the spec gives one (log entry 7). -/
opaque Config.freeNat : Nat → Nat

/-- The body of a sprue token whose layout the spec does not give: MIRROR, SWAP, HELLO, ZONE, ODX, NETFRAME, CONFIG and IMAGE (R345; log
entry 43). -/
opaque Config.tokenLayout : Token → List Byte

/-- The depth that the runtime gives ring n, as log2 of the entries (R453 leaves it to the runtime; log entry 9). -/
opaque Config.ringDepth : Nat → Nat

/-- The place that the runtime gives ring n in data RAM (R453 leaves it to the runtime; log entry 9). -/
opaque Config.ringPlace : Nat → Nat

/-- The dew point in Q16.16 that the runtime computes from a temperature and a humidity; R179 bounds its error (log entry 10). -/
opaque Config.dewPointError : Int → Int → Int

end Sys2Proof
end

