-- ==== Sys2Proof/Machine/Bits.lean ====
section
/-! DEFINITION. Bit fields of a bus word, byte order, saturation and CRCs: the arithmetic that every unit shares (R18, conventions of 00_scope). -/

namespace Sys2Proof.Machine

/-- The field of w bits at bit lo of a word, as a number. -/
def fld (x : Word) (lo w : Nat) : Nat := x.toNat / 2 ^ lo % 2 ^ w

/-- One bit of a word. -/
def bitOf (x : Word) (i : Nat) : Bool := x.getLsbD i

/-- A word of w ones at bit lo. -/
def maskOf (lo w : Nat) : Word := BitVec.ofNat 32 ((2 ^ w - 1) * 2 ^ lo)

/-- The word with the field of w bits at bit lo replaced by v modulo 2^w. -/
def putFld (x : Word) (lo w v : Nat) : Word :=
  (x &&& ~~~ maskOf lo w) ||| BitVec.ofNat 32 (v % 2 ^ w * 2 ^ lo)

/-- The word with bit i set to b. -/
def putBit (x : Word) (i : Nat) (b : Bool) : Word := putFld x i 1 (if b then 1 else 0)

/-- A signed field: w bits at bit lo, two's complement. -/
def sfld (x : Word) (lo w : Nat) : Int :=
  let v := fld x lo w
  if v < 2 ^ (w - 1) then (v : Int) else (v : Int) - 2 ^ w

/-- The low 32 bits of an integer as a word (two's complement). -/
def ofInt32 (i : Int) : Word := BitVec.ofInt 32 i

/-- Two's complement of an integer in w bits, as a number. -/
def ofIntN (w : Nat) (i : Int) : Nat := (i % (2 ^ w : Nat)).toNat

/-- An integer limited to lo..hi. -/
def clampInt (lo hi x : Int) : Int := max lo (min hi x)

/-- A number limited to lo..hi. -/
def clampNat (lo hi x : Nat) : Nat := max lo (min hi x)

/-- The saturation to 32 bits signed of 04_control_arithmetic. -/
def sat32 (x : Int) : Int := clampInt (-2147483648) 2147483647 x

/-- Counting up by k, stopping at the largest 32-bit value (a counter that saturates). -/
def satAdd (x : Word) (k : Nat) : Word := BitVec.ofNat 32 (min 0xFFFFFFFF (x.toNat + k))

/-- n bytes of a number, least significant first (R18, memory). -/
def leBytes : Nat → Nat → List Byte
  | 0, _ => []
  | n + 1, v => BitVec.ofNat 8 v :: leBytes n (v / 256)

/-- n bytes of a number, most significant first (R18, host port and network). -/
def beBytes (n v : Nat) : List Byte := (leBytes n v).reverse

/-- The number that bytes spell, least significant first. -/
def ofLe : List Byte → Nat
  | [] => 0
  | b :: t => b.toNat + 256 * ofLe t

/-- The number that bytes spell, most significant first. -/
def ofBe (l : List Byte) : Nat := ofLe l.reverse

/-- n bytes of a list from an offset, with 0 where the list has ended. -/
def slice (l : List Byte) (off n : Nat) : List Byte :=
  (List.range n).map (fun i => l.getD (off + i) 0)

/-- One step of a CRC-8 with polynomial 0x31, most significant bit first (R439 step 3). -/
def crc8Step (c : Nat) : Nat := if c ≥ 128 then (c * 2 % 256) ^^^ 0x31 else c * 2

/-- The CRC-8 of R439 step 3: initial value 0xFF, no reflection, no final XOR. -/
def crc8 (l : List Byte) : Nat :=
  l.foldl (fun c b => crc8Step (crc8Step (crc8Step (crc8Step (crc8Step (crc8Step (crc8Step (crc8Step (c ^^^ b.toNat))))))))) 0xFF

/-- One bit of a reflected CRC-32 (IEEE 802.3, polynomial 0x04C11DB7 reflected). -/
def crc32Bit (c : Nat) : Nat := if c % 2 = 1 then (c / 2) ^^^ 0xEDB88320 else c / 2

/-- The CRC-32 of bytes (IEEE 802.3: reflected, initial value and final XOR of all ones). -/
def crc32 (l : List Byte) : Nat :=
  0xFFFFFFFF ^^^ l.foldl (fun c b =>
    crc32Bit (crc32Bit (crc32Bit (crc32Bit (crc32Bit (crc32Bit (crc32Bit (crc32Bit (c ^^^ b.toNat))))))))) 0xFFFFFFFF

/-- The rows i < n at which a list of flags is true. -/
def setBits (x : Nat) : List Nat := (List.range 64).filter (fun i => x.testBit i)

/-- A byte list with the bytes of another put in at a place. -/
def putBytes (l : List Byte) (i : Nat) (b : List Byte) : List Byte := l.take i ++ b ++ l.drop (i + b.length)

end Sys2Proof.Machine
end

