-- ==== Sys2Proof/Machine/Link.lean ====
section
/-! DEFINITION. The sprue link between tokens and wires: kinds, priorities and frames of tokens, transfers of two bits, and what a receiver finds (10_twin_pair R344-R347). -/

namespace Sys2Proof.Machine

/-! ### Tokens (R345, R346) -/

/-- The kind of a token. -/
def tokenKind : Token → Nat
  | .claim => 0x01
  | .release _ => 0x02
  | .tick _ _ => 0x03
  | .graft _ _ _ _ => 0x04
  | .runmap _ => 0x05
  | .mirror _ _ _ _ => 0x06
  | .swap _ => 0x07
  | .hello _ => 0x08
  | .zone _ _ _ => 0x09
  | .odx _ _ _ => 0x0A
  | .netframe _ _ => 0x0B
  | .config _ _ _ _ _ => 0x0C
  | .image _ _ _ _ => 0x0D

/-- The priority of a kind; the lowest number goes first. -/
def tokenPriority (kind : Nat) : Nat :=
  if kind = 1 || kind = 2 || kind = 7 then 0
  else if kind = 3 then 1
  else if kind ≤ 6 then 2
  else if kind ≤ 0xB then 3 else 4

/-- The tokens that leave whether or not the link counts as up: CLAIM, RELEASE, TICK, which makes it count as up, HELLO, and IMAGE to
a chip at its pour step (R339, R340, R348, R357; DESIGN CHOICE, log entry 43). -/
def tokenAlways (t : Token) : Bool := match t with
  | .claim => true
  | .release _ => true
  | .tick _ _ => true
  | .hello _ => true
  | .image _ _ _ _ => true
  | _ => false

/-- A waiting token joins behind those of its priority and before those of a higher number. -/
def tokenInsert (t : Token) : List Token → List Token
  | [] => [t]
  | x :: r => if tokenPriority (tokenKind t) < tokenPriority (tokenKind x) then t :: x :: r else x :: tokenInsert t r

/-- The queue with one more token; its first one has begun and goes to its end (R346). -/
def tokenQueue (t : Token) : List Token → List Token
  | [] => [t]
  | x :: r => x :: tokenInsert t r

/-- RUNMAP's 128 bytes: bit s set if slot s is named. -/
def runmapBytes (slots : List Nat) : List Byte :=
  (List.range 128).map (fun j => BitVec.ofNat 8 (((List.range 8).filter (fun i => slots.contains (8 * j + i))).map (2 ^ ·)).sum)

/-- The body of a token. The spec lays out those of CLAIM, RELEASE, TICK, GRAFT and RUNMAP; the layout of the others is free (log
entry 43). -/
def tokenBody (t : Token) : List Byte := match t with
  | .claim => []
  | .release c => [BitVec.ofNat 8 c]
  | .tick tb w => leBytes 6 tb ++ leBytes 2 (min 0xFFFF w)
  | .graft k first tb es =>
    [BitVec.ofNat 8 k, 0] ++ leBytes 2 first ++ leBytes 4 tb ++
      (es.take 31).flatMap (fun e => leBytes 4 (ofIntN 32 e.1) ++ leBytes 4 (ofIntN 32 e.2))
  | .runmap slots => runmapBytes slots
  | t => Config.tokenLayout t

/-- A token on the link: kind, zero, the body length, the body, and the CRC-32 over all of them. -/
def tokenFrame (kind : Nat) (body : List Byte) : List Byte :=
  let h := [BitVec.ofNat 8 kind, 0] ++ leBytes 2 body.length ++ body
  h ++ leBytes 4 (crc32 h)

/-- A content in bodies of at most 256 bytes; an empty one makes one empty body. -/
def tokenPieces : Nat → List Byte → List (List Byte)
  | 0, l => [l.take 256]
  | n + 1, l => if l.length ≤ 256 then [l] else l.take 256 :: tokenPieces n (l.drop 256)

/-- The bytes that a token puts on the link. -/
def tokenBytes (t : Token) : List Byte :=
  let b := tokenBody t
  (tokenPieces (b.length / 256) b).flatMap (tokenFrame (tokenKind t))

/-- How many bytes a token puts on the link: its body, and 8 more for each piece of it. -/
def tokenSize (t : Token) : Nat :=
  let n := (tokenBody t).length
  n + 8 * max 1 ((n + 255) / 256)

/-- Does a token carry the committed set? -/
def tokenConfig : Token → Bool
  | .config _ _ _ _ _ => true
  | _ => false

/-- Is a string of bytes one token that a receiver takes: a kind of R345, a length of at most 256, the CRC right (R345, R347)? -/
def tokenGood (l : List Byte) : Bool :=
  let n := ofLe (slice l 2 2)
  8 ≤ l.length && n ≤ 256 && l.length == 8 + n && 1 ≤ (l.getD 0 0).toNat && (l.getD 0 0).toNat ≤ 0xD && l.getD 1 0 == 0 &&
    slice l (4 + n) 4 == leBytes 4 (crc32 (l.take (4 + n)))

/-! ### Transfers (R344) -/

/-- The four transfers of a byte, bits [1:0] first. -/
def byteTransfers (b : Byte) : List Nat := [b.toNat % 4, b.toNat / 4 % 4, b.toNat / 16 % 4, b.toNat / 64]

/-- The data wires of a transfer: wire i alone is high for the value i. -/
def transferWires (v : Nat) : Nat := 2 ^ v

/-- The four phases of a transfer as (data wires, acknowledge): the wire rises, the receiver acknowledges, the wire falls, the
acknowledge falls. -/
def transferPhases (v : Nat) : List (Nat × Bool) := [(2 ^ v, false), (2 ^ v, true), (0, true), (0, false)]

/-- The phases that a token passes through, first to last. -/
def tokenPhases (t : Token) : List (Nat × Bool) := ((tokenBytes t).flatMap byteTransfers).flatMap transferPhases

/-- The levels of data wire i while a queue of tokens leaves whose first one has made `done` transfers. -/
def wireLevels (tx : List Token) (done i : Nat) : List Bool :=
  ((tx.flatMap tokenPhases).drop (4 * done)).map (fun p => p.1.testBit i)

/-- A queue after n more transfers: what is left of it, and the transfers that its first token has made (R346: a token, once begun, is
sent to its end). -/
def linkRun : List Token → Nat → Nat → List Token × Nat
  | [], _, _ => ([], 0)
  | t :: r, done, n =>
    let left := 4 * tokenSize t - done
    if left ≤ n then linkRun r 0 (n - left) else (t :: r, done + n)

/-- The transfers that precede a TICK which joins a queue: the rest of the token in progress, and the waiting tokens of priority 0. -/
def tickBehind : List Token → Nat → Nat
  | [], _ => 0
  | t :: r, done => 4 * tokenSize t - done + ((r.filter (fun x => tokenPriority (tokenKind x) == 0)).map (fun x => 4 * tokenSize x)).sum

/-- The value of a transfer at the receiver: none where not exactly one wire is high (R347). -/
def wiresValue : Nat → Option Nat
  | 1 => some 0
  | 2 => some 1
  | 4 => some 2
  | 8 => some 3
  | _ => none

/-- The bytes of a string of values, four to a byte; none where values are left over. -/
def valuesBytes : List Nat → Option (List Byte)
  | [] => some []
  | a :: b :: c :: d :: r => (valuesBytes r).map (BitVec.ofNat 8 (a + 4 * b + 16 * c + 64 * d) :: ·)
  | _ => none

/-- What a receiver reads from the data wires of successive transfers. -/
def wiresBytes (w : List Nat) : Option (List Byte) := (w.mapM wiresValue).bind valuesBytes

/-- Does a receiver discard what the wires of successive transfers spell (R345, R347)? -/
def wiresDiscard (w : List Nat) : Bool := match wiresBytes w with
  | some l => !tokenGood l
  | none => true

end Sys2Proof.Machine
end

