-- ==== Sys2Proof/Machine/Operands.lean ====
section
/-! DEFINITION. The registers of the WV7264 by name: the bus address of each (R405 and the register tables of the unit chapters), and one row per register with its reset value, its RW bits and its W1C bits. -/

namespace Sys2Proof.Machine

/-- One line of a register table: the address is base + s1 * i + s2 * j for i < n1, j < n2; `reset` holds one value, or one
per i; `rw` the RW bits, `w1c` the bits that a written 1 clears, `rc` a register that a read clears. -/
structure RegRow where
  name : String
  base : Nat
  n1 : Nat
  s1 : Nat
  n2 : Nat
  s2 : Nat
  reset : List Nat
  rw : Nat
  w1c : Nat
  rc : Bool
deriving DecidableEq, Repr

abbrev Reg.sysId : Nat := 0x60000000
abbrev Reg.sysUnits : Nat := 0x60000004
abbrev Reg.sysStatus : Nat := 0x60000008
abbrev Reg.sysHitaddr : Nat := 0x6000000C
abbrev Reg.sysSerialLo : Nat := 0x60000010
abbrev Reg.sysSerialHi : Nat := 0x60000014
abbrev Reg.sysRamstat : Nat := 0x60000018
abbrev Reg.sysOwn : Nat := 0x60000020
abbrev Reg.pwrStat : Nat := 0x60010000
abbrev Reg.pwrRstcause : Nat := 0x60010004
abbrev Reg.pwrStrap : Nat := 0x60010008
abbrev Reg.pwrCtrl : Nat := 0x6001000C
abbrev Reg.pwrWake : Nat := 0x60010010
abbrev Reg.pwrRetain : Nat := 0x60010014
abbrev Reg.pwrWdog : Nat := 0x60010018
abbrev Reg.pwrWdkick : Nat := 0x6001001C
abbrev Reg.pwrPour : Nat := 0x60010020
abbrev Reg.pwrPournext : Nat := 0x60010024
abbrev Reg.pwrShake : Nat := 0x60010028
abbrev Reg.hstStat : Nat := 0x60020000
abbrev Reg.hstColladdr : Nat := 0x60020004
abbrev Reg.hstDoorbell : Nat := 0x60020008
abbrev Reg.hstHerr : Nat := 0x6002000C
abbrev Reg.hstScratch : Nat := 0x60020010
abbrev Reg.hstBusycnt : Nat := 0x60020014
abbrev Reg.hstCmdcnt : Nat := 0x60020018
abbrev Reg.evtPendLo : Nat := 0x60030000
abbrev Reg.evtMaskCoreLo : Nat := 0x60030008
abbrev Reg.evtMaskHostLo : Nat := 0x60030010
abbrev Reg.evtClrLo : Nat := 0x60030018
abbrev Reg.evtHpendLo : Nat := 0x60030020
abbrev Reg.evtPendHi : Nat := 0x60030004
abbrev Reg.evtMaskCoreHi : Nat := 0x6003000C
abbrev Reg.evtMaskHostHi : Nat := 0x60030014
abbrev Reg.evtClrHi : Nat := 0x6003001C
abbrev Reg.evtHpendHi : Nat := 0x60030024
abbrev Reg.evtSoft : Nat := 0x60030028
abbrev Reg.evtNext : Nat := 0x6003002C
abbrev Reg.evtPrio (i : Nat) : Nat := 0x60030030 + 4 * i
abbrev Reg.evtTypeLo : Nat := 0x60030040
abbrev Reg.evtTypeHi : Nat := 0x60030044
abbrev Reg.rngStatNe : Nat := 0x60040000
abbrev Reg.rngStatFull : Nat := 0x60040004
abbrev Reg.rngDropf : Nat := 0x60040008
abbrev Reg.rngErr : Nat := 0x6004000C
abbrev Reg.rngBase (i : Nat) : Nat := 0x60040100 + 32 * i
abbrev Reg.rngCfg (i : Nat) : Nat := 0x60040104 + 32 * i
abbrev Reg.rngHead (i : Nat) : Nat := 0x60040108 + 32 * i
abbrev Reg.rngTail (i : Nat) : Nat := 0x6004010C + 32 * i
abbrev Reg.rngDrop (i : Nat) : Nat := 0x60040110 + 32 * i
abbrev Reg.ldlStat : Nat := 0x60050000
abbrev Reg.ldlBuserrcnt : Nat := 0x60050004
abbrev Reg.ldlTranscnt : Nat := 0x60050008
abbrev Reg.ldlSlagcnt : Nat := 0x6005000C
abbrev Reg.ldlErraddr : Nat := 0x60050010
abbrev Reg.ldlRegionBase (i : Nat) : Nat := 0x60050040 + 16 * i
abbrev Reg.ldlRegionLimit (i : Nat) : Nat := 0x60050044 + 16 * i
abbrev Reg.ldlRegionPerm (i : Nat) : Nat := 0x60050048 + 16 * i
abbrev Reg.ldlChCtrl (i : Nat) : Nat := 0x60050100 + 64 * i
abbrev Reg.ldlChFirst (i : Nat) : Nat := 0x60050104 + 64 * i
abbrev Reg.ldlChDoorbell (i : Nat) : Nat := 0x60050108 + 64 * i
abbrev Reg.ldlChStat (i : Nat) : Nat := 0x6005010C + 64 * i
abbrev Reg.ldlChDone (i : Nat) : Nat := 0x60050110 + 64 * i
abbrev Reg.ldlChCur (i : Nat) : Nat := 0x60050114 + 64 * i
abbrev Reg.ldlChCurSrc (i : Nat) : Nat := 0x60050118 + 64 * i
abbrev Reg.ldlChCurDst (i : Nat) : Nat := 0x6005011C + 64 * i
abbrev Reg.ldlChRemain (i : Nat) : Nat := 0x60050120 + 64 * i
abbrev Reg.ldlChPcksum (i : Nat) : Nat := 0x60050124 + 64 * i
abbrev Reg.ldlChDesccnt (i : Nat) : Nat := 0x60050128 + 64 * i
abbrev Reg.acqCtrl : Nat := 0x60060000
abbrev Reg.acqCfg : Nat := 0x60060004
abbrev Reg.acqStat : Nat := 0x60060008
abbrev Reg.acqSeqLen : Nat := 0x6006000C
abbrev Reg.acqAlign : Nat := 0x60060010
abbrev Reg.acqPhase : Nat := 0x60060014
abbrev Reg.acqPasscnt : Nat := 0x60060018
abbrev Reg.acqDiff : Nat := 0x6006001C
abbrev Reg.acqCal : Nat := 0x60060020
abbrev Reg.acqClipcnt : Nat := 0x60060024
abbrev Reg.acqSkipcnt : Nat := 0x60060028
abbrev Reg.acqGuard (i : Nat) : Nat := 0x60060030 + 4 * i
abbrev Reg.acqSliceCorr (i : Nat) : Nat := 0x60060040 + 8 * i
abbrev Reg.acqSliceSkew (i : Nat) : Nat := 0x60060044 + 8 * i
abbrev Reg.acqSliceNopair (i : Nat) : Nat := 0x60060060 + 4 * i
abbrev Reg.acqSeqW0 (i : Nat) : Nat := 0x60061000 + 8 * i
abbrev Reg.acqSeqW1 (i : Nat) : Nat := 0x60061004 + 8 * i
abbrev Reg.decCfg (i : Nat) : Nat := 0x60062000 + 32 * i
abbrev Reg.decGain (i : Nat) : Nat := 0x60062004 + 32 * i
abbrev Reg.decOffset (i : Nat) : Nat := 0x60062008 + 32 * i
abbrev Reg.cmpLo (i : Nat) : Nat := 0x6006200C + 32 * i
abbrev Reg.cmpMid (i : Nat) : Nat := 0x60062010 + 32 * i
abbrev Reg.cmpHi (i : Nat) : Nat := 0x60062014 + 32 * i
abbrev Reg.cmpHyst (i : Nat) : Nat := 0x60062018 + 32 * i
abbrev Reg.acqLin (i j : Nat) : Nat := 0x60064000 + 256 * i + 4 * j
abbrev Reg.cenCtrl : Nat := 0x60070000
abbrev Reg.cenStat : Nat := 0x60070004
abbrev Reg.cenAdmit : Nat := 0x60070008
abbrev Reg.cenPeriod (i : Nat) : Nat := 0x60070010 + 4 * i
abbrev Reg.cenLoad (i : Nat) : Nat := 0x60070020 + 4 * i
abbrev Reg.cenOvr (i : Nat) : Nat := 0x60070030 + 4 * i
abbrev Reg.cenFtime (i : Nat) : Nat := 0x60070040 + 4 * i
abbrev Reg.cenFmax (i : Nat) : Nat := 0x60070050 + 4 * i
abbrev Reg.cenFcnt (i : Nat) : Nat := 0x60070060 + 4 * i
abbrev Reg.cenNslot (i : Nat) : Nat := 0x60070070 + 4 * i
abbrev Reg.cenTrcCfg (i : Nat) : Nat := 0x60070400 + 64 * i
abbrev Reg.cenTrcTrig (i : Nat) : Nat := 0x60070404 + 64 * i
abbrev Reg.cenTrcLevel (i : Nat) : Nat := 0x60070408 + 64 * i
abbrev Reg.cenTrcCtrl (i : Nat) : Nat := 0x6007040C + 64 * i
abbrev Reg.cenTrcStat (i : Nat) : Nat := 0x60070410 + 64 * i
abbrev Reg.cenTrcWptr (i : Nat) : Nat := 0x60070414 + 64 * i
abbrev Reg.cenTrcTpos (i : Nat) : Nat := 0x60070418 + 64 * i
abbrev Reg.cenTrcTtime (i : Nat) : Nat := 0x6007041C + 64 * i
abbrev Reg.cenTrcLost (i : Nat) : Nat := 0x60070420 + 64 * i
abbrev Reg.zonStat : Nat := 0x60080000
abbrev Reg.zonPinCfg (i : Nat) : Nat := 0x60080100 + 4 * i
abbrev Reg.zonPinCnt (i : Nat) : Nat := 0x60080300 + 4 * i
abbrev Reg.zonPinLast (i : Nat) : Nat := 0x60080500 + 4 * i
abbrev Reg.zonSlotmap (i j : Nat) : Nat := 0x60081000 + 64 * i + 4 * j
abbrev Reg.zonActmap (i j : Nat) : Nat := 0x60081020 + 64 * i + 4 * j
abbrev Reg.zonFanlmap (i : Nat) : Nat := 0x60081028 + 64 * i
abbrev Reg.zonPinmap (i j : Nat) : Nat := 0x6008102C + 64 * i + 4 * j
abbrev Reg.zonState (i : Nat) : Nat := 0x60081034 + 64 * i
abbrev Reg.zonHoldt (i : Nat) : Nat := 0x60081038 + 64 * i
abbrev Reg.actStat : Nat := 0x60090000
abbrev Reg.actRun : Nat := 0x60090004
abbrev Reg.actSafe : Nat := 0x60090008
abbrev Reg.actRelease : Nat := 0x6009000C
abbrev Reg.actEndf : Nat := 0x60090010
abbrev Reg.actFberr : Nat := 0x60090014
abbrev Reg.actnCfg (i : Nat) : Nat := 0x60090100 + 64 * i
abbrev Reg.actnCmd (i : Nat) : Nat := 0x60090104 + 64 * i
abbrev Reg.actnP1 (i : Nat) : Nat := 0x60090108 + 64 * i
abbrev Reg.actnP2 (i : Nat) : Nat := 0x6009010C + 64 * i
abbrev Reg.actnP3 (i : Nat) : Nat := 0x60090110 + 64 * i
abbrev Reg.actnSafecfg (i : Nat) : Nat := 0x60090114 + 64 * i
abbrev Reg.actnSafeval (i : Nat) : Nat := 0x60090118 + 64 * i
abbrev Reg.actnFb (i : Nat) : Nat := 0x6009011C + 64 * i
abbrev Reg.actnPos (i : Nat) : Nat := 0x60090120 + 64 * i
abbrev Reg.actnChstat (i : Nat) : Nat := 0x60090124 + 64 * i
abbrev Reg.actnStrokes (i : Nat) : Nat := 0x60090128 + 64 * i
abbrev Reg.fanStat : Nat := 0x600A0000
abbrev Reg.fanSupervise : Nat := 0x600A0004
abbrev Reg.fanRefresh : Nat := 0x600A0008
abbrev Reg.fanAutoExit : Nat := 0x600A000C
abbrev Reg.fanRun : Nat := 0x600A0010
abbrev Reg.fanClr : Nat := 0x600A0014
abbrev Reg.fanFault : Nat := 0x600A0018
abbrev Reg.fanAutof : Nat := 0x600A001C
abbrev Reg.fanShdnSel : Nat := 0x600A0020
abbrev Reg.fanShdnCtrl : Nat := 0x600A0024
abbrev Reg.fanShdnStat : Nat := 0x600A0028
abbrev Reg.fanShdnThr : Nat := 0x600A002C
abbrev Reg.fanfCfg (i : Nat) : Nat := 0x600A0100 + 64 * i
abbrev Reg.fanfMeas (i : Nat) : Nat := 0x600A0104 + 64 * i
abbrev Reg.fanfIlo (i : Nat) : Nat := 0x600A0108 + 64 * i
abbrev Reg.fanfIstall (i : Nat) : Nat := 0x600A010C + 64 * i
abbrev Reg.fanfDemen (i : Nat) : Nat := 0x600A0110 + 64 * i
abbrev Reg.fanfDutycmd (i : Nat) : Nat := 0x600A0114 + 64 * i
abbrev Reg.fanfAutoch (i : Nat) : Nat := 0x600A0118 + 64 * i
abbrev Reg.fanfChstat (i : Nat) : Nat := 0x600A011C + 64 * i
abbrev Reg.fanfRpm (i : Nat) : Nat := 0x600A0120 + 64 * i
abbrev Reg.fanfDemand (i : Nat) : Nat := 0x600A0124 + 64 * i
abbrev Reg.fanfTgt (i : Nat) : Nat := 0x600A0128 + 64 * i
abbrev Reg.fanfOntime (i : Nat) : Nat := 0x600A012C + 64 * i
abbrev Reg.fanDem (i : Nat) : Nat := 0x600A0800 + 4 * i
abbrev Reg.fanTabDem (i j : Nat) : Nat := 0x600A1000 + 64 * i + 8 * j
abbrev Reg.fanTabOut (i j : Nat) : Nat := 0x600A1004 + 64 * i + 8 * j
abbrev Reg.fanAutopt (i j : Nat) : Nat := 0x600A1400 + 32 * i + 4 * j
abbrev Reg.kpdCfg : Nat := 0x600B0000
abbrev Reg.kpdDeb : Nat := 0x600B0004
abbrev Reg.kpdStat : Nat := 0x600B0008
abbrev Reg.kpdCtrl : Nat := 0x600B000C
abbrev Reg.kpdLock : Nat := 0x600B0010
abbrev Reg.kpdLockcfg : Nat := 0x600B0014
abbrev Reg.kpdLockseq (i : Nat) : Nat := 0x600B0018 + 4 * i
abbrev Reg.kpdDrop : Nat := 0x600B0020
abbrev Reg.kpdPresscnt : Nat := 0x600B0024
abbrev Reg.kpdKeys (i : Nat) : Nat := 0x600B0040 + 4 * i
abbrev Reg.kpdMask (i : Nat) : Nat := 0x600B0060 + 4 * i
abbrev Reg.encCfg (i : Nat) : Nat := 0x600B0100 + 32 * i
abbrev Reg.encCnt (i : Nat) : Nat := 0x600B0104 + 32 * i
abbrev Reg.encStat (i : Nat) : Nat := 0x600B0108 + 32 * i
abbrev Reg.encErr (i : Nat) : Nat := 0x600B010C + 32 * i
abbrev Reg.rtcSec : Nat := 0x600C0000
abbrev Reg.rtcMin : Nat := 0x600C0004
abbrev Reg.rtcHour : Nat := 0x600C0008
abbrev Reg.rtcDate : Nat := 0x600C000C
abbrev Reg.rtcWday : Nat := 0x600C0010
abbrev Reg.rtcMonth : Nat := 0x600C0014
abbrev Reg.rtcYear : Nat := 0x600C0018
abbrev Reg.rtcCent : Nat := 0x600C001C
abbrev Reg.rtcCtrl : Nat := 0x600C0020
abbrev Reg.rtcStat : Nat := 0x600C0024
abbrev Reg.rtcAdj : Nat := 0x600C0028
abbrev Reg.rtcHaltticks : Nat := 0x600C002C
abbrev Reg.rtcSnap : Nat := 0x600C0030
abbrev Reg.rtcSubsec : Nat := 0x600C0034
abbrev Reg.rtcTrim : Nat := 0x600C0038
abbrev Reg.rtcTcomp : Nat := 0x600C003C
abbrev Reg.rtcAlm0T : Nat := 0x600C0040
abbrev Reg.rtcAlm0D : Nat := 0x600C0044
abbrev Reg.rtcAlm1T : Nat := 0x600C0048
abbrev Reg.rtcAlm1D : Nat := 0x600C004C
abbrev Reg.rtcMeasCfg : Nat := 0x600C0050
abbrev Reg.rtcMeasCntLo : Nat := 0x600C0054
abbrev Reg.rtcMeasCntHi : Nat := 0x600C0058
abbrev Reg.rtcMeasN : Nat := 0x600C005C
abbrev Reg.rtcEpoch : Nat := 0x600C0060
abbrev Reg.rtcBeaconEpoch : Nat := 0x600C0064
abbrev Reg.rtcBeaconSub : Nat := 0x600C0068
abbrev Reg.knbStat : Nat := 0x600D0000
abbrev Reg.knbCtrl : Nat := 0x600D0004
abbrev Reg.knbJstat : Nat := 0x600D0008
abbrev Reg.knbCommit : Nat := 0x600D000C
abbrev Reg.knbJseq : Nat := 0x600D0010
abbrev Reg.knbCntinc : Nat := 0x600D0014
abbrev Reg.knbCntsel : Nat := 0x600D0018
abbrev Reg.knbCntvalLo : Nat := 0x600D0020
abbrev Reg.knbCntvalHi : Nat := 0x600D0024
abbrev Reg.knbCntbad : Nat := 0x600D0028
abbrev Reg.knbScan : Nat := 0x600D002C
abbrev Reg.knbSpares : Nat := 0x600D0030
abbrev Reg.knbWeakcnt : Nat := 0x600D0034
abbrev Reg.knbJmap (i : Nat) : Nat := 0x600D0100 + 4 * i
abbrev Reg.knbBuf (i j : Nat) : Nat := 0x600D1000 + 64 * i + 4 * j
abbrev Reg.netCtrl : Nat := 0x600E0000
abbrev Reg.netAddr : Nat := 0x600E0004
abbrev Reg.netSeq : Nat := 0x600E0008
abbrev Reg.netStat : Nat := 0x600E000C
abbrev Reg.netMdio : Nat := 0x600E0010
abbrev Reg.netNotlost : Nat := 0x600E0014
abbrev Reg.netMdioCfg : Nat := 0x600E0018
abbrev Reg.netpCfg (i : Nat) : Nat := 0x600E0100 + 256 * i
abbrev Reg.netpPlca (i : Nat) : Nat := 0x600E0104 + 256 * i
abbrev Reg.netpBtmr (i : Nat) : Nat := 0x600E0108 + 256 * i
abbrev Reg.netpStat (i : Nat) : Nat := 0x600E010C + 256 * i
abbrev Reg.netpTxfrm (i : Nat) : Nat := 0x600E0110 + 256 * i
abbrev Reg.netpRxfrm (i : Nat) : Nat := 0x600E0114 + 256 * i
abbrev Reg.netpRxdrop (i : Nat) : Nat := 0x600E0118 + 256 * i
abbrev Reg.netpFcserr (i : Nat) : Nat := 0x600E011C + 256 * i
abbrev Reg.netpAutherr (i : Nat) : Nat := 0x600E0120 + 256 * i
abbrev Reg.netpDup (i : Nat) : Nat := 0x600E0124 + 256 * i
abbrev Reg.netpStale (i : Nat) : Nat := 0x600E0128 + 256 * i
abbrev Reg.netpCol (i : Nat) : Nat := 0x600E012C + 256 * i
abbrev Reg.odxStat : Nat := 0x600F0000
abbrev Reg.odxHwm : Nat := 0x600F0004
abbrev Reg.odxBusycnt : Nat := 0x600F0008
abbrev Reg.odxHeat : Nat := 0x600F000C
abbrev Reg.odxHdigLo : Nat := 0x600F0010
abbrev Reg.odxHdigHi : Nat := 0x600F0014
abbrev Reg.odxSdigLo : Nat := 0x600F0018
abbrev Reg.odxSdigHi : Nat := 0x600F001C
abbrev Reg.twnCtrl : Nat := 0x60100000
abbrev Reg.twnStat : Nat := 0x60100004
abbrev Reg.twnKick : Nat := 0x60100008
abbrev Reg.twnDivband : Nat := 0x6010000C
abbrev Reg.twnConvband : Nat := 0x60100010
abbrev Reg.twnConvn : Nat := 0x60100014
abbrev Reg.twnSwap : Nat := 0x60100018
abbrev Reg.twnGraftcnt : Nat := 0x60100020
abbrev Reg.twnLatecnt : Nat := 0x60100024
abbrev Reg.twnLinkerr : Nat := 0x60100028
abbrev Reg.twnTakeovers : Nat := 0x6010002C
abbrev Reg.twnAlign : Nat := 0x60100030
abbrev Reg.twnPeerheat : Nat := 0x60100034
abbrev Reg.twnDivmap (i : Nat) : Nat := 0x60100080 + 4 * i
abbrev Reg.thmStat : Nat := 0x60110000
abbrev Reg.thmTj : Nat := 0x60110004
abbrev Reg.thmExcl : Nat := 0x60110008
abbrev Reg.thmVreftrim : Nat := 0x6011000C
abbrev Reg.thmLvlcnt : Nat := 0x60110010
abbrev Reg.thmDts (i : Nat) : Nat := 0x60110020 + 4 * i
abbrev Reg.tboCtrl : Nat := 0x60120000
abbrev Reg.tboStat : Nat := 0x60120004
abbrev Reg.tboTbcountLo : Nat := 0x60120008
abbrev Reg.tboTbcountHi : Nat := 0x6012000C
abbrev Reg.tboTrim : Nat := 0x60120010
abbrev Reg.tboTtab (i : Nat) : Nat := 0x60120020 + 4 * i
abbrev Reg.sbusStat : Nat := 0x60130000
abbrev Reg.sbCfg (i : Nat) : Nat := 0x60130100 + 256 * i
abbrev Reg.sbCmd (i : Nat) : Nat := 0x60130104 + 256 * i
abbrev Reg.sbStat (i : Nat) : Nat := 0x60130108 + 256 * i
abbrev Reg.sbTx (i j : Nat) : Nat := 0x60130110 + 256 * i + 4 * j
abbrev Reg.sbRx (i j : Nat) : Nat := 0x60130130 + 256 * i + 4 * j

def RegRow.sys : List RegRow := [
  { name := "SYS_ID", base := 0x60000000, n1 := 1, s1 := 4, n2 := 1, s2 := 4, reset := [0x0], rw := 0x0, w1c := 0x0, rc := false },
  { name := "SYS_UNITS", base := 0x60000004, n1 := 1, s1 := 4, n2 := 1, s2 := 4, reset := [0x0], rw := 0x0, w1c := 0x0, rc := false },
  { name := "SYS_STATUS", base := 0x60000008, n1 := 1, s1 := 4, n2 := 1, s2 := 4, reset := [0x0], rw := 0x0, w1c := 0xF, rc := false },
  { name := "SYS_HITADDR", base := 0x6000000C, n1 := 1, s1 := 4, n2 := 1, s2 := 4, reset := [0x0], rw := 0x0, w1c := 0x0, rc := false },
  { name := "SYS_SERIAL_LO", base := 0x60000010, n1 := 1, s1 := 4, n2 := 1, s2 := 4, reset := [0x0], rw := 0x0, w1c := 0x0, rc := false },
  { name := "SYS_SERIAL_HI", base := 0x60000014, n1 := 1, s1 := 4, n2 := 1, s2 := 4, reset := [0x0], rw := 0x0, w1c := 0x0, rc := false },
  { name := "SYS_RAMSTAT", base := 0x60000018, n1 := 1, s1 := 4, n2 := 1, s2 := 4, reset := [0x0], rw := 0x0, w1c := 0xFF, rc := false },
  { name := "SYS_OWN", base := 0x60000020, n1 := 1, s1 := 4, n2 := 1, s2 := 4, reset := [0x0], rw := 0x0, w1c := 0x0, rc := false }]

def RegRow.pwr : List RegRow := [
  { name := "PWR_STAT", base := 0x60010000, n1 := 1, s1 := 4, n2 := 1, s2 := 4, reset := [0x0], rw := 0x0, w1c := 0x0, rc := false },
  { name := "PWR_RSTCAUSE", base := 0x60010004, n1 := 1, s1 := 4, n2 := 1, s2 := 4, reset := [0x1], rw := 0x0, w1c := 0x0, rc := false },
  { name := "PWR_STRAP", base := 0x60010008, n1 := 1, s1 := 4, n2 := 1, s2 := 4, reset := [0x0], rw := 0x0, w1c := 0x0, rc := false },
  { name := "PWR_CTRL", base := 0x6001000C, n1 := 1, s1 := 4, n2 := 1, s2 := 4, reset := [0x0], rw := 0x1, w1c := 0x0, rc := false },
  { name := "PWR_WAKE", base := 0x60010010, n1 := 1, s1 := 4, n2 := 1, s2 := 4, reset := [0x1], rw := 0x3F, w1c := 0x0, rc := false },
  { name := "PWR_RETAIN", base := 0x60010014, n1 := 1, s1 := 4, n2 := 1, s2 := 4, reset := [0xFF], rw := 0xFF, w1c := 0x0, rc := false },
  { name := "PWR_WDOG", base := 0x60010018, n1 := 1, s1 := 4, n2 := 1, s2 := 4, reset := [0x3E8], rw := 0x3FFF, w1c := 0x0, rc := false },
  { name := "PWR_WDKICK", base := 0x6001001C, n1 := 1, s1 := 4, n2 := 1, s2 := 4, reset := [0x0], rw := 0xFFFFFFFF, w1c := 0x0, rc := false },
  { name := "PWR_POUR", base := 0x60010020, n1 := 1, s1 := 4, n2 := 1, s2 := 4, reset := [0x0], rw := 0x0, w1c := 0x40, rc := false },
  { name := "PWR_POURNEXT", base := 0x60010024, n1 := 1, s1 := 4, n2 := 1, s2 := 4, reset := [0xFFFFFFFF], rw := 0x0, w1c := 0x0, rc := false },
  { name := "PWR_SHAKE", base := 0x60010028, n1 := 1, s1 := 4, n2 := 1, s2 := 4, reset := [0x1], rw := 0x0, w1c := 0x0, rc := false }]

def RegRow.hst : List RegRow := [
  { name := "HST_STAT", base := 0x60020000, n1 := 1, s1 := 4, n2 := 1, s2 := 4, reset := [0x0], rw := 0x0, w1c := 0x7, rc := false },
  { name := "HST_COLLADDR", base := 0x60020004, n1 := 1, s1 := 4, n2 := 1, s2 := 4, reset := [0x0], rw := 0x0, w1c := 0x0, rc := false },
  { name := "HST_DOORBELL", base := 0x60020008, n1 := 1, s1 := 4, n2 := 1, s2 := 4, reset := [0x0], rw := 0x0, w1c := 0x0, rc := false },
  { name := "HST_HERR", base := 0x6002000C, n1 := 1, s1 := 4, n2 := 1, s2 := 4, reset := [0x0], rw := 0x0, w1c := 0x1FF, rc := false },
  { name := "HST_SCRATCH", base := 0x60020010, n1 := 1, s1 := 4, n2 := 1, s2 := 4, reset := [0x0], rw := 0xFFFFFFFF, w1c := 0x0, rc := false },
  { name := "HST_BUSYCNT", base := 0x60020014, n1 := 1, s1 := 4, n2 := 1, s2 := 4, reset := [0x0], rw := 0x0, w1c := 0x0, rc := false },
  { name := "HST_CMDCNT", base := 0x60020018, n1 := 1, s1 := 4, n2 := 1, s2 := 4, reset := [0x0], rw := 0x0, w1c := 0x0, rc := false }]

def RegRow.evt : List RegRow := [
  { name := "EVT_PEND_LO", base := 0x60030000, n1 := 1, s1 := 4, n2 := 1, s2 := 4, reset := [0x0], rw := 0x0, w1c := 0xFFFFFFFF, rc := false },
  { name := "EVT_MASK_CORE_LO", base := 0x60030008, n1 := 1, s1 := 4, n2 := 1, s2 := 4, reset := [0x0], rw := 0xFFFFFFFF, w1c := 0x0, rc := false },
  { name := "EVT_MASK_HOST_LO", base := 0x60030010, n1 := 1, s1 := 4, n2 := 1, s2 := 4, reset := [0x0], rw := 0xFFFFFFFF, w1c := 0x0, rc := false },
  { name := "EVT_CLR_LO", base := 0x60030018, n1 := 1, s1 := 4, n2 := 1, s2 := 4, reset := [0x0], rw := 0xFFFFFFFF, w1c := 0x0, rc := false },
  { name := "EVT_HPEND_LO", base := 0x60030020, n1 := 1, s1 := 4, n2 := 1, s2 := 4, reset := [0x0], rw := 0x0, w1c := 0x0, rc := false },
  { name := "EVT_PEND_HI", base := 0x60030004, n1 := 1, s1 := 4, n2 := 1, s2 := 4, reset := [0x0], rw := 0x0, w1c := 0xFFFFFFFF, rc := false },
  { name := "EVT_MASK_CORE_HI", base := 0x6003000C, n1 := 1, s1 := 4, n2 := 1, s2 := 4, reset := [0x0], rw := 0xFFFFFFFF, w1c := 0x0, rc := false },
  { name := "EVT_MASK_HOST_HI", base := 0x60030014, n1 := 1, s1 := 4, n2 := 1, s2 := 4, reset := [0x0], rw := 0xFFFFFFFF, w1c := 0x0, rc := false },
  { name := "EVT_CLR_HI", base := 0x6003001C, n1 := 1, s1 := 4, n2 := 1, s2 := 4, reset := [0x0], rw := 0xFFFFFFFF, w1c := 0x0, rc := false },
  { name := "EVT_HPEND_HI", base := 0x60030024, n1 := 1, s1 := 4, n2 := 1, s2 := 4, reset := [0x0], rw := 0x0, w1c := 0x0, rc := false },
  { name := "EVT_SOFT", base := 0x60030028, n1 := 1, s1 := 4, n2 := 1, s2 := 4, reset := [0x0], rw := 0x3, w1c := 0x0, rc := false },
  { name := "EVT_NEXT", base := 0x6003002C, n1 := 1, s1 := 4, n2 := 1, s2 := 4, reset := [0x0], rw := 0x0, w1c := 0x0, rc := false },
  { name := "EVT_PRIO", base := 0x60030030, n1 := 4, s1 := 4, n2 := 1, s2 := 4, reset := [0x0], rw := 0xFFFFFFFF, w1c := 0x0, rc := false },
  { name := "EVT_TYPE_LO", base := 0x60030040, n1 := 1, s1 := 4, n2 := 1, s2 := 4, reset := [0x0], rw := 0x0, w1c := 0x0, rc := false },
  { name := "EVT_TYPE_HI", base := 0x60030044, n1 := 1, s1 := 4, n2 := 1, s2 := 4, reset := [0x0], rw := 0x0, w1c := 0x0, rc := false }]

def RegRow.rng : List RegRow := [
  { name := "RNG_STAT_NE", base := 0x60040000, n1 := 1, s1 := 4, n2 := 1, s2 := 4, reset := [0x0], rw := 0x0, w1c := 0x0, rc := false },
  { name := "RNG_STAT_FULL", base := 0x60040004, n1 := 1, s1 := 4, n2 := 1, s2 := 4, reset := [0x0], rw := 0x0, w1c := 0x0, rc := false },
  { name := "RNG_DROPF", base := 0x60040008, n1 := 1, s1 := 4, n2 := 1, s2 := 4, reset := [0x0], rw := 0x0, w1c := 0xFFFFFFFF, rc := false },
  { name := "RNG_ERR", base := 0x6004000C, n1 := 1, s1 := 4, n2 := 1, s2 := 4, reset := [0x0], rw := 0x0, w1c := 0x80000000, rc := false },
  { name := "RNG_BASE", base := 0x60040100, n1 := 32, s1 := 32, n2 := 1, s2 := 4, reset := [0x0], rw := 0xFFFFFFFC, w1c := 0x0, rc := false },
  { name := "RNG_CFG", base := 0x60040104, n1 := 32, s1 := 32, n2 := 1, s2 := 4, reset := [0x0], rw := 0xFFF, w1c := 0x0, rc := false },
  { name := "RNG_HEAD", base := 0x60040108, n1 := 32, s1 := 32, n2 := 1, s2 := 4, reset := [0x0], rw := 0xFFFF, w1c := 0x0, rc := false },
  { name := "RNG_TAIL", base := 0x6004010C, n1 := 32, s1 := 32, n2 := 1, s2 := 4, reset := [0x0], rw := 0xFFFF, w1c := 0x0, rc := false },
  { name := "RNG_DROP", base := 0x60040110, n1 := 32, s1 := 32, n2 := 1, s2 := 4, reset := [0x0], rw := 0x0, w1c := 0x0, rc := true }]

def RegRow.ldl : List RegRow := [
  { name := "LDL_STAT", base := 0x60050000, n1 := 1, s1 := 4, n2 := 1, s2 := 4, reset := [0x0], rw := 0x0, w1c := 0x5, rc := false },
  { name := "LDL_BUSERRCNT", base := 0x60050004, n1 := 1, s1 := 4, n2 := 1, s2 := 4, reset := [0x0], rw := 0x0, w1c := 0x0, rc := true },
  { name := "LDL_TRANSCNT", base := 0x60050008, n1 := 1, s1 := 4, n2 := 1, s2 := 4, reset := [0x0], rw := 0x0, w1c := 0x0, rc := true },
  { name := "LDL_SLAGCNT", base := 0x6005000C, n1 := 1, s1 := 4, n2 := 1, s2 := 4, reset := [0x0], rw := 0x0, w1c := 0x0, rc := true },
  { name := "LDL_ERRADDR", base := 0x60050010, n1 := 1, s1 := 4, n2 := 1, s2 := 4, reset := [0x0], rw := 0x0, w1c := 0x0, rc := false },
  { name := "LDL_REGION_BASE", base := 0x60050040, n1 := 8, s1 := 16, n2 := 1, s2 := 4, reset := [0x0], rw := 0xFFFFFFE0, w1c := 0x0, rc := false },
  { name := "LDL_REGION_LIMIT", base := 0x60050044, n1 := 8, s1 := 16, n2 := 1, s2 := 4, reset := [0x0], rw := 0xFFFFFFE0, w1c := 0x0, rc := false },
  { name := "LDL_REGION_PERM", base := 0x60050048, n1 := 8, s1 := 16, n2 := 1, s2 := 4, reset := [0x0], rw := 0x7, w1c := 0x0, rc := false },
  { name := "LDL_CH_CTRL", base := 0x60050100, n1 := 16, s1 := 64, n2 := 1, s2 := 4, reset := [0x0], rw := 0x72, w1c := 0x0, rc := false },
  { name := "LDL_CH_FIRST", base := 0x60050104, n1 := 16, s1 := 64, n2 := 1, s2 := 4, reset := [0x0], rw := 0xFFFFFFE0, w1c := 0x0, rc := false },
  { name := "LDL_CH_DOORBELL", base := 0x60050108, n1 := 16, s1 := 64, n2 := 1, s2 := 4, reset := [0x0], rw := 0xFFFFFFFF, w1c := 0x0, rc := false },
  { name := "LDL_CH_STAT", base := 0x6005010C, n1 := 16, s1 := 64, n2 := 1, s2 := 4, reset := [0x0], rw := 0x0, w1c := 0x70, rc := false },
  { name := "LDL_CH_DONE", base := 0x60050110, n1 := 16, s1 := 64, n2 := 1, s2 := 4, reset := [0x0], rw := 0x0, w1c := 0x0, rc := false },
  { name := "LDL_CH_CUR", base := 0x60050114, n1 := 16, s1 := 64, n2 := 1, s2 := 4, reset := [0x0], rw := 0x0, w1c := 0x0, rc := false },
  { name := "LDL_CH_CUR_SRC", base := 0x60050118, n1 := 16, s1 := 64, n2 := 1, s2 := 4, reset := [0x0], rw := 0x0, w1c := 0x0, rc := false },
  { name := "LDL_CH_CUR_DST", base := 0x6005011C, n1 := 16, s1 := 64, n2 := 1, s2 := 4, reset := [0x0], rw := 0x0, w1c := 0x0, rc := false },
  { name := "LDL_CH_REMAIN", base := 0x60050120, n1 := 16, s1 := 64, n2 := 1, s2 := 4, reset := [0x0], rw := 0x0, w1c := 0x0, rc := false },
  { name := "LDL_CH_PCKSUM", base := 0x60050124, n1 := 16, s1 := 64, n2 := 1, s2 := 4, reset := [0x0], rw := 0x0, w1c := 0x0, rc := false },
  { name := "LDL_CH_DESCCNT", base := 0x60050128, n1 := 16, s1 := 64, n2 := 1, s2 := 4, reset := [0x0], rw := 0x0, w1c := 0x0, rc := false }]

def RegRow.acq : List RegRow := [
  { name := "ACQ_CTRL", base := 0x60060000, n1 := 1, s1 := 4, n2 := 1, s2 := 4, reset := [0x0], rw := 0x1, w1c := 0x0, rc := false },
  { name := "ACQ_CFG", base := 0x60060004, n1 := 1, s1 := 4, n2 := 1, s2 := 4, reset := [0x2001], rw := 0xFF03, w1c := 0x0, rc := false },
  { name := "ACQ_STAT", base := 0x60060008, n1 := 1, s1 := 4, n2 := 1, s2 := 4, reset := [0x0], rw := 0x0, w1c := 0x4, rc := false },
  { name := "ACQ_SEQ_LEN", base := 0x6006000C, n1 := 1, s1 := 4, n2 := 1, s2 := 4, reset := [0x1], rw := 0x1FF, w1c := 0x0, rc := false },
  { name := "ACQ_ALIGN", base := 0x60060010, n1 := 1, s1 := 4, n2 := 1, s2 := 4, reset := [0x0], rw := 0x1FFFFF, w1c := 0x0, rc := false },
  { name := "ACQ_PHASE", base := 0x60060014, n1 := 1, s1 := 4, n2 := 1, s2 := 4, reset := [0x0], rw := 0xFFFFF, w1c := 0x0, rc := false },
  { name := "ACQ_PASSCNT", base := 0x60060018, n1 := 1, s1 := 4, n2 := 1, s2 := 4, reset := [0x0], rw := 0x0, w1c := 0x0, rc := false },
  { name := "ACQ_DIFF", base := 0x6006001C, n1 := 1, s1 := 4, n2 := 1, s2 := 4, reset := [0x0], rw := 0xFFFFFFFF, w1c := 0x0, rc := false },
  { name := "ACQ_CAL", base := 0x60060020, n1 := 1, s1 := 4, n2 := 1, s2 := 4, reset := [0x0], rw := 0x0, w1c := 0x0, rc := false },
  { name := "ACQ_CLIPCNT", base := 0x60060024, n1 := 1, s1 := 4, n2 := 1, s2 := 4, reset := [0x0], rw := 0x0, w1c := 0x0, rc := true },
  { name := "ACQ_SKIPCNT", base := 0x60060028, n1 := 1, s1 := 4, n2 := 1, s2 := 4, reset := [0x0], rw := 0x0, w1c := 0x0, rc := true },
  { name := "ACQ_GUARD", base := 0x60060030, n1 := 3, s1 := 4, n2 := 1, s2 := 4, reset := [0x0], rw := 0x0, w1c := 0x0, rc := false },
  { name := "ACQ_SLICE_CORR", base := 0x60060040, n1 := 4, s1 := 8, n2 := 1, s2 := 4, reset := [0x80000000], rw := 0xFFFFFFFF, w1c := 0x0, rc := false },
  { name := "ACQ_SLICE_SKEW", base := 0x60060044, n1 := 4, s1 := 8, n2 := 1, s2 := 4, reset := [0x0], rw := 0xFF, w1c := 0x0, rc := false },
  { name := "ACQ_SLICE_NOPAIR", base := 0x60060060, n1 := 4, s1 := 4, n2 := 1, s2 := 4, reset := [0x0], rw := 0x0, w1c := 0x0, rc := false },
  { name := "ACQ_SEQ_W0", base := 0x60061000, n1 := 256, s1 := 8, n2 := 1, s2 := 4, reset := [0x0], rw := 0x3FFFFF7F, w1c := 0x0, rc := false },
  { name := "ACQ_SEQ_W1", base := 0x60061004, n1 := 256, s1 := 8, n2 := 1, s2 := 4, reset := [0x0], rw := 0x7F7FFF, w1c := 0x0, rc := false },
  { name := "DEC_CFG", base := 0x60062000, n1 := 88, s1 := 32, n2 := 1, s2 := 4, reset := [0x100], rw := 0xF7F, w1c := 0x0, rc := false },
  { name := "DEC_GAIN", base := 0x60062004, n1 := 88, s1 := 32, n2 := 1, s2 := 4, reset := [0x10000], rw := 0xFFFFFFFF, w1c := 0x0, rc := false },
  { name := "DEC_OFFSET", base := 0x60062008, n1 := 88, s1 := 32, n2 := 1, s2 := 4, reset := [0x0], rw := 0xFFFFFFFF, w1c := 0x0, rc := false },
  { name := "CMP_LO", base := 0x6006200C, n1 := 88, s1 := 32, n2 := 1, s2 := 4, reset := [0x0], rw := 0xFFFFFFFF, w1c := 0x0, rc := false },
  { name := "CMP_MID", base := 0x60062010, n1 := 88, s1 := 32, n2 := 1, s2 := 4, reset := [0x0], rw := 0xFFFFFFFF, w1c := 0x0, rc := false },
  { name := "CMP_HI", base := 0x60062014, n1 := 88, s1 := 32, n2 := 1, s2 := 4, reset := [0x0], rw := 0xFFFFFFFF, w1c := 0x0, rc := false },
  { name := "CMP_HYST", base := 0x60062018, n1 := 88, s1 := 32, n2 := 1, s2 := 4, reset := [0x0], rw := 0xFFFFFFFF, w1c := 0x0, rc := false },
  { name := "ACQ_LIN", base := 0x60064000, n1 := 8, s1 := 256, n2 := 33, s2 := 4, reset := [0x0], rw := 0xFFFFFFFF, w1c := 0x0, rc := false }]

def RegRow.cen : List RegRow := [
  { name := "CEN_CTRL", base := 0x60070000, n1 := 1, s1 := 4, n2 := 1, s2 := 4, reset := [0x0], rw := 0x1, w1c := 0x0, rc := false },
  { name := "CEN_STAT", base := 0x60070004, n1 := 1, s1 := 4, n2 := 1, s2 := 4, reset := [0x0], rw := 0x0, w1c := 0xF00, rc := false },
  { name := "CEN_ADMIT", base := 0x60070008, n1 := 1, s1 := 4, n2 := 1, s2 := 4, reset := [0x0], rw := 0x0, w1c := 0x0, rc := false },
  { name := "CEN_PERIOD", base := 0x60070010, n1 := 4, s1 := 4, n2 := 1, s2 := 4, reset := [0x4, 0x28, 0xFA0, 0x3A980], rw := 0x1FFFFF, w1c := 0x0, rc := false },
  { name := "CEN_LOAD", base := 0x60070020, n1 := 4, s1 := 4, n2 := 1, s2 := 4, reset := [0x0], rw := 0x0, w1c := 0x0, rc := false },
  { name := "CEN_OVR", base := 0x60070030, n1 := 4, s1 := 4, n2 := 1, s2 := 4, reset := [0x0], rw := 0x0, w1c := 0x0, rc := true },
  { name := "CEN_FTIME", base := 0x60070040, n1 := 4, s1 := 4, n2 := 1, s2 := 4, reset := [0x0], rw := 0x0, w1c := 0x0, rc := false },
  { name := "CEN_FMAX", base := 0x60070050, n1 := 4, s1 := 4, n2 := 1, s2 := 4, reset := [0x0], rw := 0x0, w1c := 0x0, rc := true },
  { name := "CEN_FCNT", base := 0x60070060, n1 := 4, s1 := 4, n2 := 1, s2 := 4, reset := [0x0], rw := 0x0, w1c := 0x0, rc := false },
  { name := "CEN_NSLOT", base := 0x60070070, n1 := 4, s1 := 4, n2 := 1, s2 := 4, reset := [0x0], rw := 0x0, w1c := 0x0, rc := false },
  { name := "CEN_TRC_CFG", base := 0x60070400, n1 := 4, s1 := 64, n2 := 1, s2 := 4, reset := [0x10000], rw := 0x3FFF3FF, w1c := 0x0, rc := false },
  { name := "CEN_TRC_TRIG", base := 0x60070404, n1 := 4, s1 := 64, n2 := 1, s2 := 4, reset := [0x0], rw := 0xFFF3F07, w1c := 0x0, rc := false },
  { name := "CEN_TRC_LEVEL", base := 0x60070408, n1 := 4, s1 := 64, n2 := 1, s2 := 4, reset := [0x0], rw := 0xFFFFFFFF, w1c := 0x0, rc := false },
  { name := "CEN_TRC_CTRL", base := 0x6007040C, n1 := 4, s1 := 64, n2 := 1, s2 := 4, reset := [0x0], rw := 0x7, w1c := 0x0, rc := false },
  { name := "CEN_TRC_STAT", base := 0x60070410, n1 := 4, s1 := 64, n2 := 1, s2 := 4, reset := [0x0], rw := 0x0, w1c := 0x2C, rc := false },
  { name := "CEN_TRC_WPTR", base := 0x60070414, n1 := 4, s1 := 64, n2 := 1, s2 := 4, reset := [0x0], rw := 0x0, w1c := 0x0, rc := false },
  { name := "CEN_TRC_TPOS", base := 0x60070418, n1 := 4, s1 := 64, n2 := 1, s2 := 4, reset := [0x0], rw := 0x0, w1c := 0x0, rc := false },
  { name := "CEN_TRC_TTIME", base := 0x6007041C, n1 := 4, s1 := 64, n2 := 1, s2 := 4, reset := [0x0], rw := 0x0, w1c := 0x0, rc := false },
  { name := "CEN_TRC_LOST", base := 0x60070420, n1 := 4, s1 := 64, n2 := 1, s2 := 4, reset := [0x0], rw := 0x0, w1c := 0x0, rc := true }]

def RegRow.zon : List RegRow := [
  { name := "ZON_STAT", base := 0x60080000, n1 := 1, s1 := 4, n2 := 1, s2 := 4, reset := [0x0], rw := 0x0, w1c := 0x1, rc := false },
  { name := "ZON_PIN_CFG", base := 0x60080100, n1 := 128, s1 := 4, n2 := 1, s2 := 4, reset := [0x1000], rw := 0xFFFF, w1c := 0x0, rc := false },
  { name := "ZON_PIN_CNT", base := 0x60080300, n1 := 128, s1 := 4, n2 := 1, s2 := 4, reset := [0x0], rw := 0x0, w1c := 0x0, rc := true },
  { name := "ZON_PIN_LAST", base := 0x60080500, n1 := 128, s1 := 4, n2 := 1, s2 := 4, reset := [0x0], rw := 0x0, w1c := 0x0, rc := false },
  { name := "ZON_SLOTMAP", base := 0x60081000, n1 := 64, s1 := 64, n2 := 8, s2 := 4, reset := [0x0], rw := 0x83FF83FF, w1c := 0x0, rc := false },
  { name := "ZON_ACTMAP", base := 0x60081020, n1 := 64, s1 := 64, n2 := 2, s2 := 4, reset := [0x0], rw := 0x9F9F9F9F, w1c := 0x0, rc := false },
  { name := "ZON_FANLMAP", base := 0x60081028, n1 := 64, s1 := 64, n2 := 1, s2 := 4, reset := [0x0], rw := 0xFFFFFFFF, w1c := 0x0, rc := false },
  { name := "ZON_PINMAP", base := 0x6008102C, n1 := 64, s1 := 64, n2 := 2, s2 := 4, reset := [0x0], rw := 0xFFFFFFFF, w1c := 0x0, rc := false },
  { name := "ZON_STATE", base := 0x60081034, n1 := 64, s1 := 64, n2 := 1, s2 := 4, reset := [0x0], rw := 0xFF0F, w1c := 0x0, rc := false },
  { name := "ZON_HOLDT", base := 0x60081038, n1 := 64, s1 := 64, n2 := 1, s2 := 4, reset := [0x0], rw := 0xFFFFFFFF, w1c := 0x0, rc := false }]

def RegRow.act : List RegRow := [
  { name := "ACT_STAT", base := 0x60090000, n1 := 1, s1 := 4, n2 := 1, s2 := 4, reset := [0x0], rw := 0x0, w1c := 0x2, rc := false },
  { name := "ACT_RUN", base := 0x60090004, n1 := 1, s1 := 4, n2 := 1, s2 := 4, reset := [0x0], rw := 0xFFFFFFFF, w1c := 0x0, rc := false },
  { name := "ACT_SAFE", base := 0x60090008, n1 := 1, s1 := 4, n2 := 1, s2 := 4, reset := [0x0], rw := 0x0, w1c := 0x0, rc := false },
  { name := "ACT_RELEASE", base := 0x6009000C, n1 := 1, s1 := 4, n2 := 1, s2 := 4, reset := [0x0], rw := 0xFFFFFFFF, w1c := 0x0, rc := false },
  { name := "ACT_ENDF", base := 0x60090010, n1 := 1, s1 := 4, n2 := 1, s2 := 4, reset := [0x0], rw := 0x0, w1c := 0xFFFFFFFF, rc := false },
  { name := "ACT_FBERR", base := 0x60090014, n1 := 1, s1 := 4, n2 := 1, s2 := 4, reset := [0x0], rw := 0x0, w1c := 0xFFFFFFFF, rc := false },
  { name := "ACTn_CFG", base := 0x60090100, n1 := 32, s1 := 64, n2 := 1, s2 := 4, reset := [0x0], rw := 0x7F, w1c := 0x0, rc := false },
  { name := "ACTn_CMD", base := 0x60090104, n1 := 32, s1 := 64, n2 := 1, s2 := 4, reset := [0x0], rw := 0xFFFFFFFF, w1c := 0x0, rc := false },
  { name := "ACTn_P1", base := 0x60090108, n1 := 32, s1 := 64, n2 := 1, s2 := 4, reset := [0x0], rw := 0x1FFFFF, w1c := 0x0, rc := false },
  { name := "ACTn_P2", base := 0x6009010C, n1 := 32, s1 := 64, n2 := 1, s2 := 4, reset := [0x0], rw := 0x7FFFFFFF, w1c := 0x0, rc := false },
  { name := "ACTn_P3", base := 0x60090110, n1 := 32, s1 := 64, n2 := 1, s2 := 4, reset := [0x0], rw := 0x3FF, w1c := 0x0, rc := false },
  { name := "ACTn_SAFECFG", base := 0x60090114, n1 := 32, s1 := 64, n2 := 1, s2 := 4, reset := [0x2], rw := 0xFFFF0003, w1c := 0x0, rc := false },
  { name := "ACTn_SAFEVAL", base := 0x60090118, n1 := 32, s1 := 64, n2 := 1, s2 := 4, reset := [0x0], rw := 0xFFFFFFFF, w1c := 0x0, rc := false },
  { name := "ACTn_FB", base := 0x6009011C, n1 := 32, s1 := 64, n2 := 1, s2 := 4, reset := [0x0], rw := 0xFFFF01FF, w1c := 0x0, rc := false },
  { name := "ACTn_POS", base := 0x60090120, n1 := 32, s1 := 64, n2 := 1, s2 := 4, reset := [0x0], rw := 0xFFFFFFFF, w1c := 0x0, rc := false },
  { name := "ACTn_CHSTAT", base := 0x60090124, n1 := 32, s1 := 64, n2 := 1, s2 := 4, reset := [0x400], rw := 0x0, w1c := 0x80, rc := false },
  { name := "ACTn_STROKES", base := 0x60090128, n1 := 32, s1 := 64, n2 := 1, s2 := 4, reset := [0x0], rw := 0x0, w1c := 0x0, rc := false }]

def RegRow.fan : List RegRow := [
  { name := "FAN_STAT", base := 0x600A0000, n1 := 1, s1 := 4, n2 := 1, s2 := 4, reset := [0x0], rw := 0x0, w1c := 0xC, rc := false },
  { name := "FAN_SUPERVISE", base := 0x600A0004, n1 := 1, s1 := 4, n2 := 1, s2 := 4, reset := [0x5], rw := 0x3F, w1c := 0x0, rc := false },
  { name := "FAN_REFRESH", base := 0x600A0008, n1 := 1, s1 := 4, n2 := 1, s2 := 4, reset := [0x0], rw := 0xFFFFFFFF, w1c := 0x0, rc := false },
  { name := "FAN_AUTO_EXIT", base := 0x600A000C, n1 := 1, s1 := 4, n2 := 1, s2 := 4, reset := [0x0], rw := 0x1, w1c := 0x0, rc := false },
  { name := "FAN_RUN", base := 0x600A0010, n1 := 1, s1 := 4, n2 := 1, s2 := 4, reset := [0x0], rw := 0xFFFF, w1c := 0x0, rc := false },
  { name := "FAN_CLR", base := 0x600A0014, n1 := 1, s1 := 4, n2 := 1, s2 := 4, reset := [0x0], rw := 0xFFFF, w1c := 0x0, rc := false },
  { name := "FAN_FAULT", base := 0x600A0018, n1 := 1, s1 := 4, n2 := 1, s2 := 4, reset := [0x0], rw := 0x0, w1c := 0x0, rc := false },
  { name := "FAN_AUTOF", base := 0x600A001C, n1 := 1, s1 := 4, n2 := 1, s2 := 4, reset := [0x0], rw := 0x0, w1c := 0x0, rc := false },
  { name := "FAN_SHDN_SEL", base := 0x600A0020, n1 := 1, s1 := 4, n2 := 1, s2 := 4, reset := [0x0], rw := 0xFFFFFFFF, w1c := 0x0, rc := false },
  { name := "FAN_SHDN_CTRL", base := 0x600A0024, n1 := 1, s1 := 4, n2 := 1, s2 := 4, reset := [0x0], rw := 0x0, w1c := 0x0, rc := false },
  { name := "FAN_SHDN_STAT", base := 0x600A0028, n1 := 1, s1 := 4, n2 := 1, s2 := 4, reset := [0x0], rw := 0x0, w1c := 0x0, rc := false },
  { name := "FAN_SHDN_THR", base := 0x600A002C, n1 := 1, s1 := 4, n2 := 1, s2 := 4, reset := [0x0], rw := 0x0, w1c := 0x0, rc := false },
  { name := "FANf_CFG", base := 0x600A0100, n1 := 16, s1 := 64, n2 := 1, s2 := 4, reset := [0x1E141945], rw := 0xFFFFFFFF, w1c := 0x0, rc := false },
  { name := "FANf_MEAS", base := 0x600A0104, n1 := 16, s1 := 64, n2 := 1, s2 := 4, reset := [0x2580004], rw := 0xFFFF00FF, w1c := 0x0, rc := false },
  { name := "FANf_ILO", base := 0x600A0108, n1 := 16, s1 := 64, n2 := 1, s2 := 4, reset := [0x0], rw := 0xFFFFFFFF, w1c := 0x0, rc := false },
  { name := "FANf_ISTALL", base := 0x600A010C, n1 := 16, s1 := 64, n2 := 1, s2 := 4, reset := [0x7FFFFFFF], rw := 0xFFFFFFFF, w1c := 0x0, rc := false },
  { name := "FANf_DEMEN", base := 0x600A0110, n1 := 16, s1 := 64, n2 := 1, s2 := 4, reset := [0x0], rw := 0xFF, w1c := 0x0, rc := false },
  { name := "FANf_DUTYCMD", base := 0x600A0114, n1 := 16, s1 := 64, n2 := 1, s2 := 4, reset := [0x0], rw := 0xFFFFFFFF, w1c := 0x0, rc := false },
  { name := "FANf_AUTOCH", base := 0x600A0118, n1 := 16, s1 := 64, n2 := 1, s2 := 4, reset := [0x0], rw := 0xFFFF, w1c := 0x0, rc := false },
  { name := "FANf_CHSTAT", base := 0x600A011C, n1 := 16, s1 := 64, n2 := 1, s2 := 4, reset := [0x0], rw := 0x0, w1c := 0x0, rc := false },
  { name := "FANf_RPM", base := 0x600A0120, n1 := 16, s1 := 64, n2 := 1, s2 := 4, reset := [0x0], rw := 0x0, w1c := 0x0, rc := false },
  { name := "FANf_DEMAND", base := 0x600A0124, n1 := 16, s1 := 64, n2 := 1, s2 := 4, reset := [0x0], rw := 0x0, w1c := 0x0, rc := false },
  { name := "FANf_TGT", base := 0x600A0128, n1 := 16, s1 := 64, n2 := 1, s2 := 4, reset := [0x0], rw := 0x0, w1c := 0x0, rc := false },
  { name := "FANf_ONTIME", base := 0x600A012C, n1 := 16, s1 := 64, n2 := 1, s2 := 4, reset := [0x0], rw := 0x0, w1c := 0x0, rc := false },
  { name := "FAN_DEM", base := 0x600A0800, n1 := 128, s1 := 4, n2 := 1, s2 := 4, reset := [0x0], rw := 0xFFFFFFFF, w1c := 0x0, rc := false },
  { name := "FAN_TAB_DEM", base := 0x600A1000, n1 := 16, s1 := 64, n2 := 8, s2 := 8, reset := [0x0], rw := 0xFFFFFFFF, w1c := 0x0, rc := false },
  { name := "FAN_TAB_OUT", base := 0x600A1004, n1 := 16, s1 := 64, n2 := 8, s2 := 8, reset := [0x0], rw := 0xFFFFFFFF, w1c := 0x0, rc := false },
  { name := "FAN_AUTOPT", base := 0x600A1400, n1 := 16, s1 := 32, n2 := 8, s2 := 4, reset := [0x0], rw := 0xFFFFFF, w1c := 0x0, rc := false }]

def RegRow.kpd : List RegRow := [
  { name := "KPD_CFG", base := 0x600B0000, n1 := 1, s1 := 4, n2 := 1, s2 := 4, reset := [0x200200], rw := 0xFFF3FF, w1c := 0x0, rc := false },
  { name := "KPD_DEB", base := 0x600B0004, n1 := 1, s1 := 4, n2 := 1, s2 := 4, reset := [0x3C141403], rw := 0xFFFFFF0F, w1c := 0x0, rc := false },
  { name := "KPD_STAT", base := 0x600B0008, n1 := 1, s1 := 4, n2 := 1, s2 := 4, reset := [0x0], rw := 0x0, w1c := 0xD, rc := false },
  { name := "KPD_CTRL", base := 0x600B000C, n1 := 1, s1 := 4, n2 := 1, s2 := 4, reset := [0x0], rw := 0x1, w1c := 0x0, rc := false },
  { name := "KPD_LOCK", base := 0x600B0010, n1 := 1, s1 := 4, n2 := 1, s2 := 4, reset := [0x3], rw := 0x0, w1c := 0x0, rc := false },
  { name := "KPD_LOCKCFG", base := 0x600B0014, n1 := 1, s1 := 4, n2 := 1, s2 := 4, reset := [0x50A0F00], rw := 0xFF3F3F0F, w1c := 0x0, rc := false },
  { name := "KPD_LOCKSEQ", base := 0x600B0018, n1 := 2, s1 := 4, n2 := 1, s2 := 4, reset := [0x0], rw := 0xFFFFFFFF, w1c := 0x0, rc := false },
  { name := "KPD_DROP", base := 0x600B0020, n1 := 1, s1 := 4, n2 := 1, s2 := 4, reset := [0x0], rw := 0x0, w1c := 0x0, rc := true },
  { name := "KPD_PRESSCNT", base := 0x600B0024, n1 := 1, s1 := 4, n2 := 1, s2 := 4, reset := [0x0], rw := 0x0, w1c := 0x0, rc := false },
  { name := "KPD_KEYS", base := 0x600B0040, n1 := 8, s1 := 4, n2 := 1, s2 := 4, reset := [0x0], rw := 0x0, w1c := 0x0, rc := false },
  { name := "KPD_MASK", base := 0x600B0060, n1 := 8, s1 := 4, n2 := 1, s2 := 4, reset := [0x0], rw := 0x0, w1c := 0x0, rc := false },
  { name := "ENC_CFG", base := 0x600B0100, n1 := 4, s1 := 32, n2 := 1, s2 := 4, reset := [0x140A02], rw := 0xFFFF0F, w1c := 0x0, rc := false },
  { name := "ENC_CNT", base := 0x600B0104, n1 := 4, s1 := 32, n2 := 1, s2 := 4, reset := [0x0], rw := 0xFFFF, w1c := 0x0, rc := false },
  { name := "ENC_STAT", base := 0x600B0108, n1 := 4, s1 := 32, n2 := 1, s2 := 4, reset := [0x0], rw := 0x0, w1c := 0x0, rc := false },
  { name := "ENC_ERR", base := 0x600B010C, n1 := 4, s1 := 32, n2 := 1, s2 := 4, reset := [0x0], rw := 0x0, w1c := 0x0, rc := true }]

def RegRow.rtc : List RegRow := [
  { name := "RTC_SEC", base := 0x600C0000, n1 := 1, s1 := 4, n2 := 1, s2 := 4, reset := [0x0], rw := 0x7F, w1c := 0x0, rc := false },
  { name := "RTC_MIN", base := 0x600C0004, n1 := 1, s1 := 4, n2 := 1, s2 := 4, reset := [0x0], rw := 0x7F, w1c := 0x0, rc := false },
  { name := "RTC_HOUR", base := 0x600C0008, n1 := 1, s1 := 4, n2 := 1, s2 := 4, reset := [0x0], rw := 0x3F, w1c := 0x0, rc := false },
  { name := "RTC_DATE", base := 0x600C000C, n1 := 1, s1 := 4, n2 := 1, s2 := 4, reset := [0x1], rw := 0x3F, w1c := 0x0, rc := false },
  { name := "RTC_WDAY", base := 0x600C0010, n1 := 1, s1 := 4, n2 := 1, s2 := 4, reset := [0x6], rw := 0x7, w1c := 0x0, rc := false },
  { name := "RTC_MONTH", base := 0x600C0014, n1 := 1, s1 := 4, n2 := 1, s2 := 4, reset := [0x1], rw := 0x1F, w1c := 0x0, rc := false },
  { name := "RTC_YEAR", base := 0x600C0018, n1 := 1, s1 := 4, n2 := 1, s2 := 4, reset := [0x0], rw := 0xFF, w1c := 0x0, rc := false },
  { name := "RTC_CENT", base := 0x600C001C, n1 := 1, s1 := 4, n2 := 1, s2 := 4, reset := [0x20], rw := 0xFF, w1c := 0x0, rc := false },
  { name := "RTC_CTRL", base := 0x600C0020, n1 := 1, s1 := 4, n2 := 1, s2 := 4, reset := [0x8], rw := 0xF, w1c := 0x0, rc := false },
  { name := "RTC_STAT", base := 0x600C0024, n1 := 1, s1 := 4, n2 := 1, s2 := 4, reset := [0x1], rw := 0x0, w1c := 0x1EE, rc := false },
  { name := "RTC_ADJ", base := 0x600C0028, n1 := 1, s1 := 4, n2 := 1, s2 := 4, reset := [0x0], rw := 0xFF, w1c := 0x0, rc := false },
  { name := "RTC_HALTTICKS", base := 0x600C002C, n1 := 1, s1 := 4, n2 := 1, s2 := 4, reset := [0x0], rw := 0x0, w1c := 0x0, rc := false },
  { name := "RTC_SNAP", base := 0x600C0030, n1 := 1, s1 := 4, n2 := 1, s2 := 4, reset := [0x0], rw := 0x1, w1c := 0x0, rc := false },
  { name := "RTC_SUBSEC", base := 0x600C0034, n1 := 1, s1 := 4, n2 := 1, s2 := 4, reset := [0x0], rw := 0x0, w1c := 0x0, rc := false },
  { name := "RTC_TRIM", base := 0x600C0038, n1 := 1, s1 := 4, n2 := 1, s2 := 4, reset := [0x0], rw := 0xFFFF, w1c := 0x0, rc := false },
  { name := "RTC_TCOMP", base := 0x600C003C, n1 := 1, s1 := 4, n2 := 1, s2 := 4, reset := [0x0], rw := 0x0, w1c := 0x0, rc := false },
  { name := "RTC_ALM0_T", base := 0x600C0040, n1 := 1, s1 := 4, n2 := 1, s2 := 4, reset := [0x0], rw := 0x80BFFFFF, w1c := 0x0, rc := false },
  { name := "RTC_ALM0_D", base := 0x600C0044, n1 := 1, s1 := 4, n2 := 1, s2 := 4, reset := [0x0], rw := 0x9F0FBF, w1c := 0x0, rc := false },
  { name := "RTC_ALM1_T", base := 0x600C0048, n1 := 1, s1 := 4, n2 := 1, s2 := 4, reset := [0x0], rw := 0x80BFFFFF, w1c := 0x0, rc := false },
  { name := "RTC_ALM1_D", base := 0x600C004C, n1 := 1, s1 := 4, n2 := 1, s2 := 4, reset := [0x0], rw := 0x9F0FBF, w1c := 0x0, rc := false },
  { name := "RTC_MEAS_CFG", base := 0x600C0050, n1 := 1, s1 := 4, n2 := 1, s2 := 4, reset := [0x0], rw := 0xFFFFFF03, w1c := 0x10, rc := false },
  { name := "RTC_MEAS_CNT_LO", base := 0x600C0054, n1 := 1, s1 := 4, n2 := 1, s2 := 4, reset := [0x0], rw := 0x0, w1c := 0x0, rc := false },
  { name := "RTC_MEAS_CNT_HI", base := 0x600C0058, n1 := 1, s1 := 4, n2 := 1, s2 := 4, reset := [0x0], rw := 0x0, w1c := 0x0, rc := false },
  { name := "RTC_MEAS_N", base := 0x600C005C, n1 := 1, s1 := 4, n2 := 1, s2 := 4, reset := [0x0], rw := 0x0, w1c := 0x0, rc := false },
  { name := "RTC_EPOCH", base := 0x600C0060, n1 := 1, s1 := 4, n2 := 1, s2 := 4, reset := [0x0], rw := 0x0, w1c := 0x0, rc := false },
  { name := "RTC_BEACON_EPOCH", base := 0x600C0064, n1 := 1, s1 := 4, n2 := 1, s2 := 4, reset := [0x0], rw := 0x0, w1c := 0x0, rc := false },
  { name := "RTC_BEACON_SUB", base := 0x600C0068, n1 := 1, s1 := 4, n2 := 1, s2 := 4, reset := [0x0], rw := 0x0, w1c := 0x0, rc := false }]

def RegRow.knb : List RegRow := [
  { name := "KNB_STAT", base := 0x600D0000, n1 := 1, s1 := 4, n2 := 1, s2 := 4, reset := [0x1], rw := 0x0, w1c := 0x38, rc := false },
  { name := "KNB_CTRL", base := 0x600D0004, n1 := 1, s1 := 4, n2 := 1, s2 := 4, reset := [0x0], rw := 0x3, w1c := 0x0, rc := false },
  { name := "KNB_JSTAT", base := 0x600D0008, n1 := 1, s1 := 4, n2 := 1, s2 := 4, reset := [0x0], rw := 0x0, w1c := 0x0, rc := false },
  { name := "KNB_COMMIT", base := 0x600D000C, n1 := 1, s1 := 4, n2 := 1, s2 := 4, reset := [0x0], rw := 0xFFFFFFFF, w1c := 0x0, rc := false },
  { name := "KNB_JSEQ", base := 0x600D0010, n1 := 1, s1 := 4, n2 := 1, s2 := 4, reset := [0x0], rw := 0x0, w1c := 0x0, rc := false },
  { name := "KNB_CNTINC", base := 0x600D0014, n1 := 1, s1 := 4, n2 := 1, s2 := 4, reset := [0x0], rw := 0xFFFF001F, w1c := 0x0, rc := false },
  { name := "KNB_CNTSEL", base := 0x600D0018, n1 := 1, s1 := 4, n2 := 1, s2 := 4, reset := [0x0], rw := 0x1F, w1c := 0x0, rc := false },
  { name := "KNB_CNTVAL_LO", base := 0x600D0020, n1 := 1, s1 := 4, n2 := 1, s2 := 4, reset := [0x0], rw := 0x0, w1c := 0x0, rc := false },
  { name := "KNB_CNTVAL_HI", base := 0x600D0024, n1 := 1, s1 := 4, n2 := 1, s2 := 4, reset := [0x0], rw := 0x0, w1c := 0x0, rc := false },
  { name := "KNB_CNTBAD", base := 0x600D0028, n1 := 1, s1 := 4, n2 := 1, s2 := 4, reset := [0x0], rw := 0x0, w1c := 0xFFFFFFFF, rc := false },
  { name := "KNB_SCAN", base := 0x600D002C, n1 := 1, s1 := 4, n2 := 1, s2 := 4, reset := [0x0], rw := 0x0, w1c := 0x0, rc := false },
  { name := "KNB_SPARES", base := 0x600D0030, n1 := 1, s1 := 4, n2 := 1, s2 := 4, reset := [0x10], rw := 0x0, w1c := 0x0, rc := false },
  { name := "KNB_WEAKCNT", base := 0x600D0034, n1 := 1, s1 := 4, n2 := 1, s2 := 4, reset := [0x0], rw := 0x0, w1c := 0x0, rc := true },
  { name := "KNB_JMAP", base := 0x600D0100, n1 := 64, s1 := 4, n2 := 1, s2 := 4, reset := [0x0], rw := 0x83FF, w1c := 0x0, rc := false },
  { name := "KNB_BUF", base := 0x600D1000, n1 := 64, s1 := 64, n2 := 16, s2 := 4, reset := [0x0], rw := 0xFFFFFFFF, w1c := 0x0, rc := false }]

def RegRow.net : List RegRow := [
  { name := "NET_CTRL", base := 0x600E0000, n1 := 1, s1 := 4, n2 := 1, s2 := 4, reset := [0x0], rw := 0x3, w1c := 0x0, rc := false },
  { name := "NET_ADDR", base := 0x600E0004, n1 := 1, s1 := 4, n2 := 1, s2 := 4, reset := [0x3FF], rw := 0x0, w1c := 0x0, rc := false },
  { name := "NET_SEQ", base := 0x600E0008, n1 := 1, s1 := 4, n2 := 1, s2 := 4, reset := [0x0], rw := 0x0, w1c := 0x0, rc := false },
  { name := "NET_STAT", base := 0x600E000C, n1 := 1, s1 := 4, n2 := 1, s2 := 4, reset := [0x0], rw := 0x0, w1c := 0xC, rc := false },
  { name := "NET_MDIO", base := 0x600E0010, n1 := 1, s1 := 4, n2 := 1, s2 := 4, reset := [0x0], rw := 0xFFFF0FFF, w1c := 0x0, rc := false },
  { name := "NET_NOTLOST", base := 0x600E0014, n1 := 1, s1 := 4, n2 := 1, s2 := 4, reset := [0x0], rw := 0x0, w1c := 0x0, rc := true },
  { name := "NET_MDIO_CFG", base := 0x600E0018, n1 := 1, s1 := 4, n2 := 1, s2 := 4, reset := [0x0], rw := 0x1, w1c := 0x0, rc := false },
  { name := "NETp_CFG", base := 0x600E0100, n1 := 2, s1 := 256, n2 := 1, s2 := 4, reset := [0x1], rw := 0x1, w1c := 0x0, rc := false },
  { name := "NETp_PLCA", base := 0x600E0104, n1 := 2, s1 := 256, n2 := 1, s2 := 4, reset := [0x20201F], rw := 0x7FF3F00, w1c := 0x0, rc := false },
  { name := "NETp_BTMR", base := 0x600E0108, n1 := 2, s1 := 256, n2 := 1, s2 := 4, reset := [0x80], rw := 0xFF, w1c := 0x0, rc := false },
  { name := "NETp_STAT", base := 0x600E010C, n1 := 2, s1 := 256, n2 := 1, s2 := 4, reset := [0x0], rw := 0x0, w1c := 0x8, rc := false },
  { name := "NETp_TXFRM", base := 0x600E0110, n1 := 2, s1 := 256, n2 := 1, s2 := 4, reset := [0x0], rw := 0x0, w1c := 0x0, rc := true },
  { name := "NETp_RXFRM", base := 0x600E0114, n1 := 2, s1 := 256, n2 := 1, s2 := 4, reset := [0x0], rw := 0x0, w1c := 0x0, rc := true },
  { name := "NETp_RXDROP", base := 0x600E0118, n1 := 2, s1 := 256, n2 := 1, s2 := 4, reset := [0x0], rw := 0x0, w1c := 0x0, rc := true },
  { name := "NETp_FCSERR", base := 0x600E011C, n1 := 2, s1 := 256, n2 := 1, s2 := 4, reset := [0x0], rw := 0x0, w1c := 0x0, rc := true },
  { name := "NETp_AUTHERR", base := 0x600E0120, n1 := 2, s1 := 256, n2 := 1, s2 := 4, reset := [0x0], rw := 0x0, w1c := 0x0, rc := true },
  { name := "NETp_DUP", base := 0x600E0124, n1 := 2, s1 := 256, n2 := 1, s2 := 4, reset := [0x0], rw := 0x0, w1c := 0x0, rc := true },
  { name := "NETp_STALE", base := 0x600E0128, n1 := 2, s1 := 256, n2 := 1, s2 := 4, reset := [0x0], rw := 0x0, w1c := 0x0, rc := true },
  { name := "NETp_COL", base := 0x600E012C, n1 := 2, s1 := 256, n2 := 1, s2 := 4, reset := [0x0], rw := 0x0, w1c := 0x0, rc := true }]

def RegRow.odx : List RegRow := [
  { name := "ODX_STAT", base := 0x600F0000, n1 := 1, s1 := 4, n2 := 1, s2 := 4, reset := [0x0], rw := 0x0, w1c := 0x0, rc := false },
  { name := "ODX_HWM", base := 0x600F0004, n1 := 1, s1 := 4, n2 := 1, s2 := 4, reset := [0x0], rw := 0x0, w1c := 0x0, rc := false },
  { name := "ODX_BUSYCNT", base := 0x600F0008, n1 := 1, s1 := 4, n2 := 1, s2 := 4, reset := [0x0], rw := 0x0, w1c := 0x0, rc := false },
  { name := "ODX_HEAT", base := 0x600F000C, n1 := 1, s1 := 4, n2 := 1, s2 := 4, reset := [0x0], rw := 0x0, w1c := 0x0, rc := false },
  { name := "ODX_HDIG_LO", base := 0x600F0010, n1 := 1, s1 := 4, n2 := 1, s2 := 4, reset := [0x0], rw := 0x0, w1c := 0x0, rc := false },
  { name := "ODX_HDIG_HI", base := 0x600F0014, n1 := 1, s1 := 4, n2 := 1, s2 := 4, reset := [0x0], rw := 0x0, w1c := 0x0, rc := false },
  { name := "ODX_SDIG_LO", base := 0x600F0018, n1 := 1, s1 := 4, n2 := 1, s2 := 4, reset := [0x0], rw := 0x0, w1c := 0x0, rc := false },
  { name := "ODX_SDIG_HI", base := 0x600F001C, n1 := 1, s1 := 4, n2 := 1, s2 := 4, reset := [0x0], rw := 0x0, w1c := 0x0, rc := false }]

def RegRow.twn : List RegRow := [
  { name := "TWN_CTRL", base := 0x60100000, n1 := 1, s1 := 4, n2 := 1, s2 := 4, reset := [0x1], rw := 0x1, w1c := 0x0, rc := false },
  { name := "TWN_STAT", base := 0x60100004, n1 := 1, s1 := 4, n2 := 1, s2 := 4, reset := [0x100], rw := 0x0, w1c := 0x1800, rc := false },
  { name := "TWN_KICK", base := 0x60100008, n1 := 1, s1 := 4, n2 := 1, s2 := 4, reset := [0x0], rw := 0xFFFFFFFF, w1c := 0x0, rc := false },
  { name := "TWN_DIVBAND", base := 0x6010000C, n1 := 1, s1 := 4, n2 := 1, s2 := 4, reset := [0x10000], rw := 0xFFFFFFFF, w1c := 0x0, rc := false },
  { name := "TWN_CONVBAND", base := 0x60100010, n1 := 1, s1 := 4, n2 := 1, s2 := 4, reset := [0x8000], rw := 0xFFFFFFFF, w1c := 0x0, rc := false },
  { name := "TWN_CONVN", base := 0x60100014, n1 := 1, s1 := 4, n2 := 1, s2 := 4, reset := [0x64], rw := 0xFFFF, w1c := 0x0, rc := false },
  { name := "TWN_SWAP", base := 0x60100018, n1 := 1, s1 := 4, n2 := 1, s2 := 4, reset := [0x0], rw := 0x0, w1c := 0x0, rc := false },
  { name := "TWN_GRAFTCNT", base := 0x60100020, n1 := 1, s1 := 4, n2 := 1, s2 := 4, reset := [0x0], rw := 0x0, w1c := 0x0, rc := false },
  { name := "TWN_LATECNT", base := 0x60100024, n1 := 1, s1 := 4, n2 := 1, s2 := 4, reset := [0x0], rw := 0x0, w1c := 0x0, rc := true },
  { name := "TWN_LINKERR", base := 0x60100028, n1 := 1, s1 := 4, n2 := 1, s2 := 4, reset := [0x0], rw := 0x0, w1c := 0x0, rc := true },
  { name := "TWN_TAKEOVERS", base := 0x6010002C, n1 := 1, s1 := 4, n2 := 1, s2 := 4, reset := [0x0], rw := 0x0, w1c := 0x0, rc := false },
  { name := "TWN_ALIGN", base := 0x60100030, n1 := 1, s1 := 4, n2 := 1, s2 := 4, reset := [0x0], rw := 0x0, w1c := 0x0, rc := false },
  { name := "TWN_PEERHEAT", base := 0x60100034, n1 := 1, s1 := 4, n2 := 1, s2 := 4, reset := [0xFFFFFFFF], rw := 0x0, w1c := 0x0, rc := false },
  { name := "TWN_DIVMAP", base := 0x60100080, n1 := 32, s1 := 4, n2 := 1, s2 := 4, reset := [0x0], rw := 0x0, w1c := 0xFFFFFFFF, rc := false }]

def RegRow.thm : List RegRow := [
  { name := "THM_STAT", base := 0x60110000, n1 := 1, s1 := 4, n2 := 1, s2 := 4, reset := [0x0], rw := 0x0, w1c := 0x0, rc := false },
  { name := "THM_TJ", base := 0x60110004, n1 := 1, s1 := 4, n2 := 1, s2 := 4, reset := [0x0], rw := 0x0, w1c := 0x0, rc := true },
  { name := "THM_EXCL", base := 0x60110008, n1 := 1, s1 := 4, n2 := 1, s2 := 4, reset := [0x0], rw := 0x0, w1c := 0x0, rc := false },
  { name := "THM_VREFTRIM", base := 0x6011000C, n1 := 1, s1 := 4, n2 := 1, s2 := 4, reset := [0x0], rw := 0x0, w1c := 0x0, rc := false },
  { name := "THM_LVLCNT", base := 0x60110010, n1 := 1, s1 := 4, n2 := 1, s2 := 4, reset := [0x0], rw := 0x0, w1c := 0x0, rc := true },
  { name := "THM_DTS", base := 0x60110020, n1 := 8, s1 := 4, n2 := 1, s2 := 4, reset := [0x0], rw := 0x0, w1c := 0x0, rc := false }]

def RegRow.tbo : List RegRow := [
  { name := "TBO_CTRL", base := 0x60120000, n1 := 1, s1 := 4, n2 := 1, s2 := 4, reset := [0x1], rw := 0x1, w1c := 0x0, rc := false },
  { name := "TBO_STAT", base := 0x60120004, n1 := 1, s1 := 4, n2 := 1, s2 := 4, reset := [0x0], rw := 0x0, w1c := 0x0, rc := false },
  { name := "TBO_TBCOUNT_LO", base := 0x60120008, n1 := 1, s1 := 4, n2 := 1, s2 := 4, reset := [0x0], rw := 0x0, w1c := 0x0, rc := false },
  { name := "TBO_TBCOUNT_HI", base := 0x6012000C, n1 := 1, s1 := 4, n2 := 1, s2 := 4, reset := [0x0], rw := 0x0, w1c := 0x0, rc := false },
  { name := "TBO_TRIM", base := 0x60120010, n1 := 1, s1 := 4, n2 := 1, s2 := 4, reset := [0x0], rw := 0x0, w1c := 0x0, rc := false },
  { name := "TBO_TTAB", base := 0x60120020, n1 := 8, s1 := 4, n2 := 1, s2 := 4, reset := [0x0], rw := 0x0, w1c := 0x0, rc := false }]

def RegRow.sbus : List RegRow := [
  { name := "SBUS_STAT", base := 0x60130000, n1 := 1, s1 := 4, n2 := 1, s2 := 4, reset := [0x0], rw := 0x0, w1c := 0x0, rc := false },
  { name := "SB_CFG", base := 0x60130100, n1 := 3, s1 := 256, n2 := 1, s2 := 4, reset := [0x1900, 0x1900, 0x190C], rw := 0xFF1F, w1c := 0x0, rc := false },
  { name := "SB_CMD", base := 0x60130104, n1 := 3, s1 := 256, n2 := 1, s2 := 4, reset := [0x0], rw := 0x3F3F7F, w1c := 0x0, rc := false },
  { name := "SB_STAT", base := 0x60130108, n1 := 3, s1 := 256, n2 := 1, s2 := 4, reset := [0x0], rw := 0x0, w1c := 0x3E, rc := false },
  { name := "SB_TX", base := 0x60130110, n1 := 3, s1 := 256, n2 := 8, s2 := 4, reset := [0x0], rw := 0xFFFFFFFF, w1c := 0x0, rc := false },
  { name := "SB_RX", base := 0x60130130, n1 := 3, s1 := 256, n2 := 8, s2 := 4, reset := [0x0], rw := 0x0, w1c := 0x0, rc := false }]

/-- The register table of unit n (R405). -/
def RegRow.ofUnit : Nat → List RegRow
  | 0 => RegRow.sys
  | 1 => RegRow.pwr
  | 2 => RegRow.hst
  | 3 => RegRow.evt
  | 4 => RegRow.rng
  | 5 => RegRow.ldl
  | 6 => RegRow.acq
  | 7 => RegRow.cen
  | 8 => RegRow.zon
  | 9 => RegRow.act
  | 10 => RegRow.fan
  | 11 => RegRow.kpd
  | 12 => RegRow.rtc
  | 13 => RegRow.knb
  | 14 => RegRow.net
  | 15 => RegRow.odx
  | 16 => RegRow.twn
  | 17 => RegRow.thm
  | 18 => RegRow.tbo
  | 19 => RegRow.sbus
  | _ => []

/-- The index pair of an address inside a row, if the address is one of the row's registers. -/
def RegRow.index (r : RegRow) (a : Nat) : Option (Nat × Nat) :=
  if a < r.base then none
  else
    let d := a - r.base
    let i := if r.n1 = 1 then 0 else d / r.s1
    let e := d - i * r.s1
    let j := if r.n2 = 1 then 0 else e / r.s2
    if i < r.n1 && j < r.n2 && i * r.s1 + j * r.s2 == d then some (i, j) else none

/-- The register unit that an address of 0x6000_0000-0x6013_FFFF belongs to (R405). -/
def regUnit (a : Nat) : Nat := (a - 0x60000000) / 0x10000

/-- The row of the register tables that an address belongs to. -/
def regRow (a : Nat) : Option RegRow :=
  if a < 0x60000000 then none else (RegRow.ofUnit (regUnit a)).find? (fun r => (r.index a).isSome)

/-- The value of a register at reset by the tables; a register whose reset value is a fuse, a strap or the variant's is held
at a nominal value here and set by the operation that loads it (log entries 1, 4 and 5). -/
def regReset (a : Nat) : Word :=
  match regRow a with
  | none => 0
  | some r =>
    match r.reset with
    | [v] => BitVec.ofNat 32 v
    | l => BitVec.ofNat 32 (l.getD ((r.index a).getD (0, 0)).1 0)

end Sys2Proof.Machine
end

