-- ==== Sys2Proof/Machine/Tab.lean ====
section
/-! DEFINITION. Sparse tables as plain data: a list of (key, value) pairs, keys strictly rising, no entry equal to its key's default. Memory and the register file are held so. -/

namespace Sys2Proof.Machine

/-- The value at a key: the listed one, else the default. -/
def Tab.get {α : Type} (d : Nat → α) (t : List (Nat × α)) (k : Nat) : α := (t.lookup k).getD (d k)

/-- The table without key k. -/
def Tab.del {α : Type} (t : List (Nat × α)) (k : Nat) : List (Nat × α) := t.filter (fun p => p.1 != k)

/-- The table with (k, v) put before the first larger key. -/
def Tab.ins {α : Type} : List (Nat × α) → Nat → α → List (Nat × α)
  | [], k, v => [(k, v)]
  | p :: t, k, v => if k < p.1 then (k, v) :: p :: t else p :: Tab.ins t k v

/-- The table with key k holding v: an entry only where v is not k's default. -/
def Tab.put {α : Type} [DecidableEq α] (d : Nat → α) (t : List (Nat × α)) (k : Nat) (v : α) : List (Nat × α) :=
  if v = d k then Tab.del t k else Tab.ins (Tab.del t k) k v

/-- The canonical form: keys strictly rising, no entry equal to its key's default. -/
def Tab.wf {α : Type} [DecidableEq α] (d : Nat → α) (t : List (Nat × α)) : Bool :=
  decide (t.Pairwise (fun p q => p.1 < q.1)) && t.all (fun p => decide (p.2 ≠ d p.1))

/-- The entries whose key satisfies a test (the others read as their defaults afterwards). -/
def Tab.keep {α : Type} (t : List (Nat × α)) (f : Nat → Bool) : List (Nat × α) := t.filter (fun p => f p.1)

end Sys2Proof.Machine
end

