-- ==== Sys2Proof/Machine/State.lean ====
section
/-! DEFINITION. The state of the WV7264 as plain data: the registers, the memories, the queue of waiting commands, and per unit the state that its chapter gives it beside its registers. -/

namespace Sys2Proof.Machine

/-- Why a command stops with a fault. The part has no behaviour of this kind: every condition of the spec is an effect on
State, so no constructor is raised by any command of this model. -/
inductive Fault where
  /-- Raised by no command; kept so that the type is not empty. Safe. -/
  | unreachable
deriving DecidableEq, Repr

/-- Why a command has no meaning. -/
inductive Refusal where
  /-- Raised by an arm of Dispatch whose command is not modelled yet, with its mnemonic. Safe. -/
  | notModelled (mnemonic : String)
deriving DecidableEq, Repr

/-- The fuse values of one part (R100, R388 order 7, R588, R589, R624; log entry 4). -/
structure Fuse where
  corr : List Nat := [0x80000000, 0x80000000, 0x80000000, 0x80000000]
  skew : List Nat := [0, 0, 0, 0]
  code80 : Int := 31457
  code85 : Int := 58982
  code86 : Int := 6554
  code87 : Int := 17039
  vrefOffset : Int := 0
  vrefSlope : Int := 0
  tboTrim : Nat := 0
  tboTable : List Nat := [0, 0, 0, 0, 0, 0, 0, 0]
  vendorHash : List Byte := List.replicate 16 0
  serial : Nat := 0
deriving DecidableEq, Repr

/-- One entry of the fault or event log (R614), with what is fixed at detection. -/
structure LogRec where
  isEvent : Bool := false
  code : Nat := 0
  flags : Nat := 0
  tick : Nat := 0
  rtcsec : Nat := 0
  param : Nat := 0
deriving DecidableEq, Repr

/-- Entries that wait to be written, in order of detection, and whether one was lost before the next (R617, R618). -/
structure LogSt where
  pending : List LogRec := []
  lost : Bool := false
  /-- Entries held at a reset were lost: the first fault log entry after it carries LOST (R618). -/
  hlost : Bool := false
deriving DecidableEq, Repr

/-- The timebase (R28-R36): TBCOUNT, whether it counts, whether crystal and TBO run. -/
structure TbSt where
  count : Nat := 0
  running : Bool := false
  xtalOk : Bool := true
  /-- A slow crystal start or a stop while the boot waits: TBO runs on its temperature table (R385). -/
  onTable : Bool := false
  /-- The tick phase of a standby against the active, in TBO cycles, as the last TICK token left it (R351). -/
  phase : Int := 0
deriving DecidableEq, Repr

/-- The thermal unit (R581-R587) beside its registers: consecutive disagreements and agreements per sensor, consecutive
conversions at or above the trip, and the peak since the last reset for fault THM_TRIP. -/
structure ThmSt where
  disagree : List Nat := [0, 0, 0, 0, 0, 0, 0, 0]
  agree : List Nat := [0, 0, 0, 0, 0, 0, 0, 0]
  hot : Nat := 0
  hasReading : Bool := false
  /-- The trim of TBO's frequency in force: TBO_TRIM and the offset of the temperature table, in 1/400 of a 0.01 % step (R588). -/
  freq : Int := 0
deriving DecidableEq, Repr

/-- One snapshot of the RTC (R529). -/
structure RtcSnap where
  fields : List Nat := [0, 0, 0, 1, 6, 1, 0, 0x20]
  epoch : Nat := 0
  sub : Nat := 0
deriving DecidableEq, Repr

/-- The RTC beside its registers (R525-R548). The time fields, CTRL, TRIM, the alarms and HALTTICKS of the domain stand in
the register file; `lost` says that the domain lost its contents while unpowered. -/
structure RtcSt where
  epoch : Nat := 0
  acc : Int := 0
  secLen : Nat := 32768
  /-- Crystal cycles into the current second at the last base tick, in thousandths (R526): below 0 where the second began after it. -/
  cyc : Int := 0
  /-- Raw crystal cycles counted at the base ticks, in thousandths (R539). -/
  raw : Nat := 0
  /-- The compensation term in force, which a loss of the main supplies leaves as it is (R538). -/
  term : Int := 0
  haltSub : Nat := 0
  /-- Crystal cycles since HALT was written 1, at the last base tick, in thousandths (R531). -/
  haltCyc : Int := 0
  onVbat : Bool := false
  /-- Is VBAT below 2.0 V, with its hysteresis (R543)? -/
  vbatLow : Bool := false
  xstopped : Bool := false
  haltBat : Bool := false
  snapHost : RtcSnap := {}
  snapCore : RtcSnap := {}
  measStarted : Bool := false
  measFirst : Nat := 0
  /-- `raw` at the SFD of the first beacon of a TIME measurement, in thousandths of a cycle. -/
  measMark : Nat := 0
  measCount : Nat := 0
  measCycles : Nat := 0
  measDone : Bool := false
  termSum : Int := 0
  termN : Nat := 0
  periods : List Nat := []
  lastError : Int := 0
deriving DecidableEq, Repr

/-- Whose journal transaction runs: the runtime's (R502), the refresh of a weak page with what its second margin read will find, or the
retirement of a page to a spare (R517). -/
inductive KnbKind where
  | runtime
  | refresh (page : Nat) (stillWeak : Bool)
  | retire (page spare : Nat)
deriving DecidableEq, Repr

/-- A journal transaction that KNB carries out (R502, R517): its target pages with their new contents. -/
structure KnbCommit where
  pages : List (Nat × List Byte) := []
  kind : KnbKind := .runtime
deriving DecidableEq, Repr

/-- The Knab store beside its array and registers (R494-R523). `spares` is the spare map in force: the logical page of each spare. -/
structure KnbSt where
  commit : Option KnbCommit := none
  spares : List (Option Nat) := [none, none, none, none, none, none, none, none, none, none, none, none, none, none, none, none]
  weak : List Nat := []
  /-- TBCOUNT at which the next slice starts, and a slice asked for by SLICENOW (R516). -/
  nextSlice : Nat := 21600000
  sliceNow : Bool := false
  /-- The step-10 transaction failed and is repeated (R627): every journal transaction of a change fails till then. -/
  nvFault : Bool := false
  /-- Direct writes and counter increments that wait for a commit on their page (R503). -/
  stalled : List (Nat × List Byte) := []
  stalledInc : List (Nat × Nat) := []
  /-- Index and doorbell writes of the runtime that wait for its stalled writes (R458, R479). -/
  after : List (Nat × Word) := []
  /-- Counts that the runtime has still to add to counters 0-16: units count on while it is stopped (R509). -/
  owed : List (Nat × Nat) := []
  /-- ACTn_STROKES as the last rewrite of the stroke totals took it, and the tick of the next rewrite (R515). -/
  strokeMark : List (Nat × Nat) := []
  strokesDue : Nat := 14400000
deriving DecidableEq, Repr

/-- A pour of one image kind (R323, R324, R394): what its blocks have said and the blocks held, and the image once whole. -/
structure PourSt where
  id : Nat := 0
  blocks : Nat := 0
  length : Nat := 0
  held : List (Nat × List Byte) := []
  image : List Byte := []
deriving DecidableEq, Repr

/-- Power, reset and shakeout beside the registers (R374-R400). Times are ticks of `State.now`. -/
structure PwrSt where
  /-- All supplies are above their thresholds (R374). -/
  good : Bool := true
  /-- A reset source holds the part in reset: its cause code (R377). -/
  held : Option Nat := none
  /-- NRST stands low (R377). -/
  nrstLow : Bool := false
  rstout : Bool := false
  /-- The end of step 3 has passed, so RSTOUT may rise (R379). -/
  rstoutDue : Bool := false
  straps : StrapPins := {}
  /-- The runtime has entered (step 8) and is not halted by chill or reset. -/
  rtIn : Bool := false
  wdLast : Nat := 0
  shakeFrom : Nat := 0
  waitFrom : Nat := 0
  pourRt : PourSt := {}
  pourCf : PourSt := {}
  cfgTag : Nat := 0
  /-- The tick of B1 of step 11, once taken (R383). -/
  b1 : Option Nat := none
  /-- The boundary Bc at which an accepted chill request enters chill (R398). -/
  chillAt : Option Nat := none
  /-- RTC seconds at the entry to the chill in force (R191, R577). -/
  chillFrom : Nat := 0
  /-- After a wake, till PWR_STAT.STATE is RUN again: the class-0 boundaries taken (R399). -/
  wakeTicks : Option Nat := none
  /-- The base tick within which the part last left chill (R408). -/
  wokeAt : Option Nat := none
  lastReject : Nat := 0
  tripPeak : Int := 0
  /-- The cause-6 reset came of the loss of both clocks (R28). -/
  clockLost : Bool := false
  retryStart : Option Nat := none
  cfSkipped : Nat := 0
  fnRefused : Nat := 0
  cfgSig : Nat := 2
  pourTime : Nat := 0
deriving DecidableEq, Repr

/-- The host port beside its registers (R411-R428): the bytes it drove after the last command byte, the result byte of
STATUS, the write queue, and HBUSY. -/
structure HstSt where
  miso : List Byte := []
  result : Nat := 0
  queue : List (Nat × Word) := []
  hbusy : Bool := false
  /-- How many leading data words of the last READ or READ_BURST were sampled with HBUSY high (R428, R429). -/
  busyWords : Nat := 0
  /-- The window word of the last host write whose collision a fabric access lost: a fabric read of it returns undefined data (R427). -/
  undef : Option Nat := none
  /-- The tick at which the pour block buffer last took a block (R421). -/
  pourAt : Option Nat := none
deriving DecidableEq, Repr

/-- One sensor bus (R431-R438): the transaction it carries and which poll it serves. -/
structure BusSt where
  target : Nat := 0
  wlen : Nat := 0
  rlen : Nat := 0
  poll : Option Nat := none
  lastStuck : Option Nat := none
  waiting : List Nat := []
  /-- The base tick within which the transaction started (R434). -/
  startAt : Nat := 0
deriving DecidableEq, Repr

/-- One poll (R439): its run, and its failures. -/
structure PollSt where
  running : Bool := false
  second : Bool := false
  waitTo : Option Nat := none
  status : Nat := 0
  raw : Int := 0
  failed : Nat := 0
  series : Nat := 0
  logged : Bool := false
  gain : Int := 0
  offs : Int := 0
  /-- The due tick that the poll last took (R439). -/
  dueAt : Option Nat := none
deriving DecidableEq, Repr

/-- An entry that a producer holds for a full ring under STALL_PRODUCER (R459). -/
structure HeldEntry where
  ring : Nat := 0
  data : List Byte := []
  /-- A BUSY answer of R289, which holds no entry of ODX. -/
  busy : Bool := false
deriving DecidableEq, Repr

/-- A staged value (R265, R272): the member, the function it waits for, the value. -/
structure Staged where
  id : Nat
  fn : Nat
  val : OdVal
deriving DecidableEq, Repr

/-- A function (R266, R267): its state, its last response code, and what 08.F.04-05 report. -/
structure FnSt where
  state : Nat := 0
  resp : Nat := 0
  heatAt : Nat := 0
  tickAt : Nat := 0
  /-- A start that has passed step 4 waits for the class-0 boundary (R270 step 5). -/
  ready : Bool := false
deriving DecidableEq, Repr

/-- Where a response goes, and what its request named (R284, R286, R288): held while a transaction is in flight. -/
structure Txn where
  fn : Nat := 0
  op : Nat := 0
  /-- 0 host port, 1 network A, 2 network B, 3 the sprue link, 4 none (a command of the part itself). -/
  port : Nat := 0
  /-- A record of the shared window: its integers are little-endian (R256). -/
  little : Bool := false
  seqNo : Nat := 0
  respAt : Nat := 0
  cap : Nat := 0
  id : Nat := 0
  typ : Nat := 0
  dst : Nat := 0
  session : Nat := 0
  verdict : Nat := 0
  /-- The root key that a response still uses after a new one has been applied (R327). -/
  root : Option (List Byte) := none
  /-- What joins a request on the sprue link with its response (R360; log entry 43). -/
  tag : Nat := 0
deriving DecidableEq, Repr

/-- The object dictionary and the functions (R254-R297) beside the ODX registers. -/
structure OdSt where
  /-- The committed values that differ from their defaults, by object ID. -/
  committed : List (Nat × OdVal) := []
  /-- The values that the accepted configuration image gives (R514). -/
  baseline : List (Nat × OdVal) := []
  staged : List Staged := []
  fns : List (Nat × FnSt) := []
  txns : List Txn := []
  /-- How many requests have been forwarded to the partner: the tag of the next one. -/
  forwards : Nat := 0
  heat : Nat := 0
  hdig : Nat := 0
  sdig : Nat := 0
  /-- The class 30 counters 00-05 and 07 (R262). -/
  counters : List Nat := [0, 0, 0, 0, 0, 0, 0]
  mismatch : List Nat := [0xFFFF, 0xFFFF, 0xFFFF, 0xFFFF, 0xFFFF, 0xFFFF, 0xFFFF, 0xFFFF, 0xFFFF, 0xFFFF, 0xFFFF, 0xFFFF, 0xFFFF, 0xFFFF, 0xFFFF, 0xFFFF]
  mismatchCount : Nat := 0
  /-- Per compared sender: consecutive differing heartbeats, consecutive matching ones, reported, tick of the last. -/
  compared : List (Nat × (Nat × Nat × Bool × Nat)) := []
  rtVersion : Nat := 0
  cfgVersion : Nat := 0
  serving : Bool := false
  /-- The starts of step 10 wait for B1, and whether they raise the heat number (R277, R392). -/
  startup : Option Bool := none
  /-- An accepted SYS_OWN mask that waits for a class-0 boundary (R49). -/
  ownPending : Option Nat := none
deriving DecidableEq, Repr

/-- What the runtime has read of the identity, heat and key pages and the object records of the Knab store (R494, R514); every change of it
goes to the array by a journal transaction. Where the fields lie in their pages is log entry 11. -/
structure NvSt where
  serial : Nat := 0
  address : Nat := 0x3FF
  twinPos : Option Nat := none
  seqBase : Nat := 0
  heat : Option Nat := none
  hdig : Option Nat := none
  sdig : Option Nat := none
  imgTag : Nat := 0
  custodianKey : Option (List Byte) := none
  rootKey : Option (List Byte) := none
  unlockSeq : List Byte := []
  objs : List (Nat × OdVal) := []
deriving DecidableEq, Repr

/-- A receive window (R316): highest accepted sequence, the map of the 64 below, tick of the last accepted message. -/
structure NetWin where
  top : Nat := 0
  map : Nat := 0
  /-- Counted as s.now, less the time spent in chill since (below 0 where that is longer). -/
  last : Int := 0
  /-- RTC seconds of the last accepted message, for the check after chill (R329). -/
  rtcLast : Nat := 0
deriving DecidableEq, Repr

/-- An unanswered NOTIFY (R321): its entries, how often sent, the tick of the last send, its sequence numbers. -/
structure NotifySt where
  entries : List (List Byte) := []
  sends : Nat := 0
  last : Nat := 0
  seqs : List Nat := []
deriving DecidableEq, Repr

/-- The field network (R298-R331) beside its registers. -/
structure NetSt where
  windows : List (Nat × NetWin) := []
  /-- Frames that wait on port A and port B. -/
  txA : List NetFrame := []
  txB : List NetFrame := []
  notify : Option NotifySt := none
  lastCensus : Nat := 0
  censusSeen : List (Nat × Nat) := []
  censusReplies : Nat := 0
  hbLast : Nat := 0
  /-- Settings as they stood at the last reset (R303, class 20 and 22). -/
  hbInterval : Nat := 1
  notifyDest : Nat := 0xFFFF
  notifySession : Nat := 0
  groups : Nat := 1
  rootPending : Option (Option (List Byte)) := none
  authFails : List (Nat × List Nat) := []
  conflictAt : Option Nat := none
  pourLast : Nat := 0
  pourEndFrom : Nat := 0x3FF
  /-- The image ID of each kind whose POUR_END found blocks missing (R325). -/
  pourEnds : List (Nat × Nat) := []
  /-- The port fell back to CSMA/CD and no BEACON has come since (R301). -/
  fallen : List Bool := [false, false]
  /-- PHY identity reads (port, register) still to make before the ports are enabled, and what the last port has read (R328). -/
  phy : List (Nat × Nat) := []
  phyData : List Nat := []
deriving DecidableEq, Repr

/-- A conversion that has sampled and is not complete (R59): what its entry names, and whether it still feeds a pass. -/
structure AcqConv where
  slice : Nat := 0
  code : Int := 0
  chan : Nat := 0
  fmt : Nat := 0
  dtgt : Nat := 127
  diff : Bool := false
  live : Bool := true
deriving DecidableEq, Repr

/-- The fields of the entry in progress, as they stood at its start (R64, R95); no slice means any. -/
structure AcqEntry where
  chan : Nat := 0
  rep : Nat := 256
  fmt : Nat := 0
  post : Nat := 0
  slice : Option Nat := none
  dtgt : Nat := 127
deriving DecidableEq, Repr

/-- What a pass leaves for one decimator until the action of R80: sum, count, mode, CLIP, the decimator's registers DEC_CFG to
CMP_HYST as they stood at the pass end (R77, R95), and the timestamp of the pass end (R85). -/
structure DecResult where
  d : Nat
  sum : Int
  n : Nat
  diff : Bool
  clip : Bool
  cfg : List Word
  stamp : Nat
deriving DecidableEq, Repr

/-- One decimator between passes (R62, R83, R84, R99, R104, R624); `cmp` is DEC_CFG.CMP as the last pass end took it (R95). -/
structure DecSt where
  cmp : Nat := 0
  mode : Option Bool := none
  clip : Bool := false
  prevClip : Bool := false
  cand : Nat := 0
  candN : Nat := 0
  first : Bool := true
  refBad : Nat := 0
  /-- The tick of the last fresh PV (R178). -/
  freshAt : Option Nat := none
deriving DecidableEq, Repr

/-- One channel: the slice and pass of its previous conversion (R86), the tick at which it completed (R73), and the corrected
code, which FAN and the SHDN path read (R75). -/
structure ChanSt where
  slice : Option Nat := none
  pass : Nat := 0
  tick : Option Nat := none
  code : Int := 0
  diff : Bool := false
deriving DecidableEq, Repr

/-- One slice of the estimator (R87-R91): pairs towards the next move, other conversions since the last fettle conversion, the
raw code of channel 85 where the fettle pair waits for channel 86, and pairs since STALE was set. -/
structure SliceSt where
  pairs : Nat := 0
  others : Nat := 0
  ref85 : Option Int := none
  stalePairs : Nat := 0
deriving DecidableEq, Repr

/-- Where the sequence stands (R65-R68). -/
inductive AcqPhase where
  /-- RUN is 0. -/
  | stopped
  /-- The next pass has not started. -/
  | passPending
  /-- The next entry of the pass has not started. -/
  | entryPending
  /-- Conversions of an entry run. -/
  | inEntry
  /-- Every entry of the pass was skipped: it ends at the next base tick (R68). -/
  | emptyPass
deriving DecidableEq, Repr

/-- The acquisition unit (R57-R104, R624) beside its registers and its RAM. `readyAt` counts on `State.now`. -/
structure AcqSt where
  phase : AcqPhase := .stopped
  readyAt : Nat := 0
  /-- Step 5 of the last entry lies after the tick `readyAt`, not at it (R68). -/
  mid : Bool := false
  /-- A post-delay runs. -/
  delayed : Bool := false
  entry : Nat := 0
  cur : AcqEntry := {}
  sampled : Nat := 0
  completed : Nat := 0
  /-- c, B and L of R71 and R72; whether the next pass takes B as it stands (first pass, or after chill, R101). -/
  anyCount : Nat := 0
  base : Nat := 0
  keepBase : Bool := true
  passNo : Nat := 0
  converted : Bool := false
  len : Nat := 1
  diff : Word := 0
  inflight : List AcqConv := []
  guardDue : List Nat := []
  /-- TBO cycles for which guard conversions of this tick still hold each slice, at the last guard sampling instant (R59, R73). -/
  guardBusy : List Nat := []
  /-- Guard conversions run from the first function start of shakeout on (R76). -/
  guardsOn : Bool := false
  update : Option (List DecResult) := none
  chans : List (Nat × ChanSt) := []
  decs : List (Nat × DecSt) := []
  slices : List (Nat × SliceSt) := []
deriving DecidableEq, Repr

/-- One frame class (R39-R46, R115, R124): the frame in progress, its slots still to evaluate and those evaluated, the tick that
opened it, what steps 2 and 3 fixed (cells of memory), and whether a completed frame waits for its commit. -/
structure FrameSt where
  busy : Bool := false
  todo : List Nat := []
  evald : List Nat := []
  /-- Slots of this frame that have left the running set since its step 2: their U_PEND is discarded when it completes (R126). -/
  gone : List Nat := []
  /-- The DEST word that each evaluated slot's evaluation read (R108, R130). -/
  dests : List (Nat × Word) := []
  tick : Nat := 0
  snap : List Host.Cell := []
  ready : Bool := false
  ovr : Bool := false
deriving DecidableEq, Repr

/-- One trace channel beside its registers (R155-R160): evaluations since the last sample, the node value and clamp pair of the
previous evaluation, entries written since the arm and from the trigger on, a trigger that waits for a sampled entry, and a FORCE. -/
structure TrcSt where
  count : Nat := 0
  prev : Option Int := none
  pair : Option (Bool × Bool) := none
  written : Nat := 0
  after : Nat := 0
  trig : Bool := false
  force : Bool := false
deriving DecidableEq, Repr

/-- The order of the events and of the evaluations of each slot, for KIND 6 (R156): how many events have fired, and how many had when
each source last fired and when each slot was last evaluated. -/
structure TrcNotes where
  count : Nat := 0
  firedAt : List (Nat × Nat) := []
  evalAt : List (Nat × Nat) := []
deriving DecidableEq, Repr

/-- The control engine beside its registers and RAMs (R105-R169). -/
structure CenSt where
  frames : List FrameSt := [{}, {}, {}, {}]
  trc : List TrcSt := [{}, {}, {}, {}]
  notes : TrcNotes := {}
  /-- Slots whose next evaluation is the first after a start (R119, R149). -/
  first : List Nat := []
  /-- Slots whose CEN_BADREF is logged since the last write of RUN = 1 (R133). -/
  badLogged : List Nat := []
  /-- The tick of the last boundary taken. -/
  lastBoundary : Option Nat := none
  /-- Slots that stay out of every running set: a staged FUNC, or a start that failed after its load, leaves them to no function
  (R265). -/
  apart : List Nat := []
deriving DecidableEq, Repr

/-- One actuator channel beside its registers (R197-R218): the command taken, whether one was written since the last tick, the
safe state, and the state of each mode. No `pos` means FULL (R205); no `since` means that the minimum time is met (R208). -/
structure ActCh where
  cmd : Int := 0
  fresh : Bool := false
  safe : Bool := true
  /-- ACT_RUN bit n at the last base tick (R202). -/
  ran : Bool := false
  /-- ACTn_CFG, ACTn_SAFE, ACTn_SAFEVAL and ACTn_FB as they act: since the last base tick, or PWM period (R218). -/
  cfg : Word := 0
  safecfg : Word := 2
  safeval : Word := 0
  fb : Word := 0
  /-- Hold time expired: safe until a release and a command written after it (R213). -/
  latched : Bool := false
  released : Bool := false
  relCmd : Bool := false
  /-- After chill the channel holds until its first commit (R216). -/
  chill : Bool := false
  duty : Nat := 0
  high : Nat := 0
  pos : Option Nat := none
  drv : Drv := .none
  run : Nat := 0
  ovr : Nat := 0
  gap : Nat := 0
  atLo : Bool := false
  atHi : Bool := false
  unsync : Bool := true
  step : Int := 0
  dir : Option Bool := none
  pinB : Bool := false
  /-- STEP: the TBO cycles, counted as 4096 a base tick, of the last rising edge and of the last change of pin B (R206, R207). -/
  edge : Option Nat := none
  dirAt : Option Nat := none
  level : Bool := false
  since : Option Int := none
  badSince : Option Nat := none
  goodSince : Option Nat := none
  missed : Nat := 0
  /-- Movement of the last mirror, on a standby (R215). -/
  moving : Bool := false
deriving DecidableEq, Repr

/-- What the part does to a ball (R595): no drive and no pull, a weak pull, a level, a level that changes within a base tick and its
exact complement (R203), an open drain released, and the levels that a transfer in progress drives one after another (true is high;
for an open drain, released). -/
inductive Pin where
  | highZ | pullDown | pullUp | low | high | moving | complement | released | levels (l : List Bool)
deriving DecidableEq, Repr

/-- ACT: its channels, and the tick at which the runtime stopped (R213). -/
structure ActSt where
  chans : List (Nat × ActCh) := []
  /-- The actions of this base tick wait for the frame boundary at it, whose commits they take (R198, R202). -/
  tickDue : Bool := false
  stopAt : Option Nat := none
deriving DecidableEq, Repr

/-- One fan beside its registers (R222-R240): the state of R228, its timers in ticks of `State.now`, the edges of a kick or of a
stretch window, the last current, the slewed Q and the channel choice. -/
structure FanCh where
  state : Nat := 0
  retry : Nat := 0
  since : Int := 0
  delay : Nat := 0
  edges : Nat := 0
  firstEdge : Nat := 0
  lastEdge : Nat := 0
  window : Option Nat := none
  width : Nat := 0
  winDuty : Nat := 0
  lastDuty : Nat := 0
  restarted : Bool := false
  fromRestart : Bool := false
  stalls : Nat := 0
  inorm : Option Int := none
  q : Nat := 0
  slew : Bool := false
  buddy : Bool := false
  goodSince : Option Nat := none
  onTicks : Nat := 0
  /-- The switching period in progress: its drive duty, its on-time and its length P in TBO cycles (R222). -/
  pinDuty : Nat := 0
  pinHigh : Nat := 0
  pinPeriod : Nat := 655360
  /-- The fan keeps its chill state until its first commit after chill (R135). -/
  chill : Bool := false
deriving DecidableEq, Repr

/-- One watched input of the SHDN path (R241-R244): consecutive hot conversions, and since when every conversion read open or
short, or in range at or above REL. -/
structure ShdnIn where
  hot : Nat := 0
  fail : Bool := false
  failSince : Option Nat := none
  okSince : Option Nat := none
deriving DecidableEq, Repr

/-- FAN: its channels, the time supervision counts from (none before the outputs go live, R246), the last write of FAN_REFRESH
(R240) and the SHDN path. -/
structure FanSt where
  chans : List (Nat × FanCh) := []
  refresh : Option Nat := none
  written : Option Nat := none
  shdn : List ShdnIn := [{}, {}, {}, {}]
  shdnBy : Nat := 0
deriving DecidableEq, Repr

/-- The runtime state of one zone (R176-R185): stepped setpoints and remainders, the dew point, the last guard cap, the schedule
mode, and per alarm how many zone steps its condition has been absent. -/
structure ZoneSt where
  tsp : Int := 0
  rsp : Int := 0
  accT : Nat := 0
  accR : Nat := 0
  dew : Int := 0
  cap : Option Int := none
  absent : List Nat := [0, 0, 0, 0, 0, 0, 0]
deriving DecidableEq, Repr

/-- The zone layer: a zone step is due after FRAME2 (R173); the inputs that had a hit since the last zone step (R183); when each
virtual PV was written (R178); the CO2 values of the last 300 s (R182); schedule modes (R185); ticks spent in chill (R191). -/
structure ZonSt where
  due : Bool := false
  zones : List (Nat × ZoneSt) := []
  hits : List Nat := []
  vpvAt : List (Nat × Option Nat) := []
  co2 : List (Nat × List (Nat × Int)) := []
  sched : List (Nat × Nat) := []
  schedDue : Bool := false
  /-- RTC seconds spent in chill, till the first zone step after it (R191). -/
  chillSecs : Option Nat := none
  /-- What the last zone step wrote, for the mirror of R192: setpoint registers and virtual PVs. -/
  spOut : List (Nat × Word) := []
  vpvOut : List (Nat × Word) := []
deriving DecidableEq, Repr

/-- One key (R554-R561): scans at the new level, debounced press and its tick, PHANTOM, and whether its press wrote an entry. -/
structure KeySt where
  count : Nat := 0
  pressed : Bool := false
  since : Int := 0
  phantom : Bool := false
  wrote : Bool := false
deriving DecidableEq, Repr

/-- One encoder beside its registers (R570, R571): the last sample of A, B and P, samples of the push at a new level, the count
last posted, and the ticks of the last count entry and of the last ENC_ILLEGAL. -/
structure EncSt where
  a : Bool := false
  b : Bool := false
  p : Bool := false
  push : Nat := 0
  posted : Nat := 0
  entryAt : Option Nat := none
  errAt : Option Nat := none
  /-- Sampling has stopped for a chill: the next accepted phase counts no step (R577). -/
  resync : Bool := false
deriving DecidableEq, Repr

/-- KPD beside its registers (R551-R580): its keys, the unlock sequence (KPD_LOCKSEQ reads 0, R569), the last debounced key, and
the ticks from which ENTRYTO, RELOCK and LOCKOUT count. -/
structure KpdSt where
  keys : List (Nat × KeySt) := []
  seqLo : Word := 0
  seqHi : Word := 0
  lastKey : Option Nat := none
  lastScan : Option Nat := none
  compareAt : Int := 0
  pressAt : Int := 0
  lockoutAt : Int := 0
  /-- The tick at which a stop of function 0x003 held the timers (R575). -/
  heldAt : Option Nat := none
  encs : List EncSt := [{}, {}, {}, {}]
deriving DecidableEq, Repr

/-- One ladle channel beside its registers (R466-R482): a descriptor to fetch, the words of the descriptor in progress (SRC, DST,
LENFLAGS, USER; R473), the running checksum, a partial word of SUM, and whether a LINK is still to be read. -/
structure LdlCh where
  fetch : Option Nat := none
  moving : Bool := false
  words : List Word := []
  ck : Nat := 0
  link : Bool := false
deriving DecidableEq, Repr

/-- The ladle's engine (R468, R469, R485, R486, R492): the channel last served at each PRIO, the bursts read and not yet written (channel and
bytes, oldest first), the channel of each transfer to replay, and the channels that chill paused. -/
structure LdlSt where
  chans : List (Nat × LdlCh) := []
  last : List Nat := [15, 15, 15, 15]
  buf : List (Nat × List Byte) := []
  replay : List Nat := []
  chilled : List Nat := []
deriving DecidableEq, Repr

/-- A graft entry that waits for the standby's own evaluation of its slot (R353). -/
structure Graft where
  slot : Nat := 0
  cls : Nat := 0
  tb : Nat := 0
  i : Int := 0
  u : Int := 0
deriving DecidableEq, Repr

/-- The frames of a slot for which R355 and R362 count: out of band and within it for divergence, within CONVBAND for the swap. -/
structure TwinCmp where
  outBand : Nat := 0
  inBand : Nat := 0
  conv : Nat := 0
deriving DecidableEq, Repr

/-- The twin unit beside its registers (R332-R373). Times are ticks of `State.now`: 8,192 TBO cycles are two, 16,384 are four. -/
structure TwnSt where
  /-- The partner leaves TWN_OWN alone, and the level of TWN_ALIVE_IN, as the pins stand (R336). -/
  ownIn : Bool := true
  aliveIn : Bool := false
  ownHighAt : Option Nat := some 0
  aliveLowAt : Option Nat := some 0
  bothLowAt : Option Nat := none
  /-- The condition of R343 has been logged and still stands. -/
  stuckDone : Bool := false
  kickAt : Nat := 0
  forcedAt : Option Nat := none
  driveAt : Option Nat := none
  /-- This chip drives the output pins of the flask (R334). -/
  drives : Bool := false
  relCause : Option Nat := none
  lastTick : Option Nat := none
  ticksFrom : Option Nat := none
  runmap : List Nat := []
  grafts : List Graft := []
  cmp : List (Nat × TwinCmp) := []
  partner : Option Hello := none
  /-- Set digests of R359: C, and the partner's set. -/
  digC : Nat := 0
  digPartner : Nat := 0
  /-- C itself, and which swap-set functions ran under it, for ABORT. -/
  setC : List (Nat × OdVal) := []
  runC : List Nat := []
  swapFns : List Nat := [0xFFFF, 0xFFFF, 0xFFFF, 0xFFFF, 0xFFFF, 0xFFFF, 0xFFFF, 0xFFFF, 0xFFFF, 0xFFFF, 0xFFFF, 0xFFFF, 0xFFFF, 0xFFFF, 0xFFFF, 0xFFFF]
  swapAt : Option Nat := none
  ownDone : Option Bool := none
  peerDone : Option Bool := none
  roleTick : Nat := 0
  zoneAt : Option Nat := none
  seqMirror : Nat := 0
  /-- The tick at which the pour step sent HELLO (R357). -/
  helloAt : Option Nat := none
  /-- Members of CONFIG tokens taken so far, and whether formation has got past step 4 (R356): the candidate has taken the committed
  set, the active has sent its own. -/
  config : List (Nat × OdVal) := []
  configDone : Bool := false
  /-- TBCOUNT of the TICK that the next base tick loads, with the tick phase (R351). -/
  reload : Option Nat := none
  /-- Formation runs on this candidate, and it has loaded TBCOUNT from its first TICK (R351, R356). -/
  cand : Bool := false
  aligned : Bool := false
  /-- Swap-set functions started on this chip as the standby of a mixed flask (R366). -/
  started : List Nat := []
  /-- The acknowledge of the next transfer is withheld (R347). -/
  withhold : Bool := false
  /-- Tokens on their way to the partner, the one in progress first, and the transfers that it has made (R344, R346). -/
  tx : List Token := []
  txAt : Nat := 0
  /-- Step 5 of formation waits for CONFIG to have left (R356). -/
  formSend : Bool := false
deriving DecidableEq, Repr

/-- The whole machine. -/
structure State where
  /-- The commands that wait, first in, first out. -/
  pending : List Instr
  variant : Variant
  fuse : Fuse
  /-- Every register of R405's units by bus address; an unlisted one holds its reset value. -/
  regs : List (Nat × Word)
  /-- Every memory byte by address; an unlisted one reads `memDefault` (log entry 2). -/
  mem : List Host.Cell
  /-- Base ticks since the model's reset; deadlines are counted on it. -/
  now : Nat
  /-- How many free values have been drawn (log entry 7): the model's own field, not the spec's. -/
  free : Nat
  /-- What the last command that reads a register returned. -/
  lastRead : Word
  held : List HeldEntry
  log : LogSt
  tb : TbSt
  thm : ThmSt
  rtc : RtcSt
  knb : KnbSt
  pwr : PwrSt
  hst : HstSt
  buses : List BusSt
  polls : List (Nat × PollSt)
  od : OdSt
  nv : NvSt
  net : NetSt
  acq : AcqSt
  cen : CenSt
  act : ActSt
  fan : FanSt
  zon : ZonSt
  kpd : KpdSt
  ldl : LdlSt
  twn : TwnSt
deriving DecidableEq, Repr

/-- The machine right after a power-on reset of a WV7264: shakeout is in step 1 (R377, R378, R383), every register holds its
reset value, nothing is listed in memory and no command waits. -/
def State.reset : State where
  pending := []
  variant := .wv7264
  fuse := {}
  regs := []
  mem := []
  now := 0
  free := 0
  lastRead := 0
  held := []
  log := {}
  tb := {}
  thm := {}
  rtc := {}
  knb := {}
  pwr := {}
  hst := {}
  buses := [{}, {}, {}]
  polls := []
  od := {}
  nv := {}
  net := {}
  acq := {}
  cen := {}
  act := {}
  fan := {}
  zon := {}
  kpd := {}
  ldl := {}
  twn := {}

end Sys2Proof.Machine
end

