-- ==== Sys2Proof/Machine/Ops.lean ====
section
/-! DEFINITION. The named operations over registers, memory, free values and time that every command is written with. -/

namespace Sys2Proof.Machine

/-- The value a register holds (its stored value; what a read returns of a computed register is `State.regValue`). -/
def State.reg (s : State) (a : Nat) : Word := Tab.get regReset s.regs a

/-- The state with a register holding v. -/
def State.setReg (s : State) (a : Nat) (v : Word) : State := { s with regs := Tab.put regReset s.regs a v }

/-- A field of a register: w bits at bit lo. -/
def State.rf (s : State) (a lo w : Nat) : Nat := fld (s.reg a) lo w

/-- One bit of a register. -/
def State.rb (s : State) (a i : Nat) : Bool := bitOf (s.reg a) i

/-- The state with a field of a register replaced. -/
def State.setRf (s : State) (a lo w v : Nat) : State := s.setReg a (putFld (s.reg a) lo w v)

/-- The state with a bit of a register set or cleared. -/
def State.setRb (s : State) (a i : Nat) (b : Bool) : State := s.setRf a i 1 (if b then 1 else 0)

/-- The state with bits of a register set. -/
def State.orReg (s : State) (a : Nat) (m : Word) : State := s.setReg a (s.reg a ||| m)

/-- The state with bits of a register cleared. -/
def State.clrReg (s : State) (a : Nat) (m : Word) : State := s.setReg a (s.reg a &&& ~~~m)

/-- A counter register one higher, stopping at its largest value (a register that saturates). -/
def State.incSat (s : State) (a k : Nat) : State := s.setReg a (satAdd (s.reg a) k)

/-- A counter register one higher, modulo 2^32 (a register that wraps). -/
def State.incWrap (s : State) (a : Nat) : State := s.setReg a (s.reg a + 1)

/-- The first bytes of the Knab header as delivered: magic, layout version, mode copy (R494; log entry 11). -/
def knabHeaderHead : List Byte := [0x42, 0x41, 0x4E, 0x4B, 0x01, 0x00]

/-- The CRC-32 of that header with every spare free (R494, R495). -/
def knabHeaderCrc : List Byte := [0x2A, 0x26, 0xDC, 0xDD]

/-- What an unlisted byte of memory reads as (log entry 2): 0, but for the header and the unassigned address of a Knab store as
delivered (R304, R494). -/
def memDefault (a : Nat) : Byte :=
  if a < 0x50000000 || 0x5000004A ≤ a then 0
  else if a < 0x50000006 then knabHeaderHead.getD (a - 0x50000000) 0
  else if a < 0x50000026 then 0xFF
  else if a < 0x5000002A then knabHeaderCrc.getD (a - 0x50000026) 0
  else if a = 0x50000048 then 0xFF
  else if a = 0x50000049 then 0x03
  else 0

/-- The canonical form of memory: addresses strictly rising, no entry equal to what an unlisted byte reads as. -/
def Memory.wf (m : List Host.Cell) : Bool := Tab.wf memDefault m

/-- One byte of memory. -/
def State.byte (s : State) (a : Nat) : Byte := Tab.get memDefault s.mem a

/-- Memory with one byte written. -/
def State.setByte (s : State) (a : Nat) (v : Byte) : State := { s with mem := Tab.put memDefault s.mem a v }

/-- n bytes of memory from an address. -/
def State.bytes (s : State) (a n : Nat) : List Byte := (List.range n).map (fun i => s.byte (a + i))

/-- Memory with bytes written from an address on. -/
def State.setBytes (s : State) (a : Nat) : List Byte → State
  | [] => s
  | b :: t => (s.setByte a b).setBytes (a + 1) t

/-- A 32-bit word of memory, little-endian (R18). -/
def State.word (s : State) (a : Nat) : Word := BitVec.ofNat 32 (ofLe (s.bytes a 4))

/-- Memory with a 32-bit word written, little-endian (R18). -/
def State.setWord (s : State) (a : Nat) (v : Word) : State := s.setBytes a (leBytes 4 v.toNat)

/-- A word of memory read as a signed number. -/
def State.sword (s : State) (a : Nat) : Int := (s.word a).toInt

/-- Memory with a word written as a signed number, saturated to 32 bits. -/
def State.setSword (s : State) (a : Nat) (v : Int) : State := s.setWord a (ofInt32 v)

/-- The address of virtual PV v (R131). -/
def vpvAddr (v : Nat) : Nat := 0x40031000 + 4 * v

/-- A virtual PV written, with the tick of the write for R178. -/
def State.setVpv (s : State) (v : Nat) (w : Word) : State :=
  { (s.setWord (vpvAddr v) w) with zon := { s.zon with vpvAt := Tab.put (fun _ => none) s.zon.vpvAt v (some s.now) } }

/-- The address of setpoint register i (R131). -/
def spAddr (i : Nat) : Nat := 0x40030000 + 4 * i

/-- The writes that wait for the next zone mirror, with one more: the last write of a register stands (R192). -/
def noteWrite (t : List (Nat × Word)) (i : Nat) (w : Word) : List (Nat × Word) := t.filter (fun p => p.1 != i) ++ [(i, w)]

/-- A setpoint register written by the runtime, with the write kept for the zone mirror (R192). -/
def State.spWrite (s : State) (i : Nat) (w : Word) : State :=
  { (s.setWord (spAddr i) w) with zon := { s.zon with spOut := noteWrite s.zon.spOut i w } }

/-- A virtual PV written by the runtime, with the write kept for the zone mirror (R192, R441). -/
def State.vpvWrite (s : State) (v : Nat) (w : Word) : State :=
  let s := s.setVpv v w
  { s with zon := { s.zon with vpvOut := noteWrite s.zon.vpvOut v w } }

/-- Memory with every byte of lo..hi-1 cleared to 0. -/
def State.clearMem (s : State) (lo hi : Nat) : State :=
  { s with mem := Tab.keep s.mem (fun a => !(decide (lo ≤ a) && decide (a < hi))) }

/-- The registers of which a test holds keep their values, all others take their reset values. -/
def State.keepRegs (s : State) (f : Nat → Bool) : State := { s with regs := Tab.keep s.regs f }

/-- A free word, and the state with the draw counted (log entry 7). -/
def State.drawWord (s : State) : Word × State := (Config.freeWord s.free, { s with free := s.free + 1 })

/-- A free number below n (0 where n is 0), and the state with the draw counted (log entry 7). -/
def State.drawNat (s : State) (n : Nat) : Nat × State := (Config.freeNat s.free % n, { s with free := s.free + 1 })

/-- The low 32 bits of TBCOUNT: an event timestamp (R34). -/
def State.stamp (s : State) : Nat := s.tb.count % 2 ^ 32

/-- Base ticks of a number of milliseconds (R29: 250 us each). -/
def ticksOfMs (ms : Nat) : Nat := 4 * ms

/-- Base ticks of a number of seconds (R30: 4,000 a second). -/
def ticksOfSec (sec : Nat) : Nat := 4000 * sec

/-- SYS_ID of a variant (R2). -/
def sysIdOf : Variant → Word
  | .wv7264 => 0x726400A1
  | .wv7248 => 0x724800A1
  | .wv7232 => 0x723200A1

/-- SYS_UNITS of a variant (R4). -/
def sysUnitsOf : Variant → Word
  | .wv7264 => 0x0FFFFFFF
  | .wv7248 => 0x0FFEFFFF
  | .wv7232 => 0x000EFFFF

/-- Is a presence unit present: bit n of SYS_UNITS (R3). -/
def State.present (s : State) (n : Nat) : Bool := bitOf (sysUnitsOf s.variant) n

/-- Does the host own register unit n (R48)? -/
def State.hostOwns (s : State) (n : Nat) : Bool := s.rb Reg.sysOwn n

/-- Counts of the parts that a variant carries (R1). -/
def State.nSlots (s : State) : Nat := if s.present 21 then 1024 else 512
def State.nZones (s : State) : Nat := if s.present 22 then 64 else 32
def State.nActs (s : State) : Nat := if s.present 23 then 32 else 16
def State.nFans (s : State) : Nat := if s.present 24 then 16 else 8
def State.nTraces (s : State) : Nat := if s.present 21 then 4 else 2
def State.nEncs (s : State) : Nat := if s.present 25 then 4 else 2
def State.nSlices (s : State) : Nat := if s.present 20 then 4 else 2

/-- The bit of a SYS_STATUS hit, with its address and whether the host made the access (R5, R53, R403, R404). -/
def State.hit (s : State) (bit addr : Nat) (host : Bool) : State :=
  ((s.setRb Reg.sysStatus bit true).setRb Reg.sysStatus 4 host).setReg Reg.sysHitaddr (BitVec.ofNat 32 addr)

/-- A list of Nat-keyed records: the record at a key, or the default. -/
def recGet {α : Type} (d : α) (t : List (Nat × α)) (k : Nat) : α := Tab.get (fun _ => d) t k

/-- A list of Nat-keyed records with one replaced. -/
def recPut {α : Type} [DecidableEq α] (d : α) (t : List (Nat × α)) (k : Nat) (v : α) : List (Nat × α) :=
  Tab.put (fun _ => d) t k v

/-- Doing something to the state for each number of a list, in order. -/
def State.forEach (s : State) (l : List Nat) (f : State → Nat → State) : State := l.foldl f s

end Sys2Proof.Machine
end

