-- ==== Sys2Proof/Machine/Flags.lean ====
section
/-! DEFINITION. Event latches, rings, log entries and status: every flag computation that the units share (13_events_rings, 20_faults). -/

namespace Sys2Proof.Machine

/-! ### Rings (R453-R460, R622) -/

/-- The entry count of a ring, log2 (RNG_n_CFG.DEPTH). -/
def State.ringDepth (s : State) (n : Nat) : Nat := s.rf (Reg.rngCfg n) 0 4

/-- The bytes of an entry of a ring (RNG_n_CFG.ESIZE). -/
def State.ringEsize (s : State) (n : Nat) : Nat := 4 * 2 ^ s.rf (Reg.rngCfg n) 4 2

def State.ringOn (s : State) (n : Nat) : Bool := s.rb (Reg.rngCfg n) 8

def State.ringHead (s : State) (n : Nat) : Nat := s.rf (Reg.rngHead n) 0 16

def State.ringTail (s : State) (n : Nat) : Nat := s.rf (Reg.rngTail n) 0 16

/-- count = (HEAD - TAIL) mod 65,536 (R456). -/
def State.ringCount (s : State) (n : Nat) : Nat := (s.ringHead n + 65536 - s.ringTail n) % 65536

def State.ringFull (s : State) (n : Nat) : Bool := s.ringCount n == 2 ^ s.ringDepth n

/-- The address of index i of a ring (R456). -/
def State.ringAddr (s : State) (n i : Nat) : Nat :=
  (s.reg (Reg.rngBase n)).toNat + i % 2 ^ s.ringDepth n * s.ringEsize n

/-- Rings whose producer is a unit (R453). -/
def ringUnitProduced (n : Nat) : Bool := n ∈ [0, 1, 4, 5, 6, 8, 10, 19, 20, 21, 23, 24, 25]

/-- Rings whose consumer is a unit (R453). -/
def ringUnitConsumed (n : Nat) : Bool := n ∈ [7, 9, 11]

/-- Is the host the producer of a ring (R453, DIR of rings 26-29)? -/
def State.ringHostProduces (s : State) (n : Nat) : Bool :=
  n == 12 || (26 ≤ n && n ≤ 29 && !s.rb (Reg.rngCfg n) 11)

/-- Is the host the consumer of a ring? -/
def State.ringHostConsumes (s : State) (n : Nat) : Bool :=
  n == 13 || (26 ≤ n && n ≤ 29 && s.rb (Reg.rngCfg n) 11)

/-- A producer that cannot wait acts as DROP_NEW under STALL_PRODUCER (R459). -/
def ringCannotWait (n : Nat) : Bool := n ∈ [0, 1, 4, 5, 6, 8, 20, 21, 23, 24]

/-- The rings that are enabled and not empty (RNG_STAT_NE), and those that are full (RNG_STAT_FULL). -/
def State.ringNeMask (s : State) : Word :=
  (List.range 32).foldl (fun m n => putBit m n (s.ringOn n && s.ringCount n != 0)) 0

def State.ringFullMask (s : State) : Word :=
  (List.range 32).foldl (fun m n => putBit m n (s.ringFull n)) 0

/-- The causes of events 32 and 33 for one side (R460): the host's, or the runtime's and the units'. -/
def State.ringNeCause (s : State) (host : Bool) : Bool :=
  (List.range 32).any (fun n => s.rb (Reg.rngCfg n) 9 && s.ringCount n != 0 &&
    (s.ringHostConsumes n == host))

def State.ringFullCause (s : State) (host : Bool) : Bool :=
  (List.range 32).any (fun n => s.rb (Reg.rngCfg n) 10 && s.ringFull n &&
    (s.ringHostProduces n == host))

/-! ### Event latches (R445-R452) -/

/-- The sources a variant lacks (R452). -/
def eventAbsent (v : Variant) (n : Nat) : Bool :=
  match v with
  | .wv7264 => false
  | .wv7248 => 44 ≤ n && n ≤ 47
  | .wv7232 => (38 ≤ n && n ≤ 40) || (44 ≤ n && n ≤ 47)

/-- The bits of the HI registers of EVT that a variant has (R452). -/
def eventHiMask (v : Variant) : Word :=
  match v with
  | .wv7264 => 0xFFFFFFFF
  | .wv7248 => 0xFFFF0FFF
  | .wv7232 => 0xFFFF0E3F

/-- Setting the core latch of a source. -/
def State.latchCore (s : State) (n : Nat) : State :=
  if eventAbsent s.variant n then s
  else if n < 32 then s.setRb Reg.evtPendLo n true else s.setRb Reg.evtPendHi (n - 32) true

/-- Setting the host latch of a source. -/
def State.latchHost (s : State) (n : Nat) : State :=
  if eventAbsent s.variant n then s
  else if n < 32 then s.setRb Reg.evtHpendLo n true else s.setRb Reg.evtHpendHi (n - 32) true

/-- A source has fired, as KIND 6 of the trace channels notes it (R156). -/
def State.traceNote (s : State) (n : Nat) : State :=
  let c := s.cen.notes
  { s with cen := { s.cen with notes := { c with count := c.count + 1, firedAt := recPut 0 c.firedAt n (c.count + 1) } } }

/-- Event source n fires: both latches are set, whatever the masks (R446, R447). -/
def State.fire (s : State) (n : Nat) : State :=
  if eventAbsent s.variant n then s else ((s.latchCore n).latchHost n).traceNote n

/-- A chip strapped COPE or DRAG on a part with TWN (R332, R13). -/
def State.isTwin (s : State) : Bool := s.present 16 && (s.rf Reg.twnStat 0 2 == 1 || s.rf Reg.twnStat 0 2 == 2)

/-- The role of a flask chip (R334): 0 UNFORMED, 1 STANDBY, 2 ACTIVE. -/
def State.role (s : State) : Nat := s.rf Reg.twnStat 2 2

/-- Does this chip act for the device: a SOLO chip, or the ACTIVE chip of a flask (R333, R334)? -/
def State.isActive (s : State) : Bool := !s.isTwin || s.role == 2

/-- The standby chip of a flask (R334). -/
def State.isStandby (s : State) : Bool := s.isTwin && s.role == 1

/-- A token for the partner joins the queue of the link in order of priority (R346). While the link is down only those leave that do
not need it up (R348). -/
def State.sendToken (s : State) (t : Token) : State :=
  if s.isTwin && (s.rb Reg.twnStat 6 || tokenAlways t) then { s with twn := { s.twn with tx := tokenQueue t s.twn.tx } } else s

/-- A port has stopped, or PLCA is enabled and no BEACON is seen: the cause of events 37 and 40 (R301, R445). -/
def State.portFaulty (s : State) (p : Nat) : Bool :=
  s.rb (Reg.netpStat p) 3 || (s.rb (Reg.netpCfg p) 0 && !s.rb (Reg.netpStat p) 1)

/-- The cause of a level source, for the core side or the host side (R445, R460, R375). -/
def State.levelCause (s : State) (n : Nat) (host : Bool) : Bool :=
  match n with
  | 32 => s.ringNeCause host
  | 33 => s.ringFullCause host
  | 37 => s.portFaulty 0
  | 40 => s.portFaulty 1
  | 45 => s.isTwin && !s.rb Reg.twnStat 6 && s.rb Reg.twnStat 7 && s.pwr.good && s.pwr.held.isNone
  | 52 => (s.rf Reg.pwrStat 3 3 != 0) && s.pwr.good && s.pwr.held.isNone
  | _ => false

/-- The level sources of R445. -/
def levelSources : List Nat := [32, 33, 37, 40, 45, 52]

/-- The latches of source n follow its causes on the core side and on the host side; a level source counts as fired for the trace
channels while its core cause is true (R156; log entry 40). -/
def State.levelLatch (s : State) (n : Nat) : State :=
  let s := if s.levelCause n false then (s.latchCore n).traceNote n else s
  if s.levelCause n true then s.latchHost n else s

/-- While the cause of a level source is true its latches are set, and are set again after any clearing (R446). -/
def State.settle (s : State) : State := s.forEach levelSources State.levelLatch

/-- The end of every command: the level latches follow their causes, and the command answers its next state. -/
def State.done (s : State) : Host.Outcome State Fault Refusal := .next s.settle

/-- HIRQ is asserted while a pending host latch is enabled (R450). -/
def State.hirq (s : State) : Bool :=
  (s.reg Reg.evtHpendLo &&& s.reg Reg.evtMaskHostLo) != 0 || (s.reg Reg.evtHpendHi &&& s.reg Reg.evtMaskHostHi) != 0

/-- Is a core latch pending and enabled in EVT_MASK_CORE? -/
def State.coreOffers (s : State) (n : Nat) : Bool :=
  if n < 32 then s.rb Reg.evtPendLo n && s.rb Reg.evtMaskCoreLo n
  else s.rb Reg.evtPendHi (n - 32) && s.rb Reg.evtMaskCoreHi (n - 32)

/-- The priority of a source (EVT_PRIOr). -/
def State.eventPrio (s : State) (n : Nat) : Nat := s.rf (Reg.evtPrio (n / 16)) (2 * (n % 16)) 2

/-- EVT_NEXT: the offered source, highest priority first and lowest number among equals (R451). -/
def State.evtNext (s : State) : Word :=
  let offered := (List.range 64).filter s.coreOffers
  match [3, 2, 1, 0].findSome? (fun p => offered.find? (fun n => s.eventPrio n == p)) with
  | some n => BitVec.ofNat 32 (n + 256)
  | none => 0

/-! ### Ring errors and entries -/

/-- An entry in RNG_ERR: cause and ring, and event 34 (R454, R457, R460). -/
def State.ringError (s : State) (cause n : Nat) : State :=
  (s.setReg Reg.rngErr (BitVec.ofNat 32 (0x80000000 + n * 256 + cause))).fire 34

/-- An entry dropped or overwritten: RNG_n_DROP counts, and the ring's bit in RNG_DROPF sets (R459). -/
def State.ringDropped (s : State) (n : Nat) : State := (s.incSat (Reg.rngDrop n) 1).setRb Reg.rngDropf n true

/-- An entry written at HEAD, and HEAD advanced, in one action (R458). -/
def State.ringPush (s : State) (n : Nat) (e : List Byte) : State :=
  (s.setBytes (s.ringAddr n (s.ringHead n)) e).setRf (Reg.rngHead n) 0 16 (s.ringHead n + 1)

/-- An entry that a unit or the runtime offers to a ring (R455, R459, R622). -/
def State.ringOffer (s : State) (n : Nat) (e : List Byte) : State :=
  if !s.ringOn n then s.ringDropped n
  else if e.length != s.ringEsize n then (s.ringDropped n).ringError 7 n
  else if !s.ringFull n then s.ringPush n e
  else
    match s.rf (Reg.rngCfg n) 6 2 with
    | 1 => ((s.setRf (Reg.rngTail n) 0 16 (s.ringTail n + 1)).ringPush n e).ringDropped n
    | 2 => if ringCannotWait n then s.ringDropped n else { s with held := s.held ++ [{ ring := n, data := e }] }
    | _ => s.ringDropped n

/-- The event that goes with a ring 25 entry (R488): 31 for a slag, else 30. -/
def ladleEvent (e : List Byte) : Nat := if e.getD 1 0 = 2 then 31 else 30

/-- The held entries of a ring that fit are written, first in first out, when TAIL has advanced (R459); one of ring 13 is a response
(event 41), and one of ring 25 comes with its event (R477). -/
def State.ringUnstall (s : State) (n : Nat) : State :=
  s.held.foldl (fun s h =>
    if h.ring == n && !s.ringFull n && s.held.any (fun x => x == h) then
      let s := { (s.ringPush n h.data) with held := s.held.erase h }
      if n = 13 then s.fire 41 else if n = 25 then s.fire (ladleEvent h.data) else s
    else s) s

/-- EN written as 0 while a producer waits: the held entries are dropped and counted (R462). -/
def State.ringFlush (s : State) (n : Nat) : State :=
  let l := s.held.filter (fun h => h.ring == n)
  let k := l.length
  let s := { s with held := s.held.filter (fun h => h.ring != n) }
  let s := if n = 25 then l.foldl (fun s h => s.fire (ladleEvent h.data)) s else s
  if k = 0 then s else (s.incSat (Reg.rngDrop n) k).setRb Reg.rngDropf n true

/-! ### Faults and log entries (R613-R620) -/

/-- The severity of a fault code (R620). -/
def faultSev (code : Nat) : Nat :=
  match code with
  | 0x0102 | 0x0103 | 0x0203 | 0x0302 | 0x0303 | 0x0505 | 0x0506 | 0x0801 | 0x0802 | 0x0803 | 0x0807 | 0x0808 | 0x080A
  | 0x0903 | 0x0B01 | 0x0B02 | 0x0B03 | 0x0B04 | 0x0D06 | 0x0E02 | 0x0F01 | 0x0F03 | 0x0F05 | 0x0F06 | 0x0F07 | 0x1002 => 3
  | 0x0205 | 0x0301 | 0x0305 | 0x0306 | 0x0604 | 0x0901 | 0x0902 | 0x0904 | 0x0905 | 0x0A04 | 0x0A05 | 0x0A06 | 0x0A07
  | 0x0B05 | 0x0B06 | 0x0C02 | 0x0C03 | 0x0D05 => 1
  | _ => 2

/-- The step of shakeout in progress (PWR_SHAKE.STEP). -/
def State.shakeStep (s : State) : Nat := s.rf Reg.pwrShake 0 4

/-- Is the part in chill: PWR_STAT.STATE is CHILL and no wake event has come (R398, R399)? -/
def State.asleep (s : State) : Bool := s.rf Reg.pwrStat 0 2 == 2 && s.pwr.wakeTicks.isNone

/-- Is the part neither in reset nor in chill? -/
def State.awake (s : State) : Bool := s.pwr.good && s.pwr.held.isNone && !s.asleep

/-- Does the runtime run: entered at step 8, not warned by the watchdog (R213, R380), the part not in reset or chill? -/
def State.runtimeRuns (s : State) : Bool := s.awake && s.pwr.rtIn && !s.rb Reg.pwrStat 2

/-- The flags byte of an entry at detection (R615), without CLEAR and LOST. -/
def State.logFlags (s : State) (sev : Nat) : Nat :=
  (if s.shakeStep < 12 then 0x10 else 0) + (if s.rb Reg.rtcStat 0 || s.rb Reg.rtcCtrl 0 then 0x20 else 0) + sev * 64

/-- An entry joins those that wait to be written; a fault past 32 held while the runtime does not run is lost (R618). -/
def State.logAdd (s : State) (e : LogRec) : State :=
  if !e.isEvent && !s.runtimeRuns && 32 ≤ s.log.pending.countP (fun r => !r.isEvent) then { s with log := { s.log with lost := true } }
  else { s with log := { s.log with pending := s.log.pending ++ [e] } }

/-- A fault is logged with its parameter (R614, R620). -/
def State.fault (s : State) (code param : Nat) : State :=
  s.logAdd { isEvent := false, code := code, flags := s.logFlags (faultSev code), tick := s.stamp, rtcsec := s.rtc.epoch % 2 ^ 32,
             param := param % 2 ^ 32 }

/-- A happening of R616 joins the event log: CODE 0x00nn for source nn. -/
def State.happen (s : State) (src param : Nat) : State :=
  s.logAdd { isEvent := true, code := src, flags := s.logFlags 0, tick := s.stamp, rtcsec := s.rtc.epoch % 2 ^ 32,
             param := param % 2 ^ 32 }

/-- A fault has cleared: an event log entry with its code and CLEAR set (R616). -/
def State.faultClear (s : State) (code param : Nat) : State :=
  s.logAdd { isEvent := true, code := code, flags := s.logFlags 0 + 4, tick := s.stamp, rtcsec := s.rtc.epoch % 2 ^ 32,
             param := param % 2 ^ 32 }

/-! ### Who may write a register (R5, R53, R54) -/

/-- The result of a host word is recorded where it is not READY (R419, HST_HERR, HST_STAT.HOSTERR). -/
def State.hostResult (s : State) (code : Nat) : State :=
  if code = 0xA5 then s
  else
    let s := { s with hst := { s.hst with result := if s.hst.result = 0 then code else s.hst.result } }
    let s := s.setRb Reg.hstStat 2 true
    if s.rf Reg.hstHerr 0 8 = 0 then s.setRf Reg.hstHerr 0 8 code else s.setRb Reg.hstHerr 8 true

/-- A write that takes effect only after every earlier write of its initiator (R458, R479): the host's joins its write queue while words
wait there, or is refused with the code of a full queue; the runtime's waits for its stalled Knab writes. -/
def State.behind (s : State) (who : Init) (a : Nat) (v : Word) (f : State → State) : State :=
  match who with
  | .host =>
    if s.hst.queue.isEmpty then f s
    else if s.hst.queue.length < 16 then { s with hst := { s.hst with queue := s.hst.queue ++ [(a, v)] } }
    else s.hostResult 0xE6
  | .runtime =>
    if s.knb.stalled.isEmpty && s.knb.after.isEmpty then f s
    else { s with knb := { s.knb with after := s.knb.after ++ [(a, v)] } }
  | .ladle => f s

/-- A register write of unit u by an initiator: an absent unit ignores it (R5), a host that does not own the unit is
refused (R53), otherwise it acts. `addr` is the register's address. -/
def State.guardWrite (s : State) (who : Init) (u addr : Nat) (f : State → State) : State :=
  if !s.present u then s.hit 0 addr (who == .host)
  else if who == .host && !s.hostOwns u then s.hit 1 addr true
  else f s

/-- A read of a register that clears on reading: the value returns, and it clears unless the host reads a unit it does not
own (R52). `m` is the field that clears. -/
def State.readClear (s : State) (who : Init) (u addr : Nat) (m : Word) : State :=
  if !s.present u then { (s.hit 0 addr (who == .host)) with lastRead := 0 }
  else
    let v := s.reg addr
    let s := { s with lastRead := v }
    if who == .host && !s.hostOwns u then s else s.clrReg addr m

end Sys2Proof.Machine
end

