-- ==== Sys2Proof/Machine/OdTable.lean ====
section
/-! DEFINITION. The object dictionary's members, one row per member or run of members of the object tables (R254-R262 and the object table of each chapter), with type, access, write role, flags, default and range. -/

namespace Sys2Proof.Machine

/-- The range of a member's values, beside its type's (R257). -/
inductive OdRange where
  | any
  | between (lo hi : Int)
  | oneOf (l : List Int)
  /-- -59 to -1 or 1 to 59 (03.000.0A). -/
  | nudge
  /-- lo-hi, or one further value that stands for none. -/
  | orNone (lo hi none : Int)
  /-- A source word without reserved bits (R110, R623). -/
  | source
  /-- A source word with SHIFT 0 too (11.s.08-0B, R623). -/
  | tap
  /-- A destination word without reserved bits (R113, R623). -/
  | dest
  /-- A device address 0x000-0x3FE with node 0-30 (01.000.02). -/
  | addr
deriving DecidableEq, Repr

/-- One row of an object table: instances i0-i1, members m0-m1. -/
structure OdRow where
  c : Nat
  i0 : Nat
  i1 : Nat
  m0 : Nat
  m1 : Nat
  typ : Nat
  rd : Bool
  wr : Bool
  role : Nat
  stop : Bool
  persist : Bool
  shared : Bool
  dflt : OdVal
  range : OdRange
deriving DecidableEq, Repr

/-- Class 01. -/
def OdRow.class01 : List OdRow := [
  { c := 0x1, i0 := 0x0, i1 := 0x0, m0 := 0x0, m1 := 0x0, typ := 4, rd := true, wr := false, role := 0, stop := false, persist := false, shared := false, dflt := .num 0, range := .any },
  { c := 0x1, i0 := 0x0, i1 := 0x0, m0 := 0x1, m1 := 0x1, typ := 5, rd := true, wr := false, role := 0, stop := false, persist := false, shared := false, dflt := .num 0, range := .any },
  { c := 0x1, i0 := 0x0, i1 := 0x0, m0 := 0x2, m1 := 0x2, typ := 3, rd := true, wr := true, role := 3, stop := false, persist := true, shared := false, dflt := .num 1023, range := .addr },
  { c := 0x1, i0 := 0x0, i1 := 0x0, m0 := 0x3, m1 := 0x3, typ := 2, rd := true, wr := false, role := 0, stop := false, persist := false, shared := false, dflt := .num 0, range := .any },
  { c := 0x1, i0 := 0x0, i1 := 0x0, m0 := 0x4, m1 := 0x4, typ := 4, rd := true, wr := false, role := 0, stop := false, persist := false, shared := false, dflt := .num 0, range := .any },
  { c := 0x1, i0 := 0x0, i1 := 0x0, m0 := 0x5, m1 := 0x5, typ := 4, rd := true, wr := false, role := 0, stop := false, persist := false, shared := false, dflt := .num 0, range := .any },
  { c := 0x1, i0 := 0x0, i1 := 0x0, m0 := 0x6, m1 := 0x6, typ := 4, rd := true, wr := true, role := 2, stop := false, persist := false, shared := false, dflt := .num 0, range := .any },
  { c := 0x1, i0 := 0x0, i1 := 0x0, m0 := 0x7, m1 := 0x7, typ := 13, rd := true, wr := true, role := 2, stop := false, persist := true, shared := false, dflt := .bytes [], range := .any },
  { c := 0x1, i0 := 0x0, i1 := 0x0, m0 := 0x8, m1 := 0x8, typ := 4, rd := true, wr := false, role := 0, stop := false, persist := false, shared := false, dflt := .num 0, range := .any }]

/-- Class 02. -/
def OdRow.class02 : List OdRow := [
  { c := 0x2, i0 := 0x0, i1 := 0x0, m0 := 0x0, m1 := 0x0, typ := 4, rd := true, wr := false, role := 0, stop := false, persist := false, shared := false, dflt := .num 0, range := .any },
  { c := 0x2, i0 := 0x0, i1 := 0x0, m0 := 0x1, m1 := 0x1, typ := 5, rd := true, wr := false, role := 0, stop := false, persist := false, shared := false, dflt := .num 0, range := .any },
  { c := 0x2, i0 := 0x0, i1 := 0x0, m0 := 0x2, m1 := 0x2, typ := 5, rd := true, wr := false, role := 0, stop := false, persist := false, shared := false, dflt := .num 0, range := .any },
  { c := 0x2, i0 := 0x0, i1 := 0x0, m0 := 0x3, m1 := 0x3, typ := 3, rd := true, wr := true, role := 2, stop := false, persist := true, shared := false, dflt := .num 0, range := .any },
  { c := 0x2, i0 := 0x0, i1 := 0x0, m0 := 0x4, m1 := 0x4, typ := 3, rd := true, wr := false, role := 0, stop := false, persist := false, shared := false, dflt := .num 0, range := .any },
  { c := 0x2, i0 := 0x0, i1 := 0x0, m0 := 0x10, m1 := 0x1F, typ := 3, rd := true, wr := false, role := 0, stop := false, persist := false, shared := false, dflt := .num 65535, range := .any }]

/-- Class 03. -/
def OdRow.class03 : List OdRow := [
  { c := 0x3, i0 := 0x0, i1 := 0x0, m0 := 0x0, m1 := 0x0, typ := 5, rd := true, wr := false, role := 0, stop := false, persist := false, shared := false, dflt := .num 0, range := .any },
  { c := 0x3, i0 := 0x0, i1 := 0x0, m0 := 0x1, m1 := 0x1, typ := 5, rd := false, wr := true, role := 2, stop := false, persist := false, shared := false, dflt := .num 0, range := .between 0 31556995199 },
  { c := 0x3, i0 := 0x0, i1 := 0x0, m0 := 0x2, m1 := 0x9, typ := 12, rd := true, wr := false, role := 0, stop := false, persist := false, shared := false, dflt := .num 0, range := .any },
  { c := 0x3, i0 := 0x0, i1 := 0x0, m0 := 0xA, m1 := 0xA, typ := 6, rd := false, wr := true, role := 2, stop := false, persist := false, shared := false, dflt := .num 0, range := .nudge },
  { c := 0x3, i0 := 0x0, i1 := 0x0, m0 := 0xB, m1 := 0xB, typ := 2, rd := true, wr := true, role := 2, stop := false, persist := true, shared := true, dflt := .num 1, range := .between 0 2 },
  { c := 0x3, i0 := 0x0, i1 := 0x0, m0 := 0xC, m1 := 0xC, typ := 2, rd := true, wr := true, role := 2, stop := false, persist := true, shared := true, dflt := .num 2, range := .between 0 2 },
  { c := 0x3, i0 := 0x0, i1 := 0x0, m0 := 0xD, m1 := 0xD, typ := 2, rd := true, wr := true, role := 2, stop := false, persist := true, shared := true, dflt := .num 50, range := .oneOf [50, 60] },
  { c := 0x3, i0 := 0x0, i1 := 0x0, m0 := 0xE, m1 := 0xE, typ := 4, rd := true, wr := true, role := 2, stop := false, persist := true, shared := true, dflt := .num 86400, range := .between 600 86400 },
  { c := 0x3, i0 := 0x0, i1 := 0x0, m0 := 0xF, m1 := 0xF, typ := 7, rd := true, wr := true, role := 2, stop := false, persist := true, shared := false, dflt := .num 0, range := .between (-20000) 20000 },
  { c := 0x3, i0 := 0x0, i1 := 0x0, m0 := 0x10, m1 := 0x10, typ := 1, rd := true, wr := true, role := 2, stop := false, persist := true, shared := true, dflt := .num 1, range := .any },
  { c := 0x3, i0 := 0x0, i1 := 0x0, m0 := 0x11, m1 := 0x11, typ := 8, rd := true, wr := false, role := 0, stop := false, persist := false, shared := false, dflt := .num 0, range := .any },
  { c := 0x3, i0 := 0x0, i1 := 0x0, m0 := 0x12, m1 := 0x12, typ := 4, rd := true, wr := false, role := 0, stop := false, persist := false, shared := false, dflt := .num 0, range := .any },
  { c := 0x3, i0 := 0x0, i1 := 0x0, m0 := 0x13, m1 := 0x14, typ := 4, rd := true, wr := true, role := 2, stop := false, persist := true, shared := true, dflt := .num 0, range := .any }]

/-- Class 04. -/
def OdRow.class04 : List OdRow := [
  { c := 0x4, i0 := 0x0, i1 := 0x0, m0 := 0x0, m1 := 0x0, typ := 2, rd := true, wr := true, role := 3, stop := false, persist := true, shared := false, dflt := .num 2, range := .between 0 3 },
  { c := 0x4, i0 := 0x0, i1 := 0x0, m0 := 0x1, m1 := 0x1, typ := 14, rd := false, wr := true, role := 3, stop := false, persist := false, shared := false, dflt := .bytes [], range := .between 16 16 },
  { c := 0x4, i0 := 0x0, i1 := 0x0, m0 := 0x2, m1 := 0x2, typ := 1, rd := true, wr := false, role := 0, stop := false, persist := false, shared := false, dflt := .num 0, range := .any },
  { c := 0x4, i0 := 0x0, i1 := 0x0, m0 := 0x3, m1 := 0x3, typ := 4, rd := true, wr := true, role := 3, stop := false, persist := true, shared := false, dflt := .num 0, range := .any },
  { c := 0x4, i0 := 0x0, i1 := 0x0, m0 := 0x4, m1 := 0x4, typ := 14, rd := false, wr := true, role := 3, stop := false, persist := false, shared := false, dflt := .bytes [], range := .between 32 32 },
  { c := 0x4, i0 := 0x0, i1 := 0x0, m0 := 0x5, m1 := 0x5, typ := 1, rd := true, wr := false, role := 0, stop := false, persist := false, shared := false, dflt := .num 0, range := .any },
  { c := 0x4, i0 := 0x1, i1 := 0xFF, m0 := 0x0, m1 := 0x0, typ := 2, rd := true, wr := true, role := 3, stop := false, persist := true, shared := false, dflt := .num 0, range := .between 0 3 },
  { c := 0x4, i0 := 0x1, i1 := 0xFF, m0 := 0x1, m1 := 0x1, typ := 1, rd := true, wr := true, role := 3, stop := false, persist := true, shared := false, dflt := .num 0, range := .any },
  { c := 0x4, i0 := 0x1, i1 := 0xFF, m0 := 0x2, m1 := 0x2, typ := 4, rd := true, wr := true, role := 3, stop := false, persist := true, shared := false, dflt := .num 0, range := .any }]

/-- Class 08. -/
def OdRow.class08 : List OdRow := [
  { c := 0x8, i0 := 0x0, i1 := 0xFFF, m0 := 0x0, m1 := 0x0, typ := 2, rd := true, wr := false, role := 0, stop := false, persist := false, shared := false, dflt := .num 0, range := .any },
  { c := 0x8, i0 := 0x0, i1 := 0xFFF, m0 := 0x1, m1 := 0x1, typ := 2, rd := false, wr := true, role := 2, stop := false, persist := false, shared := false, dflt := .num 0, range := .any },
  { c := 0x8, i0 := 0x0, i1 := 0xFFF, m0 := 0x2, m1 := 0x2, typ := 2, rd := true, wr := false, role := 0, stop := false, persist := false, shared := false, dflt := .num 0, range := .any },
  { c := 0x8, i0 := 0x0, i1 := 0xFFF, m0 := 0x3, m1 := 0x3, typ := 3, rd := true, wr := false, role := 0, stop := false, persist := false, shared := false, dflt := .num 0, range := .any },
  { c := 0x8, i0 := 0x0, i1 := 0xFFF, m0 := 0x4, m1 := 0x4, typ := 4, rd := true, wr := false, role := 0, stop := false, persist := false, shared := false, dflt := .num 0, range := .any },
  { c := 0x8, i0 := 0x0, i1 := 0xFFF, m0 := 0x5, m1 := 0x5, typ := 4, rd := true, wr := false, role := 0, stop := false, persist := false, shared := false, dflt := .num 0, range := .any },
  { c := 0x8, i0 := 0x0, i1 := 0xFFF, m0 := 0x6, m1 := 0x6, typ := 1, rd := true, wr := true, role := 2, stop := false, persist := true, shared := true, dflt := .num 0, range := .any }]

/-- Class 10. -/
def OdRow.class10 : List OdRow := [
  { c := 0x10, i0 := 0x0, i1 := 0x3F, m0 := 0x0, m1 := 0x0, typ := 2, rd := true, wr := false, role := 0, stop := false, persist := false, shared := false, dflt := .num 0, range := .any },
  { c := 0x10, i0 := 0x0, i1 := 0x3F, m0 := 0x1, m1 := 0x1, typ := 2, rd := true, wr := true, role := 1, stop := false, persist := true, shared := false, dflt := .num 0, range := .between 0 3 },
  { c := 0x10, i0 := 0x0, i1 := 0x3F, m0 := 0x2, m1 := 0x2, typ := 2, rd := true, wr := true, role := 2, stop := true, persist := true, shared := true, dflt := .num 255, range := (.orNone 0 15 255) },
  { c := 0x10, i0 := 0x0, i1 := 0x3F, m0 := 0x3, m1 := 0x3, typ := 2, rd := true, wr := true, role := 2, stop := false, persist := true, shared := true, dflt := .num 1, range := .between 1 3 },
  { c := 0x10, i0 := 0x0, i1 := 0x3F, m0 := 0x4, m1 := 0x4, typ := 2, rd := true, wr := false, role := 0, stop := false, persist := false, shared := false, dflt := .num 0, range := .any },
  { c := 0x10, i0 := 0x0, i1 := 0x3F, m0 := 0x5, m1 := 0x9, typ := 4, rd := true, wr := true, role := 2, stop := true, persist := true, shared := true, dflt := .num 0, range := .any },
  { c := 0x10, i0 := 0x0, i1 := 0x3F, m0 := 0xA, m1 := 0xA, typ := 3, rd := true, wr := true, role := 2, stop := true, persist := true, shared := true, dflt := .num 65535, range := (.orNone 0 255 65535) },
  { c := 0x10, i0 := 0x0, i1 := 0x3F, m0 := 0xB, m1 := 0xB, typ := 3, rd := true, wr := true, role := 2, stop := true, persist := true, shared := true, dflt := .num 65535, range := .between 0 1023 },
  { c := 0x10, i0 := 0x0, i1 := 0x3F, m0 := 0xC, m1 := 0xC, typ := 3, rd := true, wr := true, role := 2, stop := true, persist := true, shared := true, dflt := .num 65535, range := (.orNone 0 1023 65535) },
  { c := 0x10, i0 := 0x0, i1 := 0x3F, m0 := 0x10, m1 := 0x10, typ := 10, rd := true, wr := true, role := 1, stop := false, persist := true, shared := true, dflt := .num 1310720, range := .any },
  { c := 0x10, i0 := 0x0, i1 := 0x3F, m0 := 0x11, m1 := 0x11, typ := 10, rd := true, wr := true, role := 1, stop := false, persist := true, shared := true, dflt := .num 3276800, range := .any },
  { c := 0x10, i0 := 0x0, i1 := 0x3F, m0 := 0x12, m1 := 0x12, typ := 10, rd := true, wr := true, role := 1, stop := false, persist := true, shared := true, dflt := .num 1179648, range := .any },
  { c := 0x10, i0 := 0x0, i1 := 0x3F, m0 := 0x13, m1 := 0x13, typ := 10, rd := true, wr := true, role := 1, stop := false, persist := true, shared := true, dflt := .num 3276800, range := .any },
  { c := 0x10, i0 := 0x0, i1 := 0x3F, m0 := 0x14, m1 := 0x14, typ := 10, rd := true, wr := true, role := 2, stop := false, persist := true, shared := true, dflt := .num 327680, range := .between (-2621440) 5570560 },
  { c := 0x10, i0 := 0x0, i1 := 0x3F, m0 := 0x15, m1 := 0x15, typ := 10, rd := true, wr := true, role := 2, stop := false, persist := true, shared := true, dflt := .num 1966080, range := .between (-2621440) 5570560 },
  { c := 0x10, i0 := 0x0, i1 := 0x3F, m0 := 0x16, m1 := 0x16, typ := 10, rd := true, wr := true, role := 2, stop := false, persist := true, shared := true, dflt := .num 4259840, range := .between 0 6553600 },
  { c := 0x10, i0 := 0x0, i1 := 0x3F, m0 := 0x17, m1 := 0x17, typ := 10, rd := true, wr := true, role := 2, stop := false, persist := true, shared := true, dflt := .num 65536, range := .between 0 6553600 },
  { c := 0x10, i0 := 0x0, i1 := 0x3F, m0 := 0x18, m1 := 0x18, typ := 10, rd := true, wr := true, role := 2, stop := false, persist := true, shared := true, dflt := .num 327680, range := .between 0 6553600 },
  { c := 0x10, i0 := 0x0, i1 := 0x3F, m0 := 0x19, m1 := 0x19, typ := 10, rd := true, wr := true, role := 2, stop := false, persist := true, shared := true, dflt := .num 131072, range := .between 0 655360 },
  { c := 0x10, i0 := 0x0, i1 := 0x3F, m0 := 0x1A, m1 := 0x1A, typ := 2, rd := true, wr := true, role := 2, stop := false, persist := true, shared := true, dflt := .num 1, range := .between 1 120 },
  { c := 0x10, i0 := 0x0, i1 := 0x3F, m0 := 0x1B, m1 := 0x1B, typ := 4, rd := true, wr := true, role := 2, stop := false, persist := true, shared := true, dflt := .num 900, range := .between 0 86400 },
  { c := 0x10, i0 := 0x0, i1 := 0x3F, m0 := 0x1C, m1 := 0x1E, typ := 10, rd := true, wr := false, role := 0, stop := false, persist := false, shared := false, dflt := .num 0, range := .any },
  { c := 0x10, i0 := 0x0, i1 := 0x3F, m0 := 0x1F, m1 := 0x1F, typ := 4, rd := true, wr := false, role := 0, stop := false, persist := false, shared := false, dflt := .num 0, range := .any },
  { c := 0x10, i0 := 0x0, i1 := 0x3F, m0 := 0x20, m1 := 0x2F, typ := 3, rd := true, wr := true, role := 2, stop := true, persist := true, shared := true, dflt := .num 65535, range := .any },
  { c := 0x10, i0 := 0x0, i1 := 0x3F, m0 := 0x30, m1 := 0x43, typ := 2, rd := true, wr := true, role := 2, stop := true, persist := true, shared := true, dflt := .num 255, range := .any }]

/-- Class 11. -/
def OdRow.class11 : List OdRow := [
  { c := 0x11, i0 := 0x0, i1 := 0x3FF, m0 := 0x0, m1 := 0x1, typ := 2, rd := true, wr := true, role := 2, stop := true, persist := true, shared := true, dflt := .num 0, range := .between 0 3 },
  { c := 0x11, i0 := 0x0, i1 := 0x3FF, m0 := 0x2, m1 := 0x4, typ := 1, rd := true, wr := true, role := 2, stop := true, persist := true, shared := true, dflt := .num 0, range := .any },
  { c := 0x11, i0 := 0x0, i1 := 0x3FF, m0 := 0x5, m1 := 0x5, typ := 3, rd := true, wr := true, role := 2, stop := true, persist := true, shared := true, dflt := .num 0, range := .between 0 4095 },
  { c := 0x11, i0 := 0x0, i1 := 0x3FF, m0 := 0x6, m1 := 0x6, typ := 4, rd := true, wr := true, role := 2, stop := true, persist := true, shared := true, dflt := .num 0, range := .source },
  { c := 0x11, i0 := 0x0, i1 := 0x3FF, m0 := 0x7, m1 := 0x7, typ := 4, rd := true, wr := true, role := 2, stop := true, persist := true, shared := true, dflt := .num 0, range := .dest },
  { c := 0x11, i0 := 0x0, i1 := 0x3FF, m0 := 0x8, m1 := 0xB, typ := 4, rd := true, wr := true, role := 2, stop := true, persist := true, shared := true, dflt := .num 0, range := .tap },
  { c := 0x11, i0 := 0x0, i1 := 0x3FF, m0 := 0xC, m1 := 0x17, typ := 11, rd := true, wr := true, role := 2, stop := true, persist := true, shared := true, dflt := .coef 0 0, range := .any },
  { c := 0x11, i0 := 0x0, i1 := 0x3FF, m0 := 0x18, m1 := 0x18, typ := 10, rd := true, wr := true, role := 2, stop := false, persist := true, shared := true, dflt := .num (-2147483648), range := .any },
  { c := 0x11, i0 := 0x0, i1 := 0x3FF, m0 := 0x19, m1 := 0x19, typ := 10, rd := true, wr := true, role := 2, stop := false, persist := true, shared := true, dflt := .num 2147483647, range := .any },
  { c := 0x11, i0 := 0x0, i1 := 0x3FF, m0 := 0x1A, m1 := 0x1A, typ := 10, rd := true, wr := true, role := 2, stop := false, persist := true, shared := true, dflt := .num (-2147483648), range := .any },
  { c := 0x11, i0 := 0x0, i1 := 0x3FF, m0 := 0x1B, m1 := 0x1B, typ := 10, rd := true, wr := true, role := 2, stop := false, persist := true, shared := true, dflt := .num 2147483647, range := .any },
  { c := 0x11, i0 := 0x0, i1 := 0x3FF, m0 := 0x1C, m1 := 0x1D, typ := 1, rd := true, wr := true, role := 2, stop := true, persist := true, shared := true, dflt := .num 0, range := .any },
  { c := 0x11, i0 := 0x0, i1 := 0x3FF, m0 := 0x1E, m1 := 0x1E, typ := 2, rd := true, wr := true, role := 2, stop := true, persist := true, shared := true, dflt := .num 0, range := .between 0 15 },
  { c := 0x11, i0 := 0x0, i1 := 0x3FF, m0 := 0x20, m1 := 0x20, typ := 10, rd := true, wr := true, role := 1, stop := false, persist := false, shared := false, dflt := .num 0, range := .any },
  { c := 0x11, i0 := 0x0, i1 := 0x3FF, m0 := 0x21, m1 := 0x24, typ := 10, rd := true, wr := false, role := 0, stop := false, persist := false, shared := false, dflt := .num 0, range := .any },
  { c := 0x11, i0 := 0x0, i1 := 0x3FF, m0 := 0x25, m1 := 0x25, typ := 4, rd := true, wr := false, role := 0, stop := false, persist := false, shared := false, dflt := .num 0, range := .any },
  { c := 0x11, i0 := 0x400, i1 := 0x4FF, m0 := 0x0, m1 := 0x0, typ := 10, rd := true, wr := true, role := 2, stop := false, persist := false, shared := false, dflt := .num 0, range := .any },
  { c := 0x11, i0 := 0xFFF, i1 := 0xFFF, m0 := 0x0, m1 := 0x0, typ := 4, rd := true, wr := true, role := 2, stop := true, persist := true, shared := true, dflt := .num 4, range := .any },
  { c := 0x11, i0 := 0xFFF, i1 := 0xFFF, m0 := 0x1, m1 := 0x1, typ := 4, rd := true, wr := true, role := 2, stop := true, persist := true, shared := true, dflt := .num 40, range := .any },
  { c := 0x11, i0 := 0xFFF, i1 := 0xFFF, m0 := 0x2, m1 := 0x2, typ := 4, rd := true, wr := true, role := 2, stop := true, persist := true, shared := true, dflt := .num 4000, range := .any },
  { c := 0x11, i0 := 0xFFF, i1 := 0xFFF, m0 := 0x3, m1 := 0x3, typ := 4, rd := true, wr := true, role := 2, stop := true, persist := true, shared := true, dflt := .num 240000, range := .any },
  { c := 0x11, i0 := 0xFFF, i1 := 0xFFF, m0 := 0x4, m1 := 0x4, typ := 3, rd := true, wr := false, role := 0, stop := false, persist := false, shared := false, dflt := .num 0, range := .any },
  { c := 0x11, i0 := 0xFFF, i1 := 0xFFF, m0 := 0x5, m1 := 0x5, typ := 2, rd := true, wr := false, role := 0, stop := false, persist := false, shared := false, dflt := .num 0, range := .any },
  { c := 0x11, i0 := 0xFFF, i1 := 0xFFF, m0 := 0x6, m1 := 0x9, typ := 4, rd := true, wr := false, role := 0, stop := false, persist := false, shared := false, dflt := .num 0, range := .any }]

/-- Class 12. -/
def OdRow.class12 : List OdRow := [
  { c := 0x12, i0 := 0x0, i1 := 0x57, m0 := 0x0, m1 := 0x0, typ := 10, rd := true, wr := false, role := 0, stop := false, persist := false, shared := false, dflt := .num 0, range := .any },
  { c := 0x12, i0 := 0x0, i1 := 0x57, m0 := 0x1, m1 := 0x2, typ := 4, rd := true, wr := false, role := 0, stop := false, persist := false, shared := false, dflt := .num 0, range := .any },
  { c := 0x12, i0 := 0x0, i1 := 0x57, m0 := 0x3, m1 := 0x4, typ := 2, rd := true, wr := true, role := 2, stop := true, persist := true, shared := true, dflt := .num 0, range := .any },
  { c := 0x12, i0 := 0x0, i1 := 0x57, m0 := 0x5, m1 := 0x5, typ := 10, rd := true, wr := true, role := 2, stop := true, persist := true, shared := true, dflt := .num 65536, range := .any },
  { c := 0x12, i0 := 0x0, i1 := 0x57, m0 := 0x6, m1 := 0x6, typ := 10, rd := true, wr := true, role := 2, stop := false, persist := true, shared := true, dflt := .num 0, range := .any },
  { c := 0x12, i0 := 0x0, i1 := 0x57, m0 := 0x7, m1 := 0x7, typ := 2, rd := true, wr := true, role := 2, stop := true, persist := true, shared := true, dflt := .num 0, range := .any },
  { c := 0x12, i0 := 0x0, i1 := 0x57, m0 := 0x8, m1 := 0xB, typ := 10, rd := true, wr := true, role := 2, stop := false, persist := true, shared := true, dflt := .num 0, range := .any },
  { c := 0x12, i0 := 0x0, i1 := 0x57, m0 := 0xC, m1 := 0xC, typ := 2, rd := true, wr := true, role := 2, stop := true, persist := true, shared := true, dflt := .num 1, range := .any },
  { c := 0x12, i0 := 0x0, i1 := 0x57, m0 := 0xD, m1 := 0xD, typ := 2, rd := true, wr := false, role := 0, stop := false, persist := false, shared := false, dflt := .num 0, range := .any },
  { c := 0x12, i0 := 0x0, i1 := 0x3E, m0 := 0xE, m1 := 0xE, typ := 1, rd := true, wr := true, role := 2, stop := true, persist := true, shared := true, dflt := .num 0, range := .any },
  { c := 0x12, i0 := 0xFF, i1 := 0xFF, m0 := 0x0, m1 := 0x0, typ := 3, rd := true, wr := true, role := 2, stop := true, persist := true, shared := true, dflt := .num 1, range := .any },
  { c := 0x12, i0 := 0xFF, i1 := 0xFF, m0 := 0x1, m1 := 0x1, typ := 1, rd := true, wr := true, role := 2, stop := true, persist := true, shared := true, dflt := .num 1, range := .any },
  { c := 0x12, i0 := 0xFF, i1 := 0xFF, m0 := 0x2, m1 := 0x3, typ := 4, rd := true, wr := true, role := 2, stop := true, persist := true, shared := true, dflt := .num 0, range := .any },
  { c := 0x12, i0 := 0xFF, i1 := 0xFF, m0 := 0x4, m1 := 0x4, typ := 2, rd := true, wr := true, role := 2, stop := true, persist := true, shared := true, dflt := .num 32, range := .any },
  { c := 0x12, i0 := 0xFF, i1 := 0xFF, m0 := 0x5, m1 := 0x5, typ := 4, rd := true, wr := false, role := 0, stop := false, persist := false, shared := false, dflt := .num 0, range := .any },
  { c := 0x12, i0 := 0xFF, i1 := 0xFF, m0 := 0x6, m1 := 0x6, typ := 2, rd := true, wr := false, role := 0, stop := false, persist := false, shared := false, dflt := .num 0, range := .any },
  { c := 0x12, i0 := 0x100, i1 := 0x107, m0 := 0x0, m1 := 0x20, typ := 10, rd := true, wr := true, role := 2, stop := true, persist := true, shared := true, dflt := .num 0, range := .any }]

/-- Class 13. SLICE 1 to 3 is refused at the write (the member's own list, R257) as well as at the start (R98): DESIGN CHOICE, log
entry 35. -/
def OdRow.class13 : List OdRow := [
  { c := 0x13, i0 := 0x0, i1 := 0xFF, m0 := 0x0, m1 := 0x0, typ := 2, rd := true, wr := true, role := 2, stop := true, persist := true, shared := true, dflt := .num 0, range := .any },
  { c := 0x13, i0 := 0x0, i1 := 0xFF, m0 := 0x1, m1 := 0x1, typ := 3, rd := true, wr := true, role := 2, stop := true, persist := true, shared := true, dflt := .num 256, range := .any },
  { c := 0x13, i0 := 0x0, i1 := 0xFF, m0 := 0x2, m1 := 0x3, typ := 3, rd := true, wr := true, role := 2, stop := true, persist := true, shared := true, dflt := .num 0, range := .between 0 4095 },
  { c := 0x13, i0 := 0x0, i1 := 0xFF, m0 := 0x4, m1 := 0x4, typ := 2, rd := true, wr := true, role := 2, stop := true, persist := true, shared := true, dflt := .num 0, range := .any },
  { c := 0x13, i0 := 0x0, i1 := 0xFF, m0 := 0x5, m1 := 0x5, typ := 2, rd := true, wr := true, role := 2, stop := true, persist := true, shared := true, dflt := .num 0, range := .oneOf [0, 4, 5, 6, 7] },
  { c := 0x13, i0 := 0x0, i1 := 0xFF, m0 := 0x6, m1 := 0x6, typ := 2, rd := true, wr := true, role := 2, stop := true, persist := true, shared := true, dflt := .num 0, range := .any }]

/-- Class 14. -/
def OdRow.class14 : List OdRow := [
  { c := 0x14, i0 := 0x0, i1 := 0x1F, m0 := 0x0, m1 := 0x0, typ := 2, rd := true, wr := true, role := 2, stop := true, persist := true, shared := true, dflt := .num 0, range := .any },
  { c := 0x14, i0 := 0x0, i1 := 0x1F, m0 := 0x1, m1 := 0x1, typ := 1, rd := true, wr := true, role := 2, stop := true, persist := true, shared := true, dflt := .num 0, range := .any },
  { c := 0x14, i0 := 0x0, i1 := 0x1F, m0 := 0x2, m1 := 0x2, typ := 2, rd := true, wr := true, role := 2, stop := false, persist := true, shared := true, dflt := .num 0, range := .any },
  { c := 0x14, i0 := 0x0, i1 := 0x1F, m0 := 0x3, m1 := 0x3, typ := 1, rd := true, wr := true, role := 2, stop := false, persist := true, shared := true, dflt := .num 0, range := .any },
  { c := 0x14, i0 := 0x0, i1 := 0x1F, m0 := 0x4, m1 := 0x4, typ := 4, rd := true, wr := true, role := 2, stop := true, persist := true, shared := true, dflt := .num 163840, range := .any },
  { c := 0x14, i0 := 0x0, i1 := 0x1F, m0 := 0x5, m1 := 0x5, typ := 3, rd := true, wr := true, role := 2, stop := true, persist := true, shared := true, dflt := .num 60, range := .any },
  { c := 0x14, i0 := 0x0, i1 := 0x1F, m0 := 0x6, m1 := 0x6, typ := 3, rd := true, wr := true, role := 2, stop := true, persist := true, shared := true, dflt := .num 100, range := .any },
  { c := 0x14, i0 := 0x0, i1 := 0x1F, m0 := 0x7, m1 := 0x7, typ := 3, rd := true, wr := true, role := 2, stop := true, persist := true, shared := true, dflt := .num 50, range := .any },
  { c := 0x14, i0 := 0x0, i1 := 0x1F, m0 := 0x8, m1 := 0x8, typ := 3, rd := true, wr := true, role := 2, stop := true, persist := true, shared := true, dflt := .num 200, range := .any },
  { c := 0x14, i0 := 0x0, i1 := 0x1F, m0 := 0x9, m1 := 0x9, typ := 3, rd := true, wr := true, role := 2, stop := true, persist := true, shared := true, dflt := .num 1000, range := .any },
  { c := 0x14, i0 := 0x0, i1 := 0x1F, m0 := 0xA, m1 := 0xA, typ := 4, rd := true, wr := true, role := 2, stop := true, persist := true, shared := true, dflt := .num 10000, range := .any },
  { c := 0x14, i0 := 0x0, i1 := 0x1F, m0 := 0xB, m1 := 0xC, typ := 3, rd := true, wr := true, role := 2, stop := true, persist := true, shared := true, dflt := .num 0, range := .any },
  { c := 0x14, i0 := 0x0, i1 := 0x1F, m0 := 0xD, m1 := 0xD, typ := 2, rd := true, wr := true, role := 2, stop := true, persist := true, shared := true, dflt := .num 2, range := .any },
  { c := 0x14, i0 := 0x0, i1 := 0x1F, m0 := 0xE, m1 := 0xE, typ := 10, rd := true, wr := true, role := 2, stop := false, persist := true, shared := true, dflt := .num 0, range := .any },
  { c := 0x14, i0 := 0x0, i1 := 0x1F, m0 := 0xF, m1 := 0xF, typ := 3, rd := true, wr := true, role := 2, stop := false, persist := true, shared := true, dflt := .num 600, range := .any },
  { c := 0x14, i0 := 0x0, i1 := 0x1F, m0 := 0x10, m1 := 0x10, typ := 2, rd := true, wr := true, role := 2, stop := true, persist := true, shared := true, dflt := .num 255, range := .any },
  { c := 0x14, i0 := 0x0, i1 := 0x1F, m0 := 0x11, m1 := 0x11, typ := 1, rd := true, wr := true, role := 2, stop := true, persist := true, shared := true, dflt := .num 0, range := .any },
  { c := 0x14, i0 := 0x0, i1 := 0x1F, m0 := 0x12, m1 := 0x12, typ := 2, rd := true, wr := true, role := 2, stop := false, persist := true, shared := true, dflt := .num 50, range := .any },
  { c := 0x14, i0 := 0x0, i1 := 0x1F, m0 := 0x13, m1 := 0x13, typ := 2, rd := true, wr := true, role := 2, stop := false, persist := true, shared := true, dflt := .num 10, range := .any },
  { c := 0x14, i0 := 0x0, i1 := 0x1F, m0 := 0x20, m1 := 0x21, typ := 10, rd := true, wr := false, role := 0, stop := false, persist := false, shared := false, dflt := .num 0, range := .any },
  { c := 0x14, i0 := 0x0, i1 := 0x1F, m0 := 0x22, m1 := 0x22, typ := 8, rd := true, wr := true, role := 2, stop := true, persist := false, shared := false, dflt := .num 0, range := .any },
  { c := 0x14, i0 := 0x0, i1 := 0x1F, m0 := 0x23, m1 := 0x23, typ := 4, rd := true, wr := false, role := 0, stop := false, persist := false, shared := false, dflt := .num 1024, range := .any },
  { c := 0x14, i0 := 0x0, i1 := 0x1F, m0 := 0x24, m1 := 0x24, typ := 5, rd := true, wr := false, role := 0, stop := false, persist := false, shared := false, dflt := .num 0, range := .any },
  { c := 0x14, i0 := 0x0, i1 := 0x1F, m0 := 0x25, m1 := 0x25, typ := 1, rd := false, wr := true, role := 1, stop := false, persist := false, shared := false, dflt := .num 0, range := .any }]

/-- Class 15. -/
def OdRow.class15 : List OdRow := [
  { c := 0x15, i0 := 0x0, i1 := 0xF, m0 := 0x0, m1 := 0x0, typ := 2, rd := true, wr := true, role := 2, stop := true, persist := true, shared := true, dflt := .num 1, range := .any },
  { c := 0x15, i0 := 0x0, i1 := 0xF, m0 := 0x1, m1 := 0x1, typ := 2, rd := true, wr := true, role := 2, stop := true, persist := true, shared := true, dflt := .num 0, range := .any },
  { c := 0x15, i0 := 0x0, i1 := 0xF, m0 := 0x2, m1 := 0x2, typ := 2, rd := true, wr := true, role := 2, stop := true, persist := true, shared := true, dflt := .num 2, range := .between 1 4 },
  { c := 0x15, i0 := 0x0, i1 := 0xF, m0 := 0x3, m1 := 0x3, typ := 2, rd := true, wr := true, role := 2, stop := true, persist := true, shared := true, dflt := .num 0, range := .any },
  { c := 0x15, i0 := 0x0, i1 := 0xF, m0 := 0x4, m1 := 0x4, typ := 2, rd := true, wr := true, role := 2, stop := true, persist := true, shared := true, dflt := .num 1, range := .any },
  { c := 0x15, i0 := 0x0, i1 := 0xF, m0 := 0x5, m1 := 0x5, typ := 2, rd := true, wr := true, role := 2, stop := true, persist := true, shared := true, dflt := .num 0, range := .any },
  { c := 0x15, i0 := 0x0, i1 := 0xF, m0 := 0x6, m1 := 0x6, typ := 2, rd := true, wr := true, role := 2, stop := true, persist := true, shared := true, dflt := .num 25, range := .any },
  { c := 0x15, i0 := 0x0, i1 := 0xF, m0 := 0x7, m1 := 0x7, typ := 2, rd := true, wr := true, role := 2, stop := true, persist := true, shared := true, dflt := .num 0, range := .any },
  { c := 0x15, i0 := 0x0, i1 := 0xF, m0 := 0x8, m1 := 0x8, typ := 2, rd := true, wr := true, role := 2, stop := true, persist := true, shared := true, dflt := .num 20, range := .any },
  { c := 0x15, i0 := 0x0, i1 := 0xF, m0 := 0x9, m1 := 0x9, typ := 2, rd := true, wr := true, role := 2, stop := true, persist := true, shared := true, dflt := .num 30, range := .any },
  { c := 0x15, i0 := 0x0, i1 := 0xF, m0 := 0xA, m1 := 0xA, typ := 3, rd := true, wr := true, role := 2, stop := true, persist := true, shared := true, dflt := .num 4, range := .any },
  { c := 0x15, i0 := 0x0, i1 := 0xF, m0 := 0xB, m1 := 0xB, typ := 3, rd := true, wr := true, role := 2, stop := true, persist := true, shared := true, dflt := .num 600, range := .any },
  { c := 0x15, i0 := 0x0, i1 := 0xF, m0 := 0xC, m1 := 0xC, typ := 10, rd := true, wr := true, role := 2, stop := false, persist := true, shared := true, dflt := .num 0, range := .any },
  { c := 0x15, i0 := 0x0, i1 := 0xF, m0 := 0xD, m1 := 0xD, typ := 10, rd := true, wr := true, role := 2, stop := false, persist := true, shared := true, dflt := .num 2147483647, range := .any },
  { c := 0x15, i0 := 0x0, i1 := 0xF, m0 := 0xE, m1 := 0xF, typ := 2, rd := true, wr := true, role := 2, stop := true, persist := true, shared := true, dflt := .num 255, range := .any },
  { c := 0x15, i0 := 0x0, i1 := 0xF, m0 := 0x10, m1 := 0x15, typ := 4, rd := true, wr := false, role := 0, stop := false, persist := false, shared := false, dflt := .num 0, range := .any },
  { c := 0x15, i0 := 0x0, i1 := 0xF, m0 := 0x1A, m1 := 0x1A, typ := 3, rd := true, wr := true, role := 2, stop := true, persist := true, shared := true, dflt := .num 65535, range := (.orNone 0 1023 65535) },
  { c := 0x15, i0 := 0x0, i1 := 0xF, m0 := 0x1B, m1 := 0x1B, typ := 3, rd := true, wr := true, role := 2, stop := true, persist := true, shared := true, dflt := .num 65535, range := (.orNone 0 255 65535) },
  { c := 0x15, i0 := 0x0, i1 := 0xF, m0 := 0x20, m1 := 0x20, typ := 5, rd := true, wr := false, role := 0, stop := false, persist := false, shared := false, dflt := .num 0, range := .any },
  { c := 0x15, i0 := 0x0, i1 := 0xF, m0 := 0x21, m1 := 0x21, typ := 1, rd := false, wr := true, role := 1, stop := false, persist := false, shared := false, dflt := .num 0, range := .any },
  { c := 0x15, i0 := 0xFF, i1 := 0xFF, m0 := 0x0, m1 := 0x0, typ := 2, rd := true, wr := true, role := 2, stop := false, persist := true, shared := true, dflt := .num 5, range := .any },
  { c := 0x15, i0 := 0xFF, i1 := 0xFF, m0 := 0x1, m1 := 0x4, typ := 2, rd := true, wr := true, role := 2, stop := false, persist := true, shared := true, dflt := .num 255, range := .any },
  { c := 0x15, i0 := 0xFF, i1 := 0xFF, m0 := 0x5, m1 := 0x6, typ := 4, rd := true, wr := false, role := 0, stop := false, persist := false, shared := false, dflt := .num 0, range := .any }]

/-- Class 16. -/
def OdRow.class16 : List OdRow := [
  { c := 0x16, i0 := 0x0, i1 := 0xF, m0 := 0x0, m1 := 0xF, typ := 10, rd := true, wr := true, role := 2, stop := true, persist := true, shared := true, dflt := .num 0, range := .any },
  { c := 0x16, i0 := 0x0, i1 := 0xF, m0 := 0x10, m1 := 0x17, typ := 3, rd := true, wr := true, role := 2, stop := false, persist := true, shared := true, dflt := .num 0, range := .any },
  { c := 0x16, i0 := 0x0, i1 := 0xF, m0 := 0x18, m1 := 0x1F, typ := 2, rd := true, wr := true, role := 2, stop := false, persist := true, shared := true, dflt := .num 0, range := .any }]

/-- Class 17. -/
def OdRow.class17 : List OdRow := [
  { c := 0x17, i0 := 0x0, i1 := 0x0, m0 := 0x0, m1 := 0x1, typ := 2, rd := true, wr := true, role := 2, stop := true, persist := true, shared := true, dflt := .num 4, range := .between 1 16 },
  { c := 0x17, i0 := 0x0, i1 := 0x0, m0 := 0x2, m1 := 0x2, typ := 1, rd := true, wr := true, role := 2, stop := true, persist := true, shared := true, dflt := .num 0, range := .any },
  { c := 0x17, i0 := 0x0, i1 := 0x0, m0 := 0x3, m1 := 0x3, typ := 2, rd := true, wr := true, role := 2, stop := true, persist := true, shared := true, dflt := .num 4, range := .between 1 16 },
  { c := 0x17, i0 := 0x0, i1 := 0x0, m0 := 0x4, m1 := 0x4, typ := 2, rd := true, wr := true, role := 2, stop := true, persist := true, shared := true, dflt := .num 32, range := .between 8 255 },
  { c := 0x17, i0 := 0x0, i1 := 0x0, m0 := 0x5, m1 := 0x5, typ := 2, rd := true, wr := true, role := 2, stop := true, persist := true, shared := true, dflt := .num 3, range := .between 1 15 },
  { c := 0x17, i0 := 0x0, i1 := 0x0, m0 := 0x6, m1 := 0x6, typ := 2, rd := true, wr := true, role := 2, stop := true, persist := true, shared := true, dflt := .num 20, range := .any },
  { c := 0x17, i0 := 0x0, i1 := 0x0, m0 := 0x7, m1 := 0x7, typ := 2, rd := true, wr := true, role := 2, stop := true, persist := true, shared := true, dflt := .num 20, range := .any },
  { c := 0x17, i0 := 0x0, i1 := 0x0, m0 := 0x8, m1 := 0x8, typ := 2, rd := true, wr := true, role := 2, stop := true, persist := true, shared := true, dflt := .num 60, range := .any },
  { c := 0x17, i0 := 0x0, i1 := 0x0, m0 := 0x9, m1 := 0x9, typ := 1, rd := true, wr := true, role := 2, stop := false, persist := true, shared := true, dflt := .num 1, range := .any },
  { c := 0x17, i0 := 0x0, i1 := 0x0, m0 := 0x11, m1 := 0x11, typ := 14, rd := false, wr := true, role := 3, stop := false, persist := false, shared := false, dflt := .bytes [], range := .between 0 8 },
  { c := 0x17, i0 := 0x0, i1 := 0x0, m0 := 0x12, m1 := 0x12, typ := 2, rd := true, wr := true, role := 2, stop := false, persist := true, shared := true, dflt := .num 15, range := .any },
  { c := 0x17, i0 := 0x0, i1 := 0x0, m0 := 0x13, m1 := 0x13, typ := 2, rd := true, wr := true, role := 2, stop := false, persist := true, shared := true, dflt := .num 10, range := .any },
  { c := 0x17, i0 := 0x0, i1 := 0x0, m0 := 0x14, m1 := 0x14, typ := 2, rd := true, wr := true, role := 2, stop := false, persist := true, shared := true, dflt := .num 5, range := .any },
  { c := 0x17, i0 := 0x0, i1 := 0x0, m0 := 0x15, m1 := 0x15, typ := 1, rd := false, wr := true, role := 1, stop := false, persist := false, shared := false, dflt := .num 0, range := .any },
  { c := 0x17, i0 := 0x0, i1 := 0x0, m0 := 0x16, m1 := 0x16, typ := 1, rd := false, wr := true, role := 3, stop := false, persist := false, shared := false, dflt := .num 0, range := .any },
  { c := 0x17, i0 := 0x0, i1 := 0x0, m0 := 0x17, m1 := 0x17, typ := 2, rd := true, wr := false, role := 0, stop := false, persist := false, shared := false, dflt := .num 3, range := .any },
  { c := 0x17, i0 := 0x0, i1 := 0x0, m0 := 0x18, m1 := 0x18, typ := 2, rd := true, wr := false, role := 0, stop := false, persist := false, shared := false, dflt := .num 0, range := .any },
  { c := 0x17, i0 := 0x0, i1 := 0x0, m0 := 0x19, m1 := 0x19, typ := 14, rd := true, wr := false, role := 0, stop := false, persist := false, shared := false, dflt := .bytes [], range := .any },
  { c := 0x17, i0 := 0x0, i1 := 0x0, m0 := 0x1A, m1 := 0x1A, typ := 4, rd := true, wr := false, role := 0, stop := false, persist := false, shared := false, dflt := .num 0, range := .any },
  { c := 0x17, i0 := 0x0, i1 := 0x0, m0 := 0x1B, m1 := 0x1B, typ := 5, rd := true, wr := false, role := 0, stop := false, persist := false, shared := false, dflt := .num 0, range := .any },
  { c := 0x17, i0 := 0x0, i1 := 0x0, m0 := 0x1C, m1 := 0x1C, typ := 14, rd := true, wr := false, role := 0, stop := false, persist := false, shared := false, dflt := .bytes [], range := .any }]

/-- Class 18. -/
def OdRow.class18 : List OdRow := [
  { c := 0x18, i0 := 0x0, i1 := 0x3, m0 := 0x0, m1 := 0x0, typ := 1, rd := true, wr := true, role := 2, stop := true, persist := true, shared := true, dflt := .num 0, range := .any },
  { c := 0x18, i0 := 0x0, i1 := 0x3, m0 := 0x1, m1 := 0x1, typ := 2, rd := true, wr := true, role := 2, stop := true, persist := true, shared := true, dflt := .num 4, range := .oneOf [1, 2, 4] },
  { c := 0x18, i0 := 0x0, i1 := 0x3, m0 := 0x2, m1 := 0x2, typ := 1, rd := true, wr := true, role := 2, stop := true, persist := true, shared := true, dflt := .num 0, range := .any },
  { c := 0x18, i0 := 0x0, i1 := 0x3, m0 := 0x3, m1 := 0x3, typ := 2, rd := true, wr := true, role := 2, stop := false, persist := true, shared := true, dflt := .num 10, range := .any },
  { c := 0x18, i0 := 0x0, i1 := 0x3, m0 := 0x4, m1 := 0x4, typ := 2, rd := true, wr := true, role := 2, stop := false, persist := true, shared := true, dflt := .num 20, range := .any },
  { c := 0x18, i0 := 0x0, i1 := 0x3, m0 := 0x5, m1 := 0x5, typ := 7, rd := true, wr := true, role := 1, stop := false, persist := false, shared := false, dflt := .num 0, range := .any },
  { c := 0x18, i0 := 0x0, i1 := 0x3, m0 := 0x6, m1 := 0x6, typ := 1, rd := true, wr := false, role := 0, stop := false, persist := false, shared := false, dflt := .num 0, range := .any },
  { c := 0x18, i0 := 0x0, i1 := 0x3, m0 := 0x7, m1 := 0x7, typ := 4, rd := true, wr := false, role := 0, stop := false, persist := false, shared := false, dflt := .num 0, range := .any }]

/-- Class 19. -/
def OdRow.class19 : List OdRow := [
  { c := 0x19, i0 := 0x0, i1 := 0xF, m0 := 0x0, m1 := 0x1F, typ := 4, rd := true, wr := true, role := 2, stop := false, persist := true, shared := true, dflt := .num 0, range := .any }]

/-- Class 1A. -/
def OdRow.class1A : List OdRow := [
  { c := 0x1A, i0 := 0x0, i1 := 0x7F, m0 := 0x0, m1 := 0x0, typ := 2, rd := true, wr := true, role := 2, stop := false, persist := true, shared := true, dflt := .num 0, range := .between 0 5 },
  { c := 0x1A, i0 := 0x0, i1 := 0x7F, m0 := 0x1, m1 := 0x1, typ := 3, rd := true, wr := true, role := 2, stop := false, persist := true, shared := true, dflt := .num 0, range := .between 0 511 },
  { c := 0x1A, i0 := 0x0, i1 := 0x7F, m0 := 0x2, m1 := 0x2, typ := 2, rd := true, wr := true, role := 2, stop := false, persist := true, shared := true, dflt := .num 1, range := .between 0 15 },
  { c := 0x1A, i0 := 0x0, i1 := 0x7F, m0 := 0x3, m1 := 0x3, typ := 10, rd := true, wr := true, role := 2, stop := false, persist := true, shared := true, dflt := .num 9830400, range := .any },
  { c := 0x1A, i0 := 0x0, i1 := 0x7F, m0 := 0x4, m1 := 0x5, typ := 4, rd := true, wr := false, role := 0, stop := false, persist := false, shared := false, dflt := .num 0, range := .any }]

/-- Class 1B. -/
def OdRow.class1B : List OdRow := [
  { c := 0x1B, i0 := 0x0, i1 := 0x1F, m0 := 0x0, m1 := 0x0, typ := 1, rd := true, wr := true, role := 2, stop := true, persist := true, shared := true, dflt := .num 0, range := .any },
  { c := 0x1B, i0 := 0x0, i1 := 0x1F, m0 := 0x1, m1 := 0x1, typ := 2, rd := true, wr := true, role := 2, stop := true, persist := true, shared := true, dflt := .num 0, range := .between 0 2 },
  { c := 0x1B, i0 := 0x0, i1 := 0x1F, m0 := 0x2, m1 := 0x2, typ := 2, rd := true, wr := true, role := 2, stop := true, persist := true, shared := true, dflt := .num 8, range := .between 0 119 },
  { c := 0x1B, i0 := 0x0, i1 := 0x1F, m0 := 0x3, m1 := 0x3, typ := 14, rd := true, wr := true, role := 2, stop := true, persist := true, shared := true, dflt := .bytes [], range := .between 0 8 },
  { c := 0x1B, i0 := 0x0, i1 := 0x1F, m0 := 0x4, m1 := 0x4, typ := 3, rd := true, wr := true, role := 2, stop := true, persist := true, shared := true, dflt := .num 0, range := .between 0 1000 },
  { c := 0x1B, i0 := 0x0, i1 := 0x1F, m0 := 0x5, m1 := 0x5, typ := 2, rd := true, wr := true, role := 2, stop := true, persist := true, shared := true, dflt := .num 2, range := .between 1 16 },
  { c := 0x1B, i0 := 0x0, i1 := 0x1F, m0 := 0x6, m1 := 0x6, typ := 4, rd := true, wr := true, role := 2, stop := true, persist := true, shared := true, dflt := .num 1000, range := .between 100 60000 },
  { c := 0x1B, i0 := 0x0, i1 := 0x1F, m0 := 0x7, m1 := 0x7, typ := 3, rd := true, wr := true, role := 2, stop := true, persist := true, shared := true, dflt := .num 16, range := .between 0 511 },
  { c := 0x1B, i0 := 0x0, i1 := 0x1F, m0 := 0x8, m1 := 0x8, typ := 10, rd := true, wr := true, role := 2, stop := false, persist := true, shared := true, dflt := .num 65536, range := .any },
  { c := 0x1B, i0 := 0x0, i1 := 0x1F, m0 := 0x9, m1 := 0x9, typ := 10, rd := true, wr := true, role := 2, stop := false, persist := true, shared := true, dflt := .num 0, range := .any },
  { c := 0x1B, i0 := 0x0, i1 := 0x1F, m0 := 0xA, m1 := 0xA, typ := 3, rd := true, wr := true, role := 2, stop := true, persist := true, shared := true, dflt := .num 0, range := .between 0 255 },
  { c := 0x1B, i0 := 0x0, i1 := 0x1F, m0 := 0xB, m1 := 0xB, typ := 2, rd := true, wr := false, role := 0, stop := false, persist := false, shared := false, dflt := .num 0, range := .any },
  { c := 0x1B, i0 := 0x0, i1 := 0x1F, m0 := 0xC, m1 := 0xC, typ := 8, rd := true, wr := false, role := 0, stop := false, persist := false, shared := false, dflt := .num 0, range := .any },
  { c := 0x1B, i0 := 0x0, i1 := 0x1F, m0 := 0xD, m1 := 0xD, typ := 4, rd := true, wr := false, role := 0, stop := false, persist := false, shared := false, dflt := .num 0, range := .any },
  { c := 0x1B, i0 := 0xFF, i1 := 0xFF, m0 := 0x0, m1 := 0x1, typ := 2, rd := true, wr := true, role := 2, stop := true, persist := true, shared := true, dflt := .num 0, range := .between 0 1 },
  { c := 0x1B, i0 := 0xFF, i1 := 0xFF, m0 := 0x2, m1 := 0x2, typ := 2, rd := true, wr := true, role := 2, stop := true, persist := true, shared := true, dflt := .num 4, range := .between 1 8 },
  { c := 0x1B, i0 := 0xFF, i1 := 0xFF, m0 := 0x3, m1 := 0x3, typ := 2, rd := true, wr := true, role := 2, stop := true, persist := true, shared := true, dflt := .num 25, range := .between 1 255 }]

/-- Class 20. -/
def OdRow.class20 : List OdRow := [
  { c := 0x20, i0 := 0x0, i1 := 0x1, m0 := 0x0, m1 := 0x0, typ := 1, rd := true, wr := true, role := 2, stop := false, persist := true, shared := false, dflt := .num 1, range := .any },
  { c := 0x20, i0 := 0x0, i1 := 0x1, m0 := 0x1, m1 := 0x1, typ := 2, rd := true, wr := true, role := 2, stop := false, persist := true, shared := false, dflt := .num 32, range := .between 1 32 },
  { c := 0x20, i0 := 0x0, i1 := 0x1, m0 := 0x2, m1 := 0x2, typ := 2, rd := true, wr := true, role := 2, stop := false, persist := true, shared := false, dflt := .num 32, range := .between 1 255 },
  { c := 0x20, i0 := 0x0, i1 := 0x1, m0 := 0x3, m1 := 0x3, typ := 2, rd := true, wr := true, role := 2, stop := false, persist := true, shared := false, dflt := .num 0, range := .between 0 7 },
  { c := 0x20, i0 := 0x0, i1 := 0x1, m0 := 0x4, m1 := 0x4, typ := 2, rd := true, wr := true, role := 2, stop := false, persist := true, shared := false, dflt := .num 128, range := .any },
  { c := 0x20, i0 := 0x0, i1 := 0x1, m0 := 0x5, m1 := 0x5, typ := 2, rd := true, wr := true, role := 2, stop := false, persist := true, shared := false, dflt := .num 0, range := .between 0 31 },
  { c := 0x20, i0 := 0x0, i1 := 0x1, m0 := 0x6, m1 := 0x6, typ := 4, rd := true, wr := false, role := 0, stop := false, persist := false, shared := false, dflt := .num 0, range := .any },
  { c := 0x20, i0 := 0x0, i1 := 0x1, m0 := 0x7, m1 := 0xE, typ := 4, rd := true, wr := false, role := 0, stop := false, persist := false, shared := false, dflt := .num 0, range := .any },
  { c := 0x20, i0 := 0x0, i1 := 0x0, m0 := 0x20, m1 := 0x20, typ := 2, rd := true, wr := true, role := 2, stop := false, persist := true, shared := false, dflt := .num 1, range := .between 1 60 },
  { c := 0x20, i0 := 0x0, i1 := 0x0, m0 := 0x21, m1 := 0x21, typ := 3, rd := true, wr := true, role := 2, stop := false, persist := true, shared := false, dflt := .num 65535, range := (.orNone 0 1022 65535) },
  { c := 0x20, i0 := 0x0, i1 := 0x0, m0 := 0x22, m1 := 0x22, typ := 2, rd := true, wr := true, role := 2, stop := false, persist := true, shared := false, dflt := .num 0, range := .any },
  { c := 0x20, i0 := 0x0, i1 := 0x0, m0 := 0x23, m1 := 0x23, typ := 4, rd := true, wr := false, role := 0, stop := false, persist := false, shared := false, dflt := .num 0, range := .any }]

/-- Class 21. -/
def OdRow.class21 : List OdRow := [
  { c := 0x21, i0 := 0x0, i1 := 0x0, m0 := 0x0, m1 := 0x2, typ := 2, rd := true, wr := false, role := 0, stop := false, persist := false, shared := false, dflt := .num 0, range := .any },
  { c := 0x21, i0 := 0x0, i1 := 0x0, m0 := 0x3, m1 := 0x3, typ := 1, rd := true, wr := false, role := 0, stop := false, persist := false, shared := false, dflt := .num 0, range := .any },
  { c := 0x21, i0 := 0x0, i1 := 0x0, m0 := 0x5, m1 := 0x5, typ := 2, rd := false, wr := true, role := 2, stop := false, persist := false, shared := false, dflt := .num 0, range := .any },
  { c := 0x21, i0 := 0x0, i1 := 0x0, m0 := 0x6, m1 := 0x6, typ := 2, rd := true, wr := false, role := 0, stop := false, persist := false, shared := false, dflt := .num 0, range := .any },
  { c := 0x21, i0 := 0x0, i1 := 0x0, m0 := 0x7, m1 := 0x7, typ := 10, rd := true, wr := true, role := 2, stop := false, persist := true, shared := true, dflt := .num 65536, range := .between 0 2147483647 },
  { c := 0x21, i0 := 0x0, i1 := 0x0, m0 := 0x8, m1 := 0x8, typ := 1, rd := true, wr := true, role := 2, stop := false, persist := true, shared := true, dflt := .num 1, range := .any },
  { c := 0x21, i0 := 0x0, i1 := 0x0, m0 := 0x9, m1 := 0x9, typ := 10, rd := true, wr := true, role := 2, stop := false, persist := true, shared := true, dflt := .num 32768, range := .between 0 2147483647 },
  { c := 0x21, i0 := 0x0, i1 := 0x0, m0 := 0xA, m1 := 0xA, typ := 3, rd := true, wr := true, role := 2, stop := false, persist := true, shared := true, dflt := .num 100, range := .between 1 65535 },
  { c := 0x21, i0 := 0x0, i1 := 0x0, m0 := 0xB, m1 := 0xB, typ := 3, rd := true, wr := false, role := 0, stop := false, persist := false, shared := false, dflt := .num 0, range := .any },
  { c := 0x21, i0 := 0x0, i1 := 0x0, m0 := 0xC, m1 := 0xC, typ := 4, rd := true, wr := false, role := 0, stop := false, persist := false, shared := false, dflt := .num 0, range := .any },
  { c := 0x21, i0 := 0x0, i1 := 0x0, m0 := 0xD, m1 := 0xD, typ := 5, rd := true, wr := false, role := 0, stop := false, persist := false, shared := false, dflt := .num 0, range := .any },
  { c := 0x21, i0 := 0x0, i1 := 0x0, m0 := 0xE, m1 := 0xE, typ := 2, rd := true, wr := false, role := 0, stop := false, persist := false, shared := false, dflt := .num 0, range := .any },
  { c := 0x21, i0 := 0x0, i1 := 0x0, m0 := 0xF, m1 := 0xF, typ := 4, rd := true, wr := false, role := 0, stop := false, persist := false, shared := false, dflt := .num 0, range := .any },
  { c := 0x21, i0 := 0x0, i1 := 0x0, m0 := 0x10, m1 := 0x1F, typ := 3, rd := true, wr := true, role := 2, stop := false, persist := false, shared := false, dflt := .num 65535, range := .any },
  { c := 0x21, i0 := 0x0, i1 := 0x0, m0 := 0x20, m1 := 0x20, typ := 4, rd := true, wr := false, role := 0, stop := false, persist := false, shared := false, dflt := .num 0, range := .any }]

/-- Class 22. -/
def OdRow.class22 : List OdRow := [
  { c := 0x22, i0 := 0x0, i1 := 0x0, m0 := 0x0, m1 := 0x0, typ := 4, rd := true, wr := true, role := 2, stop := false, persist := true, shared := false, dflt := .num 1, range := .any },
  { c := 0x22, i0 := 0x0, i1 := 0x0, m0 := 0x1, m1 := 0x2, typ := 4, rd := true, wr := false, role := 0, stop := false, persist := false, shared := false, dflt := .num 0, range := .any }]

/-- Class 30. -/
def OdRow.class30 : List OdRow := [
  { c := 0x30, i0 := 0x0, i1 := 0x0, m0 := 0x0, m1 := 0x5, typ := 4, rd := true, wr := false, role := 0, stop := false, persist := false, shared := false, dflt := .num 0, range := .any },
  { c := 0x30, i0 := 0x0, i1 := 0x0, m0 := 0x6, m1 := 0x7, typ := 2, rd := true, wr := false, role := 0, stop := false, persist := false, shared := false, dflt := .num 0, range := .any },
  { c := 0x30, i0 := 0x0, i1 := 0x0, m0 := 0x8, m1 := 0x8, typ := 1, rd := false, wr := true, role := 2, stop := false, persist := false, shared := false, dflt := .num 0, range := .any }]

/-- Class 31. -/
def OdRow.class31 : List OdRow := [
  { c := 0x31, i0 := 0x0, i1 := 0x0, m0 := 0x0, m1 := 0x0, typ := 4, rd := true, wr := false, role := 0, stop := false, persist := false, shared := false, dflt := .num 0, range := .any },
  { c := 0x31, i0 := 0x0, i1 := 0x0, m0 := 0x1, m1 := 0x1, typ := 2, rd := true, wr := false, role := 0, stop := false, persist := false, shared := false, dflt := .num 0, range := .any },
  { c := 0x31, i0 := 0x0, i1 := 0x0, m0 := 0x2, m1 := 0x2, typ := 1, rd := false, wr := true, role := 3, stop := false, persist := false, shared := false, dflt := .num 0, range := .any },
  { c := 0x31, i0 := 0x100, i1 := 0x1FF, m0 := 0x0, m1 := 0x0, typ := 14, rd := true, wr := false, role := 0, stop := false, persist := false, shared := false, dflt := .bytes [], range := .any }]

/-- Class 32. -/
def OdRow.class32 : List OdRow := [
  { c := 0x32, i0 := 0x0, i1 := 0x0, m0 := 0x0, m1 := 0x0, typ := 4, rd := true, wr := false, role := 0, stop := false, persist := false, shared := false, dflt := .num 0, range := .any },
  { c := 0x32, i0 := 0x0, i1 := 0x0, m0 := 0x1, m1 := 0x1, typ := 2, rd := true, wr := false, role := 0, stop := false, persist := false, shared := false, dflt := .num 0, range := .any },
  { c := 0x32, i0 := 0x0, i1 := 0x0, m0 := 0x2, m1 := 0x2, typ := 1, rd := false, wr := true, role := 3, stop := false, persist := false, shared := false, dflt := .num 0, range := .any },
  { c := 0x32, i0 := 0x100, i1 := 0x1FF, m0 := 0x0, m1 := 0x0, typ := 14, rd := true, wr := false, role := 0, stop := false, persist := false, shared := false, dflt := .bytes [], range := .any }]

/-- Class 33. -/
def OdRow.class33 : List OdRow := [
  { c := 0x33, i0 := 0x0, i1 := 0x3, m0 := 0x0, m1 := 0x0, typ := 3, rd := true, wr := true, role := 2, stop := false, persist := false, shared := false, dflt := .num 0, range := .between 0 1023 },
  { c := 0x33, i0 := 0x0, i1 := 0x3, m0 := 0x1, m1 := 0x1, typ := 2, rd := true, wr := true, role := 2, stop := false, persist := false, shared := false, dflt := .num 0, range := .between 0 15 },
  { c := 0x33, i0 := 0x0, i1 := 0x3, m0 := 0x2, m1 := 0x2, typ := 3, rd := true, wr := true, role := 2, stop := false, persist := false, shared := false, dflt := .num 1, range := .between 1 256 },
  { c := 0x33, i0 := 0x0, i1 := 0x3, m0 := 0x3, m1 := 0x3, typ := 2, rd := true, wr := true, role := 2, stop := false, persist := false, shared := false, dflt := .num 0, range := .between 0 1 },
  { c := 0x33, i0 := 0x0, i1 := 0x3, m0 := 0x4, m1 := 0x4, typ := 1, rd := true, wr := true, role := 2, stop := false, persist := false, shared := false, dflt := .num 0, range := .any },
  { c := 0x33, i0 := 0x0, i1 := 0x3, m0 := 0x5, m1 := 0x5, typ := 2, rd := true, wr := true, role := 2, stop := false, persist := false, shared := false, dflt := .num 0, range := .between 0 7 },
  { c := 0x33, i0 := 0x0, i1 := 0x3, m0 := 0x6, m1 := 0x6, typ := 2, rd := true, wr := true, role := 2, stop := false, persist := false, shared := false, dflt := .num 0, range := .between 0 63 },
  { c := 0x33, i0 := 0x0, i1 := 0x3, m0 := 0x7, m1 := 0x7, typ := 10, rd := true, wr := true, role := 2, stop := false, persist := false, shared := false, dflt := .num 0, range := .any },
  { c := 0x33, i0 := 0x0, i1 := 0x3, m0 := 0x8, m1 := 0x8, typ := 3, rd := true, wr := true, role := 2, stop := false, persist := false, shared := false, dflt := .num 0, range := .between 0 4095 },
  { c := 0x33, i0 := 0x0, i1 := 0x3, m0 := 0x9, m1 := 0x9, typ := 2, rd := false, wr := true, role := 2, stop := false, persist := false, shared := false, dflt := .num 0, range := .between 1 3 },
  { c := 0x33, i0 := 0x0, i1 := 0x3, m0 := 0xA, m1 := 0xA, typ := 2, rd := true, wr := false, role := 0, stop := false, persist := false, shared := false, dflt := .num 0, range := .any },
  { c := 0x33, i0 := 0x0, i1 := 0x3, m0 := 0xB, m1 := 0xB, typ := 3, rd := true, wr := false, role := 0, stop := false, persist := false, shared := false, dflt := .num 0, range := .any },
  { c := 0x33, i0 := 0x0, i1 := 0x3, m0 := 0xC, m1 := 0xD, typ := 4, rd := true, wr := false, role := 0, stop := false, persist := false, shared := false, dflt := .num 0, range := .any },
  { c := 0x33, i0 := 0x0, i1 := 0x3, m0 := 0x40, m1 := 0x7F, typ := 14, rd := true, wr := false, role := 0, stop := false, persist := false, shared := false, dflt := .bytes [], range := .any }]

/-- Class 3F. -/
def OdRow.class3F : List OdRow := [
  { c := 0x3F, i0 := 0x0, i1 := 0x0, m0 := 0x0, m1 := 0x0, typ := 2, rd := true, wr := false, role := 0, stop := false, persist := false, shared := false, dflt := .num 0, range := .any },
  { c := 0x3F, i0 := 0x0, i1 := 0x0, m0 := 0x1, m1 := 0x1, typ := 2, rd := true, wr := false, role := 0, stop := false, persist := false, shared := false, dflt := .num 0, range := .any },
  { c := 0x3F, i0 := 0x0, i1 := 0x0, m0 := 0x2, m1 := 0x2, typ := 2, rd := true, wr := false, role := 0, stop := false, persist := false, shared := false, dflt := .num 0, range := .any },
  { c := 0x3F, i0 := 0x0, i1 := 0x0, m0 := 0x3, m1 := 0x3, typ := 3, rd := true, wr := false, role := 0, stop := false, persist := false, shared := false, dflt := .num 0, range := .any },
  { c := 0x3F, i0 := 0x0, i1 := 0x0, m0 := 0x4, m1 := 0x4, typ := 2, rd := true, wr := false, role := 0, stop := false, persist := false, shared := false, dflt := .num 0, range := .any },
  { c := 0x3F, i0 := 0x0, i1 := 0x0, m0 := 0x5, m1 := 0x5, typ := 5, rd := true, wr := false, role := 0, stop := false, persist := false, shared := false, dflt := .num 0, range := .any },
  { c := 0x3F, i0 := 0x0, i1 := 0x0, m0 := 0x6, m1 := 0x6, typ := 2, rd := true, wr := false, role := 0, stop := false, persist := false, shared := false, dflt := .num 0, range := .any },
  { c := 0x3F, i0 := 0x0, i1 := 0x0, m0 := 0x7, m1 := 0x7, typ := 4, rd := true, wr := false, role := 0, stop := false, persist := false, shared := false, dflt := .num 0, range := .any },
  { c := 0x3F, i0 := 0x0, i1 := 0x0, m0 := 0x8, m1 := 0x8, typ := 4, rd := true, wr := false, role := 0, stop := false, persist := false, shared := false, dflt := .num 0, range := .any },
  { c := 0x3F, i0 := 0x0, i1 := 0x0, m0 := 0x9, m1 := 0x9, typ := 3, rd := true, wr := false, role := 0, stop := false, persist := false, shared := false, dflt := .num 0, range := .any },
  { c := 0x3F, i0 := 0x0, i1 := 0x0, m0 := 0xA, m1 := 0xA, typ := 3, rd := true, wr := false, role := 0, stop := false, persist := false, shared := false, dflt := .num 0, range := .any },
  { c := 0x3F, i0 := 0x0, i1 := 0x0, m0 := 0xB, m1 := 0xB, typ := 3, rd := true, wr := true, role := 2, stop := false, persist := true, shared := true, dflt := .num 1000, range := .between 100 10000 },
  { c := 0x3F, i0 := 0x0, i1 := 0x0, m0 := 0xC, m1 := 0xC, typ := 1, rd := false, wr := true, role := 2, stop := false, persist := false, shared := false, dflt := .num 0, range := .any },
  { c := 0x3F, i0 := 0x0, i1 := 0x0, m0 := 0xD, m1 := 0xD, typ := 2, rd := true, wr := true, role := 2, stop := false, persist := true, shared := true, dflt := .num 1, range := .between 0 63 },
  { c := 0x3F, i0 := 0x0, i1 := 0x0, m0 := 0xE, m1 := 0xE, typ := 2, rd := true, wr := true, role := 2, stop := false, persist := true, shared := true, dflt := .num 255, range := .any }]

/-- The rows of a class (the class index of 08_object_dictionary). -/
def OdRow.ofClass : Nat → List OdRow
  | 0x1 => OdRow.class01
  | 0x2 => OdRow.class02
  | 0x3 => OdRow.class03
  | 0x4 => OdRow.class04
  | 0x8 => OdRow.class08
  | 0x10 => OdRow.class10
  | 0x11 => OdRow.class11
  | 0x12 => OdRow.class12
  | 0x13 => OdRow.class13
  | 0x14 => OdRow.class14
  | 0x15 => OdRow.class15
  | 0x16 => OdRow.class16
  | 0x17 => OdRow.class17
  | 0x18 => OdRow.class18
  | 0x19 => OdRow.class19
  | 0x1A => OdRow.class1A
  | 0x1B => OdRow.class1B
  | 0x20 => OdRow.class20
  | 0x21 => OdRow.class21
  | 0x22 => OdRow.class22
  | 0x30 => OdRow.class30
  | 0x31 => OdRow.class31
  | 0x32 => OdRow.class32
  | 0x33 => OdRow.class33
  | 0x3F => OdRow.class3F
  | _ => []

/-- The classes, ascending. -/
def odClasses : List Nat := [0x1, 0x2, 0x3, 0x4, 0x8, 0x10, 0x11, 0x12, 0x13, 0x14, 0x15, 0x16, 0x17, 0x18, 0x19, 0x1A, 0x1B, 0x20, 0x21, 0x22, 0x30, 0x31, 0x32, 0x33, 0x3F]

/-- An object ID: class in [27:20], instance in [19:8], member in [7:0] (R254). -/
def odId (c i m : Nat) : Nat := c * 0x100000 + i * 0x100 + m

def odClass (id : Nat) : Nat := id / 0x100000 % 256
def odInst (id : Nat) : Nat := id / 0x100 % 0x1000
def odMem (id : Nat) : Nat := id % 0x100

/-- Is a number a defined function ID (R263)? -/
def fnDefined (f : Nat) : Bool :=
  (1 ≤ f && f ≤ 5) || (0x100 ≤ f && f ≤ 0x13F) || (0x180 ≤ f && f ≤ 0x1AF) || (0x200 ≤ f && f ≤ 0x23F)

/-- The row of a defined member (R255), on any variant. -/
def odRow (id : Nat) : Option OdRow :=
  if id / 0x10000000 != 0 then none
  else if odClass id == 8 && !fnDefined (odInst id) then none
  else if odClass id == 0x12 && odMem id == 0xE && odInst id % 2 == 1 then none
  else (OdRow.ofClass (odClass id)).find? (fun r => r.i0 ≤ odInst id && odInst id ≤ r.i1 && r.m0 ≤ odMem id && odMem id ≤ r.m1)

/-- The presence unit a function belongs to (R263). -/
def fnUnit (f : Nat) : Nat :=
  if 0x120 ≤ f && f ≤ 0x13F then 22 else if 0x190 ≤ f && f ≤ 0x19F then 23 else if 0x1A8 ≤ f && f ≤ 0x1AF then 24
  else if f = 1 then 6 else if f = 2 then 7 else if f = 3 || f = 4 then 11 else if f = 5 then 19
  else if f < 0x140 then 8 else if f < 0x1A0 then 9 else if f < 0x1B0 then 10 else 7

/-- The presence unit that a class and instance belong to (R3, R8, R255). -/
def odUnit (c i : Nat) : Nat :=
  match c with
  | 0x08 => fnUnit i
  | 0x10 => if i ≥ 32 then 22 else 8
  | 0x11 => if 512 ≤ i && i < 1024 then 21 else 7
  | 0x12 => if i < 88 && ((32 ≤ i && i < 64)) then 20 else if 72 ≤ i && i < 80 then 24 else 6
  | 0x13 => 6
  | 0x14 => if i ≥ 16 then 23 else 9
  | 0x15 => if 8 ≤ i && i < 16 then 24 else 10
  | 0x16 => if i ≥ 8 then 24 else 10
  | 0x17 => 11
  | 0x18 => if i ≥ 2 then 25 else 11
  | 0x19 => 8
  | 0x1A => 8
  | 0x1B => 19
  | 0x20 => if i = 1 then 26 else 14
  | 0x21 => 16
  | 0x33 => if i ≥ 2 then 21 else 7
  | _ => 0

/-- Is the presence unit of a member present (R8)? -/
def State.odPresent (s : State) (id : Nat) : Bool := s.present (odUnit (odClass id) (odInst id))

/-- The default of a member (R261); 08.F.06 is 1 for functions 0x001 and 0x002, and 20.p.05 is p. -/
def odDefault (id : Nat) : OdVal :=
  if odClass id == 8 && odMem id == 6 then .num (if odInst id ≤ 2 then 1 else 0)
  else if odClass id == 0x20 && odMem id == 5 then .num (odInst id)
  else match odRow id with
    | some r => r.dflt
    | none => .num 0

/-- The committed value of a member. -/
def State.odGet (s : State) (id : Nat) : OdVal := Tab.get odDefault s.od.committed id

/-- A committed numeric member. -/
def State.odNum (s : State) (c i m : Nat) : Int :=
  match s.odGet (odId c i m) with
  | .num v => v
  | .coef c _ => c
  | .bytes _ => 0

/-- A committed numeric member as a natural number. -/
def State.odNat (s : State) (c i m : Nat) : Nat := (s.odNum c i m).toNat

/-- The state with a member's committed value replaced. -/
def State.odSet (s : State) (id : Nat) (v : OdVal) : State :=
  { s with od := { s.od with committed := Tab.put odDefault s.od.committed id v } }

/-- The function state (R266): 0 STOPPED, 1 STARTING, 2 RUN, 3 STOPPING. -/
def State.fn (s : State) (f : Nat) : FnSt := recGet {} s.od.fns f

def State.setFn (s : State) (f : Nat) (v : FnSt) : State := { s with od := { s.od with fns := recPut {} s.od.fns f v } }

/-- Is a function in RUN? -/
def State.fnRuns (s : State) (f : Nat) : Bool := (s.fn f).state == 2

/-! ### Encoding (R256) -/

/-- The bytes of a type of fixed length; 0 for STR, BLOB and codes that name no type. -/
def odSize : Nat → Nat
  | 1 | 2 | 6 | 12 => 1
  | 3 | 7 => 2
  | 4 | 8 | 10 => 4
  | 5 | 9 => 8
  | 11 => 5
  | _ => 0

/-- Is a type signed? -/
def odSigned (t : Nat) : Bool := 6 ≤ t && t ≤ 10

/-- Does a code name a type? -/
def odTypeKnown (t : Nat) : Bool := 1 ≤ t && t ≤ 14

/-- n bytes of a number in the order of the record: little-endian in the shared window, else most significant first. -/
def odInt (little : Bool) (n v : Nat) : List Byte := if little then leBytes n v else beBytes n v

/-- The number that bytes of a record spell. -/
def odIntOf (little : Bool) (l : List Byte) : Nat := if little then ofLe l else ofBe l

/-- The canonical encoding of a value of type t. -/
def odEnc (little : Bool) (t : Nat) : OdVal → List Byte
  | .num v => odInt little (odSize t) (ofIntN (8 * odSize t) v)
  | .coef c sh => odInt little 4 (ofIntN 32 c) ++ [BitVec.ofNat 8 sh]
  | .bytes b => (if t = 13 then [BitVec.ofNat 8 b.length] else odInt little 2 b.length) ++ b

/-- A number of w bits read as two's complement. -/
def odSign (w v : Nat) : Int := if v < 2 ^ (w - 1) then (v : Int) else (v : Int) - 2 ^ w

/-- One value of type t at the front of bytes, and the bytes after it; none where its length does not fit (R257). -/
def odDec (little : Bool) (t : Nat) (l : List Byte) : Option (OdVal × List Byte) :=
  if t = 13 || t = 14 then
    let h := if t = 13 then 1 else 2
    let n := odIntOf little (l.take h)
    if l.length < h + n || n > (if t = 13 then 64 else 1024) then none
    else some (.bytes ((l.drop h).take n), l.drop (h + n))
  else
    let n := odSize t
    if n = 0 || l.length < n then none
    else if t = 11 then some (.coef (odSign 32 (odIntOf little (l.take 4))) ((l.getD 4 0).toNat), l.drop 5)
    else
      let v := odIntOf little (l.take n)
      some (.num (if odSigned t then odSign (8 * n) v else v), l.drop n)

end Sys2Proof.Machine
end

