-- ==== Sys2Proof/Machine/Thermal.lean ====
section
/-! DEFINITION. THM: the die sensors, Tj, throttle level and the trip condition (18_thermal, R581-R592). -/

namespace Sys2Proof.Machine

/-- An 8-byte ring entry of four bytes and the time stamp (R252, R549, R590 and the like). -/
def entry8 (b0 b1 b2 b3 stamp : Nat) : List Byte :=
  [BitVec.ofNat 8 b0, BitVec.ofNat 8 b1, BitVec.ofNat 8 b2, BitVec.ofNat 8 b3] ++ leBytes 4 stamp

/-- The neighbours of a die sensor (R581). -/
def dtsNeighbours : Nat → List Nat
  | 0 => [5, 6, 4]
  | 1 => [6, 7, 4]
  | 2 => [5, 4, 3]
  | 3 => [7, 4, 2]
  | 4 => [5, 6, 7]
  | 5 => [0, 2, 4]
  | 6 => [0, 1, 4]
  | _ => [1, 3, 4]

/-- The middle one of three numbers. -/
def median3 (a b c : Int) : Int := max (min a b) (min (max a b) c)

/-- Twice the reference of a sensor from its unexcluded neighbours' readings (R582): the median of three, the mean of two,
none with fewer. -/
def thmRef2 : List Int → Option Int
  | [a, b, c] => some (2 * median3 a b c)
  | [a, b] => some (a + b)
  | _ => none

/-- The temperature in whole degrees of a reading in 1/16 degree (log entry 13). -/
def wholeDeg (t : Int) : Int := Int.fdiv t 16

/-- The latest reading of a sensor, in 1/16 degree. -/
def State.dts (s : State) (n : Nat) : Int := sfld (s.reg (Reg.thmDts n)) 0 16

/-- Tj in 1/16 degree (THM_TJ.TJ). -/
def State.tj (s : State) : Int := sfld (s.reg Reg.thmTj) 0 16

/-- The throttle level of R585: none while throttling is off. -/
def State.thmLevel (s : State) : Option Nat := if s.rb Reg.thmStat 3 then some (s.rf Reg.thmStat 0 3) else none

/-- Levels as numbers one higher, 0 for off, so that rises and falls compare. -/
def levelIndex : Option Nat → Nat
  | none => 0
  | some n => n + 1

/-- The level that Tj (1/16 degree) gives from the present one, with the two thresholds of R585; 0 is off, n + 1 is level n. -/
def levelStep (cur : Nat) (tj : Int) : Nat :=
  let up := (List.range 8).filter (fun (n : Nat) => decide (tj ≥ 16 * (95 + 2 * (n : Int))))
  let hold := (List.range 8).filter (fun (n : Nat) => decide (tj ≥ 16 * (94 + 2 * (n : Int))))
  if cur < up.length then up.length else min cur hold.length

/-- A ring 24 entry (R590). -/
def State.thmEntry (s : State) (kind b1 : Nat) : State :=
  s.ringOffer 24 (entry8 kind b1 (ofIntN 8 (wholeDeg s.tj)) 0 s.stamp)

/-- One sensor's agreement at a conversion (R582), under the exclusions in force before it. -/
def State.thmAgrees (s : State) (n : Nat) : Option Int × Bool :=
  let ref := thmRef2 (((dtsNeighbours n).filter (fun k => !s.rb Reg.thmExcl k)).map s.dts)
  match ref with
  | none => (none, true)
  | some r2 => (some r2, decide ((2 * s.dts n - r2).natAbs ≤ 256))

/-- Exclusion and readmission of one sensor after its conversion (R583). -/
def State.thmSensor (s : State) (n : Nat) (ref : Option Int) (ok : Bool) : State :=
  let excl := s.rb Reg.thmExcl n
  let s := s.setRb Reg.thmExcl (8 + n) ok
  if !excl then
    let k := if ok then 0 else s.thm.disagree.getD n 0 + 1
    let s := { s with thm := { s.thm with disagree := s.thm.disagree.set n k, agree := s.thm.agree.set n 0 } }
    if k < 3 then s else ((((s.setRb Reg.thmExcl n true).fire 51).thmEntry 2 n).fault 0x1001 n)
  else
    let near := match ref with
      | some r2 => decide ((2 * s.dts n - r2).natAbs ≤ 128)
      | none => false
    let k := if near then s.thm.agree.getD n 0 + 1 else 0
    let s := { s with thm := { s.thm with agree := s.thm.agree.set n k } }
    if k < 1000 then s
    else
      let s := { s with thm := { s.thm with agree := s.thm.agree.set n 0, disagree := s.thm.disagree.set n 0 } }
      (((s.setRb Reg.thmExcl n false).fire 51).thmEntry 3 n).faultClear 0x1001 n

/-- The highest of some readings. -/
def maxOf : List Int → Option Int
  | [] => none
  | a :: t => some (t.foldl max a)

/-- Tj from the readings, exclusions and agreements (R584). With every sensor excluded no reading is left, and the spec
states no Tj: a free value. -/
def State.thmTj (s : State) : State :=
  let inc := (List.range 8).filter (fun n => !s.rb Reg.thmExcl n)
  let agr := inc.filter (fun n => s.rb Reg.thmExcl (8 + n))
  let s := s.setRb Reg.thmStat 5 agr.isEmpty
  match maxOf (agr.map s.dts), maxOf (inc.map s.dts) with
  | some t, _ => s.setRf Reg.thmTj 0 16 (ofIntN 16 t)
  | none, some t => s.setRf Reg.thmTj 0 16 (ofIntN 16 t)
  | none, none =>
    let res := s.drawWord
    let w := res.1
    let s := res.2
    s.setRf Reg.thmTj 0 16 w.toNat

/-- DEGRADED (R584), with fewer than 2 sensors left; its ring entry follows with the level that it gives (R590). -/
def State.thmDegraded (s : State) : State :=
  let n := ((List.range 8).filter (fun n => !s.rb Reg.thmExcl n)).length
  if n < 2 && !s.rb Reg.thmStat 4 then (s.setRb Reg.thmStat 4 true).fault 0x1003 n
  else if 2 ≤ n && s.rb Reg.thmStat 4 then (s.setRb Reg.thmStat 4 false).faultClear 0x1003 n
  else s

/-- The throttle level follows Tj; it is at least 3 while DEGRADED (R584, R585). -/
def State.thmLevelUpdate (s : State) : State :=
  let old := levelIndex s.thmLevel
  let new0 := levelStep old s.tj
  let new := if s.rb Reg.thmStat 4 then max 4 new0 else new0
  if new = old then s
  else
    let s := (s.setRf Reg.thmStat 0 3 (new - 1)).setRb Reg.thmStat 3 (new != 0)
    let s := if old < new then s.incSat Reg.thmLvlcnt 1 else s
    (s.fire 50).thmEntry 1 (new - 1)

/-- THM_VREFTRIM at a new Tj: fuse offset plus slope times (Tj - 25), to the nearest step (R589). The fuse slope is held in
1/65,536 step per degree (log entry 4). -/
def State.thmVref (s : State) : State :=
  let t := s.fuse.vrefOffset + Int.fdiv (s.fuse.vrefSlope * (s.tj - 400) * 2 + 16 * 65536) (2 * 16 * 65536)
  s.setReg Reg.thmVreftrim (BitVec.ofNat 32 (ofIntN 16 t))

/-- PEAK: the highest whole-degree Tj since the last read. -/
def State.thmPeak (s : State) : State :=
  let w := wholeDeg s.tj
  let s := { s with pwr := { s.pwr with tripPeak := max s.pwr.tripPeak w } }
  if sfld (s.reg Reg.thmTj) 16 8 < w then s.setRf Reg.thmTj 16 8 (ofIntN 8 w) else s

/-- TBO's frequency follows its trim and the temperature table (R588): the offset is interpolated linearly in Tj between the points at
-40 + 25 i °C, in 1/400 of a step. Past either end of the table the spec states no offset: a free value (log entry 115). -/
def State.tboFollow (s : State) : State :=
  let d := s.tj + 640
  let trim := 400 * sfld (s.reg Reg.tboTrim) 0 16
  if d < 0 || 2800 < d then
    let w := s.drawWord
    { w.2 with thm := { w.2.thm with freq := trim + w.1.toInt } }
  else
    let i := d.toNat / 400
    let k : Int := d - 400 * i
    let off := fun (j : Nat) => sfld (s.reg (Reg.tboTtab (min 7 j))) 0 16
    { s with thm := { s.thm with freq := trim + off i * (400 - k) + off (i + 1) * k } }

/-- A conversion of the eight sensors, up to the trip (R581-R585, R587, R589). -/
def State.thmConvert (s : State) (readings : List Int) : State :=
  let s := s.forEach (List.range 8) (fun s n => s.setReg (Reg.thmDts n) (BitVec.ofNat 32 (ofIntN 16 (readings.getD n 0))))
  let verdicts := (List.range 8).map s.thmAgrees
  let s := s.forEach (List.range 8) (fun s n => s.thmSensor n (verdicts.getD n (none, true)).1 (verdicts.getD n (none, true)).2)
  let was := s.rb Reg.thmStat 4
  let s := s.thmTj.thmDegraded.thmLevelUpdate
  let s := if s.rb Reg.thmStat 4 && !was then s.thmEntry 4 (s.rf Reg.thmStat 0 3) else s
  let s := s.thmVref.thmPeak.tboFollow
  { s with thm := { s.thm with hasReading := true, hot := if s.tj ≥ 1920 then s.thm.hot + 1 else 0 } }

/-- THM_TJ_READ: PEAK clears on a read; THM cannot be owned, so a host read clears nothing (R52, R584). -/
def execThmTjRead (who : Init) (s : State) : Host.Outcome State Fault Refusal :=
  (s.readClear who 17 Reg.thmTj (maskOf 16 8)).done

/-- THM_LVLCNT_READ (R585). -/
def execThmLvlcntRead (who : Init) (s : State) : Host.Outcome State Fault Refusal :=
  (s.readClear who 17 Reg.thmLvlcnt 0xFFFFFFFF).done

end Sys2Proof.Machine
end

