-- ==== Sys2Proof/Machine/Acq.lean ====
section
/-! DEFINITION. ACQ: the sequence table, conversions, decimation, the comparators' regions and the mismatch estimator (02_acquisition, R57-R104, R624). -/

namespace Sys2Proof.Machine

/-! ### Channels, decimators and slices -/

/-- Does the variant carry channel or decimator c (R57, R103)? -/
def State.acqHas (s : State) (c : Nat) : Bool :=
  c < 88 && (s.present 20 || !((32 ≤ c && c < 64) || (72 ≤ c && c < 80)))

/-- Is channel c one half of a differential pair under the pairs in force (R58)? -/
def State.acqPaired (s : State) (c : Nat) : Bool := c < 64 && bitOf s.acq.diff (c / 2)

def State.chan (s : State) (c : Nat) : ChanSt := recGet {} s.acq.chans c

def State.setChan (s : State) (c : Nat) (v : ChanSt) : State :=
  { s with acq := { s.acq with chans := recPut {} s.acq.chans c v } }

def State.dec (s : State) (d : Nat) : DecSt := recGet {} s.acq.decs d

def State.setDec (s : State) (d : Nat) (v : DecSt) : State :=
  { s with acq := { s.acq with decs := recPut {} s.acq.decs d v } }

def State.sliceOf (s : State) (n : Nat) : SliceSt := recGet {} s.acq.slices n

def State.setSlice (s : State) (n : Nat) (v : SliceSt) : State :=
  { s with acq := { s.acq with slices := recPut {} s.acq.slices n v } }

/-- The guard channels under a set of differential pairs: the channels that valid entries of FAN_SHDN_SEL (R242) and valid fields
of FANf_AUTOCH of the present fans name (R74), in ascending order. -/
def State.guardsUnder (s : State) (paired : Nat → Bool) : List Nat :=
  let shdn := (List.range 4).filterMap (fun j =>
    let c := s.rf Reg.fanShdnSel (8 * j) 7
    if s.rb Reg.fanShdnSel (8 * j + 7) && c < 64 && !paired c then some c else none)
  let fans := (List.range s.nFans).flatMap (fun f =>
    (if s.rb (Reg.fanfAutoch f) 7 then [s.rf (Reg.fanfAutoch f) 0 7] else []) ++
    (if s.rb (Reg.fanfAutoch f) 15 then [s.rf (Reg.fanfAutoch f) 8 7] else []))
  (List.range 88).filter (fun c => s.acqHas c && (shdn ++ fans).contains c)

/-- The guard channels under the pairs in force (R74). -/
def State.guardChannels (s : State) : List Nat := s.guardsUnder s.acqPaired

/-- The guard settle time in TBO cycles (R74). -/
def State.guardSettle (s : State) : Nat :=
  let n := s.guardChannels.length
  let g := s.rf Reg.acqCfg 8 8
  if n * g ≤ 3600 then g else 3600 / n

/-- The words of ACQ_GUARD0-2 (R74). -/
def State.acqGuardWord (s : State) (i : Nat) : Word :=
  s.guardChannels.foldl (fun w c => if c / 32 == i then putBit w (c % 32) true else w) 0

/-- ACQ_ALIGN.PERIOD as it acts (R99). -/
def State.acqPeriod (s : State) : Nat := let p := s.rf Reg.acqAlign 0 21; if p > 1048576 then 0 else p

/-- Does a pass start fit this tick: (TBCOUNT - PHASE) mod PERIOD = 0 (R68, R99)? -/
def State.acqAligned (s : State) : Bool :=
  let p := s.acqPeriod
  p = 0 || (s.tb.count + p - s.rf Reg.acqPhase 0 20 % p) % p = 0

/-- May the next pass start at this tick: at or after step 5 of the last entry without alignment, at an aligned tick at or after
it with alignment (R68)? -/
def State.passReady (s : State) : Bool :=
  if s.acqPeriod = 0 then s.acq.readyAt ≤ s.now
  else (if s.acq.mid then s.acq.readyAt < s.now else s.acq.readyAt ≤ s.now) && s.acqAligned

/-- ACQ_STAT.WAITING (R93's register): a post-delay runs, or a pass waits for an aligned tick that has not come. -/
def State.acqWaiting (s : State) : Bool :=
  match s.acq.phase with
  | .passPending => (s.acqPeriod != 0 && !s.passReady) || (s.acq.delayed && s.now < s.acq.readyAt)
  | .entryPending => s.acq.delayed && s.now < s.acq.readyAt
  | .stopped | .inEntry | .emptyPass => false

/-- ACQ_STAT as it reads: RUNNING, WAITING and ENTRY follow the sequence, SKIPPED is stored. -/
def State.acqStatWord (s : State) : Word :=
  let w := s.reg Reg.acqStat &&& 4
  let w := putBit w 0 (s.acq.phase != .stopped)
  let w := putBit w 1 s.acqWaiting
  putFld w 8 8 s.acq.entry

/-- An ACQ fault is logged and event 11 fires (R104). -/
def State.acqFault (s : State) (code param : Nat) : State := (s.fault code param).fire 11

/-! ### Codes (R61-R63) -/

/-- The corrected code of a raw code under corrections OFFS and GAIN (R61). -/
def correctCode (offs gain x : Int) (diff : Bool) : Int :=
  let y := Int.fdiv ((16 * x - offs) * gain + 2 ^ 18) (2 ^ 19)
  if diff then clampInt (-32768) 32767 y else clampInt 0 65535 y

/-- OFFS of a slice, in 1/16 LSB. -/
def State.sliceOffs (s : State) (n : Nat) : Int := sfld (s.reg (Reg.acqSliceCorr n)) 0 16

/-- GAIN of a slice, Q1.15. -/
def State.sliceGain (s : State) (n : Nat) : Int := s.rf (Reg.acqSliceCorr n) 16 16

/-- The corrected code of a raw code on a slice (R61). -/
def State.correct (s : State) (n : Nat) (x : Int) (diff : Bool) : Int := correctCode (s.sliceOffs n) (s.sliceGain n) x diff

/-! ### The estimator (R86-R91) -/

/-- OFFS and GAIN of a slice written, each within its field. -/
def State.setCorr (s : State) (n : Nat) (offs gain : Int) : State :=
  (s.setRf (Reg.acqSliceCorr n) 0 16 (ofIntN 16 (clampInt (-32768) 32767 offs))).setRf (Reg.acqSliceCorr n) 16 16
    (clampInt 0 65535 gain).toNat

/-- A free step of -1, 0 or 1, by which a correction moves (R87 gives the bound alone; log entry 22). -/
def State.drawStep (s : State) : Int × State := let r := s.drawNat 3; ((r.1 : Int) - 1, r.2)

/-- OFFS, GAIN and SKEW of a slice moved by at most one unit each, by amounts the spec leaves open (R87); none moves under
FREEZE. -/
def State.sliceMove (s : State) (n : Nat) : State :=
  if s.rb Reg.acqCfg 1 then s
  else
    let o := s.drawStep
    let g := o.2.drawStep
    let k := g.2.drawStep
    let s := k.2.setCorr n (s.sliceOffs n + o.1) (s.sliceGain n + g.1)
    s.setRf (Reg.acqSliceSkew n) 0 8 (ofIntN 8 (clampInt (-128) 127 (sfld (s.reg (Reg.acqSliceSkew n)) 0 8 + k.1)))

/-- How far corrections leave the two fettle codes from the fuse codes of channels 85 and 86 (R87). -/
def State.fettleError (s : State) (offs gain x85 x86 : Int) : Nat × Nat :=
  ((correctCode offs gain x85 false - s.fuse.code85).natAbs, (correctCode offs gain x86 false - s.fuse.code86).natAbs)

/-- A fettle pair of raw codes moves OFFS and GAIN of a slice by at most one unit each towards the fuse codes of channels 85 and
86 (R87): the step is free, and is made only where it takes neither corrected code further from its fuse code (log entry 22). -/
def State.fettleMove (s : State) (n : Nat) (x85 x86 : Int) : State :=
  if s.rb Reg.acqCfg 1 then s
  else
    let o := s.drawStep
    let g := o.2.drawStep
    let old := s.fettleError (s.sliceOffs n) (s.sliceGain n) x85 x86
    let new := s.fettleError (clampInt (-32768) 32767 (s.sliceOffs n + o.1)) (clampInt 0 65535 (s.sliceGain n + g.1)) x85 x86
    if new.1 ≤ old.1 && new.2 ≤ old.2 then g.2.setCorr n (s.sliceOffs n + o.1) (s.sliceGain n + g.1) else g.2

/-- A pair counts for one of its slices: NOPAIR restarts, and each 4,096th pair may move the corrections of a slice that is not
stale (R86, R87, R89); a stale slice is corrected from fettle data alone (R90). -/
def State.slicePair (s : State) (n : Nat) : State :=
  let v := s.sliceOf n
  let s := s.setReg (Reg.acqSliceNopair n) 0
  let s := s.setSlice n { v with pairs := (v.pairs + 1) % 4096, stalePairs := v.stalePairs + 1 }
  if v.pairs + 1 = 4096 && !s.rb Reg.acqCal n then s.sliceMove n else s

/-- The estimator sees a table or guard conversion of channel c on slice n (R86, R88, R89). A guard conversion between passes, or
while RUN is 0, belongs to the pass started last: R86 does not say (DESIGN CHOICE, log entry 31). -/
def State.estimate (s : State) (c n : Nat) : State :=
  let old := s.chan c
  let s := s.setSlice n { s.sliceOf n with others := (s.sliceOf n).others + 1 }
  let s := s.setRf (Reg.acqSliceNopair n) 0 21 (min 1048576 (s.rf (Reg.acqSliceNopair n) 0 21 + 1))
  match old.slice with
  | some m => if m != n && s.acq.passNo ≤ old.pass + 1 then (s.slicePair m).slicePair n else s
  | none => s

/-! ### Conversions -/

/-- A raw code within its range: 16 bits unsigned single-ended, signed differential (R61). -/
def rawCode (x : Int) (diff : Bool) : Int := if diff then clampInt (-32768) 32767 x else clampInt 0 65535 x

/-- Is a raw code at either end of its range (R62)? -/
def clipped (x : Int) (diff : Bool) : Bool :=
  if diff then x == -32768 || x == 32767 else x == 0 || x == 65535

/-- The LAST word of a corrected code (R63); a signed format on a single-ended channel stores format 0 (R99). -/
def lastWord (y : Int) (fmt : Nat) (diff : Bool) : Word :=
  if diff then
    match fmt with
    | 0 => ofInt32 (y + 32768)
    | 1 => ofInt32 ((y + 32768) * 65536)
    | 2 => ofInt32 y
    | _ => ofInt32 (y * 65536)
  else if fmt = 1 then ofInt32 (y * 65536) else ofInt32 y

def acqLast (c : Nat) : Nat := 0x70000000 + 4 * c
def acqPv (d : Nat) : Nat := 0x70000400 + 4 * d
def acqStatus (d : Nat) : Nat := 0x70000800 + 4 * d
def acqSum (d : Nat) : Nat := 0x70001000 + 8 * d

/-- A completed table or guard conversion of channel c: LAST, ACQ_CLIPCNT, the estimator and the channel's latest code
(R62, R63, R75, R86). -/
def State.convert (s : State) (c n : Nat) (x : Int) (fmt : Nat) (diff : Bool) : State :=
  let y := s.correct n x diff
  let s := s.setWord (acqLast c) (lastWord y fmt diff)
  let s := if clipped x diff then s.incSat Reg.acqClipcnt 1 else s
  let s := s.estimate c n
  s.setChan c { slice := some n, pass := s.acq.passNo, tick := some s.now, code := y, diff := diff }

/-- A conversion joins its decimator's live sum (R77, R96), unless the pass has the other mode there (R99). A conversion that is
not added sets no CLIP either: R62 and R99 do not say (DESIGN CHOICE, log entry 30). -/
def State.decimate (s : State) (d : Nat) (y x : Int) (diff : Bool) : State :=
  if d = 127 then s
  else
    let v := s.dec d
    if v.mode = some (!diff) then s
    else
      let s := s.setDec d { v with mode := some diff, clip := v.clip || clipped x diff }
      let s := s.setWord (acqSum d) (s.word (acqSum d) + ofInt32 y)
      s.setWord (acqSum d + 4) (s.word (acqSum d + 4) + 1)

/-- Every live sum and count is 0, and no decimator has a mode in the pass (R93, R97). -/
def State.clearSums (s : State) : State :=
  let s := s.clearMem 0x70001000 0x700012C0
  { s with acq := { s.acq with decs := (List.range 88).foldl (fun t d =>
      let v : DecSt := recGet {} t d
      recPut {} t d { v with mode := none, clip := false }) s.acq.decs } }

/-! ### The sequence -/

/-- ACQ_SEQ_LEN as it acts (R99). -/
def State.acqLen (s : State) : Nat := clampNat 1 256 (s.rf Reg.acqSeqLen 0 9)

/-- Entry i as its registers stand. -/
def State.acqEntryOf (s : State) (i : Nat) : AcqEntry :=
  let w0 := s.reg (Reg.acqSeqW0 i)
  let w1 := s.reg (Reg.acqSeqW1 i)
  let d := fld w1 16 7
  { chan := fld w0 0 7, rep := if fld w0 8 8 = 0 then 256 else fld w0 8 8, fmt := fld w0 28 2, post := fld w1 0 12,
    slice := if bitOf w1 14 then some (fld w1 12 2) else none, dtgt := if s.acqHas d then d else 127 }

/-- Is an entry skipped under R99: its channel is absent, above 87 or the odd half of a pair, or its fixed slice is absent? -/
def State.acqSkips (s : State) (e : AcqEntry) : Bool :=
  !s.acqHas e.chan || (e.chan % 2 == 1 && s.acqPaired e.chan) ||
  (match e.slice with | some n => s.nSlices ≤ n | none => false)

/-- An entry is skipped: SKIPPED, ACQ_SKIPCNT, the fault and event 11 (R99, R104). -/
def State.acqSkip (s : State) (i : Nat) : State :=
  ((s.setRb Reg.acqStat 2 true).incSat Reg.acqSkipcnt 1).acqFault 0x0305 i

/-- What a pass leaves for the action of R80 (R77, R95). -/
def State.passResults (s : State) : List DecResult :=
  (List.range 88).filterMap (fun d =>
    let n := (s.word (acqSum d + 4)).toNat
    if n = 0 then none
    else
      let diff := (s.dec d).mode == some true
      let w := s.word (acqSum d)
      some { d := d, sum := if diff then w.toInt else (w.toNat : Int), n := n, diff := diff, clip := (s.dec d).clip,
             cfg := (List.range 7).map (fun k => s.reg (Reg.decCfg d + 4 * k)), stamp := s.stamp })

/-- DEC_CFG.CMP as it acts (R99). -/
def cmpMode (cfg : Word) : Nat := if fld cfg 5 2 = 3 then 0 else fld cfg 5 2

/-- CMP of every decimator takes effect at a pass end (R95). -/
def State.takeCmp (s : State) : State :=
  s.forEach (List.range 88) (fun s d => s.setDec d { s.dec d with cmp := cmpMode (s.reg (Reg.decCfg d)) })

/-- The end of a pass (R67, R80): ACQ_PASSCNT counts, the results wait for the action of R80, and step 5 of the last entry falls
at tick `ready`, or after it and before the next tick (`mid`). -/
def State.passEnd (s : State) (ready : Nat) (mid : Bool) : State :=
  let s := s.incWrap Reg.acqPasscnt
  let s := { s with acq := { s.acq with update := some s.passResults } }
  { s.takeCmp with acq := { s.takeCmp.acq with phase := .passPending, readyAt := ready, mid := mid } }

/-- Entries from i on that are skipped take no time; the first other one starts (R65, R99). The pass ends where none is left
(R67): step 5 is then that of the last entry that ran (R68), and a pass that converted nothing ends at the next base tick. -/
def State.entryFrom (s : State) : Nat → Nat → State
  | 0, _ =>
    if s.acq.converted then { s.passEnd s.acq.readyAt s.acq.mid with acq := { (s.passEnd s.acq.readyAt s.acq.mid).acq with delayed := false } }
    else { s with acq := { s.acq with phase := .emptyPass } }
  | k + 1, i =>
    let e := s.acqEntryOf i
    let s := { s with acq := { s.acq with entry := i } }
    if s.acqSkips e then (s.acqSkip i).entryFrom k (i + 1)
    else { s with acq := { s.acq with phase := .inEntry, delayed := false, cur := e, sampled := 0, completed := 0 } }

/-- A pass starts: the settings of R95 take effect, B follows R72, the sums clear (R97) and entry 0 starts (R67). -/
def State.passStart (s : State) : State :=
  let a := s.acq
  let n := s.nSlices
  let base := if a.keepBase then a.base else if s.rb Reg.acqCfg 0 then (a.base + 1) % n else (a.base + a.anyCount) % n
  let s := s.clearSums
  let s := { s with acq := { s.acq with base := base, keepBase := false, anyCount := 0, passNo := a.passNo + 1,
                                        converted := false, len := s.acqLen, diff := s.reg Reg.acqDiff } }
  s.entryFrom s.acqLen 0

/-- PASS_START (R68-R70, R72): at step 5 of the last entry, or at the aligned tick, once the guard conversions have run. -/
def execPassStart (s : State) : Host.Outcome State Fault Refusal :=
  (if s.acq.phase = .passPending && s.passReady && s.acq.guardDue.isEmpty && s.awake then s.passStart else s).done

/-- ENTRY_START (R65, R70): the next entry starts at step 5 of the one before. -/
def execEntryStart (s : State) : Host.Outcome State Fault Refusal :=
  (if s.acq.phase = .entryPending && s.acq.readyAt ≤ s.now && s.acq.guardDue.isEmpty && s.awake then
    s.entryFrom (s.acq.len - (s.acq.entry + 1)) (s.acq.entry + 1) else s).done

/-- The slice a table conversion goes to: the entry's own, or (B + c) mod S (R71). -/
def State.nextSlice (s : State) : Nat :=
  match s.acq.cur.slice with
  | some n => n
  | none => (s.acq.base + s.acq.anyCount) % s.nSlices

/-- Is a slice free of a conversion in progress (R60)? -/
def State.sliceFree (s : State) (n : Nat) : Bool := !s.acq.inflight.any (fun c => c.slice == n)

/-- CONVERSION_SAMPLE (R60, R65, R66, R71): the next conversion of the entry samples on its slice. -/
def execConversionSample (code : Int) (s : State) : Host.Outcome State Fault Refusal :=
  (if s.acq.phase = .inEntry && s.acq.sampled < s.acq.cur.rep && s.sliceFree s.nextSlice && s.acq.guardDue.isEmpty && s.awake then
    let e := s.acq.cur
    let diff := e.chan % 2 == 0 && s.acqPaired e.chan
    let c : AcqConv := { slice := s.nextSlice, code := rawCode code diff, chan := e.chan, fmt := e.fmt, dtgt := e.dtgt, diff := diff }
    { s with acq := { s.acq with inflight := s.acq.inflight ++ [c], sampled := s.acq.sampled + 1, converted := true,
                                 anyCount := if e.slice.isNone then s.acq.anyCount + 1 else s.acq.anyCount } }
  else s).done

/-- Step 4 of an entry (R65, R67): the next entry or the pass end follows after POST. ENTRY stays till the next entry starts. -/
def State.entryEnd (s : State) : State :=
  let p := s.acq.cur.post
  let s := { s with acq := { s.acq with readyAt := s.now + p, mid := p == 0, delayed := p != 0 } }
  if s.acq.entry + 1 < s.acq.len then { s with acq := { s.acq with phase := .entryPending } }
  else s.passEnd s.acq.readyAt s.acq.mid

/-- The oldest conversion in progress completes (R59, R62, R65). -/
def State.completeOne (s : State) (c : AcqConv) (rest : List AcqConv) : State :=
  let y := s.correct c.slice c.code c.diff
  let s := { s with acq := { s.acq with inflight := rest } }
  let s := (s.convert c.chan c.slice c.code c.fmt c.diff).decimate c.dtgt y c.code c.diff
  if s.acq.phase = .inEntry && c.live then
    let s := { s with acq := { s.acq with completed := s.acq.completed + 1 } }
    if s.acq.completed = s.acq.cur.rep then s.entryEnd else s
  else s

/-- TBO cycles for which earlier guard conversions of this tick still hold slice n (R59, R73). -/
def State.guardHeld (s : State) (n : Nat) : Nat := s.acq.guardBusy.getD n 0

/-- TBO cycles from the last guard conversion's sampling instant to this one's: the guard settle time, at least the 2 of R60, and
until a slice without a table conversion is free (R73). -/
def State.guardWait (s : State) : Nat :=
  if s.acq.guardBusy.isEmpty then 0
  else
    let free := ((List.range s.nSlices).filter s.sliceFree).map s.guardHeld
    max (max 2 s.guardSettle) (free.foldl min (free.headD 0))

/-- The slice of a guard conversion: the first not busy at its sampling instant, the lower number of two (R73); where table
conversions hold every slice, the one that is free first. -/
def State.guardSlice (s : State) : Nat :=
  match (List.range s.nSlices).find? (fun n => s.sliceFree n && s.guardHeld n ≤ s.guardWait) with
  | some n => n
  | none => match s.acq.inflight with | c :: _ => c.slice | [] => 0

/-- A guard conversion samples on its slice, which it holds for 8 TBO cycles (R59, R73). -/
def State.guardSample (s : State) : State :=
  let held := (List.range s.nSlices).map (fun n => if n = s.guardSlice then 8 else s.guardHeld n - s.guardWait)
  { s with acq := { s.acq with guardBusy := held } }

/-- A guard channel's conversion (R73, R75): LAST in format 0 and the estimator; no decimator. The odd half of a differential pair
that PRI or BUD names is converted single-ended (R58 does not say; DESIGN CHOICE, log entry 113). -/
def State.guardOne (s : State) (c : Nat) (rest : List Nat) (code : Int) : State :=
  let diff := c % 2 == 0 && s.acqPaired c
  let n := s.guardSlice
  let s := { s.guardSample with acq := { s.guardSample.acq with guardDue := rest } }
  s.convert c n (rawCode code diff) 0 diff

/-- The guard conversions that a base tick asks for: the guard channels without a conversion completed since the tick two
ticks earlier, in ascending order (R73, R76). -/
def State.guardTick (s : State) : State :=
  let due := if s.acq.guardsOn && s.awake then
      s.guardChannels.filter (fun c => match (s.chan c).tick with | some t => t + 2 < s.now | none => true)
    else []
  { s with acq := { s.acq with guardDue := due, guardBusy := [] } }

/-- What a base tick does to the sequence: a pass without a conversion ends at it (R68). -/
def State.acqTick (s : State) : State :=
  let s := s.guardTick
  if s.acq.phase = .emptyPass then s.passEnd s.now false else s

/-- FETTLE_CONVERSION (R87, R88, R90): due after 65,536 other conversions of the slice, 64 while FAST; channels 85 and 86
alternate, and the second of a pair may move OFFS and GAIN. -/
def execFettleConversion (slice : Nat) (code : Int) (s : State) : Host.Outcome State Fault Refusal :=
  (let v := s.sliceOf slice
   if slice < s.nSlices && (if s.rb Reg.acqCal 8 then 64 else 65536) ≤ v.others && s.sliceFree slice && s.awake then
    match v.ref85 with
    | none => s.setSlice slice { v with others := 0, ref85 := some (rawCode code false) }
    | some x => (s.setSlice slice { v with others := 0, ref85 := none }).fettleMove slice x (rawCode code false)
   else s).done

/-- SLICE_STALE (R89, R90, R104): NOPAIR has reached 2^20. -/
def execSliceStale (slice : Nat) (s : State) : Host.Outcome State Fault Refusal :=
  (if slice < s.nSlices && s.rf (Reg.acqSliceNopair slice) 0 21 = 1048576 && !s.rb Reg.acqCal slice then
    let s := ((s.setRb Reg.acqCal slice true).setRb Reg.acqCal 8 true).fire 10
    (s.setSlice slice { s.sliceOf slice with stalePairs := 0 }).acqFault 0x0301 slice
  else s).done

/-- STALE_CLEAR (R91): 1,024 pairs since the bit was set; with the last bit FAST clears and event 10 fires. -/
def execStaleClear (slice : Nat) (s : State) : Host.Outcome State Fault Refusal :=
  (if slice < s.nSlices && s.rb Reg.acqCal slice && 1024 ≤ (s.sliceOf slice).stalePairs then
    let s := (s.setRb Reg.acqCal slice false).faultClear 0x0301 slice
    if s.rf Reg.acqCal 0 4 = 0 then (s.setRb Reg.acqCal 8 false).fire 10 else s
  else s).done

/-- A write of ACQ_SLICEn_CORR or ACQ_SLICEn_SKEW: only under FREEZE (R94). -/
def State.sliceCorrWrite (s : State) (n : Nat) (skew : Bool) (v : Word) : State :=
  if !s.rb Reg.acqCfg 1 then s
  else if skew then s.setReg (Reg.acqSliceSkew n) (v &&& 0xFF) else s.setReg (Reg.acqSliceCorr n) v

/-- SLICE_CORR_WRITE (R94); the slices a variant lacks are absent (R103). -/
def execSliceCorrWrite (who : Init) (slice : Nat) (skew : Bool) (v : Word) (s : State) : Host.Outcome State Fault Refusal :=
  (let n := slice % 4
   let addr := if skew then Reg.acqSliceSkew n else Reg.acqSliceCorr n
   if s.nSlices ≤ n then s.hit 0 addr (who == .host)
   else s.guardWrite who 6 addr (fun s => s.sliceCorrWrite n skew v)).done

/-- ACQ_CLIPCNT_READ (R62). -/
def execAcqClipcntRead (who : Init) (s : State) : Host.Outcome State Fault Refusal :=
  (s.readClear who 6 Reg.acqClipcnt 0xFFFFFFFF).done

/-- ACQ_SKIPCNT_READ (R99). -/
def execAcqSkipcntRead (who : Init) (s : State) : Host.Outcome State Fault Refusal :=
  (s.readClear who 6 Reg.acqSkipcnt 0xFFFFFFFF).done

/-! ### Start, stop, chill -/

/-- RUN becomes 1 (R69, R72, R93, R97, R100): the first pass waits from this tick on, or from the next where the write falls
between two ticks (`mid`), B is 0, the pass count and every VALID and FRESH clear, and each comparator waits for its first PV
(R84). The run of bad passes of R624 goes on. No pass precedes the first one for CLIP: R104 does not say (DESIGN CHOICE, log
entry 33). -/
def State.acqRun (s : State) (mid : Bool) : State :=
  let s := (s.setRb Reg.acqCtrl 0 true).setReg Reg.acqPasscnt 0
  let s := s.forEach (List.range 88) (fun s d =>
    (s.setWord (acqStatus d) (s.word (acqStatus d) &&& 0xFFFCFFFF)).setDec d
      { first := true, refBad := (s.dec d).refBad, cmp := (s.dec d).cmp })
  { s with acq := { s.acq with phase := .passPending, readyAt := s.now, mid := mid, delayed := false, base := 0, keepBase := true,
                               anyCount := 0, entry := 0, update := none } }

/-- RUN becomes 0 (R93): the pass is abandoned after the conversions in progress, which then feed no decimator, and the sums
clear; the PVs stay. -/
def State.acqHalt (s : State) : State :=
  let s := (s.setRb Reg.acqCtrl 0 false).clearSums
  { s with acq := { s.acq with phase := .stopped, delayed := false, entry := 0, sampled := 0,
                               inflight := s.acq.inflight.map (fun c => { c with dtgt := 127, live := false }) } }

/-- A write of ACQ_CTRL (R93). The first pass after a write waits, if PERIOD is not 0, for a tick after it. -/
def State.acqCtrlWrite (s : State) (v : Word) : State :=
  match bitOf v 0, s.rb Reg.acqCtrl 0 with
  | true, false => s.acqRun true
  | false, true => s.acqHalt
  | _, _ => s

/-- ACQ_START (R93): a write of 1 to ACQ_CTRL.RUN. -/
def execAcqStart (who : Init) (s : State) : Host.Outcome State Fault Refusal :=
  (s.guardWrite who 6 Reg.acqCtrl (fun s => s.acqCtrlWrite 1)).done

/-- ACQ_STOP (R93): a write of 0 to ACQ_CTRL.RUN. -/
def execAcqStop (who : Init) (s : State) : Host.Outcome State Fault Refusal :=
  (s.guardWrite who 6 Reg.acqCtrl (fun s => s.acqCtrlWrite 0)).done

/-- Entry to chill: the slices stop (R101). -/
def State.acqChill (s : State) : State := { s with acq := { s.acq with inflight := [], guardDue := [], guardBusy := [] } }

/-- Leaving chill (R101): the pass in progress is abandoned, the sums clear, and a pass starts under R68 at the first base
tick, with B unchanged. -/
def State.acqWake (s : State) : State :=
  if s.acq.phase = .stopped then s
  else
    let s := s.clearSums
    { s with acq := { s.acq with phase := .passPending, readyAt := s.now + 1, mid := false, delayed := false, keepBase := true, sampled := 0 } }

/-! ### Process values -/

/-- The mean code of R77. -/
def meanCode (sum : Int) (n : Nat) : Int := Int.fdiv (sum * 65536 + (n / 2 : Nat)) n

/-- The table value of R79 for a mean code. -/
def State.tableValue (s : State) (t : Nat) (mc : Int) (diff : Bool) : Int :=
  let u := ofIntN 32 (if diff then mc + 2 ^ 31 else mc)
  let i := u / 2 ^ 27
  let f : Int := (u % 2 ^ 27 : Nat)
  let p := (s.reg (Reg.acqLin t i)).toInt
  let q := (s.reg (Reg.acqLin t (i + 1))).toInt
  p + Int.fdiv ((q - p) * f + 2 ^ 26) (2 ^ 27)

/-- The PV of a mean code under DEC_CFG, DEC_GAIN and DEC_OFFSET (R78, R79; R99 for SCALE 2 and 3). -/
def State.scalePv (s : State) (cfg gain offset : Word) (mc : Int) (diff : Bool) : Int :=
  if fld cfg 0 2 = 1 then
    sat32 (Int.fdiv (s.tableValue (fld cfg 2 3) mc diff * gain.toInt + 2 ^ 15) (2 ^ 16) + offset.toInt)
  else sat32 (Int.fdiv (gain.toInt * mc + 2 ^ 31) (2 ^ 32) + offset.toInt)

/-- The comparator region of a PV (R82): window (mode 1) or contact (mode 2). -/
def cmpRegion (mode : Nat) (pv lo mid hi : Int) : Nat :=
  if mode = 1 then (if pv < lo then 0 else if pv ≤ hi then 1 else 2)
  else (if pv < lo then 0 else if pv < mid then 1 else if pv < hi then 2 else 3)

/-- Is a PV in the current region with its bounds widened outward by the hysteresis (R83)? -/
def cmpStays (mode cur : Nat) (pv lo mid hi h : Int) : Bool :=
  if mode = 1 then
    match cur with
    | 0 => pv < lo + h
    | 1 => lo - h ≤ pv && pv ≤ hi + h
    | _ => pv > hi - h
  else
    match cur with
    | 0 => pv < lo + h
    | 1 => lo - h ≤ pv && pv < mid + h
    | 2 => mid - h ≤ pv && pv < hi + h
    | _ => pv ≥ hi - h

/-- A comparator state as the status word shows it. -/
def State.cmpState (s : State) (d : Nat) : Nat := fld (s.word (acqStatus d)) 20 3

/-- A change of comparator state at the pass end of timestamp `stamp` (R85): ring 4, event 9, and the tamper faults of a contact. -/
def State.cmpChange (s : State) (d mode new old stamp : Nat) : State :=
  let s := s.setWord (acqStatus d) (putFld (s.word (acqStatus d)) 20 3 new)
  let s := (s.ringOffer 4 (entry8 d mode new old stamp)).fire 9
  if mode = 2 && new = 3 then s.acqFault 0x0302 d
  else if mode = 2 && new = 0 then s.acqFault 0x0303 d
  else s

/-- The comparator at a fresh PV (R82-R85); PERSIST 0 acts as 1 (R99). -/
def State.comparator (s : State) (d : Nat) (pv : Int) (cfg : List Word) (stamp : Nat) : State :=
  let c := cfg.getD 0 0
  let mode := cmpMode c
  if mode = 0 then s.setDec d { s.dec d with first := false, candN := 0 }
  else
    let lo := (cfg.getD 3 0).toInt
    let mid := (cfg.getD 4 0).toInt
    let hi := (cfg.getD 5 0).toInt
    let h := (cfg.getD 6 0).toInt
    let v := s.dec d
    let plain := cmpRegion mode pv lo mid hi
    if v.first then
      let s := s.setDec d { v with first := false, candN := 0 }
      if plain = 1 then s.setWord (acqStatus d) (putFld (s.word (acqStatus d)) 20 3 plain) else s.cmpChange d mode plain 0xFF stamp
    else
      let cur := s.cmpState d
      let cand := if cmpStays mode cur pv lo mid hi h then cur else plain
      if cand = cur then s.setDec d { v with candN := 0 }
      else
        let k := if v.candN ≠ 0 && v.cand = cand then v.candN + 1 else 1
        if max 1 (fld c 8 4) ≤ k then (s.setDec d { v with candN := 0 }).cmpChange d mode cand cur stamp
        else s.setDec d { v with cand := cand, candN := k }

/-- Is a decimator fed by channel 80 alone (R624)? The entries of the plan are those of the sequence registers as they stand at
the action of R80, without those that R99 skips: R624 does not say (DESIGN CHOICE, log entry 34). -/
def State.refFed (s : State) (d : Nat) : Bool :=
  let es := ((List.range s.acq.len).map s.acqEntryOf).filter (fun e => e.dtgt == d && !s.acqSkips e)
  !es.isEmpty && es.all (fun e => e.chan == 80)

/-- REF_CHECK at a fresh PV (R624). A pass in which the decimator was not fed by channel 80 alone leaves the count as it is, which the
spec does not say (DESIGN CHOICE, log entry 34). -/
def State.refCheck (s : State) (d : Nat) (mc : Int) : State :=
  if !s.refFed d then s
  else
    let f := s.fuse.code80 * 65536
    let v := s.dec d
    if 100 * (mc - f).natAbs > f.natAbs then
      let s := s.setDec d { v with refBad := v.refBad + 1 }
      if v.refBad + 1 = 3 then s.acqFault 0x0304 (ofIntN 32 mc / 65536) else s
    else s.setDec d { v with refBad := 0 }

/-- The value part of the action of R80 for one decimator: its PV and its status word (R77-R80, R96, R97). PASS is ACQ_PASSCNT with
the pass itself counted: R96 does not say (DEDUCED, log entry 23). -/
def State.publish (s : State) (r : DecResult) : State :=
  let mc := meanCode r.sum r.n
  let s := s.setSword (acqPv r.d) (s.scalePv (r.cfg.getD 0 0) (r.cfg.getD 1 0) (r.cfg.getD 2 0) mc r.diff)
  let w := s.word (acqStatus r.d) &&& 0x00700000
  s.setWord (acqStatus r.d) (putBit ((w ||| 0x00030000) ||| BitVec.ofNat 32 (s.rf Reg.acqPasscnt 0 16)) 18 r.clip)

/-- A decimator that the pass fed nothing shows FRESH 0 (R81). Its run of bad passes of R624 stays as it is: R624 does not say
(DESIGN CHOICE, log entry 34). -/
def State.unfresh (s : State) (d : Nat) : State :=
  (s.setWord (acqStatus d) (putBit (s.word (acqStatus d)) 17 false)).setDec d { s.dec d with prevClip := false }

/-- The checks of a fresh PV: CLIP, REF_CHECK and the comparator (R85, R104, R624). -/
def State.pvChecks (s : State) (r : DecResult) : State :=
  let v := s.dec r.d
  let s := s.setDec r.d { v with prevClip := r.clip, freshAt := some s.now }
  let s := if r.clip && !v.prevClip then s.acqFault 0x0306 r.d else s
  (s.refCheck r.d (meanCode r.sum r.n)).comparator r.d (s.sword (acqPv r.d)) r.cfg r.stamp

/-- The action of R80: every PV and status word changes, event 8 fires, and each fresh PV is checked. -/
def State.pvAction (s : State) (rs : List DecResult) : State :=
  let s := { s with acq := { s.acq with update := none } }
  let fed := rs.map (fun r => r.d)
  let s := s.forEach ((List.range 88).filter (fun d => !fed.contains d)) State.unfresh
  let s := (rs.foldl State.publish s).fire 8
  rs.foldl State.pvChecks s

end Sys2Proof.Machine
end

