-- ==== Sys2Proof/Machine/Act.lean ====
section
/-! DEFINITION. ACT: the actuator channels, their four modes, safe states and position feedback (06_actuators, R197-R221). -/

namespace Sys2Proof.Machine

def State.act1 (s : State) (n : Nat) : ActCh := recGet {} s.act.chans n

def State.setAct (s : State) (n : Nat) (v : ActCh) : State :=
  { s with act := { s.act with chans := recPut {} s.act.chans n v } }

/-- ACTn_CFG.MODE as it acts: 5-7 act as 0 (R199, R219). -/
def State.actMode (s : State) (n : Nat) : Nat := let m := fld (s.act1 n).cfg 0 3; if m < 5 then m else 0

/-- ACTn_SAFE.KIND as it acts (R212, R218). -/
def State.actKind (s : State) (n : Nat) : Nat := fld (s.act1 n).safecfg 0 2

/-- The fields a write of which takes effect at the next base tick, or PWM period, do so now (R218). -/
def State.actLatch (s : State) (n : Nat) : State :=
  let a := s.act1 n
  let fb := s.reg (Reg.actnFb n)
  let a := if fld fb 0 8 = fld a.fb 0 8 then a else { a with badSince := none, goodSince := none, missed := 0 }
  s.setAct n { a with cfg := s.reg (Reg.actnCfg n), safecfg := s.reg (Reg.actnSafecfg n), safeval := s.reg (Reg.actnSafeval n), fb := fb }

/-- ACT_RUN bit n (R200). -/
def State.actRuns (s : State) (n : Nat) : Bool := s.rb Reg.actRun n

/-- 100 % in Q16.16 (R197). -/
def fullC : Int := 6553600

/-- A command limited to 0-100 % (R197). -/
def clampC (v : Int) : Int := clampInt 0 fullC v

/-- FULL in base ticks (R204); TRAVEL is clamped to 10-600 s (R219). -/
def State.actFull (s : State) (n : Nat) : Nat := 4000 * clampNat 10 600 (s.rf (Reg.actnP1 n) 0 10)

/-- pos of a FLOAT channel: FULL after reset (R205). -/
def State.actPos (s : State) (n : Nat) : Nat := ((s.act1 n).pos).getD (s.actFull n)

/-- FS of a STEP channel (R206, R219). -/
def State.actFs (s : State) (n : Nat) : Nat := max 1 (s.rf (Reg.actnP2 n) 0 31)

/-- P of a PWM channel in TBO cycles (R201, R219). -/
def State.actPeriod (s : State) (n : Nat) : Nat := clampNat 820 1638400 (s.rf (Reg.actnP1 n) 0 21)

/-- Does a channel act on a command: it follows its own, or SAFEVAL in its safe state VALUE (R200, R212)? -/
def State.actDriven (s : State) (n : Nat) : Bool :=
  !(s.act1 n).chill && (!(s.act1 n).safe || s.actKind n == 1)

/-- SAFEVAL as a command (R197, R212). -/
def State.actSafeC (s : State) (n : Nat) : Int := clampC (s.act1 n).safeval.toInt

/-- The command that a channel acts on: SAFEVAL in the safe state VALUE (R212), otherwise the one taken (R197). -/
def State.actC (s : State) (n : Nat) : Int :=
  if (s.act1 n).safe && s.actKind n == 1 then s.actSafeC n else (s.act1 n).cmd

/-- The target position of a STEP channel (R206). -/
def State.stepTarget (s : State) (n : Nat) : Int := Int.fdiv (s.actC n * s.actFs n + 3276800) fullC

/-- Is a FLOAT or STEP channel moving (R215)? -/
def State.actMoving (s : State) (n : Nat) : Bool :=
  match s.actMode n with
  | 2 => (s.act1 n).drv != .none
  | 3 => s.actDriven n && (s.act1 n).step != s.stepTarget n
  | _ => false

/-- The pins are driven from step 8 of shakeout on (R213, R386). -/
def State.actOn (s : State) : Bool := 8 ≤ s.shakeStep && s.awake

/-- The position as a whole percent, 0xFF outside FLOAT and STEP (R220): the floor, which the spec does not say (DESIGN CHOICE, log
entry 13). -/
def State.actPercent (s : State) (n : Nat) : Nat :=
  match s.actMode n with
  | 2 => min 100 (s.actPos n * 100 / s.actFull n)
  | 3 => (clampInt 0 100 (Int.fdiv ((s.act1 n).step * 100) (s.actFs n))).toNat
  | _ => 0xFF

/-- A ring 21 entry (R220). -/
def State.actEntry (s : State) (n kind : Nat) : State :=
  s.ringOffer 21 (entry8 n kind (s.actMode n) (s.actPercent n) s.stamp)

/-- An ACT fault is logged and event 13 fires (R221). -/
def State.actFault (s : State) (code n : Nat) : State := (s.fault code n).fire 13

/-- One more stroke; the count wraps. -/
def State.actStroke (s : State) (n : Nat) : State := s.incWrap (Reg.actnStrokes n)

/-- The strokes since the persistent count was last written; the register wraps. -/
def State.strokesSince (s : State) (n : Nat) : Nat :=
  ((s.reg (Reg.actnStrokes n)).toNat + 2 ^ 32 - recGet 0 s.knb.strokeMark n % 2 ^ 32) % 2 ^ 32

/-- A movement has ended (R204, R206): ACT_ENDF, event 12 if ENDEV, and a ring entry of kind 1 or 2. -/
def State.actEnd (s : State) (n : Nat) (resync : Bool) : State :=
  let s := s.setRb Reg.actEndf n true
  let s := if bitOf (s.act1 n).cfg 6 then s.fire 12 else s
  s.actEntry n (if resync then 2 else 1)

/-! ### Modes -/

/-- DUTY of a command (R201). -/
def pwmDuty (c : Int) : Nat := (Int.fdiv (c * 65535 + 3276800) fullC).toNat

/-- H: the high cycles of a period (R201). -/
def pwmHigh (duty period : Nat) : Nat := (duty * period + 32767) / 65535

/-- A PWM period begins: what was written since takes effect (R218), DUTY and H are computed afresh (R202); HOLD keeps its last duty,
OFF and HIGHZ drive none (R212). -/
def State.pwmBegin (s : State) (n : Nat) : State :=
  let s := s.actLatch n
  let a := s.act1 n
  let duty := if a.chill then 0 else if !a.safe || s.actKind n = 1 then pwmDuty (s.actC n) else if s.actKind n = 0 then a.duty else 0
  s.setAct n { a with duty := duty, high := pwmHigh duty (s.actPeriod n) }

/-- A pulse of a FLOAT channel ends (R204, R212). -/
def State.floatStop (s : State) (n : Nat) : State :=
  let a := s.act1 n
  (s.setAct n { a with drv := .none, gap := 4 * min 1000 (s.rf (Reg.actnP3 n) 0 10) }).actStroke n

/-- The model of a FLOAT channel moves by one tick (R204, first part). -/
def floatMove (a : ActCh) (pos full : Nat) : ActCh :=
  let ov := full / 10
  match a.drv with
  | .opening =>
    let a := { a with run := a.run + 1 }
    let a := if pos < full then { a with pos := some (pos + 1), atLo := false } else { a with ovr := a.ovr + 1 }
    if ov ≤ a.ovr then { a with atHi := true, unsync := false } else a
  | .closing =>
    let a := { a with run := a.run + 1 }
    let a := if 0 < pos then { a with pos := some (pos - 1), atHi := false } else { a with ovr := a.ovr + 1 }
    if ov ≤ a.ovr then { a with atLo := true, unsync := false } else a
  | .none => { a with gap := a.gap - 1 }

/-- The decision of a FLOAT channel on its command c, after its model has moved (R204, second part). -/
def State.floatDecide (s : State) (n : Nat) : State :=
  let full := s.actFull n
  let c := s.actC n
  let tgt : Int := Int.fdiv (c * full + 3276800) fullC
  let db : Int := (min 1000 (s.rf (Reg.actnP2 n) 16 10) * full / 10000 : Nat)
  let minp := 4 * clampNat 100 2000 (s.rf (Reg.actnP2 n) 0 11)
  let a := s.act1 n
  let pos : Int := s.actPos n
  let needOpen := if a.unsync then false else decide ((c = fullC ∧ !a.atHi) ∨ (c < fullC ∧ tgt > pos))
  let needClose := if a.unsync then !a.atLo else decide ((c = 0 ∧ !a.atLo) ∨ (c > 0 ∧ tgt < pos))
  let resync := full / 10 ≤ a.ovr
  match a.drv with
  | .opening => if minp ≤ a.run && (!needOpen || a.atHi) then (s.floatStop n).actEnd n resync else s
  | .closing => if minp ≤ a.run && (!needClose || a.atLo) then (s.floatStop n).actEnd n resync else s
  | .none =>
    if a.gap ≠ 0 then s
    else if needOpen && decide (c = fullC ∨ tgt - pos > db) then s.setAct n { a with drv := .opening, run := 0, ovr := 0 }
    else if needClose && decide (c = 0 ∨ a.unsync ∨ pos - tgt > db) then s.setAct n { a with drv := .closing, run := 0, ovr := 0 }
    else s

/-- The first part of R204; a pulse that chill interrupted does not move the model (R216). -/
def State.floatAdvance (s : State) (n : Nat) : State :=
  if (s.act1 n).chill && (s.act1 n).drv != .none then s else s.setAct n (floatMove (s.act1 n) (s.actPos n) (s.actFull n))

/-- One base tick of a FLOAT channel that follows a command (R204). -/
def State.floatTick (s : State) (n : Nat) : State := (s.floatAdvance n).floatDecide n

/-- The step interval I in TBO cycles; RATE 0 acts as 1, above 20,000 as 20,000 (R206, R219). -/
def State.stepEvery (s : State) (n : Nat) : Nat := let r := clampNat 1 20000 (s.rf (Reg.actnP1 n) 0 15); (16384000 + r - 1) / r

/-- The high time of a step in TBO cycles (R206). -/
def State.stepHigh (s : State) (n : Nat) : Nat := min 82 (s.stepEvery n / 2)

/-- The first TBO cycle of this base tick. -/
def State.nowCycle (s : State) : Nat := 4096 * s.now

/-- The first cycle from this base tick on that stands I after the last rising edge (R206, R207). -/
def State.stepFree (s : State) (n : Nat) : Nat :=
  match (s.act1 n).edge with | some e => max s.nowCycle (e + s.stepEvery n) | none => s.nowCycle

/-- The first cycle at which the next rising edge may stand: also max(I, 328) after the last change of pin B (R206, R207). -/
def State.stepEarliest (s : State) (n : Nat) : Nat :=
  match (s.act1 n).dirAt with
  | some t => max (s.stepFree n) (t + max (s.stepEvery n) 328)
  | none => s.stepFree n

/-- A change of pin B that lies ahead is given up: the pin keeps its level (R207, R212, R216). -/
def State.stepCancel (s : State) (n : Nat) : State :=
  let a := s.act1 n
  match a.dirAt with
  | some t => if s.nowCycle < t then s.setAct n { a with pinB := !a.pinB, dir := some (!a.pinB), dirAt := none } else s
  | none => s

/-- The decision of a STEP channel that follows a command and is not at its target (R207): pin B takes the direction, no earlier than
I after the last rising edge; a change of direction is a stroke. The change comes at the first cycle that R207 allows (DEDUCED, log
entry 41). -/
def State.stepTurn (s : State) (n : Nat) : State :=
  let a := s.act1 n
  let up := decide (a.step < s.stepTarget n)
  if !s.actDriven n || a.step = s.stepTarget n then s
  else
    let s := if a.dir = some (!up) then (s.actStroke n).stepCancel n else s
    let a := s.act1 n
    s.setAct n { a with dir := some up, pinB := up, dirAt := if a.pinB = up then a.dirAt else some (s.stepFree n) }

/-- One base tick of a BINARY channel (R208): the level follows the demand once its minimum time is met. -/
def State.binaryTick (s : State) (n : Nat) : State :=
  let a := s.act1 n
  let want := decide (3276800 ≤ s.actC n)
  let least := 400 * (if a.level then s.rf (Reg.actnP1 n) 0 16 else s.rf (Reg.actnP2 n) 0 16)
  let met := match a.since with | some t => t + least ≤ s.now | none => true
  if want != a.level && met then
    let s := s.setAct n { a with level := want, since := some s.now }
    if want then s.actStroke n else s
  else s

/-! ### Safe states -/

/-- What a safe state other than VALUE holds (R212): a FLOAT pulse stops, a change of pin B is given up, and OFF and HIGHZ drop the
level and the duty. -/
def State.actHold (s : State) (n : Nat) : State :=
  let k := s.actKind n
  if k = 1 then s
  else
    let s := (if (s.act1 n).drv != .none then s.floatStop n else s).stepCancel n
    if k = 0 then s else s.setAct n { s.act1 n with level := false, since := some s.now, duty := 0, high := 0 }

/-- Entry to the safe state (R212, R213): a FLOAT pulse stops at once and a BINARY level takes SAFEVAL's demand under VALUE, since
the minimum times do not apply; levels count as changed now; OFF and HIGHZ drop the level. -/
def State.actEnterSafe (s : State) (n : Nat) : State :=
  let s := (if (s.act1 n).drv != .none then s.floatStop n else s).actHold n
  let a := s.act1 n
  let level := if s.actKind n = 1 && s.actMode n = 4 then decide (3276800 ≤ s.actSafeC n) else a.level
  let s := if level && !a.level then s.actStroke n else s
  let s := s.setAct n { a with safe := true, level := level, since := some s.now }
  s.actEntry n 3

/-- Exit from the safe state: the channel follows commands (R213). -/
def State.actLeaveSafe (s : State) (n : Nat) : State := (s.setAct n { s.act1 n with safe := false }).actEntry n 4

/-- One base tick of one channel (R198): the command is taken, and what was written since takes effect, for PWM only at its periods
(R218); the model of a FLOAT moves; the safe state is entered or left, which before the outputs go live is not left (R213); a PWM
channel whose ACT_RUN bit has become 1 begins its first period (R202); the mode decides. -/
def State.actTick (s : State) (n : Nat) : State :=
  let a := s.act1 n
  let runs := s.actRuns n
  let s := s.setAct n { a with cmd := clampC (s.reg (Reg.actnCmd n)).toInt, fresh := false, chill := a.chill && !a.fresh, ran := runs,
                               latched := a.latched && !a.relCmd, released := a.released && !a.relCmd, relCmd := false }
  let kind := s.actKind n
  let s := if s.actMode n ≠ 1 || (runs && !a.ran) then s.actLatch n else s
  let s := if a.safe && s.actKind n ≠ kind then s.actHold n else s
  let s := if s.actMode n = 2 then s.floatAdvance n else s
  let safe := !runs || (s.act1 n).latched || decide (s.shakeStep < 12)
  let s := if safe && !a.safe then s.actEnterSafe n else if !safe && a.safe then s.actLeaveSafe n else s
  let s := if s.actMode n = 1 && runs && !a.ran then s.pwmBegin n else s
  match s.actMode n with
  | 2 => if s.actDriven n then s.floatDecide n else s
  | 3 => s.stepTurn n
  | 4 => if s.actDriven n then s.binaryTick n else s
  | _ => s

/-- The base tick of every channel (R198). -/
def State.actTicks (s : State) : State :=
  if s.actOn then s.forEach (List.range s.nActs) State.actTick else s

/-- PWM_PERIOD (R202): a new switching period of channel n begins. -/
def execPwmPeriod (n : Nat) (s : State) : Host.Outcome State Fault Refusal :=
  (if n < s.nActs && s.actOn && s.actMode n = 1 then s.pwmBegin n else s).done

/-- A rising edge of a STEP channel (R206): at the first cycle that R206 and R207 allow (DEDUCED, log entry 41), where that lies in
this base tick; POS moves by one, and at the target the movement has ended. -/
def State.stepPulse (s : State) (n : Nat) : State :=
  let t := s.stepEarliest n
  if s.nowCycle + 4096 ≤ t then s
  else
    let a := s.act1 n
    let tgt := s.stepTarget n
    let s := s.setAct n { a with edge := some t, step := if a.step < tgt then a.step + 1 else a.step - 1 }
    if (s.act1 n).step = tgt then s.actEnd n false else s

/-- STEP_PULSE (R206, R207): the direction first, then the edge. -/
def execStepPulse (n : Nat) (s : State) : Host.Outcome State Fault Refusal :=
  (if n < s.nActs && s.actOn && s.actMode n = 3 && s.actDriven n && (s.act1 n).step != s.stepTarget n then (s.stepTurn n).stepPulse n
   else s).done

/-- SAFE_TIMEOUT (R213): the hold time has expired since the runtime stopped. -/
def execSafeTimeout (n : Nat) (s : State) : Host.Outcome State Fault Refusal :=
  (let h := fld (s.act1 n).safecfg 16 16
   let due := match s.act.stopAt with | some t => h ≠ 0xFFFF && t + 400 * h ≤ s.now | none => false
   if n < s.nActs && due && s.actOn && !s.hostOwns 9 && s.actRuns n && !(s.act1 n).latched then
    let s := s.setAct n { s.act1 n with latched := true, released := false }
    let s := if (s.act1 n).safe then s else s.actEnterSafe n
    s.actFault 0x0602 n
   else s).done

/-! ### Commands and registers -/

/-- A command written to ACTn_CMD (R197, R198): by a commit, or by the host. -/
def State.actCommand (s : State) (n : Nat) (v : Word) : State :=
  let a := s.act1 n
  (s.setReg (Reg.actnCmd n) v).setAct n { a with fresh := true, relCmd := a.relCmd || a.released }

/-- The channels of a variant as a mask (R217). -/
def State.actMask (s : State) : Word := if s.present 23 then 0xFFFFFFFF else 0xFFFF

/-- ACT_RUN_WRITE (R200, R217). -/
def execActRunWrite (who : Init) (v : Word) (s : State) : Host.Outcome State Fault Refusal :=
  (s.guardWrite who 9 Reg.actRun (fun s => s.setReg Reg.actRun (v &&& s.actMask))).done

/-- A write of ACT_RELEASE: the channels that a hold time made safe follow again from their next command (R213). -/
def State.actReleaseWrite (s : State) (v : Word) : State :=
  s.forEach ((List.range s.nActs).filter (fun n => bitOf v n)) (fun s n =>
    if (s.act1 n).latched then s.setAct n { s.act1 n with released := true } else s)

/-- ACT_RELEASE (R213). -/
def execActRelease (who : Init) (v : Word) (s : State) : Host.Outcome State Fault Refusal :=
  (s.guardWrite who 9 Reg.actRelease (fun s => s.actReleaseWrite v)).done

/-- A change refused under R218. -/
def State.actIgnored (s : State) : State := s.setRb Reg.actStat 1 true

/-- A write to a register of channel block n (R206, R213, R218): under host ownership the mode and its parameters keep their values
while the channel runs, and POS does so whoever writes. Offsets as in the table of 06_actuators. -/
def State.actWrite (s : State) (n off : Nat) (v : Word) : State :=
  let locked := s.actRuns n && s.hostOwns 9
  match off with
  | 0x00 =>
    if locked && fld v 0 3 ≠ s.rf (Reg.actnCfg n) 0 3 then
      (s.setReg (Reg.actnCfg n) (putFld (v &&& 0x7F) 0 3 (s.rf (Reg.actnCfg n) 0 3))).actIgnored
    else s.setReg (Reg.actnCfg n) (v &&& 0x7F)
  | 0x04 => s.actCommand n v
  | 0x08 => if locked then s.actIgnored else s.setReg (Reg.actnP1 n) (v &&& 0x1FFFFF)
  | 0x0C => if locked then s.actIgnored else s.setReg (Reg.actnP2 n) (v &&& 0x7FFFFFFF)
  | 0x10 => if locked then s.actIgnored else s.setReg (Reg.actnP3 n) (v &&& 0x3FF)
  | 0x14 => s.setReg (Reg.actnSafecfg n) (v &&& 0xFFFF0003)
  | 0x18 => s.setReg (Reg.actnSafeval n) v
  | 0x1C => s.setReg (Reg.actnFb n) (v &&& 0xFFFF01FF)
  | 0x20 =>
    if s.actRuns n then (if s.hostOwns 9 then s.actIgnored else s)
    else if s.actMode n = 3 then s.setAct n { s.act1 n with step := v.toInt } else s
  | 0x24 => s.clrReg (Reg.actnChstat n) (v &&& 0x80)
  | _ => s

/-- ACT_CONFIG_WRITE (R218); the channels a variant lacks are absent (R217). -/
def execActConfigWrite (who : Init) (n : Nat) (off : Nat) (v : Word) (s : State) : Host.Outcome State Fault Refusal :=
  (let n := n % 32
   let addr := Reg.actnCfg n + 4 * (off / 4 % 16)
   if s.nActs ≤ n then s.hit 0 addr (who == .host)
   else s.guardWrite who 9 addr (fun s => s.actWrite n (4 * (off / 4 % 16)) v)).done

/-- ACTn_POS as it reads. -/
def State.actPosWord (s : State) (n : Nat) : Word :=
  match s.actMode n with
  | 2 => BitVec.ofNat 32 (s.actPos n)
  | 3 => ofInt32 (s.act1 n).step
  | _ => 0

/-- A pin driven to a level. -/
def Pin.of (b : Bool) : Pin := if b then .high else .low

/-- May this chip drive the output pins of R56: from step 8 on, and in a flask only as the chip that drives (R334, R338, R386)? -/
def State.pinsDriven (s : State) : Bool := 8 ≤ s.shakeStep && (!s.isTwin || s.twn.drives)

/-- Pin A of a STEP channel: a step of this base tick, or one whose high time runs into it, completes also in a safe state (R206,
R212). -/
def State.stepPinA (s : State) (n : Nat) : Pin :=
  match (s.act1 n).edge with
  | some e => if s.nowCycle < e + s.stepHigh n then .moving else .low
  | none => .low

/-- Pin B of a STEP channel: before its change of R207, in the base tick of it, and after. -/
def State.stepPinB (s : State) (n : Nat) : Pin :=
  let a := s.act1 n
  match a.dirAt with
  | some t => if s.nowCycle + 4096 ≤ t then Pin.of (!a.pinB) else if s.nowCycle < t then .moving else Pin.of a.pinB
  | none => Pin.of a.pinB

/-- Pins A and B (R10, R56, R199, R203, R212, R213, R216). -/
def State.actPins (s : State) (n : Nat) : Pin × Pin :=
  let a := s.act1 n
  let k := s.actKind n
  if s.nActs ≤ n then (.pullDown, .pullDown)
  else if !s.pinsDriven || s.actMode n = 0 then (.highZ, .highZ)
  else if (a.safe || a.chill) && k = 3 then
    (if s.actMode n = 3 && s.stepPinA n != .low then s.stepPinA n else .highZ, .highZ)
  else if (a.safe || a.chill) && k = 2 then (if s.actMode n = 3 then s.stepPinA n else .low, .low)
  else
    match s.actMode n with
    | 1 =>
      if a.chill then (.low, .low)
      else
        let p : Pin := if a.high = 0 then .low else if s.actPeriod n ≤ a.high then .high else .moving
        (p, if bitOf a.cfg 3 then (match p with | .low => .high | .high => .low | _ => .complement) else .low)
    | 2 => if a.chill then (.low, .low) else (Pin.of (a.drv == .opening), Pin.of (a.drv == .closing))
    | 3 => (s.stepPinA n, s.stepPinB n)
    | _ => (Pin.of a.level, .low)

/-- A pin as it reads, with the level x where the spec states none: an undriven ball, and one that changes within the base tick. -/
def Pin.read (p : Pin) (x y : Nat) : Nat :=
  match p with
  | .low | .pullDown => 0
  | .high | .pullUp => 1
  | .moving | .levels _ => x
  | .complement => 1 - x
  | .highZ | .released => y

/-- ACTn_STAT as it reads; a level that is not stated is a free value, and pin B is pin A's complement where R203 says so (log
entry 18). -/
def State.actStatWord (s : State) (n : Nat) : Word × State :=
  let a := s.act1 n
  let drv := match s.actMode n with
    | 2 => (match a.drv with | .opening => 1 | .closing => 2 | .none => if a.gap ≠ 0 then 3 else 0)
    | 3 => if s.actMoving n then (if a.step < s.stepTarget n then 1 else 2) else 0
    | _ => 0
  let res := s.drawNat 2
  let fa := res.1
  let s := res.2
  let res := s.drawNat 2
  let fb := res.1
  let s := res.2
  let pa := (s.actPins n).1.read fa fa
  let pb := (s.actPins n).2.read (if (s.actPins n).1 = .moving && (s.actPins n).2 = .complement then fa else fb) fb
  let w := s.reg (Reg.actnChstat n) &&& 0xE0
  let w := putFld w 0 2 drv
  let w := putBit (putBit w 2 a.atLo) 3 a.atHi
  let w := putBit w 4 (a.safe && 8 ≤ s.shakeStep)
  (putBit (putFld (putFld w 8 1 pa) 9 1 pb) 10 a.unsync, s)

/-- ACT_SAFE as it reads. -/
def State.actSafeWord (s : State) : Word :=
  (List.range s.nActs).foldl (fun w n => putBit w n ((s.act1 n).safe && 8 ≤ s.shakeStep)) 0

/-- ACT_STAT as it reads: RTSTOP while the runtime is stopped (R213). -/
def State.actUnitStatWord (s : State) : Word := putBit (s.reg Reg.actStat) 0 (s.rb Reg.pwrStat 2)

/-! ### Feedback (R209-R211) -/

/-- The expected position x in Q16.16 % (R209). -/
def State.actX (s : State) (n : Nat) : Int :=
  match s.actMode n with
  | 1 => s.actC n
  | 2 => (s.actPos n * 6553600 / s.actFull n : Nat)
  | 3 => Int.fdiv ((s.act1 n).step * 6553600) (s.actFs n)
  | 4 => if (s.act1 n).level then 6553600 else 0
  | _ => 0

/-- The comparison of R209 at a fresh PV; TIME and BAND 0 act as 1 (R219). -/
def State.actCompare (s : State) (n : Nat) (pv : Int) : State :=
  let band : Int := max 1 (fld (s.act1 n).fb 24 8)
  let time := 4000 * max 1 (fld (s.act1 n).fb 16 8)
  let a := s.act1 n
  let err := s.rb (Reg.actnChstat n) 5
  if 10 * (pv - s.actX n).natAbs > (band * 65536).natAbs then
    let t := a.badSince.getD s.now
    let s := s.setAct n { a with badSince := some t, goodSince := none }
    if !err && t + time ≤ s.now then
      (((s.setRb (Reg.actnChstat n) 5 true).setRb Reg.actFberr n true).actFault 0x0601 n).actEntry n 5
    else s
  else
    let t := a.goodSince.getD s.now
    let s := s.setAct n { a with badSince := none, goodSince := some t }
    if err && t + time ≤ s.now then (s.setRb (Reg.actnChstat n) 5 false).actEntry n 6 else s

/-- The feedback of channel n at a pass end (R209-R211). -/
def State.actFeedback (s : State) (n : Nat) : State :=
  let d := fld (s.act1 n).fb 0 7
  let en := bitOf (s.act1 n).fb 7 && s.acqHas d && s.actMode n != 0
  let st := s.word (acqStatus d)
  let fresh := bitOf st 17
  let valid := bitOf st 16
  let pv := s.sword (acqPv d)
  let a := s.act1 n
  let s := if bitOf (s.act1 n).fb 8 && s.acqHas d && s.actMode n = 2 && fresh && a.drv == .none && a.gap == 0 then
      s.setAct n { a with pos := some (clampInt 0 (s.actFull n) (Int.fdiv (pv * s.actFull n + 3276800) fullC)).toNat,
                          atLo := false, atHi := false, unsync := false }
    else s
  if !en then s.setAct n { s.act1 n with badSince := none, goodSince := none, missed := 0 }
  else
    let a := s.act1 n
    let missed := if fresh then 0 else a.missed + 1
    let s := s.setAct n { a with missed := missed }
    if !valid || 3 ≤ missed then
      if s.rb (Reg.actnChstat n) 6 then s else (s.setRb (Reg.actnChstat n) 6 true).actFault 0x0603 n
    else if !fresh then s
    else
      let s := if s.rb (Reg.actnChstat n) 6 then (s.setRb (Reg.actnChstat n) 6 false).faultClear 0x0603 n else s
      s.actCompare n pv

/-! ### Shakeout, flask and chill -/

/-- Step 8 of shakeout: every channel is in its safe state (R213, R386). -/
def State.actShakeSafe (s : State) : State :=
  s.forEach (List.range s.nActs) (fun s n =>
    let s := (s.setAct n { s.act1 n with safe := true, cmd := clampC (s.reg (Reg.actnCmd n)).toInt }).actLatch n
    if s.actMode n = 1 then s.pwmBegin n else s)

/-- What the active mirrors of one channel overwrites the standby's own values (R214). -/
def State.actMirror (s : State) (m : ActMirror) : State :=
  if m.ch < s.nActs then
    let a := s.act1 m.ch
    let s := s.setReg (Reg.actnStrokes m.ch) (BitVec.ofNat 32 m.strokes)
    let a := if s.actMode m.ch = 3 then { a with step := m.pos } else { a with pos := some m.pos.toNat }
    let s := s.setAct m.ch { a with drv := m.drv, run := m.run, ovr := m.ovr, gap := m.gap, atLo := m.atLo, atHi := m.atHi,
                                    unsync := m.unsync, level := m.level, since := some ((s.now : Int) - m.sinceChange) }
    s.setAct m.ch { s.act1 m.ch with moving := s.actMoving m.ch }
  else s

/-- Takeover (R215): the channels drive from their current state; those that were moving at the last mirror are uncertain. -/
def State.actTakeover (s : State) : State :=
  s.forEach (List.range s.nActs) (fun s n =>
    let s := if s.actMode n = 1 then s.pwmBegin n else s
    if (s.act1 n).moving then
      ((s.setRb (Reg.actnChstat n) 7 true).setAct n { s.act1 n with moving := false }).actFault 0x0604 n
    else s)

/-- Entry to chill (R216): a running channel, also one that a hold time has made safe, holds what R216 says until its first commit
after chill; under OFF and HIGHZ a pulse and a level end as at the entry to a safe state (R212). -/
def State.actChill (s : State) : State :=
  s.forEach ((List.range s.nActs).filter (fun n => s.actRuns n || !(s.act1 n).safe)) (fun s n =>
    let s := if s.actKind n = 2 || s.actKind n = 3 then s.actHold n else s.stepCancel n
    s.setAct n { s.act1 n with chill := true })

end Sys2Proof.Machine
end

