-- ==== Sys2Proof/Machine/Rtc.lean ====
section
/-! DEFINITION. RTC: calendar, halt and release, nudge, alarms, tick, trim, measurement and beacons (16_rtc, R525-R550, R626). -/

namespace Sys2Proof.Machine

/-! ### The calendar -/

def bcdVal (x : Nat) : Nat := x / 16 * 10 + x % 16
def toBcd (x : Nat) : Nat := x / 10 * 16 + x % 10
def bcdOk (x : Nat) : Bool := x / 16 ≤ 9 && x % 16 ≤ 9

/-- Leap years (R526). -/
def isLeap (y : Nat) : Bool := y % 4 == 0 && (y % 100 != 0 || y % 400 == 0)

/-- Days of a month (R526). -/
def daysIn (y m : Nat) : Nat :=
  if m = 2 then (if isLeap y then 29 else 28) else if m ∈ [4, 6, 9, 11] then 30 else 31

/-- Days from 2000-01-01 to a date of 2000 or later. -/
def daysOf (y m d : Nat) : Nat :=
  let y1 := y - 2000
  let leaps := (y1 + 3) / 4 - (y1 + 99) / 100 + (y1 + 399) / 400
  365 * y1 + leaps + ((List.range (m - 1)).map (fun k => daysIn y (k + 1))).sum + (d - 1)

/-- The year of a day count from 2000-01-01, and the day of that year. -/
def yearOf (days : Nat) : Nat × Nat :=
  let start (y : Nat) : Nat := daysOf y 1 1
  let y := 2000 + days / 366
  let y := y + (days - start y) / 366
  let y := if start (y + 1) ≤ days then y + 1 else y
  let y := if start (y + 1) ≤ days then y + 1 else y
  (y, days - start y)

/-- Month and day of month from the day of a year, by taking months off one at a time. -/
def monthOf (y : Nat) : Nat → Nat → Nat → Nat × Nat
  | 0, m, d => (m, d + 1)
  | k + 1, m, d => if d < daysIn y m then (m, d + 1) else monthOf y k (m + 1) (d - daysIn y m)

/-- Seconds from 2000-01-01 00:00:00 to 2999-12-31 23:59:59. -/
def rtcLastSec : Nat := 31556995199

/-- The eight BCD fields SEC .. CENT of a count of seconds since 2000-01-01 00:00:00. -/
def fieldsOf (sec : Nat) : List Nat :=
  let day := sec / 86400
  let t := sec % 86400
  let (y, doy) := yearOf day
  let (m, d) := monthOf y 11 1 doy
  [toBcd (t % 60), toBcd (t / 60 % 60), toBcd (t / 3600), toBcd d, (day + 5) % 7 + 1, toBcd m, toBcd (y % 100), toBcd (y / 100)]

/-- The seconds since 2000-01-01 00:00:00 that eight valid fields show (R528). -/
def secOf (f : List Nat) : Nat :=
  let v (i : Nat) : Nat := bcdVal (f.getD i 0)
  daysOf (v 7 * 100 + v 6) (v 5) (v 3) * 86400 + v 2 * 3600 + v 1 * 60 + v 0

/-- The conditions of R532 on the fields. -/
def fieldsValid (f : List Nat) : Bool :=
  let v (i : Nat) : Nat := bcdVal (f.getD i 0)
  let y := v 7 * 100 + v 6
  [0, 1, 2, 3, 5, 6, 7].all (fun i => bcdOk (f.getD i 0)) && v 0 ≤ 59 && v 1 ≤ 59 && v 2 ≤ 23 && 1 ≤ v 5 && v 5 ≤ 12 &&
    1 ≤ v 3 && v 3 ≤ daysIn y (v 5) && 20 ≤ v 7 && v 7 ≤ 29 && f.getD 4 0 == (daysOf y (v 5) (v 3) + 5) % 7 + 1

/-! ### The domain -/

/-- The eight live time fields. -/
def State.rtcFields (s : State) : List Nat := (List.range 8).map (fun i => (s.reg (Reg.rtcSec + 4 * i)).toNat)

def State.setRtcFields (s : State) (f : List Nat) : State :=
  s.forEach (List.range 8) (fun s i => s.setReg (Reg.rtcSec + 4 * i) (BitVec.ofNat 32 (f.getD i 0)))

def State.rtcHalted (s : State) : Bool := s.rb Reg.rtcCtrl 0

/-- Is the part powered and out of reset, so that RTC can fire, log and write its ring (R544)? -/
def State.rtcAlive (s : State) : Bool := s.pwr.good && s.pwr.held.isNone

/-- An RTC event, while the part is powered. -/
def State.rtcFire (s : State) (n : Nat) : State := if s.rtcAlive then s.fire n else s

/-- An RTC fault, while the part is powered. -/
def State.rtcFault (s : State) (code param : Nat) : State := if s.rtcAlive then s.fault code param else s

/-- A ring 23 entry (R549). -/
def State.rtcEntry (s : State) (kind b1 : Nat) : State :=
  if s.rtcAlive then s.ringOffer 23 (entry8 kind b1 0 0 s.stamp) else s

/-- The prescaler `p` thousandths of a crystal cycle after the last base tick (R526): frozen while HALT is 1 (R531). -/
def State.subAt (s : State) (p : Nat) : Nat :=
  if s.rtcHalted then s.rtc.haltSub
  else (clampInt 0 (min 32767 ((s.rtc.secLen : Int) - 1)) (Int.fdiv (s.rtc.cyc + p) 1000)).toNat

/-- The prescaler at an instant between two base ticks, which lie 8.192 crystal cycles apart: where the instant lies is free. In
chill no base tick counts the cycles, so all of it is free there (log entry 14). -/
def State.drawSub (s : State) : Nat × State :=
  if s.rtcHalted then (s.rtc.haltSub, s)
  else if s.asleep then s.drawNat (min 32768 s.rtc.secLen)
  else
    let res := s.drawNat 8192
    (s.subAt res.1, res.2)

/-- A capture into one snapshot (R529): the host port's, or that of every other initiator. -/
def State.rtcCapture (s : State) (who : Init) : State :=
  let res := s.drawSub
  let sub := res.1
  let s := res.2
  let snap : RtcSnap := { fields := s.rtcFields, epoch := s.rtc.epoch % 2 ^ 32, sub := sub }
  if who == .host then { s with rtc := { s.rtc with snapHost := snap } } else { s with rtc := { s.rtc with snapCore := snap } }

/-- The snapshot an initiator reads (R529). -/
def State.rtcSnapOf (s : State) (who : Init) : RtcSnap := if who == .host then s.rtc.snapHost else s.rtc.snapCore

/-- The fields take the time of a count of seconds, with RTC_EPOCH (R528). -/
def State.rtcSetTime (s : State) (sec : Nat) : State :=
  let s := s.setRtcFields (fieldsOf sec)
  { s with rtc := { s.rtc with epoch := sec } }

/-- The fields move by n seconds, with the wrap of R527 and the stop at 2000-01-01 of R533. -/
def State.rtcMove (s : State) (n : Int) : State :=
  let t := (secOf s.rtcFields : Int) + n
  if t < 0 then s.rtcSetTime 0
  else if t > (rtcLastSec : Int) then
    ((((s.rtcSetTime (t - (rtcLastSec : Int) - 1).toNat).setRb Reg.rtcStat 2 true).rtcFire 25).rtcFault 0x0A05 0).rtcEntry 5 0
  else s.rtcSetTime t.toNat

/-- Does alarm a match the fields (R534, R535)? -/
def State.rtcAlarmHit (s : State) (a : Nat) : Bool :=
  let t := if a = 0 then s.reg Reg.rtcAlm0T else s.reg Reg.rtcAlm1T
  let d := if a = 0 then s.reg Reg.rtcAlm0D else s.reg Reg.rtcAlm1D
  let f := s.rtcFields
  bitOf t 31 &&
    (bitOf t 7 || fld t 0 7 == f.getD 0 0) && (bitOf t 15 || fld t 8 7 == f.getD 1 0) && (bitOf t 23 || fld t 16 6 == f.getD 2 0) &&
    (bitOf d 7 || fld d 0 6 == f.getD 3 0) && (bitOf d 11 || fld d 8 3 == f.getD 4 0) && (bitOf d 23 || fld d 16 5 == f.getD 5 0)

/-- One alarm after a second advance (R535). -/
def State.rtcAlarm (s : State) (a : Nat) : State :=
  if s.rtcAlarmHit a then ((s.setRb Reg.rtcStat (6 + a) true).rtcFire (22 + a)).rtcEntry (1 + a) 0 else s

/-- Is the periodic tick of RTC_CTRL.TICK due at this advance (R536)? -/
def State.rtcTickDue (s : State) : Bool :=
  let f := s.rtcFields
  match s.rf Reg.rtcCtrl 1 2 with
  | 1 => true
  | 2 => f.getD 0 0 == 0
  | 3 => f.getD 0 0 == 0 && f.getD 1 0 == 0
  | _ => false

/-- The compensation term from Tj in whole degrees (R538). -/
def tcompTerm (tj : Int) : Int :=
  let t := clampInt (-40) 125 tj
  Int.fdiv (34 * (t - 25) ^ 2 + 50) 100

/-- The compensation term takes a value. -/
def State.rtcSetTerm (s : State) (v : Int) : State :=
  let s := s.setRf Reg.rtcTcomp 0 16 (ofIntN 16 v)
  { s with rtc := { s.rtc with term := v } }

/-- The term of R538 at a 32 s boundary: it holds while THM has no reading, as in chill and BACKUP. -/
def State.rtcTerm (s : State) : State :=
  if !s.rb Reg.rtcCtrl 3 then s.rtcSetTerm 0
  else if s.awake && s.thm.hasReading then
    let t := clampInt (-40) 125 (wholeDeg s.tj)
    (s.rtcSetTerm (tcompTerm t)).setRf Reg.rtcTcomp 16 8 (ofIntN 8 t)
  else s

/-- The trim correction at a 32 s boundary, and the length of the coming second (R537). -/
def State.rtcTrimStep (s : State) : State :=
  let s := s.rtcTerm
  let term := s.rtc.term
  let a := s.rtc.acc + (sfld (s.reg Reg.rtcTrim) 0 16 + term) * 1048576
  let k := Int.tdiv a 10000000
  { s with rtc := { s.rtc with acc := a - k * 10000000, secLen := (32768 - k).toNat, termSum := s.rtc.termSum + term,
                               termN := s.rtc.termN + 1 } }

/-- The prescaler begins the next second (R526). -/
def State.rtcWrapSub (s : State) : State :=
  { s with rtc := { s.rtc with cyc := if s.asleep then 0 else s.rtc.cyc - 1000 * (s.rtc.secLen : Int) } }

/-- A completed second (R526, R533, R535-R537). -/
def State.rtcAdvance (s : State) : State :=
  let adj := sfld (s.reg Reg.rtcAdj) 0 8
  let s := s.rtcWrapSub.rtcMove (adj + 1)
  let s := if adj = 0 then s else ((s.setReg Reg.rtcAdj 0).rtcEntry 4 (ofIntN 8 adj))
  let s := (s.rtcAlarm 0).rtcAlarm 1
  let s := if s.rtcTickDue then s.rtcFire 24 else s
  if s.rtc.epoch % 2 ^ 32 % 32 = 0 then s.rtcTrimStep else { s with rtc := { s.rtc with secLen := 32768 } }

/-- Does the clock run: the domain holds, HALT is 0, the crystal runs? -/
def State.rtcRuns (s : State) : Bool := !s.rtcHalted && !s.rtc.xstopped

/-- Does the prescaler complete its second before the next base tick (R526, R537)? In chill no base tick counts for it. -/
def State.rtcSecondDue (s : State) : Bool := s.asleep || decide (1000 * (s.rtc.secLen : Int) < s.rtc.cyc + 8192)

/-- Do the fields after an advance stand at wake source k: alarm 0, alarm 1, the tick (R399, R547)? -/
def State.rtcWakes (s : State) (k : Nat) : Bool := if k = 2 then s.rtcTickDue else s.rtcAlarmHit k

/-- RTC_SEC_READ: a capture, and the seconds of the new capture (R529). -/
def execRtcSecRead (who : Init) (s : State) : Host.Outcome State Fault Refusal :=
  let s := s.rtcCapture who
  ({ s with lastRead := BitVec.ofNat 32 ((s.rtcSnapOf who).fields.getD 0 0) } : State).done

/-- A write of RTC_SNAP (R529): CAP = 1 captures. -/
def State.rtcSnapWrite (s : State) (who : Init) (v : Word) : State := if bitOf v 0 then s.rtcCapture who else s

/-- RTC_SNAP (R529). -/
def execRtcSnap (who : Init) (v : Word) (s : State) : Host.Outcome State Fault Refusal :=
  (s.guardWrite who 12 Reg.rtcSnap (fun s => s.rtcSnapWrite who v)).done

/-- The bits of time field i (R525). -/
def rtcFieldMask (i : Nat) : Nat := [0x7F, 0x7F, 0x3F, 0x3F, 7, 0x1F, 0xFF, 0xFF].getD i 0

/-- A write of time field i (R529, R530). -/
def State.rtcWriteField (s : State) (i : Nat) (v : Word) : State :=
  if !s.rtcHalted then s.setRb Reg.rtcStat 8 true
  else
    let x := v.toNat &&& rtcFieldMask i
    let s := s.setReg (Reg.rtcSec + 4 * i) (BitVec.ofNat 32 x)
    { s with rtc := { s.rtc with snapHost := { s.rtc.snapHost with fields := s.rtc.snapHost.fields.set i x },
                                 snapCore := { s.rtc.snapCore with fields := s.rtc.snapCore.fields.set i x } } }

/-- The fields just written stand in both snapshots (R529). -/
def State.rtcFieldsShow (s : State) : State :=
  { s with rtc := { s.rtc with snapHost := { s.rtc.snapHost with fields := s.rtcFields },
                               snapCore := { s.rtc.snapCore with fields := s.rtcFields } } }

/-- RTC_FIELD_WRITE (R530): field i, 0 SEC to 7 CENT. -/
def execRtcFieldWrite (who : Init) (i : Nat) (v : Word) (s : State) : Host.Outcome State Fault Refusal :=
  (s.guardWrite who 12 (Reg.rtcSec + 4 * i) (fun s => if i < 8 then s.rtcWriteField i v else s)).done

/-- A write of HALT = 1 (R531), at a free instant between two base ticks (log entry 14). -/
def State.rtcDoHalt (s : State) : State :=
  let res := s.drawNat 8192
  let p := res.1
  let res := res.2.drawSub
  let sub := res.1
  let s := res.2
  let s := ((s.setRb Reg.rtcCtrl 0 true).setReg Reg.rtcHaltticks 0).setReg Reg.rtcAdj 0
  { s with rtc := { s.rtc with haltSub := sub, haltCyc := -(p : Int), haltBat := false } }

/-- RTC_HALTTICKS shows the crystal cycles since HALT was written 1, saturated (R531). -/
def State.rtcHaltShow (s : State) (c : Int) : State :=
  let s := s.setReg Reg.rtcHaltticks (BitVec.ofNat 32 (min 0xFFFFFFFF (Int.fdiv c 1000).toNat))
  { s with rtc := { s.rtc with haltCyc := c } }

/-- The crystal cycles of one base tick, 8.192 of them (R30): the raw count, and the prescaler or, while HALT is 1, HALTTICKS
(R526, R531, R539). -/
def State.xtalTick (s : State) : State :=
  if s.rtc.xstopped then s
  else
    let s := { s with rtc := { s.rtc with raw := s.rtc.raw + 8192 } }
    if s.rtcHalted then s.rtcHaltShow (s.rtc.haltCyc + 8192) else { s with rtc := { s.rtc with cyc := s.rtc.cyc + 8192 } }

/-- The crystal cycles of a chill, which no base tick counted (log entry 14): the amount is free. Where a second advance ended the
chill (`atSecond`) the prescaler has just begun a second. -/
def State.rtcAfterChill (s : State) (atSecond : Bool) : State :=
  if s.rtc.xstopped then s
  else if s.rtcHalted then
    let res := s.drawNat (2 ^ 32)
    res.2.rtcHaltShow (res.2.rtc.haltCyc + 1000 * res.1)
  else if atSecond then s
  else
    let res := s.drawNat (min 32768 s.rtc.secLen)
    let s := res.2
    { s with rtc := { s.rtc with cyc := 1000 * (res.1 : Int) } }

/-- RTC_HALT (R531). -/
def execRtcHalt (who : Init) (s : State) : Host.Outcome State Fault Refusal :=
  (s.guardWrite who 12 Reg.rtcCtrl State.rtcDoHalt).done

/-- A write of HALT = 0 while HALT is 1 (R532): the prescaler restarts at 0, at a free instant between two base ticks. -/
def State.rtcDoRelease (s : State) : State :=
  if !s.rtcHalted then s
  else if fieldsValid s.rtcFields then
    let res := s.drawNat 8192
    let p := res.1
    let s := res.2
    let s := ((s.setRb Reg.rtcCtrl 0 false).setRb Reg.rtcStat 1 false).setRb Reg.rtcStat 0 false
    let s := { s with rtc := { s.rtc with epoch := secOf s.rtcFields, haltSub := 0, cyc := -(p : Int), secLen := 32768, haltBat := false } }
    s.rtcEntry 3 0
  else (((s.setRb Reg.rtcStat 1 true).rtcFire 25).rtcFault 0x0A04 0).rtcEntry 7 0

/-- RTC_RELEASE (R532). -/
def execRtcRelease (who : Init) (s : State) : Host.Outcome State Fault Refusal :=
  (s.guardWrite who 12 Reg.rtcCtrl State.rtcDoRelease).done

/-- RTC_CTRL.TCOMP takes a value; where it is 0 the term is 0 (R538). -/
def State.rtcSetTcomp (s : State) (on : Bool) : State :=
  let s := s.setRb Reg.rtcCtrl 3 on
  if on then s else s.rtcSetTerm 0

/-- A write of RTC_CTRL: HALT acts under R531 and R532, TICK and TCOMP take the written bits. -/
def State.rtcCtrlWrite (s : State) (v : Word) : State :=
  let s := (s.setRf Reg.rtcCtrl 1 2 (fld v 1 2)).rtcSetTcomp (bitOf v 3)
  if bitOf v 0 then s.rtcDoHalt else s.rtcDoRelease

/-- A write of RTC_ADJ (R533). -/
def State.rtcAdjWrite (s : State) (v : Word) : State :=
  let a := sfld v 0 8
  if s.rtcHalted || a < -59 || a > 59 then s.setRb Reg.rtcStat 8 true
  else s.setReg Reg.rtcAdj (BitVec.ofNat 32 (fld v 0 8))

/-- RTC_ADJ (R533). -/
def execRtcAdj (who : Init) (v : Word) (s : State) : Host.Outcome State Fault Refusal :=
  (s.guardWrite who 12 Reg.rtcAdj (fun s => s.rtcAdjWrite v)).done

/-- RTC_TRIM: a value beyond ±20,000 is stored as ±20,000. -/
def State.rtcTrimWrite (s : State) (v : Int) : State :=
  s.setReg Reg.rtcTrim (BitVec.ofNat 32 (ofIntN 16 (clampInt (-20000) 20000 v)))

/-! ### The measurement (R539-R541) -/

/-- A write of RTC_MEAS_CFG: SRC and N, DONE cleared by a 1, START ignored while BUSY. START with SRC off starts nothing. -/
def State.rtcMeasWrite (s : State) (v : Word) : State :=
  let done := s.rb Reg.rtcMeasCfg 4 && !bitOf v 4
  let busy := s.rb Reg.rtcMeasCfg 3
  let src := fld v 0 2
  let start := bitOf v 2 && !busy && (src == 1 || src == 2)
  let s := s.setReg Reg.rtcMeasCfg
    (putBit (putBit (putFld (putFld 0 0 2 src) 8 24 (fld v 8 24)) 3 (busy || start)) 4 done)
  if start then
    { s with rtc := { s.rtc with measStarted := false, measCount := 0, measCycles := 0 } }
  else s

/-- The count at which a measurement ends: RTC_MEAS_CFG.N, 0 acting as 1. -/
def State.rtcMeasN (s : State) : Nat := max 1 (s.rf Reg.rtcMeasCfg 8 24)

/-- The end of a measurement (R539): CNT and N, BUSY clear, DONE set, event 26, a ring 23 entry. -/
def State.rtcMeasEnd (s : State) (cycles n : Nat) : State :=
  let s := ((s.setReg Reg.rtcMeasCntLo (BitVec.ofNat 32 cycles)).setReg Reg.rtcMeasCntHi (BitVec.ofNat 32 (cycles / 2 ^ 32 % 256)))
  let s := (s.setReg Reg.rtcMeasN (BitVec.ofNat 32 (n % 2 ^ 24)))
  let s := ((s.setRb Reg.rtcMeasCfg 3 false).setRb Reg.rtcMeasCfg 4 true).fire 26
  ({ s with rtc := { s.rtc with measDone := true, measStarted := false } } : State).rtcEntry 9 0

/-- A measurement that ends without DONE (R539, R545). -/
def State.rtcMeasStop (s : State) : State :=
  { (s.setRb Reg.rtcMeasCfg 3 false) with rtc := { s.rtc with measStarted := false } }

/-- The first zero-cross or beacon of a measurement: its interval begins (R539, R541). -/
def State.rtcMeasFirst (s : State) (sec mark : Nat) : State :=
  { s with rtc := { s.rtc with measStarted := true, measFirst := sec, measMark := mark, measCount := 0, measCycles := 0, termSum := 0, termN := 0 } }

/-- What RTC holds of a measurement beside its registers starts afresh (R50). -/
def State.rtcMeasOff (s : State) : State :=
  { s with rtc := { s.rtc with measStarted := false, measDone := false, measCount := 0, measCycles := 0, termSum := 0, termN := 0 } }

/-- RTC_MEASURE_START (R539): a write of RTC_MEAS_CFG. -/
def execRtcMeasureStart (who : Init) (v : Word) (s : State) : Host.Outcome State Fault Refusal :=
  (s.guardWrite who 12 Reg.rtcMeasCfg (fun s => s.rtcMeasWrite v)).done

/-- Does a mains period, in crystal cycles, lie between 14.3 ms and 25.0 ms (R539)? -/
def mainsPeriodOk (cycles : Nat) : Bool := 469 ≤ cycles && cycles ≤ 819

/-- MAINSOK takes a value: a change fires event 60, a fall logs MAINS_LOST and ends a mains measurement (R539). -/
def State.rtcMainsOk (s : State) (ok : Bool) : State :=
  if s.rb Reg.rtcStat 9 == ok then s
  else
    let s := (s.setRb Reg.rtcStat 9 ok).fire 60
    if ok then s
    else
      let s := s.fault 0x0A07 0
      if s.rb Reg.rtcMeasCfg 3 && s.rf Reg.rtcMeasCfg 0 2 == 1 then s.rtcMeasStop else s

/-- A rising zero-cross of a running mains measurement (R539). -/
def State.rtcMainsMeas (s : State) (cycles : Nat) : State :=
  if !(s.rb Reg.rtcMeasCfg 3 && s.rf Reg.rtcMeasCfg 0 2 == 1) then s
  else if !s.rtc.measStarted then s.rtcMeasFirst 0 0
  else
    let s := { s with rtc := { s.rtc with measCount := s.rtc.measCount + 1, measCycles := s.rtc.measCycles + cycles } }
    if s.rtc.measCount = s.rtcMeasN then s.rtcMeasEnd s.rtc.measCycles s.rtc.measCount else s

/-- MAINSREF_CROSS: a filtered rising zero-cross, `cycles` crystal cycles after the one before (R539). -/
def execMainsrefCross (cycles : Nat) (s : State) : Host.Outcome State Fault Refusal :=
  if !s.awake then s.done
  else
    let p := (cycles :: s.rtc.periods).take 8
    let s := { s with rtc := { s.rtc with periods := p } }
    ((s.rtcMainsOk (p.length == 8 && p.all mainsPeriodOk)).rtcMainsMeas cycles).done

/-- MAINS_LOST: no zero-cross within 25.0 ms, so MAINSOK falls (R539). -/
def execMainsLost (s : State) : Host.Outcome State Fault Refusal :=
  if !s.awake then s.done
  else (({ s with rtc := { s.rtc with periods := [] } } : State).rtcMainsOk false).done

/-- The runtime sets the clock to a count of seconds by the procedure of R531 and R532, in one action. -/
def State.rtcSetClock (s : State) (sec : Nat) : State :=
  ((s.rtcDoHalt.setRtcFields (fieldsOf sec)).rtcFieldsShow).rtcDoRelease

/-- Does the runtime drive RTC (R53, R548)? -/
def State.rtcRuntime (s : State) : Bool := s.runtimeRuns && !s.hostOwns 12

/-- What the runtime does with a beacon at 03.000.0B = 2 (R541). -/
def State.rtcDiscipline (s : State) (sec : Nat) : State :=
  let e32 := ((sec : Int) - (s.reg Reg.rtcBeaconEpoch).toNat) * 32768 - s.rf Reg.rtcBeaconSub 0 15
  if s.rb Reg.rtcStat 0 || e32.natAbs > 59 * 32768 then s.rtcSetClock sec
  else if e32.natAbs ≥ 32768 then s.rtcAdjWrite (BitVec.ofNat 32 (ofIntN 8 (Int.fdiv (e32 + 16384) 32768)))
  else s

/-- A TIME beacon at its SFD (R539, R540, R541), at a free instant between two base ticks: its seconds field and its flag time
valid. -/
def State.rtcBeacon (s : State) (sec : Nat) (valid : Bool) : State :=
  let res := s.drawNat 8192
  let p := res.1
  let s := res.2
  let s := (s.setReg Reg.rtcBeaconEpoch (BitVec.ofNat 32 s.rtc.epoch)).setReg Reg.rtcBeaconSub (BitVec.ofNat 32 (0x80000000 + s.subAt p))
  let s :=
    if s.rb Reg.rtcMeasCfg 3 && s.rf Reg.rtcMeasCfg 0 2 == 2 && valid then
      if !s.rtc.measStarted then s.rtcMeasFirst sec (s.rtc.raw + p)
      else if s.rtc.measFirst + s.rtcMeasN ≤ sec then
        s.rtcMeasEnd ((s.rtc.raw + p - s.rtc.measMark) / 1000) (sec - s.rtc.measFirst)
      else s
    else s
  if s.rtcRuntime && s.odNum 3 0 0xB == 2 && valid && !s.rtcHalted then s.rtcDiscipline sec else s

/-- The runtime starts a measurement as 03.000.0B-0E say, where none runs (R541). -/
def State.rtcMeasBegin (s : State) : State :=
  if !s.rtcRuntime || s.odNat 3 0 0xB == 0 || s.rb Reg.rtcMeasCfg 3 then s
  else
    let src := s.odNat 3 0 0xC
    let iv := s.odNat 3 0 0xE
    s.rtcMeasWrite (BitVec.ofNat 32 (0x14 + src + 256 * ((if src = 1 then iv * s.odNat 3 0 0xD else iv) % 2 ^ 24)))

/-- TRIM_UPDATE: the runtime acts on a DONE (R541). The rounding of the mean term is not stated: it is the floor or one
more (log entry 15). -/
def execTrimUpdate (s : State) : Host.Outcome State Fault Refusal :=
  if !(s.rtcRuntime && s.rtc.measDone && s.odNum 3 0 0xB != 0) then s.done
  else
    let n : Nat := (s.reg Reg.rtcMeasN).toNat
    let cnt : Nat := (s.reg Reg.rtcMeasCntLo).toNat + (s.reg Reg.rtcMeasCntHi).toNat * 2 ^ 32
    let hz : Nat := if s.rf Reg.rtcMeasCfg 0 2 == 1 then s.odNat 3 0 0xD else 1
    -- E in units of 1e-7: (32768 * n / hz - cnt) / (32768 * n / hz), rounded half up
    let num : Int := (32768 * (n : Int) - cnt * hz) * 10000000
    let den : Int := 32768 * (n : Int)
    let e := if den = 0 then 0 else Int.fdiv (2 * num + den) (2 * den)
    let res := s.drawNat 2
    let up := res.1
    let s := res.2
    let mean := if s.rtc.termN = 0 then s.rtc.term
      else
        let q := Int.fdiv s.rtc.termSum (s.rtc.termN : Int)
        if q * (s.rtc.termN : Int) = s.rtc.termSum then q else q + (up : Int)
    let s := s.rtcTrimWrite (e - mean)
    ({ s with rtc := { s.rtc with measDone := false, lastError := e } } : State).rtcMeasBegin.done

/-! ### Backup and the crystal (R542-R544) -/

/-- RTC_SUPPLY_SWITCH (R542): each change to VBAT sets ONBAT. -/
def execRtcSupplySwitch (toVbat : Bool) (s : State) : Host.Outcome State Fault Refusal :=
  if s.rtc.onVbat == toVbat then s.done
  else
    let s := { s with rtc := { s.rtc with onVbat := toVbat, haltBat := s.rtc.haltBat || (toVbat && s.rtcHalted) } }
    ((if toVbat then s.setRb Reg.rtcStat 3 true else s).rtcEntry 6 (if toVbat then 1 else 0)).done

/-- RTC_STAT.BATLOW sets (R543). -/
def State.rtcBatlow (s : State) : State := ((s.setRb Reg.rtcStat 4 true).rtcFire 25).rtcFault 0x0A03 0

/-- RTC_BATLOW (R543): VBAT falls below 2.0 V. BATLOW is no field of the domain: in a reset it waits for step 5 of shakeout. -/
def execRtcBatlow (s : State) : Host.Outcome State Fault Refusal :=
  (if s.rtc.vbatLow then s
   else
    let s := { s with rtc := { s.rtc with vbatLow := true } }
    if s.rtcAlive then s.rtcBatlow else s).done

/-- RTC_BATLOW_CLEAR (R543): VBAT is back above the hysteresis. -/
def execRtcBatlowClear (s : State) : Host.Outcome State Fault Refusal :=
  ({ (s.setRb Reg.rtcStat 4 false) with rtc := { s.rtc with vbatLow := false } } : State).done

/-- Every register of the RTC domain takes its Reset value, LOST is 1, A is 0 (R525, R543). -/
def State.rtcDomainReset (s : State) : State :=
  let s := s.forEach [Reg.rtcSec, Reg.rtcMin, Reg.rtcHour, Reg.rtcDate, Reg.rtcWday, Reg.rtcMonth, Reg.rtcYear, Reg.rtcCent,
    Reg.rtcCtrl, Reg.rtcHaltticks, Reg.rtcTrim, Reg.rtcAlm0T, Reg.rtcAlm0D, Reg.rtcAlm1T, Reg.rtcAlm1D]
    (fun s a => s.setReg a (regReset a))
  let s := s.setReg Reg.rtcStat (BitVec.ofNat 32 (1 + (s.reg Reg.rtcStat).toNat / 16 % 2 * 16 + (s.reg Reg.rtcStat).toNat / 256 * 256))
  { s with rtc := { s.rtc with epoch := 0, acc := 0, secLen := 32768, cyc := 0, term := 0, haltSub := 0, haltCyc := 0,
                                  xstopped := false, haltBat := false } }

/-- RTC_DOMAIN_LOSS (R543): the domain's supply fell below 1.5 V; its registers are at their Reset values when it returns. -/
def execRtcDomainLoss (s : State) : Host.Outcome State Fault Refusal := s.rtcDomainReset.done

/-- RTC_XSTOP (R544): no crystal edge for 1 ms; the fields stop. -/
def execRtcXstop (s : State) : Host.Outcome State Fault Refusal :=
  if s.rtc.xstopped then s.done
  else
    let s := { s with rtc := { s.rtc with xstopped := true } }
    ((((s.setRb Reg.rtcStat 5 true).rtcFire 25).rtcFault 0x0A02 0).rtcEntry 8 0).done

/-- RTC_HALT_RESUMED at step 8 of shakeout (R545): where the domain went to VBAT while HALT was 1, the runtime advances the halted
fields and releases HALT. -/
def State.rtcResume (s : State) : State :=
  if !s.rtcHalted || !s.rtc.haltBat || s.hostOwns 12 then s
  else
    let n := (s.reg Reg.rtcHaltticks).toNat / 32768
    let s := if fieldsValid s.rtcFields then (s.rtcMove n).rtcFieldsShow else s
    let s := s.rtcDoRelease
    if s.rtcHalted then s else s.rtcFault 0x0A06 n

end Sys2Proof.Machine
end

