-- ==== Sys2Proof/Machine/Knab.lean ====
section
/-! DEFINITION. KNB: the non-volatile store, its journal, counters, margin scan and logs (15_knab_store, R494-R524; R614-R618). -/

namespace Sys2Proof.Machine

/-- The address of page p (R494). -/
def knabPage (p : Nat) : Nat := 0x50000000 + 64 * p

/-- The pages a part has (R496). -/
def State.knabPages (s : State) : Nat := if s.present 27 then 1024 else 512

/-- Is a scan-mode recall in progress (R506)? Only step 2 after a power-on runs one (R383). -/
def State.knabRecalling (s : State) : Bool := s.rb Reg.knbStat 0 && !s.rb Reg.knbStat 1 && s.rf Reg.pwrRstcause 0 3 == 1

/-- Journal mode by the strap (KNB_STAT.MODE, R507). -/
def State.knabJournal (s : State) : Bool := s.rb Reg.knbStat 1

/-- Does KNB accept a direct write to a page (R499)? -/
def State.knabWritable (s : State) (a : Nat) : Bool := !s.knabRecalling && !s.knabJournal && 0x50002000 ≤ a

def State.knabBusy (s : State) : Bool := s.knb.commit.isSome

/-- Where a byte of the store stands: a retired page's bytes stand in its spare, the latest that took it, and spare i stands behind the
1,024 pages as page 1024 + i (R495; log entry 11). -/
def State.knabCell (s : State) (a : Nat) : Nat :=
  match (List.range 16).reverse.find? (fun i => s.knb.spares.getD i none == some ((a - 0x50000000) / 64)) with
  | some i => knabPage (1024 + i) + a % 64
  | none => a

/-- The new contents of a page, while a transaction that targets it runs (R503: a stalled read sees the new contents). A page that is
being retired is a target too. -/
def State.knabTarget (s : State) (p : Nat) : Option (List Byte) :=
  match s.knb.commit with
  | none => none
  | some c =>
    match c.kind with
    | .retire q i => c.pages.lookup (if p = q && p != 0 then 1024 + i else p)
    | _ => c.pages.lookup p

/-- A byte of the store as a reader sees it. -/
def State.knabByte (s : State) (a : Nat) : Byte :=
  match s.knabTarget ((a - 0x50000000) / 64) with
  | some l => l.getD (a % 64) 0
  | none => s.byte (s.knabCell a)

/-- Bytes of the store as a reader sees them. -/
def State.knabBytes (s : State) (a n : Nat) : List Byte := (List.range n).map (fun i => s.knabByte (a + i))

/-- A word of the store as a reader sees it. -/
def State.knabWord (s : State) (a : Nat) : Word := BitVec.ofNat 32 (ofLe (s.knabBytes a 4))

/-- Bytes written to the array (R495). -/
def State.knabPut (s : State) (a : Nat) : List Byte → State
  | [] => s
  | b :: t => (s.setByte (s.knabCell a) b).knabPut (a + 1) t

/-- Words written to the array, in order: address and bytes. -/
def State.knabPuts (s : State) (l : List (Nat × List Byte)) : State := l.foldl (fun s w => s.knabPut w.1 w.2) s

/-- The sequence number after n, skipping 0 (R502, R505). -/
def knabNextSeq (n : Nat) : Nat := if (n + 1) % 2 ^ 32 = 0 then 1 else (n + 1) % 2 ^ 32

/-- The word writes that give a page its contents. -/
def pageWords (p : Nat) (b : List Byte) : List (Nat × List Byte) := (List.range 16).map (fun i => (knabPage p + 4 * i, slice b (4 * i) 4))

/-- The word writes of step 2 of R502: the buffers to the journal area. -/
def knabStep2 (pages : List (Nat × List Byte)) : List (Nat × List Byte) :=
  (List.range pages.length).flatMap (fun j => pageWords (64 + j) (pages.getD j (0, [])).2)

/-- The word writes of step 3 of R502: the target list, SEQ, COUNT and the CRC. -/
def knabStep3 (seq : Word) (pages : List (Nat × List Byte)) : List (Nat × List Byte) :=
  let list := (List.range 64).flatMap (fun j => leBytes 2 (if j < pages.length then (pages.getD j (0, [])).1 else 0))
  let count := leBytes 4 pages.length
  pageWords 61 (list.take 64) ++ pageWords 62 (list.drop 64) ++
    [(knabPage 60 + 4, leBytes 4 seq.toNat), (knabPage 60 + 8, count),
     (knabPage 60 + 12, leBytes 4 (crc32 (count ++ list ++ pages.flatMap (fun p => p.2))))]

/-- The word writes of step 5 of R502: the targets take their new contents. -/
def knabStep5 (pages : List (Nat × List Byte)) : List (Nat × List Byte) := pages.flatMap (fun p => pageWords p.1 p.2)

/-! ### The header (R494, R495, R507) -/

/-- The header of a mode copy and a spare map (log entry 11). -/
def knabHeaderImage (mode : Nat) (spares : List (Option Nat)) : List Byte :=
  let l := leBytes 4 0x4B4E4142 ++ [1, BitVec.ofNat 8 mode] ++ spares.flatMap (fun p => leBytes 2 (p.getD 0xFFFF))
  l ++ leBytes 4 (crc32 l)

/-- Do magic, version and CRC of the header hold? -/
def State.knabHeaderGood (s : State) : Bool :=
  let l := s.knabBytes (knabPage 0) 42
  ofLe (l.take 4) == 0x4B4E4142 && l.getD 4 0 == 1 && ofLe (l.drop 38) == crc32 (l.take 38)

/-- The mode copy in the header. -/
def State.knabModeCopy (s : State) : Nat := (s.knabByte (knabPage 0 + 5)).toNat

/-- The spare map of a good header takes effect (R495). -/
def State.knabMapLoad (s : State) : State :=
  if s.knabHeaderGood then
    let m := s.knabBytes (knabPage 0 + 6) 32
    { s with knb := { s.knb with spares := (List.range 16).map (fun i =>
        let v := ofLe (slice m (2 * i) 2)
        if v = 0xFFFF then none else some v) } }
  else s

/-- A page with a header or other fields at its front, the rest as it stands. -/
def State.pageWith (s : State) (p : Nat) (fields : List Byte) : List Byte :=
  fields ++ s.knabBytes (knabPage p + fields.length) (64 - fields.length)

/-- KNB_SPARES from the map. -/
def State.knabSpares (s : State) : State :=
  let used := (List.range 16).filter (fun i => (s.knb.spares.getD i none).isSome)
  s.setReg Reg.knbSpares (BitVec.ofNat 32 (16 - used.length + (used.map (fun i => 2 ^ (16 + i))).sum))

/-! ### Identity, heat, keys and objects (R494, R514) -/

/-- Exactly n bytes. -/
def fit (n : Nat) (l : List Byte) : List Byte := (l ++ List.replicate n 0).take n

/-- The fields of pages 1 to 4, in the order of R494 (log entry 11). -/
def nvFields (nv : NvSt) (p : Nat) : List Byte :=
  match p with
  | 1 => leBytes 8 nv.serial ++ leBytes 2 nv.address ++ [BitVec.ofNat 8 (match nv.twinPos with | some t => t + 1 | none => 0)] ++ leBytes 4 nv.seqBase
  | 2 => leBytes 4 (nv.heat.getD 0) ++ leBytes 8 (nv.hdig.getD 0) ++ leBytes 8 (nv.sdig.getD 0) ++ leBytes 8 nv.imgTag ++
      [if nv.heat.isSome then 1 else 0]
  | 3 => fit 32 (nv.custodianKey.getD []) ++ fit 16 (nv.rootKey.getD []) ++
      [(if nv.custodianKey.isSome then 1 else 0) + (if nv.rootKey.isSome then 2 else 0)]
  | _ => BitVec.ofNat 8 nv.unlockSeq.length :: fit 8 nv.unlockSeq

/-- The record of a persistent object: object ID, type code and value in the canonical encoding (R256, R514). -/
def nvRecord (p : Nat × OdVal) : List Byte :=
  match odRow p.1 with
  | some r => beBytes 4 p.1 ++ [BitVec.ofNat 8 r.typ] ++ odEnc false r.typ p.2
  | none => []

/-- The bytes of the records, and an object ID of 0 that ends them (log entry 11). -/
def nvStream (objs : List (Nat × OdVal)) : List Byte := objs.flatMap nvRecord ++ [0, 0, 0, 0]

/-- The pages of the persistent object area that hold the records. -/
def State.nvObjPages (s : State) (objs : List (Nat × OdVal)) : List (Nat × List Byte) :=
  let l := nvStream objs
  ((List.range ((l.length + 63) / 64)).map (fun j => (256 + j, fit 64 (slice l (64 * j) 64)))).filter (fun p => p.1 < s.knabPages)

/-- The pages that a change of the store rewrites: those of pages 1 to 4 that it names, and the object pages that differ. -/
def State.nvPages (s : State) (nv : NvSt) (ids : List Nat) : List (Nat × List Byte) :=
  ids.map (fun p => (p, s.pageWith p (nvFields nv p))) ++
    (s.nvObjPages nv.objs).filter (fun p => s.knabBytes (knabPage p.1) 64 != p.2)

/-- The records from an address on, up to an object ID of 0 or the end of the area. -/
def State.nvObjsAt (s : State) : Nat → Nat → List (Nat × OdVal)
  | 0, _ => []
  | k + 1, a =>
    if knabPage s.knabPages ≤ a + 5 then []
    else
      let id := ofBe (s.knabBytes a 4)
      let t := (s.knabByte (a + 4)).toNat
      let n := if t = 13 then 1 + (s.knabByte (a + 5)).toNat else if t = 14 then 2 + ofBe (s.knabBytes (a + 5) 2) else odSize t
      match id, odDec false t (s.knabBytes (a + 5) n) with
      | 0, _ => []
      | _, none => []
      | _, some (v, _) => (id, v) :: s.nvObjsAt k (a + 5 + n)

/-- What the store holds (R494, R514); after a bad header the runtime takes pages 2 to 4 and 256 onward as holding nothing (R507). -/
def State.nvRead (s : State) : NvSt :=
  let le := fun p o n => ofLe (s.knabBytes (knabPage p + o) n)
  let t := le 1 10 1
  let nv : NvSt := { serial := le 1 0 8, address := le 1 8 2, twinPos := if t = 0 then none else some (t - 1), seqBase := le 1 11 4 }
  if s.rb Reg.knbStat 2 then nv
  else
    let h := le 2 28 1 % 2 == 1
    let e := le 3 48 1
    { nv with
      heat := if h then some (le 2 0 4) else none, hdig := if h then some (le 2 4 8) else none,
      sdig := if h then some (le 2 12 8) else none, imgTag := le 2 20 8,
      custodianKey := if e % 2 = 1 then some (s.knabBytes (knabPage 3) 32) else none,
      rootKey := if e / 2 % 2 = 1 then some (s.knabBytes (knabPage 3 + 32) 16) else none,
      unlockSeq := s.knabBytes (knabPage 4 + 1) (min 8 (le 4 0 1)),
      objs := s.nvObjsAt 8192 (knabPage 256) }

/-- The runtime reads its pages again. -/
def State.nvReload (s : State) : State := { s with nv := s.nvRead }

/-! ### Spread counters (R509, R510) -/

/-- The address of counter c (R509). -/
def knabCtr (c : Nat) : Nat := 0x50000200 + 16 * c

/-- The value of counter c: H_b * 2^32 + L (R509). -/
def State.knabCtrVal (s : State) (c : Nat) : Nat := (s.knabWord (knabCtr c + 8)).toNat * 2 ^ 32 + (s.knabWord (knabCtr c)).toNat

/-- The words of counter c at a value: L, and with a carry H_a before it and H_b after it (R510). -/
def knabCtrWords (c : Nat) (carry : Bool) (n : Nat) : List (Nat × List Byte) :=
  let l := (knabCtr c, leBytes 4 n)
  if carry then [(knabCtr c + 4, leBytes 4 (n / 2 ^ 32)), l, (knabCtr c + 8, leBytes 4 (n / 2 ^ 32))] else [l]

/-- k increments of counter c, saturating at 2^64 - 1; H_a and H_b change only with a carry (R510). They wait for a transaction on the
counter's page, and behind increments that wait (R503, R510). -/
def State.knabCtrAdd (s : State) (c k : Nat) : State :=
  if (s.knabTarget (8 + c / 4)).isSome || !s.knb.stalledInc.isEmpty then
    { s with knb := { s.knb with stalledInc := s.knb.stalledInc ++ [(c, k)] } }
  else
    let v := s.knabCtrVal c
    let n := min (2 ^ 64 - 1) (v + k)
    s.knabPuts (knabCtrWords c (n / 2 ^ 32 != v / 2 ^ 32) n)

/-- The first w word writes of k increments of counter c: what a supply failure among them leaves (R508, R510, R513). -/
def State.knabCtrCut (s : State) (c k w : Nat) : State :=
  let v := s.knabCtrVal c
  let n := min (2 ^ 64 - 1) (v + k)
  let free := min (n - v) (2 ^ 32 - 1 - v % 2 ^ 32)
  if w ≤ free || n = v + free then s.knabPuts (knabCtrWords c false (v + min w free))
  else
    let s := if 0 < free then s.knabPuts (knabCtrWords c false (v + free)) else s
    if w < free + 3 then s.knabPuts ((knabCtrWords c true (v + free + 1)).take (w - free))
    else (s.knabPuts (knabCtrWords c true (v + free + 1))).knabPuts (knabCtrWords c false (min n (v + w - 2)))

/-- The runtime adds one to a counter, at once or once it runs again (R509). -/
def State.runtimeCount (s : State) (c : Nat) : State :=
  if s.runtimeRuns then s.knabCtrAdd c 1
  else { s with knb := { s.knb with owed := recPut 0 s.knb.owed c (recGet 0 s.knb.owed c + 1) } }

/-- The runtime runs again and adds what the units have counted meanwhile (R509). -/
def State.runtimePays (s : State) : State :=
  let l := s.knb.owed
  l.foldl (fun s p => s.knabCtrAdd p.1 p.2) { s with knb := { s.knb with owed := [] } }

/-! ### The end of a transaction (R502, R503, R517) -/

/-- A direct write: it waits for a transaction on its page (R503). -/
def State.knabDirect (s : State) (a : Nat) (b : List Byte) : State :=
  if (s.knabTarget ((a - 0x50000000) / 64)).isSome then { s with knb := { s.knb with stalled := s.knb.stalled ++ [(a, b)] } }
  else s.knabPut a b

/-- Steps 2 to 6 of R502 for the pages of a transaction, no other being in progress: MARKER, which takes SEQ at step 4, is 0 again. -/
def State.knabSteps (s : State) (pages : List (Nat × List Byte)) : State :=
  let s := ((s.knabPuts (knabStep2 pages)).knabPuts (knabStep3 (s.reg Reg.knbJseq) pages)).knabPuts (knabStep5 pages)
  let s := s.knabPut (knabPage 60) [0, 0, 0, 0]
  let s := if pages.any (fun p => p.1 == 0) then s.knabMapLoad else s
  let s := s.setReg Reg.knbJseq (BitVec.ofNat 32 (knabNextSeq (s.reg Reg.knbJseq).toNat))
  if pages.any (fun p => (1 ≤ p.1 && p.1 ≤ 4) || (256 ≤ p.1 && p.1 < 1024)) then s.nvReload else s

/-- A ring 19 entry (R518). -/
def State.knabWeakEntry (s : State) (kind spare page : Nat) : State :=
  (s.fire 28).ringOffer 19 (entry8 kind spare (page % 256) (page / 256) s.stamp)

/-- KNB_SCAN.BUSY: pages of the slice are still to be refreshed. -/
def State.knabScanShow (s : State) : State := s.setRb Reg.knbScan 4 (!s.knb.weak.isEmpty)

/-- A transaction of KNB itself begins (R517). -/
def State.knabBegin (s : State) (pages : List (Nat × List Byte)) (kind : KnbKind) : State :=
  { (s.setRb Reg.knbJstat 0 true) with knb := { s.knb with commit := some { pages := pages, kind := kind } } }

/-- A page is weak still after its refresh (R517): one transaction writes its contents to the first free spare and the map, or no
spare is free. -/
def State.knabRetire (s : State) (page : Nat) : State :=
  match (List.range 16).find? (fun i => (s.knb.spares.getD i none).isNone) with
  | some i =>
    let header := s.pageWith 0 (knabHeaderImage s.knabModeCopy (s.knb.spares.set i (some page)))
    s.knabBegin [(1024 + i, if page = 0 then header else s.knabBytes (knabPage page) 64), (0, header)] (.retire page i)
  | none => ((((s.setRb Reg.knbStat 6 true).fire 29).fault 0x0B01 page).knabWeakEntry 3 0xFF page).knabScanShow

/-- What follows step 6 of a transaction (R502, R517, R518). -/
def State.knabDone (s : State) (kind : KnbKind) : State :=
  match kind with
  | .runtime => s.fire 27
  | .refresh page still =>
    let s := (s.incSat Reg.knbWeakcnt 1).knabWeakEntry 1 0xFF page
    if still then s.knabRetire page else s.knabScanShow
  | .retire page i => ((s.knabSpares.knabWeakEntry 2 i page).fault 0x0B06 page).knabScanShow

/-- Step 6 of R502 and the end of the stall: the stalled accesses take place (R503). -/
def State.knabFinish (s : State) : State :=
  match s.knb.commit with
  | none => s
  | some c =>
    let w := s.knb.stalled
    let i := s.knb.stalledInc
    let s := { s with knb := { s.knb with commit := none, stalled := [], stalledInc := [] } }
    let s := ((s.knabSteps c.pages).setRb Reg.knbJstat 0 false).knabDone c.kind
    let s := w.foldl (fun s p => s.knabDirect p.1 p.2) s
    i.foldl (fun s p => s.knabCtrAdd p.1 p.2) s

/-- Whoever needs the store waits for the transaction in progress, and for the retirement that a refresh may lead to (R503, R517). -/
def State.knabSettle (s : State) : State := s.knabFinish.knabFinish

/-- A journal transaction that the runtime builds and commits within one command (R502): it waits for one in progress (R517). -/
def State.knabTransact (s : State) (pages : List (Nat × List Byte)) : State :=
  if pages.isEmpty then s else ((s.knabSettle).knabSteps pages).knabDone .runtime

/-- A change of what the runtime keeps in pages 1 to 4 and 256 onward, by one journal transaction with the pages of `more`. -/
def State.nvStore (s : State) (f : NvSt → NvSt) (ids : List Nat) (more : List (Nat × List Byte)) : State :=
  let s := s.knabSettle
  let nv := f s.nv
  let pages := s.nvPages nv ids ++ more
  { (s.knabTransact pages) with nv := nv }

/-- Page 13 with counter 20 at 0, as the store of a root key takes it (R318, R511). -/
def State.seqCounterPage (s : State) : List (Nat × List Byte) := [(13, s.pageWith 13 (List.replicate 12 0))]

/-! ### Commits (R500, R501) -/

/-- A write of KNB_CTRL.JOPEN (R500). -/
def State.knabJopen (s : State) : State :=
  if s.rb Reg.knbJstat 0 then s
  else (s.forEach (List.range 64) (fun s j => s.setRb (Reg.knbJmap j) 15 false)).setRf Reg.knbJstat 16 7 0

/-- KNB_JOPEN (R500). -/
def execKnbJopen (who : Init) (s : State) : Host.Outcome State Fault Refusal :=
  (s.guardWrite who 13 Reg.knbCtrl State.knabJopen).done

/-- The VALID buffers: (j, page). -/
def State.knabValid (s : State) : List (Nat × Nat) :=
  ((List.range 64).filter (fun j => s.rb (Reg.knbJmap j) 15)).map (fun j => (j, s.rf (Reg.knbJmap j) 0 10))

/-- A write of KNB_JMAPj (R500): VALID = 1 loads the buffer with the page's contents. -/
def State.knabJmapWrite (s : State) (j : Nat) (v : Word) : State :=
  if s.rb Reg.knbJstat 0 then s
  else
    let s := s.setReg (Reg.knbJmap j) (v &&& 0x83FF)
    let s :=
      if bitOf v 15 then
        let p := fld v 0 10
        s.forEach (List.range 16) (fun s i => s.setReg (Reg.knbBuf j i) (if p < s.knabPages then s.knabWord (knabPage p + 4 * i) else 0))
      else s
    s.setRf Reg.knbJstat 16 7 s.knabValid.length

/-- KNB_JMAP_WRITE (R500). -/
def execKnbJmapWrite (who : Init) (j : Nat) (v : Word) (s : State) : Host.Outcome State Fault Refusal :=
  (s.guardWrite who 13 (Reg.knbJmap j) (fun s => if j < 64 then s.knabJmapWrite j v else s)).done

/-- A page a transaction may not name (R501). -/
def knabReserved (p : Nat) : Bool := (5 ≤ p && p ≤ 7) || (20 ≤ p && p ≤ 127)

/-- The cause of refusal of a commit, first in the table's order (R501); 0 where none applies. -/
def State.knabRefusal (s : State) : Nat :=
  let v := s.knabValid.map (fun p => p.2)
  if v.isEmpty then 1 else if !v.Nodup then 2 else if v.any (fun p => p ≥ s.knabPages) then 3
  else if s.rb Reg.knbJstat 0 then 4 else if v.any knabReserved then 5 else 0

/-- A write to KNB_COMMIT (R501, R502 step 1). Without its supplies the store starts no write (R498). -/
def State.knabCommitWrite (s : State) : State :=
  if !s.pwr.good then s
  else match s.knabRefusal with
  | 0 =>
    let pages := s.knabValid.map (fun p => (p.2, (List.range 16).flatMap (fun i => leBytes 4 (s.reg (Reg.knbBuf p.1 i)).toNat)))
    s.knabBegin pages .runtime
  | e => s.setRf Reg.knbJstat 8 4 e

/-- KNB_COMMIT (R501, R502). -/
def execKnbCommit (who : Init) (s : State) : Host.Outcome State Fault Refusal :=
  (s.guardWrite who 13 Reg.knbCommit State.knabCommitWrite).done

/-- A write of KNB_CNTINC (R510): COUNT 0 acts as 1. Without its supplies the store starts no write (R498). -/
def State.knabCntinc (s : State) (v : Word) : State :=
  if s.pwr.good then s.knabCtrAdd (fld v 0 5) (max 1 (fld v 16 16)) else s

/-- A read of KNB_CNTVAL_LO: L of the selected counter, and its H latched (R512). -/
def State.knabCntval (s : State) : State :=
  let c := s.rf Reg.knbCntsel 0 5
  let s := (s.setReg Reg.knbCntvalLo (s.knabWord (knabCtr c))).setReg Reg.knbCntvalHi (s.knabWord (knabCtr c + 8))
  { s with lastRead := s.reg Reg.knbCntvalLo }

/-- COUNTER_VALUE_READ (R512). -/
def execCounterValueRead (_who : Init) (s : State) : Host.Outcome State Fault Refusal := s.knabCntval.done

/-! ### Recall (R505-R507, R513) -/

/-- The journal is resolved (R505). -/
def State.knabResolve (s : State) : State :=
  let marker := s.knabWord (knabPage 60)
  let seq := s.knabWord (knabPage 60 + 4)
  let count := (s.knabWord (knabPage 60 + 8)).toNat
  let list := s.knabBytes (knabPage 61) 128
  let pages := (List.range (min 64 count)).map (fun j => (ofLe (slice list (2 * j) 2), s.knabBytes (knabPage (64 + j)) 64))
  let good := crc32 (leBytes 4 count ++ list ++ pages.flatMap (fun p => p.2)) == (s.knabWord (knabPage 60 + 12)).toNat
  let s :=
    if marker == 0 then s
    else if marker == seq && count ≤ 64 && good then (s.knabPuts (knabStep5 pages)).knabPut (knabPage 60) [0, 0, 0, 0]
    else (((s.knabPut (knabPage 60) [0, 0, 0, 0]).setRb Reg.knbStat 4 true).fire 29).fault 0x0B02 (seq.toNat % 65536)
  s.setReg Reg.knbJseq (BitVec.ofNat 32 (knabNextSeq seq.toNat))

/-- One spread counter is recovered (R513). -/
def State.knabCtrRecover (s : State) (c : Nat) : State :=
  let l := s.knabWord (knabCtr c)
  let ha := s.knabWord (knabCtr c + 4)
  let hb := s.knabWord (knabCtr c + 8)
  if ha == hb then s
  else if ha.toNat == hb.toNat + 1 && (l == 0xFFFFFFFF || l == 0) then
    s.knabPuts [(knabCtr c, [0, 0, 0, 0]), (knabCtr c + 8, leBytes 4 ha.toNat)]
  else
    let m := if ha.toNat < hb.toNat then hb else ha
    let s := s.knabPuts [(knabCtr c + 4, leBytes 4 m.toNat), (knabCtr c + 8, leBytes 4 m.toNat)]
    ((s.setRb Reg.knbCntbad c true).fire 29).fault 0x0B03 c

/-- The header check (R507): without a good header the spare map is all free. The fault of a mode change is logged when the runtime
rewrites the header at step 8. -/
def State.knabHeader (s : State) : State :=
  let s :=
    if s.knabHeaderGood then s.knabMapLoad
    else
      let s := { s with knb := { s.knb with spares := List.replicate 16 none } }
      ((s.setRb Reg.knbStat 2 true).fire 29).fault 0x0B04 0
  if s.knabModeCopy != (if s.knabJournal then 1 else 0) then s.setRb Reg.knbStat 3 true else s

/-- The whole recall after a power-on (R505-R507): `weak` are the pages that the margin read of a scan-mode recall finds. -/
def State.knabFullRecall (s : State) (weak : List Nat) : State :=
  let s := s.knabResolve.forEach (List.range 32) State.knabCtrRecover
  let s := s.knabHeader.knabSpares
  let s := { s with knb := { s.knb with weak := if s.knabJournal then [] else weak.filter (fun p => p < s.knabPages) } }
  s.setRb Reg.knbStat 0 false

/-- A runtime rewrite of the header at step 8 (R507). -/
def State.knabModeRewrite (s : State) : State :=
  let m := if s.knabJournal then 1 else 0
  if s.rb Reg.knbStat 3 && s.knabModeCopy != m then
    (s.knabTransact [(0, s.pageWith 0 (knabHeaderImage m s.knb.spares))]).fault 0x0B05 m
  else s

/-! ### The margin scan (R516-R518) -/

/-- A write of KNB_CTRL.SLICENOW. -/
def State.knabSliceNow (s : State) : State := { s with knb := { s.knb with sliceNow := true } }

/-- SLICE_NOW (R516). -/
def execSliceNow (who : Init) (s : State) : Host.Outcome State Fault Refusal :=
  (s.guardWrite who 13 Reg.knbCtrl State.knabSliceNow).done

/-- The next multiple of the slice period after a count of TBCOUNT (R516, R522). -/
def nextSliceAfter (count : Nat) : Nat := (count / 21600000 + 1) * 21600000

/-- Does KNB refresh or retire a page? -/
def State.knabRefreshing (s : State) : Bool :=
  match s.knb.commit with
  | some c => c.kind != .runtime
  | none => false

/-- SCAN_SLICE: the next slice is margin-read; `weak` are its weak pages (R516). The scan waits for pages still to be
refreshed and for ring 19 (R518). -/
def execScanSlice (weak : List Nat) (s : State) : Host.Outcome State Fault Refusal :=
  if !(s.awake && !s.knabRecalling && s.knb.weak.isEmpty && !s.knabRefreshing && !s.held.any (fun h => h.ring == 19) &&
      (s.knb.sliceNow || s.knb.nextSlice ≤ s.tb.count)) then s.done
  else
    let k := s.rf Reg.knbScan 0 4
    let w := weak.filter (fun p => p / 64 == k && p < s.knabPages)
    let due := if s.knb.nextSlice ≤ s.tb.count then nextSliceAfter s.tb.count else s.knb.nextSlice
    let s := { s with knb := { s.knb with weak := w, sliceNow := false, nextSlice := due } }
    (s.setRf Reg.knbScan 0 4 (k + 1)).knabScanShow.done

/-- PAGE_REFRESH: the one-page transaction that rewrites a weak page begins; KNAB_DONE ends it, and the page is read again (R517). -/
def execPageRefresh (page : Nat) (stillWeak : Bool) (s : State) : Host.Outcome State Fault Refusal :=
  (if !(s.knb.weak.contains page && !s.knabBusy && !s.knabRecalling && s.awake && !s.held.any (fun h => h.ring == 19)) then s
   else
    let s := { s with knb := { s.knb with weak := s.knb.weak.erase page } }
    s.knabBegin [(page, s.knabBytes (knabPage page) 64)] (.refresh page stillWeak)).done

/-- KNB_WEAKCNT_READ (R517). -/
def execKnbWeakcntRead (who : Init) (s : State) : Host.Outcome State Fault Refusal :=
  (s.readClear who 13 Reg.knbWeakcnt 0xFFFFFFFF).done

/-! ### A supply failure (R498, R502, R508) -/

/-- What a running transaction leaves when the supply fails in step `jstep` of R502: in steps 2, 3 and 5 a free number of the step's
word writes have been made; from step 4 on MARKER stands, and the recall repeats step 5 (R505); after step 6 it is whole. -/
def State.knabSupplyFail (s : State) (jstep : Nat) : State :=
  match s.knb.commit with
  | none => { s with knb := { s.knb with stalled := [], stalledInc := [], after := [] } }
  | some c =>
    let w2 := knabStep2 c.pages
    let w3 := knabStep3 (s.reg Reg.knbJseq) c.pages
    let w5 := knabStep5 c.pages
    let cut := fun (s : State) (l : List (Nat × List Byte)) =>
      let res := s.drawNat (l.length + 1)
      res.2.knabPuts (l.take res.1)
    let mark := fun (s : State) => ((s.knabPuts w2).knabPuts w3).knabPut (knabPage 60) (leBytes 4 (s.reg Reg.knbJseq).toNat)
    let s :=
      if jstep ≥ 6 then ({ s with knb := { s.knb with stalled := [], stalledInc := [] } } : State).knabFinish
      else if jstep = 5 then cut (mark s) w5
      else if jstep = 4 then mark s
      else if jstep = 3 then cut (s.knabPuts w2) w3
      else if jstep = 2 then cut s w2
      else s
    { s with knb := { s.knb with commit := none, stalled := [], stalledInc := [], after := [] } }

/-! ### Logs (R515, R617, R618) -/

/-- The 16 bytes of an entry as the store and the rings hold them (R614). -/
def LogRec.bytes (e : LogRec) (heat : Nat) (lost : Bool) : List Byte :=
  leBytes 2 e.code ++ [BitVec.ofNat 8 (e.flags + if lost then 8 else 0), BitVec.ofNat 8 heat] ++ leBytes 4 e.tick ++
    leBytes 4 e.rtcsec ++ leBytes 4 e.param

/-- The address of entry k of the fault log or the event log (R515). -/
def logAddr (e : LogRec) (k : Nat) : Nat := (if e.isEvent then 0x50003000 else 0x50002000) + 16 * (k % 256)

/-- The page of an address with some of its bytes replaced. -/
def State.pagePatch (s : State) (a : Nat) (b : List Byte) : Nat × List Byte :=
  ((a - 0x50000000) / 64, putBytes (s.knabBytes (a / 64 * 64) 64) (a % 64) b)

/-- An entry is written to its log with the increment of counter 18 or 19 (R515): by one journal transaction, or in scan mode directly,
the counter after it. Copies are offered to the rings (R617). -/
def State.logWrite (s : State) (e : LogRec) : State :=
  let s := s.knabSettle
  let b := e.bytes s.od.heat (s.log.lost || (s.log.hlost && !e.isEvent))
  let c := if e.isEvent then 19 else 18
  let a := logAddr e (s.knabCtrVal c)
  let s :=
    if s.knabJournal then
      let counted := s.knabCtrAdd c 1
      s.knabTransact [s.pagePatch a b, (12, counted.knabBytes (knabPage 12) 64)]
    else (s.knabDirect a b).knabCtrAdd c 1
  let s := { s with log := { s.log with lost := false, hlost := s.log.hlost && e.isEvent } }
  let s := s.ringOffer (if e.isEvent then 3 else 2) b
  if !e.isEvent && e.flags / 64 ≥ 2 then s.ringOffer 18 b else s

/-- A log is cleared (R262, R619): its 64 pages, by one journal transaction, or in scan mode directly. -/
def State.logClear (s : State) (page : Nat) : State :=
  let l := (List.range 64).map (fun j => (page + j, List.replicate 64 (0 : Byte)))
  if s.knabJournal then s.knabTransact l else (s.knabSettle).knabPuts (knabStep5 l)

/-- The entry that is written next: the oldest while the runtime runs; before that only SELFTEST_FAIL and IMAGE_REJECTED, which the
boot ROM writes (R617, R618). -/
def State.logNext (s : State) : Option LogRec :=
  if s.knabRecalling || !s.awake then none
  else if s.runtimeRuns then s.log.pending.head?
  else s.log.pending.find? (fun e => !e.isEvent && (e.code == 0x0203 || e.code == 0x0201))

/-- A supply failure in scan mode may cut the direct write of the next entry short: of its four words the first few are written and its
count is not (R508, R515). How many is a free value. -/
def State.logTorn (s : State) : State :=
  if s.knabJournal then s
  else
    match s.logNext with
    | none => s
    | some e =>
      let res := s.drawNat 5
      res.2.knabPut (logAddr e (s.knabCtrVal (if e.isEvent then 19 else 18)))
        ((e.bytes s.od.heat (s.log.lost || (s.log.hlost && !e.isEvent))).take (4 * res.1))

/-- FAULT_LOG_WRITE: the entry that is next is written (R617, R618). Where the transaction fails in journal mode, the entry is
lost and NV_COMMIT is held (R621). -/
def execFaultLogWrite (nvOk : Bool) (s : State) : Host.Outcome State Fault Refusal :=
  match s.logNext with
  | none => s.done
  | some e =>
    let s := { s with log := { s.log with pending := s.log.pending.erase e } }
    if nvOk || !s.knabJournal then (s.logWrite e).done
    else (({ s with log := { s.log with lost := true } } : State).fault 0x0E02 0).done

end Sys2Proof.Machine
end

