-- ==== Sys2Proof/Machine/Fan.lean ====
section
/-! DEFINITION. FAN: drive, speed measurement, the state machine, autonomous mode and the SHDN path (07_fans, R222-R253). -/

namespace Sys2Proof.Machine

def State.fan1 (s : State) (f : Nat) : FanCh := recGet {} s.fan.chans f

def State.setFan (s : State) (f : Nat) (v : FanCh) : State :=
  { s with fan := { s.fan with chans := recPut {} s.fan.chans f v } }

/-- FAN_RUN bit f. -/
def State.fanRuns (s : State) (f : Nat) : Bool := s.rb Reg.fanRun f

def State.fanTach (s : State) (f : Nat) : Bool := s.rb (Reg.fanfCfg f) 0

/-- Pulses per revolution. -/
def State.fanPpr (s : State) (f : Nat) : Nat := s.rf (Reg.fanfCfg f) 2 2 + 1

/-- KICK in base ticks (R229, R250). -/
def State.fanKick (s : State) (f : Nat) : Nat := 400 * clampNat 5 50 (s.rf (Reg.fanfCfg f) 16 8)

/-- START_TIMEOUT in base ticks (R229, R250). -/
def State.fanStartTo (s : State) (f : Nat) : Nat := 400 * clampNat 5 100 (s.rf (Reg.fanfCfg f) 24 8)

/-- Autonomous mode is in force (R236). -/
def State.fanAutoOn (s : State) : Bool := s.rb Reg.fanStat 0

/-- SHDN is asserted (R243). -/
def State.shdnOn (s : State) : Bool := s.rb Reg.fanShdnStat 3

/-- A rounded quotient, ties upward (R226, R238). -/
def roundDiv (n d : Int) : Int := if d < 0 then Int.fdiv (-2 * n - d) (-2 * d) else Int.fdiv (2 * n + d) (2 * d)

/-! ### Demand and tables (R225-R227, R238) -/

/-- The demand of a fan (R225). -/
def State.fanDemand (s : State) (f : Nat) : Int :=
  clampC ((List.range 8).foldl (fun m q =>
    if s.rb (Reg.fanfDemen f) q then max m (s.reg (Reg.fanDem (8 * f + q))).toInt else m) 0)

/-- The value of a table between two of its points (R226, R238). -/
def interpolate (x x0 x1 y0 y1 : Int) : Int := y0 + roundDiv ((y1 - y0) * (x - x0)) (x1 - x0)

/-- The output of the fan table (R226); where the points do not ascend, the rule for host ownership finds it. -/
def State.fanTable (s : State) (f : Nat) (d : Int) : Int :=
  let dem := fun i => (s.reg (Reg.fanTabDem f i)).toInt
  let out := fun i => (s.reg (Reg.fanTabOut f i)).toInt
  if d < dem 0 then 0
  else
    match (List.range 7).find? (fun i => decide (dem i < dem (i + 1) ∧ dem i ≤ d ∧ d < dem (i + 1))) with
    | some i => interpolate d (dem i) (dem (i + 1)) (out i) (out (i + 1))
    | none => out 7

/-- FANf_CFG.SRC as it acts: 3 acts as 0 (R250). -/
def State.fanSrc (s : State) (f : Nat) : Nat := let v := s.rf (Reg.fanfCfg f) 4 2; if v = 3 then 0 else v

/-- The normal duty (R227). -/
def State.fanNormal (s : State) (f : Nat) : Nat :=
  let t := s.fanTable f (s.fanDemand f)
  let x := match s.fanSrc f with
    | 0 => t
    | 1 => if t = 0 then 0 else (s.reg (Reg.fanfDutycmd f)).toInt
    | _ => (s.reg (Reg.fanfDutycmd f)).toInt
  (Int.fdiv (clampC x * 255 + 3276800) fullC).toNat

/-- Does a code read open or short (R237, R243)? -/
def codeBad (y : Int) : Bool := y ≥ 64880 || y ≤ 655

/-- The code a fan's autonomous table works on (R237): none where both channels read open or short or none is valid. -/
def State.fanCode (s : State) (f : Nat) : Option Int :=
  let pri := (s.chan (s.rf (Reg.fanfAutoch f) 0 7)).code
  let bud := (s.chan (s.rf (Reg.fanfAutoch f) 8 7)).code
  let pv := s.rb (Reg.fanfAutoch f) 7
  let bv := s.rb (Reg.fanfAutoch f) 15
  let priBad := !pv || codeBad pri
  let budBad := !bv || codeBad bud
  if priBad && budBad then none
  else if pv && !((s.fan1 f).buddy && bv) && !codeBad pri then some pri
  else if bv then some bud else some pri

/-- The table duty of a code (R238). -/
def State.fanAutoDuty (s : State) (f : Nat) (code : Int) : Nat :=
  let c := fun i => ((s.rf (Reg.fanAutopt f i) 0 16 : Nat) : Int)
  let d := fun i => ((s.rf (Reg.fanAutopt f i) 16 8 : Nat) : Int)
  let up := (List.range 7).all (fun i => decide (c i < c (i + 1)))
  let down := (List.range 7).all (fun i => decide (c i > c (i + 1)))
  if (up && decide (code ≤ c 0)) || (down && decide (code ≥ c 0)) then (d 0).toNat
  else if (up && decide (code ≥ c 7)) || (down && decide (code ≤ c 7)) then (d 7).toNat
  else
    match (List.range 7).find? (fun i => decide (c i ≠ c (i + 1) ∧ min (c i) (c (i + 1)) ≤ code ∧ code ≤ max (c i) (c (i + 1)))) with
    | some i => (interpolate code (c i) (c (i + 1)) (d i) (d (i + 1))).toNat
    | none => 255

/-- Dt: the table duty in autonomous mode, 255 with no temperature (R237). -/
def State.fanDt (s : State) (f : Nat) : Nat := match s.fanCode f with | some c => s.fanAutoDuty f c | none => 255

/-- Q of a duty (R239). -/
def fanQ (d : Nat) : Nat := (d * 80000 + 127) / 255

/-- The slewed duty (R239). -/
def fanSlewed (q : Nat) : Nat := (q * 255 + 40000) / 80000

/-! ### Drive duty (R231) -/

/-- The safe level of a fan (R231 row 4). -/
def State.fanSafeDuty (s : State) (f : Nat) : Nat := if s.rb (Reg.fanfCfg f) 7 then 255 else 0

/-- Rows 3 to 8 of R231: the duty that a fan would have if its state forced none. -/
def State.fanWould (s : State) (f : Nat) : Nat :=
  let a := s.fan1 f
  if s.shdnOn && s.rb (Reg.fanfCfg f) 6 then 255
  else if !s.fanRuns f then s.fanSafeDuty f
  else if a.window.isSome then 255
  else if s.fanAutoOn || a.slew then fanSlewed a.q
  else if a.state = 5 then a.lastDuty
  else s.fanNormal f

/-- The drive duty of a fan (R231); before step 12 of shakeout every fan is off (R246), and from chill to the first commit it keeps its
safe level (R135, R247). -/
def State.fanDuty (s : State) (f : Nat) : Nat :=
  if s.shakeStep < 12 then 0
  else if (s.fan1 f).chill then s.fanSafeDuty f
  else
    match (s.fan1 f).state with
    | 3 | 4 | 7 => 0
    | 1 | 6 => 255
    | _ => s.fanWould f

/-- The drive duty apart from a stretch window (R231, row 7). -/
def State.fanDutyApart (s : State) (f : Nat) : Nat := (s.setFan f { s.fan1 f with window := none }).fanDuty f

/-- A ring 20 entry (R252). -/
def State.fanEntry (s : State) (b0 kind cause n : Nat) : State := s.ringOffer 20 (entry8 b0 kind cause n s.stamp)

/-! ### Failures and states (R229-R235) -/

/-- P, the switching period of a fan in TBO cycles; FREQ below 10 acts as 10, above 250 as 250 (R222, R250). -/
def State.fanPeriod (s : State) (f : Nat) : Nat := let q := clampNat 10 250 (s.rf (Reg.fanfCfg f) 8 8); (16384000 + q / 2) / q

/-- A switching period begins with a drive duty: FANGf is high for the on-time of R222 and low for the rest. -/
def State.fanDrive (s : State) (f d : Nat) : State :=
  let p := s.fanPeriod f
  s.setFan f { s.fan1 f with pinDuty := d, pinHigh := (d * p + 127) / 255, pinPeriod := p }

/-- A switching period begins with the drive duty of the moment (R222). -/
def State.fanPeriodNew (s : State) (f : Nat) : State := s.fanDrive f (s.fanDuty f)

/-- FANGf: high-impedance until step 8 of shakeout and on a chip that does not drive (R56, R246, R334), then by the switching period
(R222); a fan the variant lacks has the weak pull-down of R10. -/
def State.fanPin (s : State) (f : Nat) : Pin :=
  let a := s.fan1 f
  if s.nFans ≤ f then .pullDown
  else if !s.pinsDriven then .highZ
  else if a.pinHigh = 0 then .low
  else if a.pinPeriod ≤ a.pinHigh then .high
  else .moving

/-- A fan enters a state. A stretch window ends there, which begins a new switching period (R223); the supply goes on at
once at entry to STARTING, and any other new duty takes effect at the next period (R222, R229). -/
def State.fanEnter (s : State) (f st : Nat) : State :=
  let opened := (s.fan1 f).window.isSome
  let s := s.setFan f { s.fan1 f with state := st, since := s.now, window := none, edges := 0, stalls := 0 }
  let s := if st = 2 then s.setRb (Reg.fanfRpm f) 16 false else s
  if st = 1 || opened then s.fanPeriodNew f else s

/-- A start attempt begins (R229). -/
def State.fanStart (s : State) (f : Nat) (restart : Bool) : State :=
  let s := s.fanEnter f 1
  s.setFan f { s.fan1 f with fromRestart := restart }

/-- A failure with its cause, 1 BLOCKED, 2 STALL or 3 OPEN_LOAD (R233). -/
def State.fanFail (s : State) (f cause : Nat) : State :=
  let n := (s.fan1 f).retry + 1
  let s := s.fanEnter f (if n < 4 then 3 else 4)
  let s := s.setFan f { s.fan1 f with retry := n, delay := if n = 1 then 40000 else if n = 2 then 120000 else 360000 }
  let s := (s.fire 15).fanEntry f 1 cause n
  if n < 4 then s
  else ((s.setRb Reg.fanFault f true).fanEntry f 2 cause n).fault (0x0800 + cause) f

/-- UNVERIFIED is entered (R232). -/
def State.fanUnverified (s : State) (f : Nat) : State :=
  (((s.fanEnter f 6).fire 15).fanEntry f 4 5 (s.fan1 f).retry).fault 0x0805 f

/-- TACH_LOST is entered (R232). -/
def State.fanTachLost (s : State) (f : Nat) : State :=
  (((s.fanEnter f 5).fire 15).fanEntry f 3 4 (s.fan1 f).retry).fault 0x0804 f

/-- The last current, where it is known (R230). -/
def State.fanInorm (s : State) (f : Nat) : Option Int := if s.rb (Reg.fanfCfg f) 1 then (s.fan1 f).inorm else none

/-- Is the current at or above ISTALL, below ILO? -/
def State.fanHigh (s : State) (f : Nat) : Bool :=
  match s.fanInorm f with | some i => decide (i ≥ (s.reg (Reg.fanfIstall f)).toInt) | none => false

def State.fanLow (s : State) (f : Nat) : Bool :=
  match s.fanInorm f with | some i => decide (i < (s.reg (Reg.fanfIlo f)).toInt) | none => false

/-- RUN with 3 consecutive silent windows (R232). -/
def State.fanSilent (s : State) (f : Nat) : State :=
  if s.fanHigh f then s.fanFail f 2
  else if s.fanLow f then s.fanFail f 3
  else if (s.fanInorm f).isSome then s.fanTachLost f
  else if (s.fan1 f).restarted then s.fanUnverified f
  else
    let s := s.fanEnter f 7
    s.setFan f { s.fan1 f with restarted := true }

/-- The first valid state changes of a base tick (R229, R231, R245): a fan starts, or returns to OFF. -/
def State.fanStates (s : State) (f : Nat) : State :=
  let a := s.fan1 f
  let d := s.fanDuty f
  if a.state = 0 then (if d ≠ 0 then s.fanStart f false else s)
  else if (a.state = 2 || a.state = 5) && d = 0 then s.fanEnter f 0
  else if a.state = 1 && !s.fanRuns f && !s.rb (Reg.fanfCfg f) 7 && !(s.shdnOn && s.rb (Reg.fanfCfg f) 6) then s.fanEnter f 0
  else s

/-- Q moves by one towards its goal (R239, R240). -/
def State.fanSlew (s : State) (f : Nat) : State :=
  let a := s.fan1 f
  if !s.fanAutoOn && !a.slew then s
  else
    let goal := fanQ (if s.fanAutoOn then s.fanDt f else s.fanNormal f)
    let q := if a.q < goal then a.q + 1 else if goal < a.q then a.q - 1 else a.q
    s.setFan f { a with q := q, slew := a.slew && (s.fanAutoOn || q != goal) }

/-- One base tick of a fan (R229, R239, FANf_ONTIME); the runtime adds each second to the fan's Knab counter (R509). -/
def State.fanTick (s : State) (f : Nat) : State :=
  let s := (s.fanSlew f).fanStates f
  if s.fanDuty f = 0 then s
  else
    let a := s.fan1 f
    if a.onTicks + 1 = 4000 then
      let s := (s.setFan f { a with onTicks := 0 }).incSat (Reg.fanfOntime f) 1
      s.runtimeCount f
    else s.setFan f { a with onTicks := a.onTicks + 1 }

/-- The base tick of every fan. -/
def State.fanTicks (s : State) : State :=
  if 12 ≤ s.shakeStep && s.awake then s.forEach (List.range s.nFans) State.fanTick else s

/-- FAN_PERIOD (R222): a new switching period takes the drive duty; an open stretch window holds the supply on (R223). -/
def execFanPeriod (f : Nat) (s : State) : Host.Outcome State Fault Refusal :=
  (if f < s.nFans && 8 ≤ s.shakeStep && s.awake && (s.fan1 f).window.isNone then s.fanPeriodNew f else s).done

/-- STRETCH_WINDOW_OPEN (R223). -/
def execStretchWindowOpen (f : Nat) (s : State) : Host.Outcome State Fault Refusal :=
  (let a := s.fan1 f
   let iv := 1000 * max 1 (s.rf (Reg.fanfMeas f) 0 8)
   let speed := max (s.rf (Reg.fanfMeas f) 16 16) (s.rf (Reg.fanfRpm f) 0 16)
   let due := s.tb.running && (s.tb.count + iv * 16 - 16 * f) % iv == 0
   if f < s.nFans && s.awake && (a.state = 2 || a.state = 5 || a.state = 6) && s.fanTach f && due && a.window.isNone then
    let den := speed * s.fanPpr f
    let w := if den = 0 then 240 else min 240 (8 + (480000 + den - 1) / den)
    (s.setFan f { a with window := some s.now, width := w, edges := 0, winDuty := s.fanDutyApart f }).fanDrive f 255
   else s).done

/-- A fan that starts has both its kick and its edges (R229). -/
def State.fanRunIf (s : State) (f : Nat) : State :=
  let a := s.fan1 f
  if a.state = 1 && a.since + s.fanKick f ≤ s.now && (2 ≤ a.edges || !s.fanTach f) then s.fanEnter f 2 else s

/-- TACH_EDGE (R224, R229): a rising edge, `cycle` TBO cycles after the last base tick; it counts in a window that is open, or towards
the start. -/
def execTachEdge (f : Nat) (cycle : Nat) (s : State) : Host.Outcome State Fault Refusal :=
  (let a := s.fan1 f
   let at_ := s.nowCycle + cycle
   if f < s.nFans && s.awake && (a.edges = 0 || a.lastEdge < at_) then
    if a.window.isSome && a.edges < 3 then
      s.setFan f { a with edges := a.edges + 1, firstEdge := if a.edges = 0 then at_ else a.firstEdge, lastEdge := at_ }
    else if a.state = 1 then
      (s.setFan f { a with edges := a.edges + 1, lastEdge := at_ }).fanRunIf f
    else s
   else s).done

/-- A valid window (R223, R224, R227, R232). -/
def State.fanValid (s : State) (f : Nat) : State :=
  let a := s.fan1 f
  let rpm := min 65535 (983040000 * (a.edges - 1) / (s.fanPpr f * (a.lastEdge - a.firstEdge)))
  let s := s.setReg (Reg.fanfRpm f) (BitVec.ofNat 32 (rpm + 65536))
  let s := s.setFan f { a with window := none, edges := 0, restarted := false, lastDuty := a.winDuty }
  let s := (s.fanPeriodNew f).fire 14
  let vpv := s.odNat 0x15 f 0x1B
  let s := if s.runtimeRuns && vpv < 256 then s.vpvWrite vpv (BitVec.ofNat 32 (rpm * 65536)) else s
  if a.state = 5 || a.state = 6 then
    let rpmw := s.reg (Reg.fanfRpm f)
    ((s.fanEnter f 2).setReg (Reg.fanfRpm f) rpmw).fanEntry f 5 0 a.retry
  else s

/-- STRETCH_WINDOW_CLOSE (R223, R224, R232): at the third edge or after W ticks. -/
def execStretchWindowClose (f : Nat) (s : State) : Host.Outcome State Fault Refusal :=
  (let a := s.fan1 f
   match a.window with
   | some t =>
    if f < s.nFans && (3 ≤ a.edges || t + a.width ≤ s.now) then
      if 2 ≤ a.edges then s.fanValid f
      else
        let k := min 255 (s.rf (Reg.fanfRpm f) 24 8 + 1)
        let s := (s.setFan f { a with window := none, edges := 0 }).setRf (Reg.fanfRpm f) 24 8 k
        let s := s.fanPeriodNew f
        if a.state = 2 && 3 ≤ k then s.fanSilent f else s
    else s
   | none => s).done

/-- FAN_KICK_END (R229). -/
def execFanKickEnd (f : Nat) (s : State) : Host.Outcome State Fault Refusal :=
  (if f < s.nFans && s.awake then s.fanRunIf f else s).done

/-- START_TIMEOUT (R229, R232): fewer than 2 edges since the entry to STARTING. -/
def execStartTimeout (f : Nat) (s : State) : Host.Outcome State Fault Refusal :=
  (let a := s.fan1 f
   if f < s.nFans && s.awake && a.state = 1 && s.fanTach f && a.since + s.fanStartTo f ≤ s.now && a.edges < 2 then
    if s.fanHigh f then s.fanFail f 2
    else if a.fromRestart then s.fanUnverified f else s.fanFail f 1
   else s).done

/-- A fan leaves WAIT or RESTART: it starts if its drive duty would be non-zero (R233). -/
def State.fanAgain (s : State) (f : Nat) (restart : Bool) : State :=
  if s.fanWould f ≠ 0 then s.fanStart f restart else s.fanEnter f 0

/-- FAN_WAIT_END (R233). -/
def execFanWaitEnd (f : Nat) (s : State) : Host.Outcome State Fault Refusal :=
  (let a := s.fan1 f
   if f < s.nFans && s.awake && a.state = 3 && a.since + a.delay ≤ s.now then s.fanAgain f false else s).done

/-- FAN_RESTART_END (R228): after 1 s off the fan starts. -/
def execFanRestartEnd (f : Nat) (s : State) : Host.Outcome State Fault Refusal :=
  (let a := s.fan1 f
   if f < s.nFans && s.awake && a.state = 7 && a.since + 4000 ≤ s.now then s.fanStart f true else s).done

/-- FAN_RETRY_RESET (R234): 600 s of continuous RUN. -/
def execFanRetryReset (f : Nat) (s : State) : Host.Outcome State Fault Refusal :=
  (let a := s.fan1 f
   if f < s.nFans && s.awake && a.state = 2 && a.since + 2400000 ≤ s.now then s.setFan f { a with retry := 0 } else s).done

/-- FAN_CLR of one fan (R234, R235). -/
def State.fanClear1 (s : State) (f : Nat) : State :=
  let a := s.fan1 f
  if a.state = 3 || a.state = 4 then
    let s := (s.fanEnter f 0).setRb Reg.fanFault f false
    s.setFan f { s.fan1 f with retry := 0 }
  else s

/-- A write of FAN_CLR (R235, R249). -/
def State.fanClrWrite (s : State) (v : Word) : State :=
  s.forEach ((List.range s.nFans).filter (fun f => bitOf v f)) State.fanClear1

/-- FAN_CLR (R235). -/
def execFanClr (who : Init) (v : Word) (s : State) : Host.Outcome State Fault Refusal :=
  (s.guardWrite who 10 Reg.fanClr (fun s => s.fanClrWrite v)).done

/-! ### Current (R230, R232) -/

/-- A fan's current at a pass end that gave decimator 64 + f a fresh PV. -/
def State.fanCurrent (s : State) (f : Nat) : State :=
  let st := s.word (acqStatus (64 + f))
  if !bitOf st 17 then s
  else
    let d := s.fanDuty f
    let known := s.rb (Reg.fanfCfg f) 1 && bitOf st 16 && 26 ≤ d
    let i := if known then some (Int.fdiv (s.sword (acqPv (64 + f)) * 255) d) else none
    let s := s.setFan f { s.fan1 f with inorm := i }
    let a := s.fan1 f
    let s := s.setFan f { a with stalls := if s.fanHigh f then a.stalls + 1 else 0 }
    match a.state with
    | 1 => if s.fanHigh f then s.fanFail f 2 else s
    | 2 => if 2 ≤ (s.fan1 f).stalls then s.fanFail f 2 else s
    | 5 => if s.fanHigh f then s.fanFail f 2 else if s.fanLow f then s.fanFail f 3 else s
    | _ => s

/-- The currents of every fan at a pass end. -/
def State.fanCurrents (s : State) : State :=
  if 12 ≤ s.shakeStep then s.forEach (List.range s.nFans) State.fanCurrent else s

/-! ### Autonomous mode (R236-R240) -/

/-- A write of FAN_REFRESH (R236, R240); supervision counts from it once the outputs are live (R246). -/
def State.fanRefreshWrite (s : State) : State :=
  { s with fan := { s.fan with written := some s.now, refresh := if 12 ≤ s.shakeStep then some s.now else s.fan.refresh } }

/-- FAN_REFRESH (R236). -/
def execFanRefresh (who : Init) (s : State) : Host.Outcome State Fault Refusal :=
  (s.guardWrite who 10 Reg.fanRefresh State.fanRefreshWrite).done

/-- FAN_SUPERVISE in base ticks: 0 acts as 1 s, above 60 as 60 s. -/
def State.fanSuperviseTicks (s : State) : Nat := 4000 * clampNat 1 60 (s.rf Reg.fanSupervise 0 6)

/-- Is FAN_REFRESH overdue (R236)? Supervision starts when the outputs go live (R246). -/
def State.fanOverdue (s : State) : Bool :=
  match s.fan.refresh with | some t => decide (t + s.fanSuperviseTicks ≤ s.now) | none => false

/-- Entry to autonomous mode (R236, R239, R252): the cause is 0 for a missing refresh, 1 for WDOG_WARN. -/
def State.fanAutoEnter (s : State) (cause : Nat) : State :=
  let s := s.forEach (List.range s.nFans) (fun s f => s.setFan f { s.fan1 f with q := fanQ (s.fanDuty f), slew := false })
  let s := ((s.setRb Reg.fanStat 0 true).setRf Reg.fanStat 1 1 cause).fire 16
  let s := s.fault 0x0806 cause
  s.forEach ((List.range s.nFans).filter s.fanRuns) (fun s f => s.fanEntry f 6 0 (s.fan1 f).retry)

/-- FAN_AUTO (R236): the first base tick at which a condition holds. -/
def execFanAuto (s : State) : Host.Outcome State Fault Refusal :=
  (if s.awake && 12 ≤ s.shakeStep && !s.fanAutoOn && (s.fanOverdue || s.rb Reg.pwrStat 2) then
    s.fanAutoEnter (if s.fanOverdue then 0 else 1) else s).done

/-- A write of FAN_AUTO_EXIT (R240). -/
def State.fanAutoExitWrite (s : State) (v : Word) : State :=
  if !bitOf v 0 || !s.fanAutoOn then s
  else
    let fresh := match s.fan.written with | some t => decide (s.now ≤ t + s.fanSuperviseTicks) | none => false
    if !fresh || s.rb Reg.pwrStat 2 then s.setRb Reg.fanStat 2 true
    else
      let s := (s.setRb Reg.fanStat 0 false).fire 16
      let s := s.forEach (List.range s.nFans) (fun s f => s.setFan f { s.fan1 f with slew := true })
      let s := s.forEach ((List.range s.nFans).filter s.fanRuns) (fun s f => s.fanEntry f 7 0 (s.fan1 f).retry)
      s.happen 16 7

/-- FAN_AUTO_EXIT (R240). -/
def execFanAutoExit (who : Init) (v : Word) (s : State) : Host.Outcome State Fault Refusal :=
  (s.guardWrite who 10 Reg.fanAutoExit (fun s => s.fanAutoExitWrite v)).done

/-- A fan changes between its channels (R237). -/
def State.fanSensor (s : State) (f : Nat) (buddy : Bool) : State :=
  (s.setFan f { s.fan1 f with buddy := buddy, goodSince := none }).fault 0x0809 f

/-- A conversion of channel c as the primary of fan f (R237). -/
def State.fanPrimary (s : State) (f c : Nat) (y : Int) : State :=
  let a := s.fan1 f
  if !(s.rb (Reg.fanfAutoch f) 7 && s.rf (Reg.fanfAutoch f) 0 7 == c) then s
  else if codeBad y then
    let s := s.setFan f { a with goodSince := none }
    if !a.buddy && s.rb (Reg.fanfAutoch f) 15 then s.fanSensor f true else s
  else if a.buddy then
    let t := a.goodSince.getD s.now
    if t + 40000 ≤ s.now then s.fanSensor f false else s.setFan f { a with goodSince := some t }
  else s

/-! ### The SHDN path (R241-R244) -/

/-- THR and REL of a strap value (R241). -/
def shdnCodes : Nat → Nat × Nat
  | 1 => (19060, 21397)
  | 2 => (16947, 19060)
  | 3 => (15049, 16947)
  | 4 => (13355, 15049)
  | 5 => (11850, 13355)
  | 6 => (10517, 11850)
  | 7 => (9342, 10517)
  | _ => (0, 0)

/-- SHDN_T as the strap latch holds it. -/
def State.shdnT (s : State) : Nat := s.rf Reg.pwrStrap 5 3

def State.shdnCh (s : State) (j : Nat) : Nat := s.rf Reg.fanShdnSel (8 * j) 7

/-- Is entry j of FAN_SHDN_SEL valid (R242, R249)? -/
def State.shdnValid (s : State) (j : Nat) : Bool :=
  let c := s.shdnCh j
  s.rb Reg.fanShdnSel (8 * j + 7) && c < 64 && s.acqHas c && !s.acqPaired c

/-- Is the path armed (R242)? -/
def State.shdnArmed (s : State) : Bool :=
  s.rb Reg.fanShdnCtrl 0 && s.shdnT != 0 && (List.range 4).any s.shdnValid

def State.shdnIn (s : State) (j : Nat) : ShdnIn := s.fan.shdn.getD j {}

def State.setShdnIn (s : State) (j : Nat) (v : ShdnIn) : State := { s with fan := { s.fan with shdn := s.fan.shdn.set j v } }

/-- SHDN is asserted by input j (R243, R252). -/
def State.shdnAssert (s : State) (j : Nat) (sensor : Bool) : State :=
  if s.shdnOn then s
  else
    let s := ((s.setRb Reg.fanShdnStat 3 true).setRb Reg.fanShdnStat 5 sensor).fire 17
    let s := { s with fan := { s.fan with shdnBy := j } }
    let code := if sensor then 0x0808 else 0x0807
    (s.fault code (s.shdnCh j)).fanEntry (0xF0 + j) 8 (code % 256) 0

/-- A conversion of channel c as watched input j (R241, R243, R244). -/
def State.shdnConv (s : State) (j c : Nat) (y : Int) : State :=
  if !(s.shdnValid j && s.shdnCh j == c) then s
  else
    let v := s.shdnIn j
    let (thr, rel) := shdnCodes s.shdnT
    let hot := s.shdnT != 0 && decide (y ≤ thr)
    let bad := codeBad y
    let v : ShdnIn :=
      { hot := if hot then v.hot + 1 else 0, fail := bad, failSince := if bad then some (v.failSince.getD s.now) else none,
        okSince := if decide (y ≥ rel) && !bad then some (v.okSince.getD s.now) else none }
    let s := s.setShdnIn j v
    if s.shdnArmed && 2 ≤ v.hot then s.shdnAssert j false else s

/-- What FAN takes from every completed table or guard conversion of channel c with corrected code y (R237, R243). -/
def State.fanConversion (s : State) (c : Nat) (y : Int) : State :=
  let s := s.forEach (List.range s.nFans) (fun s f => s.fanPrimary f c y)
  s.forEach (List.range 4) (fun s j => s.shdnConv j c y)

/-- SHDN_SENSOR (R243): every conversion of input j has read open or short for 10 s. -/
def execShdnSensor (j : Nat) (s : State) : Host.Outcome State Fault Refusal :=
  (let due := match (s.shdnIn j).failSince with | some t => t + 40000 ≤ s.now | none => false
   if j < 4 && s.awake && s.shdnArmed && s.shdnValid j && due then s.shdnAssert j true else s).done

/-- SHDN_RELEASE (R244): every valid watched input has read in range at or above REL for 60 s. -/
def execShdnRelease (s : State) : Host.Outcome State Fault Refusal :=
  (let ok := fun j => match (s.shdnIn j).okSince with | some t => decide (t + 240000 ≤ s.now) | none => false
   let watched := (List.range 4).filter s.shdnValid
   if s.awake && s.shdnOn && !watched.isEmpty && watched.all ok then
    let s := (s.setRb Reg.fanShdnStat 3 false).fire 17
    (s.fanEntry (0xF0 + s.fan.shdnBy) 9 0 0).happen 17 9
   else s).done

/-- LOCK is set (R242). -/
def State.shdnDoLock (s : State) : State :=
  if s.rb Reg.fanShdnCtrl 0 then s
  else
    let s := s.setRb Reg.fanShdnCtrl 0 true
    if s.shdnT != 0 && !(List.range 4).any s.shdnValid then s.fault 0x080A 0 else s

/-- SHDN_LOCK (R242). -/
def execShdnLock (who : Init) (s : State) : Host.Outcome State Fault Refusal :=
  (s.guardWrite who 10 Reg.fanShdnCtrl State.shdnDoLock).done

/-- A write of FAN_SHDN_SEL, until it is locked (R242). An entry that names another channel starts without a history. -/
def State.shdnSelWrite (s : State) (v : Word) : State :=
  if s.rb Reg.fanShdnCtrl 0 then s
  else
    let changed := fun j => fld v (8 * j) 8 != s.rf Reg.fanShdnSel (8 * j) 8
    let s := s.forEach ((List.range 4).filter changed) (fun s j => s.setShdnIn j {})
    s.setReg Reg.fanShdnSel v

/-! ### Registers (R249, R250) -/

/-- A write to a register of channel block f (R250). -/
def State.fanWrite (s : State) (f off : Nat) (v : Word) : State :=
  let locked := s.hostOwns 10 && s.fanRuns f
  let ignored := s.setRb Reg.fanStat 3 true
  match off with
  | 0x00 => if locked then ignored else s.setReg (Reg.fanfCfg f) v
  | 0x04 => if locked then ignored else s.setReg (Reg.fanfMeas f) (v &&& 0xFFFF00FF)
  | 0x08 => s.setReg (Reg.fanfIlo f) v
  | 0x0C => s.setReg (Reg.fanfIstall f) v
  | 0x10 => s.setReg (Reg.fanfDemen f) (v &&& 0xFF)
  | 0x14 => s.setReg (Reg.fanfDutycmd f) v
  | 0x18 => if locked then ignored else s.setReg (Reg.fanfAutoch f) (v &&& 0xFFFF)
  | _ => s

/-- FAN_CONFIG_WRITE (R250); the fans a variant lacks are absent (R249). -/
def execFanConfigWrite (who : Init) (f : Nat) (off : Nat) (v : Word) (s : State) : Host.Outcome State Fault Refusal :=
  (let f := f % 16
   let addr := Reg.fanfCfg f + 4 * (off / 4 % 16)
   if s.nFans ≤ f then s.hit 0 addr (who == .host)
   else s.guardWrite who 10 addr (fun s => s.fanWrite f (4 * (off / 4 % 16)) v)).done

/-- FAN_AUTOF as it reads. -/
def State.fanAutofWord (s : State) : Word :=
  (List.range s.nFans).foldl (fun w f => putBit w f ((s.fanAutoOn && s.fanRuns f) || (s.fan1 f).slew)) 0

/-- FAN_SHDN_STAT as it reads. -/
def State.shdnStatWord (s : State) : Word :=
  let w := putFld (s.reg Reg.fanShdnStat &&& 0x28) 0 3 s.shdnT
  let w := putBit w 4 s.shdnArmed
  (List.range 4).foldl (fun w j =>
    putBit (putBit w (8 + j) (s.shdnValid j && (s.shdnIn j).hot != 0)) (12 + j) (s.shdnValid j && (s.shdnIn j).fail)) w

/-- FAN_SHDN_THR as it reads (R241). -/
def State.shdnThrWord (s : State) : Word :=
  let (t, r) := shdnCodes s.shdnT
  BitVec.ofNat 32 (r * 65536 + t)

/-- FANf_STAT as it reads. -/
def State.fanStatWord (s : State) (f : Nat) : Word :=
  let a := s.fan1 f
  let slewing := a.slew || (s.fanAutoOn && s.fanRuns f && a.q != fanQ (s.fanDt f))
  let w := putFld 0 0 3 a.state
  let w := putBit (putBit w 3 slewing) 4 a.buddy
  let w := putBit w 5 (s.fanAutoOn && (s.fanCode f).isNone)
  putFld (putFld w 6 2 (min 3 a.retry)) 8 8 (s.fanDuty f)

/-! ### Flask -/

/-- What the active mirrors of channel n (R214). -/
def State.actMirrorOf (s : State) (n : Nat) : ActMirror :=
  let a := s.act1 n
  { ch := n, pos := if s.actMode n = 3 then a.step else (s.actPos n : Nat), drv := a.drv, run := a.run, ovr := a.ovr, gap := a.gap,
    atLo := a.atLo, atHi := a.atHi, unsync := a.unsync, level := a.level,
    sinceChange := match a.since with | some t => ((s.now : Int) - t).toNat | none => 0xFFFFFFFF,
    strokes := (s.reg (Reg.actnStrokes n)).toNat }

/-- What the active mirrors of fan f (R248). -/
def State.fanMirrorOf (s : State) (f : Nat) : FanMirror :=
  let a := s.fan1 f
  let run := ((s.now : Int) - a.since).toNat
  { fan := f, state := a.state, retry := a.retry, elapsed := run, timer := a.delay - run, silent := s.rf (Reg.fanfRpm f) 24 8,
    rpm := s.rf (Reg.fanfRpm f) 0 16, lastDuty := a.lastDuty, q := a.q, slew := a.slew }

/-- The active mirrors its ACT and FAN state, and with `seq` its network sequence counter (R214, R248, R330, R354). -/
def State.mirrorSend (s : State) (seq : Bool) : State :=
  s.sendToken (.mirror ((List.range s.nActs).map s.actMirrorOf) ((List.range s.nFans).map s.fanMirrorOf) s.fanAutoOn
    (if seq then some (s.rf Reg.netSeq 0 32) else none))

/-- The active mirrors its network sequence counter alone (R354). -/
def State.seqSend (s : State) : State := s.sendToken (.mirror [] [] s.fanAutoOn (some (s.rf Reg.netSeq 0 32)))

/-- What the active mirrors of one fan overwrites the standby's own values (R248). -/
def State.fanMirror (s : State) (m : FanMirror) : State :=
  if m.fan < s.nFans then
    let a := s.fan1 m.fan
    let s := s.setReg (Reg.fanfRpm m.fan)
      (putFld (putFld (s.reg (Reg.fanfRpm m.fan)) 0 16 m.rpm) 24 8 m.silent)
    s.setFan m.fan { a with state := m.state, retry := m.retry, since := (s.now : Int) - m.elapsed, delay := m.elapsed + m.timer,
                            lastDuty := m.lastDuty, q := m.q, slew := m.slew }
  else s

end Sys2Proof.Machine
end

