-- ==== Sys2Proof/Machine/Cen.lean ====
section
/-! DEFINITION. CEN: slots, sources, frames, admission and the arithmetic of one evaluation (03_control_frames, 04_control_arithmetic, R105-R152). -/

namespace Sys2Proof.Machine

/-! ### Numbers (R139-R143) -/

/-- term(c, s, v): the rounded product of a coefficient and a value (R140). -/
def cenTerm (c : Int) (sh : Nat) (v : Int) : Int :=
  if sh = 0 then c * v else Int.fdiv (c * v + 2 ^ (sh - 1)) (2 ^ sh)

/-- The bounds of an addition in the 64-bit accumulator (R141). -/
def accMax : Int := 2 ^ 63 - 1

/-- One saturating addition (R141): the sum, and the saturation flag with what this addition adds to it. -/
def cenAdd (a : Int × Bool) (t : Int) : Int × Bool :=
  let r := a.1 + t
  if r > accMax then (accMax, true) else if r < -accMax then (-accMax, true) else (r, a.2)

/-- sat32 that records saturation (R142). -/
def cenSat (v : Int) (sat : Bool) : Int × Bool := (sat32 v, sat || decide (v ≠ sat32 v))

/-- clamp(v, lo, hi) of R143: the upper limit where lo is above hi. -/
def cenClamp (v lo hi : Int) : Int := if lo > hi then hi else if v > hi then hi else if v < lo then lo else v

/-! ### Slots (R105, R106, R110, R113, R131) -/

def slotCoef (n : Nat) : Nat := 0x40000000 + 128 * n
def slotState (n : Nat) : Nat := 0x40020000 + 64 * n

/-- A coefficient word of slot n. -/
def State.coef (s : State) (n off : Nat) : Word := s.word (slotCoef n + off)

/-- A state word of slot n. -/
def State.slotWord (s : State) (n off : Nat) : Word := s.word (slotState n + off)

def State.slotClass (s : State) (n : Nat) : Nat := fld (s.coef n 0) 0 2
def State.slotType (s : State) (n : Nat) : Nat := fld (s.coef n 0) 2 2
def State.slotFunc (s : State) (n : Nat) : Nat := fld (s.coef n 0) 16 12

/-- Is a slot enabled: TYPE not 0 (R105)? -/
def State.slotOn (s : State) (n : Nat) : Bool := n < s.nSlots && s.slotType n != 0

/-- Does function f own slot n in CEN: the slot names it, and is not apart from every function (R106, R265)? -/
def State.slotOwned (s : State) (f n : Nat) : Bool := s.slotOn n && s.slotFunc n == f && !s.cen.apart.contains n

/-- Is a function live: in RUN, or in STOPPING until its stop commits (R118, R266)? -/
def State.fnLive (s : State) (f : Nat) : Bool := (s.fn f).state == 2 || (s.fn f).state == 3

/-- Is a slot in the running set (R106, R118, R132, R265)? -/
def State.slotRuns (s : State) (n : Nat) : Bool :=
  s.slotOn n && (s.hostOwns 7 || (s.fnLive (s.slotFunc n) && !s.cen.apart.contains n))

/-- The running slots of class k, in ascending order. -/
def State.runningSlots (s : State) (k : Nat) : List Nat :=
  (List.range s.nSlots).filter (fun n => s.slotRuns n && s.slotClass n == k)

/-- N_k (CEN_PERIODk). -/
def State.period (s : State) (k : Nat) : Nat := s.rf (Reg.cenPeriod k) 0 21

/-- Does a frame of class k start at this tick (R38)? -/
def State.atBoundary (s : State) (k : Nat) : Bool :=
  s.tb.running && s.period k != 0 && s.tb.count % s.period k == 0

/-- A disabled slot keeps U at 0 (R105). -/
def State.slotOff (s : State) (n : Nat) : State := if s.slotOn n then s else s.setWord (slotState n) 0

def State.frame (s : State) (k : Nat) : FrameSt := s.cen.frames.getD k {}

def State.setFrame (s : State) (k : Nat) (f : FrameSt) : State :=
  { s with cen := { s.cen with frames := s.cen.frames.set k f } }

/-- The bits of SSTAT (R131). -/
def State.setSstat (s : State) (n i : Nat) (b : Bool) : State :=
  s.setWord (slotState n + 0x30) (putBit (s.slotWord n 0x30) i b)

/-- SSTAT of slot n as it reads: RUN shows the running set (R106, R131). -/
def State.sstat (s : State) (n : Nat) : Word := putBit (s.slotWord n 0x30) 6 (s.slotRuns n)

/-- A byte of CEN's RAMs as it reads: that of SSTAT with RUN shows the running set (R131). -/
def State.cenByte (s : State) (a : Nat) : Byte :=
  if 0x40020000 ≤ a && a < 0x40030000 && a % 64 == 0x30 then BitVec.ofNat 8 (s.sstat ((a - 0x40020000) / 64)).toNat else s.byte a

def State.slotPend (s : State) (n : Nat) : Bool := bitOf (s.slotWord n 0x30) 5

/-- A CEN fault is logged, and event 7 fires (R138). -/
def State.cenFault (s : State) (code param : Nat) : State := (s.fault code param).fire 7

/-- CEN_NSLOTk as it reads. -/
def State.cenNslotWord (s : State) (k : Nat) : Word := BitVec.ofNat 32 (s.runningSlots k).length

/-- CEN_STAT as it reads: BUSY and OVR follow the frames, the W1C bits are stored. -/
def State.cenStatWord (s : State) : Word :=
  [0, 1, 2, 3].foldl (fun w k => putBit (putBit w k (s.frame k).busy) (4 + k) (s.frame k).ovr) (s.reg Reg.cenStat &&& 0xF00)

/-! ### Sources (R110-R112, R132) -/

/-- The cells that steps 2 and 3 fix: PVs, committed outputs, setpoint registers and virtual PVs (R39, R111). -/
def isSnapped (a : Nat) : Bool :=
  (0x70000400 ≤ a && a < 0x70000560) || (0x40020000 ≤ a && a < 0x40030000 && a % 64 < 4) ||
  (0x40030000 ≤ a && a < 0x40031400)

/-- A word as a class's snapshot holds it. -/
def FrameSt.word (f : FrameSt) (a : Nat) : Int :=
  (BitVec.ofNat 32 (ofLe ((List.range 4).map (fun i => Tab.get memDefault f.snap (a + i)))) : Word).toInt

/-- The value of a source word for slot n, and whether the source is not allowed (R111, R112, R132). -/
def State.source (s : State) (f : FrameSt) (n : Nat) (w : Word) (isSp : Bool) : Int × Bool :=
  let i := fld w 8 10
  match fld w 0 3 with
  | 0 => (0, false)
  | 1 => if s.acqHas i then (f.word (acqPv i), false) else (0, true)
  | 2 =>
    if s.nSlots ≤ i then (0, true)
    else if !s.slotOn i then (0, false)
    else if s.slotClass i = s.slotClass n && i < n && f.evald.contains i then ((s.slotWord i 4).toInt, false)
    else (f.word (slotState i), false)
  | 3 => if s.nSlots ≤ i then (0, true) else if !s.slotOn i then (0, false) else (f.word (slotState i), false)
  | 4 => if s.nSlots ≤ i then (0, true) else (f.word (spAddr i), false)
  | 5 => if isSp then (0, true) else (0x10000, false)
  | 6 => if i < 256 then (f.word (vpvAddr i), false) else (0, true)
  | _ => (0, true)

/-- Where a DEST word leads (R113). -/
inductive Dest where
  | none
  | act (n : Nat)
  | fanDemand (q : Nat)
  | fanDuty (f : Nat)
deriving DecidableEq, Repr

/-- The destination of a DEST word (R113), and whether it is not allowed (R132). -/
def State.destination (s : State) (w : Word) : Dest × Bool :=
  let i := fld w 8 7
  match fld w 0 3 with
  | 0 => (.none, false)
  | 1 => if i < s.nActs then (.act i, false) else (.none, true)
  | 2 => if i / 8 < s.nFans then (.fanDemand i, false) else (.none, true)
  | 3 => if i < s.nFans then (.fanDuty i, false) else (.none, true)
  | _ => (.none, true)

/-- The first commit after chill reaches a fan (R135). -/
def State.fanLeaveChill (s : State) (f : Nat) : State :=
  if (s.fan1 f).chill then s.setFan f { s.fan1 f with chill := false } else s

/-- A committed output u of a slot of function f reaches its destination (R109, R200): the register takes it unless the host owns
that unit while the runtime owns CEN (R43), and the runtime lets the channel follow it once the channel's function and the
slot's are both in RUN, which is never while the host owns CEN (R106). -/
def State.deliver (s : State) (d : Dest) (f : Nat) (u : Word) : State :=
  let reaches := fun unit => s.hostOwns 7 || !s.hostOwns unit
  let follows := fun unit g => !s.hostOwns 7 && !s.hostOwns unit && s.fnRuns g && s.fnRuns f
  match d with
  | .none => s
  | .act n =>
    if !reaches 9 then s
    else
      let s := s.actCommand n u
      if follows 9 (0x180 + n) then s.setRb Reg.actRun n true else s
  | .fanDemand q =>
    if !reaches 10 then s
    else
      let s := (s.setReg (Reg.fanDem q) u).fanLeaveChill (q / 8)
      if follows 10 (0x1A0 + q / 8) then s.setRb Reg.fanRun (q / 8) true else s
  | .fanDuty n =>
    if !reaches 10 then s
    else
      let s := (s.setReg (Reg.fanfDutycmd n) u).fanLeaveChill n
      if follows 10 (0x1A0 + n) then s.setRb Reg.fanRun n true else s

/-! ### One evaluation (R144-R150) -/

/-- The names of R144's pseudocode that the state words, the trace and the events are made from. -/
structure EvalResult where
  x : Int
  e : Int
  sp : Int
  bsum : Int
  asum : Int
  y : Int
  f : Int
  i : Int
  v : Int
  u : Int
  frz : Bool
  ohi : Bool
  olo : Bool
  isat : Bool
  sat : Bool
deriving DecidableEq, Repr

/-- What an evaluation reads: the 32 coefficient words, the tap values and setpoint, and the state before it. -/
structure EvalInput where
  coef : List Word
  taps : List Int
  sp : Int
  i : Int
  es : List Int
  ys : List Int
deriving DecidableEq, Repr

/-- A coefficient word by its offset. -/
def EvalInput.c (a : EvalInput) (off : Nat) : Int := (a.coef.getD (off / 4) 0).toInt

/-- A shift field: SB0-SB3 of SHIFT0 (word 20), SA1-SA3 and SKI of SHIFT1 (word 21). -/
def EvalInput.shift (a : EvalInput) (wd k : Nat) : Nat := fld (a.coef.getD wd 0) (8 * k) 5

/-- SLOT_CFG. -/
def EvalInput.cfg (a : EvalInput) : Word := a.coef.getD 0 0

/-- The term of tap i (R140). -/
def EvalInput.tap (a : EvalInput) (i : Nat) : Int :=
  cenTerm (a.c (0x14 + 8 * i)) (fld (a.coef.getD (4 + 2 * i) 0) 24 5) (a.taps.getD i 0)

/-- One evaluation, exactly as R144 computes it. -/
def EvalInput.run (a : EvalInput) : EvalResult :=
  let cfg := a.cfg
  let ff := bitOf cfg 6
  let tapSum := [0, 1, 2, 3].foldl (fun acc i =>
    if bitOf cfg (8 + i) && !(i == 3 && ff) then cenAdd acc (a.tap i) else acc) ((0 : Int), false)
  let (x, sat) := cenSat tapSum.1 tapSum.2
  let (e, sat) := cenSat (if bitOf cfg 4 then x - a.sp else a.sp - x) sat
  let k := if fld cfg 2 2 = 1 then 0 else fld cfg 2 2
  let h0 := (cenTerm (a.c 0x30) (a.shift 20 0) e, sat)
  let hb := (List.range k).foldl (fun acc j => cenAdd acc (cenTerm (a.c (0x34 + 4 * j)) (a.shift 20 (j + 1)) (a.es.getD j 0))) h0
  let h := (List.range k).foldl (fun acc j => cenAdd acc (-cenTerm (a.c (0x40 + 4 * j)) (a.shift 21 j) (a.ys.getD j 0))) hb
  let asum := (List.range k).foldl (fun acc j => cenAdd acc (cenTerm (a.c (0x40 + 4 * j)) (a.shift 21 j) (a.ys.getD j 0))) ((0 : Int), false)
  let (y, sat) := cenSat h.1 h.2
  let f := if ff && bitOf cfg 11 then a.tap 3 else 0
  let imin := a.c 0x58
  let imax := a.c 0x5C
  let omin := a.c 0x60
  let omax := a.c 0x64
  let int := bitOf cfg 5
  let d := cenTerm (a.c 0x4C) (a.shift 21 3) e
  let w0 := sat32 (cenAdd (cenAdd (y, false) a.i) f).1
  let frz := int && (decide (d > 0 ∧ w0 ≥ omax) || decide (d < 0 ∧ w0 ≤ omin))
  let (iraw, sat) := if int && !frz then cenSat (a.i + d) sat else (a.i, sat)
  let inew := if int then cenClamp iraw imin imax else 0
  let vsum := cenAdd (cenAdd (y, sat) inew) f
  let (v, sat) := cenSat vsum.1 vsum.2
  let u := cenClamp v omin omax
  { x := x, e := e, sp := a.sp, bsum := sat32 hb.1, asum := sat32 asum.1, y := y, f := sat32 f, i := inew, v := v, u := u, frz := frz,
    ohi := decide (v > omax) || decide (omin > omax), olo := decide (v < omin) && decide (omin ≤ omax),
    isat := int && (decide (inew = imin) || decide (inew = imax)), sat := sat }

/-- Is an evaluation of slot n in frame f its first after a start (R117, R119)? Not in a frame that it left (R126). -/
def State.slotFirst (s : State) (f : FrameSt) (n : Nat) : Bool := s.cen.first.contains n && !f.gone.contains n

/-- What slot n's evaluation in frame f reads (R108, R119), and whether one of its sources is not allowed. -/
def State.evalInput (s : State) (f : FrameSt) (n : Nat) : EvalInput × Bool :=
  let cfg := s.coef n 0
  let fresh := s.slotFirst f n && !bitOf cfg 7
  let sp := s.source f n (s.coef n 4) true
  let taps := (List.range 4).map (fun i =>
    if bitOf cfg (8 + i) then s.source f n (s.coef n (0x10 + 8 * i)) false else ((0 : Int), false))
  let old := fun off => if fresh then (0 : Int) else (s.slotWord n off).toInt
  ({ coef := (List.range 32).map (fun j => s.coef n (4 * j)), taps := taps.map Prod.fst, sp := sp.1, i := old 8,
     es := [old 0xC, old 0x10, old 0x14], ys := [old 0x18, old 0x1C, old 0x20] },
   sp.2 || taps.any Prod.snd)

/-- A word of a slot's state RAM written as a signed number. -/
def State.slotPut (s : State) (n off : Nat) (v : Int) : State := s.setSword (slotState n + off) v

/-- The state words of an evaluated slot change in one action (R145, R148, R150). -/
def State.writeSlot (s : State) (n : Nat) (a : EvalInput) (r : EvalResult) (bad : Bool) : State :=
  let s := s.slotPut n 4 r.u
  let s := s.slotPut n 8 r.i
  let s := s.slotPut n 0xC r.e
  let s := s.slotPut n 0x10 (a.es.getD 0 0)
  let s := s.slotPut n 0x14 (a.es.getD 1 0)
  let s := s.slotPut n 0x18 r.y
  let s := s.slotPut n 0x1C (a.ys.getD 0 0)
  let s := s.slotPut n 0x20 (a.ys.getD 1 0)
  let s := s.slotPut n 0x24 r.x
  let s := s.slotPut n 0x28 r.e
  let s := s.slotPut n 0x2C r.sp
  let bits := (if r.ohi then 1 else 0) + (if r.olo then 2 else 0) + (if r.frz then 4 else 0) + (if r.isat then 8 else 0) +
    (if r.sat then 16 else 0) + 32 + (if bad then 128 else 0)
  s.setWord (slotState n + 0x30) (BitVec.ofNat 32 bits)

/-- The slot names what is not allowed (R133). -/
def State.badRef (s : State) (n : Nat) (bad : Bool) : State :=
  if !bad then s
  else
    let s := s.setRb Reg.cenStat 10 true
    if s.cen.badLogged.contains n then s
    else
      let s := s.cenFault 0x0402 n
      { s with cen := { s.cen with badLogged := s.cen.badLogged ++ [n] } }

/-! ### Frames (R39-R46, R107, R109, R115, R116, R124-R126) -/

/-- The commit of one slot (R109): U takes U_PEND, and the destination register takes U, under the DEST word `dest` that its
evaluation read (R108, R130). A slot that has left the running set loses its U_PEND (R118). -/
def State.commitSlot (s : State) (n : Nat) (dest : Word) : State :=
  if !s.slotPend n then s
  else
    let s := s.setSstat n 5 false
    if !s.slotRuns n then s
    else
      let u := s.slotWord n 4
      let s := s.setWord (slotState n) u
      s.deliver (s.destination dest).1 (s.slotFunc n) u

/-- Step 1 for the classes of a list: the outputs of their completed frames commit together (R39, R46, R109), in ascending slot
index, so that of two slots with one destination the higher index's value stays (R132). -/
def State.commitClasses (s : State) (ks : List Nat) : State :=
  let fs := (ks.map s.frame).filter (fun f => f.ready)
  let dests := fs.flatMap (fun f => f.dests)
  let slots := (List.range s.nSlots).filter (fun n => fs.any (fun f => f.evald.contains n))
  let s := s.forEach slots (fun s n => s.commitSlot n (recGet 0 dests n))
  s.forEach ks (fun s k => s.setFrame k { s.frame k with ready := false })

/-- Steps 2 and 3 for class k, and the start of its evaluation (R39, R107). -/
def State.openFrame (s : State) (k : Nat) : State :=
  s.setFrame k { busy := true, todo := s.runningSlots k, tick := s.tb.count, snap := Tab.keep s.mem isSnapped }

/-- Class k's evaluation completes (R116, R124): FRAMEk fires, CEN_FCNTk counts, and its time is noted; the spec leaves the time
itself to the clock (log entry 16). U_PEND of slots that have left the running set since its step 2 is
discarded (R126). -/
def State.frameDone (s : State) (k : Nat) : State :=
  let f := s.frame k
  let s := s.forEach (f.evald.filter f.gone.contains) (fun s n => s.setSstat n 5 false)
  let s := s.setFrame k { f with busy := false, ready := true, ovr := false, gone := [],
                                 evald := f.evald.filter (fun n => !f.gone.contains n) }
  let res := s.drawNat 0x1000000
  let t := res.1
  let s := res.2
  let s := s.setRf (Reg.cenFtime k) 0 24 t
  let s := s.setRf (Reg.cenFmax k) 0 24 (max t (s.rf (Reg.cenFmax k) 0 24))
  let s := if k = 2 && s.isActive then { s with zon := { s.zon with due := true } } else s
  (s.incWrap (Reg.cenFcnt k)).fire k

/-- Frames that have nothing left to evaluate complete, lower classes first, as far as no lower class still evaluates
(R115, R116). -/
def State.frameAdvance (s : State) : State :=
  [0, 1, 2, 3].foldl (fun s k =>
    if (s.frame k).busy && (s.frame k).todo.isEmpty && !((List.range k).any (fun j => (s.frame j).busy)) then s.frameDone k else s) s

/-- A class-k boundary reached while its frame is unfinished (R45, R124). -/
def State.overrun (s : State) (k : Nat) : State :=
  let first := !(s.frame k).ovr
  let s := ((s.setFrame k { s.frame k with ovr := true }).incSat (Reg.cenOvr k) 1).fire 4
  if first then s.cenFault 0x0401 k else s

/-- The boundary of the classes of a list (R39, R40, R45): commits first, then snapshots and latches, as one action. -/
def State.boundary (s : State) (ks : List Nat) : State :=
  let late := ks.filter (fun k => (s.frame k).busy)
  let ok := ks.filter (fun k => !(s.frame k).busy)
  let s := s.forEach late State.overrun
  let s := s.commitClasses ok
  (s.forEach ok State.openFrame).frameAdvance

/-- The slot that is evaluated next: the lowest-numbered class that evaluates, its lowest slot (R42, R107, R115). -/
def State.nextSlot (s : State) : Option (Nat × Nat) :=
  [0, 1, 2, 3].findSome? (fun k =>
    match (s.frame k).busy, (s.frame k).todo with
    | true, n :: _ => some (k, n)
    | _, _ => none)

/-! ### Admission (R122, R123) -/

/-- The fixed point of R122 for class k: w as far as it settles or passes the period. -/
def admitLoop (t0 tk : Nat) (nk : Nat) (lower : List (Nat × Nat)) : Nat → Nat → Nat
  | 0, w => w
  | fuel + 1, w =>
    let ceil := fun (a b : Nat) => (a + b - 1) / b
    let next := 2000 * ceil w t0 + 500 * (nk + (lower.map (fun p => ceil w p.2 * p.1)).sum)
    if next = w || next > tk then next else admitLoop t0 tk nk lower fuel next

/-- A load as a fraction in units of 0.01 %, rounded up and saturated (R123). -/
def loadUnits (num den : Nat) : Nat := min 0xFFFF ((num * 10000 + den - 1) / den)

/-- The admission check over slot counts n and periods N (R122, R123): LOAD, WORST, and load[0..3] in units. The periods are
not 0. -/
def admission (n : List Nat) (ns : List Nat) : Nat × Nat × List Nat :=
  let t := ns.map (fun x => x * 250000)
  let t0 := t.getD 0 1
  let load := (List.range 4).map (fun k =>
    let nk := n.getD k 0
    let tk := t.getD k 1
    let lower := (List.range k).map (fun j => (n.getD j 0, t.getD j 1))
    if nk = 0 then 0 else admitLoop t0 tk nk lower (tk + 1) (2000 + 500 * (nk + (lower.map Prod.fst).sum)))
  let d := t.foldl (fun a b => a * b) 1
  let util := 2000 * d / t0 + ((List.range 4).map (fun k => n.getD k 0 * 500 * (d / t.getD k 1))).sum
  let frac := (List.range 4).map (fun k => (load.getD k 0, t.getD k 1))
  let best := frac.foldl (fun (a : Nat × Nat) b => if b.1 * a.2 > a.1 * b.2 then b else a) (util, d)
  let worst := if util * best.2 = best.1 * d then 4
    else ((List.range 4).find? (fun k => (frac.getD k (0, 1)).1 * best.2 == best.1 * (frac.getD k (0, 1)).2)).getD 4
  (loadUnits best.1 best.2, worst, frac.map (fun p => loadUnits p.1 p.2))

/-- R37: N_0 at least 4, every N_k a multiple of N_0 and at most 2^20. -/
def periodsOk (ns : List Nat) : Bool :=
  4 ≤ ns.getD 0 0 && ns.all (fun n => n % ns.getD 0 1 == 0 && n ≤ 1048576 && n != 0)

/-- The admission check over a set of slots, each with its class, and the periods N_k, reported in CEN_ADMIT and CEN_LOADk (R122,
R123). With a period of 0 the spec states no load: each reported value is free (log entry 17). -/
def State.admitWith (s : State) (ns classes : List Nat) : State :=
  if ns.any (fun n => n == 0) then
    let res := s.drawNat 0x10000
    let l := res.1
    let s := res.2
    let res := s.drawNat 5
    let w := res.1
    let s := res.2
    let s := s.forEach [0, 1, 2, 3] (fun s k => let res := s.drawNat 0x10000; let v := res.1; let s := res.2; s.setReg (Reg.cenLoad k) (BitVec.ofNat 32 v))
    s.setReg Reg.cenAdmit (putBit (BitVec.ofNat 32 (w * 65536 + l)) 31 (l ≤ 8500))
  else
    let (l, w, ls) := admission ((List.range 4).map (fun k => classes.count k)) ns
    let s := s.forEach [0, 1, 2, 3] (fun s k => s.setReg (Reg.cenLoad k) (BitVec.ofNat 32 (ls.getD k 0)))
    s.setReg Reg.cenAdmit (putBit (BitVec.ofNat 32 (w * 65536 + l)) 31 (l ≤ 8500))

/-- The admission check at the periods of CEN_PERIODk. -/
def State.admitAll (s : State) (classes : List Nat) : State := s.admitWith ((List.range 4).map s.period) classes

/-- The classes of the enabled slots. -/
def State.enabledClasses (s : State) : List Nat := ((List.range s.nSlots).filter s.slotOn).map s.slotClass

/-! ### CEN registers (R120, R126, R128, R129) -/

/-- The frame plan starts: every enabled slot that runs is to start afresh (R119, R129, R133). -/
def State.cenStart (s : State) : State :=
  let s := s.setRb Reg.cenCtrl 0 true
  { s with cen := { s.cen with badLogged := [], first := (List.range s.nSlots).filter s.slotRuns,
                               frames := [{}, {}, {}, {}] } }

/-- The frame plan stops: no slot is evaluated and nothing commits any more (R126). -/
def State.cenHalt (s : State) : State :=
  let s := s.setRb Reg.cenCtrl 0 false
  let s := s.forEach ((List.range s.nSlots).filter s.slotPend) (fun s n => s.setSstat n 5 false)
  { s with cen := { s.cen with frames := [{}, {}, {}, {}] } }

/-- A write of CEN_CTRL.RUN = 1 while RUN is 0 (R129). -/
def State.cenRunWrite (s : State) : State :=
  if !periodsOk ((List.range 4).map s.period) then s.setRb Reg.cenStat 9 true
  else
    let s := s.admitAll s.enabledClasses
    if s.rb Reg.cenAdmit 31 then s.cenStart else s.setRb Reg.cenStat 8 true

/-- A write of CEN_CTRL (R122, R126, R129). -/
def State.cenCtrlWrite (s : State) (v : Word) : State :=
  let s := if bitOf v 1 then s.admitAll s.enabledClasses else s
  match bitOf v 0, s.rb Reg.cenCtrl 0 with
  | true, false => s.cenRunWrite
  | false, true => s.cenHalt
  | _, _ => s

/-- CEN_RUN (R129). -/
def execCenRun (who : Init) (s : State) : Host.Outcome State Fault Refusal :=
  (s.guardWrite who 7 Reg.cenCtrl (fun s => s.cenCtrlWrite 1)).done

/-- CEN_STOP (R126). -/
def execCenStop (who : Init) (s : State) : Host.Outcome State Fault Refusal :=
  (s.guardWrite who 7 Reg.cenCtrl (fun s => s.cenCtrlWrite 0)).done

/-- CEN_ADMIT (R122, R123): the write of ADMIT leaves RUN as it is. -/
def execCenAdmit (who : Init) (s : State) : Host.Outcome State Fault Refusal :=
  (s.guardWrite who 7 Reg.cenCtrl (fun s => s.cenCtrlWrite (putBit 2 0 (s.rb Reg.cenCtrl 0)))).done

/-- A write of CEN_PERIODk: ignored while RUN is 1 (R128). -/
def State.cenPeriodWr (s : State) (k : Nat) (v : Word) : State :=
  if s.rb Reg.cenCtrl 0 then s.setRb Reg.cenStat 11 true else s.setReg (Reg.cenPeriod k) (v &&& 0x1FFFFF)

/-- CEN_PERIOD_WRITE (R128). -/
def execCenPeriodWrite (who : Init) (k : Nat) (v : Word) (s : State) : Host.Outcome State Fault Refusal :=
  (s.guardWrite who 7 (Reg.cenPeriod (k % 4)) (fun s => s.cenPeriodWr (k % 4) v)).done

/-- CEN_OVR_READ (R124). -/
def execCenOvrRead (who : Init) (k : Nat) (s : State) : Host.Outcome State Fault Refusal :=
  (s.readClear who 7 (Reg.cenOvr (k % 4)) 0xFFFFFFFF).done

/-! ### Stops, starts, chill -/

/-- The enabled slots that a function owns; FUNC is not read while the host owns CEN (R106). -/
def State.ownedSlots (s : State) (f : Nat) : List Nat :=
  if s.hostOwns 7 then [] else (List.range s.nSlots).filter (s.slotOwned f)

/-- Is class k in overrun at a boundary of this tick: its frame is unfinished at a boundary of its own (R45, R126)? -/
def State.overruns (s : State) (k : Nat) : Bool := (s.frame k).busy && ((s.frame k).ovr || s.atBoundary k)

/-- A slot leaves the running set (R118): U_PEND is discarded, at the end of an overrunning frame that it is in (R126); U stays. -/
def State.slotLeave (s : State) (n : Nat) : State :=
  let inFrame := fun (f : FrameSt) => f.busy && (f.evald.contains n || f.todo.contains n)
  let held := [0, 1, 2, 3].any (fun k => s.overruns k && (s.frame k).evald.contains n)
  let s := { s with cen := { s.cen with frames := s.cen.frames.map (fun f =>
    if inFrame f && !f.gone.contains n then { f with gone := f.gone ++ [n] } else f) } }
  if held then s else s.setSstat n 5 false

/-- The slots of a function leave the running set (R118). Called once the function has stopped. -/
def State.cenLeave (s : State) (f : Nat) : State := s.forEach (s.ownedSlots f) State.slotLeave

/-- The slots of a function join (R117, R119): their next evaluation is their first. -/
def State.cenJoin (s : State) (f : Nat) : State :=
  let l := s.ownedSlots f
  { s with cen := { s.cen with first := s.cen.first.filter (fun n => !l.contains n) ++ l } }

/-- Entry to chill: every U_PEND that is not committed is discarded and no frame goes on (R135). -/
def State.cenChill (s : State) : State :=
  let s := s.forEach ((List.range s.nSlots).filter s.slotPend) (fun s n => s.setSstat n 5 false)
  { s with cen := { s.cen with frames := [{}, {}, {}, {}] } }

/-- The coefficient RAM, the state RAM, the setpoint registers and the virtual PVs are 0 (R50, R134). -/
def State.cenClear (s : State) : State := s.clearMem 0x40000000 0x40040000

end Sys2Proof.Machine
end

