-- ==== Sys2Proof/Machine/Magnus.lean ====
section
/-! DEFINITION. The Magnus formula of the dew point and of the guard cap (05_zones_presence, R179, R180), in scaled integers. -/

namespace Sys2Proof.Machine

/-- The scale of the fixed-point numbers below: a real v is held as v * magS. -/
def magS : Int := 2 ^ 48

/-- A scaled product and quotient. -/
def magMul (a b : Int) : Int := Int.fdiv (a * b) magS
def magDiv (a b : Int) : Int := Int.fdiv (a * magS) b

/-- ln 2, scaled. -/
def magLn2 : Int := 195103586505167

/-- 2 * (z + z^3/3 + z^5/5 + ...), scaled: the logarithm of (1 + z) / (1 - z). -/
def magAtanh2 (z : Int) : Int :=
  2 * ((List.range 24).foldl (fun (acc : Int × Int) k => (acc.1 + Int.fdiv acc.2 (2 * k + 1), magMul acc.2 (magMul z z))) ((0 : Int), z)).1

/-- ln of a scaled number in 0.01 to 1, doubled into 0.5 to 1 first. -/
def magLn (x : Int) : Int :=
  let k := ((List.range 8).find? (fun j => decide (magS ≤ 2 * x * 2 ^ j))).getD 7
  let y := x * 2 ^ k
  magAtanh2 (magDiv (y - magS) (y + magS)) - k * magLn2

/-- exp of a scaled number: a power of two times a series on 0 to ln 2. -/
def magExp (x : Int) : Int :=
  let k := Int.fdiv x magLn2
  let r := x - k * magLn2
  let e := ((List.range 24).foldl (fun (acc : Int × Int) j => (acc.1 + acc.2, Int.fdiv (magMul acc.2 r) (j + 1))) ((0 : Int), magS)).1
  if k < 0 then Int.fdiv e (2 ^ (min 200 (-k).toNat)) else e * 2 ^ (min 200 k.toNat)

/-- a = 17.62 and b = 243.12 °C, scaled (R179). -/
def magA : Int := Int.fdiv (1762 * magS) 100
def magB : Int := Int.fdiv (24312 * magS) 100

/-- A Q16.16 value, scaled. -/
def magOf (q : Int) : Int := q * 2 ^ 32

/-- a * T / (b + T), scaled. -/
def magRatio (t : Int) : Int := magDiv (magMul magA t) (magB + t)

/-- The dew point of R179 in Q16.16, by the formula, of T and H in Q16.16 with H in 1 to 100 %RH. -/
def dewFormula (t h : Int) : Int :=
  let g := magLn (Int.fdiv (magOf (clampInt 65536 6553600 h)) 100) + magRatio (magOf t)
  Int.fdiv (magDiv (magMul magB g) (magA - g) + 2 ^ 31) (2 ^ 32)

/-- The dew point: within 0.02 °C of the formula for T from -20 to +60 °C (R179), an error the spec leaves open within that
bound; outside that range the spec bounds nothing and the value is free (log entry 10). -/
def dewPoint (t h : Int) : Int :=
  if -1310720 ≤ t ∧ t ≤ 3932160 then dewFormula t h + clampInt (-1309) 1309 (Config.dewPointError t h)
  else sat32 (Config.dewPointError t h)

/-- The guard cap of R180 in Q16.16 %RH by the formula, saturated, of T and Ts in Q16.16. The spec states no rounding: the last
unit is free (log entry 10). -/
def guardCap (t ts : Int) : Int :=
  let e := magExp (magRatio (magOf ts) - magRatio (magOf t))
  sat32 (Int.fdiv (100 * e) (2 ^ 32) + clampInt 0 1 (Config.dewPointError ts t))

end Sys2Proof.Machine
end

