-- ==== Sys2Proof/Machine/Zone.lean ====
section
/-! DEFINITION. ZON: presence, schedules and the zone step (05_zones_presence, R170-R196, R625). -/

namespace Sys2Proof.Machine

def State.zone (s : State) (z : Nat) : ZoneSt := recGet {} s.zon.zones z

def State.setZone (s : State) (z : Nat) (v : ZoneSt) : State :=
  { s with zon := { s.zon with zones := recPut {} s.zon.zones z v } }

/-- A committed member of zone z. -/
def State.zm (s : State) (z m : Nat) : Int := s.odNum 0x10 z m

/-- The zone runs: its function is in RUN. -/
def State.zoneRuns (s : State) (z : Nat) : Bool := s.fnRuns (0x100 + z)

def State.zoneMode (s : State) (z : Nat) : Nat := s.rf (Reg.zonState z) 0 2
def State.zonePres (s : State) (z : Nat) : Nat := s.rf (Reg.zonState z) 2 2

/-- A ring 22 entry (R194). -/
def State.zoneEntry (s : State) (z kind new old : Nat) : State := s.ringOffer 22 (entry8 z kind new old s.stamp)

/-! ### Presence inputs (R182, R183, R196) -/

/-- ZON_PINp_CFG from the committed members 1A.p.00-02, at shakeout and at each zone step (R196). The CO2 values of an input whose
kind or source changes are dropped: they were another source's (R182). -/
def State.zonLoadPins (s : State) : State :=
  s.forEach (List.range 128) (fun s p =>
    let src := s.odNat 0x1A p 1
    let old := s.reg (Reg.zonPinCfg p)
    let new : Word := BitVec.ofNat 32 (s.odNat 0x1A p 0 % 8 + src % 256 * 8 + src / 256 % 2 * 2048 + s.odNat 0x1A p 2 % 16 * 4096)
    let s := s.setReg (Reg.zonPinCfg p) new
    if fld old 0 12 = fld new 0 12 then s else { s with zon := { s.zon with co2 := recPut [] s.zon.co2 p [] } })

/-- A hit of presence input p (R182). -/
def State.pinHit (s : State) (p : Nat) : State :=
  let n := s.rf (Reg.zonPinCnt p) 0 16
  let s := if n = 0xFFFF then s.setRb Reg.zonStat 0 true else s.setRf (Reg.zonPinCnt p) 0 16 (n + 1)
  let s := s.setReg (Reg.zonPinLast p) (BitVec.ofNat 32 s.stamp)
  if s.zon.hits.contains p then s else { s with zon := { s.zon with hits := s.zon.hits ++ [p] } }

/-- A hit of every input of a kind whose source matches (KIND 3 ignores the source). -/
def State.pinHits (s : State) (kind src : Nat) : State :=
  s.forEach ((List.range 128).filter (fun p =>
    s.rf (Reg.zonPinCfg p) 0 3 == kind && (kind == 3 || s.rf (Reg.zonPinCfg p) 3 8 == src))) State.pinHit

/-- The hits that a fresh PV of decimator d gives (R182): PIR while ABOVE, a door contact at a change between NORMAL and ALARM.
`old` is the comparator state before the pass end, none where it had none. -/
def State.pinPv (s : State) (d : Nat) (old : Option Nat) : State :=
  let mode := (s.dec d).cmp
  let new := s.cmpState d
  let s := if mode = 1 && new = 2 then s.pinHits 1 d else s
  match old with
  | some o => if mode = 2 && ((o = 1 && new = 2) || (o = 2 && new = 1)) then s.pinHits 2 d else s
  | none => s

/-- The live value of the source of a CO2 input: a virtual PV or a decimator. -/
def State.co2Value (s : State) (p : Nat) : Int :=
  let src := s.rf (Reg.zonPinCfg p) 3 8
  if s.rb (Reg.zonPinCfg p) 11 then s.sword (vpvAddr src) else s.sword (acqPv src)

/-- The CO2 rise of every KIND 5 input at a zone step (R182): the value against its lowest over the last 300 s, taken over the values
seen at the zone steps (DESIGN CHOICE, log entry 114). -/
def State.co2Hits (s : State) : State :=
  s.forEach ((List.range 128).filter (fun p => s.rf (Reg.zonPinCfg p) 0 3 == 5)) (fun s p =>
    let v := s.co2Value p
    let old := (recGet [] s.zon.co2 p).filter (fun x => decide (s.now ≤ x.1 + 1200000))
    let all := old ++ [(s.now, v)]
    let low := all.foldl (fun m x => min m x.2) v
    let s := { s with zon := { s.zon with co2 := recPut [] s.zon.co2 p all } }
    if v - low ≥ s.odNum 0x1A p 3 then s.pinHit p else s)

/-! ### Schedules (R185-R188) -/

/-- A schedule entry as (day, hour and minute, mode) for each day it applies on; day 0 is Monday. -/
def schedOn (w : Nat) (day : Nat) : Option (Nat × Nat) :=
  if w / 128 % 2 = 1 && w.testBit day then some (w / 256 % 32 * 60 + w / 65536 % 64, w / 2 ^ 24 % 4) else none

/-- The last applicable entry of a day at or before a minute of the day; the higher index wins among equals. -/
def schedLast (ws : List Nat) (day minute : Nat) : Option (Nat × Nat) :=
  ws.foldl (fun best w =>
    match schedOn w day with
    | some (t, m) => if t ≤ minute && (match best with | some (bt, _) => bt ≤ t | none => true) then some (t, m) else best
    | none => best) none

/-- The words of schedule k. -/
def State.schedWords (s : State) (k : Nat) : List Nat := (List.range 32).map (fun i => s.odNat 0x19 k i)

/-- The schedule mode of schedule k now, 0 where it has no enabled entry (R185). -/
def State.schedMode (s : State) (k : Nat) : Nat :=
  let f := s.rtcFields
  let day := (f.getD 4 1 + 6) % 7
  let minute := bcdVal (f.getD 2 0) * 60 + bcdVal (f.getD 1 0)
  let ws := s.schedWords k
  let days := (List.range 8).map (fun back => schedLast ws ((day + 7 - back % 7) % 7) (if back = 0 then minute else 1439))
  match days.findSome? id with
  | some (_, m) => m
  | none => 0

/-- The least number of a list. -/
def leastOf : List Nat → Option Nat
  | [] => none
  | a :: t => some (t.foldl min a)

/-- The entry words of the schedules in use: those that a zone names. -/
def State.schedUsed (s : State) : List Nat :=
  (List.range 16).flatMap (fun k => if (List.range s.nZones).any (fun z => (s.zm z 2).toNat == k) then s.schedWords k else [])

/-- The time of the next entry after now, as a minute of its day (R187): today's entries later than now, then those of the days
that follow, up to this day next week. -/
def State.schedNext (s : State) : Option Nat :=
  let f := s.rtcFields
  let day := (f.getD 4 1 + 6) % 7
  let minute := bcdVal (f.getD 2 0) * 60 + bcdVal (f.getD 1 0)
  let ws := s.schedUsed
  (List.range 8).findSome? (fun ahead => leastOf (ws.filterMap (fun w =>
    match schedOn w ((day + ahead) % 7) with
    | some (t, _) => if ahead = 0 && t ≤ minute then none else some t
    | none => none)))

/-- The schedule modes as they are at this moment (R185); the last ones while the RTC is not advancing (R188). -/
def State.schedFresh (s : State) : State :=
  if s.rtcRuns then
    { s with zon := { s.zon with sched := (List.range 16).foldl (fun t k => recPut 0 t k (s.schedMode k)) s.zon.sched } }
  else s

/-- Every schedule is evaluated, and alarm 0 is set to the next entry time (R185-R188): not while the RTC is not advancing. Where no
enabled entry is left, alarm 0 keeps its last setting (DESIGN CHOICE, log entry 114). -/
def State.schedule (s : State) : State :=
  if !s.rtcRuns then s
  else
    let s := { s.schedFresh with zon := { s.schedFresh.zon with schedDue := false } }
    match s.schedNext with
    | some t =>
      if s.hostOwns 12 then s
      else (s.setReg Reg.rtcAlm0T (BitVec.ofNat 32 (0x80000000 + toBcd (t / 60) * 65536 + toBcd (t % 60) * 256))).setReg
        Reg.rtcAlm0D 0x00800880
    | none => s

/-- SCHEDULE_EVALUATE (R187): by the runtime of the chip that acts. -/
def execScheduleEvaluate (s : State) : Host.Outcome State Fault Refusal :=
  (if s.runtimeRuns && s.isActive then s.schedule else s).done

/-! ### The zone step (R173-R184) -/

/-- A source of a zone by its member: none where it is not named; otherwise its value and whether it is valid (R178). -/
def State.zonePv (s : State) (z m : Nat) : Option (Int × Bool) :=
  let w : Word := BitVec.ofNat 32 (s.zm z m).toNat
  let i := fld w 8 10
  let age := 3 * s.period 2
  match fld w 0 3 with
  | 1 => some (s.sword (acqPv i), bitOf (s.word (acqStatus i)) 16 &&
      (match (s.dec i).freshAt with | some t => decide (s.now ≤ t + age) | none => false))
  | 6 => some (s.sword (vpvAddr i),
      match Tab.get (fun _ => none) s.zon.vpvAt i with | some t => decide (s.now ≤ t + age) | none => false)
  | _ => none

/-- The value of a source where it is named and valid. -/
def validPv (p : Option (Int × Bool)) : Option Int := match p with | some (v, true) => some v | _ => none

/-- The effective mode (R174). -/
def State.zoneModeNow (s : State) (z pres : Nat) : Nat :=
  let cmd := (s.zm z 1).toNat
  if cmd ≠ 0 then cmd
  else
    let k := (s.zm z 2).toNat
    let m := if k < 16 then recGet 0 s.zon.sched k else 0
    let m := if m = 0 then (s.zm z 3).toNat else m
    if m = 2 && (pres = 1 || pres = 2) then 3 else m

/-- The temperature target (R174); in GUARD the PV, where it is valid. -/
def State.zoneTt (s : State) (z mode : Nat) (t : Option Int) : Option Int :=
  let lim := clampInt (s.zm z 0x14) (s.zm z 0x15)
  match mode with
  | 1 => t.map lim
  | 2 => some (lim (s.zm z 0x12))
  | _ => some (lim (s.zm z 0x10))

/-- The RH target (R174, R625). -/
def State.zoneRt (s : State) (z mode : Nat) (h : Option Int) : Option Int :=
  let lim := fun v => min v (s.zm z 0x16)
  match mode with
  | 1 => h.map lim
  | 2 => some (lim (s.zm z 0x13))
  | _ => some (lim (s.zm z 0x11))

/-- One step of a setpoint towards its target: the new setpoint and remainder (R176). -/
def rateStep (sp tgt rate : Int) (den n2 acc : Nat) : Int × Nat :=
  if rate = 0 || sp = tgt then (tgt, 0)
  else
    let total := acc + rate.toNat * n2
    let m := total / den
    if (tgt - sp).natAbs ≤ m then (tgt, 0) else (if tgt > sp then sp + m else sp - m, total % den)

/-- The score of a zone (R183). An input that the map names twice adds its WEIGHT twice (DESIGN CHOICE, log entry 114). -/
def State.zoneScore (s : State) (z : Nat) : Nat :=
  ((List.range 8).map (fun i =>
    let w := s.rf (Reg.zonPinmap z (i / 4)) (8 * (i % 4)) 8
    if 128 ≤ w && s.zon.hits.contains (w % 128) then s.rf (Reg.zonPinCfg (w % 128)) 12 4 else 0)).sum

/-- A zone's MODE, PRES or ALARM field takes a value. -/
def State.setZonField (s : State) (z lo w v : Nat) : State := s.setRf (Reg.zonState z) lo w v

/-- Presence at a zone step (R183, R184, R191): the HOLD timer runs in base ticks. -/
def State.zonePresence (s : State) (z : Nat) : State :=
  let old := s.zonePres z
  let full := s.zoneScore z ≥ (s.zm z 0x1A).toNat
  let hold := 4000 * (s.zm z 0x1B).toNat
  let left := (s.reg (Reg.zonHoldt z)).toNat - s.period 2
  let (new, timer) :=
    if full then (1, 0)
    else if old = 1 then (if hold = 0 then (0, 0) else (2, hold))
    else if old = 2 then (if left = 0 then (0, 0) else (2, left))
    else (0, 0)
  let s := (s.setReg (Reg.zonHoldt z) (BitVec.ofNat 32 timer)).setZonField z 2 2 new
  if new = old then s else (s.fire 57).zoneEntry z 2 new old

/-- An alarm's condition at a zone step: present, absent, or not to be judged (R181). -/
def State.zoneAlarm (s : State) (z bit : Nat) (cond : Option Bool) : State :=
  let set := s.rb (Reg.zonState z) (8 + bit)
  let v := s.zone z
  match cond with
  | none => s
  | some true =>
    let s := s.setZone z { v with absent := v.absent.set bit 0 }
    if set then s
    else (((s.setRb (Reg.zonState z) (8 + bit) true).fire 58).fault (0x0501 + bit) z).zoneEntry z 3 bit 0xFF
  | some false =>
    let k := v.absent.getD bit 0 + 1
    let s := s.setZone z { v with absent := v.absent.set bit (if set then k else 0) }
    if set && 10 ≤ k then
      let s := s.setZone z { s.zone z with absent := (s.zone z).absent.set bit 0 }
      ((s.setRb (Reg.zonState z) (8 + bit) false).faultClear (0x0501 + bit) z).zoneEntry z 4 bit 0xFF
    else s

/-- Is the comparator of a door contact that the zone maps in OPEN or SHORT (R181, R182)? -/
def State.zoneTamper (s : State) (z : Nat) : Bool :=
  (List.range 8).any (fun i =>
    let w := s.rf (Reg.zonPinmap z (i / 4)) (8 * (i % 4)) 8
    let p := w % 128
    let d := s.rf (Reg.zonPinCfg p) 3 8
    128 ≤ w && s.rf (Reg.zonPinCfg p) 0 3 == 2 && (s.dec d).cmp == 2 && !(s.dec d).first &&
      (s.cmpState d == 0 || s.cmpState d == 3))

/-- A setpoint register written by the zone logic. -/
def State.zoneSp (s : State) (i : Nat) (v : Int) : State := s.spWrite i (ofInt32 v)

/-- A virtual PV written by the zone logic. -/
def State.zoneVpv (s : State) (i : Nat) (v : Int) : State := s.vpvWrite i (ofInt32 v)

/-- The setpoints of a zone at a zone step (R176-R180, R625). -/
def State.zoneSetpoints (s : State) (z mode : Nat) (t h cold : Option Int) (coldNamed : Bool) : State :=
  let v := s.zone z
  let n2 := s.period 2
  let (tsp, accT) := match t, s.zoneTt z mode t with
    | some _, some tt => rateStep v.tsp tt (s.zm z 0x17) 14400000 n2 v.accT
    | _, _ => (v.tsp, v.accT)
  let cap := match t, cold with
    | some tv, some cv => some (guardCap tv (cv - s.zm z 0x19))
    | _, _ => v.cap
  let rhReg := (s.zm z 0xC).toNat
  let rhNamed := (s.zonePv z 6).isSome
  let hold := (rhNamed && h.isNone) || (!rhNamed && mode = 1)
  let (rsp, accR) := if 1023 < rhReg then (v.rsp, v.accR)
    else
      let (r, a) := if hold then (v.rsp, v.accR)
        else match s.zoneRt z mode h with
          | some rt => rateStep v.rsp rt (s.zm z 0x18) 345600000 n2 v.accR
          | none => (v.rsp, v.accR)
      match coldNamed, cap with
      | true, some c => if r > c then (c, 0) else (r, a)
      | _, _ => (r, a)
  let s := s.setZone z { v with tsp := tsp, accT := accT, rsp := rsp, accR := accR, cap := if coldNamed then cap else none }
  let tReg := (s.zm z 0xB).toNat
  let s := if tReg < 1024 then s.zoneSp tReg tsp else s
  if rhReg < 1024 then s.zoneSp rhReg rsp else s

/-- The dew point of a zone (R179): skipped while a PV it needs is invalid, or with no RH source. -/
def State.zoneDew (s : State) (z : Nat) (t h : Option Int) : State :=
  match t, h with
  | some tv, some hv =>
    let d := dewPoint tv hv
    let s := s.setZone z { s.zone z with dew := d }
    let i := (s.zm z 0xA).toNat
    if i < 256 then s.zoneVpv i d else s
  | _, _ => s

/-- The alarms of a zone at a zone step (R175, R178, R181, R625): only an invalid PV leaves a condition unjudged; that of a source
which is not named is absent. -/
def State.zoneAlarms (s : State) (z mode : Nat) (t h cold : Option Int) (rhNamed coldNamed : Bool) : State :=
  let s := s.zoneAlarm z 0 (t.map (fun v => decide (v < s.zm z 0x14)))
  let s := s.zoneAlarm z 1 (t.map (fun v => decide (v > s.zm z 0x15)))
  let s := s.zoneAlarm z 2 (if rhNamed then h.map (fun v => decide (v > s.zm z 0x16)) else some false)
  let s := s.zoneAlarm z 3 (if !rhNamed || !coldNamed then some false
    else match t, h, cold with
    | some _, some _, some c => some (decide ((s.zone z).dew > c - s.zm z 0x19))
    | _, _, _ => none)
  let s := s.zoneAlarm z 4 (some (mode == 1 && (s.zonePres z == 1 || s.zonePres z == 2)))
  let s := s.zoneAlarm z 5 (some (s.zoneTamper z))
  s.zoneAlarm z 6 (some (t.isNone || (rhNamed && h.isNone)))

/-- One zone at a zone step (R173, R189): presence, then mode, setpoints, dew point and alarms. -/
def State.zoneOne (s : State) (z : Nat) : State :=
  let s := s.zonePresence z
  let old := s.zoneMode z
  let mode := s.zoneModeNow z (s.zonePres z)
  let s := s.setZonField z 0 2 mode
  let s := if mode = old then s else s.zoneEntry z 1 mode old
  let t := validPv (s.zonePv z 5)
  let h := validPv (s.zonePv z 6)
  let cold := validPv (s.zonePv z 9)
  let coldNamed := (s.zonePv z 9).isSome
  let s := s.zoneSetpoints z mode t h cold coldNamed
  let s := s.zoneDew z t h
  s.zoneAlarms z mode t h cold (s.zonePv z 6).isSome coldNamed

/-- What the first zone step after chill does first (R191): HOLD timers lose the time spent in chill, and the remainders are 0. -/
def State.zoneAfterChill (s : State) : State :=
  match s.zon.chillSecs with
  | none => s
  | some t =>
    let lost := 4000 * t
    let s := s.forEach (List.range s.nZones) (fun s z =>
      let s := s.setReg (Reg.zonHoldt z) (BitVec.ofNat 32 ((s.reg (Reg.zonHoldt z)).toNat - lost))
      s.setZone z { s.zone z with accT := 0, accR := 0 })
    { s with zon := { s.zon with chillSecs := none } }

/-- The fans' part of a zone step: the speed target goes to the setpoint register of a fan in SPEED mode (R227), and a fan in
TACH_LOST has its speed virtual PV written equal to it (07_fans, note after R235). -/
def State.zoneFans (s : State) : State :=
  s.forEach ((List.range s.nFans).filter (fun f => s.fnRuns (0x1A0 + f))) (fun s f =>
    let i := s.odNat 0x15 f 0x1A
    let v := s.odNat 0x15 f 0x1B
    let tgt := s.fanTable f (s.fanDemand f)
    let s := if i < 1024 then s.zoneSp i tgt else s
    if (s.fan1 f).state = 5 && i < 1024 && v < 256 then s.zoneVpv v (s.sword (spAddr i)) else s)

/-- A zone step (R173): every running zone, after FRAME2, by the runtime of the chip that acts (R192). -/
def State.zoneStep (s : State) : State :=
  let s := { s with zon := { s.zon with due := false } }
  let s := if s.zon.schedDue || s.hostOwns 12 then s.schedule else s
  let s := s.zonLoadPins.zoneAfterChill.co2Hits
  let s := s.forEach ((List.range s.nZones).filter s.zoneRuns) State.zoneOne
  let s := s.zoneFans
  { s with zon := { s.zon with hits := [] } }

/-- What the active mirrors of zone z (R192): stepped values and remainders, mode, presence and its timer, alarm flags. -/
def State.zoneMirrorOf (s : State) (z : Nat) : ZoneMirror :=
  let c := s.zone z
  { zone := z, tsp := c.tsp, rsp := c.rsp, accT := c.accT, accR := c.accR, mode := s.rf (Reg.zonState z) 0 2,
    presence := s.rf (Reg.zonState z) 2 2, holdT := (s.reg (Reg.zonHoldt z)).toNat, alarms := s.rf (Reg.zonState z) 8 8 }

/-- The zone mirror of the active chip of a flask: every zone, and the setpoint registers and virtual PVs written since the last
(R192). -/
def State.zoneSend (s : State) : State :=
  let s := s.sendToken (.zone ((List.range s.nZones).map s.zoneMirrorOf) s.zon.spOut s.zon.vpvOut)
  { s with zon := { s.zon with spOut := [], vpvOut := [] } }

/-- The zone mirror that formation sends: every setpoint register and virtual PV (R356 step 5). -/
def State.zoneSendAll (s : State) : State :=
  ({ s with zon := { s.zon with spOut := (List.range 1024).map (fun i => (i, s.word (spAddr i))),
                                vpvOut := (List.range 256).map (fun v => (v, s.word (vpvAddr v))) } } : State).zoneSend

/-- ZONE_STEP (R173): once after each FRAME2; the active chip of a flask sends the zone mirror (R192). -/
def execZoneStep (s : State) : Host.Outcome State Fault Refusal :=
  (if s.zon.due && s.runtimeRuns && s.isActive then
    let s := s.zoneStep
    if s.role == 2 then s.zoneSend else { s with zon := { s.zon with spOut := [], vpvOut := [] } }
   else s).done

/-- ZON_PIN_CNT_READ (R182). -/
def execZonPinCntRead (who : Init) (p : Nat) (s : State) : Host.Outcome State Fault Refusal :=
  (s.readClear who 8 (Reg.zonPinCnt (p % 128)) 0xFFFF).done

/-! ### Zone starts and stops (R177, R118) -/

/-- The zone block of ZON from the zone's objects, at each start. -/
def State.zoneLoad (s : State) (z : Nat) : State :=
  let entry := fun m none8 => let v := (s.zm z m).toNat; if v = none8 then 0 else v
  let s := s.forEach (List.range 8) (fun s j =>
    let half := fun i => let v := (s.zm z (0x20 + i)).toNat; if v = 0xFFFF then 0 else v % 1024 + 0x8000
    s.setReg (Reg.zonSlotmap z j) (BitVec.ofNat 32 (half (2 * j) + 65536 * half (2 * j + 1))))
  let quad := fun (base : Nat) => (List.range 4).foldl (fun acc i =>
    acc + (if (s.zm z (base + i)).toNat = 0xFF then 0 else entry (base + i) 0xFF % 128 + 128) * 256 ^ i) 0
  let s := s.setReg (Reg.zonActmap z 0) (BitVec.ofNat 32 (quad 0x30))
  let s := s.setReg (Reg.zonActmap z 1) (BitVec.ofNat 32 (quad 0x34))
  let s := s.setReg (Reg.zonFanlmap z) (BitVec.ofNat 32 (quad 0x38))
  let s := s.setReg (Reg.zonPinmap z 0) (BitVec.ofNat 32 (quad 0x3C))
  s.setReg (Reg.zonPinmap z 1) (BitVec.ofNat 32 (quad 0x40))

/-- tsp and rsp at a zone start (R177): the PV within the mode limits, else the mode target under the schedule mode of this moment
(R185). The cap of the last zone step that computed one stays (R178). -/
def State.zoneInit (s : State) (z : Nat) : State :=
  let mode := s.schedFresh.zoneModeNow z (s.zonePres z)
  let t := validPv (s.zonePv z 5)
  let h := validPv (s.zonePv z 6)
  let limT := clampInt (s.zm z 0x14) (s.zm z 0x15)
  let limH := fun v => min v (s.zm z 0x16)
  let tsp := match t with
    | some v => limT v
    | none => if mode = 3 then limT (s.zm z 0x10) else limT (s.zm z 0x12)
  let rsp := match h with
    | some v => limH v
    | none => if mode = 3 then limH (s.zm z 0x11) else limH (s.zm z 0x13)
  let s := s.setZone z { s.zone z with tsp := tsp, rsp := rsp, accT := 0, accR := 0 }
  let tReg := (s.zm z 0xB).toNat
  let rReg := (s.zm z 0xC).toNat
  let s := if tReg < 1024 then s.zoneSp tReg tsp else s
  if rReg < 1024 then s.zoneSp rReg rsp else s

/-- The stop of a zone: its mode is OFF (R174). -/
def State.zoneStop (s : State) (z : Nat) : State :=
  let old := s.zoneMode z
  let s := s.setZonField z 0 2 0
  if old = 0 then s else s.zoneEntry z 1 0 old

/-- What the active mirrors of one zone (R192). -/
def State.zoneMirror (s : State) (m : ZoneMirror) : State :=
  if m.zone < s.nZones then
    let s := s.setZone m.zone { s.zone m.zone with tsp := m.tsp, rsp := m.rsp, accT := m.accT, accR := m.accR }
    let s := ((s.setZonField m.zone 0 2 m.mode).setZonField m.zone 2 2 m.presence).setZonField m.zone 8 8 m.alarms
    s.setReg (Reg.zonHoldt m.zone) (BitVec.ofNat 32 m.holdT)
  else s

end Sys2Proof.Machine
end

