-- ==== Sys2Proof/Machine/Keypad.lean ====
section
/-! DEFINITION. KPD: the key matrix, the key lock and the encoders (17_keypad_encoders, R551-R580). -/

namespace Sys2Proof.Machine

def State.key (s : State) (k : Nat) : KeySt := recGet {} s.kpd.keys k

def State.setKey (s : State) (k : Nat) (v : KeySt) : State := { s with kpd := { s.kpd with keys := recPut {} s.kpd.keys k v } }

/-- A matrix dimension as it acts (R551, R579). -/
def State.kpdDim (s : State) (lo : Nat) : Nat :=
  let n := s.rf Reg.kpdCfg lo 4 + 1
  if s.present 25 then n else min n 8

def State.kpdRows (s : State) : Nat := s.kpdDim 0
def State.kpdCols (s : State) : Nat := s.kpdDim 4

/-- The scan period in base ticks (R552). -/
def State.kpdScanTicks (s : State) : Nat := s.rf Reg.kpdCfg 12 4 + 1

/-- Does the matrix scan: RUN, with function 0x003 in RUN or the host as owner, on a chip whose rows may drive (R56, R578)? -/
def State.kpdScans (s : State) : Bool :=
  s.rb Reg.kpdCtrl 0 && (s.hostOwns 11 || s.fnRuns 3) && s.awake && (!s.isTwin || s.twn.drives)

/-- Do the encoders run? -/
def State.encRuns (s : State) (n : Nat) : Bool :=
  n < s.nEncs && s.rb Reg.kpdCtrl 0 && s.rb (Reg.encCfg n) 3 && (s.hostOwns 11 || s.fnRuns 4) && s.awake

/-- KPD_LOCK.STATE: 0 UNLOCKED, 1 LOCKED, 2 LOCKOUT, 3 DISABLED (R562). -/
def State.lockState (s : State) : Nat := s.rf Reg.kpdLock 0 2

/-- Is the lock engaged: LOCKED or LOCKOUT? -/
def State.lockEngaged (s : State) : Bool := s.lockState == 1 || s.lockState == 2

def State.lockPos (s : State) : Nat := s.rf Reg.kpdLock 8 4
def State.lockAttempts (s : State) : Nat := s.rf Reg.kpdLock 4 3
def State.setLock (s : State) (st : Nat) : State := s.setRf Reg.kpdLock 0 2 st
def State.setPos (s : State) (n : Nat) : State := s.setRf Reg.kpdLock 8 4 n
def State.setAttempts (s : State) (n : Nat) : State := s.setRf Reg.kpdLock 4 3 n

/-- LEN as it acts: 9-15 act as 8. -/
def State.lockLen (s : State) : Nat := min 8 (s.rf Reg.kpdLockcfg 0 4)

/-- Sequence key i, from 0. -/
def State.lockKey (s : State) (i : Nat) : Nat := if i < 4 then fld s.kpd.seqLo (8 * i) 8 else fld s.kpd.seqHi (8 * (i - 4)) 8

/-- LOCKOUT minutes and ENTRYTO seconds as they act. -/
def State.lockoutMin (s : State) : Nat := clampNat 1 60 (s.rf Reg.kpdLockcfg 8 6)
def State.entryToSec (s : State) : Nat := clampNat 1 60 (s.rf Reg.kpdLockcfg 16 6)

/-! ### Entries (R558-R560) -/

/-- Does a ring take an 8-byte entry of a producer that cannot wait (R459, R560)? -/
def State.ringTakes8 (s : State) (n : Nat) : Bool :=
  s.ringOn n && s.ringEsize n == 8 && (!s.ringFull n || s.rf (Reg.rngCfg n) 6 2 == 1)

/-- A ring 0 entry: written with event 18, or dropped and counted (R558-R560). -/
def State.kpdEntry (s : State) (code kind flags b3 : Nat) : State :=
  let e := entry8 (if s.lockEngaged then 0xFF else code) kind (flags + if s.lockEngaged then 4 else 0) b3 s.stamp
  if s.ringTakes8 0 then (s.ringOffer 0 e).fire 18
  else
    let s := (s.ringOffer 0 e).incSat Reg.kpdDrop 1
    if s.rb Reg.kpdStat 0 then s else ((s.setRb Reg.kpdStat 0 true).fault 0x0902 0).fire 19

/-- The key code of an entry that no key of its own causes: the last debounced key, as the worked example of 17 shows; free
before any key has been pressed (log entry 20). -/
def State.kpdLastCode (s : State) : Nat × State :=
  match s.kpd.lastKey with
  | some k => (k, s)
  | none => s.drawNat 256

/-- A lock entry of kind 4 to 8 with its event and event-log record (R563-R567, R616). -/
def State.lockEntry (s : State) (code kind b3 : Nat) : State :=
  ((s.kpdEntry code kind 0 b3).fire 20).happen 20 kind

/-- The tick that the keypad timers stand at. -/
def State.kpdNow (s : State) : Nat := if s.hostOwns 11 then s.now else s.kpd.heldAt.getD s.now

/-- The lock enters UNLOCKED (R563, R564): the RELOCK time counts from here. -/
def State.lockOpen (s : State) : State :=
  let s := ((s.setLock 0).setPos 0).setAttempts 0
  { s with kpd := { s.kpd with pressAt := s.kpdNow } }

/-- A wrong attempt (R564-R566): at the fifth the lock enters LOCKOUT. -/
def State.lockWrong (s : State) (code : Nat) : State :=
  let n := s.lockAttempts + 1
  let s := ((s.setPos 0).setAttempts n).lockEntry code 6 n
  if n < 5 then s
  else
    let s := s.lockEntry code 7 s.lockoutMin
    let s := (s.setLock 2).fault 0x0903 s.lockoutMin
    { s with kpd := { s.kpd with lockoutAt := s.now } }

/-- A press compared with the sequence (R564). -/
def State.lockCompare (s : State) (k : Nat) : State :=
  let s := { s with kpd := { s.kpd with compareAt := s.now } }
  if k = s.lockKey s.lockPos && s.lockPos < s.lockLen then
    let p := s.lockPos + 1
    let s := (s.setPos p).kpdEntry k 3 0 p
    if p = s.lockLen then (s.lockEntry k 4 0).lockOpen else s
  else s.lockWrong k

/-! ### Keys (R554-R557, R559, R561, R568) -/

/-- Does a key that becomes pressed close a rectangle with three pressed keys (R556)? -/
def State.kpdPhantom (s : State) (k : Nat) : Bool :=
  let r := k / 16
  let c := k % 16
  s.rb Reg.kpdCfg 8 && (List.range 16).any (fun r2 => r2 != r && (List.range 16).any (fun c2 =>
    c2 != c && (s.key (16 * r + c2)).pressed && (s.key (16 * r2 + c)).pressed && (s.key (16 * r2 + c2)).pressed))

/-- A debounced press (R559, R564, R566, R568). -/
def State.keyPress (s : State) (k : Nat) : State :=
  let ph := s.kpdPhantom k
  let s := s.runtimeCount 16
  let s := (s.incWrap Reg.kpdPresscnt).setKey k { pressed := true, since := s.now, phantom := ph }
  let s := { s with kpd := { s.kpd with lastKey := some k, pressAt := s.now } }
  let taken := s.ringTakes8 0
  match s.lockState with
  | 1 => if ph then s else (s.pinHits 3 0).lockCompare k
  | 2 =>
    if ph then s
    else
      let s := if taken then s.pinHits 3 0 else s
      s.kpdEntry k 10 0 0
  | _ =>
    let s := if taken && !ph then s.pinHits 3 0 else s
    (s.kpdEntry k 1 (if ph then 1 else 0) 0).setKey k { s.key k with wrote := taken }

/-- A debounced release (R557, R559, R561). -/
def State.keyRelease (s : State) (k : Nat) : State :=
  let v := s.key k
  let stuck := s.rb (Reg.kpdMask (k / 32)) (k % 32)
  let s := (s.setRb (Reg.kpdMask (k / 32)) (k % 32) false).setKey k {}
  if v.wrote && !s.lockEngaged then s.kpdEntry k 2 ((if v.phantom then 1 else 0) + if stuck then 2 else 0) 0 else s

/-- Scans that a change needs (R554, R555). -/
def State.kpdNeed (s : State) (press : Bool) : Nat :=
  if s.kpdRows * s.kpdCols ≤ 64 then max 1 (s.rf Reg.kpdDeb 0 4)
  else
    let ms := max 1 (s.rf Reg.kpdDeb (if press then 8 else 16) 8)
    (4 * ms + s.kpdScanTicks - 1) / s.kpdScanTicks

/-- One key at a scan: its raw reading is debounced, and a change is handled (R554-R556). -/
def State.keyScan (s : State) (raw : Bool) (k : Nat) : State :=
  let v := s.key k
  if raw = v.pressed then s.setKey k { v with count := 0 }
  else if v.count + 1 < s.kpdNeed raw then s.setKey k { v with count := v.count + 1 }
  else if raw then s.keyPress k else s.keyRelease k

/-- The key codes of the matrix in ascending order (R551). -/
def State.kpdKeys (s : State) : List Nat :=
  (List.range s.kpdRows).flatMap (fun r => (List.range s.kpdCols).map (fun c => 16 * r + c))

/-- KEYPAD_SCAN (R552): at a tick at which TBCOUNT is a multiple of SCANDIV; `pressed` names the keys whose column read low at
their row's sample. -/
def execKeypadScan (pressed : List Nat) (s : State) : Host.Outcome State Fault Refusal :=
  (if s.kpdScans && s.tb.running && s.tb.count % s.kpdScanTicks == 0 && s.kpd.lastScan != some s.now then
    let s := { s with kpd := { s.kpd with lastScan := some s.now } }
    s.forEach s.kpdKeys (fun s k => s.keyScan (pressed.contains k) k)
  else s).done

/-- KEY_STUCK (R561): a key pressed for STUCK seconds is masked. -/
def execKeyStuck (key : Nat) (s : State) : Host.Outcome State Fault Refusal :=
  (let v := s.key key
   let limit := 4000 * max 1 (s.rf Reg.kpdDeb 24 8)
   if s.kpdScans && key < 256 && v.pressed && !v.phantom && !s.rb (Reg.kpdMask (key / 32)) (key % 32) && v.since + limit ≤ s.now then
    let s := s.setRb (Reg.kpdMask (key / 32)) (key % 32) true
    let s := if s.lockEngaged then s else s.kpdEntry key 9 2 0
    (s.fault 0x0901 key).fire 19
   else s).done

/-! ### Lock timers (R565-R567) -/

/-- Is the lock served: the host owns KPD, or function 0x003 runs (R575)? -/
def State.lockServed (s : State) : Bool := s.hostOwns 11 || s.fnRuns 3

/-- Do the lock timers run: they are held while function 0x003 is stopped (R575), and in chill (R577)? -/
def State.lockTimes (s : State) : Bool := s.lockServed && s.awake

/-- The timers of the keypad move by a time that does not count (R575, R577). -/
def State.kpdShift (s : State) (d : Int) : State :=
  let k := s.kpd
  { s with kpd := { k with compareAt := k.compareAt + d, pressAt := k.pressAt + d, lockoutAt := k.lockoutAt + d,
                           keys := k.keys.map (fun p => (p.1, { p.2 with since := p.2.since + d })) } }

/-- Function 0x003 stops: the timers are held (R575). -/
def State.kpdHold (s : State) : State := { s with kpd := { s.kpd with heldAt := some s.kpdNow } }

/-- Function 0x003 starts: held timers go on. -/
def State.kpdGoOn (s : State) : State :=
  match s.kpd.heldAt with
  | none => s
  | some t => { (s.kpdShift ((s.now : Int) - t)) with kpd := { (s.kpdShift ((s.now : Int) - t)).kpd with heldAt := none } }

/-- ENTRY_TIMEOUT (R565); a kind 6 entry that is written is a presence hit (R568). -/
def execEntryTimeout (s : State) : Host.Outcome State Fault Refusal :=
  (if s.lockTimes && s.lockState = 1 && s.lockPos ≠ 0 && s.kpd.compareAt + 4000 * s.entryToSec ≤ s.now then
    let res := s.kpdLastCode
    let c := res.1
    let s := res.2
    let s := if s.ringTakes8 0 then s.pinHits 3 0 else s
    s.lockWrong c
  else s).done

/-- LOCKOUT_END (R566); where the sequence has become empty in the lockout the lock is DISABLED then (R562; DEDUCED, log entry 84). -/
def execLockoutEnd (s : State) : Host.Outcome State Fault Refusal :=
  (if s.lockTimes && s.lockState = 2 && s.kpd.lockoutAt + 240000 * s.lockoutMin ≤ s.now then
    let res := s.kpdLastCode
    let c := res.1
    let s := res.2
    (((s.lockEntry c 8 0).setLock (if s.lockLen = 0 then 3 else 1)).setAttempts 0).setPos 0
  else s).done

/-- The lock engages (R563, R567). -/
def State.lockClose (s : State) : State :=
  let res := s.kpdLastCode
  let c := res.1
  let s := res.2
  ((s.lockEntry c 5 0).setLock 1).setPos 0

/-- RELOCK (R567). -/
def execRelock (s : State) : Host.Outcome State Fault Refusal :=
  (let m := s.rf Reg.kpdLockcfg 24 8
   if s.lockTimes && s.lockState = 0 && m ≠ 0 && s.kpd.pressAt + 240000 * m ≤ s.now then s.lockClose else s).done

/-- A write of KPD_LOCK (R563): LOCK first, then UNLOCK. -/
def State.kpdLockWrite (s : State) (v : Word) : State :=
  let s := if bitOf v 2 then
      (if s.lockState = 0 then s.lockClose else if s.lockState = 3 then s.setRb Reg.kpdStat 2 true else s)
    else s
  if bitOf v 3 && s.lockEngaged then
    let res := s.kpdLastCode
    let c := res.1
    let s := res.2
    (s.lockEntry c 4 0).lockOpen
  else s

/-- KPD_LOCK (R563): a write of LOCK = 1. -/
def execKpdLock (who : Init) (s : State) : Host.Outcome State Fault Refusal :=
  (s.guardWrite who 11 Reg.kpdLock (fun s => s.kpdLockWrite 4)).done

/-- KPD_UNLOCK (R563): a write of UNLOCK = 1. -/
def execKpdUnlock (who : Init) (s : State) : Host.Outcome State Fault Refusal :=
  (s.guardWrite who 11 Reg.kpdLock (fun s => s.kpdLockWrite 8)).done

/-- A new sequence is in force (R562, R575, 17_keypad_encoders): POS is 0, a lockout continues, an empty sequence disables the lock, and a
sequence ends DISABLED; the RELOCK time counts from there (R567). -/
def State.lockSequence (s : State) : State :=
  let s := s.setPos 0
  if s.lockState = 2 then s
  else if s.lockLen = 0 then (if s.lockState = 3 then s else (s.setLock 3).fire 20)
  else if s.lockState = 3 then
    let s := s.setLock 0
    ({ s with kpd := { s.kpd with pressAt := s.kpdNow } } : State).fire 20
  else s

/-- A start of function 0x003 commits (R562, R575, R576): LOCKED with a sequence, DISABLED without. -/
def State.lockStart (s : State) : State :=
  let s := s.kpdGoOn
  let st := if s.lockLen = 0 then 3 else 1
  let s := if s.lockState = 2 then s.setAttempts 0 else s
  let old := s.lockState
  let s := (s.setLock st).setPos 0
  if old = st then s else s.fire 20

/-! ### Encoders (R570-R572) -/

def State.enc (s : State) (n : Nat) : EncSt := s.kpd.encs.getD n {}

def State.setEnc (s : State) (n : Nat) (v : EncSt) : State := { s with kpd := { s.kpd with encs := s.kpd.encs.set n v } }

/-- The phase of a pair of levels (R570). -/
def encPhase : Bool → Bool → Nat
  | false, false => 0
  | true, false => 1
  | true, true => 2
  | false, true => 3

/-- Is a ring 1 entry withheld (R572)? -/
def State.encHeld (s : State) : Bool := s.rb Reg.kpdCfg 9 && s.lockEngaged

/-- A ring 1 entry (R571). -/
def State.encEntry (s : State) (n kind : Nat) : State :=
  let e := [BitVec.ofNat 8 n, BitVec.ofNat 8 kind] ++ leBytes 2 (s.rf (Reg.encCnt n) 0 16) ++ leBytes 4 s.stamp
  if s.ringTakes8 1 then (s.ringOffer 1 e).fire 21 else s.ringOffer 1 e

/-- The count entry of a base tick (R571). -/
def State.encPost (s : State) (n : Nat) : State :=
  let v := s.enc n
  let c := s.rf (Reg.encCnt n) 0 16
  let met := match v.entryAt with | some t => t + 4 * s.rf (Reg.encCfg n) 8 8 ≤ s.now | none => true
  if s.encRuns n && c != v.posted && met && !s.encHeld then
    (s.setEnc n { v with posted := c, entryAt := some s.now }).encEntry n 1
  else s

/-- The base tick of the encoders. -/
def State.encTicks (s : State) : State := s.forEach (List.range s.nEncs) State.encPost

/-- A change of the accepted phase (R570). A count event of R182, which gives a presence hit, is taken to be each movement of COUNT
(DESIGN CHOICE, log entry 114). -/
def State.encStep (s : State) (n p q : Nat) : State :=
  if p = q then s
  else if (p + 2) % 4 = q then
    let s := s.incSat (Reg.encErr n) 1
    let v := s.enc n
    let due := match v.errAt with | some t => decide (t + 240000 ≤ s.now) | none => true
    if due then (s.setEnc n { v with errAt := some s.now }).fault 0x0905 n else s
  else
    let res := s.rf (Reg.encCfg n) 0 2
    let moves := match res with | 0 => q == 0 | 1 => q % 2 == 0 | _ => true
    let up := ((p + 1) % 4 == q) != s.rb (Reg.encCfg n) 2
    if moves then
      (s.setRf (Reg.encCnt n) 0 16 (s.rf (Reg.encCnt n) 0 16 + if up then 1 else 65535)).pinHits 4 n
    else s

/-- The push at a sample (R571): pressed while the pin is low (log entry 19). -/
def State.encPush (s : State) (n : Nat) (p : Bool) : State :=
  let v := s.enc n
  let pushed := s.rb (Reg.encStat n) 3
  if !p = pushed then s.setEnc n { v with push := 0 }
  else
    let need := 16 * max 1 (s.rf (Reg.encCfg n) 16 8)
    if v.push + 1 < need then s.setEnc n { v with push := v.push + 1 }
    else
      let s := (s.setEnc n { v with push := 0 }).setRb (Reg.encStat n) 3 (!pushed)
      if s.encHeld then s else s.encEntry n (if pushed then 3 else 2)

/-- ENCODER_SAMPLE (R570, R571): every 1,024 TBO cycles; a level is accepted after 2 equal samples. The pair first accepted after a chill
counts no step (R577). -/
def execEncoderSample (n : Nat) (a b p : Bool) (s : State) : Host.Outcome State Fault Refusal :=
  (if s.encRuns n then
    let v := s.enc n
    let oa := s.rb (Reg.encStat n) 0
    let ob := s.rb (Reg.encStat n) 1
    let na := if a = v.a then a else oa
    let nb := if b = v.b then b else ob
    let np := if p = v.p then p else s.rb (Reg.encStat n) 2
    let s := (((s.setEnc n { v with a := a, b := b, p := p }).setRb (Reg.encStat n) 0 na).setRb (Reg.encStat n) 1 nb).setRb (Reg.encStat n) 2 np
    let s :=
      if v.resync then (if a = v.a && b = v.b then s.setEnc n { s.enc n with resync := false } else s)
      else s.encStep n (encPhase oa ob) (encPhase na nb)
    s.encPush n p
  else s).done

/-- A write of ENCn_CNT (R572). -/
def State.encCountWrite (s : State) (n : Nat) (v : Word) : State :=
  let c := fld v 0 16
  (s.setReg (Reg.encCnt n) (BitVec.ofNat 32 c)).setEnc n { s.enc n with posted := c }

/-- A register of an encoder that the variant lacks is absent (R579). -/
def State.encGuard (s : State) (who : Init) (n addr : Nat) (f : State → State) : State :=
  if s.nEncs ≤ n then s.hit 0 addr (who == .host) else s.guardWrite who 11 addr f

/-- ENCODER_COUNT_WRITE (R572). -/
def execEncoderCountWrite (who : Init) (n : Nat) (v : Word) (s : State) : Host.Outcome State Fault Refusal :=
  (s.encGuard who (n % 4) (Reg.encCnt (n % 4)) (fun s => s.encCountWrite (n % 4) v)).done

/-- ENC_ERR_READ (R570). -/
def execEncErrRead (who : Init) (n : Nat) (s : State) : Host.Outcome State Fault Refusal :=
  (if s.nEncs ≤ n % 4 then { (s.hit 0 (Reg.encErr (n % 4)) (who == .host)) with lastRead := 0 }
   else s.readClear who 11 (Reg.encErr (n % 4)) 0xFFFFFFFF).done

/-- KPD_DROP_READ (R560). -/
def execKpdDropRead (who : Init) (s : State) : Host.Outcome State Fault Refusal :=
  (s.readClear who 11 Reg.kpdDrop 0xFFFFFFFF).done

/-! ### Registers (R573) -/

/-- A change refused under R573. -/
def State.kpdIgnored (s : State) : State := s.setRb Reg.kpdStat 3 true

/-- A write to a KPD register by its offset (R569, R573). -/
def State.kpdWrite (s : State) (off : Nat) (v : Word) : State :=
  match off with
  | 0x00 => if s.hostOwns 11 && (s.lockEngaged || s.rb Reg.kpdCtrl 0) then s.kpdIgnored else s.setReg Reg.kpdCfg (v &&& 0x00FFF3FF)
  | 0x04 => s.setReg Reg.kpdDeb (v &&& 0xFFFFFF0F)
  | 0x08 => s.clrReg Reg.kpdStat (v &&& 0xD)
  | 0x0C => s.setReg Reg.kpdCtrl (v &&& 1)
  | 0x10 => s.kpdLockWrite v
  | 0x14 =>
    let w := v &&& 0xFF3F3F0F
    if s.hostOwns 11 && s.lockEngaged then
      (s.setReg Reg.kpdLockcfg (putFld w 0 4 (s.rf Reg.kpdLockcfg 0 4))).kpdIgnored
    else
      let same := fld w 0 4 = s.rf Reg.kpdLockcfg 0 4
      let s := s.setReg Reg.kpdLockcfg w
      if same then s else s.lockSequence
  | 0x18 => if s.hostOwns 11 && s.lockEngaged then s.kpdIgnored else { s with kpd := { s.kpd with seqLo := v } }
  | 0x1C => if s.hostOwns 11 && s.lockEngaged then s.kpdIgnored else { s with kpd := { s.kpd with seqHi := v } }
  | _ => s

/-- A write to a register of encoder block n. -/
def State.encWrite (s : State) (n off : Nat) (v : Word) : State :=
  match off with
  | 0x00 => s.setReg (Reg.encCfg n) (v &&& 0x00FFFF0F)
  | 0x04 => s.encCountWrite n v
  | _ => s

/-- KPD_CONFIG_WRITE (R573): a register of KPD by its offset, encoder blocks included. -/
def execKpdConfigWrite (who : Init) (off : Nat) (v : Word) (s : State) : Host.Outcome State Fault Refusal :=
  (let off := 4 * (off / 4 % 96)
   if 0x100 ≤ off then
    s.encGuard who ((off - 0x100) / 32) (Reg.kpdCfg + off) (fun s => s.encWrite ((off - 0x100) / 32) (off % 32) v)
   else s.guardWrite who 11 (Reg.kpdCfg + off) (fun s => s.kpdWrite off v)).done

/-- KPD_LOCK as it reads: LOREM is the seconds of lockout left (R566). -/
def State.kpdLockWord (s : State) : Word :=
  let left := (s.kpd.lockoutAt + 240000 * s.lockoutMin - s.kpdNow).toNat
  putFld (s.reg Reg.kpdLock) 16 16 (if s.lockState = 2 then (left + 3999) / 4000 else 0)

/-- KPD_STAT as it reads. -/
def State.kpdStatWord (s : State) : Word :=
  putBit (putBit (s.reg Reg.kpdStat) 1 ((List.range 8).any (fun i => s.reg (Reg.kpdMask i) != 0))) 4 s.kpdScans

/-- KPD_KEYSn as it reads: all zero while the lock is engaged (R569). -/
def State.kpdKeysWord (s : State) (i : Nat) : Word :=
  if s.lockEngaged then 0 else (List.range 32).foldl (fun w b => putBit w b (s.key (32 * i + b)).pressed) 0

/-! ### Takeover and chill -/

/-- Every key counts as released, at a takeover and where a chip stops scanning for its partner (R578); none is stuck. -/
def State.keysUp (s : State) : State :=
  (({ s with kpd := { s.kpd with keys := [] } } : State)).forEach (List.range 8) (fun s i => s.setReg (Reg.kpdMask i) 0)

/-- Takeover (R578): every key is released and the lock engages where there is a sequence. -/
def State.kpdTakeover (s : State) : State :=
  let s := s.keysUp
  if s.lockLen = 0 then s
  else
    let old := s.lockState
    let s := (((s.setLock 1).setPos 0).setAttempts 0).fault 0x0904 0
    if old = 1 then s else s.fire 20

/-- Leaving chill (R577): the timers are reduced by the seconds spent in chill on RTC_EPOCH. -/
def State.kpdWake (s : State) (secs : Nat) : State :=
  let s := if s.lockServed || s.kpd.heldAt.isNone then s.kpdShift (-(4000 * (secs : Int))) else s
  { s with kpd := { s.kpd with encs := s.kpd.encs.map (fun e => { e with resync := true }) } }

end Sys2Proof.Machine
end

