-- ==== Sys2Proof/Machine/Events.lean ====
section
/-! DEFINITION. EVT and RNG: clearing and masking of latches, ring configuration and index writes (13_events_rings, R445-R465). -/

namespace Sys2Proof.Machine

/-! ### Event registers -/

/-- The bits of an EVT register half that the variant has (R452). -/
def State.evtBits (s : State) (hi : Bool) (v : Word) : Word := if hi then v &&& eventHiMask s.variant else v

/-- A write of 1s to EVT_PEND clears core latches alone (R448). -/
def State.evtPendWrite (s : State) (hi : Bool) (v : Word) : State :=
  s.clrReg (if hi then Reg.evtPendHi else Reg.evtPendLo) v

/-- EVT_PEND_CLEAR (R448). -/
def execEvtPendClear (who : Init) (hi : Bool) (v : Word) (s : State) : Host.Outcome State Fault Refusal :=
  (s.guardWrite who 3 (if hi then Reg.evtPendHi else Reg.evtPendLo) (fun s => s.evtPendWrite hi v)).done

/-- A write of 1s to EVT_CLR clears both latches (R448). -/
def State.evtClrWrite (s : State) (hi : Bool) (v : Word) : State :=
  (s.clrReg (if hi then Reg.evtPendHi else Reg.evtPendLo) v).clrReg (if hi then Reg.evtHpendHi else Reg.evtHpendLo) v

/-- EVT_CLR (R448). -/
def execEvtClr (who : Init) (hi : Bool) (v : Word) (s : State) : Host.Outcome State Fault Refusal :=
  (s.guardWrite who 3 (if hi then Reg.evtClrHi else Reg.evtClrLo) (fun s => s.evtClrWrite hi v)).done

/-- A write of EVT_MASK_HOST: the mask takes the value, and the host latch of every bit written 0 clears (R449). -/
def State.evtMaskHost (s : State) (hi : Bool) (v : Word) : State :=
  let m := s.evtBits hi v
  (s.setReg (if hi then Reg.evtMaskHostHi else Reg.evtMaskHostLo) m).clrReg (if hi then Reg.evtHpendHi else Reg.evtHpendLo) (~~~m)

/-- EVT_MASK_HOST_WRITE (R449): the host may write it whatever it owns (R53). -/
def execEvtMaskHostWrite (_who : Init) (hi : Bool) (v : Word) (s : State) : Host.Outcome State Fault Refusal :=
  (s.evtMaskHost hi v).done

/-- A write of EVT_SOFT fires sources 62 and 63 (R445). -/
def State.evtSoftWrite (s : State) (v : Word) : State :=
  let s := if bitOf v 0 then s.fire 62 else s
  if bitOf v 1 then s.fire 63 else s

/-- EVT_SOFT (R445). -/
def execEvtSoft (who : Init) (v : Word) (s : State) : Host.Outcome State Fault Refusal :=
  (s.guardWrite who 3 Reg.evtSoft (fun s => s.evtSoftWrite v)).done

/-! ### Ring registers -/

/-- Do n bytes from an address lie wholly inside lo..hi-1? -/
def within (a n lo hi : Nat) : Bool := lo ≤ a && a + n ≤ hi

/-- May the host write a register of ring n (R53): all of rings 26-29, HEAD of 12, TAIL of 13? -/
def ringHostReg (n : Nat) (head tail : Bool) : Bool :=
  (26 ≤ n && n ≤ 29) || (n == 12 && head) || (n == 13 && tail)

/-- A ring register write: refused to the host outside its registers (R53). -/
def State.ringGuard (s : State) (who : Init) (n addr : Nat) (head tail : Bool) (f : State → State) : State :=
  if n ≥ 32 then s
  else if who == .host && !ringHostReg n head tail then s.hit 1 addr true
  else f s

/-- The conditions of R454 for EN = 1 with the fields of a CFG value. -/
def State.ringOk (s : State) (n : Nat) (v : Word) : Bool :=
  let depth := fld v 0 4
  let f := 2 ^ depth * (4 * 2 ^ fld v 4 2)
  let base := (s.reg (Reg.rngBase n)).toNat
  let hostRing := n == 12 || n == 13 || (26 ≤ n && n ≤ 29)
  2 ≤ depth && depth ≤ 12 && fld v 6 2 != 3 && base % f == 0 &&
    (within base f 0x30000000 0x30004000 ||
      within base f (if hostRing then 0x20038000 else 0x20000000) 0x20040000)

/-- A write of RNG_n_CFG (R454, R455, R462). -/
def State.ringCfgWrite (s : State) (n : Nat) (v : Word) : State :=
  let v := v &&& (if 26 ≤ n && n ≤ 29 then 0xFFF else 0x7FF)
  let cur := s.reg (Reg.rngCfg n)
  if s.ringOn n then
    let same := fld v 0 8 == fld cur 0 8 && bitOf v 11 == bitOf cur 11
    let s := s.setRf (Reg.rngCfg n) 8 3 (fld v 8 3)
    let s := if bitOf v 8 then s else s.ringFlush n
    if same then s else s.ringError 5 n
  else if bitOf v 8 then
    if s.ringOk n v then ((s.setReg (Reg.rngCfg n) v).setReg (Reg.rngHead n) 0).setReg (Reg.rngTail n) 0
    else (s.setReg (Reg.rngCfg n) (putBit v 8 false)).ringError 1 n
  else s.setReg (Reg.rngCfg n) v

/-- RING_CONFIG_WRITE (R454, R455). -/
def execRingConfigWrite (who : Init) (n : Nat) (v : Word) (s : State) : Host.Outcome State Fault Refusal :=
  (s.ringGuard who n (Reg.rngCfg n) false false (fun s => s.ringCfgWrite n v)).done

/-- A write of RNG_n_BASE (R455). -/
def State.ringBaseWr (s : State) (n : Nat) (v : Word) : State :=
  if s.ringOn n then s.ringError 5 n else s.setReg (Reg.rngBase n) (v &&& 0xFFFFFFFC)

/-- RING_BASE_WRITE (R455). -/
def execRingBaseWrite (who : Init) (n : Nat) (v : Word) (s : State) : Host.Outcome State Fault Refusal :=
  (s.ringGuard who n (Reg.rngBase n) false false (fun s => s.ringBaseWr n v)).done

/-- A write of RNG_n_HEAD by the host or the runtime's side (R455, R457). -/
def State.ringHeadWr (s : State) (host : Bool) (n : Nat) (v : Word) : State :=
  let h := fld v 0 16
  if !s.ringOn n then s.ringError 6 n
  else if ringUnitProduced n || s.ringHostProduces n != host then s.ringError 2 n
  else if (h + 65536 - s.ringHead n) % 65536 + s.ringCount n ≤ 2 ^ s.ringDepth n then s.setRf (Reg.rngHead n) 0 16 h
  else s.ringError 2 n

/-- RING_HEAD_WRITE (R457, R458). -/
def execRingHeadWrite (who : Init) (n : Nat) (v : Word) (s : State) : Host.Outcome State Fault Refusal :=
  (s.ringGuard who n (Reg.rngHead n) true false (fun s =>
    s.behind who (Reg.rngHead n) v (fun s => s.ringHeadWr (who == .host) n v))).done

/-- A write of RNG_n_TAIL by the host or the runtime's side (R455, R457); a held entry is written when TAIL advances (R459). -/
def State.ringTailWr (s : State) (host : Bool) (n : Nat) (v : Word) : State :=
  let t := fld v 0 16
  if !s.ringOn n then s.ringError 6 n
  else if ringUnitConsumed n || s.ringHostConsumes n != host then s.ringError 3 n
  else if (t + 65536 - s.ringTail n) % 65536 ≤ s.ringCount n then (s.setRf (Reg.rngTail n) 0 16 t).ringUnstall n
  else s.ringError 3 n

/-- RING_TAIL_WRITE (R457, R458). -/
def execRingTailWrite (who : Init) (n : Nat) (v : Word) (s : State) : Host.Outcome State Fault Refusal :=
  (s.ringGuard who n (Reg.rngTail n) false true (fun s =>
    s.behind who (Reg.rngTail n) v (fun s => s.ringTailWr (who == .host) n v))).done

/-- RING_DROP_READ: a host read does not clear it (R52). -/
def execRingDropRead (who : Init) (n : Nat) (s : State) : Host.Outcome State Fault Refusal :=
  (s.readClear who 4 (Reg.rngDrop n) 0xFFFFFFFF).done

/-! ### The runtime's ring set-up at step 8 (R453, R461) -/

/-- Entry bytes (as ESIZE) and policy of the rings of R453; what the table leaves to the runtime is taken free. -/
def ringFixed (n : Nat) : Option (Nat × Nat) :=
  if n ∈ [0, 1, 4, 5, 20, 21, 22, 23, 24] then some (1, 0)
  else if n ∈ [2, 3, 18] then some (2, 1)
  else if n ∈ [6, 8, 16, 17] then some (2, 0)
  else if n ∈ [7, 9, 10, 11, 13, 14, 15] then some (2, 2)
  else if n ∈ [19, 25] then some (1, 2)
  else none

/-- The runtime enables ring n with entries of 4 * 2^e bytes and policy p: rings 12 and 13 at the base and depth of R453, the
others at a depth and place that the spec leaves to the runtime (log entry 9). -/
def State.ringEnable (s : State) (n e p : Nat) : State :=
  let depth := if n = 12 || n = 13 then 6 else 2 + Config.ringDepth n % 11
  let f := 2 ^ depth * (4 * 2 ^ e)
  let base :=
    if n = 12 then 0x30000000 else if n = 13 then 0x30000400
    else 0x20000000 + f * (Config.ringPlace n % (0x40000 / f))
  let s := s.setReg (Reg.rngBase n) (BitVec.ofNat 32 base)
  let s := (s.setReg (Reg.rngHead n) 0).setReg (Reg.rngTail n) 0
  let res := s.drawNat 2
  let ne := if n = 13 then 1 else res.1
  let res := res.2.drawNat 2
  let fe := if n = 12 then 0 else res.1
  res.2.setReg (Reg.rngCfg n) (BitVec.ofNat 32 (depth + e * 16 + p * 64 + 0x100 + ne * 0x200 + fe * 0x400))

/-- The runtime sets up ring n (R453): the entry size and policy of the table, or free ones where the table gives none. -/
def State.ringSetup (s : State) (n : Nat) : State :=
  match ringFixed n with
  | some (e, p) => s.ringEnable n e p
  | none =>
    let e := s.drawNat 4
    let p := e.2.drawNat 3
    p.2.ringEnable n (if n = 12 then 2 else e.1) p.1

/-- The rings that the runtime configures at step 8. -/
def runtimeRings : List Nat := List.range 26 ++ [30, 31]

end Sys2Proof.Machine
end

