-- ==== Sys2Proof/Machine/Ladle.lean ====
section
/-! DEFINITION. LDL: channel control, descriptors, checks and completion (14_ladle_dma, R466-R483, R487-R493). The bursts themselves, which use the bus, stand in LadleRun. -/

namespace Sys2Proof.Machine

def State.ldlCh (s : State) (n : Nat) : LdlCh := recGet {} s.ldl.chans n

def State.setLdlCh (s : State) (n : Nat) (v : LdlCh) : State := { s with ldl := { s.ldl with chans := recPut {} s.ldl.chans n v } }

/-- LDL_CHn_STAT.STATE (R466): 0 IDLE, 1 RUN, 2 PARKED, 3 PAUSING, 4 PAUSED. -/
def State.ldlState (s : State) (n : Nat) : Nat := s.rf (Reg.ldlChStat n) 0 3

def State.setLdlState (s : State) (n v : Nat) : State := s.setRf (Reg.ldlChStat n) 0 3 v

/-- A valid descriptor address (R470): 32-byte aligned, in data RAM, in bank 7 if the host owns LDL. -/
def State.ldlAddrOk (s : State) (a : Nat) : Bool :=
  a % 32 == 0 && (if s.hostOwns 5 then 0x20038000 else 0x20000000) ≤ a && a < 0x20040000

/-- A ring 25 entry of a channel and, once it is written, its event (R477, R488); an entry that is dropped fires at once. -/
def State.ldlEntry (s : State) (n kind cause : Nat) (user : Word) : State :=
  let e : List Byte := [BitVec.ofNat 8 n, BitVec.ofNat 8 kind, BitVec.ofNat 8 cause, 0] ++ leBytes 4 user.toNat
  let k := s.held.length
  let s := s.ringOffer 25 e
  if s.held.length = k then s.fire (ladleEvent e) else s

/-- Does a channel hold an entry for ring 25 (R488)? -/
def State.ldlHeld (s : State) (n : Nat) : Bool := s.held.any (fun h => h.ring == 25 && (h.data.getD 0 0).toNat == n)

/-- A channel parks (R466); with PARKEV it writes an entry and fires event 30. -/
def State.ldlPark (s : State) (n : Nat) : State :=
  let s := s.setLdlState n 2
  if s.rb (Reg.ldlChCtrl n) 6 then
    let d := (s.reg (Reg.ldlChDone n)).toNat
    s.ldlEntry n 3 0 (if d = 0 then 0 else s.word (d + 0x18))
  else s

/-- A LINK other than the end mark (R478): the next descriptor, or LINKERR. -/
def State.ldlGoto (s : State) (n : Nat) (v : Word) : State :=
  if s.ldlAddrOk v.toNat then (s.setLdlState n 1).setLdlCh n { s.ldlCh n with fetch := some v.toNat }
  else (((s.ldlPark n).setRb (Reg.ldlChStat n) 4 true).fire 31).fault 0x0C04 n

/-- The LINK of the descriptor at an address is read and followed (R478, R479). A doorbell that waits at the park makes one
further read of the LINK of the descriptor at DONE. -/
def State.ldlFollow (s : State) (n a : Nat) : State :=
  let s := s.setLdlCh n { s.ldlCh n with link := false }
  let v := s.word (a + 0xC)
  if v = 1 then
    let s := s.ldlPark n
    if s.rb (Reg.ldlChStat n) 3 then
      let s := s.setRb (Reg.ldlChStat n) 3 false
      let d := (s.reg (Reg.ldlChDone n)).toNat
      let w := s.word (d + 0xC)
      if d = 0 || w = 1 then s else s.ldlGoto n w
    else s
  else s.ldlGoto n v

/-- After completion or slag: LINK is read, unless the channel holds an entry for ring 25 or is to pause (R477, R481, R488). -/
def State.ldlNext (s : State) (n : Nat) : State :=
  if s.ldlHeld n || s.ldlState n = 3 then s.setLdlCh n { s.ldlCh n with link := true } else s.ldlFollow n (s.reg (Reg.ldlChCur n)).toNat

/-! ### Checksums (R474) -/

/-- The kind of a descriptor's checksum. -/
def ldlKind (lf : Word) : Nat := fld lf 24 2

/-- The running value before the first byte. -/
def ckInit (kind : Nat) : Nat :=
  match kind with
  | 1 => 0xFFFFFFFF
  | 2 => 0xFFFF
  | _ => 0

/-- One bit of CRC-16/CCITT. -/
def crc16Bit (c : Nat) : Nat := if c ≥ 32768 then (c * 2 % 65536) ^^^ 0x1021 else c * 2

/-- One byte more, the i-th of the descriptor. -/
def ckStep (kind i c : Nat) (b : Byte) : Nat :=
  match kind with
  | 1 => crc32Bit (crc32Bit (crc32Bit (crc32Bit (crc32Bit (crc32Bit (crc32Bit (crc32Bit (c ^^^ b.toNat))))))))
  | 2 => crc16Bit (crc16Bit (crc16Bit (crc16Bit (crc16Bit (crc16Bit (crc16Bit (crc16Bit (c ^^^ (b.toNat * 256)))))))))
  | 3 => (c + b.toNat * 256 ^ (i % 4)) % 4294967296
  | _ => 0

/-- The checksum if the descriptor ended here. -/
def ckFinal (kind c : Nat) : Word :=
  match kind with
  | 1 => BitVec.ofNat 32 (c ^^^ 0xFFFFFFFF)
  | 0 => 0
  | _ => BitVec.ofNat 32 c

/-- The running value over bytes from the i-th on. -/
def ckRun (kind : Nat) : Nat → Nat → List Byte → Nat
  | _, c, [] => c
  | i, c, b :: t => ckRun kind (i + 1) (ckStep kind i c b) t

/-! ### Completion, slag and abort (R472, R477, R483) -/

/-- CKSUM and STATUS are written back (R472, R477). -/
def State.ldlWriteBack (s : State) (n st cause : Nat) : State :=
  let a := (s.reg (Reg.ldlChCur n)).toNat
  let s := s.setWord (a + 0x10) (s.reg (Reg.ldlChPcksum n))
  let s := s.setWord (a + 0x14) (BitVec.ofNat 32 (st + cause * 16 + n * 256))
  s.setLdlCh n { s.ldlCh n with moving := false }

/-- The descriptor in progress completes (R477). -/
def State.ldlComplete (s : State) (n : Nat) : State :=
  let w := (s.ldlCh n).words
  let s := s.ldlWriteBack n 1 0
  let s := s.setReg (Reg.ldlChDone n) (s.reg (Reg.ldlChCur n))
  let s := s.incWrap (Reg.ldlChDesccnt n)
  let s := if bitOf (w.getD 2 0) 28 then s.ldlEntry n 1 0 (w.getD 3 0) else s
  s.ldlNext n

/-- The descriptor in progress is slagged with a cause (R472, R477, R488, R489). -/
def State.ldlSlag (s : State) (n cause : Nat) : State :=
  let w := (s.ldlCh n).words
  let s := s.ldlWriteBack n 2 cause
  let s := s.incWrap (Reg.ldlChDesccnt n)
  let s := ((s.setRb (Reg.ldlChStat n) 6 true).setRf (Reg.ldlChStat n) 8 4 cause).incSat Reg.ldlSlagcnt 1
  let s := if cause = 5 then s else s.fault 0x0C01 (n * 256 + cause)
  s.ldlEntry n 2 cause (w.getD 3 0)

/-- Are bursts of a channel read and not yet written? -/
def State.ldlBuffered (s : State) (n : Nat) : Bool := s.ldl.buf.any (fun b => b.1 == n)

/-- An abort (R483, R490): bursts read are discarded, the descriptor in progress is slagged, the channel is IDLE and its LINK is not
followed. -/
def State.ldlAbort (s : State) (n : Nat) : State :=
  if s.ldlState n = 0 then s
  else
    let s := { s with ldl := { s.ldl with buf := s.ldl.buf.filter (fun b => b.1 != n) } }
    let s := if (s.ldlCh n).moving then s.ldlSlag n 5 else s
    let s := s.setLdlCh n { s.ldlCh n with fetch := none, moving := false, link := false }
    let s := (s.setRb (Reg.ldlChStat n) 3 false).setLdlState n 0
    { s with ldl := { s.ldl with replay := s.ldl.replay.filter (fun c => c != n) } }

/-- A pause (R481, R490): PAUSING while bursts of the channel are still to be written, or its discarded transfers wait for replay. -/
def State.ldlPause (s : State) (n : Nat) : State :=
  match s.ldlState n with
  | 1 => s.setLdlState n (if s.ldlBuffered n || s.ldl.replay.contains n then 3 else 4)
  | 2 => s.setLdlState n 4
  | _ => s

/-- A resume (R482). A channel that was parked and finds the end mark stays PARKED, and a doorbell that waited is spent on that read
(R478). -/
def State.ldlResume (s : State) (n : Nat) : State :=
  match s.ldlState n with
  | 3 => s.setLdlState n 1
  | 4 =>
    let c := s.ldlCh n
    if c.fetch.isSome || c.moving || c.link then s.setLdlState n 1
    else
      let s := s.setLdlState n 2
      let d := (s.reg (Reg.ldlChDone n)).toNat
      if d = 0 || s.word (d + 0xC) = 1 then s.setRb (Reg.ldlChStat n) 3 false else s.ldlGoto n (s.word (d + 0xC))
  | _ => s

/-- A start (R487): DONE is 0 and DBPEND clear also where FIRST names no valid descriptor. -/
def State.ldlStart (s : State) (n : Nat) : State :=
  if s.ldlState n != 0 then s.setRb Reg.ldlStat 2 true
  else
    let a := (s.reg (Reg.ldlChFirst n)).toNat
    let s := (s.setReg (Reg.ldlChDone n) 0).setRb (Reg.ldlChStat n) 3 false
    if s.ldlAddrOk a then
      let s := s.setLdlState n 1
      s.setLdlCh n { s.ldlCh n with fetch := some a, moving := false, link := false }
    else ((s.setRb (Reg.ldlChStat n) 5 true).fire 31).fault 0x0C05 n

/-- A write of LDL_CHn_CTRL (R481-R483, R487). -/
def State.ldlCtrlWrite (s : State) (n : Nat) (v : Word) : State :=
  let was := s.rb (Reg.ldlChCtrl n) 1
  let lost := bitOf v 0 && (bitOf v 1 || bitOf v 2)
  let one := !bitOf v 1 && !bitOf v 2
  let s := s.setReg (Reg.ldlChCtrl n) (v &&& 0x72)
  let s := if lost then s.setRb Reg.ldlStat 2 true else s
  let s := if bitOf v 2 then s.ldlAbort n else s
  let s := match was, bitOf v 1 with
    | false, true => s.ldlPause n
    | true, false => s.ldlResume n
    | _, _ => s
  if bitOf v 0 && one then s.ldlStart n else s

/-- A write of LDL_CHn_DOORBELL (R479). A parked channel that still holds its ring 25 entry keeps it as DBPEND (R490). -/
def State.ldlDoorbell (s : State) (n : Nat) : State :=
  let d := (s.reg (Reg.ldlChDone n)).toNat
  match s.ldlState n with
  | 0 => s.setRb Reg.ldlStat 2 true
  | 2 =>
    if d = 0 then s.setRb Reg.ldlStat 2 true
    else if s.ldlHeld n then s.setRb (Reg.ldlChStat n) 3 true
    else if s.word (d + 0xC) = 1 then s else s.ldlGoto n (s.word (d + 0xC))
  | _ => s.setRb (Reg.ldlChStat n) 3 true

/-- A write of a channel's control register by an initiator. -/
def State.ldlGuard (s : State) (who : Init) (n addr : Nat) (f : State → State) : State :=
  if n < 16 then s.guardWrite who 5 addr f else s

/-- LADLE_START (R487): the other fields of CTRL as they stand. -/
def execLadleStart (who : Init) (n : Nat) (s : State) : Host.Outcome State Fault Refusal :=
  (s.ldlGuard who n (Reg.ldlChCtrl n) (fun s => s.ldlCtrlWrite n ((s.reg (Reg.ldlChCtrl n) &&& 0x72) ||| 1))).done

/-- LADLE_PAUSE (R481). -/
def execLadlePause (who : Init) (n : Nat) (s : State) : Host.Outcome State Fault Refusal :=
  (s.ldlGuard who n (Reg.ldlChCtrl n) (fun s => s.ldlCtrlWrite n ((s.reg (Reg.ldlChCtrl n) &&& 0x70) ||| 2))).done

/-- LADLE_RESUME (R482). -/
def execLadleResume (who : Init) (n : Nat) (s : State) : Host.Outcome State Fault Refusal :=
  (s.ldlGuard who n (Reg.ldlChCtrl n) (fun s => s.ldlCtrlWrite n (s.reg (Reg.ldlChCtrl n) &&& 0x70))).done

/-- LADLE_ABORT (R483). -/
def execLadleAbort (who : Init) (n : Nat) (s : State) : Host.Outcome State Fault Refusal :=
  (s.ldlGuard who n (Reg.ldlChCtrl n) (fun s => s.ldlCtrlWrite n ((s.reg (Reg.ldlChCtrl n) &&& 0x72) ||| 4))).done

/-- LADLE_DOORBELL (R479). -/
def execLadleDoorbell (who : Init) (n : Nat) (s : State) : Host.Outcome State Fault Refusal :=
  (s.ldlGuard who n (Reg.ldlChDoorbell n) (fun s => s.behind who (Reg.ldlChDoorbell n) 0 (fun s => s.ldlDoorbell n))).done

/-- LDL_COUNTER_READ: LDL_BUSERRCNT, LDL_TRANSCNT and LDL_SLAGCNT (k = 0, 1, 2). -/
def execLdlCounterRead (who : Init) (k : Nat) (s : State) : Host.Outcome State Fault Refusal :=
  (s.readClear who 5 (Reg.ldlBuserrcnt + 4 * (k % 3)) 0xFFFFFFFF).done

/-- LDL_STAT as it reads: ACTIVE counts the channels in RUN or PAUSING, saturating at 15. -/
def State.ldlStatWord (s : State) : Word :=
  let n := ((List.range 16).filter (fun c => s.ldlState c == 1 || s.ldlState c == 3)).length
  putFld (s.reg Reg.ldlStat) 16 4 (min 15 n)

/-! ### Bursts (R467, R469) -/

/-- The bytes of a channel that are read and not yet written. -/
def State.ldlAhead (s : State) (n : Nat) : Nat := ((s.ldl.buf.filter (fun b => b.1 == n)).map (fun b => b.2.length)).sum

/-- Where the next read of a channel stands: source, destination and bytes left, ahead of the registers by the bursts in the buffer
(R469). -/
def State.ldlNextRead (s : State) (n : Nat) : Nat × Nat × Nat :=
  let lf := (s.ldlCh n).words.getD 2 0
  let k := s.ldlAhead n
  ((s.reg (Reg.ldlChCurSrc n)).toNat + (if bitOf lf 26 then 0 else k),
   (s.reg (Reg.ldlChCurDst n)).toNat + (if bitOf lf 27 || bitOf lf 29 then 0 else k), s.rf (Reg.ldlChRemain n) 0 24 - k)

/-- The bytes of the next burst of a channel (R467). -/
def State.ldlBurstLen (s : State) (n : Nat) : Nat :=
  let lf := (s.ldlCh n).words.getD 2 0
  let p := s.ldlNextRead n
  let b := min p.2.2 64
  let b := if bitOf lf 26 then b else min b (64 - p.1 % 64)
  if bitOf lf 27 || bitOf lf 29 then b else min b (64 - p.2.1 % 64)

/-- The widest aligned transfers of a range (R467): address and bytes of each. The first number bounds how many there are. -/
def pieces : Nat → Nat → Nat → List (Nat × Nat)
  | 0, _, _ => []
  | k + 1, a, n =>
    if n = 0 then []
    else
      let w := if a % 4 = 0 && 4 ≤ n then 4 else if a % 2 = 0 && 2 ≤ n then 2 else 1
      (a, w) :: pieces k (a + w) (n - w)

/-- The transfers of one side of a burst: words of one location under SFIX or DFIX, and words everywhere where either is set. -/
def burstPieces (fixed words : Bool) (a n : Nat) : List (Nat × Nat) :=
  if fixed then List.replicate (n / 4) (a, 4)
  else if words then (List.range (n / 4)).map (fun i => (a + 4 * i, 4))
  else pieces 64 a n

/-- The transfers that write the oldest burst of a channel, none under CKONLY. -/
def State.ldlWritePieces (s : State) (n len : Nat) : List (Nat × Nat) :=
  let lf := (s.ldlCh n).words.getD 2 0
  if bitOf lf 29 then [] else burstPieces (bitOf lf 27) (bitOf lf 26 || bitOf lf 27) (s.reg (Reg.ldlChCurDst n)).toNat len

/-- The bytes of a burst cut into its transfers: address and bytes of each. -/
def cutPieces : List (Nat × Nat) → List Byte → List (Nat × List Byte)
  | [], _ => []
  | (a, w) :: t, d => (a, d.take w) :: cutPieces t (d.drop w)

/-- Does the write of the oldest burst wait for a transaction of the Knab store (R503)? -/
def State.ldlStalls (s : State) (n len : Nat) : Bool :=
  (s.ldlWritePieces n len).any (fun p =>
    0x50002000 ≤ p.1 && p.1 < 0x50010000 && s.knabWritable p.1 && (s.knabTarget ((p.1 - 0x50000000) / 64)).isSome)

/-- A supply failure may cut the oldest burst short on its way into the Knab store (R498, R508): a free number of its transfers is
written. -/
def State.ldlTorn (s : State) : State :=
  match s.ldl.buf with
  | [] => s
  | (n, d) :: _ =>
    let l := (cutPieces (s.ldlWritePieces n d.length) d).filter (fun p => 0x50002000 ≤ p.1 && p.1 < 0x50010000 && s.knabWritable p.1)
    if s.ldlStalls n d.length then s
    else
      let res := s.drawNat (l.length + 1)
      res.2.knabPuts (l.take res.1)

/-- The host takes LDL (R490): every channel is aborted. -/
def State.ldlHandover (s : State) : State := s.forEach (List.range 16) State.ldlAbort

/-- Entry to chill (R492): every channel in RUN is paused. Chill entry has waited till nothing of any is in flight. -/
def State.ldlChill (s : State) : State :=
  let run := (List.range 16).filter (fun n => s.ldlState n == 1)
  let s := s.forEach run (fun s n => s.setLdlState n 4)
  { s with ldl := { s.ldl with chilled := run } }

/-- Does a byte range, in data RAM or one of its aliases, touch a data bank that lost its contents (R409, R492)? -/
def rangeLost (lost : Nat) (a n : Nat) : Bool :=
  let a := if 0x21000000 ≤ a && a < 0x21040000 then a - 0x1000000 else if 0x22000000 ≤ a && a < 0x22040000 then a - 0x2000000 else a
  (List.range 8).any (fun b => lost.testBit b && a < 0x20000000 + 0x8000 * (b + 1) && 0x20000000 + 0x8000 * b < a + max 1 n)

/-- Does a channel's descriptor, source or destination lie in a lost bank (R492)? -/
def State.ldlLost (s : State) (lost n : Nat) : Bool :=
  let c := s.ldlCh n
  let d := match c.fetch with | some a => a | none => (s.reg (Reg.ldlChCur n)).toNat
  let lf := c.words.getD 2 0
  let len := fld lf 0 24
  rangeLost lost d 32 ||
    (c.moving && (rangeLost lost (c.words.getD 0 0).toNat (if bitOf lf 26 then 4 else len) ||
      (!bitOf lf 29 && rangeLost lost (c.words.getD 1 0).toNat (if bitOf lf 27 then 4 else len))))

/-- Leaving chill (R492): each channel that chill paused resumes, or stops with FETCHERR where its data is lost. -/
def State.ldlWake (s : State) (lost : Nat) : State :=
  let l := s.ldl.chilled
  let s := { s with ldl := { s.ldl with chilled := [] } }
  s.forEach l (fun s n =>
    if s.ldlLost lost n then
      let s := s.setLdlCh n { s.ldlCh n with fetch := none, moving := false, link := false }
      (((s.setLdlState n 0).setRb (Reg.ldlChStat n) 5 true).fire 31).fault 0x0C05 n
    else s.setLdlState n 1)

end Sys2Proof.Machine
end

