-- ==== Sys2Proof/Machine/Crypto.lean ====
section
/-! DEFINITION. The ciphers and hashes that the spec names from their standards (log entry 8): AES-128-CMAC of NIST SP 800-38B (R310, R313), SHA-512 of FIPS 180-4 (R279, R388, R391) and Ed25519 of RFC 8032 (R387, R388). -/

namespace Sys2Proof.Machine

/-! ### AES-128 and CMAC (R310, R313) -/

/-- The substitution box of AES. -/
def aesSbox : List Nat :=
  [0x63, 0x7C, 0x77, 0x7B, 0xF2, 0x6B, 0x6F, 0xC5, 0x30, 0x01, 0x67, 0x2B, 0xFE, 0xD7, 0xAB, 0x76] ++
  [0xCA, 0x82, 0xC9, 0x7D, 0xFA, 0x59, 0x47, 0xF0, 0xAD, 0xD4, 0xA2, 0xAF, 0x9C, 0xA4, 0x72, 0xC0] ++
  [0xB7, 0xFD, 0x93, 0x26, 0x36, 0x3F, 0xF7, 0xCC, 0x34, 0xA5, 0xE5, 0xF1, 0x71, 0xD8, 0x31, 0x15] ++
  [0x04, 0xC7, 0x23, 0xC3, 0x18, 0x96, 0x05, 0x9A, 0x07, 0x12, 0x80, 0xE2, 0xEB, 0x27, 0xB2, 0x75] ++
  [0x09, 0x83, 0x2C, 0x1A, 0x1B, 0x6E, 0x5A, 0xA0, 0x52, 0x3B, 0xD6, 0xB3, 0x29, 0xE3, 0x2F, 0x84] ++
  [0x53, 0xD1, 0x00, 0xED, 0x20, 0xFC, 0xB1, 0x5B, 0x6A, 0xCB, 0xBE, 0x39, 0x4A, 0x4C, 0x58, 0xCF] ++
  [0xD0, 0xEF, 0xAA, 0xFB, 0x43, 0x4D, 0x33, 0x85, 0x45, 0xF9, 0x02, 0x7F, 0x50, 0x3C, 0x9F, 0xA8] ++
  [0x51, 0xA3, 0x40, 0x8F, 0x92, 0x9D, 0x38, 0xF5, 0xBC, 0xB6, 0xDA, 0x21, 0x10, 0xFF, 0xF3, 0xD2] ++
  [0xCD, 0x0C, 0x13, 0xEC, 0x5F, 0x97, 0x44, 0x17, 0xC4, 0xA7, 0x7E, 0x3D, 0x64, 0x5D, 0x19, 0x73] ++
  [0x60, 0x81, 0x4F, 0xDC, 0x22, 0x2A, 0x90, 0x88, 0x46, 0xEE, 0xB8, 0x14, 0xDE, 0x5E, 0x0B, 0xDB] ++
  [0xE0, 0x32, 0x3A, 0x0A, 0x49, 0x06, 0x24, 0x5C, 0xC2, 0xD3, 0xAC, 0x62, 0x91, 0x95, 0xE4, 0x79] ++
  [0xE7, 0xC8, 0x37, 0x6D, 0x8D, 0xD5, 0x4E, 0xA9, 0x6C, 0x56, 0xF4, 0xEA, 0x65, 0x7A, 0xAE, 0x08] ++
  [0xBA, 0x78, 0x25, 0x2E, 0x1C, 0xA6, 0xB4, 0xC6, 0xE8, 0xDD, 0x74, 0x1F, 0x4B, 0xBD, 0x8B, 0x8A] ++
  [0x70, 0x3E, 0xB5, 0x66, 0x48, 0x03, 0xF6, 0x0E, 0x61, 0x35, 0x57, 0xB9, 0x86, 0xC1, 0x1D, 0x9E] ++
  [0xE1, 0xF8, 0x98, 0x11, 0x69, 0xD9, 0x8E, 0x94, 0x9B, 0x1E, 0x87, 0xE9, 0xCE, 0x55, 0x28, 0xDF] ++
  [0x8C, 0xA1, 0x89, 0x0D, 0xBF, 0xE6, 0x42, 0x68, 0x41, 0x99, 0x2D, 0x0F, 0xB0, 0x54, 0xBB, 0x16]

/-- SubBytes of one byte. -/
def aesSub (b : Byte) : Byte := BitVec.ofNat 8 (aesSbox.getD b.toNat 0)

/-- A byte times x in the field of AES. -/
def aesTwice (b : Byte) : Byte := if b.toNat < 128 then b <<< 1 else (b <<< 1) ^^^ 0x1B

/-- Bytes of two lists XORed in pairs. -/
def xorBytes (a b : List Byte) : List Byte := List.zipWith (· ^^^ ·) a b

/-- The next round key from the last one and the round constant. -/
def aesNextKey (k : List Byte) (rcon : Byte) : List Byte :=
  let t := [aesSub (k.getD 13 0) ^^^ rcon, aesSub (k.getD 14 0), aesSub (k.getD 15 0), aesSub (k.getD 12 0)]
  let a := xorBytes (slice k 0 4) t
  let b := xorBytes (slice k 4 4) a
  let c := xorBytes (slice k 8 4) b
  a ++ b ++ c ++ xorBytes (slice k 12 4) c

/-- The round constants of AES-128. -/
def aesRcon : List Byte := [0x01, 0x02, 0x04, 0x08, 0x10, 0x20, 0x40, 0x80, 0x1B, 0x36]

/-- ShiftRows on a block in column order. -/
def aesShift (l : List Byte) : List Byte := [0, 5, 10, 15, 4, 9, 14, 3, 8, 13, 2, 7, 12, 1, 6, 11].map (fun i => l.getD i 0)

/-- MixColumns of one column. -/
def aesMixColumn (a b c d : Byte) : List Byte :=
  [aesTwice a ^^^ aesTwice b ^^^ b ^^^ c ^^^ d, a ^^^ aesTwice b ^^^ aesTwice c ^^^ c ^^^ d,
   a ^^^ b ^^^ aesTwice c ^^^ aesTwice d ^^^ d, aesTwice a ^^^ a ^^^ b ^^^ c ^^^ aesTwice d]

/-- MixColumns of a block. -/
def aesMix (l : List Byte) : List Byte :=
  (List.range 4).flatMap (fun c => aesMixColumn (l.getD (4 * c) 0) (l.getD (4 * c + 1) 0) (l.getD (4 * c + 2) 0) (l.getD (4 * c + 3) 0))

/-- The rounds of AES-128 from the block and its round key: the last one mixes no columns. -/
def aesRounds : List Byte → List Byte → List Byte → List Byte
  | [], _, x => x
  | r :: rest, k, x =>
    let k := aesNextKey k r
    let y := aesShift (x.map aesSub)
    aesRounds rest k (xorBytes (if rest.isEmpty then y else aesMix y) k)

/-- AES-128 of one block under a key of 16 bytes. -/
def aes128 (key x : List Byte) : List Byte :=
  let k := slice key 0 16
  aesRounds aesRcon k (xorBytes (slice x 0 16) k)

/-- A subkey of CMAC: the block times x in the field of 128 bits. -/
def cmacDouble (l : List Byte) : List Byte :=
  let v := ofBe l
  beBytes 16 ((if v < 2 ^ 127 then 2 * v else (2 * v) ^^^ 0x87) % 2 ^ 128)

/-- CMAC from the chaining value on: whole blocks, then the last one with its subkey. -/
def cmacBlocks (key k1 k2 : List Byte) : Nat → List Byte → List Byte → List Byte
  | 0, c, _ => c
  | n + 1, c, m =>
    if m.length ≤ 16 then
      let last := if m.length = 16 then xorBytes m k1 else xorBytes (slice (m ++ [0x80]) 0 16) k2
      aes128 key (xorBytes c last)
    else cmacBlocks key k1 k2 n (aes128 key (xorBytes c (m.take 16))) (m.drop 16)

/-- AES-128-CMAC of a message under a key, bytes first to last. -/
def aesCmac (key m : List Byte) : List Byte :=
  let k1 := cmacDouble (aes128 key (List.replicate 16 0))
  cmacBlocks key k1 (cmacDouble k1) (m.length / 16 + 1) (List.replicate 16 0) m

/-! ### SHA-512 (R279, R388, R391) -/

/-- The round constants of SHA-512. -/
def shaK : List (BitVec 64) :=
  [0x428a2f98d728ae22, 0x7137449123ef65cd, 0xb5c0fbcfec4d3b2f, 0xe9b5dba58189dbbc] ++
  [0x3956c25bf348b538, 0x59f111f1b605d019, 0x923f82a4af194f9b, 0xab1c5ed5da6d8118] ++
  [0xd807aa98a3030242, 0x12835b0145706fbe, 0x243185be4ee4b28c, 0x550c7dc3d5ffb4e2] ++
  [0x72be5d74f27b896f, 0x80deb1fe3b1696b1, 0x9bdc06a725c71235, 0xc19bf174cf692694] ++
  [0xe49b69c19ef14ad2, 0xefbe4786384f25e3, 0x0fc19dc68b8cd5b5, 0x240ca1cc77ac9c65] ++
  [0x2de92c6f592b0275, 0x4a7484aa6ea6e483, 0x5cb0a9dcbd41fbd4, 0x76f988da831153b5] ++
  [0x983e5152ee66dfab, 0xa831c66d2db43210, 0xb00327c898fb213f, 0xbf597fc7beef0ee4] ++
  [0xc6e00bf33da88fc2, 0xd5a79147930aa725, 0x06ca6351e003826f, 0x142929670a0e6e70] ++
  [0x27b70a8546d22ffc, 0x2e1b21385c26c926, 0x4d2c6dfc5ac42aed, 0x53380d139d95b3df] ++
  [0x650a73548baf63de, 0x766a0abb3c77b2a8, 0x81c2c92e47edaee6, 0x92722c851482353b] ++
  [0xa2bfe8a14cf10364, 0xa81a664bbc423001, 0xc24b8b70d0f89791, 0xc76c51a30654be30] ++
  [0xd192e819d6ef5218, 0xd69906245565a910, 0xf40e35855771202a, 0x106aa07032bbd1b8] ++
  [0x19a4c116b8d2d0c8, 0x1e376c085141ab53, 0x2748774cdf8eeb99, 0x34b0bcb5e19b48a8] ++
  [0x391c0cb3c5c95a63, 0x4ed8aa4ae3418acb, 0x5b9cca4f7763e373, 0x682e6ff3d6b2b8a3] ++
  [0x748f82ee5defb2fc, 0x78a5636f43172f60, 0x84c87814a1f0ab72, 0x8cc702081a6439ec] ++
  [0x90befffa23631e28, 0xa4506cebde82bde9, 0xbef9a3f7b2c67915, 0xc67178f2e372532b] ++
  [0xca273eceea26619c, 0xd186b8c721c0c207, 0xeada7dd6cde0eb1e, 0xf57d4f7fee6ed178] ++
  [0x06f067aa72176fba, 0x0a637dc5a2c898a6, 0x113f9804bef90dae, 0x1b710b35131c471b] ++
  [0x28db77f523047d84, 0x32caab7b40c72493, 0x3c9ebe0a15c9bebc, 0x431d67c49c100d4c] ++
  [0x4cc5d4becb3e42b6, 0x597f299cfc657e2a, 0x5fcb6fab3ad6faec, 0x6c44198c4a475817]

/-- The initial hash value of SHA-512. -/
def shaH : List (BitVec 64) :=
  [0x6a09e667f3bcc908, 0xbb67ae8584caa73b, 0x3c6ef372fe94f82b, 0xa54ff53a5f1d36f1] ++
  [0x510e527fade682d1, 0x9b05688c2b3e6c1f, 0x1f83d9abfb41bd6b, 0x5be0cd19137e2179]

/-- The next word of the message schedule; `w` holds the last 16, newest first. -/
def shaNext (w : List (BitVec 64)) : BitVec 64 :=
  let a := w.getD 14 0
  let b := w.getD 1 0
  ((b.rotateRight 19) ^^^ (b.rotateRight 61) ^^^ (b >>> 6)) + w.getD 6 0 +
    ((a.rotateRight 1) ^^^ (a.rotateRight 8) ^^^ (a >>> 7)) + w.getD 15 0

/-- One round on the eight working variables with the word of the schedule and its constant. -/
def shaRound (v : List (BitVec 64)) (w k : BitVec 64) : List (BitVec 64) :=
  match v with
  | [a, b, c, d, e, f, g, h] =>
    let t1 := h + ((e.rotateRight 14) ^^^ (e.rotateRight 18) ^^^ (e.rotateRight 41)) + ((e &&& f) ^^^ (~~~e &&& g)) + k + w
    let t2 := ((a.rotateRight 28) ^^^ (a.rotateRight 34) ^^^ (a.rotateRight 39)) + ((a &&& b) ^^^ (a &&& c) ^^^ (b &&& c))
    [t1 + t2, a, b, c, d + t1, e, f, g]
  | _ => v

/-- The rounds of one block: constants left, words left of the block, the last 16 words newest first, the working variables. -/
def shaRounds : List (BitVec 64) → List (BitVec 64) → List (BitVec 64) → List (BitVec 64) → List (BitVec 64)
  | [], _, _, v => v
  | k :: ks, [], w, v => let x := shaNext w; shaRounds ks [] (x :: w.take 15) (shaRound v x k)
  | k :: ks, x :: xs, w, v => shaRounds ks xs (x :: w.take 15) (shaRound v x k)

/-- One block of 128 bytes joins the hash value. -/
def shaBlock (h : List (BitVec 64)) (m : List Byte) : List (BitVec 64) :=
  let ws := (List.range 16).map (fun i => BitVec.ofNat 64 (ofBe (slice m (8 * i) 8)))
  List.zipWith (· + ·) h (shaRounds shaK ws [] h)

/-- The blocks of a padded message. -/
def shaBlocks : Nat → List (BitVec 64) → List Byte → List (BitVec 64)
  | 0, h, _ => h
  | n + 1, h, m => if m.isEmpty then h else shaBlocks n (shaBlock h (m.take 128)) (m.drop 128)

/-- SHA-512 of a message. -/
def sha512 (m : List Byte) : List Byte :=
  let pad := (111 + 128 - m.length % 128) % 128
  let p := m ++ [0x80] ++ List.replicate pad 0 ++ beBytes 16 (8 * m.length)
  (shaBlocks (p.length / 128) shaH p).flatMap (fun w => beBytes 8 w.toNat)

/-! ### Ed25519 (R387, R388) -/

/-- The prime of the curve. -/
def edP : Nat := 2 ^ 255 - 19

/-- The order of the base point. -/
def edL : Nat := 2 ^ 252 + 27742317777372353535851937790883648493

/-- A power modulo the prime, over the bits of the exponent from the lowest on. -/
def edPow : Nat → Nat → Nat → Nat
  | 0, _, _ => 1
  | n + 1, b, e => (if e % 2 = 1 then b * edPow n (b * b % edP) (e / 2) else edPow n (b * b % edP) (e / 2)) % edP

/-- The constant d of the curve, -121665/121666. -/
def edD : Nat := 37095705934669439343138083508754565189542113879843219016388785533085940283555

/-- A point in extended coordinates. -/
structure EdPoint where
  x : Nat := 0
  y : Nat := 1
  z : Nat := 1
  t : Nat := 0
deriving DecidableEq, Repr

/-- The sum of two points. -/
def edAdd (p q : EdPoint) : EdPoint :=
  let a := (p.y + edP - p.x) * (q.y + edP - q.x) % edP
  let b := (p.y + p.x) * (q.y + q.x) % edP
  let c := 2 * p.t * q.t % edP * edD % edP
  let d := 2 * p.z * q.z % edP
  let e := (b + edP - a) % edP
  let f := (d + edP - c) % edP
  let g := (d + c) % edP
  let h := (b + a) % edP
  { x := e * f % edP, y := g * h % edP, z := f * g % edP, t := e * h % edP }

/-- A point times a number, over the number's bits from the lowest on. -/
def edMul : Nat → EdPoint → Nat → EdPoint
  | 0, _, _ => {}
  | n + 1, p, k => let r := edMul n (edAdd p p) (k / 2); if k % 2 = 1 then edAdd p r else r

/-- Do two points agree? -/
def edSame (p q : EdPoint) : Bool := p.x * q.z % edP == q.x * p.z % edP && p.y * q.z % edP == q.y * p.z % edP

/-- The point of an encoding of 32 bytes; none where it spells no point. -/
def edDecode (l : List Byte) : Option EdPoint :=
  let v := ofLe (slice l 0 32)
  let sign := v / 2 ^ 255 % 2
  let y := v % 2 ^ 255
  if edP ≤ y then none
  else
    let u := (y * y + edP - 1) % edP
    let w := (edD * (y * y % edP) + 1) % edP
    let w3 := w * w % edP * w % edP
    let x := u * w3 % edP * edPow 255 (u * w3 % edP * (w3 * w % edP) % edP) ((edP - 5) / 8) % edP
    let c := w * (x * x % edP) % edP
    let x? := if c = u then some x else if c = (edP - u) % edP then some (x * edPow 255 2 ((edP - 1) / 4) % edP) else none
    match x? with
    | none => none
    | some x =>
      if x = 0 && sign = 1 then none
      else
        let x := if x % 2 = sign then x else edP - x
        some { x := x, y := y, z := 1, t := x * y % edP }

/-- The base point. -/
def edBase : EdPoint :=
  { x := 15112221349535400772501151409588531511454012693041857206046113283949847762202,
    y := 46316835694926478169428394003475163141307993866256225615783033603165251855960, z := 1,
    t := 15112221349535400772501151409588531511454012693041857206046113283949847762202 *
      46316835694926478169428394003475163141307993866256225615783033603165251855960 % edP }

/-- Does an Ed25519 signature verify: key, message, signature? The check multiplies by the cofactor, which RFC 8032 gives first. -/
def ed25519Verify (key m sig : List Byte) : Bool :=
  let s := ofLe (slice sig 32 32)
  match edDecode key, edDecode (slice sig 0 32) with
  | some a, some r =>
    let k := ofLe (sha512 (slice sig 0 32 ++ slice key 0 32 ++ m)) % edL
    s < edL && sig.length == 64 && key.length == 32 && edSame (edMul 256 edBase (8 * s)) (edAdd (edMul 4 r 8) (edMul 256 a (8 * k)))
  | _, _ => false

end Sys2Proof.Machine
end

