-- ==== Sys2Proof/Machine/Reset.lean ====
section
/-! DEFINITION. What every reset does (R166, R377, R378, R504, R521, R618): one operation that all reset sources share. -/

namespace Sys2Proof.Machine

/-- The registers of the RTC domain (R525). -/
def rtcDomainRegs : List Nat :=
  [Reg.rtcSec, Reg.rtcMin, Reg.rtcHour, Reg.rtcDate, Reg.rtcWday, Reg.rtcMonth, Reg.rtcYear, Reg.rtcCent, Reg.rtcCtrl,
   Reg.rtcHaltticks, Reg.rtcTrim, Reg.rtcAlm0T, Reg.rtcAlm0D, Reg.rtcAlm1T, Reg.rtcAlm1D]

/-- The trace registers that a reset other than power-on keeps (R166). -/
def traceKept : List Nat :=
  (List.range 4).flatMap (fun t => [Reg.cenTrcWptr t, Reg.cenTrcTpos t, Reg.cenTrcTtime t])

/-- Does a reset keep a register: the RTC domain always; the straps, the kept trace registers and what the recall gave KNB unless
the reset is a power-on (R166, R378, R381, R521)? -/
def resetKeeps (power : Bool) (a : Nat) : Bool :=
  rtcDomainRegs.contains a || (!power && (a == Reg.pwrStrap || a == Reg.knbJseq || traceKept.contains a))

/-- The slice corrections take their fuse values (R100; log entry 4). -/
def State.loadSlices (s : State) : State :=
  s.forEach (List.range 4) (fun s n =>
    if n < s.nSlices then
      (s.setReg (Reg.acqSliceCorr n) (BitVec.ofNat 32 (s.fuse.corr.getD n 0))).setReg (Reg.acqSliceSkew n) (BitVec.ofNat 32 (s.fuse.skew.getD n 0))
    else s)

/-- The registers that take fuse values at every reset (R100, R588, R589; log entry 4). -/
def State.loadFuses (s : State) : State :=
  let s := s.loadSlices
  let s := s.setReg Reg.tboTrim (BitVec.ofNat 32 (s.fuse.tboTrim % 65536))
  let s := s.setReg Reg.thmVreftrim (BitVec.ofNat 32 (ofIntN 16 s.fuse.vrefOffset))
  (s.forEach (List.range 8) (fun s i => s.setReg (Reg.tboTtab i) (BitVec.ofNat 32 (s.fuse.tboTable.getD i 0 % 65536)))).tboFollow

/-- TWN_STAT.POS of the straps (R13, R332): a twin strap without TWN, or the value 3, is a forced SOLO. -/
def State.twinPosOf (s : State) (strap : Nat) : Nat :=
  if strap = 0 then 0 else if strap = 3 || !s.present 16 then 3 else strap

/-- A chip strapped COPE or DRAG shows the levels of TWN_ALIVE_IN and TWN_OWN in TWN_STAT; a SOLO chip ignores them (R333, R336). -/
def State.linesShow (s : State) : State :=
  if s.isTwin then (s.setRb Reg.twnStat 7 s.twn.aliveIn).setRb Reg.twnStat 8 (s.twn.ownIn && !s.rb Reg.twnStat 9)
  else (s.setRb Reg.twnStat 7 false).setRb Reg.twnStat 8 true

/-- The lines of the flask follow the pins and this chip's own pull: their levels as TWN_STAT shows them, and since when each condition on
them holds (R336, R340, R341, R343). -/
def State.lineRefresh (s : State) : State :=
  let own := s.twn.ownIn && !s.rb Reg.twnStat 9
  let alive := s.twn.aliveIn
  let stuck := !own && !alive && !s.rb Reg.twnStat 9
  let keep := fun (b : Bool) (old : Option Nat) => if b then some (old.getD s.now) else none
  { s.linesShow with
    twn := { s.twn with ownHighAt := keep own s.twn.ownHighAt, aliveLowAt := keep (!alive) s.twn.aliveLowAt,
                        bothLowAt := keep stuck s.twn.bothLowAt, stuckDone := stuck && s.twn.stuckDone } }

/-- Memory over a reset: the Knab store stays (R378); a power-on loses the rest, and any other reset keeps what step 4 will
clear and the trace RAM (R166); the ACQ RAM reads 0 (R97). -/
def resetMem (power : Bool) (m : List Host.Cell) : List Host.Cell :=
  Tab.keep m (fun a => (0x50000000 ≤ a && a < 0x50010400) || (!power && a < 0x70000000))

/-- A reset with a cause (R377, R378): every register takes its reset value but those a chapter keeps; TBCOUNT is 0 and held;
queues, engines and committed sets start afresh; both RTC snapshots are captured (R529); a journal commit completes first unless the cause is a power-on (R504). A root key
written before stands. A chip that held OWN releases it and says why (R338, R345). -/
def State.resetAs (s : State) (cause : Nat) : State :=
  let power := cause = 1
  let s := if power then s else s.knabFinish
  let warm := if power then 0 else min 0xFFFF (s.rf Reg.pwrRstcause 16 16 + 1)
  let hlost := !power && !s.log.pending.isEmpty
  let supply := s.rf Reg.pwrStat 3 3
  let rtcStat := s.reg Reg.rtcStat &&& 0xEF
  let bor := !power && s.rb Reg.pwrRstcause 3
  let mode := s.rf Reg.knbStat 1 1
  let release := match cause with
    | 5 => 3
    | 6 => 4
    | _ => 1
  let tx := if s.rb Reg.twnStat 9 && !power then [.release release] else []
  let r : State :=
    { pending := s.pending, variant := s.variant, fuse := s.fuse, regs := Tab.keep s.regs (resetKeeps power),
      mem := resetMem power s.mem, now := s.now, free := s.free, lastRead := s.lastRead, held := [],
      log := { pending := [], hlost := hlost },
      tb := { count := 0, running := false, xtalOk := s.tb.xtalOk, onTable := false, phase := 0 },
      thm := {},
      rtc := { s.rtc with snapHost := {}, snapCore := {}, measStarted := false, measDone := false,
                          measCount := 0, measCycles := 0, termSum := 0, termN := 0, periods := [], lastError := 0 },
      knb := { s.knb with commit := none, weak := if power then [] else s.knb.weak, stalled := [], stalledInc := [], after := [], owed := [],
                          sliceNow := false, nvFault := false, nextSlice := 21600000, strokeMark := [], strokesDue := s.now + 14400000 },
      pwr := { good := s.pwr.good, held := none, nrstLow := s.pwr.nrstLow, rstout := false, rstoutDue := false, straps := s.pwr.straps,
               wdLast := s.now, shakeFrom := s.now, tripPeak := if cause = 5 then s.pwr.tripPeak else 0 },
      hst := {}, buses := [{}, {}, {}], polls := [], od := {}, nv := s.nv, net := {}, acq := {},
      cen := { trc := s.cen.trc.map (fun c => { written := if power then 0 else c.written }) }, act := {}, fan := {},
      zon := {}, kpd := {}, ldl := {},
      twn := { ownIn := s.twn.ownIn, aliveIn := s.twn.aliveIn, ownHighAt := if s.twn.ownIn then some s.now else none,
               aliveLowAt := if s.twn.aliveIn then none else some s.now,
               bothLowAt := if s.twn.ownIn || s.twn.aliveIn then none else some s.now, tx := tx } }
  let r := r.loadFuses
  let r := r.setReg Reg.pwrRstcause (BitVec.ofNat 32 (cause + (if bor then 8 else 0) + (if hlost then 16 else 0) + warm * 65536))
  let r := r.setRf Reg.pwrStat 3 3 supply
  let r := r.setReg Reg.rtcStat rtcStat
  let r := r.setRf Reg.knbStat 1 1 mode
  let r := r.setRf Reg.twnStat 0 2 (if power then 0 else s.twinPosOf (s.rf Reg.pwrStrap 0 2))
  (r.linesShow.rtcCapture .host).rtcCapture .runtime

/-- A reset that is held until its condition ends (R377): the part stays in reset. -/
def State.resetHeld (s : State) (cause : Nat) : State :=
  let s := s.resetAs cause
  { s with pwr := { s.pwr with held := some cause } }

/-- Step 1 of shakeout, at its reference time: the part runs, and the recall of step 2 begins (R383). -/
def State.shakeGo (s : State) : State := s.setRf Reg.pwrShake 0 4 2

/-- A reset that ends at once: shakeout runs from step 1 (R377). -/
def State.resetRun (s : State) (cause : Nat) : State := (s.resetAs cause).shakeGo

/-- The release of a held reset: shakeout runs from step 1, but not while NRST stays low (R377). -/
def State.resetRelease (s : State) : State :=
  if s.pwr.nrstLow then { s with pwr := { s.pwr with held := some 2 } }
  else ({ s with pwr := { s.pwr with held := none, shakeFrom := s.now, wdLast := s.now } } : State).shakeGo

end Sys2Proof.Machine
end

