-- ==== Sys2Proof/Machine/Pour.lean ====
section
/-! DEFINITION. The pour of images and their checks: blocks, completeness, R388 (09_field_network R323-R325, 11_power_reset_pour R387-R396). -/

namespace Sys2Proof.Machine

/-- The pour of an image kind: 0 the runtime image, else the configuration image. -/
def State.pourOf (s : State) (k : Nat) : PourSt := if k = 0 then s.pwr.pourRt else s.pwr.pourCf

def State.setPour (s : State) (k : Nat) (v : PourSt) : State :=
  if k = 0 then { s with pwr := { s.pwr with pourRt := v } } else { s with pwr := { s.pwr with pourCf := v } }

/-- PWR_POUR.RT or CF: 0 EMPTY, 1 ASSEMBLING, 2 COMPLETE, 3 CHECKING, 4 ACCEPTED. -/
def State.pourStatus (s : State) (k : Nat) : Nat := s.rf Reg.pwrPour (if k = 0 then 0 else 3) 3

def State.setPourStatus (s : State) (k v : Nat) : State := s.setRf Reg.pwrPour (if k = 0 then 0 else 3) 3 v

/-- PWR_POUR.LASTERR takes the result of a block or a GO (R394). -/
def State.pourErr (s : State) (e : Nat) : State := s.setRf Reg.pwrPour 18 4 e

/-- The blocks that a pour lacks, ascending. -/
def PourSt.missing (p : PourSt) : List Nat :=
  (List.range p.blocks).filter (fun b => !(p.held.any (fun h => h.1 == b)))

/-- PWR_POURNEXT follows a pour: its lowest missing block, 0xFFFF where none is held or none is missing. -/
def State.pourNext (s : State) (k : Nat) : State :=
  let p := s.pourOf k
  s.setRf Reg.pwrPournext (if k = 0 then 0 else 16) 16 (if p.held.isEmpty then 0xFFFF else p.missing.headD 0xFFFF)

/-- Does the part take pour messages: step 6 or 7 of shakeout, until both images are accepted (R396, R423)? -/
def State.pourOpen (s : State) : Bool :=
  s.rb Reg.pwrPour 7 && s.pwr.good && s.pwr.held.isNone && !(s.pourStatus 0 == 4 && s.pourStatus 1 == 4)

/-- The device's configuration group at the pour: the boot ROM finds it in the Knab store. -/
def State.pourGroup (s : State) : Nat :=
  match Tab.get odDefault s.nv.objs (odId 2 0 3) with
  | .num v => v.toNat
  | _ => 0

/-- The blocks and images of a kind are discarded (R324, R395). -/
def State.pourEmpty (s : State) (k : Nat) : State := ((s.setPour k {}).setPourStatus k 0).pourNext k

/-- A block under the checks of R324, in their order; LASTERR takes the outcome. `net`: the group is checked (R394). -/
def State.pourBlock (s : State) (net : Bool) (body : List Byte) : State :=
  let k := (body.getD 0 0).toNat
  let group := ofBe (slice body 2 2)
  let id := ofBe (slice body 4 4)
  let length := ofBe (slice body 8 4)
  let b := ofBe (slice body 12 2)
  let count := ofBe (slice body 14 2)
  let data := body.drop 20
  let p := s.pourOf k
  if k > 1 || s.pourStatus k ≥ 3 || (net && group != 0 && group != s.pourGroup) then s.pourErr 4
  else if crc32 data != ofBe (slice body 16 4) then s.pourErr 1
  else if count != (length + 1023) / 1024 then s.pourErr 2
  else if count ≤ b then s.pourErr 3
  else if data.length != (if b + 1 < count then 1024 else length - 1024 * (count - 1)) then s.pourErr 2
  else if !p.held.isEmpty && p.id == id && (p.length != length || p.blocks != count) then s.pourErr 2
  else
    let p : PourSt := if !p.held.isEmpty && p.id == id then p else { id := id, blocks := count, length := length }
    let p := if p.held.any (fun h => h.1 == b) then p else { p with held := p.held ++ [(b, data)] }
    let s := (s.setPour k p).setPourStatus k (if p.missing.isEmpty then 2 else 1)
    (s.pourNext k).pourErr 0

/-- The bytes of a complete pour, in block order. -/
def PourSt.assembled (p : PourSt) : List Byte :=
  (List.range p.blocks).flatMap (fun b => ((p.held.find? (fun h => h.1 == b)).map Prod.snd).getD [])

/-- A complete image goes to its check (R325, R394). -/
def State.pourCheck (s : State) (k : Nat) : State :=
  let p := s.pourOf k
  (s.setPour k { p with image := p.assembled }).setPourStatus k 3

/-- A GO for a kind (R394): the check starts where every block is held, and goes on or stands where it has started before; of an
unknown kind no block is held. -/
def State.pourStart (s : State) (k : Nat) : State :=
  if k > 1 || s.pourStatus k < 2 then s.pourErr 5
  else if s.pourStatus k = 2 then (s.pourErr 0).pourCheck k
  else s.pourErr 0

/-! ### The image check (R387-R389) -/

/-- A field of the image header, most significant byte first (R387). -/
def imgField (img : List Byte) (off n : Nat) : Nat := ofBe (slice img off n)

/-- The bit of a variant in an image's mask (R14). -/
def variantBit : Variant → Nat
  | .wv7264 => 0
  | .wv7248 => 1
  | .wv7232 => 2

/-- The address check of R388 order 6. -/
def imgAddrOk (img : List Byte) (k : Nat) : Bool :=
  let load := imgField img 12 4
  let entry := imgField img 16 4
  if k = 0 then
    load % 4 == 0 && 0x10000000 ≤ load && load + (img.length - 128) ≤ 0x100C0000 && entry % 4 == 0 && load ≤ entry &&
      entry < load + (img.length - 128)
  else load == 0 && entry == 0

/-- The key check of R388 order 7. -/
def State.imgKeyOk (s : State) (img : List Byte) (k : Nat) : Bool :=
  let key := slice img 28 32
  if k = 0 then slice (sha512 key) 0 16 == s.fuse.vendorHash else s.nv.custodianKey == some key

/-- The first check of R388 that an image fails, before the content check: its cause, or 0. -/
def State.imgCause (s : State) (img : List Byte) (k : Nat) : Nat :=
  let n := img.length
  let skip := k != 0 && s.nv.custodianKey.isNone
  if n < 128 || imgField img 8 4 != n || n > (if k = 0 then 655360 else 98304) then 1
  else if imgField img 0 4 != 0x57565049 then 2
  else if imgField img 4 1 != k then 3
  else if imgField img 5 1 != 1 || imgField img 6 2 != 0 || imgField img 60 4 != 0 then 4
  else if !(imgField img 24 4).testBit (variantBit s.variant) || imgField img 24 4 ≥ 8 then 5
  else if !imgAddrOk img k then 6
  else if !skip && !s.imgKeyOk img k then 7
  else if !skip && !ed25519Verify (slice img 28 32) (slice img 0 64 ++ img.drop 128) (slice img 64 64) then 8
  else 0

/-- The body of the accepted runtime image stands in program RAM from its load address on (R387). -/
def State.runtimeLoad (s : State) : State := let img := s.pwr.pourRt.image; s.setBytes (imgField img 12 4) (img.drop 128)

/-- The image tag (R391). -/
def imgTag (img : List Byte) : Nat := ofBe (slice (sha512 img) 0 8)

/-- An image is rejected (R395): its blocks go, its cause shows, IMAGE_REJECTED and event 43. -/
def State.imgReject (s : State) (k cause : Nat) : State :=
  let s := (s.pourEmpty k).setRf Reg.pwrPour (if k = 0 then 8 else 12) 4 cause
  let s := { s with pwr := { s.pwr with lastReject := k * 256 + cause } }
  ((s.fire 43).happen 43 (k * 256 + cause)).fault 0x0201 (k * 256 + cause)

/-- An image is accepted (R389, R395): its version is reported, and an unsigned configuration image is logged. -/
def State.imgAccept (s : State) (k : Nat) : State :=
  let img := (s.pourOf k).image
  let s := (s.setPourStatus k 4).fire 43
  let s := s.happen 43 (k * 256)
  let s :=
    if k = 0 then { s with od := { s.od with rtVersion := imgField img 20 4 } }
    else
      let unsig := s.nv.custodianKey.isNone
      let s := { s with od := { s.od with cfgVersion := imgField img 20 4 },
                        pwr := { s.pwr with cfgTag := imgTag img, cfgSig := if unsig then 1 else 0 } }
      if unsig then s.fault 0x0205 0 else s
  if s.pourStatus 0 == 4 && s.pourStatus 1 == 4 then
    let s := (s.setRb Reg.pwrPour 7 false).setRf Reg.pwrShake 0 4 7
    { s with pwr := { s.pwr with pourTime := (s.now - s.pwr.waitFrom) / 4 } }
  else s

end Sys2Proof.Machine
end

