-- ==== Sys2Proof/Machine/Net.lean ====
section
/-! DEFINITION. NET and the Airid protocol: ports, receive checks, windows, sending, and the messages that ODX does not serve (09_field_network, R281, R282, R298-R331). -/

namespace Sys2Proof

/-- The body of a frame: its first L bytes after the header (R308). -/
def NetFrame.body (m : NetFrame) : List Byte := m.rest.take m.len

/-- The tag of a frame: the 8 bytes after its body (R308). -/
def NetFrame.tag (m : NetFrame) : List Byte := Machine.slice m.rest m.len 8

end Sys2Proof

namespace Sys2Proof.Machine

/-! ### Ports -/

/-- Does port p exist on the variant (R331)? -/
def State.netPort (s : State) (p : Nat) : Bool := p = 0 || (p = 1 && s.present 26)

/-- May this chip use port p: the cope leaves port B and the drag port A disabled (R302, R369)? -/
def State.netOwnPort (s : State) (p : Nat) : Bool :=
  s.netPort p && (!s.isTwin || (if s.rf Reg.twnStat 0 2 = 1 then p == 0 else p == 1))

/-- Does port p receive and send: enabled, not stopped, the part awake (R28, R329)? -/
def State.netUp (s : State) (p : Nat) : Bool :=
  s.netPort p && s.rb Reg.netCtrl p && !s.rb (Reg.netpStat p) 3 && s.awake

/-- The address in use (R303); 0x3FF is unassigned (R304). -/
def State.netAddr (s : State) : Nat := s.rf Reg.netAddr 0 10

def State.netAssigned (s : State) : Bool := s.netAddr != 0x3FF

/-- Port p is enabled with its settings (R300, R303, R328). In boot the settings are the reset values. -/
def State.netEnable (s : State) (p : Nat) (runtime : Bool) : State :=
  if !s.netOwnPort p then s
  else
    let node := s.netAddr % 32
    let s :=
      if runtime then
        let w := node + s.odNat 0x20 p 1 % 64 * 256 + s.odNat 0x20 p 2 % 256 * 65536 + s.odNat 0x20 p 3 % 8 * 16777216
        ((s.setReg (Reg.netpPlca p) (BitVec.ofNat 32 w)).setReg (Reg.netpBtmr p) (BitVec.ofNat 32 (s.odNat 0x20 p 4 % 256))).setReg
          (Reg.netpCfg p) (BitVec.ofNat 32 (s.odNat 0x20 p 0 % 2))
      else s.setRf (Reg.netpPlca p) 0 5 node
    let s := if s.netAssigned then s else s.setRb (Reg.netpCfg p) 0 false
    let coord := node == 0 && s.rb (Reg.netpCfg p) 0
    let s := ((s.setRb (Reg.netpStat p) 0 true).setRb (Reg.netpStat p) 2 coord).setRb (Reg.netpStat p) 1 (coord || s.rb (Reg.netpStat p) 1)
    s.setRb Reg.netCtrl p true

/-- The next PHY identity read of the runtime (R328): registers 2 and 3 of a port's PHY. -/
def State.netPhyNext (s : State) : State :=
  match s.net.phy with
  | (p, r) :: _ => s.setReg Reg.netMdio (BitVec.ofNat 32 (r + s.odNat 0x20 p 5 % 32 * 32 + 0x800 + 0x1000))
  | [] => s

/-- The runtime starts its ports at the first function start of shakeout (R303, R328): the settings in force become those of the
committed set, and the PHY identity registers are read first. -/
def State.netStart (s : State) : State :=
  let ports := [0, 1].filter s.netOwnPort
  let s := { s with net := { s.net with hbInterval := s.odNat 0x20 0 0x20, notifyDest := s.odNat 0x20 0 0x21,
                                        notifySession := s.odNat 0x20 0 0x22, groups := s.odNat 0x22 0 0, hbLast := s.now,
                                        phy := ports.flatMap (fun p => [(p, 2), (p, 3)]), phyData := [] } }
  s.netPhyNext

/-- A management frame ends (R299): GO clears, and a read leaves its data; then the runtime's next identity read, or the ports. -/
def State.netMdioEnd (s : State) (data : Nat) : State :=
  let read := s.rf Reg.netMdio 10 2 == 2
  let s := s.setRb Reg.netMdio 12 false
  let s := if read then s.setRf Reg.netMdio 16 16 data else s
  let s := if read && data == 0xFFFF then s.setRb Reg.netStat 3 true else s
  match s.net.phy with
  | [] => s
  | (p, r) :: t =>
    let s := { s with net := { s.net with phy := t, phyData := s.net.phyData ++ [data] } }
    let s :=
      if r = 3 then
        let dead := s.net.phyData.all (fun d => d == 0xFFFF)
        let s := { s with net := { s.net with phyData := [] } }
        if dead then s.fault 0x0D03 p else s
      else s
    if t.isEmpty then s.forEach [0, 1] (fun s p => s.netEnable p true) else s.netPhyNext

/-- A write of NET_MDIO: the fields, and GO for OP 1 and 2. While a frame runs the write is not taken. -/
def State.netMdioWrite (s : State) (v : Word) : State :=
  if s.rb Reg.netMdio 12 then s
  else
    let op := fld v 10 2
    s.setReg Reg.netMdio (putBit (v &&& 0xFFFF0FFF) 12 (bitOf v 12 && (op == 1 || op == 2)))

/-- MDIO_GO (R299): a write of NET_MDIO. The host cannot own NET (R48). -/
def execMdioGo (who : Init) (v : Word) (s : State) : Host.Outcome State Fault Refusal :=
  (s.guardWrite who 14 Reg.netMdio (fun s => s.netMdioWrite v)).done

/-- MDIO_DONE (R299). -/
def execMdioDone (data : BitVec 16) (s : State) : Host.Outcome State Fault Refusal :=
  (if s.rb Reg.netMdio 12 then s.netMdioEnd data.toNat else s).done

/-- PLCA_LOST (R301): no BEACON; the port falls back to CSMA/CD. The coordinator sends the BEACON itself. -/
def execPlcaLost (p : Nat) (s : State) : Host.Outcome State Fault Refusal :=
  (if s.netUp p && s.rb (Reg.netpCfg p) 0 && !s.rb (Reg.netpStat p) 2 && !s.net.fallen.getD p false then
    let s := { s with net := { s.net with fallen := s.net.fallen.set p true } }
    (s.setRb (Reg.netpStat p) 1 false).fault 0x0D02 p
   else s).done

/-- PLCA_RESUME (R301): a BEACON is seen. -/
def execPlcaResume (p : Nat) (s : State) : Host.Outcome State Fault Refusal :=
  (if s.netUp p && s.rb (Reg.netpCfg p) 0 then
    let s := { s with net := { s.net with fallen := s.net.fallen.set p false } }
    s.setRb (Reg.netpStat p) 1 true
   else s).done

/-- PORT_CLOCK (R28, R327): a PHY clock stops; the port stops and the frame being sent is cut off. -/
def execPortClock (p : Nat) (s : State) : Host.Outcome State Fault Refusal :=
  (if s.netUp p then
    let s := (s.setRb (Reg.netpStat p) 0 false).setRb (Reg.netpStat p) 3 true
    let s := if p = 0 then { s with net := { s.net with txA := s.net.txA.drop 1 } } else { s with net := { s.net with txB := s.net.txB.drop 1 } }
    s.fault 0x0D01 p
   else s).done

/-! ### Keys and tags (R310, R313, R314) -/

/-- The session root key in use: the one before it, or none, till the response to its write has left (R318, R327). -/
def State.rootKeyNow (s : State) : Option (List Byte) :=
  match s.net.rootPending with
  | some old => old
  | none => s.nv.rootKey

/-- The session root key in use: 16 zero bytes while none is enrolled (R314). -/
def State.netRootKey (s : State) : List Byte := s.rootKeyNow.getD (List.replicate 16 0)

/-- The role of a session (R313). -/
def State.sessionRole (s : State) (n : Nat) : Nat := if n = 0 then 0 else s.odNat 4 n 0

/-- Is a session one under which requests are served: 0, or defined and enabled (R315)? -/
def State.sessionOk (s : State) (n : Nat) : Bool := n = 0 || (n ≤ 255 && s.odNat 4 n 1 == 1)

/-- The key of a session under a root key (R313). -/
def State.sessionKeyOf (s : State) (root : List Byte) (n : Nat) : List Byte :=
  let epoch := if n = 0 then s.odNat 4 0 3 else s.odNat 4 n 2
  aesCmac root
    ([0x57, 0x56, 0x53, 0x4B] ++ beBytes 2 n ++ [BitVec.ofNat 8 (s.sessionRole n)] ++ beBytes 4 epoch)

/-- The key of a session (R313). -/
def State.sessionKey (s : State) (n : Nat) : List Byte := s.sessionKeyOf s.netRootKey n

/-- The 16 header bytes under the tag (R308, R310). -/
def netHeader (m : NetFrame) : List Byte :=
  [BitVec.ofNat 8 m.version, BitVec.ofNat 8 m.typ] ++ beBytes 2 m.flags ++ beBytes 2 m.src ++ beBytes 2 m.dst ++
    beBytes 4 m.seq ++ beBytes 2 m.session ++ beBytes 2 m.len

/-- The tag of a message under a root key (R310). -/
def State.netTagOf (s : State) (root : List Byte) (m : NetFrame) : List Byte :=
  if m.session = 0xFFFF then List.replicate 8 0
  else slice (aesCmac (s.sessionKeyOf root m.session) (netHeader m ++ m.body)) 0 8

/-- The tag of a message (R310). -/
def State.netTag (s : State) (m : NetFrame) : List Byte := s.netTagOf s.netRootKey m

/-- The MAC address of a device (R303). -/
def netMac (addr : Nat) : Nat := 0x025756000000 + addr % 1024

/-- The MAC address that a destination maps to (R306). -/
def netMacOf (dst : Nat) : Nat :=
  if dst / 32768 % 2 = 1 then 0x035756010000 + dst / 1024 % 32 * 256 + dst % 256
  else if dst % 1024 = 0x3FF then 0xFFFFFFFFFFFF else netMac dst

/-- The bytes of a frame up to its FCS (R308). -/
def netBytes (m : NetFrame) : List Byte := beBytes 6 m.dmac ++ beBytes 6 m.smac ++ beBytes 2 m.etherType ++ netHeader m ++ m.rest

/-- A frame made whole (R308): both MAC addresses, body, tag, zero bytes up to 60, and the FCS over all of them. -/
def State.netFrame (s : State) (root : List Byte) (m : NetFrame) (body : List Byte) : NetFrame :=
  let m := { m with dmac := netMacOf m.dst, smac := netMac s.netAddr, src := s.netAddr, len := body.length, rest := body }
  let m := { m with rest := body ++ s.netTagOf root m ++ List.replicate (22 - body.length) 0 }
  { m with fcs := crc32 (netBytes m) }

/-! ### Sending (R302, R312, R317, R318, R330) -/

/-- A frame joins the queue of port p if the port runs. -/
def State.netQueue (s : State) (p : Nat) (m : NetFrame) : State :=
  if !s.netUp p || !s.netOwnPort p then s
  else if p = 0 then { s with net := { s.net with txA := s.net.txA ++ [m] } }
  else { s with net := { s.net with txB := s.net.txB ++ [m] } }

/-- The sequence counter takes a value, and with it the two limits that it has reached (R318). It stays at its last value. -/
def State.netSeqTo (s : State) (q : Nat) : State :=
  let q := min 0xFFFFFFFF q
  let s := s.setReg Reg.netSeq (BitVec.ofNat 32 q)
  let s := if 0xF0000000 ≤ q && !s.rb Reg.netStat 0 then (s.setRb Reg.netStat 0 true).fault 0x0D05 0 else s
  if q = 0xFFFFFFFF && !s.rb Reg.netStat 1 then (s.setRb Reg.netStat 1 true).fault 0x0D06 0 else s

/-- The sequence counter moves on by one message (R317): the store, mirrored by an active (R354), at each wrap of its low half. -/
def State.netSeqNext (s : State) : State :=
  let q := s.rf Reg.netSeq 0 32
  let s := s.netSeqTo (q + 1)
  if q != 0xFFFFFFFF && (q + 1) % 65536 = 0 then
    let s := (s.nvStore (fun nv => { nv with seqBase := q + 1 }) [1] []).knabCtrAdd 20 1
    if s.role == 2 then s.seqSend else s
  else s

/-- The flags of a frame that the device sends: TWIN and MIXED of a flask (R308). -/
def State.netFlags (s : State) (resp : Bool) : Nat :=
  (if resp then 1 else 0) + (if s.isTwin then 4 else 0) + (if s.rb Reg.twnStat 5 then 8 else 0)

/-- May a message leave? After SEQ_END none under sessions 0-255 (R318); an unassigned device sends POUR_NAK alone (R304). -/
def State.netMay (s : State) (typ session : Nat) : Bool :=
  !(s.rb Reg.netStat 1 && session != 0xFFFF) && (s.netAssigned || typ == 0xB)

/-- A message leaves on both networks (R302): on the own ports, and across the sprue link for the other chip's. -/
def State.netEmit (s : State) (root : List Byte) (m : NetFrame) (body : List Byte) : State :=
  let m := s.netFrame root m body
  ((s.netQueue 0 m).netQueue 1 m).sendToken (.netframe false m)

/-- The device originates a message, under the next sequence number (R302, R317). -/
def State.netSend (s : State) (typ dst session : Nat) (resp : Bool) (body : List Byte) : State :=
  if !s.netMay typ session then s
  else
    (s.netEmit s.netRootKey { typ := typ, flags := s.netFlags resp, dst := dst, seq := s.rf Reg.netSeq 0 32, session := session } body).netSeqNext

/-- An ODX response leaves, with the sequence number of its request (R290, R312; DEDUCED, log entry 42): the device's own counter
stays. -/
def State.netRespond (s : State) (root : List Byte) (typ dst session seq : Nat) (body : List Byte) : State :=
  if !s.netMay typ session then s
  else s.netEmit root { typ := typ, flags := s.netFlags true, dst := dst, seq := seq, session := session } body

/-- What a chip says of itself in HELLO (R345). -/
def State.helloOf (s : State) : Hello :=
  { position := s.rf Reg.twnStat 0 2, sysId := (sysIdOf s.variant).toNat, rtVersion := s.od.rtVersion, cfgVersion := s.od.cfgVersion,
    heat := s.od.heat, role := s.role }

/-- FRAME_TRANSMIT_DONE: the oldest frame of a port has left (36 NETA_TX, 39 NETB_TX), after as many collisions on COL as its port saw
while it sent (R298, NETp_COL). -/
def execFrameTransmitDone (p : Nat) (s : State) (collisions : Nat := 0) : Host.Outcome State Fault Refusal :=
  (let q := if p = 0 then s.net.txA else s.net.txB
   if s.netUp p && !q.isEmpty then
    let s := if p = 0 then { s with net := { s.net with txA := q.drop 1 } } else { s with net := { s.net with txB := q.drop 1 } }
    ((s.incSat (Reg.netpTxfrm p) 1).incSat (Reg.netpCol p) collisions).fire (if p = 0 then 36 else 39)
   else s).done

/-! ### Receiving (R306, R309, R311, R315, R316) -/

/-- Does the MAC accept a frame by its destination, under the MAC address that this maps to (R304, R306, R307)? -/
def State.netAccepts (s : State) (m : NetFrame) : Bool :=
  let addr := m.dst % 1024
  let seg := m.dst / 1024 % 32
  if m.dmac != netMacOf m.dst then false
  else if m.dst / 32768 % 2 = 0 then addr == 0x3FF || (s.netAssigned && addr == s.netAddr)
  else
    let g := addr - 0x3E0
    let member := g == 0 || (if g = 1 then s.rb Reg.pwrPour 7 && s.rf Reg.pwrPour 16 2 == 1 else g ≤ 30 && s.net.groups.testBit g)
    0x3E0 ≤ addr && addr ≤ 0x3FE && member && (seg == s.netAddr / 32 || (!s.netAssigned && g == 1))

/-- R309: is a frame's header no Airid header? The payload is what the frame holds up to its FCS: 30 bytes and `rest`. -/
def netBadHeader (m : NetFrame) : Bool :=
  m.etherType != 0x88B5 || m.version != 1 || m.len > 1400 || 8 + m.len > m.rest.length || m.typ = 0 || m.typ > 12

/-- Is a type received under a session that R311 gives it? -/
def netSessionFits (m : NetFrame) : Bool :=
  if m.typ ≤ 5 then m.session ≤ 255 else if m.typ ≤ 9 then m.session == 0 else m.session == 0xFFFF

/-- Is a message a request for ODX? -/
def netRequest (m : NetFrame) : Bool := 1 ≤ m.typ && m.typ ≤ 4 && m.flags % 2 == 0

/-- What the checks make of a frame: discarded, its own source address, a request with a verdict (R315), or passed. -/
inductive NetVerdict where
  | drop | conflict | verdict (code : Nat) | pass
deriving DecidableEq, Repr

/-- A tag failure from a source: more than 10 in 1 s are AUTH_BURST (R326). -/
def State.netTagFail (s : State) (src : Nat) : State :=
  let l := ((recGet [] s.net.authFails src).filter (fun t => s.now < t + 4000)) ++ [s.now]
  let burst := l.length > 10
  let s := { s with net := { s.net with authFails := recPut [] s.net.authFails src (if burst then [] else l) } }
  if burst then s.fault 0x0D07 src else s

/-- The window of a source takes a sequence that it accepts (R316). -/
def State.netTake (s : State) (src q : Nat) (old : Option NetWin) : State :=
  let w : NetWin := old.getD { top := q }
  let w : NetWin :=
    if old.isNone then { top := q, map := 1 }
    else if q > w.top then { w with top := q, map := (w.map * 2 ^ min 64 (q - w.top) + 1) % 2 ^ 64 }
    else { w with map := w.map ||| 2 ^ (w.top - q) }
  let w := { w with last := s.now, rtcLast := s.rtc.epoch }
  { s with net := { s.net with windows := (s.net.windows.filter (fun x => x.1 != src)) ++ [(src, w)] } }

/-- A failed check of R315: a request goes to ODX with the verdict, any other message is discarded. -/
def netFail (m : NetFrame) (code : Nat) (s : State) : NetVerdict × State :=
  (if netRequest m then .verdict code else .drop, s)

/-- Orders 3 and 4 of R315: the window and the sequence (R316). A heartbeat carries 32 bits of the RTC's seconds. -/
def State.netWindow (s : State) (p : Nat) (m : NetFrame) : NetVerdict × State :=
  match (s.net.windows.find? (fun (x : Nat × NetWin) => x.1 == m.src)).map Prod.snd with
  | none =>
    let sec := ofBe (slice m.body 16 4)
    let timeOk := s.rb Reg.rtcStat 0 || (sec + 60 + (2 ^ 32 - s.rtc.epoch % 2 ^ 32)) % 2 ^ 32 ≤ 120
    if m.typ = 6 && timeOk && m.src < 0x3FF then (.pass, s.netTake m.src m.seq none)
    else netFail m 9 (s.incSat (Reg.netpStale p) 1)
  | some w =>
    if m.seq > w.top then (.pass, s.netTake m.src m.seq (some w))
    else if w.top - m.seq > 63 then netFail m 9 (s.incSat (Reg.netpStale p) 1)
    else if w.map.testBit (w.top - m.seq) then (.drop, s.incSat (Reg.netpDup p) 1)
    else (.pass, s.netTake m.src m.seq (some w))

/-- The checks of a frame on port p, in order: FCS, the MAC (R306), the header (R309), the own address (R327), the session of
its type (R311), and R315. Before runtime entry the boot ROM takes pour messages alone. -/
def State.netCheck (s : State) (p : Nat) (m : NetFrame) : NetVerdict × State :=
  if m.rxEr || m.fcs != crc32 (netBytes m) then (.drop, s.incSat (Reg.netpFcserr p) 1)
  else if !s.netAccepts m then (.drop, s.incSat (Reg.netpRxdrop p) 1)
  else
    let s := s.incSat (Reg.netpRxfrm p) 1
    if netBadHeader m then (.drop, s.incSat (Reg.netpRxdrop p) 1)
    else if s.netAssigned && m.src % 1024 = s.netAddr then (.conflict, s)
    else if !netSessionFits m then (.drop, s.incSat (Reg.netpAutherr p) 1)
    else if m.session = 0xFFFF then (.pass, s)
    else if !s.runtimeRuns then (.drop, s)
    else if !s.sessionOk m.session then netFail m 9 (s.incSat (Reg.netpStale p) 1)
    else if m.tag != s.netTag m then netFail m 8 ((s.incSat (Reg.netpAutherr p) 1).netTagFail m.src)
    else s.netWindow p m

/-- Does a frame pass every check of R315 but the window's? -/
def State.netAuthentic (s : State) (m : NetFrame) : Bool :=
  !m.rxEr && m.fcs == crc32 (netBytes m) && s.netAccepts m && !netBadHeader m && !(s.netAssigned && m.src % 1024 == s.netAddr) &&
    netSessionFits m && m.session != 0xFFFF && s.runtimeRuns && s.sessionOk m.session && m.tag == s.netTag m

/-- The own source address was seen (R327): CONFLICT, and the fault once per minute. -/
def State.netConflict (s : State) : State :=
  let s := s.setRb Reg.netStat 2 true
  match s.net.conflictAt with
  | some t => if t + 240000 ≤ s.now then ({ s with net := { s.net with conflictAt := some s.now } } : State).fault 0x0D04 s.netAddr else s
  | none => ({ s with net := { s.net with conflictAt := some s.now } } : State).fault 0x0D04 s.netAddr

/-- A message passes R315 on port p: 35 NETA_RX, 38 NETB_RX. -/
def State.netRx (s : State) (p : Nat) : State := s.fire (if p = 0 then 35 else 38)

/-- A frame that arrives on port p of this chip. A standby passes it to the active unchecked (R330), an UNFORMED flask chip serves
nothing but its pour (R334); otherwise the checks run, and what passes goes to `f`. -/
def State.netArrive (s : State) (p : Nat) (m : NetFrame) (f : State → State) : State :=
  if !s.netUp p then s
  else if s.isStandby then s.sendToken (.netframe true m)
  else if s.isTwin && !s.isActive && !s.rb Reg.pwrPour 7 then s
  else
    let res := s.netCheck p m
    match res.1 with
    | .pass => f (res.2.netRx p)
    | .conflict => res.2.netConflict
    | _ => res.2

/-- Would a frame be discarded? -/
def State.netDrops (s : State) (p : Nat) (m : NetFrame) : Bool :=
  match (s.netCheck p m).1 with
  | .drop => true
  | .conflict => true
  | _ => false

/-- A message that a device has no use for once it has passed its checks: a response to a request, CENSUS_REPLY, POUR_NAK. -/
def netUnused (m : NetFrame) : Bool := (1 ≤ m.typ && m.typ ≤ 4 && m.flags % 2 == 1) || m.typ == 9 || m.typ == 0xB

/-- FRAME_DROP (R306, R309, R311, R315, R316, R327): a received frame that fails is discarded and counted; one that passes and has no
use moves its window alone (DESIGN CHOICE, log entry 44: no row of its own takes such a frame). -/
def execFrameDrop (p : Nat) (m : NetFrame) (s : State) : Host.Outcome State Fault Refusal :=
  (if s.netDrops p m || netUnused m then s.netArrive p m id else s).done

/-- WINDOW_CLOSE (R316): 180 s without an accepted message. -/
def execWindowClose (addr : Nat) (s : State) : Host.Outcome State Fault Refusal :=
  (if s.awake then
    { s with net := { s.net with windows := s.net.windows.filter (fun x => !(x.1 == addr && x.2.last + (ticksOfSec 180 : Nat) ≤ (s.now : Int))) } }
   else s).done

/-! ### Heartbeats and digests (R281, R282, R319) -/

/-- The twin state of heartbeats and census (R319, R335). -/
def State.twinState (s : State) : Nat :=
  if !s.isTwin then 0 else if s.rb Reg.twnStat 5 then 2 else if s.rb Reg.twnStat 4 then 1 else 3

/-- HEARTBEAT_SEND (R319): once per interval, to group 0 of the own segment, under session 0. -/
def execHeartbeatSend (s : State) : Host.Outcome State Fault Refusal :=
  (if s.runtimeRuns && s.od.serving && s.isActive && s.netAssigned && s.net.hbLast + ticksOfSec s.net.hbInterval ≤ s.now then
    let body := beBytes 4 s.od.heat ++ beBytes 8 s.od.sdig ++ beBytes 2 (s.odNat 2 0 3) ++ [BitVec.ofNat 8 s.twinState, 0] ++
      beBytes 4 s.rtc.epoch ++ beBytes 4 s.od.rtVersion
    let s := { s with net := { s.net with hbLast := s.now } }
    s.netSend 6 (0x8000 + s.netAddr / 32 * 1024 + 0x3E0) 0 false body
   else s).done

/-- A sender leaves the list of mismatches (R282). -/
def State.mismatchClear (s : State) (src : Nat) : State :=
  let l := s.od.mismatch.map (fun a => if a = src then 0xFFFF else a)
  { s with od := { s.od with mismatch := l, mismatchCount := s.od.mismatchCount - 1,
                             compared := s.od.compared.filter (fun (x : Nat × (Nat × Nat × Bool × Nat)) => x.1 != src) } }

/-- A mismatch is reported (R282): the count rises, and where an entry is free it takes the address and DIGEST_MISMATCH is logged. -/
def State.mismatchReport (s : State) (src : Nat) : State :=
  let s := { s with od := { s.od with mismatchCount := min 0xFFFF (s.od.mismatchCount + 1) } }
  match s.od.mismatch.findIdx? (fun a => a == 0xFFFF) with
  | some i => ({ s with od := { s.od with mismatch := s.od.mismatch.set i src } } : State).fault 0x0E01 src
  | none => s

/-- The comparison record of a sender: runs of differing and of matching heartbeats, whether it is reported, and when it last
came. -/
def State.comparedPut (s : State) (src : Nat) (v : Nat × Nat × Bool × Nat) : State :=
  { s with od := { s.od with compared := (s.od.compared.filter (fun (x : Nat × (Nat × Nat × Bool × Nat)) => x.1 != src)) ++ [(src, v)] } }

/-- A heartbeat of a sender is compared (R281, R282). -/
def State.digestCompare (s : State) (src digest : Nat) : State :=
  let c := (s.od.compared.find? (fun (x : Nat × (Nat × Nat × Bool × Nat)) => x.1 == src)).map Prod.snd
  let (bad, good, rep, _) := c.getD (0, 0, false, 0)
  if digest = s.od.sdig then
    if rep && 3 ≤ good + 1 then s.mismatchClear src else s.comparedPut src (0, good + 1, rep, s.now)
  else if !rep && 3 ≤ bad + 1 then (s.comparedPut src (0, 0, true, s.now)).mismatchReport src
  else s.comparedPut src (bad + 1, 0, rep, s.now)

/-- A heartbeat that has passed its checks (R281, R319). -/
def State.heartbeatTake (s : State) (m : NetFrame) : State :=
  let group := ofBe (slice m.body 12 2)
  if s.odNat 2 0 3 != 0 && group == s.odNat 2 0 3 && !m.flags.testBit 3 then s.digestCompare m.src (ofBe (slice m.body 4 8)) else s

/-- HEARTBEAT_RECEIVE (R316, R319). -/
def execHeartbeatReceive (p : Nat) (m : NetFrame) (s : State) : Host.Outcome State Fault Refusal :=
  (if m.typ = 6 then s.netArrive p m (fun s => s.heartbeatTake m) else s).done

/-- DIGEST_MISMATCH_CLEAR (R282): 10 heartbeat intervals without a heartbeat of a listed sender. -/
def execDigestMismatchClear (addr : Nat) (s : State) : Host.Outcome State Fault Refusal :=
  (match s.od.compared.find? (fun (x : Nat × (Nat × Nat × Bool × Nat)) => x.1 == addr) with
   | some (_, _, _, rep, last) => if rep && last + ticksOfSec (10 * s.net.hbInterval) ≤ s.now then s.mismatchClear addr else s
   | none => s).done

/-! ### TIME, census and notification (R320-R322) -/

/-- The second and the flag time valid of a TIME body go to the RTC (R320, R540). -/
def State.timeTake (s : State) (m : NetFrame) : State :=
  s.rtcBeacon (ofBe (slice m.body 0 4)) (bitOf (BitVec.ofNat 32 (m.body.getD 6 0).toNat) 0)

/-- TIME_RECEIVE (R320, R540). A standby passes the frame on unchecked (R330) and disciplines its own RTC (R548) by a beacon that
passes every check but that of the window, which lives on the active alone (log entry 112). -/
def execTimeReceive (p : Nat) (m : NetFrame) (s : State) : Host.Outcome State Fault Refusal :=
  (if m.typ = 7 then
    let s := if s.isStandby && s.netUp p && s.netAuthentic m then s.timeTake m else s
    s.netArrive p m (fun s => s.timeTake m)
   else s).done

/-- The body of CENSUS_REPLY (R322). -/
def State.censusBody (s : State) (id : Nat) : List Byte :=
  let pos := s.rf Reg.twnStat 0 2
  beBytes 4 id ++ beBytes 4 s.od.heat ++ beBytes 8 s.od.hdig ++ beBytes 8 s.od.sdig ++ beBytes 4 s.od.rtVersion ++
    beBytes 4 s.od.cfgVersion ++ beBytes 2 (s.odNat 2 0 3) ++
    [BitVec.ofNat 8 s.twinState, BitVec.ofNat 8 (if s.isTwin then pos else 0)] ++
    beBytes 4 (if s.isTwin then s.rf Reg.twnPeerheat 0 32 else 0xFFFFFFFF) ++ beBytes 4 (s.knabCtrVal 18)

/-- A census that has passed its checks is answered once (R322). -/
def State.censusTake (s : State) (m : NetFrame) : State :=
  let id := ofBe (slice m.body 0 4)
  let seen := s.net.censusSeen.filter (fun (x : Nat × Nat) => s.now < x.2 + 4000)
  let s := { s with net := { s.net with censusSeen := seen } }
  if seen.any (fun (x : Nat × Nat) => x.1 == id) || s.rb Reg.netStat 1 || !s.netAssigned then s
  else
    let s := s.netSend 9 (m.src % 1024) 0 false (s.censusBody id)
    { s with net := { s.net with censusSeen := seen ++ [(id, s.now)], lastCensus := id, censusReplies := s.net.censusReplies + 1 } }

/-- CENSUS_RECEIVE (R322). -/
def execCensusReceive (p : Nat) (m : NetFrame) (s : State) : Host.Outcome State Fault Refusal :=
  (if m.typ = 8 then s.netArrive p m (fun s => s.censusTake m) else s).done

/-- A log entry as NOTIFY carries it: its multi-byte fields most significant first (R614). -/
def notifyEntry (e : List Byte) : List Byte :=
  (slice e 0 2).reverse ++ slice e 2 2 ++ (slice e 4 4).reverse ++ (slice e 8 4).reverse ++ (slice e 12 4).reverse

/-- A NOTIFY leaves with its entries (R321). -/
def State.notifyOut (s : State) (n : NotifySt) : State :=
  let seq := s.rf Reg.netSeq 0 32
  let body := [BitVec.ofNat 8 n.entries.length, 0, 0, 0] ++ n.entries.flatMap id
  let s := { s with net := { s.net with notify := some { n with sends := n.sends + 1, last := s.now, seqs := n.seqs ++ [seq] } } }
  s.netSend 5 s.net.notifyDest s.net.notifySession false body

/-- NOTIFY_SEND (R321): up to 16 entries of ring 18 leave, one NOTIFY at a time. -/
def execNotifySend (s : State) : Host.Outcome State Fault Refusal :=
  (if s.runtimeRuns && s.isActive && s.net.notifyDest != 0xFFFF && s.net.notify.isNone && s.ringOn 18 && s.ringCount 18 != 0 then
    let n := min 16 (s.ringCount 18)
    let es := (List.range n).map (fun i => notifyEntry (s.bytes (s.ringAddr 18 (s.ringTail 18 + i)) 16))
    let s := s.setRf (Reg.rngTail 18) 0 16 (s.ringTail 18 + n)
    s.notifyOut { entries := es }
   else s).done

/-- A NOTIFY that has passed its checks: a response ends the device's own, a notification is answered (R311, R321). -/
def State.notifyTake (s : State) (m : NetFrame) : State :=
  if m.flags % 2 = 1 then
    if m.src % 1024 = s.net.notifyDest then { s with net := { s.net with notify := none } } else s
  else s.netSend 5 (m.src % 1024) m.session true []

/-- NOTIFY_ACK (R311, R321). -/
def execNotifyAck (p : Nat) (m : NetFrame) (s : State) : Host.Outcome State Fault Refusal :=
  (if m.typ = 5 then s.netArrive p m (fun s => s.notifyTake m) else s).done

/-- NOTIFY_RETRY (R321): after 1 s without an answer the NOTIFY is sent again, four times in all, then it is dropped. -/
def execNotifyRetry (s : State) : Host.Outcome State Fault Refusal :=
  (match s.net.notify with
   | none => s
   | some n =>
     if !s.runtimeRuns || !s.isActive || s.now < n.last + 4000 then s
     else if n.sends < 4 then s.notifyOut n
     else ({ s with net := { s.net with notify := none } } : State).incSat Reg.netNotlost 1).done

/-! ### Network pour (R323-R325) -/

/-- Does the boot ROM take network pour messages: waiting, with the network as the source (R382, R396)? -/
def State.netPourOpen (s : State) : Bool := s.pourOpen && s.rf Reg.pwrPour 16 2 == 1

/-- POUR_RECEIVE (R324). -/
def execPourReceive (p : Nat) (m : NetFrame) (s : State) : Host.Outcome State Fault Refusal :=
  (if m.typ = 0xA then s.netArrive p m (fun s =>
      if s.netPourOpen then ({ s with net := { s.net with pourLast := s.now } } : State).pourBlock true m.body else s)
   else s).done

/-- Runs of missing blocks as (first, count), ascending (R323). -/
def blockRanges : List Nat → List (Nat × Nat)
  | [] => []
  | b :: t =>
    match blockRanges t with
    | (f, n) :: r => if f = b + 1 then (b, n + 1) :: r else (b, 1) :: (f, n) :: r
    | [] => [(b, 1)]

/-- A POUR_NAK with the first 64 missing ranges, to the source of the last POUR_END (R323, R325). -/
def State.pourNak (s : State) (k : Nat) : State :=
  let p := s.pourOf k
  let rs := (blockRanges p.missing).take 64
  let body := [BitVec.ofNat 8 k, BitVec.ofNat 8 rs.length] ++ beBytes 2 (if k = 0 then 0 else s.pourGroup) ++ beBytes 4 p.id ++
    rs.flatMap (fun r => beBytes 2 r.1 ++ beBytes 2 r.2)
  let s := { s with net := { s.net with pourLast := s.now, pourEnds := s.net.pourEnds.filter (fun (e : Nat × Nat) => e.1 != k) ++ [(k, p.id)] } }
  s.netSend 0xB s.net.pourEndFrom 0xFFFF false body

/-- A POUR_END that has passed its checks (R325). -/
def State.pourEndTake (s : State) (m : NetFrame) : State :=
  let k := (m.body.getD 0 0).toNat
  let id := ofBe (slice m.body 4 4)
  let p := s.pourOf k
  let s := { s with net := { s.net with pourLast := s.now } }
  if k > 1 || p.held.isEmpty || p.id != id || s.pourStatus k ≥ 3 then s
  else
    let s := { s with net := { s.net with pourEndFrom := m.src % 1024, pourEnds := s.net.pourEnds.filter (fun (e : Nat × Nat) => e.1 != k) } }
    if p.missing.isEmpty then s.pourCheck k else s.pourNak k

/-- POUR_END_RECEIVE (R325). -/
def execPourEndReceive (p : Nat) (m : NetFrame) (s : State) : Host.Outcome State Fault Refusal :=
  (if m.typ = 0xC then s.netArrive p m (fun s => if s.netPourOpen then s.pourEndTake m else s) else s).done

/-- Does a kind whose POUR_END has been answered by a NAK still lack blocks of that image (R325)? -/
def State.pourLacks (s : State) (e : Nat × Nat) : Bool :=
  let p := s.pourOf e.1
  p.id == e.2 && !p.held.isEmpty && !p.missing.isEmpty

/-- POUR_NAK_RETRY (R325): 2 s without pour traffic, and blocks of one kind or of both are still missing. -/
def execPourNakRetry (s : State) : Host.Outcome State Fault Refusal :=
  (if s.netPourOpen && s.net.pourLast + ticksOfSec 2 ≤ s.now then
    s.forEach ((s.net.pourEnds.filter s.pourLacks).map Prod.fst) State.pourNak
   else s).done

/-! ### Keys and counters -/

/-- ROOT_KEY_APPLY (R318, R327): a written root key takes effect once its own response has left: the counter is 0, every window
closes and the limits clear. The responses to requests in flight keep the old key. -/
def execRootKeyApply (s : State) : Host.Outcome State Fault Refusal :=
  (match s.net.rootPending with
   | none => s
   | some _ =>
     let old := s.netRootKey
     let s := { s with od := { s.od with txns := s.od.txns.map (fun (t : Txn) => if t.root.isNone then { t with root := some old } else t) } }
     let s := { s with net := { s.net with rootPending := none, windows := [] } }
     ((s.setReg Reg.netSeq 0).setRb Reg.netStat 0 false).setRb Reg.netStat 1 false).done

/-- NET_COUNTER_READ: the counters of a port block, at +0x10 + 4k; NET cannot be owned, so a host read clears nothing (R52). -/
def execNetCounterRead (who : Init) (p k : Nat) (s : State) : Host.Outcome State Fault Refusal :=
  (s.readClear who (if p % 2 = 0 then 14 else 26) (Reg.netpTxfrm (p % 2) + 4 * (k % 8)) 0xFFFFFFFF).done

/-- NET_NOTLOST_READ. -/
def execNetNotlostRead (who : Init) (s : State) : Host.Outcome State Fault Refusal :=
  (s.readClear who 14 Reg.netNotlost 0xFFFFFFFF).done

end Sys2Proof.Machine
end

