-- ==== Sys2Proof/Machine/Sbus.lean ====
section
/-! DEFINITION. SBUS: the three sensor-bus controllers and the poll table (12_host_port_memory, R431-R443). -/

namespace Sys2Proof.Machine

def State.bus (s : State) (b : Nat) : BusSt := s.buses.getD b {}
def State.setBus (s : State) (b : Nat) (v : BusSt) : State := { s with buses := s.buses.set b v }
def State.poll (s : State) (p : Nat) : PollSt := recGet {} s.polls p
def State.setPoll (s : State) (p : Nat) (v : PollSt) : State := { s with polls := recPut {} s.polls p v }

def State.sbusBusy (s : State) (b : Nat) : Bool := s.rb (Reg.sbStat b) 0
def State.sbusOn (s : State) (b : Nat) : Bool := s.rb (Reg.sbCfg b) 0

/-- A write that a busy bus ignores (R437). -/
def State.sbusIgnored (s : State) (b : Nat) : State := s.setRb (Reg.sbStat b) 5 true

/-- A length of WLEN or RLEN: above 32 it acts as 32 (R437). -/
def sbusLen (n : Nat) : Nat := min n 32

/-- Are a bus's lines driven: enabled, on a chip that drives its output pins (R334, R438, R441)? -/
def State.sbusDriven (s : State) (b : Nat) : Bool := s.sbusOn b && s.pinsDriven

/-- A transaction starts (R437): DONE, NACK, TIMEOUT and STUCK are cleared. -/
def State.sbusStart (s : State) (b target wlen rlen : Nat) (poll : Option Nat) : State :=
  let s := (s.setRf (Reg.sbStat b) 0 5 1)
  s.setBus b { s.bus b with startAt := s.now, target := target, wlen := sbusLen wlen, rlen := sbusLen rlen, poll := poll }

/-- A write of SBb_CMD (R437). On a chip that does not drive the bus no transaction runs (R334, R441); IGNORED then stays as it is
(DESIGN CHOICE, log entry 48). -/
def State.sbusCmdWrite (s : State) (b : Nat) (v : Word) : State :=
  if s.sbusBusy b then s.sbusIgnored b
  else
    let s := s.setReg (Reg.sbCmd b) (v &&& 0x003F3F7F)
    if !bitOf v 24 then s
    else if !s.sbusOn b then s.sbusIgnored b
    else if !s.pinsDriven then s
    else s.sbusStart b (fld v 0 7) (fld v 8 6) (fld v 16 6) none

/-- SBUS_GO (R437). -/
def execSbusGo (who : Init) (b : Nat) (v : Word) (s : State) : Host.Outcome State Fault Refusal :=
  (s.guardWrite who 19 (Reg.sbCmd b) (fun s => if b < 3 then s.sbusCmdWrite b v else s)).done

/-- STUCK: bit and event, and the fault at most once a minute per bus (R435). -/
def State.sbusStuck (s : State) (b : Nat) : State :=
  let s := (s.setRb (Reg.sbStat b) 4 true).fire (54 + b)
  let due := match (s.bus b).lastStuck with
    | none => true
    | some t => t + ticksOfSec 60 ≤ s.now
  if due then (s.setBus b { s.bus b with lastStuck := some s.now }).fault 0x1101 b else s

/-- The bits of SBb_CFG that bus b has. -/
def sbCfgMask (b : Nat) : Word := if b = 2 then 0x0000FF1D else 0x0000FF03

/-- A write of SBb_CFG (R435, R437, R438); `stuck` says that SDA stays low after the recovery pulses, which a chip that does not drive the
bus cannot send (R334). -/
def State.sbusCfgWrite (s : State) (b : Nat) (v : Word) (stuck : Bool) : State :=
  if s.sbusBusy b then s.sbusIgnored b
  else
    let was := s.sbusOn b
    let s := s.setReg (Reg.sbCfg b) (v &&& sbCfgMask b)
    if bitOf v 0 && !was && b < 2 && stuck && s.pinsDriven then s.sbusStuck b else s

/-- SBUS_ENABLE: a write of SBb_CFG with EN = 1 (R435, R438). -/
def execSbusEnable (who : Init) (b : Nat) (v : Word) (stuck : Bool) (s : State) : Host.Outcome State Fault Refusal :=
  (s.guardWrite who 19 (Reg.sbCfg b) (fun s => if b < 3 then s.sbusCfgWrite b (v ||| 1) stuck else s)).done

/-- SBUS_DISABLE: a write of SBb_CFG with EN = 0 (R438). -/
def execSbusDisable (who : Init) (b : Nat) (v : Word) (s : State) : Host.Outcome State Fault Refusal :=
  (s.guardWrite who 19 (Reg.sbCfg b) (fun s => if b < 3 then s.sbusCfgWrite b (v &&& 0xFFFFFFFE) false else s)).done

/-- The 32 RX bytes of a bus. -/
def State.sbusRx (s : State) (b : Nat) : List Byte := (List.range 8).flatMap (fun i => leBytes 4 (s.reg (Reg.sbRx b i)).toNat)

/-- RX takes the bytes received; the others read 0 (R437). -/
def State.sbusSetRx (s : State) (b : Nat) (rx : List Byte) : State :=
  s.forEach (List.range 8) (fun s i => s.setReg (Reg.sbRx b i) (BitVec.ofNat 32 (ofLe (slice rx (4 * i) 4))))

/-! ### Polls (R439) -/

/-- A member of class 1B. -/
def State.pollNat (s : State) (p m : Nat) : Nat := s.odNat 0x1B p m

/-- COMMAND of a poll. -/
def State.pollCommand (s : State) (p : Nat) : List Byte :=
  match s.odGet (odId 0x1B p 3) with
  | .bytes l => l
  | _ => []

/-- Do the polls run: function 0x005 in RUN, the runtime running and owning SBUS, this chip driving the buses (R334, R439, R441,
R443)? -/
def State.pollsRun (s : State) : Bool := s.fnRuns 5 && s.runtimeRuns && !s.hostOwns 19 && s.pinsDriven

/-- TX takes bytes, the rest 0. -/
def State.sbusSetTx (s : State) (b : Nat) (tx : List Byte) : State :=
  s.forEach (List.range 8) (fun s i => s.setReg (Reg.sbTx b i) (BitVec.ofNat 32 (ofLe (slice tx (4 * i) 4))))

/-- The runtime starts a transaction of poll p with WLEN and RLEN. -/
def State.pollTransact (s : State) (p wlen rlen : Nat) : State :=
  let b := s.pollNat p 1
  let t := s.pollNat p 2
  let s := if wlen = 0 then s else s.sbusSetTx b (s.pollCommand p)
  let s := s.setReg (Reg.sbCmd b) (BitVec.ofNat 32 (t + wlen * 256 + rlen * 65536))
  s.sbusStart b t wlen rlen (some p)

/-- Step 1 of a run (R439). GAIN and OFFSET hold for the run from here (R440). -/
def State.pollStart (s : State) (p : Nat) : State :=
  let n := (s.pollCommand p).length
  let s := s.setPoll p { s.poll p with running := true, second := false, waitTo := none, gain := s.odNum 0x1B p 8, offs := s.odNum 0x1B p 9 }
  if n = 0 || s.pollNat p 4 = 0 then s.pollTransact p n (s.pollNat p 5) else s.pollTransact p n 0

/-- Does a transaction of poll p stand on a bus? -/
def State.pollOnBus (s : State) (p : Nat) : Bool := (List.range 3).any (fun b => s.sbusBusy b && (s.bus b).poll == some p)

/-- The polls stop: a run waiting out WAIT is abandoned without a change of status, and runs that wait for a bus are dropped; a run
with a transaction in progress ends after it (R441, R443). -/
def State.pollsStop (s : State) : State :=
  let s := { s with polls := s.polls.map (fun (p : Nat × PollSt) =>
    if s.pollOnBus p.1 then p else (p.1, { p.2 with running := false, waitTo := none })) }
  s.forEach (List.range 3) (fun s b =>
    s.setBus b { s.bus b with waiting := [], poll := if s.sbusBusy b then (s.bus b).poll else none })

/-- SBUS returns to the runtime (R50): the buses stand idle and no run is in progress. The minute of R435 goes on. -/
def State.sbusBack (s : State) : State :=
  ({ s with buses := s.buses.map (fun u => { lastStuck := u.lastStuck }) } : State).pollsStop

/-- A chip that leaves the active role (R441, R443): its runs are lost, and a transaction in progress is cut off with no event
(log entry 48). -/
def State.sbusStandby (s : State) : State :=
  (s.forEach (List.range 3) (fun s b => s.setRb (Reg.sbStat b) 0 false)).pollsStop

/-- The bus of a poll that ended passes to the lowest poll that waits for it (R439, R443). -/
def State.pollNext (s : State) (b : Nat) : State :=
  let s := s.setBus b { s.bus b with poll := none }
  if !s.pollsRun then s.pollsStop
  else
    match (s.bus b).waiting with
    | [] => s
    | p :: t => (s.setBus b { s.bus b with waiting := t }).pollStart p

/-- A failed run (R439). -/
def State.pollFail (s : State) (b p status : Nat) : State :=
  let q := s.poll p
  let n := q.series + 1
  let s := s.setPoll p { q with running := false, waitTo := none, status := status, failed := min (2 ^ 32 - 1) (q.failed + 1), series := n,
                                logged := q.logged || n == 3 }
  (if n = 3 && !q.logged then s.fault 0x1102 p else s).pollNext b

/-- Step 3 of R439: every group of three bytes read carries a good CRC. -/
def pollCrcOk (rx : List Byte) (n : Nat) : Bool :=
  (List.range (n / 3)).all (fun g => crc8 (slice rx (3 * g) 2) == (rx.getD (3 * g + 2) 0).toNat)

/-- Step 4 of R439: the raw value of LEN bytes at OFFSET. -/
def pollRaw (field : Nat) (rx : List Byte) : Int :=
  let len := field / 16 % 4 + 1
  let b := slice rx (field % 16) len
  let v := if field.testBit 7 then ofLe b else ofBe b
  if field.testBit 6 then (if v < 2 ^ (8 * len - 1) then (v : Int) else (v : Int) - (2 ^ (8 * len) : Nat))
  else if v < 2 ^ 31 then (v : Int) else (v : Int) - (2 ^ 32 : Nat)

/-- A run that read its bytes (R439 steps 3-5). -/
def State.pollGood (s : State) (b p : Nat) (rx : List Byte) : State :=
  let field := s.pollNat p 7
  if field.testBit 8 && !pollCrcOk rx (s.pollNat p 5) then s.pollFail b p 2
  else
    let raw := pollRaw field rx
    let s := s.vpvWrite (s.pollNat p 0xA) (ofInt32 (sat32 (raw * (s.poll p).gain + (s.poll p).offs)))
    let q := s.poll p
    let s := s.setPoll p { q with running := false, waitTo := none, status := 0, raw := raw, series := 0, logged := false }
    (if q.logged then s.faultClear 0x1102 p else s).pollNext b

/-- The end of a transaction of poll p with a status, 0 for good (R439 steps 1-3). Where the host has taken SBUS, or the
function has stopped, the run ends and its status is not updated (R443). -/
def State.pollTransactionEnd (s : State) (b p status : Nat) (rx : List Byte) : State :=
  let q := s.poll p
  if s.hostOwns 19 || !s.fnRuns 5 then (s.setPoll p { q with running := false, waitTo := none }).pollNext b
  else if status != 0 then s.pollFail b p status
  else if !q.second && !(s.pollCommand p).isEmpty && s.pollNat p 4 != 0 then
    if s.asleep then (s.setPoll p { q with running := false }).pollNext b
    else s.setPoll p { q with second := true, waitTo := some (s.now + ticksOfMs (s.pollNat p 4)) }
  else s.pollGood b p rx

/-- Is poll p due at this tick and not yet taken at it (R439)? -/
def State.pollDueNow (s : State) (p : Nat) : Bool :=
  let period := 4 * s.pollNat p 6
  p < 32 && s.pollsRun && s.awake && s.tb.running && s.pollNat p 0 == 1 &&
    (s.tb.count + period * 40 - 40 * p) % period == 0 && (s.poll p).dueAt != some s.now

/-- A due poll runs, waits for its bus in ascending order, or is skipped while its previous run goes on (R439, R443). -/
def State.pollTake (s : State) (p : Nat) : State :=
  let s := s.setPoll p { s.poll p with dueAt := some s.now }
  if (s.poll p).running then s.setPoll p { s.poll p with status := 5 }
  else
    let b := s.pollNat p 1
    if s.sbusBusy b || (s.bus b).poll.isSome || !(s.bus b).waiting.isEmpty then
      let s := s.setPoll p { s.poll p with running := true, second := false, waitTo := none }
      s.setBus b { s.bus b with waiting := ((s.bus b).waiting.filter (· < p)) ++ [p] ++ ((s.bus b).waiting.filter (p < ·)) }
    else s.pollStart p

/-- POLL_DUE (R439): poll p is due; of polls due on one bus at one tick the lower runs first (R443), so those below p take their turn
with it. -/
def execPollDue (p : Nat) (s : State) : Host.Outcome State Fault Refusal :=
  (if s.pollDueNow p then
    s.forEach ((List.range (p + 1)).filter (fun q => s.pollDueNow q && s.pollNat q 1 == s.pollNat p 1)) State.pollTake
   else s).done

/-- POLL_WAIT_END: WAIT milliseconds after the first transaction the second one starts (R439 step 1). -/
def execPollWaitEnd (p : Nat) (s : State) : Host.Outcome State Fault Refusal :=
  match (s.poll p).waitTo with
  | none => s.done
  | some t =>
    if !(t ≤ s.now && s.awake) then s.done
    else
      let b := s.pollNat p 1
      let s := s.setPoll p { s.poll p with waitTo := none }
      if s.pollsRun then (s.pollTransact p 0 (s.pollNat p 5)).done
      else ((s.setPoll p { s.poll p with running := false }).pollNext b).done

/-! ### The wires (R432, R433, R436) -/

/-- What stands on a two-wire bus (R433): START or a repeated START, a bit that the controller sends or, as a 1, leaves to the target,
and STOP. -/
inductive WireSym where
  | start | restart | bit (v : Bool) | stop
deriving DecidableEq, Repr

/-- The levels of SCL and SDA that a symbol drives, in order; true is released (R432). -/
def WireSym.levels : WireSym → List (Bool × Bool)
  | .start => [(true, true), (true, false), (false, false)]
  | .restart => [(false, true), (true, true), (true, false), (false, false)]
  | .bit v => [(false, v), (true, v), (false, v)]
  | .stop => [(false, false), (true, false), (true, true)]

/-- The bits of a byte, most significant first (R433, R436). -/
def byteBits (b : Byte) : List Bool := (List.range 8).map (fun i => b.getLsbD (7 - i))

/-- A byte that the controller sends, and the released acknowledge bit of the target. -/
def wireSend (b : Byte) : List WireSym := (byteBits b).map .bit ++ [.bit true]

/-- n bytes that the controller reads: it acknowledges every one but the last (R433). -/
def wireRead (n : Nat) : List WireSym :=
  (List.range n).flatMap (fun i => List.replicate 8 (.bit true) ++ [.bit (i + 1 == n)])

/-- A 7-bit address with R or W (R433). -/
def wireAddr (target : Nat) (read : Bool) : List WireSym := wireSend (BitVec.ofNat 8 (target * 2 + read.toNat))

/-- The sequence of a two-wire transaction whose target acknowledges every byte (R433). -/
def twoWire (target wlen rlen : Nat) (tx : List Byte) : List WireSym :=
  let writes := wireAddr target false ++ (tx.take wlen).flatMap wireSend
  let reads := wireAddr target true ++ wireRead rlen
  [.start] ++ (if rlen = 0 then writes else if wlen = 0 then reads else writes ++ [.restart] ++ reads) ++ [.stop]

/-- The same where the target does not acknowledge its `n`-th byte sent, counted from 0 at the address: STOP follows at once (R433). -/
def twoWireNack (target n : Nat) (tx : List Byte) : List WireSym :=
  [.start] ++ wireAddr target false ++ (tx.take n).flatMap wireSend ++ [.stop]

/-- The levels of SBMOSI, one for each SBSCK period: WLEN bytes of TX, then 0x00 (R436). -/
def spiOut (wlen rlen : Nat) (tx : List Byte) : List Bool := (tx.take wlen).flatMap byteBits ++ List.replicate (8 * rlen) false

/-- The 32 TX bytes of a bus. -/
def State.sbusTx (s : State) (b : Nat) : List Byte := (List.range 8).flatMap (fun i => leBytes 4 (s.reg (Reg.sbTx b i)).toNat)

/-- The levels of a two-wire bus while its transaction runs. -/
def State.sbusWire (s : State) (b : Nat) : List (Bool × Bool) :=
  (twoWire (s.bus b).target (s.bus b).wlen (s.bus b).rlen (s.sbusTx b)).flatMap WireSym.levels

/-- The levels of SBMOSI while a transaction of bus 2 runs. -/
def State.sbusMosi (s : State) : List Bool := spiOut (s.bus 2).wlen (s.bus 2).rlen (s.sbusTx 2)

/-- A finished transaction: its NACK field, how many bytes moved, what RX holds (R433). -/
def State.sbusFinish (s : State) (b bit nack moved : Nat) (rx : List Byte) : State :=
  (((s.setRb (Reg.sbStat b) bit true).setRf (Reg.sbStat b) 6 2 nack).setRf (Reg.sbStat b) 8 7 moved).sbusSetRx b rx

/-- The status bits, COUNT, RX, BUSY and the event at the end of a transaction (R433, R435, R437). NACK and STUCK never arise on
bus 2 (R436). Before the first address no byte has moved, before the repeated one all of WLEN. -/
def State.sbusPins (s : State) (b : Nat) (how : SbEnd) : State :=
  let u := s.bus b
  let s := s.setRb (Reg.sbStat b) 0 false
  match how with
  | .ok rx => (s.sbusFinish b 1 0 (u.wlen + u.rlen) (rx.take u.rlen)).fire (54 + b)
  | .nackAddr moved => (s.sbusFinish b 2 1 (if moved = 0 || u.rlen = 0 then 0 else u.wlen) []).fire (54 + b)
  | .nackData moved => (s.sbusFinish b 2 2 (min moved (u.wlen - 1)) []).fire (54 + b)
  | .stuck => (((s.setRf (Reg.sbStat b) 6 2 0).setRf (Reg.sbStat b) 8 7 0).sbusSetRx b []).sbusStuck b

/-- The poll status of an end (R442). -/
def sbEndStatus : SbEnd → Nat
  | .ok _ => 0
  | .nackAddr _ => 1
  | .nackData _ => 1
  | .stuck => 4

/-- The bytes read, of at most n. -/
def sbEndBytes (n : Nat) : SbEnd → List Byte
  | .ok rx => rx.take n
  | _ => []

/-- The end of a transaction at the pins, and of the poll it served (R437, R439). -/
def State.sbusEnd (s : State) (b : Nat) (how : SbEnd) : State :=
  let u := s.bus b
  let s := s.sbusPins b how
  match u.poll with
  | none => s
  | some p => s.pollTransactionEnd b p (sbEndStatus how) (sbEndBytes u.rlen how)

/-- Can a transaction of this bus end in this way (R433, R436)? A data byte goes unacknowledged only where bytes are written. -/
def State.sbusEndPossible (s : State) (b : Nat) (how : SbEnd) : Bool :=
  match how with
  | .ok _ => true
  | .nackData _ => b < 2 && 0 < (s.bus b).wlen
  | _ => b < 2

/-- SBUS_TRANSACTION_END (R437). -/
def execSbusTransactionEnd (b : Nat) (how : SbEnd) (s : State) : Host.Outcome State Fault Refusal :=
  if b < 3 && s.sbusBusy b && s.sbusEndPossible b how then (s.sbusEnd b how).done else s.done

/-- n free bytes, and the state with the draws counted. -/
def State.drawBytes : Nat → State → List Byte × State
  | 0, s => ([], s)
  | n + 1, s =>
    let a := s.drawWord
    let b := a.2.drawBytes n
    (BitVec.ofNat 8 (a.1.toNat % 256) :: b.1, b.2)

/-- The clock-stretch limit in base ticks: SBb_CFG.TOUT milliseconds, 0 acting as 1 (R434). -/
def State.sbusLimit (s : State) (b : Nat) : Nat := ticksOfMs (max 1 (s.rf (Reg.sbCfg b) 8 8))

/-- CLOCK_STRETCH_TIMEOUT: SCL stayed low for TOUT, on bus 0 or 1 (R434), so the transaction started at least that long ago. How many
bytes had moved, and what the target had sent, are free values (log entry 7); RX bytes not received read 0 (R437). -/
def execClockStretchTimeout (b : Nat) (s : State) : Host.Outcome State Fault Refusal :=
  if !(b < 2 && s.sbusBusy b && (s.bus b).startAt + s.sbusLimit b ≤ s.now) then s.done
  else
    let u := s.bus b
    let res := s.drawNat (u.wlen + u.rlen + 1)
    let n := res.1
    let s := res.2
    let s := (((s.setRb (Reg.sbStat b) 0 false).setRb (Reg.sbStat b) 3 true).setRf (Reg.sbStat b) 6 2 0).setRf (Reg.sbStat b) 8 7 n
    let res := State.drawBytes (n - u.wlen) s
    let rx := res.1
    let s := res.2
    let s := (s.sbusSetRx b rx).fire (54 + b)
    match u.poll with
    | none => s.done
    | some p => (s.pollTransactionEnd b p 3 []).done

/-- SBUS_STAT: BUSY and ERR of the three buses. -/
def State.sbusStatWord (s : State) : Word :=
  (List.range 3).foldl (fun w b => putBit (putBit w b (s.sbusBusy b)) (4 + b) (s.rf (Reg.sbStat b) 2 3 != 0)) 0

/-- Is a transaction in progress on any bus? Chill entry waits for its end (R441). -/
def State.sbusAnyBusy (s : State) : Bool := (List.range 3).any s.sbusBusy

end Sys2Proof.Machine
end

