-- ==== Sys2Proof/Machine/Trace.lean ====
section
/-! DEFINITION. CEN trace: channels that record one node of one slot (04_control_arithmetic, R153-R169). -/

namespace Sys2Proof.Machine

def State.trc (s : State) (t : Nat) : TrcSt := s.cen.trc.getD t {}

def State.setTrc (s : State) (t : Nat) (v : TrcSt) : State := { s with cen := { s.cen with trc := s.cen.trc.set t v } }

/-- STATE of a trace channel: 0 IDLE, 1 ARMED, 2 TRIGGERED, 3 DONE. -/
def State.trcState (s : State) (t : Nat) : Nat := s.rf (Reg.cenTrcStat t) 0 2

/-- The value of a node (R154). -/
def EvalResult.node (r : EvalResult) : Nat → Int
  | 0 => r.x
  | 1 => r.e
  | 2 => r.bsum
  | 3 => r.asum
  | 4 => r.i
  | 5 => r.y
  | 6 => r.f
  | 7 => r.v
  | _ => r.u

/-- The trigger condition at an evaluation (R156): `lvl` is LEVEL, `v` the node value, `p` the clamp pair. -/
def trcCondition (kind : Nat) (lvl v : Int) (prev : Option Int) (p : Bool × Bool) (pair : Option (Bool × Bool)) (event : Bool) :
    Bool :=
  let rise := match prev with | some q => decide (q < lvl ∧ v ≥ lvl) | none => false
  let fall := match prev with | some q => decide (q ≥ lvl ∧ v < lvl) | none => false
  match kind with
  | 0 => true
  | 1 => rise
  | 2 => fall
  | 3 => rise || fall
  | 4 => match pair with | some q => p != (false, false) && p != q | none => false
  | 5 => match pair with | some q => p == (false, false) && q != (false, false) | none => false
  | 6 => event
  | _ => false

/-- An entry is offered to ring 5 (R161). -/
def State.trcExport (s : State) (t i : Nat) (v : Int) (trig : Bool) : State :=
  if !s.rb (Reg.cenTrcCfg t) 25 then s
  else
    let taken := s.ringOn 5 && s.ringEsize 5 == 8 && (!s.ringFull 5 || s.rf (Reg.rngCfg 5) 6 2 == 1)
    let e := leBytes 4 (ofIntN 32 v) ++
      [BitVec.ofNat 8 t, BitVec.ofNat 8 (s.rf (Reg.cenTrcCfg t) 12 4)] ++ leBytes 2 (i + if trig then 4096 else 0)
    let s := s.ringOffer 5 e
    if taken then s else s.incSat (Reg.cenTrcLost t) 1

/-- A sample is written to entry WPTR (R155, R158, R159): the trigger entry if one is due, and the end of a one-shot. `tick` is
TBCOUNT of the boundary that opened the frame. -/
def State.trcSample (s : State) (t : Nat) (v : Int) (tick : Nat) : State :=
  let c := s.trc t
  let i := s.rf (Reg.cenTrcWptr t) 0 12
  let one := s.rb (Reg.cenTrcCfg t) 24
  let pre := s.rf (Reg.cenTrcTrig t) 16 12
  let s := s.setSword (0x40040000 + 0x4000 * t + 4 * i) v
  let s := s.setRf (Reg.cenTrcWptr t) 0 12 (i + 1)
  let s := if i = 4095 then s.setRb (Reg.cenTrcStat t) 4 true else s
  let hit := c.trig && s.trcState t == 1
  let s := if hit then
      let s := s.setReg (Reg.cenTrcTpos t) (BitVec.ofNat 32 (0x80000000 + i))
      let s := s.setReg (Reg.cenTrcTtime t) (BitVec.ofNat 32 tick)
      ((s.setRb (Reg.cenTrcStat t) 2 true).setRf (Reg.cenTrcStat t) 0 2 2).fire 6
    else s
  let after := if s.trcState t = 2 then (if hit then 1 else c.after + 1) else 0
  let s := s.setTrc t { s.trc t with written := c.written + 1, after := after, trig := c.trig && !hit }
  let s := if one && s.trcState t == 2 && 4096 - pre ≤ after then
      ((s.setRb (Reg.cenTrcStat t) 3 true).setRf (Reg.cenTrcStat t) 0 2 3).fire 6
    else s
  s.trcExport t i v hit

/-- Has a source fired since the previous evaluation of slot n, or ever where it had none (R156)? -/
def State.firedSince (s : State) (n ev : Nat) : Bool := recGet 0 s.cen.notes.evalAt n < recGet 0 s.cen.notes.firedAt ev

/-- One channel at an evaluation of its slot (R155-R157); `fired` says which sources have fired since the previous one. An event that the evaluation itself has fired counts at its own test
(DESIGN CHOICE, log entry 113). -/
def State.trcEval (s : State) (fired : Nat → Bool) (t n : Nat) (r : EvalResult) (tick : Nat) : State :=
  if (s.trcState t = 1 || s.trcState t = 2) && s.rf (Reg.cenTrcCfg t) 0 10 == n then
    let c := s.trc t
    let v := r.node (s.rf (Reg.cenTrcCfg t) 12 4)
    let decim := if s.rf (Reg.cenTrcCfg t) 16 8 = 0 then 256 else s.rf (Reg.cenTrcCfg t) 16 8
    let one := s.rb (Reg.cenTrcCfg t) 24
    let possible := s.trcState t = 1 && !s.rb (Reg.cenTrcStat t) 2 &&
      (!one || s.rf (Reg.cenTrcTrig t) 16 12 ≤ c.written || c.force)
    let met := possible && (c.force || trcCondition (s.rf (Reg.cenTrcTrig t) 0 3) (s.reg (Reg.cenTrcLevel t)).toInt v c.prev
      (r.ohi, r.olo) c.pair (fired (s.rf (Reg.cenTrcTrig t) 8 6)))
    let s := s.setTrc t { c with count := (c.count + 1) % decim, prev := some v, pair := some (r.ohi, r.olo),
                                 trig := c.trig || met, force := c.force && !possible }
    if c.count % decim = 0 then s.trcSample t v tick else s
  else s

/-- The evaluation of slot n is the previous one from here on (R156). -/
def State.evalNote (s : State) (n : Nat) : State :=
  { s with cen := { s.cen with notes := { s.cen.notes with evalAt := recPut 0 s.cen.notes.evalAt n s.cen.notes.count } } }

/-- Every channel at an evaluation of slot n. -/
def State.traceEval (s : State) (n : Nat) (r : EvalResult) (tick : Nat) : State :=
  (s.evalNote n).forEach (List.range s.nTraces) (fun t i => t.trcEval (s.firedSince n) i n r tick)

/-- Is an arm refused (R162, R169)? -/
def State.trcBad (s : State) (t : Nat) : Bool :=
  8 < s.rf (Reg.cenTrcCfg t) 12 4 || s.rf (Reg.cenTrcTrig t) 0 3 == 7 || s.nSlots ≤ s.rf (Reg.cenTrcCfg t) 0 10

/-- A write of ARM = 1 (R162). A FORCE that waits for its test stays (R157). -/
def State.trcArm (s : State) (t : Nat) : State :=
  if s.trcBad t then s.setRb (Reg.cenTrcStat t) 5 true
  else
    let s := (s.setReg (Reg.cenTrcWptr t) 0).setRb (Reg.cenTrcTpos t) 31 false
    (s.setReg (Reg.cenTrcStat t) (BitVec.ofNat 32 1 ||| (s.reg (Reg.cenTrcStat t) &&& 0x20))).setTrc t { force := (s.trc t).force }

/-- A write of STOP = 1 (R163): STATE becomes IDLE. -/
def State.trcStop (s : State) (t : Nat) : State := s.setRf (Reg.cenTrcStat t) 0 2 0

/-- A write of FORCE = 1 (R157). -/
def State.trcForce (s : State) (t : Nat) : State := s.setTrc t { s.trc t with force := true }

/-- A write of CEN_TRCt_CTRL (R163): STOP first, then ARM, where more than one bit is set. -/
def State.trcCtrlWrite (s : State) (t : Nat) (v : Word) : State :=
  if bitOf v 1 then s.trcStop t else if bitOf v 0 then s.trcArm t else if bitOf v 2 then s.trcForce t else s

/-- The RW bits of CFG, TRIG and LEVEL. -/
def trcMask : Nat → Word
  | 0 => 0x03FFF3FF
  | 1 => 0x0FFF3F07
  | _ => 0xFFFFFFFF

/-- A write of CFG (0), TRIG (1) or LEVEL (2): ignored while ARMED or TRIGGERED (R163). -/
def State.trcConfig (s : State) (t i : Nat) (v : Word) : State :=
  if s.trcState t = 1 || s.trcState t = 2 then s.setRb Reg.cenStat 11 true
  else s.setReg (Reg.cenTrcCfg t + 4 * i) (v &&& trcMask i)

/-- A write of CEN_TRCt_STAT: 1s clear TRIGF, DONEF and BADCFG; circular mode returns from TRIGGERED to ARMED (R160). -/
def State.trcStatWrite (s : State) (t : Nat) (v : Word) : State :=
  let s := s.clrReg (Reg.cenTrcStat t) (v &&& 0x2C)
  if bitOf v 2 && s.trcState t = 2 && !s.rb (Reg.cenTrcCfg t) 24 then s.setRf (Reg.cenTrcStat t) 0 2 1 else s

/-- A trace register of a channel that the variant lacks is absent (R169). -/
def State.trcGuard (s : State) (who : Init) (t addr : Nat) (f : State → State) : State :=
  if s.nTraces ≤ t then s.hit 0 addr (who == .host) else s.guardWrite who 7 addr f

/-- TRACE_ARM (R162). -/
def execTraceArm (who : Init) (t : Nat) (s : State) : Host.Outcome State Fault Refusal :=
  (s.trcGuard who (t % 4) (Reg.cenTrcCtrl (t % 4)) (fun s => s.trcCtrlWrite (t % 4) 1)).done

/-- TRACE_STOP (R163). -/
def execTraceStop (who : Init) (t : Nat) (s : State) : Host.Outcome State Fault Refusal :=
  (s.trcGuard who (t % 4) (Reg.cenTrcCtrl (t % 4)) (fun s => s.trcCtrlWrite (t % 4) 2)).done

/-- TRACE_FORCE (R157). -/
def execTraceForce (who : Init) (t : Nat) (s : State) : Host.Outcome State Fault Refusal :=
  (s.trcGuard who (t % 4) (Reg.cenTrcCtrl (t % 4)) (fun s => s.trcCtrlWrite (t % 4) 4)).done

/-- TRACE_CONFIG_WRITE (R163): `reg` 0 names CFG, 1 TRIG, 2 LEVEL. -/
def execTraceConfigWrite (who : Init) (t : Nat) (reg : Nat) (v : Word) (s : State) : Host.Outcome State Fault Refusal :=
  (s.trcGuard who (t % 4) (Reg.cenTrcCfg (t % 4) + 4 * (reg % 3)) (fun s => s.trcConfig (t % 4) (reg % 3) v)).done

/-- TRACE_LOST_READ (R161); an absent channel reads 0 (R169). -/
def execTraceLostRead (who : Init) (t : Nat) (s : State) : Host.Outcome State Fault Refusal :=
  (if s.nTraces ≤ t % 4 then { (s.hit 0 (Reg.cenTrcLost (t % 4)) (who == .host)) with lastRead := 0 }
   else s.readClear who 7 (Reg.cenTrcLost (t % 4)) 0xFFFFFFFF).done

/-- The 256 bytes of data page p of a channel (R164): a capture that had wrapped stays readable whole after a reset (R166). -/
def State.trcPage (s : State) (t p : Nat) : List Byte :=
  let wptr := s.rf (Reg.cenTrcWptr t) 0 12
  let wrap := s.rb (Reg.cenTrcStat t) 4
  (List.range 64).flatMap (fun j =>
    let k := 64 * p + j
    if wrap then s.bytes (0x40040000 + 0x4000 * t + 4 * ((wptr + k) % 4096)) 4
    else if k < wptr || 4096 ≤ (s.trc t).written then s.bytes (0x40040000 + 0x4000 * t + 4 * k) 4 else [0, 0, 0, 0])

end Sys2Proof.Machine
end

