-- ==== Sys2Proof/Machine/Od.lean ====
section
/-! DEFINITION. Object values: their encoding, their checks, the digests, and what a member reads (08_object_dictionary R254-R262, R275, R279, and the object tables of every chapter). -/

namespace Sys2Proof.Machine

/-! ### Encoding (R256) -/

/-- COUNT values of type t that take up all of the bytes. -/
def odDecAll (little : Bool) (t : Nat) : Nat → List Byte → Option (List OdVal)
  | 0, l => if l.isEmpty then some [] else none
  | k + 1, l =>
    match odDec little t l with
    | none => none
    | some (v, rest) => (odDecAll little t k rest).map (v :: ·)

/-! ### Checks of one value (R257) -/

/-- A UTF-8 decoder between bytes: continuation bytes still due, and the bounds of the next one. -/
def utf8Step (st : Option (Nat × Nat × Nat)) (b : Byte) : Option (Nat × Nat × Nat) :=
  let x := b.toNat
  match st with
  | none => none
  | some (0, _, _) =>
    if x < 0x80 then some (0, 0, 0)
    else if 0xC2 ≤ x && x ≤ 0xDF then some (1, 0x80, 0xBF)
    else if x = 0xE0 then some (2, 0xA0, 0xBF)
    else if x = 0xED then some (2, 0x80, 0x9F)
    else if 0xE1 ≤ x && x ≤ 0xEF then some (2, 0x80, 0xBF)
    else if x = 0xF0 then some (3, 0x90, 0xBF)
    else if 0xF1 ≤ x && x ≤ 0xF3 then some (3, 0x80, 0xBF)
    else if x = 0xF4 then some (3, 0x80, 0x8F)
    else none
  | some (n + 1, lo, hi) => if lo ≤ x && x ≤ hi then some (n, 0x80, 0xBF) else none

/-- Is a byte string valid UTF-8? -/
def utf8Ok (l : List Byte) : Bool :=
  match l.foldl utf8Step (some (0, 0, 0)) with
  | some (0, _, _) => true
  | _ => false

/-- Is a number within the range of a member's table? -/
def OdRange.has (r : OdRange) (v : Int) : Bool :=
  let n := v.toNat
  match r with
  | .any => true
  | .between lo hi => decide (lo ≤ v ∧ v ≤ hi)
  | .oneOf l => l.contains v
  | .nudge => decide ((-59 ≤ v ∧ v ≤ -1) ∨ (1 ≤ v ∧ v ≤ 59))
  | .orNone lo hi no => decide ((lo ≤ v ∧ v ≤ hi) ∨ v = no)
  | .source => n / 8 % 32 == 0 && n / 2 ^ 18 % 64 == 0 && n / 2 ^ 29 % 8 == 0
  | .tap => n / 8 % 32 == 0 && n / 2 ^ 18 % 64 == 0 && n / 2 ^ 24 % 256 == 0
  | .dest => n / 8 % 32 == 0 && n / 2 ^ 15 == 0
  | .addr => decide (v ≤ 0x3FE ∧ n % 32 ≤ 30)

/-- The response code of a value for a member: 0, 0x05 RANGE or 0x0A LENGTH (R257). A BLOB whose table gives one length only has
a type of that length (log entry 21). -/
def odValueCode (r : OdRow) (v : OdVal) : Nat :=
  match v with
  | .bytes b =>
    if r.typ = 13 then (if utf8Ok b then 0 else 5)
    else
      match r.range with
      | .between lo hi =>
        if decide (lo ≤ (b.length : Int) ∧ (b.length : Int) ≤ hi) then 0 else if lo = hi then 10 else 5
      | _ => 0
  | .coef _ sh => if sh ≤ 31 then 0 else 5
  | .num x =>
    if r.typ = 1 && decide (1 < x) then 5
    else if r.typ = 12 && !bcdOk x.toNat then 5
    else if r.range.has x then 0 else 5

/-! ### Members in order, and the digests (R279, R280) -/

/-- The instances that a row covers, ascending. -/
def OdRow.instances (r : OdRow) : List Nat := (List.range (r.i1 + 1 - r.i0)).map (r.i0 + ·)

/-- The members of a row. -/
def OdRow.members (r : OdRow) : List Nat := (List.range (r.m1 + 1 - r.m0)).map (r.m0 + ·)

/-- The highest instance of a class. -/
def odTop (c : Nat) : Nat := (OdRow.ofClass c).foldl (fun m r => max m r.i1) 0

/-- The object IDs of a class of whose rows a test holds, in ascending order of instance and member. -/
def odIdsOf (c : Nat) (p : OdRow → Bool) : List Nat :=
  (List.range (odTop c + 1)).flatMap (fun i =>
    ((OdRow.ofClass c).filter (fun r => r.i0 ≤ i && i ≤ r.i1 && p r)).flatMap (fun r =>
      (r.members.map (fun m => odId c i m)).filter (fun id => (odRow id).isSome)))

/-- The members that a test selects and that are present on the part, ascending. -/
def State.odMembers (s : State) (p : OdRow → Bool) : List Nat :=
  (odClasses.flatMap (fun c => odIdsOf c p)).filter s.odPresent

/-- The bytes that a digest takes of one member. -/
def odDigestBytes (committed : List (Nat × OdVal)) (id : Nat) : List Byte :=
  match odRow id with
  | none => []
  | some r => beBytes 4 id ++ [BitVec.ofNat 8 r.typ] ++ odEnc false r.typ (Tab.get odDefault committed id)

/-- A digest of a committed set over the members that a test selects (R279). -/
def State.odDigest (s : State) (committed : List (Nat × OdVal)) (p : OdRow → Bool) : Nat :=
  ofBe (slice (sha512 ((s.odMembers p).flatMap (odDigestBytes committed))) 0 8)

/-- The heat digest and the shared digest of a committed set. -/
def State.odDigests (s : State) (committed : List (Nat × OdVal)) : Nat × Nat :=
  (s.odDigest committed OdRow.persist, s.odDigest committed OdRow.shared)

/-- The persistent members of a committed set: what the Knab store holds of it (R260). -/
def odPersistent (committed : List (Nat × OdVal)) : List (Nat × OdVal) :=
  committed.filter (fun p => match odRow p.1 with | some r => r.persist | none => false)

/-! ### Which function governs a member (R264, R265) -/

/-- The function that governs an instance (R263). -/
def State.odFnOf (s : State) (c i : Nat) : Option Nat :=
  match c with
  | 0x12 | 0x13 => some 1
  | 0x11 => if i = 0xFFF then some 2 else if i < 1024 then
      (let f := s.odNat 0x11 i 5; if fnDefined f then some f else none) else none
  | 0x17 => some 3
  | 0x18 => some 4
  | 0x1B => some 5
  | 0x10 => some (0x100 + i)
  | 0x14 => some (0x180 + i)
  | 0x15 | 0x16 => if i < 16 then some (0x1A0 + i) else none
  | _ => none

/-- The function that governs a member: only STOP and PERSIST members are governed (R264). -/
def State.odGoverns (s : State) (id : Nat) : Option Nat :=
  match odRow id with
  | some r => if r.stop || r.persist then s.odFnOf (odClass id) (odInst id) else none
  | none => none

/-- The staged value of a member. -/
def State.odStaged (s : State) (id : Nat) : Option OdVal :=
  (s.od.staged.find? (fun e => e.id == id)).map Staged.val

/-- The staged values of a function. -/
def State.fnStaged (s : State) (f : Nat) : List Staged := s.od.staged.filter (fun e => e.fn == f)

/-- A value is staged for a function, replacing what the member had staged. -/
def State.odStage (s : State) (id f : Nat) (v : OdVal) : State :=
  { s with od := { s.od with staged := s.od.staged.filter (fun e => e.id != id) ++ [{ id := id, fn := f, val := v }] } }

/-- The function's staged values are dropped (R268). -/
def State.fnDrop (s : State) (f : Nat) : State :=
  { s with od := { s.od with staged := s.od.staged.filter (fun e => e.fn != f) } }

/-- The committed set overlaid with what a function has staged. -/
def State.odCandidate (s : State) (f : Nat) : List (Nat × OdVal) :=
  (s.fnStaged f).foldl (fun t e => Tab.put odDefault t e.id e.val) s.od.committed

/-! ### Transactions in flight (R288) -/

/-- Responses to the host that wait for room in ring 13: they keep their entries (R288, R459), but a BUSY answer never had one
(R289). -/
def State.txnWaiting (s : State) : Nat := (s.held.filter (fun h => h.ring == 13 && !h.busy)).length

/-- Entries in use (ODX_STAT.INUSE, R288). -/
def State.txnUse (s : State) : Nat := s.od.txns.length + s.txnWaiting

/-! ### Live values (R275 and the object table of each chapter) -/

/-- A register as an unsigned value. -/
def State.odReg (s : State) (a : Nat) : OdVal := .num (s.reg a).toNat

/-- A register or a word of memory as a signed value. -/
def odWord (w : Word) : OdVal := .num w.toInt

def odBool (b : Bool) : OdVal := .num (if b then 1 else 0)

/-- Class 01. -/
def State.odLive01 (s : State) (m : Nat) : OdVal :=
  match m with
  | 0 => .num (sysIdOf s.variant).toNat
  | 1 => .num s.nv.serial
  | 3 => .num (s.rf Reg.pwrStrap 0 2)
  | 4 => .num s.od.rtVersion
  | 5 => .num (sysUnitsOf s.variant).toNat
  | 6 => s.odReg Reg.sysOwn
  | _ => .num s.od.cfgVersion

/-- Class 02. -/
def State.odLive02 (s : State) (m : Nat) : OdVal :=
  match m with
  | 0 => .num s.od.heat
  | 1 => .num s.od.hdig
  | 2 => .num s.od.sdig
  | 4 => .num s.od.mismatchCount
  | _ => .num (s.od.mismatch.getD (m - 0x10) 0xFFFF)

/-- Class 03. -/
def State.odLive03 (s : State) (m : Nat) : OdVal :=
  match m with
  | 0 => .num (if fieldsValid s.rtcFields then secOf s.rtcFields else s.rtc.epoch)
  | 0x11 => .num s.rtc.lastError
  | 0x12 => s.odReg Reg.rtcStat
  | _ => .num (s.rtcFields.getD (m - 2) 0)

/-- Class 08. -/
def State.odLive08 (s : State) (f m : Nat) : OdVal :=
  match m with
  | 0 => .num (s.fn f).state
  | 2 => .num (s.fn f).resp
  | 3 => .num (s.fnStaged f).length
  | 4 => .num (s.fn f).heatAt
  | _ => .num (s.fn f).tickAt

/-- Class 10. -/
def State.odLive10 (s : State) (z m : Nat) : OdVal :=
  match m with
  | 0 => .num (s.zoneMode z)
  | 4 => .num (s.zonePres z)
  | 0x1C => .num (s.zone z).tsp
  | 0x1D => .num (s.zone z).rsp
  | 0x1E => .num (s.zone z).dew
  | _ => .num (s.rf (Reg.zonState z) 8 8)

/-- Class 11: a slot, a virtual PV, the frame plan. -/
def State.odLive11 (s : State) (i m : Nat) : OdVal :=
  if i = 0xFFF then
    (match m with
     | 4 => .num (s.rf Reg.cenAdmit 0 16)
     | 5 => .num (s.rf Reg.cenAdmit 16 3)
     | _ => s.odReg (Reg.cenOvr (m - 6)))
  else if i ≥ 1024 then odWord (s.word (vpvAddr (i - 1024)))
  else
    (match m with
     | 0x20 => odWord (s.word (spAddr i))
     | 0x21 => odWord (s.slotWord i 0)
     | 0x22 => odWord (s.slotWord i 0x08)
     | 0x23 => odWord (s.slotWord i 0x28)
     | 0x24 => odWord (s.slotWord i 0x24)
     | _ => .num (s.sstat i).toNat)

/-- Class 12. -/
def State.odLive12 (s : State) (i m : Nat) : OdVal :=
  if i = 0xFF then (if m = 5 then s.odReg Reg.acqPasscnt else .num (s.rf Reg.acqCal 0 4))
  else
    (match m with
     | 0 => odWord (s.word (acqPv i))
     | 1 => .num (s.word (acqStatus i)).toNat
     | 2 => .num (s.word (acqLast i)).toNat
     | _ => .num (s.cmpState i))

/-- Class 14 but ACTn_STAT. -/
def State.odLive14 (s : State) (n m : Nat) : OdVal :=
  match m with
  | 0x20 => odWord (s.reg (Reg.actnCmd n))
  | 0x21 => .num (s.actX n)
  | 0x22 => odWord (s.actPosWord n)
  | _ => .num (ofLe (s.knabBytes (0x50000400 + 8 * n) 8) + s.strokesSince n)

/-- Class 15. -/
def State.odLive15 (s : State) (f m : Nat) : OdVal :=
  if f = 0xFF then
    (if m = 5 then s.odReg Reg.fanStat else .num s.shdnStatWord.toNat)
  else
    (match m with
     | 0x10 => .num (s.fan1 f).state
     | 0x11 => .num (s.fan1 f).retry
     | 0x12 => .num (s.fanDuty f)
     | 0x13 => .num (s.rf (Reg.fanfRpm f) 0 16)
     | 0x14 => .num (s.fanDemand f)
     | 0x15 => .num (s.fanTable f (s.fanDemand f))
     | _ => .num (s.knabCtrVal f / 3600))

/-- Classes 17 and 18. -/
def State.odLive17 (s : State) (m : Nat) : OdVal :=
  match m with
  | 0x17 => .num s.lockState
  | 0x18 => .num s.lockAttempts
  | 0x19 => .bytes ((List.range 8).flatMap (fun i => leBytes 4 (s.kpdKeysWord i).toNat))
  | 0x1A => s.odReg Reg.kpdDrop
  | 0x1B => .num (s.knabCtrVal 16)
  | _ => .bytes ((List.range 8).flatMap (fun i => leBytes 4 (s.reg (Reg.kpdMask i)).toNat))

def State.odLive18 (s : State) (n m : Nat) : OdVal :=
  match m with
  | 5 => .num (sfld (s.reg (Reg.encCnt n)) 0 16)
  | 6 => odBool (s.rb (Reg.encStat n) 3)
  | _ => s.odReg (Reg.encErr n)

/-- Classes 20, 21 and 22. -/
def State.odLive20 (s : State) (p m : Nat) : OdVal :=
  match m with
  | 6 => s.odReg (Reg.netpStat p)
  | 0x23 => s.odReg Reg.netSeq
  | _ => s.odReg (Reg.netpTxfrm p + 4 * (m - 7))

def State.odLive21 (s : State) (m : Nat) : OdVal :=
  match m with
  | 0 => .num s.twinState
  | 1 => .num (s.rf Reg.twnStat 0 2)
  | 2 => .num s.role
  | 3 => odBool (s.rb Reg.twnStat 6)
  | 6 => .num (s.rf Reg.twnSwap 0 3)
  | 0xB => .num ((List.range 32).foldl (fun n i => n + ((List.range 32).filter (fun b => s.rb (Reg.twnDivmap i) b)).length) 0 : Nat)
  | 0xC => s.odReg Reg.twnPeerheat
  | 0xD => .num (s.knabCtrVal 17)
  | 0xE => .num (s.rf Reg.twnStat 16 4)
  | 0xF => .num s.twn.roleTick
  | 0x20 => .num ((s.twn.partner.map Hello.rtVersion).getD 0)
  | _ => .num (s.twn.swapFns.getD (m - 0x10) 0xFFFF)

def State.odLive22 (s : State) (m : Nat) : OdVal :=
  .num (if m = 1 then s.net.lastCensus else s.net.censusReplies)

/-- Classes 31 and 32: the log in the Knab store, 31 the fault log and 32 the event log. -/
def State.odLiveLog (s : State) (c i m : Nat) : OdVal :=
  let n := s.knabCtrVal (if c = 0x31 then 18 else 19)
  if i = 0 then (if m = 0 then .num n else .num (if n = 0 then 0 else (n - 1) % 256 : Nat))
  else .bytes (s.knabBytes ((if c = 0x31 then 0x50002000 else 0x50003000) + 16 * (i - 0x100)) 16)

/-- Class 33. -/
def State.odLive33 (s : State) (t m : Nat) : OdVal :=
  match m with
  | 0 => .num (s.rf (Reg.cenTrcCfg t) 0 10)
  | 1 => .num (s.rf (Reg.cenTrcCfg t) 12 4)
  | 2 => .num (if s.rf (Reg.cenTrcCfg t) 16 8 = 0 then 256 else s.rf (Reg.cenTrcCfg t) 16 8)
  | 3 => .num (s.rf (Reg.cenTrcCfg t) 24 1)
  | 4 => .num (s.rf (Reg.cenTrcCfg t) 25 1)
  | 5 => .num (s.rf (Reg.cenTrcTrig t) 0 3)
  | 6 => .num (s.rf (Reg.cenTrcTrig t) 8 6)
  | 7 => odWord (s.reg (Reg.cenTrcLevel t))
  | 8 => .num (s.rf (Reg.cenTrcTrig t) 16 12)
  | 0xA => .num (s.trcState t)
  | 0xB => .num (if s.rb (Reg.cenTrcTpos t) 31 then s.rf (Reg.cenTrcTpos t) 0 12 else 0xFFFF)
  | 0xC => s.odReg (Reg.cenTrcTtime t)
  | 0xD => s.odReg (Reg.cenTrcLost t)
  | _ => .bytes (s.trcPage t (m - 0x40))

/-- Class 3F. -/
def State.odLive3F (s : State) (m : Nat) : OdVal :=
  match m with
  | 0 => .num (s.rf Reg.pwrPour 16 2)
  | 1 => .num (s.pourStatus 0)
  | 2 => .num (s.pourStatus 1)
  | 3 => .num s.pwr.lastReject
  | 4 => .num s.pwr.cfgSig
  | 5 => .num s.nv.imgTag
  | 6 => .num (s.rf Reg.pwrRstcause 0 3)
  | 7 => .num (s.rf Reg.pwrShake 8 24)
  | 8 => .num s.pwr.pourTime
  | 9 => .num s.pwr.cfSkipped
  | _ => .num s.pwr.fnRefused

/-- The live value of a member that is not a stored setting. -/
def State.odLive (s : State) (id : Nat) : OdVal :=
  let i := odInst id
  let m := odMem id
  match odClass id with
  | 0x01 => s.odLive01 m
  | 0x02 => s.odLive02 m
  | 0x03 => s.odLive03 m
  | 0x04 => odBool (if m = 2 then s.rootKeyNow.isSome else s.nv.custodianKey.isSome)
  | 0x08 => s.odLive08 i m
  | 0x10 => s.odLive10 i m
  | 0x11 => s.odLive11 i m
  | 0x12 => s.odLive12 i m
  | 0x14 => s.odLive14 i m
  | 0x15 => s.odLive15 i m
  | 0x17 => s.odLive17 m
  | 0x18 => s.odLive18 i m
  | 0x1A => if m = 4 then s.odReg (Reg.zonPinCnt i) else s.odReg (Reg.zonPinLast i)
  | 0x1B => (match m with
      | 0xB => .num (s.poll i).status
      | 0xC => .num (s.poll i).raw
      | _ => .num (s.poll i).failed)
  | 0x20 => s.odLive20 i m
  | 0x21 => s.odLive21 m
  | 0x22 => s.odLive22 m
  | 0x30 => .num (if m = 6 then s.txnUse else s.od.counters.getD (if m = 7 then 6 else m) 0)
  | 0x31 | 0x32 => s.odLiveLog (odClass id) i m
  | 0x33 => s.odLive33 i m
  | 0x3F => s.odLive3F m
  | _ => .num 0

/-- Is a member a stored setting: PERSIST, or STOP other than the position of a STEP channel? -/
def OdRow.stored (r : OdRow) : Bool := r.persist || (r.stop && !(r.c == 0x14 && r.m0 == 0x22))

/-- What a read of a member returns, with whether it is a staged value (R275). `committed` is the request's flag. -/
def State.odReadOne (s : State) (r : OdRow) (id : Nat) (committed : Bool) : OdVal × Bool × State :=
  match (if committed then none else s.odStaged id) with
  | some v => (v, true, s)
  | none =>
    if id = odId 0x22 0 0 then
      let v := (s.odNat 0x22 0 0 ||| 1) % 2 ^ 31
      (.num (v - v / 2 % 2 * 2 + (if s.rb Reg.pwrPour 7 && s.rf Reg.pwrPour 16 2 == 1 then 2 else 0) : Nat), false, s)
    else if r.stored then (s.odGet id, false, s)
    else if odClass id = 0x14 && odMem id = 0x23 then
      let res := s.actStatWord (odInst id)
      let w := res.1
      let s := res.2
      (.num w.toNat, false, s)
    else (s.odLive id, false, s)

end Sys2Proof.Machine
end

