-- ==== Sys2Proof/Machine/Validate.lean ====
section
/-! DEFINITION. The validation of a function's whole set at its start (R270 step 2), each rule from the function's own chapter: R37, R98, R122, R132, R171, R219, R251, R440, R574. Every definition here reads the objects of a state whose committed set is the set to be judged. -/

namespace Sys2Proof.Machine

/-- The response code of the first refusal of a list that applies, or 0. -/
def firstCode (l : List (Bool × Nat)) : Nat := ((l.find? Prod.fst).map Prod.snd).getD 0

/-- The first code that is not 0 over a list. -/
def eachCode (l : List Nat) (f : Nat → Nat) : Nat := ((l.map f).find? (· != 0)).getD 0

/-- lo ≤ v ≤ hi fails. -/
def outside (v : Int) (lo hi : Int) : Bool := decide (v < lo) || decide (hi < v)

/-- Each value of a list is above the one before it. -/
def ascends : List Int → Bool
  | [] => true
  | [_] => true
  | a :: b :: t => decide (a < b) && ascends (b :: t)

/-! ### Acquisition plan (R74, R98) -/

/-- Is a channel the half of a differential pair in the set judged (12.d.0E)? -/
def State.odPaired (s : State) (c : Nat) : Bool := c < 64 && s.odNat 0x12 (c / 2 * 2) 0xE == 1

/-- The thresholds of a decimator fit its comparator mode (R98). -/
def State.thresholdsOk (s : State) (d : Nat) : Bool :=
  let v := fun m => s.odNum 0x12 d m
  decide (0 ≤ v 0xB) &&
    (match s.odNat 0x12 d 7 with
     | 1 => decide (v 8 ≤ v 0xA)
     | 2 => decide (v 8 < v 9 ∧ v 9 < v 0xA)
     | _ => true)

/-- The entries that a plan runs: those below LEN. R98 does not say whether entries from LEN on are judged: they are not, while every
present decimator is (DESIGN CHOICE, log entry 35). -/
def State.planEntries (s : State) : List Nat := List.range (min 256 (s.odNat 0x12 0xFF 0))

/-- One sequence entry (R98). CHAN 88 and above has no code of its own there and answers 0x05 (DESIGN CHOICE, log entry 35). -/
def State.entryCode (s : State) (i : Nat) : Nat :=
  let e := fun j m => s.odNat 0x13 j m
  let c := e i 0
  let d := e i 6
  let pair := s.odPaired c
  let clash := (List.range i).any (fun j => e j 6 == d && s.odPaired (e j 0) != pair)
  firstCode [(decide (88 ≤ c), 5), (!s.acqHas c, 2), (pair && c % 2 == 1, 5), (outside (e i 1) 1 256, 5),
    (decide (3 < e i 4) || (decide (1 < e i 4) && !pair), 5),
    (e i 5 != 0 && outside (e i 5) 4 7, 5), (e i 5 != 0 && decide (s.nSlices ≤ e i 5 - 4), 2),
    (d != 127 && decide (88 ≤ d), 5), (d != 127 && !s.acqHas d, 2), (d != 127 && clash, 5)]

/-- One decimator (R98). TABLE above 7 has no row there and answers 0x05 (DESIGN CHOICE, log entry 35). -/
def State.decCode (s : State) (d : Nat) : Nat :=
  let v := fun m => s.odNat 0x12 d m
  firstCode [(decide (1 < v 3), 5), (decide (7 < v 4), 5), (decide (2 < v 7), 5), (outside (v 0xC) 1 15, 5),
    (!s.thresholdsOk d, 5)]

/-- n_g × GUARD_SETTLE above 3,600 (R74). -/
def guardTooLong (settle : Nat) (channels : List Nat) : Bool := decide (3600 < channels.length * settle)

/-- Function 0x001. The guard channels are counted under the pairs of the starting plan and with the GUARD_SETTLE that it loads (R74). -/
def State.acqCode (s : State) : Nat :=
  let p := fun m => s.odNat 0x12 0xFF m
  let entries := eachCode s.planEntries s.entryCode
  let decs := eachCode ((List.range 88).filter s.acqHas) s.decCode
  firstCode [(outside (p 0) 1 256, 5), (decide (1048576 < p 2), 5), (p 2 != 0 && decide (p 2 ≤ p 3), 5),
    (guardTooLong (p 4) (s.guardsUnder s.odPaired), 5), (entries != 0, entries), (decs != 0, decs)]

/-! ### Slots (R114, R132, R265) -/

/-- Is a slot enabled in the set judged (TYPE not 0)? -/
def State.odSlotOn (s : State) (n : Nat) : Bool := n < s.nSlots && s.odNat 0x11 n 1 != 0

/-- The staged FUNC of a slot is for another function than f: the slot then belongs to neither (R265). -/
def State.slotMoving (s : State) (f n : Nat) : Bool := s.od.staged.any (fun e => e.id == odId 0x11 n 5 && e.fn != f)

/-- The slots of function f in the set judged. -/
def State.fnSlots (s : State) (f : Nat) : List Nat :=
  (List.range s.nSlots).filter (fun n => s.odNat 0x11 n 5 == f && !s.slotMoving f n)

/-- The slots that the staged values of function f give a FUNC that names no function (R132, R265). -/
def State.fnLeaving (s : State) (f : Nat) : List Nat :=
  (List.range s.nSlots).filter (fun n => s.od.staged.any (fun e => e.id == odId 0x11 n 5 && e.fn == f && e.val != .num f))

/-- One source word of slot n (R110, R114, R132). -/
def State.sourceCode (s : State) (n w : Nat) (isSp : Bool) : Nat :=
  let kind := w % 8
  let i := w / 256 % 1024
  firstCode [(kind == 7 || (isSp && kind == 5), 5), (kind == 1 && decide (88 ≤ i), 5), (kind == 1 && !s.acqHas i, 2),
    ((kind == 2 || kind == 3 || kind == 4) && decide (s.nSlots ≤ i), 2),
    (kind == 2 && !(s.odNat 0x11 i 0 == s.odNat 0x11 n 0 && i < n), 5),
    ((kind == 2 || kind == 3) && !s.odSlotOn i, 5), (kind == 6 && decide (256 ≤ i), 5)]

/-- The destination word of slot n (R113, R132). -/
def State.destCode (s : State) (n w : Nat) : Nat :=
  let kind := w % 8
  let i := w / 256 % 128
  let same := fun m => m != n && s.odSlotOn m && s.odNat 0x11 m 7 % 8 == kind && s.odNat 0x11 m 7 / 256 % 128 == i
  firstCode [(decide (3 < kind), 5), (kind == 1 && decide (31 < i), 5), (kind == 3 && decide (15 < i), 5),
    (kind == 1 && decide (s.nActs ≤ i), 2), (kind == 2 && decide (s.nFans ≤ i / 8), 2), (kind == 3 && decide (s.nFans ≤ i), 2),
    (kind != 0 && (List.range s.nSlots).any same, 5)]

/-- The clamps of slot n are ordered (R132). -/
def State.clampsOk (s : State) (n : Nat) : Bool :=
  decide (s.odNum 0x11 n 0x18 ≤ s.odNum 0x11 n 0x19 ∧ s.odNum 0x11 n 0x1A ≤ s.odNum 0x11 n 0x1B)

/-- One enabled slot (R132): SP_SRC and DEST always, a tap source only where its TAPEN bit is 1. -/
def State.slotCode (s : State) (n : Nat) : Nat :=
  let v := fun m => s.odNat 0x11 n m
  let tapOn := fun i => (v 0x1E).testBit i
  let sp := s.sourceCode n (v 6) true
  let taps := eachCode ((List.range 4).filter tapOn) (fun i => s.sourceCode n (v (8 + i)) false)
  firstCode [(sp != 0, sp), (taps != 0, taps), (v 4 == 1 && !tapOn 3, 5), (s.destCode n (v 7) != 0, s.destCode n (v 7)),
    (!s.clampsOk n, 5), (!fnDefined (v 5), 5)]

/-! ### Control frame plan (R37) and zones (R9, R171) -/

/-- The periods of the set judged. -/
def State.odPeriods (s : State) : List Nat := (List.range 4).map (fun k => s.odNat 0x11 0xFFF k)

/-- The entries of a zone's map from member m0 on that are named. -/
def State.zoneNamed (s : State) (z m0 n none : Nat) : List Nat :=
  ((List.range n).map (fun i => s.odNat 0x10 z (m0 + i))).filter (· != none)

/-- A source word of a zone: KIND 1 or 6 (R171), 0 where the PV is optional. -/
def State.zoneSourceCode (s : State) (optional : Bool) (w : Nat) : Nat :=
  let kind := w % 8
  let i := w / 256 % 1024
  if kind = 0 then (if optional then 0 else 5)
  else firstCode [(!(kind == 1 || kind == 6), 5), (kind == 1 && decide (88 ≤ i), 5), (kind == 1 && !s.acqHas i, 2),
    (kind == 6 && decide (256 ≤ i), 5)]

/-- An index of a map: beyond every variant's count it is out of range, beyond this part's it is absent. -/
def mapCode (all here i : Nat) : Nat := if all ≤ i then 5 else if here ≤ i then 2 else 0

/-- The orderings and ranges of a zone's limits and setpoints (R171, R172). -/
def State.zoneLimitsOk (s : State) (z : Nat) : Bool :=
  let v := fun m => s.odNum 0x10 z m
  decide (v 0x14 < v 0x15) && [0x10, 0x12].all (fun m => decide (v 0x14 ≤ v m ∧ v m ≤ v 0x15)) &&
    (v 0xC == 0xFFFF || [0x11, 0x13].all (fun m => decide (v m ≤ v 0x16)))

/-- The source of a mapped presence input (R9, R182): an absent decimator or encoder. -/
def State.pinCode (s : State) (p : Nat) : Nat :=
  let src := s.odNat 0x1A p 1
  let dec := src % 256 < 88 && !s.acqHas (src % 256)
  match s.odNat 0x1A p 0 with
  | 1 | 2 => if dec then 2 else 0
  | 4 => if src % 256 < 4 && s.nEncs ≤ src % 256 then 2 else 0
  | 5 => if src < 256 && dec then 2 else 0
  | _ => 0

/-- Function 0x100 + z. -/
def State.zoneCode (s : State) (z : Nat) : Nat :=
  let src := eachCode (List.range 5) (fun i => s.zoneSourceCode (i != 0) (s.odNat 0x10 z (5 + i)))
  let regs := eachCode (s.zoneNamed z 0xB 2 0xFFFF) (mapCode 1024 s.nSlots)
  let slots := s.zoneNamed z 0x20 16 0xFFFF
  let acts := s.zoneNamed z 0x30 8 0xFF
  let fans := eachCode (s.zoneNamed z 0x38 4 0xFF) (fun i => mapCode 16 s.nFans (i / 8))
  let pins := eachCode ((s.zoneNamed z 0x3C 8 0xFF).filter (fun p => decide (p < 128))) s.pinCode
  let absent := eachCode slots (mapCode 1024 s.nSlots)
  let actc := eachCode acts (mapCode 32 s.nActs)
  let shared := (List.range s.nZones).any (fun y => y != z && (s.zoneNamed y 0x30 8 0xFF).any (fun a => acts.contains a))
  firstCode [(src != 0, src), (s.odNat 0x10 z 0xB == 0xFFFF, 5), (regs != 0, regs), (absent != 0, absent), (actc != 0, actc),
    (fans != 0, fans), ((s.zoneNamed z 0x3C 8 0xFF).any (fun p => decide (128 ≤ p)), 5),
    (pins != 0, pins), (slots.any (fun n => !(s.odSlotOn n && s.odNat 0x11 n 5 == 0x100 + z && !s.slotMoving (0x100 + z) n)), 5), (shared, 5),
    (outside (s.odNat 0x11 0xFFF 2) 4000 240000, 5), (!s.zoneLimitsOk z, 5)]

/-! ### Actuators and fans (R219, R251) -/

/-- Function 0x180 + n: of the timing fields, those that the mode uses. -/
def State.actCode (s : State) (n : Nat) : Nat :=
  let v := fun m => s.odNat 0x14 n m
  let mode := v 0
  let fb := v 0x10
  firstCode [(decide (4 < mode), 5), (v 1 == 1 && mode != 1, 5), (mode == 1 && outside (v 4) 820 1638400, 5),
    (mode == 2 && (outside (v 5) 10 600 || outside (v 6) 100 2000 || decide (1000 < v 7) || decide (1000 < v 8)), 5),
    (mode == 3 && (outside (v 9) 1 20000 || outside (v 0xA) 1 2147483647), 5), (decide (3 < v 0xD), 5),
    (fb != 0xFF && decide (88 ≤ fb), 5), (fb != 0xFF && !s.acqHas fb, 2), (fb != 0xFF && (v 0x12 == 0 || v 0x13 == 0), 5)]

/-- The guard channels as they would stand with fan f's own primary and buddy in the set judged (R74). -/
def State.fanGuards (s : State) (f : Nat) : List Nat :=
  let ch := fun m => let c := s.odNat 0x15 f m; if c < 64 then c + 128 else 0
  (s.setReg (Reg.fanfAutoch f) (BitVec.ofNat 32 (ch 0xE + 256 * ch 0xF))).guardChannels

/-- The orderings of R251 among members that a running fan takes at once (R285): ILO at most ISTALL, and the CODE points strictly
monotonic where a primary or buddy channel is named. -/
def State.fanLimitsOk (s : State) (f : Nat) : Bool :=
  let codes := (List.range 8).map (fun i => s.odNum 0x16 f (0x10 + i))
  let named := s.odNat 0x15 f 0xE != 0xFF || s.odNat 0x15 f 0xF != 0xFF
  decide (s.odNum 0x15 f 0xC ≤ s.odNum 0x15 f 0xD) && (!named || ascends codes || ascends codes.reverse)

/-- Function 0x1A0 + f. -/
def State.fanCode0 (s : State) (f : Nat) : Nat :=
  let v := fun m => s.odNat 0x15 f m
  let dem := (List.range 8).map (fun i => s.odNum 0x16 f i)
  let sensor := eachCode [0xE, 0xF] (fun m =>
    if v m = 0xFF then 0 else if v m < 88 && !s.acqHas (v m) then 2 else if 64 ≤ v m then 5 else 0)
  firstCode [(outside (v 2) 1 4, 5), (decide (2 < v 3), 5), (outside (v 6) 10 250, 5), (outside (v 8) 5 50, 5),
    (outside (v 9) 5 100, 5), (outside (v 0xA) 1 40, 5), (outside (v 0xB) 100 20000, 5),
    ((v 3 == 0 || v 3 == 1) && v 7 != 0 && !ascends dem, 5), (!s.fanLimitsOk f, 5),
    (v 3 == 1 && (v 0 == 0 || v 0x1A == 0xFFFF || v 0x1B == 0xFFFF), 5),
    (v 1 == 1 && !s.planEntries.any (fun i => s.odNat 0x13 i 6 == 64 + f), 5), (sensor != 0, sensor),
    (v 0x1A != 0xFFFF && decide (s.nSlots ≤ v 0x1A), 2), (guardTooLong (s.rf Reg.acqCfg 8 8) (s.fanGuards f), 5)]

/-! ### Keypad, encoders, polls (R440, R574) -/

/-- Function 0x003. -/
def State.kpdCode (s : State) : Nat :=
  let v := fun m => s.odNat 0x17 0 m
  let wide := !s.present 25 && (decide (8 < v 0) || decide (8 < v 1))
  firstCode [(outside (v 0) 1 16 || outside (v 1) 1 16 || outside (v 3) 1 16 || decide (v 4 < 8), 5),
    (outside (v 5) 1 15 || v 6 == 0 || v 7 == 0 || v 8 == 0, 5), (outside (v 0x12) 1 60 || outside (v 0x13) 1 60, 5),
    (s.nv.unlockSeq.any (fun k => decide (v 0 ≤ k.toNat / 16) || decide (v 1 ≤ k.toNat % 16)), 5), (wide, 2)]

/-- Function 0x004. -/
def State.encCode (s : State) : Nat :=
  eachCode (List.range s.nEncs) (fun n =>
    if [1, 2, 4].contains (s.odNat 0x18 n 1) && s.odNat 0x18 n 4 != 0 then 0 else 5)

/-- One enabled poll (R440). -/
def State.pollCode (s : State) (p : Nat) : Nat :=
  let v := fun m => s.odNat 0x1B p m
  let field := v 7
  let taken := (List.range 32).any (fun q => q != p && s.odNat 0x1B q 0 == 1 && s.odNat 0x1B q 0xA == v 0xA) ||
    (List.range s.nZones).any (fun z => s.odNat 0x10 z 0xA == v 0xA)
  firstCode [(v 1 < 2 && outside (v 2) 0x08 0x77, 5), (v 1 == 2 && decide (3 < v 2), 5),
    (decide (v 5 < field % 16 + field / 16 % 4 + 1), 5), (field.testBit 8 && v 5 % 3 != 0, 5), (taken, 5)]

/-- Function 0x005. -/
def State.sbusCode (s : State) : Nat :=
  eachCode ((List.range 32).filter (fun p => s.odNat 0x1B p 0 == 1)) s.pollCode

/-! ### A start's validation (R51, R122, R269, R270 step 2) -/

/-- The ownable units that a function uses (R51). -/
def State.fnUnits (s : State) (f : Nat) : List Nat :=
  let own := if f = 1 then [6] else if f = 3 || f = 4 then [11] else if f = 5 then [19]
    else if 0x180 ≤ f && f < 0x1A0 then [9] else if 0x1A0 ≤ f && f < 0x1B0 then [10] else [7]
  if (s.fnSlots f).any s.odSlotOn && !own.contains 7 then own ++ [7] else own

/-- The rules of the function's own chapter. -/
def State.fnOwnCode (s : State) (f : Nat) : Nat :=
  if f = 1 then s.acqCode
  else if f = 2 then (if periodsOk s.odPeriods then 0 else 5)
  else if f = 3 then s.kpdCode
  else if f = 4 then s.encCode
  else if f = 5 then s.sbusCode
  else if 0x100 ≤ f && f ≤ 0x13F then s.zoneCode (f - 0x100)
  else if 0x180 ≤ f && f ≤ 0x19F then s.actCode (f - 0x180)
  else if 0x1A0 ≤ f && f ≤ 0x1AF then s.fanCode0 (f - 0x1A0)
  else 0

/-- Is another function in RUN, as R269 and R392 judge it? -/
def State.fnMet (s : State) (f : Nat) (shake : Bool) : Bool := s.fnRuns f || (shake && (s.fn f).ready)

/-- Will a function be in RUN once the start in question commits? -/
def State.fnComing (s : State) (f : Nat) : Bool := s.fnRuns f || (s.fn f).ready

/-- Every rule but admission: R51, R269, the own chapter, and R132 for the function's enabled slots, those among them that its set gives
a FUNC of no function. The words of a disabled slot are not judged (DESIGN CHOICE, log entry 111). -/
def State.fnCode (s : State) (f : Nat) (shake : Bool) : Nat :=
  let slots := (s.fnSlots f).filter s.odSlotOn
  let own := s.fnOwnCode f
  let each := eachCode (slots ++ (s.fnLeaving f).filter s.odSlotOn) s.slotCode
  firstCode [((s.fnUnits f).any s.hostOwns, 3), (!slots.isEmpty && f != 2 && !s.fnMet 2 shake, 5), (own != 0, own), (each != 0, each)]

/-- The classes of the slots that would be in the running set after the start commits (R122). -/
def State.comingClasses (s : State) (f : Nat) : List Nat :=
  ((List.range s.nSlots).filter (fun n =>
    let g := s.odNat 0x11 n 5
    s.odSlotOn n && !s.slotMoving g n && (g == f || s.fnComing g))).map (fun n => s.odNat 0x11 n 0)

/-- Does the start of f run the admission check: it is the frame plan, or it adds, removes or changes an enabled slot (R122)? -/
def State.fnAdmits (s : State) (f : Nat) : Bool :=
  f == 2 || ((s.fnSlots f).any s.odSlotOn) || (List.range s.nSlots).any (fun n => s.slotOn n && s.slotFunc n == f)

/-- The state whose committed set is the candidate set of f. -/
def State.withCandidate (s : State) (f : Nat) : State := { s with od := { s.od with committed := s.odCandidate f } }

/-- Step 2 of a start (R270): the response code, and the state with what the admission check reports. -/
def State.fnValidate (s : State) (f : Nat) (shake : Bool) : Nat × State :=
  let t := s.withCandidate f
  let c := t.fnCode f shake
  if c != 0 then (c, s)
  else if t.fnAdmits f then
    let r := s.admitWith t.odPeriods (t.comingClasses f)
    (if r.rb Reg.cenAdmit 31 then 0 else 5, r)
  else (0, s)

end Sys2Proof.Machine
end

