-- ==== Sys2Proof/Machine/Load.lean ====
section
/-! DEFINITION. Loading a function's set into the registers of its units (R270 step 3), and what an immediate commit writes at once (R274). The layouts are those of each unit's registers. -/

namespace Sys2Proof.Machine

/-- A register takes fields, each (bit, width, value). -/
def packFields (l : List (Nat × Nat × Nat)) : Word := l.foldl (fun w f => putFld w f.1 f.2.1 f.2.2) 0

/-- The registers of a decimator (R94's block). -/
def State.loadDec (s : State) (d : Nat) : State :=
  let v := fun m => s.odNat 0x12 d m
  let w := fun m => ofInt32 (s.odNum 0x12 d m)
  let s := s.setReg (Reg.decCfg d) (packFields [(0, 2, v 3), (2, 3, v 4), (5, 2, v 7), (8, 4, v 0xC)])
  let s := (s.setReg (Reg.decGain d) (w 5)).setReg (Reg.decOffset d) (w 6)
  (((s.setReg (Reg.cmpLo d) (w 8)).setReg (Reg.cmpMid d) (w 9)).setReg (Reg.cmpHi d) (w 0xA)).setReg (Reg.cmpHyst d) (w 0xB)

/-- A sequence entry (R64). -/
def State.loadEntry (s : State) (i : Nat) : State :=
  let v := fun m => s.odNat 0x13 i m
  (s.setReg (Reg.acqSeqW0 i) (packFields [(0, 7, v 0), (8, 8, v 1), (16, 12, v 2), (28, 2, v 4)])).setReg
    (Reg.acqSeqW1 i) (packFields [(0, 12, v 3), (12, 3, v 5), (16, 7, v 6)])

/-- Function 0x001 (R93-R96). -/
def State.loadAcq (s : State) : State :=
  let p := fun m => s.odNat 0x12 0xFF m
  let s := (s.setRf Reg.acqCfg 0 1 (p 1)).setRf Reg.acqCfg 8 8 (p 4)
  let s := (s.setReg Reg.acqSeqLen (packFields [(0, 9, p 0)])).setReg Reg.acqAlign (packFields [(0, 21, p 2)])
  let s := s.setReg Reg.acqPhase (packFields [(0, 20, p 3)])
  let s := s.setReg Reg.acqDiff ((List.range 32).foldl (fun w i => putBit w i (s.odPaired (2 * i))) 0)
  let s := s.forEach (List.range 256) State.loadEntry
  let s := s.forEach ((List.range 88).filter s.acqHas) State.loadDec
  s.forEach (List.range 8) (fun s t => s.forEach (List.range 33) (fun s q =>
    s.setReg (Reg.acqLin t q) (ofInt32 (s.odNum 0x12 (0x100 + t) q))))

/-- A word of a slot's coefficient RAM written. -/
def State.coefPut (s : State) (n off : Nat) (x : Word) : State := s.setWord (slotCoef n + off) x

/-- The coefficient words of a slot (R131). The shift of a tap gain goes into its source word (R623). -/
def State.loadSlot (s : State) (n : Nat) : State :=
  let v := fun m => s.odNat 0x11 n m
  let i := fun m => ofInt32 (s.odNum 0x11 n m)
  let sh := fun m => match s.odGet (odId 0x11 n m) with | .coef _ k => k | _ => 0
  let s := s.coefPut n 0 (packFields [(0, 2, v 0), (2, 2, v 1), (4, 1, v 2), (5, 1, v 3), (6, 1, v 4), (7, 1, v 0x1C), (8, 4, v 0x1E),
    (12, 1, v 0x1D), (16, 12, v 5)])
  let s := (s.coefPut n 4 (BitVec.ofNat 32 (v 6))).coefPut n 8 (BitVec.ofNat 32 (v 7))
  let s := s.forEach (List.range 4) (fun s k =>
    (s.coefPut n (0x10 + 8 * k) (putFld (BitVec.ofNat 32 (v (8 + k))) 24 5 (sh (0xC + k)))).coefPut n (0x14 + 8 * k) (i (0xC + k)))
  let s := s.forEach (List.range 8) (fun s k => s.coefPut n (0x30 + 4 * k) (i (0x10 + k)))
  let s := s.coefPut n 0x50 (packFields [(0, 5, sh 0x10), (8, 5, sh 0x11), (16, 5, sh 0x12), (24, 5, sh 0x13)])
  let s := s.coefPut n 0x54 (packFields [(0, 5, sh 0x14), (8, 5, sh 0x15), (16, 5, sh 0x16), (24, 5, sh 0x17)])
  (s.forEach (List.range 4) (fun s k => s.coefPut n (0x58 + 4 * k) (i (0x18 + k)))).slotOff n

/-- Which slots are apart from every function. -/
def State.setApart (s : State) (l : List Nat) : State := { s with cen := { s.cen with apart := l } }

/-- The slots of a function; a slot whose FUNC is staged for another function stays out of every running set (R265). -/
def State.loadSlots (s : State) (f : Nat) : State :=
  let moving := (List.range s.nSlots).filter (fun n => s.odNat 0x11 n 5 == f && s.slotMoving f n)
  let own := s.fnSlots f ++ s.fnLeaving f
  (s.forEach own State.loadSlot).setApart (moving ++ s.cen.apart.filter (fun n => !own.contains n && !moving.contains n))

/-- The slots whose FUNC waits for function f: after a start of f that fails once it has loaded them, they belong to no function
(R265). -/
def State.slotsApart (s : State) (f : Nat) : State :=
  let l := (List.range s.nSlots).filter (fun n => s.od.staged.any (fun e => e.id == odId 0x11 n 5 && e.fn == f))
  s.setApart (l ++ s.cen.apart.filter (fun n => !l.contains n))

/-- ACTn_CFG, ACTn_SAFE, ACTn_SAFEVAL and ACTn_FB. -/
def State.loadActWords (s : State) (n : Nat) : State :=
  let v := fun m => s.odNat 0x14 n m
  let s := s.setReg (Reg.actnCfg n) (packFields [(0, 3, v 0), (3, 1, v 1), (4, 2, v 2), (6, 1, v 3)])
  let s := s.setReg (Reg.actnSafecfg n) (packFields [(0, 2, v 0xD), (16, 16, v 0xF)])
  let s := s.setReg (Reg.actnSafeval n) (ofInt32 (s.odNum 0x14 n 0xE))
  let fb := v 0x10
  s.setReg (Reg.actnFb n) (packFields [(0, 7, if fb = 0xFF then 0 else fb), (7, 1, if fb = 0xFF then 0 else 1), (8, 1, v 0x11),
    (16, 8, v 0x13), (24, 8, v 0x12)])

/-- Function 0x180 + n: ACTn_P1-P3 from the objects of its mode alone (R219). -/
def State.loadAct (s : State) (n : Nat) : State :=
  let v := fun m => s.odNat 0x14 n m
  let s := s.loadActWords n
  match v 0 with
  | 1 => s.setReg (Reg.actnP1 n) (packFields [(0, 21, v 4)])
  | 2 =>
    ((s.setReg (Reg.actnP1 n) (packFields [(0, 21, v 5)])).setReg (Reg.actnP2 n) (packFields [(0, 11, v 6), (16, 10, v 7)])).setReg
      (Reg.actnP3 n) (packFields [(0, 10, v 8)])
  | 3 => (s.setReg (Reg.actnP1 n) (packFields [(0, 21, v 9)])).setReg (Reg.actnP2 n) (packFields [(0, 31, v 0xA)])
  | 4 => (s.setReg (Reg.actnP1 n) (packFields [(0, 21, v 0xB)])).setReg (Reg.actnP2 n) (packFields [(0, 31, v 0xC)])
  | _ => s

/-- The autonomous points of a fan. -/
def State.loadAutopt (s : State) (f : Nat) : State :=
  s.forEach (List.range 8) (fun s i =>
    s.setReg (Reg.fanAutopt f i) (packFields [(0, 16, s.odNat 0x16 f (0x10 + i)), (16, 8, s.odNat 0x16 f (0x18 + i))]))

/-- Function 0x1A0 + f. -/
def State.loadFan (s : State) (f : Nat) : State :=
  let v := fun m => s.odNat 0x15 f m
  let ch := fun m => if v m = 0xFF then 0 else v m % 128 + 128
  let s := s.setReg (Reg.fanfCfg f) (packFields [(0, 1, v 0), (1, 1, v 1), (2, 2, v 2 - 1), (4, 2, v 3), (6, 1, v 4), (7, 1, v 5),
    (8, 8, v 6), (16, 8, v 8), (24, 8, v 9)])
  let s := s.setReg (Reg.fanfMeas f) (packFields [(0, 8, v 0xA), (16, 16, v 0xB)])
  let s := (s.setReg (Reg.fanfIlo f) (ofInt32 (s.odNum 0x15 f 0xC))).setReg (Reg.fanfIstall f) (ofInt32 (s.odNum 0x15 f 0xD))
  let s := (s.setReg (Reg.fanfDemen f) (packFields [(0, 8, v 7)])).setReg (Reg.fanfAutoch f) (packFields [(0, 8, ch 0xE), (8, 8, ch 0xF)])
  let s := s.forEach (List.range 8) (fun s i =>
    (s.setReg (Reg.fanTabDem f i) (ofInt32 (s.odNum 0x16 f i))).setReg (Reg.fanTabOut f i) (ofInt32 (s.odNum 0x16 f (8 + i))))
  s.loadAutopt f

/-- FAN_SUPERVISE, from 15.0FF.00. -/
def State.loadSupervise (s : State) : State := s.setReg Reg.fanSupervise (packFields [(0, 6, min 63 (s.odNat 0x15 0xFF 0))])

/-- FAN_SHDN_SEL, from 15.0FF.01-04 (R242). -/
def State.loadShdnSel (s : State) : State :=
  s.setReg Reg.fanShdnSel ((List.range 4).foldl (fun w j =>
    let c := s.odNat 0x15 0xFF (1 + j)
    if c < 128 then putFld w (8 * j) 8 (c + 128) else w) 0)

/-- KPD_LOCKCFG: LEN from the sequence in the key area, the rest from 17.000.12-14. -/
def State.loadLockcfg (s : State) : State :=
  let v := fun m => s.odNat 0x17 0 m
  s.setReg Reg.kpdLockcfg (packFields [(0, 4, s.nv.unlockSeq.length), (8, 6, min 63 (v 0x12)), (16, 6, min 63 (v 0x13)), (24, 8, v 0x14)])

/-- The sequence itself, which KPD_LOCKSEQ does not show (R569). -/
def State.loadSequence (s : State) : State :=
  let q := s.nv.unlockSeq
  let s := { s with kpd := { s.kpd with seqLo := BitVec.ofNat 32 (ofLe (slice q 0 4)), seqHi := BitVec.ofNat 32 (ofLe (slice q 4 4)) } }
  s.setRf Reg.kpdLockcfg 0 4 q.length

/-- Function 0x003. -/
def State.loadKpd (s : State) : State :=
  let v := fun m => s.odNat 0x17 0 m
  let s := s.setReg Reg.kpdCfg (packFields [(0, 4, v 0 - 1), (4, 4, v 1 - 1), (8, 1, v 2), (9, 1, v 9), (12, 4, v 3 - 1), (16, 8, v 4)])
  let s := s.setReg Reg.kpdDeb (packFields [(0, 4, v 5), (8, 8, v 6), (16, 8, v 7), (24, 8, v 8)])
  s.loadLockcfg.loadSequence

/-- ENCn_CFG. -/
def State.loadEnc (s : State) (n : Nat) : State :=
  let v := fun m => s.odNat 0x18 n m
  s.setReg (Reg.encCfg n) (packFields [(0, 2, v 1 / 2), (2, 1, v 2), (3, 1, v 0), (8, 8, v 3), (16, 8, v 4)])

/-- Function 0x005: the bus settings (R432, R434, R436). The buses are enabled when the start commits. -/
def State.loadSbus (s : State) : State :=
  let v := fun m => s.odNat 0x1B 0xFF m
  let s := s.forEach [0, 1] (fun s b => s.setReg (Reg.sbCfg b) (packFields [(0, 1, s.rf (Reg.sbCfg b) 0 1), (1, 1, v b), (8, 8, v 3)]))
  s.setReg (Reg.sbCfg 2) (packFields [(0, 1, s.rf (Reg.sbCfg 2) 0 1), (2, 3, v 2 - 1)])

/-- A function's set goes into the registers of its units, the committed set being the set to load. On a standby, or a chip about to
be one, the zone logic does not compute: its setpoints and accumulators come with the mirror (R192). -/
def State.loadSet (s : State) (f : Nat) : State :=
  let s := s.loadSlots f
  if f = 1 then s.loadAcq
  else if f = 2 then s.forEach (List.range 4) (fun s k => s.setReg (Reg.cenPeriod k) (packFields [(0, 21, s.odNat 0x11 0xFFF k)]))
  else if f = 3 then s.loadKpd
  else if f = 4 then s.forEach (List.range s.nEncs) State.loadEnc
  else if f = 5 then s.loadSbus
  else if 0x100 ≤ f && f ≤ 0x13F then
    if s.isStandby || s.twn.cand then s.zoneLoad (f - 0x100) else (s.zoneLoad (f - 0x100)).zoneInit (f - 0x100)
  else if 0x180 ≤ f && f ≤ 0x19F then s.loadAct (f - 0x180)
  else if 0x1A0 ≤ f && f ≤ 0x1AF then s.loadFan (f - 0x1A0)
  else s

/-- Step 3 of a start (R270): the candidate set is loaded; the committed set stays. -/
def State.fnLoad (s : State) (f : Nat) : State :=
  let t := (s.withCandidate f).loadSet f
  { t with od := { t.od with committed := s.od.committed } }

/-! ### What an immediate commit writes (R274) -/

/-- The register that follows member m of class 03 while the runtime owns the RTC (R534, R537, R538, R541): reserved bits stay 0. -/
def State.loadRtcMember (s : State) (m : Nat) : State :=
  if m = 0xF then s.rtcTrimWrite (s.odNum 3 0 0xF)
  else if m = 0x10 then s.rtcSetTcomp (s.odNat 3 0 0x10 == 1)
  else if m = 0x13 then s.setReg Reg.rtcAlm1T (BitVec.ofNat 32 (s.odNat 3 0 0x13 &&& 0x80BFFFFF))
  else if m = 0x14 then s.setReg Reg.rtcAlm1D (BitVec.ofNat 32 (s.odNat 3 0 0x14 &&& 0x009F0FBF))
  else if 0xB ≤ m && m ≤ 0xE then s.rtcMeasBegin
  else s

/-- RTC_TRIM, TCOMP and alarm 1 from the committed objects, as the runtime rewrites them when RTC returns to it (R50), and a
measurement starts (R541). -/
def State.loadRtc (s : State) : State := (s.forEach [0xF, 0x10, 0x13, 0x14] State.loadRtcMember).rtcMeasBegin

/-- The same at step 10: RTC_TRIM is of the domain, which no reset touches (R378), and keeps what the discipline of R541 wrote
there unless the domain was lost. -/
def State.startRtc (s : State) : State :=
  (s.forEach (if s.rb Reg.rtcStat 0 then [0xF, 0x10, 0x13, 0x14] else [0x10, 0x13, 0x14]) State.loadRtcMember).rtcMeasBegin

/-- The TWN registers of 21.000.07-0A. -/
def State.loadTwn (s : State) : State :=
  let s := (s.setReg Reg.twnDivband (ofInt32 (s.odNum 0x21 0 7))).setRb Reg.twnCtrl 0 (s.odNat 0x21 0 8 == 1)
  (s.setReg Reg.twnConvband (ofInt32 (s.odNum 0x21 0 9))).setReg Reg.twnConvn (packFields [(0, 16, s.odNat 0x21 0 0xA)])

/-- The PWR registers of 3F.000.0B, 0D and 0E. -/
def State.loadPwr (s : State) : State :=
  let s := s.setRf Reg.pwrWdog 0 14 (s.odNat 0x3F 0 0xB)
  (s.setRf Reg.pwrWake 0 6 (s.odNat 0x3F 0 0xD)).setReg Reg.pwrRetain (packFields [(0, 8, s.odNat 0x3F 0 0xE)])

/-- The registers that an accepted write of one member acts on, at once or at the next use that its chapter names (R95, R274,
R623). The governing function is in RUN, or there is none; a unit that the host owns is not written. -/
def State.applyMember (s : State) (id : Nat) : State :=
  let i := odInst id
  let m := odMem id
  match odClass id with
  | 0x03 => if s.hostOwns 12 then s else s.loadRtcMember m
  | 0x10 => if m = 2 || m = 3 then { s with zon := { s.zon with schedDue := true } } else s
  | 0x11 =>
    if 1024 ≤ i || 0x1E < m || s.hostOwns 7 then s
    else if 0x18 ≤ m && m ≤ 0x1B then s.setWord (slotCoef i + 0x58 + 4 * (m - 0x18)) (ofInt32 (s.odNum 0x11 i m))
    else s.loadSlot i
  | 0x12 => if i < 88 && !s.hostOwns 6 then s.loadDec i else s
  | 0x14 => if s.hostOwns 9 then s else s.loadActWords i
  | 0x15 =>
    if i = 0xFF then (if m = 0 && !s.hostOwns 10 then s.loadSupervise else s)
    else if s.hostOwns 10 then s
    else (s.setReg (Reg.fanfIlo i) (ofInt32 (s.odNum 0x15 i 0xC))).setReg (Reg.fanfIstall i) (ofInt32 (s.odNum 0x15 i 0xD))
  | 0x16 => if s.hostOwns 10 then s else s.loadAutopt i
  | 0x17 => if s.hostOwns 11 then s else s.loadLockcfg.setRb Reg.kpdCfg 9 (s.odNat 0x17 0 9 == 1)
  | 0x18 => if s.hostOwns 11 then s else s.loadEnc i
  | 0x19 => { s with zon := { s.zon with schedDue := true } }
  | 0x1A => s
  | 0x21 => s.loadTwn
  | 0x3F => s.loadPwr
  | _ => s

end Sys2Proof.Machine
end

