-- ==== Sys2Proof/Machine/Function.lean ====
section
/-! DEFINITION. ODX responses, commits to the Knab store, functions and unit ownership (01_architecture R48-R54, 08_object_dictionary R263-R278, R284-R295). -/

namespace Sys2Proof.Machine

/-! ### Heat and the store (R274, R276, R279, R514) -/

/-- The heat number after one more committed change (R276). -/
def heatAfter (h : Nat) : Nat := if h = 0xFFFFFFFF then 1 else h + 1

/-- The heat number after n more. -/
def heatAfterN : Nat → Nat → Nat
  | 0, h => h
  | n + 1, h => heatAfterN n (heatAfter h)

/-- A persistent value in the store: a record where it differs from the baseline, in place of its earlier record (R514); the address
lives on an identity page. -/
def nvPut (baseline : List (Nat × OdVal)) (nv : NvSt) (id : Nat) (v : OdVal) : NvSt :=
  match odRow id with
  | none => nv
  | some r =>
    if !r.persist then nv
    else if id = odId 1 0 2 then
      (match v with
       | .num a => { nv with address := a.toNat }
       | _ => nv)
    else if v = Tab.get odDefault baseline id then { nv with objs := nv.objs.filter (fun p => p.1 != id) }
    else if nv.objs.any (fun p => p.1 == id) then { nv with objs := nv.objs.map (fun p => if p.1 = id then (id, v) else p) }
    else { nv with objs := nv.objs ++ [(id, v)] }

/-- What the runtime keeps in the store once values are committed. -/
def State.nvWith (s : State) (vals : List (Nat × OdVal)) : NvSt := vals.foldl (fun nv p => nvPut s.od.baseline nv p.1 p.2) s.nv

/-- The records of the store for a committed set: every persistent member that differs from its baseline (R514). Members that have a
record keep their place (log entry 11). -/
def nvRecords (baseline : List (Nat × OdVal)) (nv : NvSt) (committed : List (Nat × OdVal)) : List (Nat × OdVal) :=
  let had := nv.objs.map Prod.fst
  let set := committed.map Prod.fst
  let ids := had ++ (set ++ (baseline.map Prod.fst).filter (fun i => !set.contains i)).filter (fun i => !had.contains i)
  (ids.filter (fun id => id != odId 1 0 2 && (match odRow id with | some r => r.persist | none => false) &&
      Tab.get odDefault committed id != Tab.get odDefault baseline id)).map (fun id => (id, Tab.get odDefault committed id))

/-- What the runtime keeps in the store for a whole committed set. -/
def State.nvOfSet (s : State) (committed : List (Nat × OdVal)) : NvSt := { s.nv with objs := nvRecords s.od.baseline s.nv committed }

/-- The transaction of a change (R270 step 4, R274): the store takes `nv` with the heat page of a heat number and a committed set; the
identity page is written where the address changes. -/
def State.nvHeat (s : State) (nv : NvSt) (heat : Nat) (committed : List (Nat × OdVal)) : State :=
  let d := s.odDigests committed
  s.nvStore (fun _ => { nv with heat := some heat, hdig := some d.1, sdig := some d.2 }) (if nv.address = s.nv.address then [2] else [1, 2]) []

/-- Values become committed, and the digests follow (R270 step 5, R274). -/
def State.odCommit (s : State) (vals : List (Nat × OdVal)) : State :=
  let s := vals.foldl (fun (s : State) p => s.odSet p.1 p.2) s
  let d := s.odDigests s.od.committed
  { s with od := { s.od with hdig := d.1, sdig := d.2 } }

/-- The heat number changes by one: class 30's count, event 61 and its log entry (R262, R274, R276, R616). -/
def State.heatStep (s : State) : State :=
  let n := s.od.counters.getD 5 0
  let s := { s with od := { s.od with heat := heatAfter s.od.heat, counters := s.od.counters.set 5 (min 0xFFFFFFFF (n + 1)) } }
  (s.fire 61).happen 61 s.od.heat

/-- Do the records fit the persistent object area, 48 KiB or 16 KiB on the WV7232, and does the change rewrite at most 64 pages, the
heat page among them (R496, R514)? -/
def State.nvFits (s : State) (nv : NvSt) : Bool :=
  (nv.objs.flatMap nvRecord).length ≤ 64 * (s.knabPages - 256) &&
    (s.nvPages nv (if nv.address = s.nv.address then [2] else [1, 2])).length ≤ 64

/-- A journal transaction of a change, after which the store keeps `nv`, fails: at once while the step-10 transaction is outstanding
(R627), else where it does not fit or as the store says, with fault NV_COMMIT (R270, R293, R514). -/
def State.nvRefuses (s : State) (nvOk : Bool) (param : Nat) (nv : NvSt) : Bool × State :=
  if s.knb.nvFault then (true, s) else if nvOk && s.nvFits nv then (false, s) else (true, s.fault 0x0E02 param)

/-! ### Transactions and responses (R284, R286, R288) -/

/-- Entries that a port holds (ODX_STAT). -/
def State.txnCount (s : State) (port : Nat) : Nat :=
  (s.od.txns.filter (fun t => t.port == port)).length + (if port = 0 then s.txnWaiting else 0)

/-- May a port take an entry (R288)? -/
def State.txnFree (s : State) (port : Nat) : Bool :=
  s.txnUse < 128 && (!(port == 1 || port == 2) || s.txnCount port < 60)

/-- A class 30 counter one higher, saturating (R262). -/
def State.odCount (s : State) (i : Nat) : State :=
  { s with od := { s.od with counters := s.od.counters.set i (min 0xFFFFFFFF (s.od.counters.getD i 0 + 1)) } }

/-- A transaction takes an entry (R288): the counts and the high-water marks. -/
def State.txnAccept (s : State) (t : Txn) : State :=
  let s := s.odCount 0
  let s := { s with od := { s.od with txns := s.od.txns ++ [t] } }
  let n := s.txnUse
  let s := { s with od := { s.od with counters := s.od.counters.set 6 (max n (s.od.counters.getD 6 0)) } }
  s.setRf Reg.odxHwm 0 8 (max n (s.rf Reg.odxHwm 0 8))

/-- What a request is answered: code, STAGED, COUNT and VALUE (R284). -/
structure OdAns where
  code : Nat := 0
  staged : Bool := false
  count : Nat := 0
  value : List Byte := []
deriving DecidableEq, Repr

/-- A response record (R284). -/
def State.odRecord (s : State) (t : Txn) (a : OdAns) : List Byte :=
  [BitVec.ofNat 8 a.code, if a.staged then 1 else 0, BitVec.ofNat 8 t.typ, 0] ++ odInt t.little 4 t.id ++ odInt t.little 4 s.od.heat ++
    odInt t.little 2 a.value.length ++ odInt t.little 2 a.count ++ a.value

/-- Does a ring take an entry of n bytes now? -/
def State.ringTakes (s : State) (r n : Nat) : Bool :=
  s.ringOn r && s.ringEsize r == n && (!s.ringFull r || s.rf (Reg.rngCfg r) 6 2 == 1)

/-- An answer leaves for where its request came from (R284, R286, R296, R312): the shared window and ring 13, both networks, or
the sprue link. -/
def State.odSend (s : State) (t : Txn) (a : OdAns) : State :=
  let rec0 := s.odRecord t a
  match t.port with
  | 0 =>
    let cut := rec0.length > t.cap || t.respAt + rec0.length > 0x4000
    let body := if cut then (0x0A : Byte) :: (rec0.take 16).drop 1 else rec0
    let s := if t.respAt + body.length ≤ 0x4000 then s.setBytes (0x30000000 + t.respAt) body else s
    let e := leBytes 4 t.seqNo ++ [if cut then (0x0A : Byte) else BitVec.ofNat 8 a.code, 0, 0, 0] ++ leBytes 2 body.length ++ [0, 0, 0, 0, 0, 0]
    let took := s.ringTakes 13 16
    let s := s.ringOffer 13 e
    if took then s.fire 41 else s
  | 1 | 2 =>
    (s.netRespond (t.root.getD s.netRootKey) t.op t.dst (if a.code = 8 || a.code = 9 then 0 else t.session) t.seqNo rec0).fire 41
  | 3 => s.sendToken (.odx true rec0 t.tag)
  | _ => s

/-- The class 30 counts of refusals: ACCESS, AUTH with STALE_SESSION, and HEAT_CONFLICT (R262). -/
def State.odCountRefusal (s : State) (code : Nat) : State :=
  if code = 3 then s.odCount 2 else if code = 8 || code = 9 then s.odCount 3 else if code = 0xB then s.odCount 4 else s

/-- A transaction ends: a refusal is counted, and its answer takes its place, queued or waiting for room in ring 13 (R262, R288). -/
def State.txnEnd (s : State) (t : Txn) (a : OdAns) : State :=
  let s := s.odCountRefusal a.code
  ({ s with od := { s.od with txns := s.od.txns.erase t } } : State).odSend t a

/-- The CALL that a function's outcome answers (R268). -/
def State.fnAnswer (s : State) (f code : Nat) : State :=
  let s := s.setFn f { s.fn f with resp := code }
  s.od.txns.foldl (fun s t => if t.fn == f then s.txnEnd t { code := code, count := if code = 0 then 1 else 0 } else s) s

/-! ### Function states (R266, R268, R269) -/

/-- A function enters a state (R267: 08.F.05). -/
def State.fnTo (s : State) (f st : Nat) : State := s.setFn f { s.fn f with state := st, tickAt := s.stamp }

/-- The functions that R263 defines. -/
def fnAll : List Nat := (List.range 0x240).filter fnDefined

/-- Does another function in RUN own an enabled slot (R120, R265, R269)? A slot of the frame plan itself does not hold the plan (DESIGN
CHOICE, log entry 111). -/
def State.planNeeded (s : State) : Bool :=
  (List.range s.nSlots).any (fun n => s.slotFunc n != 2 && s.fnRuns (s.slotFunc n) && s.slotOwned (s.slotFunc n) n)

/-- The refusal of a command to a function (R120, R268, R269), judged on the set that a start would take. -/
def State.fnCallCode (s : State) (f cmd : Nat) : Nat :=
  let st := (s.fn f).state
  let t := s.withCandidate f
  if !(1 ≤ cmd && cmd ≤ 3) then 5
  else if st = 1 || st = 3 then 7
  else if cmd = 1 then (if st = 2 && f = 2 && s.planNeeded then 7 else 0)
  else if cmd = 2 && st = 0 then
    firstCode [((t.fnUnits f).any s.hostOwns, 3), ((t.fnSlots f).any t.odSlotOn && f != 2 && !s.fnRuns 2, 5)]
  else 0

/-- A command to a function (R268): its outcome, or none where a boundary or the start sequence decides it. A refused command changes
nothing (R287). -/
def State.fnCommand (s : State) (f cmd : Nat) : Option Nat × State :=
  let c := s.fnCallCode f cmd
  if c != 0 then (some c, s)
  else
    match cmd, (s.fn f).state with
    | 1, 2 => (none, s.fnTo f 3)
    | 1, _ => (some 0, s.setFn f { s.fn f with resp := 0 })
    | 2, 0 => (none, s.fnTo f 1)
    | 2, _ => (some 0, s.setFn f { s.fn f with resp := 0 })
    | _, 0 => (some 0, s.fnDrop f)
    | _, _ => (some 0, s)

/-- A start fails at steps 2 to 4 (R270): STOPPED again, the staged values kept. -/
def State.fnFail (s : State) (f code : Nat) : State := (s.fnTo f 0).fnAnswer f code

/-- The chip is the standby of a mixed flask: its starts make no Knab transaction and change no heat (R361). -/
def State.mixedStandby (s : State) : Bool := s.isStandby && s.rb Reg.twnStat 5

/-- The functions whose start has passed step 4 (R270). -/
def State.fnReady (s : State) : List Nat := fnAll.filter (fun f => (s.fn f).ready)

/-- Increments of the heat number whose journal transactions have completed and whose commits wait for a boundary (R270, R277). -/
def State.heatAhead (s : State) : Nat :=
  match s.od.startup with
  | some raise => if raise then 1 else 0
  | none => s.fnReady.length

/-- The committed set with the values of the starts that are ready. -/
def State.setAhead (s : State) : List (Nat × OdVal) :=
  let ready := s.fnReady
  ((s.od.staged.filter (fun e => ready.contains e.fn)).map (fun e => (e.id, e.val))).foldl (fun t p => Tab.put odDefault t p.1 p.2) s.od.committed

/-- The heat page for one more change: the next heat number, and the digests of the set that the changes ahead of it and its own values
leave (R270 step 4, R274). -/
def State.nvHeatNext (s : State) (vals : List (Nat × OdVal)) : State :=
  s.nvHeat (s.nvWith vals) (heatAfterN (s.heatAhead + 1) s.od.heat) (vals.foldl (fun t p => Tab.put odDefault t p.1 p.2) s.setAhead)

/-- An active chip sends its partner the committed set, and which functions run (R354; DEDUCED, log entry 45: the function states go
with the set). -/
def State.configSend (s : State) : State :=
  if s.role == 2 then
    s.sendToken (.config s.od.heat s.od.hdig s.od.sdig (odPersistent s.od.committed) (fnAll.filter s.fnRuns))
  else s

/-- Steps 2 to 4 of the start of a function in STARTING (R270). -/
def State.fnStartSteps (s : State) (f : Nat) (nvOk : Bool) : State :=
  if (s.fn f).state != 1 || (s.fn f).ready then s
  else
    let res := s.fnValidate f false
    let c := res.1
    let s := res.2
    if c != 0 then s.fnFail f c
    else
      let s := s.fnLoad f
      if s.mixedStandby then s.setFn f { s.fn f with ready := true }
      else
        let res := s.nvRefuses nvOk f (s.nvWith ((s.fnStaged f).map (fun e => (e.id, e.val))))
        let bad := res.1
        let s := res.2
        if bad then (s.slotsApart f).fnFail f 0xD
        else
          let s := s.nvHeatNext ((s.fnStaged f).map (fun e => (e.id, e.val)))
          s.setFn f { s.fn f with ready := true }

/-! ### Commits at a class-0 boundary (R117, R118, R200, R270 step 5) -/

/-- The boundary Bc of an accepted chill request stands at this tick (R398). -/
def State.chillNow (s : State) : Bool :=
  match s.pwr.chillAt with
  | some t => s.awake && s.tb.running && t ≤ s.tb.count && s.atBoundary 0
  | none => false

/-- A class-0 boundary stands at this tick, it is not Bc of a chill (R295, R398), and its frames have not yet been taken. -/
def State.atBoundary0 (s : State) : Bool :=
  s.awake && s.tb.running && s.atBoundary 0 && s.cen.lastBoundary != some s.now && !s.chillNow

/-- Does an enabled slot name an actuator channel, or a fan, as its destination (R113, R200)? -/
def State.destNamed (s : State) (p : Nat → Nat → Bool) : Bool :=
  (List.range s.nSlots).any (fun n => s.slotOn n && p (fld (s.coef n 8) 0 3) (fld (s.coef n 8) 8 7))

def namesAct (n kind i : Nat) : Bool := kind == 1 && i == n

def namesFan (f kind i : Nat) : Bool := (kind == 2 && i / 8 == f) || (kind == 3 && i == f)

/-- The unit's side of a start that commits. `staged` is what it had staged. -/
def State.fnJoin (s : State) (f : Nat) (staged : List Staged) : State :=
  let s := { s with acq := { s.acq with guardsOn := true }, zon := { s.zon with schedDue := true } }
  let s := s.cenJoin f
  if f = 1 then s.acqRun false
  else if f = 2 then s.cenStart
  else if f = 3 then (s.setRb Reg.kpdCtrl 0 true).lockStart
  else if f = 4 then s.setRb Reg.kpdCtrl 0 true
  else if f = 5 then
    s.forEach [0, 1, 2] (fun s b =>
      let res := s.drawNat 2
      let stuck := res.1
      let s := res.2
      s.sbusCfgWrite b (s.reg (Reg.sbCfg b) ||| 1) (stuck == 1))
  else if 0x180 ≤ f && f ≤ 0x19F then
    let n := f - 0x180
    let s := staged.foldl (fun (s : State) e =>
      match e.val with
      | .num v => if e.id == odId 0x14 n 0x22 then s.setAct n { s.act1 n with step := v } else s
      | _ => s) s
    if s.destNamed (namesAct n) then s else s.setRb Reg.actRun n true
  else if 0x1A0 ≤ f && f ≤ 0x1AF then
    if s.destNamed (namesFan (f - 0x1A0)) then s else s.setRb Reg.fanRun (f - 0x1A0) true
  else s

/-- The channels that a function's slots drive stop following (R118, R200). -/
def State.fnRelease (s : State) (f : Nat) : State :=
  s.forEach (s.ownedSlots f) (fun s n =>
    let i := fld (s.coef n 8) 8 7
    match fld (s.coef n 8) 0 3 with
    | 1 => if s.hostOwns 9 || s.nActs ≤ i then s else s.setRb Reg.actRun i false
    | 2 => if s.hostOwns 10 || s.nFans ≤ i / 8 then s else s.setRb Reg.fanRun (i / 8) false
    | 3 => if s.hostOwns 10 || s.nFans ≤ i then s else s.setRb Reg.fanRun i false
    | _ => s)

/-- The unit's side of a stop that commits. -/
def State.fnLeave (s : State) (f : Nat) : State :=
  let s := (s.cenLeave f).fnRelease f
  if f = 1 then s.acqHalt
  else if f = 2 then s.cenHalt
  else if f = 3 then (s.setRb Reg.kpdCtrl 0 (s.fnRuns 4)).kpdHold
  else if f = 4 then s.setRb Reg.kpdCtrl 0 (s.fnRuns 3)
  else if f = 5 then s.pollsStop
  else if 0x100 ≤ f && f ≤ 0x13F then s.zoneStop (f - 0x100)
  else if 0x180 ≤ f && f ≤ 0x19F then s.setRb Reg.actRun (f - 0x180) false
  else if 0x1A0 ≤ f && f ≤ 0x1AF then s.setRb Reg.fanRun (f - 0x1A0) false
  else s

/-- The swap state of R359, codes 0 to 4. -/
def State.swapState (s : State) : Nat := s.rf Reg.twnSwap 0 3

/-- The heat digest of the set that this chip holds. -/
def State.ownSet (s : State) : Nat := s.odDigest s.od.committed OdRow.persist

/-- States 1 to 3 follow from comparing C, the active's set and the standby's set (R359). -/
def State.swapRefresh (s : State) : State :=
  if !s.rb Reg.twnStat 5 || s.swapState = 0 || s.swapState = 4 then s
  else
    let own := s.ownSet
    let active := if s.role == 2 then own else s.twn.digPartner
    let standby := if s.role == 2 then s.twn.digPartner else own
    s.setRf Reg.twnSwap 0 3 (if active = s.twn.digC then 1 else if active = standby then 3 else 2)

/-- A commit on the standby of a mixed flask (R359, R361): the state is judged anew, and the active learns the digest of the set. -/
def State.swapNote (s : State) : State := s.swapRefresh.sendToken (.swap (.setDigest s.ownSet))

/-- The slots of a function started on the standby of a mixed flask take no more grafts (R366). -/
def State.swapStarted (s : State) (f : Nat) : State :=
  { s with twn := { s.twn with started := s.twn.started.filter (fun g => g != f) ++ [f] } }

/-- A start that is ready fails at its commit: the host has come to own a unit that it uses (R51). The store goes back to the set
without it (DEDUCED, log entry 90). -/
def State.fnCommitFail (s : State) (f : Nat) : State :=
  let s := s.setFn f { s.fn f with ready := false }
  let s := (s.slotsApart f).fnFail f 3
  if s.mixedStandby then s
  else
    let set := s.setAhead
    s.nvHeat (s.nvOfSet set) (heatAfterN s.heatAhead s.od.heat) set

/-- A start commits (R270 step 5, R361): its staged values become committed, heat and digests change in the same action. Slots that it
has taken over are apart no more (R265). -/
def State.fnCommitStart (s : State) (f : Nat) : State :=
  if !(s.fn f).ready then s
  else if ((s.withCandidate f).fnUnits f).any s.hostOwns then s.fnCommitFail f
  else
    let staged := s.fnStaged f
    let vals := staged.map (fun e => (e.id, e.val))
    let s :=
      if s.mixedStandby then ((vals.foldl (fun (s : State) p => s.odSet p.1 p.2) s).swapStarted f).swapNote
      else (s.odCommit vals).heatStep
    let s := (s.fnDrop f).fnTo f 2
    let s := s.setFn f { s.fn f with ready := false, heatAt := s.od.heat }
    let s := s.setApart (s.cen.apart.filter (fun n => !(s.fnSlots f).contains n))
    let s := (s.fnJoin f staged).fnAnswer f 0
    if s.mixedStandby then s else s.configSend

/-- A stop commits (R118, R268). -/
def State.fnCommitStop (s : State) (f : Nat) : State :=
  if (s.fn f).state != 3 then s
  else
    let s := ((s.fnTo f 0).fnLeave f).fnAnswer f 0
    if s.mixedStandby then s else s.configSend

/-! ### Ownership (R49, R50) -/

/-- The ownable units (R48). -/
def ownable : List Nat := [5, 6, 7, 9, 10, 11, 12, 19]

/-- The registers of the SHDN path, which ownership does not touch: it acts whatever SYS_OWN holds, and nothing but its own rules
releases or unlocks it (R54, R242, R244). -/
def shdnRegs : List Nat := [Reg.fanShdnSel, Reg.fanShdnCtrl, Reg.fanShdnStat]

/-- The registers of ACT that its channels hold take their reset values (R50): POS, AT_LO, AT_HI and UNSYNC; the strokes counted so far
stay in the totals (R515). A pulse in progress ends as the channel enters its safe state. -/
def State.actBack (s : State) : State :=
  s.forEach (List.range s.nActs) (fun s n =>
    let since := s.strokesSince n
    let s := s.setAct n { s.act1 n with pos := none, atLo := false, atHi := false, unsync := true, step := 0,
                                        latched := false, released := false, relCmd := false }
    { s with knb := { s.knb with strokeMark := recPut 0 s.knb.strokeMark n ((2 ^ 32 - since) % 2 ^ 32) } })

/-- The registers of FAN that its channels hold take their reset values (R50): STATE, SLEW, BUDDY and RETRY. -/
def State.fanBack (s : State) : State :=
  s.forEach (List.range s.nFans) (fun s f =>
    let a := s.fan1 f
    s.setFan f { onTicks := a.onTicks, pinDuty := a.pinDuty, pinHigh := a.pinHigh, pinPeriod := a.pinPeriod, since := s.now })

/-- A unit returns to the runtime: its registers take their reset values, but those of the RTC domain and of the SHDN path, and
CEN's RAMs are cleared (R50). -/
def State.unitBack (s : State) (n : Nat) : State :=
  let rtcStat := s.reg Reg.rtcStat &&& 0x2FF
  let s := if n = 9 then s.actBack else if n = 10 then s.fanBack else s
  let s := s.keepRegs (fun a => regUnit a != n || rtcDomainRegs.contains a || shdnRegs.contains a)
  match n with
  | 5 => { s with ldl := {} }
  | 6 => ({ s with acq := { s.acq with phase := .stopped, inflight := [], update := none, entry := 0, len := 1, diff := 0 } } : State).loadSlices
  | 7 => { s.cenClear with cen := {} }
  | 11 => { s with kpd := { s.kpd with seqLo := 0, seqHi := 0, keys := [], encs := [{}, {}, {}, {}] } }
  | 12 => ({ (s.setReg Reg.rtcStat rtcStat).rtcMeasOff with zon := { s.zon with schedDue := true } } : State).loadRtc
  | 19 => s.sbusBack
  | _ => s

/-- Every unit returns to the runtime (R50, R349). -/
def State.ownDrop (s : State) : State :=
  let was := s.hostOwns
  (s.setReg Reg.sysOwn 0).forEach (ownable.filter was) State.unitBack

/-- An accepted ownership mask takes effect (R49, R50, R490). -/
def State.ownTake (s : State) : State :=
  match s.od.ownPending with
  | none => s
  | some m =>
    let was := s.hostOwns
    let s := { (s.setReg Reg.sysOwn (BitVec.ofNat 32 m)) with od := { s.od with ownPending := none } }
    let s := s.forEach (ownable.filter (fun n => was n && !m.testBit n)) State.unitBack
    let s := if m.testBit 19 && !was 19 then s.pollsStop else s
    if m.testBit 5 && !was 5 then s.ldlHandover else s

/-- Everything that waits for a class-0 boundary and that no command of its own has taken yet (R49, R117, R118, R270). An ownership mask
comes first; a start whose unit it gives to the host fails then (R51; DEDUCED, log entry 90). -/
def State.boundaryCommits (s : State) : State :=
  let s := s.ownTake
  let s := s.forEach fnAll State.fnCommitStop
  if s.od.startup.isSome then s else s.forEach fnAll State.fnCommitStart

/-! ### The commands -/

/-- FUNCTION_STOP (R268): command 1. -/
def execFunctionStop (f : Nat) (s : State) : Host.Outcome State Fault Refusal :=
  (if fnDefined f && s.present (fnUnit f) && s.runtimeRuns then (s.fnCommand f 1).2 else s).done

/-- FUNCTION_START (R270): command 2, with steps 1 to 4. -/
def execFunctionStart (f : Nat) (nvOk : Bool) (s : State) : Host.Outcome State Fault Refusal :=
  (if fnDefined f && s.present (fnUnit f) && s.runtimeRuns && s.od.startup.isNone then
    (if (s.fn f).state = 0 then (s.fnCommand f 2).2 else s).fnStartSteps f nvOk
   else s).done

/-- FUNCTION_DISCARD (R265, R268): command 3. -/
def execFunctionDiscard (f : Nat) (s : State) : Host.Outcome State Fault Refusal :=
  (if fnDefined f && s.present (fnUnit f) && s.runtimeRuns then (s.fnCommand f 3).2 else s).done

/-- FUNCTION_START_COMMIT (R117, R270 step 5). -/
def execFunctionStartCommit (f : Nat) (s : State) : Host.Outcome State Fault Refusal :=
  (if fnDefined f && s.atBoundary0 && s.od.startup.isNone then s.fnCommitStart f else s).done

/-- FUNCTION_STOP_COMMIT (R117, R118). -/
def execFunctionStopCommit (f : Nat) (s : State) : Host.Outcome State Fault Refusal :=
  (if fnDefined f && s.atBoundary0 then s.fnCommitStop f else s).done

/-- OWNERSHIP_HANDOVER (R49, R50). -/
def execOwnershipHandover (s : State) : Host.Outcome State Fault Refusal :=
  (if s.atBoundary0 then s.ownTake else s).done

/-- A read of ODX_HEAT latches the four digest registers (R292). -/
def State.odxHeatRead (s : State) : State :=
  let w := fun n => (BitVec.ofNat 32 n : Word)
  let s := (s.setReg Reg.odxHdigLo (w s.od.hdig)).setReg Reg.odxHdigHi (w (s.od.hdig / 2 ^ 32))
  let s := (s.setReg Reg.odxSdigLo (w s.od.sdig)).setReg Reg.odxSdigHi (w (s.od.sdig / 2 ^ 32))
  { (s.setReg Reg.odxHeat (w s.od.heat)) with lastRead := w s.od.heat }

/-- ODX_HEAT_READ (R292); ODX is present on every variant. -/
def execOdxHeatRead (_who : Init) (s : State) : Host.Outcome State Fault Refusal := s.odxHeatRead.done

end Sys2Proof.Machine
end

