-- ==== Sys2Proof/Machine/Power.lean ====
section
/-! DEFINITION. Supplies, reset sources, shakeout, the general watchdog and chill (11_power_reset_pour R374-R401, R627). -/

namespace Sys2Proof.Machine

/-! ### Supplies and straps (R374, R375, R381) -/

/-- May a reset source act: the part is powered and no held reset is in force? -/
def State.resetFree (s : State) : Bool := s.pwr.good && s.pwr.held.isNone

/-- SUPPLY_GOOD (R374, R377, R381): all supplies have risen; KNAB_MODE is sampled, step 1 of shakeout ends and the recall begins,
unless NRST holds the reset. `dip`: VDDIO stayed above 1.0 V since the fall. The machine right after reset stands in step 1 and is
started by it too. -/
def execSupplyGood (pins : StrapPins) (dip : Bool) (s : State) : Host.Outcome State Fault Refusal :=
  (if s.resetFree && s.shakeStep != 1 || s.pwr.good && s.pwr.held.isSome then s
   else
    let s := (s.resetAs 1).resetRelease
    let s := { s with pwr := { s.pwr with good := true, straps := pins } }
    let s := (s.setRb Reg.pwrRstcause 3 dip).setRb Reg.pwrStrap 4 (pins.knabMode % 2 == 1)
    s.setRb Reg.knbStat 1 (pins.knabMode % 2 == 1)).done

/-- The effect of SUPPLY_FALL (R374, R376, R498). -/
def State.supplyFall (s : State) (jstep : Nat) (vbatHolds : Bool) : State :=
  if !s.pwr.good then s
  else
    let s := s.ldlTorn
    let s := (s.knabSupplyFail jstep).logTorn
    let s := if vbatHolds then s else s.rtcDomainReset
    let s := s.resetAs 1
    { s with pwr := { s.pwr with good := false } }

/-- SUPPLY_FALL (R374, R376, R498): a supply falls below its falling threshold; a journal commit stands at step `jstep`, and VBAT
holds the RTC domain or does not. -/
def execSupplyFall (jstep : Nat) (vbatHolds : Bool) (s : State) : Host.Outcome State Fault Refusal := (s.supplyFall jstep vbatHolds).done

/-- COUNTER_INCREMENT (R510). `cut`: the supply begins to fall after that many word writes of the increments (R498, R508); SUPPLY_FALL follows at
once. Without its supplies the store starts no write. -/
def execCounterIncrement (who : Init) (v : Word) (cut : Option Nat) (s : State) : Host.Outcome State Fault Refusal :=
  (s.guardWrite who 13 Reg.knbCntinc (fun s =>
    match cut with
      | none => s.knabCntinc v
      | some w =>
        if !s.pwr.good then s
        else
        let c := fld v 0 5
        (if (s.knabTarget (8 + c / 4)).isSome then s else s.knabCtrCut c (max 1 (fld v 16 16)) w).supplyFall 1 true)).done

/-- SUPPLY (R375): a supply leaves or enters its operating range; event 52 follows its level. -/
def execSupply (which : Supply) (low : Bool) (s : State) : Host.Outcome State Fault Refusal :=
  (s.setRb Reg.pwrStat (match which with | .vddc => 3 | .vddio => 4 | .vdda => 5) low).done

/-! ### Reset sources (R377) -/

/-- TWN_ALIVE_OUT (R333, R337): high from the end of the self-test until the next reset; a SOLO chip leaves it inert. -/
def State.aliveOut (s : State) : Bool := s.isTwin && s.resetFree && 5 ≤ s.shakeStep

/-- NRST (R377): the pin has been low for 1 µs; the reset, or one that another source holds, lasts while it stays low. -/
def execNrst (s : State) : Host.Outcome State Fault Refusal :=
  (let s := { s with pwr := { s.pwr with nrstLow := true } }
   if s.resetFree then s.resetHeld 2 else s).done

/-- NRST_RELEASE (R377): NRST rises, and shakeout runs where nothing else holds the reset. -/
def execNrstRelease (s : State) : Host.Outcome State Fault Refusal :=
  (let s := { s with pwr := { s.pwr with nrstLow := false } }
   if s.pwr.held = some 2 then s.resetRelease else s).done

/-- The trip of R587: a reset with cause 5, held until DTS4 reads below 100 °C. -/
def State.thermalTrip (s : State) : State := if s.resetFree then s.resetHeld 5 else s

/-- SENSOR_CONVERSION (R581-R587): the eight readings in 1/16 °C. The second conversion at 120 °C or more trips the part. -/
def execSensorConversion (readings : List Int) (s : State) : Host.Outcome State Fault Refusal :=
  (if s.awake then
    let s := s.thmConvert (readings.map (fun r => clampInt (-32768) 32767 r))
    if 2 ≤ s.thm.hot then s.thermalTrip else s
   else s).done

/-- TRIP_COMPARATOR (R587): in chill the comparator on DTS4 trips the part. -/
def execTripComparator (s : State) : Host.Outcome State Fault Refusal :=
  (if s.asleep then ({ s with pwr := { s.pwr with tripPeak := max 120 s.pwr.tripPeak } } : State).thermalTrip else s).done

/-- TRIP_RELEASE (R587): DTS4 reads below 100 °C. -/
def execTripRelease (s : State) : Host.Outcome State Fault Refusal :=
  (if s.pwr.held = some 5 then s.resetRelease else s).done

/-- RSTOUT_RISE (R379). -/
def execRstoutRise (s : State) : Host.Outcome State Fault Refusal :=
  (if s.resetFree && s.pwr.rstoutDue then { s with pwr := { s.pwr with rstout := true } } else s).done

/-! ### The general watchdog (R380) -/

/-- PWR_WDOG.TIMEOUT in ms, within its bounds. -/
def State.wdogMs (s : State) : Nat := clampNat 100 10000 (s.rf Reg.pwrWdog 0 14)

/-- The watchdog counts. -/
def State.wdogRuns (s : State) : Bool := s.awake && s.rb Reg.pwrWdog 16

/-- A write of PWR_WDKICK restarts the count and clears WARN; the runtime runs again (R213). -/
def State.wdogKick (s : State) : State :=
  let s := { s with pwr := { s.pwr with wdLast := s.now }, act := { s.act with stopAt := none } }
  (s.setRb Reg.pwrStat 2 false).runtimePays

/-- WATCHDOG_KICK. -/
def execWatchdogKick (who : Init) (s : State) : Host.Outcome State Fault Refusal :=
  (s.guardWrite who 1 Reg.pwrWdkick State.wdogKick).done

/-- WDOG_WARN: half of TIMEOUT has passed; the runtime counts as stopped (R213). -/
def execWdogWarn (s : State) : Host.Outcome State Fault Refusal :=
  (if s.wdogRuns && !s.rb Reg.pwrStat 2 && s.pwr.wdLast + 2 * s.wdogMs ≤ s.now then
    let s := { s with act := { s.act with stopAt := some s.now } }
    (s.setRb Reg.pwrStat 2 true).fire 53
   else s).done

/-- WATCHDOG_RESET: TIMEOUT has passed. -/
def execWatchdogReset (s : State) : Host.Outcome State Fault Refusal :=
  (if s.wdogRuns && s.pwr.wdLast + ticksOfMs s.wdogMs ≤ s.now then s.resetRun 3 else s).done

/-! ### Shakeout, steps 2 to 6 (R383) -/

/-- KNAB_RECALL (R505-R507, R381): step 2 ends and step 3 latches the straps, after a power-on alone. `weak` are the weak pages
that the margin read of a scan-mode recall finds. -/
def execKnabRecall (weak : List Nat) (s : State) : Host.Outcome State Fault Refusal :=
  (if !s.resetFree || s.shakeStep != 2 then s
   else
    let s :=
      if s.rf Reg.pwrRstcause 0 3 = 1 then
        let p := s.pwr.straps
        let s := s.knabFullRecall weak
        let s := ((s.setRf Reg.pwrStrap 0 2 p.twinPos).setRf Reg.pwrStrap 2 2 p.bootSrc).setRf Reg.pwrStrap 5 3 p.shdnT
        let s := (s.setRf Reg.twnStat 0 2 (s.twinPosOf (p.twinPos % 4))).linesShow
        if p.twinPos % 4 = 3 && s.present 16 then s.fault 0x0F01 3 else s
      else s.setRb Reg.knbStat 0 false
    let s := { s with pwr := { s.pwr with rstoutDue := true } }
    s.setRf Reg.pwrShake 0 4 4).done

/-- The port settings that a pour source needs (R382): SRC, and for the network the ports (R328). -/
def State.bootSource (s : State) (src : Nat) : State :=
  let s := s.setRf Reg.pwrPour 16 2 src
  if src = 1 then (s.netEnable 0 false).netEnable 1 false else s

/-- A twin pour ends without its images: the fallback source of BOOT_SRC serves (R357, R382). -/
def State.pourFallback (s : State) : State := s.bootSource (if s.rf Reg.pwrStrap 2 2 = 2 then 1 else 0)

/-- Step 6: the pour source (R382). The twin attempt sends HELLO (R357). -/
def State.waitForPour (s : State) : State :=
  let s := (s.setRf Reg.pwrShake 0 4 6).setRb Reg.pwrPour 7 true
  let s := { s with pwr := { s.pwr with waitFrom := s.now } }
  let src := s.rf Reg.pwrStrap 2 2
  if 2 ≤ src && s.isTwin then
    let s := (s.setRf Reg.pwrPour 16 2 2).sendToken (.hello s.helloOf)
    { s with twn := { s.twn with helloAt := some s.now } }
  else s.bootSource (if src = 1 || src = 2 then 1 else 0)

/-- The faults that step 5 logs (R28, R339, R401, R546, R587). -/
def State.stepFiveFaults (s : State) : State :=
  let s := if s.rb Reg.rtcStat 0 then (s.rtcFire 25).rtcFault 0x0A01 0 else s
  let s := if s.rtc.vbatLow then s.rtcBatlow else s
  match s.rf Reg.pwrRstcause 0 3 with
  | 1 => if s.rb Reg.pwrRstcause 3 then s.fault 0x0206 0 else s
  | 3 => s.fault 0x0202 0
  | 4 => s.fault 0x0F0A 0
  | 5 => ({ s with pwr := { s.pwr with tripPeak := 0 } } : State).fault 0x1002 (ofIntN 32 s.pwr.tripPeak)
  | 6 => s.fault (if s.pwr.clockLost then 0x0103 else 0x0102) 0
  | _ => s

/-- Step 5: serial number, address and counters from the store (R303, R317, R383). A bad header leaves no stored values (R507). -/
def State.identityLoad (s : State) : State :=
  let s := s.nvReload
  let s := (s.setReg Reg.sysSerialLo (BitVec.ofNat 32 s.nv.serial)).setReg Reg.sysSerialHi (BitVec.ofNat 32 (s.nv.serial / 2 ^ 32))
  let s := (s.setRf Reg.netAddr 0 10 s.nv.address).netSeqTo (s.nv.seqBase + 65536)
  let s := s.forEach [0, 1] (fun s p => s.setRf (Reg.netpPlca p) 0 5 (s.nv.address % 32))
  let s := { s with od := { s.od with heat := s.nv.heat.getD 0, hdig := s.nv.hdig.getD 0, sdig := s.nv.sdig.getD 0 } }
  let s := s.odSet (odId 1 0 2) (.num s.nv.address)
  let s := s.stepFiveFaults
  { s with pwr := { s.pwr with tripPeak := 0 } }

/-- SELF_TEST (R383, R384, R410): step 4 ends, with the outcome of the ROM check and the march test; step 5 follows, then step 6. -/
def execSelfTest (romOk ramOk : Bool) (s : State) : Host.Outcome State Fault Refusal :=
  (if !s.resetFree || s.shakeStep != 4 || s.rb Reg.pwrStat 7 then s
   else if !(romOk && ramOk) then (s.setRb Reg.pwrStat 7 true).fault 0x0203 (if romOk then 2 else 1)
   else
    let s := (s.clearMem 0x10000000 0x100C0000).clearMem 0x20000000 0x20040000
    let s := (s.clearMem 0x30000000 0x30004000).cenClear
    s.identityLoad.waitForPour).done

/-- IMAGE_CHECK (R388, R389, R395): the check of an image that is CHECKING ends. A failed check ends a twin pour (R357). -/
def State.imgCheck (s : State) (k : Nat) : State :=
  if s.pourStatus k != 3 || !s.pourOpen then s
  else
    let cause := s.imgCause (s.pourOf k).image k
    if cause = 0 then s.imgAccept k
    else
      let s := s.imgReject k cause
      if s.rf Reg.pwrPour 16 2 = 2 then s.pourFallback else s

/-- IMAGE_CHECK. -/
def execImageCheck (kind : Nat) (s : State) : Host.Outcome State Fault Refusal :=
  (if kind ≤ 1 then s.imgCheck kind else s).done

/-! ### Shakeout, steps 8 to 10 (R390-R393, R627) -/

/-- The entries of a configuration image: object ID, type code, value; none where one is cut short (R390). -/
def cfgEntries : Nat → List Byte → Option (List (Nat × Nat × OdVal))
  | 0, l => if l.isEmpty then some [] else none
  | n + 1, l =>
    if l.isEmpty then some []
    else if l.length < 5 then none
    else
      let t := (l.getD 4 0).toNat
      match odDec false t (l.drop 5) with
      | none => none
      | some (v, rest) => (cfgEntries n rest).map ((ofBe (l.take 4), t, v) :: ·)

/-- Does an entry reject the image (R390)? -/
def State.cfgBad (s : State) (e : Nat × Nat × OdVal) : Bool :=
  match odRow e.1 with
  | none => true
  | some r => [0x01, 0x02, 0x03, 0x04, 0x3F].contains r.c || !r.persist || (s.odPresent e.1 && (e.2.1 != r.typ || odValueCode r e.2.2 != 0))

/-- The configuration image is rejected at step 8: no image is applied, and the applied version reads 0 (R390). -/
def State.configReject (s : State) : State :=
  let s := s.imgReject 1 9
  { s with pwr := { s.pwr with cfgSig := 2 }, od := { s.od with cfgVersion := 0 } }

/-- Step 8 (R390): the accepted configuration image is applied, or rejected whole with cause 9. The values it gives are the
baseline; entries of absent units are counted. -/
def State.configLoad (s : State) : Option (List (Nat × OdVal)) × State :=
  let body := s.pwr.pourCf.image.drop 128
  match cfgEntries body.length body with
  | none => (none, s.configReject)
  | some es =>
    if es.any s.cfgBad || !(es.map Prod.fst).Nodup then (none, s.configReject)
    else
      let here := (es.filter (fun e => s.odPresent e.1)).map (fun e => (e.1, e.2.2))
      let base := here.foldl (fun t p => Tab.put odDefault t p.1 p.2) []
      (some here, { s with od := { s.od with baseline := base }, pwr := { s.pwr with cfSkipped := es.length - here.length } })

/-- Step 9 (R391): each persistent member takes the value of the store, of the image, or its default. -/
def State.overlay (s : State) (img : Option (List (Nat × OdVal))) : State :=
  let es := img.getD []
  let l := if s.pwr.cfgTag = s.nv.imgTag then es ++ s.nv.objs else s.nv.objs ++ es
  let s := l.foldl (fun (s : State) p => s.odSet p.1 p.2) s
  s.odSet (odId 1 0 2) (.num s.nv.address)

/-- The order of the starts of step 10 (R392). -/
def shakeOrder : List Nat :=
  [1, 2, 5] ++ (List.range 32).map (0x180 + ·) ++ (List.range 16).map (0x1A0 + ·) ++ (List.range 64).map (0x200 + ·) ++
    (List.range 64).map (0x100 + ·) ++ [3, 4]

/-- One start of step 10 (R392, R393): steps 2 and 3 of R270; a refusal leaves the function STOPPED. Guard conversions run from the
first start on (R24, R76). -/
def State.shakeStart (s : State) (f : Nat) : State :=
  let res := s.fnValidate f true
  let c := res.1
  let s := res.2
  if c = 0 then
    let s := (s.fnLoad f).fnTo f 1
    let s := { s with acq := { s.acq with guardsOn := true } }
    s.setFn f { s.fn f with ready := true }
  else
    let s := (s.setFn f { s.fn f with resp := c }).fault 0x0204 f
    { s with pwr := { s.pwr with fnRefused := s.pwr.fnRefused + 1 } }

/-- The journal transaction of step 10 (R277, R392). -/
def State.startupWrite (s : State) : State :=
  let d := s.odDigests s.od.committed
  let h := heatAfterN s.heatAhead s.od.heat
  let tag := if s.pourStatus 1 = 4 then s.pwr.cfgTag else s.nv.imgTag
  let nv := s.nvOfSet s.od.committed
  s.nvStore (fun _ => { nv with imgTag := tag, heat := some h, hdig := some d.1, sdig := some d.2 }) [2] []

/-- The transaction of step 10 ends: it completes, or NV_COMMIT is logged and it is repeated after a second (R627). -/
def State.startupTxn (s : State) (nvOk : Bool) : State :=
  if nvOk && s.nvFits (s.nvOfSet s.od.committed) then
    let s := s.startupWrite
    { s with knb := { s.knb with nvFault := false }, pwr := { s.pwr with retryStart := none } }
  else
    let s := s.fault 0x0E02 0
    { s with knb := { s.knb with nvFault := true }, pwr := { s.pwr with retryStart := some (s.now + 4000) } }

/-- RUNTIME_ENTRY (R383 steps 8-10): both images are accepted. `nvOk`: the journal transaction of step 10 completes. TWN_STRAP of a
part without TWN is logged at each runtime entry, not once per power-on: R13 does not say (DESIGN CHOICE, log entry 29). -/
def execRuntimeEntry (nvOk : Bool) (s : State) : Host.Outcome State Fault Refusal :=
  (if !s.resetFree || s.shakeStep != 7 || s.pourStatus 0 != 4 || s.pourStatus 1 != 4 then s
   else
    let s := { s.runtimeLoad with pwr := { s.pwr with rtIn := true, wdLast := s.now } }
    let s := (s.setRf Reg.pwrShake 0 4 8).setRb Reg.pwrWdog 16 true
    let s := s.actShakeSafe.forEach runtimeRings State.ringSetup
    let strap := s.rf Reg.pwrStrap 0 2
    let s := if !s.present 16 && (strap = 1 || strap = 2) then s.fault 0x0F01 strap else s
    let s := s.knabModeRewrite.rtcResume
    let res := s.configLoad
    let img := res.1
    let s := res.2
    let s := s.overlay img
    let s := (s.loadShdnSel.shdnDoLock).setRf Reg.pwrShake 0 4 10
    let s := s.loadSupervise.loadTwn.loadPwr.startRtc.loadLockcfg.zonLoadPins.netStart
    let s := { s with od := { s.od with serving := true } }
    let s := s.forEach (shakeOrder.filter (fun f => s.present (fnUnit f) && s.odNat 8 f 6 == 1)) State.shakeStart
    let d := s.odDigests s.od.committed
    let s := { s with od := { s.od with startup := some (decide (s.nv.hdig ≠ some d.1)) } }
    (s.startupTxn nvOk).setRf Reg.pwrShake 0 4 11).done

/-- STARTUP_COMMIT_RETRY (R627): the step-10 transaction is repeated once a second until it completes. -/
def execStartupCommitRetry (nvOk : Bool) (s : State) : Host.Outcome State Fault Refusal :=
  (match s.pwr.retryStart with
   | none => s
   | some t =>
     if !s.runtimeRuns || s.now < t then s
     else if nvOk then s.startupTxn true
     else { s with pwr := { s.pwr with retryStart := some (s.now + 4000) } }).done

/-- B1 (R383 step 11, R392): the starts of step 10 commit together, the digests take their values, and the heat number rises by one
where the set differs from the stored digest (R277). -/
def State.startupCommit (s : State) : State :=
  match s.od.startup with
  | none => s
  | some raise =>
    let s := ({ s with od := { s.od with startup := none }, pwr := { s.pwr with b1 := some s.now } } : State).odCommit []
    let s := if raise then s.heatStep else s
    s.forEach (shakeOrder.filter (fun f => (s.fn f).ready)) (fun s f =>
      let s := s.fnTo f 2
      let s := s.setFn f { s.fn f with ready := false, heatAt := s.od.heat, resp := 0 }
      s.fnJoin f [])

/-! ### Chill (R397-R399) -/

/-- The response code of a chill request (R397). -/
def State.chillCode (s : State) : Nat :=
  if s.isTwin && !(s.role == 2 && !s.rb Reg.twnStat 4) && s.role != 0 then 3
  else if fnAll.any (fun f => (s.fn f).state == 1 || (s.fn f).state == 3) || s.rb Reg.twnStat 5 then 7
  else if s.rf Reg.pwrWake 0 6 = 0 then 5
  else if s.shakeStep < 12 then 7
  else 0

/-- An accepted request: chill is entered at the first class-0 boundary at least 8 base ticks on (R398). -/
def State.chillAccept (s : State) : State :=
  match s.pwr.chillAt with
  | some _ => s
  | none => { s with pwr := { s.pwr with chillAt := some (s.tb.count + 8) } }

/-- CHILL_REQUEST (R397): PWR_CTRL.CHILL is written by the runtime. -/
def execChillRequest (s : State) : Host.Outcome State Fault Refusal :=
  (if s.runtimeRuns && s.chillCode = 0 then s.chillAccept else s).done

/-- The stroke totals are rewritten by a journal transaction (R515). -/
def State.strokesWrite (s : State) : State :=
  let s := s.knabSettle
  let total := fun n => leBytes 8 (ofLe (s.knabBytes (0x50000400 + 8 * n) 8) + if n < s.nActs then s.strokesSince n else 0)
  let pages := (List.range 4).map (fun j => (16 + j, (List.range 8).flatMap (fun k => total (8 * j + k))))
  let mark := (List.range s.nActs).foldl (fun m n => recPut 0 m n (s.reg (Reg.actnStrokes n)).toNat) s.knb.strokeMark
  let s := s.knabTransact pages
  { s with knb := { s.knb with strokesDue := s.now + 14400000, strokeMark := mark } }

/-- What chill entry waits for: sensor-bus transactions (R441), the Knab store's transaction, increments and refreshes (R520), and the
ladle's bursts and replay (R481, R492). -/
def State.chillWaits (s : State) : Bool :=
  s.sbusAnyBusy || s.knabBusy || !s.knb.stalledInc.isEmpty || !s.knb.weak.isEmpty || !s.ldl.buf.isEmpty || s.rb Reg.ldlStat 1

/-- The part enters chill at Bc (R398, and the chill rules of the units). -/
def State.chillEnter (s : State) : State :=
  let s := s.strokesWrite.cenChill.actChill.acqChill.ldlChill.pollsStop
  let s := if s.rb Reg.rtcMeasCfg 3 then s.rtcMeasStop else s
  let s := s.forEach (List.range s.nFans) (fun s f =>
    (s.setFan f { s.fan1 f with window := none, chill := true }).fanDrive f (s.fanSafeDuty f))
  let s := { s with pwr := { s.pwr with chillAt := none, chillFrom := s.rtc.epoch, wakeTicks := none } }
  s.setRf Reg.pwrStat 0 2 2

/-- The rings whose bytes lie in a lost data bank are disabled (R464). -/
def State.ringsLost (s : State) (lost : Nat) : State :=
  let gone := (List.range 32).filter (fun n =>
    s.ringOn n && rangeLost lost (s.reg (Reg.rngBase n)).toNat (2 ^ s.ringDepth n * s.ringEsize n))
  let s := s.forEach gone (fun s n =>
    ((((s.setRb (Reg.rngCfg n) 8 false).ringFlush n).setReg (Reg.rngHead n) 0).setReg (Reg.rngTail n) 0))
  match gone.getLast? with
  | some n => s.ringError 4 n
  | none => s

/-- The part leaves chill; `why` has the bit of every wake source of this instant, as PWR_WAKE.WHY records them (R399, R408, R409 and
the units' chill rules). -/
def State.wakeUp (s : State) (why : Nat) : State :=
  let lost := 255 - s.rf Reg.pwrRetain 0 8
  let secs := s.rtc.epoch - s.pwr.chillFrom
  let s := s.setRf Reg.pwrWake 8 6 why
  let s := s.forEach ((List.range 8).filter (fun b => lost.testBit b)) (fun s b =>
    s.clearMem (0x20000000 + 0x8000 * b) (0x20000000 + 0x8000 * (b + 1)))
  let s := (s.orReg Reg.sysRamstat (BitVec.ofNat 32 lost)).ringsLost lost
  let s := (((s.ldlWake lost).acqWake).kpdWake secs).rtcAfterChill (why % 8 != 0)
  let s := { s with pwr := { s.pwr with wakeTicks := some 0, wokeAt := some s.now, wdLast := s.now },
                    cen := { s.cen with lastBoundary := some s.now },
                    zon := { s.zon with chillSecs := some (s.zon.chillSecs.getD 0 + secs) },
                    fan := { s.fan with refresh := s.fan.refresh.map (fun _ => s.now) },
                    net := { s.net with windows := (s.net.windows.filter (fun (w : Nat × NetWin) => s.rtc.epoch ≤ w.2.rtcLast + 180)).map (fun (w : Nat × NetWin) =>
                      (w.1, { w.2 with last := w.2.last - (ticksOfSec secs : Nat) })) } }
  ({ s with knb := { s.knb with nextSlice := nextSliceAfter s.tb.count } } : State).runtimePays.rtcMeasBegin

/-- RTC_SECOND (R526): in chill an alarm or the tick that PWR_WAKE enables wakes the part (R399, R547). -/
def execRtcSecond (s : State) : Host.Outcome State Fault Refusal :=
  (if s.rtcRuns && s.rtcSecondDue then
    let s := s.rtcAdvance
    let hits := [0, 1, 2].filter (fun k => s.asleep && s.pwr.good && s.pwr.held.isNone && s.rb Reg.pwrWake k && s.rtcWakes k)
    if hits.isEmpty then s else s.wakeUp ((hits.map (fun k => 2 ^ k)).sum)
   else s).done

/-- WAKE (R399): a wake source enabled in PWR_WAKE. -/
def execWake (src : Nat) (s : State) : Host.Outcome State Fault Refusal :=
  (if s.pwr.good && s.pwr.held.isNone && s.asleep && src < 6 && s.rb Reg.pwrWake src then s.wakeUp (2 ^ src) else s).done

end Sys2Proof.Machine
end

