-- ==== Sys2Proof/Machine/Twin.lean ====
section
/-! DEFINITION. The flask: OWN and claims, the sprue link's tokens, grafting, formation, swap reconfiguration (10_twin_pair R332-R373). -/

namespace Sys2Proof.Machine

/-! ### Roles (R334, R335, R349) -/

/-- A chip's role and FORMED change (event 46, R616); `cause` is TWN_STAT.CAUSE. A zone step that was due before the change is not
made: it was the former active's (R173, R192). -/
def State.roleTo (s : State) (role : Nat) (formed : Bool) (cause : Option Nat) : State :=
  let changed := role != s.role || formed != s.rb Reg.twnStat 4
  let s := (s.setRf Reg.twnStat 2 2 role).setRb Reg.twnStat 4 formed
  let s := match cause with | some c => s.setRf Reg.twnStat 16 4 c | none => s
  if !changed then s
  else
    let s := { s with twn := { s.twn with roleTick := s.stamp, kickAt := s.now }, zon := { s.zon with due := false } }
    (s.fire 46).happen 46 ((if formed then 65536 else 0) + role * 256 + s.rf Reg.twnStat 16 4)

/-- The chip pulls TWN_OWN low (R336). -/
def State.ownPull (s : State) : State := (s.setRb Reg.twnStat 9 true).lineRefresh

/-- The chip releases TWN_OWN, which rises where the partner does not pull it, and its output pins go high-impedance in the same
action (R336, R338). -/
def State.ownRelease (s : State) : State :=
  ({ (s.setRb Reg.twnStat 9 false) with twn := { s.twn with drives := false, driveAt := none } } : State).lineRefresh

/-- What a broken swap leaves (R366): MIXED ends, SWAP_BROKEN is logged, and an active chip commits the set it runs, at heat H + 1
where it is not C. -/
def State.swapBroken (s : State) : State :=
  if !s.rb Reg.twnStat 5 then s
  else
    let s := s.fault 0x0F08 s.swapState
    let s := ((s.setRb Reg.twnStat 5 false).setRf Reg.twnSwap 0 3 0).setRb Reg.twnStat 10 false
    let s := { s with twn := { s.twn with swapAt := none, ownDone := none, peerDone := none, cmp := [], started := [] } }
    if s.role != 2 || s.ownSet = s.twn.digC then s
    else
      let s := (s.odCommit []).heatStep
      s.nvHeat (s.nvOfSet s.od.committed) s.od.heat s.od.committed

/-- Is the last ZONE mirror no older than 3 zone steps (R349)? -/
def State.zoneMirrorFresh (s : State) : Bool :=
  match s.twn.zoneAt with | some t => s.now ≤ t + 3 * s.period 2 | none => false

/-- A start of this chip that has not committed ends in STOPPED, with no staged values (R291). -/
def State.startLost (s : State) (f : Nat) : State :=
  if (s.fn f).state != 1 then s
  else
    let s := ((s.slotsApart f).fnTo f 0).fnDrop f
    s.setFn f { s.fn f with ready := false }

/-- The new active chip of a flask resumes the network sequence, and opens its windows anew (R330). -/
def State.netTakeover (s : State) : State :=
  let s := s.netSeqTo (s.twn.seqMirror + 65536)
  { s with net := { s.net with windows := [] } }

/-- The chip becomes ACTIVE by a claim (R291, R340, R341, R349). -/
def State.claim (s : State) (cause : Nat) : State :=
  let standby := s.role == 1
  let rel := s.twn.relCause.getD 0
  let s := (s.ownPull.sendToken .claim).roleTo 2 false (some cause)
  let s := s.setRf Reg.twnTakeovers 0 16 (min 0xFFFF (s.rf Reg.twnTakeovers 0 16 + 1))
  let s := (s.knabCtrAdd 17 1).fault 0x0F02 rel
  let s := s.swapBroken
  let s := if standby then s.forEach fnAll State.startLost else s
  let s := s.ownDrop.actTakeover.kpdTakeover
  let s := if standby then s.netTakeover else s
  let s := if s.zoneMirrorFresh then s else s.forEach ((List.range s.nZones).filter s.zoneRuns) State.zoneInit
  { s with net := { s.net with windows := [] }, od := { s.od with txns := [], ownPending := none }, zon := { s.zon with hits := [] },
           twn := { s.twn with relCause := none, driveAt := some (s.now + 1), grafts := [], cmp := [], config := [], configDone := false,
                               cand := false, reload := none, runmap := [], started := [], ticksFrom := none } }

/-- OWN has been continuously high for n base ticks. -/
def State.ownHighFor (s : State) (n : Nat) : Bool :=
  match s.twn.ownHighAt with | some t => s.rb Reg.twnStat 8 && t + n ≤ s.now | none => false

/-- ALIVE_IN has been continuously low for n base ticks. -/
def State.aliveLowFor (s : State) (n : Nat) : Bool :=
  match s.twn.aliveLowAt with | some t => !s.rb Reg.twnStat 7 && t + n ≤ s.now | none => false

/-- TWIN_KICK (R339). -/
def execTwinKick (who : Init) (s : State) : Host.Outcome State Fault Refusal :=
  (s.guardWrite who 16 Reg.twnKick (fun s => { s with twn := { s.twn with kickAt := s.now } })).done

/-- TWIN_WATCHDOG (R339): 16,384 TBO cycles, four base ticks, without a kick on an ACTIVE and FORMED chip. -/
def execTwinWatchdog (s : State) : Host.Outcome State Fault Refusal :=
  (if s.isTwin && s.awake && s.role == 2 && s.rb Reg.twnStat 4 && s.rb Reg.twnStat 9 && s.twn.kickAt + 4 ≤ s.now then
    let s := s.ownRelease.sendToken (.release 2)
    { s with twn := { s.twn with forcedAt := some (s.now + 1) } }
   else s).done

/-- TWIN_FORCED_RESET (R339). -/
def execTwinForcedReset (s : State) : Host.Outcome State Fault Refusal :=
  (match s.twn.forcedAt with
   | some t => if s.resetFree && t ≤ s.now then s.resetRun 4 else s
   | none => s).done

/-- OWN_CHANGE (R336): the level at which the partner leaves TWN_OWN, which this chip's own pull can only lower, and the level of
TWN_ALIVE_IN. A chip that is not strapped COPE or DRAG ignores both (R333). -/
def execOwnChange (own alive : Bool) (s : State) : Host.Outcome State Fault Refusal :=
  (({ s with twn := { s.twn with ownIn := own, aliveIn := alive } } : State).lineRefresh).done

/-- CLAIM (R340): the standby, after OWN has been high for 8,192 TBO cycles, two base ticks. -/
def execClaim (s : State) : Host.Outcome State Fault Refusal :=
  (if s.isStandby && s.awake && s.ownHighFor 2 then s.claim (if s.twn.relCause.isSome then 3 else 4) else s).done

/-- LONE_CLAIM (R341): an UNFORMED chip, once the function starts of its shakeout are complete, which is at B1 (R270, R392). -/
def execLoneClaim (s : State) : Host.Outcome State Fault Refusal :=
  (let drag := s.rf Reg.twnStat 0 2 == 2
   let due := if drag then (s.ownHighFor 2 && s.aliveLowFor 2) || s.ownHighFor 4000 else s.ownHighFor 2
   if s.isTwin && s.awake && s.role == 0 && s.pwr.b1.isSome && due then s.claim 5 else s).done

/-- CLAIM_DRIVE (R340): 4,096 TBO cycles, one base tick, after the claim. -/
def execClaimDrive (s : State) : Host.Outcome State Fault Refusal :=
  (match s.twn.driveAt with
   | some t => if s.awake && t ≤ s.now then { s with twn := { s.twn with drives := true, driveAt := none } } else s
   | none => s).done

/-- OWN_STUCK (R343): once for each time that both lines have stood low at 8 base ticks. -/
def execOwnStuck (s : State) : Host.Outcome State Fault Refusal :=
  (match s.twn.bothLowAt with
   | some t =>
     if s.isTwin && s.awake && !s.rb Reg.twnStat 9 && !s.twn.stuckDone && t + 8 ≤ s.now then
       let s := { s with twn := { s.twn with stuckDone := true } }
       (s.setRb Reg.twnStat 11 true).fault 0x0F05 0
     else s
   | none => s).done

/-! ### The sprue link (R345-R348) -/

/-- Requests that went to the partner and cannot be answered any more end with INTERNAL (DESIGN CHOICE, log entry 47). -/
def State.forwardedEnd (s : State) : State :=
  (s.od.txns.filter (fun t => 0x80 ≤ t.op)).foldl (fun (s : State) t =>
    ({ s with od := { s.od with txns := s.od.txns.erase t } } : State).odSend { t with op := t.op - 0x80 } { code := 0xE }) s

/-- SPRUE_DOWN (R348, R358, R366): roles are kept, FORMED ends (R335). -/
def execSprueDown (s : State) : Host.Outcome State Fault Refusal :=
  (if !s.isTwin || !s.awake || !s.rb Reg.twnStat 6 then s
   else
    let s := (s.setRb Reg.twnStat 6 false).fault 0x0F03 0
    let s := { s with twn := { s.twn with ticksFrom := none, grafts := [], tx := [], txAt := 0, formSend := false, config := [], configDone := false, partner := none,
                                          cand := false, reload := none } }
    ((s.roleTo s.role false none).swapBroken).forwardedEnd).done

/-- TRANSFER_TIMEOUT (R347, R348): the token in progress is abandoned, and the 1 s of acknowledged TICKs starts anew. -/
def execTransferTimeout (s : State) : Host.Outcome State Fault Refusal :=
  (if s.isTwin then
    { s with twn := { s.twn with tx := s.twn.tx.drop 1, txAt := 0, ticksFrom := if s.role == 2 then none else s.twn.ticksFrom } }
   else s).done

/-- TOKEN_DISCARD (R345, R347): the data wires of successive transfers spell no token that a receiver takes. -/
def execTokenDiscard (s : State) (wires : List Nat := []) : Host.Outcome State Fault Refusal :=
  (if s.isTwin && wiresDiscard wires then { (s.incSat Reg.twnLinkerr 1) with twn := { s.twn with withhold := true } } else s).done

/-- An entry of ring 10 for a ZONE, ODX or CONFIG token: the spec gives its bytes no layout, so they are free. -/
def State.sprueRx (s : State) : State :=
  let a := s.drawWord
  let b := a.2.drawWord
  let c := b.2.drawWord
  let d := c.2.drawWord
  let e := [a, b, c, d].flatMap (fun w => leBytes 4 w.1.toNat)
  let s := d.2
  let took := s.ringTakes 10 16
  let s := s.ringOffer 10 e
  if took then s.fire 44 else s

/-- CLAIM_TOKEN (R342): a DRAG that has claimed and does not drive yet gives way. An earlier RELEASE of the partner is past. -/
def execClaimToken (s : State) : Host.Outcome State Fault Refusal :=
  (if !s.isTwin then s
   else
    let s := { s with twn := { s.twn with relCause := none } }
    if s.twn.driveAt.isSome && s.rf Reg.twnStat 0 2 == 2 then s.ownRelease.roleTo 0 false none else s).done

/-- RELEASE_TOKEN (R345): the cause of the partner's release, for the claim that follows it (R349). The active chip has none to make:
the token of a swap may reach it after the exchange (R364). -/
def execReleaseToken (cause : Nat) (s : State) : Host.Outcome State Fault Refusal :=
  (if s.isTwin && s.role != 2 then { s with twn := { s.twn with relCause := some (cause % 256) } } else s).done

/-- TBCOUNT of a TICK is loaded, with the tick phase, at the chip's next base tick (R351). -/
def State.tickLoad (s : State) (tb : Nat) : State := { s with twn := { s.twn with reload := some (tb % 2 ^ 48) } }

/-- The standby's tick follows the active's (R351). A TICK before the load has taken place only brings a newer count. -/
def State.tickAlign (s : State) (tb : Nat) (lag : Int) : State :=
  let d := clampInt (-32768) 32767 lag
  let s := s.setRf Reg.twnAlign 0 16 (ofIntN 16 d)
  if s.twn.reload.isSome then s.tickLoad tb
  else if lag.natAbs > 1024 || tb % 2 ^ 48 != s.tb.count then (s.fault 0x0F09 (ofIntN 16 d)).tickLoad tb
  else { s with tb := { s.tb with phase := s.tb.phase + clampInt (-16) 16 lag } }

/-- TICK_TOKEN (R348, R351). A candidate loads TBCOUNT and the phase from the first TICK of its formation, without a fault (R356), and
follows the later ones. -/
def execTickToken (tb : Nat) (lag : Int) (s : State) : Host.Outcome State Fault Refusal :=
  (if !s.isTwin || !s.awake || s.role == 2 then s
   else
    let run := match s.twn.lastTick, s.twn.ticksFrom with
      | some t, some f => if s.now ≤ t + 1 then f else s.now
      | _, _ => s.now
    let s := { s with twn := { s.twn with lastTick := some s.now, ticksFrom := some run } }
    if s.twn.cand && !s.twn.aligned then ({ s with twn := { s.twn with aligned := true } } : State).tickLoad tb
    else if s.twn.cand || s.role == 1 then s.tickAlign tb lag
    else s).done

/-! ### Grafts (R352-R355, R362) -/

/-- The functions of the swap set (21.000.10-1F). -/
def State.swapSet (s : State) : List Nat := s.twn.swapFns.filter (fun f => f != 0xFFFF)

/-- Does a slot take part in R362: a swap-set function's, in both running sets, with a destination? -/
def State.swapSlot (s : State) (n : Nat) : Bool :=
  s.swapSet.contains (s.slotFunc n) && s.slotRuns n && s.twn.runmap.contains n && fld (s.coef n 8) 0 3 != 0

/-- TWN_STAT.CONVERGED (R362). -/
def State.convergedNow (s : State) : Bool :=
  let need := max 1 (s.rf Reg.twnConvn 0 16)
  ((List.range s.nSlots).filter s.swapSlot).all (fun n => need ≤ (recGet {} s.twn.cmp n).conv)

/-- The comparison record of a slot (R355, R362). -/
def State.cmpPut (s : State) (n : Nat) (c : TwinCmp) : State :=
  { s with twn := { s.twn with cmp := recPut {} s.twn.cmp n c } }

/-- The standby of a mixed flask judges CONVERGED anew, and tells the active where it changes (R362). -/
def State.convergeRefresh (s : State) : State :=
  if !s.mixedStandby then s
  else
    let now := s.convergedNow
    if now = s.rb Reg.twnStat 10 then s else (s.setRb Reg.twnStat 10 now).sendToken (.swap (.converged now))

/-- A graft is compared with the slot's own U_PEND before it overwrites it: of a swap-set function for R362 alone, of others for
divergence (R355). -/
def State.graftCompare (s : State) (n : Nat) (u : Int) : State :=
  let gap : Nat := ((s.slotWord n 4).toInt - u).natAbs
  let c : TwinCmp := recGet {} s.twn.cmp n
  if s.swapSet.contains (s.slotFunc n) then
    if s.rb Reg.twnStat 5 then
      (s.cmpPut n { c with conv := if (gap : Int) ≤ (s.reg Reg.twnConvband).toInt then c.conv + 1 else 0 }).convergeRefresh
    else s
  else if !s.rb Reg.twnCtrl 0 then s
  else
    let out : Bool := decide ((gap : Int) > (s.reg Reg.twnDivband).toInt)
    let c : TwinCmp := { c with outBand := if out then c.outBand + 1 else 0, inBand := if out then 0 else c.inBand + 1 }
    let s := s.cmpPut n c
    let shown := s.rb (Reg.twnDivmap (n / 32)) (n % 32)
    if !shown && c.outBand = 10 then ((s.setRb (Reg.twnDivmap (n / 32)) (n % 32) true).fire 47).fault 0x0F04 n
    else if shown && c.inBand = 10 then s.setRb (Reg.twnDivmap (n / 32)) (n % 32) false
    else s

/-- One entry is applied (R353): I and U_PEND are written. Those of a function started on the standby of a mixed flask only count for
R362 (R366). -/
def State.graftApply (s : State) (g : Graft) : State :=
  let s := s.graftCompare g.slot g.u
  if s.twn.started.contains (s.slotFunc g.slot) then s
  else ((s.setSword (slotState g.slot + 8) g.i).setSword (slotState g.slot + 4) g.u).incWrap Reg.twnGraftcnt

/-- Has the standby's own evaluation of a graft's slot ended, in the frame whose boundary the graft names? -/
def State.graftDue (s : State) (g : Graft) : Bool :=
  let f := s.frame g.cls
  (f.busy || f.ready) && f.tick % 2 ^ 32 == g.tb && f.evald.contains g.slot

/-- The waiting entries that are due are applied, in order of arrival. -/
def State.graftsRun (s : State) : State :=
  let due := s.twn.grafts.filter s.graftDue
  let s := { s with twn := { s.twn with grafts := s.twn.grafts.filter (fun g => !s.graftDue g) } }
  due.foldl State.graftApply s

/-- Step 1 of a class-k boundary (R353): entries of the class not applied are discarded and counted. -/
def State.graftsLate (s : State) (k : Nat) : State :=
  let n := (s.twn.grafts.filter (fun g => g.cls == k)).length
  if n = 0 then s
  else { (s.incSat Reg.twnLatecnt n) with twn := { s.twn with grafts := s.twn.grafts.filter (fun g => g.cls != k) } }

/-- Does this chip take what the active mirrors: the standby, or a candidate that has taken the committed set (R354, R356)? -/
def State.mirrors (s : State) : Bool := s.isTwin && s.awake && s.rb Reg.twnStat 6 && (s.role == 1 || (s.role == 0 && s.twn.configDone))

/-- The running set, ascending. -/
def State.runningSet (s : State) : List Nat := (List.range s.nSlots).filter s.slotRuns

/-- RUNMAP leaves where the running set has changed since the last one (R352). -/
def State.runmapRefresh (s : State) : State :=
  let set := s.runningSet
  if set = s.twn.runmap then s else ({ s with twn := { s.twn with runmap := set } } : State).sendToken (.runmap set)

/-- The grafts of one class that formation sends: every slot of the running set, 31 entries to a token (R345, R356 step 5). -/
def State.graftsOf (s : State) (k : Nat) : List Token :=
  let slots := s.twn.runmap.filter (fun n => s.slotClass n == k)
  (List.range ((slots.length + 30) / 31)).map (fun j =>
    .graft k (31 * j) ((s.frame k).tick % 2 ^ 32) (((slots.drop (31 * j)).take 31).map (fun n => ((s.slotWord n 8).toInt, (s.slotWord n 4).toInt))))

/-- GRAFT_TOKEN (R352, R353): entries of class `cls` from ordinal `first` on, of the frame whose boundary is `tb`. -/
def execGraftToken (cls first tb : Nat) (entries : List (Int × Int)) (s : State) : Host.Outcome State Fault Refusal :=
  (if !s.mirrors then s
   else
    let slots := (s.twn.runmap.filter (fun n => s.slotClass n == cls % 4)).mergeSort (· ≤ ·)
    let named := entries.zipIdx.filterMap (fun e => (slots[first + e.2]?).map (fun n =>
      ({ slot := n, cls := cls % 4, tb := tb % 2 ^ 32, i := sat32 e.1.1, u := sat32 e.1.2 } : Graft)))
    let late := (named.filter (fun g => !s.slotRuns g.slot)).length
    let s := if late = 0 then s else s.incSat Reg.twnLatecnt late
    ({ s with twn := { s.twn with grafts := s.twn.grafts ++ named.filter (fun g => s.slotRuns g.slot) } } : State).graftsRun).done

/-- RUNMAP_TOKEN (R352). -/
def execRunmapToken (slots : List Nat) (s : State) : Host.Outcome State Fault Refusal :=
  (if s.mirrors then
    (({ s with twn := { s.twn with runmap := (slots.filter (fun n => n < 1024)).dedup } } : State).convergeRefresh)
   else s).done

/-- MIRROR_TOKEN (R214, R248, R330, R354). A chip that has just become active by a swap drives its pins once it has applied the
mirror of the exchange (R364). -/
def execMirrorToken (acts : List ActMirror) (fans : List FanMirror) (auto : Bool) (seq : Option Nat) (s : State) : Host.Outcome State Fault Refusal :=
  (let swapped := s.isTwin && s.role == 2 && s.rb Reg.twnStat 9 && !s.twn.drives && s.twn.driveAt.isNone
   if !(s.mirrors || swapped) then s
   else
    let s := acts.foldl State.actMirror s
    let s := (fans.foldl State.fanMirror s).setRb Reg.fanStat 0 auto
    { s with twn := { s.twn with seqMirror := (seq.map (· % 2 ^ 32)).getD s.twn.seqMirror, drives := s.twn.drives || swapped } }).done

/-- ZONE_TOKEN (R192): the zone mirror, which stands for a zone step of this chip: hits gathered so far are past, and the presence inputs
take their settings (R183, R196). With it a candidate, or a standby whose link was lost, that has taken the committed set
becomes STANDBY and FORMED, and says so by HELLO (R356 step 5, R358). -/
def execZoneToken (zones : List ZoneMirror) (sps : List (Nat × Word)) (vpvs : List (Nat × Word)) (s : State) :
    Host.Outcome State Fault Refusal :=
  (if !s.mirrors then s
   else
    let s := zones.foldl State.zoneMirror s
    let s := sps.foldl (fun s p => if p.1 < s.nSlots then s.setWord (spAddr p.1) p.2 else s) s
    let s := vpvs.foldl (fun s p => if p.1 < 256 then s.setVpv p.1 p.2 else s) s
    let s := ({ s with twn := { s.twn with zoneAt := some s.now }, zon := { s.zon with hits := [] } } : State).zonLoadPins.sprueRx
    if s.twn.configDone && !s.rb Reg.twnStat 4 then
      let s := ({ s with twn := { s.twn with cand := false } } : State).roleTo 1 true (some 1)
      s.sendToken (.hello s.helloOf)
    else s).done

/-! ### Formation (R356) and twin pour (R357) -/

/-- What the active sends a candidate first (R356 step 4): its committed set, and the swap set. -/
def State.formationSend (s : State) : State :=
  let s := s.roleTo 2 false none
  let s := { s with twn := { s.twn with configDone := true, formSend := true } }
  s.configSend.sendToken (.swap (.swapSet s.swapSet))

/-- Step 5 of formation (R356), once CONFIG has left: RUNMAP, a graft of every class, a full MIRROR and ZONE. -/
def State.formationRest (s : State) : State :=
  if !s.twn.formSend || s.twn.tx.any tokenConfig then s
  else
    let s := { s with twn := { s.twn with formSend := false, runmap := s.runningSet } }
    let s := s.sendToken (.runmap s.twn.runmap)
    let s := ([0, 1, 2, 3].flatMap s.graftsOf).foldl State.sendToken s
    (s.mirrorSend true).zoneSendAll

/-- The candidate's side of formation begins: it aligns at the next TICK and waits for CONFIG (R356 steps 3 and 4). -/
def State.formationTake (s : State) : State :=
  { s with twn := { s.twn with cand := true, aligned := false, reload := none, config := [], configDone := false, runmap := [], grafts := [] } }

/-- Both chips have said HELLO over a link that is up: steps 1 and 2 of formation, and what each does next (R356). -/
def State.formation (s : State) (h : Hello) : State :=
  if h.position = s.rf Reg.twnStat 0 2 then (s.setRb Reg.twnStat 12 true).fault 0x0F06 h.position
  else if s.role == 2 then (if h.role = 2 || h.rtVersion != s.od.rtVersion then s else s.formationSend)
  else if h.role != 2 then s
  else if h.rtVersion != s.od.rtVersion then
    if 2 ≤ s.rf Reg.pwrStrap 2 2 then s.resetRun 4 else s.fault 0x0F07 (h.rtVersion % 65536)
  else s.formationTake

/-- The images that this chip booted with go to a partner at its pour step (R357). -/
def State.imagesSend (s : State) : State :=
  [0, 1].foldl (fun (s : State) k =>
    let img := (s.pourOf k).image
    s.sendToken (.image k 0 img.length img)) (s.sendToken (.hello s.helloOf))

/-- SPRUE_UP (R348): TICKs have arrived at every base tick for 1 s; an active, which receives none, has had its own acknowledged for as
long (DEDUCED, log entry 46). HELLO leaves, and formation runs if the partner's has come before (R356, R358). -/
def execSprueUp (s : State) : Host.Outcome State Fault Refusal :=
  (let due := match s.twn.ticksFrom with
     | some a => a + 4000 ≤ s.now && (s.role == 2 || (match s.twn.lastTick with | some b => s.now ≤ b + 1 | none => false))
     | none => false
   if s.isTwin && s.awake && !s.rb Reg.twnStat 6 && due then
    let s := (s.setRb Reg.twnStat 6 true).sendToken (.hello s.helloOf)
    match s.twn.partner with
    | some h => if s.pwr.rtIn then s.formation h else s
    | none => s
   else s).done

/-- HELLO_TOKEN (R356-R358). A chip at its pour step is sent images. The active becomes FORMED at the HELLO by which its partner, now
STANDBY, ends formation; any other HELLO over a link that is up runs formation. -/
def execHelloToken (h : Hello) (s : State) : Host.Outcome State Fault Refusal :=
  (if !s.isTwin || !s.awake then s
   else
    let s := { s with twn := { s.twn with partner := some h } }
    let s := s.setReg Reg.twnPeerheat (BitVec.ofNat 32 h.heat)
    if !s.pwr.rtIn then s
    else if h.rtVersion = 0 && h.role = 0 then s.imagesSend
    else if !s.rb Reg.twnStat 6 then s
    else if s.role == 2 && h.role = 1 && s.twn.configDone && !s.rb Reg.twnStat 4 then s.roleTo 2 true (some 1)
    else s.formation h).done

/-- A function of the chip stops where it runs or starts. -/
def State.fnHalt (s : State) (f : Nat) : State :=
  match (s.fn f).state with
  | 0 => s
  | 1 => s.setFn f { (s.fnTo f 0).fn f with ready := false }
  | _ => (s.fnTo f 0).fnLeave f

/-- A function of the chip restarts on the set that it now holds (R356 step 4, R363 ABORT): it leaves, its set is validated and
loaded, and it joins again, or stays STOPPED with the code of its refusal. -/
def State.fnRestart (s : State) (f : Nat) : State :=
  let s := s.fnHalt f
  let res := s.fnValidate f false
  let c := res.1
  let s := res.2
  if c != 0 then s.setFn f { s.fn f with resp := c } else ((s.fnLoad f).fnTo f 2).fnJoin f []

/-- The functions of this chip follow the active's (R291, R354; DEDUCED, log entry 45): each of `run` runs, every other is STOPPED. A
function that runs already restarts where `again` says so. -/
def State.fnsFollow (s : State) (run : List Nat) (again : Nat → Bool) : State :=
  (shakeOrder.filter (fun f => s.present (fnUnit f))).foldl (fun (s : State) f =>
    if !run.contains f then s.fnHalt f
    else if s.fnRuns f && !again f then s
    else s.fnRestart f) s

/-- The committed set of the active is taken, with which functions run (R354, R356): a candidate restarts them all; a formed standby
loads what changed. -/
def State.setTake (s : State) (set : List (Nat × OdVal)) (heat : Nat) (run : List Nat) : State :=
  let old := s.od.committed
  let oldHeat := s.od.heat
  let s := ({ s with od := { s.od with committed := set, heat := heat, staged := [] } } : State).odCommit []
  let addr := match Tab.get odDefault set (odId 1 0 2) with | .num a => a.toNat | _ => s.nv.address
  let s := if heat = oldHeat then s else (s.fire 61).happen 61 heat
  let s := s.nvHeat { s.nvOfSet set with address := addr } heat set
  if !s.rb Reg.twnStat 4 then s.fnsFollow run (fun _ => true)
  else
    let ids := ((set.map Prod.fst) ++ (old.map Prod.fst)).dedup
    let ids := ids.filter (fun id => Tab.get odDefault set id != Tab.get odDefault old id)
    let fs := (ids.filterMap s.odGoverns).dedup
    let s := (fs.filter s.fnRuns).foldl State.fnLoad s
    let s := s.fnsFollow run (fun _ => false)
    (ids.filter (fun id => (s.odGoverns id).isNone)).foldl State.applyMember s

/-- CONFIG_TOKEN (R354, R356 step 4): members of the active's committed set, taken by a candidate and by a formed standby; with the last one the heat digest is checked and one journal
transaction writes the set (it fails where `nvOk` is false, and while the step-10 transaction is outstanding, R627). -/
def execConfigToken (last : Bool) (heat hdig _sdig : Nat) (members : List (Nat × OdVal)) (nvOk : Bool) (s : State) (run : List Nat := []) :
    Host.Outcome State Fault Refusal :=
  (if !s.isTwin || !s.awake || s.role == 2 || !s.pwr.rtIn || !s.rb Reg.twnStat 6 || !(s.twn.cand || s.rb Reg.twnStat 4) then s
   else
    let all := s.twn.config ++ members
    let s := ({ s with twn := { s.twn with config := if last then [] else all } } : State).sprueRx
    if !last then s
    else
      let set := all.foldl (fun t p => match odRow p.1 with
        | some r => if r.persist then Tab.put odDefault t p.1 p.2 else t
        | none => t) (s.od.committed.filter (fun p => match odRow p.1 with | some r => !r.persist | none => true))
      if s.odDigest set OdRow.persist != hdig % 2 ^ 64 then s
      else
        let res := s.nvRefuses nvOk 0 (s.nvOfSet set)
        let bad := res.1
        let s := res.2
        if bad then s
        else
          let s := s.setTake set (heat % 2 ^ 32) run
          { s with twn := { s.twn with configDone := true } }).done

/-- IMAGE_TOKEN (R357): a block of an image, in order; the whole image goes to its check. A gap counts as a failed check. -/
def execImageToken (kind offset total : Nat) (data : List Byte) (s : State) : Host.Outcome State Fault Refusal :=
  (if !s.isTwin || !s.pourOpen || s.rf Reg.pwrPour 16 2 != 2 || kind > 1 || 3 ≤ s.pourStatus kind then s
   else
    let img := (s.pourOf kind).image
    if offset != img.length then (s.pourEmpty kind).pourFallback
    else
      let s := s.setPour kind { length := total, image := img ++ data }
      s.setPourStatus kind (if total ≤ img.length + data.length then 3 else 1)).done

/-- Has the partner answered with images to send: its HELLO names a runtime image? A chip that waits for its own pour names none. -/
def State.partnerRuns (s : State) : Bool := match s.twn.partner with
  | some h => h.rtVersion != 0
  | none => false

/-- TWIN_POUR_TIMEOUT (R357): 50 ms after HELLO without an answer, or with ALIVE_IN low. -/
def execTwinPourTimeout (s : State) : Host.Outcome State Fault Refusal :=
  (match s.twn.helloAt with
   | some t =>
     if s.pourOpen && s.rf Reg.pwrPour 16 2 == 2 && t + ticksOfMs 50 ≤ s.now && !(s.rb Reg.twnStat 7 && s.partnerRuns) then
       s.pourFallback
     else s
   | none => s).done

/-! ### The swap procedure (R359-R366) -/

/-- The mixed state ends with no change of heat (R363). -/
def State.swapEnd (s : State) : State :=
  let s := ((s.setRb Reg.twnStat 5 false).setRf Reg.twnSwap 0 3 0).setRb Reg.twnStat 10 false
  { s with twn := { s.twn with swapAt := none, ownDone := none, peerDone := none, cmp := [], started := [] } }

/-- CONVERGED before any frame has been compared: no slot takes part in R362. -/
def State.convergedFirst (s : State) : Bool :=
  (List.range s.nSlots).all (fun n => !(s.swapSet.contains (s.slotFunc n) && s.slotRuns n && fld (s.coef n 8) 0 3 != 0))

/-- The mixed state begins (R359, R363): C is the committed set. At BEGIN both chips run it; CONVERGED reads 1 where no slot takes
part in R362, and else waits for the standby's count of frames. -/
def State.swapStart (s : State) : State :=
  let s := (s.setRb Reg.twnStat 5 true).setRf Reg.twnSwap 0 3 1
  let d := s.ownSet
  let s := { s with twn := { s.twn with digC := d, digPartner := d, setC := odPersistent s.od.committed,
                                        runC := s.swapSet.filter s.fnRuns, cmp := [], started := [] } }
  s.setRb Reg.twnStat 10 s.convergedFirst

/-- Each swap-set function that ran under C restarts with it on the standby, and takes grafts again; the others are STOPPED (R363 ABORT). -/
def State.swapRestore (s : State) : State :=
  let c := s.twn.setC
  let keep := s.od.committed.filter (fun p => match odRow p.1 with | some r => !r.persist | none => true)
  let s := { s with od := { s.od with committed := c.foldl (fun t (p : Nat × OdVal) => Tab.put odDefault t p.1 p.2) keep } }
  s.swapSet.foldl (fun s f => let s := s.fnDrop f; if s.twn.runC.contains f then s.fnRestart f else s.fnHalt f) s

/-- This chip's journal transaction of FINISH (R365): its set, heat H + 1 and the new digests. -/
def State.finishWrite (s : State) (nvOk : Bool) : State :=
  if s.twn.ownDone.isSome then s
  else
    let res := s.nvRefuses nvOk 0 (s.nvOfSet s.od.committed)
    let bad := res.1
    let s := res.2
    let s :=
      if bad then s
      else s.nvHeat (s.nvOfSet s.od.committed) (heatAfter s.od.heat) s.od.committed
    ({ s with twn := { s.twn with ownDone := some (!bad) } } : State).sendToken (.swap (.journalDone (!bad)))

/-- A swap command on the active chip (R363, R367): its response, or none where a boundary decides it. -/
def State.swapCommand (s : State) (cmd : Nat) (nvOk : Bool) : Option Nat × State :=
  let st := s.swapState
  let set := s.swapSet
  if !s.isTwin then (some 5, s)
  else
    match cmd with
    | 1 =>
      if st != 0 || !s.rb Reg.twnStat 4 || set.isEmpty || !set.all fnDefined then (some 5, s)
      else if set.any (fun f => (s.fn f).state == 1 || (s.fn f).state == 3) then (some 7, s)
      else (some 0, s.swapStart.sendToken (.swap (.begun set)))
    | 2 | 5 =>
      if st = 4 then (some 7, s)
      else if st = 0 then (some (if cmd = 2 then 7 else 5), s)
      else if cmd = 2 && !s.rb Reg.twnStat 10 then (some 7, s)
      else (none, ({ s with twn := { s.twn with swapAt := some (s.tb.count + 8) } } : State).sendToken (.swap (.exchangeAt (s.tb.count + 8))))
    | 3 =>
      if st = 4 then (some 7, s)
      else if st = 3 then (none, ((s.setRf Reg.twnSwap 0 3 4).sendToken (.swap .finishing)).finishWrite nvOk)
      else if st = 1 && s.twn.digPartner = s.twn.digC then (some 0, s.swapEnd.sendToken (.swap .ended))
      else (some 5, s)
    | 4 =>
      if st = 4 then (some 7, s)
      else if st = 1 then (some 0, s.swapEnd.sendToken (.swap .abort))
      else (some 5, s)
    | _ => (some 5, s)

/-- The swap command that waits for a boundary is answered, whichever operation wrote it. -/
def State.swapAnswer (s : State) (code : Nat) : State :=
  s.od.txns.foldl (fun s t => if t.id == odId 0x21 0 5 && t.op < 0x80 then s.txnEnd t { code := code, count := if code = 0 then 1 else 0 } else s) s

/-- May the active take a swap command? -/
def State.swapServes (s : State) : Bool := s.runtimeRuns && s.od.serving && s.isActive

/-- SWAP_BEGIN. -/
def execSwapBegin (s : State) : Host.Outcome State Fault Refusal := (if s.swapServes then (s.swapCommand 1 true).2 else s).done

/-- SWAP. -/
def execSwap (s : State) : Host.Outcome State Fault Refusal := (if s.swapServes then (s.swapCommand 2 true).2 else s).done

/-- FORCE_SWAP. -/
def execForceSwap (s : State) : Host.Outcome State Fault Refusal := (if s.swapServes then (s.swapCommand 5 true).2 else s).done

/-- SWAP_FINISH (R365): the command on the active; on the standby of a flask that is FINISHING, its own transaction. -/
def execSwapFinish (nvOk : Bool) (s : State) : Host.Outcome State Fault Refusal :=
  (if s.isStandby && s.runtimeRuns && s.swapState = 4 then s.finishWrite nvOk
   else if s.swapServes then (s.swapCommand 3 nvOk).2 else s).done

/-- SWAP_ABORT. -/
def execSwapAbort (s : State) : Host.Outcome State Fault Refusal := (if s.swapServes then (s.swapCommand 4 true).2 else s).done

/-- The roles exchange (R364). The standby has pulled OWN by the time the active releases it, so the line stays low; requests that the
former active still holds end with no response (DESIGN CHOICE, log entry 47). CONVERGED starts afresh: the standby, which knows both
running sets, finds whether any slot takes part (R362). -/
def State.swapExchange (s : State) : State :=
  let none_ := if s.role == 2 then s.convergedFirst else (List.range s.nSlots).all (fun n => !s.swapSlot n)
  let s := { s with twn := { s.twn with swapAt := none, cmp := [], started := [], relCause := none, grafts := [], runmap := [] } }
  let s := s.setRb Reg.twnStat 10 none_
  if s.role == 2 then
    let s := (s.mirrorSend true).sendToken (.release 5)
    let s := ({ s with twn := { s.twn with ownIn := false } } : State).ownRelease
    let s := ((s.swapAnswer 0).roleTo 1 true (some 2)).sbusStandby
    ({ s with od := { s.od with txns := [] }, twn := { s.twn with configDone := true } } : State).keysUp.swapRefresh
  else
    let s := (s.ownPull.roleTo 2 true (some 2)).netTakeover
    ({ s with twn := { s.twn with configDone := true, ticksFrom := none } } : State).actTakeover.swapRefresh

/-- SWAP_EXCHANGE (R364): the first class-0 boundary at least 8 base ticks after the command. -/
def execSwapExchange (s : State) : Host.Outcome State Fault Refusal :=
  (match s.twn.swapAt with
   | some t => if s.isTwin && s.awake && s.tb.running && t ≤ s.tb.count && s.atBoundary 0 && s.role != 0 then s.swapExchange else s
   | none => s).done

/-- The outcome of FINISH (R365), once both transactions have ended. -/
def State.finishCommit (s : State) (ok : Bool) : State :=
  if ok then
    let s := (s.odCommit []).heatStep
    (s.swapEnd).swapAnswer 0
  else
    let s := (s.setRf Reg.twnSwap 0 3 3).swapAnswer 0xD
    { s with twn := { s.twn with ownDone := none, peerDone := none } }

/-- SWAP_FINISH_COMMIT (R365): at the first class-0 boundary after both transactions. -/
def execSwapFinishCommit (s : State) : Host.Outcome State Fault Refusal :=
  (match s.twn.ownDone, s.twn.peerDone with
   | some a, some b =>
     if s.isTwin && s.awake && s.swapState = 4 && s.tb.running && s.atBoundary 0 then s.finishCommit (a && b) else s
   | _, _ => s).done

/-- The swap set as the active names it (21.000.10-1F). -/
def State.swapSetTake (s : State) (fns : List Nat) : State :=
  { s with twn := { s.twn with swapFns := fns.take 16 ++ List.replicate (16 - fns.length) 0xFFFF } }

/-- SWAP_TOKEN (R355, R359-R365): the partner's control of the swap. -/
def execSwapToken (ctl : SwapCtl) (s : State) : Host.Outcome State Fault Refusal :=
  (if !s.isTwin || !s.awake || s.role == 0 || !s.rb Reg.twnStat 6 then s
   else
    match ctl with
    | .swapSet fns => if s.isStandby && s.swapState = 0 then s.swapSetTake fns else s
    | .begun fns => if s.isStandby && s.swapState = 0 then (s.swapSetTake fns).swapStart else s
    | .exchangeAt tick => if s.isStandby && s.rb Reg.twnStat 5 then { s with twn := { s.twn with swapAt := some tick } } else s
    | .setDigest d => ({ s with twn := { s.twn with digPartner := d % 2 ^ 64 } } : State).swapRefresh
    | .converged c => if s.isActive && s.rb Reg.twnStat 5 then s.setRb Reg.twnStat 10 c else s
    | .finishing => if s.isStandby && s.swapState = 3 then s.setRf Reg.twnSwap 0 3 4 else s
    | .journalDone ok => if s.swapState = 4 then { s with twn := { s.twn with peerDone := some ok } } else s
    | .ended => if s.isStandby then s.swapEnd else s
    | .abort => if s.isStandby && s.swapState = 1 then s.swapRestore.swapEnd else s).done

/-- TWN_LATECNT_READ; TWN cannot be owned, so a host read clears nothing (R52). -/
def execTwnLatecntRead (who : Init) (s : State) : Host.Outcome State Fault Refusal :=
  (s.readClear who 16 Reg.twnLatecnt 0xFFFFFFFF).done

/-- TWN_LINKERR_READ. -/
def execTwnLinkerrRead (who : Init) (s : State) : Host.Outcome State Fault Refusal :=
  (s.readClear who 16 Reg.twnLinkerr 0xFFFFFFFF).done

end Sys2Proof.Machine
end

