-- ==== Sys2Proof/Machine/OdTxn.lean ====
section
/-! DEFINITION. ODX requests: their record, the order of checks, and what an accepted request does (08_object_dictionary R254-R275, R283-R296; the object refusals of every chapter). -/

namespace Sys2Proof.Machine

/-! ### Records (R283, R286) -/

/-- A request record, taken apart. -/
structure OdReq where
  op : Nat := 0
  flags : Nat := 0
  typ : Nat := 0
  id : Nat := 0
  expheat : Nat := 0
  len : Nat := 0
  count : Nat := 0
  /-- All the bytes after the header. -/
  value : List Byte := []
  /-- The bytes of the whole record. -/
  size : Nat := 0
  little : Bool := false
deriving DecidableEq, Repr

/-- The record that bytes spell; a record cut short reads its missing bytes as 0, and its length refuses it. -/
def odParse (little : Bool) (l : List Byte) : OdReq :=
  let n := fun off k => odIntOf little (slice l off k)
  { op := (l.getD 0 0).toNat, flags := (l.getD 1 0).toNat, typ := (l.getD 2 0).toNat, id := n 4 4, expheat := n 8 4, len := n 12 2,
    count := n 14 2, value := l.drop 16, size := l.length, little := little }

/-- The values of a request, where they decode exactly. -/
def OdReq.values (r : OdReq) : List OdVal := (odDecAll r.little r.typ r.count r.value).getD []

/-- The IDs that a request addresses: consecutive members of one instance (R285). -/
def OdReq.ids (r : OdReq) : List Nat := (List.range r.count).map (fun j => r.id + j)

/-- Does the record's length agree with LEN, COUNT and TYPE (R287 order 2)? -/
def OdReq.lengthOk (r : OdReq) : Bool :=
  16 ≤ r.size && r.size == 16 + r.len && r.len ≤ 1384 &&
    (if r.op = 1 then r.len == 0
     else !(2 ≤ r.op && r.op ≤ 4) || !odTypeKnown r.typ || (odDecAll r.little r.typ r.count r.value).isSome)

/-- Is the request a write of a function's command, which is a CALL (R268)? -/
def OdReq.isCall (r : OdReq) : Bool := r.op == 4 || (r.count == 1 && odClass r.id == 8 && odMem r.id == 1 && r.op != 1)

/-! ### The order of checks (R287) -/

/-- The first index whose entry answers a code other than 0, with the code. -/
def firstFail (l : List Nat) : Option (Nat × Nat) :=
  (l.zipIdx.find? (fun x => x.1 != 0)).map (fun x => (x.2, x.1))

/-- Order 4: OP, FLAGS and COUNT. `typ` is the type of the network message. -/
def OdReq.rangeOk (r : OdReq) (typ : Option Nat) : Bool :=
  1 ≤ r.op && r.op ≤ 4 && (match typ with | some t => r.op == t | none => true) && r.flags < 4 &&
    (if r.op = 2 || r.op = 4 then r.count == 1 else 1 ≤ r.count && r.count ≤ 255)

/-- Order 5 for the member at offset j of the request (R255). -/
def State.odExists (s : State) (r : OdReq) (j : Nat) : Nat :=
  if odMem r.id + j > 0xFF || (odRow (r.id + j)).isNone then 1 else if s.odPresent (r.id + j) then 0 else 2

/-- Order 6 for one member (R258). -/
def odAccess (write : Bool) (role id : Nat) : Nat :=
  match odRow id with
  | some r => if write then (if r.wr && r.role ≤ role then 0 else 3) else if r.rd then 0 else 3
  | none => 1

/-- Is a member one of those that a swap-set function governs, its command included (R360)? -/
def State.inSwapSet (s : State) (id : Nat) : Bool :=
  if odClass id == 8 && odMem id == 1 then s.swapSet.contains (odInst id)
  else
    match s.odGoverns id with
    | some f => s.swapSet.contains f
    | none => false

/-- Is a member one that controls the swap, which the active chip executes (R360, R363, R367)? -/
def swapCtl (id : Nat) : Bool := odClass id == 0x21 && (odMem id == 5 || (0x10 ≤ odMem id && odMem id ≤ 0x1F))

/-- Is a write part of the swap procedure (R360, R367)? -/
def State.swapPart (s : State) (id : Nat) : Bool := s.inSwapSet id || swapCtl id

/-- Does a write or CALL execute on the other chip of the flask (R296, R360)? -/
def State.odElsewhere (s : State) (r : OdReq) (forwarded : Bool) : Bool :=
  !forwarded && ((s.isTwin && s.role == 2 && s.rb Reg.twnStat 5 && r.ids.all s.inSwapSet) || (s.isStandby && r.ids.all swapCtl))

/-- A request as it crosses the sprue link: most significant bytes first. -/
def OdReq.wire (r : OdReq) : List Byte :=
  [BitVec.ofNat 8 r.op, BitVec.ofNat 8 r.flags, BitVec.ofNat 8 r.typ, 0] ++ beBytes 4 r.id ++ beBytes 4 r.expheat ++ beBytes 2 r.len ++
    beBytes 2 r.count ++ r.values.flatMap (odEnc false r.typ)

/-- The refusal of a new ownership mask (R49). -/
def State.ownCode (s : State) (m : Nat) : Nat :=
  let news := ownable.filter (fun n => m.testBit n && !s.hostOwns n)
  if (setBits m).any (fun b => !ownable.contains b) then 5
  else if ownable.any (fun n => m.testBit n && !s.present n) then 2
  else if fnAll.any (fun f => s.present (fnUnit f) && (s.fn f).state != 0 && (s.fnUnits f).any news.contains) then 6
  else 0

/-- The refusal of a trace member's write (R165). -/
def State.traceCode (s : State) (id : Nat) (v : Int) : Nat :=
  let t := odInst id
  if s.hostOwns 7 then 3
  else if odMem id ≤ 8 then (if s.trcState t = 1 || s.trcState t = 2 then 7 else 0)
  else if v < 1 || 3 < v then 5
  else if v = 1 && s.trcBad t then (if s.nSlots ≤ s.rf (Reg.cenTrcCfg t) 0 10 then 2 else 5)
  else 0

/-- Order 10 for one member and its new value: the state of the functions that govern it, and the conditions that the chapters put
on a write (R49, R165, R265, R271, R273, R363, R367, R397, R548). -/
def State.odStateCode (s : State) (id : Nat) (v : OdVal) : Nat :=
  let n := match v with | .num x => x | _ => 0
  let gov := fun (f : Nat) (stop : Bool) =>
    let st := (s.fn f).state
    if st = 1 || st = 3 then 7 else if st = 2 && stop then 6 else 0
  match odRow id with
  | none => 1
  | some r =>
    if r.c = 0x11 && r.m0 = 5 then
      let new := if fnDefined n.toNat then gov n.toNat true else 0
      let old := match s.odGoverns id with | some f => gov f true | none => 0
      if old != 0 then old else new
    else if id = odId 1 0 6 then s.ownCode n.toNat
    else if r.c = 0x08 && r.m0 = 1 then s.fnCallCode (odInst id) n.toNat
    else if r.c = 0x33 then s.traceCode id n
    else if r.c = 0x03 && s.hostOwns 12 then 3
    else if id = odId 0x3F 0 0xC then (if n = 1 then s.chillCode else 0)
    else if r.c = 0x21 && 0x10 ≤ r.m0 && s.rb Reg.twnStat 5 then 7
    else
      match s.odGoverns id with
      | some f => gov f r.stop
      | none => 0

/-- What one value breaks besides the range of its member (R186, R367, R563, R568). -/
def State.odValueRule (s : State) (id : Nat) (v : OdVal) : Nat :=
  match odClass id, v with
  | 0x19, .num x =>
    let w : Word := BitVec.ofInt 32 x
    let reserved := w &&& ~~~(maskOf 24 2 ||| maskOf 16 6 ||| maskOf 8 5 ||| maskOf 7 1 ||| maskOf 0 7)
    if reserved != 0 || fld w 8 5 > 23 || fld w 16 6 > 59 || (fld w 24 2 = 0 && bitOf w 7) then 5 else 0
  | 0x21, .num x => if (odMem id = 7 || odMem id = 9) && x < 0 then 5 else 0
  | 0x17, .num _ => if odMem id = 0x15 && s.lockState == 3 then 5 else 0
  | 0x17, .bytes b =>
    if odMem id = 0x11 && b.any (fun k => s.odNat 0x17 0 0 ≤ k.toNat / 16 || s.odNat 0x17 0 1 ≤ k.toNat % 16) then 5 else 0
  | _, _ => 0

/-- The rules that relate members to one another, on the set that the whole request leaves, for functions in RUN (R172, R285, R440,
R623). -/
def State.odSetRule (t : State) (id : Nat) : Nat :=
  let i := odInst id
  let m := odMem id
  match odClass id with
  | 0x10 => if t.fnRuns (0x100 + i) && !t.zoneLimitsOk i then 5 else 0
  | 0x11 => if 0x18 ≤ m && m ≤ 0x1B && i < 1024 && t.fnRuns (t.odNat 0x11 i 5) && !t.clampsOk i then 5 else 0
  | 0x12 => if i < 88 && t.fnRuns 1 && !t.thresholdsOk i then 5 else 0
  | 0x15 => if i < t.nFans && t.fnRuns (0x1A0 + i) && !t.fanLimitsOk i then 5 else 0
  | 0x16 => if i < t.nFans && t.fnRuns (0x1A0 + i) && !t.fanLimitsOk i then 5 else 0
  | 0x20 => if m = 5 && t.present 26 && t.odNat 0x20 0 5 == t.odNat 0x20 1 5 then 5 else 0
  | _ => 0

/-! ### What an accepted write does -/

/-- Is a member held in the key area of the store (R494)? -/
def odKeyArea (id : Nat) : Bool := id == odId 4 0 1 || id == odId 4 0 4 || id == odId 0x17 0 0x11

/-- How a write of a member takes effect: staged for a function, committed at once, or acting at once (R265, R272, R274). -/
inductive OdEffect where
  | stage (f : Nat)
  | commit
  | act
deriving DecidableEq, Repr

/-- The effect of an accepted write (R265, R272, R274). A FUNC whose new value names no function waits for the old one. -/
def State.odEffect (s : State) (id : Nat) (v : OdVal) : OdEffect :=
  match odRow id with
  | none => .act
  | some r =>
    let gov := s.odGoverns id
    if r.c = 0x11 && r.m0 = 5 then
      let new := match v with | .num x => x.toNat | _ => 0
      if fnDefined new then .stage new else (match gov with | some f => .stage f | none => .commit)
    else
      match gov with
      | some f => if (s.fn f).state = 0 then .stage f else if r.persist then .commit else .act
      | none => if r.persist then .commit else .act

/-- A trace register field written by its member (R164). -/
def State.traceWrite (s : State) (t m : Nat) (v : Int) : State :=
  let n := v.toNat
  let cfg := s.reg (Reg.cenTrcCfg t)
  let trig := s.reg (Reg.cenTrcTrig t)
  match m with
  | 0 => s.trcConfig t 0 (putFld cfg 0 10 n)
  | 1 => s.trcConfig t 0 (putFld cfg 12 4 n)
  | 2 => s.trcConfig t 0 (putFld cfg 16 8 n)
  | 3 => s.trcConfig t 0 (putFld cfg 24 1 n)
  | 4 => s.trcConfig t 0 (putFld cfg 25 1 n)
  | 5 => s.trcConfig t 1 (putFld trig 0 3 n)
  | 6 => s.trcConfig t 1 (putFld trig 8 6 n)
  | 7 => s.trcConfig t 2 (ofInt32 v)
  | 8 => s.trcConfig t 1 (putFld trig 16 12 n)
  | _ => if n = 1 then s.trcArm t else if n = 2 then s.trcStop t else s.trcForce t

/-- The effect of a member that acts at once (R274): neither STOP nor PERSIST, or in the key area. -/
def State.odAct (s : State) (id : Nat) (v : OdVal) : State :=
  let i := odInst id
  let m := odMem id
  let n := match v with | .num x => x | _ => 0
  let b := match v with | .bytes l => l | _ => []
  match odClass id with
  | 0x01 => if m = 6 then { s with od := { s.od with ownPending := some n.toNat } } else s
  | 0x03 => if m = 1 then s.rtcSetClock n.toNat else if m = 0xA then s.rtcAdjWrite (ofInt32 n) else s
  | 0x04 =>
    if m = 1 then
      let old := s.rootKeyNow
      let s := s.nvStore (fun nv => { nv with rootKey := some b, seqBase := 0 }) [1, 3] s.seqCounterPage
      { s with net := { s.net with rootPending := some old } }
    else if m = 4 then s.nvStore (fun nv => { nv with custodianKey := some b }) [3] [] else s
  | 0x11 =>
    if s.hostOwns 7 then s
    else if i < 1024 then s.spWrite i (ofInt32 n)
    else s.vpvWrite (i - 1024) (ofInt32 n)
  | 0x14 => if m = 0x25 && n = 1 && !s.hostOwns 9 then s.actReleaseWrite (BitVec.ofNat 32 (2 ^ i)) else s
  | 0x15 => if m = 0x21 && n = 1 && !s.hostOwns 10 then s.fanClrWrite (BitVec.ofNat 32 (2 ^ i)) else s
  | 0x17 =>
    if m = 0x11 then
      let s := s.nvStore (fun nv => { nv with unlockSeq := b }) [4] []
      if s.hostOwns 11 then s else s.loadSequence.lockSequence
    else if s.hostOwns 11 || n != 1 then s
    else if m = 0x15 then s.kpdLockWrite 4 else s.kpdLockWrite 8
  | 0x18 => if s.hostOwns 11 then s else s.encCountWrite i (ofInt32 n)
  | 0x21 =>
    if 0x10 ≤ m then
      let s := { s with twn := { s.twn with swapFns := s.twn.swapFns.set (m - 0x10) n.toNat } }
      s.sendToken (.swap (.swapSet s.swapSet))
    else s
  | 0x30 =>
    if n = 1 then
      { s with od := { s.od with counters := [0, 0, 0, 0, 0, 0, s.txnUse] } }
    else s
  | 0x31 => if n = 1 then s.logClear 128 else s
  | 0x32 => if n = 1 then s.logClear 192 else s
  | 0x33 => s.traceWrite i m n
  | 0x3F => if m = 0xC && n = 1 then s.chillAccept else s
  | _ => s

/-- All effects of a write, after its journal transaction (R274, R285): staged values, one committed change, members that act at
once. A standby in the mixed state commits without a transaction and without a change of heat (R361, log entry 38). -/
def State.odApply (s : State) (pairs : List (Nat × OdVal)) : State :=
  let kinds := pairs.map (fun p => (p, s.odEffect p.1 p.2))
  let commits := (kinds.filter (fun k => k.2 == .commit)).map Prod.fst
  let s := kinds.foldl (fun (s : State) k => match k.2 with | .stage f => s.odStage k.1.1 f k.1.2 | _ => s) s
  let s :=
    if commits.isEmpty then s
    else
      let s :=
        if s.mixedStandby then (commits.foldl (fun (s : State) p => s.odSet p.1 p.2) s).swapNote
        else
          ((s.nvHeatNext commits).odCommit commits).heatStep
      let s := commits.foldl (fun (s : State) p => s.applyMember p.1) s
      if s.mixedStandby then s else s.configSend
  kinds.foldl (fun (s : State) k => match k.2 with | .act => s.odAct k.1.1 k.1.2 | _ => s) s

/-- Does a write need a journal transaction? -/
def State.odNeedsNv (s : State) (pairs : List (Nat × OdVal)) : Bool :=
  pairs.any (fun p => odKeyArea p.1 || (!s.mixedStandby && s.odEffect p.1 p.2 == .commit))

/-! ### Execution -/

/-- The values of a READ, in order, with whether any is staged (R275, R285). -/
def State.odReadAll (s : State) (r : OdReq) : List Byte × Bool × State :=
  r.ids.foldl (fun (a : List Byte × Bool × State) id =>
    match odRow id with
    | some row =>
      let res := a.2.2.odReadOne row id (r.flags.testBit 1)
      let v := res.1
      let st := res.2.1
      let s := res.2.2
      (a.1 ++ odEnc r.little row.typ v, a.2.1 || st, s)
    | none => a) ([], false, s)

/-- A refusal: its code, the index of the member that failed (R284), and whether it is one of order 3 or 6, which fires event 42. -/
def odRefuse (code : Nat) (index : Nat := 0) (auth : Bool := false) : Option (OdAns × Bool) := some ({ code := code, count := index }, auth)

/-- Orders 4 to 11 of R287: the refusal of a request, or none. -/
def State.odRefusal (s : State) (r : OdReq) (typ : Option Nat) (role : Nat) (forwarded : Bool) : Option (OdAns × Bool) :=
  let write := r.op != 1
  let vals := r.values
  let pairs := r.ids.zip vals
  let mixed := s.rb Reg.twnStat 5
  if !r.rangeOk typ then odRefuse 5
  else
    match firstFail ((List.range r.count).map (s.odExists r)) with
    | some (j, c) => odRefuse c j
    | none =>
      if r.op = 4 && !(odClass r.id == 8 && odMem r.id == 1) then odRefuse 5
      else if write && s.isStandby && !forwarded && !(r.ids.all swapCtl || (mixed && r.ids.all s.swapPart)) then odRefuse 3 0 true
      else
        match firstFail (r.ids.map (fun id => if forwarded then 0 else odAccess write role id)) with
        | some (j, c) => odRefuse c j true
        | none =>
          match firstFail (r.ids.map (fun id => match odRow id with | some row => if row.typ = r.typ then 0 else 4 | none => 4)) with
          | some (j, c) => odRefuse c j
          | none =>
            if r.flags.testBit 0 && r.expheat != s.od.heat then odRefuse 0xB
            else if !write then none
            else if mixed && !r.ids.all s.swapPart then odRefuse 0xC
            else if s.swapState = 4 && r.ids.any s.inSwapSet then odRefuse 7
            else if s.odElsewhere r forwarded then none
            else
              match firstFail (pairs.map (fun p => s.odStateCode p.1 p.2)) with
              | some (j, c) => odRefuse c j
              | none =>
                let t := pairs.foldl (fun (t : State) p => t.odSet p.1 p.2) s
                let codes := pairs.map (fun p =>
                  let c := match odRow p.1 with | some row => odValueCode row p.2 | none => 5
                  if c != 0 then c
                  else if s.odValueRule p.1 p.2 != 0 then 5
                  else if s.odEffect p.1 p.2 == .commit then t.odSetRule p.1 else 0)
                match firstFail codes with
                | some (j, c) => odRefuse c j
                | none => none

/-- A function command (R268): answered at once, or held until its outcome is final. -/
def State.odCallRun (s : State) (t : Txn) (r : OdReq) : State :=
  let cmd := match r.values with | .num v :: _ => v.toNat | _ => 0
  let f := odInst r.id
  let res := s.fnCommand f cmd
  let s := res.2
  match res.1 with
  | some c => s.txnEnd t { code := c, count := if c = 0 then 1 else 0 }
  | none => { s with od := { s.od with txns := s.od.txns.map (fun x => if x = t then { x with fn := f } else x) } }

/-- An accepted request that passes orders 4 to 11 is carried out (R290). -/
def State.odRun (s : State) (t : Txn) (r : OdReq) (forwarded nvOk : Bool) : State :=
  let pairs := r.ids.zip r.values
  let cmd := match r.values with | .num v :: _ => v.toNat | _ => 0
  if r.op = 1 then
    let res := s.odReadAll r
    let v := res.1
    let st := res.2.1
    let s := res.2.2
    if v.length > 1384 then s.txnEnd t { code := 0xA } else s.txnEnd t { staged := st, count := r.count, value := v }
  else if s.odElsewhere r forwarded then
    let n := s.od.forwards
    let s := { s with od := { s.od with forwards := n + 1, txns := s.od.txns.map (fun x => if x = t then { x with op := 0x80 + t.op, tag := n } else x) } }
    s.sendToken (.odx false r.wire n)
  else if r.isCall then s.odCallRun t r
  else if r.id = odId 0x21 0 5 && r.count = 1 then
    let res := s.swapCommand cmd nvOk
    match res.1 with
    | some c => res.2.txnEnd t { code := c, count := if c = 0 then 1 else 0 }
    | none => res.2
  else
    let need := s.odNeedsNv pairs
    let res := if need then s.nvRefuses nvOk 0 (s.nvWith (pairs.filter (fun p => s.odEffect p.1 p.2 == .commit))) else (false, s)
    let bad := res.1
    let s := res.2
    if bad then s.txnEnd t { code := 0xD }
    else
      let staged := pairs.any (fun p => match s.odEffect p.1 p.2 with | .stage _ => true | _ => false)
      (s.odApply pairs).txnEnd t { staged := staged, count := r.count }

/-- A request that finds no entry is answered at once with BUSY, and where ring 13 is full the answer waits without one (R289). -/
def State.odBusy (s : State) (t : Txn) : State :=
  let n := s.held.length
  let s := ((s.odCount 1).incSat Reg.odxBusycnt 1).odSend t { code := 7 }
  { s with held := s.held.take n ++ (s.held.drop n).map (fun h => { h with busy := true }) }

/-- A request in the order of R287. `verdict` is what the network found (order 3), `typ` the type of its message. -/
def State.odServe (s : State) (t : Txn) (bytes : List Byte) (verdict : Nat) (typ : Option Nat) (role : Nat) (forwarded nvOk : Bool) : State :=
  let r := odParse t.little bytes
  let t := { t with id := r.id, typ := r.typ }
  if !s.txnFree t.port then s.odBusy t
  else
    let s := s.txnAccept t
    let refusal :=
      if !r.lengthOk then odRefuse 0xA
      else if verdict != 0 then odRefuse verdict 0 true
      else s.odRefusal r typ role forwarded
    match refusal with
    | some (a, auth) => (if auth then s.fire 42 else s).txnEnd t a
    | none => s.odRun t r forwarded nvOk

/-- Does ODX execute requests now: the runtime runs, the first function start of shakeout has come, and a flask chip has a role
(R294, R295, R334)? -/
def State.odServes (s : State) : Bool := s.runtimeRuns && s.od.serving && !(s.isTwin && s.role == 0)

/-- The role that host-port requests act with (R258, R259, R314). -/
def State.hostRole (s : State) : Nat := if s.rootKeyNow.isNone then 3 else s.odNat 4 0 0

/-- The request at the TAIL of ring 12: its transaction and its record; none where the ring holds none (R286). A record that
reaches past the window is cut short. -/
def State.odHostReq (s : State) : Option (Txn × List Byte) :=
  if !s.ringOn 12 || s.ringCount 12 = 0 || s.ringEsize 12 != 16 then none
  else
    let e := s.bytes (s.ringAddr 12 (s.ringTail 12)) 16
    let at0 := ofLe (slice e 4 4)
    let n := ofLe (slice e 8 2)
    let bytes := if at0 + n ≤ 0x4000 then s.bytes (0x30000000 + at0) n else []
    some ({ port := 0, little := true, seqNo := ofLe (slice e 0 4), cap := ofLe (slice e 10 2), respAt := ofLe (slice e 12 4) }, bytes)

/-- The row that carries out a record of the host port or of the link, by its OP byte; other OPs are refused by OD_READ. -/
def odRowOf (bytes : List Byte) : Nat :=
  let op := (bytes.getD 0 0).toNat
  if 2 ≤ op && op ≤ 4 then op else 1

/-- Does a frame that arrives on port p reach this chip: on a port of its own that is up, or, at the active, across the sprue link from
its partner's port (R296, R302, R331, R358)? -/
def State.netHears (s : State) (p : Nat) : Bool :=
  if s.netOwnPort p then s.netUp p else s.netPort p && s.isTwin && s.role == 2 && s.rb Reg.twnStat 6

/-- A request for the row of operation `op` (1 READ, 2 WRITE, 3 WRITE_BLOCK, 4 CALL), from where it comes. -/
def State.odRequest (s : State) (src : OdSrc) (op : Nat) (nvOk : Bool) : State :=
  if !s.odServes then s
  else
    match src with
    | .ring12 =>
      (match s.odHostReq with
       | none => s
       | some (t, bytes) =>
         if odRowOf bytes != op then s
         else
           let s := s.setRf (Reg.rngTail 12) 0 16 (s.ringTail 12 + 1)
           s.odServe { t with op := op } bytes 0 none s.hostRole false nvOk)
    | .net p m =>
      if m.typ != op || m.flags % 2 = 1 || !s.netHears p then s
      else if s.isStandby then s.sendToken (.netframe true m)
      else
        let res := s.netCheck p m
        let s := res.2
        (match res.1 with
         | .conflict => s.netConflict
         | .drop => s
         | .verdict v =>
           s.odServe { port := 1 + p % 2, op := op, dst := m.src % 1024, session := m.session, seqNo := m.seq, verdict := v } m.body v (some op) 0 false nvOk
         | .pass =>
           (s.netRx (p % 2)).odServe { port := 1 + p % 2, op := op, dst := m.src % 1024, session := m.session, seqNo := m.seq } m.body 0 (some op)
             (s.sessionRole m.session) false nvOk)
    | .twin role bytes tag =>
      if odRowOf bytes != op || !s.isTwin || !s.rb Reg.twnStat 6 then s
      else s.odServe { port := 3, op := op, tag := tag } bytes 0 none (role % 4) true nvOk

/-- OD_READ (R283-R291). -/
def execOdRead (src : OdSrc) (s : State) : Host.Outcome State Fault Refusal := (s.odRequest src 1 true).done

/-- OD_WRITE: `nvOk` is the outcome of the journal transaction that an immediate commit needs. -/
def execOdWrite (src : OdSrc) (nvOk : Bool) (s : State) : Host.Outcome State Fault Refusal := (s.odRequest src 2 nvOk).done

/-- OD_WRITE_BLOCK. -/
def execOdWriteBlock (src : OdSrc) (nvOk : Bool) (s : State) : Host.Outcome State Fault Refusal := (s.odRequest src 3 nvOk).done

/-- OD_CALL. -/
def execOdCall (src : OdSrc) (s : State) : Host.Outcome State Fault Refusal := (s.odRequest src 4 true).done

/-! ### Tokens that carry requests and frames (R296, R330) -/

/-- The forwarded request that a response names by its tag is answered with it (R360; log entry 43). -/
def State.odxAnswer (s : State) (record : List Byte) (tag : Nat) : State :=
  match s.od.txns.find? (fun t => t.op ≥ 0x80 && t.tag == tag && t.id == ofBe (slice record 4 4)) with
  | none => s
  | some t =>
    let a : OdAns := { code := (record.getD 0 0).toNat, staged := (record.getD 1 0).toNat % 2 == 1, count := ofBe (slice record 14 2),
                       value := slice record 16 (ofBe (slice record 12 2)) }
    let s := { s with od := { s.od with txns := s.od.txns.erase t } }
    s.odSend { t with op := t.op - 0x80 } a

/-- ODX_TOKEN (R296): a record crosses the link to ring 10; a response ends the request it answers. A request is carried out by the
OD rows, with the link as its source. -/
def execOdxToken (response : Bool) (record : List Byte) (s : State) (tag : Nat := 0) : Host.Outcome State Fault Refusal :=
  (if !s.isTwin || !s.awake || !s.rb Reg.twnStat 6 then s
   else
    let s := s.sprueRx
    if response then s.odxAnswer record tag else s).done

/-- What the active does with a frame of the partner's port, by its type; requests are carried out by the OD rows. -/
def State.partnerFrame (s : State) (m : NetFrame) : State :=
  let p := if s.rf Reg.twnStat 0 2 = 1 then 1 else 0
  if netRequest m then s
  else
    let res := s.netCheck p m
    match res.1 with
    | .conflict => res.2.netConflict
    | .pass =>
      let s := res.2.netRx p
      if m.typ = 6 then s.heartbeatTake m
      else if m.typ = 7 then s.timeTake m
      else if m.typ = 8 then s.censusTake m
      else if m.typ = 5 then s.notifyTake m
      else s
    | _ => res.2

/-- NETFRAME_TOKEN (R302, R330): the active processes a frame of its partner's port; either chip sends a frame it is given. -/
def execNetframeToken (fromPartnerPort : Bool) (frame : NetFrame) (s : State) : Host.Outcome State Fault Refusal :=
  (if !s.isTwin || !s.awake || !s.rb Reg.twnStat 6 then s
   else if fromPartnerPort then (if s.role == 2 && s.runtimeRuns then s.partnerFrame frame else s)
   else if s.netOwnPort 0 then s.netQueue 0 frame else s.netQueue 1 frame).done

end Sys2Proof.Machine
end

