-- ==== Sys2Proof/Machine/Timebase.lean ====
section
/-! DEFINITION. TBO: lock, discipline, the supervision of crystal and TBO, and the read of TBCOUNT (01_architecture R28-R36, 11_power_reset_pour R385, 18_thermal R588). -/

namespace Sys2Proof.Machine

/-- TBO runs on its temperature table, and TBCOUNT starts if it has not yet (R28, R385). -/
def State.xtalLost (s : State) : State :=
  let s := (s.setRb Reg.tboStat 1 true).fire 59
  { s with tb := { s.tb with xtalOk := false, onTable := true, running := true } }

/-- XTAL_STOP (R28): while TBO runs; before TBCOUNT has started, 2 s after the reference of shakeout (R385). -/
def execXtalStop (s : State) : Host.Outcome State Fault Refusal :=
  (if s.tb.onTable || !s.awake || (!s.tb.running && s.now < s.pwr.shakeFrom + ticksOfSec 2) then s
   else (s.xtalLost).fault 0x0101 0).done

/-- A TBO fault: event 59 fires and the part resets with cause 6, held until the count has recovered (R28, R377). -/
def State.tboFault (s : State) (both : Bool) : State :=
  if !s.pwr.good || s.pwr.held.isSome then s
  else
    let s := (s.fire 59).resetHeld 6
    { s with pwr := { s.pwr with clockLost := both } }

/-- TBO_RANGE (R28). -/
def execTboRange (s : State) : Host.Outcome State Fault Refusal :=
  (if s.awake then s.tboFault false else s).done

/-- CLOCK_LOST (R28): crystal and TBO are both lost. -/
def execClockLost (s : State) : Host.Outcome State Fault Refusal := (s.tboFault true).done

/-- TBO_RANGE_RECOVERY (R28): the reset of cause 6 is released and shakeout runs. -/
def execTboRangeRecovery (s : State) : Host.Outcome State Fault Refusal :=
  (if s.pwr.held = some 6 then s.resetRelease else s).done

/-- TBO_LOCK (R31, R385): TBO locks to the running crystal, and TBCOUNT starts. -/
def execTboLock (s : State) : Host.Outcome State Fault Refusal :=
  (if s.tb.xtalOk && !s.rb Reg.tboStat 0 && s.awake then
    let s := (s.setRb Reg.tboStat 0 true).setRb Reg.pwrStat 6 true
    { s with tb := { s.tb with running := true, onTable := false } }
   else s).done

/-- TBO_DISCIPLINE (R588): a count over 32 crystal cycles above 16,000 lowers TRIM by one step, one below raises it. The count of
the last crystal cycle, which TBO_STAT shows, is free. -/
def execTboDiscipline (count : Nat) (s : State) : Host.Outcome State Fault Refusal :=
  (if s.tb.xtalOk && s.awake then
    let t := sfld (s.reg Reg.tboTrim) 0 16
    let t := if count > 16000 then t - 1 else if count < 16000 then t + 1 else t
    let s := s.setReg Reg.tboTrim (BitVec.ofNat 32 (ofIntN 16 (clampInt (-32768) 32767 t)))
    let res := s.drawNat 1024
    let c := res.1
    let s := res.2
    (s.setRf Reg.tboStat 16 10 c).tboFollow
   else s).done

/-- XTAL_RESUME (R544): a crystal edge after a stop; the RTC fields go on and TBO discipline restarts. -/
def execXtalResume (s : State) : Host.Outcome State Fault Refusal :=
  let s := { (s.setRb Reg.tboStat 1 false) with rtc := { s.rtc with xstopped := false } }
  ({ s with tb := { s.tb with xtalOk := true, onTable := false } } : State).done

/-- A read of TBO_TBCOUNT_LO latches the high part (R33). -/
def State.tbcountRead (s : State) : State :=
  { (s.setReg Reg.tboTbcountHi (BitVec.ofNat 32 (s.tb.count / 2 ^ 32 % 65536))) with lastRead := BitVec.ofNat 32 s.stamp }

/-- TBCOUNT_LO_READ (R33): TBO is present on every variant, and any initiator may read it. -/
def execTbcountLoRead (_who : Init) (s : State) : Host.Outcome State Fault Refusal := s.tbcountRead.done

end Sys2Proof.Machine
end

