-- ==== Sys2Proof/Machine/Bus.lean ====
section
/-! DEFINITION. The address space: which region an address falls in, who may read and write it, and what a read returns and a write does there (12_host_port_memory, R402-R410; R5-R7, R16-R21, R52, R53; R499). -/

namespace Sys2Proof.Machine

/-! ### The memory map (R402) -/

/-- The regions of R402; a set or clear window names the address it stands for. -/
inductive Place where
  | rom | prog | data | win | coef | cenState | trace | knab | regs | acq | unmapped
  | mirror (set : Bool) (target : Nat)
deriving DecidableEq, Repr

/-- The region of a byte address (R402). -/
def placeOf (a : Nat) : Place :=
  if a < 0x8000 then .rom
  else if within a 1 0x10000000 0x100C0000 then .prog
  else if within a 1 0x20000000 0x20040000 then .data
  else if within a 1 0x21000000 0x21040000 then .mirror true (a - 0x1000000)
  else if within a 1 0x22000000 0x22040000 then .mirror false (a - 0x2000000)
  else if within a 1 0x30000000 0x30004000 then .win
  else if within a 1 0x31000000 0x31004000 then .mirror true (a - 0x1000000)
  else if within a 1 0x32000000 0x32004000 then .mirror false (a - 0x2000000)
  else if within a 1 0x40000000 0x40020000 then .coef
  else if within a 1 0x40020000 0x40040000 then .cenState
  else if within a 1 0x40040000 0x40050000 then .trace
  else if within a 1 0x50000000 0x50010000 then .knab
  else if within a 1 0x60000000 0x60140000 then .regs
  else if within a 1 0x70000000 0x70004000 then .acq
  else .unmapped

/-- A channel or decimator that the upper part of ACQ carries (R103). -/
def acqUpper (c : Nat) : Bool := (32 ≤ c && c < 64) || (72 ≤ c && c < 80)

/-- Does an offset of unit u belong to the upper part that a smaller variant lacks (R103, R169, R193, R217, R249, R331, R579)?
ACQ_GUARD1, which shows channels 32-63 alone, is taken as a shared register (DESIGN CHOICE, log entry 113). -/
def regUpper (u o : Nat) : Option Nat :=
  match u with
  | 6 =>
    if within o 1 0x50 0x60 || within o 1 0x68 0x70 || (within o 1 0x2000 0x2B00 && acqUpper ((o - 0x2000) / 32)) then some 20 else none
  | 7 => if within o 1 0x480 0x500 then some 21 else none
  | 8 => if within o 1 0x1800 0x2000 then some 22 else none
  | 9 => if within o 1 0x500 0x900 then some 23 else none
  | 10 =>
    if within o 1 0x300 0x500 || within o 1 0x900 0xA00 || within o 1 0x1200 0x1400 || within o 1 0x1500 0x1600 then some 24 else none
  | 11 => if within o 1 0x140 0x180 then some 25 else none
  | 14 => if within o 1 0x200 0x300 then some 26 else none
  | _ => none

/-- Is an address in an absent unit or range (R5, R6)? -/
def State.absentAt (s : State) (a : Nat) : Bool :=
  match placeOf a with
  | .regs =>
    !s.present (regUnit a) || (match regUpper (regUnit a) (a % 0x10000) with | some b => !s.present b | none => false)
  | .knab => !s.present 27 && 0x50008000 ≤ a
  | .coef => !s.present 21 && 0x40010000 ≤ a
  | .cenState => !s.present 21 && (within a 1 0x40028000 0x40030000 || within a 1 0x40030800 0x40031000)
  | .trace => !s.present 21 && 0x40048000 ≤ a
  | .acq =>
    let o := a - 0x70000000
    !s.present 20 && (if o < 0x1000 then o < 0xC00 && acqUpper (o % 0x400 / 4) else acqUpper ((o - 0x1000) / 8))
  | _ => false

/-! ### Reading a register -/

/-- A register whose value the unit computes: what it reads as. The others read as stored. -/
def State.regView (s : State) (who : Init) (u o : Nat) : Option Word :=
  match u with
  | 2 => if o = 0 && who == .host then some (s.reg Reg.hstStat ||| 0x20) else none
  | 0 => match o with | 0 => some (sysIdOf s.variant) | 4 => some (sysUnitsOf s.variant) | _ => none
  | 3 => match o with | 0x2C => some s.evtNext | 0x44 => some (0x00102123 &&& eventHiMask s.variant) | _ => none
  | 4 => match o with | 0 => some s.ringNeMask | 4 => some s.ringFullMask | _ => none
  | 5 => match o with | 0 => some s.ldlStatWord | _ => none
  | 6 =>
    match o with
    | 8 => some s.acqStatWord
    | 0x30 => some (s.acqGuardWord 0)
    | 0x34 => some (s.acqGuardWord 1)
    | 0x38 => some (s.acqGuardWord 2)
    | _ => none
  | 7 =>
    match o with
    | 4 => some s.cenStatWord
    | 0x70 => some (s.cenNslotWord 0)
    | 0x74 => some (s.cenNslotWord 1)
    | 0x78 => some (s.cenNslotWord 2)
    | 0x7C => some (s.cenNslotWord 3)
    | _ => none
  | 9 =>
    match o with
    | 0 => some s.actUnitStatWord
    | 8 => some s.actSafeWord
    | _ => if within o 1 0x100 0x900 && o % 64 == 0x20 then some (s.actPosWord ((o - 0x100) / 64)) else none
  | 10 =>
    match o with
    | 0x1C => some s.fanAutofWord
    | 0x28 => some s.shdnStatWord
    | 0x2C => some s.shdnThrWord
    | _ =>
      if within o 1 0x100 0x500 then
        let f := (o - 0x100) / 64
        match o % 64 with
        | 0x1C => some (s.fanStatWord f)
        | 0x24 => some (ofInt32 (s.fanDemand f))
        | 0x28 => some (ofInt32 (s.fanTable f (s.fanDemand f)))
        | _ => none
      else none
  | 11 =>
    match o with
    | 8 => some s.kpdStatWord
    | 0x10 => some s.kpdLockWord
    | 0x18 => some 0
    | 0x1C => some 0
    | _ => if within o 1 0x40 0x60 then some (s.kpdKeysWord ((o - 0x40) / 4)) else none
  | 12 =>
    if o < 0x20 then some (BitVec.ofNat 32 ((s.rtcSnapOf who).fields.getD (o / 4) 0))
    else
      match o with
      | 0x34 => some (BitVec.ofNat 32 (s.rtcSnapOf who).sub)
      | 0x60 => some (BitVec.ofNat 32 (s.rtcSnapOf who).epoch)
      | _ => none
  | 15 =>
    match o with
    | 0 => some (BitVec.ofNat 32 (s.txnUse % 256 + (s.txnCount 0 % 256) * 256 + (s.txnCount 1 % 64) * 65536 +
        (s.txnCount 2 % 64) * 16777216))
    | _ => none
  | 19 => match o with | 0 => some s.sbusStatWord | _ => none
  | _ => none

/-- The field of a register that clears on a read; THM_TJ clears its peak alone. -/
def rcMask (a : Nat) : Word := if a = Reg.thmTj then maskOf 16 8 else 0xFFFFFFFF

/-- May a RAM bank still be waking: at most 40 µs after a wake, so within its base tick (R408)? -/
def State.banksWaking (s : State) : Bool := s.pwr.wokeAt == some s.now && s.awake

/-- A read of a register of a present unit at an aligned address: its value, and what the read does (R33, R52, R292, R512, R529). Within
the base tick of a wake a bank may still be waking, since 40 µs pass: the WAKING bits of SYS_RAMSTAT are free there (R408; log entry
49). -/
def State.regRead (s : State) (who : Init) (a : Nat) : Word × State :=
  let u := regUnit a
  let o := a % 0x10000
  if a = Reg.rtcSec then
    let s := s.rtcCapture who
    (BitVec.ofNat 32 ((s.rtcSnapOf who).fields.getD 0 0), s)
  else if a = Reg.tboTbcountLo then
    let s := s.tbcountRead
    (s.lastRead, s)
  else if a = Reg.knbCntvalLo then
    let s := s.knabCntval
    (s.lastRead, s)
  else if a = Reg.odxHeat then
    let s := s.odxHeatRead
    (s.lastRead, s)
  else if a = Reg.sysRamstat && s.banksWaking then
    let res := s.drawWord
    (s.reg a ||| (res.1 &&& 0x7FFF00), res.2)
  else if u = 9 && within o 1 0x100 0x900 && o % 64 == 0x24 then s.actStatWord ((o - 0x100) / 64)
  else
    match s.regView who u o with
    | some v => (v, s)
    | none =>
      let v := s.reg a
      match regRow a with
      | some r => (v, if r.rc && !(who == .host && !s.hostOwns u) then s.clrReg a (rcMask a) else s)
      | none => (0, s)

/-! ### Writing a register -/

/-- A register without a row of its own stores the value under its access types (R16, R19): RW bits take it, W1C bits clear
where it holds 1, the others keep theirs. -/
def State.plainWrite (s : State) (a : Nat) (v : Word) : State :=
  match regRow a with
  | none => s
  | some r =>
    let rw : Word := BitVec.ofNat 32 r.rw
    s.setReg a (((s.reg a &&& ~~~rw) ||| (v &&& rw)) &&& ~~~(v &&& BitVec.ofNat 32 r.w1c))

/-- The priority fields of the event sources that a variant has (R452). -/
def State.evtPrioMask (s : State) (r : Nat) : Word :=
  (List.range 16).foldl (fun w i => if eventAbsent s.variant (16 * r + i) then putFld w (2 * i) 2 0 else w) 0xFFFFFFFF

/-- A write of an EVT register. -/
def State.evtWrite (s : State) (a o : Nat) (v : Word) : State :=
  match o with
  | 0x00 => s.evtPendWrite false v
  | 0x04 => s.evtPendWrite true v
  | 0x08 => s.setReg a v
  | 0x0C => s.setReg a (s.evtBits true v)
  | 0x10 => s.evtMaskHost false v
  | 0x14 => s.evtMaskHost true v
  | 0x18 => s.evtClrWrite false v
  | 0x1C => s.evtClrWrite true v
  | 0x28 => s.evtSoftWrite v
  | _ => if within o 1 0x30 0x40 then s.setReg a (v &&& s.evtPrioMask ((o - 0x30) / 4)) else s

/-- How a register write that R458 or R479 orders takes effect: a host word is issued in its turn by the queue, the runtime's may wait. -/
def State.inTurn (s : State) (who : Init) (a : Nat) (v : Word) (f : State → State) : State :=
  if who = .runtime then s.behind who a v f else f s

/-- A write of an RNG register. -/
def State.rngWrite (s : State) (who : Init) (a o : Nat) (v : Word) : State :=
  if within o 1 0x100 0x500 then
    let n := (o - 0x100) / 32
    match o % 32 with
    | 0x00 => s.ringBaseWr n v
    | 0x04 => s.ringCfgWrite n v
    | 0x08 => s.inTurn who a v (fun s => s.ringHeadWr (who == .host) n v)
    | 0x0C => s.inTurn who a v (fun s => s.ringTailWr (who == .host) n v)
    | _ => s
  else s.plainWrite a v

/-- A write of an LDL register. -/
def State.ldlWrite (s : State) (who : Init) (a o : Nat) (v : Word) : State :=
  if within o 1 0x100 0x500 then
    let n := (o - 0x100) / 64
    match o % 64 with
    | 0x00 => s.ldlCtrlWrite n v
    | 0x08 => s.inTurn who a v (fun s => s.ldlDoorbell n)
    | _ => s.plainWrite a v
  else s.plainWrite a v

/-- A write of an ACQ register (R94, R103). -/
def State.acqWrite (s : State) (a o : Nat) (v : Word) : State :=
  match o with
  | 0x00 => s.acqCtrlWrite v
  | 0x1C => s.plainWrite a (if s.present 20 then v else v &&& 0xFFFF)
  | _ =>
    if within o 1 0x40 0x60 then s.sliceCorrWrite ((o - 0x40) / 8) (o % 8 == 4) v else s.plainWrite a v

/-- A write of a CEN register. -/
def State.cenWrite (s : State) (a o : Nat) (v : Word) : State :=
  if o = 0 then s.cenCtrlWrite v
  else if within o 1 0x10 0x20 then s.cenPeriodWr ((o - 0x10) / 4) v
  else if within o 1 0x400 0x500 then
    let t := (o - 0x400) / 64
    match o % 64 with
    | 0x00 => s.trcConfig t 0 v
    | 0x04 => s.trcConfig t 1 v
    | 0x08 => s.trcConfig t 2 v
    | 0x0C => s.trcCtrlWrite t v
    | 0x10 => s.trcStatWrite t v
    | _ => s
  else s.plainWrite a v

/-- A write of an ACT register; bits 16-31 of the masks are not there on the WV7232 (R217). -/
def State.actRegWrite (s : State) (a o : Nat) (v : Word) : State :=
  match o with
  | 0x04 => s.setReg Reg.actRun (v &&& s.actMask)
  | 0x0C => s.actReleaseWrite v
  | _ => if within o 1 0x100 0x900 then s.actWrite ((o - 0x100) / 64) (o % 64) v else s.plainWrite a v

/-- A write of a FAN register (R242, R249). -/
def State.fanRegWrite (s : State) (a o : Nat) (v : Word) : State :=
  match o with
  | 0x08 => s.fanRefreshWrite
  | 0x0C => s.fanAutoExitWrite v
  | 0x10 => s.plainWrite a (if s.present 24 then v else v &&& 0xFF)
  | 0x14 => s.fanClrWrite v
  | 0x20 => s.shdnSelWrite v
  | 0x24 => if bitOf v 0 then s.shdnDoLock else s
  | _ => if within o 1 0x100 0x500 then s.fanWrite ((o - 0x100) / 64) (o % 64) v else s.plainWrite a v

/-- A write of a KPD register. -/
def State.kpdRegWrite (s : State) (o : Nat) (v : Word) : State :=
  if within o 1 0x100 0x180 then s.encWrite ((o - 0x100) / 32) (o % 32) v else s.kpdWrite o v

/-- A write of an RTC register. -/
def State.rtcRegWrite (s : State) (who : Init) (a o : Nat) (v : Word) : State :=
  if o < 0x20 then s.rtcWriteField (o / 4) v
  else
    match o with
    | 0x20 => s.rtcCtrlWrite v
    | 0x28 => s.rtcAdjWrite v
    | 0x30 => s.rtcSnapWrite who v
    | 0x38 => s.rtcTrimWrite (sfld v 0 16)
    | 0x50 => s.rtcMeasWrite v
    | _ => s.plainWrite a v

/-- A write of a KNB register (R500, R501, R510, R516). -/
def State.knbWrite (s : State) (a o : Nat) (v : Word) : State :=
  match o with
  | 0x04 =>
    let s := if bitOf v 0 then s.knabJopen else s
    if bitOf v 1 then s.knabSliceNow else s
  | 0x0C => s.knabCommitWrite
  | 0x14 => s.knabCntinc v
  | _ =>
    if within o 1 0x100 0x200 then s.knabJmapWrite ((o - 0x100) / 4) v
    else if within o 1 0x1000 0x2000 then (if s.rb Reg.knbJstat 0 then s else s.plainWrite a v)
    else s.plainWrite a v

/-- A write of an SBUS register (R437, R438). Whether SDA is stuck low at an enable is a free value. -/
def State.sbusWrite (s : State) (a o : Nat) (v : Word) : State :=
  if within o 1 0x100 0x400 then
    let b := (o - 0x100) / 256
    match o % 256 with
    | 0x00 =>
      let res := s.drawNat 2
      let k := res.1
      let s := res.2
      s.sbusCfgWrite b v (k == 1)
    | 0x04 => s.sbusCmdWrite b v
    | 0x08 => s.plainWrite a v
    | _ => if within (o % 256) 1 0x10 0x30 then (if s.sbusBusy b then s.sbusIgnored b else s.setReg a v) else s
  else s

/-- A write of a PWR register. -/
def State.pwrRegWrite (s : State) (a o : Nat) (v : Word) : State :=
  match o with
  | 0x0C => if bitOf v 0 && s.chillCode == 0 then s.chillAccept else s
  | 0x1C => s.wdogKick
  | _ => s.plainWrite a v

/-- A write of an HST register. -/
def State.hstRegWrite (s : State) (a o : Nat) (v : Word) : State :=
  if o = 0x0C then
    let s := if fld v 0 8 = 0xFF then s.setRf a 0 8 0 else s
    if bitOf v 8 then s.setRb a 8 false else s
  else s.plainWrite a v

/-- A write of a NET register. -/
def State.netRegWrite (s : State) (a o : Nat) (v : Word) : State :=
  match o with
  | 0x00 => s.plainWrite a (if s.present 26 then v else v &&& 1)
  | 0x10 => s.netMdioWrite v
  | _ => s.plainWrite a v

/-- A write of a TWN register. -/
def State.twnRegWrite (s : State) (a o : Nat) (v : Word) : State :=
  if o = 0x08 then { s with twn := { s.twn with kickAt := s.now } } else s.plainWrite a v

/-- A write of a register of a present unit by an initiator that may write it. -/
def State.regWrite (s : State) (who : Init) (a : Nat) (v : Word) : State :=
  let o := a % 0x10000
  match regUnit a with
  | 1 => s.pwrRegWrite a o v
  | 2 => s.hstRegWrite a o v
  | 3 => s.evtWrite a o v
  | 4 => s.rngWrite who a o v
  | 5 => s.ldlWrite who a o v
  | 6 => s.acqWrite a o v
  | 7 => s.cenWrite a o v
  | 9 => s.actRegWrite a o v
  | 10 => s.fanRegWrite a o v
  | 11 => s.kpdRegWrite o v
  | 12 => s.rtcRegWrite who a o v
  | 13 => s.knbWrite a o v
  | 14 => s.netRegWrite a o v
  | 16 => s.twnRegWrite a o v
  | 19 => s.sbusWrite a o v
  | _ => s.plainWrite a v

/-! ### Memory -/

/-- A direct write to the Knab store: stalled while a commit runs on its page (R503), refused outside R499. -/
def State.knabWrite (s : State) (a : Nat) (b : List Byte) : State :=
  if !s.knabWritable a then s.setRb Reg.knbStat 5 true
  else
    let s := s.knabDirect a b
    if 0x50004000 ≤ a then s.nvReload else s

/-- The bits of a coefficient word that are there (R131). -/
def coefMask (o : Nat) : Word :=
  match o with
  | 0x00 => 0x0FFF1FFF
  | 0x04 => 0x1F03FF07
  | 0x08 => 0x00007F07
  | 0x0C => 0
  | 0x10 => 0x1F03FF07
  | 0x18 => 0x1F03FF07
  | 0x20 => 0x1F03FF07
  | 0x28 => 0x1F03FF07
  | 0x50 => 0x1F1F1F1F
  | 0x54 => 0x1F1F1F1F
  | _ => if 0x68 ≤ o then 0 else 0xFFFFFFFF

/-- The bits of a word of the state RAM, setpoint registers and virtual PVs that are there (R131). -/
def cenStateMask (a : Nat) : Word :=
  if a < 0x40030000 then (match a % 64 with | 0x30 => 0xBF | 0x34 => 0 | 0x38 => 0 | 0x3C => 0 | _ => 0xFFFFFFFF)
  else if a < 0x40031400 then 0xFFFFFFFF
  else 0

/-- A write to CEN's coefficient RAM, state RAM, setpoint registers and virtual PVs. While RUN is 1 a host write to a state word is
ignored and sets IGNORED (R129); a virtual PV takes the tick of its write (R178); a slot that the write leaves disabled keeps U at
0 (R105). -/
def State.cenMemWrite (s : State) (who : Init) (a : Nat) (v : Word) : State :=
  if a < 0x40020000 then (s.setWord a (v &&& coefMask (a % 128))).slotOff ((a - 0x40000000) / 128)
  else if who == .host && s.rb Reg.cenCtrl 0 && a < 0x40030000 then s.setRb Reg.cenStat 11 true
  else if within a 1 0x40031000 0x40031400 then s.setVpv ((a - 0x40031000) / 4) v
  else
    let s := s.setWord a (v &&& cenStateMask a)
    if a < 0x40030000 then s.slotOff ((a - 0x40020000) / 64) else s

/-- A fabric read of the shared window: the word of a host write that was granted before it reads as undefined data (R427). -/
def State.winRead (s : State) (a n : Nat) : List Byte × State :=
  if s.hst.undef == some (a / 4 * 4) then
    let res := s.drawWord
    (slice (leBytes 4 res.1.toNat) (a % 4) n, { res.2 with hst := { res.2.hst with undef := none } })
  else (s.bytes a n, s)

/-- A read of n bytes, n 1, 2 or 4 and aligned, over the fabric or the host port. Absent ranges and unmapped addresses read 0 and
record the access (R5, R6, R403). -/
def State.fabricRead (s : State) (who : Init) (a n : Nat) : List Byte × State :=
  let zero := List.replicate n (0 : Byte)
  if s.absentAt a then (zero, s.hit 0 a (who == .host))
  else
    match placeOf a with
    | .unmapped => (zero, s.hit 2 a (who == .host))
    | .regs =>
      let res := s.regRead who (a / 4 * 4)
      let w := res.1
      let s := res.2
      (slice (leBytes 4 w.toNat) (a % 4) n, s)
    | .mirror _ t => if n = 4 then (s.bytes t 4, s) else (zero, s.hit 2 a (who == .host))
    | .knab => ((List.range n).map (fun i => s.knabByte (a + i)), s)
    | .cenState => ((List.range n).map (fun i => s.cenByte (a + i)), s)
    | .win => if who == .host then (s.bytes a n, s) else s.winRead a n
    | _ => (s.bytes a n, s)

/-- A write of 1, 2 or 4 aligned bytes by an initiator that may write there. A write of part of a register's word leaves the
register's other bytes as they stand. -/
def State.fabricWrite (s : State) (who : Init) (a : Nat) (b : List Byte) : State :=
  if s.absentAt a then s.hit 0 a (who == .host)
  else
    match placeOf a with
    | .unmapped => s.hit 2 a (who == .host)
    | .regs =>
      let w := a / 4 * 4
      let keep : Word := match regRow w with | some r => s.reg w &&& BitVec.ofNat 32 r.rw | none => 0
      s.regWrite who w (BitVec.ofNat 32 (ofLe (putBytes (leBytes 4 keep.toNat) (a % 4) b)))
    | .mirror set t =>
      if b.length = 4 then
        let m : Word := BitVec.ofNat 32 (ofLe b)
        s.setWord t (if set then s.word t ||| m else s.word t &&& ~~~m)
      else s.hit 2 a (who == .host)
    | .knab => s.knabWrite a b
    | .coef | .cenState =>
      let w := a / 4 * 4
      s.cenMemWrite who w (BitVec.ofNat 32 (ofLe (putBytes (s.bytes w 4) (a % 4) b)))
    | .rom | .trace | .acq => s
    | _ => s.setBytes a b

/-! ### The host's rights (R53, R402-R404, R416, R418) -/

/-- The registers that the host may write whatever it owns (R53). -/
def hostReg (a : Nat) : Bool :=
  a == Reg.hstHerr || a == Reg.hstScratch || a == Reg.sysStatus || a == Reg.evtMaskHostLo || a == Reg.evtMaskHostHi ||
  a == Reg.rngHead 12 || a == Reg.rngTail 13 || within a 1 0x60040440 0x600404C0

/-- Is a region protected from the host (R402, R404)? -/
def hostProtected (a : Nat) : Bool :=
  match placeOf a with
  | .rom | .prog | .knab => true
  | .data => a < 0x20038000
  | .mirror _ t => within t 1 0x20000000 0x20038000
  | _ => false

/-- The result code of a host access to a word, but for the time-out and a full queue, which the port decides (R416, R418). -/
def State.hostCode (s : State) (a : Nat) (write : Bool) : Nat :=
  if s.asleep then 0xE7
  else if placeOf a == .unmapped then 0xE4
  else if s.absentAt a then 0xE2
  else if placeOf a == .knab && s.knabRecalling then 0xE1
  else if hostProtected a || (write && (placeOf a == .trace || placeOf a == .acq)) then 0xE5
  else if write then
    match placeOf a with
    | .coef | .cenState => if s.hostOwns 7 then 0xA5 else 0xE3
    | .regs => if (regRow a).isNone || hostReg a || s.hostOwns (regUnit a) then 0xA5 else 0xE3
    | _ => 0xA5
  else 0xA5

/-- The status bit that a refused host access sets (R5, R53, R403, R404). -/
def State.hostHit (s : State) (code a : Nat) : State :=
  match code with
  | 0xE4 => s.hit 2 a true
  | 0xE2 => s.hit 0 a true
  | 0xE1 => s.hit 3 a true
  | 0xE5 => s.hit 3 a true
  | 0xE3 => s.hit 1 a true
  | _ => s

/-- A host word goes to its target, or is refused (R418). -/
def State.hostWord (s : State) (a : Nat) (v : Word) : State :=
  let code := s.hostCode a true
  if code = 0xA5 then s.fabricWrite .host a (leBytes 4 v.toNat) else (s.hostHit code a).hostResult code

/-- A register write by the runtime or the ladle at any address (R5, R17, R403, R407): an unaligned write to a set or clear window is ignored
and recorded; an unaligned register write is not a transfer of the fabric (R20) and does nothing. -/
def State.coreWord (s : State) (who : Init) (a : Nat) (v : Word) : State :=
  if a % 4 = 0 then s.fabricWrite who a (leBytes 4 v.toNat)
  else match placeOf a with
    | .mirror _ _ => s.hit 2 a false
    | _ => s

/-- REGISTER_WRITE (R16, R19): a write that has no row of its own. -/
def execRegisterWrite (who : Init) (addr v : Word) (s : State) : Host.Outcome State Fault Refusal :=
  (if who == .host then s.hostWord (addr.toNat / 4 * 4) v else s.coreWord who addr.toNat v).done

/-- Index and doorbell writes of the runtime take effect once its stalled writes are acknowledged (R458, R479). -/
def State.knabAfter (s : State) : State :=
  if s.knb.stalled.isEmpty then
    let l := s.knb.after
    l.foldl (fun s p => s.regWrite .runtime p.1 p.2) { s with knb := { s.knb with after := [] } }
  else s

/-- KNAB_DONE: a transaction reaches step 6 (R502). -/
def execKnabDone (s : State) : Host.Outcome State Fault Refusal := s.knabFinish.knabAfter.done

end Sys2Proof.Machine
end

