-- ==== Sys2Proof/Machine/LadleRun.lean ====
section
/-! DEFINITION. LDL at work: grants, descriptor fetches and their checks, bursts, bus errors and replay (14_ladle_dma, R467-R469, R473-R478, R484-R486). -/

namespace Sys2Proof.Machine

/-! ### Grants (R468) -/

/-- The engine runs: from runtime entry on, in no reset and not in chill, and no replay is to be made (R485, R491). -/
def State.ldlRuns (s : State) : Bool := s.pwr.rtIn && s.awake && !s.rb Reg.ldlStat 1

/-- A channel is ready: in RUN with a fetch or bytes to read, and not waiting for ring 25 (R468, R488). -/
def State.ldlReady (s : State) (n : Nat) : Bool :=
  s.ldlState n == 1 && !s.ldlHeld n && ((s.ldlCh n).fetch.isSome || ((s.ldlCh n).moving && 0 < (s.ldlNextRead n).2.2))

/-- LINKs whose read waited for ring 25 are read once their entry is written (R488), and a parked channel acts on the doorbell that it
kept (R490; log entry 50). -/
def State.ldlLinks (s : State) : State :=
  s.forEach (List.range 16) (fun s n =>
    if s.ldlHeld n then s
    else if s.ldlState n == 1 && (s.ldlCh n).link then s.ldlFollow n (s.reg (Reg.ldlChCur n)).toNat
    else if s.ldlState n == 2 && s.rb (Reg.ldlChStat n) 3 then (s.setRb (Reg.ldlChStat n) 3 false).ldlDoorbell n
    else s)

/-- The channel that the next burst is granted to (R468). -/
def State.ldlGrant (s : State) : Option Nat :=
  let ready := (List.range 16).filter s.ldlReady
  let prio := fun n => s.rf (Reg.ldlChCtrl n) 4 2
  match [3, 2, 1, 0].find? (fun p => ready.any (fun n => prio n == p)) with
  | none => none
  | some p =>
    let l := ready.filter (fun n => prio n == p)
    let last := s.ldl.last.getD p 15
    match l.find? (fun n => last < n) with
    | some n => some n
    | none => l.head?

/-- The channel counts as last served at its level. -/
def State.ldlServed (s : State) (n : Nat) : State :=
  { s with ldl := { s.ldl with last := s.ldl.last.set (s.rf (Reg.ldlChCtrl n) 4 2) n } }

/-! ### Checks (R475, R476) -/

/-- Does region r cover lo..hi with a permission bit (R476)? -/
def State.ldlRegion (s : State) (bit lo hi r : Nat) : Bool :=
  let b := (s.reg (Reg.ldlRegionBase r)).toNat / 32 * 32
  let l := (s.reg (Reg.ldlRegionLimit r)).toNat / 32 * 32 + 31
  s.rb (Reg.ldlRegionPerm r) 0 && s.rb (Reg.ldlRegionPerm r) bit && b ≤ lo && hi ≤ l

/-- Does a range lo..hi lie inside one of the half-open ranges of a list? -/
def insideOne (lo hi : Nat) (l : List (Nat × Nat)) : Bool := l.any (fun r => r.1 ≤ lo && hi < r.2)

/-- May the host read every byte of lo..hi under R402? -/
def hostReads (lo hi : Nat) : Bool :=
  insideOne lo hi [(0x20038000, 0x20040000), (0x21038000, 0x21040000), (0x22038000, 0x22040000), (0x30000000, 0x30004000),
    (0x31000000, 0x31004000), (0x32000000, 0x32004000), (0x40000000, 0x40050000), (0x60000000, 0x60140000), (0x70000000, 0x70004000)]

/-- May the host write every byte of lo..hi under R402? Registers word by word, by the rights of R53. -/
def State.hostWrites (s : State) (lo hi : Nat) : Bool :=
  insideOne lo hi [(0x20038000, 0x20040000), (0x21038000, 0x21040000), (0x22038000, 0x22040000), (0x30000000, 0x30004000),
    (0x31000000, 0x31004000), (0x32000000, 0x32004000)] ||
  (insideOne lo hi [(0x40000000, 0x40040000)] && s.hostOwns 7) ||
  (insideOne lo hi [(0x60000000, 0x60140000)] &&
    (List.range (hi / 4 - lo / 4 + 1)).all (fun i =>
      let a := (lo / 4 + i) * 4
      (regRow a).isNone || hostReg a || s.hostOwns (regUnit a)))

/-- The cause with which a descriptor is slagged before any byte moves, or 0 (R475). DST is ignored under CKONLY (R470). -/
def State.ldlCheck (s : State) (src dst : Nat) (lf : Word) : Nat :=
  let len := fld lf 0 24
  let sfix := bitOf lf 26
  let dfix := bitOf lf 27
  let ckonly := bitOf lf 29
  let shi := if sfix then src + 3 else src + len - 1
  let dhi := if dfix then dst + 3 else dst + len - 1
  let regions := List.range 8
  if fld lf 30 2 ≠ 0 then 4
  else if (sfix || dfix) && (src % 4 != 0 || (!ckonly && dst % 4 != 0) || len % 4 != 0) then 3
  else if 2 ^ 32 < src + len || (!ckonly && 2 ^ 32 < dst + len) then 1
  else if !regions.any (s.ldlRegion 1 src shi) then 1
  else if !ckonly && !regions.any (s.ldlRegion 2 dst dhi) then 1
  else if s.hostOwns 5 && !(hostReads src shi && (ckonly || s.hostWrites dst dhi)) then 1
  else 0

/-- The descriptor at an address is fetched, held and checked (R473, R475). -/
def State.ldlFetch (s : State) (n a : Nat) : State :=
  let w := [s.word a, s.word (a + 4), s.word (a + 8), s.word (a + 0x18)]
  let lf := w.getD 2 0
  let kind := ldlKind lf
  let s := (s.setReg (Reg.ldlChCur n) (BitVec.ofNat 32 a)).setReg (Reg.ldlChCurSrc n) (w.getD 0 0)
  let s := (s.setReg (Reg.ldlChCurDst n) (w.getD 1 0)).setReg (Reg.ldlChRemain n) (lf &&& 0xFFFFFF)
  let s := s.setReg (Reg.ldlChPcksum n) (ckFinal kind (ckInit kind))
  let s := s.setLdlCh n { fetch := none, moving := true, words := w, ck := ckInit kind, link := false }
  if fld lf 0 24 = 0 then s.ldlComplete n
  else
    match s.ldlCheck (w.getD 0 0).toNat (w.getD 1 0).toNat lf with
    | 0 => s
    | c => (s.ldlSlag n c).ldlNext n

/-! ### Bursts (R467, R469) -/

/-- Does a ladle transfer end in a bus error (R484, R499)? Not in an absent range, which reads 0 and ignores writes (R6). -/
def State.ldlBad (s : State) (write : Bool) (a : Nat) : Bool :=
  match placeOf a with
  | .unmapped => true
  | .rom | .trace | .acq => write && !s.absentAt a
  | .knab => !s.absentAt a && (s.knabRecalling || (write && !s.knabWritable a))
  | _ => false

/-- What such a transfer records in SYS and KNB (R484, R499). -/
def State.ldlBadHit (s : State) (write : Bool) (a : Nat) : State :=
  match placeOf a with
  | .unmapped => s.hit 2 a false
  | .knab => if write then s.setRb Reg.knbStat 5 true else s
  | _ => s.hit 3 a false

/-- The transfers of a burst's write, in order, up to one that fails: the state, and the address that failed. -/
def State.ldlWrites (s : State) : List (Nat × Nat) → List Byte → Option Nat × State
  | [], _ => (none, s)
  | (a, w) :: t, d =>
    if s.ldlBad true a then (some a, s.ldlBadHit true a)
    else (s.fabricWrite .ladle a (d.take w)).ldlWrites t (d.drop w)

/-- The transfers of a burst's read. -/
def State.ldlReads (s : State) : List (Nat × Nat) → List Byte → Option Nat × List Byte × State
  | [], d => (none, d, s)
  | (a, w) :: t, d =>
    if s.ldlBad false a then (some a, d, s.ldlBadHit false a)
    else
      let res := s.fabricRead .ladle a w
      let b := res.1
      let s := res.2
      s.ldlReads t (d ++ b)

/-- The next burst of a channel is read into the buffer (R469): the address at which the read failed, if it did, and the state. -/
def State.ldlRead (s : State) (n : Nat) : Option Nat × State :=
  let lf := (s.ldlCh n).words.getD 2 0
  let rd := s.ldlReads (burstPieces (bitOf lf 26) (bitOf lf 26 || bitOf lf 27) (s.ldlNextRead n).1 (s.ldlBurstLen n)) []
  let s := rd.2.2
  match rd.1 with
  | some a => (some a, s)
  | none => (none, { s with ldl := { s.ldl with buf := s.ldl.buf ++ [(n, rd.2.1)] } })

/-- A channel in PAUSING whose last burst has been written is PAUSED (R481). -/
def State.ldlDrained (s : State) (n : Nat) : State :=
  if s.ldlState n = 3 && !s.ldlBuffered n && !s.ldl.replay.contains n then s.setLdlState n 4 else s

/-- A burst of a channel has been written: position, REMAIN and PCKSUM advance, and the last one completes the descriptor (R469, R477).
A descriptor that completes while its channel is PAUSING leaves its LINK for the resume. -/
def State.ldlAdvance (s : State) (n : Nat) (d : List Byte) : State :=
  let c := s.ldlCh n
  let lf := c.words.getD 2 0
  let rem := s.rf (Reg.ldlChRemain n) 0 24
  let ck := ckRun (ldlKind lf) (fld lf 0 24 - rem) c.ck d
  let s := if bitOf lf 26 then s else s.setReg (Reg.ldlChCurSrc n) (s.reg (Reg.ldlChCurSrc n) + BitVec.ofNat 32 d.length)
  let s := if bitOf lf 27 || bitOf lf 29 then s else s.setReg (Reg.ldlChCurDst n) (s.reg (Reg.ldlChCurDst n) + BitVec.ofNat 32 d.length)
  let s := (s.setReg (Reg.ldlChRemain n) (BitVec.ofNat 32 (rem - d.length))).setReg (Reg.ldlChPcksum n) (ckFinal (ldlKind lf) ck)
  let s := s.setLdlCh n { s.ldlCh n with ck := ck }
  if rem ≤ d.length then s.ldlComplete n else s

/-- The oldest burst in the buffer is written, unless the Knab store stalls it (R469, R503): the address at which the write failed, if it
did, and the state. A write that fails leaves the burst in the buffer. -/
def State.ldlWriteOut (s : State) : Option Nat × State :=
  match s.ldl.buf with
  | [] => (none, s)
  | (n, d) :: t =>
    if s.ldlStalls n d.length then (none, s)
    else
      let wr := s.ldlWrites (s.ldlWritePieces n d.length) d
      let s := wr.2
      match wr.1 with
      | some a => (some a, s)
      | none => (none, (({ s with ldl := { s.ldl with buf := t } } : State).ldlAdvance n d).ldlDrained n)

/-- Every burst in the buffer is written, oldest first, up to one that fails. The number bounds how many there are. -/
def State.ldlWriteAll : Nat → State → Option Nat × State
  | 0, s => (none, s)
  | k + 1, s =>
    let res := s.ldlWriteOut
    match res.1 with
    | some a => (some a, res.2)
    | none => res.2.ldlWriteAll k

/-- An engine-level bus error (R485): the engine stops, every burst in the buffer is discarded, and the discarded transfers, one entry
for each in ascending channel order, wait for replay. `more` are the channels of those that are not in the buffer. -/
def State.ldlBusErr (s : State) (addr : Nat) (more : List Nat) : State :=
  let l := s.ldl.buf.map Prod.fst ++ more
  let s := (s.setRb Reg.ldlStat 0 true).setRb Reg.ldlStat 1 true
  let s := (s.setReg Reg.ldlErraddr (BitVec.ofNat 32 addr)).incSat Reg.ldlBuserrcnt 1
  let s := { s with ldl := { s.ldl with buf := [], replay := (List.range 16).flatMap (fun n => l.filter (fun c => c == n)) } }
  (s.fire 31).fault 0x0C02 addr

/-- DESCRIPTOR_FETCH: the granted channel fetches its next descriptor (R468, R473, R475). -/
def execDescriptorFetch (n : Nat) (s : State) : Host.Outcome State Fault Refusal :=
  (if s.ldlRuns then
    let s := s.ldlLinks
    if s.ldlGrant == some n then
      match (s.ldlCh n).fetch with
      | some a => (s.ldlServed n).ldlFetch n a
      | none => s
    else s
   else s).done

/-- The channels whose descriptor fetch, issued and not yet used, a bus error discards: a free choice among those with a fetch to make
(R485; log entry 50). -/
def State.ldlFetchesOut (s : State) : List Nat × State :=
  let w := s.drawWord
  ((List.range 16).filter (fun c => bitOf w.1 c && w.2.ldlReady c && (w.2.ldlCh c).fetch.isSome), w.2)

/-- The next grant is read into the buffer, where there is room for it and it is no fetch (R468, R469); a read that fails stops the
engine (R485). -/
def State.ldlBurstRead (s : State) : State :=
  match s.ldlGrant with
  | none => s
  | some n =>
    if (s.ldlCh n).fetch.isSome || 4 ≤ s.ldl.buf.length then s
    else
      let res := (s.ldlServed n).ldlRead n
      match res.1 with
      | none => res.2
      | some a =>
        let out := res.2.ldlFetchesOut
        out.2.ldlBusErr a (n :: out.1)

/-- Up to k bursts of the buffer are written; a write that fails stops the engine (R485). -/
def State.ldlBurstWrite (s : State) (k : Nat) : State :=
  let res := s.ldlWriteAll k
  match res.1 with
  | none => res.2
  | some a =>
    let out := res.2.ldlFetchesOut
    out.2.ldlBusErr a out.1

/-- BURST (R467-R469): the engine reads ahead one burst, or writes the oldest one of the buffer; `whole`, the plain case, reads the next
burst and writes it with all that were read before it. -/
def execBurst (step : BurstStep) (s : State) : Host.Outcome State Fault Refusal :=
  (if s.ldlRuns then
    let s := s.ldlLinks
    match step with
    | .read => s.ldlBurstRead
    | .write => s.ldlBurstWrite 1
    | .whole =>
      let s := s.ldlBurstRead
      if s.rb Reg.ldlStat 1 then s else s.ldlBurstWrite 4
   else s).done

/-- Does an address belong to the write of the oldest burst? -/
def State.ldlWrongWrite (s : State) (n addr : Nat) : Bool :=
  match s.ldl.buf with
  | (c, d) :: _ => c == n && (s.ldlWritePieces c d.length).any (fun p => p.1 ≤ addr && addr < p.1 + p.2)
  | [] => false

/-- LADLE_BUSERR: a transfer of channel n, the write of the oldest burst or the read of the next grant, fails at an address; `others` are
the channels whose descriptor fetches were out (R485). What the address itself forbids is recorded (R484). -/
def execLadleBuserr (n : Nat) (addr : Word) (others : List Nat) (s : State) : Host.Outcome State Fault Refusal :=
  (if s.ldlRuns then
    let s := s.ldlLinks
    let a := addr.toNat
    let l := others.filter (fun c => s.ldlReady c && (s.ldlCh c).fetch.isSome)
    let note := fun (s : State) => if s.ldlBad true a then s.ldlBadHit (!s.ldlBad false a) a else s
    if s.ldlWrongWrite n a then (note s).ldlBusErr a l
    else if s.ldlGrant == some n then (note (s.ldlServed n)).ldlBusErr a (n :: l.filter (fun c => c != n))
    else s
   else s).done

/-! ### Replay (R486) -/

/-- The discarded bursts of a channel are made again, each read and written before the next, up to one that fails; the Knab store has
ended its transaction first (R503). The number is how many there are. -/
def State.ldlBurstsAgain : Nat → Nat → State → Bool × State
  | 0, _, s => (true, s)
  | k + 1, n, s =>
    if !(s.ldlCh n).moving then (true, s)
    else
      let rd := s.ldlRead n
      if rd.1.isSome then (false, rd.2)
      else
        let wr := rd.2.knabSettle.ldlWriteOut
        if wr.1.isSome then (false, { wr.2 with ldl := { wr.2.ldl with buf := [] } }) else wr.2.ldlBurstsAgain k n

/-- The k discarded transfers of one channel are made again: whether they succeeded, and the state. -/
def State.ldlAgain (s : State) (failed : List Nat) (n k : Nat) : Bool × State :=
  match (s.ldlCh n).fetch with
  | some a =>
    if failed.contains n then
      let s := s.setLdlCh n { s.ldlCh n with fetch := none, moving := false, link := false }
      (false, (((s.setLdlState n 0).setRb (Reg.ldlChStat n) 5 true).fire 31).fault 0x0C05 n)
    else (true, s.ldlFetch n a)
  | none =>
    if !(s.ldlCh n).moving then (true, s)
    else
      let res := if failed.contains n then (false, s) else s.ldlBurstsAgain k n
      let s := res.2
      if res.1 then (true, s)
      else
        let s := s.ldlSlag n 2
        (false, s.setLdlCh n { s.ldlCh n with link := true })

/-- A paused channel that has been replayed is PAUSED (R490); the LINK of a slagged descriptor is followed after the replay. -/
def State.ldlReplayed (s : State) (n : Nat) : State :=
  if s.ldlState n = 0 then s
  else if s.rb (Reg.ldlChCtrl n) 1 then s.setLdlState n 4
  else s

/-- REPLAY: every channel that had a transfer discarded makes it again, in ascending order; `failed` are those that fail for a
reason other than their address (R486). -/
def execReplay (failed : List Nat) (s : State) : Host.Outcome State Fault Refusal :=
  (if s.pwr.rtIn && s.awake && s.rb Reg.ldlStat 1 then
    let all := s.ldl.replay
    let chans := all.dedup
    let s := { s with ldl := { s.ldl with replay := [] } }
    let r := chans.foldl (fun (p : Bool × State) n =>
      let q := p.2.ldlAgain failed n (all.count n)
      (p.1 && q.1, q.2)) (true, s)
    let s := (r.2.setRb Reg.ldlStat 1 false).forEach chans State.ldlReplayed
    let s := if r.1 then (s.incSat Reg.ldlTranscnt 1).fault 0x0C03 (s.reg Reg.ldlErraddr).toNat else s
    s.ldlLinks
   else s).done

end Sys2Proof.Machine
end

