-- ==== Sys2Proof/Machine/Host.lean ====
section
/-! DEFINITION. The host port: its commands, the write queue, window collisions, pour commands, and the entry to chill (12_host_port_memory, R411-R430, R444; R394-R396, R398). -/

namespace Sys2Proof.Machine

/-! ### Transactions (R411-R413, R423) -/

/-- The port answers: from the end of step 1 of shakeout, in no reset (R423). -/
def State.portUp (s : State) : Bool := s.pwr.good && s.pwr.held.isNone && 2 ≤ s.shakeStep

/-- A transaction of the port: MODE and CMDCNT, and the bytes that HMISO carries after the command byte. -/
def State.transaction (s : State) (mode3 : Bool) (f : State → List Byte × State) : State :=
  if s.portUp then
    let s := s.setRf Reg.hstStat 3 2 (if mode3 then 2 else 1)
    let res := f { s with hst := { s.hst with hbusy := false, undef := none } }
    let miso := res.1
    let s := res.2
    { (s.incWrap Reg.hstCmdcnt) with hst := { s.hst with miso := miso } }
  else s

/-- n bytes of 0x00. -/
def zeros (n : Nat) : List Byte := List.replicate n 0

/-- HOST_ID (R414). -/
def execHostId (mode3 : Bool) (s : State) : Host.Outcome State Fault Refusal :=
  (s.transaction mode3 (fun s =>
    (beBytes 4 (sysIdOf s.variant).toNat ++ beBytes 4 (sysUnitsOf s.variant).toNat, s))).done

/-- Is the pour block buffer free (R421)? The boot ROM empties it within 50 µs, and a base tick lasts 244 µs: up to the tick after the
last block that is a free value (log entry 39). -/
def State.pourFree (s : State) : Bool × State :=
  match s.hst.pourAt with
  | some t => if s.now ≤ t + 1 then (let r := s.drawNat 2; (r.1 == 1, r.2)) else (true, s)
  | none => (true, s)

/-- The status byte but for POURRDY (R419). -/
def State.statusByte (s : State) : Nat :=
  (if 6 ≤ s.shakeStep then 1 else 0) + (if s.rf Reg.pwrStat 0 2 = 1 then 2 else 0) + (if s.hirq then 4 else 0) +
  (if s.hst.result ≠ 0 then 8 else 0) + (if s.knabRecalling then 16 else 0) + (if s.asleep then 64 else 0) +
  (if s.hst.queue.isEmpty then 0 else 128)

/-- HOST_STATUS (R419). -/
def execHostStatus (mode3 : Bool) (s : State) : Host.Outcome State Fault Refusal :=
  (s.transaction mode3 (fun s =>
    let res := s.pourFree
    let rdy := res.1
    let s := res.2
    ([BitVec.ofNat 8 (s.statusByte + (if rdy then 32 else 0)), BitVec.ofNat 8 s.hst.result], { s with hst := { s.hst with result := 0 } }))).done

/-! ### Window collisions (R426-R428) -/

/-- Does an address read or, without its aliases, write the shared window? -/
def inWindow (a : Nat) (write : Bool) : Bool :=
  match placeOf a with
  | .win => true
  | .mirror _ t => !write && within t 1 0x30000000 0x30004000
  | _ => false

/-- The warning of a collision on the later port (R427, R428). -/
def State.collide (s : State) (a : Nat) (c : Collision) : State :=
  match c with
  | .none => s
  | .hostLater => { (s.incWrap Reg.hstBusycnt) with hst := { s.hst with hbusy := true } }
  | .fabricLater =>
    ((s.setRb Reg.hstStat 0 true).setReg Reg.hstColladdr (BitVec.ofNat 32 (0x80000000 + a % 0x4000 / 4 * 4))).fire 49

/-! ### Writes (R418) -/

/-- The word at the front of the write queue goes to its target. -/
def State.queueWord (s : State) (coll : Collision) : State :=
  match s.hst.queue with
  | [] => s
  | (a, v) :: t =>
    let s := { s with hst := { s.hst with queue := t, hbusy := false, undef := none } }
    let ok := s.hostCode a true == 0xA5
    let s := s.hostWord a v
    if ok && inWindow a true then
      let s := s.collide a coll
      if coll == .fabricLater then { s with hst := { s.hst with undef := some (a / 4 * 4) } } else s
    else s

/-- Every queued word goes to its target (R420, R444). The number bounds how many there are. -/
def State.drainQueue : Nat → State → State
  | 0, s => s
  | k + 1, s => if s.hst.queue.isEmpty then s else (s.queueWord .none).drainQueue k

/-- The words that a full queue has issued by the time one more arrives: whether it has issued its first is free (R418; log entry 64). -/
def State.queueMoves (s : State) : State :=
  if s.asleep || s.hst.queue.length < 16 then s
  else
    let res := s.drawNat 2
    if res.1 = 1 then res.2.queueWord .none else res.2

/-- A data word of a WRITE arrives: it joins the queue, or gets the code of chill or of a full queue (R416, R418). -/
def State.queueIn (s : State) (a : Nat) (v : Word) : State :=
  let s := s.queueMoves
  if s.asleep then s.hostResult 0xE7
  else if s.hst.queue.length < 16 then { s with hst := { s.hst with queue := s.hst.queue ++ [(a, v)] } }
  else
    let code := s.hostCode a true
    let code := if code = 0xA5 || code = 0xE3 then 0xE6 else code
    (s.hostHit code a).hostResult code

/-- The words of a WRITE, at rising addresses (R415). -/
def State.queueAll (s : State) (a : Nat) : List Word → State
  | [] => s
  | v :: t => (s.queueIn a v).queueAll ((a + 4) % 2 ^ 32) t

/-- HOST_WRITE (R413, R415, R418): the complete data words of the transaction. -/
def execHostWrite (mode3 : Bool) (addr : Word) (words : List Word) (s : State) : Host.Outcome State Fault Refusal :=
  (s.transaction mode3 (fun s => (zeros (4 + 4 * words.length), s.queueAll (addr.toNat / 4 * 4) words))).done

/-- WRITE_QUEUE_WORD (R418, R427). -/
def execWriteQueueWord (coll : Collision) (s : State) : Host.Outcome State Fault Refusal :=
  (if s.portUp && !s.asleep then s.queueWord coll else s).done

/-! ### Reads (R415-R417, R420) -/

/-- Does an address lie in a RAM bank that chill puts to retention (R398, R408)? -/
def inBank (a : Nat) : Bool :=
  match placeOf a with
  | .prog | .data | .mirror _ _ | .coef | .cenState | .trace | .acq => true
  | _ => false

/-- Can a read miss the bound of R417? Only in a bank that wakes from chill or at throttle levels 6 and 7, never in the window. -/
def State.lateRead (s : State) (a : Nat) : Bool :=
  !inWindow a false && ((s.banksWaking && inBank a) || (match s.thmLevel with | some n => 6 ≤ n | none => false))

/-- One word of a READ or READ_BURST: result code, data, state. A read that ends late is carried out and its value discarded. -/
def State.hostFetch (s : State) (a : Nat) (coll : Collision) (late : Bool) : Nat × Word × State :=
  let code := s.hostCode a false
  if code ≠ 0xA5 then (code, 0, s.hostHit code a)
  else
    let res := s.fabricRead .host a 4
    let b := res.1
    let s := res.2
    if late && s.lateRead a then (0xE6, 0, s)
    else if inWindow a false then
      match coll with
      | .hostLater =>
        let res := s.drawWord
        let w := res.1
        let s := res.2
        (0xA5, w, s.collide a .hostLater)
      | c => (0xA5, BitVec.ofNat 32 (ofLe b), s.collide a c)
    else (0xA5, BitVec.ofNat 32 (ofLe b), s)

/-- The words of a READ_BURST: codes and data in order. The first `good` of them are complete at the bound of R417. -/
def State.fetchAll (s : State) (good : Nat) : Nat → Nat → List Collision → List (Nat × Word) × State
  | 0, _, _ => ([], s)
  | k + 1, a, colls =>
    let res := s.hostFetch a (colls.headD .none) (good == 0)
    let code := res.1
    let w := res.2.1
    let s := res.2.2
    let res := s.fetchAll (good - 1) k ((a + 4) % 2 ^ 32) colls.tail
    let l := res.1
    let s := res.2
    ((code, w) :: l, s)

/-- The first code of R416, in its order, that applies to any word. -/
def burstCode (l : List (Nat × Word)) : Nat :=
  ([0xE7, 0xE4, 0xE2, 0xE1, 0xE5, 0xE6].find? (fun c => l.any (fun p => p.1 == c))).getD 0xA5

/-- How many leading data words have HBUSY high at their last bit: up to the last one that a collision has spoilt (R428). -/
def busyWords (l : List (Nat × Word)) (a : Nat) (colls : List Collision) : Nat :=
  let bad := (List.range l.length).filter (fun i =>
    (l.getD i (0, 0)).1 == 0xA5 && inWindow ((a + 4 * i) % 2 ^ 32) false && colls.getD i .none == .hostLater)
  match bad.getLast? with
  | some i => i + 1
  | none => 0

/-- A read of n words from an address: HMISO after the command and its `skip` operand bytes. The wait bytes, at most `bound` of them
(8 where every word lies in the window), are free; where the bound is reached (`late`), so is how many words are complete. HBUSY has
fallen by the end of the transaction (R428). -/
def State.hostReadWords (s : State) (a n skip bound : Nat) (colls : List Collision) (late : Bool) : List Byte × State :=
  let s := State.drainQueue s.hst.queue.length s
  let at0 := a / 4 * 4
  let res := if late && 1 < n then s.drawNat n else (if late then 0 else n, s)
  let good := res.1
  let res := res.2.fetchAll good n at0 colls
  let l := res.1
  let s := res.2
  let code := burstCode l
  let win := (List.range n).all (fun i => inWindow ((at0 + 4 * i) % 2 ^ 32) false)
  let res := s.drawNat (if win then 9 else bound + 1)
  let k := res.1
  let s := res.2
  let wait := if code = 0xE6 then bound else k
  let s := s.hostResult code
  let s := { s with lastRead := (l.getLast?.map (fun p => p.2)).getD 0,
                    hst := { s.hst with hbusy := false, busyWords := busyWords l at0 colls } }
  (zeros (skip + wait) ++ [BitVec.ofNat 8 code] ++ l.flatMap (fun p => beBytes 4 p.2.toNat), s)

/-- HOST_READ (R416, R417, R420). -/
def execHostRead (mode3 : Bool) (addr : Word) (coll : Collision) (late : Bool) (s : State) : Host.Outcome State Fault Refusal :=
  (s.transaction mode3 (fun s => s.hostReadWords addr.toNat 1 4 64 [coll] late)).done

/-- HOST_READ_BURST (R414-R417): a count of 0 means 256. -/
def execHostReadBurst (mode3 : Bool) (addr : Word) (count : Nat) (colls : List Collision) (late : Bool) (s : State) :
    Host.Outcome State Fault Refusal :=
  (let n := if count % 256 = 0 then 256 else count % 256
   s.transaction mode3 (fun s => s.hostReadWords addr.toNat n 5 (64 + n) colls late)).done

/-! ### Doorbell, unknown commands, pour -/

/-- HOST_DOORBELL (R422). -/
def execHostDoorbell (mode3 : Bool) (v : Byte) (s : State) : Host.Outcome State Fault Refusal :=
  (s.transaction mode3 (fun s =>
    let s := s.setReg Reg.hstDoorbell (BitVec.ofNat 32 (v.toNat + (s.rf Reg.hstDoorbell 16 16 + 1) % 65536 * 65536))
    let s := (s.setRb Reg.hstStat 1 true).fire 48
    (zeros 1, if s.asleep && s.rb Reg.pwrWake 3 then s.wakeUp 8 else s))).done

/-- The command codes of R414. -/
def hostCommands : List Nat := [0x9F, 0x05, 0x0B, 0x0C, 0x02, 0x06, 0x20, 0x21]

/-- Four-byte words of a byte string, most significant byte first (R411); a word cut short is left out (R413). -/
def beWords (l : List Byte) : List Word := (List.range (l.length / 4)).map (fun i => BitVec.ofNat 32 (ofBe (slice l (4 * i) 4)))

/-- The command that a transaction's bytes on HMOSI spell (R412, R414): its code byte picks it, and the bytes that follow are its
operands. What befalls it on the way (collisions, a read past its bound) is no part of the bytes. None where HNCS rises before the
operands are complete. -/
def hostCommand (mode3 : Bool) : List Byte → Option Instr
  | [] => none
  | c :: l =>
    let addr : Word := BitVec.ofNat 32 (ofBe (slice l 0 4))
    match c.toNat with
    | 0x9F => some (.hostId mode3)
    | 0x05 => some (.hostStatus mode3)
    | 0x0B => if 4 ≤ l.length then some (.hostRead mode3 addr .none false) else none
    | 0x0C => if 5 ≤ l.length then some (.hostReadBurst mode3 addr (l.getD 4 0).toNat [] false) else none
    | 0x02 => if 8 ≤ l.length then some (.hostWrite mode3 addr (beWords (l.drop 4))) else none
    | 0x06 => if 1 ≤ l.length then some (.hostDoorbell mode3 (l.getD 0 0)) else none
    | 0x20 => if 2 ≤ l.length then some (.pourBlock mode3 (l.drop 2) (ofBe (slice l 0 2))) else none
    | 0x21 => if 1 ≤ l.length then some (.pourGo mode3 (l.getD 0 0).toNat) else none
    | _ => some (.badCommand mode3 c)

/-- BAD_COMMAND (R414): a code that the table has is no bad command. -/
def execBadCommand (mode3 : Bool) (code : Byte) (s : State) : Host.Outcome State Fault Refusal :=
  (if hostCommands.contains code.toNat then s
   else s.transaction mode3 (fun s => ([0xEE], s))).done

/-- The port takes a block into its buffer, and the boot ROM takes it from there (R421). A transaction of 250 bytes or more lasts 50 µs at
40 MHz, so it always finds the buffer free; a shorter one may find it full, which sets the result byte alone. -/
def State.pourTake (s : State) (payload : List Byte) : State :=
  let res := if 247 ≤ payload.length then (true, s) else s.pourFree
  let free := res.1
  let s := res.2
  if free then ({ s with hst := { s.hst with pourAt := some s.now } } : State).pourBlock false payload
  else { s with hst := { s.hst with result := 0xE6 } }

/-- POUR_BLOCK (R394, R396, R421): the length field of the command against the payload sent. -/
def execPourBlock (mode3 : Bool) (payload : List Byte) (lenField : Nat) (s : State) : Host.Outcome State Fault Refusal :=
  (s.transaction mode3 (fun s =>
    (zeros (2 + payload.length),
      if !s.pourOpen then s.setRb Reg.pwrPour 6 true
      else if lenField < 21 || 1044 < lenField || lenField ≠ payload.length then s.pourErr 2
      else s.pourTake payload))).done

/-- POUR_GO (R394, R396). -/
def execPourGo (mode3 : Bool) (kind : Nat) (s : State) : Host.Outcome State Fault Refusal :=
  (s.transaction mode3 (fun s =>
    (zeros 1, if !s.pourOpen then s.setRb Reg.pwrPour 6 true else s.pourStart (kind % 256)))).done

/-! ### Entry to chill (R398, R444) -/

/-- CHILL_ENTRY: at the boundary Bc of an accepted request, once all that step 1 waits for has ended, queued host words are written and
the part enters chill. -/
def execChillEntry (s : State) : Host.Outcome State Fault Refusal :=
  (if s.chillNow && !s.chillWaits then (State.drainQueue s.hst.queue.length s).chillEnter else s).done

end Sys2Proof.Machine
end

