-- ==== Sys2Proof/Machine/Frames.lean ====
section
/-! DEFINITION. What time and the converters do: the base tick, frame boundaries, slot evaluations, completed conversions and the action at a pass end (01_architecture R29-R47, 02_acquisition R61-R86, 03_control_frames R105-R127, 11_power_reset_pour R383, R399). -/

namespace Sys2Proof.Machine

/-! ### Frame boundaries due (R38, R383, R398) -/

/-- Is this tick a frame boundary that has not been taken yet? Not before step 11 of shakeout, and not Bc of a chill (R383, R398). -/
def State.boundaryDue (s : State) : Bool :=
  s.tb.running && s.awake && s.pwr.rtIn && 11 ≤ s.shakeStep && s.atBoundary 0 && s.cen.lastBoundary != some s.now && !s.chillNow

/-! ### The base tick (R29-R31, R345, R515) -/

/-- The output channels act at a base tick: ACT and FAN (R198, R226). -/
def State.outTicks (s : State) : State := ({ s with act := { s.act with tickDue := false } } : State).actTicks.fanTicks

/-- The output channels act now where they waited for the boundary of this tick. -/
def State.outTicksDue (s : State) : State := if s.act.tickDue then s.outTicks else s

/-- The units that act at a base tick: ACQ, the encoders, ACT and FAN (after the commits of a frame boundary where the tick is one,
R198), and the hourly rewrite of the stroke totals. -/
def State.unitTicks (s : State) : State :=
  let s := s.acqTick.encTicks
  let s := if s.boundaryDue then { s with act := { s.act with tickDue := true } } else s.outTicks
  if s.runtimeRuns && s.knb.strokesDue ≤ s.now then s.strokesWrite else s

/-- The frames in progress are abandoned, with the U_PEND of the slots that they have evaluated (R351). -/
def State.framesAbandon (s : State) : State :=
  let s := s.forEach ((s.cen.frames.filter (fun f => f.busy)).flatMap (fun f => f.evald)) (fun s n => s.setSstat n 5 false)
  { s with cen := { s.cen with frames := s.cen.frames.map (fun f => if f.busy then {} else f) } }

/-- TBCOUNT counts (R31, R36): 48 bits. A standby or candidate that lost its alignment takes the value and the phase of its last TICK
instead, and abandons its frames in progress (R351). -/
def State.countTick (s : State) : State :=
  match s.twn.reload with
  | some c => ({ s with tb := { s.tb with count := (c + 1) % 2 ^ 48, phase := 0 }, twn := { s.twn with reload := none } } : State).framesAbandon
  | none => { s with tb := { s.tb with count := (s.tb.count + 1) % 2 ^ 48 } }


/-- The TICK token of the active chip at a base tick, whether or not the link is up (R345, R348), and then step 5 of a formation whose
CONFIG has left (R356). The queue wait of TICK is the time of the transfers before it: 0 where there are none, and else free up to
what they take at 60 million transfers a second, the least that R344 states (R346). -/
def State.tickSend (s : State) : State :=
  if s.isTwin && s.role == 2 then
    let s := { s with twn := { s.twn with ticksFrom := some (s.twn.ticksFrom.getD s.now) } }
    let n := tickBehind s.twn.tx s.twn.txAt
    if n = 0 then (s.sendToken (.tick s.tb.count 0)).formationRest
    else
      let res := s.drawNat (n * 2048 / 7500 + 1)
      (res.2.sendToken (.tick s.tb.count res.1)).formationRest
  else s

/-- The link has moved for one base tick (R344, R346): at least 15,000 transfers, which is 120 Mbit/s; how many more is free (log entry
43). -/
def State.linkTick (s : State) : State :=
  if s.twn.tx.isEmpty then s
  else
    let res := s.drawNat 65536
    let s := res.2
    let q := linkRun s.twn.tx s.twn.txAt (15000 + res.1)
    { s with twn := { s.twn with tx := q.1, txAt := q.2 } }

/-- One base tick of time has passed, and the link with it. -/
def State.timePasses (s : State) : State :=
  let s := s.linkTick
  { s with now := s.now + 1, twn := { s.twn with withhold := false } }

/-- BASE_TICK (R29): 4,096 TBO cycles have passed. In chill TBO stands still (R398). Until TBO has locked, and in a reset, a tick only
lets time pass; and while chill entry waits, TBCOUNT holds Bc (R36, R441, R520). -/
def execBaseTick (s : State) : Host.Outcome State Fault Refusal :=
  (if s.asleep && s.pwr.good && s.pwr.held.isNone then s
   else
    let s := s.outTicksDue.timePasses.xtalTick
    if !s.awake || (s.chillNow && s.chillWaits) then s
    else
      if s.tb.running then s.countTick.unitTicks.tickSend else s).done

/-! ### Frame boundaries (R38-R46, R115-R118, R383, R399) -/

/-- The classes that start at this tick (R38); at the first class-0 boundary after chill, every class (R135, R399). -/
def State.startingClasses (s : State) : List Nat :=
  if s.pwr.wakeTicks = some 0 then List.range 4 else (List.range 4).filter s.atBoundary

/-- What waits for a class-0 boundary: at B1 the starts of shakeout, and then function starts, stops and ownership (R43, R49, R117,
R383). -/
def State.pendingCommits (s : State) : State :=
  (if s.od.startup.isSome && s.shakeStep == 11 then s.startupCommit else s).boundaryCommits

/-- Step 12 of shakeout: the second class-0 boundary at or after B1 (R383); supervision of the fans starts (R246). -/
def State.outputsLive (s : State) : State :=
  match s.pwr.b1 with
  | some t =>
    if s.shakeStep == 11 && t < s.now then
      let s := (s.setRf Reg.pwrShake 0 4 12).setRf Reg.pwrShake 8 24 (min 0xFFFFFF ((s.now - s.pwr.shakeFrom) / 4))
      let s := s.setRf Reg.pwrStat 0 2 1
      { s with fan := { s.fan with refresh := some s.now } }
    else s
  | none => s

/-- With the first commits after chill a fan that no slot names leaves its chill state (R135; DEDUCED, log entry 92). -/
def State.fansWake (s : State) : State :=
  s.forEach ((List.range s.nFans).filter (fun f => !s.destNamed (namesFan f))) (fun s f => s.setFan f { s.fan1 f with chill := false })

/-- After a wake (R399): at the first class-0 boundary nothing commits, at the second STATE becomes RUN. -/
def State.wakeBoundary (s : State) : State :=
  match s.pwr.wakeTicks with
  | some 0 => { s with pwr := { s.pwr with wakeTicks := some 1 } }
  | some _ => (({ s with pwr := { s.pwr with wakeTicks := none } } : State).setRf Reg.pwrStat 0 2 1).fansWake
  | none => s

/-- What the active chip of a flask sends at a class-0 boundary (R214, R248, R352, R354): the mirror, with the sequence counter where
class 2 starts, and RUNMAP where its running set has changed. -/
def State.boundaryTokens (s : State) (ks : List Nat) : State :=
  if s.isTwin && s.role == 2 then (s.mirrorSend (ks.contains 2)).runmapRefresh else s

/-- FRAME_BOUNDARY (R38, R39): the starting classes commit, snapshot and latch, after what waits for the boundary has taken
place. -/
def execFrameBoundary (s : State) : Host.Outcome State Fault Refusal :=
  (if s.boundaryDue then
    let ks := s.startingClasses
    let s := { s with cen := { s.cen with lastBoundary := some s.now } }
    let s := if s.isStandby then s.forEach ks State.graftsLate else s
    let s := s.pendingCommits.convergeRefresh
    let s := if s.rb Reg.cenCtrl 0 then s.boundary ks else s
    s.outputsLive.wakeBoundary.outTicksDue.boundaryTokens ks
   else s).done

/-! ### Slot evaluation (R105-R119, R144-R161, R352, R353) -/

/-- The GRAFT entry of a slot whose evaluation the active chip has completed (R345, R352): its ordinal counts the slots of its class in
the running set that RUNMAP has named last. -/
def State.graftSend (s : State) (k n tick : Nat) : State :=
  if s.isTwin && s.role == 2 && s.slotRuns n then
    let s := s.runmapRefresh
    let ordinal := ((s.twn.runmap.filter (fun m => s.slotClass m == k)).filter (fun m => m < n)).length
    s.sendToken (.graft k ordinal (tick % 2 ^ 32) [((s.slotWord n 8).toInt, (s.slotWord n 4).toInt)])
  else s

/-- One slot of class k is evaluated (R144-R150): its state words, BADREF, event 5 at a change of the output clamp (against (0, 0)
at the first evaluation after a start, R149), and the trace channels. -/
def State.evalSlot (s : State) (k n : Nat) : State :=
  let f := s.frame k
  let res := s.evalInput f n
  let a := res.1
  let bad := res.2 || (s.destination (s.coef n 8)).2
  let r := a.run
  let first := s.slotFirst f n
  let old := if first then 0 else s.slotWord n 0x30
  let s := (s.writeSlot n a r bad).badRef n bad
  let s := if bitOf (s.coef n 0) 12 && (bitOf old 0 != r.ohi || bitOf old 1 != r.olo) then s.fire 5 else s
  let s := if first then { s with cen := { s.cen with first := s.cen.first.filter (fun m => m != n) } } else s
  let s := s.traceEval n r f.tick
  let s := s.setFrame k { s.frame k with todo := f.todo.drop 1, evald := f.evald ++ [n], dests := recPut 0 f.dests n (s.coef n 8) }
  s.graftsRun.graftSend k n f.tick

/-- SLOT_EVALUATION (R107, R144): the next slot of the lowest-numbered class that evaluates. A slot that has been disabled since
step 2 is passed over (R105). -/
def execSlotEvaluation (s : State) : Host.Outcome State Fault Refusal :=
  (if s.awake && s.rb Reg.cenCtrl 0 then
    match s.nextSlot with
    | some (k, n) =>
      if s.slotOn n then (s.evalSlot k n).frameAdvance
      else (s.setFrame k { s.frame k with todo := (s.frame k).todo.drop 1 }).frameAdvance
    | none => s.frameAdvance
   else s).done

/-! ### Conversions and process values (R62, R73, R80-R85) -/

/-- CONVERSION_COMPLETE (R61, R62): the oldest conversion in flight ends; FAN and the SHDN path see its code (R75). -/
def execConversionComplete (s : State) : Host.Outcome State Fault Refusal :=
  (match s.awake, s.acq.inflight with
   | true, c :: rest =>
     let s := s.completeOne c rest
     s.fanConversion c.chan (s.chan c.chan).code
   | _, _ => s).done

/-- GUARD_CONVERSION (R73-R76): the next guard channel that is due converts. -/
def execGuardConversion (code : Int) (s : State) : Host.Outcome State Fault Refusal :=
  (match s.awake, s.acq.guardDue with
   | true, c :: rest =>
     let s := s.guardOne c rest code
     s.fanConversion c (s.chan c).code
   | _, _ => s).done

/-- PV_UPDATE (R80): the action at a pass end, and what follows fresh PVs: presence inputs (R182), actuator feedback (R209-R211)
and fan currents (R230). -/
def execPvUpdate (s : State) : Host.Outcome State Fault Refusal :=
  (match s.awake, s.acq.update with
   | true, some rs =>
     let old := rs.map (fun (r : DecResult) => (r.d, if (s.dec r.d).first then none else some (s.cmpState r.d)))
     let s := s.pvAction rs
     let s := old.foldl (fun (s : State) (p : Nat × Option Nat) => s.pinPv p.1 p.2) s
     (s.forEach (List.range s.nActs) State.actFeedback).fanCurrents
   | _, _ => s).done

end Sys2Proof.Machine
end

