-- ==== Sys2Proof/Machine/Dispatch.lean ====
section
/-! DEFINITION. What each command does: one arm per row of spec/opcode_table.json. -/

namespace Sys2Proof.Machine

/-- The effect of a command on everything but the queue. -/
def exec (i : Instr) (s : State) : Host.Outcome State Fault Refusal :=
  match i with
  | .baseTick => Sys2Proof.Machine.execBaseTick s
  | .tbcountLoRead who => Sys2Proof.Machine.execTbcountLoRead who s
  | .xtalStop => Sys2Proof.Machine.execXtalStop s
  | .tboRange => Sys2Proof.Machine.execTboRange s
  | .clockLost => Sys2Proof.Machine.execClockLost s
  | .portClock p => Sys2Proof.Machine.execPortClock p s
  | .tboLock => Sys2Proof.Machine.execTboLock s
  | .tboDiscipline count => Sys2Proof.Machine.execTboDiscipline count s
  | .frameBoundary => Sys2Proof.Machine.execFrameBoundary s
  | .slotEvaluation => Sys2Proof.Machine.execSlotEvaluation s
  | .ownershipHandover => Sys2Proof.Machine.execOwnershipHandover s
  | .acqStart who => Sys2Proof.Machine.execAcqStart who s
  | .acqStop who => Sys2Proof.Machine.execAcqStop who s
  | .passStart => Sys2Proof.Machine.execPassStart s
  | .entryStart => Sys2Proof.Machine.execEntryStart s
  | .conversionSample code => Sys2Proof.Machine.execConversionSample code s
  | .conversionComplete => Sys2Proof.Machine.execConversionComplete s
  | .pvUpdate => Sys2Proof.Machine.execPvUpdate s
  | .guardConversion code => Sys2Proof.Machine.execGuardConversion code s
  | .fettleConversion slice code => Sys2Proof.Machine.execFettleConversion slice code s
  | .sliceStale slice => Sys2Proof.Machine.execSliceStale slice s
  | .staleClear slice => Sys2Proof.Machine.execStaleClear slice s
  | .sliceCorrWrite who slice skew v => Sys2Proof.Machine.execSliceCorrWrite who slice skew v s
  | .acqClipcntRead who => Sys2Proof.Machine.execAcqClipcntRead who s
  | .acqSkipcntRead who => Sys2Proof.Machine.execAcqSkipcntRead who s
  | .cenRun who => Sys2Proof.Machine.execCenRun who s
  | .cenStop who => Sys2Proof.Machine.execCenStop who s
  | .cenAdmit who => Sys2Proof.Machine.execCenAdmit who s
  | .cenPeriodWrite who k v => Sys2Proof.Machine.execCenPeriodWrite who k v s
  | .cenOvrRead who k => Sys2Proof.Machine.execCenOvrRead who k s
  | .traceArm who t => Sys2Proof.Machine.execTraceArm who t s
  | .traceStop who t => Sys2Proof.Machine.execTraceStop who t s
  | .traceForce who t => Sys2Proof.Machine.execTraceForce who t s
  | .traceConfigWrite who t reg v => Sys2Proof.Machine.execTraceConfigWrite who t reg v s
  | .traceLostRead who t => Sys2Proof.Machine.execTraceLostRead who t s
  | .odRead src => Sys2Proof.Machine.execOdRead src s
  | .odWrite src nvOk => Sys2Proof.Machine.execOdWrite src nvOk s
  | .odWriteBlock src nvOk => Sys2Proof.Machine.execOdWriteBlock src nvOk s
  | .odCall src => Sys2Proof.Machine.execOdCall src s
  | .functionStop f => Sys2Proof.Machine.execFunctionStop f s
  | .functionStart f nvOk => Sys2Proof.Machine.execFunctionStart f nvOk s
  | .functionDiscard f => Sys2Proof.Machine.execFunctionDiscard f s
  | .functionStartCommit f => Sys2Proof.Machine.execFunctionStartCommit f s
  | .functionStopCommit f => Sys2Proof.Machine.execFunctionStopCommit f s
  | .odxHeatRead who => Sys2Proof.Machine.execOdxHeatRead who s
  | .digestMismatchClear addr => Sys2Proof.Machine.execDigestMismatchClear addr s
  | .zoneStep => Sys2Proof.Machine.execZoneStep s
  | .zonPinCntRead who p => Sys2Proof.Machine.execZonPinCntRead who p s
  | .scheduleEvaluate => Sys2Proof.Machine.execScheduleEvaluate s
  | .pwmPeriod n => Sys2Proof.Machine.execPwmPeriod n s
  | .stepPulse n => Sys2Proof.Machine.execStepPulse n s
  | .actRunWrite who v => Sys2Proof.Machine.execActRunWrite who v s
  | .actRelease who v => Sys2Proof.Machine.execActRelease who v s
  | .safeTimeout n => Sys2Proof.Machine.execSafeTimeout n s
  | .actConfigWrite who n off v => Sys2Proof.Machine.execActConfigWrite who n off v s
  | .fanPeriod f => Sys2Proof.Machine.execFanPeriod f s
  | .stretchWindowOpen f => Sys2Proof.Machine.execStretchWindowOpen f s
  | .tachEdge f cycle => Sys2Proof.Machine.execTachEdge f cycle s
  | .stretchWindowClose f => Sys2Proof.Machine.execStretchWindowClose f s
  | .fanKickEnd f => Sys2Proof.Machine.execFanKickEnd f s
  | .startTimeout f => Sys2Proof.Machine.execStartTimeout f s
  | .fanWaitEnd f => Sys2Proof.Machine.execFanWaitEnd f s
  | .fanRestartEnd f => Sys2Proof.Machine.execFanRestartEnd f s
  | .fanRetryReset f => Sys2Proof.Machine.execFanRetryReset f s
  | .fanClr who v => Sys2Proof.Machine.execFanClr who v s
  | .fanRefresh who => Sys2Proof.Machine.execFanRefresh who s
  | .fanAuto => Sys2Proof.Machine.execFanAuto s
  | .fanAutoExit who v => Sys2Proof.Machine.execFanAutoExit who v s
  | .fanConfigWrite who f off v => Sys2Proof.Machine.execFanConfigWrite who f off v s
  | .shdnSensor j => Sys2Proof.Machine.execShdnSensor j s
  | .shdnRelease => Sys2Proof.Machine.execShdnRelease s
  | .shdnLock who => Sys2Proof.Machine.execShdnLock who s
  | .heartbeatSend => Sys2Proof.Machine.execHeartbeatSend s
  | .heartbeatReceive p m => Sys2Proof.Machine.execHeartbeatReceive p m s
  | .timeReceive p m => Sys2Proof.Machine.execTimeReceive p m s
  | .censusReceive p m => Sys2Proof.Machine.execCensusReceive p m s
  | .notifySend => Sys2Proof.Machine.execNotifySend s
  | .notifyAck p m => Sys2Proof.Machine.execNotifyAck p m s
  | .notifyRetry => Sys2Proof.Machine.execNotifyRetry s
  | .pourReceive p m => Sys2Proof.Machine.execPourReceive p m s
  | .pourEndReceive p m => Sys2Proof.Machine.execPourEndReceive p m s
  | .pourNakRetry => Sys2Proof.Machine.execPourNakRetry s
  | .windowClose addr => Sys2Proof.Machine.execWindowClose addr s
  | .frameDrop p m => Sys2Proof.Machine.execFrameDrop p m s
  | .plcaLost p => Sys2Proof.Machine.execPlcaLost p s
  | .plcaResume p => Sys2Proof.Machine.execPlcaResume p s
  | .frameTransmitDone p collisions => Sys2Proof.Machine.execFrameTransmitDone p s collisions
  | .mdioGo who v => Sys2Proof.Machine.execMdioGo who v s
  | .mdioDone data => Sys2Proof.Machine.execMdioDone data s
  | .rootKeyApply => Sys2Proof.Machine.execRootKeyApply s
  | .netCounterRead who p k => Sys2Proof.Machine.execNetCounterRead who p k s
  | .netNotlostRead who => Sys2Proof.Machine.execNetNotlostRead who s
  | .twinKick who => Sys2Proof.Machine.execTwinKick who s
  | .twinWatchdog => Sys2Proof.Machine.execTwinWatchdog s
  | .twinForcedReset => Sys2Proof.Machine.execTwinForcedReset s
  | .ownChange own alive => Sys2Proof.Machine.execOwnChange own alive s
  | .claim => Sys2Proof.Machine.execClaim s
  | .loneClaim => Sys2Proof.Machine.execLoneClaim s
  | .claimDrive => Sys2Proof.Machine.execClaimDrive s
  | .ownStuck => Sys2Proof.Machine.execOwnStuck s
  | .sprueDown => Sys2Proof.Machine.execSprueDown s
  | .sprueUp => Sys2Proof.Machine.execSprueUp s
  | .transferTimeout => Sys2Proof.Machine.execTransferTimeout s
  | .tokenDiscard wires => Sys2Proof.Machine.execTokenDiscard s wires
  | .claimToken => Sys2Proof.Machine.execClaimToken s
  | .releaseToken cause => Sys2Proof.Machine.execReleaseToken cause s
  | .tickToken tb lag => Sys2Proof.Machine.execTickToken tb lag s
  | .graftToken cls first tb entries => Sys2Proof.Machine.execGraftToken cls first tb entries s
  | .runmapToken slots => Sys2Proof.Machine.execRunmapToken slots s
  | .mirrorToken acts fans auto seq => Sys2Proof.Machine.execMirrorToken acts fans auto seq s
  | .zoneToken zones sps vpvs => Sys2Proof.Machine.execZoneToken zones sps vpvs s
  | .odxToken response record tag => Sys2Proof.Machine.execOdxToken response record s tag
  | .netframeToken fromPartnerPort frame => Sys2Proof.Machine.execNetframeToken fromPartnerPort frame s
  | .helloToken h => Sys2Proof.Machine.execHelloToken h s
  | .configToken last heat hdig sdig members nvOk run => Sys2Proof.Machine.execConfigToken last heat hdig sdig members nvOk s run
  | .imageToken kind offset total data => Sys2Proof.Machine.execImageToken kind offset total data s
  | .swapToken ctl => Sys2Proof.Machine.execSwapToken ctl s
  | .twinPourTimeout => Sys2Proof.Machine.execTwinPourTimeout s
  | .swapBegin => Sys2Proof.Machine.execSwapBegin s
  | .swap => Sys2Proof.Machine.execSwap s
  | .forceSwap => Sys2Proof.Machine.execForceSwap s
  | .swapFinish nvOk => Sys2Proof.Machine.execSwapFinish nvOk s
  | .swapAbort => Sys2Proof.Machine.execSwapAbort s
  | .swapExchange => Sys2Proof.Machine.execSwapExchange s
  | .swapFinishCommit => Sys2Proof.Machine.execSwapFinishCommit s
  | .twnLatecntRead who => Sys2Proof.Machine.execTwnLatecntRead who s
  | .twnLinkerrRead who => Sys2Proof.Machine.execTwnLinkerrRead who s
  | .supplyGood pins dip => Sys2Proof.Machine.execSupplyGood pins dip s
  | .supplyFall jstep vbatHolds => Sys2Proof.Machine.execSupplyFall jstep vbatHolds s
  | .supply which low => Sys2Proof.Machine.execSupply which low s
  | .nrst => Sys2Proof.Machine.execNrst s
  | .watchdogKick who => Sys2Proof.Machine.execWatchdogKick who s
  | .wdogWarn => Sys2Proof.Machine.execWdogWarn s
  | .watchdogReset => Sys2Proof.Machine.execWatchdogReset s
  | .knabRecall weak => Sys2Proof.Machine.execKnabRecall weak s
  | .selfTest romOk ramOk => Sys2Proof.Machine.execSelfTest romOk ramOk s
  | .pourBlock mode3 payload lenField => Sys2Proof.Machine.execPourBlock mode3 payload lenField s
  | .pourGo mode3 kind => Sys2Proof.Machine.execPourGo mode3 kind s
  | .imageCheck kind => Sys2Proof.Machine.execImageCheck kind s
  | .runtimeEntry nvOk => Sys2Proof.Machine.execRuntimeEntry nvOk s
  | .startupCommitRetry nvOk => Sys2Proof.Machine.execStartupCommitRetry nvOk s
  | .chillRequest => Sys2Proof.Machine.execChillRequest s
  | .chillEntry => Sys2Proof.Machine.execChillEntry s
  | .wake src => Sys2Proof.Machine.execWake src s
  | .hostId mode3 => Sys2Proof.Machine.execHostId mode3 s
  | .hostStatus mode3 => Sys2Proof.Machine.execHostStatus mode3 s
  | .hostRead mode3 addr coll late => Sys2Proof.Machine.execHostRead mode3 addr coll late s
  | .hostReadBurst mode3 addr count colls late => Sys2Proof.Machine.execHostReadBurst mode3 addr count colls late s
  | .hostWrite mode3 addr words => Sys2Proof.Machine.execHostWrite mode3 addr words s
  | .writeQueueWord coll => Sys2Proof.Machine.execWriteQueueWord coll s
  | .hostDoorbell mode3 v => Sys2Proof.Machine.execHostDoorbell mode3 v s
  | .badCommand mode3 code => Sys2Proof.Machine.execBadCommand mode3 code s
  | .sbusGo who b v => Sys2Proof.Machine.execSbusGo who b v s
  | .sbusTransactionEnd b how => Sys2Proof.Machine.execSbusTransactionEnd b how s
  | .clockStretchTimeout b => Sys2Proof.Machine.execClockStretchTimeout b s
  | .sbusEnable who b v stuck => Sys2Proof.Machine.execSbusEnable who b v stuck s
  | .sbusDisable who b v => Sys2Proof.Machine.execSbusDisable who b v s
  | .pollDue p => Sys2Proof.Machine.execPollDue p s
  | .pollWaitEnd p => Sys2Proof.Machine.execPollWaitEnd p s
  | .evtPendClear who hi v => Sys2Proof.Machine.execEvtPendClear who hi v s
  | .evtClr who hi v => Sys2Proof.Machine.execEvtClr who hi v s
  | .evtMaskHostWrite who hi v => Sys2Proof.Machine.execEvtMaskHostWrite who hi v s
  | .evtSoft who v => Sys2Proof.Machine.execEvtSoft who v s
  | .ringConfigWrite who n v => Sys2Proof.Machine.execRingConfigWrite who n v s
  | .ringBaseWrite who n v => Sys2Proof.Machine.execRingBaseWrite who n v s
  | .ringHeadWrite who n v => Sys2Proof.Machine.execRingHeadWrite who n v s
  | .ringTailWrite who n v => Sys2Proof.Machine.execRingTailWrite who n v s
  | .ringDropRead who n => Sys2Proof.Machine.execRingDropRead who n s
  | .ladleStart who n => Sys2Proof.Machine.execLadleStart who n s
  | .ladlePause who n => Sys2Proof.Machine.execLadlePause who n s
  | .ladleResume who n => Sys2Proof.Machine.execLadleResume who n s
  | .ladleAbort who n => Sys2Proof.Machine.execLadleAbort who n s
  | .ladleDoorbell who n => Sys2Proof.Machine.execLadleDoorbell who n s
  | .descriptorFetch n => Sys2Proof.Machine.execDescriptorFetch n s
  | .burst step => Sys2Proof.Machine.execBurst step s
  | .ladleBuserr n addr others => Sys2Proof.Machine.execLadleBuserr n addr others s
  | .replay failed => Sys2Proof.Machine.execReplay failed s
  | .ldlCounterRead who k => Sys2Proof.Machine.execLdlCounterRead who k s
  | .knbJopen who => Sys2Proof.Machine.execKnbJopen who s
  | .knbJmapWrite who j v => Sys2Proof.Machine.execKnbJmapWrite who j v s
  | .knbCommit who => Sys2Proof.Machine.execKnbCommit who s
  | .knabDone => Sys2Proof.Machine.execKnabDone s
  | .counterIncrement who v cut => Sys2Proof.Machine.execCounterIncrement who v cut s
  | .counterValueRead who => Sys2Proof.Machine.execCounterValueRead who s
  | .sliceNow who => Sys2Proof.Machine.execSliceNow who s
  | .scanSlice weak => Sys2Proof.Machine.execScanSlice weak s
  | .pageRefresh page stillWeak => Sys2Proof.Machine.execPageRefresh page stillWeak s
  | .knbWeakcntRead who => Sys2Proof.Machine.execKnbWeakcntRead who s
  | .rtcSecond => Sys2Proof.Machine.execRtcSecond s
  | .rtcSecRead who => Sys2Proof.Machine.execRtcSecRead who s
  | .rtcSnap who v => Sys2Proof.Machine.execRtcSnap who v s
  | .rtcFieldWrite who n v => Sys2Proof.Machine.execRtcFieldWrite who n v s
  | .rtcHalt who => Sys2Proof.Machine.execRtcHalt who s
  | .rtcRelease who => Sys2Proof.Machine.execRtcRelease who s
  | .rtcAdj who v => Sys2Proof.Machine.execRtcAdj who v s
  | .rtcMeasureStart who v => Sys2Proof.Machine.execRtcMeasureStart who v s
  | .mainsrefCross cycles => Sys2Proof.Machine.execMainsrefCross cycles s
  | .trimUpdate => Sys2Proof.Machine.execTrimUpdate s
  | .rtcSupplySwitch toVbat => Sys2Proof.Machine.execRtcSupplySwitch toVbat s
  | .rtcBatlow => Sys2Proof.Machine.execRtcBatlow s
  | .rtcDomainLoss => Sys2Proof.Machine.execRtcDomainLoss s
  | .rtcXstop => Sys2Proof.Machine.execRtcXstop s
  | .keypadScan pressed => Sys2Proof.Machine.execKeypadScan pressed s
  | .keyStuck key => Sys2Proof.Machine.execKeyStuck key s
  | .entryTimeout => Sys2Proof.Machine.execEntryTimeout s
  | .lockoutEnd => Sys2Proof.Machine.execLockoutEnd s
  | .relock => Sys2Proof.Machine.execRelock s
  | .kpdLock who => Sys2Proof.Machine.execKpdLock who s
  | .kpdUnlock who => Sys2Proof.Machine.execKpdUnlock who s
  | .kpdConfigWrite who off v => Sys2Proof.Machine.execKpdConfigWrite who off v s
  | .kpdDropRead who => Sys2Proof.Machine.execKpdDropRead who s
  | .encoderSample n a b p => Sys2Proof.Machine.execEncoderSample n a b p s
  | .encoderCountWrite who n v => Sys2Proof.Machine.execEncoderCountWrite who n v s
  | .encErrRead who n => Sys2Proof.Machine.execEncErrRead who n s
  | .sensorConversion readings => Sys2Proof.Machine.execSensorConversion readings s
  | .tripComparator => Sys2Proof.Machine.execTripComparator s
  | .tripRelease => Sys2Proof.Machine.execTripRelease s
  | .thmTjRead who => Sys2Proof.Machine.execThmTjRead who s
  | .thmLvlcntRead who => Sys2Proof.Machine.execThmLvlcntRead who s
  | .faultLogWrite nvOk => Sys2Proof.Machine.execFaultLogWrite nvOk s
  | .registerWrite who addr v => Sys2Proof.Machine.execRegisterWrite who addr v s
  | .tboRangeRecovery => Sys2Proof.Machine.execTboRangeRecovery s
  | .nrstRelease => Sys2Proof.Machine.execNrstRelease s
  | .xtalResume => Sys2Proof.Machine.execXtalResume s
  | .mainsLost => Sys2Proof.Machine.execMainsLost s
  | .rtcBatlowClear => Sys2Proof.Machine.execRtcBatlowClear s
  | .rstoutRise => Sys2Proof.Machine.execRstoutRise s

end Sys2Proof.Machine
end

