-- ==== Sys2Proof/Safety.lean ====
section
/-! DEFINITION. What counts as a sound state and a safe step, and the words that statements share: which registers, memory bytes and event latches a command leaves alone. -/

namespace Sys2Proof.Machine

/-- A sound state: memory and registers are in canonical form, so that equal contents are equal data, and TBCOUNT is a 48-bit
count (R31). -/
def State.sound (s : State) : Bool := Memory.wf s.mem && Tab.wf regReset s.regs && decide (s.tb.count < 2 ^ 48)

/-- A safe step: it answers a next state. -/
def State.stepsOn (s : State) : Prop := ∃ t, step s = .next t

/-- The four latch registers of EVT (R445). -/
def latchRegs : List Nat := [Reg.evtPendLo, Reg.evtPendHi, Reg.evtHpendLo, Reg.evtHpendHi]

/-- From s to t every register holds what it held, but those of a list and the event latches. -/
def regsKept (s t : State) (l : List Nat) : Prop := ∀ a, a ∉ l → a ∉ latchRegs → t.reg a = s.reg a

/-- From s to t every byte of memory reads as before, but those at addresses of lo..hi-1. -/
def memKept (s t : State) (lo hi : Nat) : Prop := ∀ a, ¬(lo ≤ a ∧ a < hi) → t.byte a = s.byte a

/-- Does a byte of memory belong to the storage of ring n, as its registers stand? -/
def State.inRing (s : State) (n a : Nat) : Bool :=
  (s.reg (Reg.rngBase n)).toNat ≤ a && a < (s.reg (Reg.rngBase n)).toNat + 2 ^ s.ringDepth n * s.ringEsize n

/-- The storage of ring n lies below address x. -/
abbrev State.ringBelow (s : State) (n x : Nat) : Prop :=
  (s.reg (Reg.rngBase n)).toNat + 2 ^ s.ringDepth n * s.ringEsize n ≤ x

/-- From s to t memory outside the Knab store reads as before, and so does every byte of the store that a reader may name, but the
touched ones (R495: a retired page stands in a spare). -/
def storeKept (s t : State) (touched : Nat → Bool) : Prop :=
  memKept s t (knabPage 0) (knabPage 1040) ∧
    ∀ a, knabPage 0 ≤ a → a < knabPage 1024 → touched a = false → t.knabByte a = s.knabByte a

/-- Does an address lie in one of the pages lo..hi-1 of the store? -/
def inPages (lo hi a : Nat) : Bool := knabPage lo ≤ a && a < knabPage hi

/-- Does an address lie in the journal: pages 60-62 and 64-127 (R494)? -/
def inJournal (a : Nat) : Bool := inPages 60 63 a || inPages 64 128 a

/-- What an entry offered to ring n may change: the ring's indices and drop count, and its storage (R456, R458, R459). -/
def ringRegs (n : Nat) : List Nat := [Reg.rngHead n, Reg.rngTail n, Reg.rngDrop n, Reg.rngDropf]

/-- From s to t every byte of memory outside the storage of ring n reads as before. -/
def memKeptOutsideRing (s t : State) (n : Nat) : Prop := ∀ a, s.inRing n a = false → t.byte a = s.byte a

/-- Ring n, if it is enabled, has entries of k bytes, as the runtime sets it up (R453). -/
abbrev State.ringFits (s : State) (n k : Nat) : Prop := s.ringOn n = true → s.ringEsize n = k

/-- The core latch of source n. -/
def State.coreLatch (s : State) (n : Nat) : Bool := if n < 32 then s.rb Reg.evtPendLo n else s.rb Reg.evtPendHi (n - 32)

/-- The host latch of source n. -/
def State.hostLatch (s : State) (n : Nat) : Bool := if n < 32 then s.rb Reg.evtHpendLo n else s.rb Reg.evtHpendHi (n - 32)

/-- From s to t exactly the sources of a list have fired (R446, R447): a latch is set where it was set, where its source fired and
the variant has it, or where it is of a level source whose cause holds in t; every other latch is as it was. -/
def eventsFired (s t : State) (l : List Nat) : Prop :=
  ∀ n, n < 64 →
    t.coreLatch n = (s.coreLatch n || (!eventAbsent s.variant n && (l.contains n || (levelSources.contains n && t.levelCause n false)))) ∧
    t.hostLatch n = (s.hostLatch n || (!eventAbsent s.variant n && (l.contains n || (levelSources.contains n && t.levelCause n true))))

/-- CEN as it stands in s, but for what it has noted by t of the order of the sources that fired (R156). -/
def cenNoted (s t : State) : CenSt := { s.cen with notes := t.cen.notes }

/-- A command that finds nothing to do: it completes, and changes nothing but the latches of level sources, and what CEN notes of
them. -/
def changesNothing (c : Instr) (s : State) : Prop :=
  ∃ t, exec c s = .next t ∧ t = { s with regs := t.regs, cen := cenNoted s t } ∧ regsKept s t [] ∧ eventsFired s t []

/-- May an initiator write unit u here: the runtime and the ladle always, the host only where it owns the unit (R53)? -/
abbrev mayWrite (who : Init) (u : Nat) (s : State) : Prop := who = .host → s.hostOwns u = true

end Sys2Proof.Machine
end

