-- ==== Sys2Proof/Certificates/Slice0/Obligations.lean ====
section
/-! DEFINITION. The statements about the model: what the block as a whole does, and per family of commands what each does and leaves alone. Each is over every state that meets the hypotheses written in it. -/

open Sys2Proof Sys2Proof.Machine

/-- For every command c and state s whose queue is c followed by rest, the step of s is exec of c on s with the queue rest. On an
empty queue the step answers s itself (the model's choice, log entry 3). (00_scope, 95_what_each_step_holds) -/
def Obligations.StepRunsFrontCommand : Prop :=
  (∀ (c : Instr) (s : State) (rest : List Instr), s.pending = c :: rest →
    step s = exec c { s with pending := rest }) ∧
  ∀ s : State, s.pending = [] → step s = .next s

/-- Memory and the register file of the reset state are in canonical form and TBCOUNT, 48 bits wide, is 0 and not counting.
(01_architecture R31, 11_power_reset_pour R378) -/
def Obligations.ResetStateIsSound : Prop :=
  State.reset.sound = true ∧ State.reset.tb.count = 0 ∧ State.reset.tb.running = false ∧ State.reset.pending = []

/-- If a step of a sound state answers a next state, that state is sound: its memory and its register file are strictly sorted
with no entry equal to what an unlisted address reads as, so equal contents are equal data, and TBCOUNT is below 2^48. This
holds whichever command stands at the front of the queue, with any operands, and whatever the free values are.
(01_architecture R31, 12_host_port_memory R402) -/
def Obligations.EveryStepKeepsSoundness : Prop :=
  ∀ s t : State, s.sound = true → step s = .next t → t.sound = true

/-- Whatever command stands at the front of the queue, with any operands and in any state, the step answers a next state: no
command ends in a fault or a refusal. (00_scope, 20_faults R613) -/
def Obligations.NoCommandStopsTheBlock : Prop :=
  ∀ s : State, ∃ t, step s = .next t

/-- The effect of a command leaves the commands that wait behind it, the variant of the part and its fuses as they were, and
never turns the model's time back. (01_architecture, 00_scope R1) -/
def Obligations.CommandsKeepQueueVariantFuses : Prop :=
  ∀ (c : Instr) (s t : State), exec c s = .next t →
    t.pending = s.pending ∧ t.variant = s.variant ∧ t.fuse = s.fuse ∧ s.now ≤ t.now

/-- A read of TBO_TBCOUNT_LO by any initiator returns bits 31:0 of TBCOUNT and puts bits 47:32 into TBO_TBCOUNT_HI, so that a
read of HI after it completes one consistent 48-bit value. No other register, no memory and no event latch changes. (R33) -/
def Obligations.TbcountReadIsConsistent : Prop :=
  ∀ (who : Init) (s : State), ∃ t, exec (.tbcountLoRead who) s = .next t ∧
    t.lastRead = BitVec.ofNat 32 (s.tb.count % 2 ^ 32) ∧
    t.reg Reg.tboTbcountHi = BitVec.ofNat 32 (s.tb.count / 2 ^ 32 % 2 ^ 16) ∧
    t = { s with regs := t.regs, lastRead := t.lastRead, cen := cenNoted s t } ∧
    regsKept s t [Reg.tboTbcountHi] ∧ eventsFired s t []

/-- Out of reset and chill a base tick lets one tick of time pass. Once TBCOUNT runs, it advances by one and passes from its
largest 48-bit value to 0; where the value of a TICK token c waits to be loaded, it takes the value of that tick, c + 1, and
the tick phase 0; before TBO has locked, and while chill entry waits at its boundary, it stays. In chill TBO is stopped:
nothing changes but the level latches, whose causes are re-read. (01_architecture R29, 01_architecture R31, 01_architecture
R35, 01_architecture R36, 08_object_dictionary R295, 10_twin_pair R351) -/
def Obligations.BaseTickCounts : Prop :=
  (∀ s : State, s.awake = true → s.tb.running = true → s.chillNow = false ∨ s.chillWaits = false → s.twn.reload = none →
    ∃ t, exec .baseTick s = .next t ∧ t.now = s.now + 1 ∧ t.tb = { s.tb with count := (s.tb.count + 1) % 2 ^ 48 }) ∧
  (∀ (s : State) (c : Nat), s.awake = true → s.tb.running = true → s.chillNow = false ∨ s.chillWaits = false → s.twn.reload = some c →
    ∃ t, exec .baseTick s = .next t ∧ t.now = s.now + 1 ∧ t.tb = { s.tb with count := (c + 1) % 2 ^ 48, phase := 0 } ∧ t.twn.reload = none) ∧
  (∀ s : State, s.awake = true → s.tb.running = false ∨ (s.chillNow = true ∧ s.chillWaits = true) →
    ∃ t, exec .baseTick s = .next t ∧ t.now = s.now + 1 ∧ t.tb = s.tb) ∧
  (∀ s : State, s.asleep = true → s.pwr.good = true → s.pwr.held = none →
    ∃ t, exec .baseTick s = .next t ∧ t = { s with regs := t.regs, cen := cenNoted s t } ∧ regsKept s t [] ∧ eventsFired s t [])

/-- A crystal that stops while TBO runs puts TBO on its temperature table, sets TBO_STAT.XLOST, fires event 59, logs fault
XTAL_STOP and leaves TBCOUNT counting. TBO_LOCK with a running crystal sets LOCKED and PWR_STAT.TBOLOCK and starts TBCOUNT. A
crystal edge after a stop clears XLOST and lets the RTC fields go on. The reset of cause 6 is released when the TBO count has
recovered, and the recall of shakeout begins, unless NRST stands low, which then holds the reset. Each command names every
register and every part of the state it changes; events other than those named do not fire. (01_architecture R28,
01_architecture R31, 11_power_reset_pour R377, 11_power_reset_pour R385, 16_rtc R544) -/
def Obligations.CrystalAndTboSupervision : Prop :=
  (∀ s : State, s.awake = true → s.tb.running = true → s.tb.onTable = false →
    ∃ t, exec .xtalStop s = .next t ∧ t.tb = { s.tb with xtalOk := false, onTable := true } ∧ t.rb Reg.tboStat 1 = true ∧
      t.log = (s.fault 0x0101 0).log ∧
      t = { s with regs := t.regs, tb := t.tb, log := t.log, cen := cenNoted s t } ∧
      regsKept s t [Reg.tboStat] ∧ eventsFired s t [59]) ∧
  (∀ s : State, s.pwr.held = some 6 → s.pwr.nrstLow = true →
    ∃ t, exec .tboRangeRecovery s = .next t ∧
      t = { s with regs := t.regs, pwr := { s.pwr with held := some 2 }, cen := cenNoted s t } ∧ regsKept s t [] ∧ eventsFired s t []) ∧
  (∀ s : State, s.pwr.held = some 6 → s.pwr.nrstLow = false →
    ∃ t, exec .tboRangeRecovery s = .next t ∧
      t = { s with regs := t.regs, pwr := { s.pwr with held := none, shakeFrom := s.now, wdLast := s.now }, cen := cenNoted s t } ∧ t.shakeStep = 2 ∧
      regsKept s t [Reg.pwrShake] ∧ eventsFired s t []) ∧
  (∀ s : State, s.awake = true → s.tb.xtalOk = true → s.rb Reg.tboStat 0 = false →
    ∃ t, exec .tboLock s = .next t ∧ t = { s with regs := t.regs, tb := { s.tb with running := true, onTable := false }, cen := cenNoted s t } ∧
      t.rb Reg.tboStat 0 = true ∧ t.rb Reg.pwrStat 6 = true ∧ regsKept s t [Reg.tboStat, Reg.pwrStat] ∧ eventsFired s t []) ∧
  (∀ s : State, ∃ t, exec .xtalResume s = .next t ∧
      t = { s with regs := t.regs, tb := { s.tb with xtalOk := true, onTable := false }, rtc := { s.rtc with xstopped := false }, cen := cenNoted s t } ∧
      t.rb Reg.tboStat 1 = false ∧ regsKept s t [Reg.tboStat] ∧ eventsFired s t [])

/-- At a class-0 boundary an accepted SYS_OWN mask becomes SYS_OWN.HOST and waits no longer; where no unit returns and LDL does
not pass to the host, nothing else changes. When a unit, owned alone, returns to the runtime, its registers take their reset
values, but those of the RTC domain, of SHDN and those that fuses or the runtime then load, and no register of another unit
but SYS_OWN changes; the RAMs of CEN are cleared, the channels of the ladle, the actuators, fans, keys, buses and polls start
afresh, and the clock of RTC goes on. With no accepted mask nothing changes. (01_architecture R49, 01_architecture R50) -/
def Obligations.OwnershipHandover : Prop :=
  (∀ (s : State) (m : Nat), s.atBoundary0 = true → s.od.ownPending = some m →
    (∀ n ∈ ownable, s.hostOwns n = true → m.testBit n = true) → (m.testBit 5 = true → s.hostOwns 5 = true) →
    ∃ t, exec .ownershipHandover s = .next t ∧ t = { s with regs := t.regs, od := { s.od with ownPending := none }, cen := cenNoted s t } ∧
      t.reg Reg.sysOwn = BitVec.ofNat 32 m ∧ regsKept s t [Reg.sysOwn] ∧ eventsFired s t []) ∧
  (∀ (s : State) (n : Nat), n ∈ ownable → s.atBoundary0 = true → s.od.ownPending = some 0 →
    s.reg Reg.sysOwn = BitVec.ofNat 32 (2 ^ n) →
    ∃ t, exec .ownershipHandover s = .next t ∧
      t = { s with regs := t.regs, mem := t.mem, od := { s.od with ownPending := none },
                   ldl := if n = 5 then {} else s.ldl, acq := t.acq, act := t.act, fan := t.fan, kpd := t.kpd, rtc := t.rtc,
                   buses := t.buses, polls := t.polls, zon := { s.zon with schedDue := s.zon.schedDue || decide (n = 12) },
                   knb := { s.knb with strokeMark := t.knb.strokeMark }, cen := t.cen } ∧
      t.reg Reg.sysOwn = 0 ∧
      (∀ a, regUnit a = n → a ∉ rtcDomainRegs → a ∉ shdnRegs → a ∉ [Reg.rtcStat, Reg.rtcMeasCfg, Reg.rtcMeasCntLo, Reg.rtcMeasCntHi] →
        a ∉ (List.range 4).flatMap (fun k => [Reg.acqSliceCorr k, Reg.acqSliceSkew k]) → t.reg a = regReset a) ∧
      (∀ a, regUnit a ≠ n ∨ a ∈ shdnRegs → a ≠ Reg.sysOwn → a ∉ latchRegs → t.reg a = s.reg a) ∧ eventsFired s t [] ∧
      (n ≠ 6 → t.acq = s.acq) ∧
      (n = 6 → t.acq = { s.acq with phase := .stopped, inflight := [], update := none, entry := 0, len := 1, diff := 0 }) ∧
      (n ≠ 7 → t.cen = cenNoted s t ∧ t.mem = s.mem) ∧
      (n = 7 → (∀ a, t.byte a = if 0x40000000 ≤ a ∧ a < 0x40040000 then 0 else s.byte a) ∧
        t.cen.frames = ({} : CenSt).frames ∧ t.cen.lastBoundary = none) ∧
      (n ≠ 9 → t.act = s.act ∧ t.knb = s.knb) ∧
      (n = 9 → ∀ k, k < s.nActs → (t.act1 k).pos = none ∧ (t.act1 k).unsync = true ∧ (t.act1 k).atLo = false ∧
        (t.act1 k).atHi = false ∧ t.strokesSince k = s.strokesSince k) ∧
      (n ≠ 10 → t.fan = s.fan) ∧
      (n = 10 → ∀ f, f < s.nFans → (t.fan1 f).state = 0 ∧ (t.fan1 f).retry = 0 ∧ (t.fan1 f).slew = false ∧ (t.fan1 f).buddy = false) ∧
      (n ≠ 11 → t.kpd = s.kpd) ∧
      (n = 11 → (∀ k, t.kpdKeysWord k = 0) ∧ t.kpd.seqLo = 0 ∧ t.kpd.seqHi = 0 ∧ t.kpd.encs = [{}, {}, {}, {}]) ∧
      (n ≠ 12 → t.rtc = s.rtc) ∧
      (n = 12 → t.rtc.measDone = false ∧ t.rtc.epoch = s.rtc.epoch ∧ t.rtc.cyc = s.rtc.cyc ∧ (∀ a ∈ [Reg.rtcSec, Reg.rtcMin, Reg.rtcHour,
        Reg.rtcDate, Reg.rtcMonth, Reg.rtcYear, Reg.rtcCent, Reg.rtcHaltticks, Reg.rtcAlm0T, Reg.rtcAlm0D], t.reg a = s.reg a)) ∧
      (n ≠ 19 → t.buses = s.buses ∧ t.polls = s.polls) ∧
      (n = 19 → (∀ b, b < 3 → t.sbusBusy b = false ∧ (t.bus b).waiting = [] ∧ (t.bus b).poll = none) ∧
        t.buses.map BusSt.lastStuck = s.buses.map BusSt.lastStuck ∧ ∀ x ∈ t.polls, x.2.running = false)) ∧
  (∀ s : State, s.od.ownPending = none →
    ∃ t, exec .ownershipHandover s = .next t ∧ t = { s with regs := t.regs, cen := cenNoted s t } ∧ regsKept s t [] ∧ eventsFired s t [])

/-- A write of 1 to RUN while it is 0, by an initiator that may write ACQ, sets RUN, clears ACQ_PASSCNT and VALID and FRESH of
every status word, and leaves the first pass pending with base slice 0. A write of 0 while RUN is 1 clears RUN, clears every
live sum and count, and leaves every other byte, the PVs among them, as it was. A write of the value RUN holds changes
nothing. No event fires. (02_acquisition R93, 02_acquisition R97, 02_acquisition R72, 02_acquisition R25) -/
def Obligations.AcqStartAndStop : Prop :=
  (∀ (who : Init) (s : State), (who = .host → s.hostOwns 6 = true) → s.rb Reg.acqCtrl 0 = false →
    ∃ t, exec (.acqStart who) s = .next t ∧ t = { s with regs := t.regs, mem := t.mem, acq := t.acq, cen := cenNoted s t } ∧
      t.rb Reg.acqCtrl 0 = true ∧ t.reg Reg.acqPasscnt = 0 ∧ t.acq.phase = .passPending ∧ t.acq.base = 0 ∧
      (∀ d, d < 88 → t.word (acqStatus d) = s.word (acqStatus d) &&& 0xFFFCFFFF) ∧
      memKept s t 0x70000800 0x70000960 ∧ regsKept s t [Reg.acqCtrl, Reg.acqPasscnt] ∧ eventsFired s t []) ∧
  (∀ (who : Init) (s : State), (who = .host → s.hostOwns 6 = true) → s.rb Reg.acqCtrl 0 = true →
    ∃ t, exec (.acqStop who) s = .next t ∧ t = { s with regs := t.regs, mem := t.mem, acq := t.acq, cen := cenNoted s t } ∧
      t.rb Reg.acqCtrl 0 = false ∧ t.acq.phase = .stopped ∧ (∀ a, 0x70001000 ≤ a → a < 0x700012C0 → t.byte a = 0) ∧
      memKept s t 0x70001000 0x700012C0 ∧ regsKept s t [Reg.acqCtrl] ∧ eventsFired s t []) ∧
  (∀ (who : Init) (s : State), (who = .host → s.hostOwns 6 = true) →
    (s.rb Reg.acqCtrl 0 = true → ∃ t, exec (.acqStart who) s = .next t ∧ t = { s with regs := t.regs, cen := cenNoted s t } ∧ regsKept s t [] ∧ eventsFired s t []) ∧
    (s.rb Reg.acqCtrl 0 = false → ∃ t, exec (.acqStop who) s = .next t ∧ t = { s with regs := t.regs, cen := cenNoted s t } ∧ regsKept s t [] ∧ eventsFired s t []))

/-- A pass that is due, with no guard conversion due, clears every live sum, takes its base slice (0 for the first, then one more
or the last one plus the any-slice conversions of the pass before, modulo the slices) and starts entry 0 unless that entry is
skipped. An entry that is due starts with its registers as they stand. A conversion samples on the entry's fixed slice or on
slice (B + c) mod S, and c advances for an any-slice conversion alone. No register changes and no event fires.
(02_acquisition R65, 02_acquisition R67, 02_acquisition R68, 02_acquisition R70, 02_acquisition R71, 02_acquisition R72,
02_acquisition R95, 02_acquisition R97) -/
def Obligations.PassesEntriesAndSamples : Prop :=
  (∀ s : State, s.awake = true → s.acq.phase = .passPending → s.passReady = true → s.acq.guardDue = [] →
    State.acqSkips { s with acq := { s.acq with diff := s.reg Reg.acqDiff } } (s.acqEntryOf 0) = false →
    ∃ t, exec .passStart s = .next t ∧ t = { s with regs := t.regs, mem := t.mem, acq := t.acq, cen := cenNoted s t } ∧
      t.acq.phase = .inEntry ∧ t.acq.entry = 0 ∧ t.acq.cur = s.acqEntryOf 0 ∧ t.acq.sampled = 0 ∧ t.acq.anyCount = 0 ∧
      t.acq.base = (if s.acq.keepBase then s.acq.base
        else if s.rb Reg.acqCfg 0 then (s.acq.base + 1) % s.nSlices else (s.acq.base + s.acq.anyCount) % s.nSlices) ∧
      (∀ a, 0x70001000 ≤ a → a < 0x700012C0 → t.byte a = 0) ∧ memKept s t 0x70001000 0x700012C0 ∧
      regsKept s t [] ∧ eventsFired s t []) ∧
  (∀ s : State, s.awake = true → s.acq.phase = .entryPending → s.acq.readyAt ≤ s.now → s.acq.guardDue = [] →
    s.acq.entry + 1 < s.acq.len → s.acqSkips (s.acqEntryOf (s.acq.entry + 1)) = false →
    ∃ t, exec .entryStart s = .next t ∧ t = { s with regs := t.regs, acq := { s.acq with
        entry := s.acq.entry + 1, phase := .inEntry, delayed := false, cur := s.acqEntryOf (s.acq.entry + 1), sampled := 0, completed := 0 }, cen := cenNoted s t } ∧
      regsKept s t [] ∧ eventsFired s t []) ∧
  (∀ (code : Int) (s : State), s.awake = true → s.acq.phase = .inEntry → s.acq.sampled < s.acq.cur.rep → s.acq.guardDue = [] →
    (∀ c ∈ s.acq.inflight, c.slice ≠ (match s.acq.cur.slice with | some n => n | none => (s.acq.base + s.acq.anyCount) % s.nSlices)) →
    ∃ t, exec (.conversionSample code) s = .next t ∧ t = { s with regs := t.regs, acq := t.acq, cen := cenNoted s t } ∧
      t.acq.sampled = s.acq.sampled + 1 ∧
      t.acq.anyCount = s.acq.anyCount + (match s.acq.cur.slice with | some _ => 0 | none => 1) ∧
      (t.acq.inflight.map (fun c => (c.chan, c.slice))) = s.acq.inflight.map (fun c => (c.chan, c.slice)) ++
        [(s.acq.cur.chan, match s.acq.cur.slice with | some n => n | none => (s.acq.base + s.acq.anyCount) % s.nSlices)] ∧
      regsKept s t [] ∧ eventsFired s t [])

/-- A fettle conversion that is due waits for its pair; the one that completes a pair moves OFFS and GAIN of its slice by at most
one unit each while FREEZE is 0, and leaves neither corrected fettle code further from its fuse code (the form in which the
model holds moving towards, log entry 22). NOPAIR at 2^20 sets STALE and FAST, fires events 10 and 11 and logs SLICE_STALE.
After 1,024 pairs STALE clears, and with the last STALE bit FAST clears and event 10 fires. A write of a slice correction
acts under FREEZE alone. (02_acquisition R87, 02_acquisition R88, 02_acquisition R89, 02_acquisition R90, 02_acquisition R91,
02_acquisition R94, 02_acquisition R104) -/
def Obligations.EstimatorAndStaleSlices : Prop :=
  (∀ (n : Nat) (code : Int) (s : State), s.awake = true → n < s.nSlices → s.sliceFree n = true →
    (if s.rb Reg.acqCal 8 then 64 else 65536) ≤ (s.sliceOf n).others →
    (s.sliceOf n).ref85 = none →
    ∃ t, exec (.fettleConversion n code) s = .next t ∧
      t = { s with regs := t.regs, acq := { s.acq with slices := t.acq.slices }, cen := cenNoted s t } ∧
      t.sliceOf n = { s.sliceOf n with others := 0, ref85 := some (rawCode code false) } ∧
      (∀ m, m ≠ n → t.sliceOf m = s.sliceOf m) ∧ regsKept s t [] ∧ eventsFired s t []) ∧
  (∀ (n : Nat) (code x : Int) (s : State), s.awake = true → n < s.nSlices → s.sliceFree n = true →
    (if s.rb Reg.acqCal 8 then 64 else 65536) ≤ (s.sliceOf n).others → (s.sliceOf n).ref85 = some x →
    ∃ t, exec (.fettleConversion n code) s = .next t ∧
      t = { s with regs := t.regs, free := t.free, acq := { s.acq with slices := t.acq.slices }, cen := cenNoted s t } ∧
      t.sliceOf n = { s.sliceOf n with others := 0, ref85 := none } ∧ (∀ m, m ≠ n → t.sliceOf m = s.sliceOf m) ∧
      (s.rb Reg.acqCfg 1 = true → t.reg (Reg.acqSliceCorr n) = s.reg (Reg.acqSliceCorr n)) ∧
      (s.fettleError (t.sliceOffs n) (t.sliceGain n) x (rawCode code false)).1 ≤
        (s.fettleError (s.sliceOffs n) (s.sliceGain n) x (rawCode code false)).1 ∧
      (s.fettleError (t.sliceOffs n) (t.sliceGain n) x (rawCode code false)).2 ≤
        (s.fettleError (s.sliceOffs n) (s.sliceGain n) x (rawCode code false)).2 ∧
      (sfld (t.reg (Reg.acqSliceCorr n)) 0 16 - sfld (s.reg (Reg.acqSliceCorr n)) 0 16).natAbs ≤ 1 ∧
      ((t.rf (Reg.acqSliceCorr n) 16 16 : Int) - s.rf (Reg.acqSliceCorr n) 16 16).natAbs ≤ 1 ∧
      regsKept s t [Reg.acqSliceCorr n] ∧ eventsFired s t []) ∧
  (∀ (n : Nat) (s : State), n < s.nSlices → s.rf (Reg.acqSliceNopair n) 0 21 = 1048576 → s.rb Reg.acqCal n = false →
    ∃ t, exec (.sliceStale n) s = .next t ∧
      t = { s with regs := t.regs, log := t.log, acq := { s.acq with slices := t.acq.slices }, cen := cenNoted s t } ∧
      t.rb Reg.acqCal n = true ∧ t.rb Reg.acqCal 8 = true ∧ t.log = (s.fault 0x0301 n).log ∧
      regsKept s t [Reg.acqCal] ∧ eventsFired s t [10, 11]) ∧
  (∀ (n : Nat) (s : State), n < s.nSlices → s.rb Reg.acqCal n = true → 1024 ≤ (s.sliceOf n).stalePairs →
    ∃ t, exec (.staleClear n) s = .next t ∧
      t = { s with regs := t.regs, log := t.log, cen := cenNoted s t } ∧
      t.rb Reg.acqCal n = false ∧ t.log = (s.faultClear 0x0301 n).log ∧ regsKept s t [Reg.acqCal] ∧
      ((∀ m, m < 4 → m ≠ n → s.rb Reg.acqCal m = false) → t.rb Reg.acqCal 8 = false ∧ eventsFired s t [10]) ∧
      ((∃ m, m < 4 ∧ m ≠ n ∧ s.rb Reg.acqCal m = true) → t.rb Reg.acqCal 8 = s.rb Reg.acqCal 8 ∧ eventsFired s t [])) ∧
  (∀ (who : Init) (n : Nat) (skew : Bool) (v : Word) (s : State), n < s.nSlices → (who = .host → s.hostOwns 6 = true) →
    ∃ t, exec (.sliceCorrWrite who n skew v) s = .next t ∧ t = { s with regs := t.regs, cen := cenNoted s t } ∧
      (let a := if skew then Reg.acqSliceSkew n else Reg.acqSliceCorr n
       t.reg a = (if s.rb Reg.acqCfg 1 then (if skew then v &&& 0xFF else v) else s.reg a) ∧ regsKept s t [a]) ∧ eventsFired s t [])

/-- By an initiator that may write CEN: a write of RUN = 1 while RUN is 0 starts the frame plan where the periods keep R37 and
admission finds a load of at most 85.00 %, sets PERIOD_FAIL alone where the periods fail, and ADMIT_FAIL where the load is
higher; ADMIT reports the load and leaves RUN. RUN = 0 ends every frame, discards every U_PEND and leaves every U and every
coefficient. A period is written while RUN is 0; while RUN is 1 the write is ignored and sets IGNORED. (03_control_frames
R37, 03_control_frames R122, 03_control_frames R126, 03_control_frames R128, 03_control_frames R129) -/
def Obligations.ControlEngineRunAndPeriods : Prop :=
  (∀ (who : Init) (s : State), (who = .host → s.hostOwns 7 = true) → s.rb Reg.cenCtrl 0 = false →
    ∃ t, exec (.cenRun who) s = .next t ∧ t = { s with regs := t.regs, cen := t.cen } ∧ eventsFired s t [] ∧
      (let ns := (List.range 4).map s.period
       let load := (admission ((List.range 4).map (fun k => s.enabledClasses.count k)) ns).1
       (periodsOk ns = false → t.rb Reg.cenStat 9 = true ∧ t.cen = cenNoted s t ∧ regsKept s t [Reg.cenStat]) ∧
       (periodsOk ns = true → load ≤ 8500 → t.rb Reg.cenCtrl 0 = true ∧ t.rb Reg.cenAdmit 31 = true ∧ t.rf Reg.cenAdmit 0 16 = load ∧
         t.cen.badLogged = [] ∧ t.cen.frames = [{}, {}, {}, {}] ∧ t.cen.first = (List.range s.nSlots).filter s.slotRuns ∧ t.cen.trc = s.cen.trc ∧
         regsKept s t ([Reg.cenCtrl, Reg.cenAdmit] ++ [0, 1, 2, 3].map Reg.cenLoad)) ∧
       (periodsOk ns = true → 8500 < load → t.rb Reg.cenStat 8 = true ∧ t.rb Reg.cenAdmit 31 = false ∧ t.rf Reg.cenAdmit 0 16 = load ∧
         t.cen = cenNoted s t ∧ regsKept s t ([Reg.cenStat, Reg.cenAdmit] ++ [0, 1, 2, 3].map Reg.cenLoad)))) ∧
  (∀ (who : Init) (s : State), (who = .host → s.hostOwns 7 = true) → s.rb Reg.cenCtrl 0 = true →
    ∃ t, exec (.cenStop who) s = .next t ∧ t = { s with regs := t.regs, mem := t.mem, cen := { cenNoted s t with frames := [{}, {}, {}, {}] } } ∧
      t.rb Reg.cenCtrl 0 = false ∧ (∀ n, n < s.nSlots → t.slotPend n = false ∧ t.word (slotState n) = s.word (slotState n)) ∧
      memKept s t 0x40020000 0x40030000 ∧ regsKept s t [Reg.cenCtrl] ∧ eventsFired s t []) ∧
  (∀ (who : Init) (s : State), (who = .host → s.hostOwns 7 = true) → (∀ k, k < 4 → s.period k ≠ 0) →
    ∃ t, exec (.cenAdmit who) s = .next t ∧ t = { s with regs := t.regs, cen := cenNoted s t } ∧
      t.rf Reg.cenAdmit 0 16 = (admission ((List.range 4).map (fun k => s.enabledClasses.count k)) ((List.range 4).map s.period)).1 ∧
      regsKept s t (Reg.cenAdmit :: [0, 1, 2, 3].map Reg.cenLoad) ∧ eventsFired s t []) ∧
  (∀ (who : Init) (k : Nat) (v : Word) (s : State), k < 4 → (who = .host → s.hostOwns 7 = true) →
    ∃ t, exec (.cenPeriodWrite who k v) s = .next t ∧ t = { s with regs := t.regs, cen := cenNoted s t } ∧ eventsFired s t [] ∧
      (s.rb Reg.cenCtrl 0 = false → t.reg (Reg.cenPeriod k) = v &&& 0x1FFFFF ∧ regsKept s t [Reg.cenPeriod k]) ∧
      (s.rb Reg.cenCtrl 0 = true → t.rb Reg.cenStat 11 = true ∧ regsKept s t [Reg.cenStat]))

/-- On a chip outside a flask, the next slot of the lowest class that evaluates, where more slots of its frame follow, no trace
channel is armed and it names only allowed sources and destinations: its state words take what the arithmetic of R144
computes from its coefficient words, sources and past state; E and Y histories shift whatever TYPE is; U stays. No other byte
of memory and no register changes, and event 5 fires exactly where LIMEV is set and the clamp pair differs from the last one,
(0, 0) at the first evaluation after a start. (04_control_arithmetic R144, 04_control_arithmetic R145, 04_control_arithmetic
R148, 04_control_arithmetic R149, 03_control_frames R107, 03_control_frames R115) -/
def Obligations.SlotEvaluationWritesItsState : Prop :=
  ∀ (s : State) (k n m : Nat) (rest : List Nat), s.awake = true → s.rb Reg.cenCtrl 0 = true → s.isTwin = false →
    k < 4 → s.cen.frames.length = 4 → (∀ j, j < k → (s.frame j).busy = false) → (s.frame k).busy = true → (s.frame k).todo = n :: m :: rest →
    n < s.nSlots → (∀ c, c < 4 → s.trcState c = 0 ∨ s.trcState c = 3) → s.slotOn n = true → (s.evalInput (s.frame k) n).2 = false → (s.destination (s.coef n 8)).2 = false → s.twn.grafts = [] →
    ∃ t, exec .slotEvaluation s = .next t ∧ t = { s with regs := t.regs, mem := t.mem, cen := t.cen } ∧
      (let r := (s.evalInput (s.frame k) n).1.run
       let old := (s.evalInput (s.frame k) n).1
       let w := fun off => t.word (slotState n + off)
       w 4 = ofInt32 r.u ∧ w 8 = ofInt32 r.i ∧ w 0xC = ofInt32 r.e ∧ w 0x10 = ofInt32 (old.es.getD 0 0) ∧ w 0x14 = ofInt32 (old.es.getD 1 0) ∧
       w 0x18 = ofInt32 r.y ∧ w 0x1C = ofInt32 (old.ys.getD 0 0) ∧ w 0x20 = ofInt32 (old.ys.getD 1 0) ∧ w 0x24 = ofInt32 r.x ∧
       w 0x28 = ofInt32 r.e ∧ w 0x2C = ofInt32 r.sp ∧ bitOf (w 0x30) 0 = r.ohi ∧ bitOf (w 0x30) 1 = r.olo ∧ bitOf (w 0x30) 2 = r.frz ∧
       bitOf (w 0x30) 3 = r.isat ∧ bitOf (w 0x30) 4 = r.sat ∧ bitOf (w 0x30) 5 = true ∧ bitOf (w 0x30) 7 = false ∧
       eventsFired s t (if bitOf (s.coef n 0) 12 &&
         ((bitOf (s.slotWord n 0x30) 0 && !s.slotFirst (s.frame k) n) != r.ohi || (bitOf (s.slotWord n 0x30) 1 && !s.slotFirst (s.frame k) n) != r.olo)
         then [5] else [])) ∧
      memKept s t (slotState n + 4) (slotState n + 0x34) ∧ regsKept s t [] ∧
      (t.frame k).todo = m :: rest ∧ (t.frame k).evald = (s.frame k).evald ++ [n] ∧ recGet 0 (t.frame k).dests n = s.coef n 8 ∧
      t.cen.first = s.cen.first.filter (fun i => !(i == n && s.slotFirst (s.frame k) n))

/-- For every input of an evaluation: with OMIN at most OMAX the output lies in OMIN to OMAX, otherwise it is OMAX; with INT = 0
the integrator is 0; with INT = 1 and IMIN at most IMAX it lies in IMIN to IMAX; frozen, it is the clamped old value; and it
is never frozen without INT. The unclamped sum, the error and y are 32-bit numbers. (04_control_arithmetic R142,
04_control_arithmetic R143, 04_control_arithmetic R146, 04_control_arithmetic R147) -/
def Obligations.EvaluationKeepsItsLimits : Prop :=
  ∀ a : EvalInput,
    (a.c 0x60 ≤ a.c 0x64 → a.c 0x60 ≤ a.run.u ∧ a.run.u ≤ a.c 0x64) ∧ (a.c 0x64 < a.c 0x60 → a.run.u = a.c 0x64) ∧
    (bitOf a.cfg 5 = false → a.run.i = 0 ∧ a.run.frz = false) ∧
    (bitOf a.cfg 5 = true → a.c 0x58 ≤ a.c 0x5C → a.c 0x58 ≤ a.run.i ∧ a.run.i ≤ a.c 0x5C) ∧
    (a.run.frz = true → a.run.i = cenClamp a.i (a.c 0x58) (a.c 0x5C)) ∧
    (-2147483648 ≤ a.run.v ∧ a.run.v ≤ 2147483647) ∧ (-2147483648 ≤ a.run.e ∧ a.run.e ≤ 2147483647) ∧
    (-2147483648 ≤ a.run.y ∧ a.run.y ≤ 2147483647)

/-- At a class-0 boundary of a chip outside a flask, with no function, ownership or start-up commit waiting: where the last
class-0 frame is complete with one pending slot without destination, its U takes U_PEND, its PEND clears, no other word of
memory but SSTAT changes, and a new frame opens over the running slots. Where the class-0 frame is unfinished, nothing
commits and memory stays: CEN_OVR0 counts one, event 4 fires, and the first such boundary also logs CEN_OVERRUN and fires
event 7. (01_architecture R39, 01_architecture R44, 01_architecture R45, 03_control_frames R109, 03_control_frames R124) -/
def Obligations.BoundaryCommitsAndOverrun : Prop :=
  (∀ (s : State) (n : Nat), s.boundaryDue = true → s.shakeStep = 12 → s.isTwin = false → s.rb Reg.cenCtrl 0 = true → s.startingClasses = [0] →
    s.od.ownPending = none → s.od.startup = none → (∀ f ∈ fnAll, (s.fn f).state ≠ 3 ∧ (s.fn f).ready = false) → s.pwr.wakeTicks = none →
    s.cen.frames.length = 4 → (s.frame 0).busy = false → (s.frame 0).ready = true → (s.frame 0).evald = [n] → s.slotPend n = true →
    s.slotRuns n = true → s.slotClass n = 0 → fld (recGet 0 (s.frame 0).dests n) 0 3 = 0 → s.act.tickDue = false →
    ∃ t, exec .frameBoundary s = .next t ∧ t = { s with regs := t.regs, mem := t.mem, cen := t.cen } ∧
      t.cen = { cenNoted s t with frames := t.cen.frames, lastBoundary := some s.now } ∧ t.word (slotState n) = s.word (slotState n + 4) ∧ t.slotPend n = false ∧
      (∀ a, isSnapped a = true → ¬(slotState n ≤ a ∧ a < slotState n + 4) → t.byte a = s.byte a) ∧
      memKept s t 0x40020000 0x40030000 ∧ (t.frame 0).busy = true ∧
      (t.frame 0).todo = s.runningSlots 0 ∧ (t.frame 0).tick = s.tb.count ∧ regsKept s t [] ∧ eventsFired s t []) ∧
  (∀ s : State, s.boundaryDue = true → s.shakeStep = 12 → s.isTwin = false → s.rb Reg.cenCtrl 0 = true → s.startingClasses = [0] →
    s.od.ownPending = none → s.od.startup = none → (∀ f ∈ fnAll, (s.fn f).state ≠ 3 ∧ (s.fn f).ready = false) → s.pwr.wakeTicks = none →
    s.cen.frames.length = 4 → (s.frame 0).busy = true → (s.frame 0).todo ≠ [] → s.act.tickDue = false →
    ∃ t, exec .frameBoundary s = .next t ∧ t = { s with regs := t.regs, log := t.log, cen := t.cen } ∧
      t.reg (Reg.cenOvr 0) = satAdd (s.reg (Reg.cenOvr 0)) 1 ∧ regsKept s t [Reg.cenOvr 0] ∧
      t.cen = { cenNoted s t with frames := s.cen.frames.set 0 { s.frame 0 with ovr := true }, lastBoundary := some s.now } ∧
      ((s.frame 0).ovr = true → t.log = s.log ∧ eventsFired s t [4]) ∧
      ((s.frame 0).ovr = false → t.log = (s.fault 0x0401 0).log ∧ eventsFired s t [4, 7]))

/-- By an initiator that may write CEN, on a channel the variant has: an arm whose NODE, KIND and SLOT are allowed sets WPTR to
0, clears WRAP, TPOS.VALID, TRIGF and DONEF and makes STATE ARMED; any other arm sets BADCFG and leaves STATE. STOP makes
STATE IDLE and keeps the flags. FORCE makes the next test true and changes no register. CFG, TRIG and LEVEL take the bits
they have while IDLE or DONE; otherwise the write is ignored and sets CEN_STAT.IGNORED. No event fires and no memory changes.
(04_control_arithmetic R157, 04_control_arithmetic R162, 04_control_arithmetic R163) -/
def Obligations.TraceChannels : Prop :=
  ∀ (who : Init) (c : Nat) (s : State), c < s.nTraces → (who = .host → s.hostOwns 7 = true) →
    (∃ t, exec (.traceArm who c) s = .next t ∧ t = { s with regs := t.regs, cen := { cenNoted s t with trc := t.cen.trc } } ∧ eventsFired s t [] ∧
      (s.trcBad c = false → t.cen.trc = s.cen.trc.set c { force := (s.trc c).force } ∧ t.trcState c = 1 ∧ t.reg (Reg.cenTrcWptr c) = 0 ∧ t.rb (Reg.cenTrcTpos c) 31 = false ∧
        t.rb (Reg.cenTrcStat c) 2 = false ∧ t.rb (Reg.cenTrcStat c) 3 = false ∧ t.rb (Reg.cenTrcStat c) 4 = false ∧
        regsKept s t [Reg.cenTrcWptr c, Reg.cenTrcTpos c, Reg.cenTrcStat c]) ∧
      (s.trcBad c = true → t.rb (Reg.cenTrcStat c) 5 = true ∧ t.trcState c = s.trcState c ∧ t.cen = cenNoted s t ∧ regsKept s t [Reg.cenTrcStat c])) ∧
    (∃ t, exec (.traceStop who c) s = .next t ∧ t = { s with regs := t.regs, cen := cenNoted s t } ∧ t.trcState c = 0 ∧
      (∀ i, 2 ≤ i → i < 32 → t.rb (Reg.cenTrcStat c) i = s.rb (Reg.cenTrcStat c) i) ∧ regsKept s t [Reg.cenTrcStat c] ∧ eventsFired s t []) ∧
    (∃ t, exec (.traceForce who c) s = .next t ∧
      t = { s with regs := t.regs, cen := { cenNoted s t with trc := s.cen.trc.set c { s.trc c with force := true } } } ∧
      regsKept s t [] ∧ eventsFired s t []) ∧
    (∀ (i : Nat) (v : Word), i < 3 → ∃ t, exec (.traceConfigWrite who c i v) s = .next t ∧ t = { s with regs := t.regs, cen := cenNoted s t } ∧ eventsFired s t [] ∧
      (s.trcState c = 0 ∨ s.trcState c = 3 → t.reg (Reg.cenTrcCfg c + 4 * i) = v &&& trcMask i ∧ regsKept s t [Reg.cenTrcCfg c + 4 * i]) ∧
      (s.trcState c = 1 ∨ s.trcState c = 2 → t.rb Reg.cenStat 11 = true ∧ regsKept s t [Reg.cenStat]))

/-- A step with rate 0, or at the target, answers the target and clears the remainder. Otherwise it answers the target with no
remainder, where the whole units of this step reach it, or it moves towards the target by exactly those whole units and keeps
the rest of the division as remainder, below the denominator, so that nothing of the rate is lost between steps.
(05_zones_presence R176) -/
def Obligations.SetpointStepIsExact : Prop :=
  ∀ (sp tgt rate : Int) (den n2 acc : Nat), 0 ≤ rate → 0 < den →
    let r := rateStep sp tgt rate den n2 acc
    (rate = 0 ∨ sp = tgt → r = (tgt, 0)) ∧
    (rate ≠ 0 → sp ≠ tgt →
      (r = (tgt, 0) ∧ (tgt - sp).natAbs ≤ (acc + rate.toNat * n2) / den) ∨
      (r.2 < den ∧ den * (r.1 - sp).natAbs + r.2 = acc + rate.toNat * n2 ∧
        (sp < tgt → sp ≤ r.1 ∧ r.1 < tgt) ∧ (tgt < sp → tgt < r.1 ∧ r.1 ≤ sp)))

/-- For a zone step that is due on a chip outside a flask, with one running zone, no running fan function, no pending schedule
evaluation and no CO2 input: the presence state goes to OCCUPIED where the score reaches the threshold; otherwise from
OCCUPIED to HOLD with the timer at HOLD_TIME (VACANT where it is 0), from HOLD to VACANT when the timer runs out after one
class-2 period less, and VACANT stays. A commanded mode applies whatever presence says. The inputs' configuration is loaded
from the committed members, the hits are used up, and no register outside ZON, the rings and the event latches changes.
(05_zones_presence R173, 05_zones_presence R174, 05_zones_presence R183, 05_zones_presence R189, 05_zones_presence R196) -/
def Obligations.ZoneStepDecidesPresenceAndMode : Prop :=
  ∀ (s : State) (z : Nat), s.zon.due = true → s.runtimeRuns = true → s.isTwin = false → s.zon.schedDue = false → s.zon.chillSecs = none →
    z < s.nZones → (List.range s.nZones).filter s.zoneRuns = [z] → (∀ f, f < s.nFans → s.fnRuns (0x1A0 + f) = false) →
    (∀ p, p < 128 → s.odNat 0x1A p 0 % 8 ≠ 5) →
    ∃ t, exec .zoneStep s = .next t ∧
      t = { s with regs := t.regs, mem := t.mem, zon := t.zon, log := t.log, held := t.held, cen := cenNoted s t } ∧
      t.zon.due = false ∧ t.zon.hits = [] ∧ (∀ a, regUnit a ∉ [3, 4, 8] → t.reg a = s.reg a) ∧
      (∀ p, p < 128 → t.rf (Reg.zonPinCfg p) 0 3 = s.odNat 0x1A p 0 % 8 ∧ t.rf (Reg.zonPinCfg p) 12 4 = s.odNat 0x1A p 2 % 16) ∧
      (let full := (s.zm z 0x1A).toNat ≤ s.zonLoadPins.zoneScore z
       let hold := 4000 * (s.zm z 0x1B).toNat
       (full → t.zonePres z = 1) ∧
       (¬full → s.zonePres z = 0 → t.zonePres z = 0) ∧
       (¬full → s.zonePres z = 1 → hold = 0 → t.zonePres z = 0) ∧
       (¬full → s.zonePres z = 1 → hold ≠ 0 → t.zonePres z = 2 ∧ (hold < 2 ^ 32 → (t.reg (Reg.zonHoldt z)).toNat = hold)) ∧
       (¬full → s.zonePres z = 2 → (s.reg (Reg.zonHoldt z)).toNat ≤ s.period 2 → t.zonePres z = 0) ∧
       (¬full → s.zonePres z = 2 → s.period 2 < (s.reg (Reg.zonHoldt z)).toNat → t.zonePres z = 2 ∧
         (t.reg (Reg.zonHoldt z)).toNat = (s.reg (Reg.zonHoldt z)).toNat - s.period 2)) ∧
      ((s.zm z 1).toNat ∈ [1, 2, 3] → t.zoneMode z = (s.zm z 1).toNat)

/-- While the runtime of the chip that acts runs and the RTC advances, an evaluation gives each of the 16 schedules its mode of
now and writes alarm 0 with the time of the next entry, enabled, seconds 00 and the date masked, unless the host owns the RTC
or there is no entry. While the RTC does not advance nothing changes. No event fires and nothing else changes.
(05_zones_presence R185, 05_zones_presence R187, 05_zones_presence R188) -/
def Obligations.ScheduleEvaluation : Prop :=
  (∀ s : State, s.runtimeRuns = true → s.isActive = true → s.rtcRuns = true →
    ∃ t, exec .scheduleEvaluate s = .next t ∧
      t = { s with regs := t.regs, zon := { s.zon with sched := t.zon.sched, schedDue := false }, cen := cenNoted s t } ∧
      (∀ k, k < 16 → recGet 0 t.zon.sched k = s.schedMode k) ∧ regsKept s t [Reg.rtcAlm0T, Reg.rtcAlm0D] ∧ eventsFired s t [] ∧
      (s.hostOwns 12 = true ∨ s.schedNext = none → regsKept s t []) ∧
      (∀ m, s.schedNext = some m → s.hostOwns 12 = false → m < 1440 →
        t.rf Reg.rtcAlm0T 0 8 = 0 ∧ t.rf Reg.rtcAlm0T 8 7 = toBcd (m % 60) ∧ t.rf Reg.rtcAlm0T 16 6 = toBcd (m / 60) ∧
        t.rb Reg.rtcAlm0T 31 = true)) ∧
  (∀ s : State, s.rtcRuns = false →
    ∃ t, exec .scheduleEvaluate s = .next t ∧ t = { s with regs := t.regs, cen := cenNoted s t } ∧ regsKept s t [] ∧ eventsFired s t [])

/-- By an initiator that may write ACT: ACT_RUN takes the bits of the channels the variant has. A release marks the channels that
a hold time made safe, and no other. A block register takes its defined bits while the channel does not run or the runtime
owns ACT; while the host owns ACT and the channel runs, a write of P1, P2, P3 or POS, or of another MODE, leaves them and
sets ACT_STAT.IGNORED. A command is taken by the register and waits for the next base tick. No event fires and no memory
changes. (06_actuators R198, 06_actuators R200, 06_actuators R213, 06_actuators R217, 06_actuators R218) -/
def Obligations.ActuatorRegisterWrites : Prop :=
  (∀ (who : Init) (v : Word) (s : State), (who = .host → s.hostOwns 9 = true) →
    ∃ t, exec (.actRunWrite who v) s = .next t ∧ t = { s with regs := t.regs, cen := cenNoted s t } ∧
      t.reg Reg.actRun = (if s.variant = .wv7232 then v &&& 0xFFFF else v) ∧ regsKept s t [Reg.actRun] ∧ eventsFired s t []) ∧
  (∀ (who : Init) (v : Word) (s : State), (who = .host → s.hostOwns 9 = true) →
    ∃ t, exec (.actRelease who v) s = .next t ∧ t = { s with regs := t.regs, act := { s.act with chans := t.act.chans }, cen := cenNoted s t } ∧
      (∀ n, n < s.nActs → t.act1 n =
        (if bitOf v n = true ∧ (s.act1 n).latched = true then { s.act1 n with released := true } else s.act1 n)) ∧
      regsKept s t [] ∧ eventsFired s t []) ∧
  (∀ (who : Init) (n off : Nat) (v : Word) (s : State), n < s.nActs → (who = .host → s.hostOwns 9 = true) →
    ∃ t, exec (.actConfigWrite who n off v) s = .next t ∧ t = { s with regs := t.regs, act := t.act, cen := cenNoted s t } ∧ eventsFired s t [] ∧
      (∀ p ∈ [(0x00, 0x7F), (0x08, 0x1FFFFF), (0x0C, 0x7FFFFFFF), (0x10, 0x3FF), (0x14, 0xFFFF0003), (0x18, 0xFFFFFFFF), (0x1C, 0xFFFF01FF)],
        off = p.1 → (s.actRuns n = false ∨ s.hostOwns 9 = false ∨ 0x14 ≤ off) →
        t.reg (Reg.actnCfg n + off) = v &&& BitVec.ofNat 32 p.2 ∧ t.act = s.act ∧ regsKept s t [Reg.actnCfg n + off]) ∧
      (s.actRuns n = true → s.hostOwns 9 = true → off ∈ [0x08, 0x0C, 0x10, 0x20] →
        t.rb Reg.actStat 1 = true ∧ t.act = s.act ∧ regsKept s t [Reg.actStat]) ∧
      (s.actRuns n = true → s.hostOwns 9 = true → off = 0 → fld v 0 3 ≠ s.rf (Reg.actnCfg n) 0 3 →
        t.rb Reg.actStat 1 = true ∧ t.rf (Reg.actnCfg n) 0 3 = s.rf (Reg.actnCfg n) 0 3 ∧ t.rf (Reg.actnCfg n) 3 4 = fld v 3 4 ∧
        regsKept s t [Reg.actStat, Reg.actnCfg n]) ∧
      (off = 4 → t.reg (Reg.actnCmd n) = v ∧ (t.act1 n).fresh = true ∧ regsKept s t [Reg.actnCmd n]))

/-- A PWM period that begins on a channel that follows its command takes the settings written since, DUTY and H from the command
taken last, limited to 0 to 100 %, and changes nothing else. A step of a channel that is not at its target sets pin B to the
direction, at the first cycle at least I after the last rising edge, and counts a stroke where the direction has changed. The
rising edge stands at the first cycle e that is also at least I after the last edge and max(I, 328) after the last change of
pin B: where e lies beyond this base tick nothing more happens; otherwise POS moves by one towards the target, and where that
does not reach the target changes nothing else; where it does, ACT_ENDF bit n is set, an entry goes to ring 21 and event 12
fires if ENDEV is 1. (06_actuators R197, 06_actuators R201, 06_actuators R202, 06_actuators R206, 06_actuators R207,
06_actuators R218, 06_actuators R219, 06_actuators R220) -/
def Obligations.ActuatorPulses : Prop :=
  (∀ (n : Nat) (s : State), n < s.nActs → s.actOn = true → s.actMode n = 1 → (s.act1 n).safe = false → (s.act1 n).chill = false →
    ∃ t, exec (.pwmPeriod n) s = .next t ∧ t = { s with regs := t.regs, act := { s.act with chans := t.act.chans }, cen := cenNoted s t } ∧
      (∀ m, m ≠ n → t.act1 m = s.act1 m) ∧
      (∀ duty, duty = (Int.fdiv ((s.act1 n).cmd * 65535 + 3276800) 6553600).toNat →
        t.act1 n = { s.act1 n with
          cfg := s.reg (Reg.actnCfg n), safecfg := s.reg (Reg.actnSafecfg n), safeval := s.reg (Reg.actnSafeval n),
          fb := s.reg (Reg.actnFb n), duty := duty, high := (duty * s.actPeriod n + 32767) / 65535 }) ∧
      regsKept s t [] ∧ eventsFired s t []) ∧
  (∀ (n e : Nat) (up : Bool) (s : State), n < s.nActs → s.actOn = true → s.actMode n = 3 → s.actDriven n = true →
    (s.act1 n).step ≠ s.stepTarget n → up = decide ((s.act1 n).step < s.stepTarget n) →
    e = (match if (s.act1 n).pinB = up then (s.act1 n).dirAt else some (s.stepFree n) with
      | some d => max (s.stepFree n) (d + max (s.stepEvery n) 328)
      | none => s.stepFree n) →
    4096 * s.now + 4096 ≤ e →
    ∃ t, exec (.stepPulse n) s = .next t ∧ t = { s with regs := t.regs, act := { s.act with chans := t.act.chans }, cen := cenNoted s t } ∧
      (∀ m, m ≠ n → t.act1 m = s.act1 m) ∧
      t.act1 n = { s.act1 n with dir := some up, pinB := up,
                                 dirAt := if (s.act1 n).pinB = up then (s.act1 n).dirAt else some (s.stepFree n) } ∧
      t.reg (Reg.actnStrokes n) = (if (s.act1 n).dir = some (!up) then s.reg (Reg.actnStrokes n) + 1 else s.reg (Reg.actnStrokes n)) ∧
      regsKept s t [Reg.actnStrokes n] ∧ eventsFired s t []) ∧
  (∀ (n e : Nat) (up : Bool) (s : State), n < s.nActs → s.actOn = true → s.actMode n = 3 → s.actDriven n = true →
    (s.act1 n).step ≠ s.stepTarget n → s.ringFits 21 8 → up = decide ((s.act1 n).step < s.stepTarget n) →
    e = (match if (s.act1 n).pinB = up then (s.act1 n).dirAt else some (s.stepFree n) with
      | some d => max (s.stepFree n) (d + max (s.stepEvery n) 328)
      | none => s.stepFree n) →
    e < 4096 * s.now + 4096 →
    ∃ t, exec (.stepPulse n) s = .next t ∧
      t = { s with regs := t.regs, mem := t.mem, held := t.held, act := { s.act with chans := t.act.chans },
                   cen := cenNoted s t } ∧
      (∀ m, m ≠ n → t.act1 m = s.act1 m) ∧
      t.act1 n = { s.act1 n with dir := some up, pinB := up, step := if up then (s.act1 n).step + 1 else (s.act1 n).step - 1,
                                 dirAt := if (s.act1 n).pinB = up then (s.act1 n).dirAt else some (s.stepFree n), edge := some e } ∧
      t.reg (Reg.actnStrokes n) = (if (s.act1 n).dir = some (!up) then s.reg (Reg.actnStrokes n) + 1 else s.reg (Reg.actnStrokes n)) ∧
      ((t.act1 n).step ≠ s.stepTarget n → t.mem = s.mem ∧ t.held = s.held ∧ regsKept s t [Reg.actnStrokes n] ∧ eventsFired s t []) ∧
      ((t.act1 n).step = s.stepTarget n → t.rb Reg.actEndf n = true ∧ memKeptOutsideRing s t 21 ∧
        regsKept s t ([Reg.actnStrokes n, Reg.actEndf] ++ ringRegs 21) ∧
        eventsFired s t (if bitOf (s.act1 n).cfg 6 then [12] else [])))

/-- At every base tick of a FLOAT channel: an open pulse is followed by an open pulse or none, a close pulse by a close pulse or
none, a pulse starts only when no gap is left after this tick, and one ends with the gap at REV. The modelled position moves
by at most one tick and stays within 0 and FULL, and a pulse shorter than MINP does not end. (06_actuators R204) -/
def Obligations.FloatPulsesNeverReverse : Prop :=
  ∀ (s : State) (n : Nat), n < s.nActs → s.actPos n ≤ s.actFull n →
    let t := s.floatTick n
    let a := s.act1 n
    let b := t.act1 n
    (a.drv = .opening → b.drv = .opening ∨ b.drv = .none) ∧ (a.drv = .closing → b.drv = .closing ∨ b.drv = .none) ∧
    (a.drv = .none → b.drv ≠ .none → a.gap ≤ 1) ∧ (a.drv = .none → 1 < a.gap → b.gap = a.gap - 1) ∧
    (a.drv ≠ .none → b.drv = .none → b.gap = 4 * min 1000 (s.rf (Reg.actnP3 n) 0 10) ∧ 4 * clampNat 100 2000 (s.rf (Reg.actnP2 n) 0 11) ≤ a.run + 1) ∧
    t.actPos n ≤ t.actFull n ∧ t.actPos n ≤ s.actPos n + 1 ∧ s.actPos n ≤ t.actPos n + 1

/-- Once the runtime has been stopped for SAFE.HOLD tenths of a second, which is not 0xFFFF, a channel that runs under the
runtime and is not already latched by a hold time is in its safe state, stays there until it is released and commanded, and
SAFE_TIMEOUT is logged with event 13. Before that the command changes nothing. Only this channel, ring 21 and the channel's
stroke count change. (06_actuators R212, 06_actuators R213, 06_actuators R220, 06_actuators R221) -/
def Obligations.SafeTimeout : Prop :=
  (∀ (n : Nat) (s : State) (from_ : Nat), n < s.nActs → s.act.stopAt = some from_ → fld (s.act1 n).safecfg 16 16 ≠ 0xFFFF →
    from_ + 400 * fld (s.act1 n).safecfg 16 16 ≤ s.now → s.actOn = true → s.hostOwns 9 = false → s.actRuns n = true →
    (s.act1 n).latched = false → s.ringFits 21 8 →
    ∃ t, exec (.safeTimeout n) s = .next t ∧
      t = { s with regs := t.regs, mem := t.mem, held := t.held, log := t.log, act := { s.act with chans := t.act.chans },
                   cen := cenNoted s t } ∧
      (t.act1 n).safe = true ∧ (t.act1 n).latched = true ∧ (t.act1 n).released = false ∧ (∀ m, m ≠ n → t.act1 m = s.act1 m) ∧
      t.log = (s.fault 0x0602 n).log ∧ memKeptOutsideRing s t 21 ∧ regsKept s t ([Reg.actnStrokes n] ++ ringRegs 21) ∧ eventsFired s t [13]) ∧
  (∀ (n : Nat) (s : State), s.act.stopAt = none ∨ fld (s.act1 n).safecfg 16 16 = 0xFFFF →
    ∃ t, exec (.safeTimeout n) s = .next t ∧ t = { s with regs := t.regs, cen := cenNoted s t } ∧ regsKept s t [] ∧ eventsFired s t [])

/-- A switching period takes the drive duty D of the moment: its length P follows FREQ, limited to 10 to 250 Hz, and the supply
is on for floor((D P + 127) / 255) cycles. At its staggered tick a stretch window opens, of width W, and holds the pin high.
An edge in a window is counted with its TBO cycle, at most three; an edge outside a window and outside STARTING does nothing.
A window that closes with two or more edges is valid: the speed of R224 with VALID and no silent windows, event 14, the duty
of its opening as the last one, RUN, and the speed in the virtual PV that 15.f.1B names. One that closes with fewer adds to
SILENT, and until the third in RUN nothing else; before its third edge and its width it does not close. No other fan changes.
(07_fans R222, 07_fans R223, 07_fans R224, 07_fans R231, 07_fans R232) -/
def Obligations.FanDriveAndMeasurement : Prop :=
  (∀ (f q p : Nat) (s : State), f < s.nFans → 8 ≤ s.shakeStep → s.awake = true → (s.fan1 f).window = none →
    q = max 10 (min 250 (s.rf (Reg.fanfCfg f) 8 8)) → p = (16384000 + q / 2) / q →
    ∃ t, exec (.fanPeriod f) s = .next t ∧ t = { s with regs := t.regs, fan := { s.fan with chans := t.fan.chans }, cen := cenNoted s t } ∧
      t.fan1 f = { s.fan1 f with pinDuty := s.fanDuty f, pinHigh := (s.fanDuty f * p + 127) / 255, pinPeriod := p } ∧ (∀ g, g ≠ f → t.fan1 g = s.fan1 g) ∧ regsKept s t [] ∧ eventsFired s t []) ∧
  (∀ (f : Nat) (s : State), f < s.nFans → s.awake = true → (s.fan1 f).state ∈ [2, 5, 6] → s.fanTach f = true → s.tb.running = true →
    (s.tb.count + 1000 * max 1 (s.rf (Reg.fanfMeas f) 0 8) * 16 - 16 * f) % (1000 * max 1 (s.rf (Reg.fanfMeas f) 0 8)) = 0 →
    (s.fan1 f).window = none →
    ∃ t, exec (.stretchWindowOpen f) s = .next t ∧ t = { s with regs := t.regs, fan := { s.fan with chans := t.fan.chans }, cen := cenNoted s t } ∧
      (t.fan1 f).window = some s.now ∧ (t.fan1 f).edges = 0 ∧ (t.fan1 f).pinDuty = 255 ∧ (t.fan1 f).pinHigh = (t.fan1 f).pinPeriod ∧ (t.fan1 f).winDuty = s.fanDutyApart f ∧
      (t.fan1 f).state = (s.fan1 f).state ∧
      (let rate := max (s.rf (Reg.fanfMeas f) 16 16) (s.rf (Reg.fanfRpm f) 0 16) * s.fanPpr f
       (t.fan1 f).width ≤ 240 ∧ ((t.fan1 f).width = 240 ∨ 480000 ≤ ((t.fan1 f).width - 8) * rate) ∧ ((t.fan1 f).width - 9) * rate < 480000) ∧
      (∀ g, g ≠ f → t.fan1 g = s.fan1 g) ∧ regsKept s t [] ∧ eventsFired s t []) ∧
  (∀ (f cycle : Nat) (s : State), f < s.nFans → s.awake = true →
    (s.fan1 f).edges = 0 ∨ (s.fan1 f).lastEdge < 4096 * s.now + cycle → (s.fan1 f).window.isSome = true → (s.fan1 f).edges < 3 →
    ∃ t, exec (.tachEdge f cycle) s = .next t ∧ t = { s with regs := t.regs, fan := { s.fan with chans := t.fan.chans }, cen := cenNoted s t } ∧
      t.fan1 f = { s.fan1 f with edges := (s.fan1 f).edges + 1, lastEdge := 4096 * s.now + cycle,
                                 firstEdge := if (s.fan1 f).edges = 0 then 4096 * s.now + cycle else (s.fan1 f).firstEdge } ∧
      (∀ g, g ≠ f → t.fan1 g = s.fan1 g) ∧ regsKept s t [] ∧ eventsFired s t []) ∧
  (∀ (f cycle : Nat) (s : State), (s.fan1 f).window = none → (s.fan1 f).state ≠ 1 → changesNothing (.tachEdge f cycle) s) ∧
  (∀ (f open_ : Nat) (s : State), f < s.nFans → (s.fan1 f).window = some open_ → (s.fan1 f).state ∈ [2, 5, 6] → 2 ≤ (s.fan1 f).edges →
    (s.fan1 f).firstEdge < (s.fan1 f).lastEdge → 3 ≤ (s.fan1 f).edges ∨ open_ + (s.fan1 f).width ≤ s.now → s.ringFits 20 8 →
    ∃ t, exec (.stretchWindowClose f) s = .next t ∧
      t = { s with regs := t.regs, mem := t.mem, held := t.held, fan := { s.fan with chans := t.fan.chans },
                   zon := { s.zon with vpvAt := t.zon.vpvAt, vpvOut := t.zon.vpvOut }, cen := cenNoted s t } ∧
      (let rpm := min 65535 (983040000 * ((s.fan1 f).edges - 1) / (s.fanPpr f * ((s.fan1 f).lastEdge - (s.fan1 f).firstEdge)))
       let v := s.odNat 0x15 f 0x1B
       let copied := s.runtimeRuns = true ∧ v < 256
       t.rf (Reg.fanfRpm f) 0 16 = rpm ∧ t.rb (Reg.fanfRpm f) 16 = true ∧ t.rf (Reg.fanfRpm f) 24 8 = 0 ∧
       (copied → (s.fan1 f).state = 2 → t.word (vpvAddr v) = BitVec.ofNat 32 (rpm * 65536)) ∧
       t.zon.vpvOut = (if copied then s.zon.vpvOut.filter (fun w => w.1 != v) ++ [(v, BitVec.ofNat 32 (rpm * 65536))] else s.zon.vpvOut) ∧
       (¬copied → (s.fan1 f).state = 2 → t.mem = s.mem) ∧
       (∀ a, s.inRing 20 a = false ∨ (s.fan1 f).state = 2 → ¬(vpvAddr v ≤ a ∧ a < vpvAddr v + 4) → t.byte a = s.byte a)) ∧
      (t.fan1 f).window = none ∧ (t.fan1 f).restarted = false ∧ (t.fan1 f).lastDuty = (s.fan1 f).winDuty ∧ (t.fan1 f).state = 2 ∧
      (t.fan1 f).retry = (s.fan1 f).retry ∧ (∀ g, g ≠ f → t.fan1 g = s.fan1 g) ∧
      regsKept s t (Reg.fanfRpm f :: if (s.fan1 f).state = 2 then [] else ringRegs 20) ∧ eventsFired s t [14]) ∧
  (∀ (f open_ : Nat) (s : State), f < s.nFans → (s.fan1 f).window = some open_ → (s.fan1 f).edges < 2 → open_ + (s.fan1 f).width ≤ s.now →
    (s.fan1 f).state ≠ 2 ∨ s.rf (Reg.fanfRpm f) 24 8 < 2 →
    ∃ t, exec (.stretchWindowClose f) s = .next t ∧ t = { s with regs := t.regs, fan := { s.fan with chans := t.fan.chans }, cen := cenNoted s t } ∧
      t.rf (Reg.fanfRpm f) 24 8 = min 255 (s.rf (Reg.fanfRpm f) 24 8 + 1) ∧ t.rf (Reg.fanfRpm f) 0 24 = s.rf (Reg.fanfRpm f) 0 24 ∧
      (t.fan1 f).window = none ∧ (t.fan1 f).state = (s.fan1 f).state ∧ (∀ g, g ≠ f → t.fan1 g = s.fan1 g) ∧
      regsKept s t [Reg.fanfRpm f] ∧ eventsFired s t []) ∧
  (∀ (f open_ : Nat) (s : State), (s.fan1 f).window = some open_ → (s.fan1 f).edges < 3 → s.now < open_ + (s.fan1 f).width →
    changesNothing (.stretchWindowClose f) s)

/-- The third silent window in RUN fails the fan with STALL at or above ISTALL and OPEN_LOAD below ILO, takes it to TACH_LOST
between them, and with an unknown current to RESTART once and then to UNVERIFIED. A start attempt that times out fails with
STALL or BLOCKED, or goes to UNVERIFIED after a RESTART. A failure counts n up and leads to WAIT, from n = 4 to LATCHED with
its FAN_FAULT bit; event 15 and ring 20 report it. KICK with two edges, or with no tach, leads to RUN. WAIT and RESTART end
in STARTING or OFF with n kept. After 600 s of RUN n is 0. FAN_CLR takes exactly the named fans in WAIT or LATCHED to OFF.
(07_fans R228, 07_fans R229, 07_fans R232, 07_fans R233, 07_fans R234, 07_fans R235, 07_fans R252) -/
def Obligations.FanFailures : Prop :=
  (∀ (f open_ : Nat) (s : State), f < s.nFans → (s.fan1 f).window = some open_ → (s.fan1 f).edges < 2 → open_ + (s.fan1 f).width ≤ s.now →
    (s.fan1 f).state = 2 → 2 ≤ s.rf (Reg.fanfRpm f) 24 8 → s.ringFits 20 8 →
    ∃ t, exec (.stretchWindowClose f) s = .next t ∧
      t = { s with regs := t.regs, mem := t.mem, held := t.held, log := t.log, fan := { s.fan with chans := t.fan.chans },
                   cen := cenNoted s t } ∧
      (let failed := s.fanHigh f = true ∨ s.fanLow f = true
       let lost := ¬failed ∧ (s.fanInorm f).isSome = true
       let next := if failed then (if (s.fan1 f).retry < 3 then 3 else 4) else if lost then 5 else if (s.fan1 f).restarted then 6 else 7
       (t.fan1 f).state = next ∧ (t.fan1 f).retry = (if failed then (s.fan1 f).retry + 1 else (s.fan1 f).retry) ∧
       (t.rb Reg.fanFault f = true ↔ s.rb Reg.fanFault f = true ∨ next = 4) ∧ eventsFired s t (if next = 7 then [] else [15]) ∧
       t.log = (if next = 3 ∨ next = 7 then s.log
                else (s.fault (if next = 4 then (if s.fanHigh f then 0x0802 else 0x0803) else if next = 5 then 0x0804 else 0x0805) f).log)) ∧
      (t.fan1 f).window = none ∧ (∀ g, g ≠ f → t.fan1 g = s.fan1 g) ∧ memKeptOutsideRing s t 20 ∧
      regsKept s t ([Reg.fanfRpm f, Reg.fanFault] ++ ringRegs 20)) ∧
  (∀ (f : Nat) (s : State), f < s.nFans → s.awake = true → (s.fan1 f).state = 1 → (s.fan1 f).since + s.fanKick f ≤ s.now →
    2 ≤ (s.fan1 f).edges ∨ s.fanTach f = false →
    ∃ t, exec (.fanKickEnd f) s = .next t ∧ t = { s with regs := t.regs, fan := { s.fan with chans := t.fan.chans }, cen := cenNoted s t } ∧
      (t.fan1 f).state = 2 ∧ (t.fan1 f).since = s.now ∧ (t.fan1 f).retry = (s.fan1 f).retry ∧ t.rb (Reg.fanfRpm f) 16 = false ∧
      (∀ g, g ≠ f → t.fan1 g = s.fan1 g) ∧ regsKept s t [Reg.fanfRpm f] ∧ eventsFired s t []) ∧
  (∀ (f : Nat) (s : State), (s.fan1 f).state ≠ 1 ∨ s.now < (s.fan1 f).since + s.fanKick f → changesNothing (.fanKickEnd f) s) ∧
  (∀ (f : Nat) (s : State), f < s.nFans → s.awake = true → (s.fan1 f).state = 1 → s.fanTach f = true →
    (s.fan1 f).since + s.fanStartTo f ≤ s.now → (s.fan1 f).edges < 2 → s.ringFits 20 8 →
    ∃ t, exec (.startTimeout f) s = .next t ∧
      t = { s with regs := t.regs, mem := t.mem, held := t.held, log := t.log, fan := { s.fan with chans := t.fan.chans },
                   cen := cenNoted s t } ∧
      (let spare := s.fanHigh f = false ∧ (s.fan1 f).fromRestart = true
       let next := if spare then 6 else if (s.fan1 f).retry < 3 then 3 else 4
       (t.fan1 f).state = next ∧ (t.fan1 f).retry = (if spare then (s.fan1 f).retry else (s.fan1 f).retry + 1) ∧
       (next = 3 → (t.fan1 f).delay = if (s.fan1 f).retry = 0 then 40000 else if (s.fan1 f).retry = 1 then 120000 else 360000) ∧
       (t.rb Reg.fanFault f = true ↔ s.rb Reg.fanFault f = true ∨ next = 4) ∧
       t.log = (if next = 3 then s.log
                else if next = 4 then (s.fault (if s.fanHigh f then 0x0802 else 0x0801) f).log else (s.fault 0x0805 f).log)) ∧
      (∀ g, g ≠ f → t.fan1 g = s.fan1 g) ∧ memKeptOutsideRing s t 20 ∧ regsKept s t (Reg.fanFault :: ringRegs 20) ∧ eventsFired s t [15]) ∧
  (∀ (f : Nat) (s : State), f < s.nFans → s.awake = true → (s.fan1 f).state = 3 → (s.fan1 f).since + (s.fan1 f).delay ≤ s.now →
    ∃ t, exec (.fanWaitEnd f) s = .next t ∧ t = { s with regs := t.regs, fan := { s.fan with chans := t.fan.chans }, cen := cenNoted s t } ∧
      (t.fan1 f).state = (if s.fanWould f = 0 then 0 else 1) ∧ (t.fan1 f).since = s.now ∧ (t.fan1 f).retry = (s.fan1 f).retry ∧
      (∀ g, g ≠ f → t.fan1 g = s.fan1 g) ∧ regsKept s t [] ∧ eventsFired s t []) ∧
  (∀ (f : Nat) (s : State), f < s.nFans → s.awake = true → (s.fan1 f).state = 7 → (s.fan1 f).since + 4000 ≤ s.now →
    ∃ t, exec (.fanRestartEnd f) s = .next t ∧ t = { s with regs := t.regs, fan := { s.fan with chans := t.fan.chans }, cen := cenNoted s t } ∧
      (t.fan1 f).state = 1 ∧ (t.fan1 f).since = s.now ∧ (t.fan1 f).fromRestart = true ∧ (t.fan1 f).retry = (s.fan1 f).retry ∧
      (∀ g, g ≠ f → t.fan1 g = s.fan1 g) ∧ regsKept s t [] ∧ eventsFired s t []) ∧
  (∀ (f : Nat) (s : State), f < s.nFans → s.awake = true → (s.fan1 f).state = 2 → (s.fan1 f).since + 2400000 ≤ s.now →
    ∃ t, exec (.fanRetryReset f) s = .next t ∧ t = { s with regs := t.regs, fan := { s.fan with chans := t.fan.chans }, cen := cenNoted s t } ∧
      t.fan1 f = { s.fan1 f with retry := 0 } ∧ (∀ g, g ≠ f → t.fan1 g = s.fan1 g) ∧ regsKept s t [] ∧ eventsFired s t []) ∧
  (∀ (who : Init) (v : Word) (s : State), mayWrite who 10 s →
    ∃ t, exec (.fanClr who v) s = .next t ∧ t = { s with regs := t.regs, fan := { s.fan with chans := t.fan.chans }, cen := cenNoted s t } ∧
      (∀ f, let named := f < s.nFans ∧ bitOf v f = true ∧ (s.fan1 f).state ∈ [3, 4]
        (named → (t.fan1 f).state = 0 ∧ (t.fan1 f).retry = 0 ∧ t.rb Reg.fanFault f = false) ∧
        (¬named → t.fan1 f = s.fan1 f ∧ (f < 32 → t.rb Reg.fanFault f = s.rb Reg.fanFault f))) ∧
      regsKept s t [Reg.fanFault] ∧ eventsFired s t [])

/-- A refresh restarts supervision, from step 12 of shakeout on. When FAN_SUPERVISE has passed without one, or the watchdog has
warned, autonomous mode is entered with its cause, every fan's Q from its drive duty, event 16 and fault FAN_AUTO. An exit
write ends the mode where FAN_REFRESH was written within FAN_SUPERVISE and the watchdog has not warned, and otherwise sets
EXIT_REF; outside the mode it does nothing. A configuration write is ignored with IGNORED where the host owns FAN and the fan
runs. Ten seconds of a failed watched input assert SHDN, sixty seconds in range of every one release it, each with event 17,
and LOCK is set once, with a fault where nothing is watched. (07_fans R236, 07_fans R239, 07_fans R240, 07_fans R242, 07_fans
R243, 07_fans R244, 07_fans R250, 07_fans R252) -/
def Obligations.FanSupervisionAndShutdownPath : Prop :=
  (∀ (who : Init) (s : State), mayWrite who 10 s →
    ∃ t, exec (.fanRefresh who) s = .next t ∧ t = { s with regs := t.regs, fan := { s.fan with
        written := some s.now, refresh := if 12 ≤ s.shakeStep then some s.now else s.fan.refresh }, cen := cenNoted s t } ∧
      regsKept s t [] ∧ eventsFired s t []) ∧
  (∀ s : State, s.awake = true → 12 ≤ s.shakeStep → s.fanAutoOn = false → s.fanOverdue = true ∨ s.rb Reg.pwrStat 2 = true → s.ringFits 20 8 →
    ∃ t, exec .fanAuto s = .next t ∧
      t = { s with regs := t.regs, mem := t.mem, held := t.held, log := t.log, fan := { s.fan with chans := t.fan.chans },
                   cen := cenNoted s t } ∧
      t.fanAutoOn = true ∧ t.rb Reg.fanStat 1 = !s.fanOverdue ∧ t.rf Reg.fanStat 2 2 = s.rf Reg.fanStat 2 2 ∧
      (∀ f, f < s.nFans → t.fan1 f = { s.fan1 f with q := (s.fanDuty f * 80000 + 127) / 255, slew := false }) ∧
      t.log = (s.fault 0x0806 (if s.fanOverdue then 0 else 1)).log ∧ memKeptOutsideRing s t 20 ∧
      regsKept s t (Reg.fanStat :: ringRegs 20) ∧ eventsFired s t [16]) ∧
  (∀ s : State, (s.fanOverdue = false ∧ s.rb Reg.pwrStat 2 = false) ∨ s.fanAutoOn = true → changesNothing .fanAuto s) ∧
  (∀ (who : Init) (v : Word) (s : State) (last : Nat), mayWrite who 10 s → bitOf v 0 = true → s.fanAutoOn = true → s.fan.written = some last →
    s.now ≤ last + s.fanSuperviseTicks → s.rb Reg.pwrStat 2 = false → s.ringFits 20 8 →
    ∃ t, exec (.fanAutoExit who v) s = .next t ∧
      t = { s with regs := t.regs, mem := t.mem, held := t.held, log := t.log, fan := { s.fan with chans := t.fan.chans },
                   cen := cenNoted s t } ∧
      t.fanAutoOn = false ∧ t.rf Reg.fanStat 1 3 = s.rf Reg.fanStat 1 3 ∧ (∀ f, f < s.nFans → t.fan1 f = { s.fan1 f with slew := true }) ∧
      t.log = (s.happen 16 7).log ∧ memKeptOutsideRing s t 20 ∧ regsKept s t (Reg.fanStat :: ringRegs 20) ∧ eventsFired s t [16]) ∧
  (∀ (who : Init) (v : Word) (s : State), mayWrite who 10 s → bitOf v 0 = true → s.fanAutoOn = true →
    s.fan.written = none ∨ (∃ last, s.fan.written = some last ∧ last + s.fanSuperviseTicks < s.now) ∨ s.rb Reg.pwrStat 2 = true →
    ∃ t, exec (.fanAutoExit who v) s = .next t ∧ t = { s with regs := t.regs, cen := cenNoted s t } ∧ t.rb Reg.fanStat 2 = true ∧ t.fanAutoOn = true ∧
      regsKept s t [Reg.fanStat] ∧ eventsFired s t []) ∧
  (∀ (who : Init) (v : Word) (s : State), mayWrite who 10 s → s.fanAutoOn = false → changesNothing (.fanAutoExit who v) s) ∧
  (∀ (who : Init) (f off : Nat) (v : Word) (s : State), f < s.nFans → mayWrite who 10 s →
    ∃ t, exec (.fanConfigWrite who f off v) s = .next t ∧ t = { s with regs := t.regs, cen := cenNoted s t } ∧ eventsFired s t [] ∧
      (off ∈ [0x00, 0x04, 0x18] → s.hostOwns 10 = true → s.fanRuns f = true → t.rb Reg.fanStat 3 = true ∧ regsKept s t [Reg.fanStat]) ∧
      (∀ p ∈ [(0x00, 0xFFFFFFFF), (0x04, 0xFFFF00FF), (0x08, 0xFFFFFFFF), (0x0C, 0xFFFFFFFF), (0x10, 0xFF), (0x14, 0xFFFFFFFF), (0x18, 0xFFFF)],
        off = p.1 → s.hostOwns 10 = false ∨ s.fanRuns f = false ∨ off ∈ [0x08, 0x0C, 0x10, 0x14] →
        t.reg (Reg.fanfCfg f + off) = v &&& BitVec.ofNat 32 p.2 ∧ regsKept s t [Reg.fanfCfg f + off])) ∧
  (∀ (j : Nat) (s : State) (from_ : Nat), j < 4 → s.awake = true → s.shdnArmed = true → s.shdnValid j = true →
    (s.shdnIn j).failSince = some from_ → from_ + 40000 ≤ s.now → s.shdnOn = false → s.ringFits 20 8 →
    ∃ t, exec (.shdnSensor j) s = .next t ∧
      t = { s with regs := t.regs, mem := t.mem, held := t.held, log := t.log, fan := { s.fan with shdnBy := j },
                   cen := cenNoted s t } ∧
      t.shdnOn = true ∧ t.rb Reg.fanShdnStat 5 = true ∧ t.log = (s.fault 0x0808 (s.shdnCh j)).log ∧ memKeptOutsideRing s t 20 ∧
      regsKept s t (Reg.fanShdnStat :: ringRegs 20) ∧ eventsFired s t [17]) ∧
  (∀ (j : Nat) (s : State), s.shdnArmed = false ∨ s.shdnOn = true ∨ (s.shdnIn j).failSince = none → changesNothing (.shdnSensor j) s) ∧
  (∀ s : State, s.awake = true → s.shdnOn = true → (∃ j, j < 4 ∧ s.shdnValid j = true) →
    (∀ j, j < 4 → s.shdnValid j = true → ∃ from_, (s.shdnIn j).okSince = some from_ ∧ from_ + 240000 ≤ s.now) → s.ringFits 20 8 →
    ∃ t, exec .shdnRelease s = .next t ∧
      t = { s with regs := t.regs, mem := t.mem, held := t.held, log := t.log, cen := cenNoted s t } ∧
      t.shdnOn = false ∧ t.rb Reg.fanShdnStat 5 = s.rb Reg.fanShdnStat 5 ∧ t.log = (s.happen 17 9).log ∧ memKeptOutsideRing s t 20 ∧
      regsKept s t (Reg.fanShdnStat :: ringRegs 20) ∧ eventsFired s t [17]) ∧
  (∀ (j : Nat) (s : State), j < 4 → s.shdnValid j = true → (s.shdnIn j).okSince = none → changesNothing .shdnRelease s) ∧
  (∀ (who : Init) (s : State), mayWrite who 10 s →
    ∃ t, exec (.shdnLock who) s = .next t ∧ t = { s with regs := t.regs, log := t.log, cen := cenNoted s t } ∧ t.rb Reg.fanShdnCtrl 0 = true ∧
      t.log = (if s.rb Reg.fanShdnCtrl 0 = false ∧ s.shdnT ≠ 0 ∧ (List.range 4).any s.shdnValid = false then (s.fault 0x080A 0).log else s.log) ∧
      regsKept s t [Reg.fanShdnCtrl] ∧ eventsFired s t [])

/-- A READ of one stored member that the part has, of the right type, not in conflict with its heat, is taken from the TAIL of
ring 12 and answered: the record in the shared window carries code 0, STAGED where the value is a staged one that COMMITTED
did not ask past, the heat number, COUNT 1 and the value in the encoding of its type, little-endian. Its transaction is over,
ring 13 is offered an entry with event 41, and no object, no heat and no memory outside the response and ring 13 changes.
(08_object_dictionary R256, 08_object_dictionary R275, 08_object_dictionary R283, 08_object_dictionary R284,
08_object_dictionary R286, 08_object_dictionary R290) -/
def Obligations.ReadAnswersTheMember : Prop :=
  ∀ (s : State) (t0 : Txn) (bytes : List Byte) (row : OdRow), s.odServes = true → s.odHostReq = some (t0, bytes) →
    let r := odParse true bytes
    r.op = 1 → r.lengthOk = true → r.flags < 4 → r.count = 1 → (r.flags.testBit 0 = true → r.expheat = s.od.heat) →
    odRow r.id = some row → row.typ = r.typ → row.rd = true → row.stored = true → r.id ≠ odId 0x22 0 0 → s.odPresent r.id = true →
    s.txnFree 0 = true → s.ringFits 13 16 →
    ∃ t, exec (.odRead .ring12) s = .next t ∧
      t = { s with regs := t.regs, mem := t.mem, held := t.held, od := { s.od with counters := t.od.counters, txns := t.od.txns },
                   cen := cenNoted s t } ∧
      t.od.txns.length = s.od.txns.length ∧ t.ringTail 12 = (s.ringTail 12 + 1) % 65536 ∧
      (let staged := !r.flags.testBit 1 && (s.odStaged r.id).isSome
       let v := if staged then (s.odStaged r.id).getD (s.odGet r.id) else s.odGet r.id
       let body := odEnc true row.typ v
       let record := [0, if staged then 1 else 0, BitVec.ofNat 8 r.typ, 0] ++ leBytes 4 r.id ++ leBytes 4 s.od.heat ++
         leBytes 2 body.length ++ leBytes 2 1 ++ body
       body.length ≤ 1384 → record.length ≤ t0.cap → t0.respAt + record.length ≤ 0x4000 →
       (∀ a, 0x30000000 + t0.respAt ≤ a → a < 0x30000000 + t0.respAt + record.length → s.inRing 13 a = false) →
       t.bytes (0x30000000 + t0.respAt) record.length = record) ∧
      (∀ a, s.inRing 13 a = false → a < 0x30000000 + t0.respAt ∨ 0x30000000 + t0.respAt + max 16 t0.cap ≤ a → t.byte a = s.byte a) ∧
      regsKept s t ([Reg.rngTail 12, Reg.odxHwm] ++ ringRegs 13) ∧ eventsFired s t (if s.ringTakes 13 16 then [41] else [])

/-- A request that finds no entry is answered with BUSY and counted. One whose length, checks of order 4 to 11 or role refuse it
is answered with its code; it leaves every object, every staged value, every function and the heat as they were, and event 42
fires exactly where the session or the access was refused. Only the counts, the ring and the response change.
(08_object_dictionary R285, 08_object_dictionary R287, 08_object_dictionary R288, 08_object_dictionary R289) -/
def Obligations.RefusedRequestsChangeNothing : Prop :=
  ∀ (s : State) (nvOk : Bool) (t0 : Txn) (bytes : List Byte) (p : Nat × Instr),
    p ∈ [(1, .odRead .ring12), (2, .odWrite .ring12 nvOk), (3, .odWriteBlock .ring12 nvOk), (4, .odCall .ring12)] →
    s.odServes = true → s.odHostReq = some (t0, bytes) → odRowOf bytes = p.1 → s.ringFits 13 16 →
    let r := odParse true bytes
    let accepted := (s.setRf (Reg.rngTail 12) 0 16 (s.ringTail 12 + 1)).txnAccept { t0 with op := p.1, id := r.id, typ := r.typ }
    (s.txnFree 0 = false →
      ∃ t, exec p.2 s = .next t ∧
        t = { s with regs := t.regs, mem := t.mem, held := t.held, od := { s.od with counters := t.od.counters },
                     cen := cenNoted s t } ∧
        t.od.counters = s.od.counters.set 1 (min 0xFFFFFFFF (s.od.counters.getD 1 0 + 1)) ∧
        regsKept s t ([Reg.rngTail 12, Reg.odxBusycnt] ++ ringRegs 13) ∧ eventsFired s t (if s.ringTakes 13 16 then [41] else [])) ∧
    (∀ a auth, s.txnFree 0 = true →
      (if r.lengthOk then accepted.odRefusal r none s.hostRole false else odRefuse 0xA) = some (a, auth) →
      ∃ t, exec p.2 s = .next t ∧
        t = { s with regs := t.regs, mem := t.mem, held := t.held, od := { s.od with counters := t.od.counters, txns := t.od.txns },
                     cen := cenNoted s t } ∧
        t.od.txns.length = s.od.txns.length ∧ regsKept s t ([Reg.rngTail 12, Reg.odxHwm] ++ ringRegs 13) ∧
        eventsFired s t ((if auth then [42] else []) ++ if s.ringTakes 13 16 then [41] else []))

/-- A WRITE or WRITE_BLOCK that passes its checks and is governed by a STOPPED function stages its values and changes no
committed value and no heat. A WRITE of a PERSIST member that commits at once changes the value, moves the heat by one and
fires event 61, after the journal transaction; where that fails, or its records do not fit the store, no object changes and
NV_COMMIT is logged. A CALL of stop takes a function in RUN to STOPPING, of start one STOPPED to STARTING, each holding its
entry until the outcome, and of discard drops the staged values. (08_object_dictionary R268, 08_object_dictionary R272,
08_object_dictionary R274, 08_object_dictionary R276, 08_object_dictionary R285, 08_object_dictionary R293) -/
def Obligations.WritesStageOrCommit : Prop :=
  ∀ (s : State) (nvOk : Bool) (t0 : Txn) (bytes : List Byte), s.odServes = true → s.odHostReq = some (t0, bytes) → s.ringFits 13 16 →
    s.isTwin = false → s.rb Reg.twnStat 5 = false → s.txnFree 0 = true →
    let r := odParse true bytes
    let accepted := fun (op : Nat) =>
      (s.setRf (Reg.rngTail 12) 0 16 (s.ringTail 12 + 1)).txnAccept { t0 with op := op, id := r.id, typ := r.typ }
    r.lengthOk = true → (accepted r.op).odRefusal r none s.hostRole false = none →
    (∀ f, odClass r.id ≠ 8 → odClass r.id ≠ 0x21 → r.values.length = r.count →
      (∀ q ∈ r.ids.zip r.values, (accepted r.op).odEffect q.1 q.2 = .stage f ∧ odKeyArea q.1 = false) →
      let stages := fun (t : State) =>
        t = { s with regs := t.regs, mem := t.mem, held := t.held, cen := cenNoted s t,
                     od := { s.od with counters := t.od.counters, txns := t.od.txns, staged := t.od.staged } } ∧
        (∀ q ∈ r.ids.zip r.values, t.odStaged q.1 = some q.2) ∧ (∀ j, j ∉ r.ids → t.odStaged j = s.odStaged j) ∧
        regsKept s t ([Reg.rngTail 12, Reg.odxHwm] ++ ringRegs 13) ∧ eventsFired s t (if s.ringTakes 13 16 then [41] else [])
      (r.op = 2 → ∃ t, exec (.odWrite .ring12 nvOk) s = .next t ∧ stages t) ∧
      (r.op = 3 → ∃ t, exec (.odWriteBlock .ring12 nvOk) s = .next t ∧ stages t)) ∧
    (∀ v, r.op = 2 → odClass r.id ≠ 8 → odClass r.id ≠ 0x21 → r.values = [v] → r.count = 1 → (accepted 2).odEffect r.id v = .commit →
      (nvOk = true → s.knb.nvFault = false → s.nvFits (s.nvWith [(r.id, v)]) = true →
        ∃ t, exec (.odWrite .ring12 nvOk) s = .next t ∧ t.od.heat = heatAfter s.od.heat ∧ t.nv.heat = some (heatAfter s.od.heat) ∧
          t.od.committed = Tab.put odDefault s.od.committed r.id v ∧ t.od.staged = s.od.staged ∧ t.od.fns = s.od.fns ∧
          t.coreLatch 61 = true ∧ t.hostLatch 61 = true) ∧
      (nvOk = false ∨ s.knb.nvFault = true ∨ s.nvFits (s.nvWith [(r.id, v)]) = false →
        ∃ t, exec (.odWrite .ring12 nvOk) s = .next t ∧
          t = { s with regs := t.regs, mem := t.mem, held := t.held, log := t.log, cen := cenNoted s t,
                       od := { s.od with counters := t.od.counters, txns := t.od.txns } } ∧
          t.log = (if s.knb.nvFault then s.log else (s.fault 0x0E02 0).log))) ∧
    (∀ cmd f, r.op = 4 → f = odInst r.id → r.values = [.num cmd] → odClass r.id = 8 → odMem r.id = 1 →
      (cmd = 1 ∧ (s.fn f).state = 2 ∧ (f = 2 → s.planNeeded = false)) ∨ (cmd = 2 ∧ (s.fn f).state = 0) →
      ∃ t, exec (.odCall .ring12) s = .next t ∧
        t = { s with regs := t.regs, od := { s.od with counters := t.od.counters, txns := t.od.txns, fns := t.od.fns }, cen := cenNoted s t } ∧
        (t.fn f).state = (if cmd = 1 then 3 else 1) ∧ (t.fn f).tickAt = s.stamp ∧ (∀ g, g ≠ f → t.fn g = s.fn g) ∧
        t.od.txns.length = s.od.txns.length + 1 ∧ regsKept s t [Reg.rngTail 12, Reg.odxHwm] ∧ eventsFired s t []) ∧
    (∀ f, r.op = 4 → f = odInst r.id → r.values = [.num 3] → odClass r.id = 8 → odMem r.id = 1 → (s.fn f).state = 0 →
      ∃ t, exec (.odCall .ring12) s = .next t ∧
        t = { s with regs := t.regs, mem := t.mem, held := t.held, cen := cenNoted s t,
                     od := { s.od with counters := t.od.counters, txns := t.od.txns, staged := t.od.staged } } ∧
        t.od.staged = s.od.staged.filter (fun e => e.fn != f))

/-- A stop takes a function in RUN to STOPPING and one in STOPPED nowhere; a function on its way is not touched. A start that
R269 refuses changes nothing; one of a STOPPED function that its validation refuses, or whose journal transaction fails,
leaves it STOPPED with its code, its staged values, the committed set and the heat as they were; one that passes waits as
STARTING with the new heat in the store. At a class-0 boundary a start commits: RUN, the staged values become committed, the
heat moves by one with event 61; a stop commits: STOPPED, with no change of any value. Discard drops the staged values of a
STOPPED function. A read of ODX_HEAT latches the digests. (08_object_dictionary R266, 08_object_dictionary R268,
08_object_dictionary R269, 08_object_dictionary R270, 08_object_dictionary R276, 08_object_dictionary R292,
08_object_dictionary R293) -/
def Obligations.FunctionCommands : Prop :=
  (∀ (f : Nat) (s : State), fnDefined f = true → s.present (fnUnit f) = true → s.runtimeRuns = true →
    (s.fn f).state = 2 → (f = 2 → s.planNeeded = false) →
    ∃ t, exec (.functionStop f) s = .next t ∧ t = { s with regs := t.regs, od := { s.od with fns := t.od.fns }, cen := cenNoted s t } ∧
      t.fn f = { s.fn f with state := 3, tickAt := s.stamp } ∧ (∀ g, g ≠ f → t.fn g = s.fn g) ∧ regsKept s t [] ∧ eventsFired s t []) ∧
  (∀ (f : Nat) (s : State), (s.fn f).state = 1 ∨ (s.fn f).state = 3 →
    changesNothing (.functionStop f) s ∧ changesNothing (.functionDiscard f) s) ∧
  (∀ (f : Nat) (nvOk : Bool) (s : State), (s.fn f).state = 0 → s.fnCallCode f 2 ≠ 0 → changesNothing (.functionStart f nvOk) s) ∧
  (∀ (f : Nat) (nvOk : Bool) (s : State) (c : Nat), fnDefined f = true → s.present (fnUnit f) = true → s.runtimeRuns = true →
    s.od.startup = none → (s.fn f).state = 0 → s.fnCallCode f 2 = 0 → (s.fn f).ready = false → s.mixedStandby = false →
    c = ((s.fnTo f 1).fnValidate f false).1 →
    ∃ t, exec (.functionStart f nvOk) s = .next t ∧
      t.od.heat = s.od.heat ∧ t.od.committed = s.od.committed ∧ t.od.staged = s.od.staged ∧ (∀ g, g ≠ f → t.fn g = s.fn g) ∧
      (c ≠ 0 → (t.fn f).state = 0 ∧ (t.fn f).resp = c ∧ t.nv.heat = s.nv.heat ∧ t.nv.objs = s.nv.objs) ∧
      (c = 0 → nvOk = true → s.knb.nvFault = false → s.nvFits (s.nvWith ((s.fnStaged f).map (fun e => (e.id, e.val)))) = true →
        (t.fn f).state = 1 ∧ (t.fn f).ready = true ∧
        t.nv.heat = some (heatAfterN (s.fnReady.length + 1) s.od.heat)) ∧
      (c = 0 → nvOk = false ∨ s.knb.nvFault = true ∨ s.nvFits (s.nvWith ((s.fnStaged f).map (fun e => (e.id, e.val)))) = false →
        (t.fn f).state = 0 ∧ (t.fn f).resp = 0xD ∧ t.nv.heat = s.nv.heat ∧ t.nv.objs = s.nv.objs)) ∧
  (∀ (f : Nat) (s : State), fnDefined f = true → s.present (fnUnit f) = true → s.runtimeRuns = true → (s.fn f).state = 0 →
    ∃ t, exec (.functionDiscard f) s = .next t ∧ t = { s with regs := t.regs, od := { s.od with staged := t.od.staged }, cen := cenNoted s t } ∧
      t.od.staged = s.od.staged.filter (fun e => e.fn != f) ∧ regsKept s t [] ∧ eventsFired s t []) ∧
  (∀ (f : Nat) (s : State), fnDefined f = true → s.atBoundary0 = true → s.od.startup = none → (s.fn f).ready = true → s.mixedStandby = false →
    ∃ t, exec (.functionStartCommit f) s = .next t ∧ t.od.heat = heatAfter s.od.heat ∧
      (t.fn f).state = 2 ∧ (t.fn f).ready = false ∧ (t.fn f).resp = 0 ∧ (t.fn f).heatAt = heatAfter s.od.heat ∧ (t.fn f).tickAt = s.stamp ∧
      t.od.committed = s.odCandidate f ∧ t.od.staged = s.od.staged.filter (fun e => e.fn != f) ∧
      (∀ g, g ≠ f → t.fn g = s.fn g) ∧ t.coreLatch 61 = true ∧ t.hostLatch 61 = true) ∧
  (∀ (f : Nat) (s : State), (s.fn f).ready = false → changesNothing (.functionStartCommit f) s) ∧
  (∀ (f : Nat) (s : State), fnDefined f = true → s.atBoundary0 = true → (s.fn f).state = 3 →
    ∃ t, exec (.functionStopCommit f) s = .next t ∧ (t.fn f).state = 0 ∧ (t.fn f).resp = 0 ∧ (t.fn f).tickAt = s.stamp ∧
      (∀ g, g ≠ f → t.fn g = s.fn g) ∧ t.od.heat = s.od.heat ∧ t.od.committed = s.od.committed ∧ t.od.staged = s.od.staged) ∧
  (∀ (who : Init) (s : State),
    ∃ t, exec (.odxHeatRead who) s = .next t ∧ t = { s with regs := t.regs, lastRead := BitVec.ofNat 32 s.od.heat, cen := cenNoted s t } ∧
      (t.reg Reg.odxHdigHi ++ t.reg Reg.odxHdigLo).toNat = s.od.hdig % 2 ^ 64 ∧
      (t.reg Reg.odxSdigHi ++ t.reg Reg.odxSdigLo).toNat = s.od.sdig % 2 ^ 64 ∧
      regsKept s t [Reg.odxHeat, Reg.odxHdigLo, Reg.odxHdigHi, Reg.odxSdigLo, Reg.odxSdigHi] ∧ eventsFired s t [])

/-- A message under a session 0 to 255 that has passed its checks on one port passes them on neither port when it comes again, in
the state that its first copy left. A message whose tag is wrong, or whose session is not served, changes no receive window,
so that it cannot suppress a good copy. (09_field_network R310, 09_field_network R315, 09_field_network R316,
09_field_network R327) -/
def Obligations.NoMessageIsAcceptedTwice : Prop :=
  (∀ (s s1 : State) (p : Nat) (m : NetFrame), m.session ≠ 0xFFFF → s.netCheck p m = (.pass, s1) →
    ∀ q, (s1.netCheck q m).1 ≠ .pass) ∧
  (∀ (s : State) (p : Nat) (m : NetFrame), m.session ≠ 0xFFFF → s.sessionOk m.session = false ∨ m.tag ≠ s.netTag m →
    (s.netCheck p m).1 ≠ .pass ∧ (s.netCheck p m).2.net.windows = s.net.windows)

/-- A port that loses its BEACON falls back with PLCA_LOST and takes PLCA up at the next one; a stopped PHY clock stops the port,
cuts the frame off and is logged. A frame that has left counts, with its collisions and its event. A frame with a bad FCS, or
that no rule of R306 accepts, only counts. A management write takes its fields and starts a frame for OP 1 or 2; its end
clears GO and leaves what was read, with MDIO_ERR for 0xFFFF. A window closes after 180 s without a message. A new root key
sets the sequence counter to 0 and closes every window; the requests in flight keep the old key for their responses.
(09_field_network R298, 09_field_network R299, 09_field_network R301, 09_field_network R306, 09_field_network R309,
09_field_network R316, 09_field_network R318, 09_field_network R326, 09_field_network R327, 01_architecture R28) -/
def Obligations.NetworkPortsAndManagement : Prop :=
  (∀ (p : Nat) (s : State), s.netUp p = true → s.rb (Reg.netpCfg p) 0 = true → s.rb (Reg.netpStat p) 2 = false → s.net.fallen.getD p false = false →
    ∃ t, exec (.plcaLost p) s = .next t ∧
      t = { s with regs := t.regs, log := (s.fault 0x0D02 p).log, net := { s.net with fallen := s.net.fallen.set p true }, cen := cenNoted s t } ∧
      t.rb (Reg.netpStat p) 1 = false ∧ t.reg (Reg.netpStat p) &&& 0xFFFFFFFD = s.reg (Reg.netpStat p) &&& 0xFFFFFFFD ∧
      regsKept s t [Reg.netpStat p] ∧ eventsFired s t []) ∧
  (∀ (p : Nat) (s : State), s.netUp p = true → s.rb (Reg.netpCfg p) 0 = true →
    ∃ t, exec (.plcaResume p) s = .next t ∧ t = { s with regs := t.regs, net := { s.net with fallen := s.net.fallen.set p false }, cen := cenNoted s t } ∧
      t.rb (Reg.netpStat p) 1 = true ∧ regsKept s t [Reg.netpStat p] ∧ eventsFired s t []) ∧
  (∀ (p : Nat) (s : State), s.netUp p = true →
    ∃ t, exec (.portClock p) s = .next t ∧
      t = { s with regs := t.regs, log := (s.fault 0x0D01 p).log,
                   net := { s.net with txA := if p = 0 then s.net.txA.drop 1 else s.net.txA,
                                       txB := if p = 0 then s.net.txB else s.net.txB.drop 1 }, cen := cenNoted s t } ∧
      t.rb (Reg.netpStat p) 0 = false ∧ t.rb (Reg.netpStat p) 3 = true ∧ t.netUp p = false ∧
      regsKept s t [Reg.netpStat p] ∧ eventsFired s t []) ∧
  (∀ (p c : Nat) (s : State) (m : NetFrame) (rest : List NetFrame), s.netUp p = true → (if p = 0 then s.net.txA else s.net.txB) = m :: rest →
    ∃ t, exec (.frameTransmitDone p c) s = .next t ∧
      t = { s with regs := t.regs, cen := cenNoted s t,
                   net := { s.net with txA := if p = 0 then rest else s.net.txA, txB := if p = 0 then s.net.txB else rest } } ∧
      (t.reg (Reg.netpTxfrm p)).toNat = min 0xFFFFFFFF ((s.reg (Reg.netpTxfrm p)).toNat + 1) ∧
      (t.reg (Reg.netpCol p)).toNat = min 0xFFFFFFFF ((s.reg (Reg.netpCol p)).toNat + c) ∧ regsKept s t [Reg.netpTxfrm p, Reg.netpCol p] ∧ eventsFired s t [if p = 0 then 36 else 39]) ∧
  (∀ (p : Nat) (m : NetFrame) (s : State), s.netUp p = true → s.isTwin = false → m.rxEr = true ∨ m.fcs ≠ crc32 (netBytes m) →
    ∃ t, exec (.frameDrop p m) s = .next t ∧ t = { s with regs := t.regs, cen := cenNoted s t } ∧
      (t.reg (Reg.netpFcserr p)).toNat = min 0xFFFFFFFF ((s.reg (Reg.netpFcserr p)).toNat + 1) ∧
      regsKept s t [Reg.netpFcserr p] ∧ eventsFired s t []) ∧
  (∀ (p : Nat) (m : NetFrame) (s : State), s.netUp p = true → s.isTwin = false → m.rxEr = false → m.fcs = crc32 (netBytes m) → s.netAccepts m = false →
    ∃ t, exec (.frameDrop p m) s = .next t ∧ t = { s with regs := t.regs, cen := cenNoted s t } ∧
      (t.reg (Reg.netpRxdrop p)).toNat = min 0xFFFFFFFF ((s.reg (Reg.netpRxdrop p)).toNat + 1) ∧
      regsKept s t [Reg.netpRxdrop p] ∧ eventsFired s t []) ∧
  (∀ (who : Init) (v : Word) (s : State), who ≠ .host → s.rb Reg.netMdio 12 = false →
    ∃ t, exec (.mdioGo who v) s = .next t ∧ t = { s with regs := t.regs, cen := cenNoted s t } ∧
      t.reg Reg.netMdio &&& 0xFFFFEFFF = v &&& 0xFFFF0FFF ∧
      (t.rb Reg.netMdio 12 = true ↔ bitOf v 12 = true ∧ fld v 10 2 ∈ [1, 2]) ∧ regsKept s t [Reg.netMdio] ∧ eventsFired s t []) ∧
  (∀ (data : BitVec 16) (s : State), s.rb Reg.netMdio 12 = true → s.net.phy = [] →
    ∃ t, exec (.mdioDone data) s = .next t ∧ t = { s with regs := t.regs, cen := cenNoted s t } ∧ t.rb Reg.netMdio 12 = false ∧
      t.rf Reg.netMdio 0 12 = s.rf Reg.netMdio 0 12 ∧
      t.rf Reg.netMdio 16 16 = (if s.rf Reg.netMdio 10 2 = 2 then data.toNat else s.rf Reg.netMdio 16 16) ∧
      t.rb Reg.netStat 3 = (s.rb Reg.netStat 3 || decide (s.rf Reg.netMdio 10 2 = 2 ∧ data = 0xFFFF)) ∧
      regsKept s t [Reg.netMdio, Reg.netStat] ∧ eventsFired s t []) ∧
  (∀ (addr : Nat) (s : State), s.awake = true →
    ∃ t, exec (.windowClose addr) s = .next t ∧ t = { s with regs := t.regs, net := { s.net with windows := t.net.windows }, cen := cenNoted s t } ∧
      (∀ x, x ∈ t.net.windows ↔ x ∈ s.net.windows ∧ ¬(x.1 = addr ∧ x.2.last + 720000 ≤ s.now)) ∧ regsKept s t [] ∧ eventsFired s t []) ∧
  (∀ (old : Option (List Byte)) (s : State), s.net.rootPending = some old →
    ∃ t, exec .rootKeyApply s = .next t ∧
      t = { s with regs := t.regs, od := { s.od with txns := t.od.txns }, net := { s.net with rootPending := none, windows := [] },
                   cen := cenNoted s t } ∧
      t.rootKeyNow = s.nv.rootKey ∧ s.netRootKey = old.getD (List.replicate 16 0) ∧
      t.od.txns = s.od.txns.map (fun x => if x.root = none then { x with root := some s.netRootKey } else x) ∧
      t.reg Reg.netSeq = 0 ∧ t.rf Reg.netStat 0 2 = 0 ∧ t.rf Reg.netStat 2 2 = s.rf Reg.netStat 2 2 ∧
      regsKept s t [Reg.netSeq, Reg.netStat] ∧ eventsFired s t [])

/-- A message sent takes the sequence number, joins the queue of a port that runs as a whole frame with its tag, MAC addresses
and FCS, and the counter rises by one. A heartbeat leaves once per interval, to group 0 of the own segment; one received from
the own group is compared: the third differing one in a row lists its sender with DIGEST_MISMATCH, the third matching one, or
ten intervals of silence, take it off the list, any other changes no list. TIME is captured. A census is answered once per ID
and second. NOTIFY takes up to 16 entries of ring 18, is sent again after 1 s with a new number, and after four sends is
dropped and counted; its response ends it. (09_field_network R303, 09_field_network R308, 09_field_network R316,
09_field_network R317, 09_field_network R319, 09_field_network R320, 09_field_network R321, 09_field_network R322,
08_object_dictionary R281, 08_object_dictionary R282) -/
def Obligations.AiridMessages : Prop :=
  let quiet := fun (s : State) => (s.reg Reg.netSeq).toNat % 65536 ≠ 65535 ∧ (s.reg Reg.netSeq).toNat < 0xFFFFFFFE ∧
    ((s.reg Reg.netSeq).toNat + 1 < 0xF0000000 ∨ s.rb Reg.netStat 0 = true) ∧ s.rb Reg.netStat 1 = false ∧
    s.netAssigned = true ∧ s.isTwin = false
  let sends := fun (s t : State) (typ dst session : Nat) (body : List Byte) =>
    t.reg Reg.netSeq = s.reg Reg.netSeq + 1 ∧
    (s.netUp 0 = true → ∃ f, t.net.txA = s.net.txA ++ [f] ∧ f.typ = typ ∧ f.src = s.netAddr ∧ f.dst = dst ∧
      f.seq = (s.reg Reg.netSeq).toNat ∧ f.session = session ∧ f.body = body ∧ f.tag = s.netTag f ∧ f.dmac = netMacOf dst ∧
      f.smac = netMac s.netAddr ∧ f.fcs = crc32 (netBytes f) ∧ 60 ≤ (netBytes f).length) ∧
    (s.netUp 1 = true → t.net.txB.length = s.net.txB.length + 1)
  (∀ s : State, quiet s → s.runtimeRuns = true → s.od.serving = true → s.net.hbLast + 4000 * s.net.hbInterval ≤ s.now →
    ∃ t, exec .heartbeatSend s = .next t ∧
      t = { s with regs := t.regs, net := { s.net with hbLast := s.now, txA := t.net.txA, txB := t.net.txB }, cen := cenNoted s t } ∧
      (∃ body, body.length = 24 ∧ ofBe (slice body 0 4) = s.od.heat % 2 ^ 32 ∧ ofBe (slice body 4 8) = s.od.sdig % 2 ^ 64 ∧
        ofBe (slice body 16 4) = s.rtc.epoch % 2 ^ 32 ∧ sends s t 6 (0x8000 + s.netAddr / 32 * 1024 + 0x3E0) 0 body) ∧
      regsKept s t [Reg.netSeq] ∧ eventsFired s t []) ∧
  (∀ (p : Nat) (m : NetFrame) (s s1 : State), m.typ = 6 → s.netUp p = true → s.isTwin = false → s.netCheck p m = (.pass, s1) →
    ∃ t, exec (.heartbeatReceive p m) s = .next t ∧
      t = { s with regs := t.regs, log := t.log, cen := cenNoted s t, net := { s.net with windows := s1.net.windows },
                   od := { s.od with mismatch := t.od.mismatch, mismatchCount := t.od.mismatchCount, compared := t.od.compared } } ∧
      regsKept s t [Reg.netpRxfrm p] ∧ eventsFired s t [if p = 0 then 35 else 38] ∧
      (let c := ((s.od.compared.find? (fun (x : Nat × (Nat × Nat × Bool × Nat)) => x.1 == m.src)).map Prod.snd).getD (0, 0, false, 0)
       let compared := s.odNat 2 0 3 ≠ 0 ∧ ofBe (slice m.body 12 2) = s.odNat 2 0 3 ∧ m.flags.testBit 3 = false
       let same := ofBe (slice m.body 4 8) = s.od.sdig
       let reports := compared ∧ ¬same ∧ c.2.2.1 = false ∧ 2 ≤ c.1
       let clears := compared ∧ same ∧ c.2.2.1 = true ∧ 2 ≤ c.2.1
       (reports → t.od.mismatchCount = min 0xFFFF (s.od.mismatchCount + 1) ∧ t.log = (s.fault 0x0E01 m.src).log ∧
         (0xFFFF ∈ s.od.mismatch → m.src ∈ t.od.mismatch)) ∧
       (clears → t.od.mismatchCount = s.od.mismatchCount - 1 ∧ t.log = s.log ∧ (m.src ≠ 0xFFFF → m.src ∉ t.od.mismatch)) ∧
       (¬reports → ¬clears → t.od.mismatchCount = s.od.mismatchCount ∧ t.od.mismatch = s.od.mismatch ∧ t.log = s.log) ∧
       (¬compared → t.od = s.od))) ∧
  (∀ (addr bad good last : Nat) (rep : Bool) (s : State),
    s.od.compared.find? (fun (x : Nat × (Nat × Nat × Bool × Nat)) => x.1 == addr) = some (addr, bad, good, rep, last) →
    (rep = true → last + 4000 * (10 * s.net.hbInterval) ≤ s.now → addr ≠ 0xFFFF →
      ∃ t, exec (.digestMismatchClear addr) s = .next t ∧
        t = { s with regs := t.regs, od := { s.od with mismatch := t.od.mismatch, mismatchCount := s.od.mismatchCount - 1, compared := t.od.compared }, cen := cenNoted s t } ∧
        addr ∉ t.od.mismatch ∧ (∀ a, a ≠ addr → a ∈ s.od.mismatch → a ∈ t.od.mismatch) ∧ regsKept s t [] ∧ eventsFired s t []) ∧
    (rep = false ∨ s.now < last + 4000 * (10 * s.net.hbInterval) → changesNothing (.digestMismatchClear addr) s)) ∧
  (∀ (p : Nat) (m : NetFrame) (s s1 : State), m.typ = 7 → s.netUp p = true → s.isTwin = false → s.netCheck p m = (.pass, s1) →
    s.rb Reg.rtcMeasCfg 3 = false → s.rtcRuntime = false ∨ s.odNum 3 0 0xB ≠ 2 ∨ s.rtcHalted = true →
    ∃ t, exec (.timeReceive p m) s = .next t ∧
      t = { s with regs := t.regs, free := t.free, cen := cenNoted s t, net := { s.net with windows := s1.net.windows } } ∧
      (t.reg Reg.rtcBeaconEpoch).toNat = s.rtc.epoch % 2 ^ 32 ∧ t.rb Reg.rtcBeaconSub 31 = true ∧
      regsKept s t [Reg.netpRxfrm p, Reg.rtcBeaconEpoch, Reg.rtcBeaconSub] ∧ eventsFired s t [if p = 0 then 35 else 38]) ∧
  (∀ (p : Nat) (m : NetFrame) (s s1 : State), m.typ = 8 → s.netUp p = true → quiet s → s.netCheck p m = (.pass, s1) →
    ∃ t, exec (.censusReceive p m) s = .next t ∧
      t = { s with regs := t.regs, cen := cenNoted s t,
                   net := { s.net with windows := s1.net.windows, txA := t.net.txA, txB := t.net.txB, censusSeen := t.net.censusSeen,
                                       lastCensus := t.net.lastCensus, censusReplies := t.net.censusReplies } } ∧
      (let id := ofBe (slice m.body 0 4)
       let again := ∃ x ∈ s.net.censusSeen, x.1 = id ∧ s.now < x.2 + 4000
       (¬again → t.net.lastCensus = id ∧ t.net.censusReplies = s.net.censusReplies + 1 ∧ sends s t 9 (m.src % 1024) 0 (s.censusBody id) ∧
         (s.censusBody id).length = 44) ∧
       (again → t.net.lastCensus = s.net.lastCensus ∧ t.net.censusReplies = s.net.censusReplies ∧ t.net.txA = s.net.txA ∧
         t.reg Reg.netSeq = s.reg Reg.netSeq)) ∧
      regsKept s t [Reg.netpRxfrm p, Reg.netSeq] ∧ eventsFired s t [if p = 0 then 35 else 38]) ∧
  (∀ s : State, quiet s → s.runtimeRuns = true → s.net.notifyDest ≠ 0xFFFF → s.net.notify = none → s.ringOn 18 = true → s.ringCount 18 ≠ 0 →
    ∃ t n, exec .notifySend s = .next t ∧ t.net.notify = some n ∧ n.sends = 1 ∧ n.last = s.now ∧ n.entries.length = min 16 (s.ringCount 18) ∧
      t = { s with regs := t.regs, net := { s.net with notify := some n, txA := t.net.txA, txB := t.net.txB }, cen := cenNoted s t } ∧
      t.ringTail 18 = (s.ringTail 18 + min 16 (s.ringCount 18)) % 65536 ∧
      sends s t 5 s.net.notifyDest s.net.notifySession ([BitVec.ofNat 8 n.entries.length, 0, 0, 0] ++ n.entries.flatten) ∧
      regsKept s t [Reg.rngTail 18, Reg.netSeq] ∧ eventsFired s t []) ∧
  (∀ (n : NotifySt) (s : State), quiet s → s.runtimeRuns = true → s.net.notify = some n → n.last + 4000 ≤ s.now →
    ∃ t, exec .notifyRetry s = .next t ∧ t = { s with regs := t.regs, net := { s.net with notify := t.net.notify, txA := t.net.txA, txB := t.net.txB }, cen := cenNoted s t } ∧
      (n.sends < 4 → t.net.notify = some { n with sends := n.sends + 1, last := s.now, seqs := n.seqs ++ [(s.reg Reg.netSeq).toNat] } ∧
        sends s t 5 s.net.notifyDest s.net.notifySession ([BitVec.ofNat 8 n.entries.length, 0, 0, 0] ++ n.entries.flatten) ∧
        regsKept s t [Reg.netSeq]) ∧
      (4 ≤ n.sends → t.net.notify = none ∧ t.net.txA = s.net.txA ∧
        (t.reg Reg.netNotlost).toNat = min 0xFFFFFFFF ((s.reg Reg.netNotlost).toNat + 1) ∧ regsKept s t [Reg.netNotlost]) ∧ eventsFired s t []) ∧
  (∀ (p : Nat) (m : NetFrame) (s s1 : State), m.typ = 5 → s.netUp p = true → quiet s → s.netCheck p m = (.pass, s1) →
    ∃ t, exec (.notifyAck p m) s = .next t ∧
      t = { s with regs := t.regs, cen := cenNoted s t,
                   net := { s.net with windows := s1.net.windows, notify := t.net.notify, txA := t.net.txA, txB := t.net.txB } } ∧
      (m.flags % 2 = 1 → t.net.notify = (if m.src % 1024 = s.net.notifyDest then none else s.net.notify) ∧ t.net.txA = s.net.txA) ∧
      (m.flags % 2 = 0 → t.net.notify = s.net.notify ∧ sends s t 5 (m.src % 1024) m.session []) ∧
      regsKept s t [Reg.netpRxfrm p, Reg.netSeq] ∧ eventsFired s t [if p = 0 then 35 else 38])

/-- A kick restarts the twin watchdog; without one for four base ticks an ACTIVE, FORMED chip that holds OWN releases it, stops
driving and is due for a forced reset one tick later. The levels of TWN_OWN and TWN_ALIVE_IN are recorded with the ticks from
which they last. A standby claims once OWN has been high for two ticks, an UNFORMED chip after its function starts: it holds
OWN as ACTIVE, not FORMED, counts the takeover in TWN_TAKEOVERS and counter 17, logs TAKEOVER, drops requests and receive
windows, releases every key, engages the key lock where there is a sequence, and drives one tick later; a standby also takes
over the sequence counter plus 65,536, with the limits of R318. OWN and ALIVE both low for 8 ticks under no pull of its own
set OWN_STUCK, once for each time. A DRAG that has claimed but does not drive gives way to a CLAIM token. (10_twin_pair R336,
10_twin_pair R338, 10_twin_pair R339, 10_twin_pair R340, 10_twin_pair R341, 10_twin_pair R342, 10_twin_pair R343,
10_twin_pair R345, 10_twin_pair R349, 17_keypad_encoders R578) -/
def Obligations.FlaskOwnAndClaims : Prop :=
  let lines := fun (s : State) (pulled : Bool) (w : TwnSt) =>
    let own := w.ownIn && !pulled
    let stuck := !own && !w.aliveIn && !pulled
    ({ w with ownHighAt := if own then some (w.ownHighAt.getD s.now) else none,
              aliveLowAt := if w.aliveIn then none else some (w.aliveLowAt.getD s.now),
              bothLowAt := if stuck then some (w.bothLowAt.getD s.now) else none, stuckDone := stuck && w.stuckDone } : TwnSt)
  let quiet := fun (s : State) => s.rb Reg.twnStat 5 = false ∧ s.reg Reg.sysOwn = 0 ∧ s.zoneMirrorFresh = true ∧
    (∀ n, n < s.nActs → s.actMode n ≠ 1 ∧ (s.act1 n).moving = false) ∧ s.knb.commit = none ∧ s.knb.stalledInc = [] ∧ s.knabCtrVal 17 < 2 ^ 64 - 1 ∧
    (s.role = 1 → ∀ f ∈ s.od.fns.map Prod.fst, (s.fn f).state ≠ 1)
  let claimed := fun (s t : State) (cause : Nat) (q : Option Nat) =>
    t = { s with regs := t.regs, mem := t.mem, cen := cenNoted s t, kpd := { s.kpd with keys := [] }, zon := { s.zon with due := false, hits := [] },
                 log := (let u := (s.happen 46 (512 + cause)).fault 0x0F02 (s.twn.relCause.getD 0)
                         let u := if s.lockLen = 0 then u else u.fault 0x0904 0
                         match q with | some n => u.netSeqTo n | none => u).log,
                 net := { s.net with windows := [] }, od := { s.od with txns := [], ownPending := none },
                 twn := { lines s true s.twn with
                            tx := (s.sendToken .claim).twn.tx, roleTick := s.stamp, kickAt := s.now, relCause := none,
                            driveAt := some (s.now + 1), grafts := [], cmp := [], config := [], configDone := false, cand := false,
                            reload := none, runmap := [], started := [], ticksFrom := none } } ∧
    t.role = 2 ∧ t.rb Reg.twnStat 4 = false ∧ t.rb Reg.twnStat 7 = s.twn.aliveIn ∧ t.rb Reg.twnStat 8 = false ∧
    t.rb Reg.twnStat 9 = true ∧ t.rf Reg.twnStat 16 4 = cause ∧ t.reg Reg.twnStat &&& 0xFFF0FC63 = s.reg Reg.twnStat &&& 0xFFF0FC63 ∧
    t.rf Reg.twnTakeovers 0 16 = min 0xFFFF (s.rf Reg.twnTakeovers 0 16 + 1) ∧ t.knabCtrVal 17 = s.knabCtrVal 17 + 1 ∧
    storeKept s t (fun a => knabCtr 17 ≤ a && a < knabCtr 17 + 12) ∧
    (match q with
     | some n => t.reg Reg.netSeq = BitVec.ofNat 32 (min 0xFFFFFFFF n) ∧ t.rb Reg.netStat 0 = (s.rb Reg.netStat 0 || decide (0xF0000000 ≤ n)) ∧
         t.rb Reg.netStat 1 = (s.rb Reg.netStat 1 || decide (0xFFFFFFFF ≤ n)) ∧
         t.reg Reg.netStat &&& 0xFFFFFFFC = s.reg Reg.netStat &&& 0xFFFFFFFC
     | none => t.reg Reg.netSeq = s.reg Reg.netSeq ∧ t.reg Reg.netStat = s.reg Reg.netStat) ∧
    (if s.lockLen = 0 then t.reg Reg.kpdLock = s.reg Reg.kpdLock else t.lockState = 1 ∧ t.lockPos = 0 ∧ t.lockAttempts = 0) ∧
    (∀ i, i < 8 → t.reg (Reg.kpdMask i) = 0) ∧
    regsKept s t ([Reg.twnStat, Reg.twnTakeovers, Reg.netSeq, Reg.netStat, Reg.kpdLock] ++ (List.range 8).map Reg.kpdMask) ∧
    eventsFired s t (46 :: if s.lockLen ≠ 0 ∧ s.lockState ≠ 1 then [20] else [])
  (∀ (who : Init) (s : State), s.present 16 = true → mayWrite who 16 s →
    ∃ t, exec (.twinKick who) s = .next t ∧ t = { s with regs := t.regs, twn := { s.twn with kickAt := s.now }, cen := cenNoted s t } ∧
      regsKept s t [] ∧ eventsFired s t []) ∧
  (∀ s : State, s.isTwin = true → s.awake = true → s.role = 2 → s.rb Reg.twnStat 4 = true → s.rb Reg.twnStat 9 = true →
    s.twn.kickAt + 4 ≤ s.now →
    ∃ t, exec .twinWatchdog s = .next t ∧
      t = { s with regs := t.regs, cen := cenNoted s t,
                   twn := { lines s false s.twn with drives := false, driveAt := none, forcedAt := some (s.now + 1),
                                                     tx := (s.sendToken (.release 2)).twn.tx } } ∧
      t.rb Reg.twnStat 7 = s.twn.aliveIn ∧ t.rb Reg.twnStat 8 = s.twn.ownIn ∧ t.rb Reg.twnStat 9 = false ∧
      t.reg Reg.twnStat &&& 0xFFFFFC7F = s.reg Reg.twnStat &&& 0xFFFFFC7F ∧ regsKept s t [Reg.twnStat] ∧ eventsFired s t []) ∧
  (∀ s : State, s.now < s.twn.kickAt + 4 → changesNothing .twinWatchdog s) ∧
  (∀ (own alive : Bool) (s : State),
    ∃ t, exec (.ownChange own alive) s = .next t ∧
      t = { s with regs := t.regs, cen := cenNoted s t,
                   twn := lines s (s.rb Reg.twnStat 9) { s.twn with ownIn := own, aliveIn := alive } } ∧
      t.rb Reg.twnStat 7 = (s.isTwin && alive) ∧ t.rb Reg.twnStat 8 = (!s.isTwin || own && !s.rb Reg.twnStat 9) ∧
      t.reg Reg.twnStat &&& 0xFFFFFE7F = s.reg Reg.twnStat &&& 0xFFFFFE7F ∧ regsKept s t [Reg.twnStat] ∧ eventsFired s t []) ∧
  (∀ s : State, s.isStandby = true → s.awake = true → s.ownHighFor 2 = true → quiet s →
    ∃ t, exec .claim s = .next t ∧
      claimed s t (if s.twn.relCause.isSome then 3 else 4) (some (s.twn.seqMirror + 65536))) ∧
  (∀ s : State, s.isStandby = false ∨ s.ownHighFor 2 = false → changesNothing .claim s) ∧
  (∀ s : State, s.isTwin = true → s.awake = true → s.role = 0 → s.pwr.b1.isSome = true →
    (if s.rf Reg.twnStat 0 2 = 2 then (s.ownHighFor 2 && s.aliveLowFor 2) || s.ownHighFor 4000 else s.ownHighFor 2) = true → quiet s →
    ∃ t, exec .loneClaim s = .next t ∧ claimed s t 5 none) ∧
  (∀ s : State, s.role ≠ 0 ∨ s.pwr.b1 = none ∨ s.ownHighFor 2 = false ∧ s.ownHighFor 4000 = false → changesNothing .loneClaim s) ∧
  (∀ (s : State) (u : Nat), s.awake = true → s.twn.driveAt = some u → u ≤ s.now →
    ∃ t, exec .claimDrive s = .next t ∧ t = { s with regs := t.regs, twn := { s.twn with drives := true, driveAt := none }, cen := cenNoted s t } ∧
      regsKept s t [] ∧ eventsFired s t []) ∧
  (∀ (s : State) (u : Nat), s.isTwin = true → s.awake = true → s.twn.bothLowAt = some u → u + 8 ≤ s.now → s.rb Reg.twnStat 9 = false →
    s.twn.stuckDone = false →
    ∃ t, exec .ownStuck s = .next t ∧
      t = { s with regs := t.regs, log := (s.fault 0x0F05 0).log, twn := { s.twn with stuckDone := true }, cen := cenNoted s t } ∧
      t.rb Reg.twnStat 11 = true ∧ t.reg Reg.twnStat &&& 0xFFFFF7FF = s.reg Reg.twnStat &&& 0xFFFFF7FF ∧ regsKept s t [Reg.twnStat] ∧
      eventsFired s t []) ∧
  (∀ s : State, s.twn.stuckDone = true ∨ s.twn.bothLowAt = none → changesNothing .ownStuck s) ∧
  (∀ s : State, s.isTwin = true → s.twn.driveAt.isSome = true → s.rf Reg.twnStat 0 2 = 2 → s.role = 2 →
    ∃ t, exec .claimToken s = .next t ∧
      t = { s with regs := t.regs, cen := cenNoted s t, log := (s.happen 46 (s.rf Reg.twnStat 16 4)).log,
                   zon := { s.zon with due := false },
                   twn := { lines s false s.twn with relCause := none, drives := false, driveAt := none, roleTick := s.stamp, kickAt := s.now } } ∧
      t.role = 0 ∧ t.rb Reg.twnStat 4 = false ∧ t.rb Reg.twnStat 7 = s.twn.aliveIn ∧ t.rb Reg.twnStat 8 = s.twn.ownIn ∧
      t.rb Reg.twnStat 9 = false ∧
      t.reg Reg.twnStat &&& 0xFFFFFC63 = s.reg Reg.twnStat &&& 0xFFFFFC63 ∧ regsKept s t [Reg.twnStat] ∧ eventsFired s t [46]) ∧
  (∀ s : State, s.isTwin = true → s.twn.driveAt = none ∨ s.rf Reg.twnStat 0 2 ≠ 2 →
    ∃ t, exec .claimToken s = .next t ∧ t = { s with regs := t.regs, twn := { s.twn with relCause := none }, cen := cenNoted s t } ∧
      regsKept s t [] ∧ eventsFired s t []) ∧
  (∀ (cause : Nat) (s : State), s.isTwin = true → s.role ≠ 2 →
    ∃ t, exec (.releaseToken cause) s = .next t ∧ t = { s with regs := t.regs, twn := { s.twn with relCause := some (cause % 256) }, cen := cenNoted s t } ∧
      regsKept s t [] ∧ eventsFired s t []) ∧
  (∀ (cause : Nat) (s : State), s.isTwin = false ∨ s.role = 2 → changesNothing (.releaseToken cause) s)

/-- A link that goes down keeps the role, ends FORMED, discards what waited and logs SPRUE_FAULT; it is up again after TICKs at
every tick for 1 s and HELLO leaves. A discarded token counts. A TICK within 1,024 cycles and of the same tick moves the
phase by at most 16; any other realigns TBCOUNT with fault ALIGN; a candidate loads it. RUNMAP replaces the map. A graft of a
slot in the running set writes I and U_PEND once the own evaluation has ended, else waits; one of another slot counts as
late. Mirrors set the fields of channels, fans, zones, setpoints and virtual PVs; a chip that mirrors nothing is not changed.
A request or response record joins ring 10. A frame for the own port joins its queue. (10_twin_pair R335, 10_twin_pair R347,
10_twin_pair R348, 10_twin_pair R351, 10_twin_pair R352, 10_twin_pair R353, 10_twin_pair R354, 10_twin_pair R358,
05_zones_presence R192, 06_actuators R214, 07_fans R248, 09_field_network R330) -/
def Obligations.SprueLinkAndMirrors : Prop :=
  (∀ s : State, s.isTwin = true → s.awake = true → s.rb Reg.twnStat 6 = true → s.rb Reg.twnStat 5 = false →
    (∀ q ∈ s.od.txns, q.op < 0x80) →
    ∃ t, exec .sprueDown s = .next t ∧
      (let formed := s.rb Reg.twnStat 4
       t = { s with regs := t.regs, cen := cenNoted s t,
                    log := (let u := s.fault 0x0F03 0; if formed then u.happen 46 (s.role * 256 + s.rf Reg.twnStat 16 4) else u).log,
                    zon := { s.zon with due := s.zon.due && !formed },
                    twn := { s.twn with ticksFrom := none, grafts := [], tx := [], txAt := 0, formSend := false, config := [], configDone := false,
                                        partner := none, cand := false, reload := none,
                                        roleTick := if formed then s.stamp else s.twn.roleTick,
                                        kickAt := if formed then s.now else s.twn.kickAt } } ∧
       eventsFired s t (if formed then [46] else [])) ∧
      t.rb Reg.twnStat 4 = false ∧ t.rb Reg.twnStat 6 = false ∧
      t.reg Reg.twnStat &&& 0xFFFFFFAF = s.reg Reg.twnStat &&& 0xFFFFFFAF ∧ regsKept s t [Reg.twnStat]) ∧
  (∀ s : State, s.isTwin = true → s.awake = true → s.rb Reg.twnStat 6 = true → s.rb Reg.twnStat 5 = true →
    ∃ t, exec .sprueDown s = .next t ∧ t.rb Reg.twnStat 5 = false ∧ t.rb Reg.twnStat 10 = false ∧ t.swapState = 0 ∧
      t.rb Reg.twnStat 4 = false ∧ t.rb Reg.twnStat 6 = false ∧ t.role = s.role ∧ t.twn.swapAt = none) ∧
  (∀ s : State, s.isTwin = false ∨ s.rb Reg.twnStat 6 = false → changesNothing .sprueDown s) ∧
  (∀ (s : State) (a : Nat), s.isTwin = true → s.awake = true → s.rb Reg.twnStat 6 = false →
    s.twn.ticksFrom = some a → a + 4000 ≤ s.now → s.role = 2 ∨ (∃ b, s.twn.lastTick = some b ∧ s.now ≤ b + 1) →
    s.twn.partner = none ∨ s.pwr.rtIn = false ∨ (∃ h, s.twn.partner = some h ∧ s.role ≠ 2 ∧ h.role = 2 ∧
      h.position ≠ s.rf Reg.twnStat 0 2 ∧ h.rtVersion = s.od.rtVersion) →
    ∃ t, exec .sprueUp s = .next t ∧
      (let w : TwnSt := { s.twn with tx := (s.sendToken (.hello s.helloOf)).twn.tx }
       t = { s with regs := t.regs, cen := cenNoted s t,
                    twn := if s.twn.partner = none ∨ s.pwr.rtIn = false then w
                      else { w with cand := true, aligned := false, reload := none, config := [], configDone := false, runmap := [],
                                    grafts := [] } }) ∧
      t.rb Reg.twnStat 6 = true ∧ t.reg Reg.twnStat &&& 0xFFFFFFBF = s.reg Reg.twnStat &&& 0xFFFFFFBF ∧
      regsKept s t [Reg.twnStat] ∧ eventsFired s t []) ∧
  (∀ s : State, s.isTwin = true →
    ∃ t, exec .transferTimeout s = .next t ∧ t = { s with regs := t.regs, twn := { s.twn with tx := s.twn.tx.drop 1, txAt := 0, ticksFrom := if s.role = 2 then none else s.twn.ticksFrom }, cen := cenNoted s t } ∧
      regsKept s t [] ∧ eventsFired s t []) ∧
  (∀ (wires : List Nat) (s : State), s.isTwin = false ∨ wiresDiscard wires = false → changesNothing (.tokenDiscard wires) s) ∧
  (∀ (wires : List Nat) (s : State), s.isTwin = true → wiresDiscard wires = true →
    ∃ t, exec (.tokenDiscard wires) s = .next t ∧ t = { s with regs := t.regs, twn := { s.twn with withhold := true }, cen := cenNoted s t } ∧
      (t.reg Reg.twnLinkerr).toNat = min 0xFFFFFFFF ((s.reg Reg.twnLinkerr).toNat + 1) ∧ regsKept s t [Reg.twnLinkerr] ∧ eventsFired s t []) ∧
  (∀ (tb : Nat) (lag : Int) (s : State), s.isTwin = true → s.awake = true → s.role ≠ 2 →
    ∃ t, exec (.tickToken tb lag) s = .next t ∧
      (let follows := s.role = 1 ∨ s.twn.cand = true ∧ s.twn.aligned = true
       let first := s.role ≠ 1 ∧ s.twn.cand = true ∧ s.twn.aligned = false
       let loads := s.twn.reload.isSome = true ∨ lag.natAbs > 1024 ∨ tb % 2 ^ 48 ≠ s.tb.count
       t = { s with regs := t.regs, cen := cenNoted s t,
                    twn := { s.twn with lastTick := some s.now, aligned := s.twn.aligned || decide first,
                                        ticksFrom := some (match s.twn.lastTick, s.twn.ticksFrom with
                                          | some l, some f => if s.now ≤ l + 1 then f else s.now
                                          | _, _ => s.now),
                                        reload := if first ∨ follows ∧ loads then some (tb % 2 ^ 48) else s.twn.reload },
                    tb := if follows ∧ ¬loads then { s.tb with phase := s.tb.phase + max (-16) (min 16 lag) } else s.tb,
                    log := if follows ∧ loads ∧ s.twn.reload = none then (s.fault 0x0F09 (ofIntN 16 (max (-32768) (min 32767 lag)))).log
                           else s.log } ∧
       (if follows then t.rf Reg.twnAlign 0 16 = ofIntN 16 (max (-32768) (min 32767 lag)) else t.reg Reg.twnAlign = s.reg Reg.twnAlign)) ∧
      regsKept s t [Reg.twnAlign] ∧ eventsFired s t []) ∧
  (∀ (tb : Nat) (lag : Int) (s : State), s.isTwin = false ∨ s.role = 2 → changesNothing (.tickToken tb lag) s) ∧
  (∀ (slots : List Nat) (s : State), s.mirrors = true → s.rb Reg.twnStat 5 = false →
    ∃ t, exec (.runmapToken slots) s = .next t ∧ t = { s with regs := t.regs, twn := { s.twn with runmap := t.twn.runmap }, cen := cenNoted s t } ∧
      (∀ n, n ∈ t.twn.runmap ↔ n ∈ slots ∧ n < 1024) ∧ t.twn.runmap.Nodup ∧ regsKept s t [] ∧ eventsFired s t []) ∧
  (∀ (cls first tb n : Nat) (i u : Int) (s : State), s.mirrors = true → s.twn.grafts = [] → s.rb Reg.twnStat 5 = false →
    s.rb Reg.twnCtrl 0 = false → s.twn.started = [] →
    ((s.twn.runmap.filter (fun m => s.slotClass m == cls % 4)).mergeSort (· ≤ ·))[first]? = some n →
    ∃ t, exec (.graftToken cls first tb [(i, u)]) s = .next t ∧
      (let f := s.frame (cls % 4)
       let ended := (f.busy = true ∨ f.ready = true) ∧ f.tick % 2 ^ 32 = tb % 2 ^ 32 ∧ n ∈ f.evald
       let g : Graft := { slot := n, cls := cls % 4, tb := tb % 2 ^ 32, i := sat32 i, u := sat32 u }
       (s.slotRuns n = true → ended →
         t = { s with regs := t.regs, mem := t.mem, cen := cenNoted s t } ∧ t.sword (slotState n + 8) = sat32 i ∧ t.sword (slotState n + 4) = sat32 u ∧
         memKept s t (slotState n + 4) (slotState n + 12) ∧ t.reg Reg.twnGraftcnt = s.reg Reg.twnGraftcnt + 1 ∧ regsKept s t [Reg.twnGraftcnt]) ∧
       (s.slotRuns n = true → ¬ended → t = { s with regs := t.regs, twn := { s.twn with grafts := [g] }, cen := cenNoted s t } ∧ regsKept s t []) ∧
       (s.slotRuns n = false → t = { s with regs := t.regs, cen := cenNoted s t } ∧
         (t.reg Reg.twnLatecnt).toNat = min 0xFFFFFFFF ((s.reg Reg.twnLatecnt).toNat + 1) ∧ regsKept s t [Reg.twnLatecnt])) ∧
      eventsFired s t []) ∧
  (∀ (a : ActMirror) (f : FanMirror) (auto : Bool) (seq : Option Nat) (s : State), s.mirrors = true → s.role ≠ 2 → a.ch < s.nActs → f.fan < s.nFans →
    ∃ t, exec (.mirrorToken [a] [f] auto seq) s = .next t ∧
      t = { s with regs := t.regs, act := { s.act with chans := t.act.chans }, fan := { s.fan with chans := t.fan.chans },
                   twn := { s.twn with seqMirror := match seq with | some q => q % 2 ^ 32 | none => s.twn.seqMirror }, cen := cenNoted s t } ∧
      (t.act1 a.ch).drv = a.drv ∧ (t.act1 a.ch).run = a.run ∧ (t.act1 a.ch).level = a.level ∧
      (if s.actMode a.ch = 3 then (t.act1 a.ch).step = a.pos else (t.act1 a.ch).pos = some a.pos.toNat) ∧
      (t.act1 a.ch).since = some ((s.now : Int) - a.sinceChange) ∧ t.reg (Reg.actnStrokes a.ch) = BitVec.ofNat 32 a.strokes ∧
      (∀ c, c ≠ a.ch → t.act1 c = s.act1 c) ∧ (t.fan1 f.fan).state = f.state ∧ (t.fan1 f.fan).retry = f.retry ∧
      (t.fan1 f.fan).lastDuty = f.lastDuty ∧ (t.fan1 f.fan).since = (s.now : Int) - f.elapsed ∧
      t.rf (Reg.fanfRpm f.fan) 0 16 = f.rpm % 65536 ∧ t.rf (Reg.fanfRpm f.fan) 24 8 = f.silent % 256 ∧
      (∀ c, c ≠ f.fan → t.fan1 c = s.fan1 c) ∧ t.rb Reg.fanStat 0 = auto ∧
      regsKept s t [Reg.actnStrokes a.ch, Reg.fanfRpm f.fan, Reg.fanStat] ∧ eventsFired s t []) ∧
  (∀ (auto : Bool) (seq : Option Nat) (s : State), s.isTwin = true → s.role = 2 → s.rb Reg.twnStat 9 = true → s.twn.drives = false →
    s.twn.driveAt = none → ∃ t, exec (.mirrorToken [] [] auto seq) s = .next t ∧ t.twn.drives = true ∧ t.act = s.act ∧ t.fan = s.fan) ∧
  (∀ (z : ZoneMirror) (n v : Nat) (w x : Word) (s : State), s.mirrors = true → s.twn.configDone = false ∨ s.rb Reg.twnStat 4 = true →
    z.zone < s.nZones → n < s.nSlots → v < 256 → s.ringOn 10 = false →
    ∃ t, exec (.zoneToken [z] [(n, w)] [(v, x)]) s = .next t ∧
      t = { s with regs := t.regs, mem := t.mem, free := t.free, twn := { s.twn with zoneAt := some s.now },
                   zon := { s.zon with zones := t.zon.zones, vpvAt := t.zon.vpvAt, co2 := t.zon.co2, hits := [] }, cen := cenNoted s t } ∧
      t.zone z.zone = { s.zone z.zone with tsp := z.tsp, rsp := z.rsp, accT := z.accT, accR := z.accR } ∧
      t.zoneMode z.zone = z.mode % 4 ∧ t.zonePres z.zone = z.presence % 4 ∧ t.reg (Reg.zonHoldt z.zone) = BitVec.ofNat 32 z.holdT ∧
      (∀ c, c ≠ z.zone → t.zone c = s.zone c) ∧ t.word (spAddr n) = w ∧ t.word (vpvAddr v) = x ∧
      (∀ a, ¬(spAddr n ≤ a ∧ a < spAddr n + 4) → ¬(vpvAddr v ≤ a ∧ a < vpvAddr v + 4) → t.byte a = s.byte a) ∧
      regsKept s t (Reg.zonState z.zone :: Reg.zonHoldt z.zone :: Reg.rngDrop 10 :: Reg.rngDropf :: (List.range 128).map Reg.zonPinCfg) ∧
      eventsFired s t []) ∧
  (∀ s : State, s.mirrors = true → s.role = 0 → s.rb Reg.twnStat 4 = false → s.ringOn 10 = false →
    ∃ t, exec (.zoneToken [] [] []) s = .next t ∧ t.role = 1 ∧ t.rb Reg.twnStat 4 = true ∧ t.twn.cand = false ∧
      t.rf Reg.twnStat 16 4 = 1 ∧ t.twn.tx = (s.sendToken (.hello { s.helloOf with role := 1 })).twn.tx ∧ t.log = (s.happen 46 65793).log) ∧
  (∀ (c : Instr) (s : State), s.mirrors = false → s.role ≠ 2 →
    (∃ l, c = .runmapToken l) ∨ (∃ k f b e, c = .graftToken k f b e) ∨ (∃ a f u q, c = .mirrorToken a f u q) ∨ (∃ z p v, c = .zoneToken z p v) →
    changesNothing c s) ∧
  (∀ (response : Bool) (record : List Byte) (tag : Nat) (s : State), s.isTwin = true → s.awake = true → s.rb Reg.twnStat 6 = true →
    response = false ∨ (∀ q ∈ s.od.txns, q.op < 0x80) → s.ringFits 10 16 →
    ∃ t, exec (.odxToken response record tag) s = .next t ∧
      t = { s with regs := t.regs, mem := t.mem, held := t.held, free := t.free, cen := cenNoted s t } ∧
      memKeptOutsideRing s t 10 ∧ regsKept s t (ringRegs 10) ∧ eventsFired s t (if s.ringTakes 10 16 then [44] else [])) ∧
  (∀ (m : NetFrame) (s : State), s.isTwin = true → s.awake = true → s.rb Reg.twnStat 6 = true → s.netOwnPort 0 = true → s.netUp 0 = true →
    ∃ t, exec (.netframeToken false m) s = .next t ∧ t = { s with regs := t.regs, net := { s.net with txA := s.net.txA ++ [m] }, cen := cenNoted s t } ∧
      regsKept s t [] ∧ eventsFired s t []) ∧
  (∀ (m : NetFrame) (s : State), s.isTwin = true → s.awake = true → s.rb Reg.twnStat 6 = true → s.netOwnPort 0 = false →
    s.netOwnPort 1 = true → s.netUp 1 = true →
    ∃ t, exec (.netframeToken false m) s = .next t ∧ t = { s with regs := t.regs, net := { s.net with txB := s.net.txB ++ [m] }, cen := cenNoted s t } ∧
      regsKept s t [] ∧ eventsFired s t []) ∧
  (∀ (m : NetFrame) (s : State), s.role ≠ 2 → changesNothing (.netframeToken true m) s)

/-- HELLO names the partner and its heat. Two chips in one position set POS_CONFLICT with its fault. An active answers the first
HELLO with its set, once that has left with RUNMAP, grafts and mirrors, and is FORMED, cause 1, at the HELLO of the partner
as STANDBY. A partner of another runtime version resets a chip that can take a twin pour and is a fault on any other; a boot
ROM is offered the images. CONFIG members collect; with the last one a right digest and one journal transaction make the set
committed at the heat of the active, a wrong one discards it. IMAGE blocks are taken in order and the whole image goes to its
check; a gap and a missing answer end the twin pour for the fallback source. (10_twin_pair R335, 10_twin_pair R345,
10_twin_pair R354, 10_twin_pair R356, 10_twin_pair R357, 10_twin_pair R358, 11_power_reset_pour R382) -/
def Obligations.FlaskFormation : Prop :=
  let helloed := fun (h : Hello) (t : State) => t.reg Reg.twnPeerheat = BitVec.ofNat 32 h.heat ∧ t.twn.partner = some h
  let live := fun (s : State) => s.isTwin = true ∧ s.awake = true
  let ends := fun (h : Hello) (s : State) => s.role = 2 ∧ h.role = 1 ∧ s.twn.configDone = true ∧ s.rb Reg.twnStat 4 = false
  (∀ (h : Hello) (s : State), live s → s.pwr.rtIn = false ∨ (s.rb Reg.twnStat 6 = false ∧ (h.rtVersion ≠ 0 ∨ h.role ≠ 0)) →
    ∃ t, exec (.helloToken h) s = .next t ∧ helloed h t ∧ t = { s with regs := t.regs, twn := { s.twn with partner := some h }, cen := cenNoted s t } ∧
      regsKept s t [Reg.twnPeerheat] ∧ eventsFired s t []) ∧
  (∀ (h : Hello) (s : State), live s → s.pwr.rtIn = true → h.rtVersion = 0 → h.role = 0 →
    ∃ t, exec (.helloToken h) s = .next t ∧ helloed h t ∧
      (let tokens : List Token := [.hello s.helloOf, .image 0 0 s.pwr.pourRt.image.length s.pwr.pourRt.image,
         .image 1 0 s.pwr.pourCf.image.length s.pwr.pourCf.image]
       t = { s with regs := t.regs, cen := cenNoted s t,
                    twn := { s.twn with partner := some h, tx := (tokens.foldl State.sendToken s).twn.tx } }) ∧
      regsKept s t [Reg.twnPeerheat] ∧ eventsFired s t []) ∧
  (∀ (h : Hello) (s : State), live s → s.pwr.rtIn = true → h.rtVersion ≠ 0 ∨ h.role ≠ 0 → s.rb Reg.twnStat 6 = true →
    (ends h s →
      ∃ t, exec (.helloToken h) s = .next t ∧ helloed h t ∧ t.role = 2 ∧ t.rb Reg.twnStat 4 = true ∧ t.rf Reg.twnStat 16 4 = 1 ∧
        t = { s with regs := t.regs, cen := cenNoted s t, log := (s.happen 46 66049).log, zon := { s.zon with due := false },
                     twn := { s.twn with partner := some h, roleTick := s.stamp, kickAt := s.now } } ∧
        t.reg Reg.twnStat &&& 0xFFF0FFEF = s.reg Reg.twnStat &&& 0xFFF0FFEF ∧ regsKept s t [Reg.twnPeerheat, Reg.twnStat] ∧
        eventsFired s t [46]) ∧
    (¬ends h s → h.position = s.rf Reg.twnStat 0 2 →
      ∃ t, exec (.helloToken h) s = .next t ∧ helloed h t ∧ t.rb Reg.twnStat 12 = true ∧
        t = { s with regs := t.regs, log := (s.fault 0x0F06 h.position).log, twn := { s.twn with partner := some h },
                     cen := cenNoted s t } ∧
        t.reg Reg.twnStat &&& 0xFFFFEFFF = s.reg Reg.twnStat &&& 0xFFFFEFFF ∧ regsKept s t [Reg.twnPeerheat, Reg.twnStat] ∧
        eventsFired s t []) ∧
    (¬ends h s → h.position ≠ s.rf Reg.twnStat 0 2 → s.role = 2 → h.rtVersion = s.od.rtVersion → h.role ≠ 2 → s.rb Reg.twnStat 4 = false →
      ∃ t, exec (.helloToken h) s = .next t ∧ helloed h t ∧
        (let tokens : List Token := [.config s.od.heat s.od.hdig s.od.sdig (odPersistent s.od.committed) (fnAll.filter s.fnRuns),
           .swap (.swapSet s.swapSet)]
         t = { s with regs := t.regs, cen := cenNoted s t,
                      twn := { s.twn with partner := some h, configDone := true, formSend := true,
                                          tx := (tokens.foldl State.sendToken s).twn.tx } }) ∧
        regsKept s t [Reg.twnPeerheat] ∧ eventsFired s t []) ∧
    (h.position ≠ s.rf Reg.twnStat 0 2 → s.role ≠ 2 → h.role = 2 → h.rtVersion ≠ s.od.rtVersion → s.rf Reg.pwrStrap 2 2 < 2 →
      ∃ t, exec (.helloToken h) s = .next t ∧ helloed h t ∧
        t = { s with regs := t.regs, log := (s.fault 0x0F07 (h.rtVersion % 65536)).log,
                     twn := { s.twn with partner := some h }, cen := cenNoted s t } ∧
        regsKept s t [Reg.twnPeerheat] ∧ eventsFired s t []) ∧
    (h.position ≠ s.rf Reg.twnStat 0 2 → s.role ≠ 2 → h.role = 2 → h.rtVersion ≠ s.od.rtVersion → 2 ≤ s.rf Reg.pwrStrap 2 2 →
      ∃ t, exec (.helloToken h) s = .next t ∧ t.rf Reg.pwrRstcause 0 3 = 4 ∧ t.shakeStep = 2 ∧ t.role = 0 ∧ t.pwr.rtIn = false ∧
        t.twn.partner = none) ∧
    (h.position ≠ s.rf Reg.twnStat 0 2 → s.role ≠ 2 → h.role = 2 → h.rtVersion = s.od.rtVersion →
      ∃ t, exec (.helloToken h) s = .next t ∧ helloed h t ∧
        t = { s with regs := t.regs, cen := cenNoted s t,
                     twn := { s.twn with partner := some h, cand := true, aligned := false, reload := none, config := [], configDone := false,
                                         runmap := [], grafts := [] } } ∧
        regsKept s t [Reg.twnPeerheat] ∧ eventsFired s t []) ∧
    (¬ends h s → h.position ≠ s.rf Reg.twnStat 0 2 → (s.role = 2 ↔ h.role = 2) ∨ s.role = 2 ∧ h.rtVersion ≠ s.od.rtVersion →
      ∃ t, exec (.helloToken h) s = .next t ∧ helloed h t ∧
        t = { s with regs := t.regs, twn := { s.twn with partner := some h }, cen := cenNoted s t } ∧
        regsKept s t [Reg.twnPeerheat] ∧ eventsFired s t [])) ∧
  (∀ s : State, live s → s.role = 2 → s.rb Reg.twnStat 6 = true → s.twn.formSend = true → (∀ x ∈ s.twn.tx, tokenConfig x = false) →
    s.tb.running = true → s.chillNow = false ∨ s.chillWaits = false →
    ∃ t, exec .baseTick s = .next t ∧ t.twn.formSend = false ∧ t.twn.runmap = t.runningSet ∧ Token.runmap t.runningSet ∈ t.twn.tx ∧
      (∀ k, k < 4 → ∀ x ∈ t.graftsOf k, x ∈ t.twn.tx)) ∧
  (∀ (h : Hello) (s : State), s.isTwin = false → changesNothing (.helloToken h) s) ∧
  (∀ (heat hdig sdig : Nat) (members : List (Nat × OdVal)) (run : List Nat) (nvOk : Bool) (s : State), live s → s.role ≠ 2 →
    s.pwr.rtIn = true → s.rb Reg.twnStat 6 = true → s.twn.cand = true ∨ s.rb Reg.twnStat 4 = true → s.ringFits 10 16 →
    let moved := if s.ringTakes 10 16 then [44] else []
    (∃ t, exec (.configToken false heat hdig sdig members nvOk run) s = .next t ∧
      t = { s with regs := t.regs, mem := t.mem, held := t.held, free := t.free, cen := cenNoted s t,
                   twn := { s.twn with config := s.twn.config ++ members } } ∧
      memKeptOutsideRing s t 10 ∧ regsKept s t (ringRegs 10) ∧ eventsFired s t moved) ∧
    (let persistent := fun (p : Nat × OdVal) => match odRow p.1 with | some r => r.persist | none => false
     let set := ((s.twn.config ++ members).filter persistent).foldl (fun l p => Tab.put odDefault l p.1 p.2)
       (s.od.committed.filter (fun p => !persistent p))
     (hdig % 2 ^ 64 ≠ s.odDigest set OdRow.persist →
       ∃ t, exec (.configToken true heat hdig sdig members nvOk run) s = .next t ∧
         t = { s with regs := t.regs, mem := t.mem, held := t.held, free := t.free, cen := cenNoted s t,
                      twn := { s.twn with config := [] } } ∧
         memKeptOutsideRing s t 10 ∧ regsKept s t (ringRegs 10) ∧ eventsFired s t moved) ∧
     (hdig % 2 ^ 64 = s.odDigest set OdRow.persist → nvOk = true → s.nvFits (s.nvOfSet set) = true → s.knb.nvFault = false → s.knb.commit = none → s.ringBelow 10 (knabPage 0) →
       s.rb Reg.twnStat 4 = false → run = [] → (∀ f ∈ s.od.fns.map Prod.fst, (s.fn f).state = 0) →
       ∃ t, exec (.configToken true heat hdig sdig members nvOk run) s = .next t ∧
         (let changed := heat % 2 ^ 32 ≠ s.od.heat
          t = { s with regs := t.regs, mem := t.mem, held := t.held, free := t.free, cen := cenNoted s t,
                       log := if changed then (s.happen 61 heat).log else s.log,
                       od := { s.od with committed := set, staged := [], heat := heat % 2 ^ 32, hdig := hdig % 2 ^ 64,
                                         sdig := s.odDigest set OdRow.shared },
                       nv := { s.nvOfSet set with
                                         address := t.nv.address, heat := some (heat % 2 ^ 32),
                                         hdig := some (hdig % 2 ^ 64), sdig := some (s.odDigest set OdRow.shared) },
                       twn := { s.twn with config := [], configDone := true } } ∧
          eventsFired s t ((if changed then [61] else []) ++ 27 :: moved)) ∧
         (∀ a, s.inRing 10 a = false → a < knabPage 0 ∨ knabPage 1040 ≤ a → t.byte a = s.byte a) ∧
         (∀ a, knabPage 0 ≤ a → a < knabPage 1024 → (inJournal a || inPages 1 3 a || inPages 256 1024 a) = false → t.knabByte a = s.knabByte a) ∧
         regsKept s t (Reg.knbJseq :: ringRegs 10)) ∧
     (hdig % 2 ^ 64 = s.odDigest set OdRow.persist → nvOk = false ∨ s.nvFits (s.nvOfSet set) = false → s.knb.nvFault = false →
       ∃ t, exec (.configToken true heat hdig sdig members nvOk run) s = .next t ∧
         t = { s with regs := t.regs, mem := t.mem, held := t.held, free := t.free, cen := cenNoted s t,
                      log := (s.fault 0x0E02 0).log, twn := { s.twn with config := [] } } ∧
         memKeptOutsideRing s t 10 ∧ regsKept s t (ringRegs 10) ∧ eventsFired s t moved))) ∧
  (∀ (last nvOk : Bool) (heat hdig sdig : Nat) (members : List (Nat × OdVal)) (run : List Nat) (s : State),
    s.role = 2 ∨ s.pwr.rtIn = false ∨ (s.twn.cand = false ∧ s.rb Reg.twnStat 4 = false) →
    changesNothing (.configToken last heat hdig sdig members nvOk run) s) ∧
  (∀ (kind offset total : Nat) (data : List Byte) (s : State), s.isTwin = true → s.pourOpen = true → s.rf Reg.pwrPour 16 2 = 2 →
    kind ≤ 1 → s.pourStatus kind < 3 →
    (offset = (s.pourOf kind).image.length →
      ∃ t, exec (.imageToken kind offset total data) s = .next t ∧
        (let img : PourSt := { length := total, image := (s.pourOf kind).image ++ data }
         t = { s with regs := t.regs, pwr := { s.pwr with pourRt := if kind = 0 then img else s.pwr.pourRt,
                                                          pourCf := if kind = 1 then img else s.pwr.pourCf }, cen := cenNoted s t } ∧
         t.pourStatus kind = (if total ≤ img.image.length then 3 else 1)) ∧
        t.reg Reg.pwrPour &&& (if kind = 0 then 0xFFFFFFF8 else 0xFFFFFFC7) = s.reg Reg.pwrPour &&& (if kind = 0 then 0xFFFFFFF8 else 0xFFFFFFC7) ∧
        regsKept s t [Reg.pwrPour] ∧ eventsFired s t []) ∧
    (offset ≠ (s.pourOf kind).image.length → s.rf Reg.pwrStrap 2 2 = 3 →
      ∃ t, exec (.imageToken kind offset total data) s = .next t ∧
        t = { s with regs := t.regs, pwr := { s.pwr with pourRt := if kind = 0 then {} else s.pwr.pourRt,
                                                         pourCf := if kind = 1 then {} else s.pwr.pourCf }, cen := cenNoted s t } ∧
        t.pourStatus kind = 0 ∧ t.rf Reg.pwrPour 16 2 = 0 ∧ t.rf Reg.pwrPournext (16 * kind) 16 = 0xFFFF ∧
        regsKept s t [Reg.pwrPour, Reg.pwrPournext] ∧ eventsFired s t [])) ∧
  (∀ (kind offset total : Nat) (data : List Byte) (s : State), s.isTwin = false ∨ s.pourOpen = false →
    changesNothing (.imageToken kind offset total data) s) ∧
  (∀ (u : Nat) (s : State), s.twn.helloAt = some u → s.pourOpen = true → s.rf Reg.pwrPour 16 2 = 2 → u + 200 ≤ s.now →
    (s.rb Reg.twnStat 7 = false ∨ s.twn.partner = none ∨ (∃ h, s.twn.partner = some h ∧ h.rtVersion = 0) → s.rf Reg.pwrStrap 2 2 = 3 →
      ∃ t, exec .twinPourTimeout s = .next t ∧ t = { s with regs := t.regs, cen := cenNoted s t } ∧ t.rf Reg.pwrPour 16 2 = 0 ∧
        t.reg Reg.pwrPour &&& 0xFFFCFFFF = s.reg Reg.pwrPour &&& 0xFFFCFFFF ∧ regsKept s t [Reg.pwrPour] ∧ eventsFired s t []) ∧
    (∀ h, s.rb Reg.twnStat 7 = true → s.twn.partner = some h → h.rtVersion ≠ 0 → changesNothing .twinPourTimeout s))

/-- BEGIN makes a FORMED flask MIXED from state IDLE: C is the committed set and TWN_SWAP is 1. SWAP needs CONVERGED, FORCE does
not; the exchange comes at the first class-0 boundary at least 8 base ticks on: the active becomes STANDBY, lets OWN go and
counts every key as released, the standby becomes ACTIVE and takes the sequence counter on by 65,536, both with cause 2.
FINISH makes FINISHING: each chip writes its set at the next heat in one transaction; when both have ended well the heat
moves by one and the swap is over, else TWN_SWAP is 3 again. ABORT in state BEGUN ends it without a change of heat. Each
control token changes what it says and nothing else. (10_twin_pair R359, 10_twin_pair R360, 10_twin_pair R362, 10_twin_pair
R363, 10_twin_pair R364, 10_twin_pair R365, 10_twin_pair R367) -/
def Obligations.SwapProcedure : Prop :=
  let sent := fun (s : State) (l : List Token) => (l.foldl State.sendToken s).twn.tx
  let noSlot := fun (s : State) => ∀ n, n < s.nSlots → ¬(s.slotFunc n ∈ s.swapSet ∧ s.slotRuns n = true ∧ fld (s.coef n 8) 0 3 ≠ 0)
  let mixed := fun (s t : State) (state : Nat) => t.rb Reg.twnStat 5 = decide (state ≠ 0) ∧ t.swapState = state ∧
    t.reg Reg.twnStat &&& 0xFFFFFBDF = s.reg Reg.twnStat &&& 0xFFFFFBDF ∧ regsKept s t [Reg.twnStat, Reg.twnSwap]
  let judged := fun (s : State) (active standby : Nat) =>
    if s.rb Reg.twnStat 5 = false ∨ s.swapState = 0 ∨ s.swapState = 4 then s.swapState
    else if active = s.twn.digC then 1 else if active = standby then 3 else 2
  let boundary := fun (s : State) => s.isTwin = true ∧ s.awake = true ∧ s.tb.running = true ∧ s.atBoundary 0 = true
  let ended := fun (s t : State) (l : List Token) =>
    t = { s with regs := t.regs, cen := cenNoted s t,
                 twn := { s.twn with swapAt := none, ownDone := none, peerDone := none, cmp := [], started := [], tx := sent s l } } ∧
    mixed s t 0 ∧ t.rb Reg.twnStat 10 = false ∧ eventsFired s t []
  (∀ s : State, s.swapServes = true → s.isTwin = true → s.swapState = 0 → s.rb Reg.twnStat 4 = true → s.swapSet ≠ [] →
    (∀ f ∈ s.swapSet, fnDefined f = true ∧ (s.fn f).state ≠ 1 ∧ (s.fn f).state ≠ 3) →
    ∃ t, exec .swapBegin s = .next t ∧
      t = { s with regs := t.regs, cen := cenNoted s t,
                   twn := { s.twn with digC := s.ownSet, digPartner := s.ownSet, setC := odPersistent s.od.committed,
                                       runC := s.swapSet.filter s.fnRuns, cmp := [], started := [],
                                       tx := sent s [.swap (.begun s.swapSet)] } } ∧
      mixed s t 1 ∧ (t.rb Reg.twnStat 10 = true ↔ noSlot s) ∧ eventsFired s t []) ∧
  (∀ s : State, s.rb Reg.twnStat 4 = false ∨ s.swapState ≠ 0 ∨ s.swapSet = [] → changesNothing .swapBegin s) ∧
  (∀ s : State, s.swapServes = true → s.isTwin = true → 1 ≤ s.swapState → s.swapState < 4 → s.rb Reg.twnStat 10 = true →
    ∃ t, exec .swap s = .next t ∧
      t = { s with regs := t.regs, cen := cenNoted s t,
                   twn := { s.twn with swapAt := some (s.tb.count + 8), tx := sent s [.swap (.exchangeAt (s.tb.count + 8))] } } ∧
      regsKept s t [] ∧ eventsFired s t []) ∧
  (∀ s : State, s.swapServes = true → s.isTwin = true → 1 ≤ s.swapState → s.swapState < 4 →
    ∃ t, exec .forceSwap s = .next t ∧
      t = { s with regs := t.regs, cen := cenNoted s t,
                   twn := { s.twn with swapAt := some (s.tb.count + 8), tx := sent s [.swap (.exchangeAt (s.tb.count + 8))] } } ∧
      regsKept s t [] ∧ eventsFired s t []) ∧
  (∀ s : State, s.rb Reg.twnStat 10 = false ∨ s.swapState = 0 ∨ s.swapState = 4 → changesNothing .swap s) ∧
  (∀ s : State, s.swapState = 0 ∨ s.swapState = 4 → changesNothing .forceSwap s) ∧
  (∀ (s : State) (u : Nat), boundary s → s.twn.swapAt = some u → u ≤ s.tb.count → s.role = 2 → s.od.txns = [] →
    ∃ t, exec .swapExchange s = .next t ∧
      t = { s with regs := t.regs, cen := cenNoted s t, log := (s.happen 46 65794).log, kpd := { s.kpd with keys := [] },
                   zon := { s.zon with due := false }, buses := t.buses, polls := t.polls,
                   twn := { s.twn with swapAt := none, cmp := [], started := [], relCause := none, grafts := [], runmap := [],
                                       tx := ((s.mirrorSend true).sendToken (.release 5)).twn.tx, ownIn := false, ownHighAt := none,
                                       aliveLowAt := if s.twn.aliveIn then none else some (s.twn.aliveLowAt.getD s.now),
                                       bothLowAt := if s.twn.aliveIn then none else some (s.twn.bothLowAt.getD s.now),
                                       stuckDone := !s.twn.aliveIn && s.twn.stuckDone, drives := false, driveAt := none,
                                       configDone := true, roleTick := s.stamp, kickAt := s.now } } ∧
      t.role = 1 ∧ t.rb Reg.twnStat 4 = true ∧ t.rb Reg.twnStat 7 = s.twn.aliveIn ∧ t.rb Reg.twnStat 8 = false ∧
      t.rb Reg.twnStat 9 = false ∧ (t.rb Reg.twnStat 10 = true ↔ noSlot s) ∧ t.rf Reg.twnStat 16 4 = 2 ∧
      t.reg Reg.twnStat &&& 0xFFF0F863 = s.reg Reg.twnStat &&& 0xFFF0F863 ∧ t.swapState = judged s s.twn.digPartner s.ownSet ∧
      (∀ i, i < 8 → t.reg (Reg.kpdMask i) = 0) ∧
      (∀ b, b < 3 → t.sbusBusy b = false ∧ (t.bus b).waiting = [] ∧ t.reg (Reg.sbStat b) &&& 0xFFFFFFFE = s.reg (Reg.sbStat b) &&& 0xFFFFFFFE) ∧
      (∀ x ∈ t.polls, x.2.running = false) ∧
      regsKept s t (Reg.twnStat :: Reg.twnSwap :: (List.range 8).map Reg.kpdMask ++ (List.range 3).map Reg.sbStat) ∧ eventsFired s t [46]) ∧
  (∀ (s : State) (u : Nat), boundary s → s.twn.swapAt = some u → u ≤ s.tb.count → s.role = 1 →
    (∀ n, n < s.nActs → s.actMode n ≠ 1 ∧ (s.act1 n).moving = false) →
    ∃ t, exec .swapExchange s = .next t ∧
      (let q := s.twn.seqMirror + 65536
       t = { s with regs := t.regs, cen := cenNoted s t, log := ((s.happen 46 66050).netSeqTo q).log, net := { s.net with windows := [] }, zon := { s.zon with due := false },
                    twn := { s.twn with swapAt := none, cmp := [], started := [], relCause := none, grafts := [], runmap := [],
                                        ownHighAt := none, aliveLowAt := if s.twn.aliveIn then none else some (s.twn.aliveLowAt.getD s.now),
                                        bothLowAt := none, stuckDone := false, configDone := true, ticksFrom := none, roleTick := s.stamp,
                                        kickAt := s.now } } ∧
       t.reg Reg.netSeq = BitVec.ofNat 32 (min 0xFFFFFFFF q) ∧ t.rb Reg.netStat 0 = (s.rb Reg.netStat 0 || decide (0xF0000000 ≤ q)) ∧
       t.rb Reg.netStat 1 = (s.rb Reg.netStat 1 || decide (0xFFFFFFFF ≤ q)) ∧
       t.reg Reg.netStat &&& 0xFFFFFFFC = s.reg Reg.netStat &&& 0xFFFFFFFC) ∧
      t.role = 2 ∧ t.rb Reg.twnStat 4 = true ∧ t.rb Reg.twnStat 7 = s.twn.aliveIn ∧ t.rb Reg.twnStat 8 = false ∧
      t.rb Reg.twnStat 9 = true ∧ (t.rb Reg.twnStat 10 = true ↔ ∀ n, n < s.nSlots → s.swapSlot n = false) ∧ t.rf Reg.twnStat 16 4 = 2 ∧
      t.reg Reg.twnStat &&& 0xFFF0F863 = s.reg Reg.twnStat &&& 0xFFF0F863 ∧ t.swapState = judged s s.ownSet s.twn.digPartner ∧
      regsKept s t [Reg.twnStat, Reg.twnSwap, Reg.netSeq, Reg.netStat] ∧ eventsFired s t [46]) ∧
  (∀ s : State, s.twn.swapAt = none ∨ s.atBoundary 0 = false → changesNothing .swapExchange s) ∧
  (∀ (ok : Bool) (s : State), s.twn.ownDone = none → s.isTwin = true →
    (s.swapServes = true ∧ s.swapState = 3) ∨ (s.isStandby = true ∧ s.runtimeRuns = true ∧ s.swapState = 4) →
    let tokens : Bool → List Token := fun b => if s.role = 1 then [.swap (.journalDone b)] else [.swap .finishing, .swap (.journalDone b)]
    let nv := s.nvOfSet s.od.committed
    let fits := s.nvFits nv
    (s.knb.nvFault = false → s.knb.commit = none → ok = true → fits = true →
      ∃ t, exec (.swapFinish ok) s = .next t ∧
        t = { s with regs := t.regs, mem := t.mem, cen := cenNoted s t,
                     nv := { nv with
                             heat := some (heatAfter s.od.heat), hdig := some s.ownSet,
                             sdig := some (s.odDigest s.od.committed OdRow.shared) },
                     twn := { s.twn with ownDone := some true, tx := sent s (tokens true) } } ∧
        t.swapState = 4 ∧ storeKept s t (fun a => inJournal a || inPages 2 3 a || inPages 256 1024 a) ∧ regsKept s t [Reg.twnSwap, Reg.knbJseq] ∧ eventsFired s t [27]) ∧
    (ok = false ∨ fits = false ∨ s.knb.nvFault = true →
      ∃ t, exec (.swapFinish ok) s = .next t ∧
        t = { s with regs := t.regs, log := (if s.knb.nvFault then s.log else (s.fault 0x0E02 0).log),
                     twn := { s.twn with ownDone := some false, tx := sent s (tokens false) }, cen := cenNoted s t } ∧
        t.swapState = 4 ∧ regsKept s t [Reg.twnSwap] ∧ eventsFired s t [])) ∧
  (∀ s : State, s.swapServes = true → s.isTwin = true → s.swapState = 1 →
    ∃ t, exec .swapAbort s = .next t ∧ ended s t [.swap .abort]) ∧
  (∀ (ok : Bool) (s : State), s.swapServes = true → s.isTwin = true → s.swapState = 1 → s.twn.digPartner = s.twn.digC →
    ∃ t, exec (.swapFinish ok) s = .next t ∧ ended s t [.swap .ended]) ∧
  (∀ s : State, s.swapState ≠ 1 → changesNothing .swapAbort s) ∧
  (∀ (s : State) (a b : Bool), boundary s → s.swapState = 4 → s.twn.ownDone = some a → s.twn.peerDone = some b → s.od.txns = [] →
    ∃ t, exec .swapFinishCommit s = .next t ∧
      (a = true → b = true →
        (let sdig := s.odDigest s.od.committed OdRow.shared
         t = { s with regs := t.regs, cen := cenNoted s t, log := (s.happen 61 (heatAfter s.od.heat)).log,
                      od := { s.od with heat := heatAfter s.od.heat, hdig := s.ownSet, sdig := sdig,
                                        counters := s.od.counters.set 5 (min 0xFFFFFFFF (s.od.counters.getD 5 0 + 1)) },
                      twn := { s.twn with swapAt := none, ownDone := none, peerDone := none, cmp := [], started := [],
                                          tx := if s.role = 2 then sent s [.config (heatAfter s.od.heat) s.ownSet sdig
                                                  (odPersistent s.od.committed) (fnAll.filter s.fnRuns)] else s.twn.tx } }) ∧
        mixed s t 0 ∧ t.rb Reg.twnStat 10 = false ∧ eventsFired s t [61]) ∧
      (a = false ∨ b = false →
        t = { s with regs := t.regs, twn := { s.twn with ownDone := none, peerDone := none }, cen := cenNoted s t } ∧ t.swapState = 3 ∧
        regsKept s t [Reg.twnSwap] ∧ eventsFired s t [])) ∧
  (∀ s : State, s.twn.ownDone = none ∨ s.twn.peerDone = none → changesNothing .swapFinishCommit s) ∧
  (∀ s : State, s.isTwin = true → s.awake = true → s.role = 1 → s.rb Reg.twnStat 6 = true →
    (∀ (fns : List Nat) (begins : Bool), fns.length ≤ 16 → s.swapState = 0 →
      ∃ t, exec (.swapToken (if begins then .begun fns else .swapSet fns)) s = .next t ∧
        (let w : TwnSt := { s.twn with swapFns := fns ++ List.replicate (16 - fns.length) 0xFFFF }
         t = { s with regs := t.regs, cen := cenNoted s t,
                      twn := if begins then { w with digC := s.ownSet, digPartner := s.ownSet, setC := odPersistent s.od.committed,
                                                     runC := (fns.filter (· ≠ 0xFFFF)).filter s.fnRuns, cmp := [], started := [] }
                             else w }) ∧
        (if begins then mixed s t 1 else regsKept s t []) ∧ eventsFired s t []) ∧
    (∀ u : Nat, s.rb Reg.twnStat 5 = true →
      ∃ t, exec (.swapToken (.exchangeAt u)) s = .next t ∧ t = { s with regs := t.regs, twn := { s.twn with swapAt := some u }, cen := cenNoted s t } ∧
        regsKept s t [] ∧ eventsFired s t []) ∧
    (∀ d : Nat, s.rb Reg.twnStat 5 = true → s.swapState ≠ 0 → s.swapState ≠ 4 →
      ∃ t, exec (.swapToken (.setDigest d)) s = .next t ∧ t = { s with regs := t.regs, twn := { s.twn with digPartner := d % 2 ^ 64 }, cen := cenNoted s t } ∧
        t.swapState = judged s (d % 2 ^ 64) s.ownSet ∧ regsKept s t [Reg.twnSwap] ∧ eventsFired s t []) ∧
    (s.swapState = 3 →
      ∃ t, exec (.swapToken .finishing) s = .next t ∧ t = { s with regs := t.regs, cen := cenNoted s t } ∧ t.swapState = 4 ∧ regsKept s t [Reg.twnSwap] ∧
        eventsFired s t []) ∧
    (∀ ok : Bool, s.swapState = 4 →
      ∃ t, exec (.swapToken (.journalDone ok)) s = .next t ∧ t = { s with regs := t.regs, twn := { s.twn with peerDone := some ok }, cen := cenNoted s t } ∧
        regsKept s t [] ∧ eventsFired s t []) ∧
    (∃ t, exec (.swapToken .ended) s = .next t ∧
      t = { s with regs := t.regs, twn := { s.twn with swapAt := none, ownDone := none, peerDone := none, cmp := [], started := [] }, cen := cenNoted s t } ∧
      mixed s t 0 ∧ t.rb Reg.twnStat 10 = false ∧ eventsFired s t []) ∧
    (s.swapState = 1 → (∀ f ∈ s.swapSet, (s.fn f).state = 0 ∧ f ∉ s.twn.runC) →
      (∀ p ∈ s.od.committed, ∃ r, odRow p.1 = some r ∧ r.persist = true) →
      ∃ t, exec (.swapToken .abort) s = .next t ∧
        t = { s with regs := t.regs, twn := { s.twn with swapAt := none, ownDone := none, peerDone := none, cmp := [], started := [] },
                     od := { s.od with committed := s.twn.setC.foldl (fun l p => Tab.put odDefault l p.1 p.2) [],
                                       staged := s.od.staged.filter (fun e => e.fn ∉ s.swapSet) }, cen := cenNoted s t } ∧
        mixed s t 0 ∧ t.rb Reg.twnStat 10 = false ∧ eventsFired s t [])) ∧
  (∀ (c : Bool) (s : State), s.isTwin = true → s.awake = true → s.role = 2 → s.rb Reg.twnStat 6 = true → s.rb Reg.twnStat 5 = true →
    ∃ t, exec (.swapToken (.converged c)) s = .next t ∧ t = { s with regs := t.regs, cen := cenNoted s t } ∧ t.rb Reg.twnStat 10 = c ∧
      t.reg Reg.twnStat &&& 0xFFFFFBFF = s.reg Reg.twnStat &&& 0xFFFFFBFF ∧ regsKept s t [Reg.twnStat] ∧ eventsFired s t []) ∧
  (∀ (ctl : SwapCtl) (s : State), s.isTwin = false ∨ s.rb Reg.twnStat 6 = false → changesNothing (.swapToken ctl) s)

/-- Every reset source ends in the same fresh state: PWR_RSTCAUSE names it, SYS_OWN is 0, TBCOUNT is 0 and held, no function,
frame, ring, ladle channel or window is left, every register outside the RTC domain that takes no fuse value and that no
chapter keeps holds its reset value, and the Knab store is as it was. NRST, the two trips and TBO faults hold the part in
reset; the watchdogs and a good supply start shakeout at once. A fall of a supply takes the part out of power. Supply
supervision sets its bit of PWR_STAT. Releases start shakeout, but not while NRST stays low. The watchdog warns at half its
time with event 53 and a kick clears the warning. (01_architecture R31, 01_architecture R48, 01_architecture R28,
10_twin_pair R339, 11_power_reset_pour R374, 11_power_reset_pour R375, 11_power_reset_pour R377, 11_power_reset_pour R378,
11_power_reset_pour R379, 11_power_reset_pour R380, 18_thermal R587) -/
def Obligations.SuppliesAndResets : Prop :=
  let fuseRegs := [Reg.tboTrim, Reg.thmVreftrim] ++ (List.range 4).flatMap (fun n => [Reg.acqSliceCorr n, Reg.acqSliceSkew n]) ++
    (List.range 8).map Reg.tboTtab
  let shown := [Reg.pwrRstcause, Reg.pwrStat, Reg.pwrShake, Reg.pwrStrap, Reg.rtcStat, Reg.knbStat, Reg.twnStat, Reg.knbJseq]
  let fresh := fun (s t : State) (cause : Nat) =>
    t.rf Reg.pwrRstcause 0 3 = cause ∧ t.reg Reg.sysOwn = 0 ∧ t.tb.count = 0 ∧ t.tb.running = false ∧ t.pwr.rtIn = false ∧ t.od = {} ∧
    t.acq = {} ∧ t.act = {} ∧ t.fan = {} ∧ t.zon = {} ∧ t.kpd = {} ∧ t.ldl = {} ∧ t.net = {} ∧ t.hst = {} ∧ t.polls = [] ∧ t.held = [] ∧
    t.cen.frames = [{}, {}, {}, {}] ∧ t.role = 0 ∧ (s.knb.commit = none → t.nv = s.nv) ∧ t.variant = s.variant ∧ t.pending = s.pending ∧ t.now = s.now ∧
    (s.knb.commit = none → ∀ a, 0x50000000 ≤ a → a < 0x50010000 → t.byte a = s.byte a) ∧
    (∀ a, a ∉ shown → a ∉ fuseRegs → a ∉ rtcDomainRegs → a ∉ traceKept → a ∉ latchRegs → t.reg a = regReset a) ∧
    (∀ n, n < 64 → t.coreLatch n = (!eventAbsent s.variant n && levelSources.contains n && t.levelCause n false))
  let held := fun (s t : State) (cause : Nat) => fresh s t cause ∧ t.pwr.held = some cause ∧ t.shakeStep = 1
  let runs := fun (s t : State) (cause : Nat) => fresh s t cause ∧ t.pwr.held = none ∧ t.shakeStep = 2
  let only := fun (s t : State) (a : Nat) (m : Word) => t.reg a &&& m = s.reg a &&& m ∧ regsKept s t [a]
  let released := fun (s t : State) =>
    t = { s with regs := t.regs, cen := cenNoted s t,
                 pwr := { s.pwr with held := none, nrstLow := false, shakeFrom := s.now, wdLast := s.now } } ∧
    t.shakeStep = 2 ∧ regsKept s t [Reg.pwrShake] ∧ eventsFired s t []
  (∀ (pins : StrapPins) (dip : Bool) (s : State), s.pwr.good = false ∨ (s.resetFree = true ∧ s.shakeStep = 1) →
    ∃ t, exec (.supplyGood pins dip) s = .next t ∧ (s.pwr.nrstLow = false → runs s t 1) ∧
      (s.pwr.nrstLow = true → fresh s t 1 ∧ t.pwr.held = some 2 ∧ t.shakeStep = 1) ∧ t.pwr.good = true ∧ t.pwr.straps = pins ∧ t.rb Reg.pwrRstcause 3 = dip ∧
      t.rb Reg.knbStat 1 = decide (pins.knabMode % 2 = 1)) ∧
  (∀ (pins : StrapPins) (dip : Bool) (s : State), s.pwr.good = true → s.pwr.held.isSome = true ∨ s.shakeStep ≠ 1 →
    changesNothing (.supplyGood pins dip) s) ∧
  (∀ (j : Nat) (s : State), s.pwr.good = true → s.knb.commit = none → s.ldl.buf = [] → s.log.pending = [] → ∃ t, exec (.supplyFall j true) s = .next t ∧ fresh s t 1 ∧ t.pwr.good = false ∧ t.awake = false ∧
    t.rtc.epoch = s.rtc.epoch ∧ (∀ a ∈ rtcDomainRegs, t.reg a = s.reg a)) ∧
  (∀ (which : Supply) (low : Bool) (s : State),
    ∃ t, exec (.supply which low) s = .next t ∧ t = { s with regs := t.regs, cen := cenNoted s t } ∧
      (let i := match which with | .vddc => 3 | .vddio => 4 | .vdda => 5
       t.rb Reg.pwrStat i = low ∧ ∀ k, k ≠ i → t.rb Reg.pwrStat k = s.rb Reg.pwrStat k) ∧ regsKept s t [Reg.pwrStat] ∧ eventsFired s t []) ∧
  (∀ s : State, s.resetFree = true → ∃ t, exec .nrst s = .next t ∧ held s t 2 ∧ t.pwr.nrstLow = true) ∧
  (∀ s : State, s.resetFree = false →
    ∃ t, exec .nrst s = .next t ∧ t = { s with regs := t.regs, pwr := { s.pwr with nrstLow := true }, cen := cenNoted s t } ∧
      regsKept s t [] ∧ eventsFired s t []) ∧
  (∀ s : State, s.asleep = true → s.resetFree = true → ∃ t, exec .tripComparator s = .next t ∧ held s t 5) ∧
  (∀ s : State, s.asleep = false → changesNothing .tripComparator s) ∧
  (∀ s : State, s.awake = true → ∃ t, exec .tboRange s = .next t ∧ held s t 6 ∧ t.pwr.clockLost = false) ∧
  (∀ s : State, s.resetFree = true → ∃ t, exec .clockLost s = .next t ∧ held s t 6 ∧ t.pwr.clockLost = true) ∧
  (∀ (s : State) (u : Nat), s.resetFree = true → s.twn.forcedAt = some u → u ≤ s.now →
    ∃ t, exec .twinForcedReset s = .next t ∧ runs s t 4 ∧ t.rb Reg.twnStat 9 = false) ∧
  (∀ s : State, s.awake = true → s.rb Reg.pwrWdog 16 = true → s.pwr.wdLast + 4 * max 100 (min 10000 (s.rf Reg.pwrWdog 0 14)) ≤ s.now →
    ∃ t, exec .watchdogReset s = .next t ∧ runs s t 3) ∧
  (∀ s : State, s.rb Reg.pwrWdog 16 = false ∨ s.now < s.pwr.wdLast + 400 → changesNothing .watchdogReset s) ∧
  (∀ s : State, s.awake = true → s.rb Reg.pwrWdog 16 = true → s.rb Reg.pwrStat 2 = false →
    s.pwr.wdLast + 2 * max 100 (min 10000 (s.rf Reg.pwrWdog 0 14)) ≤ s.now →
    ∃ t, exec .wdogWarn s = .next t ∧
      t = { s with regs := t.regs, act := { s.act with stopAt := some s.now }, cen := cenNoted s t } ∧
      t.rb Reg.pwrStat 2 = true ∧ t.runtimeRuns = false ∧ only s t Reg.pwrStat 0xFFFFFFFB ∧ eventsFired s t [53]) ∧
  (∀ (who : Init) (s : State), mayWrite who 1 s → s.knb.owed = [] →
    ∃ t, exec (.watchdogKick who) s = .next t ∧
      t = { s with regs := t.regs, pwr := { s.pwr with wdLast := s.now }, act := { s.act with stopAt := none }, cen := cenNoted s t } ∧
      t.rb Reg.pwrStat 2 = false ∧ only s t Reg.pwrStat 0xFFFFFFFB ∧ eventsFired s t []) ∧
  (∀ (who : Init) (s : State) (c k : Nat), mayWrite who 1 s → s.knb.owed = [(c, k)] → s.knb.commit = none → s.knb.stalledInc = [] → c < 32 →
    s.knabCtrVal c + k < 2 ^ 64 →
    ∃ t, exec (.watchdogKick who) s = .next t ∧ t.rb Reg.pwrStat 2 = false ∧ t.knb.owed = [] ∧ t.knabCtrVal c = s.knabCtrVal c + k ∧
      storeKept s t (fun a => knabCtr c ≤ a && a < knabCtr c + 12) ∧ only s t Reg.pwrStat 0xFFFFFFFB ∧ eventsFired s t []) ∧
  (∀ s : State, s.pwr.held = some 2 → ∃ t, exec .nrstRelease s = .next t ∧ released s t) ∧
  (∀ s : State, s.pwr.held = some 5 → s.pwr.nrstLow = false → ∃ t, exec .tripRelease s = .next t ∧ released s t) ∧
  (∀ s : State, s.pwr.held = some 5 → s.pwr.nrstLow = true →
    ∃ t, exec .tripRelease s = .next t ∧ t = { s with regs := t.regs, pwr := { s.pwr with held := some 2 }, cen := cenNoted s t } ∧
      regsKept s t [] ∧ eventsFired s t []) ∧
  (∀ s : State, s.pwr.held ≠ some 2 →
    ∃ t, exec .nrstRelease s = .next t ∧ t = { s with regs := t.regs, pwr := { s.pwr with nrstLow := false }, cen := cenNoted s t } ∧
      regsKept s t [] ∧ eventsFired s t []) ∧ (∀ s : State, s.pwr.held ≠ some 5 → changesNothing .tripRelease s) ∧
  (∀ s : State, s.resetFree = true → s.pwr.rstoutDue = true →
    ∃ t, exec .rstoutRise s = .next t ∧ t = { s with regs := t.regs, pwr := { s.pwr with rstout := true }, cen := cenNoted s t } ∧ regsKept s t [] ∧ eventsFired s t [])

/-- After a reset other than power-on the recall ends at once; after a power-on it resolves the journal, takes KNB_JSEQ on,
latches the straps and finds the position of the twin. A failed self-test stops shakeout with SELFTEST_FAIL; a good one
clears the working memories, takes serial number, heat and sequence counter from the store and waits for the pour. With both
images accepted the runtime enters: the watchdog runs, requests are served, the starts of step 10 have their heat, and step
11 stands. A step-10 transaction that failed is repeated once a second until it completes. (11_power_reset_pour R381,
11_power_reset_pour R382, 11_power_reset_pour R383, 11_power_reset_pour R384, 11_power_reset_pour R392, 11_power_reset_pour
R627, 15_knab_store R505, 09_field_network R317) -/
def Obligations.ShakeoutSteps : Prop :=
  (∀ (weak : List Nat) (s : State), s.resetFree = true → s.shakeStep = 2 → s.rf Reg.pwrRstcause 0 3 ≠ 1 →
    ∃ t, exec (.knabRecall weak) s = .next t ∧ t = { s with regs := t.regs, pwr := { s.pwr with rstoutDue := true }, cen := cenNoted s t } ∧ t.shakeStep = 4 ∧
      t.rb Reg.knbStat 0 = false ∧ t.reg Reg.knbStat &&& 0xFFFFFFFE = s.reg Reg.knbStat &&& 0xFFFFFFFE ∧
      regsKept s t [Reg.pwrShake, Reg.knbStat] ∧ eventsFired s t []) ∧
  (∀ (weak : List Nat) (s : State), s.resetFree = true → s.shakeStep = 2 → s.rf Reg.pwrRstcause 0 3 = 1 → s.knabHeaderGood = true →
    s.knabModeCopy = (if s.rb Reg.knbStat 1 then 1 else 0) → s.knabWord (knabPage 60) = 0 →
    (∀ c, c < 32 → s.knabWord (knabCtr c + 4) = s.knabWord (knabCtr c + 8)) →
    ∃ t, exec (.knabRecall weak) s = .next t ∧
      t = { s with regs := t.regs, log := t.log, knb := { s.knabMapLoad.knb with weak := t.knb.weak }, pwr := { s.pwr with rstoutDue := true }, cen := cenNoted s t } ∧
      t.shakeStep = 4 ∧ t.rb Reg.knbStat 0 = false ∧
      (t.reg Reg.knbJseq).toNat = knabNextSeq (s.knabWord (knabPage 60 + 4)).toNat ∧
      (s.rb Reg.knbStat 1 = true → t.knb.weak = []) ∧ (s.rb Reg.knbStat 1 = false → ∀ p, p ∈ t.knb.weak ↔ p ∈ weak ∧ p < s.knabPages) ∧
      t.rf Reg.pwrStrap 0 2 = s.pwr.straps.twinPos % 4 ∧ t.rf Reg.pwrStrap 2 2 = s.pwr.straps.bootSrc % 4 ∧
      t.rf Reg.pwrStrap 5 3 = s.pwr.straps.shdnT % 8 ∧ t.rf Reg.twnStat 0 2 = s.twinPosOf (s.pwr.straps.twinPos % 4) ∧
      t.log = (if s.pwr.straps.twinPos % 4 = 3 ∧ s.present 16 = true then (s.fault 0x0F01 3).log else s.log) ∧
      regsKept s t [Reg.pwrShake, Reg.pwrStrap, Reg.knbStat, Reg.knbJseq, Reg.knbSpares, Reg.twnStat] ∧ eventsFired s t []) ∧
  (∀ (weak : List Nat) (s : State), s.shakeStep ≠ 2 → changesNothing (.knabRecall weak) s) ∧
  (∀ (romOk : Bool) (s : State), s.resetFree = true → s.shakeStep = 4 → s.rb Reg.pwrStat 7 = false →
    ∃ t, exec (.selfTest romOk (!romOk)) s = .next t ∧
      t = { s with regs := t.regs, log := (s.fault 0x0203 (if romOk then 2 else 1)).log, cen := cenNoted s t } ∧ t.rb Reg.pwrStat 7 = true ∧ t.shakeStep = 4 ∧
      t.reg Reg.pwrStat &&& 0xFFFFFF7F = s.reg Reg.pwrStat &&& 0xFFFFFF7F ∧ regsKept s t [Reg.pwrStat] ∧ eventsFired s t []) ∧
  (∀ s : State, s.rb Reg.pwrStat 7 = true ∨ s.shakeStep ≠ 4 → changesNothing (.selfTest true true) s) ∧
  (∀ s : State, s.resetFree = true → s.shakeStep = 4 → s.rb Reg.pwrStat 7 = false → s.isTwin = false → s.rf Reg.pwrStrap 2 2 % 3 = 0 →
    s.rb Reg.rtcStat 0 = false → s.rtc.vbatLow = false → s.rb Reg.pwrRstcause 3 = false ∨ s.rf Reg.pwrRstcause 0 3 ≠ 1 →
    ∃ t, exec (.selfTest true true) s = .next t ∧
      t = { s with regs := t.regs, mem := t.mem, log := t.log, od := t.od, nv := s.nvRead, pwr := { s.pwr with waitFrom := s.now, tripPeak := 0 }, cen := cenNoted s t } ∧
      t.shakeStep = 6 ∧ t.rb Reg.pwrPour 7 = true ∧ t.rf Reg.pwrPour 16 2 = 0 ∧
      (∀ a, t.byte a = (if (0x10000000 ≤ a ∧ a < 0x100C0000) ∨ (0x20000000 ≤ a ∧ a < 0x20040000) ∨ (0x30000000 ≤ a ∧ a < 0x30004000) ∨
        (0x40000000 ≤ a ∧ a < 0x40040000) then 0 else s.byte a)) ∧
      t.reg Reg.sysSerialLo = BitVec.ofNat 32 s.nvRead.serial ∧ t.reg Reg.sysSerialHi = BitVec.ofNat 32 (s.nvRead.serial / 2 ^ 32) ∧
      t.reg Reg.netSeq = BitVec.ofNat 32 (min 0xFFFFFFFF (s.nvRead.seqBase + 65536)) ∧ t.netAddr = s.nvRead.address % 1024 ∧
      (∀ p, p < 2 → t.rf (Reg.netpPlca p) 0 5 = s.nvRead.address % 32 ∧ t.reg (Reg.netpPlca p) &&& 0xFFFFFFE0 = s.reg (Reg.netpPlca p) &&& 0xFFFFFFE0) ∧
      t.od.heat = s.nvRead.heat.getD 0 ∧ t.od.hdig = s.nvRead.hdig.getD 0 ∧ t.od.sdig = s.nvRead.sdig.getD 0 ∧
      t.log = (let u := s.netSeqTo (s.nvRead.seqBase + 65536)
        match s.rf Reg.pwrRstcause 0 3 with
        | 3 => u.fault 0x0202 0
        | 4 => u.fault 0x0F0A 0
        | 5 => u.fault 0x1002 (ofIntN 32 s.pwr.tripPeak)
        | 6 => u.fault (if s.pwr.clockLost then 0x0103 else 0x0102) 0
        | _ => u).log ∧
      regsKept s t [Reg.pwrShake, Reg.pwrPour, Reg.sysSerialLo, Reg.sysSerialHi, Reg.netAddr, Reg.netSeq, Reg.netStat, Reg.netpPlca 0, Reg.netpPlca 1] ∧ eventsFired s t []) ∧
  (∀ (nvOk : Bool) (s : State), s.resetFree = true → s.shakeStep = 7 → s.pourStatus 0 = 4 → s.pourStatus 1 = 4 → s.knb.commit = none →
    ∃ t, exec (.runtimeEntry nvOk) s = .next t ∧ t.pwr.rtIn = true ∧ t.shakeStep = 11 ∧ t.rb Reg.pwrWdog 16 = true ∧ t.od.serving = true ∧
      (let raise := decide (s.nv.hdig ≠ some t.ownSet)
       let n := (nvStream (nvRecords t.od.baseline s.nv t.od.committed)).length
       let done := decide (t.knb.nvFault = false)
       t.od.startup = some raise ∧ t.od.heat = s.od.heat ∧ (nvOk = true → n ≤ 63 * 64 → done = true) ∧
       (nvOk = false ∨ 64 * (s.knabPages - 256) + 4 < n → done = false) ∧
       (done = true → t.nv.heat = some (if raise then heatAfter s.od.heat else s.od.heat) ∧ t.nv.hdig = some t.ownSet ∧
         t.nv.sdig = some (t.odDigest t.od.committed OdRow.shared) ∧ t.pwr.retryStart = none) ∧
       (done = false → t.pwr.retryStart = some (s.now + 4000))) ∧ t.now = s.now ∧ t.tb = s.tb) ∧
  (∀ (nvOk : Bool) (s : State), s.shakeStep ≠ 7 → changesNothing (.runtimeEntry nvOk) s) ∧
  (∀ (s : State) (u : Nat), s.runtimeRuns = true → s.pwr.retryStart = some u → u ≤ s.now →
    (s.nvFits (s.nvOfSet s.od.committed) = true → s.knb.commit = none →
      ∃ t, exec (.startupCommitRetry true) s = .next t ∧
        t = { s with regs := t.regs, mem := t.mem, cen := cenNoted s t, knb := { s.knb with nvFault := false },
                     pwr := { s.pwr with retryStart := none },
                     nv := { s.nvOfSet s.od.committed with
                                       heat := some (heatAfterN s.heatAhead s.od.heat),
                                       imgTag := if s.pourStatus 1 = 4 then s.pwr.cfgTag else s.nv.imgTag,
                                       hdig := some s.ownSet, sdig := some (s.odDigest s.od.committed OdRow.shared) } } ∧
        storeKept s t (fun a => inJournal a || inPages 2 3 a || inPages 256 1024 a) ∧ regsKept s t [Reg.knbJseq] ∧ eventsFired s t [27]) ∧
    (∃ t, exec (.startupCommitRetry false) s = .next t ∧
      t = { s with regs := t.regs, pwr := { s.pwr with retryStart := some (s.now + 4000) }, cen := cenNoted s t } ∧ regsKept s t [] ∧ eventsFired s t [])) ∧
  (∀ (nvOk : Bool) (s : State), s.pwr.retryStart = none → changesNothing (.startupCommitRetry nvOk) s)

/-- A block is refused with the first code of its checks that fails and changes nothing else of the pour; a good one is held,
begins its pour where the ID is new, and is COMPLETE with the last missing one. GO and POUR_END take a complete image to its
check; GO of one that lacks a block shows MISSING, and POUR_END has a NAK sent with the missing ranges, again after 2 s
without pour traffic. Blocks after both images are accepted set PWR_POUR.LATE. A check that fails rejects the image with its
cause, event 43 and IMAGE_REJECTED; one that passes accepts it, an unsigned configuration image with CFG_UNSIGNED, and the
second acceptance ends step 6. (09_field_network R323, 09_field_network R324, 09_field_network R325, 11_power_reset_pour
R383, 11_power_reset_pour R388, 11_power_reset_pour R389, 11_power_reset_pour R394, 11_power_reset_pour R395,
11_power_reset_pour R396) -/
def Obligations.PourOfImages : Prop :=
  let port := fun (s t : State) (mode3 : Bool) => t.reg Reg.hstCmdcnt = s.reg Reg.hstCmdcnt + 1 ∧
    t.rf Reg.hstStat 3 2 = (if mode3 then 2 else 1) ∧ t.reg Reg.hstStat &&& 0xFFFFFFE7 = s.reg Reg.hstStat &&& 0xFFFFFFE7
  let hostRegs := [Reg.hstCmdcnt, Reg.hstStat]
  let netFits := fun (s : State) (p : Nat) (m : NetFrame) => s.netUp p = true ∧ s.isTwin = false ∧ m.rxEr = false ∧ m.fcs = crc32 (netBytes m) ∧
    s.netAccepts m = true ∧ netBadHeader m = false ∧ m.src % 1024 ≠ s.netAddr ∧ netSessionFits m = true ∧ m.session = 0xFFFF
  let code := fun (s : State) (net : Bool) (b : List Byte) =>
    let k := (b.getD 0 0).toNat
    let p := s.pourOf k
    let length := ofBe (slice b 8 4)
    let n := ofBe (slice b 12 2)
    let count := ofBe (slice b 14 2)
    if k > 1 ∨ 3 ≤ s.pourStatus k ∨ (net = true ∧ ofBe (slice b 2 2) ≠ 0 ∧ ofBe (slice b 2 2) ≠ s.pourGroup) then 4
    else if crc32 (b.drop 20) ≠ ofBe (slice b 16 4) then 1
    else if count ≠ (length + 1023) / 1024 then 2
    else if count ≤ n then 3
    else if (b.drop 20).length ≠ (if n + 1 < count then 1024 else length - 1024 * (count - 1)) then 2
    else if p.held ≠ [] ∧ p.id = ofBe (slice b 4 4) ∧ (p.length ≠ length ∨ p.blocks ≠ count) then 2
    else 0
  let block := fun (s t : State) (net : Bool) (b : List Byte) =>
    let k := (b.getD 0 0).toNat
    let p := s.pourOf k
    let n := ofBe (slice b 12 2)
    let q : PourSt := if p.held ≠ [] ∧ p.id = ofBe (slice b 4 4) then p
      else { id := ofBe (slice b 4 4), blocks := ofBe (slice b 14 2), length := ofBe (slice b 8 4) }
    let r : PourSt := if n ∈ q.held.map Prod.fst then q else { q with held := q.held ++ [(n, b.drop 20)] }
    t.rf Reg.pwrPour 18 4 = code s net b ∧
    (code s net b ≠ 0 → t.pwr = s.pwr ∧ t.reg Reg.pwrPour &&& 0xFFC3FFFF = s.reg Reg.pwrPour &&& 0xFFC3FFFF ∧
      t.reg Reg.pwrPournext = s.reg Reg.pwrPournext) ∧
    (code s net b = 0 → t.pourOf k = r ∧ t.pourOf (1 - k) = s.pourOf (1 - k) ∧ t.pourStatus k = (if r.missing = [] then 2 else 1) ∧
      t.pourStatus (1 - k) = s.pourStatus (1 - k) ∧ t.rf Reg.pwrPournext (16 * k) 16 = r.missing.headD 0xFFFF)
  (∀ (mode3 : Bool) (b : List Byte) (s : State), s.portUp = true → s.pourOpen = true → 21 ≤ b.length → b.length ≤ 1044 →
    ∃ t, exec (.pourBlock mode3 b b.length) s = .next t ∧ port s t mode3 ∧
      (t.hst.pourAt = some s.now ∧ block s t false b ∨ t.hst.result = 0xE6 ∧ t.pwr = s.pwr ∧ t.reg Reg.pwrPour = s.reg Reg.pwrPour)) ∧
  (∀ (mode3 : Bool) (b : List Byte) (s : State), s.portUp = true → s.pourOpen = true → 21 ≤ b.length → b.length ≤ 1044 →
    247 ≤ b.length ∨ (∀ u ∈ s.hst.pourAt, u + 1 < s.now) →
    ∃ t, exec (.pourBlock mode3 b b.length) s = .next t ∧
      t = { s with regs := t.regs, hst := { s.hst with hbusy := false, undef := none, miso := zeros (2 + b.length), pourAt := some s.now },
                   pwr := { s.pwr with pourRt := t.pwr.pourRt, pourCf := t.pwr.pourCf }, cen := cenNoted s t } ∧
      block s t false b ∧ port s t mode3 ∧ regsKept s t (hostRegs ++ [Reg.pwrPour, Reg.pwrPournext]) ∧ eventsFired s t []) ∧
  (∀ (mode3 : Bool) (b : List Byte) (n : Nat) (s : State), s.portUp = true →
    (s.pourOpen = false →
      ∃ t, exec (.pourBlock mode3 b n) s = .next t ∧
        t = { s with regs := t.regs, hst := { s.hst with hbusy := false, undef := none, miso := zeros (2 + b.length) }, cen := cenNoted s t } ∧ t.rb Reg.pwrPour 6 = true ∧
        port s t mode3 ∧ regsKept s t (hostRegs ++ [Reg.pwrPour]) ∧ eventsFired s t []) ∧
    (s.pourOpen = true → n < 21 ∨ 1044 < n ∨ n ≠ b.length →
      ∃ t, exec (.pourBlock mode3 b n) s = .next t ∧
        t = { s with regs := t.regs, hst := { s.hst with hbusy := false, undef := none, miso := zeros (2 + b.length) }, cen := cenNoted s t } ∧ t.rf Reg.pwrPour 18 4 = 2 ∧
        port s t mode3 ∧ regsKept s t (hostRegs ++ [Reg.pwrPour]) ∧ eventsFired s t [])) ∧
  (∀ (mode3 : Bool) (k : Nat) (s : State), s.portUp = true → k < 256 →
    ∃ t, exec (.pourGo mode3 k) s = .next t ∧
      (let starts := s.pourOpen = true ∧ k ≤ 1 ∧ s.pourStatus k = 2
       let img := fun (p : PourSt) => { p with image := p.assembled }
       t = { s with regs := t.regs, hst := { s.hst with hbusy := false, undef := none, miso := zeros 1 },
                    pwr := { s.pwr with pourRt := if starts ∧ k = 0 then img s.pwr.pourRt else s.pwr.pourRt,
                                        pourCf := if starts ∧ k = 1 then img s.pwr.pourCf else s.pwr.pourCf }, cen := cenNoted s t } ∧
       (starts → t.pourStatus k = 3 ∧ t.rf Reg.pwrPour 18 4 = 0) ∧
       (s.pourOpen = false → t.rb Reg.pwrPour 6 = true) ∧
       (s.pourOpen = true → k ≤ 1 → 3 ≤ s.pourStatus k → t.rf Reg.pwrPour 18 4 = 0 ∧ t.pourStatus k = s.pourStatus k) ∧
       (s.pourOpen = true → k > 1 ∨ s.pourStatus k < 2 → t.rf Reg.pwrPour 18 4 = 5)) ∧
      port s t mode3 ∧ regsKept s t (hostRegs ++ [Reg.pwrPour]) ∧ eventsFired s t []) ∧
  (∀ (p : Nat) (m : NetFrame) (s : State), m.typ = 0xA → netFits s p m → s.netPourOpen = true →
    ∃ t, exec (.pourReceive p m) s = .next t ∧
      t = { s with regs := t.regs, cen := cenNoted s t, net := { s.net with pourLast := s.now },
                   pwr := { s.pwr with pourRt := t.pwr.pourRt, pourCf := t.pwr.pourCf } } ∧
      block s t true m.body ∧ regsKept s t [Reg.netpRxfrm p, Reg.pwrPour, Reg.pwrPournext] ∧
      eventsFired s t [if p = 0 then 35 else 38]) ∧
  (∀ (p : Nat) (m : NetFrame) (s : State), m.typ = 0xC → netFits s p m → s.netPourOpen = true →
    let k := (m.body.getD 0 0).toNat
    let q := s.pourOf k
    k ≤ 1 → q.held ≠ [] → q.id = ofBe (slice m.body 4 4) → s.pourStatus k < 3 →
    (q.missing = [] →
      ∃ t, exec (.pourEndReceive p m) s = .next t ∧ t.pourStatus k = 3 ∧ (t.pourOf k).image = q.assembled ∧ t.net.txA = s.net.txA ∧
        t.net.txB = s.net.txB ∧ t.net.pourLast = s.now ∧ t.net.pourEnds = s.net.pourEnds.filter (fun e => e.1 ≠ k) ∧
        regsKept s t [Reg.netpRxfrm p, Reg.pwrPour] ∧ eventsFired s t [if p = 0 then 35 else 38]) ∧
    (q.missing ≠ [] → s.netUp 0 = true → s.netUp 1 = true → (s.reg Reg.netSeq).toNat % 65536 < 65534 →
      ∃ t f, exec (.pourEndReceive p m) s = .next t ∧ t.net.txA = s.net.txA ++ [f] ∧ t.net.txB = s.net.txB ++ [f] ∧ f.typ = 0xB ∧
        f.dst = m.src % 1024 ∧ f.session = 0xFFFF ∧ ofBe (slice f.body 4 4) = q.id % 2 ^ 32 ∧
        (f.body.getD 1 0).toNat = min 64 (blockRanges q.missing).length ∧ t.pwr = s.pwr ∧
        t.net.pourEnds = s.net.pourEnds.filter (fun e => e.1 ≠ k) ++ [(k, q.id)] ∧ regsKept s t [Reg.netpRxfrm p, Reg.netSeq, Reg.netStat] ∧ eventsFired s t [if p = 0 then 35 else 38])) ∧
  (∀ (s : State) (k : Nat), s.isTwin = false → s.netPourOpen = true → s.net.pourLast + 8000 ≤ s.now →
    s.net.pourEnds = [(k, (s.pourOf k).id)] → (s.pourOf k).held ≠ [] → (s.pourOf k).missing ≠ [] → s.netUp 0 = true → (s.reg Reg.netSeq).toNat % 65536 < 65534 →
    ∃ t f, exec .pourNakRetry s = .next t ∧
      t = { s with regs := t.regs, log := t.log, cen := cenNoted s t,
                   net := { s.net with pourLast := s.now, txA := t.net.txA, txB := t.net.txB } } ∧
      t.net.txA = s.net.txA ++ [f] ∧ f.typ = 0xB ∧ f.dst = s.net.pourEndFrom ∧
      (f.body.getD 0 0).toNat = k % 256 ∧ regsKept s t [Reg.netSeq, Reg.netStat] ∧ eventsFired s t []) ∧
  (∀ s : State, s.netPourOpen = false ∨ s.net.pourEnds = [] ∨ s.now < s.net.pourLast + 8000 → changesNothing .pourNakRetry s) ∧
  (∀ (k : Nat) (s : State), k ≤ 1 → s.pourOpen = true → s.pourStatus k = 3 → s.rf Reg.pwrPour 16 2 ≠ 2 →
    let img := (s.pourOf k).image
    let cause := s.imgCause img k
    (cause ≠ 0 →
      ∃ t, exec (.imageCheck k) s = .next t ∧
        t = { s with regs := t.regs, cen := cenNoted s t, log := ((s.happen 43 (k * 256 + cause)).fault 0x0201 (k * 256 + cause)).log,
                     pwr := { s.pwr with lastReject := k * 256 + cause, pourRt := if k = 0 then {} else s.pwr.pourRt,
                                         pourCf := if k = 1 then {} else s.pwr.pourCf } } ∧
        t.pourStatus k = 0 ∧ t.rf Reg.pwrPour (8 + 4 * k) 4 = cause ∧ t.rf Reg.pwrPournext (16 * k) 16 = 0xFFFF ∧
        regsKept s t [Reg.pwrPour, Reg.pwrPournext] ∧ eventsFired s t [43]) ∧
    (cause = 0 →
      ∃ t, exec (.imageCheck k) s = .next t ∧ t.pourStatus k = 4 ∧
        (let unsigned := k = 1 ∧ s.nv.custodianKey = none
         t.log = (if unsigned then (s.happen 43 (k * 256)).fault 0x0205 0 else s.happen 43 (k * 256)).log ∧
         (k = 1 → t.pwr.cfgTag = imgTag img ∧ t.pwr.cfgSig = if unsigned then 1 else 0)) ∧
        (if k = 0 then t.od.rtVersion else t.od.cfgVersion) = imgField img 20 4 ∧
        (s.pourStatus (1 - k) = 4 → t.shakeStep = 7 ∧ t.rb Reg.pwrPour 7 = false) ∧
        (s.pourStatus (1 - k) ≠ 4 → t.shakeStep = s.shakeStep ∧ t.rb Reg.pwrPour 7 = s.rb Reg.pwrPour 7) ∧
        regsKept s t [Reg.pwrPour, Reg.pwrShake] ∧ eventsFired s t [43])) ∧
  (∀ (k : Nat) (s : State), 1 < k ∨ s.pourOpen = false ∨ s.pourStatus k ≠ 3 → changesNothing (.imageCheck k) s)

/-- An accepted request waits for the first class-0 boundary at least 8 base ticks on; a refused one changes nothing. The
boundary waits for sensor-bus transactions, for the Knab store and for bursts of the ladle. At that boundary queued host
words are written, a running journal commit finishes, PWR_STAT.STATE reads CHILL and TBCOUNT stands. A wake source that
PWR_WAKE enables ends chill: its bit shows, STATE still reads CHILL until frames run again, a data bank that PWR_RETAIN keeps
holds its bytes and the bit of every other bank is set in SYS_RAMSTAT with its bytes 0. Any other source changes nothing.
(11_power_reset_pour R397, 11_power_reset_pour R398, 11_power_reset_pour R399, 12_host_port_memory R409, 12_host_port_memory
R444) -/
def Obligations.ChillAndWake : Prop :=
  (∀ s : State, s.runtimeRuns = true → s.chillCode = 0 → s.pwr.chillAt = none →
    ∃ t, exec .chillRequest s = .next t ∧ t = { s with regs := t.regs, pwr := { s.pwr with chillAt := some (s.tb.count + 8) }, cen := cenNoted s t } ∧
      regsKept s t [] ∧ eventsFired s t []) ∧
  (∀ s : State, s.runtimeRuns = false ∨ s.chillCode ≠ 0 → changesNothing .chillRequest s) ∧
  (∀ s : State, (s.isTwin = true → s.role = 1 → s.chillCode = 3) ∧ (s.isTwin = false → s.rf Reg.pwrWake 0 6 ≠ 0 → 12 ≤ s.shakeStep →
    s.rb Reg.twnStat 5 = false → (∀ f ∈ s.od.fns.map Prod.fst, (s.fn f).state ≠ 1 ∧ (s.fn f).state ≠ 3) → s.chillCode = 0)) ∧
  (∀ (s : State) (u : Nat), s.awake = true → s.tb.running = true → s.pwr.chillAt = some u → u ≤ s.tb.count → s.atBoundary 0 = true →
    s.chillWaits = false →
    (s.hst.queue = [] →
      ∃ t, exec .chillEntry s = .next t ∧ t.rf Reg.pwrStat 0 2 = 2 ∧ t.asleep = true ∧ t.hst = s.hst ∧ t.knb.commit = none ∧
        t.pwr.chillAt = none ∧ t.tb = s.tb ∧ t.now = s.now ∧ t.od = s.od ∧ t.nv = s.nv) ∧
    (∀ a v, s.hst.queue = [(a, v)] → s.knb.commit = none → a % 4 = 0 → 0x30000000 ≤ a → a < 0x30004000 →
      ∃ t, exec .chillEntry s = .next t ∧ t.asleep = true ∧ t.hst.queue = [] ∧ t.word a = v)) ∧
  (∀ s : State, s.pwr.chillAt = none ∨ s.atBoundary 0 = false ∨ s.chillWaits = true → changesNothing .chillEntry s) ∧
  (∀ s : State, s.chillWaits = false → s.sbusAnyBusy = false ∧ s.knabBusy = false ∧ s.knb.stalledInc = [] ∧ s.knb.weak = [] ∧ s.ldl.buf = []) ∧
  (∀ (src : Nat) (s : State), s.resetFree = true → s.asleep = true → src < 6 → s.rb Reg.pwrWake src = true →
    ∃ t, exec (.wake src) s = .next t ∧ t.asleep = false ∧ t.awake = true ∧ t.rf Reg.pwrWake 8 6 = 2 ^ src ∧
      t.rf Reg.pwrWake 0 6 = s.rf Reg.pwrWake 0 6 ∧ t.rf Reg.pwrStat 0 2 = 2 ∧ t.pwr.wakeTicks = some 0 ∧ t.tb = s.tb ∧
      t.rf Reg.sysRamstat 0 8 = (s.rf Reg.sysRamstat 0 8 ||| (255 - s.rf Reg.pwrRetain 0 8)) ∧
      (∀ b a, b < 8 → 0x20000000 + 0x8000 * b ≤ a → a < 0x20000000 + 0x8000 * (b + 1) →
        (s.rb Reg.pwrRetain b = false → t.byte a = 0) ∧
        (s.rb Reg.pwrRetain b = true → t.byte a = s.byte a))) ∧
  (∀ (src : Nat) (s : State), s.asleep = false ∨ 6 ≤ src ∨ s.rb Reg.pwrWake src = false → changesNothing (.wake src) s)

/-- Every transaction counts in HST_CMDCNT and shows its mode. ID answers SYS_ID and SYS_UNITS; STATUS answers the status byte
and the result byte, and clears the result. READ and READ_BURST answer, after their wait bytes, the result code and the
words, most significant byte first; a refused word reads 0, its code is recorded, and its status bit is set. A collision in
the window is counted or recorded with event 49. WRITE queues its words, or records 0xE7 in chill; a queued word is written
at its target. DOORBELL takes its byte and fires event 48. A code outside the table answers 0xEE. (12_host_port_memory R411,
12_host_port_memory R412, 12_host_port_memory R414, 12_host_port_memory R415, 12_host_port_memory R416, 12_host_port_memory
R417, 12_host_port_memory R418, 12_host_port_memory R419, 12_host_port_memory R422, 12_host_port_memory R427) -/
def Obligations.HostPortCommands : Prop :=
  let port := fun (s t : State) (mode3 : Bool) => t.reg Reg.hstCmdcnt = s.reg Reg.hstCmdcnt + 1 ∧
    t.rf Reg.hstStat 3 2 = (if mode3 then 2 else 1)
  let hostRegs := [Reg.hstCmdcnt, Reg.hstStat]
  let said := fun (s : State) (l : List Byte) => ({ s.hst with hbusy := false, undef := none, miso := l } : HstSt)
  (∀ (mode3 : Bool) (s : State), s.portUp = true →
    ∃ t, exec (.hostId mode3) s = .next t ∧
      t = { s with regs := t.regs, hst := said s (beBytes 4 (sysIdOf s.variant).toNat ++ beBytes 4 (sysUnitsOf s.variant).toNat), cen := cenNoted s t } ∧
      port s t mode3 ∧ regsKept s t hostRegs ∧ eventsFired s t []) ∧
  (∀ (mode3 : Bool) (s : State), s.portUp = true →
    ∃ t b, exec (.hostStatus mode3) s = .next t ∧
      t = { s with regs := t.regs, free := t.free, hst := { said s [b, BitVec.ofNat 8 s.hst.result] with result := 0 }, cen := cenNoted s t } ∧
      (s.hst.pourAt = none ∨ (∃ u, s.hst.pourAt = some u ∧ u + 1 < s.now) → b.getLsbD 5 = true) ∧
      b.getLsbD 0 = decide (6 ≤ s.shakeStep) ∧ b.getLsbD 1 = decide (s.rf Reg.pwrStat 0 2 = 1) ∧ b.getLsbD 2 = s.hirq ∧
      b.getLsbD 3 = decide (s.hst.result ≠ 0) ∧ b.getLsbD 4 = s.knabRecalling ∧ b.getLsbD 6 = s.asleep ∧
      b.getLsbD 7 = decide (s.hst.queue ≠ []) ∧ port s t mode3 ∧ regsKept s t hostRegs ∧ eventsFired s t []) ∧
  (∀ (mode3 : Bool) (s : State), s.portUp = false → changesNothing (.hostId mode3) s ∧ changesNothing (.hostStatus mode3) s ∧
    ∀ a w, changesNothing (.hostWrite mode3 a w) s) ∧
  (∀ (mode3 late : Bool) (a : Word) (c : Collision) (s : State), s.portUp = true → s.asleep = false → s.hst.queue = [] →
    0x30000000 ≤ a.toNat → a.toNat + 4 ≤ 0x30004000 → a.toNat % 4 = 0 →
    ∃ t k w, exec (.hostRead mode3 a c late) s = .next t ∧ k ≤ 8 ∧ (c ≠ .hostLater → w = s.word a.toNat) ∧
      t = { s with regs := t.regs, free := t.free, lastRead := w, cen := cenNoted s t,
                   hst := { said s (zeros (4 + k) ++ [0xA5] ++ beBytes 4 w.toNat) with busyWords := if c = .hostLater then 1 else 0 } } ∧
      t.reg Reg.hstBusycnt = s.reg Reg.hstBusycnt + (if c = .hostLater then 1 else 0) ∧
      (if c = .fabricLater then t.rb Reg.hstStat 0 = true ∧ (t.reg Reg.hstColladdr).toNat = 0x80000000 + a.toNat % 0x4000
       else t.rb Reg.hstStat 0 = s.rb Reg.hstStat 0 ∧ t.reg Reg.hstColladdr = s.reg Reg.hstColladdr) ∧
      port s t mode3 ∧ regsKept s t (hostRegs ++ [Reg.hstBusycnt, Reg.hstColladdr]) ∧
      eventsFired s t (if c = .fabricLater then [49] else [])) ∧
  (∀ (mode3 late : Bool) (a : Word) (c : Collision) (s : State), s.portUp = true → s.hst.queue = [] →
    let at4 := a.toNat / 4 * 4
    let code := s.hostCode at4 false
    code ≠ 0xA5 →
    ∃ t k, exec (.hostRead mode3 a c late) s = .next t ∧ k ≤ 64 ∧
      t = { s with regs := t.regs, free := t.free, lastRead := 0,
                   hst := { said s (zeros (4 + k) ++ [BitVec.ofNat 8 code, 0, 0, 0, 0]) with
                            busyWords := 0, result := if s.hst.result = 0 then code else s.hst.result }, cen := cenNoted s t } ∧
      (s.asleep = true → code = 0xE7) ∧ (s.asleep = false → placeOf at4 = .unmapped → code = 0xE4) ∧
      (code = 0xE4 → t.rb Reg.sysStatus 2 = true ∧ (t.reg Reg.sysHitaddr).toNat = at4) ∧
      (code = 0xE5 → t.rb Reg.sysStatus 3 = true ∧ (t.reg Reg.sysHitaddr).toNat = at4) ∧
      t.rb Reg.hstStat 2 = true ∧ (s.rf Reg.hstHerr 0 8 = 0 → t.rf Reg.hstHerr 0 8 = code) ∧
      (s.rf Reg.hstHerr 0 8 ≠ 0 → t.rb Reg.hstHerr 8 = true ∧ t.rf Reg.hstHerr 0 8 = s.rf Reg.hstHerr 0 8) ∧
      port s t mode3 ∧ regsKept s t (hostRegs ++ [Reg.hstHerr, Reg.sysStatus, Reg.sysHitaddr]) ∧ eventsFired s t []) ∧
  (∀ (mode3 late : Bool) (a : Word) (n : Nat) (s : State), s.portUp = true → s.asleep = false → s.hst.queue = [] → 1 ≤ n → n ≤ 256 →
    0x30000000 ≤ a.toNat → a.toNat + 4 * n ≤ 0x30004000 → a.toNat % 4 = 0 →
    ∃ t k, exec (.hostReadBurst mode3 a n [] late) s = .next t ∧ k ≤ 8 ∧
      t = { s with regs := t.regs, free := t.free, lastRead := s.word (a.toNat + 4 * (n - 1)),
                   hst := { said s (zeros (5 + k) ++ [0xA5] ++ (List.range n).flatMap (fun i => beBytes 4 (s.word (a.toNat + 4 * i)).toNat)) with
                            busyWords := 0 }, cen := cenNoted s t } ∧
      port s t mode3 ∧ regsKept s t hostRegs ∧ eventsFired s t []) ∧
  (∀ (mode3 : Bool) (a : Word) (words : List Word) (s : State), s.portUp = true → a.toNat + 4 * words.length < 2 ^ 32 → a.toNat % 4 = 0 →
    (s.asleep = false → s.hst.queue.length + words.length ≤ 16 →
      ∃ t, exec (.hostWrite mode3 a words) s = .next t ∧
        t = { s with regs := t.regs, hst := { said s (zeros (4 + 4 * words.length)) with
                                              queue := s.hst.queue ++ words.zipIdx.map (fun e => (a.toNat + 4 * e.2, e.1)) }, cen := cenNoted s t } ∧
        port s t mode3 ∧ regsKept s t hostRegs ∧ eventsFired s t []) ∧
    (s.asleep = true → words ≠ [] →
      ∃ t, exec (.hostWrite mode3 a words) s = .next t ∧
        t = { s with regs := t.regs, hst := { said s (zeros (4 + 4 * words.length)) with
                                              result := if s.hst.result = 0 then 0xE7 else s.hst.result }, cen := cenNoted s t } ∧
        port s t mode3 ∧ t.rb Reg.hstStat 2 = true ∧ regsKept s t (hostRegs ++ [Reg.hstHerr]) ∧ eventsFired s t [])) ∧
  (∀ (a : Nat) (v : Word) (rest : List (Nat × Word)) (s : State), s.portUp = true → s.asleep = false → s.hst.queue = (a, v) :: rest →
    a % 4 = 0 →
    (0x20038000 ≤ a → a < 0x20040000 → ∀ c : Collision,
      ∃ t, exec (.writeQueueWord c) s = .next t ∧
        t = { s with regs := t.regs, mem := t.mem, hst := { s.hst with queue := rest, hbusy := false, undef := none }, cen := cenNoted s t } ∧ t.word a = v ∧
        memKept s t a (a + 4) ∧ regsKept s t [] ∧ eventsFired s t []) ∧
    (0x30000000 ≤ a → a < 0x30004000 → ∀ c : Collision,
      ∃ t, exec (.writeQueueWord c) s = .next t ∧
        t = { s with regs := t.regs, mem := t.mem, cen := cenNoted s t,
                     hst := { s.hst with queue := rest, hbusy := decide (c = .hostLater), undef := if c = .fabricLater then some a else none } } ∧
        t.word a = v ∧ memKept s t a (a + 4) ∧
        t.reg Reg.hstBusycnt = s.reg Reg.hstBusycnt + (if c = .hostLater then 1 else 0) ∧
        (c = .fabricLater → t.rb Reg.hstStat 0 = true ∧ (t.reg Reg.hstColladdr).toNat = 0x80000000 + a % 0x4000) ∧
        regsKept s t ((if c = .hostLater then [Reg.hstBusycnt] else []) ++ if c = .fabricLater then [Reg.hstStat, Reg.hstColladdr] else []) ∧
        eventsFired s t (if c = .fabricLater then [49] else []))) ∧
  (∀ (a : Nat) (v : Word) (rest : List (Nat × Word)) (c : Collision) (s : State), s.portUp = true → s.asleep = false →
    s.hst.queue = (a, v) :: rest → s.hostCode a true ≠ 0xA5 →
    ∃ t, exec (.writeQueueWord c) s = .next t ∧
      t = { s with regs := t.regs, hst := { s.hst with queue := rest, hbusy := false, undef := none,
                                                       result := if s.hst.result = 0 then s.hostCode a true else s.hst.result }, cen := cenNoted s t } ∧
      t.rb Reg.hstStat 2 = true ∧ regsKept s t [Reg.hstStat, Reg.hstHerr, Reg.sysStatus, Reg.sysHitaddr] ∧ eventsFired s t []) ∧
  (∀ (c : Collision) (s : State), s.hst.queue = [] ∨ s.asleep = true → changesNothing (.writeQueueWord c) s) ∧
  (∀ (mode3 : Bool) (v : Byte) (s : State), s.portUp = true → s.asleep = false →
    ∃ t, exec (.hostDoorbell mode3 v) s = .next t ∧
      t = { s with regs := t.regs, cen := cenNoted s t, hst := said s (zeros 1) } ∧
      t.rf Reg.hstDoorbell 0 8 = v.toNat ∧ t.rf Reg.hstDoorbell 16 16 = (s.rf Reg.hstDoorbell 16 16 + 1) % 65536 ∧
      t.rb Reg.hstStat 1 = true ∧ port s t mode3 ∧ regsKept s t (hostRegs ++ [Reg.hstDoorbell]) ∧ eventsFired s t [48]) ∧
  (∀ (mode3 : Bool) (code : Byte) (s : State), s.portUp = true →
    (code.toNat ∉ [0x9F, 0x05, 0x0B, 0x0C, 0x02, 0x06, 0x20, 0x21] →
      ∃ t, exec (.badCommand mode3 code) s = .next t ∧ t = { s with regs := t.regs, hst := said s [0xEE], cen := cenNoted s t } ∧ port s t mode3 ∧
        regsKept s t hostRegs ∧ eventsFired s t []) ∧
    (code.toNat ∈ [0x9F, 0x05, 0x0B, 0x0C, 0x02, 0x06, 0x20, 0x21] → changesNothing (.badCommand mode3 code) s))

/-- A write to a register of SYS, ZON, ODX, THM or TBO takes the value in the RW bits, clears the W1C bits where it holds 1, and
keeps every other bit and register. A write to data RAM writes its four bytes; one at a set or clear window sets or clears
the bits of the word it stands for; one outside the map is ignored and recorded. The host writes its part of data RAM and the
shared window and is refused in the rest with code 0xE5, and in a unit it does not own with code 0xE3. (01_architecture R16,
01_architecture R18, 01_architecture R19, 01_architecture R53, 12_host_port_memory R402, 12_host_port_memory R403,
12_host_port_memory R404, 12_host_port_memory R407, 12_host_port_memory R418) -/
def Obligations.PlainRegisterAndMemoryWrites : Prop :=
  let recorded := fun (s t : State) (bit a : Nat) (host : Bool) => t.rb Reg.sysStatus bit = true ∧ t.rb Reg.sysStatus 4 = host ∧
    (∀ i, i ≠ bit → i ≠ 4 → t.rb Reg.sysStatus i = s.rb Reg.sysStatus i) ∧ (t.reg Reg.sysHitaddr).toNat = a
  (∀ (who : Init) (a v : Word) (r : RegRow) (s : State), a.toNat % 4 = 0 → placeOf a.toNat = .regs → regRow a.toNat = some r →
    regUnit a.toNat ∈ [0, 8, 15, 17, 18] → s.absentAt a.toNat = false →
    (who = .host → s.asleep = false ∧ (hostReg a.toNat = true ∨ s.hostOwns (regUnit a.toNat) = true)) →
    ∃ t, exec (.registerWrite who a v) s = .next t ∧ t = { s with regs := t.regs, cen := cenNoted s t } ∧
      t.reg a.toNat = ((s.reg a.toNat &&& ~~~(BitVec.ofNat 32 r.rw)) ||| (v &&& BitVec.ofNat 32 r.rw)) &&& ~~~(v &&& BitVec.ofNat 32 r.w1c) ∧
      regsKept s t [a.toNat] ∧ eventsFired s t []) ∧
  (∀ (a v : Word) (s : State), a.toNat % 4 = 0 → s.asleep = false →
    (0x20038000 ≤ a.toNat ∧ a.toNat < 0x20040000) ∨ (0x30000000 ≤ a.toNat ∧ a.toNat < 0x30004000) →
    ∃ t, exec (.registerWrite .host a v) s = .next t ∧ t = { s with regs := t.regs, mem := t.mem, cen := cenNoted s t } ∧ t.word a.toNat = v ∧
      memKept s t a.toNat (a.toNat + 4) ∧ regsKept s t [] ∧ eventsFired s t []) ∧
  (∀ (who : Init) (a v : Word) (s : State), who ≠ .host → a.toNat % 4 = 0 →
    (0x20000000 ≤ a.toNat → a.toNat < 0x20040000 →
      ∃ t, exec (.registerWrite who a v) s = .next t ∧ t = { s with regs := t.regs, mem := t.mem, cen := cenNoted s t } ∧ t.word a.toNat = v ∧
        memKept s t a.toNat (a.toNat + 4) ∧ regsKept s t [] ∧ eventsFired s t []) ∧
    (∀ d, (0x20000000 ≤ d ∧ d < 0x20040000) ∨ (0x30000000 ≤ d ∧ d < 0x30004000) →
      (a.toNat = d + 0x1000000 →
        ∃ t, exec (.registerWrite who a v) s = .next t ∧ t = { s with regs := t.regs, mem := t.mem, cen := cenNoted s t } ∧ t.word d = s.word d ||| v ∧
          memKept s t d (d + 4) ∧ regsKept s t [] ∧ eventsFired s t []) ∧
      (a.toNat = d + 0x2000000 →
        ∃ t, exec (.registerWrite who a v) s = .next t ∧ t = { s with regs := t.regs, mem := t.mem, cen := cenNoted s t } ∧ t.word d = s.word d &&& ~~~v ∧
          memKept s t d (d + 4) ∧ regsKept s t [] ∧ eventsFired s t [])) ∧
    (placeOf a.toNat = .unmapped →
      ∃ t, exec (.registerWrite who a v) s = .next t ∧ t = { s with regs := t.regs, cen := cenNoted s t } ∧ recorded s t 2 a.toNat false ∧
        regsKept s t [Reg.sysStatus, Reg.sysHitaddr] ∧ eventsFired s t [])) ∧
  (∀ (a v : Word) (s : State), s.asleep = false → a.toNat % 4 = 0 →
    (placeOf a.toNat = .rom ∨ placeOf a.toNat = .prog ∨ (0x20000000 ≤ a.toNat ∧ a.toNat < 0x20038000) →
      ∃ t, exec (.registerWrite .host a v) s = .next t ∧
        t = { s with regs := t.regs, hst := { s.hst with result := if s.hst.result = 0 then 0xE5 else s.hst.result }, cen := cenNoted s t } ∧
        recorded s t 3 a.toNat true ∧ t.rb Reg.hstStat 2 = true ∧
        regsKept s t [Reg.sysStatus, Reg.sysHitaddr, Reg.hstStat, Reg.hstHerr] ∧ eventsFired s t []) ∧
    (∀ r, placeOf a.toNat = .regs → regRow a.toNat = some r → s.absentAt a.toNat = false → hostReg a.toNat = false →
      s.hostOwns (regUnit a.toNat) = false →
      ∃ t, exec (.registerWrite .host a v) s = .next t ∧
        t = { s with regs := t.regs, hst := { s.hst with result := if s.hst.result = 0 then 0xE3 else s.hst.result }, cen := cenNoted s t } ∧
        recorded s t 1 a.toNat true ∧ t.rb Reg.hstStat 2 = true ∧
        regsKept s t [Reg.sysStatus, Reg.sysHitaddr, Reg.hstStat, Reg.hstHerr] ∧ eventsFired s t []))

/-- A GO on an enabled idle bus starts the transaction with its target and lengths, at most 32; one on a busy bus is ignored and
says so. The end sets DONE, NACK or STUCK with COUNT, puts the bytes read into RX and fires the event of the bus; SCL held
low ends it with TIMEOUT, no sooner than TOUT milliseconds after its start. A write of CFG drives the bus or lets it go. A
due poll, the lowest of its bus, starts on an idle bus, waits for a busy one, and reads status 5 where its last run still
goes on; after its wait the second part starts. A good run writes its virtual PV as raw value times GAIN plus OFFSET,
saturated; a failed one keeps it, counts, and its third in a row is logged. (12_host_port_memory R432, 12_host_port_memory
R433, 12_host_port_memory R434, 12_host_port_memory R435, 12_host_port_memory R437, 12_host_port_memory R438,
12_host_port_memory R439, 12_host_port_memory R440, 12_host_port_memory R442) -/
def Obligations.SensorBuses : Prop :=
  let rx := fun (s : State) (b : Nat) (l : List Byte) => s.sbusRx b = l ++ List.replicate (32 - l.length) 0
  let rxRegs := fun (b : Nat) => Reg.sbStat b :: (List.range 8).map (Reg.sbRx b)
  (∀ (who : Init) (b : Nat) (v : Word) (s : State), b < 3 → s.buses.length = 3 → mayWrite who 19 s →
    (s.sbusBusy b = false → s.sbusOn b = true → bitOf v 24 = true → s.pinsDriven = true →
      ∃ t, exec (.sbusGo who b v) s = .next t ∧ t = { s with regs := t.regs, buses := t.buses, cen := cenNoted s t } ∧ t.rb (Reg.sbStat b) 0 = true ∧
        t.rf (Reg.sbStat b) 1 4 = 0 ∧ t.rb (Reg.sbStat b) 5 = s.rb (Reg.sbStat b) 5 ∧ t.reg (Reg.sbCmd b) = v &&& 0x003F3F7F ∧
        t.bus b = { s.bus b with target := fld v 0 7, wlen := min 32 (fld v 8 6), rlen := min 32 (fld v 16 6), poll := none, startAt := s.now } ∧
        (∀ c, c ≠ b → t.bus c = s.bus c) ∧ regsKept s t [Reg.sbStat b, Reg.sbCmd b] ∧ eventsFired s t []) ∧
    (s.sbusBusy b = true →
      ∃ t, exec (.sbusGo who b v) s = .next t ∧ t = { s with regs := t.regs, cen := cenNoted s t } ∧ t.rb (Reg.sbStat b) 5 = true ∧
        t.reg (Reg.sbStat b) &&& 0xFFFFFFDF = s.reg (Reg.sbStat b) &&& 0xFFFFFFDF ∧ regsKept s t [Reg.sbStat b] ∧ eventsFired s t [])) ∧
  (∀ (b : Nat) (l : List Byte) (s : State), b < 3 → s.buses.length = 3 → s.sbusBusy b = true → (s.bus b).poll = none →
    (s.bus b).rlen ≤ l.length → (s.bus b).rlen ≤ 32 → (s.bus b).wlen ≤ 32 →
    ∃ t, exec (.sbusTransactionEnd b (.ok l)) s = .next t ∧ t = { s with regs := t.regs, cen := cenNoted s t } ∧
      t.sbusBusy b = false ∧ t.rb (Reg.sbStat b) 1 = true ∧ t.rf (Reg.sbStat b) 6 2 = 0 ∧
      t.rf (Reg.sbStat b) 8 7 = (s.bus b).wlen + (s.bus b).rlen ∧ rx t b (l.take (s.bus b).rlen) ∧ regsKept s t (rxRegs b) ∧
      eventsFired s t [54 + b]) ∧
  (∀ (b n : Nat) (addr : Bool) (s : State), b < 2 → s.sbusBusy b = true → (s.bus b).poll = none → (s.bus b).wlen ≤ 32 →
    (addr = false → n < (s.bus b).wlen) →
    ∃ t, exec (.sbusTransactionEnd b (if addr then .nackAddr n else .nackData n)) s = .next t ∧
      t = { s with regs := t.regs, cen := cenNoted s t } ∧ t.sbusBusy b = false ∧ t.rb (Reg.sbStat b) 2 = true ∧
      t.rf (Reg.sbStat b) 6 2 = (if addr then 1 else 2) ∧ t.rf (Reg.sbStat b) 8 7 = (if addr then (if n = 0 ∨ (s.bus b).rlen = 0 then 0 else (s.bus b).wlen) else n) ∧ rx t b [] ∧ regsKept s t (rxRegs b) ∧
      eventsFired s t [54 + b]) ∧
  (∀ (b : Nat) (s : State), b < 2 → s.buses.length = 3 → s.sbusBusy b = true → (s.bus b).poll = none →
    ∃ t, exec (.sbusTransactionEnd b .stuck) s = .next t ∧
      (let due := (s.bus b).lastStuck = none ∨ ∃ u, (s.bus b).lastStuck = some u ∧ u + 240000 ≤ s.now
       (due → t.log = (s.fault 0x1101 b).log ∧ (t.bus b).lastStuck = some s.now) ∧ (¬due → t.log = s.log ∧ t.buses = s.buses)) ∧
      t = { s with regs := t.regs, buses := t.buses, log := t.log, cen := cenNoted s t } ∧
      t.sbusBusy b = false ∧ t.rb (Reg.sbStat b) 4 = true ∧ t.rf (Reg.sbStat b) 8 7 = 0 ∧ regsKept s t (rxRegs b) ∧
      eventsFired s t [54 + b]) ∧
  (∀ (b : Nat) (how : SbEnd) (s : State), s.sbusBusy b = false → changesNothing (.sbusTransactionEnd b how) s ∧
    changesNothing (.clockStretchTimeout b) s) ∧
  (∀ (b : Nat) (s : State), b < 2 → s.sbusBusy b = true → (s.bus b).poll = none → (s.bus b).wlen ≤ 32 → (s.bus b).rlen ≤ 32 →
    (s.bus b).startAt + 4 * max 1 (s.rf (Reg.sbCfg b) 8 8) ≤ s.now →
    ∃ t, exec (.clockStretchTimeout b) s = .next t ∧
      t = { s with regs := t.regs, free := t.free, cen := cenNoted s t } ∧ t.sbusBusy b = false ∧
      t.rb (Reg.sbStat b) 3 = true ∧ t.rf (Reg.sbStat b) 6 2 = 0 ∧ t.rf (Reg.sbStat b) 8 7 ≤ (s.bus b).wlen + (s.bus b).rlen ∧
      (∀ i, t.rf (Reg.sbStat b) 8 7 - (s.bus b).wlen ≤ i → (t.sbusRx b).getD i 0 = 0) ∧ regsKept s t (rxRegs b) ∧ eventsFired s t [54 + b]) ∧
  (∀ (b : Nat) (s : State), s.now < (s.bus b).startAt + 4 * max 1 (s.rf (Reg.sbCfg b) 8 8) → changesNothing (.clockStretchTimeout b) s) ∧
  (∀ (who : Init) (b : Nat) (v : Word) (s : State), b < 3 → s.buses.length = 3 → mayWrite who 19 s → s.sbusBusy b = false →
    (∃ t, exec (.sbusEnable who b v false) s = .next t ∧ t = { s with regs := t.regs, cen := cenNoted s t } ∧
      t.sbusOn b = true ∧ t.sbusDriven b = s.pinsDriven ∧ t.reg (Reg.sbCfg b) = (v ||| 1) &&& sbCfgMask b ∧
      regsKept s t [Reg.sbCfg b] ∧ eventsFired s t []) ∧
    (∃ t, exec (.sbusDisable who b v) s = .next t ∧ t = { s with regs := t.regs, cen := cenNoted s t } ∧
      t.sbusOn b = false ∧ t.sbusDriven b = false ∧ t.reg (Reg.sbCfg b) = v &&& 0xFFFFFFFE &&& sbCfgMask b ∧
      regsKept s t [Reg.sbCfg b] ∧ eventsFired s t [])) ∧
  (∀ (p : Nat) (s : State), p < 32 → s.pollsRun = true → s.tb.running = true → s.pollNat p 0 = 1 → s.pollNat p 1 < 3 → s.buses.length = 3 →
    s.awake = true → (s.poll p).dueAt ≠ some s.now → s.pollNat p 6 ≠ 0 → (s.tb.count + 4 * s.pollNat p 6 * 40 - 40 * p) % (4 * s.pollNat p 6) = 0 →
    (∀ q, q < p → s.pollDueNow q = true → s.pollNat q 1 ≠ s.pollNat p 1) →
    let b := s.pollNat p 1
    ((s.poll p).running = true →
      ∃ t, exec (.pollDue p) s = .next t ∧ t = { s with regs := t.regs, polls := t.polls, cen := cenNoted s t } ∧ t.poll p = { s.poll p with status := 5, dueAt := some s.now } ∧
        (∀ q, q ≠ p → t.poll q = s.poll q) ∧ regsKept s t [] ∧ eventsFired s t []) ∧
    ((s.poll p).running = false → s.sbusBusy b = false → (s.bus b).poll = none → (s.bus b).waiting = [] →
      ∃ t, exec (.pollDue p) s = .next t ∧ t = { s with regs := t.regs, polls := t.polls, buses := t.buses, cen := cenNoted s t } ∧ t.sbusBusy b = true ∧
        (t.bus b).poll = some p ∧ (t.bus b).target = s.pollNat p 2 ∧
        t.poll p = { s.poll p with running := true, second := false, waitTo := none, gain := s.odNum 0x1B p 8, offs := s.odNum 0x1B p 9,
                                   dueAt := some s.now } ∧
        (∀ q, q ≠ p → t.poll q = s.poll q) ∧ regsKept s t ([Reg.sbStat b, Reg.sbCmd b] ++ (List.range 8).map (Reg.sbTx b)) ∧
        eventsFired s t []) ∧
    ((s.poll p).running = false → s.sbusBusy b = true →
      ∃ t, exec (.pollDue p) s = .next t ∧ t = { s with regs := t.regs, polls := t.polls, buses := t.buses, cen := cenNoted s t } ∧
        p ∈ (t.bus b).waiting ∧ (t.poll p).running = true ∧ regsKept s t [] ∧ eventsFired s t [])) ∧
  (∀ (p : Nat) (s : State), s.pollsRun = false ∨ s.pollNat p 0 ≠ 1 ∨ (s.poll p).dueAt = some s.now → changesNothing (.pollDue p) s) ∧
  (∀ (p u : Nat) (s : State), s.pollsRun = true → s.awake = true → s.pollNat p 1 < 3 → s.buses.length = 3 →
    (s.poll p).waitTo = some u → u ≤ s.now →
    ∃ t, exec (.pollWaitEnd p) s = .next t ∧ t = { s with regs := t.regs, polls := t.polls, buses := t.buses, cen := cenNoted s t } ∧
      (t.poll p).waitTo = none ∧ t.sbusBusy (s.pollNat p 1) = true ∧ (t.bus (s.pollNat p 1)).wlen = 0 ∧
      (t.bus (s.pollNat p 1)).rlen = min 32 (s.pollNat p 5) ∧ (t.bus (s.pollNat p 1)).poll = some p ∧
      regsKept s t [Reg.sbStat (s.pollNat p 1), Reg.sbCmd (s.pollNat p 1)] ∧ eventsFired s t []) ∧
  (∀ (p : Nat) (s : State), (s.poll p).waitTo = none → changesNothing (.pollWaitEnd p) s) ∧
  (∀ (b p : Nat) (s : State), b < 3 → s.buses.length = 3 → s.sbusBusy b = true → (s.bus b).poll = some p → (s.bus b).waiting = [] →
    s.pollsRun = true → (s.poll p).second = true →
    (∀ l : List Byte, (s.pollNat p 7).testBit 8 = false → l.length = (s.bus b).rlen → s.pollNat p 0xA < 256 → (s.poll p).logged = false →
      ∃ t, exec (.sbusTransactionEnd b (.ok l)) s = .next t ∧
        t.word (vpvAddr (s.pollNat p 0xA)) = ofInt32 (sat32 (pollRaw (s.pollNat p 7) l * (s.poll p).gain + (s.poll p).offs)) ∧
        (t.poll p).status = 0 ∧ (t.poll p).raw = pollRaw (s.pollNat p 7) l ∧ (t.poll p).series = 0 ∧ (t.poll p).running = false ∧
        (t.poll p).failed = (s.poll p).failed ∧ t.log = s.log ∧ (∀ q, q ≠ p → t.poll q = s.poll q) ∧
        memKept s t (vpvAddr (s.pollNat p 0xA)) (vpvAddr (s.pollNat p 0xA) + 4) ∧ eventsFired s t [54 + b]) ∧
    (∀ n : Nat, b < 2 →
      ∃ t, exec (.sbusTransactionEnd b (.nackAddr n)) s = .next t ∧ t.mem = s.mem ∧ (t.poll p).status = 1 ∧ (t.poll p).running = false ∧
        (t.poll p).failed = min 0xFFFFFFFF ((s.poll p).failed + 1) ∧ (t.poll p).series = (s.poll p).series + 1 ∧
        t.log = (if (s.poll p).series = 2 ∧ (s.poll p).logged = false then (s.fault 0x1102 p).log else s.log) ∧ eventsFired s t [54 + b]))

/-- By a writer that may write EVT, a write of 1 to bit n of EVT_PEND clears the core latch of source n and leaves its host latch
unchanged, and a write of 1 to bit n of EVT_CLR clears both; a latch of a level source whose cause holds is set again at
once. Every other latch, every register and all else stays. (R448) -/
def Obligations.ClearingOfLatches : Prop :=
  ∀ (who : Init) (hi : Bool) (v : Word) (s : State), mayWrite who 3 s →
    let asked := fun (n : Nat) => decide (n / 32 = if hi then 1 else 0) && bitOf v (n % 32)
    let again := fun (t : State) (n : Nat) (host : Bool) => !eventAbsent s.variant n && levelSources.contains n && t.levelCause n host
    (∃ t, exec (.evtPendClear who hi v) s = .next t ∧ t = { s with regs := t.regs, cen := cenNoted s t } ∧ regsKept s t [] ∧
      ∀ n, n < 64 → t.coreLatch n = ((s.coreLatch n && !asked n) || again t n false) ∧ t.hostLatch n = (s.hostLatch n || again t n true)) ∧
    (∃ t, exec (.evtClr who hi v) s = .next t ∧ t = { s with regs := t.regs, cen := cenNoted s t } ∧ regsKept s t [] ∧
      ∀ n, n < 64 → t.coreLatch n = ((s.coreLatch n && !asked n) || again t n false) ∧
        t.hostLatch n = ((s.hostLatch n && !asked n) || again t n true))

/-- A write of EVT_MASK_HOST sets the mask to the value written, in the bits that the variant has; for every bit written as 0 the
host latch of that source is cleared in the same action, and a bit written as 1 leaves it unchanged; a level source whose
cause holds sets its latch again. Core latches stay. HIRQ is the AND of host latches and mask. EVT_SOFT fires sources 62 and
63 by its bits 0 and 1. (R449) -/
def Obligations.HostMaskAndSoftEvents : Prop :=
  (∀ (who : Init) (hi : Bool) (v : Word) (s : State),
    ∃ t, exec (.evtMaskHostWrite who hi v) s = .next t ∧ t = { s with regs := t.regs, cen := cenNoted s t } ∧
      t.reg (if hi then Reg.evtMaskHostHi else Reg.evtMaskHostLo) = (if hi then v &&& eventHiMask s.variant else v) ∧
      regsKept s t [if hi then Reg.evtMaskHostHi else Reg.evtMaskHostLo] ∧
      ∀ n, n < 64 →
        (let again := fun (host : Bool) => !eventAbsent s.variant n && levelSources.contains n && t.levelCause n host
         let cleared := decide (n / 32 = if hi then 1 else 0) && !(bitOf v (n % 32) && (!hi || !eventAbsent s.variant n))
         t.hostLatch n = ((s.hostLatch n && !cleared) || again true) ∧ t.coreLatch n = (s.coreLatch n || again false))) ∧
  (∀ s : State, s.hirq = true ↔ ∃ n, n < 64 ∧ s.hostLatch n = true ∧
    (if n < 32 then s.rb Reg.evtMaskHostLo n else s.rb Reg.evtMaskHostHi (n - 32)) = true) ∧
  (∀ (who : Init) (v : Word) (s : State), mayWrite who 3 s →
    ∃ t, exec (.evtSoft who v) s = .next t ∧ t = { s with regs := t.regs, cen := cenNoted s t } ∧ regsKept s t [] ∧
      eventsFired s t ((if bitOf v 0 then [62] else []) ++ if bitOf v 1 then [63] else []))

/-- A write of EN = 1 is accepted where the values of R454 hold: HEAD and TAIL are 0; else EN stays 0 with cause CFG and event
34. While EN is 1, CFG takes EN, NEIEN and FULLIEN and keeps the rest, with cause BUSY where one of the others differs; BASE
is not written then. A HEAD write by the producer, not past full, and a TAIL write by the consumer, not past HEAD, are taken;
any other index write is ignored with its cause and event 34. An index write waits behind earlier writes of its initiator
that have not taken effect. The host writes only its own index of rings 12 and 13 and rings 26 to 29. (01_architecture R53,
13_events_rings R454, 13_events_rings R455, 13_events_rings R456, 13_events_rings R457, 13_events_rings R458, 13_events_rings
R460) -/
def Obligations.RingRegisters : Prop :=
  let error := fun (s t : State) (cause n : Nat) => t = { s with regs := t.regs, cen := cenNoted s t } ∧
    t.reg Reg.rngErr = BitVec.ofNat 32 (0x80000000 + n * 256 + cause) ∧ eventsFired s t [34]
  let may := fun (who : Init) (n : Nat) => who = .host → 26 ≤ n ∧ n ≤ 29
  let first := fun (who : Init) (s : State) => (who = .host → s.hst.queue = []) ∧ (who = .runtime → s.knb.stalled = [] ∧ s.knb.after = [])
  (∀ (who : Init) (n : Nat) (v : Word) (s : State), n < 32 → may who n → s.ringOn n = false → bitOf v 8 = true →
    let f := 2 ^ fld v 0 4 * (4 * 2 ^ fld v 4 2)
    let base := (s.reg (Reg.rngBase n)).toNat
    let low := if n = 12 ∨ n = 13 ∨ (26 ≤ n ∧ n ≤ 29) then 0x20038000 else 0x20000000
    let good := 2 ≤ fld v 0 4 ∧ fld v 0 4 ≤ 12 ∧ fld v 6 2 ≠ 3 ∧ base % f = 0 ∧
      ((0x30000000 ≤ base ∧ base + f ≤ 0x30004000) ∨ (low ≤ base ∧ base + f ≤ 0x20040000))
    (good →
      ∃ t, exec (.ringConfigWrite who n v) s = .next t ∧ t = { s with regs := t.regs, cen := cenNoted s t } ∧ t.ringOn n = true ∧ t.ringHead n = 0 ∧
        t.ringTail n = 0 ∧ t.reg (Reg.rngCfg n) = v &&& (if 26 ≤ n ∧ n ≤ 29 then 0xFFF else 0x7FF) ∧
        regsKept s t [Reg.rngCfg n, Reg.rngHead n, Reg.rngTail n] ∧ eventsFired s t []) ∧
    (¬good →
      ∃ t, exec (.ringConfigWrite who n v) s = .next t ∧ error s t 1 n ∧ t.ringOn n = false ∧
        regsKept s t [Reg.rngCfg n, Reg.rngErr])) ∧
  (∀ (who : Init) (n : Nat) (v : Word) (s : State), n < 32 → may who n → s.ringOn n = true → bitOf v 8 = true →
    let same := fld v 0 8 = s.rf (Reg.rngCfg n) 0 8 ∧ ((26 ≤ n ∧ n ≤ 29) → bitOf v 11 = s.rb (Reg.rngCfg n) 11)
    s.rb (Reg.rngCfg n) 11 = false ∨ (26 ≤ n ∧ n ≤ 29) →
    ∃ t, exec (.ringConfigWrite who n v) s = .next t ∧ t.rf (Reg.rngCfg n) 8 3 = fld v 8 3 ∧
      t.rf (Reg.rngCfg n) 0 8 = s.rf (Reg.rngCfg n) 0 8 ∧ t.rb (Reg.rngCfg n) 11 = s.rb (Reg.rngCfg n) 11 ∧
      t.ringHead n = s.ringHead n ∧ t.ringTail n = s.ringTail n ∧
      (same → t = { s with regs := t.regs, cen := cenNoted s t } ∧ regsKept s t [Reg.rngCfg n] ∧ eventsFired s t []) ∧
      (¬same → error s t 5 n ∧ regsKept s t [Reg.rngCfg n, Reg.rngErr])) ∧
  (∀ (who : Init) (n : Nat) (v : Word) (s : State), n < 32 → may who n →
    (s.ringOn n = false →
      ∃ t, exec (.ringBaseWrite who n v) s = .next t ∧ t = { s with regs := t.regs, cen := cenNoted s t } ∧ t.reg (Reg.rngBase n) = v &&& 0xFFFFFFFC ∧
        regsKept s t [Reg.rngBase n] ∧ eventsFired s t []) ∧
    (s.ringOn n = true →
      ∃ t, exec (.ringBaseWrite who n v) s = .next t ∧ error s t 5 n ∧ regsKept s t [Reg.rngErr])) ∧
  (∀ (who : Init) (n : Nat) (v : Word) (s : State), n < 32 → first who s →
    (who = .host → n = 12 ∨ (26 ≤ n ∧ n ≤ 29)) →
    let side := ringUnitProduced n = false ∧ (s.ringHostProduces n = true ↔ who = .host)
    let fits := (fld v 0 16 + 65536 - s.ringHead n) % 65536 + s.ringCount n ≤ 2 ^ s.ringDepth n
    (s.ringOn n = true → side → fits →
      ∃ t, exec (.ringHeadWrite who n v) s = .next t ∧ t = { s with regs := t.regs, cen := cenNoted s t } ∧ t.ringHead n = fld v 0 16 ∧
        t.ringTail n = s.ringTail n ∧ regsKept s t [Reg.rngHead n] ∧ eventsFired s t []) ∧
    (s.ringOn n = true → ¬(side ∧ fits) →
      ∃ t, exec (.ringHeadWrite who n v) s = .next t ∧ error s t 2 n ∧ regsKept s t [Reg.rngErr]) ∧
    (s.ringOn n = false →
      ∃ t, exec (.ringHeadWrite who n v) s = .next t ∧ error s t 6 n ∧ regsKept s t [Reg.rngErr])) ∧
  (∀ (n : Nat) (v : Word) (s : State), n < 32 →
    (s.hst.queue ≠ [] → s.hst.queue.length < 16 → n = 12 ∨ (26 ≤ n ∧ n ≤ 29) →
      ∃ t, exec (.ringHeadWrite .host n v) s = .next t ∧
        t = { s with regs := t.regs, hst := { s.hst with queue := s.hst.queue ++ [(Reg.rngHead n, v)] }, cen := cenNoted s t } ∧
        regsKept s t [] ∧ eventsFired s t []) ∧
    (s.hst.queue ≠ [] → s.hst.queue.length < 16 → n = 13 ∨ (26 ≤ n ∧ n ≤ 29) →
      ∃ t, exec (.ringTailWrite .host n v) s = .next t ∧
        t = { s with regs := t.regs, hst := { s.hst with queue := s.hst.queue ++ [(Reg.rngTail n, v)] }, cen := cenNoted s t } ∧
        regsKept s t [] ∧ eventsFired s t []) ∧
    (s.knb.stalled ≠ [] ∨ s.knb.after ≠ [] →
      (∃ t, exec (.ringHeadWrite .runtime n v) s = .next t ∧
        t = { s with regs := t.regs, knb := { s.knb with after := s.knb.after ++ [(Reg.rngHead n, v)] }, cen := cenNoted s t } ∧
        regsKept s t [] ∧ eventsFired s t []) ∧
      ∃ t, exec (.ringTailWrite .runtime n v) s = .next t ∧
        t = { s with regs := t.regs, knb := { s.knb with after := s.knb.after ++ [(Reg.rngTail n, v)] }, cen := cenNoted s t } ∧
        regsKept s t [] ∧ eventsFired s t [])) ∧
  (∀ (who : Init) (n : Nat) (v : Word) (s : State), n < 32 → s.held = [] → first who s →
    (who = .host → n = 13 ∨ (26 ≤ n ∧ n ≤ 29)) →
    let side := ringUnitConsumed n = false ∧ (s.ringHostConsumes n = true ↔ who = .host)
    let fits := (fld v 0 16 + 65536 - s.ringTail n) % 65536 ≤ s.ringCount n
    (s.ringOn n = true → side → fits →
      ∃ t, exec (.ringTailWrite who n v) s = .next t ∧ t = { s with regs := t.regs, cen := cenNoted s t } ∧ t.ringTail n = fld v 0 16 ∧
        t.ringHead n = s.ringHead n ∧ regsKept s t [Reg.rngTail n] ∧ eventsFired s t []) ∧
    (s.ringOn n = true → ¬(side ∧ fits) →
      ∃ t, exec (.ringTailWrite who n v) s = .next t ∧ error s t 3 n ∧ regsKept s t [Reg.rngErr]) ∧
    (s.ringOn n = false →
      ∃ t, exec (.ringTailWrite who n v) s = .next t ∧ error s t 6 n ∧ regsKept s t [Reg.rngErr])) ∧
  (∀ (n : Nat) (v : Word) (s : State), n < 26 →
    (∃ t, exec (.ringConfigWrite .host n v) s = .next t ∧ t = { s with regs := t.regs, cen := cenNoted s t } ∧ t.rb Reg.sysStatus 1 = true ∧
      (t.reg Reg.sysHitaddr).toNat = Reg.rngCfg n ∧ regsKept s t [Reg.sysStatus, Reg.sysHitaddr] ∧ eventsFired s t []) ∧
    (n ≠ 12 → ∃ t, exec (.ringHeadWrite .host n v) s = .next t ∧ t = { s with regs := t.regs, cen := cenNoted s t } ∧ t.rb Reg.sysStatus 1 = true ∧
      regsKept s t [Reg.sysStatus, Reg.sysHitaddr] ∧ eventsFired s t []))

/-- START of an idle channel with a good FIRST sets it running with its first descriptor to fetch and DONE 0; a bad FIRST sets
FETCHERR with event 31 and its fault, and START of a channel that is not idle is ignored and says so. PAUSE and RESUME stop
and go on; RESUME with nothing left to move parks. ABORT slags the descriptor in progress with cause 5 and leaves the channel
idle. DOORBELL makes a parked channel read its LINK again, waits for the park on one that runs and for the entry of one that
holds it, is ignored on an idle one, and takes effect after the earlier writes of its initiator. (14_ladle_dma R466,
14_ladle_dma R470, 14_ladle_dma R472, 14_ladle_dma R479, 14_ladle_dma R481, 14_ladle_dma R482, 14_ladle_dma R483,
14_ladle_dma R487) -/
def Obligations.LadleChannelControl : Prop :=
  let ctrl := fun (s t : State) (n : Nat) (pause : Bool) => t.reg (Reg.ldlChCtrl n) &&& 0xFFFFFFFD = s.reg (Reg.ldlChCtrl n) &&& 0x70 ∧
    t.rb (Reg.ldlChCtrl n) 1 = pause
  let others := fun (s t : State) (n : Nat) => ∀ m, m ≠ n → t.ldlCh m = s.ldlCh m
  let ldl := fun (s t : State) => t = { s with regs := t.regs, ldl := { s.ldl with chans := t.ldl.chans }, cen := cenNoted s t }
  let may := fun (who : Init) (n : Nat) (s : State) => n < 16 ∧ mayWrite who 5 s
  let first := fun (who : Init) (s : State) => (who = .host → s.hst.queue = []) ∧ (who = .runtime → s.knb.stalled = [] ∧ s.knb.after = [])
  (∀ (who : Init) (n : Nat) (s : State), may who n s → s.rb (Reg.ldlChCtrl n) 1 = false →
    let a := (s.reg (Reg.ldlChFirst n)).toNat
    (s.ldlState n = 0 → s.ldlAddrOk a = true →
      ∃ t, exec (.ladleStart who n) s = .next t ∧ ldl s t ∧ t.ldlState n = 1 ∧ t.rb (Reg.ldlChStat n) 3 = false ∧
        t.reg (Reg.ldlChDone n) = 0 ∧ t.ldlCh n = { s.ldlCh n with fetch := some a, moving := false, link := false } ∧ others s t n ∧
        ctrl s t n false ∧ regsKept s t [Reg.ldlChCtrl n, Reg.ldlChStat n, Reg.ldlChDone n] ∧ eventsFired s t []) ∧
    (s.ldlState n = 0 → s.ldlAddrOk a = false →
      ∃ t, exec (.ladleStart who n) s = .next t ∧
        t = { s with regs := t.regs, cen := cenNoted s t, log := (s.fault 0x0C05 n).log } ∧ t.ldlState n = 0 ∧
        t.rb (Reg.ldlChStat n) 5 = true ∧ t.rb (Reg.ldlChStat n) 3 = false ∧ t.reg (Reg.ldlChDone n) = 0 ∧ ctrl s t n false ∧
        regsKept s t [Reg.ldlChCtrl n, Reg.ldlChStat n, Reg.ldlChDone n] ∧ eventsFired s t [31]) ∧
    (s.ldlState n ≠ 0 →
      ∃ t, exec (.ladleStart who n) s = .next t ∧ t = { s with regs := t.regs, cen := cenNoted s t } ∧ t.rb Reg.ldlStat 2 = true ∧ ctrl s t n false ∧
        regsKept s t [Reg.ldlChCtrl n, Reg.ldlStat] ∧ eventsFired s t [])) ∧
  (∀ (who : Init) (n : Nat) (s : State), may who n s → s.rb (Reg.ldlChCtrl n) 1 = true →
    ∃ t, exec (.ladleStart who n) s = .next t ∧ t = { s with regs := t.regs, cen := cenNoted s t } ∧ t.rb Reg.ldlStat 2 = true ∧ ctrl s t n true ∧
      regsKept s t [Reg.ldlChCtrl n, Reg.ldlStat] ∧ eventsFired s t []) ∧
  (∀ (who : Init) (n : Nat) (s : State), may who n s → s.rb (Reg.ldlChCtrl n) 1 = false →
    ∃ t, exec (.ladlePause who n) s = .next t ∧ t = { s with regs := t.regs, cen := cenNoted s t } ∧
      t.ldlState n = (if s.ldlState n = 1 then (if n ∈ s.ldl.replay ∨ n ∈ s.ldl.buf.map Prod.fst then 3 else 4) else if s.ldlState n = 2 then 4 else s.ldlState n) ∧
      t.reg (Reg.ldlChStat n) &&& 0xFFFFFFF8 = s.reg (Reg.ldlChStat n) &&& 0xFFFFFFF8 ∧ ctrl s t n true ∧
      regsKept s t [Reg.ldlChCtrl n, Reg.ldlChStat n] ∧ eventsFired s t []) ∧
  (∀ (who : Init) (n : Nat) (s : State), may who n s → s.rb (Reg.ldlChCtrl n) 1 = true → s.ldlState n = 3 ∨ s.ldlState n = 4 →
    (s.ldlState n = 3 ∨ (s.ldlCh n).fetch.isSome = true ∨ (s.ldlCh n).moving = true ∨ (s.ldlCh n).link = true →
      ∃ t, exec (.ladleResume who n) s = .next t ∧ t = { s with regs := t.regs, cen := cenNoted s t } ∧ t.ldlState n = 1 ∧ ctrl s t n false ∧
        regsKept s t [Reg.ldlChCtrl n, Reg.ldlChStat n] ∧ eventsFired s t []) ∧
    (s.ldlState n = 4 → (s.ldlCh n).fetch = none → (s.ldlCh n).moving = false → (s.ldlCh n).link = false →
      let d := (s.reg (Reg.ldlChDone n)).toNat
      (d = 0 ∨ s.word (d + 0xC) = 1 →
        ∃ t, exec (.ladleResume who n) s = .next t ∧ t = { s with regs := t.regs, cen := cenNoted s t } ∧ t.ldlState n = 2 ∧
          t.rb (Reg.ldlChStat n) 3 = false ∧ ctrl s t n false ∧ regsKept s t [Reg.ldlChCtrl n, Reg.ldlChStat n] ∧ eventsFired s t []) ∧
      (d ≠ 0 → s.word (d + 0xC) ≠ 1 → s.ldlAddrOk (s.word (d + 0xC)).toNat = true →
        ∃ t, exec (.ladleResume who n) s = .next t ∧ ldl s t ∧ t.ldlState n = 1 ∧ (t.ldlCh n).fetch = some (s.word (d + 0xC)).toNat ∧
          others s t n ∧ ctrl s t n false ∧ regsKept s t [Reg.ldlChCtrl n, Reg.ldlChStat n] ∧ eventsFired s t []))) ∧
  (∀ (who : Init) (n : Nat) (s : State), may who n s → s.ldlState n ≠ 0 →
    ((s.ldlCh n).moving = false →
      ∃ t, exec (.ladleAbort who n) s = .next t ∧
        t = { s with regs := t.regs, ldl := { s.ldl with chans := t.ldl.chans, replay := s.ldl.replay.filter (· ≠ n), buf := s.ldl.buf.filter (fun e => e.1 ≠ n) }, cen := cenNoted s t } ∧
        t.ldlState n = 0 ∧ t.rb (Reg.ldlChStat n) 3 = false ∧ t.ldlCh n = { s.ldlCh n with fetch := none, moving := false, link := false } ∧
        others s t n ∧ ctrl s t n (s.rb (Reg.ldlChCtrl n) 1) ∧ regsKept s t [Reg.ldlChCtrl n, Reg.ldlChStat n] ∧ eventsFired s t []) ∧
    ((s.ldlCh n).moving = true → s.ringOn 25 = false →
      ∃ t, exec (.ladleAbort who n) s = .next t ∧
        t = { s with regs := t.regs, mem := t.mem, cen := cenNoted s t,
                     ldl := { s.ldl with chans := t.ldl.chans, replay := s.ldl.replay.filter (· ≠ n), buf := s.ldl.buf.filter (fun e => e.1 ≠ n) } } ∧
        (let a := (s.reg (Reg.ldlChCur n)).toNat
         t.word (a + 0x10) = s.reg (Reg.ldlChPcksum n) ∧ t.word (a + 0x14) = BitVec.ofNat 32 (2 + 5 * 16 + n * 256) ∧
         memKept s t (a + 0x10) (a + 0x18)) ∧
        t.ldlState n = 0 ∧ t.rb (Reg.ldlChStat n) 6 = true ∧ t.rf (Reg.ldlChStat n) 8 4 = 5 ∧
        t.reg (Reg.ldlChDesccnt n) = s.reg (Reg.ldlChDesccnt n) + 1 ∧
        (t.reg Reg.ldlSlagcnt).toNat = min 0xFFFFFFFF ((s.reg Reg.ldlSlagcnt).toNat + 1) ∧ others s t n ∧ (t.ldlCh n).moving = false ∧
        regsKept s t ([Reg.ldlChCtrl n, Reg.ldlChStat n, Reg.ldlChDesccnt n, Reg.ldlSlagcnt] ++ ringRegs 25) ∧ eventsFired s t [31])) ∧
  (∀ (n : Nat) (s : State), n < 16 →
    (s.hostOwns 5 = true → s.hst.queue ≠ [] → s.hst.queue.length < 16 →
      ∃ t, exec (.ladleDoorbell .host n) s = .next t ∧
        t = { s with regs := t.regs, hst := { s.hst with queue := s.hst.queue ++ [(Reg.ldlChDoorbell n, 0)] }, cen := cenNoted s t } ∧
        regsKept s t [] ∧ eventsFired s t []) ∧
    (s.knb.stalled ≠ [] ∨ s.knb.after ≠ [] →
      ∃ t, exec (.ladleDoorbell .runtime n) s = .next t ∧
        t = { s with regs := t.regs, knb := { s.knb with after := s.knb.after ++ [(Reg.ldlChDoorbell n, 0)] }, cen := cenNoted s t } ∧
        regsKept s t [] ∧ eventsFired s t [])) ∧
  (∀ (who : Init) (n : Nat) (s : State), may who n s → first who s →
    let d := (s.reg (Reg.ldlChDone n)).toNat
    (s.ldlState n = 0 ∨ (s.ldlState n = 2 ∧ d = 0) →
      ∃ t, exec (.ladleDoorbell who n) s = .next t ∧ t = { s with regs := t.regs, cen := cenNoted s t } ∧ t.rb Reg.ldlStat 2 = true ∧
        regsKept s t [Reg.ldlStat] ∧ eventsFired s t []) ∧
    (s.ldlState n = 2 → d ≠ 0 → s.ldlHeld n = false → s.word (d + 0xC) = 1 → changesNothing (.ladleDoorbell who n) s) ∧
    (s.ldlState n = 2 → d ≠ 0 → s.ldlHeld n = false → s.word (d + 0xC) ≠ 1 → s.ldlAddrOk (s.word (d + 0xC)).toNat = true →
      ∃ t, exec (.ladleDoorbell who n) s = .next t ∧ ldl s t ∧ t.ldlState n = 1 ∧ (t.ldlCh n).fetch = some (s.word (d + 0xC)).toNat ∧
        others s t n ∧ regsKept s t [Reg.ldlChStat n] ∧ eventsFired s t []) ∧
    (s.ldlState n ∈ [1, 3, 4] ∨ s.ldlState n = 2 ∧ d ≠ 0 ∧ s.ldlHeld n = true →
      ∃ t, exec (.ladleDoorbell who n) s = .next t ∧ t = { s with regs := t.regs, cen := cenNoted s t } ∧ t.rb (Reg.ldlChStat n) 3 = true ∧
        t.ldlState n = s.ldlState n ∧ regsKept s t [Reg.ldlChStat n] ∧ eventsFired s t [])) ∧
  (∀ (who : Init) (n : Nat) (s : State), 16 ≤ n → changesNothing (.ladleStart who n) s ∧ changesNothing (.ladleDoorbell who n) s)

/-- The granted channel fetches its descriptor: addresses, length and checksum start from it, or a failed check slags it with its
cause before a byte moves. A burst is read into the buffer, where up to four wait, and written from it in order. It copies
its bytes exactly, at most 64 and to no 64-byte boundary of either side, and advances position, REMAIN and checksum; the last
one writes STATUS and CKSUM back, DONE names the descriptor and DESCCNT counts. A bus error stops the engine with event 31,
its address and its fault, and the replay makes the discarded transfers again, clears the stop and counts as transient where
all succeed. (14_ladle_dma R467, 14_ladle_dma R468, 14_ladle_dma R469, 14_ladle_dma R472, 14_ladle_dma R473, 14_ladle_dma
R474, 14_ladle_dma R475, 14_ladle_dma R477, 14_ladle_dma R485, 14_ladle_dma R486) -/
def Obligations.LadleEngine : Prop :=
  let calm := fun (s : State) => ∀ m, m < 16 → (s.ldlCh m).link = false ∧ (s.ldlState m ≠ 2 ∨ s.rb (Reg.ldlChStat m) 3 = false)
  let grants := fun (s : State) (n : Nat) => s.ldlRuns = true ∧ n < 16 ∧ calm s ∧ s.ldlGrant = some n
  let chRegs := fun (n : Nat) => [Reg.ldlChCur n, Reg.ldlChCurSrc n, Reg.ldlChCurDst n, Reg.ldlChRemain n, Reg.ldlChPcksum n]
  let others := fun (s t : State) (n : Nat) => ∀ m, m ≠ n → t.ldlCh m = s.ldlCh m
  let plain := fun (s : State) (n : Nat) => let lf := (s.ldlCh n).words.getD 2 0
    bitOf lf 26 = false ∧ bitOf lf 27 = false ∧ bitOf lf 29 = false ∧ bitOf lf 28 = false
  let inData := fun (a n : Nat) => 0x20000000 ≤ a ∧ a + n ≤ 0x20040000
  let moved := fun (s t : State) (n b : Nat) =>
    let src := (s.reg (Reg.ldlChCurSrc n)).toNat
    let dst := (s.reg (Reg.ldlChCurDst n)).toNat
    let lf := (s.ldlCh n).words.getD 2 0
    t.bytes dst b = s.bytes src b ∧ memKept s t dst (dst + b) ∧ (t.reg (Reg.ldlChCurSrc n)).toNat = src + b ∧
    (t.reg (Reg.ldlChCurDst n)).toNat = dst + b ∧ t.rf (Reg.ldlChRemain n) 0 24 = s.rf (Reg.ldlChRemain n) 0 24 - b ∧
    t.reg (Reg.ldlChPcksum n) = ckFinal (ldlKind lf)
      (ckRun (ldlKind lf) (fld lf 0 24 - s.rf (Reg.ldlChRemain n) 0 24) (s.ldlCh n).ck (s.bytes src b)) ∧ others s t n
  (∀ (n a : Nat) (s : State), grants s n → (s.ldlCh n).fetch = some a →
    ∃ t, exec (.descriptorFetch n) s = .next t ∧ t.reg (Reg.ldlChCur n) = BitVec.ofNat 32 a ∧ t.reg (Reg.ldlChCurSrc n) = s.word a ∧
      t.reg (Reg.ldlChCurDst n) = s.word (a + 4) ∧ t.rf (Reg.ldlChRemain n) 0 24 = fld (s.word (a + 8)) 0 24 ∧
      t.ldl.last = s.ldl.last.set (s.rf (Reg.ldlChCtrl n) 4 2) n) ∧
  (∀ (n : Nat) (s : State), grants s n → (s.ldlCh n).fetch = none → (s.ldlCh n).moving = true → s.ldl.buf = [] →
    (plain s n ∨ s.rf (Reg.ldlChRemain n) 0 24 % 4 = 0 ∧ (s.reg (Reg.ldlChCurSrc n)).toNat % 4 = 0 ∧ (s.reg (Reg.ldlChCurDst n)).toNat % 4 = 0) →
    0x20000000 ≤ (s.reg (Reg.ldlChCurSrc n)).toNat →
    (s.reg (Reg.ldlChCurSrc n)).toNat + 64 ≤ 0x20040000 → 0x20000000 ≤ (s.reg (Reg.ldlChCurDst n)).toNat →
    (s.reg (Reg.ldlChCurDst n)).toNat + 64 ≤ 0x20040000 →
    ∃ t, exec .burst s = .next t ∧
      t.rf (Reg.ldlChRemain n) 0 24 = s.rf (Reg.ldlChRemain n) 0 24 - s.ldlBurstLen n ∧ t.ldl.last = s.ldl.last.set (s.rf (Reg.ldlChCtrl n) 4 2) n ∧
      t.reg Reg.ldlErraddr = s.reg Reg.ldlErraddr ∧ t.rb Reg.ldlStat 1 = false) ∧
  (∀ (n : Nat) (addr : Word) (list : List Nat) (s : State), s.ldlRuns = true → calm s →
    let a := addr.toNat
    let writes := s.ldlWrongWrite n a = true
    let fetches := list.filter (fun c => s.ldlReady c && (s.ldlCh c).fetch.isSome)
    let lost := s.ldl.buf.map Prod.fst ++ if writes then fetches else n :: fetches.filter (· ≠ n)
    writes ∨ s.ldlGrant = some n →
    ∃ t, exec (.ladleBuserr n addr list) s = .next t ∧
      t = { s with regs := t.regs, cen := cenNoted s t, log := (s.fault 0x0C02 a).log,
                   ldl := { s.ldl with last := if writes then s.ldl.last else s.ldl.last.set (s.rf (Reg.ldlChCtrl n) 4 2) n,
                                       buf := [], replay := (List.range 16).flatMap (fun c => lost.filter (· = c)) } } ∧
      (placeOf a = .unmapped → t.rb Reg.sysStatus 2 = true ∧ t.reg Reg.sysHitaddr = addr) ∧
      (placeOf a ∈ [.rom, .trace, .acq] → s.absentAt a = false → t.rb Reg.sysStatus 3 = true ∧ t.reg Reg.sysHitaddr = addr) ∧
      (placeOf a = .knab → s.absentAt a = false → s.knabRecalling = false → s.knabWritable a = false → t.rb Reg.knbStat 5 = true) ∧
      (s.ldlBad true a = false →
        t.reg Reg.sysStatus = s.reg Reg.sysStatus ∧ t.reg Reg.sysHitaddr = s.reg Reg.sysHitaddr ∧ t.reg Reg.knbStat = s.reg Reg.knbStat) ∧
      t.rf Reg.ldlStat 0 2 = 3 ∧ t.reg Reg.ldlErraddr = addr ∧
      (t.reg Reg.ldlBuserrcnt).toNat = min 0xFFFFFFFF ((s.reg Reg.ldlBuserrcnt).toNat + 1) ∧ t.ldlRuns = false ∧
      regsKept s t [Reg.ldlStat, Reg.ldlErraddr, Reg.ldlBuserrcnt, Reg.sysStatus, Reg.sysHitaddr, Reg.knbStat] ∧ eventsFired s t [31]) ∧
  (∀ (failed : List Nat) (s : State), s.pwr.rtIn = true → s.awake = true → s.rb Reg.ldlStat 1 = true →
    ∃ t, exec (.replay failed) s = .next t ∧ t.rb Reg.ldlStat 1 = false ∧ t.ldl.replay = [] ∧ t.now = s.now ∧ t.tb = s.tb) ∧
  (∀ (n a : Nat) (s : State), grants s n → (s.ldlCh n).fetch = some a →
    let lf := s.word (a + 8)
    let cause := s.ldlCheck (s.word a).toNat (s.word (a + 4)).toNat lf
    (fld lf 0 24 ≠ 0 → cause = 0 →
      ∃ t, exec (.descriptorFetch n) s = .next t ∧ t = { s with regs := t.regs, ldl := { s.ldl with chans := t.ldl.chans, last := t.ldl.last }, cen := cenNoted s t } ∧
        (t.reg (Reg.ldlChCur n)).toNat = a % 2 ^ 32 ∧ t.reg (Reg.ldlChCurSrc n) = s.word a ∧ t.reg (Reg.ldlChCurDst n) = s.word (a + 4) ∧
        (t.reg (Reg.ldlChRemain n)).toNat = fld lf 0 24 ∧ t.reg (Reg.ldlChPcksum n) = ckFinal (ldlKind lf) (ckInit (ldlKind lf)) ∧
        (t.ldlCh n).moving = true ∧ (t.ldlCh n).fetch = none ∧ others s t n ∧ regsKept s t (chRegs n) ∧ eventsFired s t []) ∧
    (fld lf 0 24 ≠ 0 → cause ≠ 0 → s.ringOn 25 = false → a < 2 ^ 32 → s.word (a + 0xC) = 1 → s.rb (Reg.ldlChCtrl n) 6 = false →
      s.rb (Reg.ldlChStat n) 3 = false →
      ∃ t, exec (.descriptorFetch n) s = .next t ∧ t.ldlState n = 2 ∧ t.rb (Reg.ldlChStat n) 6 = true ∧ t.rf (Reg.ldlChStat n) 8 4 = cause ∧
        t.word (a + 0x14) = BitVec.ofNat 32 (2 + cause * 16 + n * 256) ∧ memKept s t (a + 0x10) (a + 0x18) ∧
        t.log = (s.fault 0x0C01 (n * 256 + cause)).log ∧ t.reg (Reg.ldlChDesccnt n) = s.reg (Reg.ldlChDesccnt n) + 1 ∧ others s t n ∧
        regsKept s t (chRegs n ++ [Reg.ldlChStat n, Reg.ldlChDesccnt n, Reg.ldlSlagcnt] ++ ringRegs 25) ∧ eventsFired s t [31])) ∧
  (∀ (n : Nat) (s : State), s.ldlRuns = false → changesNothing (.descriptorFetch n) s ∧ ∀ step, changesNothing (.burst step) s) ∧
  (∀ (n : Nat) (s : State), grants s n → (s.ldlCh n).fetch = none → (s.ldlCh n).moving = true → plain s n → s.ldl.buf.length < 4 →
    let src := (s.ldlNextRead n).1
    let b := s.ldlBurstLen n
    inData src b →
    ∃ t, exec (.burst .read) s = .next t ∧
      t = { s with regs := t.regs, cen := cenNoted s t,
                   ldl := { s.ldl with last := s.ldl.last.set (s.rf (Reg.ldlChCtrl n) 4 2) n, buf := s.ldl.buf ++ [(n, s.bytes src b)] } } ∧
      regsKept s t [] ∧ eventsFired s t []) ∧
  (∀ (n : Nat) (d : List Byte) (rest : List (Nat × List Byte)) (s : State), s.ldlRuns = true → calm s → n < 16 → s.ldl.buf = (n, d) :: rest →
    s.ldlState n = 1 → plain s n → 0 < d.length → d.length ≤ 64 → d.length < s.rf (Reg.ldlChRemain n) 0 24 →
    let dst := (s.reg (Reg.ldlChCurDst n)).toNat
    inData dst d.length →
    ∃ t, exec (.burst .write) s = .next t ∧
      t = { s with regs := t.regs, mem := t.mem, ldl := { s.ldl with chans := t.ldl.chans, buf := rest }, cen := cenNoted s t } ∧
      t.bytes dst d.length = d ∧ memKept s t dst (dst + d.length) ∧ (t.reg (Reg.ldlChCurDst n)).toNat = dst + d.length ∧
      t.rf (Reg.ldlChRemain n) 0 24 = s.rf (Reg.ldlChRemain n) 0 24 - d.length ∧ others s t n ∧ regsKept s t (chRegs n) ∧ eventsFired s t []) ∧
  (∀ (n : Nat) (s : State), grants s n → (s.ldlCh n).fetch = none → (s.ldlCh n).moving = true → plain s n → s.ldl.buf = [] →
    let src := (s.reg (Reg.ldlChCurSrc n)).toNat
    let dst := (s.reg (Reg.ldlChCurDst n)).toNat
    let b := min (min (s.rf (Reg.ldlChRemain n) 0 24) 64) (min (64 - src % 64) (64 - dst % 64))
    inData src b → inData dst b → 0 < b →
    (b < s.rf (Reg.ldlChRemain n) 0 24 →
      ∃ t, exec .burst s = .next t ∧ moved s t n b ∧
        t = { s with regs := t.regs, mem := t.mem, ldl := { s.ldl with chans := t.ldl.chans, last := t.ldl.last }, cen := cenNoted s t } ∧
        (t.ldlCh n).moving = true ∧ regsKept s t (chRegs n) ∧ eventsFired s t []) ∧
    (b = s.rf (Reg.ldlChRemain n) 0 24 →
      let c := (s.reg (Reg.ldlChCur n)).toNat
      c + 0x20 ≤ dst ∨ dst + b ≤ c → s.word (c + 0xC) = 1 → s.rb (Reg.ldlChCtrl n) 6 = false → s.rb (Reg.ldlChStat n) 3 = false →
      ∃ t, exec .burst s = .next t ∧ t.bytes dst b = s.bytes src b ∧ t.word (c + 0x10) = t.reg (Reg.ldlChPcksum n) ∧
        t.word (c + 0x14) = BitVec.ofNat 32 (1 + n * 256) ∧ t.reg (Reg.ldlChDone n) = s.reg (Reg.ldlChCur n) ∧ t.ldlState n = 2 ∧
        t.reg (Reg.ldlChDesccnt n) = s.reg (Reg.ldlChDesccnt n) + 1 ∧ t.rf (Reg.ldlChRemain n) 0 24 = 0 ∧ (t.ldlCh n).moving = false ∧
        (∀ x, ¬(dst ≤ x ∧ x < dst + b) → ¬(c + 0x10 ≤ x ∧ x < c + 0x18) → t.byte x = s.byte x) ∧ others s t n ∧
        regsKept s t (chRegs n ++ [Reg.ldlChStat n, Reg.ldlChDone n, Reg.ldlChDesccnt n]) ∧ eventsFired s t [])) ∧
  (∀ (n : Nat) (addr : Word) (l : List Nat) (s : State), s.ldlRuns = false → changesNothing (.ladleBuserr n addr l) s) ∧
  (∀ (n : Nat) (s : State), s.pwr.rtIn = true → s.awake = true → s.rb Reg.ldlStat 1 = true → s.ldl.replay = [n] → n < 16 →
    calm s → s.rb (Reg.ldlChCtrl n) 1 = false → s.ldl.buf = [] → s.knb.commit = none →
    (∀ a, (s.ldlCh n).fetch = some a →
      ∃ t, exec (.replay [n]) s = .next t ∧
        t = { s with regs := t.regs, cen := cenNoted s t, log := (s.fault 0x0C05 n).log,
                     ldl := { s.ldl with chans := t.ldl.chans, replay := [] } } ∧
        t.rb Reg.ldlStat 1 = false ∧ t.ldlState n = 0 ∧ t.rb (Reg.ldlChStat n) 5 = true ∧ (t.ldlCh n).fetch = none ∧ others s t n ∧
        regsKept s t [Reg.ldlStat, Reg.ldlChStat n] ∧ eventsFired s t [31]) ∧
    ((s.ldlCh n).fetch = none → (s.ldlCh n).moving = true → plain s n →
      let src := (s.reg (Reg.ldlChCurSrc n)).toNat
      let dst := (s.reg (Reg.ldlChCurDst n)).toNat
      let b := min (min (s.rf (Reg.ldlChRemain n) 0 24) 64) (min (64 - src % 64) (64 - dst % 64))
      inData src b → inData dst b → 0 < b → b < s.rf (Reg.ldlChRemain n) 0 24 →
      ∃ t, exec (.replay []) s = .next t ∧ moved s t n b ∧ t.rb Reg.ldlStat 1 = false ∧
        (t.reg Reg.ldlTranscnt).toNat = min 0xFFFFFFFF ((s.reg Reg.ldlTranscnt).toNat + 1) ∧
        t.log = (s.fault 0x0C03 (s.reg Reg.ldlErraddr).toNat).log ∧ t.ldl.replay = [] ∧
        regsKept s t (chRegs n ++ [Reg.ldlStat, Reg.ldlTranscnt]) ∧ eventsFired s t [])) ∧
  (∀ (l : List Nat) (s : State), s.rb Reg.ldlStat 1 = false → changesNothing (.replay l) s)

/-- JOPEN ends every buffer; a JMAP write with VALID loads the buffer with its page. A commit that an order of R501 refuses shows
its cause and changes nothing else; one accepted is BUSY, and when done each of its pages holds its new contents, the journal
is resolved, KNB_JSEQ has moved on and event 27 fires. After a power-on a good journal is copied, a bad one is dropped with
JBAD. An increment adds to the 64-bit counter, saturating, and touches its upper words only with a carry; where the supply
falls after some of its word writes, and none carries, each of them has added one; a read of CNTVAL_LO latches the high word.
Without its supplies the store starts no write. (15_knab_store R498, 15_knab_store R500, 15_knab_store R501, 15_knab_store
R502, 15_knab_store R505, 15_knab_store R508, 15_knab_store R509, 15_knab_store R510, 15_knab_store R512) -/
def Obligations.KnabJournal : Prop :=
  (∀ (who : Init) (s : State), mayWrite who 13 s → s.rb Reg.knbJstat 0 = false →
    ∃ t, exec (.knbJopen who) s = .next t ∧ t = { s with regs := t.regs, cen := cenNoted s t } ∧ t.knabValid = [] ∧ t.rf Reg.knbJstat 16 7 = 0 ∧
      (∀ j, j < 64 → t.reg (Reg.knbJmap j) = s.reg (Reg.knbJmap j) &&& 0xFFFF7FFF) ∧
      regsKept s t (Reg.knbJstat :: (List.range 64).map Reg.knbJmap) ∧ eventsFired s t []) ∧
  (∀ (who : Init) (j : Nat) (v : Word) (s : State), s.rb Reg.knbJstat 0 = true →
    mayWrite who 13 s → changesNothing (.knbJopen who) s ∧ changesNothing (.knbJmapWrite who j v) s) ∧
  (∀ (who : Init) (j : Nat) (v : Word) (s : State), mayWrite who 13 s → j < 64 → s.rb Reg.knbJstat 0 = false →
    ∃ t, exec (.knbJmapWrite who j v) s = .next t ∧ t = { s with regs := t.regs, cen := cenNoted s t } ∧ t.reg (Reg.knbJmap j) = v &&& 0x83FF ∧
      (bitOf v 15 = true → ∀ i, i < 16 → t.reg (Reg.knbBuf j i) =
        (if fld v 0 10 < s.knabPages then s.knabWord (knabPage (fld v 0 10) + 4 * i) else 0)) ∧
      t.rf Reg.knbJstat 16 7 = t.knabValid.length ∧
      regsKept s t ([Reg.knbJmap j, Reg.knbJstat] ++ if bitOf v 15 then (List.range 16).map (Reg.knbBuf j) else []) ∧ eventsFired s t []) ∧
  (∀ (who : Init) (s : State), mayWrite who 13 s → s.pwr.good = true →
    let pages := s.knabValid.map Prod.snd
    let e := if pages = [] then 1 else if ¬pages.Nodup then 2 else if ∃ p ∈ pages, s.knabPages ≤ p then 3
      else if s.rb Reg.knbJstat 0 = true then 4 else if ∃ p ∈ pages, knabReserved p = true then 5 else 0
    (e ≠ 0 →
      ∃ t, exec (.knbCommit who) s = .next t ∧ t = { s with regs := t.regs, cen := cenNoted s t } ∧ t.rf Reg.knbJstat 8 4 = e ∧
        t.reg Reg.knbJstat &&& 0xFFFFF0FF = s.reg Reg.knbJstat &&& 0xFFFFF0FF ∧ regsKept s t [Reg.knbJstat] ∧ eventsFired s t []) ∧
    (e = 0 →
      ∃ t c, exec (.knbCommit who) s = .next t ∧ t = { s with regs := t.regs, knb := { s.knb with commit := some c }, cen := cenNoted s t } ∧
        c.kind = .runtime ∧
        c.pages.map Prod.fst = pages ∧ (∀ q ∈ s.knabValid, ∃ l, (q.2, l) ∈ c.pages ∧ l.length = 64 ∧
          ∀ i, i < 16 → ofLe (slice l (4 * i) 4) = (s.reg (Reg.knbBuf q.1 i)).toNat) ∧
        t.rb Reg.knbJstat 0 = true ∧ regsKept s t [Reg.knbJstat] ∧ eventsFired s t [])) ∧
  (∀ (who : Init) (v : Word) (s : State), mayWrite who 13 s → s.pwr.good = false →
    changesNothing (.knbCommit who) s ∧ changesNothing (.counterIncrement who v none) s) ∧
  (∀ (c : KnbCommit) (s : State), s.knb.commit = some c → s.knb.stalled = [] → s.knb.stalledInc = [] → s.knb.after = [] → c.kind = .runtime →
    c.pages.length ≤ 64 → (c.pages.map Prod.fst).Nodup → (∀ q ∈ c.pages, q.2.length = 64 ∧ q.1 ≠ 0 ∧ q.1 < 1024 ∧ knabReserved q.1 = false) →
    ∃ t, exec .knabDone s = .next t ∧
      t = { s with regs := t.regs, mem := t.mem, nv := t.nv, knb := { s.knb with commit := none }, cen := cenNoted s t } ∧
      (∀ q ∈ c.pages, t.knabBytes (knabPage q.1) 64 = q.2) ∧ t.knabWord (knabPage 60) = 0 ∧
      storeKept s t (fun a => inJournal a || c.pages.any (fun q => inPages q.1 (q.1 + 1) a)) ∧
      t.nv = (if ∃ q ∈ c.pages, q.1 ≤ 4 ∨ 256 ≤ q.1 then t.nvRead else s.nv) ∧
      (t.reg Reg.knbJseq).toNat = knabNextSeq (s.reg Reg.knbJseq).toNat ∧ t.rb Reg.knbJstat 0 = false ∧
      regsKept s t [Reg.knbJseq, Reg.knbJstat] ∧ eventsFired s t [27]) ∧
  (∀ s : State, s.knb.commit = none → s.knb.after = [] → changesNothing .knabDone s) ∧
  (∀ (s : State), s.resetFree = true → s.shakeStep = 2 → s.rf Reg.pwrRstcause 0 3 = 1 → s.knb.commit = none → s.knabWord (knabPage 60) ≠ 0 →
    (∀ c, c < 32 → s.knabWord (knabCtr c + 4) = s.knabWord (knabCtr c + 8)) → s.knabHeaderGood = true → s.knabMapLoad.knb = s.knb →
    s.knabModeCopy = (if s.rb Reg.knbStat 1 then 1 else 0) → s.pwr.straps.twinPos % 4 ≠ 3 →
    let seq := s.knabWord (knabPage 60 + 4)
    let count := (s.knabWord (knabPage 60 + 8)).toNat
    let list := s.knabBytes (knabPage 61) 128
    let page := fun (j : Nat) => ofLe (slice list (2 * j) 2)
    let data := fun (j : Nat) => s.knabBytes (knabPage (64 + j)) 64
    let good := s.knabWord (knabPage 60) = seq ∧ count ≤ 64 ∧
      (s.knabWord (knabPage 60 + 12)).toNat = crc32 (leBytes 4 count ++ list ++ (List.range count).flatMap data)
    (good → (∀ j, j < count → 16 ≤ page j ∧ page j < 20) → ((List.range count).map page).Nodup →
      ∃ t, exec (.knabRecall []) s = .next t ∧ (∀ j, j < count → t.knabBytes (knabPage (page j)) 64 = data j) ∧ t.knabWord (knabPage 60) = 0 ∧
        t.rb Reg.knbStat 4 = s.rb Reg.knbStat 4 ∧ t.log = s.log ∧ (t.reg Reg.knbJseq).toNat = knabNextSeq seq.toNat) ∧
    (¬good →
      ∃ t, exec (.knabRecall []) s = .next t ∧ t.knabWord (knabPage 60) = 0 ∧
        storeKept s t (fun a => knabPage 60 ≤ a && a < knabPage 60 + 4) ∧
        t.rb Reg.knbStat 4 = true ∧ t.log = (s.fault 0x0B02 (seq.toNat % 65536)).log ∧
        (t.reg Reg.knbJseq).toNat = knabNextSeq seq.toNat ∧ eventsFired s t [29])) ∧
  (∀ (who : Init) (v : Word) (s : State), mayWrite who 13 s → s.pwr.good = true → s.knb.commit = none → s.knb.stalledInc = [] →
    let c := fld v 0 5
    let k := max 1 (fld v 16 16)
    (∃ t, exec (.counterIncrement who v none) s = .next t ∧ t = { s with regs := t.regs, mem := t.mem, cen := cenNoted s t } ∧
      t.knabCtrVal c = min (2 ^ 64 - 1) (s.knabCtrVal c + k) ∧
      (t.knabCtrVal c / 2 ^ 32 = s.knabCtrVal c / 2 ^ 32 → storeKept s t (fun a => knabCtr c ≤ a && a < knabCtr c + 4)) ∧
      (t.knabCtrVal c / 2 ^ 32 ≠ s.knabCtrVal c / 2 ^ 32 → storeKept s t (fun a => knabCtr c ≤ a && a < knabCtr c + 12) ∧
        t.knabWord (knabCtr c + 4) = t.knabWord (knabCtr c + 8)) ∧ regsKept s t [] ∧ eventsFired s t []) ∧
    (∀ w : Nat, s.ldl.buf = [] → s.knabCtrVal c % 2 ^ 32 + k < 2 ^ 32 →
      ∃ t, exec (.counterIncrement who v (some w)) s = .next t ∧ t.knabCtrVal c = s.knabCtrVal c + min w k ∧ t.pwr.good = false ∧
        t.rf Reg.pwrRstcause 0 3 = 1)) ∧
  (∀ (who : Init) (s : State),
    let c := s.rf Reg.knbCntsel 0 5
    ∃ t, exec (.counterValueRead who) s = .next t ∧ t = { s with regs := t.regs, lastRead := s.knabWord (knabCtr c), cen := cenNoted s t } ∧
      t.reg Reg.knbCntvalHi = s.knabWord (knabCtr c + 8) ∧ regsKept s t [Reg.knbCntvalLo, Reg.knbCntvalHi] ∧ eventsFired s t [])

/-- SLICENOW asks for a slice. A slice due or asked for is read once: the weak pages of that slice are to be refreshed, NEXT
moves on modulo 16, and the next slice is due at the next multiple of the period. A weak page is rewritten by one transaction
with its own contents; when that is done it is counted and reported on ring 19 with event 28, and one still weak begins the
transaction that writes its contents to the first free spare and the map to the header, or where no spare is left sets
NOSPARE with event 29 and its fault. When that transaction is done the map is in force, and PAGE_RETIRED is logged.
(15_knab_store R495, 15_knab_store R516, 15_knab_store R517, 15_knab_store R518) -/
def Obligations.MarginScanAndRetirement : Prop :=
  let free19 := fun (s : State) => s.held.any (fun h => h.ring == 19) = false
  let kept := fun (s t : State) (touched : Nat → Bool) =>
    (∀ a, s.inRing 19 a = false → a < knabPage 0 ∨ knabPage 1040 ≤ a → t.byte a = s.byte a) ∧
    (∀ a, knabPage 0 ≤ a → a < knabPage 1024 → touched a = false → t.knabByte a = s.knabByte a)
  let array := fun (s : State) => { s with knb := { s.knb with commit := none } }
  let freeSpare := fun (s : State) => (List.range 16).find? (fun i => (s.knb.spares.getD i none).isNone)
  let doneRegs := [Reg.knbJseq, Reg.knbJstat, Reg.knbScan] ++ ringRegs 19
  let moved := fun (s t : State) => (t.reg Reg.knbJseq).toNat = knabNextSeq (s.reg Reg.knbJseq).toNat
  let ready := fun (s : State) => s.knb.stalled = [] ∧ s.knb.stalledInc = [] ∧ s.knb.after = [] ∧ s.ringFits 19 8 ∧ s.ringBelow 19 (knabPage 0) ∧
    (s.rf (Reg.rngCfg 19) 6 2 ≠ 2 ∨ s.ringOn 19 = false)
  (∀ (who : Init) (s : State), mayWrite who 13 s →
    ∃ t, exec (.sliceNow who) s = .next t ∧ t = { s with regs := t.regs, knb := { s.knb with sliceNow := true }, cen := cenNoted s t } ∧ regsKept s t [] ∧
      eventsFired s t []) ∧
  (∀ (weak : List Nat) (s : State), s.awake = true → s.knabRecalling = false → s.knb.weak = [] → free19 s → s.knabRefreshing = false →
    s.knb.sliceNow = true ∨ s.knb.nextSlice ≤ s.tb.count →
    ∃ t, exec (.scanSlice weak) s = .next t ∧
      t = { s with regs := t.regs, knb := { s.knb with weak := t.knb.weak, sliceNow := false, nextSlice := t.knb.nextSlice }, cen := cenNoted s t } ∧
      t.knb.nextSlice = (if s.knb.nextSlice ≤ s.tb.count then (s.tb.count / 21600000 + 1) * 21600000 else s.knb.nextSlice) ∧
      (∀ p, p ∈ t.knb.weak ↔ p ∈ weak ∧ p / 64 = s.rf Reg.knbScan 0 4 ∧ p < s.knabPages) ∧
      t.rf Reg.knbScan 0 4 = (s.rf Reg.knbScan 0 4 + 1) % 16 ∧ (t.rb Reg.knbScan 4 = true ↔ t.knb.weak ≠ []) ∧
      regsKept s t [Reg.knbScan] ∧ eventsFired s t []) ∧
  (∀ (weak : List Nat) (s : State), s.knb.weak ≠ [] ∨ s.knabRefreshing = true ∨ (s.knb.sliceNow = false ∧ s.tb.count < s.knb.nextSlice) →
    changesNothing (.scanSlice weak) s) ∧
  (∀ (page : Nat) (still : Bool) (s : State), page ∈ s.knb.weak → s.knb.commit = none → s.knabRecalling = false → s.awake = true → free19 s →
    ∃ t, exec (.pageRefresh page still) s = .next t ∧
      t = { s with regs := t.regs, cen := cenNoted s t,
                   knb := { s.knb with weak := s.knb.weak.erase page,
                                       commit := some { pages := [(page, s.knabBytes (knabPage page) 64)], kind := .refresh page still } } } ∧
      t.rb Reg.knbJstat 0 = true ∧ t.reg Reg.knbJstat &&& 0xFFFFFFFE = s.reg Reg.knbJstat &&& 0xFFFFFFFE ∧ regsKept s t [Reg.knbJstat] ∧
      eventsFired s t []) ∧
  (∀ (page : Nat) (still : Bool) (s : State), page ∉ s.knb.weak ∨ s.knb.commit.isSome = true → changesNothing (.pageRefresh page still) s) ∧
  (∀ (page : Nat) (l : List Byte) (still : Bool) (s : State), ready s → page < 1024 → l.length = 64 →
    s.knb.commit = some { pages := [(page, l)], kind := .refresh page still } →
    ∃ t, exec .knabDone s = .next t ∧ moved s t ∧
      (page ≠ 0 ∨ t.knb.spares = s.knb.spares → (array t).knabBytes (knabPage page) 64 = l) ∧
      (t.reg Reg.knbWeakcnt).toNat = min 0xFFFFFFFF ((s.reg Reg.knbWeakcnt).toNat + 1) ∧
      (page ≠ 0 → t.knb.spares = s.knb.spares ∧ kept s (array t) (fun a => inJournal a || inPages page (page + 1) a)) ∧
      (still = false →
        t = { s with regs := t.regs, mem := t.mem, nv := t.nv, knb := { s.knb with commit := none, spares := t.knb.spares }, cen := cenNoted s t } ∧
        t.rb Reg.knbJstat 0 = false ∧ (t.rb Reg.knbScan 4 = true ↔ s.knb.weak ≠ []) ∧
        regsKept s t (Reg.knbWeakcnt :: doneRegs) ∧ eventsFired s t [28]) ∧
      (∀ i, still = true → freeSpare t = some i →
        (let header := (array t).pageWith 0 (knabHeaderImage t.knabModeCopy (t.knb.spares.set i (some page)))
         t = { s with regs := t.regs, mem := t.mem, nv := t.nv, cen := cenNoted s t,
                      knb := { s.knb with spares := t.knb.spares,
                                          commit := some { pages := [(1024 + i, if page = 0 then header else l), (0, header)], kind := .retire page i } } }) ∧
        t.rb Reg.knbJstat 0 = true ∧ regsKept s t (Reg.knbWeakcnt :: doneRegs) ∧ eventsFired s t [28]) ∧
      (still = true → freeSpare t = none →
        t = { s with regs := t.regs, mem := t.mem, nv := t.nv, log := (s.fault 0x0B01 page).log, cen := cenNoted s t,
                     knb := { s.knb with commit := none, spares := t.knb.spares } } ∧
        t.rb Reg.knbStat 6 = true ∧ t.rb Reg.knbJstat 0 = false ∧ (t.rb Reg.knbScan 4 = true ↔ s.knb.weak ≠ []) ∧
        regsKept s t (Reg.knbWeakcnt :: Reg.knbStat :: doneRegs) ∧ eventsFired s t [28, 29])) ∧
  (∀ (page i mode : Nat) (l header : List Byte) (spares : List (Option Nat)) (s : State), ready s → page < 1024 → i < 16 → l.length = 64 →
    s.knb.spares.getD i none = none → (∀ j, j < 16 → (s.knb.spares.getD j none).getD 0 < 1024) →
    spares.length = 16 → (∀ j, j < 16 → (spares.getD j none).getD 0 < 1024) → spares.getD i none = some page →
    (∀ p, p < 1024 → p ≠ page → s.knabCell (knabPage p) = State.knabCell { s with knb := { s.knb with spares := spares } } (knabPage p)) →
    (∀ j, j < 16 → i < j → spares.getD j none ≠ some page) →
    header.length = 64 → mode < 256 → header.take 42 = knabHeaderImage mode spares → (page = 0 → l = header) →
    s.knb.commit = some { pages := [(1024 + i, l), (0, header)], kind := .retire page i } →
    ∃ t, exec .knabDone s = .next t ∧
      t = { s with regs := t.regs, mem := t.mem, log := (s.fault 0x0B06 page).log, knb := { s.knb with commit := none, spares := spares },
                   cen := cenNoted s t } ∧
      t.knabBytes (knabPage page) 64 = l ∧ t.knabBytes (knabPage 0) 64 = header ∧ moved s t ∧
      kept s t (fun a => inJournal a || inPages 0 1 a || inPages page (page + 1) a) ∧ t.rb Reg.knbJstat 0 = false ∧
      t.rb Reg.knbSpares (16 + i) = true ∧ (t.rb Reg.knbScan 4 = true ↔ s.knb.weak ≠ []) ∧
      regsKept s t (Reg.knbSpares :: doneRegs) ∧ eventsFired s t [28])

/-- For every count of seconds up to 2999-12-31 23:59:59 the fields that show it are valid, by every condition of the table of
R532, and stand for that count; and valid fields are those of the count they stand for. So the calendar has the leap years of
R526, and WDAY is the weekday of the date. (16_rtc R525, 16_rtc R526, 16_rtc R528, 16_rtc R532) -/
def Obligations.CalendarRoundTrip : Prop :=
  (∀ n, n ≤ rtcLastSec → fieldsValid (fieldsOf n) = true ∧ secOf (fieldsOf n) = n) ∧
  (∀ f : List Nat, f.length = 8 → fieldsValid f = true → secOf f ≤ rtcLastSec ∧ fieldsOf (secOf f) = f) ∧
  fieldsOf 0 = [0, 0, 0, 1, 6, 1, 0, 0x20] ∧ fieldsOf rtcLastSec = [0x59, 0x59, 0x23, 0x31, 2, 0x12, 0x99, 0x29]

/-- A running clock moves by ADJ + 1 seconds, wrapping after 2999 with WRAP and event 25 and stopping at 2000-01-01; matching
alarms set their flags and fire 22 and 23, the tick fires 24, an alarm or tick that PWR_WAKE enables ends chill and shows in
WHY, and at a multiple of 32 s the trim gives the length of the coming second. A capture holds all fields, RTC_EPOCH and the
prescaler in the snapshot of its side. Fields are written only while HALT is 1. HALT clears HALTTICKS and ADJ; its release
checks the fields. A nudge out of range or while halted sets WREF. (16_rtc R526, 16_rtc R527, 16_rtc R529, 16_rtc R530,
16_rtc R531, 16_rtc R532, 16_rtc R533, 16_rtc R535, 16_rtc R536, 16_rtc R537, 16_rtc R538, 16_rtc R549) -/
def Obligations.RtcTime : Prop :=
  let fieldRegs := (List.range 8).map (fun i => Reg.rtcSec + 4 * i)
  let adj := fun (s : State) => sfld (s.reg Reg.rtcAdj) 0 8
  let hit := fun (t : State) (a : Nat) =>
    let time := if a = 0 then t.reg Reg.rtcAlm0T else t.reg Reg.rtcAlm1T
    let date := if a = 0 then t.reg Reg.rtcAlm0D else t.reg Reg.rtcAlm1D
    bitOf time 31 && [(time, 7, 0, 7, 0), (time, 15, 8, 7, 1), (time, 23, 16, 6, 2), (date, 7, 0, 6, 3), (date, 11, 8, 3, 4), (date, 23, 16, 5, 5)].all
      (fun (w, mask, lo, width, field) => bitOf w mask || fld w lo width == t.rtcFields.getD field 0)
  let tick := fun (t : State) =>
    let k := t.rf Reg.rtcCtrl 1 2
    decide (k = 1 ∨ (k = 2 ∧ t.rtcFields.getD 0 0 = 0) ∨ (k = 3 ∧ t.rtcFields.getD 0 0 = 0 ∧ t.rtcFields.getD 1 0 = 0))
  let entry := fun (s t : State) (kind b1 : Nat) => s.ringTakes 23 8 = true →
    t.bytes (s.ringAddr 23 (s.ringHead 23)) 8 = entry8 kind b1 0 0 s.stamp ∧ t.ringHead 23 = (s.ringHead 23 + 1) % 65536
  (∀ s : State, s.rtcHalted = true ∨ s.rtc.xstopped = true ∨ (s.asleep = false ∧ s.rtc.cyc + 8192 ≤ 1000 * (s.rtc.secLen : Int)) →
    changesNothing .rtcSecond s) ∧
  (∀ s : State, s.rtcHalted = false → s.rtc.xstopped = false → s.resetFree = true → s.asleep = true →
    ∃ t, exec .rtcSecond s = .next t ∧
      (let why : List Bool := [s.rb Reg.pwrWake 0 && hit t 0, s.rb Reg.pwrWake 1 && hit t 1, s.rb Reg.pwrWake 2 && tick t]
       (true ∈ why → t.asleep = false ∧ ∀ k, k < 6 → t.rb Reg.pwrWake (8 + k) = why.getD k false) ∧ (true ∉ why → t.asleep = true))) ∧
  (∀ s : State, s.rtcHalted = false → s.rtc.xstopped = false → s.rtcAlive = true → s.ringFits 23 8 →
    (s.asleep = false ∧ 1000 * (s.rtc.secLen : Int) < s.rtc.cyc + 8192) ∨ (s.asleep = true ∧ s.rf Reg.pwrWake 0 3 = 0) →
    let cyc := if s.asleep = true then 0 else s.rtc.cyc - 1000 * (s.rtc.secLen : Int)
    let sec := (secOf s.rtcFields : Int) + (adj s + 1)
    (0 ≤ sec → sec ≤ (rtcLastSec : Int) →
      ∃ t, exec .rtcSecond s = .next t ∧
        t = { s with regs := t.regs, mem := t.mem, rtc := t.rtc, cen := cenNoted s t } ∧
        t.rtcFields = fieldsOf sec.toNat ∧ t.reg Reg.rtcAdj = (if adj s = 0 then s.reg Reg.rtcAdj else 0) ∧
        t.rb Reg.rtcStat 6 = (s.rb Reg.rtcStat 6 || hit t 0) ∧ t.rb Reg.rtcStat 7 = (s.rb Reg.rtcStat 7 || hit t 1) ∧
        t.reg Reg.rtcStat &&& 0xFFFFFF3F = s.reg Reg.rtcStat &&& 0xFFFFFF3F ∧
        eventsFired s t ((if hit t 0 then [22] else []) ++ (if hit t 1 then [23] else []) ++ if tick t then [24] else []) ∧
        memKeptOutsideRing s t 23 ∧
        (sec % 32 ≠ 0 → t.rtc = { s.rtc with epoch := sec.toNat, cyc := cyc, secLen := 32768 } ∧
          regsKept s t (fieldRegs ++ [Reg.rtcAdj, Reg.rtcStat] ++ ringRegs 23)) ∧
        (sec % 32 = 0 →
          let term := t.rtc.term
          let a := s.rtc.acc + (sfld (s.reg Reg.rtcTrim) 0 16 + term) * 1048576
          let k := Int.tdiv a 10000000
          term = (if s.rb Reg.rtcCtrl 3 = false then 0
            else if s.awake = true ∧ s.thm.hasReading = true then Int.fdiv (34 * (clampInt (-40) 125 (wholeDeg s.tj) - 25) ^ 2 + 50) 100
            else s.rtc.term) ∧
          (s.rb Reg.rtcCtrl 3 = false ∨ (s.awake = true ∧ s.thm.hasReading = true) → sfld (t.reg Reg.rtcTcomp) 0 16 = term) ∧
          t.rtc = { s.rtc with epoch := sec.toNat, cyc := cyc, term := term, acc := a - k * 10000000, secLen := (32768 - k).toNat, termSum := s.rtc.termSum + term, termN := s.rtc.termN + 1 } ∧
          regsKept s t (fieldRegs ++ [Reg.rtcAdj, Reg.rtcStat, Reg.rtcTcomp] ++ ringRegs 23)) ∧
        (adj s = 0 → hit t 0 = true → hit t 1 = false → entry s t 1 0) ∧
        (adj s = 0 → hit t 0 = false → hit t 1 = true → entry s t 2 0) ∧
        (adj s ≠ 0 → hit t 0 = false → hit t 1 = false → entry s t 4 (s.rf Reg.rtcAdj 0 8))) ∧
    ((rtcLastSec : Int) < sec →
      ∃ t, exec .rtcSecond s = .next t ∧ t.rtcFields = fieldsOf (sec - rtcLastSec - 1).toNat ∧ t.rtc.epoch = (sec - rtcLastSec - 1).toNat ∧
        t.rb Reg.rtcStat 2 = true ∧ t.coreLatch 25 = true ∧ t.hostLatch 25 = true ∧ memKeptOutsideRing s t 23) ∧
    (sec < 0 → ∃ t, exec .rtcSecond s = .next t ∧ t.rtcFields = fieldsOf 0 ∧ t.rtc.epoch = 0 ∧ t.reg Reg.rtcAdj = 0)) ∧
  (∀ (who : Init) (v : Word) (s : State), 0 < s.rtc.secLen →
    let captured := fun (t : State) => ∃ x, (if s.rtcHalted = true then x = s.rtc.haltSub else x < 32768 ∧ x < s.rtc.secLen) ∧
      (s.rtcHalted = false → s.asleep = false → ∃ p, p < 8192 ∧ x = s.subAt p) ∧
      t.rtc = (if who = .host then { s.rtc with snapHost := { fields := s.rtcFields, epoch := s.rtc.epoch % 2 ^ 32, sub := x } }
        else { s.rtc with snapCore := { fields := s.rtcFields, epoch := s.rtc.epoch % 2 ^ 32, sub := x } })
    (∃ t, exec (.rtcSecRead who) s = .next t ∧ t = { s with regs := t.regs, rtc := t.rtc, free := t.free, lastRead := s.reg Reg.rtcSec, cen := cenNoted s t } ∧
      captured t ∧ regsKept s t [] ∧ eventsFired s t []) ∧
    (mayWrite who 12 s → bitOf v 0 = true →
      ∃ t, exec (.rtcSnap who v) s = .next t ∧ t = { s with regs := t.regs, rtc := t.rtc, free := t.free, cen := cenNoted s t } ∧ captured t ∧ regsKept s t [] ∧
        eventsFired s t []) ∧
    (mayWrite who 12 s → bitOf v 0 = false → changesNothing (.rtcSnap who v) s)) ∧
  (∀ (who : Init) (i : Nat) (v : Word) (s : State), mayWrite who 12 s → i < 8 →
    let x := v.toNat &&& [0x7F, 0x7F, 0x3F, 0x3F, 7, 0x1F, 0xFF, 0xFF].getD i 0
    (s.rtcHalted = true →
      ∃ t, exec (.rtcFieldWrite who i v) s = .next t ∧ t = { s with regs := t.regs, rtc := t.rtc, cen := cenNoted s t } ∧ (t.reg (Reg.rtcSec + 4 * i)).toNat = x ∧
        t.rtc = { s.rtc with snapHost := { s.rtc.snapHost with fields := s.rtc.snapHost.fields.set i x }, snapCore := { s.rtc.snapCore with fields := s.rtc.snapCore.fields.set i x } } ∧
        regsKept s t [Reg.rtcSec + 4 * i] ∧ eventsFired s t []) ∧
    (s.rtcHalted = false →
      ∃ t, exec (.rtcFieldWrite who i v) s = .next t ∧ t = { s with regs := t.regs, cen := cenNoted s t } ∧ t.reg Reg.rtcStat = s.reg Reg.rtcStat ||| 0x100 ∧
        regsKept s t [Reg.rtcStat] ∧ eventsFired s t [])) ∧
  (∀ (who : Init) (s : State), mayWrite who 12 s → 0 < s.rtc.secLen →
    ∃ t x p, exec (.rtcHalt who) s = .next t ∧ (if s.rtcHalted = true then x = s.rtc.haltSub else x < 32768 ∧ x < s.rtc.secLen) ∧ p < 8192 ∧
      (s.rtcHalted = false → s.asleep = false → ∃ q, q < 8192 ∧ x = s.subAt q) ∧
      t = { s with regs := t.regs, free := t.free, rtc := { s.rtc with haltSub := x, haltCyc := -(p : Int), haltBat := false }, cen := cenNoted s t } ∧
      t.reg Reg.rtcCtrl = s.reg Reg.rtcCtrl ||| 1 ∧ t.reg Reg.rtcHaltticks = 0 ∧ t.reg Reg.rtcAdj = 0 ∧
      regsKept s t [Reg.rtcCtrl, Reg.rtcHaltticks, Reg.rtcAdj] ∧ eventsFired s t []) ∧
  (∀ (who : Init) (s : State), mayWrite who 12 s → s.rtcAlive = true → s.ringFits 23 8 →
    (s.rtcHalted = true → fieldsValid s.rtcFields = true →
      ∃ t p, exec (.rtcRelease who) s = .next t ∧ p < 8192 ∧
        t = { s with regs := t.regs, mem := t.mem, free := t.free, cen := cenNoted s t,
                     rtc := { s.rtc with epoch := secOf s.rtcFields, haltSub := 0, cyc := -(p : Int), secLen := 32768, haltBat := false } } ∧
        t.reg Reg.rtcCtrl = s.reg Reg.rtcCtrl &&& 0xFFFFFFFE ∧ t.reg Reg.rtcStat = s.reg Reg.rtcStat &&& 0xFFFFFFFC ∧ entry s t 3 0 ∧
        memKeptOutsideRing s t 23 ∧ regsKept s t ([Reg.rtcCtrl, Reg.rtcStat] ++ ringRegs 23) ∧ eventsFired s t []) ∧
    (s.rtcHalted = true → fieldsValid s.rtcFields = false →
      ∃ t, exec (.rtcRelease who) s = .next t ∧
        t = { s with regs := t.regs, mem := t.mem, log := (s.fault 0x0A04 0).log, cen := cenNoted s t } ∧
        t.reg Reg.rtcStat = s.reg Reg.rtcStat ||| 2 ∧ entry s t 7 0 ∧ memKeptOutsideRing s t 23 ∧
        regsKept s t (Reg.rtcStat :: ringRegs 23) ∧ eventsFired s t [25]) ∧
    (s.rtcHalted = false → changesNothing (.rtcRelease who) s)) ∧
  (∀ (who : Init) (v : Word) (s : State), mayWrite who 12 s →
    let a := sfld v 0 8
    (s.rtcHalted = false ∧ -59 ≤ a ∧ a ≤ 59 →
      ∃ t, exec (.rtcAdj who v) s = .next t ∧ t = { s with regs := t.regs, cen := cenNoted s t } ∧ t.reg Reg.rtcAdj = v &&& 0xFF ∧ regsKept s t [Reg.rtcAdj] ∧
        eventsFired s t []) ∧
    (¬(s.rtcHalted = false ∧ -59 ≤ a ∧ a ≤ 59) →
      ∃ t, exec (.rtcAdj who v) s = .next t ∧ t = { s with regs := t.regs, cen := cenNoted s t } ∧ t.reg Reg.rtcStat = s.reg Reg.rtcStat ||| 0x100 ∧
        regsKept s t [Reg.rtcStat] ∧ eventsFired s t []))

/-- A START while not BUSY begins a measurement of N periods or seconds, which ends with CNT, N, DONE and event 26. MAINSOK
follows the last 8 periods and a change fires event 60, a fall with its fault. At a DONE the runtime writes TRIM as the raw
error less the mean term, clamped, and starts again. A change to VBAT sets ONBAT; BATLOW and XSTOP set their bit and fire
event 25 with their fault; a loss of the domain leaves it at its Reset values with LOST. (16_rtc R539, 16_rtc R541, 16_rtc
R542, 16_rtc R543, 16_rtc R544, 16_rtc R545, 16_rtc R549, 16_rtc R550) -/
def Obligations.RtcSupervision : Prop :=
  let measuring := fun (s : State) (src : Nat) => decide (s.rb Reg.rtcMeasCfg 3 = true ∧ s.rf Reg.rtcMeasCfg 0 2 = src)
  (∀ (who : Init) (v : Word) (s : State), mayWrite who 12 s →
    let busy := s.rb Reg.rtcMeasCfg 3
    let start := bitOf v 2 && !busy && (fld v 0 2 == 1 || fld v 0 2 == 2)
    ∃ t, exec (.rtcMeasureStart who v) s = .next t ∧
      t = { s with regs := t.regs, rtc := if start then { s.rtc with measStarted := false, measCount := 0, measCycles := 0 } else s.rtc, cen := cenNoted s t } ∧
      t.rf Reg.rtcMeasCfg 0 2 = fld v 0 2 ∧ t.rb Reg.rtcMeasCfg 2 = false ∧ t.rb Reg.rtcMeasCfg 3 = (busy || start) ∧
      t.rb Reg.rtcMeasCfg 4 = (s.rb Reg.rtcMeasCfg 4 && !bitOf v 4) ∧ t.rf Reg.rtcMeasCfg 8 24 = fld v 8 24 ∧
      regsKept s t [Reg.rtcMeasCfg] ∧ eventsFired s t []) ∧
  (∀ (cycles : Nat) (s : State), s.awake = true → s.ringFits 23 8 →
    let periods := (cycles :: s.rtc.periods).take 8
    let ok := periods.length == 8 && periods.all (fun p => decide (469 ≤ p ∧ p ≤ 819))
    (ok = s.rb Reg.rtcStat 9 →
      (measuring s 1 = false →
        ∃ t, exec (.mainsrefCross cycles) s = .next t ∧ t = { s with regs := t.regs, rtc := { s.rtc with periods := periods }, cen := cenNoted s t } ∧
          regsKept s t [] ∧ eventsFired s t []) ∧
      (measuring s 1 = true → s.rtc.measStarted = false →
        ∃ t, exec (.mainsrefCross cycles) s = .next t ∧
          t = { s with regs := t.regs, rtc := { s.rtc with periods := periods, measStarted := true, measFirst := 0, measMark := 0, measCount := 0, measCycles := 0, termSum := 0, termN := 0 }, cen := cenNoted s t } ∧
          regsKept s t [] ∧ eventsFired s t []) ∧
      (measuring s 1 = true → s.rtc.measStarted = true → s.rtc.measCount + 1 ≠ max 1 (s.rf Reg.rtcMeasCfg 8 24) →
        ∃ t, exec (.mainsrefCross cycles) s = .next t ∧
          t = { s with regs := t.regs, rtc := { s.rtc with periods := periods, measCount := s.rtc.measCount + 1, measCycles := s.rtc.measCycles + cycles }, cen := cenNoted s t } ∧
          regsKept s t [] ∧ eventsFired s t []) ∧
      (measuring s 1 = true → s.rtc.measStarted = true → s.rtc.measCount + 1 = max 1 (s.rf Reg.rtcMeasCfg 8 24) →
        ∃ t, exec (.mainsrefCross cycles) s = .next t ∧
          t = { s with regs := t.regs, mem := t.mem, rtc := { s.rtc with periods := periods, measCount := s.rtc.measCount + 1, measCycles := s.rtc.measCycles + cycles, measDone := true, measStarted := false }, cen := cenNoted s t } ∧
          (t.reg Reg.rtcMeasCntLo).toNat + 2 ^ 32 * (t.reg Reg.rtcMeasCntHi).toNat = (s.rtc.measCycles + cycles) % 2 ^ 40 ∧
          (t.reg Reg.rtcMeasN).toNat = s.rtc.measCount + 1 ∧ t.rb Reg.rtcMeasCfg 3 = false ∧ t.rb Reg.rtcMeasCfg 4 = true ∧
          memKeptOutsideRing s t 23 ∧
          regsKept s t ([Reg.rtcMeasCntLo, Reg.rtcMeasCntHi, Reg.rtcMeasN, Reg.rtcMeasCfg] ++ ringRegs 23) ∧ eventsFired s t [26])) ∧
    (ok = true → s.rb Reg.rtcStat 9 = false → measuring s 1 = false →
      ∃ t, exec (.mainsrefCross cycles) s = .next t ∧
        t = { s with regs := t.regs, rtc := { s.rtc with periods := periods }, cen := cenNoted s t } ∧
        t.reg Reg.rtcStat = s.reg Reg.rtcStat ||| 0x200 ∧ regsKept s t [Reg.rtcStat] ∧ eventsFired s t [60]) ∧
    (ok = false → s.rb Reg.rtcStat 9 = true →
      ∃ t, exec (.mainsrefCross cycles) s = .next t ∧
        t = { s with regs := t.regs, rtc := { s.rtc with periods := periods, measStarted := if measuring s 1 then false else s.rtc.measStarted }, log := (s.fault 0x0A07 0).log, cen := cenNoted s t } ∧
        t.rb Reg.rtcStat 9 = false ∧ t.rb Reg.rtcMeasCfg 3 = (s.rb Reg.rtcMeasCfg 3 && !measuring s 1) ∧
        t.rb Reg.rtcMeasCfg 4 = s.rb Reg.rtcMeasCfg 4 ∧ regsKept s t [Reg.rtcStat, Reg.rtcMeasCfg] ∧ eventsFired s t [60])) ∧
  (∀ s : State, s.awake = true →
    (s.rb Reg.rtcStat 9 = true →
      ∃ t, exec .mainsLost s = .next t ∧
        t = { s with regs := t.regs, rtc := { s.rtc with periods := [], measStarted := if measuring s 1 then false else s.rtc.measStarted }, log := (s.fault 0x0A07 0).log, cen := cenNoted s t } ∧
        t.rb Reg.rtcStat 9 = false ∧ t.rb Reg.rtcMeasCfg 3 = (s.rb Reg.rtcMeasCfg 3 && !measuring s 1) ∧
        regsKept s t [Reg.rtcStat, Reg.rtcMeasCfg] ∧ eventsFired s t [60]) ∧
    (s.rb Reg.rtcStat 9 = false →
      ∃ t, exec .mainsLost s = .next t ∧ t = { s with regs := t.regs, rtc := { s.rtc with periods := [] }, cen := cenNoted s t } ∧ regsKept s t [] ∧
        eventsFired s t [])) ∧
  (∀ s : State, s.runtimeRuns = true → s.hostOwns 12 = false → s.rtc.measDone = true → s.odNum 3 0 0xB ≠ 0 →
    s.rb Reg.rtcMeasCfg 3 = false → s.odNat 3 0 0xC = 2 → 0 < s.rtc.termN →
    let n : Int := (s.reg Reg.rtcMeasN).toNat
    let hz : Int := if s.rf Reg.rtcMeasCfg 0 2 = 1 then s.odNat 3 0 0xD else 1
    let cnt : Int := (s.reg Reg.rtcMeasCntLo).toNat + 2 ^ 32 * (s.reg Reg.rtcMeasCntHi).toNat
    0 < n → 0 < hz →
    let mean : Rat := (s.rtc.termSum : Rat) / s.rtc.termN
    ∃ t, ∃ e m : Int, exec .trimUpdate s = .next t ∧
      e = ⌊((32768 * n / hz : Rat) - cnt) / (32768 * n / hz : Rat) * 10000000 + 1 / 2⌋ ∧ (m : Rat) - 1 < mean ∧ mean < m + 1 ∧
      t = { s with regs := t.regs, free := t.free, rtc := { s.rtc with measDone := false, lastError := e, measStarted := false, measCount := 0, measCycles := 0 }, cen := cenNoted s t } ∧
      sfld (t.reg Reg.rtcTrim) 0 16 = max (-20000) (min 20000 (e - m)) ∧ t.rf Reg.rtcMeasCfg 0 2 = 2 ∧ t.rb Reg.rtcMeasCfg 3 = true ∧
      t.rb Reg.rtcMeasCfg 4 = false ∧ t.rf Reg.rtcMeasCfg 8 24 = s.odNat 3 0 0xE % 2 ^ 24 ∧
      regsKept s t [Reg.rtcTrim, Reg.rtcMeasCfg] ∧ eventsFired s t []) ∧
  (∀ s : State, ¬(s.runtimeRuns = true ∧ s.hostOwns 12 = false ∧ s.rtc.measDone = true ∧ s.odNum 3 0 0xB ≠ 0) →
    changesNothing .trimUpdate s) ∧
  (∀ (toVbat : Bool) (s : State), s.rtcAlive = true → s.ringFits 23 8 →
    (s.rtc.onVbat = toVbat → changesNothing (.rtcSupplySwitch toVbat) s) ∧
    (s.rtc.onVbat ≠ toVbat →
      ∃ t, exec (.rtcSupplySwitch toVbat) s = .next t ∧
        t = { s with regs := t.regs, mem := t.mem, rtc := { s.rtc with onVbat := toVbat, haltBat := s.rtc.haltBat || (toVbat && s.rb Reg.rtcCtrl 0) }, cen := cenNoted s t } ∧
        t.reg Reg.rtcStat = (if toVbat then s.reg Reg.rtcStat ||| 8 else s.reg Reg.rtcStat) ∧
        (s.ringTakes 23 8 = true → t.bytes (s.ringAddr 23 (s.ringHead 23)) 8 = entry8 6 (if toVbat then 1 else 0) 0 0 s.stamp) ∧
        memKeptOutsideRing s t 23 ∧ regsKept s t (Reg.rtcStat :: ringRegs 23) ∧ eventsFired s t [])) ∧
  (∀ s : State, s.rtcAlive = true →
    (s.rtc.vbatLow = false →
      ∃ t, exec .rtcBatlow s = .next t ∧
        t = { s with regs := t.regs, log := (s.fault 0x0A03 0).log, rtc := { s.rtc with vbatLow := true }, cen := cenNoted s t } ∧
        t.reg Reg.rtcStat = s.reg Reg.rtcStat ||| 0x10 ∧ regsKept s t [Reg.rtcStat] ∧ eventsFired s t [25]) ∧
    (s.rtc.vbatLow = true → changesNothing .rtcBatlow s) ∧
    (∃ t, exec .rtcBatlowClear s = .next t ∧ t = { s with regs := t.regs, rtc := { s.rtc with vbatLow := false }, cen := cenNoted s t } ∧ t.reg Reg.rtcStat = s.reg Reg.rtcStat &&& 0xFFFFFFEF ∧
      regsKept s t [Reg.rtcStat] ∧ eventsFired s t [])) ∧
  (∀ s : State, s.rtcAlive = false → s.rtc.vbatLow = false →
    ∃ t, exec .rtcBatlow s = .next t ∧ t = { s with regs := t.regs, rtc := { s.rtc with vbatLow := true }, cen := cenNoted s t } ∧ regsKept s t [] ∧
      eventsFired s t []) ∧
  (∀ s : State,
    ∃ t, exec .rtcDomainLoss s = .next t ∧
      t = { s with regs := t.regs, rtc := { s.rtc with epoch := 0, acc := 0, secLen := 32768, cyc := 0, term := 0, haltSub := 0, haltCyc := 0, xstopped := false, haltBat := false }, cen := cenNoted s t } ∧
      t.rtcFields = [0, 0, 0, 1, 6, 1, 0, 0x20] ∧ t.reg Reg.rtcCtrl = 8 ∧ t.reg Reg.rtcHaltticks = 0 ∧ t.reg Reg.rtcTrim = 0 ∧
      t.reg Reg.rtcAlm0T = 0 ∧ t.reg Reg.rtcAlm0D = 0 ∧ t.reg Reg.rtcAlm1T = 0 ∧ t.reg Reg.rtcAlm1D = 0 ∧ t.rf Reg.rtcStat 0 4 = 1 ∧
      t.rf Reg.rtcStat 5 3 = 0 ∧
      t.reg Reg.rtcStat &&& 0xFFFFFF10 = s.reg Reg.rtcStat &&& 0xFFFFFF10 ∧
      regsKept s t ((List.range 8).map (fun i => Reg.rtcSec + 4 * i) ++ [Reg.rtcCtrl, Reg.rtcHaltticks, Reg.rtcTrim, Reg.rtcAlm0T, Reg.rtcAlm0D,
        Reg.rtcAlm1T, Reg.rtcAlm1D, Reg.rtcStat]) ∧ eventsFired s t []) ∧
  (∀ s : State, s.rtcAlive = true → s.ringFits 23 8 →
    (s.rtc.xstopped = false →
      ∃ t, exec .rtcXstop s = .next t ∧
        t = { s with regs := t.regs, mem := t.mem, rtc := { s.rtc with xstopped := true }, log := (s.fault 0x0A02 0).log, cen := cenNoted s t } ∧
        t.reg Reg.rtcStat = s.reg Reg.rtcStat ||| 0x20 ∧
        (s.ringTakes 23 8 = true → t.bytes (s.ringAddr 23 (s.ringHead 23)) 8 = entry8 8 0 0 0 s.stamp) ∧
        memKeptOutsideRing s t 23 ∧ regsKept s t (Reg.rtcStat :: ringRegs 23) ∧ eventsFired s t [25]) ∧
    (s.rtc.xstopped = true → changesNothing .rtcXstop s))

/-- A scan is due at a multiple of SCANDIV. Each key that keeps its level restarts its count, one that differs for too few scans
counts on. A press that completes counts in KPD_PRESSCNT and counter 16; unlocked it writes kind 1, in LOCKOUT kind 10, in
LOCKED it is compared: a match moves POS and at LEN unlocks, a mismatch counts an attempt and the fifth begins LOCKOUT. A
release writes kind 2. A key held STUCK seconds is masked. A dropped entry counts. (17_keypad_encoders R552,
17_keypad_encoders R554, 17_keypad_encoders R555, 17_keypad_encoders R556, 17_keypad_encoders R558, 17_keypad_encoders R559,
17_keypad_encoders R560, 17_keypad_encoders R561, 17_keypad_encoders R564, 17_keypad_encoders R566, 17_keypad_encoders R568,
17_keypad_encoders R580) -/
def Obligations.KeypadKeys : Prop :=
  let due := fun (s : State) => s.kpdScans = true ∧ s.tb.running = true ∧ s.tb.count % (s.rf Reg.kpdCfg 12 4 + 1) = 0 ∧ s.kpd.lastScan ≠ some s.now
  let rows := fun (s : State) => if s.variant = .wv7232 then min 8 (s.rf Reg.kpdCfg 0 4 + 1) else s.rf Reg.kpdCfg 0 4 + 1
  let cols := fun (s : State) => if s.variant = .wv7232 then min 8 (s.rf Reg.kpdCfg 4 4 + 1) else s.rf Reg.kpdCfg 4 4 + 1
  let inMatrix := fun (s : State) (k : Nat) => k / 16 < rows s ∧ k % 16 < cols s
  let need := fun (s : State) (press : Bool) =>
    if rows s * cols s ≤ 64 then max 1 (s.rf Reg.kpdDeb 0 4)
    else (4 * max 1 (s.rf Reg.kpdDeb (if press then 8 else 16) 8) + s.rf Reg.kpdCfg 12 4) / (s.rf Reg.kpdCfg 12 4 + 1)
  let settles := fun (s : State) (raw : List Nat) (k : Nat) =>
    raw.contains k = (s.key k).pressed ∨ (s.key k).count + 1 < need s (raw.contains k)
  let counted := fun (s t : State) (raw : List Nat) (k : Nat) =>
    t.key k = { s.key k with count := if raw.contains k = (s.key k).pressed then 0 else (s.key k).count + 1 }
  let others := fun (s t : State) (raw : List Nat) (k : Nat) =>
    (∀ j, inMatrix s j → j ≠ k → counted s t raw j) ∧ (∀ j, ¬inMatrix s j → t.key j = s.key j)
  let one := fun (s : State) (raw : List Nat) (k : Nat) => due s ∧ inMatrix s k ∧ raw.contains k ≠ (s.key k).pressed ∧
    need s (raw.contains k) ≤ (s.key k).count + 1 ∧ (∀ j < 256, inMatrix s j → j ≠ k → settles s raw j) ∧
    s.ringBelow 0 (knabPage 0)
  let phantom := fun (s : State) (k : Nat) => s.rb Reg.kpdCfg 8 && (List.range 16).any (fun r => (List.range 16).any (fun c =>
    r != k / 16 && c != k % 16 && (s.key (16 * (k / 16) + c)).pressed && (s.key (16 * r + k % 16)).pressed && (s.key (16 * r + c)).pressed))
  let free2 := fun (s : State) => s.ringOn 0 = true ∧ s.ringEsize 0 = 8 ∧ s.ringCount 0 + 2 ≤ 2 ^ s.ringDepth 0
  let room := fun (s : State) => s.ringOn 0 = true ∧ s.ringEsize 0 = 8 ∧ s.ringCount 0 < 2 ^ s.ringDepth 0
  let hitPins := fun (s : State) =>
    let l := (List.range 128).filter (fun p => s.rf (Reg.zonPinCfg p) 0 3 == 3)
    Reg.zonStat :: l.map Reg.zonPinCnt ++ l.map Reg.zonPinLast
  let wrote := fun (s t : State) (es : List (List Byte)) => t.ringHead 0 = (s.ringHead 0 + es.length) % 65536 ∧
    ∀ i, i < es.length → t.bytes (s.ringAddr 0 (s.ringHead 0 + i)) 8 = es.getD i []
  let memory := fun (s t : State) => (∀ a, s.inRing 0 a = false → a < knabPage 0 ∨ knabPage 1040 ≤ a → t.byte a = s.byte a) ∧
    (∀ a, knabPage 0 ≤ a → a < knabPage 1024 → ¬(knabCtr 16 ≤ a ∧ a < knabCtr 16 + 12) → t.knabByte a = s.knabByte a) ∧
    t.knb = (if s.runtimeRuns = true then s.knb else { s.knb with owed := recPut 0 s.knb.owed 16 (recGet 0 s.knb.owed 16 + 1) }) ∧
    t.knabCtrVal 16 = (if s.runtimeRuns = true then min (2 ^ 64 - 1) (s.knabCtrVal 16 + 1) else s.knabCtrVal 16)
  let pressed := fun (s t : State) => t.reg Reg.kpdPresscnt = s.reg Reg.kpdPresscnt + 1 ∧ memory s t
  let seen := fun (s t : State) => ∀ p, p < 128 → s.rf (Reg.zonPinCfg p) 0 3 = 3 → p ∈ t.zon.hits ∧ t.reg (Reg.zonPinLast p) = BitVec.ofNat 32 s.stamp
  let base := fun (s t : State) => { s with regs := t.regs, mem := t.mem, knb := t.knb, kpd := t.kpd, zon := { s.zon with hits := t.zon.hits }, log := t.log, cen := cenNoted s t }
  let kpd := fun (s t : State) (k : Nat) => { s.kpd with keys := t.kpd.keys, lastScan := some s.now, lastKey := some k, pressAt := s.now }
  (∀ (raw : List Nat) (s : State), ¬due s → changesNothing (.keypadScan raw) s) ∧
  (∀ (raw : List Nat) (s : State), due s → (∀ k < 256, inMatrix s k → settles s raw k) →
    ∃ t, exec (.keypadScan raw) s = .next t ∧ t = { s with regs := t.regs, kpd := { s.kpd with keys := t.kpd.keys, lastScan := some s.now }, cen := cenNoted s t } ∧
      (∀ k, inMatrix s k → counted s t raw k) ∧ (∀ k, ¬inMatrix s k → t.key k = s.key k) ∧ regsKept s t [] ∧ eventsFired s t []) ∧
  (∀ (raw : List Nat) (k : Nat) (s : State), one s raw k → raw.contains k = true → s.knb.commit = none → s.knb.stalledInc = [] →
    let st := s.lockState
    (st = 0 ∨ st = 3 → room s →
      ∃ t, exec (.keypadScan raw) s = .next t ∧ t = base s t ∧ t.log = s.log ∧ t.kpd = kpd s t k ∧ others s t raw k ∧
        t.key k = { pressed := true, since := s.now, phantom := phantom s k, wrote := true } ∧ pressed s t ∧
        wrote s t [entry8 k 1 (if phantom s k then 1 else 0) 0 s.stamp] ∧ (phantom s k = false → seen s t) ∧
        (phantom s k = true → t.zon = s.zon) ∧ regsKept s t (Reg.kpdPresscnt :: ringRegs 0 ++ hitPins s) ∧ eventsFired s t [18]) ∧
    (st = 0 ∨ st = 3 → s.ringOn 0 = true → s.ringEsize 0 = 8 → s.ringFull 0 = true → s.rf (Reg.rngCfg 0) 6 2 ≠ 1 →
      ∃ t, exec (.keypadScan raw) s = .next t ∧ t = base s t ∧ t.kpd = kpd s t k ∧ others s t raw k ∧ t.zon = s.zon ∧
        t.key k = { pressed := true, since := s.now, phantom := phantom s k } ∧ t.log = (if s.rb Reg.kpdStat 0 = true then s.log else (s.fault 0x0902 0).log) ∧ t.rb Reg.kpdStat 0 = true ∧ pressed s t ∧
        (t.reg Reg.kpdDrop).toNat = min 0xFFFFFFFF ((s.reg Reg.kpdDrop).toNat + 1) ∧ t.ringHead 0 = s.ringHead 0 ∧
        regsKept s t ([Reg.kpdPresscnt, Reg.kpdDrop, Reg.kpdStat] ++ ringRegs 0) ∧
        eventsFired s t (if s.rb Reg.kpdStat 0 = true then [] else [19])) ∧
    (st = 2 → phantom s k = false → room s →
      ∃ t, exec (.keypadScan raw) s = .next t ∧ t = base s t ∧ t.log = s.log ∧ t.kpd = kpd s t k ∧ others s t raw k ∧
        t.key k = { pressed := true, since := s.now } ∧ pressed s t ∧ wrote s t [entry8 0xFF 10 4 0 s.stamp] ∧ seen s t ∧
        regsKept s t (Reg.kpdPresscnt :: ringRegs 0 ++ hitPins s) ∧ eventsFired s t [18]) ∧
    (st = 1 → phantom s k = false → free2 s →
      let match_ := k = s.lockKey s.lockPos ∧ s.lockPos < s.lockLen
      let p := s.lockPos + 1
      let n := s.lockAttempts + 1
      let lockRegs := [Reg.kpdPresscnt, Reg.kpdLock] ++ ringRegs 0 ++ hitPins s
      let common := fun (t : State) => t = base s t ∧ others s t raw k ∧ t.key k = { pressed := true, since := s.now } ∧ pressed s t ∧ seen s t ∧
        regsKept s t lockRegs
      (match_ → p < s.lockLen →
        ∃ t, exec (.keypadScan raw) s = .next t ∧ common t ∧ t.log = s.log ∧ t.kpd = { kpd s t k with compareAt := s.now } ∧ t.lockPos = p ∧
          t.lockState = 1 ∧ t.lockAttempts = s.lockAttempts ∧ wrote s t [entry8 0xFF 3 4 p s.stamp] ∧ eventsFired s t [18]) ∧
      (match_ → p = s.lockLen →
        ∃ t, exec (.keypadScan raw) s = .next t ∧ common t ∧ t.log = (s.happen 20 4).log ∧ t.kpd = { kpd s t k with compareAt := s.now, pressAt := s.kpdNow } ∧
          t.lockPos = 0 ∧ t.lockState = 0 ∧ t.lockAttempts = 0 ∧
          wrote s t [entry8 0xFF 3 4 p s.stamp, entry8 0xFF 4 4 0 s.stamp] ∧ eventsFired s t [18, 20]) ∧
      (¬match_ → n < 5 →
        ∃ t, exec (.keypadScan raw) s = .next t ∧ common t ∧ t.log = (s.happen 20 6).log ∧ t.kpd = { kpd s t k with compareAt := s.now } ∧
          t.lockPos = 0 ∧ t.lockState = 1 ∧ t.lockAttempts = n ∧ wrote s t [entry8 0xFF 6 4 n s.stamp] ∧ eventsFired s t [18, 20]) ∧
      (¬match_ → n = 5 →
        ∃ t, exec (.keypadScan raw) s = .next t ∧ common t ∧ t.log = (((s.happen 20 6).happen 20 7).fault 0x0903 s.lockoutMin).log ∧
          t.kpd = { kpd s t k with compareAt := s.now, lockoutAt := s.now } ∧ t.lockPos = 0 ∧ t.lockState = 2 ∧ t.lockAttempts = 5 ∧
          wrote s t [entry8 0xFF 6 4 5 s.stamp, entry8 0xFF 7 4 s.lockoutMin s.stamp] ∧ eventsFired s t [18, 20]))) ∧
  (∀ (raw : List Nat) (k : Nat) (s : State), one s raw k → raw.contains k = false → room s →
    let told := (s.key k).wrote = true ∧ (s.lockState = 0 ∨ s.lockState = 3)
    let stuck := s.rb (Reg.kpdMask (k / 32)) (k % 32)
    let common := fun (t : State) => t = { base s t with log := s.log, zon := s.zon, knb := s.knb } ∧ t.kpd = { s.kpd with keys := t.kpd.keys, lastScan := some s.now } ∧
      others s t raw k ∧ t.key k = {} ∧ t.rb (Reg.kpdMask (k / 32)) (k % 32) = false
    (told →
      ∃ t, exec (.keypadScan raw) s = .next t ∧ common t ∧
        wrote s t [entry8 k 2 ((if (s.key k).phantom then 1 else 0) + if stuck then 2 else 0) 0 s.stamp] ∧ memKeptOutsideRing s t 0 ∧
        regsKept s t (Reg.kpdMask (k / 32) :: ringRegs 0) ∧ eventsFired s t [18]) ∧
    (¬told →
      ∃ t, exec (.keypadScan raw) s = .next t ∧ common t ∧ t.mem = s.mem ∧ regsKept s t [Reg.kpdMask (k / 32)] ∧ eventsFired s t [])) ∧
  (∀ (k : Nat) (s : State), s.kpdScans = true → k < 256 → room s →
    let limit := 4000 * max 1 (s.rf Reg.kpdDeb 24 8)
    let stuck := (s.key k).pressed = true ∧ (s.key k).phantom = false ∧ s.rb (Reg.kpdMask (k / 32)) (k % 32) = false ∧ (s.key k).since + limit ≤ (s.now : Int)
    let engaged := s.lockState == 1 || s.lockState == 2
    (stuck →
      ∃ t, exec (.keyStuck k) s = .next t ∧
        t = { s with regs := t.regs, mem := t.mem, log := (s.fault 0x0901 k).log, cen := cenNoted s t } ∧
        t.rb (Reg.kpdMask (k / 32)) (k % 32) = true ∧ memKeptOutsideRing s t 0 ∧ (engaged = false → wrote s t [entry8 k 9 2 0 s.stamp]) ∧
        (engaged = true → t.mem = s.mem ∧ t.ringHead 0 = s.ringHead 0) ∧ regsKept s t (Reg.kpdMask (k / 32) :: ringRegs 0) ∧
        eventsFired s t (if engaged then [19] else [18, 19])) ∧
    (¬stuck → changesNothing (.keyStuck k) s))

/-- ENTRYTO without a compared press counts a wrong attempt; a lockout ends in LOCKED with ATTEMPTS 0; RELOCK and a LOCK write
enter LOCKED with kind 5, LOCK in DISABLED sets LOCKREF; UNLOCK leaves LOCKED or LOCKOUT with kind 4. Under host ownership
the writes of R573 are ignored with IGNORED. A level is accepted after two equal samples; a phase step moves COUNT by RES and
DIR, an illegal change counts in ENCn_ERR; a debounced push writes kind 2 or 3; the first pair accepted after a chill counts
no step. A count write also sets the value last posted. (17_keypad_encoders R562, 17_keypad_encoders R563, 17_keypad_encoders
R564, 17_keypad_encoders R565, 17_keypad_encoders R566, 17_keypad_encoders R567, 17_keypad_encoders R570, 17_keypad_encoders
R571, 17_keypad_encoders R572, 17_keypad_encoders R573, 17_keypad_encoders R579) -/
def Obligations.LockAndEncoders : Prop :=
  let free2 := fun (s : State) => s.ringOn 0 = true ∧ s.ringEsize 0 = 8 ∧ s.ringCount 0 + 2 ≤ 2 ^ s.ringDepth 0
  let hitPins := fun (s : State) (kind src : Nat) =>
    let l := (List.range 128).filter (fun p => s.rf (Reg.zonPinCfg p) 0 3 == kind && (kind == 3 || s.rf (Reg.zonPinCfg p) 3 8 == src))
    Reg.zonStat :: l.map Reg.zonPinCnt ++ l.map Reg.zonPinLast
  let wrote := fun (s t : State) (r : Nat) (es : List (List Byte)) => memKeptOutsideRing s t r ∧ t.ringHead r = (s.ringHead r + es.length) % 65536 ∧
    ∀ i, i < es.length → t.bytes (s.ringAddr r (s.ringHead r + i)) 8 = es.getD i []
  let base := fun (s t : State) => { s with regs := t.regs, mem := t.mem, free := t.free, log := t.log, cen := cenNoted s t }
  let lockRegs := Reg.kpdLock :: ringRegs 0
  let closed := fun (s t : State) (code : Nat) =>
    t = base s t ∧ t.log = (s.happen 20 5).log ∧ t.lockState = 1 ∧ t.lockPos = 0 ∧
      t.lockAttempts = s.lockAttempts ∧ (∀ k, s.kpd.lastKey = some k → code = k ∧ t.free = s.free) ∧
      wrote s t 0 [entry8 code 5 0 0 s.stamp] ∧ regsKept s t lockRegs ∧ eventsFired s t [18, 20]
  (∀ s : State, free2 s →
    let due := s.lockTimes = true ∧ s.lockState = 1 ∧ s.lockPos ≠ 0 ∧ s.kpd.compareAt + 4000 * (max 1 (min 60 (s.rf Reg.kpdLockcfg 16 6)) : Nat) ≤ s.now
    let n := s.lockAttempts + 1
    let common := fun (t : State) => t = { base s t with kpd := t.kpd, zon := { s.zon with hits := t.zon.hits } } ∧ t.lockPos = 0 ∧ t.lockAttempts = n ∧
      (∀ p, p < 128 → s.rf (Reg.zonPinCfg p) 0 3 = 3 → p ∈ t.zon.hits) ∧ regsKept s t (lockRegs ++ hitPins s 3 0) ∧ eventsFired s t [18, 20]
    (due → n < 5 → ∃ t, exec .entryTimeout s = .next t ∧ common t ∧ t.kpd = s.kpd ∧ t.log = (s.happen 20 6).log ∧ t.lockState = 1 ∧
      wrote s t 0 [entry8 0xFF 6 4 n s.stamp]) ∧
    (due → n = 5 → ∃ t, exec .entryTimeout s = .next t ∧ common t ∧ t.kpd = { s.kpd with lockoutAt := s.now } ∧
      t.log = (((s.happen 20 6).happen 20 7).fault 0x0903 s.lockoutMin).log ∧ t.lockState = 2 ∧
      wrote s t 0 [entry8 0xFF 6 4 5 s.stamp, entry8 0xFF 7 4 s.lockoutMin s.stamp]) ∧
    (¬due → changesNothing .entryTimeout s)) ∧
  (∀ s : State, free2 s →
    let due := s.lockTimes = true ∧ s.lockState = 2 ∧ s.kpd.lockoutAt + 240000 * (max 1 (min 60 (s.rf Reg.kpdLockcfg 8 6)) : Nat) ≤ s.now
    (due → ∃ t, exec .lockoutEnd s = .next t ∧ t = base s t ∧ t.log = (s.happen 20 8).log ∧ t.lockState = (if s.lockLen = 0 then 3 else 1) ∧ t.lockPos = 0 ∧ t.lockAttempts = 0 ∧
      wrote s t 0 [entry8 0xFF 8 4 0 s.stamp] ∧ regsKept s t lockRegs ∧ eventsFired s t [18, 20]) ∧
    (¬due → changesNothing .lockoutEnd s)) ∧
  (∀ s : State, free2 s →
    let m := s.rf Reg.kpdLockcfg 24 8
    let due := s.lockTimes = true ∧ s.lockState = 0 ∧ m ≠ 0 ∧ s.kpd.pressAt + 240000 * m ≤ s.now
    (due → ∃ t code, exec .relock s = .next t ∧ closed s t code) ∧ (¬due → changesNothing .relock s)) ∧
  (∀ (who : Init) (s : State), mayWrite who 11 s → free2 s →
    (s.lockState = 0 → ∃ t code, exec (.kpdLock who) s = .next t ∧ closed s t code) ∧
    (s.lockState = 3 → ∃ t, exec (.kpdLock who) s = .next t ∧ t = { s with regs := t.regs, cen := cenNoted s t } ∧ t.reg Reg.kpdStat = s.reg Reg.kpdStat ||| 4 ∧
      regsKept s t [Reg.kpdStat] ∧ eventsFired s t []) ∧
    (s.lockState = 1 ∨ s.lockState = 2 → changesNothing (.kpdLock who) s ∧
      ∃ t, exec (.kpdUnlock who) s = .next t ∧ t = { base s t with kpd := { s.kpd with pressAt := s.kpdNow } } ∧ t.log = (s.happen 20 4).log ∧
        t.lockState = 0 ∧ t.lockPos = 0 ∧ t.lockAttempts = 0 ∧ wrote s t 0 [entry8 0xFF 4 4 0 s.stamp] ∧ regsKept s t lockRegs ∧
        eventsFired s t [18, 20]) ∧
    (s.lockState = 0 ∨ s.lockState = 3 → changesNothing (.kpdUnlock who) s)) ∧
  (∀ (who : Init) (v : Word) (s : State), mayWrite who 11 s →
    let engaged := s.lockEngaged
    let plain := fun (off : Nat) (l : List Nat) (good : State → Prop) =>
      ∃ t, exec (.kpdConfigWrite who off v) s = .next t ∧ t = { s with regs := t.regs, cen := cenNoted s t } ∧ good t ∧ regsKept s t l ∧ eventsFired s t []
    let ignored := fun (off : Nat) => plain off [Reg.kpdStat] (fun t => t.reg Reg.kpdStat = s.reg Reg.kpdStat ||| 8)
    ((s.hostOwns 11 = true ∧ (engaged = true ∨ s.rb Reg.kpdCtrl 0 = true)) → ignored 0x00) ∧
    (¬(s.hostOwns 11 = true ∧ (engaged = true ∨ s.rb Reg.kpdCtrl 0 = true)) →
      plain 0x00 [Reg.kpdCfg] (fun t => t.reg Reg.kpdCfg = v &&& 0x00FFF3FF)) ∧
    plain 0x04 [Reg.kpdDeb] (fun t => t.reg Reg.kpdDeb = v &&& 0xFFFFFF0F) ∧
    plain 0x08 [Reg.kpdStat] (fun t => t.reg Reg.kpdStat = s.reg Reg.kpdStat &&& ~~~(v &&& 0xD)) ∧
    plain 0x0C [Reg.kpdCtrl] (fun t => t.reg Reg.kpdCtrl = v &&& 1) ∧
    (fld v 0 4 = s.rf Reg.kpdLockcfg 0 4 → ¬(s.hostOwns 11 = true ∧ engaged = true) →
      plain 0x14 [Reg.kpdLockcfg] (fun t => t.reg Reg.kpdLockcfg = v &&& 0xFF3F3F0F)) ∧
    (s.hostOwns 11 = true → engaged = true →
      plain 0x14 [Reg.kpdLockcfg, Reg.kpdStat] (fun t => t.reg Reg.kpdStat = s.reg Reg.kpdStat ||| 8 ∧ t.rf Reg.kpdLockcfg 0 4 = s.rf Reg.kpdLockcfg 0 4 ∧
        t.rf Reg.kpdLockcfg 8 6 = fld v 8 6 ∧ t.rf Reg.kpdLockcfg 16 6 = fld v 16 6 ∧ t.rf Reg.kpdLockcfg 24 8 = fld v 24 8)) ∧
    (fld v 0 4 ≠ s.rf Reg.kpdLockcfg 0 4 → ¬(s.hostOwns 11 = true ∧ engaged = true) →
      let st := if s.lockState = 2 then 2 else if fld v 0 4 = 0 then 3 else if s.lockState = 3 then 0 else s.lockState
      ∃ t, exec (.kpdConfigWrite who 0x14 v) s = .next t ∧
        t = { s with regs := t.regs, kpd := if s.lockState = 3 ∧ fld v 0 4 ≠ 0 then { s.kpd with pressAt := s.kpdNow } else s.kpd, cen := cenNoted s t } ∧
        t.reg Reg.kpdLockcfg = v &&& 0xFF3F3F0F ∧ t.lockPos = 0 ∧ t.lockState = st ∧ t.lockAttempts = s.lockAttempts ∧
        regsKept s t [Reg.kpdLockcfg, Reg.kpdLock] ∧ eventsFired s t (if st = s.lockState then [] else [20])) ∧
    (s.hostOwns 11 = true ∧ engaged = true → ignored 0x18 ∧ ignored 0x1C) ∧
    (¬(s.hostOwns 11 = true ∧ engaged = true) →
      (∃ t, exec (.kpdConfigWrite who 0x18 v) s = .next t ∧ t = { s with regs := t.regs, kpd := { s.kpd with seqLo := v }, cen := cenNoted s t } ∧ regsKept s t [] ∧
        eventsFired s t []) ∧
      (∃ t, exec (.kpdConfigWrite who 0x1C v) s = .next t ∧ t = { s with regs := t.regs, kpd := { s.kpd with seqHi := v }, cen := cenNoted s t } ∧ regsKept s t [] ∧
        eventsFired s t [])) ∧
    (∀ n, n < s.nEncs → plain (0x100 + 32 * n) [Reg.encCfg n] (fun t => t.reg (Reg.encCfg n) = v &&& 0x00FFFF0F))) ∧
  (∀ (n : Nat) (a b p : Bool) (s : State), s.encRuns n = false → changesNothing (.encoderSample n a b p) s) ∧
  (∀ (n : Nat) (a b p : Bool) (s : State), s.encRuns n = true → s.kpd.encs.length = 4 → (s.enc n).resync = true →
    ∃ t, exec (.encoderSample n a b p) s = .next t ∧ t.reg (Reg.encCnt n) = s.reg (Reg.encCnt n) ∧ t.reg (Reg.encErr n) = s.reg (Reg.encErr n) ∧
      (t.enc n).resync = !(a == (s.enc n).a && b == (s.enc n).b) ∧ t.zon = s.zon ∧ t.log = s.log) ∧
  (∀ (n : Nat) (a b p : Bool) (s : State), s.encRuns n = true → s.kpd.encs.length = 4 → (s.enc n).resync = false →
    let v := s.enc n
    let stat := fun (i : Nat) => s.rb (Reg.encStat n) i
    let level := fun (new last : Bool) (i : Nat) => if new = last then new else stat i
    let phase := fun (x y : Bool) => if x then (if y then 2 else 1) else if y then 3 else 0
    let old := phase (stat 0) (stat 1)
    let new := phase (level a v.a 0) (level b v.b 1)
    let samples := fun (t : State) => t.rb (Reg.encStat n) 0 = level a v.a 0 ∧ t.rb (Reg.encStat n) 1 = level b v.b 1 ∧
      t.rb (Reg.encStat n) 2 = level p v.p 2 ∧ ∀ m, m ≠ n → t.enc m = s.enc m
    let turned := (!p) != stat 3
    let need := 16 * max 1 (s.rf (Reg.encCfg n) 16 8)
    let after : EncSt := { v with a := a, b := b, p := p, push := if turned then v.push + 1 else 0 }
    (turned = false ∨ v.push + 1 < need →
      let counts := new = 0 ∨ (s.rf (Reg.encCfg n) 0 2 = 1 ∧ new = 2) ∨ 2 ≤ s.rf (Reg.encCfg n) 0 2
      let up := (new = (old + 1) % 4) ↔ s.rb (Reg.encCfg n) 2 = false
      let quiet := fun (t : State) => t = { s with regs := t.regs, kpd := { s.kpd with encs := t.kpd.encs }, cen := cenNoted s t } ∧ samples t ∧ t.enc n = after ∧
        t.rb (Reg.encStat n) 3 = stat 3 ∧ regsKept s t [Reg.encStat n] ∧ eventsFired s t []
      (old = new → ∃ t, exec (.encoderSample n a b p) s = .next t ∧ quiet t) ∧
      (new = (old + 2) % 4 →
        let due := match v.errAt with | some at_ => decide (at_ + 240000 ≤ s.now) | none => true
        ∃ t, exec (.encoderSample n a b p) s = .next t ∧
          t = { s with regs := t.regs, kpd := { s.kpd with encs := t.kpd.encs }, log := if due then (s.fault 0x0905 n).log else s.log, cen := cenNoted s t } ∧ samples t ∧
          t.enc n = { after with errAt := if due then some s.now else v.errAt } ∧ t.rb (Reg.encStat n) 3 = stat 3 ∧
          (t.reg (Reg.encErr n)).toNat = min 0xFFFFFFFF ((s.reg (Reg.encErr n)).toNat + 1) ∧
          regsKept s t [Reg.encStat n, Reg.encErr n] ∧ eventsFired s t []) ∧
      (new ≠ old → new ≠ (old + 2) % 4 → ¬counts → ∃ t, exec (.encoderSample n a b p) s = .next t ∧ quiet t) ∧
      (new ≠ old → new ≠ (old + 2) % 4 → counts →
        ∃ t, exec (.encoderSample n a b p) s = .next t ∧
          t = { s with regs := t.regs, kpd := { s.kpd with encs := t.kpd.encs }, zon := { s.zon with hits := t.zon.hits }, cen := cenNoted s t } ∧ samples t ∧
          t.enc n = after ∧ t.rb (Reg.encStat n) 3 = stat 3 ∧
          (up → t.rf (Reg.encCnt n) 0 16 = (s.rf (Reg.encCnt n) 0 16 + 1) % 65536) ∧
          (¬up → t.rf (Reg.encCnt n) 0 16 = (s.rf (Reg.encCnt n) 0 16 + 65535) % 65536) ∧
          (∀ q, q < 128 → s.rf (Reg.zonPinCfg q) 0 3 = 4 → s.rf (Reg.zonPinCfg q) 3 8 = n → q ∈ t.zon.hits) ∧
          regsKept s t ([Reg.encStat n, Reg.encCnt n] ++ hitPins s 4 n) ∧ eventsFired s t [])) ∧
    (turned = true → need ≤ v.push + 1 → old = new → s.ringTakes 1 8 = true →
      let held := s.rb Reg.kpdCfg 9 && s.lockEngaged
      let entry := [BitVec.ofNat 8 n, if stat 3 then 3 else 2] ++ leBytes 2 (s.rf (Reg.encCnt n) 0 16) ++ leBytes 4 s.stamp
      let pushed := fun (t : State) => samples t ∧ t.enc n = { after with push := 0 } ∧ t.rb (Reg.encStat n) 3 = !stat 3
      (held = false →
        ∃ t, exec (.encoderSample n a b p) s = .next t ∧
          t = { s with regs := t.regs, mem := t.mem, kpd := { s.kpd with encs := t.kpd.encs }, cen := cenNoted s t } ∧ pushed t ∧
          wrote s t 1 [entry] ∧ regsKept s t (Reg.encStat n :: ringRegs 1) ∧ eventsFired s t [21]) ∧
      (held = true →
        ∃ t, exec (.encoderSample n a b p) s = .next t ∧ t = { s with regs := t.regs, kpd := { s.kpd with encs := t.kpd.encs }, cen := cenNoted s t } ∧ pushed t ∧
          regsKept s t [Reg.encStat n] ∧ eventsFired s t []))) ∧
  (∀ (who : Init) (n : Nat) (v : Word) (s : State), mayWrite who 11 s → n < 4 → s.kpd.encs.length = 4 →
    (n < s.nEncs →
      ∃ t, exec (.encoderCountWrite who n v) s = .next t ∧ t = { s with regs := t.regs, kpd := { s.kpd with encs := t.kpd.encs }, cen := cenNoted s t } ∧
        t.reg (Reg.encCnt n) = v &&& 0xFFFF ∧ t.enc n = { s.enc n with posted := fld v 0 16 } ∧ (∀ m, m ≠ n → t.enc m = s.enc m) ∧
        regsKept s t [Reg.encCnt n] ∧ eventsFired s t []) ∧
    (s.nEncs ≤ n →
      ∃ t, exec (.encoderCountWrite who n v) s = .next t ∧ t = { s with regs := t.regs, cen := cenNoted s t } ∧ t.rb Reg.sysStatus 0 = true ∧
        regsKept s t [Reg.sysStatus, Reg.sysHitaddr] ∧ eventsFired s t []))

/-- A completed conversion writes LAST in its format from the corrected code, counts a clipped code and joins its decimator's
live sum; the last of an entry lets the next entry wait for its start or ends the pass, at which CMP takes effect. A guard
conversion writes LAST in format 0 on the first free slice and feeds no decimator. The action at a pass end writes each fed
decimator's scaled PV and its status, clears FRESH of the others, and fires event 8; a comparator state held PERSIST fresh
PVs is taken with event 9 and an entry on ring 4. (02_acquisition R61, 02_acquisition R62, 02_acquisition R63, 02_acquisition
R65, 02_acquisition R67, 02_acquisition R73, 02_acquisition R77, 02_acquisition R78, 02_acquisition R80, 02_acquisition R81,
02_acquisition R83, 02_acquisition R85) -/
def Obligations.ConversionsAndProcessValues : Prop :=
  let corrected := fun (s : State) (n : Nat) (x : Int) (diff : Bool) =>
    let y := Int.fdiv ((16 * x - sfld (s.reg (Reg.acqSliceCorr n)) 0 16) * (s.rf (Reg.acqSliceCorr n) 16 16 : Int) + 262144) 524288
    if diff then max (-32768) (min 32767 y) else max 0 (min 65535 y)
  let word := fun (y : Int) (fmt : Nat) (diff : Bool) =>
    BitVec.ofInt 32 (if diff then (if fmt = 0 then y + 32768 else if fmt = 1 then (y + 32768) * 65536 else if fmt = 2 then y else y * 65536)
      else if fmt = 1 then y * 65536 else y)
  let ends := fun (x : Int) (diff : Bool) => decide (if diff then x = -32768 ∨ x = 32767 else x = 0 ∨ x = 65535)
  let unwatched := fun (s : State) (ch : Nat) => (∀ f, f < 16 → s.rf (Reg.fanfAutoch f) 0 7 ≠ ch) ∧ ∀ j, j < 4 → s.rf Reg.fanShdnSel (8 * j) 7 ≠ ch
  let clips := fun (s t : State) (x : Int) (diff : Bool) =>
    (t.reg Reg.acqClipcnt).toNat = min 0xFFFFFFFF ((s.reg Reg.acqClipcnt).toNat + if ends x diff then 1 else 0)
  let sliceSeen := fun (s t : State) (n : Nat) => t.sliceOf n = { s.sliceOf n with others := (s.sliceOf n).others + 1 } ∧
    (∀ m, m ≠ n → t.sliceOf m = s.sliceOf m) ∧ t.rf (Reg.acqSliceNopair n) 0 21 = min 1048576 (s.rf (Reg.acqSliceNopair n) 0 21 + 1)
  (∀ (c : AcqConv) (rest : List AcqConv) (s : State), s.awake = true → s.acq.inflight = c :: rest → c.chan < 88 → c.slice < 4 → unwatched s c.chan →
    (s.chan c.chan).slice = none ∨ (s.chan c.chan).slice = some c.slice → c.dtgt < 88 → (s.dec c.dtgt).mode ≠ some (!c.diff) →
    let y := corrected s c.slice c.code c.diff
    let here := s.acq.phase = .inEntry ∧ c.live = true
    let result := fun (t : State) => t.word (acqLast c.chan) = word y c.fmt c.diff ∧ clips s t c.code c.diff ∧
      t.word (acqSum c.dtgt) = s.word (acqSum c.dtgt) + BitVec.ofInt 32 y ∧ t.word (acqSum c.dtgt + 4) = s.word (acqSum c.dtgt + 4) + 1 ∧
      (∀ a, ¬(acqLast c.chan ≤ a ∧ a < acqLast c.chan + 4) → ¬(acqSum c.dtgt ≤ a ∧ a < acqSum c.dtgt + 8) → t.byte a = s.byte a) ∧
      t.chan c.chan = { slice := some c.slice, pass := s.acq.passNo, tick := some s.now, code := y, diff := c.diff } ∧
      (∀ k, k ≠ c.chan → t.chan k = s.chan k) ∧ sliceSeen s t c.slice ∧ eventsFired s t []
    let acq := fun (t : State) => { s.acq with inflight := rest, chans := t.acq.chans, decs := t.acq.decs, slices := t.acq.slices }
    (¬(here ∧ s.acq.completed + 1 = s.acq.cur.rep) →
      ∃ t, exec .conversionComplete s = .next t ∧
        t = { s with regs := t.regs, mem := t.mem, acq := { acq t with completed := if s.acq.phase = .inEntry && c.live then s.acq.completed + 1 else s.acq.completed }, cen := cenNoted s t } ∧
        result t ∧ regsKept s t [Reg.acqClipcnt, Reg.acqSliceNopair c.slice]) ∧
    (here → s.acq.completed + 1 = s.acq.cur.rep → s.acq.entry + 1 < s.acq.len →
      ∃ t, exec .conversionComplete s = .next t ∧
        t = { s with regs := t.regs, mem := t.mem, acq := { acq t with completed := s.acq.completed + 1, phase := .entryPending, readyAt := s.now + s.acq.cur.post, mid := s.acq.cur.post == 0, delayed := s.acq.cur.post != 0 }, cen := cenNoted s t } ∧
        result t ∧ regsKept s t [Reg.acqClipcnt, Reg.acqSliceNopair c.slice]) ∧
    (here → s.acq.completed + 1 = s.acq.cur.rep → s.acq.len ≤ s.acq.entry + 1 →
      ∃ t, exec .conversionComplete s = .next t ∧
        t = { s with regs := t.regs, mem := t.mem, acq := { acq t with completed := s.acq.completed + 1, phase := .passPending, readyAt := s.now + s.acq.cur.post, mid := s.acq.cur.post == 0, delayed := s.acq.cur.post != 0, update := t.acq.update }, cen := cenNoted s t } ∧
        result t ∧ t.reg Reg.acqPasscnt = s.reg Reg.acqPasscnt + 1 ∧
        (∃ rs, t.acq.update = some rs ∧ ∀ d, d < 88 → ((∃ r ∈ rs, r.d = d ∧ r.stamp = s.stamp ∧ r.n = (t.word (acqSum d + 4)).toNat) ↔ t.word (acqSum d + 4) ≠ 0)) ∧
        (∀ d, d < 88 → (t.dec d).cmp = (if s.rf (Reg.decCfg d) 5 2 = 3 then 0 else s.rf (Reg.decCfg d) 5 2)) ∧
        regsKept s t [Reg.acqClipcnt, Reg.acqSliceNopair c.slice, Reg.acqPasscnt])) ∧
  (∀ (ch n : Nat) (rest : List Nat) (code : Int) (s : State), s.awake = true → s.acq.guardDue = ch :: rest → s.acq.guardBusy = [] → ch < 88 → unwatched s ch →
    n < s.nSlices → (∀ c ∈ s.acq.inflight, c.slice ≠ n) → (∀ m, m < n → ∃ c ∈ s.acq.inflight, c.slice = m) →
    (s.chan ch).slice = none ∨ (s.chan ch).slice = some n →
    let diff := ch % 2 == 0 && ch < 64 && bitOf s.acq.diff (ch / 2)
    let x := if diff then max (-32768) (min 32767 code) else max 0 (min 65535 code)
    ∃ t, exec (.guardConversion code) s = .next t ∧
      t = { s with regs := t.regs, mem := t.mem, acq := { s.acq with guardDue := rest, guardBusy := (List.range s.nSlices).map (fun m => if m = n then 8 else 0), chans := t.acq.chans, slices := t.acq.slices }, cen := cenNoted s t } ∧
      t.word (acqLast ch) = word (corrected s n x diff) 0 diff ∧ memKept s t (acqLast ch) (acqLast ch + 4) ∧ clips s t x diff ∧
      t.chan ch = { slice := some n, pass := s.acq.passNo, tick := some s.now, code := corrected s n x diff, diff := diff } ∧
      (∀ k, k ≠ ch → t.chan k = s.chan k) ∧ sliceSeen s t n ∧ regsKept s t [Reg.acqClipcnt, Reg.acqSliceNopair n] ∧ eventsFired s t []) ∧
  (∀ (rs : List DecResult) (s : State), s.awake = true → s.acq.update = some rs → (rs.map DecResult.d).Nodup →
    (∀ r ∈ rs, r.d < 88 ∧ 0 < r.n ∧ r.clip = false ∧ r.cfg.length = 7 ∧ s.refFed r.d = false) →
    (∀ p, p < 128 → s.rf (Reg.zonPinCfg p) 0 3 ≠ 1 ∧ s.rf (Reg.zonPinCfg p) 0 3 ≠ 2) →
    (∀ n, n < 32 → s.rb (Reg.actnFb n) 7 = false ∧ s.rb (Reg.actnFb n) 8 = false) → (∀ f, f < 16 → ∀ r ∈ rs, r.d ≠ 64 + f) →
    let pv := fun (r : DecResult) =>
      let mc := Int.fdiv (r.sum * 65536 + (r.n / 2 : Nat)) r.n
      if fld (r.cfg.getD 0 0) 0 2 = 1 then s.scalePv (r.cfg.getD 0 0) (r.cfg.getD 1 0) (r.cfg.getD 2 0) mc r.diff
      else max (-2147483648) (min 2147483647 (Int.fdiv ((r.cfg.getD 1 0).toInt * mc + 2147483648) 4294967296 + (r.cfg.getD 2 0).toInt))
    let values := fun (t : State) => (∀ r ∈ rs, t.sword (acqPv r.d) = pv r) ∧
      (∀ r ∈ rs, t.word (acqStatus r.d) &&& 0xFF8FFFFF = BitVec.ofNat 32 (0x00030000 + s.rf Reg.acqPasscnt 0 16)) ∧
      (∀ d, d < 88 → (∀ r ∈ rs, r.d ≠ d) → t.word (acqPv d) = s.word (acqPv d) ∧ t.word (acqStatus d) = s.word (acqStatus d) &&& 0xFFFDFFFF)
    ((∀ r ∈ rs, fld (r.cfg.getD 0 0) 5 2 = 0 ∨ fld (r.cfg.getD 0 0) 5 2 = 3) →
      ∃ t, exec .pvUpdate s = .next t ∧
        t = { s with regs := t.regs, mem := t.mem, acq := { s.acq with update := none, decs := t.acq.decs }, cen := cenNoted s t } ∧
        values t ∧ (∀ r ∈ rs, t.cmpState r.d = s.cmpState r.d) ∧
        (∀ a, ¬(0x70000400 ≤ a ∧ a < 0x70000560) → ¬(0x70000800 ≤ a ∧ a < 0x70000960) → t.byte a = s.byte a) ∧ regsKept s t [] ∧ eventsFired s t [8]) ∧
    (∀ (r : DecResult) (new : Nat), rs = [r] → fld (r.cfg.getD 0 0) 5 2 = 1 → (s.dec r.d).first = false → s.ringFits 4 8 →
      s.ringBelow 4 0x70000000 →
      let lo := (r.cfg.getD 3 0).toInt
      let hi := (r.cfg.getD 5 0).toInt
      let h := (r.cfg.getD 6 0).toInt
      let old := s.cmpState r.d
      new = (if pv r < lo then 0 else if pv r ≤ hi then 1 else 2) → old ≤ 2 → new ≠ old →
      (if old = 0 then lo + h ≤ pv r else if old = 1 then pv r < lo - h ∨ hi + h < pv r else pv r ≤ hi - h) →
      max 1 (fld (r.cfg.getD 0 0) 8 4) ≤ (if (s.dec r.d).candN ≠ 0 ∧ (s.dec r.d).cand = new then (s.dec r.d).candN + 1 else 1) →
      ∃ t, exec .pvUpdate s = .next t ∧
        t = { s with regs := t.regs, mem := t.mem, acq := { s.acq with update := none, decs := t.acq.decs }, cen := cenNoted s t } ∧
        values t ∧ t.cmpState r.d = new ∧ (t.dec r.d).candN = 0 ∧
        (s.ringTakes 4 8 = true → t.bytes (s.ringAddr 4 (s.ringHead 4)) 8 = entry8 r.d 1 new old r.stamp) ∧
        (∀ a, ¬(0x70000400 ≤ a ∧ a < 0x70000560) → ¬(0x70000800 ≤ a ∧ a < 0x70000960) → s.inRing 4 a = false → t.byte a = s.byte a) ∧
        regsKept s t (ringRegs 4) ∧ eventsFired s t [8, 9])) ∧
  (∀ s : State, s.awake = false → changesNothing .conversionComplete s ∧ changesNothing .pvUpdate s ∧ ∀ code, changesNothing (.guardConversion code) s) ∧
  (∀ s : State, (s.acq.inflight = [] → changesNothing .conversionComplete s) ∧ (s.acq.update = none → changesNothing .pvUpdate s) ∧
    (s.acq.guardDue = [] → ∀ code, changesNothing (.guardConversion code) s))

/-- Eight readings that agree give Tj as the highest; the throttle level rises at 95 + 2n and falls below 94 + 2n, a change fires
event 50 with an entry on ring 24; the second conversion at 120 degrees or more is a reset of cause 5 that is held. A sensor
that disagrees for the third time is excluded with event 51 and its fault, and Tj leaves it out. A count of 32 crystal cycles
above 16,000 lowers TBO_TRIM by one, one below raises it; between the ends of the temperature table the trim in force is
TBO_TRIM and the offset interpolated linearly in Tj, in 1/400 of a step. (18_thermal R581, 18_thermal R582, 18_thermal R583,
18_thermal R584, 18_thermal R585, 18_thermal R587, 18_thermal R588, 18_thermal R590) -/
def Obligations.DieSensorsAndTboTrim : Prop :=
  let calm := fun (s : State) => s.awake = true ∧ s.ringFits 24 8 ∧ s.rf Reg.thmExcl 0 8 = 0 ∧ s.rb Reg.thmStat 4 = false ∧
    s.thm.disagree.length = 8 ∧ s.thm.agree.length = 8
  let stays := fun (s t : State) => t = { s with regs := t.regs, mem := t.mem, thm := t.thm, free := t.free, log := t.log, pwr := { s.pwr with tripPeak := t.pwr.tripPeak }, cen := cenNoted s t } ∧
    memKeptOutsideRing s t 24 ∧
    regsKept s t ((List.range 8).map Reg.thmDts ++ [Reg.thmTj, Reg.thmStat, Reg.thmExcl, Reg.thmLvlcnt, Reg.thmVreftrim] ++ ringRegs 24)
  let level := fun (old : Nat) (tj : Int) =>
    let up := ((List.range 8).filter (fun (n : Nat) => decide (16 * (95 + 2 * (n : Int)) ≤ tj))).length
    let hold := ((List.range 8).filter (fun (n : Nat) => decide (16 * (94 + 2 * (n : Int)) ≤ tj))).length
    if old < up then up else min old hold
  let trim := fun (t : State) => sfld (t.reg Reg.tboTrim) 0 16
  let offset := fun (t : State) (i : Nat) => sfld (t.reg (Reg.tboTtab i)) 0 16
  let follows := fun (t : State) => ∀ i : Nat, i < 7 → 400 * (i : Int) ≤ t.tj + 640 → t.tj + 640 ≤ 400 * (i : Int) + 400 →
    t.thm.freq = 400 * trim t + offset t i * (400 * (i : Int) + 400 - (t.tj + 640)) + offset t (i + 1) * (t.tj + 640 - 400 * (i : Int))
  let shown := fun (t : State) => if t.rb Reg.thmStat 3 then t.rf Reg.thmStat 0 3 + 1 else 0
  (∀ (l : List Int) (tj : Int) (s : State), calm s → l.length = 8 → (∀ x ∈ l, -2048 ≤ x ∧ x ≤ 2040) → (∀ x ∈ l, ∀ y ∈ l, x - y ≤ 64) →
    tj ∈ l → (∀ x ∈ l, x ≤ tj) →
    let old := shown s
    let new := level old tj
    (tj < 1920 ∨ s.thm.hot = 0 →
      ∃ t, exec (.sensorConversion l) s = .next t ∧ stays s t ∧ t.log = s.log ∧
        t.thm = { disagree := List.replicate 8 0, agree := List.replicate 8 0, hot := if 1920 ≤ tj then s.thm.hot + 1 else 0, hasReading := true, freq := t.thm.freq } ∧ follows t ∧
        (∀ n, n < 8 → sfld (t.reg (Reg.thmDts n)) 0 16 = l.getD n 0) ∧ t.tj = tj ∧
        sfld (t.reg Reg.thmTj) 16 8 = max (sfld (s.reg Reg.thmTj) 16 8) (Int.fdiv tj 16) ∧ t.pwr.tripPeak = max s.pwr.tripPeak (Int.fdiv tj 16) ∧
        t.reg Reg.thmExcl &&& 0xFFFF = 0xFF00 ∧ t.rb Reg.thmStat 4 = false ∧ t.rb Reg.thmStat 5 = false ∧ shown t = new ∧
        (t.reg Reg.thmLvlcnt).toNat = min 0xFFFFFFFF ((s.reg Reg.thmLvlcnt).toNat + if old < new then 1 else 0) ∧
        (new ≠ old → s.ringTakes 24 8 = true →
          t.bytes (s.ringAddr 24 (s.ringHead 24)) 8 = entry8 1 (new - 1) (Int.fdiv tj 16 % 256).toNat 0 s.stamp) ∧
        eventsFired s t (if new = old then [] else [50])) ∧
    (1920 ≤ tj → 1 ≤ s.thm.hot →
      ∃ t, exec (.sensorConversion l) s = .next t ∧ t.pwr.held = some 5 ∧ t.rf Reg.pwrRstcause 0 3 = 5)) ∧
  (∀ (l : List Int) (r : Int) (k : Nat) (s : State), calm s → l.length = 8 → k < 8 → -640 ≤ r ∧ r < 1500 → (∀ n, n < 8 → n ≠ k → l.getD n 0 = r) →
    -2048 ≤ l.getD k 0 ∧ l.getD k 0 ≤ 2040 → 128 < (l.getD k 0 - r).natAbs → s.thm.disagree.getD k 0 = 2 → level (shown s) r = shown s →
    ∃ t, exec (.sensorConversion l) s = .next t ∧ stays s t ∧ t.rf Reg.thmExcl 0 8 = 2 ^ k ∧ t.tj = r ∧ t.log = (s.fault 0x1001 k).log ∧
      shown t = shown s ∧ t.thm.hot = 0 ∧
      (s.ringTakes 24 8 = true → t.bytes (s.ringAddr 24 (s.ringHead 24)) 2 = [2, BitVec.ofNat 8 k]) ∧ eventsFired s t [51]) ∧
  (∀ (l : List Int) (s : State), s.awake = false → changesNothing (.sensorConversion l) s) ∧
  (∀ (count : Nat) (s : State), s.tb.xtalOk = true → s.awake = true →
    ∃ t, exec (.tboDiscipline count) s = .next t ∧ t = { s with regs := t.regs, free := t.free, thm := { s.thm with freq := t.thm.freq }, cen := cenNoted s t } ∧ follows t ∧
      sfld (t.reg Reg.tboTrim) 0 16 = max (-32768) (min 32767 (sfld (s.reg Reg.tboTrim) 0 16 + if 16000 < count then -1 else if count < 16000 then 1 else 0)) ∧
      t.reg Reg.tboStat &&& 0xFC00FFFF = s.reg Reg.tboStat &&& 0xFC00FFFF ∧ regsKept s t [Reg.tboTrim, Reg.tboStat] ∧ eventsFired s t []) ∧
  (∀ (count : Nat) (s : State), s.tb.xtalOk = false ∨ s.awake = false → changesNothing (.tboDiscipline count) s)

/-- A read of a register of type RC returns its value and clears it, but for a host that reads a unit it does not own, whose read
clears nothing; a read of a unit or channel that the variant lacks returns 0 and sets bit 0 of SYS_STATUS. The log entry that
is next is written to its slot of the store with the increment of counter 18 or 19, and copies are offered to ring 2 or 3
and, from severity 2 on, ring 18; in journal mode a failed transaction loses it with NV_COMMIT. With no entry due nothing
changes. (01_architecture R5, 01_architecture R52, 02_acquisition R62, 02_acquisition R99, 03_control_frames R124,
13_events_rings R459, 15_knab_store R515, 17_keypad_encoders R560, 18_thermal R584, 20_faults R614, 20_faults R617, 20_faults
R618) -/
def Obligations.ClearingReadsAndLogWrites : Prop :=
  let cleared := fun (who : Init) (u a : Nat) (m : Word) (s t : State) =>
    t = { s with regs := t.regs, lastRead := s.reg a, cen := cenNoted s t } ∧
      t.reg a = (if who = .host ∧ s.hostOwns u = false then s.reg a else s.reg a &&& ~~~m) ∧ regsKept s t [a] ∧ eventsFired s t []
  let absent := fun (a : Nat) (s t : State) =>
    t = { s with regs := t.regs, lastRead := 0, cen := cenNoted s t } ∧ t.rb Reg.sysStatus 0 = true ∧
      (t.reg Reg.sysHitaddr).toNat = a ∧ regsKept s t [Reg.sysStatus, Reg.sysHitaddr] ∧ eventsFired s t []
  (∀ (who : Init) (s : State),
    (∃ t, exec (.acqClipcntRead who) s = .next t ∧ cleared who 6 Reg.acqClipcnt 0xFFFFFFFF s t) ∧ (∃ t, exec (.acqSkipcntRead who) s = .next t ∧ cleared who 6 Reg.acqSkipcnt 0xFFFFFFFF s t) ∧
    (∃ t, exec (.netNotlostRead who) s = .next t ∧ cleared who 14 Reg.netNotlost 0xFFFFFFFF s t) ∧ (∃ t, exec (.knbWeakcntRead who) s = .next t ∧ cleared who 13 Reg.knbWeakcnt 0xFFFFFFFF s t) ∧
    (∃ t, exec (.kpdDropRead who) s = .next t ∧ cleared who 11 Reg.kpdDrop 0xFFFFFFFF s t) ∧ (∃ t, exec (.thmTjRead who) s = .next t ∧ cleared who 17 Reg.thmTj 0x00FF0000 s t) ∧
    (∃ t, exec (.thmLvlcntRead who) s = .next t ∧ cleared who 17 Reg.thmLvlcnt 0xFFFFFFFF s t) ∧
    (s.present 16 = true → (∃ t, exec (.twnLatecntRead who) s = .next t ∧ cleared who 16 Reg.twnLatecnt 0xFFFFFFFF s t) ∧ (∃ t, exec (.twnLinkerrRead who) s = .next t ∧ cleared who 16 Reg.twnLinkerr 0xFFFFFFFF s t)) ∧
    (s.present 16 = false → (∃ t, exec (.twnLatecntRead who) s = .next t ∧ absent Reg.twnLatecnt s t) ∧ (∃ t, exec (.twnLinkerrRead who) s = .next t ∧ absent Reg.twnLinkerr s t))) ∧
  (∀ (who : Init) (n : Nat) (s : State),
    (n < 4 → (∃ t, exec (.cenOvrRead who n) s = .next t ∧ cleared who 7 (Reg.cenOvr n) 0xFFFFFFFF s t)) ∧
    (n < 128 → (∃ t, exec (.zonPinCntRead who n) s = .next t ∧ cleared who 8 (Reg.zonPinCnt n) 0xFFFF s t)) ∧
    (n < 32 → (∃ t, exec (.ringDropRead who n) s = .next t ∧ cleared who 4 (Reg.rngDrop n) 0xFFFFFFFF s t)) ∧
    (n < 3 → (∃ t, exec (.ldlCounterRead who n) s = .next t ∧ cleared who 5 (Reg.ldlBuserrcnt + 4 * n) 0xFFFFFFFF s t)) ∧
    (n < 8 → (∃ t, exec (.netCounterRead who 0 n) s = .next t ∧ cleared who 14 (Reg.netpTxfrm 0 + 4 * n) 0xFFFFFFFF s t)) ∧
    (n < 8 → s.present 26 = true → (∃ t, exec (.netCounterRead who 1 n) s = .next t ∧ cleared who 26 (Reg.netpTxfrm 1 + 4 * n) 0xFFFFFFFF s t)) ∧
    (n < 8 → s.present 26 = false → (∃ t, exec (.netCounterRead who 1 n) s = .next t ∧ absent (Reg.netpTxfrm 1 + 4 * n) s t)) ∧
    (n < s.nTraces → (∃ t, exec (.traceLostRead who n) s = .next t ∧ cleared who 7 (Reg.cenTrcLost n) 0xFFFFFFFF s t)) ∧
    (n < s.nEncs → (∃ t, exec (.encErrRead who n) s = .next t ∧ cleared who 11 (Reg.encErr n) 0xFFFFFFFF s t)) ∧
    (n < 4 → s.nTraces ≤ n → (∃ t, exec (.traceLostRead who n) s = .next t ∧ absent (Reg.cenTrcLost n) s t)) ∧
    (n < 4 → s.nEncs ≤ n → (∃ t, exec (.encErrRead who n) s = .next t ∧ absent (Reg.encErr n) s t))) ∧
  (∀ (ok : Bool) (e : LogRec) (rest : List LogRec) (s : State), s.runtimeRuns = true → s.knabRecalling = false → s.log.pending = e :: rest →
    s.knb.commit = none → s.knb.stalledInc = [] → (∀ r ∈ [2, 3, 18], s.ringFits r 16 ∧ (s.ringOn r = true → s.rf (Reg.rngCfg r) 6 2 ≠ 2) ∧ s.ringBelow r (knabPage 0)) →
    let journal := s.rb Reg.knbStat 1
    let c := if e.isEvent then 19 else 18
    let at_ := (if e.isEvent then 0x50003000 else 0x50002000) + 16 * (s.knabCtrVal c % 256)
    let lost := s.log.lost || (s.log.hlost && !e.isEvent)
    let bytes := leBytes 2 e.code ++ [BitVec.ofNat 8 (e.flags + if lost then 8 else 0), BitVec.ofNat 8 s.od.heat] ++ leBytes 4 e.tick ++
      leBytes 4 e.rtcsec ++ leBytes 4 e.param
    (ok = true ∨ journal = false →
      ∃ t, exec (.faultLogWrite ok) s = .next t ∧
        t = { s with regs := t.regs, mem := t.mem, log := { pending := rest, lost := false, hlost := s.log.hlost && e.isEvent }, cen := cenNoted s t } ∧
        t.knabBytes at_ 16 = bytes ∧ t.knabCtrVal c = min (2 ^ 64 - 1) (s.knabCtrVal c + 1) ∧
        (∀ a, a < knabPage 0 ∨ knabPage 1040 ≤ a → (∀ r ∈ [2, 3, 18], s.inRing r a = false) → t.byte a = s.byte a) ∧
        (∀ a, knabPage 0 ≤ a → a < knabPage 1024 → ¬(at_ ≤ a ∧ a < at_ + 16) → ¬(knabCtr c ≤ a ∧ a < knabCtr c + 12) →
          (journal && inJournal a) = false → t.knabByte a = s.knabByte a) ∧
        (s.ringTakes (if e.isEvent then 3 else 2) 16 = true → e.isEvent = true ∨ e.flags < 128 →
          t.bytes (s.ringAddr (if e.isEvent then 3 else 2) (s.ringHead (if e.isEvent then 3 else 2))) 16 = bytes) ∧
        (e.isEvent = false → 128 ≤ e.flags → s.ringTakes 18 16 = true → t.bytes (s.ringAddr 18 (s.ringHead 18)) 16 = bytes) ∧
        regsKept s t (ringRegs 2 ++ ringRegs 3 ++ ringRegs 18 ++ if journal then [Reg.knbJseq] else []) ∧
        eventsFired s t (if journal then [27] else [])) ∧
    (ok = false → journal = true →
      ∃ t, exec (.faultLogWrite ok) s = .next t ∧
        t = { s with regs := t.regs, log := (State.fault { s with log := { s.log with pending := rest, lost := true } } 0x0E02 0).log, cen := cenNoted s t } ∧
        regsKept s t [] ∧ eventsFired s t [])) ∧
  (∀ (ok : Bool) (s : State), s.awake = false ∨ s.knabRecalling = true ∨ s.log.pending = [] ∨
      (s.runtimeRuns = false ∧ ∀ e ∈ s.log.pending, e.isEvent = true ∨ (e.code ≠ 0x0203 ∧ e.code ≠ 0x0201)) →
    changesNothing (.faultLogWrite ok) s)
end

