-- ==== Sys2Proof/Laws/Bits.lean ====
section
/-! SUPPORT. Bounds of numbers read from bytes. -/

namespace Sys2Proof.Machine

theorem ofLe_lt (l : List Byte) : ofLe l < 256 ^ l.length := by
  induction l with
  | nil => simp [ofLe]
  | cons b l ih =>
    have hb := b.isLt
    simp only [ofLe, List.length_cons, pow_succ]
    omega

theorem ofBe_lt (l : List Byte) : ofBe l < 256 ^ l.length := by
  simpa [ofBe] using ofLe_lt l.reverse

@[simp] theorem slice_length (l : List Byte) (off n : Nat) : (slice l off n).length = n := by
  simp [slice]

/-- A digest has 64 bits (R279). -/
theorem odDigest_lt (s : State) (committed : List (Nat × OdVal)) (p : OdRow → Bool) : s.odDigest committed p < 2 ^ 64 := by
  have h := ofBe_lt (slice (sha512 ((s.odMembers p).flatMap (odDigestBytes committed))) 0 8)
  rwa [slice_length] at h

end Sys2Proof.Machine
end

