-- ==== Sys2Proof/Laws/State.lean ====
section
/-! SUPPORT. What each named update leaves alone: one lemma per field of State. -/

namespace Sys2Proof.Machine

variable (s : State)

@[simp] theorem State.setReg_pending (a : Nat) (v : Word) : (s.setReg a v).pending = s.pending := rfl
@[simp] theorem State.setReg_variant (a : Nat) (v : Word) : (s.setReg a v).variant = s.variant := rfl
@[simp] theorem State.setReg_fuse (a : Nat) (v : Word) : (s.setReg a v).fuse = s.fuse := rfl
@[simp] theorem State.setReg_mem (a : Nat) (v : Word) : (s.setReg a v).mem = s.mem := rfl
@[simp] theorem State.setReg_now (a : Nat) (v : Word) : (s.setReg a v).now = s.now := rfl
@[simp] theorem State.setReg_free (a : Nat) (v : Word) : (s.setReg a v).free = s.free := rfl
@[simp] theorem State.setReg_lastRead (a : Nat) (v : Word) : (s.setReg a v).lastRead = s.lastRead := rfl
@[simp] theorem State.setReg_held (a : Nat) (v : Word) : (s.setReg a v).held = s.held := rfl
@[simp] theorem State.setReg_log (a : Nat) (v : Word) : (s.setReg a v).log = s.log := rfl
@[simp] theorem State.setReg_tb (a : Nat) (v : Word) : (s.setReg a v).tb = s.tb := rfl
@[simp] theorem State.setReg_thm (a : Nat) (v : Word) : (s.setReg a v).thm = s.thm := rfl
@[simp] theorem State.setReg_rtc (a : Nat) (v : Word) : (s.setReg a v).rtc = s.rtc := rfl
@[simp] theorem State.setReg_knb (a : Nat) (v : Word) : (s.setReg a v).knb = s.knb := rfl
@[simp] theorem State.setReg_pwr (a : Nat) (v : Word) : (s.setReg a v).pwr = s.pwr := rfl
@[simp] theorem State.setReg_hst (a : Nat) (v : Word) : (s.setReg a v).hst = s.hst := rfl
@[simp] theorem State.setReg_buses (a : Nat) (v : Word) : (s.setReg a v).buses = s.buses := rfl
@[simp] theorem State.setReg_polls (a : Nat) (v : Word) : (s.setReg a v).polls = s.polls := rfl
@[simp] theorem State.setReg_od (a : Nat) (v : Word) : (s.setReg a v).od = s.od := rfl
@[simp] theorem State.setReg_nv (a : Nat) (v : Word) : (s.setReg a v).nv = s.nv := rfl
@[simp] theorem State.setReg_net (a : Nat) (v : Word) : (s.setReg a v).net = s.net := rfl
@[simp] theorem State.setReg_acq (a : Nat) (v : Word) : (s.setReg a v).acq = s.acq := rfl
@[simp] theorem State.setReg_cen (a : Nat) (v : Word) : (s.setReg a v).cen = s.cen := rfl
@[simp] theorem State.setReg_act (a : Nat) (v : Word) : (s.setReg a v).act = s.act := rfl
@[simp] theorem State.setReg_fan (a : Nat) (v : Word) : (s.setReg a v).fan = s.fan := rfl
@[simp] theorem State.setReg_zon (a : Nat) (v : Word) : (s.setReg a v).zon = s.zon := rfl
@[simp] theorem State.setReg_kpd (a : Nat) (v : Word) : (s.setReg a v).kpd = s.kpd := rfl
@[simp] theorem State.setReg_ldl (a : Nat) (v : Word) : (s.setReg a v).ldl = s.ldl := rfl
@[simp] theorem State.setReg_twn (a : Nat) (v : Word) : (s.setReg a v).twn = s.twn := rfl

@[simp] theorem State.setRf_pending (a lo w v : Nat) : (s.setRf a lo w v).pending = s.pending := rfl
@[simp] theorem State.setRf_variant (a lo w v : Nat) : (s.setRf a lo w v).variant = s.variant := rfl
@[simp] theorem State.setRf_fuse (a lo w v : Nat) : (s.setRf a lo w v).fuse = s.fuse := rfl
@[simp] theorem State.setRf_mem (a lo w v : Nat) : (s.setRf a lo w v).mem = s.mem := rfl
@[simp] theorem State.setRf_now (a lo w v : Nat) : (s.setRf a lo w v).now = s.now := rfl
@[simp] theorem State.setRf_free (a lo w v : Nat) : (s.setRf a lo w v).free = s.free := rfl
@[simp] theorem State.setRf_lastRead (a lo w v : Nat) : (s.setRf a lo w v).lastRead = s.lastRead := rfl
@[simp] theorem State.setRf_held (a lo w v : Nat) : (s.setRf a lo w v).held = s.held := rfl
@[simp] theorem State.setRf_log (a lo w v : Nat) : (s.setRf a lo w v).log = s.log := rfl
@[simp] theorem State.setRf_tb (a lo w v : Nat) : (s.setRf a lo w v).tb = s.tb := rfl
@[simp] theorem State.setRf_thm (a lo w v : Nat) : (s.setRf a lo w v).thm = s.thm := rfl
@[simp] theorem State.setRf_rtc (a lo w v : Nat) : (s.setRf a lo w v).rtc = s.rtc := rfl
@[simp] theorem State.setRf_knb (a lo w v : Nat) : (s.setRf a lo w v).knb = s.knb := rfl
@[simp] theorem State.setRf_pwr (a lo w v : Nat) : (s.setRf a lo w v).pwr = s.pwr := rfl
@[simp] theorem State.setRf_hst (a lo w v : Nat) : (s.setRf a lo w v).hst = s.hst := rfl
@[simp] theorem State.setRf_buses (a lo w v : Nat) : (s.setRf a lo w v).buses = s.buses := rfl
@[simp] theorem State.setRf_polls (a lo w v : Nat) : (s.setRf a lo w v).polls = s.polls := rfl
@[simp] theorem State.setRf_od (a lo w v : Nat) : (s.setRf a lo w v).od = s.od := rfl
@[simp] theorem State.setRf_nv (a lo w v : Nat) : (s.setRf a lo w v).nv = s.nv := rfl
@[simp] theorem State.setRf_net (a lo w v : Nat) : (s.setRf a lo w v).net = s.net := rfl
@[simp] theorem State.setRf_acq (a lo w v : Nat) : (s.setRf a lo w v).acq = s.acq := rfl
@[simp] theorem State.setRf_cen (a lo w v : Nat) : (s.setRf a lo w v).cen = s.cen := rfl
@[simp] theorem State.setRf_act (a lo w v : Nat) : (s.setRf a lo w v).act = s.act := rfl
@[simp] theorem State.setRf_fan (a lo w v : Nat) : (s.setRf a lo w v).fan = s.fan := rfl
@[simp] theorem State.setRf_zon (a lo w v : Nat) : (s.setRf a lo w v).zon = s.zon := rfl
@[simp] theorem State.setRf_kpd (a lo w v : Nat) : (s.setRf a lo w v).kpd = s.kpd := rfl
@[simp] theorem State.setRf_ldl (a lo w v : Nat) : (s.setRf a lo w v).ldl = s.ldl := rfl
@[simp] theorem State.setRf_twn (a lo w v : Nat) : (s.setRf a lo w v).twn = s.twn := rfl

@[simp] theorem State.setRb_pending (a i : Nat) (b : Bool) : (s.setRb a i b).pending = s.pending := rfl
@[simp] theorem State.setRb_variant (a i : Nat) (b : Bool) : (s.setRb a i b).variant = s.variant := rfl
@[simp] theorem State.setRb_fuse (a i : Nat) (b : Bool) : (s.setRb a i b).fuse = s.fuse := rfl
@[simp] theorem State.setRb_mem (a i : Nat) (b : Bool) : (s.setRb a i b).mem = s.mem := rfl
@[simp] theorem State.setRb_now (a i : Nat) (b : Bool) : (s.setRb a i b).now = s.now := rfl
@[simp] theorem State.setRb_free (a i : Nat) (b : Bool) : (s.setRb a i b).free = s.free := rfl
@[simp] theorem State.setRb_lastRead (a i : Nat) (b : Bool) : (s.setRb a i b).lastRead = s.lastRead := rfl
@[simp] theorem State.setRb_held (a i : Nat) (b : Bool) : (s.setRb a i b).held = s.held := rfl
@[simp] theorem State.setRb_log (a i : Nat) (b : Bool) : (s.setRb a i b).log = s.log := rfl
@[simp] theorem State.setRb_tb (a i : Nat) (b : Bool) : (s.setRb a i b).tb = s.tb := rfl
@[simp] theorem State.setRb_thm (a i : Nat) (b : Bool) : (s.setRb a i b).thm = s.thm := rfl
@[simp] theorem State.setRb_rtc (a i : Nat) (b : Bool) : (s.setRb a i b).rtc = s.rtc := rfl
@[simp] theorem State.setRb_knb (a i : Nat) (b : Bool) : (s.setRb a i b).knb = s.knb := rfl
@[simp] theorem State.setRb_pwr (a i : Nat) (b : Bool) : (s.setRb a i b).pwr = s.pwr := rfl
@[simp] theorem State.setRb_hst (a i : Nat) (b : Bool) : (s.setRb a i b).hst = s.hst := rfl
@[simp] theorem State.setRb_buses (a i : Nat) (b : Bool) : (s.setRb a i b).buses = s.buses := rfl
@[simp] theorem State.setRb_polls (a i : Nat) (b : Bool) : (s.setRb a i b).polls = s.polls := rfl
@[simp] theorem State.setRb_od (a i : Nat) (b : Bool) : (s.setRb a i b).od = s.od := rfl
@[simp] theorem State.setRb_nv (a i : Nat) (b : Bool) : (s.setRb a i b).nv = s.nv := rfl
@[simp] theorem State.setRb_net (a i : Nat) (b : Bool) : (s.setRb a i b).net = s.net := rfl
@[simp] theorem State.setRb_acq (a i : Nat) (b : Bool) : (s.setRb a i b).acq = s.acq := rfl
@[simp] theorem State.setRb_cen (a i : Nat) (b : Bool) : (s.setRb a i b).cen = s.cen := rfl
@[simp] theorem State.setRb_act (a i : Nat) (b : Bool) : (s.setRb a i b).act = s.act := rfl
@[simp] theorem State.setRb_fan (a i : Nat) (b : Bool) : (s.setRb a i b).fan = s.fan := rfl
@[simp] theorem State.setRb_zon (a i : Nat) (b : Bool) : (s.setRb a i b).zon = s.zon := rfl
@[simp] theorem State.setRb_kpd (a i : Nat) (b : Bool) : (s.setRb a i b).kpd = s.kpd := rfl
@[simp] theorem State.setRb_ldl (a i : Nat) (b : Bool) : (s.setRb a i b).ldl = s.ldl := rfl
@[simp] theorem State.setRb_twn (a i : Nat) (b : Bool) : (s.setRb a i b).twn = s.twn := rfl

@[simp] theorem State.orReg_pending (a : Nat) (m : Word) : (s.orReg a m).pending = s.pending := rfl
@[simp] theorem State.orReg_variant (a : Nat) (m : Word) : (s.orReg a m).variant = s.variant := rfl
@[simp] theorem State.orReg_fuse (a : Nat) (m : Word) : (s.orReg a m).fuse = s.fuse := rfl
@[simp] theorem State.orReg_mem (a : Nat) (m : Word) : (s.orReg a m).mem = s.mem := rfl
@[simp] theorem State.orReg_now (a : Nat) (m : Word) : (s.orReg a m).now = s.now := rfl
@[simp] theorem State.orReg_free (a : Nat) (m : Word) : (s.orReg a m).free = s.free := rfl
@[simp] theorem State.orReg_lastRead (a : Nat) (m : Word) : (s.orReg a m).lastRead = s.lastRead := rfl
@[simp] theorem State.orReg_held (a : Nat) (m : Word) : (s.orReg a m).held = s.held := rfl
@[simp] theorem State.orReg_log (a : Nat) (m : Word) : (s.orReg a m).log = s.log := rfl
@[simp] theorem State.orReg_tb (a : Nat) (m : Word) : (s.orReg a m).tb = s.tb := rfl
@[simp] theorem State.orReg_thm (a : Nat) (m : Word) : (s.orReg a m).thm = s.thm := rfl
@[simp] theorem State.orReg_rtc (a : Nat) (m : Word) : (s.orReg a m).rtc = s.rtc := rfl
@[simp] theorem State.orReg_knb (a : Nat) (m : Word) : (s.orReg a m).knb = s.knb := rfl
@[simp] theorem State.orReg_pwr (a : Nat) (m : Word) : (s.orReg a m).pwr = s.pwr := rfl
@[simp] theorem State.orReg_hst (a : Nat) (m : Word) : (s.orReg a m).hst = s.hst := rfl
@[simp] theorem State.orReg_buses (a : Nat) (m : Word) : (s.orReg a m).buses = s.buses := rfl
@[simp] theorem State.orReg_polls (a : Nat) (m : Word) : (s.orReg a m).polls = s.polls := rfl
@[simp] theorem State.orReg_od (a : Nat) (m : Word) : (s.orReg a m).od = s.od := rfl
@[simp] theorem State.orReg_nv (a : Nat) (m : Word) : (s.orReg a m).nv = s.nv := rfl
@[simp] theorem State.orReg_net (a : Nat) (m : Word) : (s.orReg a m).net = s.net := rfl
@[simp] theorem State.orReg_acq (a : Nat) (m : Word) : (s.orReg a m).acq = s.acq := rfl
@[simp] theorem State.orReg_cen (a : Nat) (m : Word) : (s.orReg a m).cen = s.cen := rfl
@[simp] theorem State.orReg_act (a : Nat) (m : Word) : (s.orReg a m).act = s.act := rfl
@[simp] theorem State.orReg_fan (a : Nat) (m : Word) : (s.orReg a m).fan = s.fan := rfl
@[simp] theorem State.orReg_zon (a : Nat) (m : Word) : (s.orReg a m).zon = s.zon := rfl
@[simp] theorem State.orReg_kpd (a : Nat) (m : Word) : (s.orReg a m).kpd = s.kpd := rfl
@[simp] theorem State.orReg_ldl (a : Nat) (m : Word) : (s.orReg a m).ldl = s.ldl := rfl
@[simp] theorem State.orReg_twn (a : Nat) (m : Word) : (s.orReg a m).twn = s.twn := rfl

@[simp] theorem State.clrReg_pending (a : Nat) (m : Word) : (s.clrReg a m).pending = s.pending := rfl
@[simp] theorem State.clrReg_variant (a : Nat) (m : Word) : (s.clrReg a m).variant = s.variant := rfl
@[simp] theorem State.clrReg_fuse (a : Nat) (m : Word) : (s.clrReg a m).fuse = s.fuse := rfl
@[simp] theorem State.clrReg_mem (a : Nat) (m : Word) : (s.clrReg a m).mem = s.mem := rfl
@[simp] theorem State.clrReg_now (a : Nat) (m : Word) : (s.clrReg a m).now = s.now := rfl
@[simp] theorem State.clrReg_free (a : Nat) (m : Word) : (s.clrReg a m).free = s.free := rfl
@[simp] theorem State.clrReg_lastRead (a : Nat) (m : Word) : (s.clrReg a m).lastRead = s.lastRead := rfl
@[simp] theorem State.clrReg_held (a : Nat) (m : Word) : (s.clrReg a m).held = s.held := rfl
@[simp] theorem State.clrReg_log (a : Nat) (m : Word) : (s.clrReg a m).log = s.log := rfl
@[simp] theorem State.clrReg_tb (a : Nat) (m : Word) : (s.clrReg a m).tb = s.tb := rfl
@[simp] theorem State.clrReg_thm (a : Nat) (m : Word) : (s.clrReg a m).thm = s.thm := rfl
@[simp] theorem State.clrReg_rtc (a : Nat) (m : Word) : (s.clrReg a m).rtc = s.rtc := rfl
@[simp] theorem State.clrReg_knb (a : Nat) (m : Word) : (s.clrReg a m).knb = s.knb := rfl
@[simp] theorem State.clrReg_pwr (a : Nat) (m : Word) : (s.clrReg a m).pwr = s.pwr := rfl
@[simp] theorem State.clrReg_hst (a : Nat) (m : Word) : (s.clrReg a m).hst = s.hst := rfl
@[simp] theorem State.clrReg_buses (a : Nat) (m : Word) : (s.clrReg a m).buses = s.buses := rfl
@[simp] theorem State.clrReg_polls (a : Nat) (m : Word) : (s.clrReg a m).polls = s.polls := rfl
@[simp] theorem State.clrReg_od (a : Nat) (m : Word) : (s.clrReg a m).od = s.od := rfl
@[simp] theorem State.clrReg_nv (a : Nat) (m : Word) : (s.clrReg a m).nv = s.nv := rfl
@[simp] theorem State.clrReg_net (a : Nat) (m : Word) : (s.clrReg a m).net = s.net := rfl
@[simp] theorem State.clrReg_acq (a : Nat) (m : Word) : (s.clrReg a m).acq = s.acq := rfl
@[simp] theorem State.clrReg_cen (a : Nat) (m : Word) : (s.clrReg a m).cen = s.cen := rfl
@[simp] theorem State.clrReg_act (a : Nat) (m : Word) : (s.clrReg a m).act = s.act := rfl
@[simp] theorem State.clrReg_fan (a : Nat) (m : Word) : (s.clrReg a m).fan = s.fan := rfl
@[simp] theorem State.clrReg_zon (a : Nat) (m : Word) : (s.clrReg a m).zon = s.zon := rfl
@[simp] theorem State.clrReg_kpd (a : Nat) (m : Word) : (s.clrReg a m).kpd = s.kpd := rfl
@[simp] theorem State.clrReg_ldl (a : Nat) (m : Word) : (s.clrReg a m).ldl = s.ldl := rfl
@[simp] theorem State.clrReg_twn (a : Nat) (m : Word) : (s.clrReg a m).twn = s.twn := rfl

@[simp] theorem State.incSat_pending (a k : Nat) : (s.incSat a k).pending = s.pending := rfl
@[simp] theorem State.incSat_variant (a k : Nat) : (s.incSat a k).variant = s.variant := rfl
@[simp] theorem State.incSat_fuse (a k : Nat) : (s.incSat a k).fuse = s.fuse := rfl
@[simp] theorem State.incSat_mem (a k : Nat) : (s.incSat a k).mem = s.mem := rfl
@[simp] theorem State.incSat_now (a k : Nat) : (s.incSat a k).now = s.now := rfl
@[simp] theorem State.incSat_free (a k : Nat) : (s.incSat a k).free = s.free := rfl
@[simp] theorem State.incSat_lastRead (a k : Nat) : (s.incSat a k).lastRead = s.lastRead := rfl
@[simp] theorem State.incSat_held (a k : Nat) : (s.incSat a k).held = s.held := rfl
@[simp] theorem State.incSat_log (a k : Nat) : (s.incSat a k).log = s.log := rfl
@[simp] theorem State.incSat_tb (a k : Nat) : (s.incSat a k).tb = s.tb := rfl
@[simp] theorem State.incSat_thm (a k : Nat) : (s.incSat a k).thm = s.thm := rfl
@[simp] theorem State.incSat_rtc (a k : Nat) : (s.incSat a k).rtc = s.rtc := rfl
@[simp] theorem State.incSat_knb (a k : Nat) : (s.incSat a k).knb = s.knb := rfl
@[simp] theorem State.incSat_pwr (a k : Nat) : (s.incSat a k).pwr = s.pwr := rfl
@[simp] theorem State.incSat_hst (a k : Nat) : (s.incSat a k).hst = s.hst := rfl
@[simp] theorem State.incSat_buses (a k : Nat) : (s.incSat a k).buses = s.buses := rfl
@[simp] theorem State.incSat_polls (a k : Nat) : (s.incSat a k).polls = s.polls := rfl
@[simp] theorem State.incSat_od (a k : Nat) : (s.incSat a k).od = s.od := rfl
@[simp] theorem State.incSat_nv (a k : Nat) : (s.incSat a k).nv = s.nv := rfl
@[simp] theorem State.incSat_net (a k : Nat) : (s.incSat a k).net = s.net := rfl
@[simp] theorem State.incSat_acq (a k : Nat) : (s.incSat a k).acq = s.acq := rfl
@[simp] theorem State.incSat_cen (a k : Nat) : (s.incSat a k).cen = s.cen := rfl
@[simp] theorem State.incSat_act (a k : Nat) : (s.incSat a k).act = s.act := rfl
@[simp] theorem State.incSat_fan (a k : Nat) : (s.incSat a k).fan = s.fan := rfl
@[simp] theorem State.incSat_zon (a k : Nat) : (s.incSat a k).zon = s.zon := rfl
@[simp] theorem State.incSat_kpd (a k : Nat) : (s.incSat a k).kpd = s.kpd := rfl
@[simp] theorem State.incSat_ldl (a k : Nat) : (s.incSat a k).ldl = s.ldl := rfl
@[simp] theorem State.incSat_twn (a k : Nat) : (s.incSat a k).twn = s.twn := rfl

@[simp] theorem State.incWrap_pending (a : Nat) : (s.incWrap a).pending = s.pending := rfl
@[simp] theorem State.incWrap_variant (a : Nat) : (s.incWrap a).variant = s.variant := rfl
@[simp] theorem State.incWrap_fuse (a : Nat) : (s.incWrap a).fuse = s.fuse := rfl
@[simp] theorem State.incWrap_mem (a : Nat) : (s.incWrap a).mem = s.mem := rfl
@[simp] theorem State.incWrap_now (a : Nat) : (s.incWrap a).now = s.now := rfl
@[simp] theorem State.incWrap_free (a : Nat) : (s.incWrap a).free = s.free := rfl
@[simp] theorem State.incWrap_lastRead (a : Nat) : (s.incWrap a).lastRead = s.lastRead := rfl
@[simp] theorem State.incWrap_held (a : Nat) : (s.incWrap a).held = s.held := rfl
@[simp] theorem State.incWrap_log (a : Nat) : (s.incWrap a).log = s.log := rfl
@[simp] theorem State.incWrap_tb (a : Nat) : (s.incWrap a).tb = s.tb := rfl
@[simp] theorem State.incWrap_thm (a : Nat) : (s.incWrap a).thm = s.thm := rfl
@[simp] theorem State.incWrap_rtc (a : Nat) : (s.incWrap a).rtc = s.rtc := rfl
@[simp] theorem State.incWrap_knb (a : Nat) : (s.incWrap a).knb = s.knb := rfl
@[simp] theorem State.incWrap_pwr (a : Nat) : (s.incWrap a).pwr = s.pwr := rfl
@[simp] theorem State.incWrap_hst (a : Nat) : (s.incWrap a).hst = s.hst := rfl
@[simp] theorem State.incWrap_buses (a : Nat) : (s.incWrap a).buses = s.buses := rfl
@[simp] theorem State.incWrap_polls (a : Nat) : (s.incWrap a).polls = s.polls := rfl
@[simp] theorem State.incWrap_od (a : Nat) : (s.incWrap a).od = s.od := rfl
@[simp] theorem State.incWrap_nv (a : Nat) : (s.incWrap a).nv = s.nv := rfl
@[simp] theorem State.incWrap_net (a : Nat) : (s.incWrap a).net = s.net := rfl
@[simp] theorem State.incWrap_acq (a : Nat) : (s.incWrap a).acq = s.acq := rfl
@[simp] theorem State.incWrap_cen (a : Nat) : (s.incWrap a).cen = s.cen := rfl
@[simp] theorem State.incWrap_act (a : Nat) : (s.incWrap a).act = s.act := rfl
@[simp] theorem State.incWrap_fan (a : Nat) : (s.incWrap a).fan = s.fan := rfl
@[simp] theorem State.incWrap_zon (a : Nat) : (s.incWrap a).zon = s.zon := rfl
@[simp] theorem State.incWrap_kpd (a : Nat) : (s.incWrap a).kpd = s.kpd := rfl
@[simp] theorem State.incWrap_ldl (a : Nat) : (s.incWrap a).ldl = s.ldl := rfl
@[simp] theorem State.incWrap_twn (a : Nat) : (s.incWrap a).twn = s.twn := rfl

@[simp] theorem State.keepRegs_pending (f : Nat → Bool) : (s.keepRegs f).pending = s.pending := rfl
@[simp] theorem State.keepRegs_variant (f : Nat → Bool) : (s.keepRegs f).variant = s.variant := rfl
@[simp] theorem State.keepRegs_fuse (f : Nat → Bool) : (s.keepRegs f).fuse = s.fuse := rfl
@[simp] theorem State.keepRegs_mem (f : Nat → Bool) : (s.keepRegs f).mem = s.mem := rfl
@[simp] theorem State.keepRegs_now (f : Nat → Bool) : (s.keepRegs f).now = s.now := rfl
@[simp] theorem State.keepRegs_free (f : Nat → Bool) : (s.keepRegs f).free = s.free := rfl
@[simp] theorem State.keepRegs_lastRead (f : Nat → Bool) : (s.keepRegs f).lastRead = s.lastRead := rfl
@[simp] theorem State.keepRegs_held (f : Nat → Bool) : (s.keepRegs f).held = s.held := rfl
@[simp] theorem State.keepRegs_log (f : Nat → Bool) : (s.keepRegs f).log = s.log := rfl
@[simp] theorem State.keepRegs_tb (f : Nat → Bool) : (s.keepRegs f).tb = s.tb := rfl
@[simp] theorem State.keepRegs_thm (f : Nat → Bool) : (s.keepRegs f).thm = s.thm := rfl
@[simp] theorem State.keepRegs_rtc (f : Nat → Bool) : (s.keepRegs f).rtc = s.rtc := rfl
@[simp] theorem State.keepRegs_knb (f : Nat → Bool) : (s.keepRegs f).knb = s.knb := rfl
@[simp] theorem State.keepRegs_pwr (f : Nat → Bool) : (s.keepRegs f).pwr = s.pwr := rfl
@[simp] theorem State.keepRegs_hst (f : Nat → Bool) : (s.keepRegs f).hst = s.hst := rfl
@[simp] theorem State.keepRegs_buses (f : Nat → Bool) : (s.keepRegs f).buses = s.buses := rfl
@[simp] theorem State.keepRegs_polls (f : Nat → Bool) : (s.keepRegs f).polls = s.polls := rfl
@[simp] theorem State.keepRegs_od (f : Nat → Bool) : (s.keepRegs f).od = s.od := rfl
@[simp] theorem State.keepRegs_nv (f : Nat → Bool) : (s.keepRegs f).nv = s.nv := rfl
@[simp] theorem State.keepRegs_net (f : Nat → Bool) : (s.keepRegs f).net = s.net := rfl
@[simp] theorem State.keepRegs_acq (f : Nat → Bool) : (s.keepRegs f).acq = s.acq := rfl
@[simp] theorem State.keepRegs_cen (f : Nat → Bool) : (s.keepRegs f).cen = s.cen := rfl
@[simp] theorem State.keepRegs_act (f : Nat → Bool) : (s.keepRegs f).act = s.act := rfl
@[simp] theorem State.keepRegs_fan (f : Nat → Bool) : (s.keepRegs f).fan = s.fan := rfl
@[simp] theorem State.keepRegs_zon (f : Nat → Bool) : (s.keepRegs f).zon = s.zon := rfl
@[simp] theorem State.keepRegs_kpd (f : Nat → Bool) : (s.keepRegs f).kpd = s.kpd := rfl
@[simp] theorem State.keepRegs_ldl (f : Nat → Bool) : (s.keepRegs f).ldl = s.ldl := rfl
@[simp] theorem State.keepRegs_twn (f : Nat → Bool) : (s.keepRegs f).twn = s.twn := rfl

@[simp] theorem State.hit_pending (b a : Nat) (h : Bool) : (s.hit b a h).pending = s.pending := rfl
@[simp] theorem State.hit_variant (b a : Nat) (h : Bool) : (s.hit b a h).variant = s.variant := rfl
@[simp] theorem State.hit_fuse (b a : Nat) (h : Bool) : (s.hit b a h).fuse = s.fuse := rfl
@[simp] theorem State.hit_mem (b a : Nat) (h : Bool) : (s.hit b a h).mem = s.mem := rfl
@[simp] theorem State.hit_now (b a : Nat) (h : Bool) : (s.hit b a h).now = s.now := rfl
@[simp] theorem State.hit_free (b a : Nat) (h : Bool) : (s.hit b a h).free = s.free := rfl
@[simp] theorem State.hit_lastRead (b a : Nat) (h : Bool) : (s.hit b a h).lastRead = s.lastRead := rfl
@[simp] theorem State.hit_held (b a : Nat) (h : Bool) : (s.hit b a h).held = s.held := rfl
@[simp] theorem State.hit_log (b a : Nat) (h : Bool) : (s.hit b a h).log = s.log := rfl
@[simp] theorem State.hit_tb (b a : Nat) (h : Bool) : (s.hit b a h).tb = s.tb := rfl
@[simp] theorem State.hit_thm (b a : Nat) (h : Bool) : (s.hit b a h).thm = s.thm := rfl
@[simp] theorem State.hit_rtc (b a : Nat) (h : Bool) : (s.hit b a h).rtc = s.rtc := rfl
@[simp] theorem State.hit_knb (b a : Nat) (h : Bool) : (s.hit b a h).knb = s.knb := rfl
@[simp] theorem State.hit_pwr (b a : Nat) (h : Bool) : (s.hit b a h).pwr = s.pwr := rfl
@[simp] theorem State.hit_hst (b a : Nat) (h : Bool) : (s.hit b a h).hst = s.hst := rfl
@[simp] theorem State.hit_buses (b a : Nat) (h : Bool) : (s.hit b a h).buses = s.buses := rfl
@[simp] theorem State.hit_polls (b a : Nat) (h : Bool) : (s.hit b a h).polls = s.polls := rfl
@[simp] theorem State.hit_od (b a : Nat) (h : Bool) : (s.hit b a h).od = s.od := rfl
@[simp] theorem State.hit_nv (b a : Nat) (h : Bool) : (s.hit b a h).nv = s.nv := rfl
@[simp] theorem State.hit_net (b a : Nat) (h : Bool) : (s.hit b a h).net = s.net := rfl
@[simp] theorem State.hit_acq (b a : Nat) (h : Bool) : (s.hit b a h).acq = s.acq := rfl
@[simp] theorem State.hit_cen (b a : Nat) (h : Bool) : (s.hit b a h).cen = s.cen := rfl
@[simp] theorem State.hit_act (b a : Nat) (h : Bool) : (s.hit b a h).act = s.act := rfl
@[simp] theorem State.hit_fan (b a : Nat) (h : Bool) : (s.hit b a h).fan = s.fan := rfl
@[simp] theorem State.hit_zon (b a : Nat) (h : Bool) : (s.hit b a h).zon = s.zon := rfl
@[simp] theorem State.hit_kpd (b a : Nat) (h : Bool) : (s.hit b a h).kpd = s.kpd := rfl
@[simp] theorem State.hit_ldl (b a : Nat) (h : Bool) : (s.hit b a h).ldl = s.ldl := rfl
@[simp] theorem State.hit_twn (b a : Nat) (h : Bool) : (s.hit b a h).twn = s.twn := rfl

@[simp] theorem State.setByte_pending (a : Nat) (v : Byte) : (s.setByte a v).pending = s.pending := rfl
@[simp] theorem State.setByte_variant (a : Nat) (v : Byte) : (s.setByte a v).variant = s.variant := rfl
@[simp] theorem State.setByte_fuse (a : Nat) (v : Byte) : (s.setByte a v).fuse = s.fuse := rfl
@[simp] theorem State.setByte_regs (a : Nat) (v : Byte) : (s.setByte a v).regs = s.regs := rfl
@[simp] theorem State.setByte_now (a : Nat) (v : Byte) : (s.setByte a v).now = s.now := rfl
@[simp] theorem State.setByte_free (a : Nat) (v : Byte) : (s.setByte a v).free = s.free := rfl
@[simp] theorem State.setByte_lastRead (a : Nat) (v : Byte) : (s.setByte a v).lastRead = s.lastRead := rfl
@[simp] theorem State.setByte_held (a : Nat) (v : Byte) : (s.setByte a v).held = s.held := rfl
@[simp] theorem State.setByte_log (a : Nat) (v : Byte) : (s.setByte a v).log = s.log := rfl
@[simp] theorem State.setByte_tb (a : Nat) (v : Byte) : (s.setByte a v).tb = s.tb := rfl
@[simp] theorem State.setByte_thm (a : Nat) (v : Byte) : (s.setByte a v).thm = s.thm := rfl
@[simp] theorem State.setByte_rtc (a : Nat) (v : Byte) : (s.setByte a v).rtc = s.rtc := rfl
@[simp] theorem State.setByte_knb (a : Nat) (v : Byte) : (s.setByte a v).knb = s.knb := rfl
@[simp] theorem State.setByte_pwr (a : Nat) (v : Byte) : (s.setByte a v).pwr = s.pwr := rfl
@[simp] theorem State.setByte_hst (a : Nat) (v : Byte) : (s.setByte a v).hst = s.hst := rfl
@[simp] theorem State.setByte_buses (a : Nat) (v : Byte) : (s.setByte a v).buses = s.buses := rfl
@[simp] theorem State.setByte_polls (a : Nat) (v : Byte) : (s.setByte a v).polls = s.polls := rfl
@[simp] theorem State.setByte_od (a : Nat) (v : Byte) : (s.setByte a v).od = s.od := rfl
@[simp] theorem State.setByte_nv (a : Nat) (v : Byte) : (s.setByte a v).nv = s.nv := rfl
@[simp] theorem State.setByte_net (a : Nat) (v : Byte) : (s.setByte a v).net = s.net := rfl
@[simp] theorem State.setByte_acq (a : Nat) (v : Byte) : (s.setByte a v).acq = s.acq := rfl
@[simp] theorem State.setByte_cen (a : Nat) (v : Byte) : (s.setByte a v).cen = s.cen := rfl
@[simp] theorem State.setByte_act (a : Nat) (v : Byte) : (s.setByte a v).act = s.act := rfl
@[simp] theorem State.setByte_fan (a : Nat) (v : Byte) : (s.setByte a v).fan = s.fan := rfl
@[simp] theorem State.setByte_zon (a : Nat) (v : Byte) : (s.setByte a v).zon = s.zon := rfl
@[simp] theorem State.setByte_kpd (a : Nat) (v : Byte) : (s.setByte a v).kpd = s.kpd := rfl
@[simp] theorem State.setByte_ldl (a : Nat) (v : Byte) : (s.setByte a v).ldl = s.ldl := rfl
@[simp] theorem State.setByte_twn (a : Nat) (v : Byte) : (s.setByte a v).twn = s.twn := rfl

@[simp] theorem State.setBytes_pending (a : Nat) (l : List Byte) : (s.setBytes a l).pending = s.pending := by
  induction l generalizing s a with
  | nil => rfl
  | cons b t ih => simpa [State.setBytes] using ih (s.setByte a b) (a + 1)
@[simp] theorem State.setBytes_variant (a : Nat) (l : List Byte) : (s.setBytes a l).variant = s.variant := by
  induction l generalizing s a with
  | nil => rfl
  | cons b t ih => simpa [State.setBytes] using ih (s.setByte a b) (a + 1)
@[simp] theorem State.setBytes_fuse (a : Nat) (l : List Byte) : (s.setBytes a l).fuse = s.fuse := by
  induction l generalizing s a with
  | nil => rfl
  | cons b t ih => simpa [State.setBytes] using ih (s.setByte a b) (a + 1)
@[simp] theorem State.setBytes_regs (a : Nat) (l : List Byte) : (s.setBytes a l).regs = s.regs := by
  induction l generalizing s a with
  | nil => rfl
  | cons b t ih => simpa [State.setBytes] using ih (s.setByte a b) (a + 1)
@[simp] theorem State.setBytes_now (a : Nat) (l : List Byte) : (s.setBytes a l).now = s.now := by
  induction l generalizing s a with
  | nil => rfl
  | cons b t ih => simpa [State.setBytes] using ih (s.setByte a b) (a + 1)
@[simp] theorem State.setBytes_free (a : Nat) (l : List Byte) : (s.setBytes a l).free = s.free := by
  induction l generalizing s a with
  | nil => rfl
  | cons b t ih => simpa [State.setBytes] using ih (s.setByte a b) (a + 1)
@[simp] theorem State.setBytes_lastRead (a : Nat) (l : List Byte) : (s.setBytes a l).lastRead = s.lastRead := by
  induction l generalizing s a with
  | nil => rfl
  | cons b t ih => simpa [State.setBytes] using ih (s.setByte a b) (a + 1)
@[simp] theorem State.setBytes_held (a : Nat) (l : List Byte) : (s.setBytes a l).held = s.held := by
  induction l generalizing s a with
  | nil => rfl
  | cons b t ih => simpa [State.setBytes] using ih (s.setByte a b) (a + 1)
@[simp] theorem State.setBytes_log (a : Nat) (l : List Byte) : (s.setBytes a l).log = s.log := by
  induction l generalizing s a with
  | nil => rfl
  | cons b t ih => simpa [State.setBytes] using ih (s.setByte a b) (a + 1)
@[simp] theorem State.setBytes_tb (a : Nat) (l : List Byte) : (s.setBytes a l).tb = s.tb := by
  induction l generalizing s a with
  | nil => rfl
  | cons b t ih => simpa [State.setBytes] using ih (s.setByte a b) (a + 1)
@[simp] theorem State.setBytes_thm (a : Nat) (l : List Byte) : (s.setBytes a l).thm = s.thm := by
  induction l generalizing s a with
  | nil => rfl
  | cons b t ih => simpa [State.setBytes] using ih (s.setByte a b) (a + 1)
@[simp] theorem State.setBytes_rtc (a : Nat) (l : List Byte) : (s.setBytes a l).rtc = s.rtc := by
  induction l generalizing s a with
  | nil => rfl
  | cons b t ih => simpa [State.setBytes] using ih (s.setByte a b) (a + 1)
@[simp] theorem State.setBytes_knb (a : Nat) (l : List Byte) : (s.setBytes a l).knb = s.knb := by
  induction l generalizing s a with
  | nil => rfl
  | cons b t ih => simpa [State.setBytes] using ih (s.setByte a b) (a + 1)
@[simp] theorem State.setBytes_pwr (a : Nat) (l : List Byte) : (s.setBytes a l).pwr = s.pwr := by
  induction l generalizing s a with
  | nil => rfl
  | cons b t ih => simpa [State.setBytes] using ih (s.setByte a b) (a + 1)
@[simp] theorem State.setBytes_hst (a : Nat) (l : List Byte) : (s.setBytes a l).hst = s.hst := by
  induction l generalizing s a with
  | nil => rfl
  | cons b t ih => simpa [State.setBytes] using ih (s.setByte a b) (a + 1)
@[simp] theorem State.setBytes_buses (a : Nat) (l : List Byte) : (s.setBytes a l).buses = s.buses := by
  induction l generalizing s a with
  | nil => rfl
  | cons b t ih => simpa [State.setBytes] using ih (s.setByte a b) (a + 1)
@[simp] theorem State.setBytes_polls (a : Nat) (l : List Byte) : (s.setBytes a l).polls = s.polls := by
  induction l generalizing s a with
  | nil => rfl
  | cons b t ih => simpa [State.setBytes] using ih (s.setByte a b) (a + 1)
@[simp] theorem State.setBytes_od (a : Nat) (l : List Byte) : (s.setBytes a l).od = s.od := by
  induction l generalizing s a with
  | nil => rfl
  | cons b t ih => simpa [State.setBytes] using ih (s.setByte a b) (a + 1)
@[simp] theorem State.setBytes_nv (a : Nat) (l : List Byte) : (s.setBytes a l).nv = s.nv := by
  induction l generalizing s a with
  | nil => rfl
  | cons b t ih => simpa [State.setBytes] using ih (s.setByte a b) (a + 1)
@[simp] theorem State.setBytes_net (a : Nat) (l : List Byte) : (s.setBytes a l).net = s.net := by
  induction l generalizing s a with
  | nil => rfl
  | cons b t ih => simpa [State.setBytes] using ih (s.setByte a b) (a + 1)
@[simp] theorem State.setBytes_acq (a : Nat) (l : List Byte) : (s.setBytes a l).acq = s.acq := by
  induction l generalizing s a with
  | nil => rfl
  | cons b t ih => simpa [State.setBytes] using ih (s.setByte a b) (a + 1)
@[simp] theorem State.setBytes_cen (a : Nat) (l : List Byte) : (s.setBytes a l).cen = s.cen := by
  induction l generalizing s a with
  | nil => rfl
  | cons b t ih => simpa [State.setBytes] using ih (s.setByte a b) (a + 1)
@[simp] theorem State.setBytes_act (a : Nat) (l : List Byte) : (s.setBytes a l).act = s.act := by
  induction l generalizing s a with
  | nil => rfl
  | cons b t ih => simpa [State.setBytes] using ih (s.setByte a b) (a + 1)
@[simp] theorem State.setBytes_fan (a : Nat) (l : List Byte) : (s.setBytes a l).fan = s.fan := by
  induction l generalizing s a with
  | nil => rfl
  | cons b t ih => simpa [State.setBytes] using ih (s.setByte a b) (a + 1)
@[simp] theorem State.setBytes_zon (a : Nat) (l : List Byte) : (s.setBytes a l).zon = s.zon := by
  induction l generalizing s a with
  | nil => rfl
  | cons b t ih => simpa [State.setBytes] using ih (s.setByte a b) (a + 1)
@[simp] theorem State.setBytes_kpd (a : Nat) (l : List Byte) : (s.setBytes a l).kpd = s.kpd := by
  induction l generalizing s a with
  | nil => rfl
  | cons b t ih => simpa [State.setBytes] using ih (s.setByte a b) (a + 1)
@[simp] theorem State.setBytes_ldl (a : Nat) (l : List Byte) : (s.setBytes a l).ldl = s.ldl := by
  induction l generalizing s a with
  | nil => rfl
  | cons b t ih => simpa [State.setBytes] using ih (s.setByte a b) (a + 1)
@[simp] theorem State.setBytes_twn (a : Nat) (l : List Byte) : (s.setBytes a l).twn = s.twn := by
  induction l generalizing s a with
  | nil => rfl
  | cons b t ih => simpa [State.setBytes] using ih (s.setByte a b) (a + 1)

@[simp] theorem State.setWord_pending (a : Nat) (v : Word) : (s.setWord a v).pending = s.pending := by simp [State.setWord]
@[simp] theorem State.setWord_variant (a : Nat) (v : Word) : (s.setWord a v).variant = s.variant := by simp [State.setWord]
@[simp] theorem State.setWord_fuse (a : Nat) (v : Word) : (s.setWord a v).fuse = s.fuse := by simp [State.setWord]
@[simp] theorem State.setWord_regs (a : Nat) (v : Word) : (s.setWord a v).regs = s.regs := by simp [State.setWord]
@[simp] theorem State.setWord_now (a : Nat) (v : Word) : (s.setWord a v).now = s.now := by simp [State.setWord]
@[simp] theorem State.setWord_free (a : Nat) (v : Word) : (s.setWord a v).free = s.free := by simp [State.setWord]
@[simp] theorem State.setWord_lastRead (a : Nat) (v : Word) : (s.setWord a v).lastRead = s.lastRead := by simp [State.setWord]
@[simp] theorem State.setWord_held (a : Nat) (v : Word) : (s.setWord a v).held = s.held := by simp [State.setWord]
@[simp] theorem State.setWord_log (a : Nat) (v : Word) : (s.setWord a v).log = s.log := by simp [State.setWord]
@[simp] theorem State.setWord_tb (a : Nat) (v : Word) : (s.setWord a v).tb = s.tb := by simp [State.setWord]
@[simp] theorem State.setWord_thm (a : Nat) (v : Word) : (s.setWord a v).thm = s.thm := by simp [State.setWord]
@[simp] theorem State.setWord_rtc (a : Nat) (v : Word) : (s.setWord a v).rtc = s.rtc := by simp [State.setWord]
@[simp] theorem State.setWord_knb (a : Nat) (v : Word) : (s.setWord a v).knb = s.knb := by simp [State.setWord]
@[simp] theorem State.setWord_pwr (a : Nat) (v : Word) : (s.setWord a v).pwr = s.pwr := by simp [State.setWord]
@[simp] theorem State.setWord_hst (a : Nat) (v : Word) : (s.setWord a v).hst = s.hst := by simp [State.setWord]
@[simp] theorem State.setWord_buses (a : Nat) (v : Word) : (s.setWord a v).buses = s.buses := by simp [State.setWord]
@[simp] theorem State.setWord_polls (a : Nat) (v : Word) : (s.setWord a v).polls = s.polls := by simp [State.setWord]
@[simp] theorem State.setWord_od (a : Nat) (v : Word) : (s.setWord a v).od = s.od := by simp [State.setWord]
@[simp] theorem State.setWord_nv (a : Nat) (v : Word) : (s.setWord a v).nv = s.nv := by simp [State.setWord]
@[simp] theorem State.setWord_net (a : Nat) (v : Word) : (s.setWord a v).net = s.net := by simp [State.setWord]
@[simp] theorem State.setWord_acq (a : Nat) (v : Word) : (s.setWord a v).acq = s.acq := by simp [State.setWord]
@[simp] theorem State.setWord_cen (a : Nat) (v : Word) : (s.setWord a v).cen = s.cen := by simp [State.setWord]
@[simp] theorem State.setWord_act (a : Nat) (v : Word) : (s.setWord a v).act = s.act := by simp [State.setWord]
@[simp] theorem State.setWord_fan (a : Nat) (v : Word) : (s.setWord a v).fan = s.fan := by simp [State.setWord]
@[simp] theorem State.setWord_zon (a : Nat) (v : Word) : (s.setWord a v).zon = s.zon := by simp [State.setWord]
@[simp] theorem State.setWord_kpd (a : Nat) (v : Word) : (s.setWord a v).kpd = s.kpd := by simp [State.setWord]
@[simp] theorem State.setWord_ldl (a : Nat) (v : Word) : (s.setWord a v).ldl = s.ldl := by simp [State.setWord]
@[simp] theorem State.setWord_twn (a : Nat) (v : Word) : (s.setWord a v).twn = s.twn := by simp [State.setWord]

@[simp] theorem State.setSword_pending (a : Nat) (v : Int) : (s.setSword a v).pending = s.pending := by simp [State.setSword]
@[simp] theorem State.setSword_variant (a : Nat) (v : Int) : (s.setSword a v).variant = s.variant := by simp [State.setSword]
@[simp] theorem State.setSword_fuse (a : Nat) (v : Int) : (s.setSword a v).fuse = s.fuse := by simp [State.setSword]
@[simp] theorem State.setSword_regs (a : Nat) (v : Int) : (s.setSword a v).regs = s.regs := by simp [State.setSword]
@[simp] theorem State.setSword_now (a : Nat) (v : Int) : (s.setSword a v).now = s.now := by simp [State.setSword]
@[simp] theorem State.setSword_free (a : Nat) (v : Int) : (s.setSword a v).free = s.free := by simp [State.setSword]
@[simp] theorem State.setSword_lastRead (a : Nat) (v : Int) : (s.setSword a v).lastRead = s.lastRead := by simp [State.setSword]
@[simp] theorem State.setSword_held (a : Nat) (v : Int) : (s.setSword a v).held = s.held := by simp [State.setSword]
@[simp] theorem State.setSword_log (a : Nat) (v : Int) : (s.setSword a v).log = s.log := by simp [State.setSword]
@[simp] theorem State.setSword_tb (a : Nat) (v : Int) : (s.setSword a v).tb = s.tb := by simp [State.setSword]
@[simp] theorem State.setSword_thm (a : Nat) (v : Int) : (s.setSword a v).thm = s.thm := by simp [State.setSword]
@[simp] theorem State.setSword_rtc (a : Nat) (v : Int) : (s.setSword a v).rtc = s.rtc := by simp [State.setSword]
@[simp] theorem State.setSword_knb (a : Nat) (v : Int) : (s.setSword a v).knb = s.knb := by simp [State.setSword]
@[simp] theorem State.setSword_pwr (a : Nat) (v : Int) : (s.setSword a v).pwr = s.pwr := by simp [State.setSword]
@[simp] theorem State.setSword_hst (a : Nat) (v : Int) : (s.setSword a v).hst = s.hst := by simp [State.setSword]
@[simp] theorem State.setSword_buses (a : Nat) (v : Int) : (s.setSword a v).buses = s.buses := by simp [State.setSword]
@[simp] theorem State.setSword_polls (a : Nat) (v : Int) : (s.setSword a v).polls = s.polls := by simp [State.setSword]
@[simp] theorem State.setSword_od (a : Nat) (v : Int) : (s.setSword a v).od = s.od := by simp [State.setSword]
@[simp] theorem State.setSword_nv (a : Nat) (v : Int) : (s.setSword a v).nv = s.nv := by simp [State.setSword]
@[simp] theorem State.setSword_net (a : Nat) (v : Int) : (s.setSword a v).net = s.net := by simp [State.setSword]
@[simp] theorem State.setSword_acq (a : Nat) (v : Int) : (s.setSword a v).acq = s.acq := by simp [State.setSword]
@[simp] theorem State.setSword_cen (a : Nat) (v : Int) : (s.setSword a v).cen = s.cen := by simp [State.setSword]
@[simp] theorem State.setSword_act (a : Nat) (v : Int) : (s.setSword a v).act = s.act := by simp [State.setSword]
@[simp] theorem State.setSword_fan (a : Nat) (v : Int) : (s.setSword a v).fan = s.fan := by simp [State.setSword]
@[simp] theorem State.setSword_zon (a : Nat) (v : Int) : (s.setSword a v).zon = s.zon := by simp [State.setSword]
@[simp] theorem State.setSword_kpd (a : Nat) (v : Int) : (s.setSword a v).kpd = s.kpd := by simp [State.setSword]
@[simp] theorem State.setSword_ldl (a : Nat) (v : Int) : (s.setSword a v).ldl = s.ldl := by simp [State.setSword]
@[simp] theorem State.setSword_twn (a : Nat) (v : Int) : (s.setSword a v).twn = s.twn := by simp [State.setSword]

@[simp] theorem State.clearMem_pending (lo hi : Nat) : (s.clearMem lo hi).pending = s.pending := rfl
@[simp] theorem State.clearMem_variant (lo hi : Nat) : (s.clearMem lo hi).variant = s.variant := rfl
@[simp] theorem State.clearMem_fuse (lo hi : Nat) : (s.clearMem lo hi).fuse = s.fuse := rfl
@[simp] theorem State.clearMem_regs (lo hi : Nat) : (s.clearMem lo hi).regs = s.regs := rfl
@[simp] theorem State.clearMem_now (lo hi : Nat) : (s.clearMem lo hi).now = s.now := rfl
@[simp] theorem State.clearMem_free (lo hi : Nat) : (s.clearMem lo hi).free = s.free := rfl
@[simp] theorem State.clearMem_lastRead (lo hi : Nat) : (s.clearMem lo hi).lastRead = s.lastRead := rfl
@[simp] theorem State.clearMem_held (lo hi : Nat) : (s.clearMem lo hi).held = s.held := rfl
@[simp] theorem State.clearMem_log (lo hi : Nat) : (s.clearMem lo hi).log = s.log := rfl
@[simp] theorem State.clearMem_tb (lo hi : Nat) : (s.clearMem lo hi).tb = s.tb := rfl
@[simp] theorem State.clearMem_thm (lo hi : Nat) : (s.clearMem lo hi).thm = s.thm := rfl
@[simp] theorem State.clearMem_rtc (lo hi : Nat) : (s.clearMem lo hi).rtc = s.rtc := rfl
@[simp] theorem State.clearMem_knb (lo hi : Nat) : (s.clearMem lo hi).knb = s.knb := rfl
@[simp] theorem State.clearMem_pwr (lo hi : Nat) : (s.clearMem lo hi).pwr = s.pwr := rfl
@[simp] theorem State.clearMem_hst (lo hi : Nat) : (s.clearMem lo hi).hst = s.hst := rfl
@[simp] theorem State.clearMem_buses (lo hi : Nat) : (s.clearMem lo hi).buses = s.buses := rfl
@[simp] theorem State.clearMem_polls (lo hi : Nat) : (s.clearMem lo hi).polls = s.polls := rfl
@[simp] theorem State.clearMem_od (lo hi : Nat) : (s.clearMem lo hi).od = s.od := rfl
@[simp] theorem State.clearMem_nv (lo hi : Nat) : (s.clearMem lo hi).nv = s.nv := rfl
@[simp] theorem State.clearMem_net (lo hi : Nat) : (s.clearMem lo hi).net = s.net := rfl
@[simp] theorem State.clearMem_acq (lo hi : Nat) : (s.clearMem lo hi).acq = s.acq := rfl
@[simp] theorem State.clearMem_cen (lo hi : Nat) : (s.clearMem lo hi).cen = s.cen := rfl
@[simp] theorem State.clearMem_act (lo hi : Nat) : (s.clearMem lo hi).act = s.act := rfl
@[simp] theorem State.clearMem_fan (lo hi : Nat) : (s.clearMem lo hi).fan = s.fan := rfl
@[simp] theorem State.clearMem_zon (lo hi : Nat) : (s.clearMem lo hi).zon = s.zon := rfl
@[simp] theorem State.clearMem_kpd (lo hi : Nat) : (s.clearMem lo hi).kpd = s.kpd := rfl
@[simp] theorem State.clearMem_ldl (lo hi : Nat) : (s.clearMem lo hi).ldl = s.ldl := rfl
@[simp] theorem State.clearMem_twn (lo hi : Nat) : (s.clearMem lo hi).twn = s.twn := rfl

@[simp] theorem State.setChan_pending (c : Nat) (v : ChanSt) : (s.setChan c v).pending = s.pending := rfl
@[simp] theorem State.setChan_variant (c : Nat) (v : ChanSt) : (s.setChan c v).variant = s.variant := rfl
@[simp] theorem State.setChan_fuse (c : Nat) (v : ChanSt) : (s.setChan c v).fuse = s.fuse := rfl
@[simp] theorem State.setChan_regs (c : Nat) (v : ChanSt) : (s.setChan c v).regs = s.regs := rfl
@[simp] theorem State.setChan_mem (c : Nat) (v : ChanSt) : (s.setChan c v).mem = s.mem := rfl
@[simp] theorem State.setChan_now (c : Nat) (v : ChanSt) : (s.setChan c v).now = s.now := rfl
@[simp] theorem State.setChan_free (c : Nat) (v : ChanSt) : (s.setChan c v).free = s.free := rfl
@[simp] theorem State.setChan_lastRead (c : Nat) (v : ChanSt) : (s.setChan c v).lastRead = s.lastRead := rfl
@[simp] theorem State.setChan_held (c : Nat) (v : ChanSt) : (s.setChan c v).held = s.held := rfl
@[simp] theorem State.setChan_log (c : Nat) (v : ChanSt) : (s.setChan c v).log = s.log := rfl
@[simp] theorem State.setChan_tb (c : Nat) (v : ChanSt) : (s.setChan c v).tb = s.tb := rfl
@[simp] theorem State.setChan_thm (c : Nat) (v : ChanSt) : (s.setChan c v).thm = s.thm := rfl
@[simp] theorem State.setChan_rtc (c : Nat) (v : ChanSt) : (s.setChan c v).rtc = s.rtc := rfl
@[simp] theorem State.setChan_knb (c : Nat) (v : ChanSt) : (s.setChan c v).knb = s.knb := rfl
@[simp] theorem State.setChan_pwr (c : Nat) (v : ChanSt) : (s.setChan c v).pwr = s.pwr := rfl
@[simp] theorem State.setChan_hst (c : Nat) (v : ChanSt) : (s.setChan c v).hst = s.hst := rfl
@[simp] theorem State.setChan_buses (c : Nat) (v : ChanSt) : (s.setChan c v).buses = s.buses := rfl
@[simp] theorem State.setChan_polls (c : Nat) (v : ChanSt) : (s.setChan c v).polls = s.polls := rfl
@[simp] theorem State.setChan_od (c : Nat) (v : ChanSt) : (s.setChan c v).od = s.od := rfl
@[simp] theorem State.setChan_nv (c : Nat) (v : ChanSt) : (s.setChan c v).nv = s.nv := rfl
@[simp] theorem State.setChan_net (c : Nat) (v : ChanSt) : (s.setChan c v).net = s.net := rfl
@[simp] theorem State.setChan_cen (c : Nat) (v : ChanSt) : (s.setChan c v).cen = s.cen := rfl
@[simp] theorem State.setChan_act (c : Nat) (v : ChanSt) : (s.setChan c v).act = s.act := rfl
@[simp] theorem State.setChan_fan (c : Nat) (v : ChanSt) : (s.setChan c v).fan = s.fan := rfl
@[simp] theorem State.setChan_zon (c : Nat) (v : ChanSt) : (s.setChan c v).zon = s.zon := rfl
@[simp] theorem State.setChan_kpd (c : Nat) (v : ChanSt) : (s.setChan c v).kpd = s.kpd := rfl
@[simp] theorem State.setChan_ldl (c : Nat) (v : ChanSt) : (s.setChan c v).ldl = s.ldl := rfl
@[simp] theorem State.setChan_twn (c : Nat) (v : ChanSt) : (s.setChan c v).twn = s.twn := rfl

@[simp] theorem State.setDec_pending (c : Nat) (v : DecSt) : (s.setDec c v).pending = s.pending := rfl
@[simp] theorem State.setDec_variant (c : Nat) (v : DecSt) : (s.setDec c v).variant = s.variant := rfl
@[simp] theorem State.setDec_fuse (c : Nat) (v : DecSt) : (s.setDec c v).fuse = s.fuse := rfl
@[simp] theorem State.setDec_regs (c : Nat) (v : DecSt) : (s.setDec c v).regs = s.regs := rfl
@[simp] theorem State.setDec_mem (c : Nat) (v : DecSt) : (s.setDec c v).mem = s.mem := rfl
@[simp] theorem State.setDec_now (c : Nat) (v : DecSt) : (s.setDec c v).now = s.now := rfl
@[simp] theorem State.setDec_free (c : Nat) (v : DecSt) : (s.setDec c v).free = s.free := rfl
@[simp] theorem State.setDec_lastRead (c : Nat) (v : DecSt) : (s.setDec c v).lastRead = s.lastRead := rfl
@[simp] theorem State.setDec_held (c : Nat) (v : DecSt) : (s.setDec c v).held = s.held := rfl
@[simp] theorem State.setDec_log (c : Nat) (v : DecSt) : (s.setDec c v).log = s.log := rfl
@[simp] theorem State.setDec_tb (c : Nat) (v : DecSt) : (s.setDec c v).tb = s.tb := rfl
@[simp] theorem State.setDec_thm (c : Nat) (v : DecSt) : (s.setDec c v).thm = s.thm := rfl
@[simp] theorem State.setDec_rtc (c : Nat) (v : DecSt) : (s.setDec c v).rtc = s.rtc := rfl
@[simp] theorem State.setDec_knb (c : Nat) (v : DecSt) : (s.setDec c v).knb = s.knb := rfl
@[simp] theorem State.setDec_pwr (c : Nat) (v : DecSt) : (s.setDec c v).pwr = s.pwr := rfl
@[simp] theorem State.setDec_hst (c : Nat) (v : DecSt) : (s.setDec c v).hst = s.hst := rfl
@[simp] theorem State.setDec_buses (c : Nat) (v : DecSt) : (s.setDec c v).buses = s.buses := rfl
@[simp] theorem State.setDec_polls (c : Nat) (v : DecSt) : (s.setDec c v).polls = s.polls := rfl
@[simp] theorem State.setDec_od (c : Nat) (v : DecSt) : (s.setDec c v).od = s.od := rfl
@[simp] theorem State.setDec_nv (c : Nat) (v : DecSt) : (s.setDec c v).nv = s.nv := rfl
@[simp] theorem State.setDec_net (c : Nat) (v : DecSt) : (s.setDec c v).net = s.net := rfl
@[simp] theorem State.setDec_cen (c : Nat) (v : DecSt) : (s.setDec c v).cen = s.cen := rfl
@[simp] theorem State.setDec_act (c : Nat) (v : DecSt) : (s.setDec c v).act = s.act := rfl
@[simp] theorem State.setDec_fan (c : Nat) (v : DecSt) : (s.setDec c v).fan = s.fan := rfl
@[simp] theorem State.setDec_zon (c : Nat) (v : DecSt) : (s.setDec c v).zon = s.zon := rfl
@[simp] theorem State.setDec_kpd (c : Nat) (v : DecSt) : (s.setDec c v).kpd = s.kpd := rfl
@[simp] theorem State.setDec_ldl (c : Nat) (v : DecSt) : (s.setDec c v).ldl = s.ldl := rfl
@[simp] theorem State.setDec_twn (c : Nat) (v : DecSt) : (s.setDec c v).twn = s.twn := rfl

@[simp] theorem State.setSlice_pending (c : Nat) (v : SliceSt) : (s.setSlice c v).pending = s.pending := rfl
@[simp] theorem State.setSlice_variant (c : Nat) (v : SliceSt) : (s.setSlice c v).variant = s.variant := rfl
@[simp] theorem State.setSlice_fuse (c : Nat) (v : SliceSt) : (s.setSlice c v).fuse = s.fuse := rfl
@[simp] theorem State.setSlice_regs (c : Nat) (v : SliceSt) : (s.setSlice c v).regs = s.regs := rfl
@[simp] theorem State.setSlice_mem (c : Nat) (v : SliceSt) : (s.setSlice c v).mem = s.mem := rfl
@[simp] theorem State.setSlice_now (c : Nat) (v : SliceSt) : (s.setSlice c v).now = s.now := rfl
@[simp] theorem State.setSlice_free (c : Nat) (v : SliceSt) : (s.setSlice c v).free = s.free := rfl
@[simp] theorem State.setSlice_lastRead (c : Nat) (v : SliceSt) : (s.setSlice c v).lastRead = s.lastRead := rfl
@[simp] theorem State.setSlice_held (c : Nat) (v : SliceSt) : (s.setSlice c v).held = s.held := rfl
@[simp] theorem State.setSlice_log (c : Nat) (v : SliceSt) : (s.setSlice c v).log = s.log := rfl
@[simp] theorem State.setSlice_tb (c : Nat) (v : SliceSt) : (s.setSlice c v).tb = s.tb := rfl
@[simp] theorem State.setSlice_thm (c : Nat) (v : SliceSt) : (s.setSlice c v).thm = s.thm := rfl
@[simp] theorem State.setSlice_rtc (c : Nat) (v : SliceSt) : (s.setSlice c v).rtc = s.rtc := rfl
@[simp] theorem State.setSlice_knb (c : Nat) (v : SliceSt) : (s.setSlice c v).knb = s.knb := rfl
@[simp] theorem State.setSlice_pwr (c : Nat) (v : SliceSt) : (s.setSlice c v).pwr = s.pwr := rfl
@[simp] theorem State.setSlice_hst (c : Nat) (v : SliceSt) : (s.setSlice c v).hst = s.hst := rfl
@[simp] theorem State.setSlice_buses (c : Nat) (v : SliceSt) : (s.setSlice c v).buses = s.buses := rfl
@[simp] theorem State.setSlice_polls (c : Nat) (v : SliceSt) : (s.setSlice c v).polls = s.polls := rfl
@[simp] theorem State.setSlice_od (c : Nat) (v : SliceSt) : (s.setSlice c v).od = s.od := rfl
@[simp] theorem State.setSlice_nv (c : Nat) (v : SliceSt) : (s.setSlice c v).nv = s.nv := rfl
@[simp] theorem State.setSlice_net (c : Nat) (v : SliceSt) : (s.setSlice c v).net = s.net := rfl
@[simp] theorem State.setSlice_cen (c : Nat) (v : SliceSt) : (s.setSlice c v).cen = s.cen := rfl
@[simp] theorem State.setSlice_act (c : Nat) (v : SliceSt) : (s.setSlice c v).act = s.act := rfl
@[simp] theorem State.setSlice_fan (c : Nat) (v : SliceSt) : (s.setSlice c v).fan = s.fan := rfl
@[simp] theorem State.setSlice_zon (c : Nat) (v : SliceSt) : (s.setSlice c v).zon = s.zon := rfl
@[simp] theorem State.setSlice_kpd (c : Nat) (v : SliceSt) : (s.setSlice c v).kpd = s.kpd := rfl
@[simp] theorem State.setSlice_ldl (c : Nat) (v : SliceSt) : (s.setSlice c v).ldl = s.ldl := rfl
@[simp] theorem State.setSlice_twn (c : Nat) (v : SliceSt) : (s.setSlice c v).twn = s.twn := rfl

@[simp] theorem State.logAdd_pending (e : LogRec) : (s.logAdd e).pending = s.pending := by unfold State.logAdd; split <;> rfl
@[simp] theorem State.logAdd_variant (e : LogRec) : (s.logAdd e).variant = s.variant := by unfold State.logAdd; split <;> rfl
@[simp] theorem State.logAdd_fuse (e : LogRec) : (s.logAdd e).fuse = s.fuse := by unfold State.logAdd; split <;> rfl
@[simp] theorem State.logAdd_regs (e : LogRec) : (s.logAdd e).regs = s.regs := by unfold State.logAdd; split <;> rfl
@[simp] theorem State.logAdd_mem (e : LogRec) : (s.logAdd e).mem = s.mem := by unfold State.logAdd; split <;> rfl
@[simp] theorem State.logAdd_now (e : LogRec) : (s.logAdd e).now = s.now := by unfold State.logAdd; split <;> rfl
@[simp] theorem State.logAdd_free (e : LogRec) : (s.logAdd e).free = s.free := by unfold State.logAdd; split <;> rfl
@[simp] theorem State.logAdd_lastRead (e : LogRec) : (s.logAdd e).lastRead = s.lastRead := by unfold State.logAdd; split <;> rfl
@[simp] theorem State.logAdd_held (e : LogRec) : (s.logAdd e).held = s.held := by unfold State.logAdd; split <;> rfl
@[simp] theorem State.logAdd_tb (e : LogRec) : (s.logAdd e).tb = s.tb := by unfold State.logAdd; split <;> rfl
@[simp] theorem State.logAdd_thm (e : LogRec) : (s.logAdd e).thm = s.thm := by unfold State.logAdd; split <;> rfl
@[simp] theorem State.logAdd_rtc (e : LogRec) : (s.logAdd e).rtc = s.rtc := by unfold State.logAdd; split <;> rfl
@[simp] theorem State.logAdd_knb (e : LogRec) : (s.logAdd e).knb = s.knb := by unfold State.logAdd; split <;> rfl
@[simp] theorem State.logAdd_pwr (e : LogRec) : (s.logAdd e).pwr = s.pwr := by unfold State.logAdd; split <;> rfl
@[simp] theorem State.logAdd_hst (e : LogRec) : (s.logAdd e).hst = s.hst := by unfold State.logAdd; split <;> rfl
@[simp] theorem State.logAdd_buses (e : LogRec) : (s.logAdd e).buses = s.buses := by unfold State.logAdd; split <;> rfl
@[simp] theorem State.logAdd_polls (e : LogRec) : (s.logAdd e).polls = s.polls := by unfold State.logAdd; split <;> rfl
@[simp] theorem State.logAdd_od (e : LogRec) : (s.logAdd e).od = s.od := by unfold State.logAdd; split <;> rfl
@[simp] theorem State.logAdd_nv (e : LogRec) : (s.logAdd e).nv = s.nv := by unfold State.logAdd; split <;> rfl
@[simp] theorem State.logAdd_net (e : LogRec) : (s.logAdd e).net = s.net := by unfold State.logAdd; split <;> rfl
@[simp] theorem State.logAdd_acq (e : LogRec) : (s.logAdd e).acq = s.acq := by unfold State.logAdd; split <;> rfl
@[simp] theorem State.logAdd_cen (e : LogRec) : (s.logAdd e).cen = s.cen := by unfold State.logAdd; split <;> rfl
@[simp] theorem State.logAdd_act (e : LogRec) : (s.logAdd e).act = s.act := by unfold State.logAdd; split <;> rfl
@[simp] theorem State.logAdd_fan (e : LogRec) : (s.logAdd e).fan = s.fan := by unfold State.logAdd; split <;> rfl
@[simp] theorem State.logAdd_zon (e : LogRec) : (s.logAdd e).zon = s.zon := by unfold State.logAdd; split <;> rfl
@[simp] theorem State.logAdd_kpd (e : LogRec) : (s.logAdd e).kpd = s.kpd := by unfold State.logAdd; split <;> rfl
@[simp] theorem State.logAdd_ldl (e : LogRec) : (s.logAdd e).ldl = s.ldl := by unfold State.logAdd; split <;> rfl
@[simp] theorem State.logAdd_twn (e : LogRec) : (s.logAdd e).twn = s.twn := by unfold State.logAdd; split <;> rfl

@[simp] theorem State.fault_pending (c p : Nat) : (s.fault c p).pending = s.pending := by simp [State.fault]
@[simp] theorem State.fault_variant (c p : Nat) : (s.fault c p).variant = s.variant := by simp [State.fault]
@[simp] theorem State.fault_fuse (c p : Nat) : (s.fault c p).fuse = s.fuse := by simp [State.fault]
@[simp] theorem State.fault_regs (c p : Nat) : (s.fault c p).regs = s.regs := by simp [State.fault]
@[simp] theorem State.fault_mem (c p : Nat) : (s.fault c p).mem = s.mem := by simp [State.fault]
@[simp] theorem State.fault_now (c p : Nat) : (s.fault c p).now = s.now := by simp [State.fault]
@[simp] theorem State.fault_free (c p : Nat) : (s.fault c p).free = s.free := by simp [State.fault]
@[simp] theorem State.fault_lastRead (c p : Nat) : (s.fault c p).lastRead = s.lastRead := by simp [State.fault]
@[simp] theorem State.fault_held (c p : Nat) : (s.fault c p).held = s.held := by simp [State.fault]
@[simp] theorem State.fault_tb (c p : Nat) : (s.fault c p).tb = s.tb := by simp [State.fault]
@[simp] theorem State.fault_thm (c p : Nat) : (s.fault c p).thm = s.thm := by simp [State.fault]
@[simp] theorem State.fault_rtc (c p : Nat) : (s.fault c p).rtc = s.rtc := by simp [State.fault]
@[simp] theorem State.fault_knb (c p : Nat) : (s.fault c p).knb = s.knb := by simp [State.fault]
@[simp] theorem State.fault_pwr (c p : Nat) : (s.fault c p).pwr = s.pwr := by simp [State.fault]
@[simp] theorem State.fault_hst (c p : Nat) : (s.fault c p).hst = s.hst := by simp [State.fault]
@[simp] theorem State.fault_buses (c p : Nat) : (s.fault c p).buses = s.buses := by simp [State.fault]
@[simp] theorem State.fault_polls (c p : Nat) : (s.fault c p).polls = s.polls := by simp [State.fault]
@[simp] theorem State.fault_od (c p : Nat) : (s.fault c p).od = s.od := by simp [State.fault]
@[simp] theorem State.fault_nv (c p : Nat) : (s.fault c p).nv = s.nv := by simp [State.fault]
@[simp] theorem State.fault_net (c p : Nat) : (s.fault c p).net = s.net := by simp [State.fault]
@[simp] theorem State.fault_acq (c p : Nat) : (s.fault c p).acq = s.acq := by simp [State.fault]
@[simp] theorem State.fault_cen (c p : Nat) : (s.fault c p).cen = s.cen := by simp [State.fault]
@[simp] theorem State.fault_act (c p : Nat) : (s.fault c p).act = s.act := by simp [State.fault]
@[simp] theorem State.fault_fan (c p : Nat) : (s.fault c p).fan = s.fan := by simp [State.fault]
@[simp] theorem State.fault_zon (c p : Nat) : (s.fault c p).zon = s.zon := by simp [State.fault]
@[simp] theorem State.fault_kpd (c p : Nat) : (s.fault c p).kpd = s.kpd := by simp [State.fault]
@[simp] theorem State.fault_ldl (c p : Nat) : (s.fault c p).ldl = s.ldl := by simp [State.fault]
@[simp] theorem State.fault_twn (c p : Nat) : (s.fault c p).twn = s.twn := by simp [State.fault]

@[simp] theorem State.happen_pending (c p : Nat) : (s.happen c p).pending = s.pending := by simp [State.happen]
@[simp] theorem State.happen_variant (c p : Nat) : (s.happen c p).variant = s.variant := by simp [State.happen]
@[simp] theorem State.happen_fuse (c p : Nat) : (s.happen c p).fuse = s.fuse := by simp [State.happen]
@[simp] theorem State.happen_regs (c p : Nat) : (s.happen c p).regs = s.regs := by simp [State.happen]
@[simp] theorem State.happen_mem (c p : Nat) : (s.happen c p).mem = s.mem := by simp [State.happen]
@[simp] theorem State.happen_now (c p : Nat) : (s.happen c p).now = s.now := by simp [State.happen]
@[simp] theorem State.happen_free (c p : Nat) : (s.happen c p).free = s.free := by simp [State.happen]
@[simp] theorem State.happen_lastRead (c p : Nat) : (s.happen c p).lastRead = s.lastRead := by simp [State.happen]
@[simp] theorem State.happen_held (c p : Nat) : (s.happen c p).held = s.held := by simp [State.happen]
@[simp] theorem State.happen_tb (c p : Nat) : (s.happen c p).tb = s.tb := by simp [State.happen]
@[simp] theorem State.happen_thm (c p : Nat) : (s.happen c p).thm = s.thm := by simp [State.happen]
@[simp] theorem State.happen_rtc (c p : Nat) : (s.happen c p).rtc = s.rtc := by simp [State.happen]
@[simp] theorem State.happen_knb (c p : Nat) : (s.happen c p).knb = s.knb := by simp [State.happen]
@[simp] theorem State.happen_pwr (c p : Nat) : (s.happen c p).pwr = s.pwr := by simp [State.happen]
@[simp] theorem State.happen_hst (c p : Nat) : (s.happen c p).hst = s.hst := by simp [State.happen]
@[simp] theorem State.happen_buses (c p : Nat) : (s.happen c p).buses = s.buses := by simp [State.happen]
@[simp] theorem State.happen_polls (c p : Nat) : (s.happen c p).polls = s.polls := by simp [State.happen]
@[simp] theorem State.happen_od (c p : Nat) : (s.happen c p).od = s.od := by simp [State.happen]
@[simp] theorem State.happen_nv (c p : Nat) : (s.happen c p).nv = s.nv := by simp [State.happen]
@[simp] theorem State.happen_net (c p : Nat) : (s.happen c p).net = s.net := by simp [State.happen]
@[simp] theorem State.happen_acq (c p : Nat) : (s.happen c p).acq = s.acq := by simp [State.happen]
@[simp] theorem State.happen_cen (c p : Nat) : (s.happen c p).cen = s.cen := by simp [State.happen]
@[simp] theorem State.happen_act (c p : Nat) : (s.happen c p).act = s.act := by simp [State.happen]
@[simp] theorem State.happen_fan (c p : Nat) : (s.happen c p).fan = s.fan := by simp [State.happen]
@[simp] theorem State.happen_zon (c p : Nat) : (s.happen c p).zon = s.zon := by simp [State.happen]
@[simp] theorem State.happen_kpd (c p : Nat) : (s.happen c p).kpd = s.kpd := by simp [State.happen]
@[simp] theorem State.happen_ldl (c p : Nat) : (s.happen c p).ldl = s.ldl := by simp [State.happen]
@[simp] theorem State.happen_twn (c p : Nat) : (s.happen c p).twn = s.twn := by simp [State.happen]

@[simp] theorem State.faultClear_pending (c p : Nat) : (s.faultClear c p).pending = s.pending := by simp [State.faultClear]
@[simp] theorem State.faultClear_variant (c p : Nat) : (s.faultClear c p).variant = s.variant := by simp [State.faultClear]
@[simp] theorem State.faultClear_fuse (c p : Nat) : (s.faultClear c p).fuse = s.fuse := by simp [State.faultClear]
@[simp] theorem State.faultClear_regs (c p : Nat) : (s.faultClear c p).regs = s.regs := by simp [State.faultClear]
@[simp] theorem State.faultClear_mem (c p : Nat) : (s.faultClear c p).mem = s.mem := by simp [State.faultClear]
@[simp] theorem State.faultClear_now (c p : Nat) : (s.faultClear c p).now = s.now := by simp [State.faultClear]
@[simp] theorem State.faultClear_free (c p : Nat) : (s.faultClear c p).free = s.free := by simp [State.faultClear]
@[simp] theorem State.faultClear_lastRead (c p : Nat) : (s.faultClear c p).lastRead = s.lastRead := by simp [State.faultClear]
@[simp] theorem State.faultClear_held (c p : Nat) : (s.faultClear c p).held = s.held := by simp [State.faultClear]
@[simp] theorem State.faultClear_tb (c p : Nat) : (s.faultClear c p).tb = s.tb := by simp [State.faultClear]
@[simp] theorem State.faultClear_thm (c p : Nat) : (s.faultClear c p).thm = s.thm := by simp [State.faultClear]
@[simp] theorem State.faultClear_rtc (c p : Nat) : (s.faultClear c p).rtc = s.rtc := by simp [State.faultClear]
@[simp] theorem State.faultClear_knb (c p : Nat) : (s.faultClear c p).knb = s.knb := by simp [State.faultClear]
@[simp] theorem State.faultClear_pwr (c p : Nat) : (s.faultClear c p).pwr = s.pwr := by simp [State.faultClear]
@[simp] theorem State.faultClear_hst (c p : Nat) : (s.faultClear c p).hst = s.hst := by simp [State.faultClear]
@[simp] theorem State.faultClear_buses (c p : Nat) : (s.faultClear c p).buses = s.buses := by simp [State.faultClear]
@[simp] theorem State.faultClear_polls (c p : Nat) : (s.faultClear c p).polls = s.polls := by simp [State.faultClear]
@[simp] theorem State.faultClear_od (c p : Nat) : (s.faultClear c p).od = s.od := by simp [State.faultClear]
@[simp] theorem State.faultClear_nv (c p : Nat) : (s.faultClear c p).nv = s.nv := by simp [State.faultClear]
@[simp] theorem State.faultClear_net (c p : Nat) : (s.faultClear c p).net = s.net := by simp [State.faultClear]
@[simp] theorem State.faultClear_acq (c p : Nat) : (s.faultClear c p).acq = s.acq := by simp [State.faultClear]
@[simp] theorem State.faultClear_cen (c p : Nat) : (s.faultClear c p).cen = s.cen := by simp [State.faultClear]
@[simp] theorem State.faultClear_act (c p : Nat) : (s.faultClear c p).act = s.act := by simp [State.faultClear]
@[simp] theorem State.faultClear_fan (c p : Nat) : (s.faultClear c p).fan = s.fan := by simp [State.faultClear]
@[simp] theorem State.faultClear_zon (c p : Nat) : (s.faultClear c p).zon = s.zon := by simp [State.faultClear]
@[simp] theorem State.faultClear_kpd (c p : Nat) : (s.faultClear c p).kpd = s.kpd := by simp [State.faultClear]
@[simp] theorem State.faultClear_ldl (c p : Nat) : (s.faultClear c p).ldl = s.ldl := by simp [State.faultClear]
@[simp] theorem State.faultClear_twn (c p : Nat) : (s.faultClear c p).twn = s.twn := by simp [State.faultClear]

@[simp] theorem State.latchCore_pending (n : Nat) : (s.latchCore n).pending = s.pending := by unfold State.latchCore; split <;> [rfl; split <;> rfl]
@[simp] theorem State.latchCore_variant (n : Nat) : (s.latchCore n).variant = s.variant := by unfold State.latchCore; split <;> [rfl; split <;> rfl]
@[simp] theorem State.latchCore_fuse (n : Nat) : (s.latchCore n).fuse = s.fuse := by unfold State.latchCore; split <;> [rfl; split <;> rfl]
@[simp] theorem State.latchCore_mem (n : Nat) : (s.latchCore n).mem = s.mem := by unfold State.latchCore; split <;> [rfl; split <;> rfl]
@[simp] theorem State.latchCore_now (n : Nat) : (s.latchCore n).now = s.now := by unfold State.latchCore; split <;> [rfl; split <;> rfl]
@[simp] theorem State.latchCore_free (n : Nat) : (s.latchCore n).free = s.free := by unfold State.latchCore; split <;> [rfl; split <;> rfl]
@[simp] theorem State.latchCore_lastRead (n : Nat) : (s.latchCore n).lastRead = s.lastRead := by unfold State.latchCore; split <;> [rfl; split <;> rfl]
@[simp] theorem State.latchCore_held (n : Nat) : (s.latchCore n).held = s.held := by unfold State.latchCore; split <;> [rfl; split <;> rfl]
@[simp] theorem State.latchCore_log (n : Nat) : (s.latchCore n).log = s.log := by unfold State.latchCore; split <;> [rfl; split <;> rfl]
@[simp] theorem State.latchCore_tb (n : Nat) : (s.latchCore n).tb = s.tb := by unfold State.latchCore; split <;> [rfl; split <;> rfl]
@[simp] theorem State.latchCore_thm (n : Nat) : (s.latchCore n).thm = s.thm := by unfold State.latchCore; split <;> [rfl; split <;> rfl]
@[simp] theorem State.latchCore_rtc (n : Nat) : (s.latchCore n).rtc = s.rtc := by unfold State.latchCore; split <;> [rfl; split <;> rfl]
@[simp] theorem State.latchCore_knb (n : Nat) : (s.latchCore n).knb = s.knb := by unfold State.latchCore; split <;> [rfl; split <;> rfl]
@[simp] theorem State.latchCore_pwr (n : Nat) : (s.latchCore n).pwr = s.pwr := by unfold State.latchCore; split <;> [rfl; split <;> rfl]
@[simp] theorem State.latchCore_hst (n : Nat) : (s.latchCore n).hst = s.hst := by unfold State.latchCore; split <;> [rfl; split <;> rfl]
@[simp] theorem State.latchCore_buses (n : Nat) : (s.latchCore n).buses = s.buses := by unfold State.latchCore; split <;> [rfl; split <;> rfl]
@[simp] theorem State.latchCore_polls (n : Nat) : (s.latchCore n).polls = s.polls := by unfold State.latchCore; split <;> [rfl; split <;> rfl]
@[simp] theorem State.latchCore_od (n : Nat) : (s.latchCore n).od = s.od := by unfold State.latchCore; split <;> [rfl; split <;> rfl]
@[simp] theorem State.latchCore_nv (n : Nat) : (s.latchCore n).nv = s.nv := by unfold State.latchCore; split <;> [rfl; split <;> rfl]
@[simp] theorem State.latchCore_net (n : Nat) : (s.latchCore n).net = s.net := by unfold State.latchCore; split <;> [rfl; split <;> rfl]
@[simp] theorem State.latchCore_acq (n : Nat) : (s.latchCore n).acq = s.acq := by unfold State.latchCore; split <;> [rfl; split <;> rfl]
@[simp] theorem State.latchCore_cen (n : Nat) : (s.latchCore n).cen = s.cen := by unfold State.latchCore; split <;> [rfl; split <;> rfl]
@[simp] theorem State.latchCore_act (n : Nat) : (s.latchCore n).act = s.act := by unfold State.latchCore; split <;> [rfl; split <;> rfl]
@[simp] theorem State.latchCore_fan (n : Nat) : (s.latchCore n).fan = s.fan := by unfold State.latchCore; split <;> [rfl; split <;> rfl]
@[simp] theorem State.latchCore_zon (n : Nat) : (s.latchCore n).zon = s.zon := by unfold State.latchCore; split <;> [rfl; split <;> rfl]
@[simp] theorem State.latchCore_kpd (n : Nat) : (s.latchCore n).kpd = s.kpd := by unfold State.latchCore; split <;> [rfl; split <;> rfl]
@[simp] theorem State.latchCore_ldl (n : Nat) : (s.latchCore n).ldl = s.ldl := by unfold State.latchCore; split <;> [rfl; split <;> rfl]
@[simp] theorem State.latchCore_twn (n : Nat) : (s.latchCore n).twn = s.twn := by unfold State.latchCore; split <;> [rfl; split <;> rfl]

@[simp] theorem State.latchHost_pending (n : Nat) : (s.latchHost n).pending = s.pending := by unfold State.latchHost; split <;> [rfl; split <;> rfl]
@[simp] theorem State.latchHost_variant (n : Nat) : (s.latchHost n).variant = s.variant := by unfold State.latchHost; split <;> [rfl; split <;> rfl]
@[simp] theorem State.latchHost_fuse (n : Nat) : (s.latchHost n).fuse = s.fuse := by unfold State.latchHost; split <;> [rfl; split <;> rfl]
@[simp] theorem State.latchHost_mem (n : Nat) : (s.latchHost n).mem = s.mem := by unfold State.latchHost; split <;> [rfl; split <;> rfl]
@[simp] theorem State.latchHost_now (n : Nat) : (s.latchHost n).now = s.now := by unfold State.latchHost; split <;> [rfl; split <;> rfl]
@[simp] theorem State.latchHost_free (n : Nat) : (s.latchHost n).free = s.free := by unfold State.latchHost; split <;> [rfl; split <;> rfl]
@[simp] theorem State.latchHost_lastRead (n : Nat) : (s.latchHost n).lastRead = s.lastRead := by unfold State.latchHost; split <;> [rfl; split <;> rfl]
@[simp] theorem State.latchHost_held (n : Nat) : (s.latchHost n).held = s.held := by unfold State.latchHost; split <;> [rfl; split <;> rfl]
@[simp] theorem State.latchHost_log (n : Nat) : (s.latchHost n).log = s.log := by unfold State.latchHost; split <;> [rfl; split <;> rfl]
@[simp] theorem State.latchHost_tb (n : Nat) : (s.latchHost n).tb = s.tb := by unfold State.latchHost; split <;> [rfl; split <;> rfl]
@[simp] theorem State.latchHost_thm (n : Nat) : (s.latchHost n).thm = s.thm := by unfold State.latchHost; split <;> [rfl; split <;> rfl]
@[simp] theorem State.latchHost_rtc (n : Nat) : (s.latchHost n).rtc = s.rtc := by unfold State.latchHost; split <;> [rfl; split <;> rfl]
@[simp] theorem State.latchHost_knb (n : Nat) : (s.latchHost n).knb = s.knb := by unfold State.latchHost; split <;> [rfl; split <;> rfl]
@[simp] theorem State.latchHost_pwr (n : Nat) : (s.latchHost n).pwr = s.pwr := by unfold State.latchHost; split <;> [rfl; split <;> rfl]
@[simp] theorem State.latchHost_hst (n : Nat) : (s.latchHost n).hst = s.hst := by unfold State.latchHost; split <;> [rfl; split <;> rfl]
@[simp] theorem State.latchHost_buses (n : Nat) : (s.latchHost n).buses = s.buses := by unfold State.latchHost; split <;> [rfl; split <;> rfl]
@[simp] theorem State.latchHost_polls (n : Nat) : (s.latchHost n).polls = s.polls := by unfold State.latchHost; split <;> [rfl; split <;> rfl]
@[simp] theorem State.latchHost_od (n : Nat) : (s.latchHost n).od = s.od := by unfold State.latchHost; split <;> [rfl; split <;> rfl]
@[simp] theorem State.latchHost_nv (n : Nat) : (s.latchHost n).nv = s.nv := by unfold State.latchHost; split <;> [rfl; split <;> rfl]
@[simp] theorem State.latchHost_net (n : Nat) : (s.latchHost n).net = s.net := by unfold State.latchHost; split <;> [rfl; split <;> rfl]
@[simp] theorem State.latchHost_acq (n : Nat) : (s.latchHost n).acq = s.acq := by unfold State.latchHost; split <;> [rfl; split <;> rfl]
@[simp] theorem State.latchHost_cen (n : Nat) : (s.latchHost n).cen = s.cen := by unfold State.latchHost; split <;> [rfl; split <;> rfl]
@[simp] theorem State.latchHost_act (n : Nat) : (s.latchHost n).act = s.act := by unfold State.latchHost; split <;> [rfl; split <;> rfl]
@[simp] theorem State.latchHost_fan (n : Nat) : (s.latchHost n).fan = s.fan := by unfold State.latchHost; split <;> [rfl; split <;> rfl]
@[simp] theorem State.latchHost_zon (n : Nat) : (s.latchHost n).zon = s.zon := by unfold State.latchHost; split <;> [rfl; split <;> rfl]
@[simp] theorem State.latchHost_kpd (n : Nat) : (s.latchHost n).kpd = s.kpd := by unfold State.latchHost; split <;> [rfl; split <;> rfl]
@[simp] theorem State.latchHost_ldl (n : Nat) : (s.latchHost n).ldl = s.ldl := by unfold State.latchHost; split <;> [rfl; split <;> rfl]
@[simp] theorem State.latchHost_twn (n : Nat) : (s.latchHost n).twn = s.twn := by unfold State.latchHost; split <;> [rfl; split <;> rfl]

@[simp] theorem State.traceNote_pending (n : Nat) : (s.traceNote n).pending = s.pending := rfl
@[simp] theorem State.traceNote_variant (n : Nat) : (s.traceNote n).variant = s.variant := rfl
@[simp] theorem State.traceNote_fuse (n : Nat) : (s.traceNote n).fuse = s.fuse := rfl
@[simp] theorem State.traceNote_regs (n : Nat) : (s.traceNote n).regs = s.regs := rfl
@[simp] theorem State.traceNote_mem (n : Nat) : (s.traceNote n).mem = s.mem := rfl
@[simp] theorem State.traceNote_now (n : Nat) : (s.traceNote n).now = s.now := rfl
@[simp] theorem State.traceNote_free (n : Nat) : (s.traceNote n).free = s.free := rfl
@[simp] theorem State.traceNote_lastRead (n : Nat) : (s.traceNote n).lastRead = s.lastRead := rfl
@[simp] theorem State.traceNote_held (n : Nat) : (s.traceNote n).held = s.held := rfl
@[simp] theorem State.traceNote_log (n : Nat) : (s.traceNote n).log = s.log := rfl
@[simp] theorem State.traceNote_tb (n : Nat) : (s.traceNote n).tb = s.tb := rfl
@[simp] theorem State.traceNote_thm (n : Nat) : (s.traceNote n).thm = s.thm := rfl
@[simp] theorem State.traceNote_rtc (n : Nat) : (s.traceNote n).rtc = s.rtc := rfl
@[simp] theorem State.traceNote_knb (n : Nat) : (s.traceNote n).knb = s.knb := rfl
@[simp] theorem State.traceNote_pwr (n : Nat) : (s.traceNote n).pwr = s.pwr := rfl
@[simp] theorem State.traceNote_hst (n : Nat) : (s.traceNote n).hst = s.hst := rfl
@[simp] theorem State.traceNote_buses (n : Nat) : (s.traceNote n).buses = s.buses := rfl
@[simp] theorem State.traceNote_polls (n : Nat) : (s.traceNote n).polls = s.polls := rfl
@[simp] theorem State.traceNote_od (n : Nat) : (s.traceNote n).od = s.od := rfl
@[simp] theorem State.traceNote_nv (n : Nat) : (s.traceNote n).nv = s.nv := rfl
@[simp] theorem State.traceNote_net (n : Nat) : (s.traceNote n).net = s.net := rfl
@[simp] theorem State.traceNote_acq (n : Nat) : (s.traceNote n).acq = s.acq := rfl
@[simp] theorem State.traceNote_act (n : Nat) : (s.traceNote n).act = s.act := rfl
@[simp] theorem State.traceNote_fan (n : Nat) : (s.traceNote n).fan = s.fan := rfl
@[simp] theorem State.traceNote_zon (n : Nat) : (s.traceNote n).zon = s.zon := rfl
@[simp] theorem State.traceNote_kpd (n : Nat) : (s.traceNote n).kpd = s.kpd := rfl
@[simp] theorem State.traceNote_ldl (n : Nat) : (s.traceNote n).ldl = s.ldl := rfl
@[simp] theorem State.traceNote_twn (n : Nat) : (s.traceNote n).twn = s.twn := rfl

@[simp] theorem State.fire_pending (n : Nat) : (s.fire n).pending = s.pending := by unfold State.fire; split <;> simp
@[simp] theorem State.fire_variant (n : Nat) : (s.fire n).variant = s.variant := by unfold State.fire; split <;> simp
@[simp] theorem State.fire_fuse (n : Nat) : (s.fire n).fuse = s.fuse := by unfold State.fire; split <;> simp
@[simp] theorem State.fire_mem (n : Nat) : (s.fire n).mem = s.mem := by unfold State.fire; split <;> simp
@[simp] theorem State.fire_now (n : Nat) : (s.fire n).now = s.now := by unfold State.fire; split <;> simp
@[simp] theorem State.fire_free (n : Nat) : (s.fire n).free = s.free := by unfold State.fire; split <;> simp
@[simp] theorem State.fire_lastRead (n : Nat) : (s.fire n).lastRead = s.lastRead := by unfold State.fire; split <;> simp
@[simp] theorem State.fire_held (n : Nat) : (s.fire n).held = s.held := by unfold State.fire; split <;> simp
@[simp] theorem State.fire_log (n : Nat) : (s.fire n).log = s.log := by unfold State.fire; split <;> simp
@[simp] theorem State.fire_tb (n : Nat) : (s.fire n).tb = s.tb := by unfold State.fire; split <;> simp
@[simp] theorem State.fire_thm (n : Nat) : (s.fire n).thm = s.thm := by unfold State.fire; split <;> simp
@[simp] theorem State.fire_rtc (n : Nat) : (s.fire n).rtc = s.rtc := by unfold State.fire; split <;> simp
@[simp] theorem State.fire_knb (n : Nat) : (s.fire n).knb = s.knb := by unfold State.fire; split <;> simp
@[simp] theorem State.fire_pwr (n : Nat) : (s.fire n).pwr = s.pwr := by unfold State.fire; split <;> simp
@[simp] theorem State.fire_hst (n : Nat) : (s.fire n).hst = s.hst := by unfold State.fire; split <;> simp
@[simp] theorem State.fire_buses (n : Nat) : (s.fire n).buses = s.buses := by unfold State.fire; split <;> simp
@[simp] theorem State.fire_polls (n : Nat) : (s.fire n).polls = s.polls := by unfold State.fire; split <;> simp
@[simp] theorem State.fire_od (n : Nat) : (s.fire n).od = s.od := by unfold State.fire; split <;> simp
@[simp] theorem State.fire_nv (n : Nat) : (s.fire n).nv = s.nv := by unfold State.fire; split <;> simp
@[simp] theorem State.fire_net (n : Nat) : (s.fire n).net = s.net := by unfold State.fire; split <;> simp
@[simp] theorem State.fire_acq (n : Nat) : (s.fire n).acq = s.acq := by unfold State.fire; split <;> simp
@[simp] theorem State.fire_act (n : Nat) : (s.fire n).act = s.act := by unfold State.fire; split <;> simp
@[simp] theorem State.fire_fan (n : Nat) : (s.fire n).fan = s.fan := by unfold State.fire; split <;> simp
@[simp] theorem State.fire_zon (n : Nat) : (s.fire n).zon = s.zon := by unfold State.fire; split <;> simp
@[simp] theorem State.fire_kpd (n : Nat) : (s.fire n).kpd = s.kpd := by unfold State.fire; split <;> simp
@[simp] theorem State.fire_ldl (n : Nat) : (s.fire n).ldl = s.ldl := by unfold State.fire; split <;> simp
@[simp] theorem State.fire_twn (n : Nat) : (s.fire n).twn = s.twn := by unfold State.fire; split <;> simp

@[simp] theorem State.ringError_pending (c n : Nat) : (s.ringError c n).pending = s.pending := by simp [State.ringError]
@[simp] theorem State.ringError_variant (c n : Nat) : (s.ringError c n).variant = s.variant := by simp [State.ringError]
@[simp] theorem State.ringError_fuse (c n : Nat) : (s.ringError c n).fuse = s.fuse := by simp [State.ringError]
@[simp] theorem State.ringError_mem (c n : Nat) : (s.ringError c n).mem = s.mem := by simp [State.ringError]
@[simp] theorem State.ringError_now (c n : Nat) : (s.ringError c n).now = s.now := by simp [State.ringError]
@[simp] theorem State.ringError_free (c n : Nat) : (s.ringError c n).free = s.free := by simp [State.ringError]
@[simp] theorem State.ringError_lastRead (c n : Nat) : (s.ringError c n).lastRead = s.lastRead := by simp [State.ringError]
@[simp] theorem State.ringError_held (c n : Nat) : (s.ringError c n).held = s.held := by simp [State.ringError]
@[simp] theorem State.ringError_log (c n : Nat) : (s.ringError c n).log = s.log := by simp [State.ringError]
@[simp] theorem State.ringError_tb (c n : Nat) : (s.ringError c n).tb = s.tb := by simp [State.ringError]
@[simp] theorem State.ringError_thm (c n : Nat) : (s.ringError c n).thm = s.thm := by simp [State.ringError]
@[simp] theorem State.ringError_rtc (c n : Nat) : (s.ringError c n).rtc = s.rtc := by simp [State.ringError]
@[simp] theorem State.ringError_knb (c n : Nat) : (s.ringError c n).knb = s.knb := by simp [State.ringError]
@[simp] theorem State.ringError_pwr (c n : Nat) : (s.ringError c n).pwr = s.pwr := by simp [State.ringError]
@[simp] theorem State.ringError_hst (c n : Nat) : (s.ringError c n).hst = s.hst := by simp [State.ringError]
@[simp] theorem State.ringError_buses (c n : Nat) : (s.ringError c n).buses = s.buses := by simp [State.ringError]
@[simp] theorem State.ringError_polls (c n : Nat) : (s.ringError c n).polls = s.polls := by simp [State.ringError]
@[simp] theorem State.ringError_od (c n : Nat) : (s.ringError c n).od = s.od := by simp [State.ringError]
@[simp] theorem State.ringError_nv (c n : Nat) : (s.ringError c n).nv = s.nv := by simp [State.ringError]
@[simp] theorem State.ringError_net (c n : Nat) : (s.ringError c n).net = s.net := by simp [State.ringError]
@[simp] theorem State.ringError_acq (c n : Nat) : (s.ringError c n).acq = s.acq := by simp [State.ringError]
@[simp] theorem State.ringError_act (c n : Nat) : (s.ringError c n).act = s.act := by simp [State.ringError]
@[simp] theorem State.ringError_fan (c n : Nat) : (s.ringError c n).fan = s.fan := by simp [State.ringError]
@[simp] theorem State.ringError_zon (c n : Nat) : (s.ringError c n).zon = s.zon := by simp [State.ringError]
@[simp] theorem State.ringError_kpd (c n : Nat) : (s.ringError c n).kpd = s.kpd := by simp [State.ringError]
@[simp] theorem State.ringError_ldl (c n : Nat) : (s.ringError c n).ldl = s.ldl := by simp [State.ringError]
@[simp] theorem State.ringError_twn (c n : Nat) : (s.ringError c n).twn = s.twn := by simp [State.ringError]

@[simp] theorem State.ringDropped_pending (n : Nat) : (s.ringDropped n).pending = s.pending := by simp [State.ringDropped]
@[simp] theorem State.ringDropped_variant (n : Nat) : (s.ringDropped n).variant = s.variant := by simp [State.ringDropped]
@[simp] theorem State.ringDropped_fuse (n : Nat) : (s.ringDropped n).fuse = s.fuse := by simp [State.ringDropped]
@[simp] theorem State.ringDropped_mem (n : Nat) : (s.ringDropped n).mem = s.mem := by simp [State.ringDropped]
@[simp] theorem State.ringDropped_now (n : Nat) : (s.ringDropped n).now = s.now := by simp [State.ringDropped]
@[simp] theorem State.ringDropped_free (n : Nat) : (s.ringDropped n).free = s.free := by simp [State.ringDropped]
@[simp] theorem State.ringDropped_lastRead (n : Nat) : (s.ringDropped n).lastRead = s.lastRead := by simp [State.ringDropped]
@[simp] theorem State.ringDropped_held (n : Nat) : (s.ringDropped n).held = s.held := by simp [State.ringDropped]
@[simp] theorem State.ringDropped_log (n : Nat) : (s.ringDropped n).log = s.log := by simp [State.ringDropped]
@[simp] theorem State.ringDropped_tb (n : Nat) : (s.ringDropped n).tb = s.tb := by simp [State.ringDropped]
@[simp] theorem State.ringDropped_thm (n : Nat) : (s.ringDropped n).thm = s.thm := by simp [State.ringDropped]
@[simp] theorem State.ringDropped_rtc (n : Nat) : (s.ringDropped n).rtc = s.rtc := by simp [State.ringDropped]
@[simp] theorem State.ringDropped_knb (n : Nat) : (s.ringDropped n).knb = s.knb := by simp [State.ringDropped]
@[simp] theorem State.ringDropped_pwr (n : Nat) : (s.ringDropped n).pwr = s.pwr := by simp [State.ringDropped]
@[simp] theorem State.ringDropped_hst (n : Nat) : (s.ringDropped n).hst = s.hst := by simp [State.ringDropped]
@[simp] theorem State.ringDropped_buses (n : Nat) : (s.ringDropped n).buses = s.buses := by simp [State.ringDropped]
@[simp] theorem State.ringDropped_polls (n : Nat) : (s.ringDropped n).polls = s.polls := by simp [State.ringDropped]
@[simp] theorem State.ringDropped_od (n : Nat) : (s.ringDropped n).od = s.od := by simp [State.ringDropped]
@[simp] theorem State.ringDropped_nv (n : Nat) : (s.ringDropped n).nv = s.nv := by simp [State.ringDropped]
@[simp] theorem State.ringDropped_net (n : Nat) : (s.ringDropped n).net = s.net := by simp [State.ringDropped]
@[simp] theorem State.ringDropped_acq (n : Nat) : (s.ringDropped n).acq = s.acq := by simp [State.ringDropped]
@[simp] theorem State.ringDropped_cen (n : Nat) : (s.ringDropped n).cen = s.cen := by simp [State.ringDropped]
@[simp] theorem State.ringDropped_act (n : Nat) : (s.ringDropped n).act = s.act := by simp [State.ringDropped]
@[simp] theorem State.ringDropped_fan (n : Nat) : (s.ringDropped n).fan = s.fan := by simp [State.ringDropped]
@[simp] theorem State.ringDropped_zon (n : Nat) : (s.ringDropped n).zon = s.zon := by simp [State.ringDropped]
@[simp] theorem State.ringDropped_kpd (n : Nat) : (s.ringDropped n).kpd = s.kpd := by simp [State.ringDropped]
@[simp] theorem State.ringDropped_ldl (n : Nat) : (s.ringDropped n).ldl = s.ldl := by simp [State.ringDropped]
@[simp] theorem State.ringDropped_twn (n : Nat) : (s.ringDropped n).twn = s.twn := by simp [State.ringDropped]

@[simp] theorem State.ringPush_pending (n : Nat) (e : List Byte) : (s.ringPush n e).pending = s.pending := by simp [State.ringPush]
@[simp] theorem State.ringPush_variant (n : Nat) (e : List Byte) : (s.ringPush n e).variant = s.variant := by simp [State.ringPush]
@[simp] theorem State.ringPush_fuse (n : Nat) (e : List Byte) : (s.ringPush n e).fuse = s.fuse := by simp [State.ringPush]
@[simp] theorem State.ringPush_now (n : Nat) (e : List Byte) : (s.ringPush n e).now = s.now := by simp [State.ringPush]
@[simp] theorem State.ringPush_free (n : Nat) (e : List Byte) : (s.ringPush n e).free = s.free := by simp [State.ringPush]
@[simp] theorem State.ringPush_lastRead (n : Nat) (e : List Byte) : (s.ringPush n e).lastRead = s.lastRead := by simp [State.ringPush]
@[simp] theorem State.ringPush_held (n : Nat) (e : List Byte) : (s.ringPush n e).held = s.held := by simp [State.ringPush]
@[simp] theorem State.ringPush_log (n : Nat) (e : List Byte) : (s.ringPush n e).log = s.log := by simp [State.ringPush]
@[simp] theorem State.ringPush_tb (n : Nat) (e : List Byte) : (s.ringPush n e).tb = s.tb := by simp [State.ringPush]
@[simp] theorem State.ringPush_thm (n : Nat) (e : List Byte) : (s.ringPush n e).thm = s.thm := by simp [State.ringPush]
@[simp] theorem State.ringPush_rtc (n : Nat) (e : List Byte) : (s.ringPush n e).rtc = s.rtc := by simp [State.ringPush]
@[simp] theorem State.ringPush_knb (n : Nat) (e : List Byte) : (s.ringPush n e).knb = s.knb := by simp [State.ringPush]
@[simp] theorem State.ringPush_pwr (n : Nat) (e : List Byte) : (s.ringPush n e).pwr = s.pwr := by simp [State.ringPush]
@[simp] theorem State.ringPush_hst (n : Nat) (e : List Byte) : (s.ringPush n e).hst = s.hst := by simp [State.ringPush]
@[simp] theorem State.ringPush_buses (n : Nat) (e : List Byte) : (s.ringPush n e).buses = s.buses := by simp [State.ringPush]
@[simp] theorem State.ringPush_polls (n : Nat) (e : List Byte) : (s.ringPush n e).polls = s.polls := by simp [State.ringPush]
@[simp] theorem State.ringPush_od (n : Nat) (e : List Byte) : (s.ringPush n e).od = s.od := by simp [State.ringPush]
@[simp] theorem State.ringPush_nv (n : Nat) (e : List Byte) : (s.ringPush n e).nv = s.nv := by simp [State.ringPush]
@[simp] theorem State.ringPush_net (n : Nat) (e : List Byte) : (s.ringPush n e).net = s.net := by simp [State.ringPush]
@[simp] theorem State.ringPush_acq (n : Nat) (e : List Byte) : (s.ringPush n e).acq = s.acq := by simp [State.ringPush]
@[simp] theorem State.ringPush_cen (n : Nat) (e : List Byte) : (s.ringPush n e).cen = s.cen := by simp [State.ringPush]
@[simp] theorem State.ringPush_act (n : Nat) (e : List Byte) : (s.ringPush n e).act = s.act := by simp [State.ringPush]
@[simp] theorem State.ringPush_fan (n : Nat) (e : List Byte) : (s.ringPush n e).fan = s.fan := by simp [State.ringPush]
@[simp] theorem State.ringPush_zon (n : Nat) (e : List Byte) : (s.ringPush n e).zon = s.zon := by simp [State.ringPush]
@[simp] theorem State.ringPush_kpd (n : Nat) (e : List Byte) : (s.ringPush n e).kpd = s.kpd := by simp [State.ringPush]
@[simp] theorem State.ringPush_ldl (n : Nat) (e : List Byte) : (s.ringPush n e).ldl = s.ldl := by simp [State.ringPush]
@[simp] theorem State.ringPush_twn (n : Nat) (e : List Byte) : (s.ringPush n e).twn = s.twn := by simp [State.ringPush]

@[simp] theorem State.ringOffer_pending (n : Nat) (e : List Byte) : (s.ringOffer n e).pending = s.pending := by unfold State.ringOffer; split <;> [simp; (split <;> [simp; (split <;> [simp; (split <;> [simp; (split <;> simp); simp])])])]
@[simp] theorem State.ringOffer_variant (n : Nat) (e : List Byte) : (s.ringOffer n e).variant = s.variant := by unfold State.ringOffer; split <;> [simp; (split <;> [simp; (split <;> [simp; (split <;> [simp; (split <;> simp); simp])])])]
@[simp] theorem State.ringOffer_fuse (n : Nat) (e : List Byte) : (s.ringOffer n e).fuse = s.fuse := by unfold State.ringOffer; split <;> [simp; (split <;> [simp; (split <;> [simp; (split <;> [simp; (split <;> simp); simp])])])]
@[simp] theorem State.ringOffer_now (n : Nat) (e : List Byte) : (s.ringOffer n e).now = s.now := by unfold State.ringOffer; split <;> [simp; (split <;> [simp; (split <;> [simp; (split <;> [simp; (split <;> simp); simp])])])]
@[simp] theorem State.ringOffer_free (n : Nat) (e : List Byte) : (s.ringOffer n e).free = s.free := by unfold State.ringOffer; split <;> [simp; (split <;> [simp; (split <;> [simp; (split <;> [simp; (split <;> simp); simp])])])]
@[simp] theorem State.ringOffer_lastRead (n : Nat) (e : List Byte) : (s.ringOffer n e).lastRead = s.lastRead := by unfold State.ringOffer; split <;> [simp; (split <;> [simp; (split <;> [simp; (split <;> [simp; (split <;> simp); simp])])])]
@[simp] theorem State.ringOffer_log (n : Nat) (e : List Byte) : (s.ringOffer n e).log = s.log := by unfold State.ringOffer; split <;> [simp; (split <;> [simp; (split <;> [simp; (split <;> [simp; (split <;> simp); simp])])])]
@[simp] theorem State.ringOffer_tb (n : Nat) (e : List Byte) : (s.ringOffer n e).tb = s.tb := by unfold State.ringOffer; split <;> [simp; (split <;> [simp; (split <;> [simp; (split <;> [simp; (split <;> simp); simp])])])]
@[simp] theorem State.ringOffer_thm (n : Nat) (e : List Byte) : (s.ringOffer n e).thm = s.thm := by unfold State.ringOffer; split <;> [simp; (split <;> [simp; (split <;> [simp; (split <;> [simp; (split <;> simp); simp])])])]
@[simp] theorem State.ringOffer_rtc (n : Nat) (e : List Byte) : (s.ringOffer n e).rtc = s.rtc := by unfold State.ringOffer; split <;> [simp; (split <;> [simp; (split <;> [simp; (split <;> [simp; (split <;> simp); simp])])])]
@[simp] theorem State.ringOffer_knb (n : Nat) (e : List Byte) : (s.ringOffer n e).knb = s.knb := by unfold State.ringOffer; split <;> [simp; (split <;> [simp; (split <;> [simp; (split <;> [simp; (split <;> simp); simp])])])]
@[simp] theorem State.ringOffer_pwr (n : Nat) (e : List Byte) : (s.ringOffer n e).pwr = s.pwr := by unfold State.ringOffer; split <;> [simp; (split <;> [simp; (split <;> [simp; (split <;> [simp; (split <;> simp); simp])])])]
@[simp] theorem State.ringOffer_hst (n : Nat) (e : List Byte) : (s.ringOffer n e).hst = s.hst := by unfold State.ringOffer; split <;> [simp; (split <;> [simp; (split <;> [simp; (split <;> [simp; (split <;> simp); simp])])])]
@[simp] theorem State.ringOffer_buses (n : Nat) (e : List Byte) : (s.ringOffer n e).buses = s.buses := by unfold State.ringOffer; split <;> [simp; (split <;> [simp; (split <;> [simp; (split <;> [simp; (split <;> simp); simp])])])]
@[simp] theorem State.ringOffer_polls (n : Nat) (e : List Byte) : (s.ringOffer n e).polls = s.polls := by unfold State.ringOffer; split <;> [simp; (split <;> [simp; (split <;> [simp; (split <;> [simp; (split <;> simp); simp])])])]
@[simp] theorem State.ringOffer_od (n : Nat) (e : List Byte) : (s.ringOffer n e).od = s.od := by unfold State.ringOffer; split <;> [simp; (split <;> [simp; (split <;> [simp; (split <;> [simp; (split <;> simp); simp])])])]
@[simp] theorem State.ringOffer_nv (n : Nat) (e : List Byte) : (s.ringOffer n e).nv = s.nv := by unfold State.ringOffer; split <;> [simp; (split <;> [simp; (split <;> [simp; (split <;> [simp; (split <;> simp); simp])])])]
@[simp] theorem State.ringOffer_net (n : Nat) (e : List Byte) : (s.ringOffer n e).net = s.net := by unfold State.ringOffer; split <;> [simp; (split <;> [simp; (split <;> [simp; (split <;> [simp; (split <;> simp); simp])])])]
@[simp] theorem State.ringOffer_acq (n : Nat) (e : List Byte) : (s.ringOffer n e).acq = s.acq := by unfold State.ringOffer; split <;> [simp; (split <;> [simp; (split <;> [simp; (split <;> [simp; (split <;> simp); simp])])])]
@[simp] theorem State.ringOffer_act (n : Nat) (e : List Byte) : (s.ringOffer n e).act = s.act := by unfold State.ringOffer; split <;> [simp; (split <;> [simp; (split <;> [simp; (split <;> [simp; (split <;> simp); simp])])])]
@[simp] theorem State.ringOffer_fan (n : Nat) (e : List Byte) : (s.ringOffer n e).fan = s.fan := by unfold State.ringOffer; split <;> [simp; (split <;> [simp; (split <;> [simp; (split <;> [simp; (split <;> simp); simp])])])]
@[simp] theorem State.ringOffer_zon (n : Nat) (e : List Byte) : (s.ringOffer n e).zon = s.zon := by unfold State.ringOffer; split <;> [simp; (split <;> [simp; (split <;> [simp; (split <;> [simp; (split <;> simp); simp])])])]
@[simp] theorem State.ringOffer_kpd (n : Nat) (e : List Byte) : (s.ringOffer n e).kpd = s.kpd := by unfold State.ringOffer; split <;> [simp; (split <;> [simp; (split <;> [simp; (split <;> [simp; (split <;> simp); simp])])])]
@[simp] theorem State.ringOffer_ldl (n : Nat) (e : List Byte) : (s.ringOffer n e).ldl = s.ldl := by unfold State.ringOffer; split <;> [simp; (split <;> [simp; (split <;> [simp; (split <;> [simp; (split <;> simp); simp])])])]
@[simp] theorem State.ringOffer_twn (n : Nat) (e : List Byte) : (s.ringOffer n e).twn = s.twn := by unfold State.ringOffer; split <;> [simp; (split <;> [simp; (split <;> [simp; (split <;> [simp; (split <;> simp); simp])])])]

@[simp] theorem State.drawWord_pending  : s.drawWord.2.pending = s.pending := rfl
@[simp] theorem State.drawWord_variant  : s.drawWord.2.variant = s.variant := rfl
@[simp] theorem State.drawWord_fuse  : s.drawWord.2.fuse = s.fuse := rfl
@[simp] theorem State.drawWord_regs  : s.drawWord.2.regs = s.regs := rfl
@[simp] theorem State.drawWord_mem  : s.drawWord.2.mem = s.mem := rfl
@[simp] theorem State.drawWord_now  : s.drawWord.2.now = s.now := rfl
@[simp] theorem State.drawWord_lastRead  : s.drawWord.2.lastRead = s.lastRead := rfl
@[simp] theorem State.drawWord_held  : s.drawWord.2.held = s.held := rfl
@[simp] theorem State.drawWord_log  : s.drawWord.2.log = s.log := rfl
@[simp] theorem State.drawWord_tb  : s.drawWord.2.tb = s.tb := rfl
@[simp] theorem State.drawWord_thm  : s.drawWord.2.thm = s.thm := rfl
@[simp] theorem State.drawWord_rtc  : s.drawWord.2.rtc = s.rtc := rfl
@[simp] theorem State.drawWord_knb  : s.drawWord.2.knb = s.knb := rfl
@[simp] theorem State.drawWord_pwr  : s.drawWord.2.pwr = s.pwr := rfl
@[simp] theorem State.drawWord_hst  : s.drawWord.2.hst = s.hst := rfl
@[simp] theorem State.drawWord_buses  : s.drawWord.2.buses = s.buses := rfl
@[simp] theorem State.drawWord_polls  : s.drawWord.2.polls = s.polls := rfl
@[simp] theorem State.drawWord_od  : s.drawWord.2.od = s.od := rfl
@[simp] theorem State.drawWord_nv  : s.drawWord.2.nv = s.nv := rfl
@[simp] theorem State.drawWord_net  : s.drawWord.2.net = s.net := rfl
@[simp] theorem State.drawWord_acq  : s.drawWord.2.acq = s.acq := rfl
@[simp] theorem State.drawWord_cen  : s.drawWord.2.cen = s.cen := rfl
@[simp] theorem State.drawWord_act  : s.drawWord.2.act = s.act := rfl
@[simp] theorem State.drawWord_fan  : s.drawWord.2.fan = s.fan := rfl
@[simp] theorem State.drawWord_zon  : s.drawWord.2.zon = s.zon := rfl
@[simp] theorem State.drawWord_kpd  : s.drawWord.2.kpd = s.kpd := rfl
@[simp] theorem State.drawWord_ldl  : s.drawWord.2.ldl = s.ldl := rfl
@[simp] theorem State.drawWord_twn  : s.drawWord.2.twn = s.twn := rfl

@[simp] theorem State.drawNat_pending (n : Nat) : (s.drawNat n).2.pending = s.pending := rfl
@[simp] theorem State.drawNat_variant (n : Nat) : (s.drawNat n).2.variant = s.variant := rfl
@[simp] theorem State.drawNat_fuse (n : Nat) : (s.drawNat n).2.fuse = s.fuse := rfl
@[simp] theorem State.drawNat_regs (n : Nat) : (s.drawNat n).2.regs = s.regs := rfl
@[simp] theorem State.drawNat_mem (n : Nat) : (s.drawNat n).2.mem = s.mem := rfl
@[simp] theorem State.drawNat_now (n : Nat) : (s.drawNat n).2.now = s.now := rfl
@[simp] theorem State.drawNat_lastRead (n : Nat) : (s.drawNat n).2.lastRead = s.lastRead := rfl
@[simp] theorem State.drawNat_held (n : Nat) : (s.drawNat n).2.held = s.held := rfl
@[simp] theorem State.drawNat_log (n : Nat) : (s.drawNat n).2.log = s.log := rfl
@[simp] theorem State.drawNat_tb (n : Nat) : (s.drawNat n).2.tb = s.tb := rfl
@[simp] theorem State.drawNat_thm (n : Nat) : (s.drawNat n).2.thm = s.thm := rfl
@[simp] theorem State.drawNat_rtc (n : Nat) : (s.drawNat n).2.rtc = s.rtc := rfl
@[simp] theorem State.drawNat_knb (n : Nat) : (s.drawNat n).2.knb = s.knb := rfl
@[simp] theorem State.drawNat_pwr (n : Nat) : (s.drawNat n).2.pwr = s.pwr := rfl
@[simp] theorem State.drawNat_hst (n : Nat) : (s.drawNat n).2.hst = s.hst := rfl
@[simp] theorem State.drawNat_buses (n : Nat) : (s.drawNat n).2.buses = s.buses := rfl
@[simp] theorem State.drawNat_polls (n : Nat) : (s.drawNat n).2.polls = s.polls := rfl
@[simp] theorem State.drawNat_od (n : Nat) : (s.drawNat n).2.od = s.od := rfl
@[simp] theorem State.drawNat_nv (n : Nat) : (s.drawNat n).2.nv = s.nv := rfl
@[simp] theorem State.drawNat_net (n : Nat) : (s.drawNat n).2.net = s.net := rfl
@[simp] theorem State.drawNat_acq (n : Nat) : (s.drawNat n).2.acq = s.acq := rfl
@[simp] theorem State.drawNat_cen (n : Nat) : (s.drawNat n).2.cen = s.cen := rfl
@[simp] theorem State.drawNat_act (n : Nat) : (s.drawNat n).2.act = s.act := rfl
@[simp] theorem State.drawNat_fan (n : Nat) : (s.drawNat n).2.fan = s.fan := rfl
@[simp] theorem State.drawNat_zon (n : Nat) : (s.drawNat n).2.zon = s.zon := rfl
@[simp] theorem State.drawNat_kpd (n : Nat) : (s.drawNat n).2.kpd = s.kpd := rfl
@[simp] theorem State.drawNat_ldl (n : Nat) : (s.drawNat n).2.ldl = s.ldl := rfl
@[simp] theorem State.drawNat_twn (n : Nat) : (s.drawNat n).2.twn = s.twn := rfl

end Sys2Proof.Machine
end

