-- ==== Sys2Proof/Laws/Tab.lean ====
section
/-! SUPPORT. Sparse tables: what a read gives after a write, and that writes and deletions keep the canonical form. -/

namespace Sys2Proof.Machine

variable {α : Type}

theorem Tab.get_nil (d : Nat → α) (k : Nat) : Tab.get d [] k = d k := rfl

theorem Tab.get_cons (d : Nat → α) (p : Nat × α) (t : List (Nat × α)) (k : Nat) :
    Tab.get d (p :: t) k = if k = p.1 then p.2 else Tab.get d t k := by
  unfold Tab.get
  rw [List.lookup_cons]
  by_cases h : k = p.1
  · simp [h]
  · have h2 : (k == p.1) = false := by simpa using h
    simp [h, h2]

theorem Tab.get_filter (d : Nat → α) (f : Nat → Bool) (t : List (Nat × α)) (k : Nat) :
    Tab.get d (t.filter (fun p => f p.1)) k = if f k then Tab.get d t k else d k := by
  induction t with
  | nil => simp [Tab.get_nil]
  | cons p t ih =>
    by_cases hp : f p.1
    · rw [List.filter_cons_of_pos (by simpa using hp), Tab.get_cons, Tab.get_cons, ih]
      by_cases hk : k = p.1
      · subst hk; simp [hp]
      · simp [hk]
    · rw [List.filter_cons_of_neg (by simpa using hp), ih, Tab.get_cons]
      by_cases hk : k = p.1
      · subst hk; simp [hp]
      · simp [hk]

/-- A deleted key reads as its default, every other key as before. -/
theorem Tab.get_del (d : Nat → α) (t : List (Nat × α)) (k j : Nat) :
    Tab.get d (Tab.del t k) j = if j = k then d j else Tab.get d t j := by
  unfold Tab.del
  rw [Tab.get_filter d (fun a => a != k)]
  by_cases h : j = k <;> simp [h]

theorem Tab.get_ins (d : Nat → α) (t : List (Nat × α)) (k j : Nat) (v : α) (h : ∀ p ∈ t, p.1 ≠ k) :
    Tab.get d (Tab.ins t k v) j = if j = k then v else Tab.get d t j := by
  induction t with
  | nil => simp [Tab.ins, Tab.get_cons, Tab.get_nil]
  | cons p t ih =>
    have hp : p.1 ≠ k := h p (by simp)
    have ht : ∀ q ∈ t, q.1 ≠ k := fun q hq => h q (by simp [hq])
    unfold Tab.ins
    split
    · rw [Tab.get_cons]
    · rw [Tab.get_cons, ih ht, Tab.get_cons]
      by_cases hj : j = k
      · subst hj; simp [Ne.symm hp]
      · simp [hj]

theorem Tab.del_ne (t : List (Nat × α)) (k : Nat) : ∀ p ∈ Tab.del t k, p.1 ≠ k := by
  intro p hp; simpa using (List.mem_filter.mp hp).2

/-- A read after a write: the value at the key written, what stood before elsewhere. -/
theorem Tab.get_put [DecidableEq α] (d : Nat → α) (t : List (Nat × α)) (k j : Nat) (v : α) :
    Tab.get d (Tab.put d t k v) j = if j = k then v else Tab.get d t j := by
  unfold Tab.put
  split
  · rename_i h
    rw [Tab.get_del]
    by_cases hj : j = k
    · subst hj; simp [h]
    · simp [hj]
  · rw [Tab.get_ins d _ _ _ _ (Tab.del_ne t k), Tab.get_del]
    by_cases hj : j = k <;> simp [hj]

@[simp] theorem Tab.get_put_same [DecidableEq α] (d : Nat → α) (t : List (Nat × α)) (k : Nat) (v : α) :
    Tab.get d (Tab.put d t k v) k = v := by simp [Tab.get_put]

theorem Tab.get_put_ne [DecidableEq α] (d : Nat → α) (t : List (Nat × α)) (k j : Nat) (v : α) (h : j ≠ k) :
    Tab.get d (Tab.put d t k v) j = Tab.get d t j := by simp [Tab.get_put, h]

theorem Tab.get_keep (d : Nat → α) (t : List (Nat × α)) (f : Nat → Bool) (k : Nat) :
    Tab.get d (Tab.keep t f) k = if f k then Tab.get d t k else d k := Tab.get_filter d f t k

theorem Tab.wf_iff [DecidableEq α] (d : Nat → α) (t : List (Nat × α)) :
    Tab.wf d t = true ↔ t.Pairwise (fun p q => p.1 < q.1) ∧ ∀ p ∈ t, p.2 ≠ d p.1 := by
  simp [Tab.wf]

@[simp] theorem Tab.wf_nil [DecidableEq α] (d : Nat → α) : Tab.wf d ([] : List (Nat × α)) = true := by
  simp [Tab.wf]

/-- Keeping some keys keeps the canonical form. -/
theorem Tab.wf_keep [DecidableEq α] {d : Nat → α} {t : List (Nat × α)} (f : Nat → Bool) (h : Tab.wf d t = true) :
    Tab.wf d (Tab.keep t f) = true := by
  rw [Tab.wf_iff] at h ⊢
  exact ⟨h.1.sublist List.filter_sublist, fun p hp => h.2 p (List.mem_filter.mp hp).1⟩

theorem Tab.mem_ins (t : List (Nat × α)) (k : Nat) (v : α) (p : Nat × α) (h : p ∈ Tab.ins t k v) : p = (k, v) ∨ p ∈ t := by
  induction t with
  | nil => simpa [Tab.ins] using h
  | cons q t ih =>
    unfold Tab.ins at h
    split at h
    · simpa using h
    · rcases List.mem_cons.mp h with h | h
      · simp [h]
      · rcases ih h with h | h <;> simp [h]

theorem Tab.sorted_ins (t : List (Nat × α)) (k : Nat) (v : α) (h : t.Pairwise (fun p q => p.1 < q.1))
    (hk : ∀ p ∈ t, p.1 ≠ k) : (Tab.ins t k v).Pairwise (fun p q => p.1 < q.1) := by
  induction t with
  | nil => simp [Tab.ins]
  | cons q t ih =>
    rw [List.pairwise_cons] at h
    have hq := hk q (by simp)
    unfold Tab.ins
    split
    · rename_i hlt
      refine List.pairwise_cons.mpr ⟨fun p hp => ?_, List.pairwise_cons.mpr h⟩
      rcases List.mem_cons.mp hp with rfl | hp
      · exact hlt
      · exact lt_trans hlt (h.1 p hp)
    · rename_i hge
      refine List.pairwise_cons.mpr ⟨fun p hp => ?_, ih h.2 (fun p hp => hk p (by simp [hp]))⟩
      rcases Tab.mem_ins t k v p hp with rfl | hp
      · show q.1 < k; omega
      · exact h.1 p hp

/-- A write keeps the canonical form. -/
theorem Tab.wf_put [DecidableEq α] {d : Nat → α} {t : List (Nat × α)} (k : Nat) (v : α) (h : Tab.wf d t = true) :
    Tab.wf d (Tab.put d t k v) = true := by
  have hd : Tab.wf d (Tab.del t k) = true := Tab.wf_keep (fun a => a != k) h
  unfold Tab.put
  split
  · exact hd
  · rename_i hv
    rw [Tab.wf_iff] at hd ⊢
    refine ⟨Tab.sorted_ins _ _ _ hd.1 (Tab.del_ne t k), fun p hp => ?_⟩
    rcases Tab.mem_ins _ _ _ _ hp with rfl | hp
    · exact hv
    · exact hd.2 p hp

end Sys2Proof.Machine
end

