-- ==== Sys2Proof/Laws/Reg.lean ====
section
/-! SUPPORT. Registers, fields and memory: what a read gives after a write, and that level latches and event latches touch nothing else. -/

namespace Sys2Proof.Machine

variable (s : State)

/-! ### Bit fields -/

theorem maskOf_bit (lo w i : Nat) (hi : i < 32) : (maskOf lo w).getLsbD i = (decide (lo ≤ i) && decide (i < lo + w)) := by
  unfold maskOf
  rw [BitVec.getLsbD_ofNat, Nat.mul_comm, Nat.testBit_two_pow_mul, Nat.testBit_two_pow_sub_one]
  by_cases h : lo ≤ i
  · simp [hi, h]; omega
  · simp [h]

theorem putFld_bit (x : Word) (lo w v i : Nat) (hi : i < 32) :
    (putFld x lo w v).getLsbD i = if lo ≤ i ∧ i < lo + w then v.testBit (i - lo) else x.getLsbD i := by
  unfold putFld
  rw [BitVec.getLsbD_or, BitVec.getLsbD_and, BitVec.getLsbD_not, maskOf_bit _ _ _ hi, BitVec.getLsbD_ofNat, Nat.mul_comm,
    Nat.testBit_two_pow_mul, Nat.testBit_mod_two_pow]
  by_cases h1 : lo ≤ i <;> by_cases h2 : i < lo + w <;> simp [hi, h1, h2] <;> omega

theorem fld_bit (x : Word) (lo w i : Nat) : (fld x lo w).testBit i = (decide (i < w) && x.getLsbD (lo + i)) := by
  unfold fld
  rw [Nat.testBit_mod_two_pow, Nat.testBit_div_two_pow, BitVec.getLsbD, Nat.add_comm]

/-- A field written reads back, modulo its width. -/
theorem fld_putFld (x : Word) (lo w v : Nat) (h : lo + w ≤ 32) : fld (putFld x lo w v) lo w = v % 2 ^ w := by
  apply Nat.eq_of_testBit_eq
  intro i
  rw [fld_bit, Nat.testBit_mod_two_pow]
  by_cases hi : i < w
  · rw [putFld_bit _ _ _ _ _ (by omega), if_pos (by omega)]; simp [hi]
  · simp [hi]

/-- A field apart from the one written keeps its value. -/
theorem fld_putFld_apart (x : Word) (lo w v lo2 w2 : Nat) (h2 : lo2 + w2 ≤ 32) (h : lo + w ≤ lo2 ∨ lo2 + w2 ≤ lo) :
    fld (putFld x lo w v) lo2 w2 = fld x lo2 w2 := by
  apply Nat.eq_of_testBit_eq
  intro i
  rw [fld_bit, fld_bit]
  by_cases hi : i < w2
  · rw [putFld_bit _ _ _ _ _ (by omega), if_neg (by omega)]
  · simp [hi]

theorem bitOf_putFld_apart (x : Word) (lo w v i : Nat) (hi : i < 32) (h : i < lo ∨ lo + w ≤ i) :
    bitOf (putFld x lo w v) i = bitOf x i := by
  unfold bitOf; rw [putFld_bit _ _ _ _ _ hi, if_neg (by omega)]

theorem bitOf_putBit (x : Word) (i : Nat) (b : Bool) (hi : i < 32) : bitOf (putFld x i 1 (if b then 1 else 0)) i = b := by
  unfold bitOf; rw [putFld_bit _ _ _ _ _ hi, if_pos (by omega)]; cases b <;> simp

/-! ### Registers -/

theorem State.reg_setReg (a b : Nat) (v : Word) : (s.setReg a v).reg b = if b = a then v else s.reg b :=
  Tab.get_put _ _ _ _ _

@[simp] theorem State.reg_setReg_same (a : Nat) (v : Word) : (s.setReg a v).reg a = v := by simp [State.reg_setReg]

theorem State.reg_setReg_ne (a b : Nat) (v : Word) (h : b ≠ a) : (s.setReg a v).reg b = s.reg b := by
  simp [State.reg_setReg, h]

theorem State.reg_setRf (a lo w v b : Nat) : (s.setRf a lo w v).reg b = if b = a then putFld (s.reg a) lo w v else s.reg b :=
  State.reg_setReg _ _ _ _

theorem State.reg_setRf_ne (a lo w v b : Nat) (h : b ≠ a) : (s.setRf a lo w v).reg b = s.reg b := by
  simp [State.reg_setRf, h]

/-- A field of a register reads back as written, modulo its width. -/
theorem State.rf_setRf (a lo w v : Nat) (h : lo + w ≤ 32) : (s.setRf a lo w v).rf a lo w = v % 2 ^ w := by
  simp [State.rf, State.reg_setRf, fld_putFld _ _ _ _ h]

theorem State.reg_setRb (a i : Nat) (b : Bool) (c : Nat) :
    (s.setRb a i b).reg c = if c = a then putFld (s.reg a) i 1 (if b then 1 else 0) else s.reg c := State.reg_setRf _ _ _ _ _ _

theorem State.reg_setRb_ne (a i : Nat) (b : Bool) (c : Nat) (h : c ≠ a) : (s.setRb a i b).reg c = s.reg c := by
  simp [State.reg_setRb, h]

theorem State.rb_setRb (a i : Nat) (b : Bool) (h : i < 32) : (s.setRb a i b).rb a i = b := by
  simp [State.rb, State.reg_setRb, bitOf_putBit _ _ _ h]

theorem State.reg_orReg (a : Nat) (m : Word) (b : Nat) : (s.orReg a m).reg b = if b = a then s.reg a ||| m else s.reg b :=
  State.reg_setReg _ _ _ _

theorem State.reg_clrReg (a : Nat) (m : Word) (b : Nat) : (s.clrReg a m).reg b = if b = a then s.reg a &&& ~~~m else s.reg b :=
  State.reg_setReg _ _ _ _

theorem State.reg_incSat (a k b : Nat) : (s.incSat a k).reg b = if b = a then satAdd (s.reg a) k else s.reg b :=
  State.reg_setReg _ _ _ _

theorem State.reg_incWrap (a b : Nat) : (s.incWrap a).reg b = if b = a then s.reg a + 1 else s.reg b :=
  State.reg_setReg _ _ _ _

/-- Equal register files read equal. -/
theorem State.reg_congr {s t : State} (h : s.regs = t.regs) (a : Nat) : s.reg a = t.reg a := by unfold State.reg; rw [h]

/-! ### Memory -/

theorem State.byte_setByte (a b : Nat) (v : Byte) : (s.setByte a v).byte b = if b = a then v else s.byte b :=
  Tab.get_put _ _ _ _ _

theorem State.byte_congr {s t : State} (h : s.mem = t.mem) (a : Nat) : s.byte a = t.byte a := by unfold State.byte; rw [h]

/-- Bytes written from an address on: the i-th reads back, every byte outside them stays. -/
theorem State.byte_setBytes (a b : Nat) (l : List Byte) :
    (s.setBytes a l).byte b = if a ≤ b ∧ b < a + l.length then l.getD (b - a) 0 else s.byte b := by
  induction l generalizing s a with
  | nil => simp [State.setBytes]
  | cons x t ih =>
    rw [State.setBytes, ih, State.byte_setByte]
    by_cases h1 : b = a
    · subst h1; simp
    · by_cases h2 : a + 1 ≤ b ∧ b < a + 1 + t.length
      · rw [if_pos h2, if_pos (by simp; omega)]
        obtain ⟨k, hk⟩ : ∃ k, b - a = k + 1 := ⟨b - a - 1, by omega⟩
        rw [hk, show b - (a + 1) = k by omega, List.getD_cons_succ]
      · rw [if_neg h2, if_neg h1, if_neg (by simp; omega)]

@[simp] theorem leBytes_length (n v : Nat) : (leBytes n v).length = n := by
  induction n generalizing v with
  | zero => rfl
  | succ n ih => simp [leBytes, ih]

theorem ofLe_leBytes (n v : Nat) : ofLe (leBytes n v) = v % 256 ^ n := by
  induction n generalizing v with
  | zero => simp [leBytes, ofLe, Nat.mod_one]
  | succ n ih =>
    show (BitVec.ofNat 8 v).toNat + 256 * ofLe (leBytes n (v / 256)) = _
    rw [ih, BitVec.toNat_ofNat, show (256 : Nat) ^ (n + 1) = 256 * 256 ^ n from pow_succ' 256 n]
    exact (Nat.mod_mul).symm

theorem State.bytes_setBytes_same (a : Nat) (l : List Byte) : (s.setBytes a l).bytes a l.length = l := by
  unfold State.bytes
  apply List.ext_getElem (by simp)
  intro i h1 h2
  simp only [List.getElem_map, List.getElem_range]
  rw [State.byte_setBytes, if_pos (by simp at h1 h2; omega)]
  simp at h1
  rw [Nat.add_sub_cancel_left, List.getD_eq_getElem _ _ h1]

theorem State.word_setWord (a : Nat) (v : Word) : (s.setWord a v).word a = v := by
  unfold State.word State.setWord
  have h : (s.setBytes a (leBytes 4 v.toNat)).bytes a 4 = leBytes 4 v.toNat := by
    simpa using State.bytes_setBytes_same s a (leBytes 4 v.toNat)
  rw [h, ofLe_leBytes]
  apply BitVec.eq_of_toNat_eq
  rw [BitVec.toNat_ofNat]
  have := v.isLt
  omega

theorem State.byte_setWord_apart (a b : Nat) (v : Word) (h : b < a ∨ a + 4 ≤ b) : (s.setWord a v).byte b = s.byte b := by
  unfold State.setWord; rw [State.byte_setBytes, if_neg (by simp; omega)]

theorem State.word_setWord_apart (a b : Nat) (v : Word) (h : b + 4 ≤ a ∨ a + 4 ≤ b) : (s.setWord a v).word b = s.word b := by
  unfold State.word State.bytes
  congr 2
  apply List.map_congr_left
  intro i hi
  have := List.mem_range.mp hi
  exact State.byte_setWord_apart s a (b + i) v (by omega)

theorem State.byte_clearMem (lo hi a : Nat) : (s.clearMem lo hi).byte a = if lo ≤ a ∧ a < hi then memDefault a else s.byte a := by
  unfold State.byte State.clearMem
  rw [Tab.get_keep]
  by_cases h : lo ≤ a ∧ a < hi
  · simp [h]
  · rw [if_neg h]
    rw [if_pos]; simp only [Bool.not_eq_true', Bool.and_eq_false_iff, decide_eq_false_iff_not]; omega

/-! ### Event latches and the end of a command -/

theorem State.reg_latchCore (n a : Nat) (h : a ∉ latchRegs) : (s.latchCore n).reg a = s.reg a := by
  simp only [latchRegs, List.mem_cons, List.not_mem_nil, or_false, not_or] at h
  unfold State.latchCore
  split
  · rfl
  · split <;> simp [State.reg_setRb, h]

theorem State.reg_latchHost (n a : Nat) (h : a ∉ latchRegs) : (s.latchHost n).reg a = s.reg a := by
  simp only [latchRegs, List.mem_cons, List.not_mem_nil, or_false, not_or] at h
  unfold State.latchHost
  split
  · rfl
  · split <;> simp [State.reg_setRb, h]

@[simp] theorem State.reg_traceNote (n a : Nat) : (s.traceNote n).reg a = s.reg a := rfl

theorem State.reg_fire (n a : Nat) (h : a ∉ latchRegs) : (s.fire n).reg a = s.reg a := by
  unfold State.fire
  split
  · rfl
  · rw [State.reg_traceNote, State.reg_latchHost _ _ _ h, State.reg_latchCore _ _ _ h]

/-- What one pass over the level sources leaves alone holds for the whole of settle. -/
theorem State.settle_ind (P : State → Prop) (h0 : P s) (hc : ∀ t n, P t → P (t.latchCore n)) (hh : ∀ t n, P t → P (t.latchHost n))
    (hn : ∀ t n, P t → P (t.traceNote n)) : P s.settle := by
  have one : ∀ (t : State) (n : Nat), P t → P (t.levelLatch n) := by
    intro t n h
    unfold State.levelLatch
    have h1 : P (if t.levelCause n false then (t.latchCore n).traceNote n else t) := by split <;> [exact hn _ _ (hc _ _ h); exact h]
    generalize (if t.levelCause n false then (t.latchCore n).traceNote n else t) = u at h1 ⊢
    dsimp only
    split <;> [exact hh _ _ h1; exact h1]
  have step : ∀ (l : List Nat) (t : State), P t → P (t.forEach l State.levelLatch) := by
    intro l
    induction l with
    | nil => intro t h; exact h
    | cons n l ih => intro t h; exact ih _ (one t n h)
  exact step _ _ h0

theorem State.reg_settle (a : Nat) (h : a ∉ latchRegs) : s.settle.reg a = s.reg a :=
  State.settle_ind s (fun t => t.reg a = s.reg a) rfl (fun t n ht => by rw [State.reg_latchCore _ _ _ h, ht])
    (fun t n ht => by rw [State.reg_latchHost _ _ _ h, ht]) (fun t n ht => ht)

@[simp] theorem State.settle_pending : s.settle.pending = s.pending :=
  State.settle_ind s (fun t => t.pending = s.pending) rfl (fun t n h => by simpa using h) (fun t n h => by simpa using h) (fun t n h => h)
@[simp] theorem State.settle_variant : s.settle.variant = s.variant :=
  State.settle_ind s (fun t => t.variant = s.variant) rfl (fun t n h => by simpa using h) (fun t n h => by simpa using h) (fun t n h => h)
@[simp] theorem State.settle_fuse : s.settle.fuse = s.fuse :=
  State.settle_ind s (fun t => t.fuse = s.fuse) rfl (fun t n h => by simpa using h) (fun t n h => by simpa using h) (fun t n h => h)
@[simp] theorem State.settle_mem : s.settle.mem = s.mem :=
  State.settle_ind s (fun t => t.mem = s.mem) rfl (fun t n h => by simpa using h) (fun t n h => by simpa using h) (fun t n h => h)
@[simp] theorem State.settle_now : s.settle.now = s.now :=
  State.settle_ind s (fun t => t.now = s.now) rfl (fun t n h => by simpa using h) (fun t n h => by simpa using h) (fun t n h => h)
@[simp] theorem State.settle_free : s.settle.free = s.free :=
  State.settle_ind s (fun t => t.free = s.free) rfl (fun t n h => by simpa using h) (fun t n h => by simpa using h) (fun t n h => h)
@[simp] theorem State.settle_lastRead : s.settle.lastRead = s.lastRead :=
  State.settle_ind s (fun t => t.lastRead = s.lastRead) rfl (fun t n h => by simpa using h) (fun t n h => by simpa using h) (fun t n h => h)
@[simp] theorem State.settle_held : s.settle.held = s.held :=
  State.settle_ind s (fun t => t.held = s.held) rfl (fun t n h => by simpa using h) (fun t n h => by simpa using h) (fun t n h => h)
@[simp] theorem State.settle_log : s.settle.log = s.log :=
  State.settle_ind s (fun t => t.log = s.log) rfl (fun t n h => by simpa using h) (fun t n h => by simpa using h) (fun t n h => h)
@[simp] theorem State.settle_tb : s.settle.tb = s.tb :=
  State.settle_ind s (fun t => t.tb = s.tb) rfl (fun t n h => by simpa using h) (fun t n h => by simpa using h) (fun t n h => h)
@[simp] theorem State.settle_thm : s.settle.thm = s.thm :=
  State.settle_ind s (fun t => t.thm = s.thm) rfl (fun t n h => by simpa using h) (fun t n h => by simpa using h) (fun t n h => h)
@[simp] theorem State.settle_rtc : s.settle.rtc = s.rtc :=
  State.settle_ind s (fun t => t.rtc = s.rtc) rfl (fun t n h => by simpa using h) (fun t n h => by simpa using h) (fun t n h => h)
@[simp] theorem State.settle_knb : s.settle.knb = s.knb :=
  State.settle_ind s (fun t => t.knb = s.knb) rfl (fun t n h => by simpa using h) (fun t n h => by simpa using h) (fun t n h => h)
@[simp] theorem State.settle_pwr : s.settle.pwr = s.pwr :=
  State.settle_ind s (fun t => t.pwr = s.pwr) rfl (fun t n h => by simpa using h) (fun t n h => by simpa using h) (fun t n h => h)
@[simp] theorem State.settle_hst : s.settle.hst = s.hst :=
  State.settle_ind s (fun t => t.hst = s.hst) rfl (fun t n h => by simpa using h) (fun t n h => by simpa using h) (fun t n h => h)
@[simp] theorem State.settle_buses : s.settle.buses = s.buses :=
  State.settle_ind s (fun t => t.buses = s.buses) rfl (fun t n h => by simpa using h) (fun t n h => by simpa using h) (fun t n h => h)
@[simp] theorem State.settle_polls : s.settle.polls = s.polls :=
  State.settle_ind s (fun t => t.polls = s.polls) rfl (fun t n h => by simpa using h) (fun t n h => by simpa using h) (fun t n h => h)
@[simp] theorem State.settle_od : s.settle.od = s.od :=
  State.settle_ind s (fun t => t.od = s.od) rfl (fun t n h => by simpa using h) (fun t n h => by simpa using h) (fun t n h => h)
@[simp] theorem State.settle_nv : s.settle.nv = s.nv :=
  State.settle_ind s (fun t => t.nv = s.nv) rfl (fun t n h => by simpa using h) (fun t n h => by simpa using h) (fun t n h => h)
@[simp] theorem State.settle_net : s.settle.net = s.net :=
  State.settle_ind s (fun t => t.net = s.net) rfl (fun t n h => by simpa using h) (fun t n h => by simpa using h) (fun t n h => h)
@[simp] theorem State.settle_acq : s.settle.acq = s.acq :=
  State.settle_ind s (fun t => t.acq = s.acq) rfl (fun t n h => by simpa using h) (fun t n h => by simpa using h) (fun t n h => h)
@[simp] theorem State.settle_act : s.settle.act = s.act :=
  State.settle_ind s (fun t => t.act = s.act) rfl (fun t n h => by simpa using h) (fun t n h => by simpa using h) (fun t n h => h)
@[simp] theorem State.settle_fan : s.settle.fan = s.fan :=
  State.settle_ind s (fun t => t.fan = s.fan) rfl (fun t n h => by simpa using h) (fun t n h => by simpa using h) (fun t n h => h)
@[simp] theorem State.settle_zon : s.settle.zon = s.zon :=
  State.settle_ind s (fun t => t.zon = s.zon) rfl (fun t n h => by simpa using h) (fun t n h => by simpa using h) (fun t n h => h)
@[simp] theorem State.settle_kpd : s.settle.kpd = s.kpd :=
  State.settle_ind s (fun t => t.kpd = s.kpd) rfl (fun t n h => by simpa using h) (fun t n h => by simpa using h) (fun t n h => h)
@[simp] theorem State.settle_ldl : s.settle.ldl = s.ldl :=
  State.settle_ind s (fun t => t.ldl = s.ldl) rfl (fun t n h => by simpa using h) (fun t n h => by simpa using h) (fun t n h => h)
@[simp] theorem State.settle_twn : s.settle.twn = s.twn :=
  State.settle_ind s (fun t => t.twn = s.twn) rfl (fun t n h => by simpa using h) (fun t n h => by simpa using h) (fun t n h => h)

theorem cenNoted_refl : cenNoted s s = s.cen := rfl

/-- A source that fires changes of CEN its notes of the order of events alone. -/
theorem State.traceNote_cen {s t : State} (n : Nat) (h : t.cen = cenNoted s t) : (t.traceNote n).cen = cenNoted s (t.traceNote n) := by
  have h2 : (t.traceNote n).cen = { t.cen with notes := (t.traceNote n).cen.notes } := rfl
  rw [h2, h]
  rfl

/-- The end of a command changes of CEN its notes of the order of events alone. -/
theorem State.settle_cen : s.settle.cen = cenNoted s s.settle :=
  State.settle_ind s (fun t => t.cen = cenNoted s t) (cenNoted_refl s).symm
    (fun t n h => by rw [State.latchCore_cen, h]; simp [cenNoted])
    (fun t n h => by rw [State.latchHost_cen, h]; simp [cenNoted])
    (fun t n h => State.traceNote_cen n h)

end Sys2Proof.Machine
end

