-- ==== Sys2Proof/Laws/Events.lean ====
section
/-! SUPPORT. Event latches: what firing a source and the end of a command do to each latch. -/

namespace Sys2Proof.Machine

variable (s : State)

/-! ### One latch -/

theorem State.coreLatch_congr {s t : State} (hl : t.reg Reg.evtPendLo = s.reg Reg.evtPendLo) (hh : t.reg Reg.evtPendHi = s.reg Reg.evtPendHi)
    (n : Nat) : t.coreLatch n = s.coreLatch n := by
  simp [State.coreLatch, State.rb, hl, hh]

theorem State.hostLatch_congr {s t : State} (hl : t.reg Reg.evtHpendLo = s.reg Reg.evtHpendLo)
    (hh : t.reg Reg.evtHpendHi = s.reg Reg.evtHpendHi) (n : Nat) : t.hostLatch n = s.hostLatch n := by
  simp [State.hostLatch, State.rb, hl, hh]

theorem bitOf_setRb (a i : Nat) (j : Nat) (hi : i < 32) (hj : j < 32) :
    bitOf ((s.setRb a i true).reg a) j = (bitOf (s.reg a) j || j == i) := by
  rw [State.reg_setRb, if_pos rfl]
  by_cases h : j = i
  · subst h; simpa using bitOf_putBit (s.reg a) j true hi
  · have h2 : (j == i) = false := by simpa using h
    rw [h2, Bool.or_false]
    exact bitOf_putFld_apart (s.reg a) i 1 _ j hj (by omega)

theorem State.coreLatch_latchCore (n m : Nat) (hn : n < 64) (hm : m < 64) :
    (s.latchCore n).coreLatch m = (s.coreLatch m || (!eventAbsent s.variant n && m == n)) := by
  unfold State.latchCore
  by_cases ha : eventAbsent s.variant n = true
  · simp [ha]
  · rw [if_neg ha]
    have ha' : eventAbsent s.variant n = false := by simpa using ha
    by_cases hn2 : n < 32
    · rw [if_pos hn2]
      unfold State.coreLatch
      by_cases hm2 : m < 32
      · simp only [if_pos hm2, State.rb, bitOf_setRb s _ _ _ hn2 hm2, ha', Bool.not_false, Bool.true_and]
      · simp only [if_neg hm2, State.rb, State.reg_setRb_ne _ _ _ _ _ (show Reg.evtPendHi ≠ Reg.evtPendLo by decide), ha', Bool.not_false,
          Bool.true_and]
        have : (m == n) = false := by simp; omega
        simp [this]
    · rw [if_neg hn2]
      unfold State.coreLatch
      by_cases hm2 : m < 32
      · simp only [if_pos hm2, State.rb, State.reg_setRb_ne _ _ _ _ _ (show Reg.evtPendLo ≠ Reg.evtPendHi by decide), ha', Bool.not_false,
          Bool.true_and]
        have : (m == n) = false := by simp; omega
        simp [this]
      · simp only [if_neg hm2, State.rb, bitOf_setRb s _ _ _ (show n - 32 < 32 by omega) (show m - 32 < 32 by omega), ha', Bool.not_false,
          Bool.true_and]
        congr 1
        by_cases h : m = n
        · subst h; simp
        · have h2 : m - 32 ≠ n - 32 := by omega
          simp [h, h2]

theorem State.hostLatch_latchHost (n m : Nat) (hn : n < 64) (hm : m < 64) :
    (s.latchHost n).hostLatch m = (s.hostLatch m || (!eventAbsent s.variant n && m == n)) := by
  unfold State.latchHost
  by_cases ha : eventAbsent s.variant n = true
  · simp [ha]
  · rw [if_neg ha]
    have ha' : eventAbsent s.variant n = false := by simpa using ha
    by_cases hn2 : n < 32
    · rw [if_pos hn2]
      unfold State.hostLatch
      by_cases hm2 : m < 32
      · simp only [if_pos hm2, State.rb, bitOf_setRb s _ _ _ hn2 hm2, ha', Bool.not_false, Bool.true_and]
      · simp only [if_neg hm2, State.rb, State.reg_setRb_ne _ _ _ _ _ (show Reg.evtHpendHi ≠ Reg.evtHpendLo by decide), ha', Bool.not_false,
          Bool.true_and]
        have : (m == n) = false := by simp; omega
        simp [this]
    · rw [if_neg hn2]
      unfold State.hostLatch
      by_cases hm2 : m < 32
      · simp only [if_pos hm2, State.rb, State.reg_setRb_ne _ _ _ _ _ (show Reg.evtHpendLo ≠ Reg.evtHpendHi by decide), ha', Bool.not_false,
          Bool.true_and]
        have : (m == n) = false := by simp; omega
        simp [this]
      · simp only [if_neg hm2, State.rb, bitOf_setRb s _ _ _ (show n - 32 < 32 by omega) (show m - 32 < 32 by omega), ha', Bool.not_false,
          Bool.true_and]
        congr 1
        by_cases h : m = n
        · subst h; simp
        · have h2 : m - 32 ≠ n - 32 := by omega
          simp [h, h2]

theorem State.hostLatch_latchCore (n m : Nat) : (s.latchCore n).hostLatch m = s.hostLatch m := by
  apply State.hostLatch_congr <;> (unfold State.latchCore; split <;> [rfl; (split <;> exact State.reg_setRb_ne _ _ _ _ _ (by decide))])

theorem State.coreLatch_latchHost (n m : Nat) : (s.latchHost n).coreLatch m = s.coreLatch m := by
  apply State.coreLatch_congr <;> (unfold State.latchHost; split <;> [rfl; (split <;> exact State.reg_setRb_ne _ _ _ _ _ (by decide))])

/-- A fired source: its two latches are set if the variant has it, every other latch is as it was (R446, R452). -/
theorem State.coreLatch_fire (n m : Nat) (hn : n < 64) (hm : m < 64) :
    (s.fire n).coreLatch m = (s.coreLatch m || (!eventAbsent s.variant n && m == n)) := by
  unfold State.fire
  by_cases ha : eventAbsent s.variant n = true
  · simp [ha]
  · rw [if_neg ha]
    show ((s.latchCore n).latchHost n).coreLatch m = _
    rw [State.coreLatch_latchHost, State.coreLatch_latchCore _ _ _ hn hm]

theorem State.hostLatch_fire (n m : Nat) (hn : n < 64) (hm : m < 64) :
    (s.fire n).hostLatch m = (s.hostLatch m || (!eventAbsent s.variant n && m == n)) := by
  unfold State.fire
  by_cases ha : eventAbsent s.variant n = true
  · simp [ha]
  · rw [if_neg ha]
    show ((s.latchCore n).latchHost n).hostLatch m = _
    rw [State.hostLatch_latchHost _ _ _ hn hm, State.hostLatch_latchCore, State.latchCore_variant]

/-! ### The level sources -/

/-- The causes of the level sources read no latch. -/
theorem State.levelCause_congr {s t : State} (hr : ∀ a, a ∉ latchRegs → t.reg a = s.reg a) (hv : t.variant = s.variant)
    (hp : t.pwr = s.pwr) (n : Nat) (h : Bool) : t.levelCause n h = s.levelCause n h := by
  have e : ∀ a, 0x60040000 ≤ a → t.reg a = s.reg a := by
    intro a ha
    apply hr
    simp only [latchRegs, Reg.evtPendLo, Reg.evtPendHi, Reg.evtHpendLo, Reg.evtHpendHi, List.mem_cons, List.not_mem_nil, or_false, not_or]
    omega
  have e1 : t.reg Reg.pwrStat = s.reg Reg.pwrStat := hr _ (by decide)
  have cfg : ∀ k, t.reg (Reg.rngCfg k) = s.reg (Reg.rngCfg k) := fun k => e _ (by unfold Reg.rngCfg; omega)
  have hd : ∀ k, t.reg (Reg.rngHead k) = s.reg (Reg.rngHead k) := fun k => e _ (by unfold Reg.rngHead; omega)
  have tl : ∀ k, t.reg (Reg.rngTail k) = s.reg (Reg.rngTail k) := fun k => e _ (by unfold Reg.rngTail; omega)
  have ps : ∀ k, t.reg (Reg.netpStat k) = s.reg (Reg.netpStat k) := fun k => e _ (by unfold Reg.netpStat; omega)
  have pc : ∀ k, t.reg (Reg.netpCfg k) = s.reg (Reg.netpCfg k) := fun k => e _ (by unfold Reg.netpCfg; omega)
  have tw : t.reg Reg.twnStat = s.reg Reg.twnStat := e _ (by decide)
  unfold State.levelCause State.ringNeCause State.ringFullCause State.portFaulty State.isTwin State.present State.ringHostConsumes
    State.ringHostProduces State.ringFull State.ringCount State.ringHead State.ringTail State.ringDepth State.rb State.rf
  simp only [cfg, hd, tl, ps, pc, tw, e1, hv, hp]

theorem State.levelCause_latchCore (n m : Nat) (h : Bool) : (s.latchCore n).levelCause m h = s.levelCause m h :=
  State.levelCause_congr (fun a ha => State.reg_latchCore s n a ha) (by simp) (by simp) m h

theorem State.levelCause_latchHost (n m : Nat) (h : Bool) : (s.latchHost n).levelCause m h = s.levelCause m h :=
  State.levelCause_congr (fun a ha => State.reg_latchHost s n a ha) (by simp) (by simp) m h

theorem State.levelLatch_spec (n m : Nat) (hn : n < 64) (hm : m < 64) :
    (s.levelLatch n).coreLatch m = (s.coreLatch m || (!eventAbsent s.variant m && (m == n && s.levelCause n false))) ∧
    (s.levelLatch n).hostLatch m = (s.hostLatch m || (!eventAbsent s.variant m && (m == n && s.levelCause n true))) ∧
    (s.levelLatch n).variant = s.variant ∧ ∀ k h, (s.levelLatch n).levelCause k h = s.levelCause k h := by
  have key : ∀ u : State, (u = if s.levelCause n false then (s.latchCore n).traceNote n else s) →
      u.coreLatch m = (s.coreLatch m || (!eventAbsent s.variant m && (m == n && s.levelCause n false))) ∧
      u.hostLatch m = s.hostLatch m ∧ u.variant = s.variant ∧ ∀ k h, u.levelCause k h = s.levelCause k h := by
    intro u hu
    by_cases hc : s.levelCause n false = true
    · rw [if_pos hc] at hu
      subst hu
      refine ⟨?_, State.hostLatch_latchCore s n m, by simp, fun k h => State.levelCause_latchCore s n k h⟩
      show (s.latchCore n).coreLatch m = _
      rw [State.coreLatch_latchCore _ _ _ hn hm, hc]
      by_cases h : m = n
      · subst h; simp
      · have : (m == n) = false := by simpa using h
        simp [this]
    · rw [if_neg hc] at hu
      have hf : s.levelCause n false = false := by simpa using hc
      rw [hu]
      simp [hf]
  unfold State.levelLatch
  dsimp only
  generalize hu : (if s.levelCause n false then (s.latchCore n).traceNote n else s) = u
  obtain ⟨k1, k2, k3, k4⟩ := key u hu.symm
  rw [k4]
  by_cases hc : s.levelCause n true = true
  · rw [if_pos hc]
    refine ⟨by rw [State.coreLatch_latchHost, k1], ?_, by simp [k3], fun k h => by rw [State.levelCause_latchHost, k4]⟩
    rw [State.hostLatch_latchHost _ _ _ hn hm, k2, k3, hc]
    by_cases h : m = n
    · subst h; simp
    · have : (m == n) = false := by simpa using h
      simp [this]
  · rw [if_neg hc]
    have : s.levelCause n true = false := by simpa using hc
    exact ⟨k1, by simp [k2, this], k3, k4⟩

/-- What settle does to the latches: those of the level sources whose causes hold are set, every other is as it was. -/
theorem State.settle_latch (m : Nat) (hm : m < 64) :
    s.settle.coreLatch m = (s.coreLatch m || (!eventAbsent s.variant m && (levelSources.contains m && s.levelCause m false))) ∧
    s.settle.hostLatch m = (s.hostLatch m || (!eventAbsent s.variant m && (levelSources.contains m && s.levelCause m true))) := by
  have gen : ∀ (l : List Nat) (t : State), (∀ n ∈ l, n < 64) → t.variant = s.variant →
      (∀ n h, t.levelCause n h = s.levelCause n h) →
      (t.forEach l State.levelLatch).coreLatch m =
        (t.coreLatch m || (!eventAbsent s.variant m && (l.contains m && s.levelCause m false))) ∧
      (t.forEach l State.levelLatch).hostLatch m =
        (t.hostLatch m || (!eventAbsent s.variant m && (l.contains m && s.levelCause m true))) := by
    intro l
    induction l with
    | nil => intro t _ _ _; simp [State.forEach]
    | cons n l ih =>
      intro t hl hv hc
      obtain ⟨a1, a2, a3, a4⟩ := State.levelLatch_spec t n m (hl n (by simp)) hm
      have := ih (t.levelLatch n) (fun k hk => hl k (by simp [hk])) (a3.trans hv) (fun k h => (a4 k h).trans (hc k h))
      refine ⟨?_, ?_⟩
      · show ((t.levelLatch n).forEach l State.levelLatch).coreLatch m = _
        rw [this.1, a1, hc, hv, List.contains_cons]
        by_cases h : m = n
        · subst h; cases t.coreLatch m <;> cases eventAbsent s.variant m <;> cases s.levelCause m false <;> simp
        · have : (m == n) = false := by simpa using h
          simp [this]
      · show ((t.levelLatch n).forEach l State.levelLatch).hostLatch m = _
        rw [this.2, a2, hc, hv, List.contains_cons]
        by_cases h : m = n
        · subst h; cases t.hostLatch m <;> cases eventAbsent s.variant m <;> cases s.levelCause m true <;> simp
        · have : (m == n) = false := by simpa using h
          simp [this]
  exact gen levelSources s (by decide) rfl (fun _ _ => rfl)

/-- Settle changes the event latches, and what the trace channels have noted. -/
theorem State.settle_eq : s.settle = { s with regs := s.settle.regs, cen := cenNoted s s.settle } := by
  have e : ∀ u : State, u = State.mk u.pending u.variant u.fuse u.regs u.mem u.now u.free u.lastRead u.held u.log u.tb u.thm u.rtc u.knb u.pwr
      u.hst u.buses u.polls u.od u.nv u.net u.acq u.cen u.act u.fan u.zon u.kpd u.ldl u.twn := fun u => rfl
  have h := e s.settle
  simp only [State.settle_pending, State.settle_variant, State.settle_fuse, State.settle_mem, State.settle_now, State.settle_free,
    State.settle_lastRead, State.settle_held, State.settle_log, State.settle_tb, State.settle_thm, State.settle_rtc, State.settle_knb,
    State.settle_pwr, State.settle_hst, State.settle_buses, State.settle_polls, State.settle_od, State.settle_nv, State.settle_net,
    State.settle_acq, State.settle_act, State.settle_fan, State.settle_zon, State.settle_kpd, State.settle_ldl, State.settle_twn] at h
  rw [State.settle_cen] at h
  exact h

theorem State.levelCause_settle (n : Nat) (h : Bool) : s.settle.levelCause n h = s.levelCause n h :=
  State.levelCause_congr (fun a ha => State.reg_settle s a ha) (by simp) (by simp) n h

end Sys2Proof.Machine
end

