-- ==== Sys2Proof/Laws/Done.lean ====
section
/-! SUPPORT. From the state that a command has built to the state it answers: what the end of every command adds. -/

namespace Sys2Proof.Machine

variable {s u : State}

/-- The end of a command answers a next state. -/
theorem State.done_next (u : State) : u.done = .next u.settle := rfl

theorem regsKept_settle {l : List Nat} (h : ∀ a, a ∉ l → a ∉ latchRegs → u.reg a = s.reg a) : regsKept s u.settle l :=
  fun a h1 h2 => (State.reg_settle u a h2).trans (h a h1 h2)

theorem regsKept_refl (l : List Nat) (h : u.regs = s.regs) : regsKept s u.settle l :=
  regsKept_settle (fun a _ _ => State.reg_congr h a)

theorem eventsFired_settle {l : List Nat} (hv : u.variant = s.variant)
    (hc : ∀ n, n < 64 → u.coreLatch n = (s.coreLatch n || (!eventAbsent s.variant n && l.contains n)))
    (hh : ∀ n, n < 64 → u.hostLatch n = (s.hostLatch n || (!eventAbsent s.variant n && l.contains n))) :
    eventsFired s u.settle l := by
  intro n hn
  have := State.settle_latch u n hn
  rw [this.1, this.2, hc n hn, hh n hn, hv, State.levelCause_settle, State.levelCause_settle]
  refine ⟨?_, ?_⟩
  · cases s.coreLatch n <;> cases eventAbsent s.variant n <;> cases l.contains n <;> simp
  · cases s.hostLatch n <;> cases eventAbsent s.variant n <;> cases l.contains n <;> simp

/-- A state whose latch registers are those of s has fired nothing. -/
theorem eventsFired_nil (hv : u.variant = s.variant) (h : ∀ a ∈ latchRegs, u.reg a = s.reg a) : eventsFired s u.settle [] :=
  eventsFired_settle hv
    (fun n _ => by simp [State.coreLatch_congr (h Reg.evtPendLo (by decide)) (h Reg.evtPendHi (by decide))])
    (fun n _ => by simp [State.hostLatch_congr (h Reg.evtHpendLo (by decide)) (h Reg.evtHpendHi (by decide))])

/-- A state built on one firing of source k over a state whose latch registers are those of s. -/
theorem eventsFired_one (k : Nat) (hk : k < 64) (v : State) (hv : u.variant = s.variant) (hvv : v.variant = s.variant)
    (h : ∀ a ∈ latchRegs, v.reg a = s.reg a) (hu : ∀ a ∈ latchRegs, u.reg a = (v.fire k).reg a) : eventsFired s u.settle [k] := by
  refine eventsFired_settle hv (fun n hn => ?_) (fun n hn => ?_)
  · rw [State.coreLatch_congr (hu Reg.evtPendLo (by decide)) (hu Reg.evtPendHi (by decide)), State.coreLatch_fire _ _ _ hk hn, hvv,
      State.coreLatch_congr (h Reg.evtPendLo (by decide)) (h Reg.evtPendHi (by decide))]
    by_cases e : n = k <;> simp [e]
  · rw [State.hostLatch_congr (hu Reg.evtHpendLo (by decide)) (hu Reg.evtHpendHi (by decide)), State.hostLatch_fire _ _ _ hk hn, hvv,
      State.hostLatch_congr (h Reg.evtHpendLo (by decide)) (h Reg.evtHpendHi (by decide))]
    by_cases e : n = k <;> simp [e]

/-- Before the end of a command: from s to u exactly the sources of a list have fired. -/
def Fired (s u : State) (l : List Nat) : Prop :=
  u.variant = s.variant ∧ ∀ n, n < 64 →
    u.coreLatch n = (s.coreLatch n || (!eventAbsent s.variant n && l.contains n)) ∧
    u.hostLatch n = (s.hostLatch n || (!eventAbsent s.variant n && l.contains n))

theorem Fired.refl (s : State) : Fired s s [] := ⟨rfl, fun n _ => by simp⟩

/-- Updates that leave the latch registers alone fire nothing. -/
theorem Fired.congr {v : State} {l : List Nat} (h : Fired s u l) (hv : v.variant = u.variant) (hr : ∀ a ∈ latchRegs, v.reg a = u.reg a) :
    Fired s v l :=
  ⟨hv.trans h.1, fun n hn => by
    rw [State.coreLatch_congr (hr Reg.evtPendLo (by decide)) (hr Reg.evtPendHi (by decide)),
      State.hostLatch_congr (hr Reg.evtHpendLo (by decide)) (hr Reg.evtHpendHi (by decide))]
    exact h.2 n hn⟩

theorem Fired.fire {l : List Nat} (h : Fired s u l) (k : Nat) (hk : k < 64) : Fired s (u.fire k) (l ++ [k]) :=
  ⟨by rw [State.fire_variant, h.1], fun n hn => by
    rw [State.coreLatch_fire _ _ _ hk hn, State.hostLatch_fire _ _ _ hk hn, (h.2 n hn).1, (h.2 n hn).2, h.1]
    by_cases e : n = k
    · subst e; cases eventAbsent s.variant n <;> simp
    · simp [e]⟩

theorem Fired.done {l : List Nat} (h : Fired s u l) : eventsFired s u.settle l :=
  eventsFired_settle h.1 (fun n hn => (h.2 n hn).1) (fun n hn => (h.2 n hn).2)

theorem memKept_of_mem (lo hi : Nat) (h : u.mem = s.mem) : memKept s u lo hi := fun a _ => State.byte_congr h a

end Sys2Proof.Machine
end

