-- ==== Sys2Proof/Laws/Frame.lean ====
section
/-! SUPPORT. Reads through a state given field by field, and event latches through updates of other registers. -/

namespace Sys2Proof.Machine

variable (s : State)

theorem State.get_regs (a : Nat) : Tab.get regReset s.regs a = s.reg a := rfl

theorem State.get_mem (a : Nat) : Tab.get memDefault s.mem a = s.byte a := rfl

theorem State.reg_mk {p v f r m n fr lr h l tb th rt kn pw hs bu po od nv ne ac ce at' fa zo kp ld tw} (a : Nat) :
    (State.mk p v f r m n fr lr h l tb th rt kn pw hs bu po od nv ne ac ce at' fa zo kp ld tw).reg a = Tab.get regReset r a := rfl

theorem State.byte_mk {p v f r m n fr lr h l tb th rt kn pw hs bu po od nv ne ac ce at' fa zo kp ld tw} (a : Nat) :
    (State.mk p v f r m n fr lr h l tb th rt kn pw hs bu po od nv ne ac ce at' fa zo kp ld tw).byte a = Tab.get memDefault m a := rfl

theorem State.reg_fault (c p a : Nat) : (s.fault c p).reg a = s.reg a := State.reg_congr (by simp) a
theorem State.reg_happen (c p a : Nat) : (s.happen c p).reg a = s.reg a := State.reg_congr (by simp) a
theorem State.reg_faultClear (c p a : Nat) : (s.faultClear c p).reg a = s.reg a := State.reg_congr (by simp) a

end Sys2Proof.Machine
end

