-- ==== Sys2Proof/Laws/Keeps.lean ====
section
/-! SUPPORT. What no command does: it leaves the queue, the variant and the fuses alone, keeps memory and the register file in canonical form, keeps TBCOUNT within 48 bits, and never turns time back. One lemma per operation; each says that what was kept up to its argument is kept after it. -/

set_option linter.unreachableTactic false
set_option linter.unusedTactic false

namespace Sys2Proof.Machine

/-- From s to t, nothing is lost that every command keeps; with b, the time and the timebase stand still too. -/
structure Keeps (b : Bool) (s t : State) : Prop where
  pending : t.pending = s.pending
  variant : t.variant = s.variant
  fuse : t.fuse = s.fuse
  mem : Memory.wf s.mem = true → Memory.wf t.mem = true
  regs : Tab.wf regReset s.regs = true → Tab.wf regReset t.regs = true
  now : s.now ≤ t.now
  free : s.free ≤ t.free
  count : s.tb.count < 2 ^ 48 → t.tb.count < 2 ^ 48
  still : b = true → t.now = s.now ∧ t.tb = s.tb

/-- Every next state that an outcome gives keeps it. -/
def KeepsOut (b : Bool) (s : State) (o : Host.Outcome State Fault Refusal) : Prop := ∀ t, o = .next t → Keeps b s t

theorem Keeps.refl (b : Bool) (s : State) : Keeps b s s := ⟨rfl, rfl, rfl, id, id, le_refl _, le_refl _, id, fun _ => ⟨rfl, rfl⟩⟩

/-- What is kept with time standing still is kept. -/
theorem Keeps.weaken {b : Bool} {s t : State} (h : Keeps b s t) : Keeps false s t :=
  ⟨h.1, h.2, h.3, h.4, h.5, h.6, h.7, h.8, fun e => by cases e⟩

theorem Keeps.ite {k : Bool} {r a b : State} {c : Prop} [Decidable c] (ha : Keeps k r a) (hb : Keeps k r b) : Keeps k r (if c then a else b) := by
  split <;> assumption

theorem Keeps.ite2 {k : Bool} {α : Type} {r : State} {a b : α × State} {c : Prop} [Decidable c] (ha : Keeps k r a.2) (hb : Keeps k r b.2) :
    Keeps k r (if c then a else b).2 := by
  split <;> assumption

theorem Keeps.ite3 {k : Bool} {α β : Type} {r : State} {a b : α × β × State} {c : Prop} [Decidable c] (ha : Keeps k r a.2.2) (hb : Keeps k r b.2.2) :
    Keeps k r (if c then a else b).2.2 := by
  split <;> assumption

theorem Keeps.upd {b : Bool} {r t : State} {lastRead'} {held'} {log'} {thm'} {rtc'} {knb'} {pwr'} {hst'} {buses'} {polls'} {od'} {nv'} {net'} {acq'} {cen'} {act'} {fan'} {zon'} {kpd'} {ldl'} {twn'} (h : Keeps b r t) :
    Keeps b r (State.mk t.pending t.variant t.fuse t.regs t.mem t.now t.free lastRead' held' log' t.tb thm' rtc' knb' pwr' hst' buses' polls' od' nv' net' acq' cen' act' fan' zon' kpd' ldl' twn') :=
  ⟨h.1, h.2, h.3, h.4, h.5, h.6, h.7, h.8, h.9⟩

theorem Keeps.updTb {r t : State} {lastRead'} {held'} {log'} {thm'} {rtc'} {knb'} {pwr'} {hst'} {buses'} {polls'} {od'} {nv'} {net'} {acq'} {cen'} {act'} {fan'} {zon'} {kpd'} {ldl'} {twn'} {tb' : TbSt} (hc : tb'.count < 2 ^ 48) (h : Keeps false r t) :
    Keeps false r (State.mk t.pending t.variant t.fuse t.regs t.mem t.now t.free lastRead' held' log' tb' thm' rtc' knb' pwr' hst' buses' polls' od' nv' net' acq' cen' act' fan' zon' kpd' ldl' twn') :=
  ⟨h.1, h.2, h.3, h.4, h.5, h.6, h.7, fun _ => hc, fun e => by cases e⟩

theorem KeepsOut.ite {k : Bool} {r : State} {a b : Host.Outcome State Fault Refusal} {c : Prop} [Decidable c] (ha : KeepsOut k r a)
    (hb : KeepsOut k r b) : KeepsOut k r (if c then a else b) := by
  split <;> assumption

theorem keeps_forEach {b : Bool} {r s : State} (l : List Nat) (f : State → Nat → State) (hf : ∀ t n, Keeps b r t → Keeps b r (f t n))
    (h : Keeps b r s) : Keeps b r (s.forEach l f) := by
  unfold State.forEach
  induction l generalizing s with
  | nil => exact h
  | cons n l ih => exact ih (hf s n h)

theorem keeps_foldl {b : Bool} {β : Type} {r s : State} (f : State → β → State) (l : List β) (hf : ∀ t x, Keeps b r t → Keeps b r (f t x))
    (h : Keeps b r s) : Keeps b r (l.foldl f s) := by
  induction l generalizing s with
  | nil => exact h
  | cons x l ih => exact ih (hf s x h)

theorem keeps_setReg {b : Bool} {r s : State} (a : Nat) (v : Word) (h : Keeps b r s) : Keeps b r (s.setReg a v) :=
  ⟨h.1, h.2, h.3, h.4, fun hr => Tab.wf_put _ _ (h.5 hr), h.6, h.7, h.8, h.9⟩

theorem keeps_setByte {b : Bool} {r s : State} (a : Nat) (v : Byte) (h : Keeps b r s) : Keeps b r (s.setByte a v) :=
  ⟨h.1, h.2, h.3, fun hr => Tab.wf_put _ _ (h.4 hr), h.5, h.6, h.7, h.8, h.9⟩

theorem keeps_setBytes {b : Bool} {r s : State} (a : Nat) (l : List Byte) (h : Keeps b r s) : Keeps b r (s.setBytes a l) := by
  induction l generalizing s a with
  | nil => exact h
  | cons x t ih => exact ih (a + 1) (keeps_setByte a x h)

theorem keeps_clearMem {b : Bool} {r s : State} (lo hi : Nat) (h : Keeps b r s) : Keeps b r (s.clearMem lo hi) :=
  ⟨h.1, h.2, h.3, fun hr => Tab.wf_keep (fun a => !(decide (lo ≤ a) && decide (a < hi))) (h.4 hr), h.5, h.6, h.7, h.8, h.9⟩

theorem keeps_keepRegs {b : Bool} {r s : State} (f : Nat → Bool) (h : Keeps b r s) : Keeps b r (s.keepRegs f) :=
  ⟨h.1, h.2, h.3, h.4, fun hr => Tab.wf_keep f (h.5 hr), h.6, h.7, h.8, h.9⟩

theorem keeps_drawWord {b : Bool} {r s : State} (h : Keeps b r s) : Keeps b r s.drawWord.2 :=
  ⟨h.1, h.2, h.3, h.4, h.5, h.6, le_trans h.7 (Nat.le_succ _), h.8, h.9⟩

theorem keeps_drawNat {b : Bool} {r s : State} (n : Nat) (h : Keeps b r s) : Keeps b r (s.drawNat n).2 :=
  ⟨h.1, h.2, h.3, h.4, h.5, h.6, le_trans h.7 (Nat.le_succ _), h.8, h.9⟩

theorem keeps_guardWrite {b : Bool} {r s : State} (who : Init) (u addr : Nat) (f : State → State) (hf : ∀ t, Keeps b r t → Keeps b r (f t))
    (h : Keeps b r s) : Keeps b r (s.guardWrite who u addr f) := by
  unfold State.guardWrite State.hit State.setRb State.setRf
  refine Keeps.ite ?_ (Keeps.ite ?_ (hf s h)) <;> exact keeps_setReg _ _ (keeps_setReg _ _ (keeps_setReg _ _ h))

theorem keeps_setRf {k0 : Bool} {r0 s : State} (a : Nat) (lo : Nat) (w : Nat) (v : Nat) (hk : Keeps k0 r0 s) : Keeps k0 r0 (State.setRf s a lo w v) := by
  unfold State.setRf
  repeat' with_reducible first
    | assumption
    | apply keeps_setReg

theorem keeps_setRb {k0 : Bool} {r0 s : State} (a : Nat) (i : Nat) (b : Bool) (hk : Keeps k0 r0 s) : Keeps k0 r0 (State.setRb s a i b) := by
  unfold State.setRb
  repeat' with_reducible first
    | assumption
    | apply Keeps.ite
    | apply keeps_setRf
    | split

theorem keeps_orReg {k0 : Bool} {r0 s : State} (a : Nat) (m : Word) (hk : Keeps k0 r0 s) : Keeps k0 r0 (State.orReg s a m) := by
  unfold State.orReg
  repeat' with_reducible first
    | assumption
    | apply keeps_setReg

theorem keeps_clrReg {k0 : Bool} {r0 s : State} (a : Nat) (m : Word) (hk : Keeps k0 r0 s) : Keeps k0 r0 (State.clrReg s a m) := by
  unfold State.clrReg
  repeat' with_reducible first
    | assumption
    | apply keeps_setReg

theorem keeps_incSat {k0 : Bool} {r0 s : State} (a : Nat) (k : Nat) (hk : Keeps k0 r0 s) : Keeps k0 r0 (State.incSat s a k) := by
  unfold State.incSat
  repeat' with_reducible first
    | assumption
    | apply keeps_setReg

theorem keeps_incWrap {k0 : Bool} {r0 s : State} (a : Nat) (hk : Keeps k0 r0 s) : Keeps k0 r0 (State.incWrap s a) := by
  unfold State.incWrap
  repeat' with_reducible first
    | assumption
    | apply keeps_setReg

theorem keeps_setWord {k0 : Bool} {r0 s : State} (a : Nat) (v : Word) (hk : Keeps k0 r0 s) : Keeps k0 r0 (State.setWord s a v) := by
  unfold State.setWord
  repeat' with_reducible first
    | assumption
    | apply keeps_setBytes

theorem keeps_setSword {k0 : Bool} {r0 s : State} (a : Nat) (v : Int) (hk : Keeps k0 r0 s) : Keeps k0 r0 (State.setSword s a v) := by
  unfold State.setSword
  repeat' with_reducible first
    | assumption
    | apply keeps_setWord

theorem keeps_setVpv {k0 : Bool} {r0 s : State} (v : Nat) (w : Word) (hk : Keeps k0 r0 s) : Keeps k0 r0 (State.setVpv s v w) := by
  unfold State.setVpv
  repeat' with_reducible first
    | assumption
    | ((try lift_lets); intro x; first | (refine (fun (hx : Keeps k0 r0 x) => ?_) ?_; on_goal 1 => (try clear_value x)) | (try clear_value x))
    | apply keeps_setWord
    | fail_if_no_progress apply Keeps.upd
    | (dsimp only [x])

theorem keeps_spWrite {k0 : Bool} {r0 s : State} (i : Nat) (w : Word) (hk : Keeps k0 r0 s) : Keeps k0 r0 (State.spWrite s i w) := by
  unfold State.spWrite
  repeat' with_reducible first
    | assumption
    | ((try lift_lets); intro x; first | (refine (fun (hx : Keeps k0 r0 x) => ?_) ?_; on_goal 1 => (try clear_value x)) | (try clear_value x))
    | apply keeps_setWord
    | fail_if_no_progress apply Keeps.upd
    | (dsimp only [x])

theorem keeps_vpvWrite {k0 : Bool} {r0 s : State} (v : Nat) (w : Word) (hk : Keeps k0 r0 s) : Keeps k0 r0 (State.vpvWrite s v w) := by
  unfold State.vpvWrite
  repeat' with_reducible first
    | assumption
    | ((try lift_lets); intro x; first | (refine (fun (hx : Keeps k0 r0 x) => ?_) ?_; on_goal 1 => (try clear_value x)) | (try clear_value x))
    | apply keeps_setVpv
    | fail_if_no_progress apply Keeps.upd
    | (dsimp only [x])

theorem keeps_hit {k0 : Bool} {r0 s : State} (bit : Nat) (addr : Nat) (host : Bool) (hk : Keeps k0 r0 s) : Keeps k0 r0 (State.hit s bit addr host) := by
  unfold State.hit
  repeat' with_reducible first
    | assumption
    | apply keeps_setRb
    | apply keeps_setReg

theorem keeps_latchCore {k0 : Bool} {r0 s : State} (n : Nat) (hk : Keeps k0 r0 s) : Keeps k0 r0 (State.latchCore s n) := by
  unfold State.latchCore
  repeat' with_reducible first
    | assumption
    | apply Keeps.ite
    | apply keeps_setRb
    | split

theorem keeps_latchHost {k0 : Bool} {r0 s : State} (n : Nat) (hk : Keeps k0 r0 s) : Keeps k0 r0 (State.latchHost s n) := by
  unfold State.latchHost
  repeat' with_reducible first
    | assumption
    | apply Keeps.ite
    | apply keeps_setRb
    | split

theorem keeps_traceNote {k0 : Bool} {r0 s : State} (n : Nat) (hk : Keeps k0 r0 s) : Keeps k0 r0 (State.traceNote s n) := by
  unfold State.traceNote
  repeat' with_reducible first
    | assumption
    | ((try lift_lets); intro x; first | (refine (fun (hx : Keeps k0 r0 x) => ?_) ?_; on_goal 1 => (try clear_value x)) | (try clear_value x))
    | fail_if_no_progress apply Keeps.upd
    | (dsimp only [x])

theorem keeps_fire {k0 : Bool} {r0 s : State} (n : Nat) (hk : Keeps k0 r0 s) : Keeps k0 r0 (State.fire s n) := by
  unfold State.fire
  repeat' with_reducible first
    | assumption
    | apply Keeps.ite
    | apply keeps_latchCore
    | apply keeps_latchHost
    | apply keeps_traceNote
    | split

theorem keeps_sendToken {k0 : Bool} {r0 s : State} (t : Token) (hk : Keeps k0 r0 s) : Keeps k0 r0 (State.sendToken s t) := by
  unfold State.sendToken
  repeat' with_reducible first
    | assumption
    | ((try lift_lets); intro x; first | (refine (fun (hx : Keeps k0 r0 x) => ?_) ?_; on_goal 1 => (try clear_value x)) | (try clear_value x))
    | apply Keeps.ite
    | fail_if_no_progress apply Keeps.upd
    | split
    | (dsimp only [x])

theorem keeps_levelLatch {k0 : Bool} {r0 s : State} (n : Nat) (hk : Keeps k0 r0 s) : Keeps k0 r0 (State.levelLatch s n) := by
  unfold State.levelLatch
  repeat' with_reducible first
    | assumption
    | ((try lift_lets); intro x; first | (refine (fun (hx : Keeps k0 r0 x) => ?_) ?_; on_goal 1 => (try clear_value x)) | (try clear_value x))
    | apply Keeps.ite
    | apply keeps_latchCore
    | apply keeps_traceNote
    | apply keeps_latchHost
    | split
    | (dsimp only [x])

theorem keeps_settle {k0 : Bool} {r0 s : State}  (hk : Keeps k0 r0 s) : Keeps k0 r0 (State.settle s) := by
  unfold State.settle
  repeat' with_reducible first
    | assumption
    | (refine keeps_forEach _ _ (fun t n ht => ?_) ?_; on_goal 1 => beta_reduce)
    | apply keeps_levelLatch

theorem keepsOut_done {k0 : Bool} {r0 s : State} (hk : Keeps k0 r0 s) : KeepsOut k0 r0 s.done := by
  intro t ht
  cases ht
  exact keeps_settle hk

theorem keeps_ringError {k0 : Bool} {r0 s : State} (cause : Nat) (n : Nat) (hk : Keeps k0 r0 s) : Keeps k0 r0 (State.ringError s cause n) := by
  unfold State.ringError
  repeat' with_reducible first
    | assumption
    | apply keeps_setReg
    | apply keeps_fire

theorem keeps_ringDropped {k0 : Bool} {r0 s : State} (n : Nat) (hk : Keeps k0 r0 s) : Keeps k0 r0 (State.ringDropped s n) := by
  unfold State.ringDropped
  repeat' with_reducible first
    | assumption
    | apply keeps_incSat
    | apply keeps_setRb

theorem keeps_ringPush {k0 : Bool} {r0 s : State} (n : Nat) (e : List Byte) (hk : Keeps k0 r0 s) : Keeps k0 r0 (State.ringPush s n e) := by
  unfold State.ringPush
  repeat' with_reducible first
    | assumption
    | apply keeps_setBytes
    | apply keeps_setRf

theorem keeps_ringOffer {k0 : Bool} {r0 s : State} (n : Nat) (e : List Byte) (hk : Keeps k0 r0 s) : Keeps k0 r0 (State.ringOffer s n e) := by
  unfold State.ringOffer
  repeat' with_reducible first
    | assumption
    | ((try lift_lets); intro x; first | (refine (fun (hx : Keeps k0 r0 x) => ?_) ?_; on_goal 1 => (try clear_value x)) | (try clear_value x))
    | apply Keeps.ite
    | apply keeps_ringDropped
    | apply keeps_ringError
    | apply keeps_ringPush
    | apply keeps_setRf
    | fail_if_no_progress apply Keeps.upd
    | split
    | (dsimp only [x])

theorem keeps_ringUnstall {k0 : Bool} {r0 s : State} (n : Nat) (hk : Keeps k0 r0 s) : Keeps k0 r0 (State.ringUnstall s n) := by
  unfold State.ringUnstall
  repeat' with_reducible first
    | assumption
    | ((try lift_lets); intro x; first | (refine (fun (hx : Keeps k0 r0 x) => ?_) ?_; on_goal 1 => (try clear_value x)) | (try clear_value x))
    | apply Keeps.ite
    | (refine keeps_foldl _ _ (fun t n ht => ?_) ?_; on_goal 1 => beta_reduce)
    | apply keeps_ringPush
    | apply keeps_fire
    | fail_if_no_progress apply Keeps.upd
    | split
    | (dsimp only [x])

theorem keeps_ringFlush {k0 : Bool} {r0 s : State} (n : Nat) (hk : Keeps k0 r0 s) : Keeps k0 r0 (State.ringFlush s n) := by
  unfold State.ringFlush
  repeat' with_reducible first
    | assumption
    | ((try lift_lets); intro x; first | (refine (fun (hx : Keeps k0 r0 x) => ?_) ?_; on_goal 1 => (try clear_value x)) | (try clear_value x))
    | apply Keeps.ite
    | (refine keeps_foldl _ _ (fun t n ht => ?_) ?_; on_goal 1 => beta_reduce)
    | apply keeps_fire
    | apply keeps_incSat
    | apply keeps_setRb
    | fail_if_no_progress apply Keeps.upd
    | split
    | (dsimp only [x])

theorem keeps_logAdd {k0 : Bool} {r0 s : State} (e : LogRec) (hk : Keeps k0 r0 s) : Keeps k0 r0 (State.logAdd s e) := by
  unfold State.logAdd
  repeat' with_reducible first
    | assumption
    | ((try lift_lets); intro x; first | (refine (fun (hx : Keeps k0 r0 x) => ?_) ?_; on_goal 1 => (try clear_value x)) | (try clear_value x))
    | apply Keeps.ite
    | fail_if_no_progress apply Keeps.upd
    | split
    | (dsimp only [x])

theorem keeps_fault {k0 : Bool} {r0 s : State} (code : Nat) (param : Nat) (hk : Keeps k0 r0 s) : Keeps k0 r0 (State.fault s code param) := by
  unfold State.fault
  repeat' with_reducible first
    | assumption
    | apply keeps_logAdd

theorem keeps_happen {k0 : Bool} {r0 s : State} (src : Nat) (param : Nat) (hk : Keeps k0 r0 s) : Keeps k0 r0 (State.happen s src param) := by
  unfold State.happen
  repeat' with_reducible first
    | assumption
    | apply keeps_logAdd

theorem keeps_faultClear {k0 : Bool} {r0 s : State} (code : Nat) (param : Nat) (hk : Keeps k0 r0 s) : Keeps k0 r0 (State.faultClear s code param) := by
  unfold State.faultClear
  repeat' with_reducible first
    | assumption
    | apply keeps_logAdd

theorem keeps_hostResult {k0 : Bool} {r0 s : State} (code : Nat) (hk : Keeps k0 r0 s) : Keeps k0 r0 (State.hostResult s code) := by
  unfold State.hostResult
  repeat' with_reducible first
    | assumption
    | ((try lift_lets); intro x; first | (refine (fun (hx : Keeps k0 r0 x) => ?_) ?_; on_goal 1 => (try clear_value x)) | (try clear_value x))
    | apply Keeps.ite
    | apply keeps_setRb
    | apply keeps_setRf
    | fail_if_no_progress apply Keeps.upd
    | split
    | (dsimp only [x])
    | (with_unfolding_all apply Keeps.ite)

theorem keeps_behind {k0 : Bool} {r0 s : State} (who : Init) (a : Nat) (v : Word) (f : State → State) (hf : ∀ t, Keeps k0 r0 t → Keeps k0 r0 (f t))
    (hk : Keeps k0 r0 s) : Keeps k0 r0 (s.behind who a v f) := by
  unfold State.behind
  cases who with
  | host => exact Keeps.ite (hf _ hk) (Keeps.ite (Keeps.upd hk) (keeps_hostResult _ hk))
  | runtime => exact Keeps.ite (hf _ hk) (Keeps.upd hk)
  | ladle => exact hf _ hk

theorem keeps_readClear {k0 : Bool} {r0 s : State} (who : Init) (u : Nat) (addr : Nat) (m : Word) (hk : Keeps k0 r0 s) : Keeps k0 r0 (State.readClear s who u addr m) := by
  unfold State.readClear
  repeat' with_reducible first
    | assumption
    | ((try lift_lets); intro x; first | (refine (fun (hx : Keeps k0 r0 x) => ?_) ?_; on_goal 1 => (try clear_value x)) | (try clear_value x))
    | apply Keeps.ite
    | apply keeps_hit
    | apply keeps_clrReg
    | fail_if_no_progress apply Keeps.upd
    | split
    | (dsimp only [x])

theorem keeps_odSet {k0 : Bool} {r0 s : State} (id : Nat) (v : OdVal) (hk : Keeps k0 r0 s) : Keeps k0 r0 (State.odSet s id v) := by
  unfold State.odSet
  repeat' with_reducible first
    | assumption
    | ((try lift_lets); intro x; first | (refine (fun (hx : Keeps k0 r0 x) => ?_) ?_; on_goal 1 => (try clear_value x)) | (try clear_value x))
    | fail_if_no_progress apply Keeps.upd
    | (dsimp only [x])

theorem keeps_setFn {k0 : Bool} {r0 s : State} (f : Nat) (v : FnSt) (hk : Keeps k0 r0 s) : Keeps k0 r0 (State.setFn s f v) := by
  unfold State.setFn
  repeat' with_reducible first
    | assumption
    | ((try lift_lets); intro x; first | (refine (fun (hx : Keeps k0 r0 x) => ?_) ?_; on_goal 1 => (try clear_value x)) | (try clear_value x))
    | fail_if_no_progress apply Keeps.upd
    | (dsimp only [x])

theorem keeps_thmEntry {k0 : Bool} {r0 s : State} (kind : Nat) (b1 : Nat) (hk : Keeps k0 r0 s) : Keeps k0 r0 (State.thmEntry s kind b1) := by
  unfold State.thmEntry
  repeat' with_reducible first
    | assumption
    | apply keeps_ringOffer

theorem keeps_thmSensor {k0 : Bool} {r0 s : State} (n : Nat) (ref : Option Int) (ok : Bool) (hk : Keeps k0 r0 s) : Keeps k0 r0 (s.thmSensor n ref ok) := by
  have h1 := keeps_setRb Reg.thmExcl (8 + n) ok hk
  unfold State.thmSensor
  exact Keeps.ite (Keeps.ite (Keeps.upd h1) (keeps_fault _ _ (keeps_thmEntry _ _ (keeps_fire _ (keeps_setRb _ _ _ (Keeps.upd h1))))))
    (Keeps.ite (Keeps.upd h1) (keeps_faultClear _ _ (keeps_thmEntry _ _ (keeps_fire _ (keeps_setRb _ _ _ (Keeps.upd (Keeps.upd h1)))))))

theorem keeps_thmTj {k0 : Bool} {r0 s : State}  (hk : Keeps k0 r0 s) : Keeps k0 r0 (State.thmTj s) := by
  unfold State.thmTj
  repeat' with_reducible first
    | assumption
    | ((try lift_lets); intro x; first | (refine (fun (hx : Keeps k0 r0 x) => ?_) ?_; on_goal 1 => (try clear_value x)) | (refine (fun (hx : Keeps k0 r0 x.2) => ?_) ?_; on_goal 1 => (try clear_value x)) | (refine (fun (hx : Keeps k0 r0 x.2.2) => ?_) ?_; on_goal 1 => (try clear_value x)) | (try clear_value x))
    | apply keeps_setRb
    | apply keeps_setRf
    | apply keeps_drawWord
    | fail_if_no_progress apply Keeps.upd
    | split
    | (dsimp only [x])

theorem keeps_thmDegraded {k0 : Bool} {r0 s : State}  (hk : Keeps k0 r0 s) : Keeps k0 r0 (State.thmDegraded s) := by
  unfold State.thmDegraded
  repeat' with_reducible first
    | assumption
    | ((try lift_lets); intro x; first | (refine (fun (hx : Keeps k0 r0 x) => ?_) ?_; on_goal 1 => (try clear_value x)) | (try clear_value x))
    | apply Keeps.ite
    | apply keeps_setRb
    | apply keeps_fault
    | apply keeps_faultClear
    | split
    | (dsimp only [x])

theorem keeps_thmLevelUpdate {k0 : Bool} {r0 s : State}  (hk : Keeps k0 r0 s) : Keeps k0 r0 (State.thmLevelUpdate s) := by
  unfold State.thmLevelUpdate
  repeat' with_reducible first
    | assumption
    | ((try lift_lets); intro x; first | (refine (fun (hx : Keeps k0 r0 x) => ?_) ?_; on_goal 1 => (try clear_value x)) | (try clear_value x))
    | apply Keeps.ite
    | apply keeps_setRf
    | apply keeps_setRb
    | apply keeps_incSat
    | apply keeps_fire
    | apply keeps_thmEntry
    | split
    | (dsimp only [x])

theorem keeps_thmVref {k0 : Bool} {r0 s : State}  (hk : Keeps k0 r0 s) : Keeps k0 r0 (State.thmVref s) := by
  unfold State.thmVref
  repeat' with_reducible first
    | assumption
    | ((try lift_lets); intro x; first | (refine (fun (hx : Keeps k0 r0 x) => ?_) ?_; on_goal 1 => (try clear_value x)) | (try clear_value x))
    | apply keeps_setReg
    | (dsimp only [x])

theorem keeps_thmPeak {k0 : Bool} {r0 s : State}  (hk : Keeps k0 r0 s) : Keeps k0 r0 (State.thmPeak s) := by
  unfold State.thmPeak
  repeat' with_reducible first
    | assumption
    | ((try lift_lets); intro x; first | (refine (fun (hx : Keeps k0 r0 x) => ?_) ?_; on_goal 1 => (try clear_value x)) | (try clear_value x))
    | apply Keeps.ite
    | apply keeps_thmTj
    | apply keeps_setRf
    | fail_if_no_progress apply Keeps.upd
    | split
    | (dsimp only [x])

theorem keeps_tboFollow {k0 : Bool} {r0 s : State}  (hk : Keeps k0 r0 s) : Keeps k0 r0 (State.tboFollow s) := by
  unfold State.tboFollow
  repeat' with_reducible first
    | assumption
    | ((try lift_lets); intro x; first | (refine (fun (hx : Keeps k0 r0 x) => ?_) ?_; on_goal 1 => (try clear_value x)) | (refine (fun (hx : Keeps k0 r0 x.2) => ?_) ?_; on_goal 1 => (try clear_value x)) | (refine (fun (hx : Keeps k0 r0 x.2.2) => ?_) ?_; on_goal 1 => (try clear_value x)) | (try clear_value x))
    | apply Keeps.ite
    | apply keeps_drawWord
    | apply Keeps.ite2
    | apply Keeps.ite3
    | fail_if_no_progress apply Keeps.upd
    | split
    | (dsimp only [x])

theorem keeps_thmConvert {k0 : Bool} {r0 s : State} (readings : List Int) (hk : Keeps k0 r0 s) : Keeps k0 r0 (State.thmConvert s readings) := by
  unfold State.thmConvert
  repeat' with_reducible first
    | assumption
    | ((try lift_lets); intro x; first | (refine (fun (hx : Keeps k0 r0 x) => ?_) ?_; on_goal 1 => (try clear_value x)) | (refine (fun (hx : Keeps k0 r0 x.2) => ?_) ?_; on_goal 1 => (try clear_value x)) | (refine (fun (hx : Keeps k0 r0 x.2.2) => ?_) ?_; on_goal 1 => (try clear_value x)) | (try clear_value x))
    | apply Keeps.ite
    | (refine keeps_forEach _ _ (fun t n ht => ?_) ?_; on_goal 1 => beta_reduce)
    | apply keeps_setReg
    | apply keeps_thmSensor
    | apply keeps_thmTj
    | apply keeps_thmDegraded
    | apply keeps_thmLevelUpdate
    | apply keeps_thmEntry
    | apply keeps_thmVref
    | apply keeps_thmPeak
    | apply keeps_tboFollow
    | apply Keeps.ite2
    | apply Keeps.ite3
    | fail_if_no_progress apply Keeps.upd
    | split
    | (dsimp only [x])

theorem keeps_execThmTjRead {k0 : Bool} {r0 s : State} (who : Init) (hk : Keeps k0 r0 s) : KeepsOut k0 r0 (execThmTjRead who s) := by
  unfold execThmTjRead
  repeat' with_reducible first
    | assumption
    | apply keepsOut_done
    | apply keeps_readClear
    | apply keeps_thmTj
    | apply keeps_done

theorem keeps_execThmLvlcntRead {k0 : Bool} {r0 s : State} (who : Init) (hk : Keeps k0 r0 s) : KeepsOut k0 r0 (execThmLvlcntRead who s) := by
  unfold execThmLvlcntRead
  repeat' with_reducible first
    | assumption
    | apply keepsOut_done
    | apply keeps_readClear
    | apply keeps_done

theorem keeps_setChan {k0 : Bool} {r0 s : State} (c : Nat) (v : ChanSt) (hk : Keeps k0 r0 s) : Keeps k0 r0 (State.setChan s c v) := by
  unfold State.setChan
  repeat' with_reducible first
    | assumption
    | ((try lift_lets); intro x; first | (refine (fun (hx : Keeps k0 r0 x) => ?_) ?_; on_goal 1 => (try clear_value x)) | (try clear_value x))
    | fail_if_no_progress apply Keeps.upd
    | (dsimp only [x])

theorem keeps_setDec {k0 : Bool} {r0 s : State} (d : Nat) (v : DecSt) (hk : Keeps k0 r0 s) : Keeps k0 r0 (State.setDec s d v) := by
  unfold State.setDec
  repeat' with_reducible first
    | assumption
    | ((try lift_lets); intro x; first | (refine (fun (hx : Keeps k0 r0 x) => ?_) ?_; on_goal 1 => (try clear_value x)) | (try clear_value x))
    | fail_if_no_progress apply Keeps.upd
    | (dsimp only [x])

theorem keeps_setSlice {k0 : Bool} {r0 s : State} (n : Nat) (v : SliceSt) (hk : Keeps k0 r0 s) : Keeps k0 r0 (State.setSlice s n v) := by
  unfold State.setSlice
  repeat' with_reducible first
    | assumption
    | ((try lift_lets); intro x; first | (refine (fun (hx : Keeps k0 r0 x) => ?_) ?_; on_goal 1 => (try clear_value x)) | (try clear_value x))
    | fail_if_no_progress apply Keeps.upd
    | (dsimp only [x])

theorem keeps_acqFault {k0 : Bool} {r0 s : State} (code : Nat) (param : Nat) (hk : Keeps k0 r0 s) : Keeps k0 r0 (State.acqFault s code param) := by
  unfold State.acqFault
  repeat' with_reducible first
    | assumption
    | apply keeps_fault
    | apply keeps_fire

theorem keeps_setCorr {k0 : Bool} {r0 s : State} (n : Nat) (offs : Int) (gain : Int) (hk : Keeps k0 r0 s) : Keeps k0 r0 (State.setCorr s n offs gain) := by
  unfold State.setCorr
  repeat' with_reducible first
    | assumption
    | apply keeps_setRf

theorem keeps_drawStep {k0 : Bool} {r0 s : State}  (hk : Keeps k0 r0 s) : Keeps k0 r0 (State.drawStep s).2 := by
  unfold State.drawStep
  repeat' with_reducible first
    | assumption
    | ((try lift_lets); intro x; first | (refine (fun (hx : Keeps k0 r0 x) => ?_) ?_; on_goal 1 => (try clear_value x)) | (refine (fun (hx : Keeps k0 r0 x.2) => ?_) ?_; on_goal 1 => (try clear_value x)) | (refine (fun (hx : Keeps k0 r0 x.2.2) => ?_) ?_; on_goal 1 => (try clear_value x)) | (try clear_value x))
    | apply keeps_drawNat
    | (dsimp only [x])

theorem keeps_sliceMove {k0 : Bool} {r0 s : State} (n : Nat) (hk : Keeps k0 r0 s) : Keeps k0 r0 (State.sliceMove s n) := by
  unfold State.sliceMove
  repeat' with_reducible first
    | assumption
    | ((try lift_lets); intro x; first | (refine (fun (hx : Keeps k0 r0 x) => ?_) ?_; on_goal 1 => (try clear_value x)) | (refine (fun (hx : Keeps k0 r0 x.2) => ?_) ?_; on_goal 1 => (try clear_value x)) | (refine (fun (hx : Keeps k0 r0 x.2.2) => ?_) ?_; on_goal 1 => (try clear_value x)) | (try clear_value x))
    | apply Keeps.ite
    | apply keeps_drawStep
    | apply keeps_setCorr
    | apply keeps_setRf
    | apply Keeps.ite2
    | apply Keeps.ite3
    | split
    | (dsimp only [x])

theorem keeps_fettleMove {k0 : Bool} {r0 s : State} (n : Nat) (x85 : Int) (x86 : Int) (hk : Keeps k0 r0 s) : Keeps k0 r0 (State.fettleMove s n x85 x86) := by
  unfold State.fettleMove
  repeat' with_reducible first
    | assumption
    | ((try lift_lets); intro x; first | (refine (fun (hx : Keeps k0 r0 x) => ?_) ?_; on_goal 1 => (try clear_value x)) | (refine (fun (hx : Keeps k0 r0 x.2) => ?_) ?_; on_goal 1 => (try clear_value x)) | (refine (fun (hx : Keeps k0 r0 x.2.2) => ?_) ?_; on_goal 1 => (try clear_value x)) | (try clear_value x))
    | apply Keeps.ite
    | apply keeps_drawStep
    | apply keeps_setCorr
    | apply Keeps.ite2
    | apply Keeps.ite3
    | split
    | (dsimp only [x])

theorem keeps_slicePair {k0 : Bool} {r0 s : State} (n : Nat) (hk : Keeps k0 r0 s) : Keeps k0 r0 (State.slicePair s n) := by
  unfold State.slicePair
  repeat' with_reducible first
    | assumption
    | ((try lift_lets); intro x; first | (refine (fun (hx : Keeps k0 r0 x) => ?_) ?_; on_goal 1 => (try clear_value x)) | (try clear_value x))
    | apply Keeps.ite
    | apply keeps_setReg
    | apply keeps_setSlice
    | apply keeps_sliceMove
    | fail_if_no_progress apply Keeps.upd
    | split
    | (dsimp only [x])

theorem keeps_estimate {k0 : Bool} {r0 s : State} (c : Nat) (n : Nat) (hk : Keeps k0 r0 s) : Keeps k0 r0 (State.estimate s c n) := by
  unfold State.estimate
  repeat' with_reducible first
    | assumption
    | ((try lift_lets); intro x; first | (refine (fun (hx : Keeps k0 r0 x) => ?_) ?_; on_goal 1 => (try clear_value x)) | (try clear_value x))
    | apply Keeps.ite
    | apply keeps_setSlice
    | apply keeps_setRf
    | apply keeps_slicePair
    | fail_if_no_progress apply Keeps.upd
    | split
    | (dsimp only [x])

theorem keeps_convert {k0 : Bool} {r0 s : State} (c : Nat) (n : Nat) (x : Int) (fmt : Nat) (diff : Bool) (hk : Keeps k0 r0 s) : Keeps k0 r0 (State.convert s c n x fmt diff) := by
  unfold State.convert
  repeat' with_reducible first
    | assumption
    | ((try lift_lets); intro x; first | (refine (fun (hx : Keeps k0 r0 x) => ?_) ?_; on_goal 1 => (try clear_value x)) | (try clear_value x))
    | apply Keeps.ite
    | apply keeps_setWord
    | apply keeps_incSat
    | apply keeps_estimate
    | apply keeps_setChan
    | split
    | (dsimp only [x])

theorem keeps_decimate {k0 : Bool} {r0 s : State} (d : Nat) (y : Int) (x : Int) (diff : Bool) (hk : Keeps k0 r0 s) : Keeps k0 r0 (State.decimate s d y x diff) := by
  unfold State.decimate
  repeat' with_reducible first
    | assumption
    | ((try lift_lets); intro x; first | (refine (fun (hx : Keeps k0 r0 x) => ?_) ?_; on_goal 1 => (try clear_value x)) | (try clear_value x))
    | apply Keeps.ite
    | apply keeps_setDec
    | apply keeps_setWord
    | fail_if_no_progress apply Keeps.upd
    | split
    | (dsimp only [x])

theorem keeps_clearSums {k0 : Bool} {r0 s : State}  (hk : Keeps k0 r0 s) : Keeps k0 r0 (State.clearSums s) := by
  unfold State.clearSums
  repeat' with_reducible first
    | assumption
    | ((try lift_lets); intro x; first | (refine (fun (hx : Keeps k0 r0 x) => ?_) ?_; on_goal 1 => (try clear_value x)) | (try clear_value x))
    | apply keeps_clearMem
    | (refine keeps_foldl _ _ (fun t n ht => ?_) ?_; on_goal 1 => beta_reduce)
    | fail_if_no_progress apply Keeps.upd
    | (dsimp only [x])

theorem keeps_acqSkip {k0 : Bool} {r0 s : State} (i : Nat) (hk : Keeps k0 r0 s) : Keeps k0 r0 (State.acqSkip s i) := by
  unfold State.acqSkip
  repeat' with_reducible first
    | assumption
    | apply keeps_setRb
    | apply keeps_incSat
    | apply keeps_acqFault

theorem keeps_takeCmp {k0 : Bool} {r0 s : State}  (hk : Keeps k0 r0 s) : Keeps k0 r0 (State.takeCmp s) := by
  unfold State.takeCmp
  repeat' with_reducible first
    | assumption
    | ((try lift_lets); intro x; first | (refine (fun (hx : Keeps k0 r0 x) => ?_) ?_; on_goal 1 => (try clear_value x)) | (try clear_value x))
    | (refine keeps_forEach _ _ (fun t n ht => ?_) ?_; on_goal 1 => beta_reduce)
    | apply keeps_setDec
    | fail_if_no_progress apply Keeps.upd
    | (dsimp only [x])

theorem keeps_passEnd {k0 : Bool} {r0 s : State} (ready : Nat) (mid : Bool) (hk : Keeps k0 r0 s) : Keeps k0 r0 (State.passEnd s ready mid) := by
  unfold State.passEnd
  repeat' with_reducible first
    | assumption
    | ((try lift_lets); intro x; first | (refine (fun (hx : Keeps k0 r0 x) => ?_) ?_; on_goal 1 => (try clear_value x)) | (try clear_value x))
    | apply keeps_incWrap
    | apply keeps_takeCmp
    | fail_if_no_progress apply Keeps.upd
    | (dsimp only [x])

theorem keeps_entryFrom {k0 : Bool} {r0 s : State} (k i : Nat) (h : Keeps k0 r0 s) : Keeps k0 r0 (s.entryFrom k i) := by
  induction k generalizing s i with
  | zero =>
    unfold State.entryFrom
    exact Keeps.ite (Keeps.upd (keeps_passEnd _ _ h)) (Keeps.upd h)
  | succ k ih =>
    unfold State.entryFrom
    refine Keeps.ite ?_ ?_
    · exact ih _ (keeps_acqSkip _ (Keeps.upd h))
    · exact Keeps.upd (Keeps.upd h)

theorem keeps_passStart {k0 : Bool} {r0 s : State}  (hk : Keeps k0 r0 s) : Keeps k0 r0 (State.passStart s) := by
  unfold State.passStart
  repeat' with_reducible first
    | assumption
    | ((try lift_lets); intro x; first | (refine (fun (hx : Keeps k0 r0 x) => ?_) ?_; on_goal 1 => (try clear_value x)) | (try clear_value x))
    | apply Keeps.ite
    | apply keeps_clearSums
    | apply keeps_entryFrom
    | fail_if_no_progress apply Keeps.upd
    | split
    | (dsimp only [x])

theorem keeps_execPassStart {k0 : Bool} {r0 s : State}  (hk : Keeps k0 r0 s) : KeepsOut k0 r0 (execPassStart s) := by
  unfold execPassStart
  repeat' with_reducible first
    | assumption
    | apply KeepsOut.ite
    | apply keepsOut_done
    | apply Keeps.ite
    | apply keeps_passStart
    | apply keeps_done
    | split

theorem keeps_execEntryStart {k0 : Bool} {r0 s : State}  (hk : Keeps k0 r0 s) : KeepsOut k0 r0 (execEntryStart s) := by
  unfold execEntryStart
  repeat' with_reducible first
    | assumption
    | apply KeepsOut.ite
    | apply keepsOut_done
    | apply Keeps.ite
    | apply keeps_entryFrom
    | apply keeps_done
    | split

theorem keeps_execConversionSample {k0 : Bool} {r0 s : State} (code : Int) (hk : Keeps k0 r0 s) : KeepsOut k0 r0 (execConversionSample code s) := by
  unfold execConversionSample
  repeat' with_reducible first
    | assumption
    | ((try lift_lets); intro x; first | (refine (fun (hx : Keeps k0 r0 x) => ?_) ?_; on_goal 1 => (try clear_value x)) | (try clear_value x))
    | apply KeepsOut.ite
    | apply keepsOut_done
    | apply Keeps.ite
    | apply keeps_done
    | fail_if_no_progress apply Keeps.upd
    | split
    | (dsimp only [x])

theorem keeps_entryEnd {k0 : Bool} {r0 s : State}  (hk : Keeps k0 r0 s) : Keeps k0 r0 (State.entryEnd s) := by
  unfold State.entryEnd
  repeat' with_reducible first
    | assumption
    | ((try lift_lets); intro x; first | (refine (fun (hx : Keeps k0 r0 x) => ?_) ?_; on_goal 1 => (try clear_value x)) | (try clear_value x))
    | apply Keeps.ite
    | apply keeps_passEnd
    | fail_if_no_progress apply Keeps.upd
    | split
    | (dsimp only [x])

theorem keeps_completeOne {k0 : Bool} {r0 s : State} (c : AcqConv) (rest : List AcqConv) (hk : Keeps k0 r0 s) : Keeps k0 r0 (State.completeOne s c rest) := by
  unfold State.completeOne
  repeat' with_reducible first
    | assumption
    | ((try lift_lets); intro x; first | (refine (fun (hx : Keeps k0 r0 x) => ?_) ?_; on_goal 1 => (try clear_value x)) | (try clear_value x))
    | apply Keeps.ite
    | apply keeps_convert
    | apply keeps_decimate
    | apply keeps_entryEnd
    | fail_if_no_progress apply Keeps.upd
    | split
    | (dsimp only [x])

theorem keeps_guardSample {k0 : Bool} {r0 s : State}  (hk : Keeps k0 r0 s) : Keeps k0 r0 (State.guardSample s) := by
  unfold State.guardSample
  repeat' with_reducible first
    | assumption
    | ((try lift_lets); intro x; first | (refine (fun (hx : Keeps k0 r0 x) => ?_) ?_; on_goal 1 => (try clear_value x)) | (try clear_value x))
    | apply Keeps.ite
    | fail_if_no_progress apply Keeps.upd
    | split
    | (dsimp only [x])

theorem keeps_guardOne {k0 : Bool} {r0 s : State} (c : Nat) (rest : List Nat) (code : Int) (hk : Keeps k0 r0 s) : Keeps k0 r0 (State.guardOne s c rest code) := by
  unfold State.guardOne
  repeat' with_reducible first
    | assumption
    | ((try lift_lets); intro x; first | (refine (fun (hx : Keeps k0 r0 x) => ?_) ?_; on_goal 1 => (try clear_value x)) | (try clear_value x))
    | apply keeps_guardSample
    | apply keeps_convert
    | fail_if_no_progress apply Keeps.upd
    | (dsimp only [x])

theorem keeps_guardTick {k0 : Bool} {r0 s : State}  (hk : Keeps k0 r0 s) : Keeps k0 r0 (State.guardTick s) := by
  unfold State.guardTick
  repeat' with_reducible first
    | assumption
    | ((try lift_lets); intro x; first | (refine (fun (hx : Keeps k0 r0 x) => ?_) ?_; on_goal 1 => (try clear_value x)) | (try clear_value x))
    | apply Keeps.ite
    | fail_if_no_progress apply Keeps.upd
    | split
    | (dsimp only [x])

theorem keeps_acqTick {k0 : Bool} {r0 s : State}  (hk : Keeps k0 r0 s) : Keeps k0 r0 (State.acqTick s) := by
  unfold State.acqTick
  repeat' with_reducible first
    | assumption
    | ((try lift_lets); intro x; first | (refine (fun (hx : Keeps k0 r0 x) => ?_) ?_; on_goal 1 => (try clear_value x)) | (try clear_value x))
    | apply Keeps.ite
    | apply keeps_guardTick
    | apply keeps_passEnd
    | split
    | (dsimp only [x])

theorem keeps_execFettleConversion {k0 : Bool} {r0 s : State} (slice : Nat) (code : Int) (hk : Keeps k0 r0 s) : KeepsOut k0 r0 (execFettleConversion slice code s) := by
  unfold execFettleConversion
  repeat' with_reducible first
    | assumption
    | ((try lift_lets); intro x; first | (refine (fun (hx : Keeps k0 r0 x) => ?_) ?_; on_goal 1 => (try clear_value x)) | (try clear_value x))
    | apply KeepsOut.ite
    | apply keepsOut_done
    | apply Keeps.ite
    | apply keeps_setSlice
    | apply keeps_fettleMove
    | apply keeps_done
    | fail_if_no_progress apply Keeps.upd
    | split
    | (dsimp only [x])

theorem keeps_execSliceStale {k0 : Bool} {r0 s : State} (slice : Nat) (hk : Keeps k0 r0 s) : KeepsOut k0 r0 (execSliceStale slice s) := by
  unfold execSliceStale
  repeat' with_reducible first
    | assumption
    | ((try lift_lets); intro x; first | (refine (fun (hx : Keeps k0 r0 x) => ?_) ?_; on_goal 1 => (try clear_value x)) | (try clear_value x))
    | apply KeepsOut.ite
    | apply keepsOut_done
    | apply Keeps.ite
    | apply keeps_setRb
    | apply keeps_fire
    | apply keeps_setSlice
    | apply keeps_acqFault
    | apply keeps_done
    | fail_if_no_progress apply Keeps.upd
    | split
    | (dsimp only [x])

theorem keeps_execStaleClear {k0 : Bool} {r0 s : State} (slice : Nat) (hk : Keeps k0 r0 s) : KeepsOut k0 r0 (execStaleClear slice s) := by
  unfold execStaleClear
  repeat' with_reducible first
    | assumption
    | ((try lift_lets); intro x; first | (refine (fun (hx : Keeps k0 r0 x) => ?_) ?_; on_goal 1 => (try clear_value x)) | (try clear_value x))
    | apply KeepsOut.ite
    | apply keepsOut_done
    | apply Keeps.ite
    | apply keeps_setRb
    | apply keeps_faultClear
    | apply keeps_fire
    | apply keeps_done
    | split
    | (dsimp only [x])

theorem keeps_sliceCorrWrite {k0 : Bool} {r0 s : State} (n : Nat) (skew : Bool) (v : Word) (hk : Keeps k0 r0 s) : Keeps k0 r0 (State.sliceCorrWrite s n skew v) := by
  unfold State.sliceCorrWrite
  repeat' with_reducible first
    | assumption
    | apply Keeps.ite
    | apply keeps_setReg
    | split

theorem keeps_execSliceCorrWrite {k0 : Bool} {r0 s : State} (who : Init) (slice : Nat) (skew : Bool) (v : Word) (hk : Keeps k0 r0 s) : KeepsOut k0 r0 (execSliceCorrWrite who slice skew v s) := by
  unfold execSliceCorrWrite
  repeat' with_reducible first
    | assumption
    | ((try lift_lets); intro x; first | (refine (fun (hx : Keeps k0 r0 x) => ?_) ?_; on_goal 1 => (try clear_value x)) | (try clear_value x))
    | apply KeepsOut.ite
    | apply keepsOut_done
    | apply Keeps.ite
    | apply keeps_hit
    | (refine keeps_guardWrite _ _ _ _ (fun t ht => ?_) ?_; on_goal 1 => beta_reduce)
    | apply keeps_sliceCorrWrite
    | apply keeps_done
    | split
    | (dsimp only [x])

theorem keeps_execAcqClipcntRead {k0 : Bool} {r0 s : State} (who : Init) (hk : Keeps k0 r0 s) : KeepsOut k0 r0 (execAcqClipcntRead who s) := by
  unfold execAcqClipcntRead
  repeat' with_reducible first
    | assumption
    | apply keepsOut_done
    | apply keeps_readClear
    | apply keeps_done

theorem keeps_execAcqSkipcntRead {k0 : Bool} {r0 s : State} (who : Init) (hk : Keeps k0 r0 s) : KeepsOut k0 r0 (execAcqSkipcntRead who s) := by
  unfold execAcqSkipcntRead
  repeat' with_reducible first
    | assumption
    | apply keepsOut_done
    | apply keeps_readClear
    | apply keeps_done

theorem keeps_acqRun {k0 : Bool} {r0 s : State} (mid : Bool) (hk : Keeps k0 r0 s) : Keeps k0 r0 (State.acqRun s mid) := by
  unfold State.acqRun
  repeat' with_reducible first
    | assumption
    | ((try lift_lets); intro x; first | (refine (fun (hx : Keeps k0 r0 x) => ?_) ?_; on_goal 1 => (try clear_value x)) | (try clear_value x))
    | apply keeps_setRb
    | apply keeps_setReg
    | (refine keeps_forEach _ _ (fun t n ht => ?_) ?_; on_goal 1 => beta_reduce)
    | apply keeps_setWord
    | apply keeps_setDec
    | fail_if_no_progress apply Keeps.upd
    | (dsimp only [x])

theorem keeps_acqHalt {k0 : Bool} {r0 s : State}  (hk : Keeps k0 r0 s) : Keeps k0 r0 (State.acqHalt s) := by
  unfold State.acqHalt
  repeat' with_reducible first
    | assumption
    | ((try lift_lets); intro x; first | (refine (fun (hx : Keeps k0 r0 x) => ?_) ?_; on_goal 1 => (try clear_value x)) | (try clear_value x))
    | apply keeps_setRb
    | apply keeps_clearSums
    | fail_if_no_progress apply Keeps.upd
    | (dsimp only [x])

theorem keeps_acqCtrlWrite {k0 : Bool} {r0 s : State} (v : Word) (hk : Keeps k0 r0 s) : Keeps k0 r0 (State.acqCtrlWrite s v) := by
  unfold State.acqCtrlWrite
  repeat' with_reducible first
    | assumption
    | ((try lift_lets); intro x; first | (refine (fun (hx : Keeps k0 r0 x) => ?_) ?_; on_goal 1 => (try clear_value x)) | (try clear_value x))
    | apply keeps_acqRun
    | apply keeps_acqHalt
    | fail_if_no_progress apply Keeps.upd
    | split
    | (dsimp only [x])

theorem keeps_execAcqStart {k0 : Bool} {r0 s : State} (who : Init) (hk : Keeps k0 r0 s) : KeepsOut k0 r0 (execAcqStart who s) := by
  unfold execAcqStart
  repeat' with_reducible first
    | assumption
    | apply keepsOut_done
    | (refine keeps_guardWrite _ _ _ _ (fun t ht => ?_) ?_; on_goal 1 => beta_reduce)
    | apply keeps_acqCtrlWrite
    | apply keeps_done

theorem keeps_execAcqStop {k0 : Bool} {r0 s : State} (who : Init) (hk : Keeps k0 r0 s) : KeepsOut k0 r0 (execAcqStop who s) := by
  unfold execAcqStop
  repeat' with_reducible first
    | assumption
    | apply keepsOut_done
    | (refine keeps_guardWrite _ _ _ _ (fun t ht => ?_) ?_; on_goal 1 => beta_reduce)
    | apply keeps_acqCtrlWrite
    | apply keeps_done

theorem keeps_acqChill {k0 : Bool} {r0 s : State}  (hk : Keeps k0 r0 s) : Keeps k0 r0 (State.acqChill s) := by
  unfold State.acqChill
  repeat' with_reducible first
    | assumption
    | ((try lift_lets); intro x; first | (refine (fun (hx : Keeps k0 r0 x) => ?_) ?_; on_goal 1 => (try clear_value x)) | (try clear_value x))
    | fail_if_no_progress apply Keeps.upd
    | (dsimp only [x])

theorem keeps_acqWake {k0 : Bool} {r0 s : State}  (hk : Keeps k0 r0 s) : Keeps k0 r0 (State.acqWake s) := by
  unfold State.acqWake
  repeat' with_reducible first
    | assumption
    | ((try lift_lets); intro x; first | (refine (fun (hx : Keeps k0 r0 x) => ?_) ?_; on_goal 1 => (try clear_value x)) | (try clear_value x))
    | apply Keeps.ite
    | apply keeps_clearSums
    | fail_if_no_progress apply Keeps.upd
    | split
    | (dsimp only [x])

theorem keeps_cmpChange {k0 : Bool} {r0 s : State} (d : Nat) (mode : Nat) (new : Nat) (old : Nat) (stamp : Nat) (hk : Keeps k0 r0 s) : Keeps k0 r0 (State.cmpChange s d mode new old stamp) := by
  unfold State.cmpChange
  repeat' with_reducible first
    | assumption
    | ((try lift_lets); intro x; first | (refine (fun (hx : Keeps k0 r0 x) => ?_) ?_; on_goal 1 => (try clear_value x)) | (try clear_value x))
    | apply Keeps.ite
    | apply keeps_setWord
    | apply keeps_ringOffer
    | apply keeps_fire
    | apply keeps_acqFault
    | split
    | (dsimp only [x])

theorem keeps_comparator {k0 : Bool} {r0 s : State} (d : Nat) (pv : Int) (cfg : List Word) (stamp : Nat) (hk : Keeps k0 r0 s) : Keeps k0 r0 (State.comparator s d pv cfg stamp) := by
  unfold State.comparator
  repeat' with_reducible first
    | assumption
    | ((try lift_lets); intro x; first | (refine (fun (hx : Keeps k0 r0 x) => ?_) ?_; on_goal 1 => (try clear_value x)) | (try clear_value x))
    | apply Keeps.ite
    | apply keeps_setDec
    | apply keeps_setWord
    | apply keeps_cmpChange
    | fail_if_no_progress apply Keeps.upd
    | split
    | (dsimp only [x])

theorem keeps_refCheck {k0 : Bool} {r0 s : State} (d : Nat) (mc : Int) (hk : Keeps k0 r0 s) : Keeps k0 r0 (State.refCheck s d mc) := by
  unfold State.refCheck
  repeat' with_reducible first
    | assumption
    | ((try lift_lets); intro x; first | (refine (fun (hx : Keeps k0 r0 x) => ?_) ?_; on_goal 1 => (try clear_value x)) | (try clear_value x))
    | apply Keeps.ite
    | apply keeps_setDec
    | apply keeps_acqFault
    | fail_if_no_progress apply Keeps.upd
    | split
    | (dsimp only [x])

theorem keeps_publish {k0 : Bool} {r0 s : State} (r : DecResult) (hk : Keeps k0 r0 s) : Keeps k0 r0 (State.publish s r) := by
  unfold State.publish
  repeat' with_reducible first
    | assumption
    | ((try lift_lets); intro x; first | (refine (fun (hx : Keeps k0 r0 x) => ?_) ?_; on_goal 1 => (try clear_value x)) | (try clear_value x))
    | apply keeps_setSword
    | apply keeps_setWord
    | (dsimp only [x])

theorem keeps_unfresh {k0 : Bool} {r0 s : State} (d : Nat) (hk : Keeps k0 r0 s) : Keeps k0 r0 (State.unfresh s d) := by
  unfold State.unfresh
  repeat' with_reducible first
    | assumption
    | ((try lift_lets); intro x; first | (refine (fun (hx : Keeps k0 r0 x) => ?_) ?_; on_goal 1 => (try clear_value x)) | (try clear_value x))
    | apply keeps_setWord
    | apply keeps_setDec
    | fail_if_no_progress apply Keeps.upd
    | (dsimp only [x])

theorem keeps_pvChecks {k0 : Bool} {r0 s : State} (r : DecResult) (hk : Keeps k0 r0 s) : Keeps k0 r0 (State.pvChecks s r) := by
  unfold State.pvChecks
  repeat' with_reducible first
    | assumption
    | ((try lift_lets); intro x; first | (refine (fun (hx : Keeps k0 r0 x) => ?_) ?_; on_goal 1 => (try clear_value x)) | (try clear_value x))
    | apply Keeps.ite
    | apply keeps_setDec
    | apply keeps_acqFault
    | apply keeps_refCheck
    | apply keeps_comparator
    | fail_if_no_progress apply Keeps.upd
    | split
    | (dsimp only [x])

theorem keeps_pvAction {k0 : Bool} {r0 s : State} (rs : List DecResult) (hk : Keeps k0 r0 s) : Keeps k0 r0 (State.pvAction s rs) := by
  unfold State.pvAction
  repeat' with_reducible first
    | assumption
    | ((try lift_lets); intro x; first | (refine (fun (hx : Keeps k0 r0 x) => ?_) ?_; on_goal 1 => (try clear_value x)) | (try clear_value x))
    | (refine keeps_forEach _ _ (fun t n ht => ?_) ?_; on_goal 1 => beta_reduce)
    | apply keeps_unfresh
    | (refine keeps_foldl _ _ (fun t n ht => ?_) ?_; on_goal 1 => beta_reduce)
    | apply keeps_publish
    | apply keeps_fire
    | apply keeps_pvChecks
    | fail_if_no_progress apply Keeps.upd
    | (dsimp only [x])

theorem keeps_setRtcFields {k0 : Bool} {r0 s : State} (f : List Nat) (hk : Keeps k0 r0 s) : Keeps k0 r0 (State.setRtcFields s f) := by
  unfold State.setRtcFields
  repeat' with_reducible first
    | assumption
    | (refine keeps_forEach _ _ (fun t n ht => ?_) ?_; on_goal 1 => beta_reduce)
    | apply keeps_setReg

theorem keeps_rtcFire {k0 : Bool} {r0 s : State} (n : Nat) (hk : Keeps k0 r0 s) : Keeps k0 r0 (State.rtcFire s n) := by
  unfold State.rtcFire
  repeat' with_reducible first
    | assumption
    | apply Keeps.ite
    | apply keeps_fire
    | split

theorem keeps_rtcFault {k0 : Bool} {r0 s : State} (code : Nat) (param : Nat) (hk : Keeps k0 r0 s) : Keeps k0 r0 (State.rtcFault s code param) := by
  unfold State.rtcFault
  repeat' with_reducible first
    | assumption
    | apply Keeps.ite
    | apply keeps_fault
    | split

theorem keeps_rtcEntry {k0 : Bool} {r0 s : State} (kind : Nat) (b1 : Nat) (hk : Keeps k0 r0 s) : Keeps k0 r0 (State.rtcEntry s kind b1) := by
  unfold State.rtcEntry
  repeat' with_reducible first
    | assumption
    | apply Keeps.ite
    | apply keeps_ringOffer
    | split

theorem keeps_drawSub {k0 : Bool} {r0 s : State}  (hk : Keeps k0 r0 s) : Keeps k0 r0 (State.drawSub s).2 := by
  unfold State.drawSub
  repeat' with_reducible first
    | assumption
    | ((try lift_lets); intro x; first | (refine (fun (hx : Keeps k0 r0 x) => ?_) ?_; on_goal 1 => (try clear_value x)) | (refine (fun (hx : Keeps k0 r0 x.2) => ?_) ?_; on_goal 1 => (try clear_value x)) | (refine (fun (hx : Keeps k0 r0 x.2.2) => ?_) ?_; on_goal 1 => (try clear_value x)) | (try clear_value x))
    | apply Keeps.ite
    | apply keeps_drawNat
    | apply Keeps.ite2
    | apply Keeps.ite3
    | split
    | (dsimp only [x])

theorem keeps_rtcCapture {k0 : Bool} {r0 s : State} (who : Init) (hk : Keeps k0 r0 s) : Keeps k0 r0 (State.rtcCapture s who) := by
  unfold State.rtcCapture
  repeat' with_reducible first
    | assumption
    | ((try lift_lets); intro x; first | (refine (fun (hx : Keeps k0 r0 x) => ?_) ?_; on_goal 1 => (try clear_value x)) | (refine (fun (hx : Keeps k0 r0 x.2) => ?_) ?_; on_goal 1 => (try clear_value x)) | (refine (fun (hx : Keeps k0 r0 x.2.2) => ?_) ?_; on_goal 1 => (try clear_value x)) | (try clear_value x))
    | apply Keeps.ite
    | apply keeps_drawSub
    | apply Keeps.ite2
    | apply Keeps.ite3
    | fail_if_no_progress apply Keeps.upd
    | split
    | (dsimp only [x])

theorem keeps_rtcSetTime {k0 : Bool} {r0 s : State} (sec : Nat) (hk : Keeps k0 r0 s) : Keeps k0 r0 (State.rtcSetTime s sec) := by
  unfold State.rtcSetTime
  repeat' with_reducible first
    | assumption
    | ((try lift_lets); intro x; first | (refine (fun (hx : Keeps k0 r0 x) => ?_) ?_; on_goal 1 => (try clear_value x)) | (try clear_value x))
    | apply keeps_setRtcFields
    | fail_if_no_progress apply Keeps.upd
    | (dsimp only [x])

theorem keeps_rtcMove {k0 : Bool} {r0 s : State} (n : Int) (hk : Keeps k0 r0 s) : Keeps k0 r0 (State.rtcMove s n) := by
  unfold State.rtcMove
  repeat' with_reducible first
    | assumption
    | ((try lift_lets); intro x; first | (refine (fun (hx : Keeps k0 r0 x) => ?_) ?_; on_goal 1 => (try clear_value x)) | (try clear_value x))
    | apply Keeps.ite
    | apply keeps_rtcSetTime
    | apply keeps_setRb
    | apply keeps_rtcFire
    | apply keeps_rtcFault
    | apply keeps_rtcEntry
    | split
    | (dsimp only [x])

theorem keeps_rtcAlarm {k0 : Bool} {r0 s : State} (a : Nat) (hk : Keeps k0 r0 s) : Keeps k0 r0 (State.rtcAlarm s a) := by
  unfold State.rtcAlarm
  repeat' with_reducible first
    | assumption
    | apply Keeps.ite
    | apply keeps_setRb
    | apply keeps_rtcFire
    | apply keeps_rtcEntry
    | split

theorem keeps_rtcSetTerm {k0 : Bool} {r0 s : State} (v : Int) (hk : Keeps k0 r0 s) : Keeps k0 r0 (State.rtcSetTerm s v) := by
  unfold State.rtcSetTerm
  repeat' with_reducible first
    | assumption
    | ((try lift_lets); intro x; first | (refine (fun (hx : Keeps k0 r0 x) => ?_) ?_; on_goal 1 => (try clear_value x)) | (try clear_value x))
    | apply keeps_setRf
    | fail_if_no_progress apply Keeps.upd
    | (dsimp only [x])

theorem keeps_rtcTerm {k0 : Bool} {r0 s : State}  (hk : Keeps k0 r0 s) : Keeps k0 r0 (State.rtcTerm s) := by
  unfold State.rtcTerm
  repeat' with_reducible first
    | assumption
    | ((try lift_lets); intro x; first | (refine (fun (hx : Keeps k0 r0 x) => ?_) ?_; on_goal 1 => (try clear_value x)) | (try clear_value x))
    | apply Keeps.ite
    | apply keeps_rtcSetTerm
    | apply keeps_setRf
    | split
    | (dsimp only [x])

theorem keeps_rtcTrimStep {k0 : Bool} {r0 s : State}  (hk : Keeps k0 r0 s) : Keeps k0 r0 (State.rtcTrimStep s) := by
  unfold State.rtcTrimStep
  repeat' with_reducible first
    | assumption
    | ((try lift_lets); intro x; first | (refine (fun (hx : Keeps k0 r0 x) => ?_) ?_; on_goal 1 => (try clear_value x)) | (try clear_value x))
    | apply keeps_rtcTerm
    | fail_if_no_progress apply Keeps.upd
    | (dsimp only [x])

theorem keeps_rtcWrapSub {k0 : Bool} {r0 s : State}  (hk : Keeps k0 r0 s) : Keeps k0 r0 (State.rtcWrapSub s) := by
  unfold State.rtcWrapSub
  repeat' with_reducible first
    | assumption
    | ((try lift_lets); intro x; first | (refine (fun (hx : Keeps k0 r0 x) => ?_) ?_; on_goal 1 => (try clear_value x)) | (try clear_value x))
    | apply Keeps.ite
    | fail_if_no_progress apply Keeps.upd
    | split
    | (dsimp only [x])

theorem keeps_rtcAdvance {k0 : Bool} {r0 s : State}  (hk : Keeps k0 r0 s) : Keeps k0 r0 (State.rtcAdvance s) := by
  unfold State.rtcAdvance
  repeat' with_reducible first
    | assumption
    | ((try lift_lets); intro x; first | (refine (fun (hx : Keeps k0 r0 x) => ?_) ?_; on_goal 1 => (try clear_value x)) | (try clear_value x))
    | apply Keeps.ite
    | apply keeps_rtcWrapSub
    | apply keeps_rtcMove
    | apply keeps_setReg
    | apply keeps_rtcEntry
    | apply keeps_rtcAlarm
    | apply keeps_rtcFire
    | apply keeps_rtcTrimStep
    | fail_if_no_progress apply Keeps.upd
    | split
    | (dsimp only [x])

theorem keeps_execRtcSecRead {k0 : Bool} {r0 s : State} (who : Init) (hk : Keeps k0 r0 s) : KeepsOut k0 r0 (execRtcSecRead who s) := by
  unfold execRtcSecRead
  repeat' with_reducible first
    | assumption
    | ((try lift_lets); intro x; first | (refine (fun (hx : Keeps k0 r0 x) => ?_) ?_; on_goal 1 => (try clear_value x)) | (try clear_value x))
    | apply keepsOut_done
    | apply keeps_rtcCapture
    | apply keeps_done
    | fail_if_no_progress apply Keeps.upd
    | (dsimp only [x])

theorem keeps_rtcSnapWrite {k0 : Bool} {r0 s : State} (who : Init) (v : Word) (hk : Keeps k0 r0 s) : Keeps k0 r0 (State.rtcSnapWrite s who v) := by
  unfold State.rtcSnapWrite
  repeat' with_reducible first
    | assumption
    | apply Keeps.ite
    | apply keeps_rtcCapture
    | split

theorem keeps_execRtcSnap {k0 : Bool} {r0 s : State} (who : Init) (v : Word) (hk : Keeps k0 r0 s) : KeepsOut k0 r0 (execRtcSnap who v s) := by
  unfold execRtcSnap
  repeat' with_reducible first
    | assumption
    | apply keepsOut_done
    | (refine keeps_guardWrite _ _ _ _ (fun t ht => ?_) ?_; on_goal 1 => beta_reduce)
    | apply keeps_rtcSnapWrite
    | apply keeps_done

theorem keeps_rtcWriteField {k0 : Bool} {r0 s : State} (i : Nat) (v : Word) (hk : Keeps k0 r0 s) : Keeps k0 r0 (State.rtcWriteField s i v) := by
  unfold State.rtcWriteField
  repeat' with_reducible first
    | assumption
    | ((try lift_lets); intro x; first | (refine (fun (hx : Keeps k0 r0 x) => ?_) ?_; on_goal 1 => (try clear_value x)) | (try clear_value x))
    | apply Keeps.ite
    | apply keeps_setRb
    | apply keeps_setReg
    | fail_if_no_progress apply Keeps.upd
    | split
    | (dsimp only [x])

theorem keeps_rtcFieldsShow {k0 : Bool} {r0 s : State}  (hk : Keeps k0 r0 s) : Keeps k0 r0 (State.rtcFieldsShow s) := by
  unfold State.rtcFieldsShow
  repeat' with_reducible first
    | assumption
    | ((try lift_lets); intro x; first | (refine (fun (hx : Keeps k0 r0 x) => ?_) ?_; on_goal 1 => (try clear_value x)) | (try clear_value x))
    | fail_if_no_progress apply Keeps.upd
    | (dsimp only [x])

theorem keeps_execRtcFieldWrite {k0 : Bool} {r0 s : State} (who : Init) (i : Nat) (v : Word) (hk : Keeps k0 r0 s) : KeepsOut k0 r0 (execRtcFieldWrite who i v s) := by
  unfold execRtcFieldWrite
  repeat' with_reducible first
    | assumption
    | apply KeepsOut.ite
    | apply keepsOut_done
    | apply Keeps.ite
    | (refine keeps_guardWrite _ _ _ _ (fun t ht => ?_) ?_; on_goal 1 => beta_reduce)
    | apply keeps_rtcWriteField
    | apply keeps_done
    | split

theorem keeps_rtcDoHalt {k0 : Bool} {r0 s : State}  (hk : Keeps k0 r0 s) : Keeps k0 r0 (State.rtcDoHalt s) := by
  unfold State.rtcDoHalt
  repeat' with_reducible first
    | assumption
    | ((try lift_lets); intro x; first | (refine (fun (hx : Keeps k0 r0 x) => ?_) ?_; on_goal 1 => (try clear_value x)) | (refine (fun (hx : Keeps k0 r0 x.2) => ?_) ?_; on_goal 1 => (try clear_value x)) | (refine (fun (hx : Keeps k0 r0 x.2.2) => ?_) ?_; on_goal 1 => (try clear_value x)) | (try clear_value x))
    | apply keeps_drawNat
    | apply keeps_drawSub
    | apply keeps_setRb
    | apply keeps_setReg
    | fail_if_no_progress apply Keeps.upd
    | (dsimp only [x])

theorem keeps_rtcHaltShow {k0 : Bool} {r0 s : State} (c : Int) (hk : Keeps k0 r0 s) : Keeps k0 r0 (State.rtcHaltShow s c) := by
  unfold State.rtcHaltShow
  repeat' with_reducible first
    | assumption
    | ((try lift_lets); intro x; first | (refine (fun (hx : Keeps k0 r0 x) => ?_) ?_; on_goal 1 => (try clear_value x)) | (try clear_value x))
    | apply keeps_setReg
    | fail_if_no_progress apply Keeps.upd
    | (dsimp only [x])

theorem keeps_xtalTick {k0 : Bool} {r0 s : State}  (hk : Keeps k0 r0 s) : Keeps k0 r0 (State.xtalTick s) := by
  unfold State.xtalTick
  repeat' with_reducible first
    | assumption
    | ((try lift_lets); intro x; first | (refine (fun (hx : Keeps k0 r0 x) => ?_) ?_; on_goal 1 => (try clear_value x)) | (try clear_value x))
    | apply Keeps.ite
    | apply keeps_rtcHaltShow
    | fail_if_no_progress apply Keeps.upd
    | split
    | (dsimp only [x])

theorem keeps_rtcAfterChill {k0 : Bool} {r0 s : State} (atSecond : Bool) (hk : Keeps k0 r0 s) : Keeps k0 r0 (State.rtcAfterChill s atSecond) := by
  unfold State.rtcAfterChill
  repeat' with_reducible first
    | assumption
    | ((try lift_lets); intro x; first | (refine (fun (hx : Keeps k0 r0 x) => ?_) ?_; on_goal 1 => (try clear_value x)) | (refine (fun (hx : Keeps k0 r0 x.2) => ?_) ?_; on_goal 1 => (try clear_value x)) | (refine (fun (hx : Keeps k0 r0 x.2.2) => ?_) ?_; on_goal 1 => (try clear_value x)) | (try clear_value x))
    | apply Keeps.ite
    | apply keeps_drawNat
    | apply keeps_rtcHaltShow
    | apply Keeps.ite2
    | apply Keeps.ite3
    | fail_if_no_progress apply Keeps.upd
    | split
    | (dsimp only [x])

theorem keeps_execRtcHalt {k0 : Bool} {r0 s : State} (who : Init) (hk : Keeps k0 r0 s) : KeepsOut k0 r0 (execRtcHalt who s) := by
  unfold execRtcHalt
  repeat' with_reducible first
    | assumption
    | apply keepsOut_done
    | (refine keeps_guardWrite _ _ _ _ (fun t ht => ?_) ?_; on_goal 1 => beta_reduce)
    | apply keeps_rtcDoHalt
    | apply keeps_done

theorem keeps_rtcDoRelease {k0 : Bool} {r0 s : State}  (hk : Keeps k0 r0 s) : Keeps k0 r0 (State.rtcDoRelease s) := by
  unfold State.rtcDoRelease
  repeat' with_reducible first
    | assumption
    | ((try lift_lets); intro x; first | (refine (fun (hx : Keeps k0 r0 x) => ?_) ?_; on_goal 1 => (try clear_value x)) | (refine (fun (hx : Keeps k0 r0 x.2) => ?_) ?_; on_goal 1 => (try clear_value x)) | (refine (fun (hx : Keeps k0 r0 x.2.2) => ?_) ?_; on_goal 1 => (try clear_value x)) | (try clear_value x))
    | apply Keeps.ite
    | apply keeps_drawNat
    | apply keeps_setRb
    | apply keeps_rtcEntry
    | apply keeps_rtcFire
    | apply keeps_rtcFault
    | apply Keeps.ite2
    | apply Keeps.ite3
    | fail_if_no_progress apply Keeps.upd
    | split
    | (dsimp only [x])

theorem keeps_execRtcRelease {k0 : Bool} {r0 s : State} (who : Init) (hk : Keeps k0 r0 s) : KeepsOut k0 r0 (execRtcRelease who s) := by
  unfold execRtcRelease
  repeat' with_reducible first
    | assumption
    | apply keepsOut_done
    | (refine keeps_guardWrite _ _ _ _ (fun t ht => ?_) ?_; on_goal 1 => beta_reduce)
    | apply keeps_rtcDoRelease
    | apply keeps_done

theorem keeps_rtcSetTcomp {k0 : Bool} {r0 s : State} (on : Bool) (hk : Keeps k0 r0 s) : Keeps k0 r0 (State.rtcSetTcomp s on) := by
  unfold State.rtcSetTcomp
  repeat' with_reducible first
    | assumption
    | ((try lift_lets); intro x; first | (refine (fun (hx : Keeps k0 r0 x) => ?_) ?_; on_goal 1 => (try clear_value x)) | (try clear_value x))
    | apply Keeps.ite
    | apply keeps_setRb
    | apply keeps_rtcSetTerm
    | split
    | (dsimp only [x])

theorem keeps_rtcCtrlWrite {k0 : Bool} {r0 s : State} (v : Word) (hk : Keeps k0 r0 s) : Keeps k0 r0 (State.rtcCtrlWrite s v) := by
  unfold State.rtcCtrlWrite
  repeat' with_reducible first
    | assumption
    | ((try lift_lets); intro x; first | (refine (fun (hx : Keeps k0 r0 x) => ?_) ?_; on_goal 1 => (try clear_value x)) | (try clear_value x))
    | apply Keeps.ite
    | apply keeps_setRf
    | apply keeps_rtcSetTcomp
    | apply keeps_rtcDoHalt
    | apply keeps_rtcDoRelease
    | split
    | (dsimp only [x])

theorem keeps_rtcAdjWrite {k0 : Bool} {r0 s : State} (v : Word) (hk : Keeps k0 r0 s) : Keeps k0 r0 (State.rtcAdjWrite s v) := by
  unfold State.rtcAdjWrite
  repeat' with_reducible first
    | assumption
    | ((try lift_lets); intro x; first | (refine (fun (hx : Keeps k0 r0 x) => ?_) ?_; on_goal 1 => (try clear_value x)) | (try clear_value x))
    | apply Keeps.ite
    | apply keeps_setRb
    | apply keeps_setReg
    | split
    | (dsimp only [x])

theorem keeps_execRtcAdj {k0 : Bool} {r0 s : State} (who : Init) (v : Word) (hk : Keeps k0 r0 s) : KeepsOut k0 r0 (execRtcAdj who v s) := by
  unfold execRtcAdj
  repeat' with_reducible first
    | assumption
    | apply keepsOut_done
    | (refine keeps_guardWrite _ _ _ _ (fun t ht => ?_) ?_; on_goal 1 => beta_reduce)
    | apply keeps_rtcAdjWrite
    | apply keeps_done

theorem keeps_rtcTrimWrite {k0 : Bool} {r0 s : State} (v : Int) (hk : Keeps k0 r0 s) : Keeps k0 r0 (State.rtcTrimWrite s v) := by
  unfold State.rtcTrimWrite
  repeat' with_reducible first
    | assumption
    | apply keeps_setReg

theorem keeps_rtcMeasWrite {k0 : Bool} {r0 s : State} (v : Word) (hk : Keeps k0 r0 s) : Keeps k0 r0 (State.rtcMeasWrite s v) := by
  unfold State.rtcMeasWrite
  repeat' with_reducible first
    | assumption
    | ((try lift_lets); intro x; first | (refine (fun (hx : Keeps k0 r0 x) => ?_) ?_; on_goal 1 => (try clear_value x)) | (try clear_value x))
    | apply Keeps.ite
    | apply keeps_done
    | apply keeps_setReg
    | fail_if_no_progress apply Keeps.upd
    | split
    | (dsimp only [x])

theorem keeps_rtcMeasEnd {k0 : Bool} {r0 s : State} (cycles : Nat) (n : Nat) (hk : Keeps k0 r0 s) : Keeps k0 r0 (State.rtcMeasEnd s cycles n) := by
  unfold State.rtcMeasEnd
  repeat' with_reducible first
    | assumption
    | ((try lift_lets); intro x; first | (refine (fun (hx : Keeps k0 r0 x) => ?_) ?_; on_goal 1 => (try clear_value x)) | (try clear_value x))
    | apply keeps_setReg
    | apply keeps_setRb
    | apply keeps_fire
    | apply keeps_rtcEntry
    | fail_if_no_progress apply Keeps.upd
    | (dsimp only [x])

theorem keeps_rtcMeasStop {k0 : Bool} {r0 s : State}  (hk : Keeps k0 r0 s) : Keeps k0 r0 (State.rtcMeasStop s) := by
  unfold State.rtcMeasStop
  repeat' with_reducible first
    | assumption
    | ((try lift_lets); intro x; first | (refine (fun (hx : Keeps k0 r0 x) => ?_) ?_; on_goal 1 => (try clear_value x)) | (try clear_value x))
    | apply keeps_setRb
    | fail_if_no_progress apply Keeps.upd
    | (dsimp only [x])

theorem keeps_rtcMeasFirst {k0 : Bool} {r0 s : State} (sec : Nat) (mark : Nat) (hk : Keeps k0 r0 s) : Keeps k0 r0 (State.rtcMeasFirst s sec mark) := by
  unfold State.rtcMeasFirst
  repeat' with_reducible first
    | assumption
    | ((try lift_lets); intro x; first | (refine (fun (hx : Keeps k0 r0 x) => ?_) ?_; on_goal 1 => (try clear_value x)) | (try clear_value x))
    | fail_if_no_progress apply Keeps.upd
    | (dsimp only [x])

theorem keeps_rtcMeasOff {k0 : Bool} {r0 s : State}  (hk : Keeps k0 r0 s) : Keeps k0 r0 (State.rtcMeasOff s) := by
  unfold State.rtcMeasOff
  repeat' with_reducible first
    | assumption
    | ((try lift_lets); intro x; first | (refine (fun (hx : Keeps k0 r0 x) => ?_) ?_; on_goal 1 => (try clear_value x)) | (try clear_value x))
    | fail_if_no_progress apply Keeps.upd
    | (dsimp only [x])

theorem keeps_execRtcMeasureStart {k0 : Bool} {r0 s : State} (who : Init) (v : Word) (hk : Keeps k0 r0 s) : KeepsOut k0 r0 (execRtcMeasureStart who v s) := by
  unfold execRtcMeasureStart
  repeat' with_reducible first
    | assumption
    | apply keepsOut_done
    | (refine keeps_guardWrite _ _ _ _ (fun t ht => ?_) ?_; on_goal 1 => beta_reduce)
    | apply keeps_rtcMeasWrite
    | apply keeps_done

theorem keeps_rtcMainsOk {k0 : Bool} {r0 s : State} (ok : Bool) (hk : Keeps k0 r0 s) : Keeps k0 r0 (State.rtcMainsOk s ok) := by
  unfold State.rtcMainsOk
  repeat' with_reducible first
    | assumption
    | ((try lift_lets); intro x; first | (refine (fun (hx : Keeps k0 r0 x) => ?_) ?_; on_goal 1 => (try clear_value x)) | (try clear_value x))
    | apply Keeps.ite
    | apply keeps_setRb
    | apply keeps_fire
    | apply keeps_fault
    | apply keeps_rtcMeasStop
    | split
    | (dsimp only [x])

theorem keeps_rtcMainsMeas {k0 : Bool} {r0 s : State} (cycles : Nat) (hk : Keeps k0 r0 s) : Keeps k0 r0 (s.rtcMainsMeas cycles) := by
  unfold State.rtcMainsMeas
  exact Keeps.ite hk (Keeps.ite (Keeps.upd hk) (Keeps.ite (keeps_rtcMeasEnd _ _ (Keeps.upd hk)) (Keeps.upd hk)))

theorem keeps_execMainsrefCross {k0 : Bool} {r0 s : State} (cycles : Nat) (hk : Keeps k0 r0 s) : KeepsOut k0 r0 (execMainsrefCross cycles s) := by
  unfold execMainsrefCross
  repeat' with_reducible first
    | assumption
    | ((try lift_lets); intro x; first | (refine (fun (hx : Keeps k0 r0 x) => ?_) ?_; on_goal 1 => (try clear_value x)) | (try clear_value x))
    | apply KeepsOut.ite
    | apply keepsOut_done
    | apply Keeps.ite
    | apply keeps_done
    | apply keeps_rtcMainsOk
    | apply keeps_rtcMainsMeas
    | fail_if_no_progress apply Keeps.upd
    | split
    | (dsimp only [x])

theorem keeps_execMainsLost {k0 : Bool} {r0 s : State}  (hk : Keeps k0 r0 s) : KeepsOut k0 r0 (execMainsLost s) := by
  unfold execMainsLost
  repeat' with_reducible first
    | assumption
    | ((try lift_lets); intro x; first | (refine (fun (hx : Keeps k0 r0 x) => ?_) ?_; on_goal 1 => (try clear_value x)) | (try clear_value x))
    | apply KeepsOut.ite
    | apply keepsOut_done
    | apply Keeps.ite
    | apply keeps_done
    | apply keeps_rtcMainsOk
    | fail_if_no_progress apply Keeps.upd
    | split
    | (dsimp only [x])

theorem keeps_rtcSetClock {k0 : Bool} {r0 s : State} (sec : Nat) (hk : Keeps k0 r0 s) : Keeps k0 r0 (State.rtcSetClock s sec) := by
  unfold State.rtcSetClock
  repeat' with_reducible first
    | assumption
    | apply keeps_rtcDoHalt
    | apply keeps_setRtcFields
    | apply keeps_rtcFieldsShow
    | apply keeps_rtcDoRelease

theorem keeps_rtcDiscipline {k0 : Bool} {r0 s : State} (sec : Nat) (hk : Keeps k0 r0 s) : Keeps k0 r0 (State.rtcDiscipline s sec) := by
  unfold State.rtcDiscipline
  repeat' with_reducible first
    | assumption
    | ((try lift_lets); intro x; first | (refine (fun (hx : Keeps k0 r0 x) => ?_) ?_; on_goal 1 => (try clear_value x)) | (try clear_value x))
    | apply Keeps.ite
    | apply keeps_rtcSetClock
    | apply keeps_rtcAdjWrite
    | split
    | (dsimp only [x])

theorem keeps_rtcBeacon {k0 : Bool} {r0 s : State} (sec : Nat) (valid : Bool) (hk : Keeps k0 r0 s) : Keeps k0 r0 (State.rtcBeacon s sec valid) := by
  unfold State.rtcBeacon
  repeat' with_reducible first
    | assumption
    | ((try lift_lets); intro x; first | (refine (fun (hx : Keeps k0 r0 x) => ?_) ?_; on_goal 1 => (try clear_value x)) | (refine (fun (hx : Keeps k0 r0 x.2) => ?_) ?_; on_goal 1 => (try clear_value x)) | (refine (fun (hx : Keeps k0 r0 x.2.2) => ?_) ?_; on_goal 1 => (try clear_value x)) | (try clear_value x))
    | apply Keeps.ite
    | apply keeps_drawNat
    | apply keeps_setReg
    | apply keeps_rtcMeasFirst
    | apply keeps_rtcMeasEnd
    | apply keeps_rtcDiscipline
    | apply Keeps.ite2
    | apply Keeps.ite3
    | split
    | (dsimp only [x])

theorem keeps_rtcMeasBegin {k0 : Bool} {r0 s : State}  (hk : Keeps k0 r0 s) : Keeps k0 r0 (State.rtcMeasBegin s) := by
  unfold State.rtcMeasBegin
  repeat' with_reducible first
    | assumption
    | ((try lift_lets); intro x; first | (refine (fun (hx : Keeps k0 r0 x) => ?_) ?_; on_goal 1 => (try clear_value x)) | (try clear_value x))
    | apply Keeps.ite
    | apply keeps_rtcMeasWrite
    | split
    | (dsimp only [x])

theorem keeps_execTrimUpdate {k0 : Bool} {r0 s : State}  (hk : Keeps k0 r0 s) : KeepsOut k0 r0 (execTrimUpdate s) := by
  unfold execTrimUpdate
  repeat' with_reducible first
    | assumption
    | ((try lift_lets); intro x; first | (refine (fun (hx : Keeps k0 r0 x) => ?_) ?_; on_goal 1 => (try clear_value x)) | (refine (fun (hx : Keeps k0 r0 x.2) => ?_) ?_; on_goal 1 => (try clear_value x)) | (refine (fun (hx : Keeps k0 r0 x.2.2) => ?_) ?_; on_goal 1 => (try clear_value x)) | (try clear_value x))
    | apply KeepsOut.ite
    | apply keepsOut_done
    | apply Keeps.ite
    | apply keeps_done
    | apply keeps_drawNat
    | apply keeps_rtcTrimWrite
    | apply keeps_rtcMeasBegin
    | apply Keeps.ite2
    | apply Keeps.ite3
    | fail_if_no_progress apply Keeps.upd
    | split
    | (dsimp only [x])

theorem keeps_execRtcSupplySwitch {k0 : Bool} {r0 s : State} (toVbat : Bool) (hk : Keeps k0 r0 s) : KeepsOut k0 r0 (execRtcSupplySwitch toVbat s) := by
  unfold execRtcSupplySwitch
  repeat' with_reducible first
    | assumption
    | ((try lift_lets); intro x; first | (refine (fun (hx : Keeps k0 r0 x) => ?_) ?_; on_goal 1 => (try clear_value x)) | (try clear_value x))
    | apply KeepsOut.ite
    | apply keepsOut_done
    | apply Keeps.ite
    | apply keeps_done
    | apply keeps_setRb
    | apply keeps_rtcEntry
    | fail_if_no_progress apply Keeps.upd
    | split
    | (dsimp only [x])

theorem keeps_rtcBatlow {k0 : Bool} {r0 s : State}  (hk : Keeps k0 r0 s) : Keeps k0 r0 (State.rtcBatlow s) := by
  unfold State.rtcBatlow
  repeat' with_reducible first
    | assumption
    | apply keeps_setRb
    | apply keeps_rtcFire
    | apply keeps_rtcFault

theorem keeps_execRtcBatlow {k0 : Bool} {r0 s : State}  (hk : Keeps k0 r0 s) : KeepsOut k0 r0 (execRtcBatlow s) := by
  unfold execRtcBatlow
  repeat' with_reducible first
    | assumption
    | ((try lift_lets); intro x; first | (refine (fun (hx : Keeps k0 r0 x) => ?_) ?_; on_goal 1 => (try clear_value x)) | (try clear_value x))
    | apply KeepsOut.ite
    | apply keepsOut_done
    | apply Keeps.ite
    | apply keeps_rtcBatlow
    | apply keeps_done
    | fail_if_no_progress apply Keeps.upd
    | split
    | (dsimp only [x])

theorem keeps_execRtcBatlowClear {k0 : Bool} {r0 s : State}  (hk : Keeps k0 r0 s) : KeepsOut k0 r0 (execRtcBatlowClear s) := by
  unfold execRtcBatlowClear
  repeat' with_reducible first
    | assumption
    | ((try lift_lets); intro x; first | (refine (fun (hx : Keeps k0 r0 x) => ?_) ?_; on_goal 1 => (try clear_value x)) | (try clear_value x))
    | apply keepsOut_done
    | apply keeps_setRb
    | apply keeps_done
    | fail_if_no_progress apply Keeps.upd
    | (dsimp only [x])

theorem keeps_rtcDomainReset {k0 : Bool} {r0 s : State}  (hk : Keeps k0 r0 s) : Keeps k0 r0 (State.rtcDomainReset s) := by
  unfold State.rtcDomainReset
  repeat' with_reducible first
    | assumption
    | ((try lift_lets); intro x; first | (refine (fun (hx : Keeps k0 r0 x) => ?_) ?_; on_goal 1 => (try clear_value x)) | (try clear_value x))
    | (refine keeps_forEach _ _ (fun t n ht => ?_) ?_; on_goal 1 => beta_reduce)
    | apply keeps_setReg
    | fail_if_no_progress apply Keeps.upd
    | (dsimp only [x])

theorem keeps_execRtcDomainLoss {k0 : Bool} {r0 s : State}  (hk : Keeps k0 r0 s) : KeepsOut k0 r0 (execRtcDomainLoss s) := by
  unfold execRtcDomainLoss
  repeat' with_reducible first
    | assumption
    | apply keepsOut_done
    | apply keeps_rtcDomainReset
    | apply keeps_done

theorem keeps_execRtcXstop {k0 : Bool} {r0 s : State}  (hk : Keeps k0 r0 s) : KeepsOut k0 r0 (execRtcXstop s) := by
  unfold execRtcXstop
  repeat' with_reducible first
    | assumption
    | ((try lift_lets); intro x; first | (refine (fun (hx : Keeps k0 r0 x) => ?_) ?_; on_goal 1 => (try clear_value x)) | (try clear_value x))
    | apply KeepsOut.ite
    | apply keepsOut_done
    | apply Keeps.ite
    | apply keeps_done
    | apply keeps_setRb
    | apply keeps_rtcFire
    | apply keeps_rtcFault
    | apply keeps_rtcEntry
    | fail_if_no_progress apply Keeps.upd
    | split
    | (dsimp only [x])

theorem keeps_rtcResume {k0 : Bool} {r0 s : State}  (hk : Keeps k0 r0 s) : Keeps k0 r0 (State.rtcResume s) := by
  unfold State.rtcResume
  repeat' with_reducible first
    | assumption
    | ((try lift_lets); intro x; first | (refine (fun (hx : Keeps k0 r0 x) => ?_) ?_; on_goal 1 => (try clear_value x)) | (try clear_value x))
    | apply Keeps.ite
    | apply keeps_rtcMove
    | apply keeps_rtcFieldsShow
    | apply keeps_rtcDoRelease
    | apply keeps_rtcFault
    | split
    | (dsimp only [x])

theorem keeps_knabPut {k0 : Bool} {r0 s : State} (a : Nat) (l : List Byte) (hk : Keeps k0 r0 s) : Keeps k0 r0 (s.knabPut a l) := by
  induction l generalizing s a with
  | nil => exact hk
  | cons x t ih => exact ih (a + 1) (keeps_setByte _ x hk)

theorem keeps_knabPuts {k0 : Bool} {r0 s : State} (l : List (Nat × List Byte)) (hk : Keeps k0 r0 s) : Keeps k0 r0 (State.knabPuts s l) := by
  unfold State.knabPuts
  repeat' with_reducible first
    | assumption
    | (refine keeps_foldl _ _ (fun t n ht => ?_) ?_; on_goal 1 => beta_reduce)
    | apply keeps_knabPut

theorem keeps_knabMapLoad {k0 : Bool} {r0 s : State}  (hk : Keeps k0 r0 s) : Keeps k0 r0 (State.knabMapLoad s) := by
  unfold State.knabMapLoad
  repeat' with_reducible first
    | assumption
    | ((try lift_lets); intro x; first | (refine (fun (hx : Keeps k0 r0 x) => ?_) ?_; on_goal 1 => (try clear_value x)) | (try clear_value x))
    | apply Keeps.ite
    | fail_if_no_progress apply Keeps.upd
    | split
    | (dsimp only [x])

theorem keeps_knabSpares {k0 : Bool} {r0 s : State}  (hk : Keeps k0 r0 s) : Keeps k0 r0 (State.knabSpares s) := by
  unfold State.knabSpares
  repeat' with_reducible first
    | assumption
    | ((try lift_lets); intro x; first | (refine (fun (hx : Keeps k0 r0 x) => ?_) ?_; on_goal 1 => (try clear_value x)) | (try clear_value x))
    | apply keeps_setReg
    | (dsimp only [x])

theorem keeps_nvReload {k0 : Bool} {r0 s : State}  (hk : Keeps k0 r0 s) : Keeps k0 r0 (State.nvReload s) := by
  unfold State.nvReload
  repeat' with_reducible first
    | assumption
    | ((try lift_lets); intro x; first | (refine (fun (hx : Keeps k0 r0 x) => ?_) ?_; on_goal 1 => (try clear_value x)) | (try clear_value x))
    | fail_if_no_progress apply Keeps.upd
    | (dsimp only [x])

theorem keeps_knabCtrAdd {k0 : Bool} {r0 s : State} (c : Nat) (k : Nat) (hk : Keeps k0 r0 s) : Keeps k0 r0 (State.knabCtrAdd s c k) := by
  unfold State.knabCtrAdd
  repeat' with_reducible first
    | assumption
    | ((try lift_lets); intro x; first | (refine (fun (hx : Keeps k0 r0 x) => ?_) ?_; on_goal 1 => (try clear_value x)) | (try clear_value x))
    | apply Keeps.ite
    | apply keeps_knabPuts
    | fail_if_no_progress apply Keeps.upd
    | split
    | (dsimp only [x])

theorem keeps_knabCtrCut {k0 : Bool} {r0 s : State} (c : Nat) (k : Nat) (w : Nat) (hk : Keeps k0 r0 s) : Keeps k0 r0 (State.knabCtrCut s c k w) := by
  unfold State.knabCtrCut
  repeat' with_reducible first
    | assumption
    | ((try lift_lets); intro x; first | (refine (fun (hx : Keeps k0 r0 x) => ?_) ?_; on_goal 1 => (try clear_value x)) | (try clear_value x))
    | apply Keeps.ite
    | apply keeps_knabPuts
    | split
    | (dsimp only [x])

theorem keeps_runtimeCount {k0 : Bool} {r0 s : State} (c : Nat) (hk : Keeps k0 r0 s) : Keeps k0 r0 (State.runtimeCount s c) := by
  unfold State.runtimeCount
  repeat' with_reducible first
    | assumption
    | ((try lift_lets); intro x; first | (refine (fun (hx : Keeps k0 r0 x) => ?_) ?_; on_goal 1 => (try clear_value x)) | (try clear_value x))
    | apply Keeps.ite
    | apply keeps_knabCtrAdd
    | fail_if_no_progress apply Keeps.upd
    | split
    | (dsimp only [x])

theorem keeps_runtimePays {k0 : Bool} {r0 s : State}  (hk : Keeps k0 r0 s) : Keeps k0 r0 (State.runtimePays s) := by
  unfold State.runtimePays
  repeat' with_reducible first
    | assumption
    | ((try lift_lets); intro x; first | (refine (fun (hx : Keeps k0 r0 x) => ?_) ?_; on_goal 1 => (try clear_value x)) | (refine (fun (hx : Keeps k0 r0 x.2) => ?_) ?_; on_goal 1 => (try clear_value x)) | (refine (fun (hx : Keeps k0 r0 x.2.2) => ?_) ?_; on_goal 1 => (try clear_value x)) | (try clear_value x))
    | (refine keeps_foldl _ _ (fun t n ht => ?_) ?_; on_goal 1 => beta_reduce)
    | apply keeps_knabCtrAdd
    | fail_if_no_progress apply Keeps.upd
    | (dsimp only [x])

theorem keeps_knabDirect {k0 : Bool} {r0 s : State} (a : Nat) (b : List Byte) (hk : Keeps k0 r0 s) : Keeps k0 r0 (State.knabDirect s a b) := by
  unfold State.knabDirect
  repeat' with_reducible first
    | assumption
    | ((try lift_lets); intro x; first | (refine (fun (hx : Keeps k0 r0 x) => ?_) ?_; on_goal 1 => (try clear_value x)) | (try clear_value x))
    | apply Keeps.ite
    | apply keeps_knabPut
    | fail_if_no_progress apply Keeps.upd
    | split
    | (dsimp only [x])

theorem keeps_knabSteps {k0 : Bool} {r0 s : State} (pages : List (Nat × List Byte)) (hk : Keeps k0 r0 s) : Keeps k0 r0 (State.knabSteps s pages) := by
  unfold State.knabSteps
  repeat' with_reducible first
    | assumption
    | ((try lift_lets); intro x; first | (refine (fun (hx : Keeps k0 r0 x) => ?_) ?_; on_goal 1 => (try clear_value x)) | (try clear_value x))
    | apply Keeps.ite
    | apply keeps_knabPuts
    | apply keeps_knabPut
    | apply keeps_knabMapLoad
    | apply keeps_setReg
    | apply keeps_nvReload
    | split
    | (dsimp only [x])

theorem keeps_knabWeakEntry {k0 : Bool} {r0 s : State} (kind : Nat) (spare : Nat) (page : Nat) (hk : Keeps k0 r0 s) : Keeps k0 r0 (State.knabWeakEntry s kind spare page) := by
  unfold State.knabWeakEntry
  repeat' with_reducible first
    | assumption
    | apply keeps_fire
    | apply keeps_ringOffer

theorem keeps_knabScanShow {k0 : Bool} {r0 s : State}  (hk : Keeps k0 r0 s) : Keeps k0 r0 (State.knabScanShow s) := by
  unfold State.knabScanShow
  repeat' with_reducible first
    | assumption
    | apply keeps_setRb

theorem keeps_knabBegin {k0 : Bool} {r0 s : State} (pages : List (Nat × List Byte)) (kind : KnbKind) (hk : Keeps k0 r0 s) : Keeps k0 r0 (State.knabBegin s pages kind) := by
  unfold State.knabBegin
  repeat' with_reducible first
    | assumption
    | ((try lift_lets); intro x; first | (refine (fun (hx : Keeps k0 r0 x) => ?_) ?_; on_goal 1 => (try clear_value x)) | (try clear_value x))
    | apply keeps_setRb
    | fail_if_no_progress apply Keeps.upd
    | (dsimp only [x])

theorem keeps_knabRetire {k0 : Bool} {r0 s : State} (page : Nat) (hk : Keeps k0 r0 s) : Keeps k0 r0 (State.knabRetire s page) := by
  unfold State.knabRetire
  repeat' with_reducible first
    | assumption
    | ((try lift_lets); intro x; first | (refine (fun (hx : Keeps k0 r0 x) => ?_) ?_; on_goal 1 => (try clear_value x)) | (try clear_value x))
    | apply Keeps.ite
    | apply keeps_knabBegin
    | apply keeps_setRb
    | apply keeps_fire
    | apply keeps_fault
    | apply keeps_knabWeakEntry
    | apply keeps_knabScanShow
    | fail_if_no_progress apply Keeps.upd
    | split
    | (dsimp only [x])

theorem keeps_knabDone {k0 : Bool} {r0 s : State} (kind : KnbKind) (hk : Keeps k0 r0 s) : Keeps k0 r0 (State.knabDone s kind) := by
  unfold State.knabDone
  repeat' with_reducible first
    | assumption
    | ((try lift_lets); intro x; first | (refine (fun (hx : Keeps k0 r0 x) => ?_) ?_; on_goal 1 => (try clear_value x)) | (try clear_value x))
    | apply Keeps.ite
    | apply keeps_fire
    | apply keeps_incSat
    | apply keeps_knabWeakEntry
    | apply keeps_knabRetire
    | apply keeps_knabScanShow
    | apply keeps_knabSpares
    | apply keeps_fault
    | fail_if_no_progress apply Keeps.upd
    | split
    | (dsimp only [x])

theorem keeps_knabFinish {k0 : Bool} {r0 s : State}  (hk : Keeps k0 r0 s) : Keeps k0 r0 (State.knabFinish s) := by
  unfold State.knabFinish
  repeat' with_reducible first
    | assumption
    | ((try lift_lets); intro x; first | (refine (fun (hx : Keeps k0 r0 x) => ?_) ?_; on_goal 1 => (try clear_value x)) | (refine (fun (hx : Keeps k0 r0 x.2) => ?_) ?_; on_goal 1 => (try clear_value x)) | (refine (fun (hx : Keeps k0 r0 x.2.2) => ?_) ?_; on_goal 1 => (try clear_value x)) | (try clear_value x))
    | apply keeps_knabSteps
    | apply keeps_setRb
    | apply keeps_knabDone
    | (refine keeps_foldl _ _ (fun t n ht => ?_) ?_; on_goal 1 => beta_reduce)
    | apply keeps_knabDirect
    | apply keeps_knabCtrAdd
    | fail_if_no_progress apply Keeps.upd
    | split
    | (dsimp only [x])

theorem keeps_knabSettle {k0 : Bool} {r0 s : State}  (hk : Keeps k0 r0 s) : Keeps k0 r0 (State.knabSettle s) := by
  unfold State.knabSettle
  repeat' with_reducible first
    | assumption
    | apply keeps_knabFinish

theorem keeps_knabTransact {k0 : Bool} {r0 s : State} (pages : List (Nat × List Byte)) (hk : Keeps k0 r0 s) : Keeps k0 r0 (State.knabTransact s pages) := by
  unfold State.knabTransact
  repeat' with_reducible first
    | assumption
    | apply Keeps.ite
    | apply keeps_knabSettle
    | apply keeps_knabSteps
    | apply keeps_knabDone
    | split

theorem keeps_nvStore {k0 : Bool} {r0 s : State} (f : NvSt → NvSt) (ids : List Nat) (more : List (Nat × List Byte)) (hk : Keeps k0 r0 s) : Keeps k0 r0 (State.nvStore s f ids more) := by
  unfold State.nvStore
  repeat' with_reducible first
    | assumption
    | ((try lift_lets); intro x; first | (refine (fun (hx : Keeps k0 r0 x) => ?_) ?_; on_goal 1 => (try clear_value x)) | (try clear_value x))
    | apply keeps_knabSettle
    | apply keeps_knabTransact
    | fail_if_no_progress apply Keeps.upd
    | (dsimp only [x])

theorem keeps_knabJopen {k0 : Bool} {r0 s : State}  (hk : Keeps k0 r0 s) : Keeps k0 r0 (State.knabJopen s) := by
  unfold State.knabJopen
  repeat' with_reducible first
    | assumption
    | apply Keeps.ite
    | (refine keeps_forEach _ _ (fun t n ht => ?_) ?_; on_goal 1 => beta_reduce)
    | apply keeps_setRb
    | apply keeps_setRf
    | split

theorem keeps_execKnbJopen {k0 : Bool} {r0 s : State} (who : Init) (hk : Keeps k0 r0 s) : KeepsOut k0 r0 (execKnbJopen who s) := by
  unfold execKnbJopen
  repeat' with_reducible first
    | assumption
    | apply keepsOut_done
    | (refine keeps_guardWrite _ _ _ _ (fun t ht => ?_) ?_; on_goal 1 => beta_reduce)
    | apply keeps_knabJopen
    | apply keeps_done

theorem keeps_knabJmapWrite {k0 : Bool} {r0 s : State} (j : Nat) (v : Word) (hk : Keeps k0 r0 s) : Keeps k0 r0 (State.knabJmapWrite s j v) := by
  unfold State.knabJmapWrite
  repeat' with_reducible first
    | assumption
    | ((try lift_lets); intro x; first | (refine (fun (hx : Keeps k0 r0 x) => ?_) ?_; on_goal 1 => (try clear_value x)) | (try clear_value x))
    | apply Keeps.ite
    | apply keeps_setReg
    | (refine keeps_forEach _ _ (fun t n ht => ?_) ?_; on_goal 1 => beta_reduce)
    | apply keeps_setRf
    | split
    | (dsimp only [x])

theorem keeps_execKnbJmapWrite {k0 : Bool} {r0 s : State} (who : Init) (j : Nat) (v : Word) (hk : Keeps k0 r0 s) : KeepsOut k0 r0 (execKnbJmapWrite who j v s) := by
  unfold execKnbJmapWrite
  repeat' with_reducible first
    | assumption
    | apply KeepsOut.ite
    | apply keepsOut_done
    | apply Keeps.ite
    | (refine keeps_guardWrite _ _ _ _ (fun t ht => ?_) ?_; on_goal 1 => beta_reduce)
    | apply keeps_knabJmapWrite
    | apply keeps_done
    | split

theorem keeps_knabCommitWrite {k0 : Bool} {r0 s : State}  (hk : Keeps k0 r0 s) : Keeps k0 r0 (State.knabCommitWrite s) := by
  unfold State.knabCommitWrite
  repeat' with_reducible first
    | assumption
    | ((try lift_lets); intro x; first | (refine (fun (hx : Keeps k0 r0 x) => ?_) ?_; on_goal 1 => (try clear_value x)) | (refine (fun (hx : Keeps k0 r0 x.2) => ?_) ?_; on_goal 1 => (try clear_value x)) | (refine (fun (hx : Keeps k0 r0 x.2.2) => ?_) ?_; on_goal 1 => (try clear_value x)) | (try clear_value x))
    | apply Keeps.ite
    | apply keeps_knabBegin
    | apply keeps_setRf
    | apply Keeps.ite2
    | apply Keeps.ite3
    | fail_if_no_progress apply Keeps.upd
    | split
    | (dsimp only [x])

theorem keeps_execKnbCommit {k0 : Bool} {r0 s : State} (who : Init) (hk : Keeps k0 r0 s) : KeepsOut k0 r0 (execKnbCommit who s) := by
  unfold execKnbCommit
  repeat' with_reducible first
    | assumption
    | apply keepsOut_done
    | (refine keeps_guardWrite _ _ _ _ (fun t ht => ?_) ?_; on_goal 1 => beta_reduce)
    | apply keeps_knabCommitWrite
    | apply keeps_done

theorem keeps_knabCntinc {k0 : Bool} {r0 s : State} (v : Word) (hk : Keeps k0 r0 s) : Keeps k0 r0 (State.knabCntinc s v) := by
  unfold State.knabCntinc
  repeat' with_reducible first
    | assumption
    | apply Keeps.ite
    | apply keeps_knabCtrAdd
    | split

theorem keeps_knabCntval {k0 : Bool} {r0 s : State}  (hk : Keeps k0 r0 s) : Keeps k0 r0 (State.knabCntval s) := by
  unfold State.knabCntval
  repeat' with_reducible first
    | assumption
    | ((try lift_lets); intro x; first | (refine (fun (hx : Keeps k0 r0 x) => ?_) ?_; on_goal 1 => (try clear_value x)) | (try clear_value x))
    | apply keeps_setReg
    | fail_if_no_progress apply Keeps.upd
    | (dsimp only [x])

theorem keeps_execCounterValueRead {k0 : Bool} {r0 s : State} (who : Init) (hk : Keeps k0 r0 s) : KeepsOut k0 r0 (execCounterValueRead who s) := by
  unfold execCounterValueRead
  repeat' with_reducible first
    | assumption
    | apply keepsOut_done
    | apply keeps_knabCntval
    | apply keeps_done

theorem keeps_knabResolve {k0 : Bool} {r0 s : State}  (hk : Keeps k0 r0 s) : Keeps k0 r0 (State.knabResolve s) := by
  unfold State.knabResolve
  repeat' with_reducible first
    | assumption
    | ((try lift_lets); intro x; first | (refine (fun (hx : Keeps k0 r0 x) => ?_) ?_; on_goal 1 => (try clear_value x)) | (refine (fun (hx : Keeps k0 r0 x.2) => ?_) ?_; on_goal 1 => (try clear_value x)) | (refine (fun (hx : Keeps k0 r0 x.2.2) => ?_) ?_; on_goal 1 => (try clear_value x)) | (try clear_value x))
    | apply Keeps.ite
    | apply keeps_knabPuts
    | apply keeps_knabPut
    | apply keeps_setRb
    | apply keeps_fire
    | apply keeps_fault
    | apply keeps_setReg
    | apply Keeps.ite2
    | apply Keeps.ite3
    | split
    | (dsimp only [x])

theorem keeps_knabCtrRecover {k0 : Bool} {r0 s : State} (c : Nat) (hk : Keeps k0 r0 s) : Keeps k0 r0 (State.knabCtrRecover s c) := by
  unfold State.knabCtrRecover
  repeat' with_reducible first
    | assumption
    | ((try lift_lets); intro x; first | (refine (fun (hx : Keeps k0 r0 x) => ?_) ?_; on_goal 1 => (try clear_value x)) | (try clear_value x))
    | apply Keeps.ite
    | apply keeps_knabPuts
    | apply keeps_setRb
    | apply keeps_fire
    | apply keeps_fault
    | split
    | (dsimp only [x])

theorem keeps_knabHeader {k0 : Bool} {r0 s : State}  (hk : Keeps k0 r0 s) : Keeps k0 r0 (State.knabHeader s) := by
  unfold State.knabHeader
  repeat' with_reducible first
    | assumption
    | ((try lift_lets); intro x; first | (refine (fun (hx : Keeps k0 r0 x) => ?_) ?_; on_goal 1 => (try clear_value x)) | (try clear_value x))
    | apply Keeps.ite
    | apply keeps_knabMapLoad
    | apply keeps_setRb
    | apply keeps_fire
    | apply keeps_fault
    | fail_if_no_progress apply Keeps.upd
    | split
    | (dsimp only [x])

theorem keeps_knabFullRecall {k0 : Bool} {r0 s : State} (weak : List Nat) (hk : Keeps k0 r0 s) : Keeps k0 r0 (State.knabFullRecall s weak) := by
  unfold State.knabFullRecall
  repeat' with_reducible first
    | assumption
    | ((try lift_lets); intro x; first | (refine (fun (hx : Keeps k0 r0 x) => ?_) ?_; on_goal 1 => (try clear_value x)) | (try clear_value x))
    | apply Keeps.ite
    | apply keeps_knabResolve
    | (refine keeps_forEach _ _ (fun t n ht => ?_) ?_; on_goal 1 => beta_reduce)
    | apply keeps_knabCtrRecover
    | apply keeps_knabHeader
    | apply keeps_knabSpares
    | apply keeps_setRb
    | fail_if_no_progress apply Keeps.upd
    | split
    | (dsimp only [x])

theorem keeps_knabModeRewrite {k0 : Bool} {r0 s : State}  (hk : Keeps k0 r0 s) : Keeps k0 r0 (State.knabModeRewrite s) := by
  unfold State.knabModeRewrite
  repeat' with_reducible first
    | assumption
    | ((try lift_lets); intro x; first | (refine (fun (hx : Keeps k0 r0 x) => ?_) ?_; on_goal 1 => (try clear_value x)) | (try clear_value x))
    | apply Keeps.ite
    | apply keeps_knabTransact
    | apply keeps_fault
    | split
    | (dsimp only [x])

theorem keeps_knabSliceNow {k0 : Bool} {r0 s : State}  (hk : Keeps k0 r0 s) : Keeps k0 r0 (State.knabSliceNow s) := by
  unfold State.knabSliceNow
  repeat' with_reducible first
    | assumption
    | ((try lift_lets); intro x; first | (refine (fun (hx : Keeps k0 r0 x) => ?_) ?_; on_goal 1 => (try clear_value x)) | (try clear_value x))
    | fail_if_no_progress apply Keeps.upd
    | (dsimp only [x])

theorem keeps_execSliceNow {k0 : Bool} {r0 s : State} (who : Init) (hk : Keeps k0 r0 s) : KeepsOut k0 r0 (execSliceNow who s) := by
  unfold execSliceNow
  repeat' with_reducible first
    | assumption
    | apply keepsOut_done
    | (refine keeps_guardWrite _ _ _ _ (fun t ht => ?_) ?_; on_goal 1 => beta_reduce)
    | apply keeps_knabSliceNow
    | apply keeps_done

theorem keeps_execScanSlice {k0 : Bool} {r0 s : State} (weak : List Nat) (hk : Keeps k0 r0 s) : KeepsOut k0 r0 (execScanSlice weak s) := by
  unfold execScanSlice
  repeat' with_reducible first
    | assumption
    | ((try lift_lets); intro x; first | (refine (fun (hx : Keeps k0 r0 x) => ?_) ?_; on_goal 1 => (try clear_value x)) | (try clear_value x))
    | apply KeepsOut.ite
    | apply keepsOut_done
    | apply Keeps.ite
    | apply keeps_done
    | apply keeps_setRf
    | apply keeps_knabScanShow
    | fail_if_no_progress apply Keeps.upd
    | split
    | (dsimp only [x])

theorem keeps_execPageRefresh {k0 : Bool} {r0 s : State} (page : Nat) (stillWeak : Bool) (hk : Keeps k0 r0 s) : KeepsOut k0 r0 (execPageRefresh page stillWeak s) := by
  unfold execPageRefresh
  repeat' with_reducible first
    | assumption
    | ((try lift_lets); intro x; first | (refine (fun (hx : Keeps k0 r0 x) => ?_) ?_; on_goal 1 => (try clear_value x)) | (try clear_value x))
    | apply KeepsOut.ite
    | apply keepsOut_done
    | apply Keeps.ite
    | apply keeps_knabBegin
    | apply keeps_done
    | fail_if_no_progress apply Keeps.upd
    | split
    | (dsimp only [x])

theorem keeps_execKnbWeakcntRead {k0 : Bool} {r0 s : State} (who : Init) (hk : Keeps k0 r0 s) : KeepsOut k0 r0 (execKnbWeakcntRead who s) := by
  unfold execKnbWeakcntRead
  repeat' with_reducible first
    | assumption
    | apply keepsOut_done
    | apply keeps_readClear
    | apply keeps_done

theorem keeps_knabSupplyFail {k0 : Bool} {r0 s : State} (jstep : Nat) (hk : Keeps k0 r0 s) : Keeps k0 r0 (s.knabSupplyFail jstep) := by
  unfold State.knabSupplyFail
  split
  · exact Keeps.upd hk
  · have cut : ∀ (l : List (Nat × List Byte)) (t : State), Keeps k0 r0 t → Keeps k0 r0 ((t.drawNat (l.length + 1)).2.knabPuts
        (l.take (t.drawNat (l.length + 1)).1)) := fun l t ht => keeps_knabPuts _ (keeps_drawNat _ ht)
    have mark : ∀ (a b : List (Nat × List Byte)) (x : List Byte) (t : State), Keeps k0 r0 t → Keeps k0 r0 (((t.knabPuts a).knabPuts b).knabPut (knabPage 60) x) :=
      fun a b x t ht => keeps_knabPut _ _ (keeps_knabPuts _ (keeps_knabPuts _ ht))
    refine Keeps.upd (Keeps.ite (keeps_knabFinish (Keeps.upd hk)) (Keeps.ite (cut _ _ (mark _ _ _ _ hk)) (Keeps.ite (mark _ _ _ _ hk)
      (Keeps.ite (cut _ _ (keeps_knabPuts _ hk)) (Keeps.ite (cut _ _ hk) hk)))))

theorem keeps_logWrite {k0 : Bool} {r0 s : State} (e : LogRec) (hk : Keeps k0 r0 s) : Keeps k0 r0 (State.logWrite s e) := by
  unfold State.logWrite
  repeat' with_reducible first
    | assumption
    | ((try lift_lets); intro x; first | (refine (fun (hx : Keeps k0 r0 x) => ?_) ?_; on_goal 1 => (try clear_value x)) | (try clear_value x))
    | apply Keeps.ite
    | apply keeps_knabSettle
    | apply keeps_knabCtrAdd
    | apply keeps_knabTransact
    | apply keeps_knabDirect
    | apply keeps_ringOffer
    | fail_if_no_progress apply Keeps.upd
    | split
    | (dsimp only [x])

theorem keeps_logClear {k0 : Bool} {r0 s : State} (page : Nat) (hk : Keeps k0 r0 s) : Keeps k0 r0 (State.logClear s page) := by
  unfold State.logClear
  repeat' with_reducible first
    | assumption
    | ((try lift_lets); intro x; first | (refine (fun (hx : Keeps k0 r0 x) => ?_) ?_; on_goal 1 => (try clear_value x)) | (try clear_value x))
    | apply Keeps.ite
    | apply keeps_knabTransact
    | apply keeps_knabSettle
    | apply keeps_knabPuts
    | split
    | (dsimp only [x])

theorem keeps_logTorn {k0 : Bool} {r0 s : State}  (hk : Keeps k0 r0 s) : Keeps k0 r0 (State.logTorn s) := by
  unfold State.logTorn
  repeat' with_reducible first
    | assumption
    | ((try lift_lets); intro x; first | (refine (fun (hx : Keeps k0 r0 x) => ?_) ?_; on_goal 1 => (try clear_value x)) | (refine (fun (hx : Keeps k0 r0 x.2) => ?_) ?_; on_goal 1 => (try clear_value x)) | (refine (fun (hx : Keeps k0 r0 x.2.2) => ?_) ?_; on_goal 1 => (try clear_value x)) | (try clear_value x))
    | apply Keeps.ite
    | apply keeps_drawNat
    | apply keeps_knabPut
    | apply Keeps.ite2
    | apply Keeps.ite3
    | fail_if_no_progress apply Keeps.upd
    | split
    | (dsimp only [x])

theorem keeps_execFaultLogWrite {k0 : Bool} {r0 s : State} (nvOk : Bool) (hk : Keeps k0 r0 s) : KeepsOut k0 r0 (execFaultLogWrite nvOk s) := by
  unfold execFaultLogWrite
  repeat' with_reducible first
    | assumption
    | ((try lift_lets); intro x; first | (refine (fun (hx : Keeps k0 r0 x) => ?_) ?_; on_goal 1 => (try clear_value x)) | (try clear_value x))
    | apply KeepsOut.ite
    | apply keepsOut_done
    | apply Keeps.ite
    | apply keeps_done
    | apply keeps_logWrite
    | apply keeps_fault
    | fail_if_no_progress apply Keeps.upd
    | split
    | (dsimp only [x])

theorem keeps_setAct {k0 : Bool} {r0 s : State} (n : Nat) (v : ActCh) (hk : Keeps k0 r0 s) : Keeps k0 r0 (State.setAct s n v) := by
  unfold State.setAct
  repeat' with_reducible first
    | assumption
    | ((try lift_lets); intro x; first | (refine (fun (hx : Keeps k0 r0 x) => ?_) ?_; on_goal 1 => (try clear_value x)) | (try clear_value x))
    | fail_if_no_progress apply Keeps.upd
    | (dsimp only [x])

theorem keeps_actLatch {k0 : Bool} {r0 s : State} (n : Nat) (hk : Keeps k0 r0 s) : Keeps k0 r0 (State.actLatch s n) := by
  unfold State.actLatch
  repeat' with_reducible first
    | assumption
    | ((try lift_lets); intro x; first | (refine (fun (hx : Keeps k0 r0 x) => ?_) ?_; on_goal 1 => (try clear_value x)) | (try clear_value x))
    | apply Keeps.ite
    | apply keeps_setAct
    | fail_if_no_progress apply Keeps.upd
    | split
    | (dsimp only [x])

theorem keeps_actEntry {k0 : Bool} {r0 s : State} (n : Nat) (kind : Nat) (hk : Keeps k0 r0 s) : Keeps k0 r0 (State.actEntry s n kind) := by
  unfold State.actEntry
  repeat' with_reducible first
    | assumption
    | apply keeps_ringOffer

theorem keeps_actFault {k0 : Bool} {r0 s : State} (code : Nat) (n : Nat) (hk : Keeps k0 r0 s) : Keeps k0 r0 (State.actFault s code n) := by
  unfold State.actFault
  repeat' with_reducible first
    | assumption
    | apply keeps_fault
    | apply keeps_fire

theorem keeps_actStroke {k0 : Bool} {r0 s : State} (n : Nat) (hk : Keeps k0 r0 s) : Keeps k0 r0 (State.actStroke s n) := by
  unfold State.actStroke
  repeat' with_reducible first
    | assumption
    | apply keeps_incWrap

theorem keeps_actEnd {k0 : Bool} {r0 s : State} (n : Nat) (resync : Bool) (hk : Keeps k0 r0 s) : Keeps k0 r0 (State.actEnd s n resync) := by
  unfold State.actEnd
  repeat' with_reducible first
    | assumption
    | ((try lift_lets); intro x; first | (refine (fun (hx : Keeps k0 r0 x) => ?_) ?_; on_goal 1 => (try clear_value x)) | (try clear_value x))
    | apply Keeps.ite
    | apply keeps_setRb
    | apply keeps_fire
    | apply keeps_actEntry
    | split
    | (dsimp only [x])

theorem keeps_pwmBegin {k0 : Bool} {r0 s : State} (n : Nat) (hk : Keeps k0 r0 s) : Keeps k0 r0 (State.pwmBegin s n) := by
  unfold State.pwmBegin
  repeat' with_reducible first
    | assumption
    | ((try lift_lets); intro x; first | (refine (fun (hx : Keeps k0 r0 x) => ?_) ?_; on_goal 1 => (try clear_value x)) | (try clear_value x))
    | apply Keeps.ite
    | apply keeps_actLatch
    | apply keeps_setAct
    | fail_if_no_progress apply Keeps.upd
    | split
    | (dsimp only [x])

theorem keeps_floatStop {k0 : Bool} {r0 s : State} (n : Nat) (hk : Keeps k0 r0 s) : Keeps k0 r0 (State.floatStop s n) := by
  unfold State.floatStop
  repeat' with_reducible first
    | assumption
    | ((try lift_lets); intro x; first | (refine (fun (hx : Keeps k0 r0 x) => ?_) ?_; on_goal 1 => (try clear_value x)) | (try clear_value x))
    | apply keeps_setAct
    | apply keeps_actStroke
    | fail_if_no_progress apply Keeps.upd
    | (dsimp only [x])

theorem keeps_floatDecide {k0 : Bool} {r0 s : State} (n : Nat) (hk : Keeps k0 r0 s) : Keeps k0 r0 (State.floatDecide s n) := by
  unfold State.floatDecide
  repeat' with_reducible first
    | assumption
    | ((try lift_lets); intro x; first | (refine (fun (hx : Keeps k0 r0 x) => ?_) ?_; on_goal 1 => (try clear_value x)) | (try clear_value x))
    | apply Keeps.ite
    | apply keeps_floatStop
    | apply keeps_actEnd
    | apply keeps_setAct
    | fail_if_no_progress apply Keeps.upd
    | split
    | (dsimp only [x])

theorem keeps_floatAdvance {k0 : Bool} {r0 s : State} (n : Nat) (hk : Keeps k0 r0 s) : Keeps k0 r0 (State.floatAdvance s n) := by
  unfold State.floatAdvance
  repeat' with_reducible first
    | assumption
    | apply Keeps.ite
    | apply keeps_setAct
    | split

theorem keeps_floatTick {k0 : Bool} {r0 s : State} (n : Nat) (hk : Keeps k0 r0 s) : Keeps k0 r0 (State.floatTick s n) := by
  unfold State.floatTick
  repeat' with_reducible first
    | assumption
    | apply keeps_floatAdvance
    | apply keeps_floatDecide

theorem keeps_stepCancel {k0 : Bool} {r0 s : State} (n : Nat) (hk : Keeps k0 r0 s) : Keeps k0 r0 (State.stepCancel s n) := by
  unfold State.stepCancel
  repeat' with_reducible first
    | assumption
    | ((try lift_lets); intro x; first | (refine (fun (hx : Keeps k0 r0 x) => ?_) ?_; on_goal 1 => (try clear_value x)) | (try clear_value x))
    | apply Keeps.ite
    | apply keeps_setAct
    | fail_if_no_progress apply Keeps.upd
    | split
    | (dsimp only [x])

theorem keeps_stepTurn {k0 : Bool} {r0 s : State} (n : Nat) (hk : Keeps k0 r0 s) : Keeps k0 r0 (State.stepTurn s n) := by
  unfold State.stepTurn
  repeat' with_reducible first
    | assumption
    | ((try lift_lets); intro x; first | (refine (fun (hx : Keeps k0 r0 x) => ?_) ?_; on_goal 1 => (try clear_value x)) | (try clear_value x))
    | apply Keeps.ite
    | apply keeps_actStroke
    | apply keeps_stepCancel
    | apply keeps_setAct
    | fail_if_no_progress apply Keeps.upd
    | split
    | (dsimp only [x])

theorem keeps_binaryTick {k0 : Bool} {r0 s : State} (n : Nat) (hk : Keeps k0 r0 s) : Keeps k0 r0 (State.binaryTick s n) := by
  unfold State.binaryTick
  repeat' with_reducible first
    | assumption
    | ((try lift_lets); intro x; first | (refine (fun (hx : Keeps k0 r0 x) => ?_) ?_; on_goal 1 => (try clear_value x)) | (try clear_value x))
    | apply Keeps.ite
    | apply keeps_setAct
    | apply keeps_actStroke
    | fail_if_no_progress apply Keeps.upd
    | split
    | (dsimp only [x])

theorem keeps_actHold {k0 : Bool} {r0 s : State} (n : Nat) (hk : Keeps k0 r0 s) : Keeps k0 r0 (State.actHold s n) := by
  unfold State.actHold
  repeat' with_reducible first
    | assumption
    | ((try lift_lets); intro x; first | (refine (fun (hx : Keeps k0 r0 x) => ?_) ?_; on_goal 1 => (try clear_value x)) | (try clear_value x))
    | apply Keeps.ite
    | apply keeps_floatStop
    | apply keeps_stepCancel
    | apply keeps_setAct
    | fail_if_no_progress apply Keeps.upd
    | split
    | (dsimp only [x])

theorem keeps_actEnterSafe {k0 : Bool} {r0 s : State} (n : Nat) (hk : Keeps k0 r0 s) : Keeps k0 r0 (State.actEnterSafe s n) := by
  unfold State.actEnterSafe
  repeat' with_reducible first
    | assumption
    | ((try lift_lets); intro x; first | (refine (fun (hx : Keeps k0 r0 x) => ?_) ?_; on_goal 1 => (try clear_value x)) | (try clear_value x))
    | apply Keeps.ite
    | apply keeps_floatStop
    | apply keeps_actHold
    | apply keeps_actStroke
    | apply keeps_setAct
    | apply keeps_actEntry
    | fail_if_no_progress apply Keeps.upd
    | split
    | (dsimp only [x])

theorem keeps_actLeaveSafe {k0 : Bool} {r0 s : State} (n : Nat) (hk : Keeps k0 r0 s) : Keeps k0 r0 (State.actLeaveSafe s n) := by
  unfold State.actLeaveSafe
  repeat' with_reducible first
    | assumption
    | ((try lift_lets); intro x; first | (refine (fun (hx : Keeps k0 r0 x) => ?_) ?_; on_goal 1 => (try clear_value x)) | (try clear_value x))
    | apply keeps_setAct
    | apply keeps_actEntry
    | fail_if_no_progress apply Keeps.upd
    | (dsimp only [x])

theorem keeps_actTick {k0 : Bool} {r0 s : State} (n : Nat) (hk : Keeps k0 r0 s) : Keeps k0 r0 (State.actTick s n) := by
  unfold State.actTick
  repeat' with_reducible first
    | assumption
    | ((try lift_lets); intro x; first | (refine (fun (hx : Keeps k0 r0 x) => ?_) ?_; on_goal 1 => (try clear_value x)) | (try clear_value x))
    | apply Keeps.ite
    | apply keeps_setAct
    | apply keeps_actLatch
    | apply keeps_actHold
    | apply keeps_floatAdvance
    | apply keeps_actEnterSafe
    | apply keeps_actLeaveSafe
    | apply keeps_pwmBegin
    | apply keeps_floatDecide
    | apply keeps_stepTurn
    | apply keeps_binaryTick
    | fail_if_no_progress apply Keeps.upd
    | split
    | (dsimp only [x])

theorem keeps_actTicks {k0 : Bool} {r0 s : State}  (hk : Keeps k0 r0 s) : Keeps k0 r0 (State.actTicks s) := by
  unfold State.actTicks
  repeat' with_reducible first
    | assumption
    | apply Keeps.ite
    | (refine keeps_forEach _ _ (fun t n ht => ?_) ?_; on_goal 1 => beta_reduce)
    | apply keeps_actTick
    | split

theorem keeps_execPwmPeriod {k0 : Bool} {r0 s : State} (n : Nat) (hk : Keeps k0 r0 s) : KeepsOut k0 r0 (execPwmPeriod n s) := by
  unfold execPwmPeriod
  repeat' with_reducible first
    | assumption
    | apply KeepsOut.ite
    | apply keepsOut_done
    | apply Keeps.ite
    | apply keeps_pwmBegin
    | apply keeps_done
    | split

theorem keeps_stepPulse {k0 : Bool} {r0 s : State} (n : Nat) (hk : Keeps k0 r0 s) : Keeps k0 r0 (State.stepPulse s n) := by
  unfold State.stepPulse
  repeat' with_reducible first
    | assumption
    | ((try lift_lets); intro x; first | (refine (fun (hx : Keeps k0 r0 x) => ?_) ?_; on_goal 1 => (try clear_value x)) | (try clear_value x))
    | apply Keeps.ite
    | apply keeps_setAct
    | apply keeps_actEnd
    | fail_if_no_progress apply Keeps.upd
    | split
    | (dsimp only [x])

theorem keeps_execStepPulse {k0 : Bool} {r0 s : State} (n : Nat) (hk : Keeps k0 r0 s) : KeepsOut k0 r0 (execStepPulse n s) := by
  unfold execStepPulse
  repeat' with_reducible first
    | assumption
    | apply KeepsOut.ite
    | apply keepsOut_done
    | apply Keeps.ite
    | apply keeps_stepTurn
    | apply keeps_stepPulse
    | apply keeps_done
    | split

theorem keeps_execSafeTimeout {k0 : Bool} {r0 s : State} (n : Nat) (hk : Keeps k0 r0 s) : KeepsOut k0 r0 (execSafeTimeout n s) := by
  unfold execSafeTimeout
  repeat' with_reducible first
    | assumption
    | ((try lift_lets); intro x; first | (refine (fun (hx : Keeps k0 r0 x) => ?_) ?_; on_goal 1 => (try clear_value x)) | (try clear_value x))
    | apply KeepsOut.ite
    | apply keepsOut_done
    | apply Keeps.ite
    | apply keeps_setAct
    | apply keeps_actEnterSafe
    | apply keeps_actFault
    | apply keeps_done
    | fail_if_no_progress apply Keeps.upd
    | split
    | (dsimp only [x])

theorem keeps_actCommand {k0 : Bool} {r0 s : State} (n : Nat) (v : Word) (hk : Keeps k0 r0 s) : Keeps k0 r0 (State.actCommand s n v) := by
  unfold State.actCommand
  repeat' with_reducible first
    | assumption
    | ((try lift_lets); intro x; first | (refine (fun (hx : Keeps k0 r0 x) => ?_) ?_; on_goal 1 => (try clear_value x)) | (try clear_value x))
    | apply keeps_setReg
    | apply keeps_setAct
    | fail_if_no_progress apply Keeps.upd
    | (dsimp only [x])

theorem keeps_execActRunWrite {k0 : Bool} {r0 s : State} (who : Init) (v : Word) (hk : Keeps k0 r0 s) : KeepsOut k0 r0 (execActRunWrite who v s) := by
  unfold execActRunWrite
  repeat' with_reducible first
    | assumption
    | apply keepsOut_done
    | (refine keeps_guardWrite _ _ _ _ (fun t ht => ?_) ?_; on_goal 1 => beta_reduce)
    | apply keeps_setReg
    | apply keeps_done

theorem keeps_actReleaseWrite {k0 : Bool} {r0 s : State} (v : Word) (hk : Keeps k0 r0 s) : Keeps k0 r0 (State.actReleaseWrite s v) := by
  unfold State.actReleaseWrite
  repeat' with_reducible first
    | assumption
    | ((try lift_lets); intro x; first | (refine (fun (hx : Keeps k0 r0 x) => ?_) ?_; on_goal 1 => (try clear_value x)) | (try clear_value x))
    | apply Keeps.ite
    | (refine keeps_forEach _ _ (fun t n ht => ?_) ?_; on_goal 1 => beta_reduce)
    | apply keeps_setAct
    | fail_if_no_progress apply Keeps.upd
    | split
    | (dsimp only [x])

theorem keeps_execActRelease {k0 : Bool} {r0 s : State} (who : Init) (v : Word) (hk : Keeps k0 r0 s) : KeepsOut k0 r0 (execActRelease who v s) := by
  unfold execActRelease
  repeat' with_reducible first
    | assumption
    | apply keepsOut_done
    | (refine keeps_guardWrite _ _ _ _ (fun t ht => ?_) ?_; on_goal 1 => beta_reduce)
    | apply keeps_actReleaseWrite
    | apply keeps_done

theorem keeps_actIgnored {k0 : Bool} {r0 s : State}  (hk : Keeps k0 r0 s) : Keeps k0 r0 (State.actIgnored s) := by
  unfold State.actIgnored
  repeat' with_reducible first
    | assumption
    | apply keeps_setRb

theorem keeps_actWrite {k0 : Bool} {r0 s : State} (n : Nat) (off : Nat) (v : Word) (hk : Keeps k0 r0 s) : Keeps k0 r0 (State.actWrite s n off v) := by
  unfold State.actWrite
  repeat' with_reducible first
    | assumption
    | ((try lift_lets); intro x; first | (refine (fun (hx : Keeps k0 r0 x) => ?_) ?_; on_goal 1 => (try clear_value x)) | (try clear_value x))
    | apply Keeps.ite
    | apply keeps_setReg
    | apply keeps_actIgnored
    | apply keeps_actCommand
    | apply keeps_setAct
    | apply keeps_clrReg
    | fail_if_no_progress apply Keeps.upd
    | split
    | (dsimp only [x])

theorem keeps_execActConfigWrite {k0 : Bool} {r0 s : State} (who : Init) (n : Nat) (off : Nat) (v : Word) (hk : Keeps k0 r0 s) : KeepsOut k0 r0 (execActConfigWrite who n off v s) := by
  unfold execActConfigWrite
  repeat' with_reducible first
    | assumption
    | ((try lift_lets); intro x; first | (refine (fun (hx : Keeps k0 r0 x) => ?_) ?_; on_goal 1 => (try clear_value x)) | (try clear_value x))
    | apply KeepsOut.ite
    | apply keepsOut_done
    | apply Keeps.ite
    | apply keeps_hit
    | (refine keeps_guardWrite _ _ _ _ (fun t ht => ?_) ?_; on_goal 1 => beta_reduce)
    | apply keeps_actWrite
    | apply keeps_done
    | split
    | (dsimp only [x])

theorem keeps_actStatWord {k0 : Bool} {r0 s : State} (n : Nat) (hk : Keeps k0 r0 s) : Keeps k0 r0 (State.actStatWord s n).2 := by
  unfold State.actStatWord
  repeat' with_reducible first
    | assumption
    | ((try lift_lets); intro x; first | (refine (fun (hx : Keeps k0 r0 x) => ?_) ?_; on_goal 1 => (try clear_value x)) | (refine (fun (hx : Keeps k0 r0 x.2) => ?_) ?_; on_goal 1 => (try clear_value x)) | (refine (fun (hx : Keeps k0 r0 x.2.2) => ?_) ?_; on_goal 1 => (try clear_value x)) | (try clear_value x))
    | apply Keeps.ite
    | apply keeps_drawNat
    | apply Keeps.ite2
    | apply Keeps.ite3
    | fail_if_no_progress apply Keeps.upd
    | split
    | (dsimp only [x])

theorem keeps_actCompare {k0 : Bool} {r0 s : State} (n : Nat) (pv : Int) (hk : Keeps k0 r0 s) : Keeps k0 r0 (State.actCompare s n pv) := by
  unfold State.actCompare
  repeat' with_reducible first
    | assumption
    | ((try lift_lets); intro x; first | (refine (fun (hx : Keeps k0 r0 x) => ?_) ?_; on_goal 1 => (try clear_value x)) | (try clear_value x))
    | apply Keeps.ite
    | apply keeps_setAct
    | apply keeps_setRb
    | apply keeps_actFault
    | apply keeps_actEntry
    | fail_if_no_progress apply Keeps.upd
    | split
    | (dsimp only [x])

theorem keeps_actFeedback {k0 : Bool} {r0 s : State} (n : Nat) (hk : Keeps k0 r0 s) : Keeps k0 r0 (State.actFeedback s n) := by
  unfold State.actFeedback
  repeat' with_reducible first
    | assumption
    | ((try lift_lets); intro x; first | (refine (fun (hx : Keeps k0 r0 x) => ?_) ?_; on_goal 1 => (try clear_value x)) | (try clear_value x))
    | apply Keeps.ite
    | apply keeps_setAct
    | apply keeps_setRb
    | apply keeps_actFault
    | apply keeps_faultClear
    | apply keeps_actCompare
    | fail_if_no_progress apply Keeps.upd
    | split
    | (dsimp only [x])

theorem keeps_actShakeSafe {k0 : Bool} {r0 s : State}  (hk : Keeps k0 r0 s) : Keeps k0 r0 (State.actShakeSafe s) := by
  unfold State.actShakeSafe
  repeat' with_reducible first
    | assumption
    | ((try lift_lets); intro x; first | (refine (fun (hx : Keeps k0 r0 x) => ?_) ?_; on_goal 1 => (try clear_value x)) | (try clear_value x))
    | apply Keeps.ite
    | (refine keeps_forEach _ _ (fun t n ht => ?_) ?_; on_goal 1 => beta_reduce)
    | apply keeps_setAct
    | apply keeps_actLatch
    | apply keeps_pwmBegin
    | fail_if_no_progress apply Keeps.upd
    | split
    | (dsimp only [x])

theorem keeps_actMirror {k0 : Bool} {r0 s : State} (m : ActMirror) (hk : Keeps k0 r0 s) : Keeps k0 r0 (State.actMirror s m) := by
  unfold State.actMirror
  repeat' with_reducible first
    | assumption
    | ((try lift_lets); intro x; first | (refine (fun (hx : Keeps k0 r0 x) => ?_) ?_; on_goal 1 => (try clear_value x)) | (try clear_value x))
    | apply Keeps.ite
    | apply keeps_setReg
    | apply keeps_setAct
    | fail_if_no_progress apply Keeps.upd
    | split
    | (dsimp only [x])

theorem keeps_actTakeover {k0 : Bool} {r0 s : State}  (hk : Keeps k0 r0 s) : Keeps k0 r0 (State.actTakeover s) := by
  unfold State.actTakeover
  repeat' with_reducible first
    | assumption
    | ((try lift_lets); intro x; first | (refine (fun (hx : Keeps k0 r0 x) => ?_) ?_; on_goal 1 => (try clear_value x)) | (try clear_value x))
    | apply Keeps.ite
    | (refine keeps_forEach _ _ (fun t n ht => ?_) ?_; on_goal 1 => beta_reduce)
    | apply keeps_pwmBegin
    | apply keeps_setRb
    | apply keeps_setAct
    | apply keeps_actFault
    | fail_if_no_progress apply Keeps.upd
    | split
    | (dsimp only [x])

theorem keeps_actChill {k0 : Bool} {r0 s : State}  (hk : Keeps k0 r0 s) : Keeps k0 r0 (State.actChill s) := by
  unfold State.actChill
  repeat' with_reducible first
    | assumption
    | ((try lift_lets); intro x; first | (refine (fun (hx : Keeps k0 r0 x) => ?_) ?_; on_goal 1 => (try clear_value x)) | (try clear_value x))
    | apply Keeps.ite
    | (refine keeps_forEach _ _ (fun t n ht => ?_) ?_; on_goal 1 => beta_reduce)
    | apply keeps_actHold
    | apply keeps_stepCancel
    | apply keeps_setAct
    | fail_if_no_progress apply Keeps.upd
    | split
    | (dsimp only [x])

theorem keeps_setFan {k0 : Bool} {r0 s : State} (f : Nat) (v : FanCh) (hk : Keeps k0 r0 s) : Keeps k0 r0 (State.setFan s f v) := by
  unfold State.setFan
  repeat' with_reducible first
    | assumption
    | ((try lift_lets); intro x; first | (refine (fun (hx : Keeps k0 r0 x) => ?_) ?_; on_goal 1 => (try clear_value x)) | (try clear_value x))
    | fail_if_no_progress apply Keeps.upd
    | (dsimp only [x])

theorem keeps_fanEntry {k0 : Bool} {r0 s : State} (b0 : Nat) (kind : Nat) (cause : Nat) (n : Nat) (hk : Keeps k0 r0 s) : Keeps k0 r0 (State.fanEntry s b0 kind cause n) := by
  unfold State.fanEntry
  repeat' with_reducible first
    | assumption
    | apply keeps_ringOffer

theorem keeps_fanDrive {k0 : Bool} {r0 s : State} (f : Nat) (d : Nat) (hk : Keeps k0 r0 s) : Keeps k0 r0 (State.fanDrive s f d) := by
  unfold State.fanDrive
  repeat' with_reducible first
    | assumption
    | ((try lift_lets); intro x; first | (refine (fun (hx : Keeps k0 r0 x) => ?_) ?_; on_goal 1 => (try clear_value x)) | (try clear_value x))
    | apply keeps_setFan
    | fail_if_no_progress apply Keeps.upd
    | (dsimp only [x])

theorem keeps_fanPeriodNew {k0 : Bool} {r0 s : State} (f : Nat) (hk : Keeps k0 r0 s) : Keeps k0 r0 (State.fanPeriodNew s f) := by
  unfold State.fanPeriodNew
  repeat' with_reducible first
    | assumption
    | apply keeps_fanDrive

theorem keeps_fanEnter {k0 : Bool} {r0 s : State} (f : Nat) (st : Nat) (hk : Keeps k0 r0 s) : Keeps k0 r0 (State.fanEnter s f st) := by
  unfold State.fanEnter
  repeat' with_reducible first
    | assumption
    | ((try lift_lets); intro x; first | (refine (fun (hx : Keeps k0 r0 x) => ?_) ?_; on_goal 1 => (try clear_value x)) | (try clear_value x))
    | apply Keeps.ite
    | apply keeps_setFan
    | apply keeps_setRb
    | apply keeps_fanPeriodNew
    | fail_if_no_progress apply Keeps.upd
    | split
    | (dsimp only [x])

theorem keeps_fanStart {k0 : Bool} {r0 s : State} (f : Nat) (restart : Bool) (hk : Keeps k0 r0 s) : Keeps k0 r0 (State.fanStart s f restart) := by
  unfold State.fanStart
  repeat' with_reducible first
    | assumption
    | ((try lift_lets); intro x; first | (refine (fun (hx : Keeps k0 r0 x) => ?_) ?_; on_goal 1 => (try clear_value x)) | (try clear_value x))
    | apply keeps_fanEnter
    | apply keeps_setFan
    | fail_if_no_progress apply Keeps.upd
    | (dsimp only [x])

theorem keeps_fanFail {k0 : Bool} {r0 s : State} (f : Nat) (cause : Nat) (hk : Keeps k0 r0 s) : Keeps k0 r0 (State.fanFail s f cause) := by
  unfold State.fanFail
  repeat' with_reducible first
    | assumption
    | ((try lift_lets); intro x; first | (refine (fun (hx : Keeps k0 r0 x) => ?_) ?_; on_goal 1 => (try clear_value x)) | (try clear_value x))
    | apply Keeps.ite
    | apply keeps_fanEnter
    | apply keeps_setFan
    | apply keeps_fire
    | apply keeps_fanEntry
    | apply keeps_setRb
    | apply keeps_fault
    | fail_if_no_progress apply Keeps.upd
    | split
    | (dsimp only [x])

theorem keeps_fanUnverified {k0 : Bool} {r0 s : State} (f : Nat) (hk : Keeps k0 r0 s) : Keeps k0 r0 (State.fanUnverified s f) := by
  unfold State.fanUnverified
  repeat' with_reducible first
    | assumption
    | apply keeps_fanEnter
    | apply keeps_fire
    | apply keeps_fanEntry
    | apply keeps_fault

theorem keeps_fanTachLost {k0 : Bool} {r0 s : State} (f : Nat) (hk : Keeps k0 r0 s) : Keeps k0 r0 (State.fanTachLost s f) := by
  unfold State.fanTachLost
  repeat' with_reducible first
    | assumption
    | apply keeps_fanEnter
    | apply keeps_fire
    | apply keeps_fanEntry
    | apply keeps_fault

theorem keeps_fanSilent {k0 : Bool} {r0 s : State} (f : Nat) (hk : Keeps k0 r0 s) : Keeps k0 r0 (State.fanSilent s f) := by
  unfold State.fanSilent
  repeat' with_reducible first
    | assumption
    | ((try lift_lets); intro x; first | (refine (fun (hx : Keeps k0 r0 x) => ?_) ?_; on_goal 1 => (try clear_value x)) | (try clear_value x))
    | apply Keeps.ite
    | apply keeps_fanFail
    | apply keeps_fanTachLost
    | apply keeps_fanUnverified
    | apply keeps_fanEnter
    | apply keeps_setFan
    | fail_if_no_progress apply Keeps.upd
    | split
    | (dsimp only [x])

theorem keeps_fanStates {k0 : Bool} {r0 s : State} (f : Nat) (hk : Keeps k0 r0 s) : Keeps k0 r0 (State.fanStates s f) := by
  unfold State.fanStates
  repeat' with_reducible first
    | assumption
    | ((try lift_lets); intro x; first | (refine (fun (hx : Keeps k0 r0 x) => ?_) ?_; on_goal 1 => (try clear_value x)) | (try clear_value x))
    | apply Keeps.ite
    | apply keeps_fanStart
    | apply keeps_fanEnter
    | split
    | (dsimp only [x])

theorem keeps_fanSlew {k0 : Bool} {r0 s : State} (f : Nat) (hk : Keeps k0 r0 s) : Keeps k0 r0 (State.fanSlew s f) := by
  unfold State.fanSlew
  repeat' with_reducible first
    | assumption
    | ((try lift_lets); intro x; first | (refine (fun (hx : Keeps k0 r0 x) => ?_) ?_; on_goal 1 => (try clear_value x)) | (try clear_value x))
    | apply Keeps.ite
    | apply keeps_setFan
    | fail_if_no_progress apply Keeps.upd
    | split
    | (dsimp only [x])

theorem keeps_fanTick {k0 : Bool} {r0 s : State} (f : Nat) (hk : Keeps k0 r0 s) : Keeps k0 r0 (State.fanTick s f) := by
  unfold State.fanTick
  repeat' with_reducible first
    | assumption
    | ((try lift_lets); intro x; first | (refine (fun (hx : Keeps k0 r0 x) => ?_) ?_; on_goal 1 => (try clear_value x)) | (try clear_value x))
    | apply Keeps.ite
    | apply keeps_fanSlew
    | apply keeps_fanStates
    | apply keeps_setFan
    | apply keeps_incSat
    | apply keeps_runtimeCount
    | fail_if_no_progress apply Keeps.upd
    | split
    | (dsimp only [x])

theorem keeps_fanTicks {k0 : Bool} {r0 s : State}  (hk : Keeps k0 r0 s) : Keeps k0 r0 (State.fanTicks s) := by
  unfold State.fanTicks
  repeat' with_reducible first
    | assumption
    | apply Keeps.ite
    | (refine keeps_forEach _ _ (fun t n ht => ?_) ?_; on_goal 1 => beta_reduce)
    | apply keeps_fanTick
    | split

theorem keeps_execFanPeriod {k0 : Bool} {r0 s : State} (f : Nat) (hk : Keeps k0 r0 s) : KeepsOut k0 r0 (execFanPeriod f s) := by
  unfold execFanPeriod
  repeat' with_reducible first
    | assumption
    | apply KeepsOut.ite
    | apply keepsOut_done
    | apply Keeps.ite
    | apply keeps_fanPeriodNew
    | apply keeps_done
    | split

theorem keeps_execStretchWindowOpen {k0 : Bool} {r0 s : State} (f : Nat) (hk : Keeps k0 r0 s) : KeepsOut k0 r0 (execStretchWindowOpen f s) := by
  unfold execStretchWindowOpen
  repeat' with_reducible first
    | assumption
    | ((try lift_lets); intro x; first | (refine (fun (hx : Keeps k0 r0 x) => ?_) ?_; on_goal 1 => (try clear_value x)) | (try clear_value x))
    | apply KeepsOut.ite
    | apply keepsOut_done
    | apply Keeps.ite
    | apply keeps_setFan
    | apply keeps_fanDrive
    | apply keeps_done
    | fail_if_no_progress apply Keeps.upd
    | split
    | (dsimp only [x])

theorem keeps_fanRunIf {k0 : Bool} {r0 s : State} (f : Nat) (hk : Keeps k0 r0 s) : Keeps k0 r0 (State.fanRunIf s f) := by
  unfold State.fanRunIf
  repeat' with_reducible first
    | assumption
    | ((try lift_lets); intro x; first | (refine (fun (hx : Keeps k0 r0 x) => ?_) ?_; on_goal 1 => (try clear_value x)) | (try clear_value x))
    | apply Keeps.ite
    | apply keeps_fanEnter
    | split
    | (dsimp only [x])

theorem keeps_execTachEdge {k0 : Bool} {r0 s : State} (f : Nat) (cycle : Nat) (hk : Keeps k0 r0 s) : KeepsOut k0 r0 (execTachEdge f cycle s) := by
  unfold execTachEdge
  repeat' with_reducible first
    | assumption
    | ((try lift_lets); intro x; first | (refine (fun (hx : Keeps k0 r0 x) => ?_) ?_; on_goal 1 => (try clear_value x)) | (try clear_value x))
    | apply KeepsOut.ite
    | apply keepsOut_done
    | apply Keeps.ite
    | apply keeps_setFan
    | apply keeps_fanRunIf
    | apply keeps_done
    | fail_if_no_progress apply Keeps.upd
    | split
    | (dsimp only [x])

theorem keeps_fanValid {k0 : Bool} {r0 s : State} (f : Nat) (hk : Keeps k0 r0 s) : Keeps k0 r0 (State.fanValid s f) := by
  unfold State.fanValid
  repeat' with_reducible first
    | assumption
    | ((try lift_lets); intro x; first | (refine (fun (hx : Keeps k0 r0 x) => ?_) ?_; on_goal 1 => (try clear_value x)) | (try clear_value x))
    | apply Keeps.ite
    | apply keeps_setReg
    | apply keeps_setFan
    | apply keeps_fanPeriodNew
    | apply keeps_fire
    | apply keeps_vpvWrite
    | apply keeps_fanEnter
    | apply keeps_fanEntry
    | fail_if_no_progress apply Keeps.upd
    | split
    | (dsimp only [x])

theorem keeps_execStretchWindowClose {k0 : Bool} {r0 s : State} (f : Nat) (hk : Keeps k0 r0 s) : KeepsOut k0 r0 (execStretchWindowClose f s) := by
  unfold execStretchWindowClose
  repeat' with_reducible first
    | assumption
    | ((try lift_lets); intro x; first | (refine (fun (hx : Keeps k0 r0 x) => ?_) ?_; on_goal 1 => (try clear_value x)) | (try clear_value x))
    | apply KeepsOut.ite
    | apply keepsOut_done
    | apply Keeps.ite
    | apply keeps_fanValid
    | apply keeps_setFan
    | apply keeps_setRf
    | apply keeps_fanPeriodNew
    | apply keeps_fanSilent
    | apply keeps_done
    | fail_if_no_progress apply Keeps.upd
    | split
    | (dsimp only [x])

theorem keeps_execFanKickEnd {k0 : Bool} {r0 s : State} (f : Nat) (hk : Keeps k0 r0 s) : KeepsOut k0 r0 (execFanKickEnd f s) := by
  unfold execFanKickEnd
  repeat' with_reducible first
    | assumption
    | apply KeepsOut.ite
    | apply keepsOut_done
    | apply Keeps.ite
    | apply keeps_fanRunIf
    | apply keeps_done
    | split

theorem keeps_execStartTimeout {k0 : Bool} {r0 s : State} (f : Nat) (hk : Keeps k0 r0 s) : KeepsOut k0 r0 (execStartTimeout f s) := by
  unfold execStartTimeout
  repeat' with_reducible first
    | assumption
    | ((try lift_lets); intro x; first | (refine (fun (hx : Keeps k0 r0 x) => ?_) ?_; on_goal 1 => (try clear_value x)) | (try clear_value x))
    | apply KeepsOut.ite
    | apply keepsOut_done
    | apply Keeps.ite
    | apply keeps_fanFail
    | apply keeps_fanUnverified
    | apply keeps_done
    | split
    | (dsimp only [x])

theorem keeps_fanAgain {k0 : Bool} {r0 s : State} (f : Nat) (restart : Bool) (hk : Keeps k0 r0 s) : Keeps k0 r0 (State.fanAgain s f restart) := by
  unfold State.fanAgain
  repeat' with_reducible first
    | assumption
    | apply Keeps.ite
    | apply keeps_fanStart
    | apply keeps_fanEnter
    | split

theorem keeps_execFanWaitEnd {k0 : Bool} {r0 s : State} (f : Nat) (hk : Keeps k0 r0 s) : KeepsOut k0 r0 (execFanWaitEnd f s) := by
  unfold execFanWaitEnd
  repeat' with_reducible first
    | assumption
    | ((try lift_lets); intro x; first | (refine (fun (hx : Keeps k0 r0 x) => ?_) ?_; on_goal 1 => (try clear_value x)) | (try clear_value x))
    | apply KeepsOut.ite
    | apply keepsOut_done
    | apply Keeps.ite
    | apply keeps_fanAgain
    | apply keeps_done
    | split
    | (dsimp only [x])

theorem keeps_execFanRestartEnd {k0 : Bool} {r0 s : State} (f : Nat) (hk : Keeps k0 r0 s) : KeepsOut k0 r0 (execFanRestartEnd f s) := by
  unfold execFanRestartEnd
  repeat' with_reducible first
    | assumption
    | ((try lift_lets); intro x; first | (refine (fun (hx : Keeps k0 r0 x) => ?_) ?_; on_goal 1 => (try clear_value x)) | (try clear_value x))
    | apply KeepsOut.ite
    | apply keepsOut_done
    | apply Keeps.ite
    | apply keeps_fanStart
    | apply keeps_done
    | split
    | (dsimp only [x])

theorem keeps_execFanRetryReset {k0 : Bool} {r0 s : State} (f : Nat) (hk : Keeps k0 r0 s) : KeepsOut k0 r0 (execFanRetryReset f s) := by
  unfold execFanRetryReset
  repeat' with_reducible first
    | assumption
    | ((try lift_lets); intro x; first | (refine (fun (hx : Keeps k0 r0 x) => ?_) ?_; on_goal 1 => (try clear_value x)) | (try clear_value x))
    | apply KeepsOut.ite
    | apply keepsOut_done
    | apply Keeps.ite
    | apply keeps_setFan
    | apply keeps_done
    | fail_if_no_progress apply Keeps.upd
    | split
    | (dsimp only [x])

theorem keeps_fanClear1 {k0 : Bool} {r0 s : State} (f : Nat) (hk : Keeps k0 r0 s) : Keeps k0 r0 (State.fanClear1 s f) := by
  unfold State.fanClear1
  repeat' with_reducible first
    | assumption
    | ((try lift_lets); intro x; first | (refine (fun (hx : Keeps k0 r0 x) => ?_) ?_; on_goal 1 => (try clear_value x)) | (try clear_value x))
    | apply Keeps.ite
    | apply keeps_fanEnter
    | apply keeps_setRb
    | apply keeps_setFan
    | fail_if_no_progress apply Keeps.upd
    | split
    | (dsimp only [x])

theorem keeps_fanClrWrite {k0 : Bool} {r0 s : State} (v : Word) (hk : Keeps k0 r0 s) : Keeps k0 r0 (State.fanClrWrite s v) := by
  unfold State.fanClrWrite
  repeat' with_reducible first
    | assumption
    | (refine keeps_forEach _ _ (fun t n ht => ?_) ?_; on_goal 1 => beta_reduce)
    | apply keeps_fanClear1

theorem keeps_execFanClr {k0 : Bool} {r0 s : State} (who : Init) (v : Word) (hk : Keeps k0 r0 s) : KeepsOut k0 r0 (execFanClr who v s) := by
  unfold execFanClr
  repeat' with_reducible first
    | assumption
    | apply keepsOut_done
    | (refine keeps_guardWrite _ _ _ _ (fun t ht => ?_) ?_; on_goal 1 => beta_reduce)
    | apply keeps_fanClrWrite
    | apply keeps_done

theorem keeps_fanCurrent {k0 : Bool} {r0 s : State} (f : Nat) (hk : Keeps k0 r0 s) : Keeps k0 r0 (State.fanCurrent s f) := by
  unfold State.fanCurrent
  repeat' with_reducible first
    | assumption
    | ((try lift_lets); intro x; first | (refine (fun (hx : Keeps k0 r0 x) => ?_) ?_; on_goal 1 => (try clear_value x)) | (try clear_value x))
    | apply Keeps.ite
    | apply keeps_setFan
    | apply keeps_fanFail
    | fail_if_no_progress apply Keeps.upd
    | split
    | (dsimp only [x])

theorem keeps_fanCurrents {k0 : Bool} {r0 s : State}  (hk : Keeps k0 r0 s) : Keeps k0 r0 (State.fanCurrents s) := by
  unfold State.fanCurrents
  repeat' with_reducible first
    | assumption
    | apply Keeps.ite
    | (refine keeps_forEach _ _ (fun t n ht => ?_) ?_; on_goal 1 => beta_reduce)
    | apply keeps_fanCurrent
    | split

theorem keeps_fanRefreshWrite {k0 : Bool} {r0 s : State}  (hk : Keeps k0 r0 s) : Keeps k0 r0 (State.fanRefreshWrite s) := by
  unfold State.fanRefreshWrite
  repeat' with_reducible first
    | assumption
    | ((try lift_lets); intro x; first | (refine (fun (hx : Keeps k0 r0 x) => ?_) ?_; on_goal 1 => (try clear_value x)) | (try clear_value x))
    | apply Keeps.ite
    | fail_if_no_progress apply Keeps.upd
    | split
    | (dsimp only [x])

theorem keeps_execFanRefresh {k0 : Bool} {r0 s : State} (who : Init) (hk : Keeps k0 r0 s) : KeepsOut k0 r0 (execFanRefresh who s) := by
  unfold execFanRefresh
  repeat' with_reducible first
    | assumption
    | apply keepsOut_done
    | (refine keeps_guardWrite _ _ _ _ (fun t ht => ?_) ?_; on_goal 1 => beta_reduce)
    | apply keeps_fanRefreshWrite
    | apply keeps_done

theorem keeps_fanAutoEnter {k0 : Bool} {r0 s : State} (cause : Nat) (hk : Keeps k0 r0 s) : Keeps k0 r0 (State.fanAutoEnter s cause) := by
  unfold State.fanAutoEnter
  repeat' with_reducible first
    | assumption
    | ((try lift_lets); intro x; first | (refine (fun (hx : Keeps k0 r0 x) => ?_) ?_; on_goal 1 => (try clear_value x)) | (try clear_value x))
    | (refine keeps_forEach _ _ (fun t n ht => ?_) ?_; on_goal 1 => beta_reduce)
    | apply keeps_setFan
    | apply keeps_setRb
    | apply keeps_setRf
    | apply keeps_fire
    | apply keeps_fault
    | apply keeps_fanEntry
    | fail_if_no_progress apply Keeps.upd
    | (dsimp only [x])

theorem keeps_execFanAuto {k0 : Bool} {r0 s : State}  (hk : Keeps k0 r0 s) : KeepsOut k0 r0 (execFanAuto s) := by
  unfold execFanAuto
  repeat' with_reducible first
    | assumption
    | apply KeepsOut.ite
    | apply keepsOut_done
    | apply Keeps.ite
    | apply keeps_fanAutoEnter
    | apply keeps_done
    | split

theorem keeps_fanAutoExitWrite {k0 : Bool} {r0 s : State} (v : Word) (hk : Keeps k0 r0 s) : Keeps k0 r0 (State.fanAutoExitWrite s v) := by
  unfold State.fanAutoExitWrite
  repeat' with_reducible first
    | assumption
    | ((try lift_lets); intro x; first | (refine (fun (hx : Keeps k0 r0 x) => ?_) ?_; on_goal 1 => (try clear_value x)) | (try clear_value x))
    | apply Keeps.ite
    | apply keeps_setRb
    | apply keeps_fire
    | (refine keeps_forEach _ _ (fun t n ht => ?_) ?_; on_goal 1 => beta_reduce)
    | apply keeps_setFan
    | apply keeps_fanEntry
    | apply keeps_happen
    | fail_if_no_progress apply Keeps.upd
    | split
    | (dsimp only [x])

theorem keeps_execFanAutoExit {k0 : Bool} {r0 s : State} (who : Init) (v : Word) (hk : Keeps k0 r0 s) : KeepsOut k0 r0 (execFanAutoExit who v s) := by
  unfold execFanAutoExit
  repeat' with_reducible first
    | assumption
    | apply keepsOut_done
    | (refine keeps_guardWrite _ _ _ _ (fun t ht => ?_) ?_; on_goal 1 => beta_reduce)
    | apply keeps_fanAutoExitWrite
    | apply keeps_done

theorem keeps_fanSensor {k0 : Bool} {r0 s : State} (f : Nat) (buddy : Bool) (hk : Keeps k0 r0 s) : Keeps k0 r0 (State.fanSensor s f buddy) := by
  unfold State.fanSensor
  repeat' with_reducible first
    | assumption
    | ((try lift_lets); intro x; first | (refine (fun (hx : Keeps k0 r0 x) => ?_) ?_; on_goal 1 => (try clear_value x)) | (try clear_value x))
    | apply keeps_setFan
    | apply keeps_fault
    | fail_if_no_progress apply Keeps.upd
    | (dsimp only [x])

theorem keeps_fanPrimary {k0 : Bool} {r0 s : State} (f : Nat) (c : Nat) (y : Int) (hk : Keeps k0 r0 s) : Keeps k0 r0 (State.fanPrimary s f c y) := by
  unfold State.fanPrimary
  repeat' with_reducible first
    | assumption
    | ((try lift_lets); intro x; first | (refine (fun (hx : Keeps k0 r0 x) => ?_) ?_; on_goal 1 => (try clear_value x)) | (try clear_value x))
    | apply Keeps.ite
    | apply keeps_setFan
    | apply keeps_fanSensor
    | fail_if_no_progress apply Keeps.upd
    | split
    | (dsimp only [x])

theorem keeps_setShdnIn {k0 : Bool} {r0 s : State} (j : Nat) (v : ShdnIn) (hk : Keeps k0 r0 s) : Keeps k0 r0 (State.setShdnIn s j v) := by
  unfold State.setShdnIn
  repeat' with_reducible first
    | assumption
    | ((try lift_lets); intro x; first | (refine (fun (hx : Keeps k0 r0 x) => ?_) ?_; on_goal 1 => (try clear_value x)) | (try clear_value x))
    | fail_if_no_progress apply Keeps.upd
    | (dsimp only [x])

theorem keeps_shdnAssert {k0 : Bool} {r0 s : State} (j : Nat) (sensor : Bool) (hk : Keeps k0 r0 s) : Keeps k0 r0 (State.shdnAssert s j sensor) := by
  unfold State.shdnAssert
  repeat' with_reducible first
    | assumption
    | ((try lift_lets); intro x; first | (refine (fun (hx : Keeps k0 r0 x) => ?_) ?_; on_goal 1 => (try clear_value x)) | (try clear_value x))
    | apply Keeps.ite
    | apply keeps_setRb
    | apply keeps_fire
    | apply keeps_fault
    | apply keeps_fanEntry
    | fail_if_no_progress apply Keeps.upd
    | split
    | (dsimp only [x])

theorem keeps_shdnConv {k0 : Bool} {r0 s : State} (j : Nat) (c : Nat) (y : Int) (hk : Keeps k0 r0 s) : Keeps k0 r0 (State.shdnConv s j c y) := by
  unfold State.shdnConv
  repeat' with_reducible first
    | assumption
    | ((try lift_lets); intro x; first | (refine (fun (hx : Keeps k0 r0 x) => ?_) ?_; on_goal 1 => (try clear_value x)) | (try clear_value x))
    | apply Keeps.ite
    | apply keeps_setShdnIn
    | apply keeps_shdnAssert
    | split
    | (dsimp only [x])

theorem keeps_fanConversion {k0 : Bool} {r0 s : State} (c : Nat) (y : Int) (hk : Keeps k0 r0 s) : Keeps k0 r0 (State.fanConversion s c y) := by
  unfold State.fanConversion
  repeat' with_reducible first
    | assumption
    | ((try lift_lets); intro x; first | (refine (fun (hx : Keeps k0 r0 x) => ?_) ?_; on_goal 1 => (try clear_value x)) | (try clear_value x))
    | (refine keeps_forEach _ _ (fun t n ht => ?_) ?_; on_goal 1 => beta_reduce)
    | apply keeps_fanPrimary
    | apply keeps_shdnConv
    | (dsimp only [x])

theorem keeps_execShdnSensor {k0 : Bool} {r0 s : State} (j : Nat) (hk : Keeps k0 r0 s) : KeepsOut k0 r0 (execShdnSensor j s) := by
  unfold execShdnSensor
  repeat' with_reducible first
    | assumption
    | ((try lift_lets); intro x; first | (refine (fun (hx : Keeps k0 r0 x) => ?_) ?_; on_goal 1 => (try clear_value x)) | (try clear_value x))
    | apply KeepsOut.ite
    | apply keepsOut_done
    | apply Keeps.ite
    | apply keeps_shdnAssert
    | apply keeps_done
    | fail_if_no_progress apply Keeps.upd
    | split
    | (dsimp only [x])

theorem keeps_execShdnRelease {k0 : Bool} {r0 s : State}  (hk : Keeps k0 r0 s) : KeepsOut k0 r0 (execShdnRelease s) := by
  unfold execShdnRelease
  repeat' with_reducible first
    | assumption
    | ((try lift_lets); intro x; first | (refine (fun (hx : Keeps k0 r0 x) => ?_) ?_; on_goal 1 => (try clear_value x)) | (try clear_value x))
    | apply KeepsOut.ite
    | apply keepsOut_done
    | apply Keeps.ite
    | apply keeps_setRb
    | apply keeps_fire
    | apply keeps_fanEntry
    | apply keeps_happen
    | apply keeps_done
    | fail_if_no_progress apply Keeps.upd
    | split
    | (dsimp only [x])

theorem keeps_shdnDoLock {k0 : Bool} {r0 s : State}  (hk : Keeps k0 r0 s) : Keeps k0 r0 (State.shdnDoLock s) := by
  unfold State.shdnDoLock
  repeat' with_reducible first
    | assumption
    | ((try lift_lets); intro x; first | (refine (fun (hx : Keeps k0 r0 x) => ?_) ?_; on_goal 1 => (try clear_value x)) | (try clear_value x))
    | apply Keeps.ite
    | apply keeps_setRb
    | apply keeps_fault
    | split
    | (dsimp only [x])

theorem keeps_execShdnLock {k0 : Bool} {r0 s : State} (who : Init) (hk : Keeps k0 r0 s) : KeepsOut k0 r0 (execShdnLock who s) := by
  unfold execShdnLock
  repeat' with_reducible first
    | assumption
    | apply keepsOut_done
    | (refine keeps_guardWrite _ _ _ _ (fun t ht => ?_) ?_; on_goal 1 => beta_reduce)
    | apply keeps_shdnDoLock
    | apply keeps_done

theorem keeps_shdnSelWrite {k0 : Bool} {r0 s : State} (v : Word) (hk : Keeps k0 r0 s) : Keeps k0 r0 (State.shdnSelWrite s v) := by
  unfold State.shdnSelWrite
  repeat' with_reducible first
    | assumption
    | ((try lift_lets); intro x; first | (refine (fun (hx : Keeps k0 r0 x) => ?_) ?_; on_goal 1 => (try clear_value x)) | (try clear_value x))
    | apply Keeps.ite
    | (refine keeps_forEach _ _ (fun t n ht => ?_) ?_; on_goal 1 => beta_reduce)
    | apply keeps_setShdnIn
    | apply keeps_setReg
    | split
    | (dsimp only [x])

theorem keeps_fanWrite {k0 : Bool} {r0 s : State} (f : Nat) (off : Nat) (v : Word) (hk : Keeps k0 r0 s) : Keeps k0 r0 (State.fanWrite s f off v) := by
  unfold State.fanWrite
  repeat' with_reducible first
    | assumption
    | ((try lift_lets); intro x; first | (refine (fun (hx : Keeps k0 r0 x) => ?_) ?_; on_goal 1 => (try clear_value x)) | (try clear_value x))
    | apply Keeps.ite
    | apply keeps_setRb
    | apply keeps_setReg
    | fail_if_no_progress apply Keeps.upd
    | split
    | (dsimp only [x])

theorem keeps_execFanConfigWrite {k0 : Bool} {r0 s : State} (who : Init) (f : Nat) (off : Nat) (v : Word) (hk : Keeps k0 r0 s) : KeepsOut k0 r0 (execFanConfigWrite who f off v s) := by
  unfold execFanConfigWrite
  repeat' with_reducible first
    | assumption
    | ((try lift_lets); intro x; first | (refine (fun (hx : Keeps k0 r0 x) => ?_) ?_; on_goal 1 => (try clear_value x)) | (try clear_value x))
    | apply KeepsOut.ite
    | apply keepsOut_done
    | apply Keeps.ite
    | apply keeps_hit
    | (refine keeps_guardWrite _ _ _ _ (fun t ht => ?_) ?_; on_goal 1 => beta_reduce)
    | apply keeps_fanWrite
    | apply keeps_done
    | split
    | (dsimp only [x])

theorem keeps_mirrorSend {k0 : Bool} {r0 s : State} (seq : Bool) (hk : Keeps k0 r0 s) : Keeps k0 r0 (State.mirrorSend s seq) := by
  unfold State.mirrorSend
  repeat' with_reducible first
    | assumption
    | apply Keeps.ite
    | apply keeps_sendToken
    | split

theorem keeps_seqSend {k0 : Bool} {r0 s : State}  (hk : Keeps k0 r0 s) : Keeps k0 r0 (State.seqSend s) := by
  unfold State.seqSend
  repeat' with_reducible first
    | assumption
    | apply keeps_sendToken

theorem keeps_fanMirror {k0 : Bool} {r0 s : State} (m : FanMirror) (hk : Keeps k0 r0 s) : Keeps k0 r0 (State.fanMirror s m) := by
  unfold State.fanMirror
  repeat' with_reducible first
    | assumption
    | ((try lift_lets); intro x; first | (refine (fun (hx : Keeps k0 r0 x) => ?_) ?_; on_goal 1 => (try clear_value x)) | (try clear_value x))
    | apply Keeps.ite
    | apply keeps_setReg
    | apply keeps_setFan
    | fail_if_no_progress apply Keeps.upd
    | split
    | (dsimp only [x])

end Sys2Proof.Machine
end

