-- ==== Sys2Proof/Laws/KeepsB.lean ====
section
/-! SUPPORT. What no command does, continued from Laws/Keeps: CEN, ZON, KPD, EVT, SBUS, resets, TBO, NET and LDL. -/

set_option linter.unreachableTactic false
set_option linter.unusedTactic false

namespace Sys2Proof.Machine

theorem keeps_slotOff {k0 : Bool} {r0 s : State} (n : Nat) (hk : Keeps k0 r0 s) : Keeps k0 r0 (State.slotOff s n) := by
  unfold State.slotOff
  repeat' with_reducible first
    | assumption
    | apply Keeps.ite
    | apply keeps_setWord
    | split

theorem keeps_setFrame {k0 : Bool} {r0 s : State} (k : Nat) (f : FrameSt) (hk : Keeps k0 r0 s) : Keeps k0 r0 (State.setFrame s k f) := by
  unfold State.setFrame
  repeat' with_reducible first
    | assumption
    | ((try lift_lets); intro x; first | (refine (fun (hx : Keeps k0 r0 x) => ?_) ?_; on_goal 1 => (try clear_value x)) | (try clear_value x))
    | fail_if_no_progress apply Keeps.upd
    | (dsimp only [x])

theorem keeps_setSstat {k0 : Bool} {r0 s : State} (n : Nat) (i : Nat) (b : Bool) (hk : Keeps k0 r0 s) : Keeps k0 r0 (State.setSstat s n i b) := by
  unfold State.setSstat
  repeat' with_reducible first
    | assumption
    | apply keeps_setWord

theorem keeps_cenFault {k0 : Bool} {r0 s : State} (code : Nat) (param : Nat) (hk : Keeps k0 r0 s) : Keeps k0 r0 (State.cenFault s code param) := by
  unfold State.cenFault
  repeat' with_reducible first
    | assumption
    | apply keeps_fault
    | apply keeps_fire

theorem keeps_fanLeaveChill {k0 : Bool} {r0 s : State} (f : Nat) (hk : Keeps k0 r0 s) : Keeps k0 r0 (State.fanLeaveChill s f) := by
  unfold State.fanLeaveChill
  repeat' with_reducible first
    | assumption
    | ((try lift_lets); intro x; first | (refine (fun (hx : Keeps k0 r0 x) => ?_) ?_; on_goal 1 => (try clear_value x)) | (try clear_value x))
    | apply Keeps.ite
    | apply keeps_setFan
    | fail_if_no_progress apply Keeps.upd
    | split
    | (dsimp only [x])

theorem keeps_deliver {k0 : Bool} {r0 s : State} (d : Dest) (f : Nat) (u : Word) (hk : Keeps k0 r0 s) : Keeps k0 r0 (State.deliver s d f u) := by
  unfold State.deliver
  repeat' with_reducible first
    | assumption
    | ((try lift_lets); intro x; first | (refine (fun (hx : Keeps k0 r0 x) => ?_) ?_; on_goal 1 => (try clear_value x)) | (try clear_value x))
    | apply Keeps.ite
    | apply keeps_actCommand
    | apply keeps_setRb
    | apply keeps_setReg
    | apply keeps_fanLeaveChill
    | fail_if_no_progress apply Keeps.upd
    | split
    | (dsimp only [x])

theorem keeps_slotPut {k0 : Bool} {r0 s : State} (n : Nat) (off : Nat) (v : Int) (hk : Keeps k0 r0 s) : Keeps k0 r0 (State.slotPut s n off v) := by
  unfold State.slotPut
  repeat' with_reducible first
    | assumption
    | apply keeps_setSword

theorem keeps_writeSlot {k0 : Bool} {r0 s : State} (n : Nat) (a : EvalInput) (r : EvalResult) (bad : Bool) (hk : Keeps k0 r0 s) : Keeps k0 r0 (State.writeSlot s n a r bad) := by
  unfold State.writeSlot
  repeat' with_reducible first
    | assumption
    | ((try lift_lets); intro x; first | (refine (fun (hx : Keeps k0 r0 x) => ?_) ?_; on_goal 1 => (try clear_value x)) | (try clear_value x))
    | apply Keeps.ite
    | apply keeps_slotPut
    | apply keeps_setWord
    | split
    | (dsimp only [x])

theorem keeps_badRef {k0 : Bool} {r0 s : State} (n : Nat) (bad : Bool) (hk : Keeps k0 r0 s) : Keeps k0 r0 (State.badRef s n bad) := by
  unfold State.badRef
  repeat' with_reducible first
    | assumption
    | ((try lift_lets); intro x; first | (refine (fun (hx : Keeps k0 r0 x) => ?_) ?_; on_goal 1 => (try clear_value x)) | (try clear_value x))
    | apply Keeps.ite
    | apply keeps_setRb
    | apply keeps_cenFault
    | fail_if_no_progress apply Keeps.upd
    | split
    | (dsimp only [x])

theorem keeps_commitSlot {k0 : Bool} {r0 s : State} (n : Nat) (dest : Word) (hk : Keeps k0 r0 s) : Keeps k0 r0 (State.commitSlot s n dest) := by
  unfold State.commitSlot
  repeat' with_reducible first
    | assumption
    | ((try lift_lets); intro x; first | (refine (fun (hx : Keeps k0 r0 x) => ?_) ?_; on_goal 1 => (try clear_value x)) | (try clear_value x))
    | apply Keeps.ite
    | apply keeps_setSstat
    | apply keeps_setWord
    | apply keeps_deliver
    | split
    | (dsimp only [x])

theorem keeps_commitClasses {k0 : Bool} {r0 s : State} (ks : List Nat) (hk : Keeps k0 r0 s) : Keeps k0 r0 (State.commitClasses s ks) := by
  unfold State.commitClasses
  repeat' with_reducible first
    | assumption
    | ((try lift_lets); intro x; first | (refine (fun (hx : Keeps k0 r0 x) => ?_) ?_; on_goal 1 => (try clear_value x)) | (try clear_value x))
    | (refine keeps_forEach _ _ (fun t n ht => ?_) ?_; on_goal 1 => beta_reduce)
    | apply keeps_commitSlot
    | apply keeps_setFrame
    | fail_if_no_progress apply Keeps.upd
    | (dsimp only [x])

theorem keeps_openFrame {k0 : Bool} {r0 s : State} (k : Nat) (hk : Keeps k0 r0 s) : Keeps k0 r0 (State.openFrame s k) := by
  unfold State.openFrame
  repeat' with_reducible first
    | assumption
    | apply keeps_setFrame

theorem keeps_frameDone {k0 : Bool} {r0 s : State} (k : Nat) (hk : Keeps k0 r0 s) : Keeps k0 r0 (State.frameDone s k) := by
  unfold State.frameDone
  repeat' with_reducible first
    | assumption
    | ((try lift_lets); intro x; first | (refine (fun (hx : Keeps k0 r0 x) => ?_) ?_; on_goal 1 => (try clear_value x)) | (refine (fun (hx : Keeps k0 r0 x.2) => ?_) ?_; on_goal 1 => (try clear_value x)) | (refine (fun (hx : Keeps k0 r0 x.2.2) => ?_) ?_; on_goal 1 => (try clear_value x)) | (try clear_value x))
    | apply Keeps.ite
    | (refine keeps_forEach _ _ (fun t n ht => ?_) ?_; on_goal 1 => beta_reduce)
    | apply keeps_setSstat
    | apply keeps_setFrame
    | apply keeps_drawNat
    | apply keeps_setRf
    | apply keeps_incWrap
    | apply keeps_fire
    | apply Keeps.ite2
    | apply Keeps.ite3
    | fail_if_no_progress apply Keeps.upd
    | split
    | (dsimp only [x])

theorem keeps_frameAdvance {k0 : Bool} {r0 s : State}  (hk : Keeps k0 r0 s) : Keeps k0 r0 (State.frameAdvance s) := by
  unfold State.frameAdvance
  repeat' with_reducible first
    | assumption
    | apply Keeps.ite
    | (refine keeps_foldl _ _ (fun t n ht => ?_) ?_; on_goal 1 => beta_reduce)
    | apply keeps_frameDone
    | split

theorem keeps_overrun {k0 : Bool} {r0 s : State} (k : Nat) (hk : Keeps k0 r0 s) : Keeps k0 r0 (State.overrun s k) := by
  unfold State.overrun
  repeat' with_reducible first
    | assumption
    | ((try lift_lets); intro x; first | (refine (fun (hx : Keeps k0 r0 x) => ?_) ?_; on_goal 1 => (try clear_value x)) | (try clear_value x))
    | apply Keeps.ite
    | apply keeps_setFrame
    | apply keeps_incSat
    | apply keeps_fire
    | apply keeps_cenFault
    | fail_if_no_progress apply Keeps.upd
    | split
    | (dsimp only [x])

theorem keeps_boundary {k0 : Bool} {r0 s : State} (ks : List Nat) (hk : Keeps k0 r0 s) : Keeps k0 r0 (State.boundary s ks) := by
  unfold State.boundary
  repeat' with_reducible first
    | assumption
    | ((try lift_lets); intro x; first | (refine (fun (hx : Keeps k0 r0 x) => ?_) ?_; on_goal 1 => (try clear_value x)) | (try clear_value x))
    | (refine keeps_forEach _ _ (fun t n ht => ?_) ?_; on_goal 1 => beta_reduce)
    | apply keeps_overrun
    | apply keeps_commitClasses
    | apply keeps_openFrame
    | apply keeps_frameAdvance
    | (dsimp only [x])

theorem keeps_admitWith {k0 : Bool} {r0 s : State} (ns : List Nat) (classes : List Nat) (hk : Keeps k0 r0 s) : Keeps k0 r0 (State.admitWith s ns classes) := by
  unfold State.admitWith
  repeat' with_reducible first
    | assumption
    | ((try lift_lets); intro x; first | (refine (fun (hx : Keeps k0 r0 x) => ?_) ?_; on_goal 1 => (try clear_value x)) | (refine (fun (hx : Keeps k0 r0 x.2) => ?_) ?_; on_goal 1 => (try clear_value x)) | (refine (fun (hx : Keeps k0 r0 x.2.2) => ?_) ?_; on_goal 1 => (try clear_value x)) | (try clear_value x))
    | apply Keeps.ite
    | apply keeps_drawNat
    | (refine keeps_forEach _ _ (fun t n ht => ?_) ?_; on_goal 1 => beta_reduce)
    | apply keeps_setReg
    | apply Keeps.ite2
    | apply Keeps.ite3
    | split
    | (dsimp only [x])

theorem keeps_admitAll {k0 : Bool} {r0 s : State} (classes : List Nat) (hk : Keeps k0 r0 s) : Keeps k0 r0 (State.admitAll s classes) := by
  unfold State.admitAll
  repeat' with_reducible first
    | assumption
    | apply keeps_admitWith

theorem keeps_cenStart {k0 : Bool} {r0 s : State}  (hk : Keeps k0 r0 s) : Keeps k0 r0 (State.cenStart s) := by
  unfold State.cenStart
  repeat' with_reducible first
    | assumption
    | ((try lift_lets); intro x; first | (refine (fun (hx : Keeps k0 r0 x) => ?_) ?_; on_goal 1 => (try clear_value x)) | (try clear_value x))
    | apply keeps_setRb
    | fail_if_no_progress apply Keeps.upd
    | (dsimp only [x])

theorem keeps_cenHalt {k0 : Bool} {r0 s : State}  (hk : Keeps k0 r0 s) : Keeps k0 r0 (State.cenHalt s) := by
  unfold State.cenHalt
  repeat' with_reducible first
    | assumption
    | ((try lift_lets); intro x; first | (refine (fun (hx : Keeps k0 r0 x) => ?_) ?_; on_goal 1 => (try clear_value x)) | (try clear_value x))
    | apply keeps_setRb
    | (refine keeps_forEach _ _ (fun t n ht => ?_) ?_; on_goal 1 => beta_reduce)
    | apply keeps_setSstat
    | fail_if_no_progress apply Keeps.upd
    | (dsimp only [x])

theorem keeps_cenRunWrite {k0 : Bool} {r0 s : State}  (hk : Keeps k0 r0 s) : Keeps k0 r0 (State.cenRunWrite s) := by
  unfold State.cenRunWrite
  repeat' with_reducible first
    | assumption
    | ((try lift_lets); intro x; first | (refine (fun (hx : Keeps k0 r0 x) => ?_) ?_; on_goal 1 => (try clear_value x)) | (try clear_value x))
    | apply Keeps.ite
    | apply keeps_setRb
    | apply keeps_admitAll
    | apply keeps_cenStart
    | split
    | (dsimp only [x])

theorem keeps_cenCtrlWrite {k0 : Bool} {r0 s : State} (v : Word) (hk : Keeps k0 r0 s) : Keeps k0 r0 (State.cenCtrlWrite s v) := by
  unfold State.cenCtrlWrite
  repeat' with_reducible first
    | assumption
    | ((try lift_lets); intro x; first | (refine (fun (hx : Keeps k0 r0 x) => ?_) ?_; on_goal 1 => (try clear_value x)) | (try clear_value x))
    | apply Keeps.ite
    | apply keeps_admitAll
    | apply keeps_cenRunWrite
    | apply keeps_cenHalt
    | fail_if_no_progress apply Keeps.upd
    | split
    | (dsimp only [x])

theorem keeps_execCenRun {k0 : Bool} {r0 s : State} (who : Init) (hk : Keeps k0 r0 s) : KeepsOut k0 r0 (execCenRun who s) := by
  unfold execCenRun
  repeat' with_reducible first
    | assumption
    | apply keepsOut_done
    | (refine keeps_guardWrite _ _ _ _ (fun t ht => ?_) ?_; on_goal 1 => beta_reduce)
    | apply keeps_cenCtrlWrite
    | apply keeps_done

theorem keeps_execCenStop {k0 : Bool} {r0 s : State} (who : Init) (hk : Keeps k0 r0 s) : KeepsOut k0 r0 (execCenStop who s) := by
  unfold execCenStop
  repeat' with_reducible first
    | assumption
    | apply keepsOut_done
    | (refine keeps_guardWrite _ _ _ _ (fun t ht => ?_) ?_; on_goal 1 => beta_reduce)
    | apply keeps_cenCtrlWrite
    | apply keeps_done

theorem keeps_execCenAdmit {k0 : Bool} {r0 s : State} (who : Init) (hk : Keeps k0 r0 s) : KeepsOut k0 r0 (execCenAdmit who s) := by
  unfold execCenAdmit
  repeat' with_reducible first
    | assumption
    | apply keepsOut_done
    | (refine keeps_guardWrite _ _ _ _ (fun t ht => ?_) ?_; on_goal 1 => beta_reduce)
    | apply keeps_cenCtrlWrite
    | apply keeps_done

theorem keeps_cenPeriodWr {k0 : Bool} {r0 s : State} (k : Nat) (v : Word) (hk : Keeps k0 r0 s) : Keeps k0 r0 (State.cenPeriodWr s k v) := by
  unfold State.cenPeriodWr
  repeat' with_reducible first
    | assumption
    | apply Keeps.ite
    | apply keeps_setRb
    | apply keeps_setReg
    | split

theorem keeps_execCenPeriodWrite {k0 : Bool} {r0 s : State} (who : Init) (k : Nat) (v : Word) (hk : Keeps k0 r0 s) : KeepsOut k0 r0 (execCenPeriodWrite who k v s) := by
  unfold execCenPeriodWrite
  repeat' with_reducible first
    | assumption
    | apply keepsOut_done
    | (refine keeps_guardWrite _ _ _ _ (fun t ht => ?_) ?_; on_goal 1 => beta_reduce)
    | apply keeps_cenPeriodWr
    | apply keeps_done

theorem keeps_execCenOvrRead {k0 : Bool} {r0 s : State} (who : Init) (k : Nat) (hk : Keeps k0 r0 s) : KeepsOut k0 r0 (execCenOvrRead who k s) := by
  unfold execCenOvrRead
  repeat' with_reducible first
    | assumption
    | apply keepsOut_done
    | apply keeps_readClear
    | apply keeps_done

theorem keeps_slotLeave {k0 : Bool} {r0 s : State} (n : Nat) (hk : Keeps k0 r0 s) : Keeps k0 r0 (State.slotLeave s n) := by
  unfold State.slotLeave
  repeat' with_reducible first
    | assumption
    | ((try lift_lets); intro x; first | (refine (fun (hx : Keeps k0 r0 x) => ?_) ?_; on_goal 1 => (try clear_value x)) | (try clear_value x))
    | apply Keeps.ite
    | apply keeps_setSstat
    | fail_if_no_progress apply Keeps.upd
    | split
    | (dsimp only [x])

theorem keeps_cenLeave {k0 : Bool} {r0 s : State} (f : Nat) (hk : Keeps k0 r0 s) : Keeps k0 r0 (State.cenLeave s f) := by
  unfold State.cenLeave
  repeat' with_reducible first
    | assumption
    | (refine keeps_forEach _ _ (fun t n ht => ?_) ?_; on_goal 1 => beta_reduce)
    | apply keeps_slotLeave

theorem keeps_cenJoin {k0 : Bool} {r0 s : State} (f : Nat) (hk : Keeps k0 r0 s) : Keeps k0 r0 (State.cenJoin s f) := by
  unfold State.cenJoin
  repeat' with_reducible first
    | assumption
    | ((try lift_lets); intro x; first | (refine (fun (hx : Keeps k0 r0 x) => ?_) ?_; on_goal 1 => (try clear_value x)) | (try clear_value x))
    | fail_if_no_progress apply Keeps.upd
    | (dsimp only [x])

theorem keeps_cenChill {k0 : Bool} {r0 s : State}  (hk : Keeps k0 r0 s) : Keeps k0 r0 (State.cenChill s) := by
  unfold State.cenChill
  repeat' with_reducible first
    | assumption
    | ((try lift_lets); intro x; first | (refine (fun (hx : Keeps k0 r0 x) => ?_) ?_; on_goal 1 => (try clear_value x)) | (try clear_value x))
    | (refine keeps_forEach _ _ (fun t n ht => ?_) ?_; on_goal 1 => beta_reduce)
    | apply keeps_setSstat
    | fail_if_no_progress apply Keeps.upd
    | (dsimp only [x])

theorem keeps_cenClear {k0 : Bool} {r0 s : State}  (hk : Keeps k0 r0 s) : Keeps k0 r0 (State.cenClear s) := by
  unfold State.cenClear
  repeat' with_reducible first
    | assumption
    | apply keeps_clearMem

theorem keeps_setTrc {k0 : Bool} {r0 s : State} (t : Nat) (v : TrcSt) (hk : Keeps k0 r0 s) : Keeps k0 r0 (State.setTrc s t v) := by
  unfold State.setTrc
  repeat' with_reducible first
    | assumption
    | ((try lift_lets); intro x; first | (refine (fun (hx : Keeps k0 r0 x) => ?_) ?_; on_goal 1 => (try clear_value x)) | (try clear_value x))
    | fail_if_no_progress apply Keeps.upd
    | (dsimp only [x])

theorem keeps_trcExport {k0 : Bool} {r0 s : State} (t : Nat) (i : Nat) (v : Int) (trig : Bool) (hk : Keeps k0 r0 s) : Keeps k0 r0 (State.trcExport s t i v trig) := by
  unfold State.trcExport
  repeat' with_reducible first
    | assumption
    | ((try lift_lets); intro x; first | (refine (fun (hx : Keeps k0 r0 x) => ?_) ?_; on_goal 1 => (try clear_value x)) | (try clear_value x))
    | apply Keeps.ite
    | apply keeps_ringOffer
    | apply keeps_incSat
    | split
    | (dsimp only [x])

theorem keeps_trcSample {k0 : Bool} {r0 s : State} (t : Nat) (v : Int) (tick : Nat) (hk : Keeps k0 r0 s) : Keeps k0 r0 (State.trcSample s t v tick) := by
  unfold State.trcSample
  repeat' with_reducible first
    | assumption
    | ((try lift_lets); intro x; first | (refine (fun (hx : Keeps k0 r0 x) => ?_) ?_; on_goal 1 => (try clear_value x)) | (try clear_value x))
    | apply Keeps.ite
    | apply keeps_setSword
    | apply keeps_setRf
    | apply keeps_setRb
    | apply keeps_hit
    | apply keeps_setReg
    | apply keeps_fire
    | apply keeps_setTrc
    | apply keeps_trcExport
    | fail_if_no_progress apply Keeps.upd
    | split
    | (dsimp only [x])

theorem keeps_trcEval {k0 : Bool} {r0 s : State} (fired : Nat → Bool) (t : Nat) (n : Nat) (r : EvalResult) (tick : Nat) (hk : Keeps k0 r0 s) : Keeps k0 r0 (State.trcEval s fired t n r tick) := by
  unfold State.trcEval
  repeat' with_reducible first
    | assumption
    | ((try lift_lets); intro x; first | (refine (fun (hx : Keeps k0 r0 x) => ?_) ?_; on_goal 1 => (try clear_value x)) | (try clear_value x))
    | apply Keeps.ite
    | apply keeps_setTrc
    | apply keeps_trcSample
    | fail_if_no_progress apply Keeps.upd
    | split
    | (dsimp only [x])

theorem keeps_evalNote {k0 : Bool} {r0 s : State} (n : Nat) (hk : Keeps k0 r0 s) : Keeps k0 r0 (State.evalNote s n) := by
  unfold State.evalNote
  repeat' with_reducible first
    | assumption
    | ((try lift_lets); intro x; first | (refine (fun (hx : Keeps k0 r0 x) => ?_) ?_; on_goal 1 => (try clear_value x)) | (try clear_value x))
    | fail_if_no_progress apply Keeps.upd
    | (dsimp only [x])

theorem keeps_traceEval {k0 : Bool} {r0 s : State} (n : Nat) (r : EvalResult) (tick : Nat) (hk : Keeps k0 r0 s) : Keeps k0 r0 (State.traceEval s n r tick) := by
  unfold State.traceEval
  repeat' with_reducible first
    | assumption
    | apply keeps_evalNote
    | (refine keeps_forEach _ _ (fun t n ht => ?_) ?_; on_goal 1 => beta_reduce)
    | apply keeps_trcEval

theorem keeps_trcArm {k0 : Bool} {r0 s : State} (t : Nat) (hk : Keeps k0 r0 s) : Keeps k0 r0 (State.trcArm s t) := by
  unfold State.trcArm
  repeat' with_reducible first
    | assumption
    | ((try lift_lets); intro x; first | (refine (fun (hx : Keeps k0 r0 x) => ?_) ?_; on_goal 1 => (try clear_value x)) | (try clear_value x))
    | apply Keeps.ite
    | apply keeps_setRb
    | apply keeps_setReg
    | apply keeps_setTrc
    | split
    | (dsimp only [x])

theorem keeps_trcStop {k0 : Bool} {r0 s : State} (t : Nat) (hk : Keeps k0 r0 s) : Keeps k0 r0 (State.trcStop s t) := by
  unfold State.trcStop
  repeat' with_reducible first
    | assumption
    | apply keeps_setRf

theorem keeps_trcForce {k0 : Bool} {r0 s : State} (t : Nat) (hk : Keeps k0 r0 s) : Keeps k0 r0 (State.trcForce s t) := by
  unfold State.trcForce
  repeat' with_reducible first
    | assumption
    | ((try lift_lets); intro x; first | (refine (fun (hx : Keeps k0 r0 x) => ?_) ?_; on_goal 1 => (try clear_value x)) | (try clear_value x))
    | apply keeps_setTrc
    | fail_if_no_progress apply Keeps.upd
    | (dsimp only [x])

theorem keeps_trcCtrlWrite {k0 : Bool} {r0 s : State} (t : Nat) (v : Word) (hk : Keeps k0 r0 s) : Keeps k0 r0 (State.trcCtrlWrite s t v) := by
  unfold State.trcCtrlWrite
  repeat' with_reducible first
    | assumption
    | apply Keeps.ite
    | apply keeps_trcStop
    | apply keeps_trcArm
    | apply keeps_trcForce
    | split

theorem keeps_trcConfig {k0 : Bool} {r0 s : State} (t : Nat) (i : Nat) (v : Word) (hk : Keeps k0 r0 s) : Keeps k0 r0 (State.trcConfig s t i v) := by
  unfold State.trcConfig
  repeat' with_reducible first
    | assumption
    | apply Keeps.ite
    | apply keeps_setRb
    | apply keeps_setReg
    | split

theorem keeps_trcStatWrite {k0 : Bool} {r0 s : State} (t : Nat) (v : Word) (hk : Keeps k0 r0 s) : Keeps k0 r0 (State.trcStatWrite s t v) := by
  unfold State.trcStatWrite
  repeat' with_reducible first
    | assumption
    | ((try lift_lets); intro x; first | (refine (fun (hx : Keeps k0 r0 x) => ?_) ?_; on_goal 1 => (try clear_value x)) | (try clear_value x))
    | apply Keeps.ite
    | apply keeps_clrReg
    | apply keeps_setRf
    | split
    | (dsimp only [x])

theorem keeps_trcGuard {k0 : Bool} {r0 s : State} (who : Init) (t addr : Nat) (f : State → State) (hf : ∀ t, Keeps k0 r0 t → Keeps k0 r0 (f t))
    (hk : Keeps k0 r0 s) : Keeps k0 r0 (s.trcGuard who t addr f) := by
  unfold State.trcGuard
  exact Keeps.ite (keeps_hit _ _ _ hk) (keeps_guardWrite _ _ _ _ hf hk)

theorem keeps_execTraceArm {k0 : Bool} {r0 s : State} (who : Init) (t : Nat) (hk : Keeps k0 r0 s) : KeepsOut k0 r0 (execTraceArm who t s) := by
  unfold execTraceArm
  repeat' with_reducible first
    | assumption
    | apply keepsOut_done
    | (refine keeps_trcGuard _ _ _ _ (fun t ht => ?_) ?_; on_goal 1 => beta_reduce)
    | apply keeps_trcCtrlWrite
    | apply keeps_done

theorem keeps_execTraceStop {k0 : Bool} {r0 s : State} (who : Init) (t : Nat) (hk : Keeps k0 r0 s) : KeepsOut k0 r0 (execTraceStop who t s) := by
  unfold execTraceStop
  repeat' with_reducible first
    | assumption
    | apply keepsOut_done
    | (refine keeps_trcGuard _ _ _ _ (fun t ht => ?_) ?_; on_goal 1 => beta_reduce)
    | apply keeps_trcCtrlWrite
    | apply keeps_done

theorem keeps_execTraceForce {k0 : Bool} {r0 s : State} (who : Init) (t : Nat) (hk : Keeps k0 r0 s) : KeepsOut k0 r0 (execTraceForce who t s) := by
  unfold execTraceForce
  repeat' with_reducible first
    | assumption
    | apply keepsOut_done
    | (refine keeps_trcGuard _ _ _ _ (fun t ht => ?_) ?_; on_goal 1 => beta_reduce)
    | apply keeps_trcCtrlWrite
    | apply keeps_done

theorem keeps_execTraceConfigWrite {k0 : Bool} {r0 s : State} (who : Init) (t : Nat) (reg : Nat) (v : Word) (hk : Keeps k0 r0 s) : KeepsOut k0 r0 (execTraceConfigWrite who t reg v s) := by
  unfold execTraceConfigWrite
  repeat' with_reducible first
    | assumption
    | apply keepsOut_done
    | (refine keeps_trcGuard _ _ _ _ (fun t ht => ?_) ?_; on_goal 1 => beta_reduce)
    | apply keeps_trcConfig
    | apply keeps_done

theorem keeps_execTraceLostRead {k0 : Bool} {r0 s : State} (who : Init) (t : Nat) (hk : Keeps k0 r0 s) : KeepsOut k0 r0 (execTraceLostRead who t s) := by
  unfold execTraceLostRead
  repeat' with_reducible first
    | assumption
    | ((try lift_lets); intro x; first | (refine (fun (hx : Keeps k0 r0 x) => ?_) ?_; on_goal 1 => (try clear_value x)) | (try clear_value x))
    | apply KeepsOut.ite
    | apply keepsOut_done
    | apply Keeps.ite
    | apply keeps_hit
    | apply keeps_readClear
    | apply keeps_done
    | fail_if_no_progress apply Keeps.upd
    | split
    | (dsimp only [x])

theorem keeps_setZone {k0 : Bool} {r0 s : State} (z : Nat) (v : ZoneSt) (hk : Keeps k0 r0 s) : Keeps k0 r0 (State.setZone s z v) := by
  unfold State.setZone
  repeat' with_reducible first
    | assumption
    | ((try lift_lets); intro x; first | (refine (fun (hx : Keeps k0 r0 x) => ?_) ?_; on_goal 1 => (try clear_value x)) | (try clear_value x))
    | fail_if_no_progress apply Keeps.upd
    | (dsimp only [x])

theorem keeps_zoneEntry {k0 : Bool} {r0 s : State} (z : Nat) (kind : Nat) (new : Nat) (old : Nat) (hk : Keeps k0 r0 s) : Keeps k0 r0 (State.zoneEntry s z kind new old) := by
  unfold State.zoneEntry
  repeat' with_reducible first
    | assumption
    | apply keeps_ringOffer

theorem keeps_zonLoadPins {k0 : Bool} {r0 s : State}  (hk : Keeps k0 r0 s) : Keeps k0 r0 (State.zonLoadPins s) := by
  unfold State.zonLoadPins
  repeat' with_reducible first
    | assumption
    | ((try lift_lets); intro x; first | (refine (fun (hx : Keeps k0 r0 x) => ?_) ?_; on_goal 1 => (try clear_value x)) | (try clear_value x))
    | apply Keeps.ite
    | (refine keeps_forEach _ _ (fun t n ht => ?_) ?_; on_goal 1 => beta_reduce)
    | apply keeps_setReg
    | fail_if_no_progress apply Keeps.upd
    | split
    | (dsimp only [x])

theorem keeps_pinHit {k0 : Bool} {r0 s : State} (p : Nat) (hk : Keeps k0 r0 s) : Keeps k0 r0 (State.pinHit s p) := by
  unfold State.pinHit
  repeat' with_reducible first
    | assumption
    | ((try lift_lets); intro x; first | (refine (fun (hx : Keeps k0 r0 x) => ?_) ?_; on_goal 1 => (try clear_value x)) | (try clear_value x))
    | apply Keeps.ite
    | apply keeps_setRb
    | apply keeps_setRf
    | apply keeps_setReg
    | fail_if_no_progress apply Keeps.upd
    | split
    | (dsimp only [x])

theorem keeps_pinHits {k0 : Bool} {r0 s : State} (kind : Nat) (src : Nat) (hk : Keeps k0 r0 s) : Keeps k0 r0 (State.pinHits s kind src) := by
  unfold State.pinHits
  repeat' with_reducible first
    | assumption
    | (refine keeps_forEach _ _ (fun t n ht => ?_) ?_; on_goal 1 => beta_reduce)
    | apply keeps_pinHit

theorem keeps_pinPv {k0 : Bool} {r0 s : State} (d : Nat) (old : Option Nat) (hk : Keeps k0 r0 s) : Keeps k0 r0 (State.pinPv s d old) := by
  unfold State.pinPv
  repeat' with_reducible first
    | assumption
    | ((try lift_lets); intro x; first | (refine (fun (hx : Keeps k0 r0 x) => ?_) ?_; on_goal 1 => (try clear_value x)) | (try clear_value x))
    | apply Keeps.ite
    | apply keeps_pinHits
    | fail_if_no_progress apply Keeps.upd
    | split
    | (dsimp only [x])

theorem keeps_co2Hits {k0 : Bool} {r0 s : State}  (hk : Keeps k0 r0 s) : Keeps k0 r0 (State.co2Hits s) := by
  unfold State.co2Hits
  repeat' with_reducible first
    | assumption
    | ((try lift_lets); intro x; first | (refine (fun (hx : Keeps k0 r0 x) => ?_) ?_; on_goal 1 => (try clear_value x)) | (refine (fun (hx : Keeps k0 r0 x.2) => ?_) ?_; on_goal 1 => (try clear_value x)) | (refine (fun (hx : Keeps k0 r0 x.2.2) => ?_) ?_; on_goal 1 => (try clear_value x)) | (try clear_value x))
    | apply Keeps.ite
    | (refine keeps_forEach _ _ (fun t n ht => ?_) ?_; on_goal 1 => beta_reduce)
    | (refine keeps_foldl _ _ (fun t n ht => ?_) ?_; on_goal 1 => beta_reduce)
    | apply keeps_pinHit
    | apply Keeps.ite2
    | apply Keeps.ite3
    | fail_if_no_progress apply Keeps.upd
    | split
    | (dsimp only [x])

theorem keeps_schedFresh {k0 : Bool} {r0 s : State}  (hk : Keeps k0 r0 s) : Keeps k0 r0 (State.schedFresh s) := by
  unfold State.schedFresh
  repeat' with_reducible first
    | assumption
    | ((try lift_lets); intro x; first | (refine (fun (hx : Keeps k0 r0 x) => ?_) ?_; on_goal 1 => (try clear_value x)) | (try clear_value x))
    | apply Keeps.ite
    | (refine keeps_foldl _ _ (fun t n ht => ?_) ?_; on_goal 1 => beta_reduce)
    | fail_if_no_progress apply Keeps.upd
    | split
    | (dsimp only [x])

theorem keeps_schedule {k0 : Bool} {r0 s : State}  (hk : Keeps k0 r0 s) : Keeps k0 r0 (State.schedule s) := by
  unfold State.schedule
  repeat' with_reducible first
    | assumption
    | ((try lift_lets); intro x; first | (refine (fun (hx : Keeps k0 r0 x) => ?_) ?_; on_goal 1 => (try clear_value x)) | (try clear_value x))
    | apply Keeps.ite
    | apply keeps_schedFresh
    | apply keeps_setReg
    | fail_if_no_progress apply Keeps.upd
    | split
    | (dsimp only [x])

theorem keeps_execScheduleEvaluate {k0 : Bool} {r0 s : State}  (hk : Keeps k0 r0 s) : KeepsOut k0 r0 (execScheduleEvaluate s) := by
  unfold execScheduleEvaluate
  repeat' with_reducible first
    | assumption
    | apply KeepsOut.ite
    | apply keepsOut_done
    | apply Keeps.ite
    | apply keeps_schedule
    | apply keeps_done
    | split

theorem keeps_setZonField {k0 : Bool} {r0 s : State} (z : Nat) (lo : Nat) (w : Nat) (v : Nat) (hk : Keeps k0 r0 s) : Keeps k0 r0 (State.setZonField s z lo w v) := by
  unfold State.setZonField
  repeat' with_reducible first
    | assumption
    | apply keeps_setRf

theorem keeps_zonePresence {k0 : Bool} {r0 s : State} (z : Nat) (hk : Keeps k0 r0 s) : Keeps k0 r0 (State.zonePresence s z) := by
  unfold State.zonePresence
  repeat' with_reducible first
    | assumption
    | ((try lift_lets); intro x; first | (refine (fun (hx : Keeps k0 r0 x) => ?_) ?_; on_goal 1 => (try clear_value x)) | (try clear_value x))
    | apply Keeps.ite
    | apply keeps_setReg
    | apply keeps_setZonField
    | apply keeps_fire
    | apply keeps_zoneEntry
    | split
    | (dsimp only [x])

theorem keeps_zoneAlarm {k0 : Bool} {r0 s : State} (z : Nat) (bit : Nat) (cond : Option Bool) (hk : Keeps k0 r0 s) : Keeps k0 r0 (State.zoneAlarm s z bit cond) := by
  unfold State.zoneAlarm
  repeat' with_reducible first
    | assumption
    | ((try lift_lets); intro x; first | (refine (fun (hx : Keeps k0 r0 x) => ?_) ?_; on_goal 1 => (try clear_value x)) | (try clear_value x))
    | apply Keeps.ite
    | apply keeps_setZone
    | apply keeps_setRb
    | apply keeps_fire
    | apply keeps_fault
    | apply keeps_zoneEntry
    | apply keeps_faultClear
    | fail_if_no_progress apply Keeps.upd
    | split
    | (dsimp only [x])

theorem keeps_zoneSp {k0 : Bool} {r0 s : State} (i : Nat) (v : Int) (hk : Keeps k0 r0 s) : Keeps k0 r0 (State.zoneSp s i v) := by
  unfold State.zoneSp
  repeat' with_reducible first
    | assumption
    | apply keeps_spWrite

theorem keeps_zoneVpv {k0 : Bool} {r0 s : State} (i : Nat) (v : Int) (hk : Keeps k0 r0 s) : Keeps k0 r0 (State.zoneVpv s i v) := by
  unfold State.zoneVpv
  repeat' with_reducible first
    | assumption
    | apply keeps_vpvWrite

theorem keeps_zoneSetpoints {k0 : Bool} {r0 s : State} (z : Nat) (mode : Nat) (t : Option Int) (h : Option Int) (cold : Option Int) (coldNamed : Bool) (hk : Keeps k0 r0 s) : Keeps k0 r0 (State.zoneSetpoints s z mode t h cold coldNamed) := by
  unfold State.zoneSetpoints
  repeat' with_reducible first
    | assumption
    | ((try lift_lets); intro x; first | (refine (fun (hx : Keeps k0 r0 x) => ?_) ?_; on_goal 1 => (try clear_value x)) | (try clear_value x))
    | apply Keeps.ite
    | apply keeps_setZone
    | apply keeps_zoneSp
    | fail_if_no_progress apply Keeps.upd
    | split
    | (dsimp only [x])

theorem keeps_zoneDew {k0 : Bool} {r0 s : State} (z : Nat) (t : Option Int) (h : Option Int) (hk : Keeps k0 r0 s) : Keeps k0 r0 (State.zoneDew s z t h) := by
  unfold State.zoneDew
  repeat' with_reducible first
    | assumption
    | ((try lift_lets); intro x; first | (refine (fun (hx : Keeps k0 r0 x) => ?_) ?_; on_goal 1 => (try clear_value x)) | (try clear_value x))
    | apply Keeps.ite
    | apply keeps_setZone
    | apply keeps_zoneVpv
    | fail_if_no_progress apply Keeps.upd
    | split
    | (dsimp only [x])

theorem keeps_zoneAlarms {k0 : Bool} {r0 s : State} (z : Nat) (mode : Nat) (t : Option Int) (h : Option Int) (cold : Option Int) (rhNamed : Bool) (coldNamed : Bool) (hk : Keeps k0 r0 s) : Keeps k0 r0 (State.zoneAlarms s z mode t h cold rhNamed coldNamed) := by
  unfold State.zoneAlarms
  repeat' with_reducible first
    | assumption
    | ((try lift_lets); intro x; first | (refine (fun (hx : Keeps k0 r0 x) => ?_) ?_; on_goal 1 => (try clear_value x)) | (try clear_value x))
    | apply Keeps.ite
    | apply keeps_zoneAlarm
    | fail_if_no_progress apply Keeps.upd
    | split
    | (dsimp only [x])

theorem keeps_zoneOne {k0 : Bool} {r0 s : State} (z : Nat) (hk : Keeps k0 r0 s) : Keeps k0 r0 (State.zoneOne s z) := by
  unfold State.zoneOne
  repeat' with_reducible first
    | assumption
    | ((try lift_lets); intro x; first | (refine (fun (hx : Keeps k0 r0 x) => ?_) ?_; on_goal 1 => (try clear_value x)) | (try clear_value x))
    | apply Keeps.ite
    | apply keeps_zonePresence
    | apply keeps_setZonField
    | apply keeps_zoneEntry
    | apply keeps_zoneSetpoints
    | apply keeps_zoneDew
    | apply keeps_zoneAlarms
    | split
    | (dsimp only [x])

theorem keeps_zoneAfterChill {k0 : Bool} {r0 s : State}  (hk : Keeps k0 r0 s) : Keeps k0 r0 (State.zoneAfterChill s) := by
  unfold State.zoneAfterChill
  repeat' with_reducible first
    | assumption
    | ((try lift_lets); intro x; first | (refine (fun (hx : Keeps k0 r0 x) => ?_) ?_; on_goal 1 => (try clear_value x)) | (try clear_value x))
    | (refine keeps_forEach _ _ (fun t n ht => ?_) ?_; on_goal 1 => beta_reduce)
    | apply keeps_setReg
    | apply keeps_setZone
    | fail_if_no_progress apply Keeps.upd
    | split
    | (dsimp only [x])

theorem keeps_zoneFans {k0 : Bool} {r0 s : State}  (hk : Keeps k0 r0 s) : Keeps k0 r0 (State.zoneFans s) := by
  unfold State.zoneFans
  repeat' with_reducible first
    | assumption
    | ((try lift_lets); intro x; first | (refine (fun (hx : Keeps k0 r0 x) => ?_) ?_; on_goal 1 => (try clear_value x)) | (try clear_value x))
    | apply Keeps.ite
    | (refine keeps_forEach _ _ (fun t n ht => ?_) ?_; on_goal 1 => beta_reduce)
    | apply keeps_zoneSp
    | apply keeps_zoneVpv
    | split
    | (dsimp only [x])

theorem keeps_zoneStep {k0 : Bool} {r0 s : State}  (hk : Keeps k0 r0 s) : Keeps k0 r0 (State.zoneStep s) := by
  unfold State.zoneStep
  repeat' with_reducible first
    | assumption
    | ((try lift_lets); intro x; first | (refine (fun (hx : Keeps k0 r0 x) => ?_) ?_; on_goal 1 => (try clear_value x)) | (try clear_value x))
    | apply Keeps.ite
    | apply keeps_schedule
    | apply keeps_zonLoadPins
    | apply keeps_zoneAfterChill
    | apply keeps_co2Hits
    | (refine keeps_forEach _ _ (fun t n ht => ?_) ?_; on_goal 1 => beta_reduce)
    | apply keeps_zoneOne
    | apply keeps_zoneFans
    | fail_if_no_progress apply Keeps.upd
    | split
    | (dsimp only [x])

theorem keeps_zoneSend {k0 : Bool} {r0 s : State}  (hk : Keeps k0 r0 s) : Keeps k0 r0 (State.zoneSend s) := by
  unfold State.zoneSend
  repeat' with_reducible first
    | assumption
    | ((try lift_lets); intro x; first | (refine (fun (hx : Keeps k0 r0 x) => ?_) ?_; on_goal 1 => (try clear_value x)) | (try clear_value x))
    | apply keeps_sendToken
    | fail_if_no_progress apply Keeps.upd
    | (dsimp only [x])

theorem keeps_zoneSendAll {k0 : Bool} {r0 s : State}  (hk : Keeps k0 r0 s) : Keeps k0 r0 (State.zoneSendAll s) := by
  unfold State.zoneSendAll
  repeat' with_reducible first
    | assumption
    | ((try lift_lets); intro x; first | (refine (fun (hx : Keeps k0 r0 x) => ?_) ?_; on_goal 1 => (try clear_value x)) | (try clear_value x))
    | apply keeps_zoneSend
    | fail_if_no_progress apply Keeps.upd
    | (dsimp only [x])

theorem keeps_execZoneStep {k0 : Bool} {r0 s : State}  (hk : Keeps k0 r0 s) : KeepsOut k0 r0 (execZoneStep s) := by
  unfold execZoneStep
  repeat' with_reducible first
    | assumption
    | ((try lift_lets); intro x; first | (refine (fun (hx : Keeps k0 r0 x) => ?_) ?_; on_goal 1 => (try clear_value x)) | (try clear_value x))
    | apply KeepsOut.ite
    | apply keepsOut_done
    | apply Keeps.ite
    | apply keeps_zoneStep
    | apply keeps_zoneSend
    | apply keeps_done
    | fail_if_no_progress apply Keeps.upd
    | split
    | (dsimp only [x])

theorem keeps_execZonPinCntRead {k0 : Bool} {r0 s : State} (who : Init) (p : Nat) (hk : Keeps k0 r0 s) : KeepsOut k0 r0 (execZonPinCntRead who p s) := by
  unfold execZonPinCntRead
  repeat' with_reducible first
    | assumption
    | apply keepsOut_done
    | apply keeps_readClear
    | apply keeps_done

theorem keeps_zoneLoad {k0 : Bool} {r0 s : State} (z : Nat) (hk : Keeps k0 r0 s) : Keeps k0 r0 (State.zoneLoad s z) := by
  unfold State.zoneLoad
  repeat' with_reducible first
    | assumption
    | ((try lift_lets); intro x; first | (refine (fun (hx : Keeps k0 r0 x) => ?_) ?_; on_goal 1 => (try clear_value x)) | (try clear_value x))
    | apply Keeps.ite
    | (refine keeps_forEach _ _ (fun t n ht => ?_) ?_; on_goal 1 => beta_reduce)
    | apply keeps_setReg
    | (refine keeps_foldl _ _ (fun t n ht => ?_) ?_; on_goal 1 => beta_reduce)
    | split
    | (dsimp only [x])

theorem keeps_zoneInit {k0 : Bool} {r0 s : State} (z : Nat) (hk : Keeps k0 r0 s) : Keeps k0 r0 (State.zoneInit s z) := by
  unfold State.zoneInit
  repeat' with_reducible first
    | assumption
    | ((try lift_lets); intro x; first | (refine (fun (hx : Keeps k0 r0 x) => ?_) ?_; on_goal 1 => (try clear_value x)) | (try clear_value x))
    | apply Keeps.ite
    | apply keeps_schedFresh
    | apply keeps_setZone
    | apply keeps_zoneSp
    | fail_if_no_progress apply Keeps.upd
    | split
    | (dsimp only [x])

theorem keeps_zoneStop {k0 : Bool} {r0 s : State} (z : Nat) (hk : Keeps k0 r0 s) : Keeps k0 r0 (State.zoneStop s z) := by
  unfold State.zoneStop
  repeat' with_reducible first
    | assumption
    | ((try lift_lets); intro x; first | (refine (fun (hx : Keeps k0 r0 x) => ?_) ?_; on_goal 1 => (try clear_value x)) | (try clear_value x))
    | apply Keeps.ite
    | apply keeps_setZonField
    | apply keeps_zoneEntry
    | split
    | (dsimp only [x])

theorem keeps_zoneMirror {k0 : Bool} {r0 s : State} (m : ZoneMirror) (hk : Keeps k0 r0 s) : Keeps k0 r0 (State.zoneMirror s m) := by
  unfold State.zoneMirror
  repeat' with_reducible first
    | assumption
    | ((try lift_lets); intro x; first | (refine (fun (hx : Keeps k0 r0 x) => ?_) ?_; on_goal 1 => (try clear_value x)) | (try clear_value x))
    | apply Keeps.ite
    | apply keeps_setZone
    | apply keeps_setZonField
    | apply keeps_setReg
    | fail_if_no_progress apply Keeps.upd
    | split
    | (dsimp only [x])

theorem keeps_setKey {k0 : Bool} {r0 s : State} (k : Nat) (v : KeySt) (hk : Keeps k0 r0 s) : Keeps k0 r0 (State.setKey s k v) := by
  unfold State.setKey
  repeat' with_reducible first
    | assumption
    | ((try lift_lets); intro x; first | (refine (fun (hx : Keeps k0 r0 x) => ?_) ?_; on_goal 1 => (try clear_value x)) | (try clear_value x))
    | fail_if_no_progress apply Keeps.upd
    | (dsimp only [x])

theorem keeps_setLock {k0 : Bool} {r0 s : State} (st : Nat) (hk : Keeps k0 r0 s) : Keeps k0 r0 (State.setLock s st) := by
  unfold State.setLock
  repeat' with_reducible first
    | assumption
    | apply keeps_setRf

theorem keeps_setPos {k0 : Bool} {r0 s : State} (n : Nat) (hk : Keeps k0 r0 s) : Keeps k0 r0 (State.setPos s n) := by
  unfold State.setPos
  repeat' with_reducible first
    | assumption
    | apply keeps_setRf

theorem keeps_setAttempts {k0 : Bool} {r0 s : State} (n : Nat) (hk : Keeps k0 r0 s) : Keeps k0 r0 (State.setAttempts s n) := by
  unfold State.setAttempts
  repeat' with_reducible first
    | assumption
    | apply keeps_setRf

theorem keeps_kpdEntry {k0 : Bool} {r0 s : State} (code : Nat) (kind : Nat) (flags : Nat) (b3 : Nat) (hk : Keeps k0 r0 s) : Keeps k0 r0 (State.kpdEntry s code kind flags b3) := by
  unfold State.kpdEntry
  repeat' with_reducible first
    | assumption
    | ((try lift_lets); intro x; first | (refine (fun (hx : Keeps k0 r0 x) => ?_) ?_; on_goal 1 => (try clear_value x)) | (try clear_value x))
    | apply Keeps.ite
    | apply keeps_ringOffer
    | apply keeps_fire
    | apply keeps_incSat
    | apply keeps_setRb
    | apply keeps_fault
    | split
    | (dsimp only [x])

theorem keeps_kpdLastCode {k0 : Bool} {r0 s : State}  (hk : Keeps k0 r0 s) : Keeps k0 r0 (State.kpdLastCode s).2 := by
  unfold State.kpdLastCode
  repeat' with_reducible first
    | assumption
    | ((try lift_lets); intro x; first | (refine (fun (hx : Keeps k0 r0 x) => ?_) ?_; on_goal 1 => (try clear_value x)) | (refine (fun (hx : Keeps k0 r0 x.2) => ?_) ?_; on_goal 1 => (try clear_value x)) | (refine (fun (hx : Keeps k0 r0 x.2.2) => ?_) ?_; on_goal 1 => (try clear_value x)) | (try clear_value x))
    | apply keeps_drawNat
    | fail_if_no_progress apply Keeps.upd
    | split
    | (dsimp only [x])

theorem keeps_lockEntry {k0 : Bool} {r0 s : State} (code : Nat) (kind : Nat) (b3 : Nat) (hk : Keeps k0 r0 s) : Keeps k0 r0 (State.lockEntry s code kind b3) := by
  unfold State.lockEntry
  repeat' with_reducible first
    | assumption
    | apply keeps_kpdEntry
    | apply keeps_fire
    | apply keeps_happen

theorem keeps_lockOpen {k0 : Bool} {r0 s : State}  (hk : Keeps k0 r0 s) : Keeps k0 r0 (State.lockOpen s) := by
  unfold State.lockOpen
  repeat' with_reducible first
    | assumption
    | ((try lift_lets); intro x; first | (refine (fun (hx : Keeps k0 r0 x) => ?_) ?_; on_goal 1 => (try clear_value x)) | (try clear_value x))
    | apply keeps_setLock
    | apply keeps_setPos
    | apply keeps_setAttempts
    | fail_if_no_progress apply Keeps.upd
    | (dsimp only [x])

theorem keeps_lockWrong {k0 : Bool} {r0 s : State} (code : Nat) (hk : Keeps k0 r0 s) : Keeps k0 r0 (State.lockWrong s code) := by
  unfold State.lockWrong
  repeat' with_reducible first
    | assumption
    | ((try lift_lets); intro x; first | (refine (fun (hx : Keeps k0 r0 x) => ?_) ?_; on_goal 1 => (try clear_value x)) | (try clear_value x))
    | apply Keeps.ite
    | apply keeps_setPos
    | apply keeps_setAttempts
    | apply keeps_lockEntry
    | apply keeps_setLock
    | apply keeps_fault
    | fail_if_no_progress apply Keeps.upd
    | split
    | (dsimp only [x])

theorem keeps_lockCompare {k0 : Bool} {r0 s : State} (k : Nat) (hk : Keeps k0 r0 s) : Keeps k0 r0 (s.lockCompare k) := by
  unfold State.lockCompare
  exact Keeps.ite
    (Keeps.ite (keeps_lockOpen (keeps_lockEntry _ _ _ (keeps_kpdEntry _ _ _ _ (keeps_setPos _ (Keeps.upd hk)))))
      (keeps_kpdEntry _ _ _ _ (keeps_setPos _ (Keeps.upd hk))))
    (keeps_lockWrong _ (Keeps.upd hk))

theorem keeps_keyPress {k0 : Bool} {r0 s : State} (k : Nat) (hk : Keeps k0 r0 s) : Keeps k0 r0 (State.keyPress s k) := by
  unfold State.keyPress
  repeat' with_reducible first
    | assumption
    | ((try lift_lets); intro x; first | (refine (fun (hx : Keeps k0 r0 x) => ?_) ?_; on_goal 1 => (try clear_value x)) | (try clear_value x))
    | apply Keeps.ite
    | apply keeps_runtimeCount
    | apply keeps_incWrap
    | apply keeps_setKey
    | apply keeps_pinHits
    | apply keeps_lockCompare
    | apply keeps_kpdEntry
    | fail_if_no_progress apply Keeps.upd
    | split
    | (dsimp only [x])

theorem keeps_keyRelease {k0 : Bool} {r0 s : State} (k : Nat) (hk : Keeps k0 r0 s) : Keeps k0 r0 (State.keyRelease s k) := by
  unfold State.keyRelease
  repeat' with_reducible first
    | assumption
    | ((try lift_lets); intro x; first | (refine (fun (hx : Keeps k0 r0 x) => ?_) ?_; on_goal 1 => (try clear_value x)) | (try clear_value x))
    | apply Keeps.ite
    | apply keeps_setRb
    | apply keeps_setKey
    | apply keeps_kpdEntry
    | split
    | (dsimp only [x])

theorem keeps_keyScan {k0 : Bool} {r0 s : State} (raw : Bool) (k : Nat) (hk : Keeps k0 r0 s) : Keeps k0 r0 (State.keyScan s raw k) := by
  unfold State.keyScan
  repeat' with_reducible first
    | assumption
    | ((try lift_lets); intro x; first | (refine (fun (hx : Keeps k0 r0 x) => ?_) ?_; on_goal 1 => (try clear_value x)) | (try clear_value x))
    | apply Keeps.ite
    | apply keeps_setKey
    | apply keeps_keyPress
    | apply keeps_keyRelease
    | fail_if_no_progress apply Keeps.upd
    | split
    | (dsimp only [x])

theorem keeps_execKeypadScan {k0 : Bool} {r0 s : State} (pressed : List Nat) (hk : Keeps k0 r0 s) : KeepsOut k0 r0 (execKeypadScan pressed s) := by
  unfold execKeypadScan
  repeat' with_reducible first
    | assumption
    | ((try lift_lets); intro x; first | (refine (fun (hx : Keeps k0 r0 x) => ?_) ?_; on_goal 1 => (try clear_value x)) | (try clear_value x))
    | apply KeepsOut.ite
    | apply keepsOut_done
    | apply Keeps.ite
    | (refine keeps_forEach _ _ (fun t n ht => ?_) ?_; on_goal 1 => beta_reduce)
    | apply keeps_keyScan
    | apply keeps_done
    | fail_if_no_progress apply Keeps.upd
    | split
    | (dsimp only [x])

theorem keeps_execKeyStuck {k0 : Bool} {r0 s : State} (key : Nat) (hk : Keeps k0 r0 s) : KeepsOut k0 r0 (execKeyStuck key s) := by
  unfold execKeyStuck
  repeat' with_reducible first
    | assumption
    | ((try lift_lets); intro x; first | (refine (fun (hx : Keeps k0 r0 x) => ?_) ?_; on_goal 1 => (try clear_value x)) | (try clear_value x))
    | apply KeepsOut.ite
    | apply keepsOut_done
    | apply Keeps.ite
    | apply keeps_setRb
    | apply keeps_kpdEntry
    | apply keeps_fault
    | apply keeps_fire
    | apply keeps_done
    | split
    | (dsimp only [x])

theorem keeps_kpdShift {k0 : Bool} {r0 s : State} (d : Int) (hk : Keeps k0 r0 s) : Keeps k0 r0 (State.kpdShift s d) := by
  unfold State.kpdShift
  repeat' with_reducible first
    | assumption
    | ((try lift_lets); intro x; first | (refine (fun (hx : Keeps k0 r0 x) => ?_) ?_; on_goal 1 => (try clear_value x)) | (refine (fun (hx : Keeps k0 r0 x.2) => ?_) ?_; on_goal 1 => (try clear_value x)) | (refine (fun (hx : Keeps k0 r0 x.2.2) => ?_) ?_; on_goal 1 => (try clear_value x)) | (try clear_value x))
    | fail_if_no_progress apply Keeps.upd
    | (dsimp only [x])

theorem keeps_kpdHold {k0 : Bool} {r0 s : State}  (hk : Keeps k0 r0 s) : Keeps k0 r0 (State.kpdHold s) := by
  unfold State.kpdHold
  repeat' with_reducible first
    | assumption
    | ((try lift_lets); intro x; first | (refine (fun (hx : Keeps k0 r0 x) => ?_) ?_; on_goal 1 => (try clear_value x)) | (try clear_value x))
    | fail_if_no_progress apply Keeps.upd
    | (dsimp only [x])

theorem keeps_kpdGoOn {k0 : Bool} {r0 s : State}  (hk : Keeps k0 r0 s) : Keeps k0 r0 (State.kpdGoOn s) := by
  unfold State.kpdGoOn
  repeat' with_reducible first
    | assumption
    | ((try lift_lets); intro x; first | (refine (fun (hx : Keeps k0 r0 x) => ?_) ?_; on_goal 1 => (try clear_value x)) | (try clear_value x))
    | apply keeps_kpdShift
    | fail_if_no_progress apply Keeps.upd
    | split
    | (dsimp only [x])

theorem keeps_execEntryTimeout {k0 : Bool} {r0 s : State}  (hk : Keeps k0 r0 s) : KeepsOut k0 r0 (execEntryTimeout s) := by
  unfold execEntryTimeout
  repeat' with_reducible first
    | assumption
    | ((try lift_lets); intro x; first | (refine (fun (hx : Keeps k0 r0 x) => ?_) ?_; on_goal 1 => (try clear_value x)) | (refine (fun (hx : Keeps k0 r0 x.2) => ?_) ?_; on_goal 1 => (try clear_value x)) | (refine (fun (hx : Keeps k0 r0 x.2.2) => ?_) ?_; on_goal 1 => (try clear_value x)) | (try clear_value x))
    | apply KeepsOut.ite
    | apply keepsOut_done
    | apply Keeps.ite
    | apply keeps_kpdLastCode
    | apply keeps_pinHits
    | apply keeps_lockWrong
    | apply keeps_done
    | apply Keeps.ite2
    | apply Keeps.ite3
    | split
    | (dsimp only [x])

theorem keeps_execLockoutEnd {k0 : Bool} {r0 s : State}  (hk : Keeps k0 r0 s) : KeepsOut k0 r0 (execLockoutEnd s) := by
  unfold execLockoutEnd
  repeat' with_reducible first
    | assumption
    | ((try lift_lets); intro x; first | (refine (fun (hx : Keeps k0 r0 x) => ?_) ?_; on_goal 1 => (try clear_value x)) | (refine (fun (hx : Keeps k0 r0 x.2) => ?_) ?_; on_goal 1 => (try clear_value x)) | (refine (fun (hx : Keeps k0 r0 x.2.2) => ?_) ?_; on_goal 1 => (try clear_value x)) | (try clear_value x))
    | apply KeepsOut.ite
    | apply keepsOut_done
    | apply Keeps.ite
    | apply keeps_kpdLastCode
    | apply keeps_lockEntry
    | apply keeps_setLock
    | apply keeps_setAttempts
    | apply keeps_setPos
    | apply keeps_done
    | apply Keeps.ite2
    | apply Keeps.ite3
    | split
    | (dsimp only [x])

theorem keeps_lockClose {k0 : Bool} {r0 s : State}  (hk : Keeps k0 r0 s) : Keeps k0 r0 (State.lockClose s) := by
  unfold State.lockClose
  repeat' with_reducible first
    | assumption
    | ((try lift_lets); intro x; first | (refine (fun (hx : Keeps k0 r0 x) => ?_) ?_; on_goal 1 => (try clear_value x)) | (refine (fun (hx : Keeps k0 r0 x.2) => ?_) ?_; on_goal 1 => (try clear_value x)) | (refine (fun (hx : Keeps k0 r0 x.2.2) => ?_) ?_; on_goal 1 => (try clear_value x)) | (try clear_value x))
    | apply keeps_kpdLastCode
    | apply keeps_lockEntry
    | apply keeps_setLock
    | apply keeps_setPos
    | (dsimp only [x])

theorem keeps_execRelock {k0 : Bool} {r0 s : State}  (hk : Keeps k0 r0 s) : KeepsOut k0 r0 (execRelock s) := by
  unfold execRelock
  repeat' with_reducible first
    | assumption
    | ((try lift_lets); intro x; first | (refine (fun (hx : Keeps k0 r0 x) => ?_) ?_; on_goal 1 => (try clear_value x)) | (try clear_value x))
    | apply KeepsOut.ite
    | apply keepsOut_done
    | apply Keeps.ite
    | apply keeps_lockClose
    | apply keeps_done
    | split
    | (dsimp only [x])

theorem keeps_kpdLockWrite {k0 : Bool} {r0 s : State} (v : Word) (hk : Keeps k0 r0 s) : Keeps k0 r0 (State.kpdLockWrite s v) := by
  unfold State.kpdLockWrite
  repeat' with_reducible first
    | assumption
    | ((try lift_lets); intro x; first | (refine (fun (hx : Keeps k0 r0 x) => ?_) ?_; on_goal 1 => (try clear_value x)) | (refine (fun (hx : Keeps k0 r0 x.2) => ?_) ?_; on_goal 1 => (try clear_value x)) | (refine (fun (hx : Keeps k0 r0 x.2.2) => ?_) ?_; on_goal 1 => (try clear_value x)) | (try clear_value x))
    | apply Keeps.ite
    | apply keeps_lockClose
    | apply keeps_setRb
    | apply keeps_kpdLastCode
    | apply keeps_lockEntry
    | apply keeps_lockOpen
    | apply Keeps.ite2
    | apply Keeps.ite3
    | split
    | (dsimp only [x])

theorem keeps_execKpdLock {k0 : Bool} {r0 s : State} (who : Init) (hk : Keeps k0 r0 s) : KeepsOut k0 r0 (execKpdLock who s) := by
  unfold execKpdLock
  repeat' with_reducible first
    | assumption
    | apply keepsOut_done
    | (refine keeps_guardWrite _ _ _ _ (fun t ht => ?_) ?_; on_goal 1 => beta_reduce)
    | apply keeps_kpdLockWrite
    | apply keeps_done

theorem keeps_execKpdUnlock {k0 : Bool} {r0 s : State} (who : Init) (hk : Keeps k0 r0 s) : KeepsOut k0 r0 (execKpdUnlock who s) := by
  unfold execKpdUnlock
  repeat' with_reducible first
    | assumption
    | apply keepsOut_done
    | (refine keeps_guardWrite _ _ _ _ (fun t ht => ?_) ?_; on_goal 1 => beta_reduce)
    | apply keeps_kpdLockWrite
    | apply keeps_done

theorem keeps_lockSequence {k0 : Bool} {r0 s : State}  (hk : Keeps k0 r0 s) : Keeps k0 r0 (State.lockSequence s) := by
  unfold State.lockSequence
  repeat' with_reducible first
    | assumption
    | ((try lift_lets); intro x; first | (refine (fun (hx : Keeps k0 r0 x) => ?_) ?_; on_goal 1 => (try clear_value x)) | (try clear_value x))
    | apply Keeps.ite
    | apply keeps_setPos
    | apply keeps_setLock
    | apply keeps_fire
    | fail_if_no_progress apply Keeps.upd
    | split
    | (dsimp only [x])

theorem keeps_lockStart {k0 : Bool} {r0 s : State}  (hk : Keeps k0 r0 s) : Keeps k0 r0 (State.lockStart s) := by
  unfold State.lockStart
  repeat' with_reducible first
    | assumption
    | ((try lift_lets); intro x; first | (refine (fun (hx : Keeps k0 r0 x) => ?_) ?_; on_goal 1 => (try clear_value x)) | (try clear_value x))
    | apply Keeps.ite
    | apply keeps_kpdGoOn
    | apply keeps_setAttempts
    | apply keeps_setLock
    | apply keeps_setPos
    | apply keeps_fire
    | split
    | (dsimp only [x])

theorem keeps_setEnc {k0 : Bool} {r0 s : State} (n : Nat) (v : EncSt) (hk : Keeps k0 r0 s) : Keeps k0 r0 (State.setEnc s n v) := by
  unfold State.setEnc
  repeat' with_reducible first
    | assumption
    | ((try lift_lets); intro x; first | (refine (fun (hx : Keeps k0 r0 x) => ?_) ?_; on_goal 1 => (try clear_value x)) | (try clear_value x))
    | fail_if_no_progress apply Keeps.upd
    | (dsimp only [x])

theorem keeps_encEntry {k0 : Bool} {r0 s : State} (n : Nat) (kind : Nat) (hk : Keeps k0 r0 s) : Keeps k0 r0 (State.encEntry s n kind) := by
  unfold State.encEntry
  repeat' with_reducible first
    | assumption
    | ((try lift_lets); intro x; first | (refine (fun (hx : Keeps k0 r0 x) => ?_) ?_; on_goal 1 => (try clear_value x)) | (try clear_value x))
    | apply Keeps.ite
    | apply keeps_ringOffer
    | apply keeps_fire
    | split
    | (dsimp only [x])

theorem keeps_encPost {k0 : Bool} {r0 s : State} (n : Nat) (hk : Keeps k0 r0 s) : Keeps k0 r0 (State.encPost s n) := by
  unfold State.encPost
  repeat' with_reducible first
    | assumption
    | ((try lift_lets); intro x; first | (refine (fun (hx : Keeps k0 r0 x) => ?_) ?_; on_goal 1 => (try clear_value x)) | (try clear_value x))
    | apply Keeps.ite
    | apply keeps_setEnc
    | apply keeps_encEntry
    | fail_if_no_progress apply Keeps.upd
    | split
    | (dsimp only [x])

theorem keeps_encTicks {k0 : Bool} {r0 s : State}  (hk : Keeps k0 r0 s) : Keeps k0 r0 (State.encTicks s) := by
  unfold State.encTicks
  repeat' with_reducible first
    | assumption
    | (refine keeps_forEach _ _ (fun t n ht => ?_) ?_; on_goal 1 => beta_reduce)
    | apply keeps_encPost

theorem keeps_encStep {k0 : Bool} {r0 s : State} (n : Nat) (p : Nat) (q : Nat) (hk : Keeps k0 r0 s) : Keeps k0 r0 (State.encStep s n p q) := by
  unfold State.encStep
  repeat' with_reducible first
    | assumption
    | ((try lift_lets); intro x; first | (refine (fun (hx : Keeps k0 r0 x) => ?_) ?_; on_goal 1 => (try clear_value x)) | (refine (fun (hx : Keeps k0 r0 x.2) => ?_) ?_; on_goal 1 => (try clear_value x)) | (refine (fun (hx : Keeps k0 r0 x.2.2) => ?_) ?_; on_goal 1 => (try clear_value x)) | (try clear_value x))
    | apply Keeps.ite
    | apply keeps_incSat
    | apply keeps_setEnc
    | apply keeps_fault
    | apply keeps_setRf
    | apply keeps_pinHits
    | apply Keeps.ite2
    | apply Keeps.ite3
    | fail_if_no_progress apply Keeps.upd
    | split
    | (dsimp only [x])

theorem keeps_encPush {k0 : Bool} {r0 s : State} (n : Nat) (p : Bool) (hk : Keeps k0 r0 s) : Keeps k0 r0 (State.encPush s n p) := by
  unfold State.encPush
  repeat' with_reducible first
    | assumption
    | ((try lift_lets); intro x; first | (refine (fun (hx : Keeps k0 r0 x) => ?_) ?_; on_goal 1 => (try clear_value x)) | (try clear_value x))
    | apply Keeps.ite
    | apply keeps_setEnc
    | apply keeps_setRb
    | apply keeps_encEntry
    | fail_if_no_progress apply Keeps.upd
    | split
    | (dsimp only [x])

theorem keeps_execEncoderSample {k0 : Bool} {r0 s : State} (n : Nat) (a : Bool) (b : Bool) (p : Bool) (hk : Keeps k0 r0 s) : KeepsOut k0 r0 (execEncoderSample n a b p s) := by
  unfold execEncoderSample
  repeat' with_reducible first
    | assumption
    | ((try lift_lets); intro x; first | (refine (fun (hx : Keeps k0 r0 x) => ?_) ?_; on_goal 1 => (try clear_value x)) | (try clear_value x))
    | apply KeepsOut.ite
    | apply keepsOut_done
    | apply Keeps.ite
    | apply keeps_setEnc
    | apply keeps_setRb
    | apply keeps_encStep
    | apply keeps_encPush
    | apply keeps_done
    | fail_if_no_progress apply Keeps.upd
    | split
    | (dsimp only [x])

theorem keeps_encCountWrite {k0 : Bool} {r0 s : State} (n : Nat) (v : Word) (hk : Keeps k0 r0 s) : Keeps k0 r0 (State.encCountWrite s n v) := by
  unfold State.encCountWrite
  repeat' with_reducible first
    | assumption
    | ((try lift_lets); intro x; first | (refine (fun (hx : Keeps k0 r0 x) => ?_) ?_; on_goal 1 => (try clear_value x)) | (try clear_value x))
    | apply keeps_setReg
    | apply keeps_setEnc
    | fail_if_no_progress apply Keeps.upd
    | (dsimp only [x])

theorem keeps_encGuard {k0 : Bool} {r0 s : State} (who : Init) (n addr : Nat) (f : State → State) (hf : ∀ t, Keeps k0 r0 t → Keeps k0 r0 (f t))
    (hk : Keeps k0 r0 s) : Keeps k0 r0 (s.encGuard who n addr f) := by
  unfold State.encGuard
  exact Keeps.ite (keeps_hit _ _ _ hk) (keeps_guardWrite _ _ _ _ hf hk)

theorem keeps_execEncoderCountWrite {k0 : Bool} {r0 s : State} (who : Init) (n : Nat) (v : Word) (hk : Keeps k0 r0 s) : KeepsOut k0 r0 (execEncoderCountWrite who n v s) := by
  unfold execEncoderCountWrite
  repeat' with_reducible first
    | assumption
    | apply keepsOut_done
    | (refine keeps_encGuard _ _ _ _ (fun t ht => ?_) ?_; on_goal 1 => beta_reduce)
    | apply keeps_encCountWrite
    | apply keeps_done

theorem keeps_execEncErrRead {k0 : Bool} {r0 s : State} (who : Init) (n : Nat) (hk : Keeps k0 r0 s) : KeepsOut k0 r0 (execEncErrRead who n s) := by
  unfold execEncErrRead
  repeat' with_reducible first
    | assumption
    | ((try lift_lets); intro x; first | (refine (fun (hx : Keeps k0 r0 x) => ?_) ?_; on_goal 1 => (try clear_value x)) | (try clear_value x))
    | apply KeepsOut.ite
    | apply keepsOut_done
    | apply Keeps.ite
    | apply keeps_hit
    | apply keeps_readClear
    | apply keeps_done
    | fail_if_no_progress apply Keeps.upd
    | split
    | (dsimp only [x])

theorem keeps_execKpdDropRead {k0 : Bool} {r0 s : State} (who : Init) (hk : Keeps k0 r0 s) : KeepsOut k0 r0 (execKpdDropRead who s) := by
  unfold execKpdDropRead
  repeat' with_reducible first
    | assumption
    | apply keepsOut_done
    | apply keeps_readClear
    | apply keeps_done

theorem keeps_kpdIgnored {k0 : Bool} {r0 s : State}  (hk : Keeps k0 r0 s) : Keeps k0 r0 (State.kpdIgnored s) := by
  unfold State.kpdIgnored
  repeat' with_reducible first
    | assumption
    | apply keeps_setRb

theorem keeps_kpdWrite {k0 : Bool} {r0 s : State} (off : Nat) (v : Word) (hk : Keeps k0 r0 s) : Keeps k0 r0 (s.kpdWrite off v) := by
  unfold State.kpdWrite
  split
  · exact Keeps.ite (keeps_kpdIgnored hk) (keeps_setReg _ _ hk)
  · exact keeps_setReg _ _ hk
  · exact keeps_clrReg _ _ hk
  · exact keeps_setReg _ _ hk
  · exact keeps_kpdLockWrite _ hk
  · exact Keeps.ite (keeps_kpdIgnored (keeps_setReg _ _ hk)) (Keeps.ite (keeps_setReg _ _ hk) (keeps_lockSequence (keeps_setReg _ _ hk)))
  · exact Keeps.ite (keeps_kpdIgnored hk) (Keeps.upd hk)
  · exact Keeps.ite (keeps_kpdIgnored hk) (Keeps.upd hk)
  · exact hk

theorem keeps_encWrite {k0 : Bool} {r0 s : State} (n : Nat) (off : Nat) (v : Word) (hk : Keeps k0 r0 s) : Keeps k0 r0 (State.encWrite s n off v) := by
  unfold State.encWrite
  repeat' with_reducible first
    | assumption
    | ((try lift_lets); intro x; first | (refine (fun (hx : Keeps k0 r0 x) => ?_) ?_; on_goal 1 => (try clear_value x)) | (try clear_value x))
    | apply keeps_setReg
    | apply keeps_encCountWrite
    | fail_if_no_progress apply Keeps.upd
    | split
    | (dsimp only [x])

theorem keeps_execKpdConfigWrite {k0 : Bool} {r0 s : State} (who : Init) (off : Nat) (v : Word) (hk : Keeps k0 r0 s) : KeepsOut k0 r0 (execKpdConfigWrite who off v s) := by
  unfold execKpdConfigWrite
  repeat' with_reducible first
    | assumption
    | ((try lift_lets); intro x; first | (refine (fun (hx : Keeps k0 r0 x) => ?_) ?_; on_goal 1 => (try clear_value x)) | (try clear_value x))
    | apply KeepsOut.ite
    | apply keepsOut_done
    | apply Keeps.ite
    | (refine keeps_encGuard _ _ _ _ (fun t ht => ?_) ?_; on_goal 1 => beta_reduce)
    | apply keeps_encWrite
    | (refine keeps_guardWrite _ _ _ _ (fun t ht => ?_) ?_; on_goal 1 => beta_reduce)
    | apply keeps_kpdWrite
    | apply keeps_done
    | split
    | (dsimp only [x])

theorem keeps_keysUp {k0 : Bool} {r0 s : State}  (hk : Keeps k0 r0 s) : Keeps k0 r0 (State.keysUp s) := by
  unfold State.keysUp
  repeat' with_reducible first
    | assumption
    | ((try lift_lets); intro x; first | (refine (fun (hx : Keeps k0 r0 x) => ?_) ?_; on_goal 1 => (try clear_value x)) | (try clear_value x))
    | (refine keeps_forEach _ _ (fun t n ht => ?_) ?_; on_goal 1 => beta_reduce)
    | apply keeps_setReg
    | fail_if_no_progress apply Keeps.upd
    | (dsimp only [x])

theorem keeps_kpdTakeover {k0 : Bool} {r0 s : State}  (hk : Keeps k0 r0 s) : Keeps k0 r0 (State.kpdTakeover s) := by
  unfold State.kpdTakeover
  repeat' with_reducible first
    | assumption
    | ((try lift_lets); intro x; first | (refine (fun (hx : Keeps k0 r0 x) => ?_) ?_; on_goal 1 => (try clear_value x)) | (try clear_value x))
    | apply Keeps.ite
    | apply keeps_keysUp
    | apply keeps_setLock
    | apply keeps_setPos
    | apply keeps_setAttempts
    | apply keeps_fault
    | apply keeps_fire
    | split
    | (dsimp only [x])
    | (with_unfolding_all apply Keeps.ite)

theorem keeps_kpdWake {k0 : Bool} {r0 s : State} (secs : Nat) (hk : Keeps k0 r0 s) : Keeps k0 r0 (State.kpdWake s secs) := by
  unfold State.kpdWake
  repeat' with_reducible first
    | assumption
    | ((try lift_lets); intro x; first | (refine (fun (hx : Keeps k0 r0 x) => ?_) ?_; on_goal 1 => (try clear_value x)) | (try clear_value x))
    | apply Keeps.ite
    | apply keeps_kpdShift
    | fail_if_no_progress apply Keeps.upd
    | split
    | (dsimp only [x])

theorem keeps_evtPendWrite {k0 : Bool} {r0 s : State} (hi : Bool) (v : Word) (hk : Keeps k0 r0 s) : Keeps k0 r0 (State.evtPendWrite s hi v) := by
  unfold State.evtPendWrite
  repeat' with_reducible first
    | assumption
    | apply Keeps.ite
    | apply keeps_clrReg
    | split

theorem keeps_execEvtPendClear {k0 : Bool} {r0 s : State} (who : Init) (hi : Bool) (v : Word) (hk : Keeps k0 r0 s) : KeepsOut k0 r0 (execEvtPendClear who hi v s) := by
  unfold execEvtPendClear
  repeat' with_reducible first
    | assumption
    | apply KeepsOut.ite
    | apply keepsOut_done
    | apply Keeps.ite
    | (refine keeps_guardWrite _ _ _ _ (fun t ht => ?_) ?_; on_goal 1 => beta_reduce)
    | apply keeps_evtPendWrite
    | apply keeps_done
    | split

theorem keeps_evtClrWrite {k0 : Bool} {r0 s : State} (hi : Bool) (v : Word) (hk : Keeps k0 r0 s) : Keeps k0 r0 (State.evtClrWrite s hi v) := by
  unfold State.evtClrWrite
  repeat' with_reducible first
    | assumption
    | apply Keeps.ite
    | apply keeps_clrReg
    | split

theorem keeps_execEvtClr {k0 : Bool} {r0 s : State} (who : Init) (hi : Bool) (v : Word) (hk : Keeps k0 r0 s) : KeepsOut k0 r0 (execEvtClr who hi v s) := by
  unfold execEvtClr
  repeat' with_reducible first
    | assumption
    | apply KeepsOut.ite
    | apply keepsOut_done
    | apply Keeps.ite
    | (refine keeps_guardWrite _ _ _ _ (fun t ht => ?_) ?_; on_goal 1 => beta_reduce)
    | apply keeps_evtClrWrite
    | apply keeps_done
    | split

theorem keeps_evtMaskHost {k0 : Bool} {r0 s : State} (hi : Bool) (v : Word) (hk : Keeps k0 r0 s) : Keeps k0 r0 (State.evtMaskHost s hi v) := by
  unfold State.evtMaskHost
  repeat' with_reducible first
    | assumption
    | ((try lift_lets); intro x; first | (refine (fun (hx : Keeps k0 r0 x) => ?_) ?_; on_goal 1 => (try clear_value x)) | (try clear_value x))
    | apply Keeps.ite
    | apply keeps_setReg
    | apply keeps_clrReg
    | split
    | (dsimp only [x])

theorem keeps_execEvtMaskHostWrite {k0 : Bool} {r0 s : State} (who : Init) (hi : Bool) (v : Word) (hk : Keeps k0 r0 s) : KeepsOut k0 r0 (execEvtMaskHostWrite who hi v s) := by
  unfold execEvtMaskHostWrite
  repeat' with_reducible first
    | assumption
    | apply keepsOut_done
    | apply keeps_evtMaskHost
    | apply keeps_done

theorem keeps_evtSoftWrite {k0 : Bool} {r0 s : State} (v : Word) (hk : Keeps k0 r0 s) : Keeps k0 r0 (State.evtSoftWrite s v) := by
  unfold State.evtSoftWrite
  repeat' with_reducible first
    | assumption
    | ((try lift_lets); intro x; first | (refine (fun (hx : Keeps k0 r0 x) => ?_) ?_; on_goal 1 => (try clear_value x)) | (try clear_value x))
    | apply Keeps.ite
    | apply keeps_fire
    | split
    | (dsimp only [x])

theorem keeps_execEvtSoft {k0 : Bool} {r0 s : State} (who : Init) (v : Word) (hk : Keeps k0 r0 s) : KeepsOut k0 r0 (execEvtSoft who v s) := by
  unfold execEvtSoft
  repeat' with_reducible first
    | assumption
    | apply keepsOut_done
    | (refine keeps_guardWrite _ _ _ _ (fun t ht => ?_) ?_; on_goal 1 => beta_reduce)
    | apply keeps_evtSoftWrite
    | apply keeps_done

theorem keeps_ringGuard {k0 : Bool} {r0 s : State} (who : Init) (n addr : Nat) (head tail : Bool) (f : State → State)
    (hf : ∀ t, Keeps k0 r0 t → Keeps k0 r0 (f t)) (hk : Keeps k0 r0 s) : Keeps k0 r0 (s.ringGuard who n addr head tail f) := by
  unfold State.ringGuard
  exact Keeps.ite hk (Keeps.ite (keeps_hit _ _ _ hk) (hf _ hk))

theorem keeps_ringCfgWrite {k0 : Bool} {r0 s : State} (n : Nat) (v : Word) (hk : Keeps k0 r0 s) : Keeps k0 r0 (State.ringCfgWrite s n v) := by
  unfold State.ringCfgWrite
  repeat' with_reducible first
    | assumption
    | ((try lift_lets); intro x; first | (refine (fun (hx : Keeps k0 r0 x) => ?_) ?_; on_goal 1 => (try clear_value x)) | (try clear_value x))
    | apply Keeps.ite
    | apply keeps_setRf
    | apply keeps_ringFlush
    | apply keeps_ringError
    | apply keeps_setReg
    | split
    | (dsimp only [x])

theorem keeps_execRingConfigWrite {k0 : Bool} {r0 s : State} (who : Init) (n : Nat) (v : Word) (hk : Keeps k0 r0 s) : KeepsOut k0 r0 (execRingConfigWrite who n v s) := by
  unfold execRingConfigWrite
  repeat' with_reducible first
    | assumption
    | apply keepsOut_done
    | (refine keeps_ringGuard _ _ _ _ _ _ (fun t ht => ?_) ?_; on_goal 1 => beta_reduce)
    | apply keeps_ringCfgWrite
    | apply keeps_done

theorem keeps_ringBaseWr {k0 : Bool} {r0 s : State} (n : Nat) (v : Word) (hk : Keeps k0 r0 s) : Keeps k0 r0 (State.ringBaseWr s n v) := by
  unfold State.ringBaseWr
  repeat' with_reducible first
    | assumption
    | apply Keeps.ite
    | apply keeps_ringError
    | apply keeps_setReg
    | split

theorem keeps_execRingBaseWrite {k0 : Bool} {r0 s : State} (who : Init) (n : Nat) (v : Word) (hk : Keeps k0 r0 s) : KeepsOut k0 r0 (execRingBaseWrite who n v s) := by
  unfold execRingBaseWrite
  repeat' with_reducible first
    | assumption
    | apply keepsOut_done
    | (refine keeps_ringGuard _ _ _ _ _ _ (fun t ht => ?_) ?_; on_goal 1 => beta_reduce)
    | apply keeps_ringBaseWr
    | apply keeps_done

theorem keeps_ringHeadWr {k0 : Bool} {r0 s : State} (host : Bool) (n : Nat) (v : Word) (hk : Keeps k0 r0 s) : Keeps k0 r0 (State.ringHeadWr s host n v) := by
  unfold State.ringHeadWr
  repeat' with_reducible first
    | assumption
    | ((try lift_lets); intro x; first | (refine (fun (hx : Keeps k0 r0 x) => ?_) ?_; on_goal 1 => (try clear_value x)) | (try clear_value x))
    | apply Keeps.ite
    | apply keeps_ringError
    | apply keeps_setRf
    | split
    | (dsimp only [x])

theorem keeps_execRingHeadWrite {k0 : Bool} {r0 s : State} (who : Init) (n : Nat) (v : Word) (hk : Keeps k0 r0 s) : KeepsOut k0 r0 (execRingHeadWrite who n v s) := by
  unfold execRingHeadWrite
  repeat' with_reducible first
    | assumption
    | apply keepsOut_done
    | (refine keeps_ringGuard _ _ _ _ _ _ (fun t ht => ?_) ?_; on_goal 1 => beta_reduce)
    | (refine keeps_behind _ _ _ _ (fun t ht => ?_) ?_; on_goal 1 => beta_reduce)
    | apply keeps_ringHeadWr
    | apply keeps_done

theorem keeps_ringTailWr {k0 : Bool} {r0 s : State} (host : Bool) (n : Nat) (v : Word) (hk : Keeps k0 r0 s) : Keeps k0 r0 (State.ringTailWr s host n v) := by
  unfold State.ringTailWr
  repeat' with_reducible first
    | assumption
    | ((try lift_lets); intro x; first | (refine (fun (hx : Keeps k0 r0 x) => ?_) ?_; on_goal 1 => (try clear_value x)) | (try clear_value x))
    | apply Keeps.ite
    | apply keeps_ringError
    | apply keeps_setRf
    | apply keeps_ringUnstall
    | split
    | (dsimp only [x])

theorem keeps_execRingTailWrite {k0 : Bool} {r0 s : State} (who : Init) (n : Nat) (v : Word) (hk : Keeps k0 r0 s) : KeepsOut k0 r0 (execRingTailWrite who n v s) := by
  unfold execRingTailWrite
  repeat' with_reducible first
    | assumption
    | apply keepsOut_done
    | (refine keeps_ringGuard _ _ _ _ _ _ (fun t ht => ?_) ?_; on_goal 1 => beta_reduce)
    | (refine keeps_behind _ _ _ _ (fun t ht => ?_) ?_; on_goal 1 => beta_reduce)
    | apply keeps_ringTailWr
    | apply keeps_done

theorem keeps_execRingDropRead {k0 : Bool} {r0 s : State} (who : Init) (n : Nat) (hk : Keeps k0 r0 s) : KeepsOut k0 r0 (execRingDropRead who n s) := by
  unfold execRingDropRead
  repeat' with_reducible first
    | assumption
    | apply keepsOut_done
    | apply keeps_readClear
    | apply keeps_done

theorem keeps_ringEnable {k0 : Bool} {r0 s : State} (n : Nat) (e : Nat) (p : Nat) (hk : Keeps k0 r0 s) : Keeps k0 r0 (State.ringEnable s n e p) := by
  unfold State.ringEnable
  repeat' with_reducible first
    | assumption
    | ((try lift_lets); intro x; first | (refine (fun (hx : Keeps k0 r0 x) => ?_) ?_; on_goal 1 => (try clear_value x)) | (refine (fun (hx : Keeps k0 r0 x.2) => ?_) ?_; on_goal 1 => (try clear_value x)) | (refine (fun (hx : Keeps k0 r0 x.2.2) => ?_) ?_; on_goal 1 => (try clear_value x)) | (try clear_value x))
    | apply Keeps.ite
    | apply keeps_setReg
    | apply keeps_drawNat
    | apply Keeps.ite2
    | apply Keeps.ite3
    | split
    | (dsimp only [x])

theorem keeps_ringSetup {k0 : Bool} {r0 s : State} (n : Nat) (hk : Keeps k0 r0 s) : Keeps k0 r0 (State.ringSetup s n) := by
  unfold State.ringSetup
  repeat' with_reducible first
    | assumption
    | ((try lift_lets); intro x; first | (refine (fun (hx : Keeps k0 r0 x) => ?_) ?_; on_goal 1 => (try clear_value x)) | (refine (fun (hx : Keeps k0 r0 x.2) => ?_) ?_; on_goal 1 => (try clear_value x)) | (refine (fun (hx : Keeps k0 r0 x.2.2) => ?_) ?_; on_goal 1 => (try clear_value x)) | (try clear_value x))
    | apply Keeps.ite
    | apply keeps_ringEnable
    | apply keeps_drawNat
    | apply Keeps.ite2
    | apply Keeps.ite3
    | fail_if_no_progress apply Keeps.upd
    | split
    | (dsimp only [x])

theorem keeps_setBus {k0 : Bool} {r0 s : State} (b : Nat) (v : BusSt) (hk : Keeps k0 r0 s) : Keeps k0 r0 (State.setBus s b v) := by
  unfold State.setBus
  repeat' with_reducible first
    | assumption
    | ((try lift_lets); intro x; first | (refine (fun (hx : Keeps k0 r0 x) => ?_) ?_; on_goal 1 => (try clear_value x)) | (try clear_value x))
    | fail_if_no_progress apply Keeps.upd
    | (dsimp only [x])

theorem keeps_setPoll {k0 : Bool} {r0 s : State} (p : Nat) (v : PollSt) (hk : Keeps k0 r0 s) : Keeps k0 r0 (State.setPoll s p v) := by
  unfold State.setPoll
  repeat' with_reducible first
    | assumption
    | ((try lift_lets); intro x; first | (refine (fun (hx : Keeps k0 r0 x) => ?_) ?_; on_goal 1 => (try clear_value x)) | (try clear_value x))
    | fail_if_no_progress apply Keeps.upd
    | (dsimp only [x])

theorem keeps_sbusIgnored {k0 : Bool} {r0 s : State} (b : Nat) (hk : Keeps k0 r0 s) : Keeps k0 r0 (State.sbusIgnored s b) := by
  unfold State.sbusIgnored
  repeat' with_reducible first
    | assumption
    | apply keeps_setRb

theorem keeps_sbusStart {k0 : Bool} {r0 s : State} (b : Nat) (target : Nat) (wlen : Nat) (rlen : Nat) (poll : Option Nat) (hk : Keeps k0 r0 s) : Keeps k0 r0 (State.sbusStart s b target wlen rlen poll) := by
  unfold State.sbusStart
  repeat' with_reducible first
    | assumption
    | ((try lift_lets); intro x; first | (refine (fun (hx : Keeps k0 r0 x) => ?_) ?_; on_goal 1 => (try clear_value x)) | (try clear_value x))
    | apply keeps_setRf
    | apply keeps_setBus
    | fail_if_no_progress apply Keeps.upd
    | (dsimp only [x])

theorem keeps_sbusCmdWrite {k0 : Bool} {r0 s : State} (b : Nat) (v : Word) (hk : Keeps k0 r0 s) : Keeps k0 r0 (State.sbusCmdWrite s b v) := by
  unfold State.sbusCmdWrite
  repeat' with_reducible first
    | assumption
    | ((try lift_lets); intro x; first | (refine (fun (hx : Keeps k0 r0 x) => ?_) ?_; on_goal 1 => (try clear_value x)) | (try clear_value x))
    | apply Keeps.ite
    | apply keeps_sbusIgnored
    | apply keeps_setReg
    | apply keeps_sbusStart
    | split
    | (dsimp only [x])

theorem keeps_execSbusGo {k0 : Bool} {r0 s : State} (who : Init) (b : Nat) (v : Word) (hk : Keeps k0 r0 s) : KeepsOut k0 r0 (execSbusGo who b v s) := by
  unfold execSbusGo
  repeat' with_reducible first
    | assumption
    | apply KeepsOut.ite
    | apply keepsOut_done
    | apply Keeps.ite
    | (refine keeps_guardWrite _ _ _ _ (fun t ht => ?_) ?_; on_goal 1 => beta_reduce)
    | apply keeps_sbusCmdWrite
    | apply keeps_done
    | split

theorem keeps_sbusStuck {k0 : Bool} {r0 s : State} (b : Nat) (hk : Keeps k0 r0 s) : Keeps k0 r0 (State.sbusStuck s b) := by
  unfold State.sbusStuck
  repeat' with_reducible first
    | assumption
    | ((try lift_lets); intro x; first | (refine (fun (hx : Keeps k0 r0 x) => ?_) ?_; on_goal 1 => (try clear_value x)) | (try clear_value x))
    | apply Keeps.ite
    | apply keeps_setRb
    | apply keeps_fire
    | apply keeps_setBus
    | apply keeps_fault
    | fail_if_no_progress apply Keeps.upd
    | split
    | (dsimp only [x])

theorem keeps_sbusCfgWrite {k0 : Bool} {r0 s : State} (b : Nat) (v : Word) (stuck : Bool) (hk : Keeps k0 r0 s) : Keeps k0 r0 (State.sbusCfgWrite s b v stuck) := by
  unfold State.sbusCfgWrite
  repeat' with_reducible first
    | assumption
    | ((try lift_lets); intro x; first | (refine (fun (hx : Keeps k0 r0 x) => ?_) ?_; on_goal 1 => (try clear_value x)) | (try clear_value x))
    | apply Keeps.ite
    | apply keeps_sbusIgnored
    | apply keeps_setReg
    | apply keeps_sbusStuck
    | split
    | (dsimp only [x])

theorem keeps_execSbusEnable {k0 : Bool} {r0 s : State} (who : Init) (b : Nat) (v : Word) (stuck : Bool) (hk : Keeps k0 r0 s) : KeepsOut k0 r0 (execSbusEnable who b v stuck s) := by
  unfold execSbusEnable
  repeat' with_reducible first
    | assumption
    | apply KeepsOut.ite
    | apply keepsOut_done
    | apply Keeps.ite
    | (refine keeps_guardWrite _ _ _ _ (fun t ht => ?_) ?_; on_goal 1 => beta_reduce)
    | apply keeps_sbusCfgWrite
    | apply keeps_done
    | split

theorem keeps_execSbusDisable {k0 : Bool} {r0 s : State} (who : Init) (b : Nat) (v : Word) (hk : Keeps k0 r0 s) : KeepsOut k0 r0 (execSbusDisable who b v s) := by
  unfold execSbusDisable
  repeat' with_reducible first
    | assumption
    | apply KeepsOut.ite
    | apply keepsOut_done
    | apply Keeps.ite
    | (refine keeps_guardWrite _ _ _ _ (fun t ht => ?_) ?_; on_goal 1 => beta_reduce)
    | apply keeps_sbusCfgWrite
    | apply keeps_done
    | split

theorem keeps_sbusSetRx {k0 : Bool} {r0 s : State} (b : Nat) (rx : List Byte) (hk : Keeps k0 r0 s) : Keeps k0 r0 (State.sbusSetRx s b rx) := by
  unfold State.sbusSetRx
  repeat' with_reducible first
    | assumption
    | (refine keeps_forEach _ _ (fun t n ht => ?_) ?_; on_goal 1 => beta_reduce)
    | apply keeps_setReg

theorem keeps_sbusSetTx {k0 : Bool} {r0 s : State} (b : Nat) (tx : List Byte) (hk : Keeps k0 r0 s) : Keeps k0 r0 (State.sbusSetTx s b tx) := by
  unfold State.sbusSetTx
  repeat' with_reducible first
    | assumption
    | (refine keeps_forEach _ _ (fun t n ht => ?_) ?_; on_goal 1 => beta_reduce)
    | apply keeps_setReg

theorem keeps_pollTransact {k0 : Bool} {r0 s : State} (p : Nat) (wlen : Nat) (rlen : Nat) (hk : Keeps k0 r0 s) : Keeps k0 r0 (State.pollTransact s p wlen rlen) := by
  unfold State.pollTransact
  repeat' with_reducible first
    | assumption
    | ((try lift_lets); intro x; first | (refine (fun (hx : Keeps k0 r0 x) => ?_) ?_; on_goal 1 => (try clear_value x)) | (try clear_value x))
    | apply Keeps.ite
    | apply keeps_sbusSetTx
    | apply keeps_setReg
    | apply keeps_sbusStart
    | split
    | (dsimp only [x])

theorem keeps_pollStart {k0 : Bool} {r0 s : State} (p : Nat) (hk : Keeps k0 r0 s) : Keeps k0 r0 (State.pollStart s p) := by
  unfold State.pollStart
  repeat' with_reducible first
    | assumption
    | ((try lift_lets); intro x; first | (refine (fun (hx : Keeps k0 r0 x) => ?_) ?_; on_goal 1 => (try clear_value x)) | (try clear_value x))
    | apply Keeps.ite
    | apply keeps_setPoll
    | apply keeps_pollTransact
    | fail_if_no_progress apply Keeps.upd
    | split
    | (dsimp only [x])

theorem keeps_pollsStop {k0 : Bool} {r0 s : State}  (hk : Keeps k0 r0 s) : Keeps k0 r0 (State.pollsStop s) := by
  unfold State.pollsStop
  repeat' with_reducible first
    | assumption
    | ((try lift_lets); intro x; first | (refine (fun (hx : Keeps k0 r0 x) => ?_) ?_; on_goal 1 => (try clear_value x)) | (refine (fun (hx : Keeps k0 r0 x.2) => ?_) ?_; on_goal 1 => (try clear_value x)) | (refine (fun (hx : Keeps k0 r0 x.2.2) => ?_) ?_; on_goal 1 => (try clear_value x)) | (try clear_value x))
    | apply Keeps.ite
    | (refine keeps_forEach _ _ (fun t n ht => ?_) ?_; on_goal 1 => beta_reduce)
    | apply keeps_setBus
    | apply Keeps.ite2
    | apply Keeps.ite3
    | fail_if_no_progress apply Keeps.upd
    | split
    | (dsimp only [x])

theorem keeps_sbusBack {k0 : Bool} {r0 s : State}  (hk : Keeps k0 r0 s) : Keeps k0 r0 (State.sbusBack s) := by
  unfold State.sbusBack
  repeat' with_reducible first
    | assumption
    | ((try lift_lets); intro x; first | (refine (fun (hx : Keeps k0 r0 x) => ?_) ?_; on_goal 1 => (try clear_value x)) | (try clear_value x))
    | apply keeps_pollsStop
    | fail_if_no_progress apply Keeps.upd
    | (dsimp only [x])

theorem keeps_sbusStandby {k0 : Bool} {r0 s : State}  (hk : Keeps k0 r0 s) : Keeps k0 r0 (State.sbusStandby s) := by
  unfold State.sbusStandby
  repeat' with_reducible first
    | assumption
    | (refine keeps_forEach _ _ (fun t n ht => ?_) ?_; on_goal 1 => beta_reduce)
    | apply keeps_setRb
    | apply keeps_pollsStop

theorem keeps_pollNext {k0 : Bool} {r0 s : State} (b : Nat) (hk : Keeps k0 r0 s) : Keeps k0 r0 (State.pollNext s b) := by
  unfold State.pollNext
  repeat' with_reducible first
    | assumption
    | ((try lift_lets); intro x; first | (refine (fun (hx : Keeps k0 r0 x) => ?_) ?_; on_goal 1 => (try clear_value x)) | (try clear_value x))
    | apply Keeps.ite
    | apply keeps_setBus
    | apply keeps_pollsStop
    | apply keeps_pollStart
    | fail_if_no_progress apply Keeps.upd
    | split
    | (dsimp only [x])

theorem keeps_pollFail {k0 : Bool} {r0 s : State} (b : Nat) (p : Nat) (status : Nat) (hk : Keeps k0 r0 s) : Keeps k0 r0 (State.pollFail s b p status) := by
  unfold State.pollFail
  repeat' with_reducible first
    | assumption
    | ((try lift_lets); intro x; first | (refine (fun (hx : Keeps k0 r0 x) => ?_) ?_; on_goal 1 => (try clear_value x)) | (try clear_value x))
    | apply Keeps.ite
    | apply keeps_setPoll
    | apply keeps_fault
    | apply keeps_pollNext
    | fail_if_no_progress apply Keeps.upd
    | split
    | (dsimp only [x])

theorem keeps_pollGood {k0 : Bool} {r0 s : State} (b : Nat) (p : Nat) (rx : List Byte) (hk : Keeps k0 r0 s) : Keeps k0 r0 (State.pollGood s b p rx) := by
  unfold State.pollGood
  repeat' with_reducible first
    | assumption
    | ((try lift_lets); intro x; first | (refine (fun (hx : Keeps k0 r0 x) => ?_) ?_; on_goal 1 => (try clear_value x)) | (try clear_value x))
    | apply Keeps.ite
    | apply keeps_pollFail
    | apply keeps_vpvWrite
    | apply keeps_setPoll
    | apply keeps_faultClear
    | apply keeps_pollNext
    | fail_if_no_progress apply Keeps.upd
    | split
    | (dsimp only [x])

theorem keeps_pollTransactionEnd {k0 : Bool} {r0 s : State} (b : Nat) (p : Nat) (status : Nat) (rx : List Byte) (hk : Keeps k0 r0 s) : Keeps k0 r0 (State.pollTransactionEnd s b p status rx) := by
  unfold State.pollTransactionEnd
  repeat' with_reducible first
    | assumption
    | ((try lift_lets); intro x; first | (refine (fun (hx : Keeps k0 r0 x) => ?_) ?_; on_goal 1 => (try clear_value x)) | (try clear_value x))
    | apply Keeps.ite
    | apply keeps_setPoll
    | apply keeps_pollNext
    | apply keeps_pollFail
    | apply keeps_pollGood
    | fail_if_no_progress apply Keeps.upd
    | split
    | (dsimp only [x])

theorem keeps_pollTake {k0 : Bool} {r0 s : State} (p : Nat) (hk : Keeps k0 r0 s) : Keeps k0 r0 (State.pollTake s p) := by
  unfold State.pollTake
  repeat' with_reducible first
    | assumption
    | ((try lift_lets); intro x; first | (refine (fun (hx : Keeps k0 r0 x) => ?_) ?_; on_goal 1 => (try clear_value x)) | (try clear_value x))
    | apply Keeps.ite
    | apply keeps_setPoll
    | apply keeps_setBus
    | apply keeps_pollStart
    | fail_if_no_progress apply Keeps.upd
    | split
    | (dsimp only [x])

theorem keeps_execPollDue {k0 : Bool} {r0 s : State} (p : Nat) (hk : Keeps k0 r0 s) : KeepsOut k0 r0 (execPollDue p s) := by
  unfold execPollDue
  repeat' with_reducible first
    | assumption
    | apply KeepsOut.ite
    | apply keepsOut_done
    | apply Keeps.ite
    | (refine keeps_forEach _ _ (fun t n ht => ?_) ?_; on_goal 1 => beta_reduce)
    | apply keeps_pollTake
    | apply keeps_done
    | split

theorem keeps_execPollWaitEnd {k0 : Bool} {r0 s : State} (p : Nat) (hk : Keeps k0 r0 s) : KeepsOut k0 r0 (execPollWaitEnd p s) := by
  unfold execPollWaitEnd
  repeat' with_reducible first
    | assumption
    | ((try lift_lets); intro x; first | (refine (fun (hx : Keeps k0 r0 x) => ?_) ?_; on_goal 1 => (try clear_value x)) | (try clear_value x))
    | apply KeepsOut.ite
    | apply keepsOut_done
    | apply Keeps.ite
    | apply keeps_done
    | apply keeps_setPoll
    | apply keeps_pollTransact
    | apply keeps_pollNext
    | fail_if_no_progress apply Keeps.upd
    | split
    | (dsimp only [x])

theorem keeps_sbusFinish {k0 : Bool} {r0 s : State} (b : Nat) (bit : Nat) (nack : Nat) (moved : Nat) (rx : List Byte) (hk : Keeps k0 r0 s) : Keeps k0 r0 (State.sbusFinish s b bit nack moved rx) := by
  unfold State.sbusFinish
  repeat' with_reducible first
    | assumption
    | apply keeps_setRb
    | apply keeps_setRf
    | apply keeps_sbusSetRx

theorem keeps_sbusPins {k0 : Bool} {r0 s : State} (b : Nat) (how : SbEnd) (hk : Keeps k0 r0 s) : Keeps k0 r0 (State.sbusPins s b how) := by
  unfold State.sbusPins
  repeat' with_reducible first
    | assumption
    | ((try lift_lets); intro x; first | (refine (fun (hx : Keeps k0 r0 x) => ?_) ?_; on_goal 1 => (try clear_value x)) | (try clear_value x))
    | apply Keeps.ite
    | apply keeps_setRb
    | apply keeps_sbusFinish
    | apply keeps_fire
    | apply keeps_setRf
    | apply keeps_sbusSetRx
    | apply keeps_sbusStuck
    | fail_if_no_progress apply Keeps.upd
    | split
    | (dsimp only [x])

theorem keeps_sbusEnd {k0 : Bool} {r0 s : State} (b : Nat) (how : SbEnd) (hk : Keeps k0 r0 s) : Keeps k0 r0 (State.sbusEnd s b how) := by
  unfold State.sbusEnd
  repeat' with_reducible first
    | assumption
    | ((try lift_lets); intro x; first | (refine (fun (hx : Keeps k0 r0 x) => ?_) ?_; on_goal 1 => (try clear_value x)) | (try clear_value x))
    | apply keeps_sbusPins
    | apply keeps_pollTransactionEnd
    | fail_if_no_progress apply Keeps.upd
    | split
    | (dsimp only [x])

theorem keeps_execSbusTransactionEnd {k0 : Bool} {r0 s : State} (b : Nat) (how : SbEnd) (hk : Keeps k0 r0 s) : KeepsOut k0 r0 (execSbusTransactionEnd b how s) := by
  unfold execSbusTransactionEnd
  repeat' with_reducible first
    | assumption
    | apply KeepsOut.ite
    | apply keepsOut_done
    | apply Keeps.ite
    | apply keeps_sbusEnd
    | apply keeps_done
    | split

theorem keeps_drawBytes {k0 : Bool} {r0 s : State} (n : Nat) (hk : Keeps k0 r0 s) : Keeps k0 r0 (State.drawBytes n s).2 := by
  induction n generalizing s with
  | zero => exact hk
  | succ n ih => exact ih (keeps_drawWord hk)

theorem keeps_execClockStretchTimeout {k0 : Bool} {r0 s : State} (b : Nat) (hk : Keeps k0 r0 s) : KeepsOut k0 r0 (execClockStretchTimeout b s) := by
  unfold execClockStretchTimeout
  repeat' with_reducible first
    | assumption
    | ((try lift_lets); intro x; first | (refine (fun (hx : Keeps k0 r0 x) => ?_) ?_; on_goal 1 => (try clear_value x)) | (refine (fun (hx : Keeps k0 r0 x.2) => ?_) ?_; on_goal 1 => (try clear_value x)) | (refine (fun (hx : Keeps k0 r0 x.2.2) => ?_) ?_; on_goal 1 => (try clear_value x)) | (try clear_value x))
    | apply KeepsOut.ite
    | apply keepsOut_done
    | apply Keeps.ite
    | apply keeps_done
    | apply keeps_drawNat
    | apply keeps_setRb
    | apply keeps_setRf
    | apply keeps_drawBytes
    | apply keeps_sbusSetRx
    | apply keeps_fire
    | apply keeps_pollTransactionEnd
    | apply Keeps.ite2
    | apply Keeps.ite3
    | fail_if_no_progress apply Keeps.upd
    | split
    | (dsimp only [x])

theorem keeps_loadSlices {k0 : Bool} {r0 s : State}  (hk : Keeps k0 r0 s) : Keeps k0 r0 (State.loadSlices s) := by
  unfold State.loadSlices
  repeat' with_reducible first
    | assumption
    | apply Keeps.ite
    | (refine keeps_forEach _ _ (fun t n ht => ?_) ?_; on_goal 1 => beta_reduce)
    | apply keeps_setReg
    | split

theorem keeps_loadFuses {k0 : Bool} {r0 s : State}  (hk : Keeps k0 r0 s) : Keeps k0 r0 (State.loadFuses s) := by
  unfold State.loadFuses
  repeat' with_reducible first
    | assumption
    | ((try lift_lets); intro x; first | (refine (fun (hx : Keeps k0 r0 x) => ?_) ?_; on_goal 1 => (try clear_value x)) | (try clear_value x))
    | apply keeps_loadSlices
    | apply keeps_setReg
    | (refine keeps_forEach _ _ (fun t n ht => ?_) ?_; on_goal 1 => beta_reduce)
    | apply keeps_tboFollow
    | (dsimp only [x])

theorem keeps_linesShow {k0 : Bool} {r0 s : State}  (hk : Keeps k0 r0 s) : Keeps k0 r0 (State.linesShow s) := by
  unfold State.linesShow
  repeat' with_reducible first
    | assumption
    | apply Keeps.ite
    | apply keeps_setRb
    | split

theorem keeps_lineRefresh {k0 : Bool} {r0 s : State}  (hk : Keeps k0 r0 s) : Keeps k0 r0 (State.lineRefresh s) := by
  unfold State.lineRefresh
  repeat' with_reducible first
    | assumption
    | ((try lift_lets); intro x; first | (refine (fun (hx : Keeps k0 r0 x) => ?_) ?_; on_goal 1 => (try clear_value x)) | (try clear_value x))
    | apply Keeps.ite
    | apply keeps_linesShow
    | fail_if_no_progress apply Keeps.upd
    | split
    | (dsimp only [x])

theorem keeps_resetAs {r0 s : State} (cause : Nat) (hk : Keeps false r0 s) : Keeps false r0 (s.resetAs cause) := by
  have h2 : Keeps false r0 (if cause = 1 then s else s.knabFinish) := Keeps.ite hk (keeps_knabFinish hk)
  unfold State.resetAs
  refine keeps_rtcCapture _ (keeps_rtcCapture _ (keeps_linesShow (keeps_setRf _ _ _ _ (keeps_setRf _ _ _ _
    (keeps_setReg _ _ (keeps_setRf _ _ _ _ (keeps_setReg _ _ (keeps_loadFuses ?_))))))))
  exact ⟨h2.pending, h2.variant, h2.fuse,
    fun m => Tab.wf_keep (fun a => (0x50000000 ≤ a && a < 0x50010400) || (!(decide (cause = 1)) && a < 0x70000000)) (h2.mem m),
    fun g => Tab.wf_keep (resetKeeps (decide (cause = 1))) (h2.regs g), h2.now, h2.free, fun _ => by norm_num, fun e => by cases e⟩

theorem keeps_resetHeld {r0 s : State} (cause : Nat) (hk : Keeps false r0 s) : Keeps false r0 (State.resetHeld s cause) := by
  unfold State.resetHeld
  repeat' with_reducible first
    | assumption
    | ((try lift_lets); intro x; first | (refine (fun (hx : Keeps false r0 x) => ?_) ?_; on_goal 1 => (try clear_value x)) | (try clear_value x))
    | apply keeps_resetAs
    | fail_if_no_progress apply Keeps.upd
    | (dsimp only [x])

theorem keeps_shakeGo {k0 : Bool} {r0 s : State}  (hk : Keeps k0 r0 s) : Keeps k0 r0 (State.shakeGo s) := by
  unfold State.shakeGo
  repeat' with_reducible first
    | assumption
    | apply keeps_setRf

theorem keeps_resetRun {r0 s : State} (cause : Nat) (hk : Keeps false r0 s) : Keeps false r0 (State.resetRun s cause) := by
  unfold State.resetRun
  repeat' with_reducible first
    | assumption
    | apply keeps_resetAs
    | apply keeps_shakeGo

theorem keeps_resetRelease {k0 : Bool} {r0 s : State}  (hk : Keeps k0 r0 s) : Keeps k0 r0 (State.resetRelease s) := by
  unfold State.resetRelease
  repeat' with_reducible first
    | assumption
    | ((try lift_lets); intro x; first | (refine (fun (hx : Keeps k0 r0 x) => ?_) ?_; on_goal 1 => (try clear_value x)) | (try clear_value x))
    | apply Keeps.ite
    | apply keeps_shakeGo
    | fail_if_no_progress apply Keeps.upd
    | split
    | (dsimp only [x])

theorem keeps_xtalLost {r0 s : State} (hk : Keeps false r0 s) : Keeps false r0 s.xtalLost := by
  unfold State.xtalLost
  have h := keeps_fire 59 (keeps_setRb Reg.tboStat 1 true hk)
  exact ⟨h.1, h.2, h.3, h.4, h.5, h.6, h.7, h.8, fun e => by cases e⟩

theorem keeps_execXtalStop {r0 s : State}  (hk : Keeps false r0 s) : KeepsOut false r0 (execXtalStop s) := by
  unfold execXtalStop
  repeat' with_reducible first
    | assumption
    | apply KeepsOut.ite
    | apply keepsOut_done
    | apply Keeps.ite
    | apply keeps_xtalLost
    | apply keeps_fault
    | apply keeps_done
    | split

theorem keeps_tboFault {r0 s : State} (both : Bool) (hk : Keeps false r0 s) : Keeps false r0 (State.tboFault s both) := by
  unfold State.tboFault
  repeat' with_reducible first
    | assumption
    | ((try lift_lets); intro x; first | (refine (fun (hx : Keeps false r0 x) => ?_) ?_; on_goal 1 => (try clear_value x)) | (try clear_value x))
    | apply Keeps.ite
    | apply keeps_fire
    | apply keeps_resetHeld
    | fail_if_no_progress apply Keeps.upd
    | split
    | (dsimp only [x])

theorem keeps_execTboRange {r0 s : State}  (hk : Keeps false r0 s) : KeepsOut false r0 (execTboRange s) := by
  unfold execTboRange
  repeat' with_reducible first
    | assumption
    | apply KeepsOut.ite
    | apply keepsOut_done
    | apply Keeps.ite
    | apply keeps_tboFault
    | apply keeps_done
    | split

theorem keeps_execClockLost {r0 s : State}  (hk : Keeps false r0 s) : KeepsOut false r0 (execClockLost s) := by
  unfold execClockLost
  repeat' with_reducible first
    | assumption
    | apply keepsOut_done
    | apply keeps_tboFault
    | apply keeps_done

theorem keeps_execTboRangeRecovery {k0 : Bool} {r0 s : State}  (hk : Keeps k0 r0 s) : KeepsOut k0 r0 (execTboRangeRecovery s) := by
  unfold execTboRangeRecovery
  repeat' with_reducible first
    | assumption
    | apply KeepsOut.ite
    | apply keepsOut_done
    | apply Keeps.ite
    | apply keeps_resetRelease
    | apply keeps_done
    | split

theorem keeps_execTboLock {r0 s : State} (hk : Keeps false r0 s) : KeepsOut false r0 (execTboLock s) := by
  unfold execTboLock
  have h := keeps_setRb Reg.pwrStat 6 true (keeps_setRb Reg.tboStat 0 true hk)
  exact keepsOut_done (Keeps.ite ⟨h.1, h.2, h.3, h.4, h.5, h.6, h.7, h.8, fun e => by cases e⟩ hk)

theorem keeps_execTboDiscipline {k0 : Bool} {r0 s : State} (count : Nat) (hk : Keeps k0 r0 s) : KeepsOut k0 r0 (execTboDiscipline count s) := by
  unfold execTboDiscipline
  repeat' with_reducible first
    | assumption
    | ((try lift_lets); intro x; first | (refine (fun (hx : Keeps k0 r0 x) => ?_) ?_; on_goal 1 => (try clear_value x)) | (refine (fun (hx : Keeps k0 r0 x.2) => ?_) ?_; on_goal 1 => (try clear_value x)) | (refine (fun (hx : Keeps k0 r0 x.2.2) => ?_) ?_; on_goal 1 => (try clear_value x)) | (try clear_value x))
    | apply KeepsOut.ite
    | apply keepsOut_done
    | apply Keeps.ite
    | apply keeps_setReg
    | apply keeps_drawNat
    | apply keeps_setRf
    | apply keeps_tboFollow
    | apply keeps_done
    | apply Keeps.ite2
    | apply Keeps.ite3
    | split
    | (dsimp only [x])

theorem keeps_execXtalResume {r0 s : State} (hk : Keeps false r0 s) : KeepsOut false r0 (execXtalResume s) := by
  unfold execXtalResume
  have h := keeps_setRb Reg.tboStat 1 false hk
  exact keepsOut_done ⟨h.1, h.2, h.3, h.4, h.5, h.6, h.7, h.8, fun e => by cases e⟩

theorem keeps_tbcountRead {k0 : Bool} {r0 s : State}  (hk : Keeps k0 r0 s) : Keeps k0 r0 (State.tbcountRead s) := by
  unfold State.tbcountRead
  repeat' with_reducible first
    | assumption
    | ((try lift_lets); intro x; first | (refine (fun (hx : Keeps k0 r0 x) => ?_) ?_; on_goal 1 => (try clear_value x)) | (try clear_value x))
    | apply keeps_setReg
    | fail_if_no_progress apply Keeps.upd
    | (dsimp only [x])

theorem keeps_execTbcountLoRead {k0 : Bool} {r0 s : State} (who : Init) (hk : Keeps k0 r0 s) : KeepsOut k0 r0 (execTbcountLoRead who s) := by
  unfold execTbcountLoRead
  repeat' with_reducible first
    | assumption
    | apply keepsOut_done
    | apply keeps_tbcountRead
    | apply keeps_done

theorem keeps_setPour {k0 : Bool} {r0 s : State} (k : Nat) (v : PourSt) (hk : Keeps k0 r0 s) : Keeps k0 r0 (State.setPour s k v) := by
  unfold State.setPour
  repeat' with_reducible first
    | assumption
    | ((try lift_lets); intro x; first | (refine (fun (hx : Keeps k0 r0 x) => ?_) ?_; on_goal 1 => (try clear_value x)) | (try clear_value x))
    | apply Keeps.ite
    | fail_if_no_progress apply Keeps.upd
    | split
    | (dsimp only [x])

theorem keeps_setPourStatus {k0 : Bool} {r0 s : State} (k : Nat) (v : Nat) (hk : Keeps k0 r0 s) : Keeps k0 r0 (State.setPourStatus s k v) := by
  unfold State.setPourStatus
  repeat' with_reducible first
    | assumption
    | apply Keeps.ite
    | apply keeps_setRf
    | split

theorem keeps_pourErr {k0 : Bool} {r0 s : State} (e : Nat) (hk : Keeps k0 r0 s) : Keeps k0 r0 (State.pourErr s e) := by
  unfold State.pourErr
  repeat' with_reducible first
    | assumption
    | apply keeps_setRf

theorem keeps_pourNext {k0 : Bool} {r0 s : State} (k : Nat) (hk : Keeps k0 r0 s) : Keeps k0 r0 (State.pourNext s k) := by
  unfold State.pourNext
  repeat' with_reducible first
    | assumption
    | ((try lift_lets); intro x; first | (refine (fun (hx : Keeps k0 r0 x) => ?_) ?_; on_goal 1 => (try clear_value x)) | (try clear_value x))
    | apply Keeps.ite
    | apply keeps_setRf
    | split
    | (dsimp only [x])

theorem keeps_pourEmpty {k0 : Bool} {r0 s : State} (k : Nat) (hk : Keeps k0 r0 s) : Keeps k0 r0 (State.pourEmpty s k) := by
  unfold State.pourEmpty
  repeat' with_reducible first
    | assumption
    | apply keeps_setPour
    | apply keeps_setPourStatus
    | apply keeps_pourNext

theorem keeps_pourBlock {k0 : Bool} {r0 s : State} (net : Bool) (body : List Byte) (hk : Keeps k0 r0 s) : Keeps k0 r0 (State.pourBlock s net body) := by
  unfold State.pourBlock
  repeat' with_reducible first
    | assumption
    | ((try lift_lets); intro x; first | (refine (fun (hx : Keeps k0 r0 x) => ?_) ?_; on_goal 1 => (try clear_value x)) | (try clear_value x))
    | apply Keeps.ite
    | apply keeps_pourErr
    | apply keeps_setPour
    | apply keeps_setPourStatus
    | apply keeps_pourNext
    | fail_if_no_progress apply Keeps.upd
    | split
    | (dsimp only [x])

theorem keeps_pourCheck {k0 : Bool} {r0 s : State} (k : Nat) (hk : Keeps k0 r0 s) : Keeps k0 r0 (State.pourCheck s k) := by
  unfold State.pourCheck
  repeat' with_reducible first
    | assumption
    | ((try lift_lets); intro x; first | (refine (fun (hx : Keeps k0 r0 x) => ?_) ?_; on_goal 1 => (try clear_value x)) | (try clear_value x))
    | apply keeps_setPour
    | apply keeps_setPourStatus
    | fail_if_no_progress apply Keeps.upd
    | (dsimp only [x])

theorem keeps_pourStart {k0 : Bool} {r0 s : State} (k : Nat) (hk : Keeps k0 r0 s) : Keeps k0 r0 (State.pourStart s k) := by
  unfold State.pourStart
  repeat' with_reducible first
    | assumption
    | apply Keeps.ite
    | apply keeps_pourErr
    | apply keeps_pourCheck
    | split

theorem keeps_runtimeLoad {k0 : Bool} {r0 s : State}  (hk : Keeps k0 r0 s) : Keeps k0 r0 (State.runtimeLoad s) := by
  unfold State.runtimeLoad
  repeat' with_reducible first
    | assumption
    | ((try lift_lets); intro x; first | (refine (fun (hx : Keeps k0 r0 x) => ?_) ?_; on_goal 1 => (try clear_value x)) | (try clear_value x))
    | apply keeps_setBytes
    | (dsimp only [x])

theorem keeps_imgReject {k0 : Bool} {r0 s : State} (k : Nat) (cause : Nat) (hk : Keeps k0 r0 s) : Keeps k0 r0 (State.imgReject s k cause) := by
  unfold State.imgReject
  repeat' with_reducible first
    | assumption
    | ((try lift_lets); intro x; first | (refine (fun (hx : Keeps k0 r0 x) => ?_) ?_; on_goal 1 => (try clear_value x)) | (try clear_value x))
    | apply Keeps.ite
    | apply keeps_pourEmpty
    | apply keeps_setRf
    | apply keeps_fire
    | apply keeps_happen
    | apply keeps_fault
    | fail_if_no_progress apply Keeps.upd
    | split
    | (dsimp only [x])

theorem keeps_imgAccept {k0 : Bool} {r0 s : State} (k : Nat) (hk : Keeps k0 r0 s) : Keeps k0 r0 (State.imgAccept s k) := by
  unfold State.imgAccept
  repeat' with_reducible first
    | assumption
    | ((try lift_lets); intro x; first | (refine (fun (hx : Keeps k0 r0 x) => ?_) ?_; on_goal 1 => (try clear_value x)) | (try clear_value x))
    | apply Keeps.ite
    | apply keeps_setPourStatus
    | apply keeps_fire
    | apply keeps_happen
    | apply keeps_fault
    | apply keeps_setRb
    | apply keeps_setRf
    | fail_if_no_progress apply Keeps.upd
    | split
    | (dsimp only [x])

theorem keeps_netEnable {k0 : Bool} {r0 s : State} (p : Nat) (runtime : Bool) (hk : Keeps k0 r0 s) : Keeps k0 r0 (State.netEnable s p runtime) := by
  unfold State.netEnable
  repeat' with_reducible first
    | assumption
    | ((try lift_lets); intro x; first | (refine (fun (hx : Keeps k0 r0 x) => ?_) ?_; on_goal 1 => (try clear_value x)) | (try clear_value x))
    | apply Keeps.ite
    | apply keeps_setReg
    | apply keeps_setRf
    | apply keeps_setRb
    | split
    | (dsimp only [x])

theorem keeps_netPhyNext {k0 : Bool} {r0 s : State}  (hk : Keeps k0 r0 s) : Keeps k0 r0 (State.netPhyNext s) := by
  unfold State.netPhyNext
  repeat' with_reducible first
    | assumption
    | ((try lift_lets); intro x; first | (refine (fun (hx : Keeps k0 r0 x) => ?_) ?_; on_goal 1 => (try clear_value x)) | (try clear_value x))
    | apply keeps_setReg
    | fail_if_no_progress apply Keeps.upd
    | split
    | (dsimp only [x])

theorem keeps_netStart {k0 : Bool} {r0 s : State}  (hk : Keeps k0 r0 s) : Keeps k0 r0 (State.netStart s) := by
  unfold State.netStart
  repeat' with_reducible first
    | assumption
    | ((try lift_lets); intro x; first | (refine (fun (hx : Keeps k0 r0 x) => ?_) ?_; on_goal 1 => (try clear_value x)) | (try clear_value x))
    | apply keeps_netPhyNext
    | fail_if_no_progress apply Keeps.upd
    | (dsimp only [x])

theorem keeps_netMdioEnd {k0 : Bool} {r0 s : State} (data : Nat) (hk : Keeps k0 r0 s) : Keeps k0 r0 (State.netMdioEnd s data) := by
  unfold State.netMdioEnd
  repeat' with_reducible first
    | assumption
    | ((try lift_lets); intro x; first | (refine (fun (hx : Keeps k0 r0 x) => ?_) ?_; on_goal 1 => (try clear_value x)) | (try clear_value x))
    | apply Keeps.ite
    | apply keeps_setRb
    | apply keeps_setRf
    | apply keeps_fault
    | (refine keeps_forEach _ _ (fun t n ht => ?_) ?_; on_goal 1 => beta_reduce)
    | apply keeps_netEnable
    | apply keeps_netPhyNext
    | fail_if_no_progress apply Keeps.upd
    | split
    | (dsimp only [x])

theorem keeps_netMdioWrite {k0 : Bool} {r0 s : State} (v : Word) (hk : Keeps k0 r0 s) : Keeps k0 r0 (State.netMdioWrite s v) := by
  unfold State.netMdioWrite
  repeat' with_reducible first
    | assumption
    | ((try lift_lets); intro x; first | (refine (fun (hx : Keeps k0 r0 x) => ?_) ?_; on_goal 1 => (try clear_value x)) | (try clear_value x))
    | apply Keeps.ite
    | apply keeps_setReg
    | split
    | (dsimp only [x])

theorem keeps_execMdioGo {k0 : Bool} {r0 s : State} (who : Init) (v : Word) (hk : Keeps k0 r0 s) : KeepsOut k0 r0 (execMdioGo who v s) := by
  unfold execMdioGo
  repeat' with_reducible first
    | assumption
    | apply keepsOut_done
    | (refine keeps_guardWrite _ _ _ _ (fun t ht => ?_) ?_; on_goal 1 => beta_reduce)
    | apply keeps_netMdioWrite
    | apply keeps_done

theorem keeps_execMdioDone {k0 : Bool} {r0 s : State} (data : BitVec 16) (hk : Keeps k0 r0 s) : KeepsOut k0 r0 (execMdioDone data s) := by
  unfold execMdioDone
  repeat' with_reducible first
    | assumption
    | apply KeepsOut.ite
    | apply keepsOut_done
    | apply Keeps.ite
    | apply keeps_netMdioEnd
    | apply keeps_done
    | split

theorem keeps_execPlcaLost {k0 : Bool} {r0 s : State} (p : Nat) (hk : Keeps k0 r0 s) : KeepsOut k0 r0 (execPlcaLost p s) := by
  unfold execPlcaLost
  repeat' with_reducible first
    | assumption
    | ((try lift_lets); intro x; first | (refine (fun (hx : Keeps k0 r0 x) => ?_) ?_; on_goal 1 => (try clear_value x)) | (try clear_value x))
    | apply KeepsOut.ite
    | apply keepsOut_done
    | apply Keeps.ite
    | apply keeps_setRb
    | apply keeps_fault
    | apply keeps_done
    | fail_if_no_progress apply Keeps.upd
    | split
    | (dsimp only [x])

theorem keeps_execPlcaResume {k0 : Bool} {r0 s : State} (p : Nat) (hk : Keeps k0 r0 s) : KeepsOut k0 r0 (execPlcaResume p s) := by
  unfold execPlcaResume
  repeat' with_reducible first
    | assumption
    | ((try lift_lets); intro x; first | (refine (fun (hx : Keeps k0 r0 x) => ?_) ?_; on_goal 1 => (try clear_value x)) | (try clear_value x))
    | apply KeepsOut.ite
    | apply keepsOut_done
    | apply Keeps.ite
    | apply keeps_setRb
    | apply keeps_done
    | fail_if_no_progress apply Keeps.upd
    | split
    | (dsimp only [x])

theorem keeps_execPortClock {k0 : Bool} {r0 s : State} (p : Nat) (hk : Keeps k0 r0 s) : KeepsOut k0 r0 (execPortClock p s) := by
  unfold execPortClock
  repeat' with_reducible first
    | assumption
    | ((try lift_lets); intro x; first | (refine (fun (hx : Keeps k0 r0 x) => ?_) ?_; on_goal 1 => (try clear_value x)) | (try clear_value x))
    | apply KeepsOut.ite
    | apply keepsOut_done
    | apply Keeps.ite
    | apply keeps_setRb
    | apply keeps_fault
    | apply keeps_done
    | fail_if_no_progress apply Keeps.upd
    | split
    | (dsimp only [x])

theorem keeps_netQueue {k0 : Bool} {r0 s : State} (p : Nat) (m : NetFrame) (hk : Keeps k0 r0 s) : Keeps k0 r0 (State.netQueue s p m) := by
  unfold State.netQueue
  repeat' with_reducible first
    | assumption
    | ((try lift_lets); intro x; first | (refine (fun (hx : Keeps k0 r0 x) => ?_) ?_; on_goal 1 => (try clear_value x)) | (try clear_value x))
    | apply Keeps.ite
    | fail_if_no_progress apply Keeps.upd
    | split
    | (dsimp only [x])

theorem keeps_netSeqTo {k0 : Bool} {r0 s : State} (q : Nat) (hk : Keeps k0 r0 s) : Keeps k0 r0 (State.netSeqTo s q) := by
  unfold State.netSeqTo
  repeat' with_reducible first
    | assumption
    | ((try lift_lets); intro x; first | (refine (fun (hx : Keeps k0 r0 x) => ?_) ?_; on_goal 1 => (try clear_value x)) | (try clear_value x))
    | apply Keeps.ite
    | apply keeps_setReg
    | apply keeps_setRb
    | apply keeps_fault
    | split
    | (dsimp only [x])

theorem keeps_netSeqNext {k0 : Bool} {r0 s : State}  (hk : Keeps k0 r0 s) : Keeps k0 r0 (State.netSeqNext s) := by
  unfold State.netSeqNext
  repeat' with_reducible first
    | assumption
    | ((try lift_lets); intro x; first | (refine (fun (hx : Keeps k0 r0 x) => ?_) ?_; on_goal 1 => (try clear_value x)) | (try clear_value x))
    | apply Keeps.ite
    | apply keeps_netSeqTo
    | apply keeps_nvStore
    | apply keeps_knabCtrAdd
    | apply keeps_seqSend
    | fail_if_no_progress apply Keeps.upd
    | split
    | (dsimp only [x])

theorem keeps_netEmit {k0 : Bool} {r0 s : State} (root : List Byte) (m : NetFrame) (body : List Byte) (hk : Keeps k0 r0 s) : Keeps k0 r0 (State.netEmit s root m body) := by
  unfold State.netEmit
  repeat' with_reducible first
    | assumption
    | ((try lift_lets); intro x; first | (refine (fun (hx : Keeps k0 r0 x) => ?_) ?_; on_goal 1 => (try clear_value x)) | (try clear_value x))
    | apply keeps_netQueue
    | apply keeps_sendToken
    | (dsimp only [x])

theorem keeps_netSend {k0 : Bool} {r0 s : State} (typ : Nat) (dst : Nat) (session : Nat) (resp : Bool) (body : List Byte) (hk : Keeps k0 r0 s) : Keeps k0 r0 (State.netSend s typ dst session resp body) := by
  unfold State.netSend
  repeat' with_reducible first
    | assumption
    | apply Keeps.ite
    | apply keeps_netEmit
    | apply keeps_netSeqNext
    | split

theorem keeps_netRespond {k0 : Bool} {r0 s : State} (root : List Byte) (typ : Nat) (dst : Nat) (session : Nat) (seq : Nat) (body : List Byte) (hk : Keeps k0 r0 s) : Keeps k0 r0 (State.netRespond s root typ dst session seq body) := by
  unfold State.netRespond
  repeat' with_reducible first
    | assumption
    | apply Keeps.ite
    | apply keeps_netEmit
    | split

theorem keeps_execFrameTransmitDone {k0 : Bool} {r0 s : State} (p : Nat) (collisions : Nat := 0) (hk : Keeps k0 r0 s) : KeepsOut k0 r0 (execFrameTransmitDone p s collisions) := by
  unfold execFrameTransmitDone
  repeat' with_reducible first
    | assumption
    | ((try lift_lets); intro x; first | (refine (fun (hx : Keeps k0 r0 x) => ?_) ?_; on_goal 1 => (try clear_value x)) | (try clear_value x))
    | apply KeepsOut.ite
    | apply keepsOut_done
    | apply Keeps.ite
    | apply keeps_incSat
    | apply keeps_fire
    | apply keeps_done
    | fail_if_no_progress apply Keeps.upd
    | split
    | (dsimp only [x])

theorem keeps_netTagFail {k0 : Bool} {r0 s : State} (src : Nat) (hk : Keeps k0 r0 s) : Keeps k0 r0 (State.netTagFail s src) := by
  unfold State.netTagFail
  repeat' with_reducible first
    | assumption
    | ((try lift_lets); intro x; first | (refine (fun (hx : Keeps k0 r0 x) => ?_) ?_; on_goal 1 => (try clear_value x)) | (try clear_value x))
    | apply Keeps.ite
    | apply keeps_fault
    | fail_if_no_progress apply Keeps.upd
    | split
    | (dsimp only [x])

theorem keeps_netTake {k0 : Bool} {r0 s : State} (src : Nat) (q : Nat) (old : Option NetWin) (hk : Keeps k0 r0 s) : Keeps k0 r0 (State.netTake s src q old) := by
  unfold State.netTake
  repeat' with_reducible first
    | assumption
    | ((try lift_lets); intro x; first | (refine (fun (hx : Keeps k0 r0 x) => ?_) ?_; on_goal 1 => (try clear_value x)) | (try clear_value x))
    | apply Keeps.ite
    | fail_if_no_progress apply Keeps.upd
    | split
    | (dsimp only [x])

theorem keeps_netFail {k0 : Bool} {r0 s : State} (m : NetFrame) (code : Nat) (hk : Keeps k0 r0 s) : Keeps k0 r0 (netFail m code s).2 := by
  unfold netFail
  repeat' with_reducible first
    | assumption
    | apply Keeps.ite
    | split

theorem keeps_netWindow {k0 : Bool} {r0 s : State} (p : Nat) (m : NetFrame) (hk : Keeps k0 r0 s) : Keeps k0 r0 (State.netWindow s p m).2 := by
  unfold State.netWindow
  repeat' with_reducible first
    | assumption
    | ((try lift_lets); intro x; first | (refine (fun (hx : Keeps k0 r0 x) => ?_) ?_; on_goal 1 => (try clear_value x)) | (refine (fun (hx : Keeps k0 r0 x.2) => ?_) ?_; on_goal 1 => (try clear_value x)) | (refine (fun (hx : Keeps k0 r0 x.2.2) => ?_) ?_; on_goal 1 => (try clear_value x)) | (try clear_value x))
    | apply Keeps.ite
    | apply keeps_netTake
    | apply keeps_netFail
    | apply keeps_incSat
    | apply Keeps.ite2
    | apply Keeps.ite3
    | fail_if_no_progress apply Keeps.upd
    | split
    | (dsimp only [x])

theorem keeps_netCheck {k0 : Bool} {r0 s : State} (p : Nat) (m : NetFrame) (hk : Keeps k0 r0 s) : Keeps k0 r0 (State.netCheck s p m).2 := by
  unfold State.netCheck
  repeat' with_reducible first
    | assumption
    | ((try lift_lets); intro x; first | (refine (fun (hx : Keeps k0 r0 x) => ?_) ?_; on_goal 1 => (try clear_value x)) | (try clear_value x))
    | apply Keeps.ite
    | apply keeps_incSat
    | apply keeps_netFail
    | apply keeps_netTagFail
    | apply keeps_netWindow
    | split
    | (dsimp only [x])

theorem keeps_netConflict {k0 : Bool} {r0 s : State}  (hk : Keeps k0 r0 s) : Keeps k0 r0 (State.netConflict s) := by
  unfold State.netConflict
  repeat' with_reducible first
    | assumption
    | ((try lift_lets); intro x; first | (refine (fun (hx : Keeps k0 r0 x) => ?_) ?_; on_goal 1 => (try clear_value x)) | (try clear_value x))
    | apply Keeps.ite
    | apply keeps_setRb
    | apply keeps_fault
    | fail_if_no_progress apply Keeps.upd
    | split
    | (dsimp only [x])

theorem keeps_netRx {k0 : Bool} {r0 s : State} (p : Nat) (hk : Keeps k0 r0 s) : Keeps k0 r0 (State.netRx s p) := by
  unfold State.netRx
  repeat' with_reducible first
    | assumption
    | apply Keeps.ite
    | apply keeps_fire
    | split

theorem keeps_netArrive {k0 : Bool} {r0 s : State} (p : Nat) (m : NetFrame) (f : State → State)
    (hf : ∀ t, Keeps k0 r0 t → Keeps k0 r0 (f t)) (hk : Keeps k0 r0 s) : Keeps k0 r0 (s.netArrive p m f) := by
  unfold State.netArrive
  refine Keeps.ite hk (Keeps.ite (keeps_sendToken _ hk) (Keeps.ite hk ?_))
  have h1 := keeps_netCheck p m hk
  dsimp only
  split
  · exact hf _ (keeps_netRx _ h1)
  · exact keeps_netConflict h1
  · exact h1

theorem keeps_execFrameDrop {k0 : Bool} {r0 s : State} (p : Nat) (m : NetFrame) (hk : Keeps k0 r0 s) : KeepsOut k0 r0 (execFrameDrop p m s) := by
  unfold execFrameDrop
  exact keepsOut_done (Keeps.ite (keeps_netArrive _ _ _ (fun _ ht => ht) hk) hk)

theorem keeps_execWindowClose {k0 : Bool} {r0 s : State} (addr : Nat) (hk : Keeps k0 r0 s) : KeepsOut k0 r0 (execWindowClose addr s) := by
  unfold execWindowClose
  repeat' with_reducible first
    | assumption
    | ((try lift_lets); intro x; first | (refine (fun (hx : Keeps k0 r0 x) => ?_) ?_; on_goal 1 => (try clear_value x)) | (refine (fun (hx : Keeps k0 r0 x.2) => ?_) ?_; on_goal 1 => (try clear_value x)) | (refine (fun (hx : Keeps k0 r0 x.2.2) => ?_) ?_; on_goal 1 => (try clear_value x)) | (try clear_value x))
    | apply KeepsOut.ite
    | apply keepsOut_done
    | apply Keeps.ite
    | apply keeps_done
    | apply Keeps.ite2
    | apply Keeps.ite3
    | fail_if_no_progress apply Keeps.upd
    | split
    | (dsimp only [x])

theorem keeps_execHeartbeatSend {k0 : Bool} {r0 s : State}  (hk : Keeps k0 r0 s) : KeepsOut k0 r0 (execHeartbeatSend s) := by
  unfold execHeartbeatSend
  repeat' with_reducible first
    | assumption
    | ((try lift_lets); intro x; first | (refine (fun (hx : Keeps k0 r0 x) => ?_) ?_; on_goal 1 => (try clear_value x)) | (try clear_value x))
    | apply KeepsOut.ite
    | apply keepsOut_done
    | apply Keeps.ite
    | apply keeps_netSend
    | apply keeps_done
    | fail_if_no_progress apply Keeps.upd
    | split
    | (dsimp only [x])

theorem keeps_mismatchClear {k0 : Bool} {r0 s : State} (src : Nat) (hk : Keeps k0 r0 s) : Keeps k0 r0 (State.mismatchClear s src) := by
  unfold State.mismatchClear
  repeat' with_reducible first
    | assumption
    | ((try lift_lets); intro x; first | (refine (fun (hx : Keeps k0 r0 x) => ?_) ?_; on_goal 1 => (try clear_value x)) | (try clear_value x))
    | apply Keeps.ite
    | fail_if_no_progress apply Keeps.upd
    | split
    | (dsimp only [x])

theorem keeps_mismatchReport {k0 : Bool} {r0 s : State} (src : Nat) (hk : Keeps k0 r0 s) : Keeps k0 r0 (State.mismatchReport s src) := by
  unfold State.mismatchReport
  repeat' with_reducible first
    | assumption
    | ((try lift_lets); intro x; first | (refine (fun (hx : Keeps k0 r0 x) => ?_) ?_; on_goal 1 => (try clear_value x)) | (try clear_value x))
    | apply keeps_fault
    | fail_if_no_progress apply Keeps.upd
    | split
    | (dsimp only [x])

theorem keeps_comparedPut {k0 : Bool} {r0 s : State} (src : Nat) (v : Nat × Nat × Bool × Nat) (hk : Keeps k0 r0 s) : Keeps k0 r0 (State.comparedPut s src v) := by
  unfold State.comparedPut
  repeat' with_reducible first
    | assumption
    | ((try lift_lets); intro x; first | (refine (fun (hx : Keeps k0 r0 x) => ?_) ?_; on_goal 1 => (try clear_value x)) | (try clear_value x))
    | fail_if_no_progress apply Keeps.upd
    | (dsimp only [x])

theorem keeps_digestCompare {k0 : Bool} {r0 s : State} (src : Nat) (digest : Nat) (hk : Keeps k0 r0 s) : Keeps k0 r0 (State.digestCompare s src digest) := by
  unfold State.digestCompare
  repeat' with_reducible first
    | assumption
    | ((try lift_lets); intro x; first | (refine (fun (hx : Keeps k0 r0 x) => ?_) ?_; on_goal 1 => (try clear_value x)) | (refine (fun (hx : Keeps k0 r0 x.2) => ?_) ?_; on_goal 1 => (try clear_value x)) | (refine (fun (hx : Keeps k0 r0 x.2.2) => ?_) ?_; on_goal 1 => (try clear_value x)) | (try clear_value x))
    | apply Keeps.ite
    | apply keeps_mismatchClear
    | apply keeps_comparedPut
    | apply keeps_mismatchReport
    | apply Keeps.ite2
    | apply Keeps.ite3
    | split
    | (dsimp only [x])

theorem keeps_heartbeatTake {k0 : Bool} {r0 s : State} (m : NetFrame) (hk : Keeps k0 r0 s) : Keeps k0 r0 (State.heartbeatTake s m) := by
  unfold State.heartbeatTake
  repeat' with_reducible first
    | assumption
    | ((try lift_lets); intro x; first | (refine (fun (hx : Keeps k0 r0 x) => ?_) ?_; on_goal 1 => (try clear_value x)) | (try clear_value x))
    | apply Keeps.ite
    | apply keeps_digestCompare
    | split
    | (dsimp only [x])

theorem keeps_execHeartbeatReceive {k0 : Bool} {r0 s : State} (p : Nat) (m : NetFrame) (hk : Keeps k0 r0 s) : KeepsOut k0 r0 (execHeartbeatReceive p m s) := by
  unfold execHeartbeatReceive
  repeat' with_reducible first
    | assumption
    | apply KeepsOut.ite
    | apply keepsOut_done
    | apply Keeps.ite
    | (refine keeps_netArrive _ _ _ (fun t ht => ?_) ?_; on_goal 1 => beta_reduce)
    | apply keeps_heartbeatTake
    | apply keeps_done
    | split

theorem keeps_execDigestMismatchClear {k0 : Bool} {r0 s : State} (addr : Nat) (hk : Keeps k0 r0 s) : KeepsOut k0 r0 (execDigestMismatchClear addr s) := by
  unfold execDigestMismatchClear
  repeat' with_reducible first
    | assumption
    | ((try lift_lets); intro x; first | (refine (fun (hx : Keeps k0 r0 x) => ?_) ?_; on_goal 1 => (try clear_value x)) | (try clear_value x))
    | apply KeepsOut.ite
    | apply keepsOut_done
    | apply Keeps.ite
    | apply keeps_mismatchClear
    | apply keeps_done
    | fail_if_no_progress apply Keeps.upd
    | split
    | (dsimp only [x])

theorem keeps_timeTake {k0 : Bool} {r0 s : State} (m : NetFrame) (hk : Keeps k0 r0 s) : Keeps k0 r0 (State.timeTake s m) := by
  unfold State.timeTake
  repeat' with_reducible first
    | assumption
    | apply keeps_rtcBeacon

theorem keeps_execTimeReceive {k0 : Bool} {r0 s : State} (p : Nat) (m : NetFrame) (hk : Keeps k0 r0 s) : KeepsOut k0 r0 (execTimeReceive p m s) := by
  unfold execTimeReceive
  repeat' with_reducible first
    | assumption
    | ((try lift_lets); intro x; first | (refine (fun (hx : Keeps k0 r0 x) => ?_) ?_; on_goal 1 => (try clear_value x)) | (try clear_value x))
    | apply KeepsOut.ite
    | apply keepsOut_done
    | apply Keeps.ite
    | apply keeps_timeTake
    | (refine keeps_netArrive _ _ _ (fun t ht => ?_) ?_; on_goal 1 => beta_reduce)
    | apply keeps_done
    | split
    | (dsimp only [x])

theorem keeps_censusTake {k0 : Bool} {r0 s : State} (m : NetFrame) (hk : Keeps k0 r0 s) : Keeps k0 r0 (State.censusTake s m) := by
  unfold State.censusTake
  repeat' with_reducible first
    | assumption
    | ((try lift_lets); intro x; first | (refine (fun (hx : Keeps k0 r0 x) => ?_) ?_; on_goal 1 => (try clear_value x)) | (refine (fun (hx : Keeps k0 r0 x.2) => ?_) ?_; on_goal 1 => (try clear_value x)) | (refine (fun (hx : Keeps k0 r0 x.2.2) => ?_) ?_; on_goal 1 => (try clear_value x)) | (try clear_value x))
    | apply Keeps.ite
    | apply keeps_netSend
    | apply Keeps.ite2
    | apply Keeps.ite3
    | fail_if_no_progress apply Keeps.upd
    | split
    | (dsimp only [x])

theorem keeps_execCensusReceive {k0 : Bool} {r0 s : State} (p : Nat) (m : NetFrame) (hk : Keeps k0 r0 s) : KeepsOut k0 r0 (execCensusReceive p m s) := by
  unfold execCensusReceive
  repeat' with_reducible first
    | assumption
    | apply KeepsOut.ite
    | apply keepsOut_done
    | apply Keeps.ite
    | (refine keeps_netArrive _ _ _ (fun t ht => ?_) ?_; on_goal 1 => beta_reduce)
    | apply keeps_censusTake
    | apply keeps_done
    | split

theorem keeps_notifyOut {k0 : Bool} {r0 s : State} (n : NotifySt) (hk : Keeps k0 r0 s) : Keeps k0 r0 (State.notifyOut s n) := by
  unfold State.notifyOut
  repeat' with_reducible first
    | assumption
    | ((try lift_lets); intro x; first | (refine (fun (hx : Keeps k0 r0 x) => ?_) ?_; on_goal 1 => (try clear_value x)) | (try clear_value x))
    | apply keeps_netSend
    | fail_if_no_progress apply Keeps.upd
    | (dsimp only [x])

theorem keeps_execNotifySend {k0 : Bool} {r0 s : State}  (hk : Keeps k0 r0 s) : KeepsOut k0 r0 (execNotifySend s) := by
  unfold execNotifySend
  repeat' with_reducible first
    | assumption
    | ((try lift_lets); intro x; first | (refine (fun (hx : Keeps k0 r0 x) => ?_) ?_; on_goal 1 => (try clear_value x)) | (try clear_value x))
    | apply KeepsOut.ite
    | apply keepsOut_done
    | apply Keeps.ite
    | apply keeps_setRf
    | apply keeps_notifyOut
    | apply keeps_done
    | split
    | (dsimp only [x])

theorem keeps_notifyTake {k0 : Bool} {r0 s : State} (m : NetFrame) (hk : Keeps k0 r0 s) : Keeps k0 r0 (State.notifyTake s m) := by
  unfold State.notifyTake
  repeat' with_reducible first
    | assumption
    | ((try lift_lets); intro x; first | (refine (fun (hx : Keeps k0 r0 x) => ?_) ?_; on_goal 1 => (try clear_value x)) | (try clear_value x))
    | apply Keeps.ite
    | apply keeps_netSend
    | fail_if_no_progress apply Keeps.upd
    | split
    | (dsimp only [x])

theorem keeps_execNotifyAck {k0 : Bool} {r0 s : State} (p : Nat) (m : NetFrame) (hk : Keeps k0 r0 s) : KeepsOut k0 r0 (execNotifyAck p m s) := by
  unfold execNotifyAck
  repeat' with_reducible first
    | assumption
    | apply KeepsOut.ite
    | apply keepsOut_done
    | apply Keeps.ite
    | (refine keeps_netArrive _ _ _ (fun t ht => ?_) ?_; on_goal 1 => beta_reduce)
    | apply keeps_notifyTake
    | apply keeps_done
    | split

theorem keeps_execNotifyRetry {k0 : Bool} {r0 s : State}  (hk : Keeps k0 r0 s) : KeepsOut k0 r0 (execNotifyRetry s) := by
  unfold execNotifyRetry
  repeat' with_reducible first
    | assumption
    | ((try lift_lets); intro x; first | (refine (fun (hx : Keeps k0 r0 x) => ?_) ?_; on_goal 1 => (try clear_value x)) | (try clear_value x))
    | apply KeepsOut.ite
    | apply keepsOut_done
    | apply Keeps.ite
    | apply keeps_notifyOut
    | apply keeps_incSat
    | apply keeps_done
    | fail_if_no_progress apply Keeps.upd
    | split
    | (dsimp only [x])

theorem keeps_execPourReceive {k0 : Bool} {r0 s : State} (p : Nat) (m : NetFrame) (hk : Keeps k0 r0 s) : KeepsOut k0 r0 (execPourReceive p m s) := by
  unfold execPourReceive
  repeat' with_reducible first
    | assumption
    | ((try lift_lets); intro x; first | (refine (fun (hx : Keeps k0 r0 x) => ?_) ?_; on_goal 1 => (try clear_value x)) | (try clear_value x))
    | apply KeepsOut.ite
    | apply keepsOut_done
    | apply Keeps.ite
    | (refine keeps_netArrive _ _ _ (fun t ht => ?_) ?_; on_goal 1 => beta_reduce)
    | apply keeps_pourBlock
    | apply keeps_done
    | fail_if_no_progress apply Keeps.upd
    | split
    | (dsimp only [x])

theorem keeps_pourNak {k0 : Bool} {r0 s : State} (k : Nat) (hk : Keeps k0 r0 s) : Keeps k0 r0 (State.pourNak s k) := by
  unfold State.pourNak
  repeat' with_reducible first
    | assumption
    | ((try lift_lets); intro x; first | (refine (fun (hx : Keeps k0 r0 x) => ?_) ?_; on_goal 1 => (try clear_value x)) | (refine (fun (hx : Keeps k0 r0 x.2) => ?_) ?_; on_goal 1 => (try clear_value x)) | (refine (fun (hx : Keeps k0 r0 x.2.2) => ?_) ?_; on_goal 1 => (try clear_value x)) | (try clear_value x))
    | apply Keeps.ite
    | apply keeps_netSend
    | apply Keeps.ite2
    | apply Keeps.ite3
    | fail_if_no_progress apply Keeps.upd
    | split
    | (dsimp only [x])

theorem keeps_pourEndTake {k0 : Bool} {r0 s : State} (m : NetFrame) (hk : Keeps k0 r0 s) : Keeps k0 r0 (State.pourEndTake s m) := by
  unfold State.pourEndTake
  repeat' with_reducible first
    | assumption
    | ((try lift_lets); intro x; first | (refine (fun (hx : Keeps k0 r0 x) => ?_) ?_; on_goal 1 => (try clear_value x)) | (try clear_value x))
    | apply Keeps.ite
    | apply keeps_pourCheck
    | apply keeps_pourNak
    | fail_if_no_progress apply Keeps.upd
    | split
    | (dsimp only [x])

theorem keeps_execPourEndReceive {k0 : Bool} {r0 s : State} (p : Nat) (m : NetFrame) (hk : Keeps k0 r0 s) : KeepsOut k0 r0 (execPourEndReceive p m s) := by
  unfold execPourEndReceive
  repeat' with_reducible first
    | assumption
    | apply KeepsOut.ite
    | apply keepsOut_done
    | apply Keeps.ite
    | (refine keeps_netArrive _ _ _ (fun t ht => ?_) ?_; on_goal 1 => beta_reduce)
    | apply keeps_pourEndTake
    | apply keeps_done
    | split

theorem keeps_execPourNakRetry {k0 : Bool} {r0 s : State}  (hk : Keeps k0 r0 s) : KeepsOut k0 r0 (execPourNakRetry s) := by
  unfold execPourNakRetry
  repeat' with_reducible first
    | assumption
    | apply KeepsOut.ite
    | apply keepsOut_done
    | apply Keeps.ite
    | (refine keeps_forEach _ _ (fun t n ht => ?_) ?_; on_goal 1 => beta_reduce)
    | apply keeps_pourNak
    | apply keeps_done
    | split

theorem keeps_execRootKeyApply {k0 : Bool} {r0 s : State}  (hk : Keeps k0 r0 s) : KeepsOut k0 r0 (execRootKeyApply s) := by
  unfold execRootKeyApply
  repeat' with_reducible first
    | assumption
    | ((try lift_lets); intro x; first | (refine (fun (hx : Keeps k0 r0 x) => ?_) ?_; on_goal 1 => (try clear_value x)) | (try clear_value x))
    | apply KeepsOut.ite
    | apply keepsOut_done
    | apply Keeps.ite
    | apply keeps_setReg
    | apply keeps_setRb
    | apply keeps_done
    | fail_if_no_progress apply Keeps.upd
    | split
    | (dsimp only [x])

theorem keeps_execNetCounterRead {k0 : Bool} {r0 s : State} (who : Init) (p : Nat) (k : Nat) (hk : Keeps k0 r0 s) : KeepsOut k0 r0 (execNetCounterRead who p k s) := by
  unfold execNetCounterRead
  repeat' with_reducible first
    | assumption
    | apply KeepsOut.ite
    | apply keepsOut_done
    | apply Keeps.ite
    | apply keeps_readClear
    | apply keeps_done
    | split

theorem keeps_execNetNotlostRead {k0 : Bool} {r0 s : State} (who : Init) (hk : Keeps k0 r0 s) : KeepsOut k0 r0 (execNetNotlostRead who s) := by
  unfold execNetNotlostRead
  repeat' with_reducible first
    | assumption
    | apply keepsOut_done
    | apply keeps_readClear
    | apply keeps_done

theorem keeps_setLdlCh {k0 : Bool} {r0 s : State} (n : Nat) (v : LdlCh) (hk : Keeps k0 r0 s) : Keeps k0 r0 (State.setLdlCh s n v) := by
  unfold State.setLdlCh
  repeat' with_reducible first
    | assumption
    | ((try lift_lets); intro x; first | (refine (fun (hx : Keeps k0 r0 x) => ?_) ?_; on_goal 1 => (try clear_value x)) | (try clear_value x))
    | fail_if_no_progress apply Keeps.upd
    | (dsimp only [x])

theorem keeps_setLdlState {k0 : Bool} {r0 s : State} (n : Nat) (v : Nat) (hk : Keeps k0 r0 s) : Keeps k0 r0 (State.setLdlState s n v) := by
  unfold State.setLdlState
  repeat' with_reducible first
    | assumption
    | apply keeps_setRf

theorem keeps_ldlEntry {k0 : Bool} {r0 s : State} (n : Nat) (kind : Nat) (cause : Nat) (user : Word) (hk : Keeps k0 r0 s) : Keeps k0 r0 (State.ldlEntry s n kind cause user) := by
  unfold State.ldlEntry
  repeat' with_reducible first
    | assumption
    | ((try lift_lets); intro x; first | (refine (fun (hx : Keeps k0 r0 x) => ?_) ?_; on_goal 1 => (try clear_value x)) | (try clear_value x))
    | apply Keeps.ite
    | apply keeps_ringOffer
    | apply keeps_fire
    | split
    | (dsimp only [x])

theorem keeps_ldlPark {k0 : Bool} {r0 s : State} (n : Nat) (hk : Keeps k0 r0 s) : Keeps k0 r0 (State.ldlPark s n) := by
  unfold State.ldlPark
  repeat' with_reducible first
    | assumption
    | ((try lift_lets); intro x; first | (refine (fun (hx : Keeps k0 r0 x) => ?_) ?_; on_goal 1 => (try clear_value x)) | (try clear_value x))
    | apply Keeps.ite
    | apply keeps_setLdlState
    | apply keeps_ldlEntry
    | split
    | (dsimp only [x])

theorem keeps_ldlGoto {k0 : Bool} {r0 s : State} (n : Nat) (v : Word) (hk : Keeps k0 r0 s) : Keeps k0 r0 (State.ldlGoto s n v) := by
  unfold State.ldlGoto
  repeat' with_reducible first
    | assumption
    | ((try lift_lets); intro x; first | (refine (fun (hx : Keeps k0 r0 x) => ?_) ?_; on_goal 1 => (try clear_value x)) | (try clear_value x))
    | apply Keeps.ite
    | apply keeps_setLdlState
    | apply keeps_setLdlCh
    | apply keeps_ldlPark
    | apply keeps_setRb
    | apply keeps_fire
    | apply keeps_fault
    | fail_if_no_progress apply Keeps.upd
    | split
    | (dsimp only [x])

theorem keeps_ldlFollow {k0 : Bool} {r0 s : State} (n : Nat) (a : Nat) (hk : Keeps k0 r0 s) : Keeps k0 r0 (State.ldlFollow s n a) := by
  unfold State.ldlFollow
  repeat' with_reducible first
    | assumption
    | ((try lift_lets); intro x; first | (refine (fun (hx : Keeps k0 r0 x) => ?_) ?_; on_goal 1 => (try clear_value x)) | (try clear_value x))
    | apply Keeps.ite
    | apply keeps_setLdlCh
    | apply keeps_ldlPark
    | apply keeps_setRb
    | apply keeps_ldlGoto
    | fail_if_no_progress apply Keeps.upd
    | split
    | (dsimp only [x])

theorem keeps_ldlNext {k0 : Bool} {r0 s : State} (n : Nat) (hk : Keeps k0 r0 s) : Keeps k0 r0 (State.ldlNext s n) := by
  unfold State.ldlNext
  repeat' with_reducible first
    | assumption
    | ((try lift_lets); intro x; first | (refine (fun (hx : Keeps k0 r0 x) => ?_) ?_; on_goal 1 => (try clear_value x)) | (try clear_value x))
    | apply Keeps.ite
    | apply keeps_setLdlCh
    | apply keeps_ldlFollow
    | fail_if_no_progress apply Keeps.upd
    | split
    | (dsimp only [x])

theorem keeps_ldlWriteBack {k0 : Bool} {r0 s : State} (n : Nat) (st : Nat) (cause : Nat) (hk : Keeps k0 r0 s) : Keeps k0 r0 (State.ldlWriteBack s n st cause) := by
  unfold State.ldlWriteBack
  repeat' with_reducible first
    | assumption
    | ((try lift_lets); intro x; first | (refine (fun (hx : Keeps k0 r0 x) => ?_) ?_; on_goal 1 => (try clear_value x)) | (try clear_value x))
    | apply keeps_setWord
    | apply keeps_setLdlCh
    | fail_if_no_progress apply Keeps.upd
    | (dsimp only [x])

theorem keeps_ldlComplete {k0 : Bool} {r0 s : State} (n : Nat) (hk : Keeps k0 r0 s) : Keeps k0 r0 (State.ldlComplete s n) := by
  unfold State.ldlComplete
  repeat' with_reducible first
    | assumption
    | ((try lift_lets); intro x; first | (refine (fun (hx : Keeps k0 r0 x) => ?_) ?_; on_goal 1 => (try clear_value x)) | (try clear_value x))
    | apply Keeps.ite
    | apply keeps_ldlWriteBack
    | apply keeps_setReg
    | apply keeps_incWrap
    | apply keeps_ldlEntry
    | apply keeps_ldlNext
    | split
    | (dsimp only [x])

theorem keeps_ldlSlag {k0 : Bool} {r0 s : State} (n : Nat) (cause : Nat) (hk : Keeps k0 r0 s) : Keeps k0 r0 (State.ldlSlag s n cause) := by
  unfold State.ldlSlag
  repeat' with_reducible first
    | assumption
    | ((try lift_lets); intro x; first | (refine (fun (hx : Keeps k0 r0 x) => ?_) ?_; on_goal 1 => (try clear_value x)) | (try clear_value x))
    | apply Keeps.ite
    | apply keeps_ldlWriteBack
    | apply keeps_incWrap
    | apply keeps_setRb
    | apply keeps_setRf
    | apply keeps_incSat
    | apply keeps_fault
    | apply keeps_ldlEntry
    | split
    | (dsimp only [x])

theorem keeps_ldlAbort {k0 : Bool} {r0 s : State} (n : Nat) (hk : Keeps k0 r0 s) : Keeps k0 r0 (State.ldlAbort s n) := by
  unfold State.ldlAbort
  repeat' with_reducible first
    | assumption
    | ((try lift_lets); intro x; first | (refine (fun (hx : Keeps k0 r0 x) => ?_) ?_; on_goal 1 => (try clear_value x)) | (try clear_value x))
    | apply Keeps.ite
    | apply keeps_ldlSlag
    | apply keeps_setLdlCh
    | apply keeps_setRb
    | apply keeps_setLdlState
    | fail_if_no_progress apply Keeps.upd
    | split
    | (dsimp only [x])

theorem keeps_ldlPause {k0 : Bool} {r0 s : State} (n : Nat) (hk : Keeps k0 r0 s) : Keeps k0 r0 (State.ldlPause s n) := by
  unfold State.ldlPause
  repeat' with_reducible first
    | assumption
    | ((try lift_lets); intro x; first | (refine (fun (hx : Keeps k0 r0 x) => ?_) ?_; on_goal 1 => (try clear_value x)) | (try clear_value x))
    | apply Keeps.ite
    | apply keeps_setLdlState
    | fail_if_no_progress apply Keeps.upd
    | split
    | (dsimp only [x])

theorem keeps_ldlResume {k0 : Bool} {r0 s : State} (n : Nat) (hk : Keeps k0 r0 s) : Keeps k0 r0 (State.ldlResume s n) := by
  unfold State.ldlResume
  repeat' with_reducible first
    | assumption
    | ((try lift_lets); intro x; first | (refine (fun (hx : Keeps k0 r0 x) => ?_) ?_; on_goal 1 => (try clear_value x)) | (try clear_value x))
    | apply Keeps.ite
    | apply keeps_setLdlState
    | apply keeps_setRb
    | apply keeps_ldlGoto
    | fail_if_no_progress apply Keeps.upd
    | split
    | (dsimp only [x])

theorem keeps_ldlStart {k0 : Bool} {r0 s : State} (n : Nat) (hk : Keeps k0 r0 s) : Keeps k0 r0 (State.ldlStart s n) := by
  unfold State.ldlStart
  repeat' with_reducible first
    | assumption
    | ((try lift_lets); intro x; first | (refine (fun (hx : Keeps k0 r0 x) => ?_) ?_; on_goal 1 => (try clear_value x)) | (try clear_value x))
    | apply Keeps.ite
    | apply keeps_setRb
    | apply keeps_setReg
    | apply keeps_setLdlState
    | apply keeps_setLdlCh
    | apply keeps_fire
    | apply keeps_fault
    | fail_if_no_progress apply Keeps.upd
    | split
    | (dsimp only [x])

theorem keeps_ldlCtrlWrite {k0 : Bool} {r0 s : State} (n : Nat) (v : Word) (hk : Keeps k0 r0 s) : Keeps k0 r0 (State.ldlCtrlWrite s n v) := by
  unfold State.ldlCtrlWrite
  repeat' with_reducible first
    | assumption
    | ((try lift_lets); intro x; first | (refine (fun (hx : Keeps k0 r0 x) => ?_) ?_; on_goal 1 => (try clear_value x)) | (try clear_value x))
    | apply Keeps.ite
    | apply keeps_setReg
    | apply keeps_setRb
    | apply keeps_ldlAbort
    | apply keeps_ldlPause
    | apply keeps_ldlResume
    | apply keeps_ldlStart
    | fail_if_no_progress apply Keeps.upd
    | split
    | (dsimp only [x])

theorem keeps_ldlDoorbell {k0 : Bool} {r0 s : State} (n : Nat) (hk : Keeps k0 r0 s) : Keeps k0 r0 (State.ldlDoorbell s n) := by
  unfold State.ldlDoorbell
  repeat' with_reducible first
    | assumption
    | ((try lift_lets); intro x; first | (refine (fun (hx : Keeps k0 r0 x) => ?_) ?_; on_goal 1 => (try clear_value x)) | (try clear_value x))
    | apply Keeps.ite
    | apply keeps_setRb
    | apply keeps_ldlGoto
    | fail_if_no_progress apply Keeps.upd
    | split
    | (dsimp only [x])

theorem keeps_ldlGuard {k0 : Bool} {r0 s : State} (who : Init) (n addr : Nat) (f : State → State) (hf : ∀ t, Keeps k0 r0 t → Keeps k0 r0 (f t))
    (hk : Keeps k0 r0 s) : Keeps k0 r0 (s.ldlGuard who n addr f) := by
  unfold State.ldlGuard
  exact Keeps.ite (keeps_guardWrite _ _ _ _ hf hk) hk

theorem keeps_execLadleStart {k0 : Bool} {r0 s : State} (who : Init) (n : Nat) (hk : Keeps k0 r0 s) : KeepsOut k0 r0 (execLadleStart who n s) := by
  unfold execLadleStart
  repeat' with_reducible first
    | assumption
    | apply keepsOut_done
    | (refine keeps_ldlGuard _ _ _ _ (fun t ht => ?_) ?_; on_goal 1 => beta_reduce)
    | apply keeps_ldlCtrlWrite
    | apply keeps_done

theorem keeps_execLadlePause {k0 : Bool} {r0 s : State} (who : Init) (n : Nat) (hk : Keeps k0 r0 s) : KeepsOut k0 r0 (execLadlePause who n s) := by
  unfold execLadlePause
  repeat' with_reducible first
    | assumption
    | apply keepsOut_done
    | (refine keeps_ldlGuard _ _ _ _ (fun t ht => ?_) ?_; on_goal 1 => beta_reduce)
    | apply keeps_ldlCtrlWrite
    | apply keeps_done

theorem keeps_execLadleResume {k0 : Bool} {r0 s : State} (who : Init) (n : Nat) (hk : Keeps k0 r0 s) : KeepsOut k0 r0 (execLadleResume who n s) := by
  unfold execLadleResume
  repeat' with_reducible first
    | assumption
    | apply keepsOut_done
    | (refine keeps_ldlGuard _ _ _ _ (fun t ht => ?_) ?_; on_goal 1 => beta_reduce)
    | apply keeps_ldlCtrlWrite
    | apply keeps_done

theorem keeps_execLadleAbort {k0 : Bool} {r0 s : State} (who : Init) (n : Nat) (hk : Keeps k0 r0 s) : KeepsOut k0 r0 (execLadleAbort who n s) := by
  unfold execLadleAbort
  repeat' with_reducible first
    | assumption
    | apply keepsOut_done
    | (refine keeps_ldlGuard _ _ _ _ (fun t ht => ?_) ?_; on_goal 1 => beta_reduce)
    | apply keeps_ldlCtrlWrite
    | apply keeps_done

theorem keeps_execLadleDoorbell {k0 : Bool} {r0 s : State} (who : Init) (n : Nat) (hk : Keeps k0 r0 s) : KeepsOut k0 r0 (execLadleDoorbell who n s) := by
  unfold execLadleDoorbell
  repeat' with_reducible first
    | assumption
    | apply keepsOut_done
    | (refine keeps_ldlGuard _ _ _ _ (fun t ht => ?_) ?_; on_goal 1 => beta_reduce)
    | (refine keeps_behind _ _ _ _ (fun t ht => ?_) ?_; on_goal 1 => beta_reduce)
    | apply keeps_ldlDoorbell
    | apply keeps_done

theorem keeps_execLdlCounterRead {k0 : Bool} {r0 s : State} (who : Init) (k : Nat) (hk : Keeps k0 r0 s) : KeepsOut k0 r0 (execLdlCounterRead who k s) := by
  unfold execLdlCounterRead
  repeat' with_reducible first
    | assumption
    | apply keepsOut_done
    | apply keeps_readClear
    | apply keeps_done

theorem keeps_ldlTorn {k0 : Bool} {r0 s : State}  (hk : Keeps k0 r0 s) : Keeps k0 r0 (State.ldlTorn s) := by
  unfold State.ldlTorn
  repeat' with_reducible first
    | assumption
    | ((try lift_lets); intro x; first | (refine (fun (hx : Keeps k0 r0 x) => ?_) ?_; on_goal 1 => (try clear_value x)) | (refine (fun (hx : Keeps k0 r0 x.2) => ?_) ?_; on_goal 1 => (try clear_value x)) | (refine (fun (hx : Keeps k0 r0 x.2.2) => ?_) ?_; on_goal 1 => (try clear_value x)) | (try clear_value x))
    | apply Keeps.ite
    | apply keeps_drawNat
    | apply keeps_knabPuts
    | apply Keeps.ite2
    | apply Keeps.ite3
    | fail_if_no_progress apply Keeps.upd
    | split
    | (dsimp only [x])

theorem keeps_ldlHandover {k0 : Bool} {r0 s : State}  (hk : Keeps k0 r0 s) : Keeps k0 r0 (State.ldlHandover s) := by
  unfold State.ldlHandover
  repeat' with_reducible first
    | assumption
    | (refine keeps_forEach _ _ (fun t n ht => ?_) ?_; on_goal 1 => beta_reduce)
    | apply keeps_ldlAbort

theorem keeps_ldlChill {k0 : Bool} {r0 s : State}  (hk : Keeps k0 r0 s) : Keeps k0 r0 (State.ldlChill s) := by
  unfold State.ldlChill
  repeat' with_reducible first
    | assumption
    | ((try lift_lets); intro x; first | (refine (fun (hx : Keeps k0 r0 x) => ?_) ?_; on_goal 1 => (try clear_value x)) | (try clear_value x))
    | (refine keeps_forEach _ _ (fun t n ht => ?_) ?_; on_goal 1 => beta_reduce)
    | apply keeps_setLdlState
    | fail_if_no_progress apply Keeps.upd
    | (dsimp only [x])

theorem keeps_ldlWake {k0 : Bool} {r0 s : State} (lost : Nat) (hk : Keeps k0 r0 s) : Keeps k0 r0 (State.ldlWake s lost) := by
  unfold State.ldlWake
  repeat' with_reducible first
    | assumption
    | ((try lift_lets); intro x; first | (refine (fun (hx : Keeps k0 r0 x) => ?_) ?_; on_goal 1 => (try clear_value x)) | (try clear_value x))
    | apply Keeps.ite
    | (refine keeps_forEach _ _ (fun t n ht => ?_) ?_; on_goal 1 => beta_reduce)
    | apply keeps_setLdlCh
    | apply keeps_setLdlState
    | apply keeps_setRb
    | apply keeps_fire
    | apply keeps_fault
    | fail_if_no_progress apply Keeps.upd
    | split
    | (dsimp only [x])

end Sys2Proof.Machine
end

