-- ==== Sys2Proof/Laws/KeepsC.lean ====
section
/-! SUPPORT. What no command does, continued from Laws/Keeps: ODX, functions, power and the flask. -/

set_option linter.unreachableTactic false
set_option linter.unusedTactic false

namespace Sys2Proof.Machine

theorem keeps_odStage {k0 : Bool} {r0 s : State} (id : Nat) (f : Nat) (v : OdVal) (hk : Keeps k0 r0 s) : Keeps k0 r0 (State.odStage s id f v) := by
  unfold State.odStage
  repeat' with_reducible first
    | assumption
    | ((try lift_lets); intro x; first | (refine (fun (hx : Keeps k0 r0 x) => ?_) ?_; on_goal 1 => (try clear_value x)) | (try clear_value x))
    | fail_if_no_progress apply Keeps.upd
    | (dsimp only [x])

theorem keeps_fnDrop {k0 : Bool} {r0 s : State} (f : Nat) (hk : Keeps k0 r0 s) : Keeps k0 r0 (State.fnDrop s f) := by
  unfold State.fnDrop
  repeat' with_reducible first
    | assumption
    | ((try lift_lets); intro x; first | (refine (fun (hx : Keeps k0 r0 x) => ?_) ?_; on_goal 1 => (try clear_value x)) | (try clear_value x))
    | fail_if_no_progress apply Keeps.upd
    | (dsimp only [x])

theorem keeps_odReadOne {k0 : Bool} {r0 s : State} (r : OdRow) (id : Nat) (committed : Bool) (hk : Keeps k0 r0 s) : Keeps k0 r0 (State.odReadOne s r id committed).2.2 := by
  unfold State.odReadOne
  repeat' with_reducible first
    | assumption
    | ((try lift_lets); intro x; first | (refine (fun (hx : Keeps k0 r0 x) => ?_) ?_; on_goal 1 => (try clear_value x)) | (refine (fun (hx : Keeps k0 r0 x.2) => ?_) ?_; on_goal 1 => (try clear_value x)) | (refine (fun (hx : Keeps k0 r0 x.2.2) => ?_) ?_; on_goal 1 => (try clear_value x)) | (try clear_value x))
    | apply Keeps.ite
    | apply keeps_actStatWord
    | apply Keeps.ite2
    | apply Keeps.ite3
    | fail_if_no_progress apply Keeps.upd
    | split
    | (dsimp only [x])

theorem keeps_withCandidate {k0 : Bool} {r0 s : State} (f : Nat) (hk : Keeps k0 r0 s) : Keeps k0 r0 (State.withCandidate s f) := by
  unfold State.withCandidate
  repeat' with_reducible first
    | assumption
    | ((try lift_lets); intro x; first | (refine (fun (hx : Keeps k0 r0 x) => ?_) ?_; on_goal 1 => (try clear_value x)) | (try clear_value x))
    | fail_if_no_progress apply Keeps.upd
    | (dsimp only [x])

theorem keeps_fnValidate {k0 : Bool} {r0 s : State} (f : Nat) (shake : Bool) (hk : Keeps k0 r0 s) : Keeps k0 r0 (State.fnValidate s f shake).2 := by
  unfold State.fnValidate
  repeat' with_reducible first
    | assumption
    | ((try lift_lets); intro x; first | (refine (fun (hx : Keeps k0 r0 x) => ?_) ?_; on_goal 1 => (try clear_value x)) | (try clear_value x))
    | apply Keeps.ite
    | apply keeps_withCandidate
    | apply keeps_admitWith
    | split
    | (dsimp only [x])

theorem keeps_loadDec {k0 : Bool} {r0 s : State} (d : Nat) (hk : Keeps k0 r0 s) : Keeps k0 r0 (State.loadDec s d) := by
  unfold State.loadDec
  repeat' with_reducible first
    | assumption
    | ((try lift_lets); intro x; first | (refine (fun (hx : Keeps k0 r0 x) => ?_) ?_; on_goal 1 => (try clear_value x)) | (try clear_value x))
    | apply keeps_setReg
    | (dsimp only [x])

theorem keeps_loadEntry {k0 : Bool} {r0 s : State} (i : Nat) (hk : Keeps k0 r0 s) : Keeps k0 r0 (State.loadEntry s i) := by
  unfold State.loadEntry
  repeat' with_reducible first
    | assumption
    | ((try lift_lets); intro x; first | (refine (fun (hx : Keeps k0 r0 x) => ?_) ?_; on_goal 1 => (try clear_value x)) | (try clear_value x))
    | apply keeps_setReg
    | (dsimp only [x])

theorem keeps_loadAcq {k0 : Bool} {r0 s : State}  (hk : Keeps k0 r0 s) : Keeps k0 r0 (State.loadAcq s) := by
  unfold State.loadAcq
  repeat' with_reducible first
    | assumption
    | ((try lift_lets); intro x; first | (refine (fun (hx : Keeps k0 r0 x) => ?_) ?_; on_goal 1 => (try clear_value x)) | (try clear_value x))
    | apply keeps_setRf
    | apply keeps_setReg
    | (refine keeps_foldl _ _ (fun t n ht => ?_) ?_; on_goal 1 => beta_reduce)
    | (refine keeps_forEach _ _ (fun t n ht => ?_) ?_; on_goal 1 => beta_reduce)
    | apply keeps_loadEntry
    | apply keeps_loadDec
    | (dsimp only [x])

theorem keeps_coefPut {k0 : Bool} {r0 s : State} (n : Nat) (off : Nat) (x : Word) (hk : Keeps k0 r0 s) : Keeps k0 r0 (State.coefPut s n off x) := by
  unfold State.coefPut
  repeat' with_reducible first
    | assumption
    | apply keeps_setWord

theorem keeps_loadSlot {k0 : Bool} {r0 s : State} (n : Nat) (hk : Keeps k0 r0 s) : Keeps k0 r0 (State.loadSlot s n) := by
  unfold State.loadSlot
  repeat' with_reducible first
    | assumption
    | ((try lift_lets); intro x; first | (refine (fun (hx : Keeps k0 r0 x) => ?_) ?_; on_goal 1 => (try clear_value x)) | (try clear_value x))
    | apply keeps_coefPut
    | (refine keeps_forEach _ _ (fun t n ht => ?_) ?_; on_goal 1 => beta_reduce)
    | apply keeps_slotOff
    | fail_if_no_progress apply Keeps.upd
    | split
    | (dsimp only [x])

theorem keeps_setApart {k0 : Bool} {r0 s : State} (l : List Nat) (hk : Keeps k0 r0 s) : Keeps k0 r0 (State.setApart s l) := by
  unfold State.setApart
  repeat' with_reducible first
    | assumption
    | ((try lift_lets); intro x; first | (refine (fun (hx : Keeps k0 r0 x) => ?_) ?_; on_goal 1 => (try clear_value x)) | (try clear_value x))
    | fail_if_no_progress apply Keeps.upd
    | (dsimp only [x])

theorem keeps_loadSlots {k0 : Bool} {r0 s : State} (f : Nat) (hk : Keeps k0 r0 s) : Keeps k0 r0 (State.loadSlots s f) := by
  unfold State.loadSlots
  repeat' with_reducible first
    | assumption
    | ((try lift_lets); intro x; first | (refine (fun (hx : Keeps k0 r0 x) => ?_) ?_; on_goal 1 => (try clear_value x)) | (try clear_value x))
    | (refine keeps_forEach _ _ (fun t n ht => ?_) ?_; on_goal 1 => beta_reduce)
    | apply keeps_loadSlot
    | apply keeps_setApart
    | (dsimp only [x])

theorem keeps_slotsApart {k0 : Bool} {r0 s : State} (f : Nat) (hk : Keeps k0 r0 s) : Keeps k0 r0 (State.slotsApart s f) := by
  unfold State.slotsApart
  repeat' with_reducible first
    | assumption
    | ((try lift_lets); intro x; first | (refine (fun (hx : Keeps k0 r0 x) => ?_) ?_; on_goal 1 => (try clear_value x)) | (try clear_value x))
    | apply keeps_setApart
    | (dsimp only [x])

theorem keeps_loadActWords {k0 : Bool} {r0 s : State} (n : Nat) (hk : Keeps k0 r0 s) : Keeps k0 r0 (State.loadActWords s n) := by
  unfold State.loadActWords
  repeat' with_reducible first
    | assumption
    | ((try lift_lets); intro x; first | (refine (fun (hx : Keeps k0 r0 x) => ?_) ?_; on_goal 1 => (try clear_value x)) | (try clear_value x))
    | apply Keeps.ite
    | apply keeps_setReg
    | split
    | (dsimp only [x])

theorem keeps_loadAct {k0 : Bool} {r0 s : State} (n : Nat) (hk : Keeps k0 r0 s) : Keeps k0 r0 (State.loadAct s n) := by
  unfold State.loadAct
  repeat' with_reducible first
    | assumption
    | ((try lift_lets); intro x; first | (refine (fun (hx : Keeps k0 r0 x) => ?_) ?_; on_goal 1 => (try clear_value x)) | (try clear_value x))
    | apply keeps_loadActWords
    | apply keeps_setReg
    | fail_if_no_progress apply Keeps.upd
    | split
    | (dsimp only [x])

theorem keeps_loadAutopt {k0 : Bool} {r0 s : State} (f : Nat) (hk : Keeps k0 r0 s) : Keeps k0 r0 (State.loadAutopt s f) := by
  unfold State.loadAutopt
  repeat' with_reducible first
    | assumption
    | (refine keeps_forEach _ _ (fun t n ht => ?_) ?_; on_goal 1 => beta_reduce)
    | apply keeps_setReg

theorem keeps_loadFan {k0 : Bool} {r0 s : State} (f : Nat) (hk : Keeps k0 r0 s) : Keeps k0 r0 (State.loadFan s f) := by
  unfold State.loadFan
  repeat' with_reducible first
    | assumption
    | ((try lift_lets); intro x; first | (refine (fun (hx : Keeps k0 r0 x) => ?_) ?_; on_goal 1 => (try clear_value x)) | (try clear_value x))
    | apply Keeps.ite
    | apply keeps_setReg
    | (refine keeps_forEach _ _ (fun t n ht => ?_) ?_; on_goal 1 => beta_reduce)
    | apply keeps_loadAutopt
    | split
    | (dsimp only [x])

theorem keeps_loadSupervise {k0 : Bool} {r0 s : State}  (hk : Keeps k0 r0 s) : Keeps k0 r0 (State.loadSupervise s) := by
  unfold State.loadSupervise
  repeat' with_reducible first
    | assumption
    | apply keeps_setReg

theorem keeps_loadShdnSel {k0 : Bool} {r0 s : State}  (hk : Keeps k0 r0 s) : Keeps k0 r0 (State.loadShdnSel s) := by
  unfold State.loadShdnSel
  repeat' with_reducible first
    | assumption
    | ((try lift_lets); intro x; first | (refine (fun (hx : Keeps k0 r0 x) => ?_) ?_; on_goal 1 => (try clear_value x)) | (try clear_value x))
    | apply Keeps.ite
    | apply keeps_setReg
    | (refine keeps_foldl _ _ (fun t n ht => ?_) ?_; on_goal 1 => beta_reduce)
    | split
    | (dsimp only [x])

theorem keeps_loadLockcfg {k0 : Bool} {r0 s : State}  (hk : Keeps k0 r0 s) : Keeps k0 r0 (State.loadLockcfg s) := by
  unfold State.loadLockcfg
  repeat' with_reducible first
    | assumption
    | ((try lift_lets); intro x; first | (refine (fun (hx : Keeps k0 r0 x) => ?_) ?_; on_goal 1 => (try clear_value x)) | (try clear_value x))
    | apply keeps_setReg
    | (dsimp only [x])

theorem keeps_loadSequence {k0 : Bool} {r0 s : State}  (hk : Keeps k0 r0 s) : Keeps k0 r0 (State.loadSequence s) := by
  unfold State.loadSequence
  repeat' with_reducible first
    | assumption
    | ((try lift_lets); intro x; first | (refine (fun (hx : Keeps k0 r0 x) => ?_) ?_; on_goal 1 => (try clear_value x)) | (try clear_value x))
    | apply keeps_setRf
    | fail_if_no_progress apply Keeps.upd
    | (dsimp only [x])

theorem keeps_loadKpd {k0 : Bool} {r0 s : State}  (hk : Keeps k0 r0 s) : Keeps k0 r0 (State.loadKpd s) := by
  unfold State.loadKpd
  repeat' with_reducible first
    | assumption
    | ((try lift_lets); intro x; first | (refine (fun (hx : Keeps k0 r0 x) => ?_) ?_; on_goal 1 => (try clear_value x)) | (try clear_value x))
    | apply keeps_setReg
    | apply keeps_loadLockcfg
    | apply keeps_loadSequence
    | (dsimp only [x])

theorem keeps_loadEnc {k0 : Bool} {r0 s : State} (n : Nat) (hk : Keeps k0 r0 s) : Keeps k0 r0 (State.loadEnc s n) := by
  unfold State.loadEnc
  repeat' with_reducible first
    | assumption
    | ((try lift_lets); intro x; first | (refine (fun (hx : Keeps k0 r0 x) => ?_) ?_; on_goal 1 => (try clear_value x)) | (try clear_value x))
    | apply keeps_setReg
    | (dsimp only [x])

theorem keeps_loadSbus {k0 : Bool} {r0 s : State}  (hk : Keeps k0 r0 s) : Keeps k0 r0 (State.loadSbus s) := by
  unfold State.loadSbus
  repeat' with_reducible first
    | assumption
    | ((try lift_lets); intro x; first | (refine (fun (hx : Keeps k0 r0 x) => ?_) ?_; on_goal 1 => (try clear_value x)) | (try clear_value x))
    | (refine keeps_forEach _ _ (fun t n ht => ?_) ?_; on_goal 1 => beta_reduce)
    | apply keeps_setReg
    | (dsimp only [x])

theorem keeps_loadSet {k0 : Bool} {r0 s : State} (f : Nat) (hk : Keeps k0 r0 s) : Keeps k0 r0 (State.loadSet s f) := by
  unfold State.loadSet
  repeat' with_reducible first
    | assumption
    | ((try lift_lets); intro x; first | (refine (fun (hx : Keeps k0 r0 x) => ?_) ?_; on_goal 1 => (try clear_value x)) | (try clear_value x))
    | apply Keeps.ite
    | apply keeps_loadSlots
    | apply keeps_loadAcq
    | (refine keeps_forEach _ _ (fun t n ht => ?_) ?_; on_goal 1 => beta_reduce)
    | apply keeps_setReg
    | apply keeps_loadKpd
    | apply keeps_loadEnc
    | apply keeps_loadSbus
    | apply keeps_zoneLoad
    | apply keeps_zoneInit
    | apply keeps_loadAct
    | apply keeps_loadFan
    | split
    | (dsimp only [x])

theorem keeps_fnLoad {k0 : Bool} {r0 s : State} (f : Nat) (hk : Keeps k0 r0 s) : Keeps k0 r0 (State.fnLoad s f) := by
  unfold State.fnLoad
  repeat' with_reducible first
    | assumption
    | ((try lift_lets); intro x; first | (refine (fun (hx : Keeps k0 r0 x) => ?_) ?_; on_goal 1 => (try clear_value x)) | (try clear_value x))
    | apply keeps_withCandidate
    | apply keeps_loadSet
    | fail_if_no_progress apply Keeps.upd
    | (dsimp only [x])

theorem keeps_loadRtcMember {k0 : Bool} {r0 s : State} (m : Nat) (hk : Keeps k0 r0 s) : Keeps k0 r0 (State.loadRtcMember s m) := by
  unfold State.loadRtcMember
  repeat' with_reducible first
    | assumption
    | apply Keeps.ite
    | apply keeps_rtcTrimWrite
    | apply keeps_rtcSetTcomp
    | apply keeps_setReg
    | apply keeps_rtcMeasBegin
    | split

theorem keeps_loadRtc {k0 : Bool} {r0 s : State}  (hk : Keeps k0 r0 s) : Keeps k0 r0 (State.loadRtc s) := by
  unfold State.loadRtc
  repeat' with_reducible first
    | assumption
    | (refine keeps_forEach _ _ (fun t n ht => ?_) ?_; on_goal 1 => beta_reduce)
    | apply keeps_loadRtcMember
    | apply keeps_rtcMeasBegin

theorem keeps_startRtc {k0 : Bool} {r0 s : State}  (hk : Keeps k0 r0 s) : Keeps k0 r0 (State.startRtc s) := by
  unfold State.startRtc
  repeat' with_reducible first
    | assumption
    | apply Keeps.ite
    | (refine keeps_forEach _ _ (fun t n ht => ?_) ?_; on_goal 1 => beta_reduce)
    | apply keeps_loadRtcMember
    | apply keeps_rtcMeasBegin
    | split

theorem keeps_loadTwn {k0 : Bool} {r0 s : State}  (hk : Keeps k0 r0 s) : Keeps k0 r0 (State.loadTwn s) := by
  unfold State.loadTwn
  repeat' with_reducible first
    | assumption
    | ((try lift_lets); intro x; first | (refine (fun (hx : Keeps k0 r0 x) => ?_) ?_; on_goal 1 => (try clear_value x)) | (try clear_value x))
    | apply keeps_setReg
    | apply keeps_setRb
    | (dsimp only [x])

theorem keeps_loadPwr {k0 : Bool} {r0 s : State}  (hk : Keeps k0 r0 s) : Keeps k0 r0 (State.loadPwr s) := by
  unfold State.loadPwr
  repeat' with_reducible first
    | assumption
    | ((try lift_lets); intro x; first | (refine (fun (hx : Keeps k0 r0 x) => ?_) ?_; on_goal 1 => (try clear_value x)) | (try clear_value x))
    | apply keeps_setRf
    | apply keeps_setReg
    | (dsimp only [x])

theorem keeps_applyMember {k0 : Bool} {r0 s : State} (id : Nat) (hk : Keeps k0 r0 s) : Keeps k0 r0 (State.applyMember s id) := by
  unfold State.applyMember
  repeat' with_reducible first
    | assumption
    | ((try lift_lets); intro x; first | (refine (fun (hx : Keeps k0 r0 x) => ?_) ?_; on_goal 1 => (try clear_value x)) | (try clear_value x))
    | apply Keeps.ite
    | apply keeps_loadRtcMember
    | apply keeps_setWord
    | apply keeps_loadSlot
    | apply keeps_loadDec
    | apply keeps_loadActWords
    | apply keeps_loadSupervise
    | apply keeps_setReg
    | apply keeps_loadAutopt
    | apply keeps_loadLockcfg
    | apply keeps_setRb
    | apply keeps_loadEnc
    | apply keeps_loadTwn
    | apply keeps_loadPwr
    | fail_if_no_progress apply Keeps.upd
    | split
    | (dsimp only [x])

theorem keeps_nvHeat {k0 : Bool} {r0 s : State} (nv : NvSt) (heat : Nat) (committed : List (Nat × OdVal)) (hk : Keeps k0 r0 s) : Keeps k0 r0 (State.nvHeat s nv heat committed) := by
  unfold State.nvHeat
  repeat' with_reducible first
    | assumption
    | ((try lift_lets); intro x; first | (refine (fun (hx : Keeps k0 r0 x) => ?_) ?_; on_goal 1 => (try clear_value x)) | (refine (fun (hx : Keeps k0 r0 x.2) => ?_) ?_; on_goal 1 => (try clear_value x)) | (refine (fun (hx : Keeps k0 r0 x.2.2) => ?_) ?_; on_goal 1 => (try clear_value x)) | (try clear_value x))
    | apply Keeps.ite
    | apply keeps_nvStore
    | apply Keeps.ite2
    | apply Keeps.ite3
    | fail_if_no_progress apply Keeps.upd
    | split
    | (dsimp only [x])

theorem keeps_odCommit {k0 : Bool} {r0 s : State} (vals : List (Nat × OdVal)) (hk : Keeps k0 r0 s) : Keeps k0 r0 (State.odCommit s vals) := by
  unfold State.odCommit
  repeat' with_reducible first
    | assumption
    | ((try lift_lets); intro x; first | (refine (fun (hx : Keeps k0 r0 x) => ?_) ?_; on_goal 1 => (try clear_value x)) | (refine (fun (hx : Keeps k0 r0 x.2) => ?_) ?_; on_goal 1 => (try clear_value x)) | (refine (fun (hx : Keeps k0 r0 x.2.2) => ?_) ?_; on_goal 1 => (try clear_value x)) | (try clear_value x))
    | (refine keeps_foldl _ _ (fun t n ht => ?_) ?_; on_goal 1 => beta_reduce)
    | apply keeps_odSet
    | fail_if_no_progress apply Keeps.upd
    | (dsimp only [x])

theorem keeps_heatStep {k0 : Bool} {r0 s : State}  (hk : Keeps k0 r0 s) : Keeps k0 r0 (State.heatStep s) := by
  unfold State.heatStep
  repeat' with_reducible first
    | assumption
    | ((try lift_lets); intro x; first | (refine (fun (hx : Keeps k0 r0 x) => ?_) ?_; on_goal 1 => (try clear_value x)) | (try clear_value x))
    | apply keeps_fire
    | apply keeps_happen
    | fail_if_no_progress apply Keeps.upd
    | (dsimp only [x])

theorem keeps_nvRefuses {k0 : Bool} {r0 s : State} (nvOk : Bool) (param : Nat) (nv : NvSt) (hk : Keeps k0 r0 s) : Keeps k0 r0 (State.nvRefuses s nvOk param nv).2 := by
  unfold State.nvRefuses
  repeat' with_reducible first
    | assumption
    | apply Keeps.ite
    | apply keeps_fault
    | split

theorem keeps_odCount {k0 : Bool} {r0 s : State} (i : Nat) (hk : Keeps k0 r0 s) : Keeps k0 r0 (State.odCount s i) := by
  unfold State.odCount
  repeat' with_reducible first
    | assumption
    | ((try lift_lets); intro x; first | (refine (fun (hx : Keeps k0 r0 x) => ?_) ?_; on_goal 1 => (try clear_value x)) | (try clear_value x))
    | fail_if_no_progress apply Keeps.upd
    | (dsimp only [x])

theorem keeps_txnAccept {k0 : Bool} {r0 s : State} (t : Txn) (hk : Keeps k0 r0 s) : Keeps k0 r0 (State.txnAccept s t) := by
  unfold State.txnAccept
  repeat' with_reducible first
    | assumption
    | ((try lift_lets); intro x; first | (refine (fun (hx : Keeps k0 r0 x) => ?_) ?_; on_goal 1 => (try clear_value x)) | (try clear_value x))
    | apply keeps_odCount
    | apply keeps_setRf
    | fail_if_no_progress apply Keeps.upd
    | (dsimp only [x])

theorem keeps_odSend {k0 : Bool} {r0 s : State} (t : Txn) (a : OdAns) (hk : Keeps k0 r0 s) : Keeps k0 r0 (State.odSend s t a) := by
  unfold State.odSend
  repeat' with_reducible first
    | assumption
    | ((try lift_lets); intro x; first | (refine (fun (hx : Keeps k0 r0 x) => ?_) ?_; on_goal 1 => (try clear_value x)) | (try clear_value x))
    | apply Keeps.ite
    | apply keeps_setBytes
    | apply keeps_ringOffer
    | apply keeps_fire
    | apply keeps_netRespond
    | apply keeps_sendToken
    | fail_if_no_progress apply Keeps.upd
    | split
    | (dsimp only [x])

theorem keeps_odCountRefusal {k0 : Bool} {r0 s : State} (code : Nat) (hk : Keeps k0 r0 s) : Keeps k0 r0 (State.odCountRefusal s code) := by
  unfold State.odCountRefusal
  repeat' with_reducible first
    | assumption
    | apply Keeps.ite
    | apply keeps_odCount
    | split

theorem keeps_txnEnd {k0 : Bool} {r0 s : State} (t : Txn) (a : OdAns) (hk : Keeps k0 r0 s) : Keeps k0 r0 (State.txnEnd s t a) := by
  unfold State.txnEnd
  repeat' with_reducible first
    | assumption
    | ((try lift_lets); intro x; first | (refine (fun (hx : Keeps k0 r0 x) => ?_) ?_; on_goal 1 => (try clear_value x)) | (try clear_value x))
    | apply keeps_odCountRefusal
    | apply keeps_odSend
    | fail_if_no_progress apply Keeps.upd
    | (dsimp only [x])

theorem keeps_fnAnswer {k0 : Bool} {r0 s : State} (f : Nat) (code : Nat) (hk : Keeps k0 r0 s) : Keeps k0 r0 (State.fnAnswer s f code) := by
  unfold State.fnAnswer
  repeat' with_reducible first
    | assumption
    | ((try lift_lets); intro x; first | (refine (fun (hx : Keeps k0 r0 x) => ?_) ?_; on_goal 1 => (try clear_value x)) | (try clear_value x))
    | apply Keeps.ite
    | apply keeps_setFn
    | (refine keeps_foldl _ _ (fun t n ht => ?_) ?_; on_goal 1 => beta_reduce)
    | apply keeps_txnEnd
    | fail_if_no_progress apply Keeps.upd
    | split
    | (dsimp only [x])

theorem keeps_fnTo {k0 : Bool} {r0 s : State} (f : Nat) (st : Nat) (hk : Keeps k0 r0 s) : Keeps k0 r0 (State.fnTo s f st) := by
  unfold State.fnTo
  repeat' with_reducible first
    | assumption
    | ((try lift_lets); intro x; first | (refine (fun (hx : Keeps k0 r0 x) => ?_) ?_; on_goal 1 => (try clear_value x)) | (try clear_value x))
    | apply keeps_setFn
    | fail_if_no_progress apply Keeps.upd
    | (dsimp only [x])

theorem keeps_fnCommand {k0 : Bool} {r0 s : State} (f : Nat) (cmd : Nat) (hk : Keeps k0 r0 s) : Keeps k0 r0 (State.fnCommand s f cmd).2 := by
  unfold State.fnCommand
  repeat' with_reducible first
    | assumption
    | ((try lift_lets); intro x; first | (refine (fun (hx : Keeps k0 r0 x) => ?_) ?_; on_goal 1 => (try clear_value x)) | (try clear_value x))
    | apply Keeps.ite
    | apply keeps_fnTo
    | apply keeps_setFn
    | apply keeps_fnDrop
    | fail_if_no_progress apply Keeps.upd
    | split
    | (dsimp only [x])

theorem keeps_fnFail {k0 : Bool} {r0 s : State} (f : Nat) (code : Nat) (hk : Keeps k0 r0 s) : Keeps k0 r0 (State.fnFail s f code) := by
  unfold State.fnFail
  repeat' with_reducible first
    | assumption
    | apply keeps_fnTo
    | apply keeps_fnAnswer

theorem keeps_nvHeatNext {k0 : Bool} {r0 s : State} (vals : List (Nat × OdVal)) (hk : Keeps k0 r0 s) : Keeps k0 r0 (State.nvHeatNext s vals) := by
  unfold State.nvHeatNext
  repeat' with_reducible first
    | assumption
    | apply keeps_nvHeat
    | (refine keeps_foldl _ _ (fun t n ht => ?_) ?_; on_goal 1 => beta_reduce)

theorem keeps_configSend {k0 : Bool} {r0 s : State}  (hk : Keeps k0 r0 s) : Keeps k0 r0 (State.configSend s) := by
  unfold State.configSend
  repeat' with_reducible first
    | assumption
    | apply Keeps.ite
    | apply keeps_sendToken
    | split

theorem keeps_fnStartSteps {k0 : Bool} {r0 s : State} (f : Nat) (nvOk : Bool) (hk : Keeps k0 r0 s) : Keeps k0 r0 (State.fnStartSteps s f nvOk) := by
  unfold State.fnStartSteps
  repeat' with_reducible first
    | assumption
    | ((try lift_lets); intro x; first | (refine (fun (hx : Keeps k0 r0 x) => ?_) ?_; on_goal 1 => (try clear_value x)) | (refine (fun (hx : Keeps k0 r0 x.2) => ?_) ?_; on_goal 1 => (try clear_value x)) | (refine (fun (hx : Keeps k0 r0 x.2.2) => ?_) ?_; on_goal 1 => (try clear_value x)) | (try clear_value x))
    | apply Keeps.ite
    | apply keeps_fnValidate
    | apply keeps_fnFail
    | apply keeps_fnLoad
    | apply keeps_setFn
    | apply keeps_nvRefuses
    | apply keeps_slotsApart
    | apply keeps_nvHeatNext
    | apply Keeps.ite2
    | apply Keeps.ite3
    | fail_if_no_progress apply Keeps.upd
    | split
    | (dsimp only [x])

theorem keeps_fnJoin {k0 : Bool} {r0 s : State} (f : Nat) (staged : List Staged) (hk : Keeps k0 r0 s) : Keeps k0 r0 (State.fnJoin s f staged) := by
  unfold State.fnJoin
  repeat' with_reducible first
    | assumption
    | ((try lift_lets); intro x; first | (refine (fun (hx : Keeps k0 r0 x) => ?_) ?_; on_goal 1 => (try clear_value x)) | (refine (fun (hx : Keeps k0 r0 x.2) => ?_) ?_; on_goal 1 => (try clear_value x)) | (refine (fun (hx : Keeps k0 r0 x.2.2) => ?_) ?_; on_goal 1 => (try clear_value x)) | (try clear_value x))
    | apply Keeps.ite
    | apply keeps_cenJoin
    | apply keeps_acqRun
    | apply keeps_cenStart
    | apply keeps_setRb
    | apply keeps_lockStart
    | (refine keeps_forEach _ _ (fun t n ht => ?_) ?_; on_goal 1 => beta_reduce)
    | apply keeps_drawNat
    | apply keeps_sbusCfgWrite
    | (refine keeps_foldl _ _ (fun t n ht => ?_) ?_; on_goal 1 => beta_reduce)
    | apply keeps_setAct
    | apply Keeps.ite2
    | apply Keeps.ite3
    | fail_if_no_progress apply Keeps.upd
    | split
    | (dsimp only [x])

theorem keeps_fnRelease {k0 : Bool} {r0 s : State} (f : Nat) (hk : Keeps k0 r0 s) : Keeps k0 r0 (State.fnRelease s f) := by
  unfold State.fnRelease
  repeat' with_reducible first
    | assumption
    | ((try lift_lets); intro x; first | (refine (fun (hx : Keeps k0 r0 x) => ?_) ?_; on_goal 1 => (try clear_value x)) | (try clear_value x))
    | apply Keeps.ite
    | (refine keeps_forEach _ _ (fun t n ht => ?_) ?_; on_goal 1 => beta_reduce)
    | apply keeps_setRb
    | fail_if_no_progress apply Keeps.upd
    | split
    | (dsimp only [x])

theorem keeps_fnLeave {k0 : Bool} {r0 s : State} (f : Nat) (hk : Keeps k0 r0 s) : Keeps k0 r0 (State.fnLeave s f) := by
  unfold State.fnLeave
  repeat' with_reducible first
    | assumption
    | ((try lift_lets); intro x; first | (refine (fun (hx : Keeps k0 r0 x) => ?_) ?_; on_goal 1 => (try clear_value x)) | (try clear_value x))
    | apply Keeps.ite
    | apply keeps_cenLeave
    | apply keeps_fnRelease
    | apply keeps_acqHalt
    | apply keeps_cenHalt
    | apply keeps_setRb
    | apply keeps_kpdHold
    | apply keeps_pollsStop
    | apply keeps_zoneStop
    | split
    | (dsimp only [x])

theorem keeps_swapRefresh {k0 : Bool} {r0 s : State}  (hk : Keeps k0 r0 s) : Keeps k0 r0 (State.swapRefresh s) := by
  unfold State.swapRefresh
  repeat' with_reducible first
    | assumption
    | ((try lift_lets); intro x; first | (refine (fun (hx : Keeps k0 r0 x) => ?_) ?_; on_goal 1 => (try clear_value x)) | (try clear_value x))
    | apply Keeps.ite
    | apply keeps_setRf
    | split
    | (dsimp only [x])

theorem keeps_swapNote {k0 : Bool} {r0 s : State}  (hk : Keeps k0 r0 s) : Keeps k0 r0 (State.swapNote s) := by
  unfold State.swapNote
  repeat' with_reducible first
    | assumption
    | apply keeps_swapRefresh
    | apply keeps_sendToken

theorem keeps_swapStarted {k0 : Bool} {r0 s : State} (f : Nat) (hk : Keeps k0 r0 s) : Keeps k0 r0 (State.swapStarted s f) := by
  unfold State.swapStarted
  repeat' with_reducible first
    | assumption
    | ((try lift_lets); intro x; first | (refine (fun (hx : Keeps k0 r0 x) => ?_) ?_; on_goal 1 => (try clear_value x)) | (try clear_value x))
    | fail_if_no_progress apply Keeps.upd
    | (dsimp only [x])

theorem keeps_fnCommitFail {k0 : Bool} {r0 s : State} (f : Nat) (hk : Keeps k0 r0 s) : Keeps k0 r0 (State.fnCommitFail s f) := by
  unfold State.fnCommitFail
  repeat' with_reducible first
    | assumption
    | ((try lift_lets); intro x; first | (refine (fun (hx : Keeps k0 r0 x) => ?_) ?_; on_goal 1 => (try clear_value x)) | (try clear_value x))
    | apply Keeps.ite
    | apply keeps_setFn
    | apply keeps_slotsApart
    | apply keeps_fnFail
    | apply keeps_nvHeat
    | fail_if_no_progress apply Keeps.upd
    | split
    | (dsimp only [x])

theorem keeps_fnCommitStart {k0 : Bool} {r0 s : State} (f : Nat) (hk : Keeps k0 r0 s) : Keeps k0 r0 (State.fnCommitStart s f) := by
  unfold State.fnCommitStart
  repeat' with_reducible first
    | assumption
    | ((try lift_lets); intro x; first | (refine (fun (hx : Keeps k0 r0 x) => ?_) ?_; on_goal 1 => (try clear_value x)) | (refine (fun (hx : Keeps k0 r0 x.2) => ?_) ?_; on_goal 1 => (try clear_value x)) | (refine (fun (hx : Keeps k0 r0 x.2.2) => ?_) ?_; on_goal 1 => (try clear_value x)) | (try clear_value x))
    | apply Keeps.ite
    | apply keeps_withCandidate
    | apply keeps_fnCommitFail
    | (refine keeps_foldl _ _ (fun t n ht => ?_) ?_; on_goal 1 => beta_reduce)
    | apply keeps_odSet
    | apply keeps_swapStarted
    | apply keeps_swapNote
    | apply keeps_odCommit
    | apply keeps_heatStep
    | apply keeps_fnDrop
    | apply keeps_fnTo
    | apply keeps_setFn
    | apply keeps_setApart
    | apply keeps_fnJoin
    | apply keeps_fnAnswer
    | apply keeps_configSend
    | apply Keeps.ite2
    | apply Keeps.ite3
    | fail_if_no_progress apply Keeps.upd
    | split
    | (dsimp only [x])

theorem keeps_fnCommitStop {k0 : Bool} {r0 s : State} (f : Nat) (hk : Keeps k0 r0 s) : Keeps k0 r0 (State.fnCommitStop s f) := by
  unfold State.fnCommitStop
  repeat' with_reducible first
    | assumption
    | ((try lift_lets); intro x; first | (refine (fun (hx : Keeps k0 r0 x) => ?_) ?_; on_goal 1 => (try clear_value x)) | (try clear_value x))
    | apply Keeps.ite
    | apply keeps_fnTo
    | apply keeps_fnLeave
    | apply keeps_fnAnswer
    | apply keeps_configSend
    | split
    | (dsimp only [x])

theorem keeps_actBack {k0 : Bool} {r0 s : State}  (hk : Keeps k0 r0 s) : Keeps k0 r0 (State.actBack s) := by
  unfold State.actBack
  repeat' with_reducible first
    | assumption
    | ((try lift_lets); intro x; first | (refine (fun (hx : Keeps k0 r0 x) => ?_) ?_; on_goal 1 => (try clear_value x)) | (try clear_value x))
    | (refine keeps_forEach _ _ (fun t n ht => ?_) ?_; on_goal 1 => beta_reduce)
    | apply keeps_setAct
    | fail_if_no_progress apply Keeps.upd
    | (dsimp only [x])

theorem keeps_fanBack {k0 : Bool} {r0 s : State}  (hk : Keeps k0 r0 s) : Keeps k0 r0 (State.fanBack s) := by
  unfold State.fanBack
  repeat' with_reducible first
    | assumption
    | ((try lift_lets); intro x; first | (refine (fun (hx : Keeps k0 r0 x) => ?_) ?_; on_goal 1 => (try clear_value x)) | (try clear_value x))
    | (refine keeps_forEach _ _ (fun t n ht => ?_) ?_; on_goal 1 => beta_reduce)
    | apply keeps_setFan
    | (dsimp only [x])

theorem keeps_unitBack {k0 : Bool} {r0 s : State} (n : Nat) (hk : Keeps k0 r0 s) : Keeps k0 r0 (State.unitBack s n) := by
  unfold State.unitBack
  repeat' with_reducible first
    | assumption
    | ((try lift_lets); intro x; first | (refine (fun (hx : Keeps k0 r0 x) => ?_) ?_; on_goal 1 => (try clear_value x)) | (try clear_value x))
    | apply Keeps.ite
    | apply keeps_actBack
    | apply keeps_fanBack
    | apply keeps_keepRegs
    | apply keeps_loadSlices
    | apply keeps_cenClear
    | apply keeps_setReg
    | apply keeps_rtcMeasOff
    | apply keeps_loadRtc
    | apply keeps_sbusBack
    | fail_if_no_progress apply Keeps.upd
    | split
    | (dsimp only [x])

theorem keeps_ownDrop {k0 : Bool} {r0 s : State}  (hk : Keeps k0 r0 s) : Keeps k0 r0 (State.ownDrop s) := by
  unfold State.ownDrop
  repeat' with_reducible first
    | assumption
    | ((try lift_lets); intro x; first | (refine (fun (hx : Keeps k0 r0 x) => ?_) ?_; on_goal 1 => (try clear_value x)) | (try clear_value x))
    | apply keeps_setReg
    | (refine keeps_forEach _ _ (fun t n ht => ?_) ?_; on_goal 1 => beta_reduce)
    | apply keeps_unitBack
    | (dsimp only [x])

theorem keeps_ownTake {k0 : Bool} {r0 s : State}  (hk : Keeps k0 r0 s) : Keeps k0 r0 (State.ownTake s) := by
  unfold State.ownTake
  repeat' with_reducible first
    | assumption
    | ((try lift_lets); intro x; first | (refine (fun (hx : Keeps k0 r0 x) => ?_) ?_; on_goal 1 => (try clear_value x)) | (try clear_value x))
    | apply Keeps.ite
    | apply keeps_setReg
    | (refine keeps_forEach _ _ (fun t n ht => ?_) ?_; on_goal 1 => beta_reduce)
    | apply keeps_unitBack
    | apply keeps_pollsStop
    | apply keeps_ldlHandover
    | fail_if_no_progress apply Keeps.upd
    | split
    | (dsimp only [x])

theorem keeps_boundaryCommits {k0 : Bool} {r0 s : State}  (hk : Keeps k0 r0 s) : Keeps k0 r0 (State.boundaryCommits s) := by
  unfold State.boundaryCommits
  repeat' with_reducible first
    | assumption
    | ((try lift_lets); intro x; first | (refine (fun (hx : Keeps k0 r0 x) => ?_) ?_; on_goal 1 => (try clear_value x)) | (try clear_value x))
    | apply Keeps.ite
    | apply keeps_ownTake
    | (refine keeps_forEach _ _ (fun t n ht => ?_) ?_; on_goal 1 => beta_reduce)
    | apply keeps_fnCommitStop
    | apply keeps_fnCommitStart
    | split
    | (dsimp only [x])

theorem keeps_execFunctionStop {k0 : Bool} {r0 s : State} (f : Nat) (hk : Keeps k0 r0 s) : KeepsOut k0 r0 (execFunctionStop f s) := by
  unfold execFunctionStop
  repeat' with_reducible first
    | assumption
    | apply KeepsOut.ite
    | apply keepsOut_done
    | apply Keeps.ite
    | apply keeps_fnCommand
    | apply keeps_done
    | apply Keeps.ite2
    | apply Keeps.ite3
    | split

theorem keeps_execFunctionStart {k0 : Bool} {r0 s : State} (f : Nat) (nvOk : Bool) (hk : Keeps k0 r0 s) : KeepsOut k0 r0 (execFunctionStart f nvOk s) := by
  unfold execFunctionStart
  repeat' with_reducible first
    | assumption
    | apply KeepsOut.ite
    | apply keepsOut_done
    | apply Keeps.ite
    | apply keeps_fnCommand
    | apply keeps_fnStartSteps
    | apply keeps_done
    | apply Keeps.ite2
    | apply Keeps.ite3
    | split

theorem keeps_execFunctionDiscard {k0 : Bool} {r0 s : State} (f : Nat) (hk : Keeps k0 r0 s) : KeepsOut k0 r0 (execFunctionDiscard f s) := by
  unfold execFunctionDiscard
  repeat' with_reducible first
    | assumption
    | apply KeepsOut.ite
    | apply keepsOut_done
    | apply Keeps.ite
    | apply keeps_fnCommand
    | apply keeps_done
    | apply Keeps.ite2
    | apply Keeps.ite3
    | split

theorem keeps_execFunctionStartCommit {k0 : Bool} {r0 s : State} (f : Nat) (hk : Keeps k0 r0 s) : KeepsOut k0 r0 (execFunctionStartCommit f s) := by
  unfold execFunctionStartCommit
  repeat' with_reducible first
    | assumption
    | apply KeepsOut.ite
    | apply keepsOut_done
    | apply Keeps.ite
    | apply keeps_fnCommitStart
    | apply keeps_done
    | split

theorem keeps_execFunctionStopCommit {k0 : Bool} {r0 s : State} (f : Nat) (hk : Keeps k0 r0 s) : KeepsOut k0 r0 (execFunctionStopCommit f s) := by
  unfold execFunctionStopCommit
  repeat' with_reducible first
    | assumption
    | apply KeepsOut.ite
    | apply keepsOut_done
    | apply Keeps.ite
    | apply keeps_fnCommitStop
    | apply keeps_done
    | split

theorem keeps_execOwnershipHandover {k0 : Bool} {r0 s : State}  (hk : Keeps k0 r0 s) : KeepsOut k0 r0 (execOwnershipHandover s) := by
  unfold execOwnershipHandover
  repeat' with_reducible first
    | assumption
    | apply KeepsOut.ite
    | apply keepsOut_done
    | apply Keeps.ite
    | apply keeps_ownTake
    | apply keeps_done
    | split

theorem keeps_odxHeatRead {k0 : Bool} {r0 s : State}  (hk : Keeps k0 r0 s) : Keeps k0 r0 (State.odxHeatRead s) := by
  unfold State.odxHeatRead
  repeat' with_reducible first
    | assumption
    | ((try lift_lets); intro x; first | (refine (fun (hx : Keeps k0 r0 x) => ?_) ?_; on_goal 1 => (try clear_value x)) | (try clear_value x))
    | apply keeps_setReg
    | fail_if_no_progress apply Keeps.upd
    | (dsimp only [x])

theorem keeps_execOdxHeatRead {k0 : Bool} {r0 s : State} (who : Init) (hk : Keeps k0 r0 s) : KeepsOut k0 r0 (execOdxHeatRead who s) := by
  unfold execOdxHeatRead
  repeat' with_reducible first
    | assumption
    | apply keepsOut_done
    | apply keeps_odxHeatRead
    | apply keeps_done

theorem keeps_execSupplyGood {r0 s : State} (pins : StrapPins) (dip : Bool) (hk : Keeps false r0 s) : KeepsOut false r0 (execSupplyGood pins dip s) := by
  unfold execSupplyGood
  repeat' with_reducible first
    | assumption
    | ((try lift_lets); intro x; first | (refine (fun (hx : Keeps false r0 x) => ?_) ?_; on_goal 1 => (try clear_value x)) | (try clear_value x))
    | apply KeepsOut.ite
    | apply keepsOut_done
    | apply Keeps.ite
    | apply keeps_resetAs
    | apply keeps_resetRelease
    | apply keeps_setRb
    | apply keeps_done
    | fail_if_no_progress apply Keeps.upd
    | split
    | (dsimp only [x])

theorem keeps_supplyFall {r0 s : State} (jstep : Nat) (vbatHolds : Bool) (hk : Keeps false r0 s) : Keeps false r0 (State.supplyFall s jstep vbatHolds) := by
  unfold State.supplyFall
  repeat' with_reducible first
    | assumption
    | ((try lift_lets); intro x; first | (refine (fun (hx : Keeps false r0 x) => ?_) ?_; on_goal 1 => (try clear_value x)) | (try clear_value x))
    | apply Keeps.ite
    | apply keeps_ldlTorn
    | apply keeps_knabSupplyFail
    | apply keeps_logTorn
    | apply keeps_rtcDomainReset
    | apply keeps_resetAs
    | fail_if_no_progress apply Keeps.upd
    | split
    | (dsimp only [x])

theorem keeps_execSupplyFall {r0 s : State} (jstep : Nat) (vbatHolds : Bool) (hk : Keeps false r0 s) : KeepsOut false r0 (execSupplyFall jstep vbatHolds s) := by
  unfold execSupplyFall
  repeat' with_reducible first
    | assumption
    | apply keepsOut_done
    | apply keeps_supplyFall
    | apply keeps_done

theorem keeps_execCounterIncrement {r0 s : State} (who : Init) (v : Word) (cut : Option Nat) (hk : Keeps false r0 s) : KeepsOut false r0 (execCounterIncrement who v cut s) := by
  unfold execCounterIncrement
  repeat' with_reducible first
    | assumption
    | ((try lift_lets); intro x; first | (refine (fun (hx : Keeps false r0 x) => ?_) ?_; on_goal 1 => (try clear_value x)) | (try clear_value x))
    | apply KeepsOut.ite
    | apply keepsOut_done
    | apply Keeps.ite
    | (refine keeps_guardWrite _ _ _ _ (fun t ht => ?_) ?_; on_goal 1 => beta_reduce)
    | apply keeps_knabCntinc
    | apply keeps_knabCtrCut
    | apply keeps_supplyFall
    | apply keeps_done
    | fail_if_no_progress apply Keeps.upd
    | split
    | (dsimp only [x])

theorem keeps_execSupply {k0 : Bool} {r0 s : State} (which : Supply) (low : Bool) (hk : Keeps k0 r0 s) : KeepsOut k0 r0 (execSupply which low s) := by
  unfold execSupply
  repeat' with_reducible first
    | assumption
    | ((try lift_lets); intro x; first | (refine (fun (hx : Keeps k0 r0 x) => ?_) ?_; on_goal 1 => (try clear_value x)) | (try clear_value x))
    | apply keepsOut_done
    | apply keeps_setRb
    | apply keeps_done
    | fail_if_no_progress apply Keeps.upd
    | split
    | (dsimp only [x])

theorem keeps_execNrst {r0 s : State}  (hk : Keeps false r0 s) : KeepsOut false r0 (execNrst s) := by
  unfold execNrst
  repeat' with_reducible first
    | assumption
    | ((try lift_lets); intro x; first | (refine (fun (hx : Keeps false r0 x) => ?_) ?_; on_goal 1 => (try clear_value x)) | (try clear_value x))
    | apply KeepsOut.ite
    | apply keepsOut_done
    | apply Keeps.ite
    | apply keeps_resetHeld
    | apply keeps_done
    | fail_if_no_progress apply Keeps.upd
    | split
    | (dsimp only [x])

theorem keeps_execNrstRelease {k0 : Bool} {r0 s : State}  (hk : Keeps k0 r0 s) : KeepsOut k0 r0 (execNrstRelease s) := by
  unfold execNrstRelease
  repeat' with_reducible first
    | assumption
    | ((try lift_lets); intro x; first | (refine (fun (hx : Keeps k0 r0 x) => ?_) ?_; on_goal 1 => (try clear_value x)) | (try clear_value x))
    | apply KeepsOut.ite
    | apply keepsOut_done
    | apply Keeps.ite
    | apply keeps_resetRelease
    | apply keeps_done
    | fail_if_no_progress apply Keeps.upd
    | split
    | (dsimp only [x])

theorem keeps_thermalTrip {r0 s : State}  (hk : Keeps false r0 s) : Keeps false r0 (State.thermalTrip s) := by
  unfold State.thermalTrip
  repeat' with_reducible first
    | assumption
    | apply Keeps.ite
    | apply keeps_resetHeld
    | split

theorem keeps_execSensorConversion {r0 s : State} (readings : List Int) (hk : Keeps false r0 s) : KeepsOut false r0 (execSensorConversion readings s) := by
  unfold execSensorConversion
  repeat' with_reducible first
    | assumption
    | ((try lift_lets); intro x; first | (refine (fun (hx : Keeps false r0 x) => ?_) ?_; on_goal 1 => (try clear_value x)) | (try clear_value x))
    | apply KeepsOut.ite
    | apply keepsOut_done
    | apply Keeps.ite
    | apply keeps_thmConvert
    | apply keeps_thermalTrip
    | apply keeps_done
    | split
    | (dsimp only [x])

theorem keeps_execTripComparator {r0 s : State}  (hk : Keeps false r0 s) : KeepsOut false r0 (execTripComparator s) := by
  unfold execTripComparator
  repeat' with_reducible first
    | assumption
    | ((try lift_lets); intro x; first | (refine (fun (hx : Keeps false r0 x) => ?_) ?_; on_goal 1 => (try clear_value x)) | (try clear_value x))
    | apply KeepsOut.ite
    | apply keepsOut_done
    | apply Keeps.ite
    | apply keeps_thermalTrip
    | apply keeps_done
    | fail_if_no_progress apply Keeps.upd
    | split
    | (dsimp only [x])

theorem keeps_execTripRelease {k0 : Bool} {r0 s : State}  (hk : Keeps k0 r0 s) : KeepsOut k0 r0 (execTripRelease s) := by
  unfold execTripRelease
  repeat' with_reducible first
    | assumption
    | apply KeepsOut.ite
    | apply keepsOut_done
    | apply Keeps.ite
    | apply keeps_resetRelease
    | apply keeps_done
    | split

theorem keeps_execRstoutRise {k0 : Bool} {r0 s : State}  (hk : Keeps k0 r0 s) : KeepsOut k0 r0 (execRstoutRise s) := by
  unfold execRstoutRise
  repeat' with_reducible first
    | assumption
    | ((try lift_lets); intro x; first | (refine (fun (hx : Keeps k0 r0 x) => ?_) ?_; on_goal 1 => (try clear_value x)) | (try clear_value x))
    | apply KeepsOut.ite
    | apply keepsOut_done
    | apply Keeps.ite
    | apply keeps_done
    | fail_if_no_progress apply Keeps.upd
    | split
    | (dsimp only [x])

theorem keeps_wdogKick {k0 : Bool} {r0 s : State}  (hk : Keeps k0 r0 s) : Keeps k0 r0 (State.wdogKick s) := by
  unfold State.wdogKick
  repeat' with_reducible first
    | assumption
    | ((try lift_lets); intro x; first | (refine (fun (hx : Keeps k0 r0 x) => ?_) ?_; on_goal 1 => (try clear_value x)) | (try clear_value x))
    | apply keeps_setRb
    | apply keeps_runtimePays
    | fail_if_no_progress apply Keeps.upd
    | (dsimp only [x])

theorem keeps_execWatchdogKick {k0 : Bool} {r0 s : State} (who : Init) (hk : Keeps k0 r0 s) : KeepsOut k0 r0 (execWatchdogKick who s) := by
  unfold execWatchdogKick
  repeat' with_reducible first
    | assumption
    | apply keepsOut_done
    | (refine keeps_guardWrite _ _ _ _ (fun t ht => ?_) ?_; on_goal 1 => beta_reduce)
    | apply keeps_wdogKick
    | apply keeps_done

theorem keeps_execWdogWarn {k0 : Bool} {r0 s : State}  (hk : Keeps k0 r0 s) : KeepsOut k0 r0 (execWdogWarn s) := by
  unfold execWdogWarn
  repeat' with_reducible first
    | assumption
    | ((try lift_lets); intro x; first | (refine (fun (hx : Keeps k0 r0 x) => ?_) ?_; on_goal 1 => (try clear_value x)) | (try clear_value x))
    | apply KeepsOut.ite
    | apply keepsOut_done
    | apply Keeps.ite
    | apply keeps_setRb
    | apply keeps_fire
    | apply keeps_done
    | fail_if_no_progress apply Keeps.upd
    | split
    | (dsimp only [x])

theorem keeps_execWatchdogReset {r0 s : State}  (hk : Keeps false r0 s) : KeepsOut false r0 (execWatchdogReset s) := by
  unfold execWatchdogReset
  repeat' with_reducible first
    | assumption
    | apply KeepsOut.ite
    | apply keepsOut_done
    | apply Keeps.ite
    | apply keeps_resetRun
    | apply keeps_done
    | split

theorem keeps_execKnabRecall {k0 : Bool} {r0 s : State} (weak : List Nat) (hk : Keeps k0 r0 s) : KeepsOut k0 r0 (execKnabRecall weak s) := by
  unfold execKnabRecall
  repeat' with_reducible first
    | assumption
    | ((try lift_lets); intro x; first | (refine (fun (hx : Keeps k0 r0 x) => ?_) ?_; on_goal 1 => (try clear_value x)) | (try clear_value x))
    | apply KeepsOut.ite
    | apply keepsOut_done
    | apply Keeps.ite
    | apply keeps_knabFullRecall
    | apply keeps_setRf
    | apply keeps_linesShow
    | apply keeps_fault
    | apply keeps_setRb
    | apply keeps_done
    | fail_if_no_progress apply Keeps.upd
    | split
    | (dsimp only [x])

theorem keeps_bootSource {k0 : Bool} {r0 s : State} (src : Nat) (hk : Keeps k0 r0 s) : Keeps k0 r0 (State.bootSource s src) := by
  unfold State.bootSource
  repeat' with_reducible first
    | assumption
    | ((try lift_lets); intro x; first | (refine (fun (hx : Keeps k0 r0 x) => ?_) ?_; on_goal 1 => (try clear_value x)) | (try clear_value x))
    | apply Keeps.ite
    | apply keeps_setRf
    | apply keeps_netEnable
    | split
    | (dsimp only [x])

theorem keeps_pourFallback {k0 : Bool} {r0 s : State}  (hk : Keeps k0 r0 s) : Keeps k0 r0 (State.pourFallback s) := by
  unfold State.pourFallback
  repeat' with_reducible first
    | assumption
    | apply Keeps.ite
    | apply keeps_bootSource
    | split

theorem keeps_waitForPour {k0 : Bool} {r0 s : State}  (hk : Keeps k0 r0 s) : Keeps k0 r0 (State.waitForPour s) := by
  unfold State.waitForPour
  repeat' with_reducible first
    | assumption
    | ((try lift_lets); intro x; first | (refine (fun (hx : Keeps k0 r0 x) => ?_) ?_; on_goal 1 => (try clear_value x)) | (try clear_value x))
    | apply Keeps.ite
    | apply keeps_setRf
    | apply keeps_setRb
    | apply keeps_sendToken
    | apply keeps_bootSource
    | fail_if_no_progress apply Keeps.upd
    | split
    | (dsimp only [x])

theorem keeps_stepFiveFaults {k0 : Bool} {r0 s : State}  (hk : Keeps k0 r0 s) : Keeps k0 r0 (State.stepFiveFaults s) := by
  unfold State.stepFiveFaults
  repeat' with_reducible first
    | assumption
    | ((try lift_lets); intro x; first | (refine (fun (hx : Keeps k0 r0 x) => ?_) ?_; on_goal 1 => (try clear_value x)) | (try clear_value x))
    | apply Keeps.ite
    | apply keeps_rtcFire
    | apply keeps_rtcFault
    | apply keeps_rtcBatlow
    | apply keeps_fault
    | fail_if_no_progress apply Keeps.upd
    | split
    | (dsimp only [x])

theorem keeps_identityLoad {k0 : Bool} {r0 s : State}  (hk : Keeps k0 r0 s) : Keeps k0 r0 (State.identityLoad s) := by
  unfold State.identityLoad
  repeat' with_reducible first
    | assumption
    | ((try lift_lets); intro x; first | (refine (fun (hx : Keeps k0 r0 x) => ?_) ?_; on_goal 1 => (try clear_value x)) | (try clear_value x))
    | apply keeps_nvReload
    | apply keeps_setReg
    | apply keeps_setRf
    | apply keeps_netSeqTo
    | (refine keeps_forEach _ _ (fun t n ht => ?_) ?_; on_goal 1 => beta_reduce)
    | apply keeps_odSet
    | apply keeps_stepFiveFaults
    | fail_if_no_progress apply Keeps.upd
    | (dsimp only [x])

theorem keeps_execSelfTest {k0 : Bool} {r0 s : State} (romOk : Bool) (ramOk : Bool) (hk : Keeps k0 r0 s) : KeepsOut k0 r0 (execSelfTest romOk ramOk s) := by
  unfold execSelfTest
  repeat' with_reducible first
    | assumption
    | ((try lift_lets); intro x; first | (refine (fun (hx : Keeps k0 r0 x) => ?_) ?_; on_goal 1 => (try clear_value x)) | (try clear_value x))
    | apply KeepsOut.ite
    | apply keepsOut_done
    | apply Keeps.ite
    | apply keeps_setRb
    | apply keeps_fault
    | apply keeps_clearMem
    | apply keeps_cenClear
    | apply keeps_identityLoad
    | apply keeps_waitForPour
    | apply keeps_done
    | split
    | (dsimp only [x])

theorem keeps_imgCheck {k0 : Bool} {r0 s : State} (k : Nat) (hk : Keeps k0 r0 s) : Keeps k0 r0 (State.imgCheck s k) := by
  unfold State.imgCheck
  repeat' with_reducible first
    | assumption
    | ((try lift_lets); intro x; first | (refine (fun (hx : Keeps k0 r0 x) => ?_) ?_; on_goal 1 => (try clear_value x)) | (try clear_value x))
    | apply Keeps.ite
    | apply keeps_imgAccept
    | apply keeps_imgReject
    | apply keeps_pourFallback
    | split
    | (dsimp only [x])

theorem keeps_execImageCheck {k0 : Bool} {r0 s : State} (kind : Nat) (hk : Keeps k0 r0 s) : KeepsOut k0 r0 (execImageCheck kind s) := by
  unfold execImageCheck
  repeat' with_reducible first
    | assumption
    | apply KeepsOut.ite
    | apply keepsOut_done
    | apply Keeps.ite
    | apply keeps_imgCheck
    | apply keeps_done
    | split

theorem keeps_configReject {k0 : Bool} {r0 s : State}  (hk : Keeps k0 r0 s) : Keeps k0 r0 (State.configReject s) := by
  unfold State.configReject
  repeat' with_reducible first
    | assumption
    | ((try lift_lets); intro x; first | (refine (fun (hx : Keeps k0 r0 x) => ?_) ?_; on_goal 1 => (try clear_value x)) | (try clear_value x))
    | apply keeps_imgReject
    | fail_if_no_progress apply Keeps.upd
    | (dsimp only [x])

theorem keeps_configLoad {k0 : Bool} {r0 s : State}  (hk : Keeps k0 r0 s) : Keeps k0 r0 (State.configLoad s).2 := by
  unfold State.configLoad
  repeat' with_reducible first
    | assumption
    | ((try lift_lets); intro x; first | (refine (fun (hx : Keeps k0 r0 x) => ?_) ?_; on_goal 1 => (try clear_value x)) | (refine (fun (hx : Keeps k0 r0 x.2) => ?_) ?_; on_goal 1 => (try clear_value x)) | (refine (fun (hx : Keeps k0 r0 x.2.2) => ?_) ?_; on_goal 1 => (try clear_value x)) | (try clear_value x))
    | apply Keeps.ite
    | apply keeps_configReject
    | (refine keeps_foldl _ _ (fun t n ht => ?_) ?_; on_goal 1 => beta_reduce)
    | apply Keeps.ite2
    | apply Keeps.ite3
    | fail_if_no_progress apply Keeps.upd
    | split
    | (dsimp only [x])

theorem keeps_overlay {k0 : Bool} {r0 s : State} (img : Option (List (Nat × OdVal))) (hk : Keeps k0 r0 s) : Keeps k0 r0 (State.overlay s img) := by
  unfold State.overlay
  repeat' with_reducible first
    | assumption
    | ((try lift_lets); intro x; first | (refine (fun (hx : Keeps k0 r0 x) => ?_) ?_; on_goal 1 => (try clear_value x)) | (refine (fun (hx : Keeps k0 r0 x.2) => ?_) ?_; on_goal 1 => (try clear_value x)) | (refine (fun (hx : Keeps k0 r0 x.2.2) => ?_) ?_; on_goal 1 => (try clear_value x)) | (try clear_value x))
    | apply Keeps.ite
    | (refine keeps_foldl _ _ (fun t n ht => ?_) ?_; on_goal 1 => beta_reduce)
    | apply keeps_odSet
    | apply Keeps.ite2
    | apply Keeps.ite3
    | split
    | (dsimp only [x])

theorem keeps_shakeStart {k0 : Bool} {r0 s : State} (f : Nat) (hk : Keeps k0 r0 s) : Keeps k0 r0 (State.shakeStart s f) := by
  unfold State.shakeStart
  repeat' with_reducible first
    | assumption
    | ((try lift_lets); intro x; first | (refine (fun (hx : Keeps k0 r0 x) => ?_) ?_; on_goal 1 => (try clear_value x)) | (refine (fun (hx : Keeps k0 r0 x.2) => ?_) ?_; on_goal 1 => (try clear_value x)) | (refine (fun (hx : Keeps k0 r0 x.2.2) => ?_) ?_; on_goal 1 => (try clear_value x)) | (try clear_value x))
    | apply Keeps.ite
    | apply keeps_fnValidate
    | apply keeps_fnLoad
    | apply keeps_fnTo
    | apply keeps_setFn
    | apply keeps_fault
    | apply Keeps.ite2
    | apply Keeps.ite3
    | fail_if_no_progress apply Keeps.upd
    | split
    | (dsimp only [x])

theorem keeps_startupWrite {k0 : Bool} {r0 s : State}  (hk : Keeps k0 r0 s) : Keeps k0 r0 (State.startupWrite s) := by
  unfold State.startupWrite
  repeat' with_reducible first
    | assumption
    | ((try lift_lets); intro x; first | (refine (fun (hx : Keeps k0 r0 x) => ?_) ?_; on_goal 1 => (try clear_value x)) | (refine (fun (hx : Keeps k0 r0 x.2) => ?_) ?_; on_goal 1 => (try clear_value x)) | (refine (fun (hx : Keeps k0 r0 x.2.2) => ?_) ?_; on_goal 1 => (try clear_value x)) | (try clear_value x))
    | apply Keeps.ite
    | apply keeps_nvStore
    | apply Keeps.ite2
    | apply Keeps.ite3
    | fail_if_no_progress apply Keeps.upd
    | split
    | (dsimp only [x])

theorem keeps_startupTxn {k0 : Bool} {r0 s : State} (nvOk : Bool) (hk : Keeps k0 r0 s) : Keeps k0 r0 (State.startupTxn s nvOk) := by
  unfold State.startupTxn
  repeat' with_reducible first
    | assumption
    | ((try lift_lets); intro x; first | (refine (fun (hx : Keeps k0 r0 x) => ?_) ?_; on_goal 1 => (try clear_value x)) | (try clear_value x))
    | apply Keeps.ite
    | apply keeps_startupWrite
    | apply keeps_fault
    | fail_if_no_progress apply Keeps.upd
    | split
    | (dsimp only [x])

theorem keeps_execRuntimeEntry {k0 : Bool} {r0 s : State} (nvOk : Bool) (hk : Keeps k0 r0 s) : KeepsOut k0 r0 (execRuntimeEntry nvOk s) := by
  unfold execRuntimeEntry
  repeat' with_reducible first
    | assumption
    | ((try lift_lets); intro x; first | (refine (fun (hx : Keeps k0 r0 x) => ?_) ?_; on_goal 1 => (try clear_value x)) | (refine (fun (hx : Keeps k0 r0 x.2) => ?_) ?_; on_goal 1 => (try clear_value x)) | (refine (fun (hx : Keeps k0 r0 x.2.2) => ?_) ?_; on_goal 1 => (try clear_value x)) | (try clear_value x))
    | apply KeepsOut.ite
    | apply keepsOut_done
    | apply Keeps.ite
    | apply keeps_runtimeLoad
    | apply keeps_setRf
    | apply keeps_setRb
    | apply keeps_actShakeSafe
    | (refine keeps_forEach _ _ (fun t n ht => ?_) ?_; on_goal 1 => beta_reduce)
    | apply keeps_ringSetup
    | apply keeps_fault
    | apply keeps_knabModeRewrite
    | apply keeps_rtcResume
    | apply keeps_configLoad
    | apply keeps_overlay
    | apply keeps_loadShdnSel
    | apply keeps_shdnDoLock
    | apply keeps_loadSupervise
    | apply keeps_loadTwn
    | apply keeps_loadPwr
    | apply keeps_startRtc
    | apply keeps_loadLockcfg
    | apply keeps_zonLoadPins
    | apply keeps_netStart
    | apply keeps_shakeStart
    | apply keeps_startupTxn
    | apply keeps_done
    | apply Keeps.ite2
    | apply Keeps.ite3
    | fail_if_no_progress apply Keeps.upd
    | split
    | (dsimp only [x])

theorem keeps_execStartupCommitRetry {k0 : Bool} {r0 s : State} (nvOk : Bool) (hk : Keeps k0 r0 s) : KeepsOut k0 r0 (execStartupCommitRetry nvOk s) := by
  unfold execStartupCommitRetry
  repeat' with_reducible first
    | assumption
    | ((try lift_lets); intro x; first | (refine (fun (hx : Keeps k0 r0 x) => ?_) ?_; on_goal 1 => (try clear_value x)) | (try clear_value x))
    | apply KeepsOut.ite
    | apply keepsOut_done
    | apply Keeps.ite
    | apply keeps_startupTxn
    | apply keeps_done
    | fail_if_no_progress apply Keeps.upd
    | split
    | (dsimp only [x])

theorem keeps_startupCommit {k0 : Bool} {r0 s : State}  (hk : Keeps k0 r0 s) : Keeps k0 r0 (State.startupCommit s) := by
  unfold State.startupCommit
  split
  · exact hk
  repeat' with_reducible first
    | assumption
    | ((try lift_lets); intro x; first | (refine (fun (hx : Keeps k0 r0 x) => ?_) ?_; on_goal 1 => (try clear_value x)) | (try clear_value x))
    | apply Keeps.ite
    | apply keeps_odCommit
    | apply keeps_heatStep
    | (refine keeps_forEach _ _ (fun t n ht => ?_) ?_; on_goal 1 => beta_reduce)
    | apply keeps_fnTo
    | apply keeps_setFn
    | apply keeps_fnJoin
    | fail_if_no_progress apply Keeps.upd
    | split
    | (dsimp only [x])

theorem keeps_chillAccept {k0 : Bool} {r0 s : State}  (hk : Keeps k0 r0 s) : Keeps k0 r0 (State.chillAccept s) := by
  unfold State.chillAccept
  repeat' with_reducible first
    | assumption
    | ((try lift_lets); intro x; first | (refine (fun (hx : Keeps k0 r0 x) => ?_) ?_; on_goal 1 => (try clear_value x)) | (try clear_value x))
    | fail_if_no_progress apply Keeps.upd
    | split
    | (dsimp only [x])

theorem keeps_execChillRequest {k0 : Bool} {r0 s : State}  (hk : Keeps k0 r0 s) : KeepsOut k0 r0 (execChillRequest s) := by
  unfold execChillRequest
  repeat' with_reducible first
    | assumption
    | apply KeepsOut.ite
    | apply keepsOut_done
    | apply Keeps.ite
    | apply keeps_chillAccept
    | apply keeps_done
    | split

theorem keeps_strokesWrite {k0 : Bool} {r0 s : State}  (hk : Keeps k0 r0 s) : Keeps k0 r0 (State.strokesWrite s) := by
  unfold State.strokesWrite
  repeat' with_reducible first
    | assumption
    | ((try lift_lets); intro x; first | (refine (fun (hx : Keeps k0 r0 x) => ?_) ?_; on_goal 1 => (try clear_value x)) | (try clear_value x))
    | apply Keeps.ite
    | apply keeps_knabSettle
    | (refine keeps_foldl _ _ (fun t n ht => ?_) ?_; on_goal 1 => beta_reduce)
    | apply keeps_knabTransact
    | fail_if_no_progress apply Keeps.upd
    | split
    | (dsimp only [x])

theorem keeps_chillEnter {k0 : Bool} {r0 s : State}  (hk : Keeps k0 r0 s) : Keeps k0 r0 (State.chillEnter s) := by
  unfold State.chillEnter
  repeat' with_reducible first
    | assumption
    | ((try lift_lets); intro x; first | (refine (fun (hx : Keeps k0 r0 x) => ?_) ?_; on_goal 1 => (try clear_value x)) | (try clear_value x))
    | apply Keeps.ite
    | apply keeps_strokesWrite
    | apply keeps_cenChill
    | apply keeps_actChill
    | apply keeps_acqChill
    | apply keeps_ldlChill
    | apply keeps_pollsStop
    | apply keeps_rtcMeasStop
    | (refine keeps_forEach _ _ (fun t n ht => ?_) ?_; on_goal 1 => beta_reduce)
    | apply keeps_setFan
    | apply keeps_fanDrive
    | apply keeps_setRf
    | fail_if_no_progress apply Keeps.upd
    | split
    | (dsimp only [x])

theorem keeps_ringsLost {k0 : Bool} {r0 s : State} (lost : Nat) (hk : Keeps k0 r0 s) : Keeps k0 r0 (State.ringsLost s lost) := by
  unfold State.ringsLost
  repeat' with_reducible first
    | assumption
    | ((try lift_lets); intro x; first | (refine (fun (hx : Keeps k0 r0 x) => ?_) ?_; on_goal 1 => (try clear_value x)) | (try clear_value x))
    | (refine keeps_forEach _ _ (fun t n ht => ?_) ?_; on_goal 1 => beta_reduce)
    | apply keeps_setRb
    | apply keeps_ringFlush
    | apply keeps_setReg
    | apply keeps_ringError
    | fail_if_no_progress apply Keeps.upd
    | split
    | (dsimp only [x])

theorem keeps_wakeUp {k0 : Bool} {r0 s : State} (why : Nat) (hk : Keeps k0 r0 s) : Keeps k0 r0 (State.wakeUp s why) := by
  unfold State.wakeUp
  repeat' with_reducible first
    | assumption
    | ((try lift_lets); intro x; first | (refine (fun (hx : Keeps k0 r0 x) => ?_) ?_; on_goal 1 => (try clear_value x)) | (refine (fun (hx : Keeps k0 r0 x.2) => ?_) ?_; on_goal 1 => (try clear_value x)) | (refine (fun (hx : Keeps k0 r0 x.2.2) => ?_) ?_; on_goal 1 => (try clear_value x)) | (try clear_value x))
    | apply keeps_setRf
    | (refine keeps_forEach _ _ (fun t n ht => ?_) ?_; on_goal 1 => beta_reduce)
    | apply keeps_clearMem
    | apply keeps_orReg
    | apply keeps_ringsLost
    | apply keeps_ldlWake
    | apply keeps_acqWake
    | apply keeps_kpdWake
    | apply keeps_rtcAfterChill
    | apply keeps_runtimePays
    | apply keeps_rtcMeasBegin
    | fail_if_no_progress apply Keeps.upd
    | (dsimp only [x])

theorem keeps_execRtcSecond {k0 : Bool} {r0 s : State}  (hk : Keeps k0 r0 s) : KeepsOut k0 r0 (execRtcSecond s) := by
  unfold execRtcSecond
  repeat' with_reducible first
    | assumption
    | ((try lift_lets); intro x; first | (refine (fun (hx : Keeps k0 r0 x) => ?_) ?_; on_goal 1 => (try clear_value x)) | (try clear_value x))
    | apply KeepsOut.ite
    | apply keepsOut_done
    | apply Keeps.ite
    | apply keeps_rtcAdvance
    | apply keeps_wakeUp
    | apply keeps_done
    | split
    | (dsimp only [x])

theorem keeps_execWake {k0 : Bool} {r0 s : State} (src : Nat) (hk : Keeps k0 r0 s) : KeepsOut k0 r0 (execWake src s) := by
  unfold execWake
  repeat' with_reducible first
    | assumption
    | apply KeepsOut.ite
    | apply keepsOut_done
    | apply Keeps.ite
    | apply keeps_wakeUp
    | apply keeps_done
    | split

theorem keeps_roleTo {k0 : Bool} {r0 s : State} (role : Nat) (formed : Bool) (cause : Option Nat) (hk : Keeps k0 r0 s) : Keeps k0 r0 (State.roleTo s role formed cause) := by
  unfold State.roleTo
  repeat' with_reducible first
    | assumption
    | ((try lift_lets); intro x; first | (refine (fun (hx : Keeps k0 r0 x) => ?_) ?_; on_goal 1 => (try clear_value x)) | (try clear_value x))
    | apply Keeps.ite
    | apply keeps_setRf
    | apply keeps_setRb
    | apply keeps_fire
    | apply keeps_happen
    | fail_if_no_progress apply Keeps.upd
    | split
    | (dsimp only [x])

theorem keeps_ownPull {k0 : Bool} {r0 s : State}  (hk : Keeps k0 r0 s) : Keeps k0 r0 (State.ownPull s) := by
  unfold State.ownPull
  repeat' with_reducible first
    | assumption
    | apply keeps_setRb
    | apply keeps_lineRefresh

theorem keeps_ownRelease {k0 : Bool} {r0 s : State}  (hk : Keeps k0 r0 s) : Keeps k0 r0 (State.ownRelease s) := by
  unfold State.ownRelease
  repeat' with_reducible first
    | assumption
    | ((try lift_lets); intro x; first | (refine (fun (hx : Keeps k0 r0 x) => ?_) ?_; on_goal 1 => (try clear_value x)) | (try clear_value x))
    | apply keeps_setRb
    | apply keeps_lineRefresh
    | fail_if_no_progress apply Keeps.upd
    | (dsimp only [x])

theorem keeps_swapBroken {k0 : Bool} {r0 s : State}  (hk : Keeps k0 r0 s) : Keeps k0 r0 (State.swapBroken s) := by
  unfold State.swapBroken
  repeat' with_reducible first
    | assumption
    | ((try lift_lets); intro x; first | (refine (fun (hx : Keeps k0 r0 x) => ?_) ?_; on_goal 1 => (try clear_value x)) | (try clear_value x))
    | apply Keeps.ite
    | apply keeps_fault
    | apply keeps_setRb
    | apply keeps_setRf
    | apply keeps_odCommit
    | apply keeps_heatStep
    | apply keeps_nvHeat
    | fail_if_no_progress apply Keeps.upd
    | split
    | (dsimp only [x])

theorem keeps_startLost {k0 : Bool} {r0 s : State} (f : Nat) (hk : Keeps k0 r0 s) : Keeps k0 r0 (State.startLost s f) := by
  unfold State.startLost
  repeat' with_reducible first
    | assumption
    | ((try lift_lets); intro x; first | (refine (fun (hx : Keeps k0 r0 x) => ?_) ?_; on_goal 1 => (try clear_value x)) | (try clear_value x))
    | apply Keeps.ite
    | apply keeps_slotsApart
    | apply keeps_fnTo
    | apply keeps_fnDrop
    | apply keeps_setFn
    | fail_if_no_progress apply Keeps.upd
    | split
    | (dsimp only [x])

theorem keeps_netTakeover {k0 : Bool} {r0 s : State}  (hk : Keeps k0 r0 s) : Keeps k0 r0 (State.netTakeover s) := by
  unfold State.netTakeover
  repeat' with_reducible first
    | assumption
    | ((try lift_lets); intro x; first | (refine (fun (hx : Keeps k0 r0 x) => ?_) ?_; on_goal 1 => (try clear_value x)) | (try clear_value x))
    | apply keeps_netSeqTo
    | fail_if_no_progress apply Keeps.upd
    | (dsimp only [x])

theorem keeps_claim {k0 : Bool} {r0 s : State} (cause : Nat) (hk : Keeps k0 r0 s) : Keeps k0 r0 (State.claim s cause) := by
  unfold State.claim
  repeat' with_reducible first
    | assumption
    | ((try lift_lets); intro x; first | (refine (fun (hx : Keeps k0 r0 x) => ?_) ?_; on_goal 1 => (try clear_value x)) | (try clear_value x))
    | apply Keeps.ite
    | apply keeps_ownPull
    | apply keeps_sendToken
    | apply keeps_roleTo
    | apply keeps_setRf
    | apply keeps_knabCtrAdd
    | apply keeps_fault
    | apply keeps_swapBroken
    | (refine keeps_forEach _ _ (fun t n ht => ?_) ?_; on_goal 1 => beta_reduce)
    | apply keeps_startLost
    | apply keeps_ownDrop
    | apply keeps_actTakeover
    | apply keeps_kpdTakeover
    | apply keeps_netTakeover
    | apply keeps_zoneInit
    | fail_if_no_progress apply Keeps.upd
    | split
    | (dsimp only [x])

theorem keeps_execTwinKick {k0 : Bool} {r0 s : State} (who : Init) (hk : Keeps k0 r0 s) : KeepsOut k0 r0 (execTwinKick who s) := by
  unfold execTwinKick
  repeat' with_reducible first
    | assumption
    | ((try lift_lets); intro x; first | (refine (fun (hx : Keeps k0 r0 x) => ?_) ?_; on_goal 1 => (try clear_value x)) | (try clear_value x))
    | apply keepsOut_done
    | (refine keeps_guardWrite _ _ _ _ (fun t ht => ?_) ?_; on_goal 1 => beta_reduce)
    | apply keeps_done
    | fail_if_no_progress apply Keeps.upd
    | (dsimp only [x])

theorem keeps_execTwinWatchdog {k0 : Bool} {r0 s : State}  (hk : Keeps k0 r0 s) : KeepsOut k0 r0 (execTwinWatchdog s) := by
  unfold execTwinWatchdog
  repeat' with_reducible first
    | assumption
    | ((try lift_lets); intro x; first | (refine (fun (hx : Keeps k0 r0 x) => ?_) ?_; on_goal 1 => (try clear_value x)) | (try clear_value x))
    | apply KeepsOut.ite
    | apply keepsOut_done
    | apply Keeps.ite
    | apply keeps_ownRelease
    | apply keeps_sendToken
    | apply keeps_done
    | fail_if_no_progress apply Keeps.upd
    | split
    | (dsimp only [x])

theorem keeps_execTwinForcedReset {r0 s : State}  (hk : Keeps false r0 s) : KeepsOut false r0 (execTwinForcedReset s) := by
  unfold execTwinForcedReset
  repeat' with_reducible first
    | assumption
    | ((try lift_lets); intro x; first | (refine (fun (hx : Keeps false r0 x) => ?_) ?_; on_goal 1 => (try clear_value x)) | (try clear_value x))
    | apply KeepsOut.ite
    | apply keepsOut_done
    | apply Keeps.ite
    | apply keeps_resetRun
    | apply keeps_done
    | fail_if_no_progress apply Keeps.upd
    | split
    | (dsimp only [x])

theorem keeps_execOwnChange {k0 : Bool} {r0 s : State} (own : Bool) (alive : Bool) (hk : Keeps k0 r0 s) : KeepsOut k0 r0 (execOwnChange own alive s) := by
  unfold execOwnChange
  repeat' with_reducible first
    | assumption
    | ((try lift_lets); intro x; first | (refine (fun (hx : Keeps k0 r0 x) => ?_) ?_; on_goal 1 => (try clear_value x)) | (try clear_value x))
    | apply keepsOut_done
    | apply keeps_lineRefresh
    | apply keeps_done
    | fail_if_no_progress apply Keeps.upd
    | (dsimp only [x])

theorem keeps_execClaim {k0 : Bool} {r0 s : State}  (hk : Keeps k0 r0 s) : KeepsOut k0 r0 (execClaim s) := by
  unfold execClaim
  repeat' with_reducible first
    | assumption
    | apply KeepsOut.ite
    | apply keepsOut_done
    | apply Keeps.ite
    | apply keeps_claim
    | apply keeps_done
    | split

theorem keeps_execLoneClaim {k0 : Bool} {r0 s : State}  (hk : Keeps k0 r0 s) : KeepsOut k0 r0 (execLoneClaim s) := by
  unfold execLoneClaim
  repeat' with_reducible first
    | assumption
    | ((try lift_lets); intro x; first | (refine (fun (hx : Keeps k0 r0 x) => ?_) ?_; on_goal 1 => (try clear_value x)) | (try clear_value x))
    | apply KeepsOut.ite
    | apply keepsOut_done
    | apply Keeps.ite
    | apply keeps_claim
    | apply keeps_done
    | split
    | (dsimp only [x])

theorem keeps_execClaimDrive {k0 : Bool} {r0 s : State}  (hk : Keeps k0 r0 s) : KeepsOut k0 r0 (execClaimDrive s) := by
  unfold execClaimDrive
  repeat' with_reducible first
    | assumption
    | ((try lift_lets); intro x; first | (refine (fun (hx : Keeps k0 r0 x) => ?_) ?_; on_goal 1 => (try clear_value x)) | (try clear_value x))
    | apply KeepsOut.ite
    | apply keepsOut_done
    | apply Keeps.ite
    | apply keeps_done
    | fail_if_no_progress apply Keeps.upd
    | split
    | (dsimp only [x])

theorem keeps_execOwnStuck {k0 : Bool} {r0 s : State}  (hk : Keeps k0 r0 s) : KeepsOut k0 r0 (execOwnStuck s) := by
  unfold execOwnStuck
  repeat' with_reducible first
    | assumption
    | ((try lift_lets); intro x; first | (refine (fun (hx : Keeps k0 r0 x) => ?_) ?_; on_goal 1 => (try clear_value x)) | (try clear_value x))
    | apply KeepsOut.ite
    | apply keepsOut_done
    | apply Keeps.ite
    | apply keeps_setRb
    | apply keeps_fault
    | apply keeps_done
    | fail_if_no_progress apply Keeps.upd
    | split
    | (dsimp only [x])

theorem keeps_forwardedEnd {k0 : Bool} {r0 s : State}  (hk : Keeps k0 r0 s) : Keeps k0 r0 (State.forwardedEnd s) := by
  unfold State.forwardedEnd
  repeat' with_reducible first
    | assumption
    | ((try lift_lets); intro x; first | (refine (fun (hx : Keeps k0 r0 x) => ?_) ?_; on_goal 1 => (try clear_value x)) | (try clear_value x))
    | (refine keeps_foldl _ _ (fun t n ht => ?_) ?_; on_goal 1 => beta_reduce)
    | apply keeps_odSend
    | fail_if_no_progress apply Keeps.upd
    | (dsimp only [x])

theorem keeps_execSprueDown {k0 : Bool} {r0 s : State}  (hk : Keeps k0 r0 s) : KeepsOut k0 r0 (execSprueDown s) := by
  unfold execSprueDown
  repeat' with_reducible first
    | assumption
    | ((try lift_lets); intro x; first | (refine (fun (hx : Keeps k0 r0 x) => ?_) ?_; on_goal 1 => (try clear_value x)) | (try clear_value x))
    | apply KeepsOut.ite
    | apply keepsOut_done
    | apply Keeps.ite
    | apply keeps_setRb
    | apply keeps_fault
    | apply keeps_roleTo
    | apply keeps_swapBroken
    | apply keeps_forwardedEnd
    | apply keeps_done
    | fail_if_no_progress apply Keeps.upd
    | split
    | (dsimp only [x])

theorem keeps_execTransferTimeout {k0 : Bool} {r0 s : State}  (hk : Keeps k0 r0 s) : KeepsOut k0 r0 (execTransferTimeout s) := by
  unfold execTransferTimeout
  repeat' with_reducible first
    | assumption
    | ((try lift_lets); intro x; first | (refine (fun (hx : Keeps k0 r0 x) => ?_) ?_; on_goal 1 => (try clear_value x)) | (try clear_value x))
    | apply KeepsOut.ite
    | apply keepsOut_done
    | apply Keeps.ite
    | apply keeps_done
    | fail_if_no_progress apply Keeps.upd
    | split
    | (dsimp only [x])

theorem keeps_execTokenDiscard {k0 : Bool} {r0 s : State} (wires : List Nat := []) (hk : Keeps k0 r0 s) : KeepsOut k0 r0 (execTokenDiscard s wires) := by
  unfold execTokenDiscard
  repeat' with_reducible first
    | assumption
    | ((try lift_lets); intro x; first | (refine (fun (hx : Keeps k0 r0 x) => ?_) ?_; on_goal 1 => (try clear_value x)) | (try clear_value x))
    | apply KeepsOut.ite
    | apply keepsOut_done
    | apply Keeps.ite
    | apply keeps_incSat
    | apply keeps_done
    | fail_if_no_progress apply Keeps.upd
    | split
    | (dsimp only [x])

theorem keeps_sprueRx {k0 : Bool} {r0 s : State}  (hk : Keeps k0 r0 s) : Keeps k0 r0 (State.sprueRx s) := by
  unfold State.sprueRx
  repeat' with_reducible first
    | assumption
    | ((try lift_lets); intro x; first | (refine (fun (hx : Keeps k0 r0 x) => ?_) ?_; on_goal 1 => (try clear_value x)) | (refine (fun (hx : Keeps k0 r0 x.2) => ?_) ?_; on_goal 1 => (try clear_value x)) | (refine (fun (hx : Keeps k0 r0 x.2.2) => ?_) ?_; on_goal 1 => (try clear_value x)) | (try clear_value x))
    | apply Keeps.ite
    | apply keeps_drawWord
    | apply keeps_ringOffer
    | apply keeps_fire
    | apply Keeps.ite2
    | apply Keeps.ite3
    | split
    | (dsimp only [x])

theorem keeps_execClaimToken {k0 : Bool} {r0 s : State}  (hk : Keeps k0 r0 s) : KeepsOut k0 r0 (execClaimToken s) := by
  unfold execClaimToken
  repeat' with_reducible first
    | assumption
    | ((try lift_lets); intro x; first | (refine (fun (hx : Keeps k0 r0 x) => ?_) ?_; on_goal 1 => (try clear_value x)) | (try clear_value x))
    | apply KeepsOut.ite
    | apply keepsOut_done
    | apply Keeps.ite
    | apply keeps_ownRelease
    | apply keeps_roleTo
    | apply keeps_done
    | fail_if_no_progress apply Keeps.upd
    | split
    | (dsimp only [x])

theorem keeps_execReleaseToken {k0 : Bool} {r0 s : State} (cause : Nat) (hk : Keeps k0 r0 s) : KeepsOut k0 r0 (execReleaseToken cause s) := by
  unfold execReleaseToken
  repeat' with_reducible first
    | assumption
    | ((try lift_lets); intro x; first | (refine (fun (hx : Keeps k0 r0 x) => ?_) ?_; on_goal 1 => (try clear_value x)) | (try clear_value x))
    | apply KeepsOut.ite
    | apply keepsOut_done
    | apply Keeps.ite
    | apply keeps_done
    | fail_if_no_progress apply Keeps.upd
    | split
    | (dsimp only [x])

theorem keeps_tickLoad {k0 : Bool} {r0 s : State} (tb : Nat) (hk : Keeps k0 r0 s) : Keeps k0 r0 (State.tickLoad s tb) := by
  unfold State.tickLoad
  repeat' with_reducible first
    | assumption
    | ((try lift_lets); intro x; first | (refine (fun (hx : Keeps k0 r0 x) => ?_) ?_; on_goal 1 => (try clear_value x)) | (try clear_value x))
    | fail_if_no_progress apply Keeps.upd
    | (dsimp only [x])

theorem keeps_tickAlign {r0 s : State} (tb : Nat) (lag : Int) (hk : Keeps false r0 s) : Keeps false r0 (s.tickAlign tb lag) := by
  unfold State.tickAlign
  have h := keeps_setRf Reg.twnAlign 0 16 (ofIntN 16 (clampInt (-32768) 32767 lag)) hk
  exact Keeps.ite (keeps_tickLoad _ h) (Keeps.ite (keeps_tickLoad _ (keeps_fault _ _ h))
    ⟨h.1, h.2, h.3, h.4, h.5, h.6, h.7, h.8, fun e => by cases e⟩)

theorem keeps_execTickToken {r0 s : State} (tb : Nat) (lag : Int) (hk : Keeps false r0 s) : KeepsOut false r0 (execTickToken tb lag s) := by
  unfold execTickToken
  repeat' with_reducible first
    | assumption
    | (refine Keeps.updTb (Nat.mod_lt _ (by norm_num)) ?_)
    | ((try lift_lets); intro x; first | (refine (fun (hx : Keeps false r0 x) => ?_) ?_; on_goal 1 => (try clear_value x)) | (try clear_value x))
    | apply KeepsOut.ite
    | apply keepsOut_done
    | apply Keeps.ite
    | apply keeps_tickLoad
    | apply keeps_tickAlign
    | apply keeps_done
    | fail_if_no_progress apply Keeps.upd
    | split
    | (dsimp only [x])

theorem keeps_cmpPut {k0 : Bool} {r0 s : State} (n : Nat) (c : TwinCmp) (hk : Keeps k0 r0 s) : Keeps k0 r0 (State.cmpPut s n c) := by
  unfold State.cmpPut
  repeat' with_reducible first
    | assumption
    | ((try lift_lets); intro x; first | (refine (fun (hx : Keeps k0 r0 x) => ?_) ?_; on_goal 1 => (try clear_value x)) | (try clear_value x))
    | fail_if_no_progress apply Keeps.upd
    | (dsimp only [x])

theorem keeps_convergeRefresh {k0 : Bool} {r0 s : State}  (hk : Keeps k0 r0 s) : Keeps k0 r0 (State.convergeRefresh s) := by
  unfold State.convergeRefresh
  repeat' with_reducible first
    | assumption
    | ((try lift_lets); intro x; first | (refine (fun (hx : Keeps k0 r0 x) => ?_) ?_; on_goal 1 => (try clear_value x)) | (try clear_value x))
    | apply Keeps.ite
    | apply keeps_setRb
    | apply keeps_sendToken
    | split
    | (dsimp only [x])

theorem keeps_graftCompare {k0 : Bool} {r0 s : State} (n : Nat) (u : Int) (hk : Keeps k0 r0 s) : Keeps k0 r0 (State.graftCompare s n u) := by
  unfold State.graftCompare
  repeat' with_reducible first
    | assumption
    | ((try lift_lets); intro x; first | (refine (fun (hx : Keeps k0 r0 x) => ?_) ?_; on_goal 1 => (try clear_value x)) | (try clear_value x))
    | apply Keeps.ite
    | apply keeps_cmpPut
    | apply keeps_convergeRefresh
    | apply keeps_setRb
    | apply keeps_fire
    | apply keeps_fault
    | fail_if_no_progress apply Keeps.upd
    | split
    | (dsimp only [x])

theorem keeps_graftApply {k0 : Bool} {r0 s : State} (g : Graft) (hk : Keeps k0 r0 s) : Keeps k0 r0 (State.graftApply s g) := by
  unfold State.graftApply
  repeat' with_reducible first
    | assumption
    | ((try lift_lets); intro x; first | (refine (fun (hx : Keeps k0 r0 x) => ?_) ?_; on_goal 1 => (try clear_value x)) | (try clear_value x))
    | apply Keeps.ite
    | apply keeps_graftCompare
    | apply keeps_setSword
    | apply keeps_incWrap
    | split
    | (dsimp only [x])

theorem keeps_graftsRun {k0 : Bool} {r0 s : State}  (hk : Keeps k0 r0 s) : Keeps k0 r0 (State.graftsRun s) := by
  unfold State.graftsRun
  repeat' with_reducible first
    | assumption
    | ((try lift_lets); intro x; first | (refine (fun (hx : Keeps k0 r0 x) => ?_) ?_; on_goal 1 => (try clear_value x)) | (try clear_value x))
    | (refine keeps_foldl _ _ (fun t n ht => ?_) ?_; on_goal 1 => beta_reduce)
    | apply keeps_graftApply
    | fail_if_no_progress apply Keeps.upd
    | (dsimp only [x])

theorem keeps_graftsLate {k0 : Bool} {r0 s : State} (k : Nat) (hk : Keeps k0 r0 s) : Keeps k0 r0 (State.graftsLate s k) := by
  unfold State.graftsLate
  repeat' with_reducible first
    | assumption
    | ((try lift_lets); intro x; first | (refine (fun (hx : Keeps k0 r0 x) => ?_) ?_; on_goal 1 => (try clear_value x)) | (try clear_value x))
    | apply Keeps.ite
    | apply keeps_incSat
    | fail_if_no_progress apply Keeps.upd
    | split
    | (dsimp only [x])

theorem keeps_runmapRefresh {k0 : Bool} {r0 s : State}  (hk : Keeps k0 r0 s) : Keeps k0 r0 (State.runmapRefresh s) := by
  unfold State.runmapRefresh
  repeat' with_reducible first
    | assumption
    | ((try lift_lets); intro x; first | (refine (fun (hx : Keeps k0 r0 x) => ?_) ?_; on_goal 1 => (try clear_value x)) | (try clear_value x))
    | apply Keeps.ite
    | apply keeps_sendToken
    | fail_if_no_progress apply Keeps.upd
    | split
    | (dsimp only [x])

theorem keeps_execGraftToken {k0 : Bool} {r0 s : State} (cls : Nat) (first : Nat) (tb : Nat) (entries : List (Int × Int)) (hk : Keeps k0 r0 s) : KeepsOut k0 r0 (execGraftToken cls first tb entries s) := by
  unfold execGraftToken
  repeat' with_reducible first
    | assumption
    | ((try lift_lets); intro x; first | (refine (fun (hx : Keeps k0 r0 x) => ?_) ?_; on_goal 1 => (try clear_value x)) | (refine (fun (hx : Keeps k0 r0 x.2) => ?_) ?_; on_goal 1 => (try clear_value x)) | (refine (fun (hx : Keeps k0 r0 x.2.2) => ?_) ?_; on_goal 1 => (try clear_value x)) | (try clear_value x))
    | apply KeepsOut.ite
    | apply keepsOut_done
    | apply Keeps.ite
    | apply keeps_incSat
    | apply keeps_graftsRun
    | apply keeps_done
    | apply Keeps.ite2
    | apply Keeps.ite3
    | fail_if_no_progress apply Keeps.upd
    | split
    | (dsimp only [x])

theorem keeps_execRunmapToken {k0 : Bool} {r0 s : State} (slots : List Nat) (hk : Keeps k0 r0 s) : KeepsOut k0 r0 (execRunmapToken slots s) := by
  unfold execRunmapToken
  repeat' with_reducible first
    | assumption
    | ((try lift_lets); intro x; first | (refine (fun (hx : Keeps k0 r0 x) => ?_) ?_; on_goal 1 => (try clear_value x)) | (try clear_value x))
    | apply KeepsOut.ite
    | apply keepsOut_done
    | apply Keeps.ite
    | apply keeps_convergeRefresh
    | apply keeps_done
    | fail_if_no_progress apply Keeps.upd
    | split
    | (dsimp only [x])

theorem keeps_execMirrorToken {k0 : Bool} {r0 s : State} (acts : List ActMirror) (fans : List FanMirror) (auto : Bool) (seq : Option Nat) (hk : Keeps k0 r0 s) : KeepsOut k0 r0 (execMirrorToken acts fans auto seq s) := by
  unfold execMirrorToken
  repeat' with_reducible first
    | assumption
    | ((try lift_lets); intro x; first | (refine (fun (hx : Keeps k0 r0 x) => ?_) ?_; on_goal 1 => (try clear_value x)) | (try clear_value x))
    | apply KeepsOut.ite
    | apply keepsOut_done
    | apply Keeps.ite
    | (refine keeps_foldl _ _ (fun t n ht => ?_) ?_; on_goal 1 => beta_reduce)
    | apply keeps_actMirror
    | apply keeps_fanMirror
    | apply keeps_setRb
    | apply keeps_done
    | fail_if_no_progress apply Keeps.upd
    | split
    | (dsimp only [x])

theorem keeps_execZoneToken {k0 : Bool} {r0 s : State} (zones : List ZoneMirror) (sps : List (Nat × Word)) (vpvs : List (Nat × Word)) (hk : Keeps k0 r0 s) : KeepsOut k0 r0 (execZoneToken zones sps vpvs s) := by
  unfold execZoneToken
  repeat' with_reducible first
    | assumption
    | ((try lift_lets); intro x; first | (refine (fun (hx : Keeps k0 r0 x) => ?_) ?_; on_goal 1 => (try clear_value x)) | (refine (fun (hx : Keeps k0 r0 x.2) => ?_) ?_; on_goal 1 => (try clear_value x)) | (refine (fun (hx : Keeps k0 r0 x.2.2) => ?_) ?_; on_goal 1 => (try clear_value x)) | (try clear_value x))
    | apply KeepsOut.ite
    | apply keepsOut_done
    | apply Keeps.ite
    | (refine keeps_foldl _ _ (fun t n ht => ?_) ?_; on_goal 1 => beta_reduce)
    | apply keeps_zoneMirror
    | apply keeps_setWord
    | apply keeps_setVpv
    | apply keeps_zonLoadPins
    | apply keeps_sprueRx
    | apply keeps_roleTo
    | apply keeps_sendToken
    | apply keeps_done
    | apply Keeps.ite2
    | apply Keeps.ite3
    | fail_if_no_progress apply Keeps.upd
    | split
    | (dsimp only [x])

theorem keeps_formationSend {k0 : Bool} {r0 s : State}  (hk : Keeps k0 r0 s) : Keeps k0 r0 (State.formationSend s) := by
  unfold State.formationSend
  repeat' with_reducible first
    | assumption
    | ((try lift_lets); intro x; first | (refine (fun (hx : Keeps k0 r0 x) => ?_) ?_; on_goal 1 => (try clear_value x)) | (try clear_value x))
    | apply keeps_roleTo
    | apply keeps_configSend
    | apply keeps_sendToken
    | fail_if_no_progress apply Keeps.upd
    | (dsimp only [x])

theorem keeps_formationRest {k0 : Bool} {r0 s : State}  (hk : Keeps k0 r0 s) : Keeps k0 r0 (State.formationRest s) := by
  unfold State.formationRest
  repeat' with_reducible first
    | assumption
    | ((try lift_lets); intro x; first | (refine (fun (hx : Keeps k0 r0 x) => ?_) ?_; on_goal 1 => (try clear_value x)) | (try clear_value x))
    | apply Keeps.ite
    | apply keeps_sendToken
    | (refine keeps_foldl _ _ (fun t n ht => ?_) ?_; on_goal 1 => beta_reduce)
    | apply keeps_mirrorSend
    | apply keeps_zoneSendAll
    | fail_if_no_progress apply Keeps.upd
    | split
    | (dsimp only [x])

theorem keeps_formationTake {k0 : Bool} {r0 s : State}  (hk : Keeps k0 r0 s) : Keeps k0 r0 (State.formationTake s) := by
  unfold State.formationTake
  repeat' with_reducible first
    | assumption
    | ((try lift_lets); intro x; first | (refine (fun (hx : Keeps k0 r0 x) => ?_) ?_; on_goal 1 => (try clear_value x)) | (try clear_value x))
    | fail_if_no_progress apply Keeps.upd
    | (dsimp only [x])

theorem keeps_formation {r0 s : State} (h : Hello) (hk : Keeps false r0 s) : Keeps false r0 (State.formation s h) := by
  unfold State.formation
  repeat' with_reducible first
    | assumption
    | apply Keeps.ite
    | apply keeps_setRb
    | apply keeps_fault
    | apply keeps_formationSend
    | apply keeps_resetRun
    | apply keeps_formationTake
    | split

theorem keeps_imagesSend {k0 : Bool} {r0 s : State}  (hk : Keeps k0 r0 s) : Keeps k0 r0 (State.imagesSend s) := by
  unfold State.imagesSend
  repeat' with_reducible first
    | assumption
    | ((try lift_lets); intro x; first | (refine (fun (hx : Keeps k0 r0 x) => ?_) ?_; on_goal 1 => (try clear_value x)) | (try clear_value x))
    | (refine keeps_foldl _ _ (fun t n ht => ?_) ?_; on_goal 1 => beta_reduce)
    | apply keeps_sendToken
    | (dsimp only [x])

theorem keeps_execSprueUp {r0 s : State}  (hk : Keeps false r0 s) : KeepsOut false r0 (execSprueUp s) := by
  unfold execSprueUp
  repeat' with_reducible first
    | assumption
    | ((try lift_lets); intro x; first | (refine (fun (hx : Keeps false r0 x) => ?_) ?_; on_goal 1 => (try clear_value x)) | (try clear_value x))
    | apply KeepsOut.ite
    | apply keepsOut_done
    | apply Keeps.ite
    | apply keeps_setRb
    | apply keeps_sendToken
    | apply keeps_formation
    | apply keeps_done
    | fail_if_no_progress apply Keeps.upd
    | split
    | (dsimp only [x])

theorem keeps_execHelloToken {r0 s : State} (h : Hello) (hk : Keeps false r0 s) : KeepsOut false r0 (execHelloToken h s) := by
  unfold execHelloToken
  repeat' with_reducible first
    | assumption
    | ((try lift_lets); intro x; first | (refine (fun (hx : Keeps false r0 x) => ?_) ?_; on_goal 1 => (try clear_value x)) | (try clear_value x))
    | apply KeepsOut.ite
    | apply keepsOut_done
    | apply Keeps.ite
    | apply keeps_setReg
    | apply keeps_imagesSend
    | apply keeps_roleTo
    | apply keeps_formation
    | apply keeps_done
    | fail_if_no_progress apply Keeps.upd
    | split
    | (dsimp only [x])

theorem keeps_fnHalt {k0 : Bool} {r0 s : State} (f : Nat) (hk : Keeps k0 r0 s) : Keeps k0 r0 (State.fnHalt s f) := by
  unfold State.fnHalt
  repeat' with_reducible first
    | assumption
    | ((try lift_lets); intro x; first | (refine (fun (hx : Keeps k0 r0 x) => ?_) ?_; on_goal 1 => (try clear_value x)) | (try clear_value x))
    | apply keeps_setFn
    | apply keeps_fnTo
    | apply keeps_fnLeave
    | fail_if_no_progress apply Keeps.upd
    | split
    | (dsimp only [x])

theorem keeps_fnRestart {k0 : Bool} {r0 s : State} (f : Nat) (hk : Keeps k0 r0 s) : Keeps k0 r0 (State.fnRestart s f) := by
  unfold State.fnRestart
  repeat' with_reducible first
    | assumption
    | ((try lift_lets); intro x; first | (refine (fun (hx : Keeps k0 r0 x) => ?_) ?_; on_goal 1 => (try clear_value x)) | (refine (fun (hx : Keeps k0 r0 x.2) => ?_) ?_; on_goal 1 => (try clear_value x)) | (refine (fun (hx : Keeps k0 r0 x.2.2) => ?_) ?_; on_goal 1 => (try clear_value x)) | (try clear_value x))
    | apply Keeps.ite
    | apply keeps_fnHalt
    | apply keeps_fnValidate
    | apply keeps_setFn
    | apply keeps_fnLoad
    | apply keeps_fnTo
    | apply keeps_fnJoin
    | apply Keeps.ite2
    | apply Keeps.ite3
    | fail_if_no_progress apply Keeps.upd
    | split
    | (dsimp only [x])

theorem keeps_fnsFollow {k0 : Bool} {r0 s : State} (run : List Nat) (again : Nat → Bool) (hk : Keeps k0 r0 s) : Keeps k0 r0 (State.fnsFollow s run again) := by
  unfold State.fnsFollow
  repeat' with_reducible first
    | assumption
    | apply Keeps.ite
    | (refine keeps_foldl _ _ (fun t n ht => ?_) ?_; on_goal 1 => beta_reduce)
    | apply keeps_fnHalt
    | apply keeps_fnRestart
    | split

theorem keeps_setTake {k0 : Bool} {r0 s : State} (set : List (Nat × OdVal)) (heat : Nat) (run : List Nat) (hk : Keeps k0 r0 s) : Keeps k0 r0 (State.setTake s set heat run) := by
  unfold State.setTake
  repeat' with_reducible first
    | assumption
    | ((try lift_lets); intro x; first | (refine (fun (hx : Keeps k0 r0 x) => ?_) ?_; on_goal 1 => (try clear_value x)) | (try clear_value x))
    | apply Keeps.ite
    | apply keeps_odCommit
    | apply keeps_fire
    | apply keeps_happen
    | apply keeps_nvHeat
    | apply keeps_fnsFollow
    | (refine keeps_foldl _ _ (fun t n ht => ?_) ?_; on_goal 1 => beta_reduce)
    | apply keeps_fnLoad
    | apply keeps_applyMember
    | fail_if_no_progress apply Keeps.upd
    | split
    | (dsimp only [x])

theorem keeps_execConfigToken {k0 : Bool} {r0 s : State} (last : Bool) (heat : Nat) (hdig : Nat) (sdig : Nat) (members : List (Nat × OdVal)) (nvOk : Bool) (run : List Nat := []) (hk : Keeps k0 r0 s) : KeepsOut k0 r0 (execConfigToken last heat hdig sdig members nvOk s run) := by
  unfold execConfigToken
  repeat' with_reducible first
    | assumption
    | ((try lift_lets); intro x; first | (refine (fun (hx : Keeps k0 r0 x) => ?_) ?_; on_goal 1 => (try clear_value x)) | (refine (fun (hx : Keeps k0 r0 x.2) => ?_) ?_; on_goal 1 => (try clear_value x)) | (refine (fun (hx : Keeps k0 r0 x.2.2) => ?_) ?_; on_goal 1 => (try clear_value x)) | (try clear_value x))
    | apply KeepsOut.ite
    | apply keepsOut_done
    | apply Keeps.ite
    | apply keeps_sprueRx
    | (refine keeps_foldl _ _ (fun t n ht => ?_) ?_; on_goal 1 => beta_reduce)
    | apply keeps_nvRefuses
    | apply keeps_setTake
    | apply keeps_done
    | apply Keeps.ite2
    | apply Keeps.ite3
    | fail_if_no_progress apply Keeps.upd
    | split
    | (dsimp only [x])

theorem keeps_execImageToken {k0 : Bool} {r0 s : State} (kind : Nat) (offset : Nat) (total : Nat) (data : List Byte) (hk : Keeps k0 r0 s) : KeepsOut k0 r0 (execImageToken kind offset total data s) := by
  unfold execImageToken
  repeat' with_reducible first
    | assumption
    | ((try lift_lets); intro x; first | (refine (fun (hx : Keeps k0 r0 x) => ?_) ?_; on_goal 1 => (try clear_value x)) | (try clear_value x))
    | apply KeepsOut.ite
    | apply keepsOut_done
    | apply Keeps.ite
    | apply keeps_pourEmpty
    | apply keeps_pourFallback
    | apply keeps_setPour
    | apply keeps_setPourStatus
    | apply keeps_done
    | split
    | (dsimp only [x])

theorem keeps_execTwinPourTimeout {k0 : Bool} {r0 s : State}  (hk : Keeps k0 r0 s) : KeepsOut k0 r0 (execTwinPourTimeout s) := by
  unfold execTwinPourTimeout
  repeat' with_reducible first
    | assumption
    | ((try lift_lets); intro x; first | (refine (fun (hx : Keeps k0 r0 x) => ?_) ?_; on_goal 1 => (try clear_value x)) | (try clear_value x))
    | apply KeepsOut.ite
    | apply keepsOut_done
    | apply Keeps.ite
    | apply keeps_pourFallback
    | apply keeps_done
    | fail_if_no_progress apply Keeps.upd
    | split
    | (dsimp only [x])

theorem keeps_swapEnd {k0 : Bool} {r0 s : State}  (hk : Keeps k0 r0 s) : Keeps k0 r0 (State.swapEnd s) := by
  unfold State.swapEnd
  repeat' with_reducible first
    | assumption
    | ((try lift_lets); intro x; first | (refine (fun (hx : Keeps k0 r0 x) => ?_) ?_; on_goal 1 => (try clear_value x)) | (try clear_value x))
    | apply keeps_setRb
    | apply keeps_setRf
    | fail_if_no_progress apply Keeps.upd
    | (dsimp only [x])

theorem keeps_swapStart {k0 : Bool} {r0 s : State}  (hk : Keeps k0 r0 s) : Keeps k0 r0 (State.swapStart s) := by
  unfold State.swapStart
  repeat' with_reducible first
    | assumption
    | ((try lift_lets); intro x; first | (refine (fun (hx : Keeps k0 r0 x) => ?_) ?_; on_goal 1 => (try clear_value x)) | (try clear_value x))
    | apply keeps_setRb
    | apply keeps_setRf
    | fail_if_no_progress apply Keeps.upd
    | (dsimp only [x])

theorem keeps_swapRestore {k0 : Bool} {r0 s : State}  (hk : Keeps k0 r0 s) : Keeps k0 r0 (State.swapRestore s) := by
  unfold State.swapRestore
  repeat' with_reducible first
    | assumption
    | ((try lift_lets); intro x; first | (refine (fun (hx : Keeps k0 r0 x) => ?_) ?_; on_goal 1 => (try clear_value x)) | (refine (fun (hx : Keeps k0 r0 x.2) => ?_) ?_; on_goal 1 => (try clear_value x)) | (refine (fun (hx : Keeps k0 r0 x.2.2) => ?_) ?_; on_goal 1 => (try clear_value x)) | (try clear_value x))
    | apply Keeps.ite
    | (refine keeps_foldl _ _ (fun t n ht => ?_) ?_; on_goal 1 => beta_reduce)
    | apply keeps_fnDrop
    | apply keeps_fnRestart
    | apply keeps_fnHalt
    | apply Keeps.ite2
    | apply Keeps.ite3
    | fail_if_no_progress apply Keeps.upd
    | split
    | (dsimp only [x])

theorem keeps_finishWrite {k0 : Bool} {r0 s : State} (nvOk : Bool) (hk : Keeps k0 r0 s) : Keeps k0 r0 (State.finishWrite s nvOk) := by
  unfold State.finishWrite
  repeat' with_reducible first
    | assumption
    | ((try lift_lets); intro x; first | (refine (fun (hx : Keeps k0 r0 x) => ?_) ?_; on_goal 1 => (try clear_value x)) | (refine (fun (hx : Keeps k0 r0 x.2) => ?_) ?_; on_goal 1 => (try clear_value x)) | (refine (fun (hx : Keeps k0 r0 x.2.2) => ?_) ?_; on_goal 1 => (try clear_value x)) | (try clear_value x))
    | apply Keeps.ite
    | apply keeps_nvRefuses
    | apply keeps_nvHeat
    | apply keeps_sendToken
    | apply Keeps.ite2
    | apply Keeps.ite3
    | fail_if_no_progress apply Keeps.upd
    | split
    | (dsimp only [x])

theorem keeps_swapCommand {k0 : Bool} {r0 s : State} (cmd : Nat) (nvOk : Bool) (hk : Keeps k0 r0 s) : Keeps k0 r0 (State.swapCommand s cmd nvOk).2 := by
  unfold State.swapCommand
  repeat' with_reducible first
    | assumption
    | ((try lift_lets); intro x; first | (refine (fun (hx : Keeps k0 r0 x) => ?_) ?_; on_goal 1 => (try clear_value x)) | (try clear_value x))
    | apply Keeps.ite
    | apply keeps_swapStart
    | apply keeps_sendToken
    | apply keeps_setRf
    | apply keeps_finishWrite
    | apply keeps_swapEnd
    | fail_if_no_progress apply Keeps.upd
    | split
    | (dsimp only [x])

theorem keeps_swapAnswer {k0 : Bool} {r0 s : State} (code : Nat) (hk : Keeps k0 r0 s) : Keeps k0 r0 (State.swapAnswer s code) := by
  unfold State.swapAnswer
  repeat' with_reducible first
    | assumption
    | apply Keeps.ite
    | (refine keeps_foldl _ _ (fun t n ht => ?_) ?_; on_goal 1 => beta_reduce)
    | apply keeps_txnEnd
    | split

theorem keeps_execSwapBegin {k0 : Bool} {r0 s : State}  (hk : Keeps k0 r0 s) : KeepsOut k0 r0 (execSwapBegin s) := by
  unfold execSwapBegin
  repeat' with_reducible first
    | assumption
    | apply KeepsOut.ite
    | apply keepsOut_done
    | apply Keeps.ite
    | apply keeps_swapCommand
    | apply keeps_done
    | apply Keeps.ite2
    | apply Keeps.ite3
    | split

theorem keeps_execSwap {k0 : Bool} {r0 s : State}  (hk : Keeps k0 r0 s) : KeepsOut k0 r0 (execSwap s) := by
  unfold execSwap
  repeat' with_reducible first
    | assumption
    | apply KeepsOut.ite
    | apply keepsOut_done
    | apply Keeps.ite
    | apply keeps_swapCommand
    | apply keeps_done
    | apply Keeps.ite2
    | apply Keeps.ite3
    | split

theorem keeps_execForceSwap {k0 : Bool} {r0 s : State}  (hk : Keeps k0 r0 s) : KeepsOut k0 r0 (execForceSwap s) := by
  unfold execForceSwap
  repeat' with_reducible first
    | assumption
    | apply KeepsOut.ite
    | apply keepsOut_done
    | apply Keeps.ite
    | apply keeps_swapCommand
    | apply keeps_done
    | apply Keeps.ite2
    | apply Keeps.ite3
    | split

theorem keeps_execSwapFinish {k0 : Bool} {r0 s : State} (nvOk : Bool) (hk : Keeps k0 r0 s) : KeepsOut k0 r0 (execSwapFinish nvOk s) := by
  unfold execSwapFinish
  repeat' with_reducible first
    | assumption
    | apply KeepsOut.ite
    | apply keepsOut_done
    | apply Keeps.ite
    | apply keeps_finishWrite
    | apply keeps_swapCommand
    | apply keeps_done
    | apply Keeps.ite2
    | apply Keeps.ite3
    | split

theorem keeps_execSwapAbort {k0 : Bool} {r0 s : State}  (hk : Keeps k0 r0 s) : KeepsOut k0 r0 (execSwapAbort s) := by
  unfold execSwapAbort
  repeat' with_reducible first
    | assumption
    | apply KeepsOut.ite
    | apply keepsOut_done
    | apply Keeps.ite
    | apply keeps_swapCommand
    | apply keeps_done
    | apply Keeps.ite2
    | apply Keeps.ite3
    | split

theorem keeps_swapExchange {k0 : Bool} {r0 s : State}  (hk : Keeps k0 r0 s) : Keeps k0 r0 (State.swapExchange s) := by
  unfold State.swapExchange
  repeat' with_reducible first
    | assumption
    | ((try lift_lets); intro x; first | (refine (fun (hx : Keeps k0 r0 x) => ?_) ?_; on_goal 1 => (try clear_value x)) | (try clear_value x))
    | apply Keeps.ite
    | apply keeps_setRb
    | apply keeps_mirrorSend
    | apply keeps_sendToken
    | apply keeps_ownRelease
    | apply keeps_swapAnswer
    | apply keeps_roleTo
    | apply keeps_sbusStandby
    | apply keeps_keysUp
    | apply keeps_swapRefresh
    | apply keeps_ownPull
    | apply keeps_netTakeover
    | apply keeps_actTakeover
    | fail_if_no_progress apply Keeps.upd
    | split
    | (dsimp only [x])

theorem keeps_execSwapExchange {k0 : Bool} {r0 s : State}  (hk : Keeps k0 r0 s) : KeepsOut k0 r0 (execSwapExchange s) := by
  unfold execSwapExchange
  repeat' with_reducible first
    | assumption
    | ((try lift_lets); intro x; first | (refine (fun (hx : Keeps k0 r0 x) => ?_) ?_; on_goal 1 => (try clear_value x)) | (try clear_value x))
    | apply KeepsOut.ite
    | apply keepsOut_done
    | apply Keeps.ite
    | apply keeps_swapExchange
    | apply keeps_done
    | fail_if_no_progress apply Keeps.upd
    | split
    | (dsimp only [x])

theorem keeps_finishCommit {k0 : Bool} {r0 s : State} (ok : Bool) (hk : Keeps k0 r0 s) : Keeps k0 r0 (State.finishCommit s ok) := by
  unfold State.finishCommit
  repeat' with_reducible first
    | assumption
    | ((try lift_lets); intro x; first | (refine (fun (hx : Keeps k0 r0 x) => ?_) ?_; on_goal 1 => (try clear_value x)) | (try clear_value x))
    | apply Keeps.ite
    | apply keeps_odCommit
    | apply keeps_heatStep
    | apply keeps_swapEnd
    | apply keeps_swapAnswer
    | apply keeps_setRf
    | fail_if_no_progress apply Keeps.upd
    | split
    | (dsimp only [x])

theorem keeps_execSwapFinishCommit {k0 : Bool} {r0 s : State}  (hk : Keeps k0 r0 s) : KeepsOut k0 r0 (execSwapFinishCommit s) := by
  unfold execSwapFinishCommit
  repeat' with_reducible first
    | assumption
    | ((try lift_lets); intro x; first | (refine (fun (hx : Keeps k0 r0 x) => ?_) ?_; on_goal 1 => (try clear_value x)) | (try clear_value x))
    | apply KeepsOut.ite
    | apply keepsOut_done
    | apply Keeps.ite
    | apply keeps_finishCommit
    | apply keeps_done
    | fail_if_no_progress apply Keeps.upd
    | split
    | (dsimp only [x])

theorem keeps_swapSetTake {k0 : Bool} {r0 s : State} (fns : List Nat) (hk : Keeps k0 r0 s) : Keeps k0 r0 (State.swapSetTake s fns) := by
  unfold State.swapSetTake
  repeat' with_reducible first
    | assumption
    | ((try lift_lets); intro x; first | (refine (fun (hx : Keeps k0 r0 x) => ?_) ?_; on_goal 1 => (try clear_value x)) | (try clear_value x))
    | fail_if_no_progress apply Keeps.upd
    | (dsimp only [x])

theorem keeps_execSwapToken {k0 : Bool} {r0 s : State} (ctl : SwapCtl) (hk : Keeps k0 r0 s) : KeepsOut k0 r0 (execSwapToken ctl s) := by
  unfold execSwapToken
  repeat' with_reducible first
    | assumption
    | ((try lift_lets); intro x; first | (refine (fun (hx : Keeps k0 r0 x) => ?_) ?_; on_goal 1 => (try clear_value x)) | (try clear_value x))
    | apply KeepsOut.ite
    | apply keepsOut_done
    | apply Keeps.ite
    | apply keeps_swapSetTake
    | apply keeps_swapStart
    | apply keeps_swapRefresh
    | apply keeps_setRb
    | apply keeps_setRf
    | apply keeps_swapEnd
    | apply keeps_swapRestore
    | apply keeps_done
    | fail_if_no_progress apply Keeps.upd
    | split
    | (dsimp only [x])

theorem keeps_execTwnLatecntRead {k0 : Bool} {r0 s : State} (who : Init) (hk : Keeps k0 r0 s) : KeepsOut k0 r0 (execTwnLatecntRead who s) := by
  unfold execTwnLatecntRead
  repeat' with_reducible first
    | assumption
    | apply keepsOut_done
    | apply keeps_readClear
    | apply keeps_done

theorem keeps_execTwnLinkerrRead {k0 : Bool} {r0 s : State} (who : Init) (hk : Keeps k0 r0 s) : KeepsOut k0 r0 (execTwnLinkerrRead who s) := by
  unfold execTwnLinkerrRead
  repeat' with_reducible first
    | assumption
    | apply keepsOut_done
    | apply keeps_readClear
    | apply keeps_done

end Sys2Proof.Machine
end

