-- ==== Sys2Proof/Laws/KeepsD.lean ====
section
/-! SUPPORT. What no command does, continued from Laws/Keeps: requests, the bus, the ladle at work, the host port and time. -/

set_option linter.unreachableTactic false
set_option linter.unusedTactic false

namespace Sys2Proof.Machine

theorem keeps_traceWrite {k0 : Bool} {r0 s : State} (t : Nat) (m : Nat) (v : Int) (hk : Keeps k0 r0 s) : Keeps k0 r0 (State.traceWrite s t m v) := by
  unfold State.traceWrite
  repeat' with_reducible first
    | assumption
    | ((try lift_lets); intro x; first | (refine (fun (hx : Keeps k0 r0 x) => ?_) ?_; on_goal 1 => (try clear_value x)) | (try clear_value x))
    | apply Keeps.ite
    | apply keeps_trcConfig
    | apply keeps_trcArm
    | apply keeps_trcStop
    | apply keeps_trcForce
    | fail_if_no_progress apply Keeps.upd
    | split
    | (dsimp only [x])

theorem keeps_odAct {k0 : Bool} {r0 s : State} (id : Nat) (v : OdVal) (hk : Keeps k0 r0 s) : Keeps k0 r0 (State.odAct s id v) := by
  unfold State.odAct
  repeat' with_reducible first
    | assumption
    | ((try lift_lets); intro x; first | (refine (fun (hx : Keeps k0 r0 x) => ?_) ?_; on_goal 1 => (try clear_value x)) | (try clear_value x))
    | apply Keeps.ite
    | apply keeps_rtcSetClock
    | apply keeps_rtcAdjWrite
    | apply keeps_nvStore
    | apply keeps_spWrite
    | apply keeps_vpvWrite
    | apply keeps_actReleaseWrite
    | apply keeps_fanClrWrite
    | apply keeps_loadSequence
    | apply keeps_lockSequence
    | apply keeps_kpdLockWrite
    | apply keeps_encCountWrite
    | apply keeps_sendToken
    | apply keeps_logClear
    | apply keeps_traceWrite
    | apply keeps_chillAccept
    | fail_if_no_progress apply Keeps.upd
    | split
    | (dsimp only [x])

theorem keeps_odApply {k0 : Bool} {r0 s : State} (pairs : List (Nat × OdVal)) (hk : Keeps k0 r0 s) : Keeps k0 r0 (State.odApply s pairs) := by
  unfold State.odApply
  repeat' with_reducible first
    | assumption
    | ((try lift_lets); intro x; first | (refine (fun (hx : Keeps k0 r0 x) => ?_) ?_; on_goal 1 => (try clear_value x)) | (refine (fun (hx : Keeps k0 r0 x.2) => ?_) ?_; on_goal 1 => (try clear_value x)) | (refine (fun (hx : Keeps k0 r0 x.2.2) => ?_) ?_; on_goal 1 => (try clear_value x)) | (try clear_value x))
    | apply Keeps.ite
    | (refine keeps_foldl _ _ (fun t n ht => ?_) ?_; on_goal 1 => beta_reduce)
    | apply keeps_odStage
    | apply keeps_odSet
    | apply keeps_swapNote
    | apply keeps_nvHeatNext
    | apply keeps_odCommit
    | apply keeps_heatStep
    | apply keeps_applyMember
    | apply keeps_configSend
    | apply keeps_odAct
    | apply Keeps.ite2
    | apply Keeps.ite3
    | fail_if_no_progress apply Keeps.upd
    | split
    | (dsimp only [x])

theorem keeps_odReadAll {k0 : Bool} {r0 s : State} (r : OdReq) (hk : Keeps k0 r0 s) : Keeps k0 r0 (s.odReadAll r).2.2 := by
  unfold State.odReadAll
  have : ∀ (l : List Nat) (a : List Byte × Bool × State), Keeps k0 r0 a.2.2 → Keeps k0 r0 (l.foldl (fun (a : List Byte × Bool × State) id =>
      match odRow id with
      | some row =>
        let res := a.2.2.odReadOne row id (r.flags.testBit 1)
        let v := res.1
        let st := res.2.1
        let s := res.2.2
        (a.1 ++ odEnc r.little row.typ v, a.2.1 || st, s)
      | none => a) a).2.2 := by
    intro l
    induction l with
    | nil => intro a h; exact h
    | cons i l ih =>
      intro a h
      refine ih _ ?_
      dsimp only
      split
      · exact keeps_odReadOne _ _ _ h
      · exact h
  exact this _ _ hk

theorem keeps_odCallRun {k0 : Bool} {r0 s : State} (t : Txn) (r : OdReq) (hk : Keeps k0 r0 s) : Keeps k0 r0 (State.odCallRun s t r) := by
  unfold State.odCallRun
  repeat' with_reducible first
    | assumption
    | ((try lift_lets); intro x; first | (refine (fun (hx : Keeps k0 r0 x) => ?_) ?_; on_goal 1 => (try clear_value x)) | (refine (fun (hx : Keeps k0 r0 x.2) => ?_) ?_; on_goal 1 => (try clear_value x)) | (refine (fun (hx : Keeps k0 r0 x.2.2) => ?_) ?_; on_goal 1 => (try clear_value x)) | (try clear_value x))
    | apply Keeps.ite
    | apply keeps_fnCommand
    | apply keeps_txnEnd
    | apply Keeps.ite2
    | apply Keeps.ite3
    | fail_if_no_progress apply Keeps.upd
    | split
    | (dsimp only [x])

theorem keeps_odRun {k0 : Bool} {r0 s : State} (t : Txn) (r : OdReq) (forwarded : Bool) (nvOk : Bool) (hk : Keeps k0 r0 s) : Keeps k0 r0 (State.odRun s t r forwarded nvOk) := by
  unfold State.odRun
  repeat' with_reducible first
    | assumption
    | ((try lift_lets); intro x; first | (refine (fun (hx : Keeps k0 r0 x) => ?_) ?_; on_goal 1 => (try clear_value x)) | (refine (fun (hx : Keeps k0 r0 x.2) => ?_) ?_; on_goal 1 => (try clear_value x)) | (refine (fun (hx : Keeps k0 r0 x.2.2) => ?_) ?_; on_goal 1 => (try clear_value x)) | (try clear_value x))
    | apply Keeps.ite
    | apply keeps_odReadAll
    | apply keeps_txnEnd
    | apply keeps_sendToken
    | apply keeps_odCallRun
    | apply keeps_swapCommand
    | apply keeps_nvRefuses
    | apply keeps_odApply
    | apply Keeps.ite2
    | apply Keeps.ite3
    | fail_if_no_progress apply Keeps.upd
    | split
    | (dsimp only [x])

theorem keeps_odBusy {k0 : Bool} {r0 s : State} (t : Txn) (hk : Keeps k0 r0 s) : Keeps k0 r0 (State.odBusy s t) := by
  unfold State.odBusy
  repeat' with_reducible first
    | assumption
    | ((try lift_lets); intro x; first | (refine (fun (hx : Keeps k0 r0 x) => ?_) ?_; on_goal 1 => (try clear_value x)) | (try clear_value x))
    | apply keeps_odCount
    | apply keeps_incSat
    | apply keeps_odSend
    | fail_if_no_progress apply Keeps.upd
    | (dsimp only [x])

theorem keeps_odServe {k0 : Bool} {r0 s : State} (t : Txn) (bytes : List Byte) (verdict : Nat) (typ : Option Nat) (role : Nat) (forwarded : Bool) (nvOk : Bool) (hk : Keeps k0 r0 s) : Keeps k0 r0 (State.odServe s t bytes verdict typ role forwarded nvOk) := by
  unfold State.odServe
  repeat' with_reducible first
    | assumption
    | ((try lift_lets); intro x; first | (refine (fun (hx : Keeps k0 r0 x) => ?_) ?_; on_goal 1 => (try clear_value x)) | (try clear_value x))
    | apply Keeps.ite
    | apply keeps_odBusy
    | apply keeps_txnAccept
    | apply keeps_fire
    | apply keeps_txnEnd
    | apply keeps_odRun
    | fail_if_no_progress apply Keeps.upd
    | split
    | (dsimp only [x])

theorem keeps_odRequest {k0 : Bool} {r0 s : State} (src : OdSrc) (op : Nat) (nvOk : Bool) (hk : Keeps k0 r0 s) : Keeps k0 r0 (State.odRequest s src op nvOk) := by
  unfold State.odRequest
  repeat' with_reducible first
    | assumption
    | ((try lift_lets); intro x; first | (refine (fun (hx : Keeps k0 r0 x) => ?_) ?_; on_goal 1 => (try clear_value x)) | (refine (fun (hx : Keeps k0 r0 x.2) => ?_) ?_; on_goal 1 => (try clear_value x)) | (refine (fun (hx : Keeps k0 r0 x.2.2) => ?_) ?_; on_goal 1 => (try clear_value x)) | (try clear_value x))
    | apply Keeps.ite
    | apply keeps_setRf
    | apply keeps_odServe
    | apply keeps_sendToken
    | apply keeps_netCheck
    | apply keeps_netConflict
    | apply keeps_netRx
    | apply Keeps.ite2
    | apply Keeps.ite3
    | fail_if_no_progress apply Keeps.upd
    | split
    | (dsimp only [x])

theorem keeps_execOdRead {k0 : Bool} {r0 s : State} (src : OdSrc) (hk : Keeps k0 r0 s) : KeepsOut k0 r0 (execOdRead src s) := by
  unfold execOdRead
  repeat' with_reducible first
    | assumption
    | apply keepsOut_done
    | apply keeps_odRequest
    | apply keeps_done

theorem keeps_execOdWrite {k0 : Bool} {r0 s : State} (src : OdSrc) (nvOk : Bool) (hk : Keeps k0 r0 s) : KeepsOut k0 r0 (execOdWrite src nvOk s) := by
  unfold execOdWrite
  repeat' with_reducible first
    | assumption
    | apply keepsOut_done
    | apply keeps_odRequest
    | apply keeps_done

theorem keeps_execOdWriteBlock {k0 : Bool} {r0 s : State} (src : OdSrc) (nvOk : Bool) (hk : Keeps k0 r0 s) : KeepsOut k0 r0 (execOdWriteBlock src nvOk s) := by
  unfold execOdWriteBlock
  repeat' with_reducible first
    | assumption
    | apply keepsOut_done
    | apply keeps_odRequest
    | apply keeps_done

theorem keeps_execOdCall {k0 : Bool} {r0 s : State} (src : OdSrc) (hk : Keeps k0 r0 s) : KeepsOut k0 r0 (execOdCall src s) := by
  unfold execOdCall
  repeat' with_reducible first
    | assumption
    | apply keepsOut_done
    | apply keeps_odRequest
    | apply keeps_done

theorem keeps_odxAnswer {k0 : Bool} {r0 s : State} (record : List Byte) (tag : Nat) (hk : Keeps k0 r0 s) : Keeps k0 r0 (State.odxAnswer s record tag) := by
  unfold State.odxAnswer
  repeat' with_reducible first
    | assumption
    | ((try lift_lets); intro x; first | (refine (fun (hx : Keeps k0 r0 x) => ?_) ?_; on_goal 1 => (try clear_value x)) | (try clear_value x))
    | apply keeps_odSend
    | fail_if_no_progress apply Keeps.upd
    | split
    | (dsimp only [x])

theorem keeps_execOdxToken {k0 : Bool} {r0 s : State} (response : Bool) (record : List Byte) (tag : Nat := 0) (hk : Keeps k0 r0 s) : KeepsOut k0 r0 (execOdxToken response record s tag) := by
  unfold execOdxToken
  repeat' with_reducible first
    | assumption
    | ((try lift_lets); intro x; first | (refine (fun (hx : Keeps k0 r0 x) => ?_) ?_; on_goal 1 => (try clear_value x)) | (try clear_value x))
    | apply KeepsOut.ite
    | apply keepsOut_done
    | apply Keeps.ite
    | apply keeps_sprueRx
    | apply keeps_odxAnswer
    | apply keeps_done
    | split
    | (dsimp only [x])

theorem keeps_partnerFrame {k0 : Bool} {r0 s : State} (m : NetFrame) (hk : Keeps k0 r0 s) : Keeps k0 r0 (State.partnerFrame s m) := by
  unfold State.partnerFrame
  repeat' with_reducible first
    | assumption
    | ((try lift_lets); intro x; first | (refine (fun (hx : Keeps k0 r0 x) => ?_) ?_; on_goal 1 => (try clear_value x)) | (refine (fun (hx : Keeps k0 r0 x.2) => ?_) ?_; on_goal 1 => (try clear_value x)) | (refine (fun (hx : Keeps k0 r0 x.2.2) => ?_) ?_; on_goal 1 => (try clear_value x)) | (try clear_value x))
    | apply Keeps.ite
    | apply keeps_netCheck
    | apply keeps_netConflict
    | apply keeps_netRx
    | apply keeps_heartbeatTake
    | apply keeps_timeTake
    | apply keeps_censusTake
    | apply keeps_notifyTake
    | apply Keeps.ite2
    | apply Keeps.ite3
    | fail_if_no_progress apply Keeps.upd
    | split
    | (dsimp only [x])

theorem keeps_execNetframeToken {k0 : Bool} {r0 s : State} (fromPartnerPort : Bool) (frame : NetFrame) (hk : Keeps k0 r0 s) : KeepsOut k0 r0 (execNetframeToken fromPartnerPort frame s) := by
  unfold execNetframeToken
  repeat' with_reducible first
    | assumption
    | apply KeepsOut.ite
    | apply keepsOut_done
    | apply Keeps.ite
    | apply keeps_partnerFrame
    | apply keeps_netQueue
    | apply keeps_done
    | split

theorem keeps_regRead {k0 : Bool} {r0 s : State} (who : Init) (a : Nat) (hk : Keeps k0 r0 s) : Keeps k0 r0 (s.regRead who a).2 := by
  unfold State.regRead
  refine Keeps.ite2 (keeps_rtcCapture _ hk) (Keeps.ite2 (keeps_tbcountRead hk) (Keeps.ite2 (keeps_knabCntval hk)
    (Keeps.ite2 (keeps_odxHeatRead hk) (Keeps.ite2 (keeps_drawWord hk) (Keeps.ite2 (keeps_actStatWord _ hk) ?_)))))
  generalize s.regView who (regUnit a) (a % 0x10000) = v
  cases v with
  | some v => exact hk
  | none =>
    generalize regRow a = r
    cases r with
    | none => exact hk
    | some r => exact Keeps.ite (keeps_clrReg _ _ hk) hk

theorem keeps_plainWrite {k0 : Bool} {r0 s : State} (a : Nat) (v : Word) (hk : Keeps k0 r0 s) : Keeps k0 r0 (State.plainWrite s a v) := by
  unfold State.plainWrite
  repeat' with_reducible first
    | assumption
    | ((try lift_lets); intro x; first | (refine (fun (hx : Keeps k0 r0 x) => ?_) ?_; on_goal 1 => (try clear_value x)) | (try clear_value x))
    | apply keeps_setReg
    | fail_if_no_progress apply Keeps.upd
    | split
    | (dsimp only [x])

theorem keeps_evtWrite {k0 : Bool} {r0 s : State} (a : Nat) (o : Nat) (v : Word) (hk : Keeps k0 r0 s) : Keeps k0 r0 (State.evtWrite s a o v) := by
  unfold State.evtWrite
  repeat' with_reducible first
    | assumption
    | ((try lift_lets); intro x; first | (refine (fun (hx : Keeps k0 r0 x) => ?_) ?_; on_goal 1 => (try clear_value x)) | (try clear_value x))
    | apply Keeps.ite
    | apply keeps_evtPendWrite
    | apply keeps_setReg
    | apply keeps_evtMaskHost
    | apply keeps_evtClrWrite
    | apply keeps_evtSoftWrite
    | fail_if_no_progress apply Keeps.upd
    | split
    | (dsimp only [x])

theorem keeps_inTurn {k0 : Bool} {r0 s : State} (who : Init) (a : Nat) (v : Word) (f : State → State) (hf : ∀ t, Keeps k0 r0 t → Keeps k0 r0 (f t))
    (hk : Keeps k0 r0 s) : Keeps k0 r0 (s.inTurn who a v f) := by
  unfold State.inTurn
  exact Keeps.ite (keeps_behind _ _ _ _ hf hk) (hf _ hk)

theorem keeps_rngWrite {k0 : Bool} {r0 s : State} (who : Init) (a : Nat) (o : Nat) (v : Word) (hk : Keeps k0 r0 s) : Keeps k0 r0 (State.rngWrite s who a o v) := by
  unfold State.rngWrite
  repeat' with_reducible first
    | assumption
    | ((try lift_lets); intro x; first | (refine (fun (hx : Keeps k0 r0 x) => ?_) ?_; on_goal 1 => (try clear_value x)) | (try clear_value x))
    | apply Keeps.ite
    | apply keeps_ringBaseWr
    | apply keeps_ringCfgWrite
    | (refine keeps_inTurn _ _ _ _ (fun t ht => ?_) ?_; on_goal 1 => beta_reduce)
    | apply keeps_ringHeadWr
    | apply keeps_ringTailWr
    | apply keeps_plainWrite
    | fail_if_no_progress apply Keeps.upd
    | split
    | (dsimp only [x])

theorem keeps_ldlWrite {k0 : Bool} {r0 s : State} (who : Init) (a : Nat) (o : Nat) (v : Word) (hk : Keeps k0 r0 s) : Keeps k0 r0 (State.ldlWrite s who a o v) := by
  unfold State.ldlWrite
  repeat' with_reducible first
    | assumption
    | ((try lift_lets); intro x; first | (refine (fun (hx : Keeps k0 r0 x) => ?_) ?_; on_goal 1 => (try clear_value x)) | (try clear_value x))
    | apply Keeps.ite
    | apply keeps_ldlCtrlWrite
    | (refine keeps_inTurn _ _ _ _ (fun t ht => ?_) ?_; on_goal 1 => beta_reduce)
    | apply keeps_ldlDoorbell
    | apply keeps_plainWrite
    | fail_if_no_progress apply Keeps.upd
    | split
    | (dsimp only [x])

theorem keeps_acqWrite {k0 : Bool} {r0 s : State} (a : Nat) (o : Nat) (v : Word) (hk : Keeps k0 r0 s) : Keeps k0 r0 (State.acqWrite s a o v) := by
  unfold State.acqWrite
  repeat' with_reducible first
    | assumption
    | ((try lift_lets); intro x; first | (refine (fun (hx : Keeps k0 r0 x) => ?_) ?_; on_goal 1 => (try clear_value x)) | (try clear_value x))
    | apply Keeps.ite
    | apply keeps_acqCtrlWrite
    | apply keeps_plainWrite
    | apply keeps_sliceCorrWrite
    | fail_if_no_progress apply Keeps.upd
    | split
    | (dsimp only [x])

theorem keeps_cenWrite {k0 : Bool} {r0 s : State} (a : Nat) (o : Nat) (v : Word) (hk : Keeps k0 r0 s) : Keeps k0 r0 (State.cenWrite s a o v) := by
  unfold State.cenWrite
  repeat' with_reducible first
    | assumption
    | ((try lift_lets); intro x; first | (refine (fun (hx : Keeps k0 r0 x) => ?_) ?_; on_goal 1 => (try clear_value x)) | (try clear_value x))
    | apply Keeps.ite
    | apply keeps_cenCtrlWrite
    | apply keeps_cenPeriodWr
    | apply keeps_trcConfig
    | apply keeps_trcCtrlWrite
    | apply keeps_trcStatWrite
    | apply keeps_plainWrite
    | fail_if_no_progress apply Keeps.upd
    | split
    | (dsimp only [x])

theorem keeps_actRegWrite {k0 : Bool} {r0 s : State} (a : Nat) (o : Nat) (v : Word) (hk : Keeps k0 r0 s) : Keeps k0 r0 (State.actRegWrite s a o v) := by
  unfold State.actRegWrite
  repeat' with_reducible first
    | assumption
    | ((try lift_lets); intro x; first | (refine (fun (hx : Keeps k0 r0 x) => ?_) ?_; on_goal 1 => (try clear_value x)) | (try clear_value x))
    | apply Keeps.ite
    | apply keeps_setReg
    | apply keeps_actReleaseWrite
    | apply keeps_actWrite
    | apply keeps_plainWrite
    | fail_if_no_progress apply Keeps.upd
    | split
    | (dsimp only [x])

theorem keeps_fanRegWrite {k0 : Bool} {r0 s : State} (a : Nat) (o : Nat) (v : Word) (hk : Keeps k0 r0 s) : Keeps k0 r0 (State.fanRegWrite s a o v) := by
  unfold State.fanRegWrite
  repeat' with_reducible first
    | assumption
    | ((try lift_lets); intro x; first | (refine (fun (hx : Keeps k0 r0 x) => ?_) ?_; on_goal 1 => (try clear_value x)) | (try clear_value x))
    | apply Keeps.ite
    | apply keeps_fanRefreshWrite
    | apply keeps_fanAutoExitWrite
    | apply keeps_plainWrite
    | apply keeps_fanClrWrite
    | apply keeps_shdnSelWrite
    | apply keeps_shdnDoLock
    | apply keeps_fanWrite
    | fail_if_no_progress apply Keeps.upd
    | split
    | (dsimp only [x])

theorem keeps_kpdRegWrite {k0 : Bool} {r0 s : State} (o : Nat) (v : Word) (hk : Keeps k0 r0 s) : Keeps k0 r0 (State.kpdRegWrite s o v) := by
  unfold State.kpdRegWrite
  repeat' with_reducible first
    | assumption
    | ((try lift_lets); intro x; first | (refine (fun (hx : Keeps k0 r0 x) => ?_) ?_; on_goal 1 => (try clear_value x)) | (try clear_value x))
    | apply Keeps.ite
    | apply keeps_encWrite
    | apply keeps_kpdWrite
    | fail_if_no_progress apply Keeps.upd
    | split
    | (dsimp only [x])

theorem keeps_rtcRegWrite {k0 : Bool} {r0 s : State} (who : Init) (a : Nat) (o : Nat) (v : Word) (hk : Keeps k0 r0 s) : Keeps k0 r0 (State.rtcRegWrite s who a o v) := by
  unfold State.rtcRegWrite
  repeat' with_reducible first
    | assumption
    | ((try lift_lets); intro x; first | (refine (fun (hx : Keeps k0 r0 x) => ?_) ?_; on_goal 1 => (try clear_value x)) | (try clear_value x))
    | apply Keeps.ite
    | apply keeps_rtcWriteField
    | apply keeps_rtcCtrlWrite
    | apply keeps_rtcAdjWrite
    | apply keeps_rtcSnapWrite
    | apply keeps_rtcTrimWrite
    | apply keeps_rtcMeasWrite
    | apply keeps_plainWrite
    | fail_if_no_progress apply Keeps.upd
    | split
    | (dsimp only [x])

theorem keeps_knbWrite {k0 : Bool} {r0 s : State} (a : Nat) (o : Nat) (v : Word) (hk : Keeps k0 r0 s) : Keeps k0 r0 (State.knbWrite s a o v) := by
  unfold State.knbWrite
  repeat' with_reducible first
    | assumption
    | ((try lift_lets); intro x; first | (refine (fun (hx : Keeps k0 r0 x) => ?_) ?_; on_goal 1 => (try clear_value x)) | (try clear_value x))
    | apply Keeps.ite
    | apply keeps_knabJopen
    | apply keeps_knabSliceNow
    | apply keeps_knabCommitWrite
    | apply keeps_knabCntinc
    | apply keeps_knabJmapWrite
    | apply keeps_plainWrite
    | fail_if_no_progress apply Keeps.upd
    | split
    | (dsimp only [x])

theorem keeps_sbusWrite {k0 : Bool} {r0 s : State} (a : Nat) (o : Nat) (v : Word) (hk : Keeps k0 r0 s) : Keeps k0 r0 (State.sbusWrite s a o v) := by
  unfold State.sbusWrite
  repeat' with_reducible first
    | assumption
    | ((try lift_lets); intro x; first | (refine (fun (hx : Keeps k0 r0 x) => ?_) ?_; on_goal 1 => (try clear_value x)) | (refine (fun (hx : Keeps k0 r0 x.2) => ?_) ?_; on_goal 1 => (try clear_value x)) | (refine (fun (hx : Keeps k0 r0 x.2.2) => ?_) ?_; on_goal 1 => (try clear_value x)) | (try clear_value x))
    | apply Keeps.ite
    | apply keeps_drawNat
    | apply keeps_sbusCfgWrite
    | apply keeps_sbusCmdWrite
    | apply keeps_plainWrite
    | apply keeps_sbusIgnored
    | apply keeps_setReg
    | apply Keeps.ite2
    | apply Keeps.ite3
    | fail_if_no_progress apply Keeps.upd
    | split
    | (dsimp only [x])

theorem keeps_pwrRegWrite {k0 : Bool} {r0 s : State} (a : Nat) (o : Nat) (v : Word) (hk : Keeps k0 r0 s) : Keeps k0 r0 (State.pwrRegWrite s a o v) := by
  unfold State.pwrRegWrite
  repeat' with_reducible first
    | assumption
    | ((try lift_lets); intro x; first | (refine (fun (hx : Keeps k0 r0 x) => ?_) ?_; on_goal 1 => (try clear_value x)) | (try clear_value x))
    | apply Keeps.ite
    | apply keeps_chillAccept
    | apply keeps_wdogKick
    | apply keeps_plainWrite
    | fail_if_no_progress apply Keeps.upd
    | split
    | (dsimp only [x])

theorem keeps_hstRegWrite {k0 : Bool} {r0 s : State} (a : Nat) (o : Nat) (v : Word) (hk : Keeps k0 r0 s) : Keeps k0 r0 (State.hstRegWrite s a o v) := by
  unfold State.hstRegWrite
  repeat' with_reducible first
    | assumption
    | ((try lift_lets); intro x; first | (refine (fun (hx : Keeps k0 r0 x) => ?_) ?_; on_goal 1 => (try clear_value x)) | (try clear_value x))
    | apply Keeps.ite
    | apply keeps_setRf
    | apply keeps_setRb
    | apply keeps_plainWrite
    | split
    | (dsimp only [x])

theorem keeps_netRegWrite {k0 : Bool} {r0 s : State} (a : Nat) (o : Nat) (v : Word) (hk : Keeps k0 r0 s) : Keeps k0 r0 (State.netRegWrite s a o v) := by
  unfold State.netRegWrite
  repeat' with_reducible first
    | assumption
    | ((try lift_lets); intro x; first | (refine (fun (hx : Keeps k0 r0 x) => ?_) ?_; on_goal 1 => (try clear_value x)) | (try clear_value x))
    | apply Keeps.ite
    | apply keeps_plainWrite
    | apply keeps_netMdioWrite
    | fail_if_no_progress apply Keeps.upd
    | split
    | (dsimp only [x])

theorem keeps_twnRegWrite {k0 : Bool} {r0 s : State} (a : Nat) (o : Nat) (v : Word) (hk : Keeps k0 r0 s) : Keeps k0 r0 (State.twnRegWrite s a o v) := by
  unfold State.twnRegWrite
  repeat' with_reducible first
    | assumption
    | ((try lift_lets); intro x; first | (refine (fun (hx : Keeps k0 r0 x) => ?_) ?_; on_goal 1 => (try clear_value x)) | (try clear_value x))
    | apply Keeps.ite
    | apply keeps_plainWrite
    | fail_if_no_progress apply Keeps.upd
    | split
    | (dsimp only [x])

theorem keeps_regWrite {k0 : Bool} {r0 s : State} (who : Init) (a : Nat) (v : Word) (hk : Keeps k0 r0 s) : Keeps k0 r0 (s.regWrite who a v) := by
  unfold State.regWrite
  generalize a % 0x10000 = o
  generalize regUnit a = u
  dsimp only
  split
  · exact keeps_pwrRegWrite _ _ _ hk
  · exact keeps_hstRegWrite _ _ _ hk
  · exact keeps_evtWrite _ _ _ hk
  · exact keeps_rngWrite _ _ _ _ hk
  · exact keeps_ldlWrite _ _ _ _ hk
  · exact keeps_acqWrite _ _ _ hk
  · exact keeps_cenWrite _ _ _ hk
  · exact keeps_actRegWrite _ _ _ hk
  · exact keeps_fanRegWrite _ _ _ hk
  · exact keeps_kpdRegWrite _ _ hk
  · exact keeps_rtcRegWrite _ _ _ _ hk
  · exact keeps_knbWrite _ _ _ hk
  · exact keeps_netRegWrite _ _ _ hk
  · exact keeps_twnRegWrite _ _ _ hk
  · exact keeps_sbusWrite _ _ _ hk
  · exact keeps_plainWrite _ _ hk

theorem keeps_knabWrite {k0 : Bool} {r0 s : State} (a : Nat) (b : List Byte) (hk : Keeps k0 r0 s) : Keeps k0 r0 (State.knabWrite s a b) := by
  unfold State.knabWrite
  repeat' with_reducible first
    | assumption
    | ((try lift_lets); intro x; first | (refine (fun (hx : Keeps k0 r0 x) => ?_) ?_; on_goal 1 => (try clear_value x)) | (try clear_value x))
    | apply Keeps.ite
    | apply keeps_setRb
    | apply keeps_knabDirect
    | apply keeps_nvReload
    | split
    | (dsimp only [x])

theorem keeps_cenMemWrite {k0 : Bool} {r0 s : State} (who : Init) (a : Nat) (v : Word) (hk : Keeps k0 r0 s) : Keeps k0 r0 (State.cenMemWrite s who a v) := by
  unfold State.cenMemWrite
  repeat' with_reducible first
    | assumption
    | ((try lift_lets); intro x; first | (refine (fun (hx : Keeps k0 r0 x) => ?_) ?_; on_goal 1 => (try clear_value x)) | (try clear_value x))
    | apply Keeps.ite
    | apply keeps_setWord
    | apply keeps_slotOff
    | apply keeps_setRb
    | apply keeps_setVpv
    | fail_if_no_progress apply Keeps.upd
    | split
    | (dsimp only [x])

theorem keeps_winRead {k0 : Bool} {r0 s : State} (a : Nat) (n : Nat) (hk : Keeps k0 r0 s) : Keeps k0 r0 (State.winRead s a n).2 := by
  unfold State.winRead
  repeat' with_reducible first
    | assumption
    | ((try lift_lets); intro x; first | (refine (fun (hx : Keeps k0 r0 x) => ?_) ?_; on_goal 1 => (try clear_value x)) | (refine (fun (hx : Keeps k0 r0 x.2) => ?_) ?_; on_goal 1 => (try clear_value x)) | (refine (fun (hx : Keeps k0 r0 x.2.2) => ?_) ?_; on_goal 1 => (try clear_value x)) | (try clear_value x))
    | apply Keeps.ite
    | apply keeps_drawWord
    | apply Keeps.ite2
    | apply Keeps.ite3
    | fail_if_no_progress apply Keeps.upd
    | split
    | (dsimp only [x])

theorem keeps_fabricRead {k0 : Bool} {r0 s : State} (who : Init) (a : Nat) (n : Nat) (hk : Keeps k0 r0 s) : Keeps k0 r0 (State.fabricRead s who a n).2 := by
  unfold State.fabricRead
  repeat' with_reducible first
    | assumption
    | ((try lift_lets); intro x; first | (refine (fun (hx : Keeps k0 r0 x) => ?_) ?_; on_goal 1 => (try clear_value x)) | (refine (fun (hx : Keeps k0 r0 x.2) => ?_) ?_; on_goal 1 => (try clear_value x)) | (refine (fun (hx : Keeps k0 r0 x.2.2) => ?_) ?_; on_goal 1 => (try clear_value x)) | (try clear_value x))
    | apply Keeps.ite
    | apply keeps_hit
    | apply keeps_regRead
    | apply keeps_winRead
    | apply Keeps.ite2
    | apply Keeps.ite3
    | fail_if_no_progress apply Keeps.upd
    | split
    | (dsimp only [x])

theorem keeps_fabricWrite {k0 : Bool} {r0 s : State} (who : Init) (a : Nat) (b : List Byte) (hk : Keeps k0 r0 s) : Keeps k0 r0 (State.fabricWrite s who a b) := by
  unfold State.fabricWrite
  repeat' with_reducible first
    | assumption
    | ((try lift_lets); intro x; first | (refine (fun (hx : Keeps k0 r0 x) => ?_) ?_; on_goal 1 => (try clear_value x)) | (try clear_value x))
    | apply Keeps.ite
    | apply keeps_hit
    | apply keeps_regWrite
    | apply keeps_setWord
    | apply keeps_knabWrite
    | apply keeps_cenMemWrite
    | apply keeps_setBytes
    | fail_if_no_progress apply Keeps.upd
    | split
    | (dsimp only [x])

theorem keeps_hostHit {k0 : Bool} {r0 s : State} (code : Nat) (a : Nat) (hk : Keeps k0 r0 s) : Keeps k0 r0 (State.hostHit s code a) := by
  unfold State.hostHit
  repeat' with_reducible first
    | assumption
    | ((try lift_lets); intro x; first | (refine (fun (hx : Keeps k0 r0 x) => ?_) ?_; on_goal 1 => (try clear_value x)) | (try clear_value x))
    | apply keeps_hit
    | fail_if_no_progress apply Keeps.upd
    | split
    | (dsimp only [x])

theorem keeps_hostWord {k0 : Bool} {r0 s : State} (a : Nat) (v : Word) (hk : Keeps k0 r0 s) : Keeps k0 r0 (State.hostWord s a v) := by
  unfold State.hostWord
  repeat' with_reducible first
    | assumption
    | ((try lift_lets); intro x; first | (refine (fun (hx : Keeps k0 r0 x) => ?_) ?_; on_goal 1 => (try clear_value x)) | (try clear_value x))
    | apply Keeps.ite
    | apply keeps_fabricWrite
    | apply keeps_hostHit
    | apply keeps_hostResult
    | split
    | (dsimp only [x])

theorem keeps_coreWord {k0 : Bool} {r0 s : State} (who : Init) (a : Nat) (v : Word) (hk : Keeps k0 r0 s) : Keeps k0 r0 (State.coreWord s who a v) := by
  unfold State.coreWord
  repeat' with_reducible first
    | assumption
    | ((try lift_lets); intro x; first | (refine (fun (hx : Keeps k0 r0 x) => ?_) ?_; on_goal 1 => (try clear_value x)) | (try clear_value x))
    | apply Keeps.ite
    | apply keeps_fabricWrite
    | apply keeps_hit
    | fail_if_no_progress apply Keeps.upd
    | split
    | (dsimp only [x])

theorem keeps_execRegisterWrite {k0 : Bool} {r0 s : State} (who : Init) (addr : Word) (v : Word) (hk : Keeps k0 r0 s) : KeepsOut k0 r0 (execRegisterWrite who addr v s) := by
  unfold execRegisterWrite
  repeat' with_reducible first
    | assumption
    | apply KeepsOut.ite
    | apply keepsOut_done
    | apply Keeps.ite
    | apply keeps_hostWord
    | apply keeps_coreWord
    | apply keeps_done
    | split

theorem keeps_knabAfter {k0 : Bool} {r0 s : State}  (hk : Keeps k0 r0 s) : Keeps k0 r0 (State.knabAfter s) := by
  unfold State.knabAfter
  repeat' with_reducible first
    | assumption
    | ((try lift_lets); intro x; first | (refine (fun (hx : Keeps k0 r0 x) => ?_) ?_; on_goal 1 => (try clear_value x)) | (refine (fun (hx : Keeps k0 r0 x.2) => ?_) ?_; on_goal 1 => (try clear_value x)) | (refine (fun (hx : Keeps k0 r0 x.2.2) => ?_) ?_; on_goal 1 => (try clear_value x)) | (try clear_value x))
    | apply Keeps.ite
    | (refine keeps_foldl _ _ (fun t n ht => ?_) ?_; on_goal 1 => beta_reduce)
    | apply keeps_regWrite
    | apply Keeps.ite2
    | apply Keeps.ite3
    | fail_if_no_progress apply Keeps.upd
    | split
    | (dsimp only [x])

theorem keeps_execKnabDone {k0 : Bool} {r0 s : State}  (hk : Keeps k0 r0 s) : KeepsOut k0 r0 (execKnabDone s) := by
  unfold execKnabDone
  repeat' with_reducible first
    | assumption
    | apply keepsOut_done
    | apply keeps_knabFinish
    | apply keeps_knabAfter
    | apply keeps_done

theorem keeps_ldlLinks {k0 : Bool} {r0 s : State}  (hk : Keeps k0 r0 s) : Keeps k0 r0 (State.ldlLinks s) := by
  unfold State.ldlLinks
  repeat' with_reducible first
    | assumption
    | apply Keeps.ite
    | (refine keeps_forEach _ _ (fun t n ht => ?_) ?_; on_goal 1 => beta_reduce)
    | apply keeps_ldlFollow
    | apply keeps_setRb
    | apply keeps_ldlDoorbell
    | split

theorem keeps_ldlServed {k0 : Bool} {r0 s : State} (n : Nat) (hk : Keeps k0 r0 s) : Keeps k0 r0 (State.ldlServed s n) := by
  unfold State.ldlServed
  repeat' with_reducible first
    | assumption
    | ((try lift_lets); intro x; first | (refine (fun (hx : Keeps k0 r0 x) => ?_) ?_; on_goal 1 => (try clear_value x)) | (try clear_value x))
    | fail_if_no_progress apply Keeps.upd
    | (dsimp only [x])

theorem keeps_ldlFetch {k0 : Bool} {r0 s : State} (n : Nat) (a : Nat) (hk : Keeps k0 r0 s) : Keeps k0 r0 (State.ldlFetch s n a) := by
  unfold State.ldlFetch
  repeat' with_reducible first
    | assumption
    | ((try lift_lets); intro x; first | (refine (fun (hx : Keeps k0 r0 x) => ?_) ?_; on_goal 1 => (try clear_value x)) | (try clear_value x))
    | apply Keeps.ite
    | apply keeps_setReg
    | apply keeps_setLdlCh
    | apply keeps_ldlComplete
    | apply keeps_ldlSlag
    | apply keeps_ldlNext
    | fail_if_no_progress apply Keeps.upd
    | split
    | (dsimp only [x])

theorem keeps_ldlBadHit {k0 : Bool} {r0 s : State} (write : Bool) (a : Nat) (hk : Keeps k0 r0 s) : Keeps k0 r0 (State.ldlBadHit s write a) := by
  unfold State.ldlBadHit
  repeat' with_reducible first
    | assumption
    | ((try lift_lets); intro x; first | (refine (fun (hx : Keeps k0 r0 x) => ?_) ?_; on_goal 1 => (try clear_value x)) | (try clear_value x))
    | apply Keeps.ite
    | apply keeps_hit
    | apply keeps_setRb
    | fail_if_no_progress apply Keeps.upd
    | split
    | (dsimp only [x])

theorem keeps_ldlWrites {k0 : Bool} {r0 s : State} (l : List (Nat × Nat)) (d : List Byte) (hk : Keeps k0 r0 s) : Keeps k0 r0 (s.ldlWrites l d).2 := by
  induction l generalizing s d with
  | nil => exact hk
  | cons p t ih =>
    unfold State.ldlWrites
    exact Keeps.ite2 (keeps_ldlBadHit _ _ hk) (ih _ (keeps_fabricWrite _ _ _ hk))

theorem keeps_ldlReads {k0 : Bool} {r0 s : State} (l : List (Nat × Nat)) (d : List Byte) (hk : Keeps k0 r0 s) : Keeps k0 r0 (s.ldlReads l d).2.2 := by
  induction l generalizing s d with
  | nil => exact hk
  | cons p t ih =>
    unfold State.ldlReads
    exact Keeps.ite3 (keeps_ldlBadHit _ _ hk) (ih _ (keeps_fabricRead _ _ _ hk))

theorem keeps_ldlRead {k0 : Bool} {r0 s : State} (n : Nat) (hk : Keeps k0 r0 s) : Keeps k0 r0 (State.ldlRead s n).2 := by
  unfold State.ldlRead
  repeat' with_reducible first
    | assumption
    | ((try lift_lets); intro x; first | (refine (fun (hx : Keeps k0 r0 x) => ?_) ?_; on_goal 1 => (try clear_value x)) | (refine (fun (hx : Keeps k0 r0 x.2) => ?_) ?_; on_goal 1 => (try clear_value x)) | (refine (fun (hx : Keeps k0 r0 x.2.2) => ?_) ?_; on_goal 1 => (try clear_value x)) | (try clear_value x))
    | apply keeps_ldlReads
    | fail_if_no_progress apply Keeps.upd
    | split
    | (dsimp only [x])

theorem keeps_ldlDrained {k0 : Bool} {r0 s : State} (n : Nat) (hk : Keeps k0 r0 s) : Keeps k0 r0 (State.ldlDrained s n) := by
  unfold State.ldlDrained
  repeat' with_reducible first
    | assumption
    | apply Keeps.ite
    | apply keeps_setLdlState
    | split

theorem keeps_ldlAdvance {k0 : Bool} {r0 s : State} (n : Nat) (d : List Byte) (hk : Keeps k0 r0 s) : Keeps k0 r0 (State.ldlAdvance s n d) := by
  unfold State.ldlAdvance
  repeat' with_reducible first
    | assumption
    | ((try lift_lets); intro x; first | (refine (fun (hx : Keeps k0 r0 x) => ?_) ?_; on_goal 1 => (try clear_value x)) | (try clear_value x))
    | apply Keeps.ite
    | apply keeps_setReg
    | apply keeps_setLdlCh
    | apply keeps_ldlComplete
    | fail_if_no_progress apply Keeps.upd
    | split
    | (dsimp only [x])

theorem keeps_ldlWriteOut {k0 : Bool} {r0 s : State}  (hk : Keeps k0 r0 s) : Keeps k0 r0 (State.ldlWriteOut s).2 := by
  unfold State.ldlWriteOut
  repeat' with_reducible first
    | assumption
    | ((try lift_lets); intro x; first | (refine (fun (hx : Keeps k0 r0 x) => ?_) ?_; on_goal 1 => (try clear_value x)) | (refine (fun (hx : Keeps k0 r0 x.2) => ?_) ?_; on_goal 1 => (try clear_value x)) | (refine (fun (hx : Keeps k0 r0 x.2.2) => ?_) ?_; on_goal 1 => (try clear_value x)) | (try clear_value x))
    | apply Keeps.ite
    | apply keeps_ldlWrites
    | apply keeps_ldlAdvance
    | apply keeps_ldlDrained
    | apply Keeps.ite2
    | apply Keeps.ite3
    | fail_if_no_progress apply Keeps.upd
    | split
    | (dsimp only [x])

theorem keeps_ldlWriteAll {k0 : Bool} {r0 s : State} (k : Nat) (hk : Keeps k0 r0 s) : Keeps k0 r0 (State.ldlWriteAll k s).2 := by
  induction k generalizing s with
  | zero => exact hk
  | succ k ih =>
    unfold State.ldlWriteAll
    have h := keeps_ldlWriteOut hk
    dsimp only
    split
    · exact h
    · exact ih h

theorem keeps_ldlBusErr {k0 : Bool} {r0 s : State} (addr : Nat) (more : List Nat) (hk : Keeps k0 r0 s) : Keeps k0 r0 (State.ldlBusErr s addr more) := by
  unfold State.ldlBusErr
  repeat' with_reducible first
    | assumption
    | ((try lift_lets); intro x; first | (refine (fun (hx : Keeps k0 r0 x) => ?_) ?_; on_goal 1 => (try clear_value x)) | (try clear_value x))
    | apply keeps_setRb
    | apply keeps_setReg
    | apply keeps_incSat
    | apply keeps_fire
    | apply keeps_fault
    | fail_if_no_progress apply Keeps.upd
    | (dsimp only [x])

theorem keeps_execDescriptorFetch {k0 : Bool} {r0 s : State} (n : Nat) (hk : Keeps k0 r0 s) : KeepsOut k0 r0 (execDescriptorFetch n s) := by
  unfold execDescriptorFetch
  repeat' with_reducible first
    | assumption
    | ((try lift_lets); intro x; first | (refine (fun (hx : Keeps k0 r0 x) => ?_) ?_; on_goal 1 => (try clear_value x)) | (try clear_value x))
    | apply KeepsOut.ite
    | apply keepsOut_done
    | apply Keeps.ite
    | apply keeps_ldlLinks
    | apply keeps_ldlServed
    | apply keeps_ldlFetch
    | apply keeps_done
    | fail_if_no_progress apply Keeps.upd
    | split
    | (dsimp only [x])

theorem keeps_ldlFetchesOut {k0 : Bool} {r0 s : State}  (hk : Keeps k0 r0 s) : Keeps k0 r0 (State.ldlFetchesOut s).2 := by
  unfold State.ldlFetchesOut
  repeat' with_reducible first
    | assumption
    | ((try lift_lets); intro x; first | (refine (fun (hx : Keeps k0 r0 x) => ?_) ?_; on_goal 1 => (try clear_value x)) | (refine (fun (hx : Keeps k0 r0 x.2) => ?_) ?_; on_goal 1 => (try clear_value x)) | (refine (fun (hx : Keeps k0 r0 x.2.2) => ?_) ?_; on_goal 1 => (try clear_value x)) | (try clear_value x))
    | apply keeps_drawWord
    | (dsimp only [x])

theorem keeps_ldlBurstRead {k0 : Bool} {r0 s : State}  (hk : Keeps k0 r0 s) : Keeps k0 r0 (State.ldlBurstRead s) := by
  unfold State.ldlBurstRead
  repeat' with_reducible first
    | assumption
    | ((try lift_lets); intro x; first | (refine (fun (hx : Keeps k0 r0 x) => ?_) ?_; on_goal 1 => (try clear_value x)) | (refine (fun (hx : Keeps k0 r0 x.2) => ?_) ?_; on_goal 1 => (try clear_value x)) | (refine (fun (hx : Keeps k0 r0 x.2.2) => ?_) ?_; on_goal 1 => (try clear_value x)) | (try clear_value x))
    | apply Keeps.ite
    | apply keeps_ldlServed
    | apply keeps_ldlRead
    | apply keeps_ldlFetchesOut
    | apply keeps_ldlBusErr
    | apply Keeps.ite2
    | apply Keeps.ite3
    | fail_if_no_progress apply Keeps.upd
    | split
    | (dsimp only [x])

theorem keeps_ldlBurstWrite {k0 : Bool} {r0 s : State} (k : Nat) (hk : Keeps k0 r0 s) : Keeps k0 r0 (s.ldlBurstWrite k) := by
  unfold State.ldlBurstWrite
  have h := keeps_ldlWriteAll k hk
  dsimp only
  split
  · exact h
  · exact keeps_ldlBusErr _ _ (keeps_ldlFetchesOut h)

theorem keeps_execBurst {k0 : Bool} {r0 s : State} (step : BurstStep) (hk : Keeps k0 r0 s) : KeepsOut k0 r0 (execBurst step s) := by
  unfold execBurst
  repeat' with_reducible first
    | assumption
    | ((try lift_lets); intro x; first | (refine (fun (hx : Keeps k0 r0 x) => ?_) ?_; on_goal 1 => (try clear_value x)) | (try clear_value x))
    | apply KeepsOut.ite
    | apply keepsOut_done
    | apply Keeps.ite
    | apply keeps_ldlLinks
    | apply keeps_ldlBurstRead
    | apply keeps_ldlBurstWrite
    | apply keeps_done
    | fail_if_no_progress apply Keeps.upd
    | split
    | (dsimp only [x])

theorem keeps_execLadleBuserr {k0 : Bool} {r0 s : State} (n : Nat) (addr : Word) (others : List Nat) (hk : Keeps k0 r0 s) :
    KeepsOut k0 r0 (execLadleBuserr n addr others s) := by
  unfold execLadleBuserr
  have note : ∀ (t : State), Keeps k0 r0 t → Keeps k0 r0 (if t.ldlBad true addr.toNat then t.ldlBadHit (!t.ldlBad false addr.toNat) addr.toNat else t) :=
    fun t ht => Keeps.ite (keeps_ldlBadHit _ _ ht) ht
  have h := keeps_ldlLinks hk
  exact keepsOut_done (Keeps.ite (Keeps.ite (keeps_ldlBusErr _ _ (note _ h)) (Keeps.ite (keeps_ldlBusErr _ _ (note _ (keeps_ldlServed _ h))) h)) hk)

theorem keeps_ldlBurstsAgain {k0 : Bool} {r0 s : State} (k n : Nat) (hk : Keeps k0 r0 s) : Keeps k0 r0 (State.ldlBurstsAgain k n s).2 := by
  induction k generalizing s with
  | zero => exact hk
  | succ k ih =>
    unfold State.ldlBurstsAgain
    have h := keeps_ldlRead n hk
    have h2 := keeps_ldlWriteOut (keeps_knabSettle h)
    exact Keeps.ite2 hk (Keeps.ite2 h (Keeps.ite2 (Keeps.upd h2) (ih h2)))

theorem keeps_ldlAgain {k0 : Bool} {r0 s : State} (failed : List Nat) (n : Nat) (k : Nat) (hk : Keeps k0 r0 s) : Keeps k0 r0 (State.ldlAgain s failed n k).2 := by
  unfold State.ldlAgain
  repeat' with_reducible first
    | assumption
    | ((try lift_lets); intro x; first | (refine (fun (hx : Keeps k0 r0 x) => ?_) ?_; on_goal 1 => (try clear_value x)) | (refine (fun (hx : Keeps k0 r0 x.2) => ?_) ?_; on_goal 1 => (try clear_value x)) | (refine (fun (hx : Keeps k0 r0 x.2.2) => ?_) ?_; on_goal 1 => (try clear_value x)) | (try clear_value x))
    | apply Keeps.ite
    | apply keeps_setLdlCh
    | apply keeps_setLdlState
    | apply keeps_setRb
    | apply keeps_fire
    | apply keeps_fault
    | apply keeps_ldlFetch
    | apply keeps_ldlBurstsAgain
    | apply keeps_ldlSlag
    | apply Keeps.ite2
    | apply Keeps.ite3
    | fail_if_no_progress apply Keeps.upd
    | split
    | (dsimp only [x])

theorem keeps_ldlReplayed {k0 : Bool} {r0 s : State} (n : Nat) (hk : Keeps k0 r0 s) : Keeps k0 r0 (State.ldlReplayed s n) := by
  unfold State.ldlReplayed
  repeat' with_reducible first
    | assumption
    | apply Keeps.ite
    | apply keeps_setLdlState
    | split

theorem keeps_execReplay {k0 : Bool} {r0 s : State} (failed : List Nat) (hk : Keeps k0 r0 s) : KeepsOut k0 r0 (execReplay failed s) := by
  unfold execReplay
  have step : ∀ (l : List Nat) (p : Bool × State), Keeps k0 r0 p.2 → Keeps k0 r0 (l.foldl (fun (p : Bool × State) n =>
      let q := p.2.ldlAgain failed n (s.ldl.replay.count n)
      (p.1 && q.1, q.2)) p).2 := by
    intro l
    induction l with
    | nil => intro p h; exact h
    | cons i l ih => intro p h; exact ih _ (keeps_ldlAgain _ _ _ h)
  have h2 := keeps_forEach s.ldl.replay.dedup State.ldlReplayed (fun t n ht => keeps_ldlReplayed n ht)
    (keeps_setRb Reg.ldlStat 1 false (step s.ldl.replay.dedup (true, { s with ldl := { s.ldl with replay := [] } }) (Keeps.upd hk)))
  exact keepsOut_done (Keeps.ite (keeps_ldlLinks (Keeps.ite (keeps_fault _ _ (keeps_incSat _ _ h2)) h2)) hk)

theorem keeps_transaction {k0 : Bool} {r0 s : State} (mode3 : Bool) (f : State → List Byte × State)
    (hf : ∀ t, Keeps k0 r0 t → Keeps k0 r0 (f t).2) (hk : Keeps k0 r0 s) : Keeps k0 r0 (s.transaction mode3 f) := by
  unfold State.transaction
  exact Keeps.ite (Keeps.upd (keeps_incWrap _ (hf _ (Keeps.upd (keeps_setRf _ _ _ _ hk))))) hk

theorem keeps_execHostId {k0 : Bool} {r0 s : State} (mode3 : Bool) (hk : Keeps k0 r0 s) : KeepsOut k0 r0 (execHostId mode3 s) := by
  unfold execHostId
  repeat' with_reducible first
    | assumption
    | apply keepsOut_done
    | (refine keeps_transaction _ _ (fun t ht => ?_) ?_; on_goal 1 => (try dsimp only))
    | apply keeps_done

theorem keeps_pourFree {k0 : Bool} {r0 s : State}  (hk : Keeps k0 r0 s) : Keeps k0 r0 (State.pourFree s).2 := by
  unfold State.pourFree
  repeat' with_reducible first
    | assumption
    | ((try lift_lets); intro x; first | (refine (fun (hx : Keeps k0 r0 x) => ?_) ?_; on_goal 1 => (try clear_value x)) | (refine (fun (hx : Keeps k0 r0 x.2) => ?_) ?_; on_goal 1 => (try clear_value x)) | (refine (fun (hx : Keeps k0 r0 x.2.2) => ?_) ?_; on_goal 1 => (try clear_value x)) | (try clear_value x))
    | apply Keeps.ite
    | apply keeps_drawNat
    | apply Keeps.ite2
    | apply Keeps.ite3
    | fail_if_no_progress apply Keeps.upd
    | split
    | (dsimp only [x])

theorem keeps_execHostStatus {k0 : Bool} {r0 s : State} (mode3 : Bool) (hk : Keeps k0 r0 s) : KeepsOut k0 r0 (execHostStatus mode3 s) := by
  unfold execHostStatus
  repeat' with_reducible first
    | assumption
    | ((try lift_lets); intro x; first | (refine (fun (hx : Keeps k0 r0 x) => ?_) ?_; on_goal 1 => (try clear_value x)) | (refine (fun (hx : Keeps k0 r0 x.2) => ?_) ?_; on_goal 1 => (try clear_value x)) | (refine (fun (hx : Keeps k0 r0 x.2.2) => ?_) ?_; on_goal 1 => (try clear_value x)) | (try clear_value x))
    | apply KeepsOut.ite
    | apply keepsOut_done
    | apply Keeps.ite
    | (refine keeps_transaction _ _ (fun t ht => ?_) ?_; on_goal 1 => (try dsimp only))
    | apply keeps_pourFree
    | apply keeps_done
    | apply Keeps.ite2
    | apply Keeps.ite3
    | fail_if_no_progress apply Keeps.upd
    | split
    | (dsimp only [x])

theorem keeps_collide {k0 : Bool} {r0 s : State} (a : Nat) (c : Collision) (hk : Keeps k0 r0 s) : Keeps k0 r0 (State.collide s a c) := by
  unfold State.collide
  repeat' with_reducible first
    | assumption
    | ((try lift_lets); intro x; first | (refine (fun (hx : Keeps k0 r0 x) => ?_) ?_; on_goal 1 => (try clear_value x)) | (try clear_value x))
    | apply keeps_incWrap
    | apply keeps_setRb
    | apply keeps_setReg
    | apply keeps_fire
    | fail_if_no_progress apply Keeps.upd
    | split
    | (dsimp only [x])

theorem keeps_queueWord {k0 : Bool} {r0 s : State} (coll : Collision) (hk : Keeps k0 r0 s) : Keeps k0 r0 (State.queueWord s coll) := by
  unfold State.queueWord
  repeat' with_reducible first
    | assumption
    | ((try lift_lets); intro x; first | (refine (fun (hx : Keeps k0 r0 x) => ?_) ?_; on_goal 1 => (try clear_value x)) | (try clear_value x))
    | apply Keeps.ite
    | apply keeps_hostWord
    | apply keeps_collide
    | fail_if_no_progress apply Keeps.upd
    | split
    | (dsimp only [x])

theorem keeps_drainQueue {k0 : Bool} {r0 s : State} (k : Nat) (hk : Keeps k0 r0 s) : Keeps k0 r0 (State.drainQueue k s) := by
  induction k generalizing s with
  | zero => exact hk
  | succ k ih => exact Keeps.ite hk (ih (keeps_queueWord _ hk))

theorem keeps_queueMoves {k0 : Bool} {r0 s : State}  (hk : Keeps k0 r0 s) : Keeps k0 r0 (State.queueMoves s) := by
  unfold State.queueMoves
  repeat' with_reducible first
    | assumption
    | ((try lift_lets); intro x; first | (refine (fun (hx : Keeps k0 r0 x) => ?_) ?_; on_goal 1 => (try clear_value x)) | (refine (fun (hx : Keeps k0 r0 x.2) => ?_) ?_; on_goal 1 => (try clear_value x)) | (refine (fun (hx : Keeps k0 r0 x.2.2) => ?_) ?_; on_goal 1 => (try clear_value x)) | (try clear_value x))
    | apply Keeps.ite
    | apply keeps_drawNat
    | apply keeps_queueWord
    | apply Keeps.ite2
    | apply Keeps.ite3
    | split
    | (dsimp only [x])

theorem keeps_queueIn {k0 : Bool} {r0 s : State} (a : Nat) (v : Word) (hk : Keeps k0 r0 s) : Keeps k0 r0 (State.queueIn s a v) := by
  unfold State.queueIn
  repeat' with_reducible first
    | assumption
    | ((try lift_lets); intro x; first | (refine (fun (hx : Keeps k0 r0 x) => ?_) ?_; on_goal 1 => (try clear_value x)) | (try clear_value x))
    | apply Keeps.ite
    | apply keeps_queueMoves
    | apply keeps_hostResult
    | apply keeps_hostHit
    | fail_if_no_progress apply Keeps.upd
    | split
    | (dsimp only [x])

theorem keeps_queueAll {k0 : Bool} {r0 s : State} (a : Nat) (l : List Word) (hk : Keeps k0 r0 s) : Keeps k0 r0 (s.queueAll a l) := by
  induction l generalizing s a with
  | nil => exact hk
  | cons v t ih => exact ih _ (keeps_queueIn _ _ hk)

theorem keeps_execHostWrite {k0 : Bool} {r0 s : State} (mode3 : Bool) (addr : Word) (words : List Word) (hk : Keeps k0 r0 s) : KeepsOut k0 r0 (execHostWrite mode3 addr words s) := by
  unfold execHostWrite
  repeat' with_reducible first
    | assumption
    | apply keepsOut_done
    | (refine keeps_transaction _ _ (fun t ht => ?_) ?_; on_goal 1 => (try dsimp only))
    | apply keeps_queueAll
    | apply keeps_done

theorem keeps_execWriteQueueWord {k0 : Bool} {r0 s : State} (coll : Collision) (hk : Keeps k0 r0 s) : KeepsOut k0 r0 (execWriteQueueWord coll s) := by
  unfold execWriteQueueWord
  repeat' with_reducible first
    | assumption
    | apply KeepsOut.ite
    | apply keepsOut_done
    | apply Keeps.ite
    | apply keeps_queueWord
    | apply keeps_done
    | split

theorem keeps_hostFetch {k0 : Bool} {r0 s : State} (a : Nat) (coll : Collision) (late : Bool) (hk : Keeps k0 r0 s) : Keeps k0 r0 (State.hostFetch s a coll late).2.2 := by
  unfold State.hostFetch
  repeat' with_reducible first
    | assumption
    | ((try lift_lets); intro x; first | (refine (fun (hx : Keeps k0 r0 x) => ?_) ?_; on_goal 1 => (try clear_value x)) | (refine (fun (hx : Keeps k0 r0 x.2) => ?_) ?_; on_goal 1 => (try clear_value x)) | (refine (fun (hx : Keeps k0 r0 x.2.2) => ?_) ?_; on_goal 1 => (try clear_value x)) | (try clear_value x))
    | apply Keeps.ite
    | apply keeps_hostHit
    | apply keeps_fabricRead
    | apply keeps_drawWord
    | apply keeps_collide
    | apply Keeps.ite2
    | apply Keeps.ite3
    | fail_if_no_progress apply Keeps.upd
    | split
    | (dsimp only [x])

theorem keeps_fetchAll {k0 : Bool} {r0 s : State} (good k a : Nat) (colls : List Collision) (hk : Keeps k0 r0 s) :
    Keeps k0 r0 (s.fetchAll good k a colls).2 := by
  induction k generalizing s good a colls with
  | zero => exact hk
  | succ k ih => exact ih _ _ _ (keeps_hostFetch _ _ _ hk)

theorem keeps_hostReadWords {k0 : Bool} {r0 s : State} (a : Nat) (n : Nat) (skip : Nat) (bound : Nat) (colls : List Collision) (late : Bool) (hk : Keeps k0 r0 s) : Keeps k0 r0 (State.hostReadWords s a n skip bound colls late).2 := by
  unfold State.hostReadWords
  repeat' with_reducible first
    | assumption
    | ((try lift_lets); intro x; first | (refine (fun (hx : Keeps k0 r0 x) => ?_) ?_; on_goal 1 => (try clear_value x)) | (refine (fun (hx : Keeps k0 r0 x.2) => ?_) ?_; on_goal 1 => (try clear_value x)) | (refine (fun (hx : Keeps k0 r0 x.2.2) => ?_) ?_; on_goal 1 => (try clear_value x)) | (try clear_value x))
    | apply Keeps.ite
    | apply keeps_drainQueue
    | apply keeps_drawNat
    | apply keeps_fetchAll
    | apply keeps_hostResult
    | apply Keeps.ite2
    | apply Keeps.ite3
    | fail_if_no_progress apply Keeps.upd
    | split
    | (dsimp only [x])

theorem keeps_execHostRead {k0 : Bool} {r0 s : State} (mode3 : Bool) (addr : Word) (coll : Collision) (late : Bool) (hk : Keeps k0 r0 s) : KeepsOut k0 r0 (execHostRead mode3 addr coll late s) := by
  unfold execHostRead
  repeat' with_reducible first
    | assumption
    | apply keepsOut_done
    | (refine keeps_transaction _ _ (fun t ht => ?_) ?_; on_goal 1 => (try dsimp only))
    | apply keeps_hostReadWords
    | apply keeps_done

theorem keeps_execHostReadBurst {k0 : Bool} {r0 s : State} (mode3 : Bool) (addr : Word) (count : Nat) (colls : List Collision) (late : Bool) (hk : Keeps k0 r0 s) : KeepsOut k0 r0 (execHostReadBurst mode3 addr count colls late s) := by
  unfold execHostReadBurst
  repeat' with_reducible first
    | assumption
    | ((try lift_lets); intro x; first | (refine (fun (hx : Keeps k0 r0 x) => ?_) ?_; on_goal 1 => (try clear_value x)) | (try clear_value x))
    | apply KeepsOut.ite
    | apply keepsOut_done
    | apply Keeps.ite
    | (refine keeps_transaction _ _ (fun t ht => ?_) ?_; on_goal 1 => (try dsimp only))
    | apply keeps_hostReadWords
    | apply keeps_done
    | split
    | (dsimp only [x])

theorem keeps_execHostDoorbell {k0 : Bool} {r0 s : State} (mode3 : Bool) (v : Byte) (hk : Keeps k0 r0 s) : KeepsOut k0 r0 (execHostDoorbell mode3 v s) := by
  unfold execHostDoorbell
  repeat' with_reducible first
    | assumption
    | ((try lift_lets); intro x; first | (refine (fun (hx : Keeps k0 r0 x) => ?_) ?_; on_goal 1 => (try clear_value x)) | (try clear_value x))
    | apply KeepsOut.ite
    | apply keepsOut_done
    | apply Keeps.ite
    | (refine keeps_transaction _ _ (fun t ht => ?_) ?_; on_goal 1 => (try dsimp only))
    | apply keeps_setReg
    | apply keeps_setRb
    | apply keeps_fire
    | apply keeps_wakeUp
    | apply keeps_done
    | split
    | (dsimp only [x])

theorem keeps_execBadCommand {k0 : Bool} {r0 s : State} (mode3 : Bool) (code : Byte) (hk : Keeps k0 r0 s) : KeepsOut k0 r0 (execBadCommand mode3 code s) := by
  unfold execBadCommand
  repeat' with_reducible first
    | assumption
    | apply KeepsOut.ite
    | apply keepsOut_done
    | apply Keeps.ite
    | (refine keeps_transaction _ _ (fun t ht => ?_) ?_; on_goal 1 => (try dsimp only))
    | apply keeps_done
    | split

theorem keeps_pourTake {k0 : Bool} {r0 s : State} (payload : List Byte) (hk : Keeps k0 r0 s) : Keeps k0 r0 (State.pourTake s payload) := by
  unfold State.pourTake
  repeat' with_reducible first
    | assumption
    | ((try lift_lets); intro x; first | (refine (fun (hx : Keeps k0 r0 x) => ?_) ?_; on_goal 1 => (try clear_value x)) | (refine (fun (hx : Keeps k0 r0 x.2) => ?_) ?_; on_goal 1 => (try clear_value x)) | (refine (fun (hx : Keeps k0 r0 x.2.2) => ?_) ?_; on_goal 1 => (try clear_value x)) | (try clear_value x))
    | apply Keeps.ite
    | apply keeps_pourFree
    | apply keeps_pourBlock
    | apply Keeps.ite2
    | apply Keeps.ite3
    | fail_if_no_progress apply Keeps.upd
    | split
    | (dsimp only [x])

theorem keeps_execPourBlock {k0 : Bool} {r0 s : State} (mode3 : Bool) (payload : List Byte) (lenField : Nat) (hk : Keeps k0 r0 s) : KeepsOut k0 r0 (execPourBlock mode3 payload lenField s) := by
  unfold execPourBlock
  repeat' with_reducible first
    | assumption
    | apply KeepsOut.ite
    | apply keepsOut_done
    | apply Keeps.ite
    | (refine keeps_transaction _ _ (fun t ht => ?_) ?_; on_goal 1 => (try dsimp only))
    | apply keeps_setRb
    | apply keeps_pourErr
    | apply keeps_pourTake
    | apply keeps_done
    | split

theorem keeps_execPourGo {k0 : Bool} {r0 s : State} (mode3 : Bool) (kind : Nat) (hk : Keeps k0 r0 s) : KeepsOut k0 r0 (execPourGo mode3 kind s) := by
  unfold execPourGo
  repeat' with_reducible first
    | assumption
    | apply KeepsOut.ite
    | apply keepsOut_done
    | apply Keeps.ite
    | (refine keeps_transaction _ _ (fun t ht => ?_) ?_; on_goal 1 => (try dsimp only))
    | apply keeps_setRb
    | apply keeps_pourStart
    | apply keeps_done
    | split

theorem keeps_execChillEntry {k0 : Bool} {r0 s : State}  (hk : Keeps k0 r0 s) : KeepsOut k0 r0 (execChillEntry s) := by
  unfold execChillEntry
  repeat' with_reducible first
    | assumption
    | apply KeepsOut.ite
    | apply keepsOut_done
    | apply Keeps.ite
    | apply keeps_drainQueue
    | apply keeps_chillEnter
    | apply keeps_done
    | split

theorem keeps_outTicks {k0 : Bool} {r0 s : State}  (hk : Keeps k0 r0 s) : Keeps k0 r0 (State.outTicks s) := by
  unfold State.outTicks
  repeat' with_reducible first
    | assumption
    | ((try lift_lets); intro x; first | (refine (fun (hx : Keeps k0 r0 x) => ?_) ?_; on_goal 1 => (try clear_value x)) | (try clear_value x))
    | apply keeps_actTicks
    | apply keeps_fanTicks
    | fail_if_no_progress apply Keeps.upd
    | (dsimp only [x])

theorem keeps_outTicksDue {k0 : Bool} {r0 s : State}  (hk : Keeps k0 r0 s) : Keeps k0 r0 (State.outTicksDue s) := by
  unfold State.outTicksDue
  repeat' with_reducible first
    | assumption
    | apply Keeps.ite
    | apply keeps_outTicks
    | split

theorem keeps_unitTicks {k0 : Bool} {r0 s : State}  (hk : Keeps k0 r0 s) : Keeps k0 r0 (State.unitTicks s) := by
  unfold State.unitTicks
  repeat' with_reducible first
    | assumption
    | ((try lift_lets); intro x; first | (refine (fun (hx : Keeps k0 r0 x) => ?_) ?_; on_goal 1 => (try clear_value x)) | (try clear_value x))
    | apply Keeps.ite
    | apply keeps_acqTick
    | apply keeps_encTicks
    | apply keeps_outTicks
    | apply keeps_strokesWrite
    | fail_if_no_progress apply Keeps.upd
    | split
    | (dsimp only [x])

theorem keeps_framesAbandon {k0 : Bool} {r0 s : State}  (hk : Keeps k0 r0 s) : Keeps k0 r0 (State.framesAbandon s) := by
  unfold State.framesAbandon
  repeat' with_reducible first
    | assumption
    | ((try lift_lets); intro x; first | (refine (fun (hx : Keeps k0 r0 x) => ?_) ?_; on_goal 1 => (try clear_value x)) | (try clear_value x))
    | apply Keeps.ite
    | (refine keeps_forEach _ _ (fun t n ht => ?_) ?_; on_goal 1 => beta_reduce)
    | apply keeps_setSstat
    | fail_if_no_progress apply Keeps.upd
    | split
    | (dsimp only [x])

theorem keeps_countTick {r0 s : State}  (hk : Keeps false r0 s) : Keeps false r0 (State.countTick s) := by
  unfold State.countTick
  repeat' with_reducible first
    | assumption
    | (refine Keeps.updTb (Nat.mod_lt _ (by norm_num)) ?_)
    | ((try lift_lets); intro x; first | (refine (fun (hx : Keeps false r0 x) => ?_) ?_; on_goal 1 => (try clear_value x)) | (try clear_value x))
    | apply keeps_framesAbandon
    | fail_if_no_progress apply Keeps.upd
    | split
    | (dsimp only [x])

theorem keeps_tickSend {k0 : Bool} {r0 s : State}  (hk : Keeps k0 r0 s) : Keeps k0 r0 (State.tickSend s) := by
  unfold State.tickSend
  repeat' with_reducible first
    | assumption
    | ((try lift_lets); intro x; first | (refine (fun (hx : Keeps k0 r0 x) => ?_) ?_; on_goal 1 => (try clear_value x)) | (refine (fun (hx : Keeps k0 r0 x.2) => ?_) ?_; on_goal 1 => (try clear_value x)) | (refine (fun (hx : Keeps k0 r0 x.2.2) => ?_) ?_; on_goal 1 => (try clear_value x)) | (try clear_value x))
    | apply Keeps.ite
    | apply keeps_sendToken
    | apply keeps_formationRest
    | apply keeps_drawNat
    | apply Keeps.ite2
    | apply Keeps.ite3
    | fail_if_no_progress apply Keeps.upd
    | split
    | (dsimp only [x])

theorem keeps_linkTick {k0 : Bool} {r0 s : State}  (hk : Keeps k0 r0 s) : Keeps k0 r0 (State.linkTick s) := by
  unfold State.linkTick
  repeat' with_reducible first
    | assumption
    | ((try lift_lets); intro x; first | (refine (fun (hx : Keeps k0 r0 x) => ?_) ?_; on_goal 1 => (try clear_value x)) | (refine (fun (hx : Keeps k0 r0 x.2) => ?_) ?_; on_goal 1 => (try clear_value x)) | (refine (fun (hx : Keeps k0 r0 x.2.2) => ?_) ?_; on_goal 1 => (try clear_value x)) | (try clear_value x))
    | apply Keeps.ite
    | apply keeps_drawNat
    | apply Keeps.ite2
    | apply Keeps.ite3
    | fail_if_no_progress apply Keeps.upd
    | split
    | (dsimp only [x])

theorem keeps_timePasses {r0 s : State} (hk : Keeps false r0 s) : Keeps false r0 s.timePasses := by
  have h := keeps_linkTick hk
  unfold State.timePasses
  exact ⟨h.1, h.2, h.3, h.4, h.5, le_trans h.6 (Nat.le_succ _), h.7, h.8, fun e => by cases e⟩

theorem keeps_execBaseTick {r0 s : State}  (hk : Keeps false r0 s) : KeepsOut false r0 (execBaseTick s) := by
  unfold execBaseTick
  repeat' with_reducible first
    | assumption
    | ((try lift_lets); intro x; first | (refine (fun (hx : Keeps false r0 x) => ?_) ?_; on_goal 1 => (try clear_value x)) | (try clear_value x))
    | apply KeepsOut.ite
    | apply keepsOut_done
    | apply Keeps.ite
    | apply keeps_outTicksDue
    | apply keeps_timePasses
    | apply keeps_xtalTick
    | apply keeps_countTick
    | apply keeps_unitTicks
    | apply keeps_tickSend
    | apply keeps_done
    | split
    | (dsimp only [x])

theorem keeps_pendingCommits {k0 : Bool} {r0 s : State}  (hk : Keeps k0 r0 s) : Keeps k0 r0 (State.pendingCommits s) := by
  unfold State.pendingCommits
  repeat' with_reducible first
    | assumption
    | apply Keeps.ite
    | apply keeps_startupCommit
    | apply keeps_boundaryCommits
    | split

theorem keeps_outputsLive {k0 : Bool} {r0 s : State}  (hk : Keeps k0 r0 s) : Keeps k0 r0 (State.outputsLive s) := by
  unfold State.outputsLive
  repeat' with_reducible first
    | assumption
    | ((try lift_lets); intro x; first | (refine (fun (hx : Keeps k0 r0 x) => ?_) ?_; on_goal 1 => (try clear_value x)) | (try clear_value x))
    | apply Keeps.ite
    | apply keeps_setRf
    | fail_if_no_progress apply Keeps.upd
    | split
    | (dsimp only [x])

theorem keeps_fansWake {k0 : Bool} {r0 s : State}  (hk : Keeps k0 r0 s) : Keeps k0 r0 (State.fansWake s) := by
  unfold State.fansWake
  repeat' with_reducible first
    | assumption
    | ((try lift_lets); intro x; first | (refine (fun (hx : Keeps k0 r0 x) => ?_) ?_; on_goal 1 => (try clear_value x)) | (try clear_value x))
    | (refine keeps_forEach _ _ (fun t n ht => ?_) ?_; on_goal 1 => beta_reduce)
    | apply keeps_setFan
    | fail_if_no_progress apply Keeps.upd
    | (dsimp only [x])

theorem keeps_wakeBoundary {k0 : Bool} {r0 s : State}  (hk : Keeps k0 r0 s) : Keeps k0 r0 (State.wakeBoundary s) := by
  unfold State.wakeBoundary
  repeat' with_reducible first
    | assumption
    | ((try lift_lets); intro x; first | (refine (fun (hx : Keeps k0 r0 x) => ?_) ?_; on_goal 1 => (try clear_value x)) | (try clear_value x))
    | apply keeps_setRf
    | apply keeps_fansWake
    | fail_if_no_progress apply Keeps.upd
    | split
    | (dsimp only [x])

theorem keeps_boundaryTokens {k0 : Bool} {r0 s : State} (ks : List Nat) (hk : Keeps k0 r0 s) : Keeps k0 r0 (State.boundaryTokens s ks) := by
  unfold State.boundaryTokens
  repeat' with_reducible first
    | assumption
    | apply Keeps.ite
    | apply keeps_mirrorSend
    | apply keeps_runmapRefresh
    | split

theorem keeps_execFrameBoundary {k0 : Bool} {r0 s : State}  (hk : Keeps k0 r0 s) : KeepsOut k0 r0 (execFrameBoundary s) := by
  unfold execFrameBoundary
  repeat' with_reducible first
    | assumption
    | ((try lift_lets); intro x; first | (refine (fun (hx : Keeps k0 r0 x) => ?_) ?_; on_goal 1 => (try clear_value x)) | (try clear_value x))
    | apply KeepsOut.ite
    | apply keepsOut_done
    | apply Keeps.ite
    | (refine keeps_forEach _ _ (fun t n ht => ?_) ?_; on_goal 1 => beta_reduce)
    | apply keeps_graftsLate
    | apply keeps_pendingCommits
    | apply keeps_convergeRefresh
    | apply keeps_boundary
    | apply keeps_outputsLive
    | apply keeps_wakeBoundary
    | apply keeps_outTicksDue
    | apply keeps_boundaryTokens
    | apply keeps_done
    | fail_if_no_progress apply Keeps.upd
    | split
    | (dsimp only [x])

theorem keeps_graftSend {k0 : Bool} {r0 s : State} (k : Nat) (n : Nat) (tick : Nat) (hk : Keeps k0 r0 s) : Keeps k0 r0 (State.graftSend s k n tick) := by
  unfold State.graftSend
  repeat' with_reducible first
    | assumption
    | ((try lift_lets); intro x; first | (refine (fun (hx : Keeps k0 r0 x) => ?_) ?_; on_goal 1 => (try clear_value x)) | (try clear_value x))
    | apply Keeps.ite
    | apply keeps_runmapRefresh
    | apply keeps_sendToken
    | split
    | (dsimp only [x])

theorem keeps_evalSlot {k0 : Bool} {r0 s : State} (k : Nat) (n : Nat) (hk : Keeps k0 r0 s) : Keeps k0 r0 (State.evalSlot s k n) := by
  unfold State.evalSlot
  repeat' with_reducible first
    | assumption
    | ((try lift_lets); intro x; first | (refine (fun (hx : Keeps k0 r0 x) => ?_) ?_; on_goal 1 => (try clear_value x)) | (refine (fun (hx : Keeps k0 r0 x.2) => ?_) ?_; on_goal 1 => (try clear_value x)) | (refine (fun (hx : Keeps k0 r0 x.2.2) => ?_) ?_; on_goal 1 => (try clear_value x)) | (try clear_value x))
    | apply Keeps.ite
    | apply keeps_writeSlot
    | apply keeps_badRef
    | apply keeps_fire
    | apply keeps_traceEval
    | apply keeps_setFrame
    | apply keeps_graftsRun
    | apply keeps_graftSend
    | apply Keeps.ite2
    | apply Keeps.ite3
    | fail_if_no_progress apply Keeps.upd
    | split
    | (dsimp only [x])

theorem keeps_execSlotEvaluation {k0 : Bool} {r0 s : State}  (hk : Keeps k0 r0 s) : KeepsOut k0 r0 (execSlotEvaluation s) := by
  unfold execSlotEvaluation
  repeat' with_reducible first
    | assumption
    | ((try lift_lets); intro x; first | (refine (fun (hx : Keeps k0 r0 x) => ?_) ?_; on_goal 1 => (try clear_value x)) | (try clear_value x))
    | apply KeepsOut.ite
    | apply keepsOut_done
    | apply Keeps.ite
    | apply keeps_evalSlot
    | apply keeps_frameAdvance
    | apply keeps_setFrame
    | apply keeps_done
    | fail_if_no_progress apply Keeps.upd
    | split
    | (dsimp only [x])

theorem keeps_execConversionComplete {k0 : Bool} {r0 s : State}  (hk : Keeps k0 r0 s) : KeepsOut k0 r0 (execConversionComplete s) := by
  unfold execConversionComplete
  repeat' with_reducible first
    | assumption
    | ((try lift_lets); intro x; first | (refine (fun (hx : Keeps k0 r0 x) => ?_) ?_; on_goal 1 => (try clear_value x)) | (try clear_value x))
    | apply keepsOut_done
    | apply keeps_completeOne
    | apply keeps_fanConversion
    | apply keeps_done
    | fail_if_no_progress apply Keeps.upd
    | split
    | (dsimp only [x])

theorem keeps_execGuardConversion {k0 : Bool} {r0 s : State} (code : Int) (hk : Keeps k0 r0 s) : KeepsOut k0 r0 (execGuardConversion code s) := by
  unfold execGuardConversion
  repeat' with_reducible first
    | assumption
    | ((try lift_lets); intro x; first | (refine (fun (hx : Keeps k0 r0 x) => ?_) ?_; on_goal 1 => (try clear_value x)) | (try clear_value x))
    | apply keepsOut_done
    | apply keeps_guardOne
    | apply keeps_fanConversion
    | apply keeps_done
    | fail_if_no_progress apply Keeps.upd
    | split
    | (dsimp only [x])

theorem keeps_execPvUpdate {k0 : Bool} {r0 s : State}  (hk : Keeps k0 r0 s) : KeepsOut k0 r0 (execPvUpdate s) := by
  unfold execPvUpdate
  repeat' with_reducible first
    | assumption
    | ((try lift_lets); intro x; first | (refine (fun (hx : Keeps k0 r0 x) => ?_) ?_; on_goal 1 => (try clear_value x)) | (refine (fun (hx : Keeps k0 r0 x.2) => ?_) ?_; on_goal 1 => (try clear_value x)) | (refine (fun (hx : Keeps k0 r0 x.2.2) => ?_) ?_; on_goal 1 => (try clear_value x)) | (try clear_value x))
    | apply KeepsOut.ite
    | apply keepsOut_done
    | apply Keeps.ite
    | apply keeps_pvAction
    | (refine keeps_foldl _ _ (fun t n ht => ?_) ?_; on_goal 1 => beta_reduce)
    | apply keeps_pinPv
    | (refine keeps_forEach _ _ (fun t n ht => ?_) ?_; on_goal 1 => beta_reduce)
    | apply keeps_actFeedback
    | apply keeps_fanCurrents
    | apply keeps_done
    | apply Keeps.ite2
    | apply Keeps.ite3
    | fail_if_no_progress apply Keeps.upd
    | split
    | (dsimp only [x])

end Sys2Proof.Machine
end

