-- ==== Sys2Proof/Machine/Pins.lean ====
section
/-! DEFINITION. The balls of the part and what it does to each in a state (00_scope R10, 10_twin_pair R333-R344, R369, 19_pins_electrical R594-R598). -/

namespace Sys2Proof.Machine

/-- The signal balls of R594 and R595, numbered as their signals are; `act n b` is ACTnB where b is true, else ACTnA; `splOut` 0 to 3 is
SPL_TXD0-3 and 4 SPL_RXACK; `netTx` and `netIn` stand for the outputs and inputs of a port's MII; `ain` and `fani` are the analog inputs,
which the part only measures. -/
inductive Ball where
  | act (n : Nat) (b : Bool) | fang (f : Nat) | fant (f : Nat) | krow (r : Nat) | kcol (c : Nat) | enc (n : Nat)
  | netTx (p : Nat) | netIn (p : Nat) | mdc | mdio | splOut (i : Nat) | splIn | twnOwn | aliveOut | aliveIn
  | hsck | hmosi | hncs | hmiso | hbusy | hirq | scl (b : Nat) | sda (b : Nat) | sbsck | sbmosi | sbcs (i : Nat) | sbmiso
  | shdn | nrst | rstout | mainsref | test | debug | ain (i : Nat) | fani (f : Nat)
deriving DecidableEq, Repr

/-- The balls of a presence unit that the variant lacks (R3, R10). -/
def State.ballAbsent (s : State) : Ball → Bool
  | .act n _ => s.nActs ≤ n
  | .fang f => s.nFans ≤ f
  | .fant f => s.nFans ≤ f
  | .krow r => 8 ≤ r && !s.present 25
  | .kcol c => 8 ≤ c && !s.present 25
  | .enc n => s.nEncs ≤ n
  | .netTx p => !s.netPort p
  | .netIn p => !s.netPort p
  | .splOut _ => !s.present 16
  | .splIn => !s.present 16
  | .twnOwn => !s.present 16
  | .aliveOut => !s.present 16
  | .aliveIn => !s.present 16
  | .ain i => 32 ≤ i && !s.present 20
  | .fani f => s.nFans ≤ f
  | _ => false

/-- The keypad rows (R551, R552, R577): each driven low in turn by a scan, all driven low in a chill that a key ends. -/
def State.krowPin (s : State) (r : Nat) : Pin :=
  let used := r < s.kpdRows
  if used && s.asleep && s.rb Reg.pwrWake 4 && s.pinsDriven then .low
  else if used && s.kpdScans then .moving else .highZ

/-- An output of a port's MII: an input with a weak pull-down until the port is enabled (R369, R595). -/
def State.netTxPin (s : State) (p : Nat) : Pin :=
  if !(s.netOwnPort p && s.rb Reg.netCtrl p) then .pullDown
  else if (if p = 0 then s.net.txA else s.net.txB).isEmpty then .low else .moving

/-- Has step 3 of shakeout ended since the last reset (R381, R595)? -/
def State.strapsDone (s : State) : Bool := s.resetFree && 4 ≤ s.shakeStep

/-- What the part does to a ball (R10, R334, R595, and the chapters of its unit). HMISO is driven within a transaction alone, and SPL_RXACK
within a transfer: a token that arrives is one command, after which the acknowledge of its last transfer is low again (R344). -/
def State.pin (s : State) (b : Ball) : Pin :=
  if s.ballAbsent b then .pullDown
  else
    match b with
    | .act n second => if second then (s.actPins n).2 else (s.actPins n).1
    | .fang f => s.fanPin f
    | .krow r => s.krowPin r
    | .kcol c => if c < 8 || s.strapsDone then .pullUp else .pullDown
    | .enc _ => .pullUp
    | .netTx p => s.netTxPin p
    | .netIn _ => .pullDown
    | .mdc => if s.rb Reg.netMdio 12 then .moving else .low
    | .mdio => if s.rb Reg.netMdio 12 then .moving else .highZ
    | .splOut i => if !(s.isTwin && s.strapsDone) then .pullDown else if i < 4 && !s.twn.tx.isEmpty then .levels (wireLevels s.twn.tx s.twn.txAt i) else .low
    | .splIn => .pullDown
    | .twnOwn => if s.rb Reg.twnStat 9 then .low else .released
    | .aliveOut => if !s.pwr.good then .highZ else if s.aliveOut then .high else if s.strapsDone && !s.isTwin then .pullDown else .low
    | .hncs => .pullUp
    | .hmiso => .highZ
    | .hbusy => if s.resetFree then Pin.of s.hst.hbusy else .highZ
    | .hirq => if s.hirq then .low else .released
    | .scl i => if s.sbusDriven i && s.sbusBusy i then .levels ((s.sbusWire i).map Prod.fst) else .released
    | .sda i => if s.sbusDriven i && s.sbusBusy i then .levels ((s.sbusWire i).map Prod.snd) else .released
    | .sbsck =>
      if !s.sbusDriven 2 then .highZ
      else if s.sbusBusy 2 && !s.sbusMosi.isEmpty then .levels (s.sbusMosi.flatMap (fun _ => [false, true]) ++ [false]) else .low
    | .sbmosi =>
      if !s.sbusDriven 2 then .highZ else if s.sbusBusy 2 && !s.sbusMosi.isEmpty then .levels s.sbusMosi else .low
    | .sbcs i => if !s.sbusDriven 2 then .pullUp else if s.sbusBusy 2 && (s.bus 2).target % 4 = i then .low else .high
    | .sbmiso => .pullDown
    | .shdn => if s.shdnOn then .low else .released
    | .nrst => .pullUp
    | .rstout => if s.pwr.rstout then .high else .low
    | .test => .pullDown
    | .debug => .pullDown
    | _ => .highZ

end Sys2Proof.Machine
end

