-- ==== Sys2Proof/Tests/Fixtures.lean ====
section
/-! SUPPORT. Small states for tests and witnesses: a part in RUN, rings that are on, register and memory contents, messages. -/

set_option linter.unusedVariables false

namespace Sys2Proof.Tests
open Sys2Proof Sys2Proof.Machine

/-- Registers set to numbers. -/
def setRegs (s : State) (l : List (Nat × Nat)) : State := l.foldl (fun s p => s.setReg p.1 (BitVec.ofNat 32 p.2)) s
/-- Words of memory set to numbers. -/
def setMem (s : State) (l : List (Nat × Nat)) : State := l.foldl (fun s p => s.setWord p.1 (BitVec.ofNat 32 p.2)) s
def live : State :=
  setRegs { State.reset with pwr := { State.reset.pwr with good := true, held := none, rtIn := true, b1 := some 5 }, now := 1000000, free := 3, lastRead := 7,
                             tb := { State.reset.tb with count := 12000000, running := true, xtalOk := true } }
    [(Reg.pwrShake, 12), (Reg.pwrStat, 1), (Reg.knbJseq, 5)]
def ring (s : State) (n d e p base : Nat) (head : Nat := 0) (tail : Nat := 0) : State :=
  setRegs s [(Reg.rngCfg n, d + 16*e + 64*p + 256), (Reg.rngBase n, base), (Reg.rngHead n, head), (Reg.rngTail n, tail)]
def rings (s : State) : State := [0,1,4,5,20,21,22,23,24].foldl (fun s n => ring s n 2 1 0 (0x20000000 + 64*n)) s
def rings16 (s : State) : State := [2,3,18].foldl (fun s n => ring s n 2 2 1 (0x20001000 + 64*n)) s
/-- A part in RUN with the rings of the runtime on. -/
def full := rings16 (rings live)
/-- Unit u owned by the host. -/
def own (s : State) (u : Nat) : State := s.setRb Reg.sysOwn u true
def pw (s : State) (f : PwrSt → PwrSt) : State := { s with pwr := f s.pwr }
def sg (s : State) (f : AcqSt → AcqSt) : State := { s with acq := f s.acq }
def cg (s : State) (f : CenSt → CenSt) : State := { s with cen := f s.cen }
def odg (s : State) (f : OdSt → OdSt) : State := { s with od := f s.od }
def held6 : State := { pw full (fun p => { p with held := some 6 }) with pwr := { full.pwr with held := some 6 } }
def asleep_ : State := setRegs full [(Reg.pwrStat, 2)]
/-- A function in a state. -/
def fnr (s : State) (f : Nat) (st : Nat := 2) : State := s.setFn f { s.fn f with state := st }
def odn (s : State) (l : List (Nat × Nat × Nat × Int)) : State := l.foldl (fun s p => s.odSet (odId p.1 p.2.1 p.2.2.1) (.num p.2.2.2)) s
/-- Coefficient words of a slot. -/
def coef (s : State) (n : Nat) (l : List (Nat × Nat)) : State := setMem s (l.map (fun p => (slotCoef n + p.1, p.2)))
def actc (s : State) (n : Nat) (v : ActCh) : State := s.setAct n v
def fg (s : State) (f : FanSt → FanSt) : State := { s with fan := f s.fan }
def fan (s : State) (f : Nat) (v : FanCh) : State := s.setFan f v
def tg (s : State) (f : TwnSt → TwnSt) : State := { s with twn := f s.twn }
/-- TWN_STAT: position, role and the bits below. -/
def tw (s : State) (pos role : Nat) (bits : Nat) : State := setRegs s [(Reg.twnStat, pos + 4*role + bits)]
/-- Bits of TWN_STAT and of the pair lines, by name. -/
def F := 0x10
def X := 0x20
def L := 0x40
def AL := 0x80
def OH := 0x100
def OP := 0x200
def CV := 0x400
def ng (s : State) (f : NetSt → NetSt) : State := { s with net := f s.net }
/-- Network port 0 up, with an address. -/
def up (s : State) : State := setRegs s [(Reg.netCtrl, 3), (Reg.netpCfg 0, 1), (Reg.netpStat 0, 3), (Reg.netAddr, 0x45), (Reg.netSeq, 100)]
/-- The network serving requests. -/
def nete : State := odg (up full) (fun o => { o with serving := true })
def mk (s : State) (m : NetFrame) (body : List Byte) : NetFrame :=
  let m := { m with dmac := netMacOf m.dst, smac := netMac m.src, len := body.length, rest := body }
  let m := { m with rest := body ++ s.netTag m ++ List.replicate (22 - body.length) 0 }
  { m with fcs := crc32 (netBytes m) }
/-- A message with its tag and FCS. -/
def msg (s : State) (typ : Nat) (body : List Byte) (dst : Nat := 0x8000 + 0x800 + 0x3E0) (seq : Nat := 50) (flags : Nat := 0) (src : Nat := 0x46) (session : Nat := 0) : NetFrame :=
  mk s { typ := typ, flags := flags, src := src, dst := dst, seq := seq, session := session } body
def refcs (m : NetFrame) : NetFrame := { m with fcs := crc32 (netBytes m) }
/-- A request record of ring 12. -/
def rec (op fl ty id exp : Nat) (cnt : Nat) (body : List Byte) : List Byte :=
  [BitVec.ofNat 8 op, BitVec.ofNat 8 fl, BitVec.ofNat 8 ty, 0] ++ leBytes 4 id ++ leBytes 4 exp ++ leBytes 2 body.length ++ leBytes 2 cnt ++ body
/-- A request at the TAIL of ring 12. -/
def r12 (s : State) (b : List Byte) (at0 : Nat := 0x100) (resp : Nat := 0x800) (cap : Nat := 64) : State :=
  let s := ring (ring s 12 2 2 1 0x20002000 1 0) 13 2 2 1 0x20002100
  let s := s.setBytes 0x20002000 (leBytes 4 77 ++ leBytes 4 at0 ++ leBytes 2 b.length ++ leBytes 2 cap ++ leBytes 4 resp)
  let s := s.setBytes (0x30000000 + at0) b
  { s with od := { s.od with serving := true } }
def pourOn (s : State) (src : Nat) : State := setRegs (pw s (fun p => { p with rtIn := false })) [(Reg.pwrPour, 0x80 + src*0x10000), (Reg.pwrShake, 6)]
/-- A block of an image. -/
def blk (k grp id len n cnt : Nat) (d : List Byte) : List Byte := [BitVec.ofNat 8 k, 0] ++ beBytes 2 grp ++ beBytes 4 id ++ beBytes 4 len ++ beBytes 2 n ++ beBytes 2 cnt ++ beBytes 4 (crc32 d) ++ d
def big : List Byte := List.replicate 1024 7
def bl : List (List Byte) := [blk 0 0 9 3 0 1 [1,2,3], blk 0 0 9 1027 0 2 big, blk 0 0 9 1027 1 2 [1,2,3], blk 1 5 9 3 0 1 [1,2,3], blk 2 5 9 3 0 1 [1,2,3], (blk 0 0 9 3 0 1 [1,2,3]).set 17 9, blk 0 0 9 3 0 2 [1,2,3], blk 0 0 9 3 1 1 [1,2,3], blk 0 0 9 2000 0 2 [1,2,3], [1,2], blk 0 0 9 1028 1 2 [1,2,3,4]]
def pm (body : List Byte) (t : Nat := 0xA) : NetFrame := mk full { typ := t, src := 0x46, dst := 0x45, session := 0xFFFF } body

/-- A pair whose first part is v. -/
theorem of_fst {α β : Type} {p : α × β} {v : α} (h : p.1 = v) : p = (v, p.2) := by cases h; rfl

end Sys2Proof.Tests
end

