-- ==== Sys2Proof/WellFormed.lean ====
section
/-! DEFINITION. Which commands are well formed: every number that names a port, a channel, a slice, a ring or another unit of the part lies in the range the spec gives that unit, an offset names a word, and a list has no more members than its message or RAM holds. A command that is not well formed names nothing the part has; the meanings are total all the same. -/

namespace Sys2Proof

/-- Is a command well formed? -/
def Instr.wellFormed : Instr → Bool
  | .baseTick => true
  | .tbcountLoRead _ => true
  | .xtalStop => true
  | .tboRange => true
  | .clockLost => true
  | .portClock p => p < 2
  | .tboLock => true
  | .tboDiscipline _ => true
  | .frameBoundary => true
  | .slotEvaluation => true
  | .ownershipHandover => true
  | .acqStart _ => true
  | .acqStop _ => true
  | .passStart => true
  | .entryStart => true
  | .conversionSample code => (-32768 : Int) ≤ code && code < 65536
  | .conversionComplete => true
  | .pvUpdate => true
  | .guardConversion code => (-32768 : Int) ≤ code && code < 65536
  | .fettleConversion slice code => slice < 4 && (0 : Int) ≤ code && code < 65536
  | .sliceStale slice => slice < 4
  | .staleClear slice => slice < 4
  | .sliceCorrWrite _ slice _ _ => slice < 4
  | .acqClipcntRead _ => true
  | .acqSkipcntRead _ => true
  | .cenRun _ => true
  | .cenStop _ => true
  | .cenAdmit _ => true
  | .cenPeriodWrite _ k _ => k < 4
  | .cenOvrRead _ k => k < 4
  | .traceArm _ t => t < 4
  | .traceStop _ t => t < 4
  | .traceForce _ t => t < 4
  | .traceConfigWrite _ t reg _ => t < 4 && reg < 3
  | .traceLostRead _ t => t < 4
  | .odRead _ => true
  | .odWrite _ _ => true
  | .odWriteBlock _ _ => true
  | .odCall _ => true
  | .functionStop f => f < 4096
  | .functionStart f _ => f < 4096
  | .functionDiscard f => f < 4096
  | .functionStartCommit f => f < 4096
  | .functionStopCommit f => f < 4096
  | .odxHeatRead _ => true
  | .digestMismatchClear addr => addr < 1024
  | .zoneStep => true
  | .zonPinCntRead _ p => p < 128
  | .scheduleEvaluate => true
  | .pwmPeriod n => n < 32
  | .stepPulse n => n < 32
  | .actRunWrite _ _ => true
  | .actRelease _ _ => true
  | .safeTimeout n => n < 32
  | .actConfigWrite _ n off _ => n < 32 && off < 64 && off % 4 == 0
  | .fanPeriod f => f < 16
  | .stretchWindowOpen f => f < 16
  | .tachEdge f cycle => f < 16 && cycle < 4096
  | .stretchWindowClose f => f < 16
  | .fanKickEnd f => f < 16
  | .startTimeout f => f < 16
  | .fanWaitEnd f => f < 16
  | .fanRestartEnd f => f < 16
  | .fanRetryReset f => f < 16
  | .fanClr _ _ => true
  | .fanRefresh _ => true
  | .fanAuto => true
  | .fanAutoExit _ _ => true
  | .fanConfigWrite _ f off _ => f < 16 && off < 64 && off % 4 == 0
  | .shdnSensor j => j < 4
  | .shdnRelease => true
  | .shdnLock _ => true
  | .heartbeatSend => true
  | .heartbeatReceive p _ => p < 2
  | .timeReceive p _ => p < 2
  | .censusReceive p _ => p < 2
  | .notifySend => true
  | .notifyAck p _ => p < 2
  | .notifyRetry => true
  | .pourReceive p _ => p < 2
  | .pourEndReceive p _ => p < 2
  | .pourNakRetry => true
  | .windowClose addr => addr < 1024
  | .frameDrop p _ => p < 2
  | .plcaLost p => p < 2
  | .plcaResume p => p < 2
  | .frameTransmitDone p collisions => p < 2 && collisions < 16
  | .mdioGo _ _ => true
  | .mdioDone _ => true
  | .rootKeyApply => true
  | .netCounterRead _ p k => p < 2 && k < 8
  | .netNotlostRead _ => true
  | .twinKick _ => true
  | .twinWatchdog => true
  | .twinForcedReset => true
  | .ownChange _ _ => true
  | .claim => true
  | .loneClaim => true
  | .claimDrive => true
  | .ownStuck => true
  | .sprueDown => true
  | .sprueUp => true
  | .transferTimeout => true
  | .tokenDiscard wires => wires.all (fun w => w < 16)
  | .claimToken => true
  | .releaseToken cause => cause < 6
  | .tickToken tb _ => tb < 281474976710656
  | .graftToken cls first _ entries => cls < 4 && first < 1024 && entries.length ≤ 31
  | .runmapToken slots => slots.all (fun x => decide (x < 1024))
  | .mirrorToken _ _ _ _ => true
  | .zoneToken _ _ _ => true
  | .odxToken _ _ _ => true
  | .netframeToken _ _ => true
  | .helloToken _ => true
  | .configToken _ _ _ _ _ _ run => run.all (fun f => f < 4096)
  | .imageToken kind _ _ _ => kind < 2
  | .swapToken _ => true
  | .twinPourTimeout => true
  | .swapBegin => true
  | .swap => true
  | .forceSwap => true
  | .swapFinish _ => true
  | .swapAbort => true
  | .swapExchange => true
  | .swapFinishCommit => true
  | .twnLatecntRead _ => true
  | .twnLinkerrRead _ => true
  | .supplyGood _ _ => true
  | .supplyFall _ _ => true
  | .supply _ _ => true
  | .nrst => true
  | .watchdogKick _ => true
  | .wdogWarn => true
  | .watchdogReset => true
  | .knabRecall weak => weak.all (fun x => decide (x < 1024))
  | .selfTest _ _ => true
  | .pourBlock _ _ lenField => lenField < 65536
  | .pourGo _ kind => kind < 256
  | .imageCheck kind => kind < 2
  | .runtimeEntry _ => true
  | .startupCommitRetry _ => true
  | .chillRequest => true
  | .chillEntry => true
  | .wake src => src < 6
  | .hostId _ => true
  | .hostStatus _ => true
  | .hostRead _ _ _ _ => true
  | .hostReadBurst _ _ count _ _ => count < 256
  | .hostWrite _ _ _ => true
  | .writeQueueWord _ => true
  | .hostDoorbell _ _ => true
  | .badCommand _ _ => true
  | .sbusGo _ b _ => b < 3
  | .sbusTransactionEnd b _ => b < 3
  | .clockStretchTimeout b => b < 3
  | .sbusEnable _ b _ _ => b < 3
  | .sbusDisable _ b _ => b < 3
  | .pollDue p => p < 32
  | .pollWaitEnd p => p < 32
  | .evtPendClear _ _ _ => true
  | .evtClr _ _ _ => true
  | .evtMaskHostWrite _ _ _ => true
  | .evtSoft _ _ => true
  | .ringConfigWrite _ n _ => n < 32
  | .ringBaseWrite _ n _ => n < 32
  | .ringHeadWrite _ n _ => n < 32
  | .ringTailWrite _ n _ => n < 32
  | .ringDropRead _ n => n < 32
  | .ladleStart _ n => n < 16
  | .ladlePause _ n => n < 16
  | .ladleResume _ n => n < 16
  | .ladleAbort _ n => n < 16
  | .ladleDoorbell _ n => n < 16
  | .descriptorFetch n => n < 16
  | .burst _ => true
  | .ladleBuserr n _ others => n < 16 && others.all (fun x => decide (x < 16))
  | .replay failed => failed.all (fun x => decide (x < 16))
  | .ldlCounterRead _ k => k < 3
  | .knbJopen _ => true
  | .knbJmapWrite _ j _ => j < 64
  | .knbCommit _ => true
  | .knabDone => true
  | .counterIncrement _ _ _ => true
  | .counterValueRead _ => true
  | .sliceNow _ => true
  | .scanSlice weak => weak.all (fun x => decide (x < 1024))
  | .pageRefresh page _ => page < 1024
  | .knbWeakcntRead _ => true
  | .rtcSecond => true
  | .rtcSecRead _ => true
  | .rtcSnap _ _ => true
  | .rtcFieldWrite _ i _ => i < 8
  | .rtcHalt _ => true
  | .rtcRelease _ => true
  | .rtcAdj _ _ => true
  | .rtcMeasureStart _ _ => true
  | .mainsrefCross _ => true
  | .trimUpdate => true
  | .rtcSupplySwitch _ => true
  | .rtcBatlow => true
  | .rtcDomainLoss => true
  | .rtcXstop => true
  | .keypadScan pressed => pressed.all (fun x => decide (x < 256))
  | .keyStuck key => key < 256
  | .entryTimeout => true
  | .lockoutEnd => true
  | .relock => true
  | .kpdLock _ => true
  | .kpdUnlock _ => true
  | .kpdConfigWrite _ off _ => off < 384 && off % 4 == 0
  | .kpdDropRead _ => true
  | .encoderSample n _ _ _ => n < 4
  | .encoderCountWrite _ n _ => n < 4
  | .encErrRead _ n => n < 4
  | .sensorConversion readings => readings.length == 8
  | .tripComparator => true
  | .tripRelease => true
  | .thmTjRead _ => true
  | .thmLvlcntRead _ => true
  | .faultLogWrite _ => true
  | .registerWrite _ _ _ => true
  | .tboRangeRecovery => true
  | .nrstRelease => true
  | .xtalResume => true
  | .mainsLost => true
  | .rtcBatlowClear => true
  | .rstoutRise => true

end Sys2Proof
end

