-- ==== Sys2Proof/Tests/Slice0.lean ====
section
/-! SUPPORT. Tests of the model: ill-formed commands are refused, the queue, and the spec's own worked examples and tables
(the comment of each names where its expected value stands). -/

set_option Elab.async false

namespace Sys2Proof.Tests
open Sys2Proof Sys2Proof.Machine

/-! ### WellFormed: one ill-formed command for every check -/

def illFormed0 : List Instr :=
  [.portClock 2,
   .conversionSample (-32769),
   .conversionSample 65536,
   .guardConversion (-32769),
   .guardConversion 65536,
   .fettleConversion 4 0,
   .fettleConversion 0 (-1),
   .fettleConversion 0 65536,
   .sliceStale 4,
   .staleClear 4,
   .sliceCorrWrite .host 4 false 0,
   .cenPeriodWrite .host 4 0,
   .cenOvrRead .host 4,
   .traceArm .host 4,
   .traceStop .host 4,
   .traceForce .host 4,
   .traceConfigWrite .host 4 0 0,
   .traceConfigWrite .host 0 3 0,
   .traceLostRead .host 4,
   .functionStop 4096,
   .functionStart 4096 false,
   .functionDiscard 4096,
   .functionStartCommit 4096,
   .functionStopCommit 4096,
   .digestMismatchClear 1024,
   .zonPinCntRead .host 128,
   .pwmPeriod 32,
   .stepPulse 32,
   .safeTimeout 32,
   .actConfigWrite .host 32 0 0,
   .actConfigWrite .host 0 64 0,
   .actConfigWrite .host 0 2 0,
   .fanPeriod 16,
   .stretchWindowOpen 16,
   .tachEdge 16 0,
   .tachEdge 0 4096,
   .stretchWindowClose 16]

theorem test_illFormed_refused_0 : illFormed0.all (fun c => !c.wellFormed) = true := by decide +kernel

def illFormed1 : List Instr :=
  [.fanKickEnd 16,
   .startTimeout 16,
   .fanWaitEnd 16,
   .fanRestartEnd 16,
   .fanRetryReset 16,
   .fanConfigWrite .host 16 0 0,
   .fanConfigWrite .host 0 64 0,
   .fanConfigWrite .host 0 2 0,
   .shdnSensor 4,
   .heartbeatReceive 2 {},
   .timeReceive 2 {},
   .censusReceive 2 {},
   .notifyAck 2 {},
   .pourReceive 2 {},
   .pourEndReceive 2 {},
   .windowClose 1024,
   .frameDrop 2 {},
   .plcaLost 2,
   .plcaResume 2,
   .frameTransmitDone 2 0,
   .frameTransmitDone 0 16,
   .netCounterRead .host 2 0,
   .netCounterRead .host 0 8,
   .tokenDiscard [16],
   .releaseToken 6,
   .tickToken 281474976710656 0,
   .graftToken 4 0 0 [],
   .graftToken 0 1024 0 [],
   .graftToken 0 0 0 (List.replicate 32 (0, 0)),
   .runmapToken [1024],
   .configToken false 0 0 0 [] false [4096],
   .imageToken 2 0 0 [],
   .knabRecall [1024],
   .pourBlock false [] 65536,
   .pourGo false 256,
   .imageCheck 2,
   .wake 6]

theorem test_illFormed_refused_1 : illFormed1.all (fun c => !c.wellFormed) = true := by decide +kernel

def illFormed2 : List Instr :=
  [.hostReadBurst false 0 256 [] false,
   .sbusGo .host 3 0,
   .sbusTransactionEnd 3 (.ok []),
   .clockStretchTimeout 3,
   .sbusEnable .host 3 0 false,
   .sbusDisable .host 3 0,
   .pollDue 32,
   .pollWaitEnd 32,
   .ringConfigWrite .host 32 0,
   .ringBaseWrite .host 32 0,
   .ringHeadWrite .host 32 0,
   .ringTailWrite .host 32 0,
   .ringDropRead .host 32,
   .ladleStart .host 16,
   .ladlePause .host 16,
   .ladleResume .host 16,
   .ladleAbort .host 16,
   .ladleDoorbell .host 16,
   .descriptorFetch 16,
   .ladleBuserr 16 0 [],
   .ladleBuserr 0 0 [16],
   .replay [16],
   .ldlCounterRead .host 3,
   .knbJmapWrite .host 64 0,
   .scanSlice [1024],
   .pageRefresh 1024 false,
   .rtcFieldWrite .host 8 0,
   .keypadScan [256],
   .keyStuck 256,
   .kpdConfigWrite .host 384 0,
   .kpdConfigWrite .host 2 0,
   .encoderSample 4 false false false,
   .encoderCountWrite .host 4 0,
   .encErrRead .host 4,
   .sensorConversion []]

theorem test_illFormed_refused_2 : illFormed2.all (fun c => !c.wellFormed) = true := by decide +kernel

theorem test_wellFormed_accepted : ([.baseTick, .portClock 1, .conversionSample (-5), .conversionSample 65535, .tachEdge 15 4095,
    .ladleBuserr 15 0x20000000 [0, 15], .keypadScan [255], .sensorConversion (List.replicate 8 0), .encErrRead .runtime 3] : List Instr).all
    Instr.wellFormed = true := by decide +kernel

/-! ### The queue and the host's two names -/

theorem test_reset_idles : step State.reset = .next State.reset := rfl

theorem test_front_is_taken : (match step { State.reset with pending := [.tboRange, .baseTick] } with
    | .next t => t.pending | _ => []) = [.baseTick] := by decide +kernel

theorem test_no_word_spells_a_command : decodeTableWord 8 0xB0 = none := rfl

theorem test_withFetchWord_keeps : State.reset.withFetchWord 8 0xB0 = State.reset := rfl

/-! ### Acquisition: the example of R79 (decimator 5 of Hall 3) -/

theorem test_mean_code : meanCode 32601344 1024 = 2086486016 := by decide +kernel

theorem test_ntc_pv : (setRegs live [(Reg.acqLin 0 15, 0x001C4654), (Reg.acqLin 0 16, 0x00190000)]).scalePv 1 0x00010000 0 2086486016 false
    = 1735934 := by decide +kernel

/-! ### Admission: the example of R123 (Hall 3) -/

theorem test_admission : admission [16, 96, 288, 48] [4, 40, 4000, 240000] = (150, 4, [100, 58, 3, 1]) := by decide +kernel

/-! ### Arithmetic: the tables of chapter 4 -/

theorem test_rounding : [cenTerm 3 1 1, cenTerm (-1) 2 6, cenTerm (-5) 1 1, cenTerm (-7) 2 1, cenTerm 5 1 131072,
    cenTerm 644245094 31 1000000] = [2, -1, -2, -2, 327680, 300000] := by decide +kernel

/-- The conformance pattern of R141: a 3P3Z slot with e, E1, E2, Y1-Y3 at 0x7FFFFFFF. -/
def pattern3p3z : EvalInput :=
  { coef := (((((((List.replicate 32 (0 : Word)).set 0 0x0C).set 12 0x7FFFFFFF).set 13 0x7FFFFFFF).set 14 0x7FFFFFFF).set 16 0x7FFFFFFF).set 17
      0x7FFFFFFF).set 18 0x7FFFFFFF,
    taps := [0, 0, 0, 0], sp := 0x7FFFFFFF, i := 0, es := [0x7FFFFFFF, 0x7FFFFFFF, 0], ys := [0x7FFFFFFF, 0x7FFFFFFF, 0x7FFFFFFF] }

theorem test_saturation : (pattern3p3z.run.y, pattern3p3z.run.sat) = (-2147483648, true) := by decide +kernel

/-- The slot of zone 12 (integrator freeze): gain only, INT, B0 = 20, KI = 2, limits 0 to 100 %. -/
def zone12 (e i : Int) : EvalInput :=
  { coef := (((((List.replicate 32 (0 : Word)).set 0 0x20).set 12 20).set 19 2).set 23 6553600).set 25 6553600,
    taps := [0, 0, 0, 0], sp := e, i := i, es := [0, 0, 0], ys := [0, 0, 0] }

theorem test_freeze_frames : [zone12 65536 4980736, zone12 65536 5111808, zone12 131072 5242880, zone12 (-32768) 5242880].map
    (fun a => (a.run.i, a.run.v, a.run.u, a.run.ohi, a.run.frz)) =
    [(5111808, 6422528, 6422528, false, false), (5242880, 6553600, 6553600, false, false), (5242880, 7864320, 6553600, true, true),
     (5177344, 4521984, 4521984, false, false)] := by decide +kernel

/-! ### Actuators and fans: the examples of R203 and R239 -/

theorem test_pwm : (pwmDuty 2457600, pwmHigh 24576 163840) = (24576, 61441) := by decide +kernel

theorem test_autonomous_duty : (setRegs live ([(40000, 25), (38000, 51), (36000, 76), (32768, 102), (29000, 153), (26000, 178), (23000, 204),
    (20000, 255)].zipIdx.map (fun p => (Reg.fanAutopt 6 p.2, p.1.1 + 65536 * p.1.2)))).fanAutoDuty 6 30000 = 139 := by decide +kernel

/-! ### Sensor buses: the example of poll 5 (R439) -/

theorem test_poll_raw : pollRaw 0x0113 [0x66, 0x1E, 0, 0x7A, 0xE1, 0] = 31457 := by decide +kernel

/-- START, the address with the write bit, the byte 0xA5, STOP, each byte followed by a clock for the acknowledge (R433). -/
theorem test_two_wire : twoWire 0x48 1 0 [0xA5] =
    [.start, .bit true, .bit false, .bit false, .bit true, .bit false, .bit false, .bit false, .bit false, .bit true,
     .bit true, .bit false, .bit true, .bit false, .bit false, .bit true, .bit false, .bit true, .bit true, .stop] := by decide +kernel

/-! ### The ladle: the table of R474 over the nine ASCII bytes "123456789" -/

def digits : List Byte := [0x31, 0x32, 0x33, 0x34, 0x35, 0x36, 0x37, 0x38, 0x39]

theorem test_checksums : [1, 2, 3].map (fun k => ckFinal k (ckRun k 0 (ckInit k) digits)) = [0xCBF43926, 0x29B1, 0x6C6A689F] := by decide +kernel

/-! ### The Knab store: the example of chapter 15 (counter 31 from 0x2FFFFFFFE, count 2) -/

theorem test_counter_carry : (((setMem live [(knabCtr 31, 0xFFFFFFFE), (knabCtr 31 + 4, 2), (knabCtr 31 + 8, 2)]).knabCtrAdd 31 2).knabCtrVal 31)
    = 0x300000000 := by decide +kernel

/-- The header of a store as delivered passes magic, version and CRC (R494, R507). -/
theorem test_header_as_delivered : State.reset.knabHeaderGood = true := by decide +kernel

/-- A commit that spoils the magic makes the header bad. -/
theorem test_header_spoilt : (setMem live [(knabPage 0, 0)]).knabHeaderGood = false := by decide +kernel

/-! ### RTC: the example of R532 (2024-02-28 to 29) -/

theorem test_leap_day : fieldsOf 762480000 = [0x00, 0x00, 0x00, 0x29, 4, 0x02, 0x24, 0x20] := by decide +kernel

theorem test_weekday_is_checked : (fieldsValid [0x59, 0x59, 0x23, 0x28, 3, 0x02, 0x24, 0x20], fieldsValid [0x59, 0x59, 0x23, 0x28, 4, 0x02, 0x24, 0x20])
    = (true, false) := by decide +kernel

/-! ### Thermal: the example of R585 (a failed cabinet fan) -/

theorem test_hottest_sensor : (match exec (.sensorConversion [1544, 1552, 1528, 1536, 1572, 1504, 1584, 1560]) live with
    | .next t => t.tj | _ => 0) = 1584 := by decide +kernel

theorem test_level_two : levelStep 0 1584 = 3 := by decide +kernel

/-! ### The fault log: the example of R614 (fan 6 of Hall 3) -/

theorem test_log_entry : LogRec.bytes { code := 0x0802, flags := 0x80, tick := 0x0A431C20, rtcsec := 762862500, param := 6 } 1209 false =
    [0x02, 0x08, 0x80, 0xB9, 0x20, 0x1C, 0x43, 0x0A, 0xA4, 0x5B, 0x78, 0x2D, 0x06, 0x00, 0x00, 0x00] := by decide +kernel

/-! ### AES-128-CMAC: the published example of an empty message (NIST SP 800-38B, as RFC 4493 prints it) -/

theorem test_cmac_of_nothing : aesCmac [0x2B, 0x7E, 0x15, 0x16, 0x28, 0xAE, 0xD2, 0xA6, 0xAB, 0xF7, 0x15, 0x88, 0x09, 0xCF, 0x4F, 0x3C] [] =
    [0xBB, 0x1D, 0x69, 0x29, 0xE9, 0x59, 0x37, 0x28, 0x7F, 0xA3, 0x7D, 0x12, 0x9B, 0x75, 0x67, 0x46] := by decide +kernel

/-! ### SHA-512: the published example of "abc" (FIPS 180-4), first eight bytes -/

theorem test_sha512_of_abc : slice (sha512 [0x61, 0x62, 0x63]) 0 8 = [0xDD, 0xAF, 0x35, 0xA1, 0x93, 0x61, 0x7A, 0xBA] := by decide +kernel

end Sys2Proof.Tests
end

