-- ==== Sys2Proof/Tests/WitnessA.lean ====
section
/-! SUPPORT. Witnesses for chapters 00 to 07 (whole-block statements, conversions, control, actuators, fans): witness_<Statement>_<k> shows a state and operands that meet all hypotheses of
clause k of the statement at once. Clauses are counted from 0 in the order of the text; one whose hypotheses are among those of another has no witness of its own. -/

set_option linter.unusedVariables false
set_option Elab.async false

namespace Sys2Proof.Tests
open Sys2Proof Sys2Proof.Machine

namespace Core

theorem witness_BaseTickCounts_0 : ∃ s : State, (s.awake = true) ∧ (s.tb.running = true) ∧ (s.chillNow = false ∨ s.chillWaits = false) ∧ (s.twn.reload = none) :=
  ⟨full, by decide +kernel⟩
theorem witness_BaseTickCounts_1 : ∃ (s : State) (c : Nat), (s.awake = true) ∧ (s.tb.running = true) ∧ (s.chillNow = false ∨ s.chillWaits = false) ∧ (s.twn.reload = some c) :=
  ⟨{ full with twn := { full.twn with reload := some 77 } }, 77, by decide +kernel⟩
theorem witness_BaseTickCounts_2 : ∃ s : State, (s.awake = true) ∧ (s.tb.running = false ∨ (s.chillNow = true ∧ s.chillWaits = true)) :=
  ⟨{ full with tb := { full.tb with running := false } }, by decide +kernel⟩
theorem witness_BaseTickCounts_3 : ∃ s : State, (s.asleep = true) ∧ (s.pwr.good = true) ∧ (s.pwr.held = none) :=
  ⟨asleep_, by decide +kernel⟩
theorem witness_CrystalAndTboSupervision_0 : ∃ s : State, (s.awake = true) ∧ (s.tb.running = true) ∧ (s.tb.onTable = false) :=
  ⟨{ full with twn := { full.twn with reload := some 77 } }, by decide +kernel⟩
theorem witness_CrystalAndTboSupervision_1 : ∃ s : State, (s.pwr.held = some 6) ∧ (s.pwr.nrstLow = true) :=
  ⟨pw held6 (fun p => { p with nrstLow := true }), by decide +kernel⟩
theorem witness_CrystalAndTboSupervision_2 : ∃ s : State, (s.pwr.held = some 6) ∧ (s.pwr.nrstLow = false) :=
  ⟨held6, by decide +kernel⟩
theorem witness_CrystalAndTboSupervision_3 : ∃ s : State, (s.awake = true) ∧ (s.tb.xtalOk = true) ∧ (s.rb Reg.tboStat 0 = false) :=
  ⟨{ full with twn := { full.twn with reload := some 77 } }, by decide +kernel⟩
def op (s : State) (m : Nat) : State := odg s (fun o => { o with ownPending := some m })
def b0 : State := setRegs { full with tb := { full.tb with count := 12000000 } } [(Reg.cenPeriod 0, 4), (Reg.kpdCfg, 0x33), (Reg.actnFb 3, 5), (Reg.sysOwn, 2048)]
theorem witness_OwnershipHandover_0 : ∃ (s : State) (m : Nat), (s.atBoundary0 = true) ∧ (s.od.ownPending = some m) ∧ ((∀ n ∈ ownable, s.hostOwns n = true → m.testBit n = true)) ∧ ((m.testBit 5 = true → s.hostOwns 5 = true)) :=
  ⟨op b0 0x800, 2048, by decide +kernel⟩
theorem witness_OwnershipHandover_1 : ∃ (s : State) (n : Nat), (n ∈ ownable) ∧ (s.atBoundary0 = true) ∧ (s.od.ownPending = some 0) ∧ (s.reg Reg.sysOwn = BitVec.ofNat 32 (2 ^ n)) :=
  ⟨op (setRegs b0 [(Reg.sysOwn, 0x200)]) 0, 9, by decide +kernel⟩
theorem witness_OwnershipHandover_2 : ∃ s : State, (s.od.ownPending = none) :=
  ⟨b0, by decide +kernel⟩
def q (s : State) : State := setRegs (setMem s [(acqStatus 3, 0x00770012), (acqPv 3, 5), (acqSum 3, 5), (acqSum 3 + 4, 2)]) [(Reg.acqPasscnt, 3)]
theorem witness_AcqStartAndStop_0 : ∃ (who : Init) (s : State), ((who = .host → s.hostOwns 6 = true)) ∧ (s.rb Reg.acqCtrl 0 = false) :=
  ⟨.runtime, q full, by decide +kernel⟩
theorem witness_AcqStartAndStop_1 : ∃ (who : Init) (s : State), ((who = .host → s.hostOwns 6 = true)) ∧ (s.rb Reg.acqCtrl 0 = true) :=
  ⟨.runtime, setRegs (q full) [(Reg.acqCtrl, 1)], by decide +kernel⟩
def ps (s : State) : State := setRegs (sg s (fun a => { a with phase := .passPending, keepBase := false, base := 2, anyCount := 7 })) [(Reg.acqSeqLen, 2), (Reg.acqSeqW0 0, 0x10000205), (Reg.acqSeqW1 0, 0x00061003), (Reg.acqSeqW0 1, 0x00000005), (Reg.acqSeqW1 1, 0x00067003)]
theorem witness_PassesEntriesAndSamples_0 : ∃ s : State, (s.awake = true) ∧ (s.acq.phase = .passPending) ∧ (s.passReady = true) ∧ (s.acq.guardDue = []) ∧ (State.acqSkips { s with acq := { s.acq with diff := s.reg Reg.acqDiff } } (s.acqEntryOf 0) = false) :=
  ⟨ps full, by decide +kernel⟩
theorem witness_PassesEntriesAndSamples_1 : ∃ s : State, (s.awake = true) ∧ (s.acq.phase = .entryPending) ∧ (s.acq.readyAt ≤ s.now) ∧ (s.acq.guardDue = []) ∧ (s.acq.entry + 1 < s.acq.len) ∧ (s.acqSkips (s.acqEntryOf (s.acq.entry + 1)) = false) :=
  ⟨sg (ps full) (fun a => { a with phase := .entryPending, entry := 0, len := 2 }), by decide +kernel⟩
theorem witness_PassesEntriesAndSamples_2 : ∃ (code : Int) (s : State), (s.awake = true) ∧ (s.acq.phase = .inEntry) ∧ (s.acq.sampled < s.acq.cur.rep) ∧ (s.acq.guardDue = []) ∧ ((∀ c ∈ s.acq.inflight, c.slice ≠ (match s.acq.cur.slice with | some n => n | none => (s.acq.base + s.acq.anyCount) % s.nSlices))) :=
  ⟨0, sg (ps full) (fun a => { a with phase := .inEntry, cur := { chan := 5, rep := 3 } }), by decide +kernel⟩
def sl (s : State) (n : Nat) (v : SliceSt) : State := s.setSlice n v
theorem witness_EstimatorAndStaleSlices_0 : ∃ (n : Nat) (code : Int) (s : State), (s.awake = true) ∧ (n < s.nSlices) ∧ (s.sliceFree n = true) ∧ ((if s.rb Reg.acqCal 8 then 64 else 65536) ≤ (s.sliceOf n).others) ∧ ((s.sliceOf n).ref85 = none) :=
  ⟨1, 0, sl full 1 { others := 65536 }, by decide +kernel⟩
theorem witness_EstimatorAndStaleSlices_1 : ∃ (n : Nat) (code x : Int) (s : State), (s.awake = true) ∧ (n < s.nSlices) ∧ (s.sliceFree n = true) ∧ ((if s.rb Reg.acqCal 8 then 64 else 65536) ≤ (s.sliceOf n).others) ∧ ((s.sliceOf n).ref85 = some x) :=
  ⟨1, 0, 31000, sl full 1 { others := 65536, ref85 := some 31000 }, by decide +kernel⟩
theorem witness_EstimatorAndStaleSlices_2 : ∃ (n : Nat) (s : State), (n < s.nSlices) ∧ (s.rf (Reg.acqSliceNopair n) 0 21 = 1048576) ∧ (s.rb Reg.acqCal n = false) :=
  ⟨2, setRegs full [(Reg.acqSliceNopair 2, 1048576)], by decide +kernel⟩
theorem witness_EstimatorAndStaleSlices_3 : ∃ (n : Nat) (s : State), (n < s.nSlices) ∧ (s.rb Reg.acqCal n = true) ∧ (1024 ≤ (s.sliceOf n).stalePairs) :=
  ⟨2, setRegs (sl full 2 { stalePairs := 1024 }) [(Reg.acqCal, 0x104)], by decide +kernel⟩
theorem witness_EstimatorAndStaleSlices_4 : ∃ (who : Init) (n : Nat) (skew : Bool) (v : Word) (s : State), (n < s.nSlices) ∧ ((who = .host → s.hostOwns 6 = true)) :=
  ⟨.runtime, 0, false, 0, sl full 1 { others := 65536 }, by decide +kernel⟩
theorem witness_StepRunsFrontCommand_0 : ∃ (c : Instr) (s : State) (rest : List Instr), (s.pending = c :: rest) :=
  ⟨.baseTick, { live with pending := [.baseTick] }, [], rfl⟩
theorem witness_StepRunsFrontCommand_1 : ∃ s : State, (s.pending = []) :=
  ⟨live, rfl⟩
theorem witness_EveryStepKeepsSoundness_0 : ∃ s t : State, (s.sound = true) ∧ (step s = .next t) :=
  ⟨{ live with pending := [.tboRange] }, _, by decide +kernel, rfl⟩
theorem witness_CommandsKeepQueueVariantFuses_0 : ∃ (c : Instr) (s t : State), (exec c s = .next t) :=
  ⟨.tboRange, live, _, rfl⟩
theorem witness_CalendarRoundTrip_0 : ∃ n, (n ≤ rtcLastSec) :=
  ⟨rtcLastSec, by decide +kernel⟩
theorem witness_CalendarRoundTrip_2 : ∃ f : List Nat, (f.length = 8) ∧ (fieldsValid f = true) :=
  ⟨[0x59, 0x59, 0x23, 0x29, 4, 0x02, 0x24, 0x20], by decide +kernel⟩

end Core

namespace Conversions

def acq0 : State := setRegs full [(Reg.acqSliceCorr 0, 0x80000000), (Reg.acqSliceCorr 1, 0x80010010), (Reg.acqSliceCorr 2, 0x90000000), (Reg.fanfAutoch 0, 0x8180)]
def cv (c : AcqConv) (s : State := acq0) : State := sg s (fun a => { a with inflight := [c], phase := .inEntry, cur := { a.cur with rep := 4, post := 3 }, completed := 1, len := 2 })
theorem witness_ConversionsAndProcessValues_0 : ∃ (c : AcqConv) (rest : List AcqConv) (s : State), 
    let unwatched := fun (s : State) (ch : Nat) => (∀ f, f < 16 → s.rf (Reg.fanfAutoch f) 0 7 ≠ ch) ∧ ∀ j, j < 4 → s.rf Reg.fanShdnSel (8 * j) 7 ≠ ch
    (s.awake = true) ∧ (s.acq.inflight = c :: rest) ∧ (c.chan < 88) ∧ (c.slice < 4) ∧ (unwatched s c.chan) ∧ ((s.chan c.chan).slice = none ∨ (s.chan c.chan).slice = some c.slice) ∧ (c.dtgt < 88) ∧ ((s.dec c.dtgt).mode ≠ some (!c.diff)) ∧ 
    let here := s.acq.phase = .inEntry ∧ c.live = true
    (¬(here ∧ s.acq.completed + 1 = s.acq.cur.rep)) :=
  ⟨(cv { code := 1234, chan := 5, dtgt := 6 }).acq.inflight.headD {}, (cv { code := 1234, chan := 5, dtgt := 6 }).acq.inflight.tail, cv { code := 1234, chan := 5, dtgt := 6 }, by dsimp only; decide +kernel⟩
theorem witness_ConversionsAndProcessValues_1 : ∃ (c : AcqConv) (rest : List AcqConv) (s : State), 
    let unwatched := fun (s : State) (ch : Nat) => (∀ f, f < 16 → s.rf (Reg.fanfAutoch f) 0 7 ≠ ch) ∧ ∀ j, j < 4 → s.rf Reg.fanShdnSel (8 * j) 7 ≠ ch
    (s.awake = true) ∧ (s.acq.inflight = c :: rest) ∧ (c.chan < 88) ∧ (c.slice < 4) ∧ (unwatched s c.chan) ∧ ((s.chan c.chan).slice = none ∨ (s.chan c.chan).slice = some c.slice) ∧ (c.dtgt < 88) ∧ ((s.dec c.dtgt).mode ≠ some (!c.diff)) ∧ 
    let here := s.acq.phase = .inEntry ∧ c.live = true
    (here) ∧ (s.acq.completed + 1 = s.acq.cur.rep) ∧ (s.acq.entry + 1 < s.acq.len) :=
  ⟨(sg (cv { code := 7, chan := 87, dtgt := 0 }) (fun a => { a with completed := 3 })).acq.inflight.headD {}, (sg (cv { code := 7, chan := 87, dtgt := 0 }) (fun a => { a with completed := 3 })).acq.inflight.tail, sg (cv { code := 7, chan := 87, dtgt := 0 }) (fun a => { a with completed := 3 }), by dsimp only; decide +kernel⟩
theorem witness_ConversionsAndProcessValues_2 : ∃ (c : AcqConv) (rest : List AcqConv) (s : State), 
    let unwatched := fun (s : State) (ch : Nat) => (∀ f, f < 16 → s.rf (Reg.fanfAutoch f) 0 7 ≠ ch) ∧ ∀ j, j < 4 → s.rf Reg.fanShdnSel (8 * j) 7 ≠ ch
    (s.awake = true) ∧ (s.acq.inflight = c :: rest) ∧ (c.chan < 88) ∧ (c.slice < 4) ∧ (unwatched s c.chan) ∧ ((s.chan c.chan).slice = none ∨ (s.chan c.chan).slice = some c.slice) ∧ (c.dtgt < 88) ∧ ((s.dec c.dtgt).mode ≠ some (!c.diff)) ∧ 
    let here := s.acq.phase = .inEntry ∧ c.live = true
    (here) ∧ (s.acq.completed + 1 = s.acq.cur.rep) ∧ (s.acq.len ≤ s.acq.entry + 1) :=
  ⟨(sg (cv { code := 7, chan := 87, dtgt := 0 }) (fun a => { a with completed := 3, entry := 1 })).acq.inflight.headD {}, (sg (cv { code := 7, chan := 87, dtgt := 0 }) (fun a => { a with completed := 3, entry := 1 })).acq.inflight.tail, sg (cv { code := 7, chan := 87, dtgt := 0 }) (fun a => { a with completed := 3, entry := 1 }), by dsimp only; decide +kernel⟩
theorem witness_ConversionsAndProcessValues_3 : ∃ (ch n : Nat) (rest : List Nat) (code : Int) (s : State), 
    let unwatched := fun (s : State) (ch : Nat) => (∀ f, f < 16 → s.rf (Reg.fanfAutoch f) 0 7 ≠ ch) ∧ ∀ j, j < 4 → s.rf Reg.fanShdnSel (8 * j) 7 ≠ ch
    (s.awake = true) ∧ (s.acq.guardDue = ch :: rest) ∧ (s.acq.guardBusy = []) ∧ (ch < 88) ∧ (unwatched s ch) ∧ (n < s.nSlices) ∧ ((∀ c ∈ s.acq.inflight, c.slice ≠ n)) ∧ ((∀ m, m < n → ∃ c ∈ s.acq.inflight, c.slice = m)) ∧ ((s.chan ch).slice = none ∨ (s.chan ch).slice = some n) :=
  ⟨1, 0, (sg acq0 (fun a => { a with guardDue := [1, 4] })).acq.guardDue.tail, 0, sg acq0 (fun a => { a with guardDue := [1, 4] }), by dsimp only; decide +kernel⟩
def r5 : DecResult := { d := 5, sum := 12800, n := 4, diff := false, clip := false, stamp := 99, cfg := [0, 0x00010000, 100, 0, 0, 0, 0] }
def up (l : List DecResult) (s : State := setRegs acq0 [(Reg.acqPasscnt, 0x12345), (Reg.acqLin 0 0, 7)]) : State := sg s (fun a => { a with update := some l })
def stat (s : State) (n : Nat) (v : DecSt) : State := (setMem s [(acqStatus 5, 0x100000 * n), (acqStatus 9, 0x00130044), (acqPv 9, 5)]).setDec 5 v
def v : DecSt := { first := false }
theorem witness_ConversionsAndProcessValues_4 : ∃ (rs : List DecResult) (s : State), (s.awake = true) ∧ (s.acq.update = some rs) ∧ ((rs.map DecResult.d).Nodup) ∧ ((∀ r ∈ rs, r.d < 88 ∧ 0 < r.n ∧ r.clip = false ∧ r.cfg.length = 7 ∧ s.refFed r.d = false)) ∧ ((∀ p, p < 128 → s.rf (Reg.zonPinCfg p) 0 3 ≠ 1 ∧ s.rf (Reg.zonPinCfg p) 0 3 ≠ 2)) ∧ ((∀ n, n < 32 → s.rb (Reg.actnFb n) 7 = false ∧ s.rb (Reg.actnFb n) 8 = false)) ∧ ((∀ f, f < 16 → ∀ r ∈ rs, r.d ≠ 64 + f)) ∧ ((∀ r ∈ rs, fld (r.cfg.getD 0 0) 5 2 = 0 ∨ fld (r.cfg.getD 0 0) 5 2 = 3)) :=
  ⟨((stat (up [r5]) 1 v).acq.update.getD []), stat (up [r5]) 1 v, by decide +kernel⟩
def rwd (persist : Nat) (lo hi : Int) : DecResult := { d := 5, sum := 12800, n := 4, diff := false, clip := false, stamp := 99, cfg := [BitVec.ofNat 32 (0x20 + 256*persist), 0x00010000, 0, BitVec.ofInt 32 lo, 0, BitVec.ofInt 32 hi, 10] }
theorem witness_ConversionsAndProcessValues_5 : ∃ (rs : List DecResult) (s : State), ∃ (r : DecResult) (new : Nat), (s.awake = true) ∧ (s.acq.update = some rs) ∧ ((rs.map DecResult.d).Nodup) ∧ ((∀ r ∈ rs, r.d < 88 ∧ 0 < r.n ∧ r.clip = false ∧ r.cfg.length = 7 ∧ s.refFed r.d = false)) ∧ ((∀ p, p < 128 → s.rf (Reg.zonPinCfg p) 0 3 ≠ 1 ∧ s.rf (Reg.zonPinCfg p) 0 3 ≠ 2)) ∧ ((∀ n, n < 32 → s.rb (Reg.actnFb n) 7 = false ∧ s.rb (Reg.actnFb n) 8 = false)) ∧ ((∀ f, f < 16 → ∀ r ∈ rs, r.d ≠ 64 + f)) ∧ 
    let pv := fun (r : DecResult) =>
      let mc := Int.fdiv (r.sum * 65536 + (r.n / 2 : Nat)) r.n
      if fld (r.cfg.getD 0 0) 0 2 = 1 then s.scalePv (r.cfg.getD 0 0) (r.cfg.getD 1 0) (r.cfg.getD 2 0) mc r.diff
      else max (-2147483648) (min 2147483647 (Int.fdiv ((r.cfg.getD 1 0).toInt * mc + 2147483648) 4294967296 + (r.cfg.getD 2 0).toInt))
    (rs = [r]) ∧ (fld (r.cfg.getD 0 0) 5 2 = 1) ∧ ((s.dec r.d).first = false) ∧ (s.ringFits 4 8) ∧ (s.ringBelow 4 0x70000000) ∧ 
    let lo := (r.cfg.getD 3 0).toInt
    let hi := (r.cfg.getD 5 0).toInt
    let h := (r.cfg.getD 6 0).toInt
    let old := s.cmpState r.d
    (new = (if pv r < lo then 0 else if pv r ≤ hi then 1 else 2)) ∧ (old ≤ 2) ∧ (new ≠ old) ∧ ((if old = 0 then lo + h ≤ pv r else if old = 1 then pv r < lo - h ∨ hi + h < pv r else pv r ≤ hi - h)) ∧ (max 1 (fld (r.cfg.getD 0 0) 8 4) ≤ (if (s.dec r.d).candN ≠ 0 ∧ (s.dec r.d).cand = new then (s.dec r.d).candN + 1 else 1)) :=
  ⟨((stat (up [rwd 0 0 3000]) 1 v).acq.update.getD []), stat (up [rwd 0 0 3000]) 1 v, (((stat (up [rwd 0 0 3000]) 1 v).acq.update.getD []).head (by decide +kernel)), 2, by dsimp only; decide +kernel⟩
theorem witness_ConversionsAndProcessValues_9 : ∃ s : State, (s.acq.inflight = []) :=
  ⟨acq0, by decide +kernel⟩
theorem witness_ConversionsAndProcessValues_10 : ∃ s : State, (s.acq.update = none) :=
  ⟨acq0, by decide +kernel⟩
theorem witness_ConversionsAndProcessValues_11 : ∃ s : State, (s.acq.guardDue = []) :=
  ⟨acq0, by decide +kernel⟩
theorem witness_ConversionsAndProcessValues_6 : ∃ s : State, (s.awake = false) :=
  ⟨{ live with pwr := { live.pwr with good := false } }, by decide +kernel⟩

end Conversions

namespace DieSensors

theorem witness_DieSensorsAndTboTrim_0 : ∃ (l : List Int) (tj : Int) (s : State), 
    let calm := fun (s : State) => s.awake = true ∧ s.ringFits 24 8 ∧ s.rf Reg.thmExcl 0 8 = 0 ∧ s.rb Reg.thmStat 4 = false ∧
    s.thm.disagree.length = 8 ∧ s.thm.agree.length = 8
    (calm s) ∧ (l.length = 8) ∧ ((∀ x ∈ l, -2048 ≤ x ∧ x ≤ 2040)) ∧ ((∀ x ∈ l, ∀ y ∈ l, x - y ≤ 64)) ∧ (tj ∈ l) ∧ ((∀ x ∈ l, x ≤ tj)) ∧ (tj < 1920 ∨ s.thm.hot = 0) :=
  ⟨[400,400,410,464,400,430,401,402], 464, full, by dsimp only; decide +kernel⟩
def th (s : State) (f : ThmSt → ThmSt) : State := { s with thm := f s.thm }
theorem witness_DieSensorsAndTboTrim_1 : ∃ (l : List Int) (tj : Int) (s : State), 
    let calm := fun (s : State) => s.awake = true ∧ s.ringFits 24 8 ∧ s.rf Reg.thmExcl 0 8 = 0 ∧ s.rb Reg.thmStat 4 = false ∧
    s.thm.disagree.length = 8 ∧ s.thm.agree.length = 8
    (calm s) ∧ (l.length = 8) ∧ ((∀ x ∈ l, -2048 ≤ x ∧ x ≤ 2040)) ∧ ((∀ x ∈ l, ∀ y ∈ l, x - y ≤ 64)) ∧ (tj ∈ l) ∧ ((∀ x ∈ l, x ≤ tj)) ∧ (1920 ≤ tj) ∧ (1 ≤ s.thm.hot) :=
  ⟨[1920,1900,1900,1900,1900,1900,1900,1900], 1920, th full (fun t => { t with hot := 1 }), by dsimp only; decide +kernel⟩
theorem witness_DieSensorsAndTboTrim_2 : ∃ (l : List Int) (r : Int) (k : Nat) (s : State), 
    let calm := fun (s : State) => s.awake = true ∧ s.ringFits 24 8 ∧ s.rf Reg.thmExcl 0 8 = 0 ∧ s.rb Reg.thmStat 4 = false ∧
    s.thm.disagree.length = 8 ∧ s.thm.agree.length = 8
    let level := fun (old : Nat) (tj : Int) =>
    let up := ((List.range 8).filter (fun (n : Nat) => decide (16 * (95 + 2 * (n : Int)) ≤ tj))).length
    let hold := ((List.range 8).filter (fun (n : Nat) => decide (16 * (94 + 2 * (n : Int)) ≤ tj))).length
    if old < up then up else min old hold
    let shown := fun (t : State) => if t.rb Reg.thmStat 3 then t.rf Reg.thmStat 0 3 + 1 else 0
    (calm s) ∧ (l.length = 8) ∧ (k < 8) ∧ (-640 ≤ r ∧ r < 1500) ∧ ((∀ n, n < 8 → n ≠ k → l.getD n 0 = r)) ∧ (-2048 ≤ l.getD k 0 ∧ l.getD k 0 ≤ 2040) ∧ (128 < (l.getD k 0 - r).natAbs) ∧ (s.thm.disagree.getD k 0 = 2) ∧ (level (shown s) r = shown s) :=
  ⟨[400,400,400,400,600,400,400,400], 400, 4, th full (fun t => { t with disagree := [0,2,0,0,2,0,0,2], agree := [5,5,5,5,5,5,5,5] }), by dsimp only; decide +kernel⟩
theorem witness_DieSensorsAndTboTrim_3 : ∃ (l : List Int) (s : State), (s.awake = false) :=
  ⟨[400,400,410,464,400,430,401,402], { full with pwr := { full.pwr with held := some 2 } }, by decide +kernel⟩
theorem witness_DieSensorsAndTboTrim_4 : ∃ (count : Nat) (s : State), (s.tb.xtalOk = true) ∧ (s.awake = true) :=
  ⟨0, full, by decide +kernel⟩
theorem witness_DieSensorsAndTboTrim_5 : ∃ (count : Nat) (s : State), (s.tb.xtalOk = false ∨ s.awake = false) :=
  ⟨0, { full with pwr := { full.pwr with held := some 2 } }, by decide +kernel⟩

end DieSensors

namespace Control

theorem witness_ControlEngineRunAndPeriods_0 : ∃ (who : Init) (s : State), ((who = .host → s.hostOwns 7 = true)) ∧ (s.rb Reg.cenCtrl 0 = false) :=
  ⟨.runtime, full, by decide +kernel⟩
def per (s : State) : State := setRegs s [(Reg.cenPeriod 0, 4), (Reg.cenPeriod 1, 40), (Reg.cenPeriod 2, 400), (Reg.cenPeriod 3, 4000)]
def slot (n cls : Nat) (s : State) : State := coef (own s 7) n [(0, cls + 4 + 32 + 0x1000), (4, 0x500), (0xC, 5), (0x10, 0x01), (0x14, 0x10000), (0x58, 0), (0x5C, 0x640000), (0x60, 0), (0x64, 0x640000)]
def c1 : State := slot 3 0 (slot 5 0 (per full))
def run (s : State) : State := setRegs s [(Reg.cenCtrl, 1)]
theorem witness_ControlEngineRunAndPeriods_1 : ∃ (who : Init) (s : State), ((who = .host → s.hostOwns 7 = true)) ∧ (s.rb Reg.cenCtrl 0 = true) :=
  ⟨.runtime, run c1, by decide +kernel⟩
theorem witness_ControlEngineRunAndPeriods_2 : ∃ (who : Init) (s : State), ((who = .host → s.hostOwns 7 = true)) ∧ ((∀ k, k < 4 → s.period k ≠ 0)) :=
  ⟨.runtime, full, by decide +kernel⟩
theorem witness_ControlEngineRunAndPeriods_3 : ∃ (who : Init) (k : Nat) (v : Word) (s : State), (k < 4) ∧ ((who = .host → s.hostOwns 7 = true)) :=
  ⟨.runtime, 0, 0, full, by decide +kernel⟩
def fr (s : State) (l : List FrameSt) : State := cg s (fun c => { c with frames := l })
def e1 : State := run (fr c1 [{ busy := true, todo := [3, 5], tick := 7 }, {}, {}, {}])
theorem witness_SlotEvaluationWritesItsState_0 : ∃ (s : State) (k n m : Nat) (rest : List Nat), (s.awake = true) ∧ (s.rb Reg.cenCtrl 0 = true) ∧ (s.isTwin = false) ∧ (k < 4) ∧ (s.cen.frames.length = 4) ∧ ((∀ j, j < k → (s.frame j).busy = false)) ∧ ((s.frame k).busy = true) ∧ ((s.frame k).todo = n :: m :: rest) ∧ (n < s.nSlots) ∧ ((∀ c, c < 4 → s.trcState c = 0 ∨ s.trcState c = 3)) ∧ (s.slotOn n = true) ∧ ((s.evalInput (s.frame k) n).2 = false) ∧ ((s.destination (s.coef n 8)).2 = false) ∧ (s.twn.grafts = []) :=
  ⟨e1, 0, 3, 5, [], by decide +kernel⟩
theorem witness_EvaluationKeepsItsLimits_0 : ∃ a : EvalInput, (a.c 0x60 ≤ a.c 0x64) :=
  ⟨{ coef := (List.replicate 32 0), taps := [], sp := 0, i := 0, es := [], ys := [] }, by decide +kernel⟩
theorem witness_EvaluationKeepsItsLimits_2 : ∃ a : EvalInput, (a.c 0x64 < a.c 0x60) :=
  ⟨{ coef := (List.replicate 32 0).set 24 5, taps := [], sp := 0, i := 0, es := [], ys := [] }, by decide +kernel⟩
theorem witness_EvaluationKeepsItsLimits_3 : ∃ a : EvalInput, (bitOf a.cfg 5 = false) :=
  ⟨{ coef := (List.replicate 32 0), taps := [], sp := 0, i := 0, es := [], ys := [] }, by decide +kernel⟩
theorem witness_EvaluationKeepsItsLimits_5 : ∃ a : EvalInput, (bitOf a.cfg 5 = true) ∧ (a.c 0x58 ≤ a.c 0x5C) :=
  ⟨{ coef := (List.replicate 32 0).set 0 32, taps := [], sp := 0, i := 0, es := [], ys := [] }, by decide +kernel⟩
theorem witness_EvaluationKeepsItsLimits_7 : ∃ a : EvalInput, (a.run.frz = true) :=
  ⟨(fun k : Nat => ({ coef := (List.range 32).map (fun (i : Nat) => (BitVec.ofNat 32 ((k * 2654435761 + i * 40503 * (k+7)) * (if i = 0 then 1 else 65537)) : Word)), taps := [k, -k, 7, 2^31-1], sp := k * 12345, i := (k : Int) * 99991 - 5000000, es := [5, -(2^31), 8], ys := [2^31-1, 7, k] } : EvalInput)) 1, by decide +kernel⟩
def bd (s : State) : State := setRegs { s with tb := { s.tb with count := 12000001 } } [(Reg.cenPeriod 0, 3), (Reg.cenPeriod 1, 30), (Reg.cenPeriod 2, 300), (Reg.cenPeriod 3, 3000)]
def b1 := { run (bd c1) with tb := { full.tb with count := 12000003 } }
theorem witness_BoundaryCommitsAndOverrun_0 : ∃ (s : State) (n : Nat), (s.boundaryDue = true) ∧ (s.shakeStep = 12) ∧ (s.isTwin = false) ∧ (s.rb Reg.cenCtrl 0 = true) ∧ (s.startingClasses = [0]) ∧ (s.od.ownPending = none) ∧ (s.od.startup = none) ∧ ((∀ f ∈ fnAll, (s.fn f).state ≠ 3 ∧ (s.fn f).ready = false)) ∧ (s.pwr.wakeTicks = none) ∧ (s.cen.frames.length = 4) ∧ ((s.frame 0).busy = false) ∧ ((s.frame 0).ready = true) ∧ ((s.frame 0).evald = [n]) ∧ (s.slotPend n = true) ∧ (s.slotRuns n = true) ∧ (s.slotClass n = 0) ∧ (fld (recGet 0 (s.frame 0).dests n) 0 3 = 0) ∧ (s.act.tickDue = false) :=
  ⟨fr (setMem b1 [(slotState 3 + 0x30, 0x20), (slotState 3 + 4, 77)]) [{ ready := true, evald := [3] }, {}, {}, {}], 3, by decide +kernel⟩
theorem witness_BoundaryCommitsAndOverrun_1 : ∃ s : State, (s.boundaryDue = true) ∧ (s.shakeStep = 12) ∧ (s.isTwin = false) ∧ (s.rb Reg.cenCtrl 0 = true) ∧ (s.startingClasses = [0]) ∧ (s.od.ownPending = none) ∧ (s.od.startup = none) ∧ ((∀ f ∈ fnAll, (s.fn f).state ≠ 3 ∧ (s.fn f).ready = false)) ∧ (s.pwr.wakeTicks = none) ∧ (s.cen.frames.length = 4) ∧ ((s.frame 0).busy = true) ∧ ((s.frame 0).todo ≠ []) ∧ (s.act.tickDue = false) :=
  ⟨fr b1 [{ busy := true, todo := [3] }, {}, {}, {}], by decide +kernel⟩
theorem witness_TraceChannels_3 : ∃ (who : Init) (c : Nat) (s : State), ∃ (i : Nat) (v : Word), (c < s.nTraces) ∧ ((who = .host → s.hostOwns 7 = true)) ∧ (i < 3) :=
  ⟨.runtime, 0, full, 0, 0, by decide +kernel⟩
theorem witness_SetpointStepIsExact_0 : ∃ (sp tgt rate : Int) (den n2 acc : Nat), (0 ≤ rate) ∧ (0 < den) ∧ (rate = 0 ∨ sp = tgt) :=
  ⟨0, 0, 0, 1, 0, 0, by decide +kernel⟩
theorem witness_SetpointStepIsExact_1 : ∃ (sp tgt rate : Int) (den n2 acc : Nat), (0 ≤ rate) ∧ (0 < den) ∧ (rate ≠ 0) ∧ (sp ≠ tgt) :=
  ⟨0, 1, 1, 1, 0, 0, by decide +kernel⟩
def z0 : State := fnr { full with zon := { full.zon with due := true, hits := [3, 5] } } 0x102
theorem witness_ZoneStepDecidesPresenceAndMode_0 : ∃ (s : State) (z : Nat), (s.zon.due = true) ∧ (s.runtimeRuns = true) ∧ (s.isTwin = false) ∧ (s.zon.schedDue = false) ∧ (s.zon.chillSecs = none) ∧ (z < s.nZones) ∧ ((List.range s.nZones).filter s.zoneRuns = [z]) ∧ ((∀ f, f < s.nFans → s.fnRuns (0x1A0 + f) = false)) ∧ ((∀ p, p < 128 → s.odNat 0x1A p 0 % 8 ≠ 5)) :=
  ⟨z0, 2, by decide +kernel⟩
theorem witness_ScheduleEvaluation_0 : ∃ s : State, (s.runtimeRuns = true) ∧ (s.isActive = true) ∧ (s.rtcRuns = true) :=
  ⟨full, by decide +kernel⟩
theorem witness_ScheduleEvaluation_1 : ∃ s : State, (s.rtcRuns = false) :=
  ⟨setRegs full [(Reg.rtcCtrl, 9)], by decide +kernel⟩

end Control

namespace Actuators

theorem witness_ActuatorRegisterWrites_0 : ∃ (who : Init) (v : Word) (s : State), ((who = .host → s.hostOwns 9 = true)) :=
  ⟨.runtime, 0, full, by decide +kernel⟩
theorem witness_ActuatorRegisterWrites_2 : ∃ (who : Init) (n off : Nat) (v : Word) (s : State), (n < s.nActs) ∧ ((who = .host → s.hostOwns 9 = true)) :=
  ⟨.runtime, 0, 0, 0, full, by decide +kernel⟩
def arun (s : State) (n m : Nat) : State := setRegs s [(Reg.actRun, 2^n), (Reg.actnCfg n, m), (Reg.actnP1 n, 40), (Reg.actnP2 n, 1000)]
def c (s : State) (v : ActCh) (m : Nat := 3) : State := arun (actc s 2 v) 2 m
theorem witness_ActuatorPulses_0 : ∃ (n : Nat) (s : State), (n < s.nActs) ∧ (s.actOn = true) ∧ (s.actMode n = 1) ∧ ((s.act1 n).safe = false) ∧ ((s.act1 n).chill = false) :=
  ⟨2, (c full { safe := false, cmd := 3276800 } 1).actLatch 2, by decide +kernel⟩
theorem witness_ActuatorPulses_1 : ∃ (n e : Nat) (up : Bool) (s : State), (n < s.nActs) ∧ (s.actOn = true) ∧ (s.actMode n = 3) ∧ (s.actDriven n = true) ∧ ((s.act1 n).step ≠ s.stepTarget n) ∧ (up = decide ((s.act1 n).step < s.stepTarget n)) ∧ (e = (match if (s.act1 n).pinB = up then (s.act1 n).dirAt else some (s.stepFree n) with
      | some d => max (s.stepFree n) (d + max (s.stepEvery n) 328)
      | none => s.stepFree n)) ∧ (4096 * s.now + 4096 ≤ e) :=
  ⟨2, 4096409600, true, (c full { safe := false, cmd := 6553600 }).actLatch 2, by decide +kernel⟩
theorem witness_ActuatorPulses_2 : ∃ (n e : Nat) (up : Bool) (s : State), (n < s.nActs) ∧ (s.actOn = true) ∧ (s.actMode n = 3) ∧ (s.actDriven n = true) ∧ ((s.act1 n).step ≠ s.stepTarget n) ∧ (s.ringFits 21 8) ∧ (up = decide ((s.act1 n).step < s.stepTarget n)) ∧ (e = (match if (s.act1 n).pinB = up then (s.act1 n).dirAt else some (s.stepFree n) with
      | some d => max (s.stepFree n) (d + max (s.stepEvery n) 328)
      | none => s.stepFree n)) ∧ (e < 4096 * s.now + 4096) :=
  ⟨2, 4096000000, false, (setRegs (c full { safe := false, cmd := 0, step := 1, dir := some false }) [(Reg.actnCfg 2, 0x3)]).actLatch 2, by decide +kernel⟩
def fl (v : ActCh) : State := setRegs (c full v 2) [(Reg.actnP1 2, 30000), (Reg.actnP2 2, 0x00640064), (Reg.actnP3 2, 0x3E8)]
theorem witness_FloatPulsesNeverReverse_0 : ∃ (s : State) (n : Nat), (n < s.nActs) ∧ (s.actPos n ≤ s.actFull n) ∧ 
    let a := s.act1 n
    (a.drv = .opening) :=
  ⟨((fun s => s.actLatch 2) (((([Drv.none, .opening, .closing].flatMap fun d => [none, some 0, some 500, some 120000, some 119999].flatMap fun p => [0, 1, 5].flatMap fun g => [0, 399, 400, 500].flatMap fun r => [0, 3276800, 6553600].map fun (cm : Int) =>
   fl { safe := false, cmd := cm, pos := p, drv := d, gap := g, run := r })).getD 180 live))), 2, by dsimp only; decide +kernel⟩
theorem witness_FloatPulsesNeverReverse_1 : ∃ (s : State) (n : Nat), (n < s.nActs) ∧ (s.actPos n ≤ s.actFull n) ∧ 
    let a := s.act1 n
    (a.drv = .closing) :=
  ⟨((fun s => s.actLatch 2) (((([Drv.none, .opening, .closing].flatMap fun d => [none, some 0, some 500, some 120000, some 119999].flatMap fun p => [0, 1, 5].flatMap fun g => [0, 399, 400, 500].flatMap fun r => [0, 3276800, 6553600].map fun (cm : Int) =>
   fl { safe := false, cmd := cm, pos := p, drv := d, gap := g, run := r })).getD 360 live))), 2, by dsimp only; decide +kernel⟩
theorem witness_FloatPulsesNeverReverse_2 : ∃ (s : State) (n : Nat), (n < s.nActs) ∧ (s.actPos n ≤ s.actFull n) ∧ 
    let t := s.floatTick n
    let a := s.act1 n
    let b := t.act1 n
    (a.drv = .none) ∧ (b.drv ≠ .none) :=
  ⟨full.actLatch 2, 0, by dsimp only; decide +kernel⟩
theorem witness_FloatPulsesNeverReverse_3 : ∃ (s : State) (n : Nat), (n < s.nActs) ∧ (s.actPos n ≤ s.actFull n) ∧ 
    let a := s.act1 n
    (a.drv = .none) ∧ (1 < a.gap) :=
  ⟨((fun s => s.actLatch 2) (((([Drv.none, .opening, .closing].flatMap fun d => [none, some 0, some 500, some 120000, some 119999].flatMap fun p => [0, 1, 5].flatMap fun g => [0, 399, 400, 500].flatMap fun r => [0, 3276800, 6553600].map fun (cm : Int) =>
   fl { safe := false, cmd := cm, pos := p, drv := d, gap := g, run := r })).getD 24 live))), 2, by dsimp only; decide +kernel⟩
theorem witness_FloatPulsesNeverReverse_4 : ∃ (s : State) (n : Nat), (n < s.nActs) ∧ (s.actPos n ≤ s.actFull n) ∧ 
    let t := s.floatTick n
    let a := s.act1 n
    let b := t.act1 n
    (a.drv ≠ .none) ∧ (b.drv = .none) :=
  ⟨((fun s => s.actLatch 2) (((([Drv.none, .opening, .closing].flatMap fun d => [none, some 0, some 500, some 120000, some 119999].flatMap fun p => [0, 1, 5].flatMap fun g => [0, 399, 400, 500].flatMap fun r => [0, 3276800, 6553600].map fun (cm : Int) =>
   fl { safe := false, cmd := cm, pos := p, drv := d, gap := g, run := r })).getD 183 live))), 2, by dsimp only; decide +kernel⟩
def st (s : State) (k : Option Nat) : State := { s with act := { s.act with stopAt := k } }
def sc (s : State) (v : Nat) : State := setRegs s [(Reg.actnSafecfg 2, v)]
theorem witness_SafeTimeout_0 : ∃ (n : Nat) (s : State) (from_ : Nat), (n < s.nActs) ∧ (s.act.stopAt = some from_) ∧ (fld (s.act1 n).safecfg 16 16 ≠ 0xFFFF) ∧ (from_ + 400 * fld (s.act1 n).safecfg 16 16 ≤ s.now) ∧ (s.actOn = true) ∧ (s.hostOwns 9 = false) ∧ (s.actRuns n = true) ∧ ((s.act1 n).latched = false) ∧ (s.ringFits 21 8) :=
  ⟨2, ((fun s => s.actLatch 2) (st (sc (c full { safe := false } 1) 0x00050001) (some 5))), 5, by decide +kernel⟩
theorem witness_SafeTimeout_1 : ∃ (n : Nat) (s : State), (s.act.stopAt = none ∨ fld (s.act1 n).safecfg 16 16 = 0xFFFF) :=
  ⟨0, full.actLatch 2, by decide +kernel⟩

end Actuators

namespace Fans

def r (s : State) (l : List (Nat × Nat)) : State := setRegs s l
def F (s : State) (v : FanCh) : State := r (fan s 2 v) [(Reg.fanfCfg 2, 0x32050000 + 3 + 4), (Reg.fanfMeas 2, 0x05DC0005), (Reg.fanRun, 4), (Reg.fanfIstall 2, 300), (Reg.fanfIlo 2, 20)]
def cw (n : Nat) (s : State) : State := { s with tb := { s.tb with count := n } }
def f0 (v : FanCh) : State := F full v
theorem witness_FanDriveAndMeasurement_1 : ∃ (f : Nat) (s : State), (f < s.nFans) ∧ (s.awake = true) ∧ ((s.fan1 f).state ∈ [2, 5, 6]) ∧ (s.fanTach f = true) ∧ (s.tb.running = true) ∧ ((s.tb.count + 1000 * max 1 (s.rf (Reg.fanfMeas f) 0 8) * 16 - 16 * f) % (1000 * max 1 (s.rf (Reg.fanfMeas f) 0 8)) = 0) ∧ ((s.fan1 f).window = none) :=
  ⟨2, cw (5000*3 + 32) (f0 { state := 2 }), by decide +kernel⟩
theorem witness_FanDriveAndMeasurement_2 : ∃ (f cycle : Nat) (s : State), (f < s.nFans) ∧ (s.awake = true) ∧ ((s.fan1 f).edges = 0 ∨ (s.fan1 f).lastEdge < 4096 * s.now + cycle) ∧ ((s.fan1 f).window.isSome = true) ∧ ((s.fan1 f).edges < 3) :=
  ⟨2, 0, f0 { state := 2, window := some 5 }, by decide +kernel⟩
theorem witness_FanDriveAndMeasurement_3 : ∃ (f cycle : Nat) (s : State), ((s.fan1 f).window = none) ∧ ((s.fan1 f).state ≠ 1) :=
  ⟨0, 0, full, by decide +kernel⟩
theorem witness_FanDriveAndMeasurement_4 : ∃ (f open_ : Nat) (s : State), (f < s.nFans) ∧ ((s.fan1 f).window = some open_) ∧ ((s.fan1 f).state ∈ [2, 5, 6]) ∧ (2 ≤ (s.fan1 f).edges) ∧ ((s.fan1 f).firstEdge < (s.fan1 f).lastEdge) ∧ (3 ≤ (s.fan1 f).edges ∨ open_ + (s.fan1 f).width ≤ s.now) ∧ (s.ringFits 20 8) :=
  ⟨2, 5, f0 { state := 2, window := some 5, width := 240, edges := 2, firstEdge := 5, lastEdge := 660005 }, by decide +kernel⟩
theorem witness_FanDriveAndMeasurement_5 : ∃ (f open_ : Nat) (s : State), (f < s.nFans) ∧ ((s.fan1 f).window = some open_) ∧ ((s.fan1 f).edges < 2) ∧ (open_ + (s.fan1 f).width ≤ s.now) ∧ ((s.fan1 f).state ≠ 2 ∨ s.rf (Reg.fanfRpm f) 24 8 < 2) :=
  ⟨2, 5, f0 { state := 2, window := some 5 }, by decide +kernel⟩
theorem witness_FanFailures_1 : ∃ (f : Nat) (s : State), (f < s.nFans) ∧ (s.awake = true) ∧ ((s.fan1 f).state = 1) ∧ ((s.fan1 f).since + s.fanKick f ≤ s.now) ∧ (2 ≤ (s.fan1 f).edges ∨ s.fanTach f = false) :=
  ⟨2, f0 { state := 1, edges := 2, since := 1000000 - 2000 }, by decide +kernel⟩
theorem witness_FanFailures_2 : ∃ (f : Nat) (s : State), ((s.fan1 f).state ≠ 1 ∨ s.now < (s.fan1 f).since + s.fanKick f) :=
  ⟨0, full, by decide +kernel⟩
theorem witness_FanFailures_3 : ∃ (f : Nat) (s : State), (f < s.nFans) ∧ (s.awake = true) ∧ ((s.fan1 f).state = 1) ∧ (s.fanTach f = true) ∧ ((s.fan1 f).since + s.fanStartTo f ≤ s.now) ∧ ((s.fan1 f).edges < 2) ∧ (s.ringFits 20 8) :=
  ⟨2, f0 { state := 1, since := 0, edges := 1 }, by decide +kernel⟩
theorem witness_FanFailures_4 : ∃ (f : Nat) (s : State), (f < s.nFans) ∧ (s.awake = true) ∧ ((s.fan1 f).state = 3) ∧ ((s.fan1 f).since + (s.fan1 f).delay ≤ s.now) :=
  ⟨2, f0 { state := 3, since := 960000, delay := 40000 }, by decide +kernel⟩
theorem witness_FanFailures_5 : ∃ (f : Nat) (s : State), (f < s.nFans) ∧ (s.awake = true) ∧ ((s.fan1 f).state = 7) ∧ ((s.fan1 f).since + 4000 ≤ s.now) :=
  ⟨2, f0 { state := 7, since := 996000 }, by decide +kernel⟩
theorem witness_FanFailures_6 : ∃ (f : Nat) (s : State), (f < s.nFans) ∧ (s.awake = true) ∧ ((s.fan1 f).state = 2) ∧ ((s.fan1 f).since + 2400000 ≤ s.now) :=
  ⟨2, { f0 { state := 2, since := 0, retry := 2 } with now := 2400000 }, by decide +kernel⟩
theorem witness_FanFailures_7 : ∃ (who : Init) (v : Word) (s : State), (mayWrite who 10 s) :=
  ⟨.runtime, 0, full, by decide +kernel⟩
theorem witness_FanSupervisionAndShutdownPath_0 : ∃ (who : Init) (s : State), (mayWrite who 10 s) :=
  ⟨.runtime, full, by decide +kernel⟩
def rf (s : State) (k : Option Nat) : State := r (fg s (fun f => { f with refresh := k })) [(Reg.fanSupervise, 100)]
theorem witness_FanSupervisionAndShutdownPath_1 : ∃ s : State, (s.awake = true) ∧ (12 ≤ s.shakeStep) ∧ (s.fanAutoOn = false) ∧ (s.fanOverdue = true ∨ s.rb Reg.pwrStat 2 = true) ∧ (s.ringFits 20 8) :=
  ⟨rf (f0 { state := 2 }) (some 5), by decide +kernel⟩
theorem witness_FanSupervisionAndShutdownPath_2 : ∃ s : State, ((s.fanOverdue = false ∧ s.rb Reg.pwrStat 2 = false) ∨ s.fanAutoOn = true) :=
  ⟨full, by decide +kernel⟩
theorem witness_FanSupervisionAndShutdownPath_4 : ∃ (who : Init) (v : Word) (s : State), (mayWrite who 10 s) ∧ (bitOf v 0 = true) ∧ (s.fanAutoOn = true) ∧ (s.fan.written = none ∨ (∃ last, s.fan.written = some last ∧ last + s.fanSuperviseTicks < s.now) ∨ s.rb Reg.pwrStat 2 = true) :=
  ⟨.runtime, 1, rf (r full [(Reg.fanStat, 1)]) (some 1000000), by decide +kernel⟩
theorem witness_FanSupervisionAndShutdownPath_5 : ∃ (who : Init) (v : Word) (s : State), (mayWrite who 10 s) ∧ (s.fanAutoOn = false) :=
  ⟨.runtime, 0, full, by decide +kernel⟩
theorem witness_FanSupervisionAndShutdownPath_6 : ∃ (who : Init) (f off : Nat) (v : Word) (s : State), (f < s.nFans) ∧ (mayWrite who 10 s) :=
  ⟨.runtime, 0, 0, 0, full, by decide +kernel⟩
def sh (s : State) (l : List ShdnIn) : State := r (fg s (fun f => { f with shdn := l })) [(Reg.fanShdnSel, 0x00008583), (Reg.fanShdnCtrl, 1)]
def T (s : State) : State := r s [(Reg.pwrStrap, 0x60)]
theorem witness_FanSupervisionAndShutdownPath_7 : ∃ (j : Nat) (s : State) (from_ : Nat), (j < 4) ∧ (s.awake = true) ∧ (s.shdnArmed = true) ∧ (s.shdnValid j = true) ∧ ((s.shdnIn j).failSince = some from_) ∧ (from_ + 40000 ≤ s.now) ∧ (s.shdnOn = false) ∧ (s.ringFits 20 8) :=
  ⟨0, T (sh full [{ failSince := some 5 }, {}, {}, {}]), 5, by decide +kernel⟩
theorem witness_FanSupervisionAndShutdownPath_8 : ∃ (j : Nat) (s : State), (s.shdnArmed = false ∨ s.shdnOn = true ∨ (s.shdnIn j).failSince = none) :=
  ⟨0, full, by decide +kernel⟩
theorem witness_FanSupervisionAndShutdownPath_9 : ∃ s : State, (s.awake = true) ∧ (s.shdnOn = true) ∧ ((∃ j, j < 4 ∧ s.shdnValid j = true)) ∧ ((∀ j, j < 4 → s.shdnValid j = true → ∃ from_, (s.shdnIn j).okSince = some from_ ∧ from_ + 240000 ≤ s.now)) ∧ (s.ringFits 20 8) :=
  ⟨r (T (sh full [{ okSince := some 5 }, { okSince := some 6 }, {}, {}])) [(Reg.fanShdnStat, 0x2B)], by decide +kernel⟩
theorem witness_FanSupervisionAndShutdownPath_10 : ∃ (j : Nat) (s : State), (j < 4) ∧ (s.shdnValid j = true) ∧ ((s.shdnIn j).okSince = none) :=
  ⟨0, T (sh full [{ failSince := some 5 }, {}, {}, {}]), by decide +kernel⟩

end Fans

namespace FansAndFunctions

def r (s : State) (l : List (Nat × Nat)) : State := setRegs s l
def FF (s : State) (v : FanCh) : State := r (fan s 2 v) [(Reg.fanfCfg 2, 0x32050000 + 3 + 4), (Reg.fanfMeas 2, 0x05DC0005), (Reg.fanRun, 4), (Reg.fanfIstall 2, 300), (Reg.fanfIlo 2, 20)]
def f0 (v : FanCh) : State := FF full v
theorem witness_FanDriveAndMeasurement_0 : ∃ (f q p : Nat) (s : State), (f < s.nFans) ∧ (8 ≤ s.shakeStep) ∧ (s.awake = true) ∧ ((s.fan1 f).window = none) ∧ (q = max 10 (min 250 (s.rf (Reg.fanfCfg f) 8 8))) ∧ (p = (16384000 + q / 2) / q) :=
  ⟨2, 10, 1638400, f0 { state := 2 }, by decide +kernel⟩
theorem witness_FanDriveAndMeasurement_6 : ∃ (f open_ : Nat) (s : State), ((s.fan1 f).window = some open_) ∧ ((s.fan1 f).edges < 3) ∧ (s.now < open_ + (s.fan1 f).width) :=
  ⟨2, 5, f0 { state := 2, window := some 5 , width := 100000000}, by decide +kernel⟩
def rpm (s : State) (v : Nat) : State := r s [(Reg.fanfRpm 2, v)]
def w (i : Option Int) (rt : Nat := 0) (rs : Bool := false) : State := rpm (f0 { state := 2, window := some 5, width := 240, inorm := i, retry := rt, restarted := rs }) 0x02010010
theorem witness_FanFailures_0 : ∃ (f open_ : Nat) (s : State), (f < s.nFans) ∧ ((s.fan1 f).window = some open_) ∧ ((s.fan1 f).edges < 2) ∧ (open_ + (s.fan1 f).width ≤ s.now) ∧ ((s.fan1 f).state = 2) ∧ (2 ≤ s.rf (Reg.fanfRpm f) 24 8) ∧ (s.ringFits 20 8) :=
  ⟨2, 5, w none, by decide +kernel⟩
def wr (k : Option Nat) (s : State) : State := r (fg s (fun f => { f with written := k })) [(Reg.fanStat, 9), (Reg.fanSupervise, 100)]
theorem witness_FanSupervisionAndShutdownPath_3 : ∃ (who : Init) (v : Word) (s : State) (last : Nat), (mayWrite who 10 s) ∧ (bitOf v 0 = true) ∧ (s.fanAutoOn = true) ∧ (s.fan.written = some last) ∧ (s.now ≤ last + s.fanSuperviseTicks) ∧ (s.rb Reg.pwrStat 2 = false) ∧ (s.ringFits 20 8) :=
  ⟨.runtime, 1, wr (some 999999) (f0 { state := 2 }), 999999, by decide +kernel⟩

end FansAndFunctions

end Sys2Proof.Tests
end

