-- ==== Sys2Proof/Tests/WitnessB.lean ====
section
/-! SUPPORT. Witnesses for chapters 08 to 10 (object dictionary, functions, network, twin pair): witness_<Statement>_<k> shows a state and operands that meet all hypotheses of
clause k of the statement at once. Clauses are counted from 0 in the order of the text; one whose hypotheses are among those of another has no witness of its own. -/

set_option linter.unusedVariables false
set_option Elab.async false

namespace Sys2Proof.Tests
open Sys2Proof Sys2Proof.Machine

namespace OdRead

def rd (s : State) (id ty : Nat) (fl : Nat := 0) (exp : Nat := 0) := r12 s (rec 1 fl ty id exp 1 [])
theorem witness_ReadAnswersTheMember_0 : ∃ (s : State) (t0 : Txn) (bytes : List Byte) (row : OdRow), (s.odServes = true) ∧ (s.odHostReq = some (t0, bytes)) ∧ 
    let r := odParse true bytes
    (r.op = 1) ∧ (r.lengthOk = true) ∧ (r.flags < 4) ∧ (r.count = 1) ∧ ((r.flags.testBit 0 = true → r.expheat = s.od.heat)) ∧ (odRow r.id = some row) ∧ (row.typ = r.typ) ∧ (row.rd = true) ∧ (row.stored = true) ∧ (r.id ≠ odId 0x22 0 0) ∧ (s.odPresent r.id = true) ∧ (s.txnFree 0 = true) ∧ (s.ringFits 13 16) :=
  ⟨rd full (odId 0x11 5 5) 3, ((rd full (odId 0x11 5 5) 3).odHostReq.getD ({}, [])).1, ((rd full (odId 0x11 5 5) 3).odHostReq.getD ({}, [])).2, ((odRow (odParse true ((rd full (odId 0x11 5 5) 3).odHostReq.getD ({}, [])).2).id).get (by decide +kernel)), by dsimp only; decide +kernel⟩

end OdRead

namespace OdRequests

def q (s : State) (op : Nat) (id ty : Nat) (b : List Byte) (fl : Nat := 0) (exp : Nat := 0) (cnt : Nat := 1) := r12 s (rec op fl ty id exp cnt b)
def busy (s : State) : State := { s with od := { s.od with txns := List.replicate 128 {} } }
theorem witness_RefusedRequestsChangeNothing_0 : ∃ (s : State) (nvOk : Bool) (t0 : Txn) (bytes : List Byte) (p : Nat × Instr), (p ∈ [(1, .odRead .ring12), (2, .odWrite .ring12 nvOk), (3, .odWriteBlock .ring12 nvOk), (4, .odCall .ring12)]) ∧ (s.odServes = true) ∧ (s.odHostReq = some (t0, bytes)) ∧ (odRowOf bytes = p.1) ∧ (s.ringFits 13 16) ∧ (s.txnFree 0 = false) :=
  ⟨busy (q full 1 (odId 0x11 5 5) 3 []), false, ((busy (q full 1 (odId 0x11 5 5) 3 [])).odHostReq.getD ({}, [])).1, ((busy (q full 1 (odId 0x11 5 5) 3 [])).odHostReq.getD ({}, [])).2, (1, .odRead .ring12), by decide +kernel⟩
theorem witness_RefusedRequestsChangeNothing_1 : ∃ (s : State) (nvOk : Bool) (t0 : Txn) (bytes : List Byte) (p : Nat × Instr), ∃ a auth, (p ∈ [(1, .odRead .ring12), (2, .odWrite .ring12 nvOk), (3, .odWriteBlock .ring12 nvOk), (4, .odCall .ring12)]) ∧ (s.odServes = true) ∧ (s.odHostReq = some (t0, bytes)) ∧ (odRowOf bytes = p.1) ∧ (s.ringFits 13 16) ∧ 
    let r := odParse true bytes
    let accepted := (s.setRf (Reg.rngTail 12) 0 16 (s.ringTail 12 + 1)).txnAccept { t0 with op := p.1, id := r.id, typ := r.typ }
    (s.txnFree 0 = true) ∧ ((if r.lengthOk then accepted.odRefusal r none s.hostRole false else odRefuse 0xA) = some (a, auth)) :=
  ⟨q full 3 (odId 0x11 5 5) 3 [1,0,1], false, ((q full 3 (odId 0x11 5 5) 3 [1,0,1]).odHostReq.getD ({}, [])).1, ((q full 3 (odId 0x11 5 5) 3 [1,0,1]).odHostReq.getD ({}, [])).2, (3, .odWriteBlock .ring12 false), { code := 10 }, false, by dsimp only; decide +kernel⟩
theorem witness_WritesStageOrCommit_0 : ∃ (s : State) (nvOk : Bool) (t0 : Txn) (bytes : List Byte), ∃ f, (s.odServes = true) ∧ (s.odHostReq = some (t0, bytes)) ∧ (s.ringFits 13 16) ∧ (s.isTwin = false) ∧ (s.rb Reg.twnStat 5 = false) ∧ (s.txnFree 0 = true) ∧ 
    let r := odParse true bytes
    let accepted := fun (op : Nat) =>
      (s.setRf (Reg.rngTail 12) 0 16 (s.ringTail 12 + 1)).txnAccept { t0 with op := op, id := r.id, typ := r.typ }
    (r.lengthOk = true) ∧ ((accepted r.op).odRefusal r none s.hostRole false = none) ∧ (odClass r.id ≠ 8) ∧ (odClass r.id ≠ 0x21) ∧ (r.values.length = r.count) ∧ ((∀ q ∈ r.ids.zip r.values, (accepted r.op).odEffect q.1 q.2 = .stage f ∧ odKeyArea q.1 = false)) ∧ (r.op = 2) :=
  ⟨q full 2 (odId 0x11 5 5) 3 [3,0], false, ((q full 2 (odId 0x11 5 5) 3 [3,0]).odHostReq.getD ({}, [])).1, ((q full 2 (odId 0x11 5 5) 3 [3,0]).odHostReq.getD ({}, [])).2, 3, by dsimp only; decide +kernel⟩
theorem witness_WritesStageOrCommit_1 : ∃ (s : State) (nvOk : Bool) (t0 : Txn) (bytes : List Byte), ∃ f, (s.odServes = true) ∧ (s.odHostReq = some (t0, bytes)) ∧ (s.ringFits 13 16) ∧ (s.isTwin = false) ∧ (s.rb Reg.twnStat 5 = false) ∧ (s.txnFree 0 = true) ∧ 
    let r := odParse true bytes
    let accepted := fun (op : Nat) =>
      (s.setRf (Reg.rngTail 12) 0 16 (s.ringTail 12 + 1)).txnAccept { t0 with op := op, id := r.id, typ := r.typ }
    (r.lengthOk = true) ∧ ((accepted r.op).odRefusal r none s.hostRole false = none) ∧ (odClass r.id ≠ 8) ∧ (odClass r.id ≠ 0x21) ∧ (r.values.length = r.count) ∧ ((∀ q ∈ r.ids.zip r.values, (accepted r.op).odEffect q.1 q.2 = .stage f ∧ odKeyArea q.1 = false)) ∧ (r.op = 3) :=
  ⟨q full 3 (odId 0x11 5 5) 3 [3,0], false, ((q full 3 (odId 0x11 5 5) 3 [3,0]).odHostReq.getD ({}, [])).1, ((q full 3 (odId 0x11 5 5) 3 [3,0]).odHostReq.getD ({}, [])).2, 3, by dsimp only; decide +kernel⟩
theorem witness_WritesStageOrCommit_2 : ∃ (s : State) (nvOk : Bool) (t0 : Txn) (bytes : List Byte), ∃ v, (s.odServes = true) ∧ (s.odHostReq = some (t0, bytes)) ∧ (s.ringFits 13 16) ∧ (s.isTwin = false) ∧ (s.rb Reg.twnStat 5 = false) ∧ (s.txnFree 0 = true) ∧ 
    let r := odParse true bytes
    let accepted := fun (op : Nat) =>
      (s.setRf (Reg.rngTail 12) 0 16 (s.ringTail 12 + 1)).txnAccept { t0 with op := op, id := r.id, typ := r.typ }
    (r.lengthOk = true) ∧ ((accepted r.op).odRefusal r none s.hostRole false = none) ∧ (r.op = 2) ∧ (odClass r.id ≠ 8) ∧ (odClass r.id ≠ 0x21) ∧ (r.values = [v]) ∧ (r.count = 1) ∧ ((accepted 2).odEffect r.id v = .commit) ∧ (nvOk = true) ∧ (s.knb.nvFault = false) ∧ (s.nvFits (s.nvWith [(r.id, v)]) = true) :=
  ⟨q full 2 (odId 3 0 0xB) 2 [1], true, ((q full 2 (odId 3 0 0xB) 2 [1]).odHostReq.getD ({}, [])).1, ((q full 2 (odId 3 0 0xB) 2 [1]).odHostReq.getD ({}, [])).2, Sys2Proof.OdVal.num 1, by dsimp only; decide +kernel⟩
theorem witness_WritesStageOrCommit_3 : ∃ (s : State) (nvOk : Bool) (t0 : Txn) (bytes : List Byte), ∃ v, (s.odServes = true) ∧ (s.odHostReq = some (t0, bytes)) ∧ (s.ringFits 13 16) ∧ (s.isTwin = false) ∧ (s.rb Reg.twnStat 5 = false) ∧ (s.txnFree 0 = true) ∧ 
    let r := odParse true bytes
    let accepted := fun (op : Nat) =>
      (s.setRf (Reg.rngTail 12) 0 16 (s.ringTail 12 + 1)).txnAccept { t0 with op := op, id := r.id, typ := r.typ }
    (r.lengthOk = true) ∧ ((accepted r.op).odRefusal r none s.hostRole false = none) ∧ (r.op = 2) ∧ (odClass r.id ≠ 8) ∧ (odClass r.id ≠ 0x21) ∧ (r.values = [v]) ∧ (r.count = 1) ∧ ((accepted 2).odEffect r.id v = .commit) ∧ (nvOk = false ∨ s.knb.nvFault = true ∨ s.nvFits (s.nvWith [(r.id, v)]) = false) :=
  ⟨q full 2 (odId 3 0 0xB) 2 [1], false, ((q full 2 (odId 3 0 0xB) 2 [1]).odHostReq.getD ({}, [])).1, ((q full 2 (odId 3 0 0xB) 2 [1]).odHostReq.getD ({}, [])).2, Sys2Proof.OdVal.num 1, by dsimp only; decide +kernel⟩
theorem witness_WritesStageOrCommit_4 : ∃ (s : State) (nvOk : Bool) (t0 : Txn) (bytes : List Byte), ∃ cmd f, (s.odServes = true) ∧ (s.odHostReq = some (t0, bytes)) ∧ (s.ringFits 13 16) ∧ (s.isTwin = false) ∧ (s.rb Reg.twnStat 5 = false) ∧ (s.txnFree 0 = true) ∧ 
    let r := odParse true bytes
    let accepted := fun (op : Nat) =>
      (s.setRf (Reg.rngTail 12) 0 16 (s.ringTail 12 + 1)).txnAccept { t0 with op := op, id := r.id, typ := r.typ }
    (r.lengthOk = true) ∧ ((accepted r.op).odRefusal r none s.hostRole false = none) ∧ (r.op = 4) ∧ (f = odInst r.id) ∧ (r.values = [.num cmd]) ∧ (odClass r.id = 8) ∧ (odMem r.id = 1) ∧ ((cmd = 1 ∧ (s.fn f).state = 2 ∧ (f = 2 → s.planNeeded = false)) ∨ (cmd = 2 ∧ (s.fn f).state = 0)) :=
  ⟨q (fnr full 3 2) 4 (odId 8 3 1) 2 [1], false, ((q (fnr full 3 2) 4 (odId 8 3 1) 2 [1]).odHostReq.getD ({}, [])).1, ((q (fnr full 3 2) 4 (odId 8 3 1) 2 [1]).odHostReq.getD ({}, [])).2, 1, 3, by dsimp only; decide +kernel⟩
theorem witness_WritesStageOrCommit_5 : ∃ (s : State) (nvOk : Bool) (t0 : Txn) (bytes : List Byte), ∃ f, (s.odServes = true) ∧ (s.odHostReq = some (t0, bytes)) ∧ (s.ringFits 13 16) ∧ (s.isTwin = false) ∧ (s.rb Reg.twnStat 5 = false) ∧ (s.txnFree 0 = true) ∧ 
    let r := odParse true bytes
    let accepted := fun (op : Nat) =>
      (s.setRf (Reg.rngTail 12) 0 16 (s.ringTail 12 + 1)).txnAccept { t0 with op := op, id := r.id, typ := r.typ }
    (r.lengthOk = true) ∧ ((accepted r.op).odRefusal r none s.hostRole false = none) ∧ (r.op = 4) ∧ (f = odInst r.id) ∧ (r.values = [.num 3]) ∧ (odClass r.id = 8) ∧ (odMem r.id = 1) ∧ ((s.fn f).state = 0) :=
  ⟨q (fnr (full.odStage (odId 0x11 5 5) 3 (.num 3)) 3 0) 4 (odId 8 3 1) 2 [3], false, ((q (fnr (full.odStage (odId 0x11 5 5) 3 (.num 3)) 3 0) 4 (odId 8 3 1) 2 [3]).odHostReq.getD ({}, [])).1, ((q (fnr (full.odStage (odId 0x11 5 5) 3 (.num 3)) 3 0) 4 (odId 8 3 1) 2 [3]).odHostReq.getD ({}, [])).2, 3, by dsimp only; decide +kernel⟩

end OdRequests

namespace Functions

theorem witness_FunctionCommands_0 : ∃ (f : Nat) (s : State), (fnDefined f = true) ∧ (s.present (fnUnit f) = true) ∧ (s.runtimeRuns = true) ∧ ((s.fn f).state = 2) ∧ ((f = 2 → s.planNeeded = false)) :=
  ⟨2, fnr full 2 2, by decide +kernel⟩
theorem witness_FunctionCommands_1 : ∃ (f : Nat) (s : State), ((s.fn f).state = 1 ∨ (s.fn f).state = 3) :=
  ⟨3, fnr full 3 1, by decide +kernel⟩
theorem witness_FunctionCommands_4 : ∃ (f : Nat) (nvOk : Bool) (s : State) (c : Nat), (fnDefined f = true) ∧ (s.present (fnUnit f) = true) ∧ (s.runtimeRuns = true) ∧ (s.od.startup = none) ∧ ((s.fn f).state = 0) ∧ (s.fnCallCode f 2 = 0) ∧ ((s.fn f).ready = false) ∧ (s.mixedStandby = false) ∧ (c = ((s.fnTo f 1).fnValidate f false).1) :=
  ⟨256, false, full, 5, by decide +kernel⟩
theorem witness_FunctionCommands_5 : ∃ (f : Nat) (s : State), (fnDefined f = true) ∧ (s.present (fnUnit f) = true) ∧ (s.runtimeRuns = true) ∧ ((s.fn f).state = 0) :=
  ⟨1, full, by decide +kernel⟩
def rdy (s : State) (f : Nat) : State := s.setFn f { s.fn f with state := 1, ready := true }
theorem witness_FunctionCommands_6 : ∃ (f : Nat) (s : State), (fnDefined f = true) ∧ (s.atBoundary0 = true) ∧ (s.od.startup = none) ∧ ((s.fn f).ready = true) ∧ (s.mixedStandby = false) :=
  ⟨1, rdy full 1, by decide +kernel⟩
theorem witness_FunctionCommands_7 : ∃ (f : Nat) (s : State), ((s.fn f).ready = false) :=
  ⟨1, full, by decide +kernel⟩
theorem witness_FunctionCommands_8 : ∃ (f : Nat) (s : State), (fnDefined f = true) ∧ (s.atBoundary0 = true) ∧ ((s.fn f).state = 3) :=
  ⟨3, fnr full 3 3, by decide +kernel⟩

end Functions

namespace RtcAndOwners

theorem witness_FunctionCommands_3 : ∃ (f : Nat) (nvOk : Bool) (s : State), ((s.fn f).state = 0) ∧ (s.fnCallCode f 2 ≠ 0) :=
  ⟨1, false, own (fnr full 1 0) 6, by decide +kernel⟩
def cy (s : State) : State := { s with rtc := { s.rtc with cyc := 32768000 - 4000 } }
theorem witness_RtcTime_1 : ∃ s : State, (s.rtcHalted = false) ∧ (s.rtc.xstopped = false) ∧ (s.resetFree = true) ∧ (s.asleep = true) :=
  ⟨(cy (setRegs full [(Reg.pwrWake, 1), (Reg.pwrStat, 2), (Reg.rtcCtrl, 0), (Reg.rtcAlm0T, 0x80808080), (Reg.rtcAlm0D, 0x00800880)])), by decide +kernel⟩

end RtcAndOwners

namespace Network

def wOpen (s : State) (top : Nat := 40) : State := ng s (fun n => { n with windows := [(0x46, { top := top, map := 1, last := 900000 })] })
def ms : List NetFrame := [msg nete 7 [0,0,0,9,0,0,1,0], msg nete 8 [0,0,0,5], msg nete 5 [1,0,0,0] 0x45, refcs { msg nete 8 [] with rest := List.replicate 30 1 }, msg nete 8 [] 0x45 40, msg nete 8 [] 0x45 50 0 0x46 3,
  { msg nete 8 [] with fcs := 7 }, refcs { msg nete 8 [] with dmac := 3 }, msg nete 8 [] 0x47]
def wst : List State := [nete, wOpen nete, wOpen nete 120, wOpen nete 50]
theorem witness_NoMessageIsAcceptedTwice_0 : ∃ (s s1 : State) (p : Nat) (m : NetFrame), (m.session ≠ 0xFFFF) ∧ (s.netCheck p m = (.pass, s1)) :=
  ⟨wOpen nete, ((wst.flatMap fun s => ms.map fun m => (s.netCheck 0 m).2).getD 9 live), 0, msg nete 7 [0,0,0,9,0,0,1,0], by decide +kernel⟩
theorem witness_NoMessageIsAcceptedTwice_1 : ∃ (s : State) (p : Nat) (m : NetFrame), (m.session ≠ 0xFFFF) ∧ (s.sessionOk m.session = false ∨ m.tag ≠ s.netTag m) :=
  ⟨nete, 0, refcs { msg nete 8 [] with rest := List.replicate 30 1 }, by decide +kernel⟩
theorem witness_NetworkPortsAndManagement_0 : ∃ (p : Nat) (s : State), (s.netUp p = true) ∧ (s.rb (Reg.netpCfg p) 0 = true) ∧ (s.rb (Reg.netpStat p) 2 = false) ∧ (s.net.fallen.getD p false = false) :=
  ⟨0, nete, by decide +kernel⟩
theorem witness_NetworkPortsAndManagement_3 : ∃ (p c : Nat) (s : State) (m : NetFrame) (rest : List NetFrame), (s.netUp p = true) ∧ ((if p = 0 then s.net.txA else s.net.txB) = m :: rest) :=
  ⟨0, 0, ng nete (fun n => { n with txA := [{}, { typ := 4 }] }), {}, [{ typ := 4 }], by decide +kernel⟩
theorem witness_NetworkPortsAndManagement_4 : ∃ (p : Nat) (m : NetFrame) (s : State), (s.netUp p = true) ∧ (s.isTwin = false) ∧ (m.rxEr = true ∨ m.fcs ≠ crc32 (netBytes m)) :=
  ⟨0, { msg nete 8 [] with fcs := 7 }, nete, by decide +kernel⟩
theorem witness_NetworkPortsAndManagement_5 : ∃ (p : Nat) (m : NetFrame) (s : State), (s.netUp p = true) ∧ (s.isTwin = false) ∧ (m.rxEr = false) ∧ (m.fcs = crc32 (netBytes m)) ∧ (s.netAccepts m = false) :=
  ⟨0, refcs { msg nete 8 [] with dmac := 3 }, nete, by decide +kernel⟩
theorem witness_NetworkPortsAndManagement_6 : ∃ (who : Init) (v : Word) (s : State), (who ≠ .host) ∧ (s.rb Reg.netMdio 12 = false) :=
  ⟨.runtime, 0, nete, by decide +kernel⟩
def mdio (s : State) (v : Nat) : State := setRegs s [(Reg.netMdio, v)]
theorem witness_NetworkPortsAndManagement_7 : ∃ (data : BitVec 16) (s : State), (s.rb Reg.netMdio 12 = true) ∧ (s.net.phy = []) :=
  ⟨0, mdio nete 0x1834, by decide +kernel⟩
theorem witness_NetworkPortsAndManagement_8 : ∃ (addr : Nat) (s : State), (s.awake = true) :=
  ⟨0, nete, by decide +kernel⟩
theorem witness_NetworkPortsAndManagement_9 : ∃ (old : Option (List Byte)) (s : State), (s.net.rootPending = some old) :=
  ⟨((ng nete (fun n => { n with rootPending := some (some [1,2,3]) })).net.rootPending.getD none), ng nete (fun n => { n with rootPending := some (some [1,2,3]) }), by decide +kernel⟩

end Network

namespace Airid

def wOpen (s : State) (top : Nat := 40) : State := ng s (fun n => { n with windows := [(0x46, { top := top, map := 1, last := 900000 })] })
def b0 := wOpen nete
theorem witness_AiridMessages_0 : ∃ s : State,
    let quiet := fun (s : State) => (s.reg Reg.netSeq).toNat % 65536 ≠ 65535 ∧ (s.reg Reg.netSeq).toNat < 0xFFFFFFFE ∧
    ((s.reg Reg.netSeq).toNat + 1 < 0xF0000000 ∨ s.rb Reg.netStat 0 = true) ∧ s.rb Reg.netStat 1 = false ∧
    s.netAssigned = true ∧ s.isTwin = false
    (quiet s) ∧ (s.runtimeRuns = true) ∧ (s.od.serving = true) ∧ (s.net.hbLast + 4000 * s.net.hbInterval ≤ s.now) :=
  ⟨b0, by dsimp only; decide +kernel⟩
def bt (g : Nat) (d : Nat) : List Byte := beBytes 4 7 ++ beBytes 8 d ++ beBytes 2 g ++ [0, 0] ++ beBytes 4 0 ++ beBytes 4 1
theorem witness_AiridMessages_1 : ∃ (p : Nat) (m : NetFrame) (s s1 : State), (m.typ = 6) ∧ (s.netUp p = true) ∧ (s.isTwin = false) ∧ (s.netCheck p m = (.pass, s1)) :=
  ⟨0, { msg b0 6 (bt 9 77) with rest := bt 9 77 ++ [99, 16, 138, 29, 115, 193, 186, 150] ++ List.replicate 0 0, fcs := 411965246 }, b0, (b0.netCheck 0 ({ msg b0 6 (bt 9 77) with rest := bt 9 77 ++ [99, 16, 138, 29, 115, 193, 186, 150] ++ List.replicate 0 0, fcs := 411965246 })).2, by decide +kernel, by decide +kernel, by decide +kernel, of_fst (by decide +kernel)⟩
def gr (s : State) (c : List (Nat × (Nat × Nat × Bool × Nat))) (mm : List Nat := []) : State :=
  odn { s with od := { s.od with compared := c, mismatch := mm ++ List.replicate (16 - mm.length) 0xFFFF, mismatchCount := mm.length, sdig := 77 } } [(2, 0, 3, 9)]
theorem witness_AiridMessages_2 : ∃ (addr bad good last : Nat) (rep : Bool) (s : State), (s.od.compared.find? (fun (x : Nat × (Nat × Nat × Bool × Nat)) => x.1 == addr) = some (addr, bad, good, rep, last)) ∧ (rep = true) ∧ (last + 4000 * (10 * s.net.hbInterval) ≤ s.now) ∧ (addr ≠ 0xFFFF) :=
  ⟨70, 0, 2, 5, true, gr b0 [(0x46, (0, 2, true, 5))] [0x46], by decide +kernel⟩
theorem witness_AiridMessages_3 : ∃ (addr bad good last : Nat) (rep : Bool) (s : State), (s.od.compared.find? (fun (x : Nat × (Nat × Nat × Bool × Nat)) => x.1 == addr) = some (addr, bad, good, rep, last)) ∧ (rep = false ∨ s.now < last + 4000 * (10 * s.net.hbInterval)) :=
  ⟨70, 0, 1, 999999, true, gr b0 [(0x46, (0, 1, true, 999999))] [3, 0x46, 0x47], by decide +kernel⟩
theorem witness_AiridMessages_4 : ∃ (p : Nat) (m : NetFrame) (s s1 : State), (m.typ = 7) ∧ (s.netUp p = true) ∧ (s.isTwin = false) ∧ (s.netCheck p m = (.pass, s1)) ∧ (s.rb Reg.rtcMeasCfg 3 = false) ∧ (s.rtcRuntime = false ∨ s.odNum 3 0 0xB ≠ 2 ∨ s.rtcHalted = true) :=
  ⟨0, { msg b0 7 [0,0,0,9,0,0,1,0] with rest := [0,0,0,9,0,0,1,0] ++ [45, 177, 236, 9, 116, 235, 163, 237] ++ List.replicate 14 0, fcs := 3339213303 }, b0, (b0.netCheck 0 ({ msg b0 7 [0,0,0,9,0,0,1,0] with rest := [0,0,0,9,0,0,1,0] ++ [45, 177, 236, 9, 116, 235, 163, 237] ++ List.replicate 14 0, fcs := 3339213303 })).2, by decide +kernel, by decide +kernel, by decide +kernel, of_fst (by decide +kernel), by decide +kernel, by decide +kernel⟩
theorem witness_AiridMessages_5 : ∃ (p : Nat) (m : NetFrame) (s s1 : State), 
    let quiet := fun (s : State) => (s.reg Reg.netSeq).toNat % 65536 ≠ 65535 ∧ (s.reg Reg.netSeq).toNat < 0xFFFFFFFE ∧
    ((s.reg Reg.netSeq).toNat + 1 < 0xF0000000 ∨ s.rb Reg.netStat 0 = true) ∧ s.rb Reg.netStat 1 = false ∧
    s.netAssigned = true ∧ s.isTwin = false
    (m.typ = 8) ∧ (s.netUp p = true) ∧ (quiet s) ∧ (s.netCheck p m = (.pass, s1)) :=
  ⟨0, { msg b0 8 [0,0,0,5] with rest := [0,0,0,5] ++ [250, 190, 245, 227, 251, 144, 232, 193] ++ List.replicate 18 0, fcs := 172570271 }, b0, (b0.netCheck 0 ({ msg b0 8 [0,0,0,5] with rest := [0,0,0,5] ++ [250, 190, 245, 227, 251, 144, 232, 193] ++ List.replicate 18 0, fcs := 172570271 })).2, by decide +kernel, by decide +kernel, by decide +kernel, of_fst (by decide +kernel)⟩
def r18 (s : State) (c : Nat) : State := ng (ring s 18 5 2 1 0x20001200 c 0) (fun n => { n with notifyDest := 0x46 })
theorem witness_AiridMessages_6 : ∃ s : State,
    let quiet := fun (s : State) => (s.reg Reg.netSeq).toNat % 65536 ≠ 65535 ∧ (s.reg Reg.netSeq).toNat < 0xFFFFFFFE ∧
    ((s.reg Reg.netSeq).toNat + 1 < 0xF0000000 ∨ s.rb Reg.netStat 0 = true) ∧ s.rb Reg.netStat 1 = false ∧
    s.netAssigned = true ∧ s.isTwin = false
    (quiet s) ∧ (s.runtimeRuns = true) ∧ (s.net.notifyDest ≠ 0xFFFF) ∧ (s.net.notify = none) ∧ (s.ringOn 18 = true) ∧ (s.ringCount 18 ≠ 0) :=
  ⟨r18 b0 3, by dsimp only; decide +kernel⟩
def nt (n : Nat) (sends : Nat) (s : State) : State := ng s (fun x => { x with notifyDest := 0x46, notify := some { entries := [[1,2],[3]], sends := sends, last := n, seqs := [4] } })
theorem witness_AiridMessages_7 : ∃ (n : NotifySt) (s : State), 
    let quiet := fun (s : State) => (s.reg Reg.netSeq).toNat % 65536 ≠ 65535 ∧ (s.reg Reg.netSeq).toNat < 0xFFFFFFFE ∧
    ((s.reg Reg.netSeq).toNat + 1 < 0xF0000000 ∨ s.rb Reg.netStat 0 = true) ∧ s.rb Reg.netStat 1 = false ∧
    s.netAssigned = true ∧ s.isTwin = false
    (quiet s) ∧ (s.runtimeRuns = true) ∧ (s.net.notify = some n) ∧ (n.last + 4000 ≤ s.now) :=
  ⟨((nt 5 1 b0).net.notify.getD {}), nt 5 1 b0, by dsimp only; decide +kernel⟩
theorem witness_AiridMessages_8 : ∃ (p : Nat) (m : NetFrame) (s s1 : State), 
    let quiet := fun (s : State) => (s.reg Reg.netSeq).toNat % 65536 ≠ 65535 ∧ (s.reg Reg.netSeq).toNat < 0xFFFFFFFE ∧
    ((s.reg Reg.netSeq).toNat + 1 < 0xF0000000 ∨ s.rb Reg.netStat 0 = true) ∧ s.rb Reg.netStat 1 = false ∧
    s.netAssigned = true ∧ s.isTwin = false
    (m.typ = 5) ∧ (s.netUp p = true) ∧ (quiet s) ∧ (s.netCheck p m = (.pass, s1)) :=
  ⟨0, { msg b0 5 [1,0,0,0] 0x45 with rest := [1,0,0,0] ++ [127, 86, 31, 75, 69, 154, 68, 189] ++ List.replicate 18 0, fcs := 1977312815 }, b0, (b0.netCheck 0 ({ msg b0 5 [1,0,0,0] 0x45 with rest := [1,0,0,0] ++ [127, 86, 31, 75, 69, 154, 68, 189] ++ List.replicate 18 0, fcs := 1977312815 })).2, by decide +kernel, by decide +kernel, by decide +kernel, of_fst (by decide +kernel)⟩

end Airid

namespace FlaskOwn

theorem witness_FlaskOwnAndClaims_0 : ∃ (who : Init) (s : State), (s.present 16 = true) ∧ (mayWrite who 16 s) :=
  ⟨.runtime, full, by decide +kernel⟩
theorem witness_FlaskOwnAndClaims_1 : ∃ s : State, (s.isTwin = true) ∧ (s.awake = true) ∧ (s.role = 2) ∧ (s.rb Reg.twnStat 4 = true) ∧ (s.rb Reg.twnStat 9 = true) ∧ (s.twn.kickAt + 4 ≤ s.now) :=
  ⟨tg (tw full 1 2 (F+L+OP)) (fun t => { t with kickAt := 5 }), by decide +kernel⟩
theorem witness_FlaskOwnAndClaims_2 : ∃ s : State, (s.now < s.twn.kickAt + 4) :=
  ⟨tg (tw full 1 2 (F+L+OP)) (fun t => { t with kickAt := 999999 }), by decide +kernel⟩
def fz (s : State) : State := tg s (fun t => { t with zoneAt := some 1000000 })
def hi (n : Nat) (s : State) : State := tg s (fun t => { t with ownHighAt := some n })
theorem witness_FlaskOwnAndClaims_4 : ∃ s : State,
    let quiet := fun (s : State) => s.rb Reg.twnStat 5 = false ∧ s.reg Reg.sysOwn = 0 ∧ s.zoneMirrorFresh = true ∧
    (∀ n, n < s.nActs → s.actMode n ≠ 1 ∧ (s.act1 n).moving = false) ∧ s.knb.commit = none ∧ s.knb.stalledInc = [] ∧ s.knabCtrVal 17 < 2 ^ 64 - 1 ∧
    (s.role = 1 → ∀ f ∈ s.od.fns.map Prod.fst, (s.fn f).state ≠ 1)
    (s.isStandby = true) ∧ (s.awake = true) ∧ (s.ownHighFor 2 = true) ∧ (quiet s) :=
  ⟨fz (hi 5 (tw full 1 1 (F+L+OH))), by dsimp only; decide +kernel⟩
theorem witness_FlaskOwnAndClaims_5 : ∃ s : State, (s.isStandby = false ∨ s.ownHighFor 2 = false) :=
  ⟨full, by decide +kernel⟩
theorem witness_FlaskOwnAndClaims_6 : ∃ s : State,
    let quiet := fun (s : State) => s.rb Reg.twnStat 5 = false ∧ s.reg Reg.sysOwn = 0 ∧ s.zoneMirrorFresh = true ∧
    (∀ n, n < s.nActs → s.actMode n ≠ 1 ∧ (s.act1 n).moving = false) ∧ s.knb.commit = none ∧ s.knb.stalledInc = [] ∧ s.knabCtrVal 17 < 2 ^ 64 - 1 ∧
    (s.role = 1 → ∀ f ∈ s.od.fns.map Prod.fst, (s.fn f).state ≠ 1)
    (s.isTwin = true) ∧ (s.awake = true) ∧ (s.role = 0) ∧ (s.pwr.b1.isSome = true) ∧ ((if s.rf Reg.twnStat 0 2 = 2 then (s.ownHighFor 2 && s.aliveLowFor 2) || s.ownHighFor 4000 else s.ownHighFor 2) = true) ∧ (quiet s) :=
  ⟨fz (hi 5 (tw full 1 0 (OH))), by dsimp only; decide +kernel⟩
theorem witness_FlaskOwnAndClaims_7 : ∃ s : State, (s.role ≠ 0 ∨ s.pwr.b1 = none ∨ s.ownHighFor 2 = false ∧ s.ownHighFor 4000 = false) :=
  ⟨tg (tw full 1 2 (F+L+OP)) (fun t => { t with kickAt := 5 }), by decide +kernel⟩
def du (s : State) : State := { s with zon := { s.zon with due := true } }
theorem witness_FlaskOwnAndClaims_8 : ∃ (s : State) (u : Nat), (s.awake = true) ∧ (s.twn.driveAt = some u) ∧ (u ≤ s.now) :=
  ⟨du (tg (tw full 2 2 (L+OP)) (fun t => { t with driveAt := some 5 })), 5, by decide +kernel⟩
theorem witness_FlaskOwnAndClaims_9 : ∃ (s : State) (u : Nat), (s.isTwin = true) ∧ (s.awake = true) ∧ (s.twn.bothLowAt = some u) ∧ (u + 8 ≤ s.now) ∧ (s.rb Reg.twnStat 9 = false) ∧ (s.twn.stuckDone = false) :=
  ⟨tg (tw full 1 1 0) (fun t => { t with bothLowAt := some 5 }), 5, by decide +kernel⟩
theorem witness_FlaskOwnAndClaims_10 : ∃ s : State, (s.twn.stuckDone = true ∨ s.twn.bothLowAt = none) :=
  ⟨full, by decide +kernel⟩
theorem witness_FlaskOwnAndClaims_11 : ∃ s : State, (s.isTwin = true) ∧ (s.twn.driveAt.isSome = true) ∧ (s.rf Reg.twnStat 0 2 = 2) ∧ (s.role = 2) :=
  ⟨du (tg (tw full 2 2 (L+OP)) (fun t => { t with driveAt := some 5 })), by decide +kernel⟩
theorem witness_FlaskOwnAndClaims_12 : ∃ s : State, (s.isTwin = true) ∧ (s.twn.driveAt = none ∨ s.rf Reg.twnStat 0 2 ≠ 2) :=
  ⟨tg (tw full 1 2 (F+L+OP)) (fun t => { t with kickAt := 5 }), by decide +kernel⟩
theorem witness_FlaskOwnAndClaims_13 : ∃ (cause : Nat) (s : State), (s.isTwin = true) ∧ (s.role ≠ 2) :=
  ⟨0, tg (tw full 1 1 (F+L)) (fun t => { t with ownHighAt := some 5 }), by decide +kernel⟩
theorem witness_FlaskOwnAndClaims_14 : ∃ (cause : Nat) (s : State), (s.isTwin = false ∨ s.role = 2) :=
  ⟨0, full, by decide +kernel⟩

end FlaskOwn

namespace SprueLink

theorem witness_SprueLinkAndMirrors_0 : ∃ s : State, (s.isTwin = true) ∧ (s.awake = true) ∧ (s.rb Reg.twnStat 6 = true) ∧ (s.rb Reg.twnStat 5 = false) ∧ ((∀ q ∈ s.od.txns, q.op < 0x80)) :=
  ⟨tw full 1 2 (OP+F+L), by decide +kernel⟩
theorem witness_SprueLinkAndMirrors_1 : ∃ s : State, (s.isTwin = true) ∧ (s.awake = true) ∧ (s.rb Reg.twnStat 6 = true) ∧ (s.rb Reg.twnStat 5 = true) :=
  ⟨setRegs (tw full 1 1 (F+L+X)) [(Reg.twnSwap, 1)], by decide +kernel⟩
theorem witness_SprueLinkAndMirrors_2 : ∃ s : State, (s.isTwin = false ∨ s.rb Reg.twnStat 6 = false) :=
  ⟨tw full 1 2 (OP+F), by decide +kernel⟩
def tks (a b : Nat) (s : State) : State := tg s (fun t => { t with ticksFrom := some a, lastTick := some b })
theorem witness_SprueLinkAndMirrors_3 : ∃ (s : State) (a : Nat), (s.isTwin = true) ∧ (s.awake = true) ∧ (s.rb Reg.twnStat 6 = false) ∧ (s.twn.ticksFrom = some a) ∧ (a + 4000 ≤ s.now) ∧ (s.role = 2 ∨ (∃ b, s.twn.lastTick = some b ∧ s.now ≤ b + 1)) ∧ (s.twn.partner = none ∨ s.pwr.rtIn = false ∨ (∃ h, s.twn.partner = some h ∧ s.role ≠ 2 ∧ h.role = 2 ∧
      h.position ≠ s.rf Reg.twnStat 0 2 ∧ h.rtVersion = s.od.rtVersion)) :=
  ⟨tks 5 999999 (tw full 1 1 F), 5, by decide +kernel⟩
theorem witness_SprueLinkAndMirrors_5 : ∃ (wires : List Nat) (s : State), (s.isTwin = false ∨ wiresDiscard wires = false) :=
  ⟨[], full, by decide +kernel⟩
theorem witness_SprueLinkAndMirrors_6 : ∃ (wires : List Nat) (s : State), (s.isTwin = true) ∧ (wiresDiscard wires = true) :=
  ⟨[], setRegs (tw full 1 1 (F+L+X)) [(Reg.twnSwap, 1)], by decide +kernel⟩
theorem witness_SprueLinkAndMirrors_7 : ∃ (tb : Nat) (lag : Int) (s : State), (s.isTwin = true) ∧ (s.awake = true) ∧ (s.role ≠ 2) :=
  ⟨0, 0, setRegs (tw full 1 1 (F+L+X)) [(Reg.twnSwap, 1)], by decide +kernel⟩
theorem witness_SprueLinkAndMirrors_8 : ∃ (tb : Nat) (lag : Int) (s : State), (s.isTwin = false ∨ s.role = 2) :=
  ⟨0, 0, tg (setRegs (tw full 1 2 (F+L+X)) [(Reg.twnSwap, 2)]) (fun t => { t with swapAt := some 77 }), by decide +kernel⟩
def st1 := tw full 1 1 (F+L)
def gs (s : State) : State := tg s (fun t => { t with runmap := [4, 9, 5] })
def runs (s : State) (n : Nat) : State := coef (fnr s 1) n [(0, 0x10004), (8, 0x101)]
def c0 (s : State) := setRegs s [(Reg.twnCtrl, 0)]
theorem witness_SprueLinkAndMirrors_9 : ∃ (slots : List Nat) (s : State), (s.mirrors = true) ∧ (s.rb Reg.twnStat 5 = false) :=
  ⟨[], c0 (gs (runs st1 4)), by decide +kernel⟩
theorem witness_SprueLinkAndMirrors_10 : ∃ (cls first tb n : Nat) (i u : Int) (s : State), (s.mirrors = true) ∧ (s.twn.grafts = []) ∧ (s.rb Reg.twnStat 5 = false) ∧ (s.rb Reg.twnCtrl 0 = false) ∧ (s.twn.started = []) ∧ (((s.twn.runmap.filter (fun m => s.slotClass m == cls % 4)).mergeSort (· ≤ ·))[first]? = some n) :=
  ⟨0, 0, 0, 4, 0, 0, (tg (c0 (gs (runs st1 4))) (fun t => { t with runmap := [4] })), by decide +kernel, by decide +kernel, by decide +kernel, by decide +kernel, by decide +kernel, by
    rw [show (tg (c0 (gs (runs st1 4))) (fun t => { t with runmap := [4] })).twn.runmap.filter (fun m => (tg (c0 (gs (runs st1 4))) (fun t => { t with runmap := [4] })).slotClass m == 0 % 4) = [4] by decide +kernel, List.mergeSort_singleton]; rfl⟩
theorem witness_SprueLinkAndMirrors_11 : ∃ (a : ActMirror) (f : FanMirror) (auto : Bool) (seq : Option Nat) (s : State), (s.mirrors = true) ∧ (s.role ≠ 2) ∧ (a.ch < s.nActs) ∧ (f.fan < s.nFans) :=
  ⟨{}, {}, false, none, setRegs (tw full 1 1 (F+L+X)) [(Reg.twnSwap, 1)], by decide +kernel⟩
theorem witness_SprueLinkAndMirrors_12 : ∃ (auto : Bool) (seq : Option Nat) (s : State), (s.isTwin = true) ∧ (s.role = 2) ∧ (s.rb Reg.twnStat 9 = true) ∧ (s.twn.drives = false) ∧ (s.twn.driveAt = none) :=
  ⟨false, none, tw full 1 2 (OP+F+L), by decide +kernel⟩
theorem witness_SprueLinkAndMirrors_13 : ∃ (z : ZoneMirror) (n v : Nat) (w x : Word) (s : State), (s.mirrors = true) ∧ (s.twn.configDone = false ∨ s.rb Reg.twnStat 4 = true) ∧ (z.zone < s.nZones) ∧ (n < s.nSlots) ∧ (v < 256) ∧ (s.ringOn 10 = false) :=
  ⟨{}, 0, 0, 0, 0, setRegs (tw full 1 1 (F+L+X)) [(Reg.twnSwap, 1)], by decide +kernel⟩
theorem witness_SprueLinkAndMirrors_14 : ∃ s : State, (s.mirrors = true) ∧ (s.role = 0) ∧ (s.rb Reg.twnStat 4 = false) ∧ (s.ringOn 10 = false) :=
  ⟨tg (tw full 1 0 L) (fun t => { t with configDone := true }), by decide +kernel⟩
theorem witness_SprueLinkAndMirrors_15 : ∃ (c : Instr) (s : State), (s.mirrors = false) ∧ (s.role ≠ 2) ∧ ((∃ l, c = .runmapToken l) ∨ (∃ k f b e, c = .graftToken k f b e) ∨ (∃ a f u q, c = .mirrorToken a f u q) ∨ (∃ z p v, c = .zoneToken z p v)) :=
  ⟨.runmapToken [1], full, by decide +kernel, by decide +kernel, Or.inl ⟨[1], rfl⟩⟩
theorem witness_SprueLinkAndMirrors_16 : ∃ (response : Bool) (record : List Byte) (tag : Nat) (s : State), (s.isTwin = true) ∧ (s.awake = true) ∧ (s.rb Reg.twnStat 6 = true) ∧ (response = false ∨ (∀ q ∈ s.od.txns, q.op < 0x80)) ∧ (s.ringFits 10 16) :=
  ⟨false, [], 0, setRegs (tw full 1 1 (F+L+X)) [(Reg.twnSwap, 1)], by decide +kernel⟩
def up (s : State) : State := setRegs s [(Reg.netCtrl, 3), (Reg.netpCfg 0, 1), (Reg.netpStat 0, 3), (Reg.netAddr, 0x45), (Reg.netSeq, 100)]
def r10 (s : State) : State := ring s 10 2 2 1 0x20004000
theorem witness_SprueLinkAndMirrors_17 : ∃ (m : NetFrame) (s : State), (s.isTwin = true) ∧ (s.awake = true) ∧ (s.rb Reg.twnStat 6 = true) ∧ (s.netOwnPort 0 = true) ∧ (s.netUp 0 = true) :=
  ⟨{}, up (r10 st1), by decide +kernel⟩
theorem witness_SprueLinkAndMirrors_18 : ∃ (m : NetFrame) (s : State), (s.isTwin = true) ∧ (s.awake = true) ∧ (s.rb Reg.twnStat 6 = true) ∧ (s.netOwnPort 0 = false) ∧ (s.netOwnPort 1 = true) ∧ (s.netUp 1 = true) :=
  ⟨{}, up (tw full 2 1 L), by decide +kernel⟩
theorem witness_SprueLinkAndMirrors_19 : ∃ (m : NetFrame) (s : State), (s.role ≠ 2) :=
  ⟨{}, setRegs (tw full 1 1 (F+L+X)) [(Reg.twnSwap, 1)], by decide +kernel⟩

end SprueLink

namespace FlaskHello

def rv (s : State) : State := odg s (fun o => { o with rtVersion := 3 })
def rt0 (s : State) : State := pw s (fun p => { p with rtIn := false })
theorem witness_FlaskFormation_0 : ∃ (h : Hello) (s : State), 
    let live := fun (s : State) => s.isTwin = true ∧ s.awake = true
    (live s) ∧ (s.pwr.rtIn = false ∨ (s.rb Reg.twnStat 6 = false ∧ (h.rtVersion ≠ 0 ∨ h.role ≠ 0))) :=
  ⟨{ position := 1, rtVersion := 3, role := 0, heat := 5 }, rt0 (rv (tw full 1 0 L)), by dsimp only; decide +kernel⟩
theorem witness_FlaskFormation_1 : ∃ (h : Hello) (s : State), 
    let live := fun (s : State) => s.isTwin = true ∧ s.awake = true
    (live s) ∧ (s.pwr.rtIn = true) ∧ (h.rtVersion = 0) ∧ (h.role = 0) :=
  ⟨{ position := 2, rtVersion := 0, role := 0 }, rv (tw full 1 2 (F+L)), by dsimp only; decide +kernel⟩
theorem witness_FlaskFormation_2 : ∃ (h : Hello) (s : State), 
    let live := fun (s : State) => s.isTwin = true ∧ s.awake = true
    let ends := fun (h : Hello) (s : State) => s.role = 2 ∧ h.role = 1 ∧ s.twn.configDone = true ∧ s.rb Reg.twnStat 4 = false
    (live s) ∧ (s.pwr.rtIn = true) ∧ (h.rtVersion ≠ 0 ∨ h.role ≠ 0) ∧ (s.rb Reg.twnStat 6 = true) ∧ (ends h s) :=
  ⟨{ position := 2, rtVersion := 3, role := 1 }, tg (rv (tw full 1 2 L)) (fun t => { t with configDone := true }), by dsimp only; decide +kernel⟩
theorem witness_FlaskFormation_3 : ∃ (h : Hello) (s : State), 
    let live := fun (s : State) => s.isTwin = true ∧ s.awake = true
    let ends := fun (h : Hello) (s : State) => s.role = 2 ∧ h.role = 1 ∧ s.twn.configDone = true ∧ s.rb Reg.twnStat 4 = false
    (live s) ∧ (s.pwr.rtIn = true) ∧ (h.rtVersion ≠ 0 ∨ h.role ≠ 0) ∧ (s.rb Reg.twnStat 6 = true) ∧ (¬ends h s) ∧ (h.position = s.rf Reg.twnStat 0 2) :=
  ⟨{ position := 1, rtVersion := 3, role := 0, heat := 5 }, rv (tw full 1 2 (F+L)), by dsimp only; decide +kernel⟩
theorem witness_FlaskFormation_4 : ∃ (h : Hello) (s : State), 
    let live := fun (s : State) => s.isTwin = true ∧ s.awake = true
    let ends := fun (h : Hello) (s : State) => s.role = 2 ∧ h.role = 1 ∧ s.twn.configDone = true ∧ s.rb Reg.twnStat 4 = false
    (live s) ∧ (s.pwr.rtIn = true) ∧ (h.rtVersion ≠ 0 ∨ h.role ≠ 0) ∧ (s.rb Reg.twnStat 6 = true) ∧ (¬ends h s) ∧ (h.position ≠ s.rf Reg.twnStat 0 2) ∧ (s.role = 2) ∧ (h.rtVersion = s.od.rtVersion) ∧ (h.role ≠ 2) ∧ (s.rb Reg.twnStat 4 = false) :=
  ⟨{ position := 2, rtVersion := 3, role := 0, heat := 5 }, tg (rv (tw full 1 2 L)) (fun t => { t with configDone := true }), by dsimp only; decide +kernel⟩
theorem witness_FlaskFormation_5 : ∃ (h : Hello) (s : State), 
    let live := fun (s : State) => s.isTwin = true ∧ s.awake = true
    (live s) ∧ (s.pwr.rtIn = true) ∧ (h.rtVersion ≠ 0 ∨ h.role ≠ 0) ∧ (s.rb Reg.twnStat 6 = true) ∧ (h.position ≠ s.rf Reg.twnStat 0 2) ∧ (s.role ≠ 2) ∧ (h.role = 2) ∧ (h.rtVersion ≠ s.od.rtVersion) ∧ (s.rf Reg.pwrStrap 2 2 < 2) :=
  ⟨{ position := 2, rtVersion := 4, role := 2 }, rv (tw full 1 0 L), by dsimp only; decide +kernel⟩
def strap (s : State) (n : Nat) : State := setRegs s [(Reg.pwrStrap, 4*n)]
theorem witness_FlaskFormation_6 : ∃ (h : Hello) (s : State), 
    let live := fun (s : State) => s.isTwin = true ∧ s.awake = true
    (live s) ∧ (s.pwr.rtIn = true) ∧ (h.rtVersion ≠ 0 ∨ h.role ≠ 0) ∧ (s.rb Reg.twnStat 6 = true) ∧ (h.position ≠ s.rf Reg.twnStat 0 2) ∧ (s.role ≠ 2) ∧ (h.role = 2) ∧ (h.rtVersion ≠ s.od.rtVersion) ∧ (2 ≤ s.rf Reg.pwrStrap 2 2) :=
  ⟨{ position := 2, rtVersion := 4, role := 2 }, strap (rv (tw full 1 0 L)) 2, by dsimp only; decide +kernel⟩
theorem witness_FlaskFormation_7 : ∃ (h : Hello) (s : State), 
    let live := fun (s : State) => s.isTwin = true ∧ s.awake = true
    (live s) ∧ (s.pwr.rtIn = true) ∧ (h.rtVersion ≠ 0 ∨ h.role ≠ 0) ∧ (s.rb Reg.twnStat 6 = true) ∧ (h.position ≠ s.rf Reg.twnStat 0 2) ∧ (s.role ≠ 2) ∧ (h.role = 2) ∧ (h.rtVersion = s.od.rtVersion) :=
  ⟨{ position := 2, rtVersion := 3, role := 2 }, rv (tw full 1 0 L), by dsimp only; decide +kernel⟩
theorem witness_FlaskFormation_8 : ∃ (h : Hello) (s : State), 
    let live := fun (s : State) => s.isTwin = true ∧ s.awake = true
    let ends := fun (h : Hello) (s : State) => s.role = 2 ∧ h.role = 1 ∧ s.twn.configDone = true ∧ s.rb Reg.twnStat 4 = false
    (live s) ∧ (s.pwr.rtIn = true) ∧ (h.rtVersion ≠ 0 ∨ h.role ≠ 0) ∧ (s.rb Reg.twnStat 6 = true) ∧ (¬ends h s) ∧ (h.position ≠ s.rf Reg.twnStat 0 2) ∧ ((s.role = 2 ↔ h.role = 2) ∨ s.role = 2 ∧ h.rtVersion ≠ s.od.rtVersion) :=
  ⟨{ position := 2, rtVersion := 3, role := 0, heat := 5 }, rv (tw full 1 0 L), by dsimp only; decide +kernel⟩
def fs (s : State) : State := tg s (fun t => { t with formSend := true })
theorem witness_FlaskFormation_9 : ∃ s : State,
    let live := fun (s : State) => s.isTwin = true ∧ s.awake = true
    (live s) ∧ (s.role = 2) ∧ (s.rb Reg.twnStat 6 = true) ∧ (s.twn.formSend = true) ∧ ((∀ x ∈ s.twn.tx, tokenConfig x = false)) ∧ (s.tb.running = true) ∧ (s.chillNow = false ∨ s.chillWaits = false) :=
  ⟨fs (rv (tw full 1 2 L)), by dsimp only; decide +kernel⟩
theorem witness_FlaskFormation_10 : ∃ (h : Hello) (s : State), (s.isTwin = false) :=
  ⟨{ position := 1, rtVersion := 3, role := 0, heat := 5 }, full, by decide +kernel⟩
theorem witness_FlaskFormation_15 : ∃ (last nvOk : Bool) (heat hdig sdig : Nat) (members : List (Nat × OdVal)) (run : List Nat) (s : State), (s.role = 2 ∨ s.pwr.rtIn = false ∨ (s.twn.cand = false ∧ s.rb Reg.twnStat 4 = false)) :=
  ⟨false, false, 0, 0, 0, [], [], full, by decide +kernel⟩
theorem witness_FlaskFormation_18 : ∃ (kind offset total : Nat) (data : List Byte) (s : State), (s.isTwin = false ∨ s.pourOpen = false) :=
  ⟨0, 0, 0, [], full, by decide +kernel⟩

end FlaskHello

namespace FlaskConfig

def rv (s : State) : State := odg s (fun o => { o with rtVersion := 3 })
def cand : State := tg (rv (tw full 1 0 L)) (fun t => { t with partner := some {}, cand := true })
theorem witness_FlaskFormation_12 : ∃ (heat hdig sdig : Nat) (members : List (Nat × OdVal)) (run : List Nat) (nvOk : Bool) (s : State), 
    let live := fun (s : State) => s.isTwin = true ∧ s.awake = true
    (live s) ∧ (s.role ≠ 2) ∧ (s.pwr.rtIn = true) ∧ (s.rb Reg.twnStat 6 = true) ∧ (s.twn.cand = true ∨ s.rb Reg.twnStat 4 = true) ∧ (s.ringFits 10 16) ∧ 
    let persistent := fun (p : Nat × OdVal) => match odRow p.1 with | some r => r.persist | none => false
    let set := ((s.twn.config ++ members).filter persistent).foldl (fun l p => Tab.put odDefault l p.1 p.2)
       (s.od.committed.filter (fun p => !persistent p))
    (hdig % 2 ^ 64 ≠ s.odDigest set OdRow.persist) :=
  ⟨0, (cand.odDigest [] OdRow.persist) + 1, 0, [], [], false, cand, by decide +kernel, by decide +kernel, by decide +kernel, by decide +kernel, by decide +kernel, by decide +kernel,
    fun h => absurd (h.trans (congrArg (fun l => cand.odDigest l OdRow.persist) (by decide +kernel : _ = ([] : List (Nat × OdVal))))) (by have := odDigest_lt cand [] OdRow.persist; omega)⟩
theorem witness_FlaskFormation_13 : ∃ (heat hdig sdig : Nat) (members : List (Nat × OdVal)) (run : List Nat) (nvOk : Bool) (s : State), 
    let live := fun (s : State) => s.isTwin = true ∧ s.awake = true
    (live s) ∧ (s.role ≠ 2) ∧ (s.pwr.rtIn = true) ∧ (s.rb Reg.twnStat 6 = true) ∧ (s.twn.cand = true ∨ s.rb Reg.twnStat 4 = true) ∧ (s.ringFits 10 16) ∧ 
    let persistent := fun (p : Nat × OdVal) => match odRow p.1 with | some r => r.persist | none => false
    let set := ((s.twn.config ++ members).filter persistent).foldl (fun l p => Tab.put odDefault l p.1 p.2)
       (s.od.committed.filter (fun p => !persistent p))
    (hdig % 2 ^ 64 = s.odDigest set OdRow.persist) ∧ (nvOk = true) ∧ (s.nvFits (s.nvOfSet set) = true) ∧ (s.knb.nvFault = false) ∧ (s.knb.commit = none) ∧ (s.ringBelow 10 (knabPage 0)) ∧ (s.rb Reg.twnStat 4 = false) ∧ (run = []) ∧ ((∀ f ∈ s.od.fns.map Prod.fst, (s.fn f).state = 0)) :=
  ⟨0, cand.odDigest [] OdRow.persist, 0, [], [], true, cand, by decide +kernel, by decide +kernel, by decide +kernel, by decide +kernel, by decide +kernel, by decide +kernel, (Nat.mod_eq_of_lt (odDigest_lt _ _ _)).trans (congrArg (fun l => cand.odDigest l OdRow.persist) (by decide +kernel)),
    by decide +kernel, by decide +kernel, by decide +kernel, by decide +kernel, by decide +kernel, by decide +kernel, by decide +kernel, by decide +kernel⟩
theorem witness_FlaskFormation_14 : ∃ (heat hdig sdig : Nat) (members : List (Nat × OdVal)) (run : List Nat) (nvOk : Bool) (s : State), 
    let live := fun (s : State) => s.isTwin = true ∧ s.awake = true
    (live s) ∧ (s.role ≠ 2) ∧ (s.pwr.rtIn = true) ∧ (s.rb Reg.twnStat 6 = true) ∧ (s.twn.cand = true ∨ s.rb Reg.twnStat 4 = true) ∧ (s.ringFits 10 16) ∧ 
    let persistent := fun (p : Nat × OdVal) => match odRow p.1 with | some r => r.persist | none => false
    let set := ((s.twn.config ++ members).filter persistent).foldl (fun l p => Tab.put odDefault l p.1 p.2)
       (s.od.committed.filter (fun p => !persistent p))
    (hdig % 2 ^ 64 = s.odDigest set OdRow.persist) ∧ (nvOk = false ∨ s.nvFits (s.nvOfSet set) = false) ∧ (s.knb.nvFault = false) :=
  ⟨0, cand.odDigest [] OdRow.persist, 0, [], [], false, cand, by decide +kernel, by decide +kernel, by decide +kernel, by decide +kernel, by decide +kernel, by decide +kernel, (Nat.mod_eq_of_lt (odDigest_lt _ _ _)).trans (congrArg (fun l => cand.odDigest l OdRow.persist) (by decide +kernel)),
    Or.inl rfl, by decide +kernel⟩

end FlaskConfig

namespace FlaskSolo

def strap (s : State) (n : Nat) : State := setRegs s [(Reg.pwrStrap, 4*n)]
def pourOn (s : State) (src : Nat) : State := setRegs (pw s (fun p => { p with rtIn := false })) [(Reg.pwrPour, 0x80 + src*0x10000)]
def tp (s : State) : State := strap (pourOn (tw live 1 0 L) 2) 3
theorem witness_FlaskFormation_16 : ∃ (kind offset total : Nat) (data : List Byte) (s : State), (s.isTwin = true) ∧ (s.pourOpen = true) ∧ (s.rf Reg.pwrPour 16 2 = 2) ∧ (kind ≤ 1) ∧ (s.pourStatus kind < 3) ∧ (offset = (s.pourOf kind).image.length) :=
  ⟨0, 0, 0, [], tp full, by decide +kernel⟩
def par (s : State) (l : Nat) : State := pw s (fun p => { p with pourRt := { length := 20, image := List.replicate l 1 } })
theorem witness_FlaskFormation_17 : ∃ (kind offset total : Nat) (data : List Byte) (s : State), (s.isTwin = true) ∧ (s.pourOpen = true) ∧ (s.rf Reg.pwrPour 16 2 = 2) ∧ (kind ≤ 1) ∧ (s.pourStatus kind < 3) ∧ (offset ≠ (s.pourOf kind).image.length) ∧ (s.rf Reg.pwrStrap 2 2 = 3) :=
  ⟨0, 0, 0, [], par (tp full) 5, by decide +kernel⟩
def ha (n : Nat) (s : State) : State := tg s (fun t => { t with helloAt := some n })
theorem witness_FlaskFormation_19 : ∃ (u : Nat) (s : State), (s.twn.helloAt = some u) ∧ (s.pourOpen = true) ∧ (s.rf Reg.pwrPour 16 2 = 2) ∧ (u + 200 ≤ s.now) ∧ (s.rb Reg.twnStat 7 = false ∨ s.twn.partner = none ∨ (∃ h, s.twn.partner = some h ∧ h.rtVersion = 0)) ∧ (s.rf Reg.pwrStrap 2 2 = 3) :=
  ⟨5, ha 5 (tp full), by decide +kernel⟩
theorem witness_FlaskFormation_20 : ∃ (u : Nat) (s : State), ∃ h, (s.twn.helloAt = some u) ∧ (s.pourOpen = true) ∧ (s.rf Reg.pwrPour 16 2 = 2) ∧ (u + 200 ≤ s.now) ∧ (s.rb Reg.twnStat 7 = true) ∧ (s.twn.partner = some h) ∧ (h.rtVersion ≠ 0) :=
  ⟨5, ha 5 (setRegs (tg (tp full) (fun t => { t with partner := some { rtVersion := 3 } })) [(Reg.twnStat, 1+L+AL)]), { position := 0, sysId := 0, rtVersion := 3, cfgVersion := 0, heat := 0, role := 0 }, by decide +kernel⟩

end FlaskSolo

namespace Swap

def sv (s : State) : State := odg s (fun o => { o with serving := true })
def swf (l : List Nat) (s : State) : State := tg s (fun t => { t with swapFns := l ++ List.replicate (16 - l.length) 0xFFFF })
def act (b : Nat) := sv (tw full 1 2 (F+L+b))
theorem witness_SwapProcedure_0 : ∃ s : State, (s.swapServes = true) ∧ (s.isTwin = true) ∧ (s.swapState = 0) ∧ (s.rb Reg.twnStat 4 = true) ∧ (s.swapSet ≠ []) ∧ ((∀ f ∈ s.swapSet, fnDefined f = true ∧ (s.fn f).state ≠ 1 ∧ (s.fn f).state ≠ 3)) :=
  ⟨swf [3] (act 0), by decide +kernel⟩
theorem witness_SwapProcedure_1 : ∃ s : State, (s.rb Reg.twnStat 4 = false ∨ s.swapState ≠ 0 ∨ s.swapSet = []) :=
  ⟨full, by decide +kernel⟩
def ss (n : Nat) (s : State) : State := setRegs s [(Reg.twnSwap, n)]
theorem witness_SwapProcedure_2 : ∃ s : State, (s.swapServes = true) ∧ (s.isTwin = true) ∧ (1 ≤ s.swapState) ∧ (s.swapState < 4) ∧ (s.rb Reg.twnStat 10 = true) :=
  ⟨ss 1 (act (X+CV)), by decide +kernel⟩
theorem witness_SwapProcedure_4 : ∃ s : State, (s.rb Reg.twnStat 10 = false ∨ s.swapState = 0 ∨ s.swapState = 4) :=
  ⟨full, by decide +kernel⟩
theorem witness_SwapProcedure_5 : ∃ s : State, (s.swapState = 0 ∨ s.swapState = 4) :=
  ⟨full, by decide +kernel⟩
def at_ (u : Nat) (s : State) : State := tg s (fun t => { t with swapAt := some u })
theorem witness_SwapProcedure_6 : ∃ (s : State) (u : Nat), 
    let boundary := fun (s : State) => s.isTwin = true ∧ s.awake = true ∧ s.tb.running = true ∧ s.atBoundary 0 = true
    (boundary s) ∧ (s.twn.swapAt = some u) ∧ (u ≤ s.tb.count) ∧ (s.role = 2) ∧ (s.od.txns = []) :=
  ⟨at_ 5 (act 0), 5, by dsimp only; decide +kernel⟩
def stb (b : Nat) := sv (tw full 2 1 (F+L+b))
theorem witness_SwapProcedure_7 : ∃ (s : State) (u : Nat), 
    let boundary := fun (s : State) => s.isTwin = true ∧ s.awake = true ∧ s.tb.running = true ∧ s.atBoundary 0 = true
    (boundary s) ∧ (s.twn.swapAt = some u) ∧ (u ≤ s.tb.count) ∧ (s.role = 1) ∧ ((∀ n, n < s.nActs → s.actMode n ≠ 1 ∧ (s.act1 n).moving = false)) :=
  ⟨at_ 5 (stb X), 5, by dsimp only; decide +kernel⟩
theorem witness_SwapProcedure_8 : ∃ s : State, (s.twn.swapAt = none ∨ s.atBoundary 0 = false) :=
  ⟨full, by decide +kernel⟩
theorem witness_SwapProcedure_9 : ∃ (ok : Bool) (s : State), (s.twn.ownDone = none) ∧ (s.isTwin = true) ∧ ((s.swapServes = true ∧ s.swapState = 3) ∨ (s.isStandby = true ∧ s.runtimeRuns = true ∧ s.swapState = 4)) ∧ 
    let nv := s.nvOfSet s.od.committed
    let fits := s.nvFits nv
    (s.knb.nvFault = false) ∧ (s.knb.commit = none) ∧ (ok = true) ∧ (fits = true) :=
  ⟨true, ss 3 (act X), by dsimp only; decide +kernel⟩
theorem witness_SwapProcedure_10 : ∃ (ok : Bool) (s : State), (s.twn.ownDone = none) ∧ (s.isTwin = true) ∧ ((s.swapServes = true ∧ s.swapState = 3) ∨ (s.isStandby = true ∧ s.runtimeRuns = true ∧ s.swapState = 4)) ∧ 
    let nv := s.nvOfSet s.od.committed
    let fits := s.nvFits nv
    (ok = false ∨ fits = false ∨ s.knb.nvFault = true) :=
  ⟨false, ss 3 (act X), by dsimp only; decide +kernel⟩
theorem witness_SwapProcedure_11 : ∃ s : State, (s.swapServes = true) ∧ (s.isTwin = true) ∧ (s.swapState = 1) :=
  ⟨swf [3] (ss 1 (act X)), by decide +kernel⟩
theorem witness_SwapProcedure_12 : ∃ (ok : Bool) (s : State), (s.swapServes = true) ∧ (s.isTwin = true) ∧ (s.swapState = 1) ∧ (s.twn.digPartner = s.twn.digC) :=
  ⟨false, swf [3] (ss 1 (act X)), by decide +kernel⟩
theorem witness_SwapProcedure_13 : ∃ s : State, (s.swapState ≠ 1) :=
  ⟨full, by decide +kernel⟩
def dn (a b : Option Bool) (s : State) : State := tg s (fun t => { t with ownDone := a, peerDone := b })
theorem witness_SwapProcedure_14 : ∃ (s : State) (a b : Bool), 
    let boundary := fun (s : State) => s.isTwin = true ∧ s.awake = true ∧ s.tb.running = true ∧ s.atBoundary 0 = true
    (boundary s) ∧ (s.swapState = 4) ∧ (s.twn.ownDone = some a) ∧ (s.twn.peerDone = some b) ∧ (s.od.txns = []) :=
  ⟨dn (some true) (some true) (ss 4 (stb X)), true, true, by dsimp only; decide +kernel⟩
theorem witness_SwapProcedure_15 : ∃ s : State, (s.twn.ownDone = none ∨ s.twn.peerDone = none) :=
  ⟨full, by decide +kernel⟩
theorem witness_SwapProcedure_16 : ∃ s : State, ∃ (fns : List Nat) (begins : Bool), (s.isTwin = true) ∧ (s.awake = true) ∧ (s.role = 1) ∧ (s.rb Reg.twnStat 6 = true) ∧ (fns.length ≤ 16) ∧ (s.swapState = 0) :=
  ⟨at_ 5 (stb X), [], false, by decide +kernel⟩
theorem witness_SwapProcedure_17 : ∃ s : State, ∃ u : Nat, (s.isTwin = true) ∧ (s.awake = true) ∧ (s.role = 1) ∧ (s.rb Reg.twnStat 6 = true) ∧ (s.rb Reg.twnStat 5 = true) :=
  ⟨ss 4 (stb X), 0, by decide +kernel⟩
theorem witness_SwapProcedure_18 : ∃ s : State, ∃ d : Nat, (s.isTwin = true) ∧ (s.awake = true) ∧ (s.role = 1) ∧ (s.rb Reg.twnStat 6 = true) ∧ (s.rb Reg.twnStat 5 = true) ∧ (s.swapState ≠ 0) ∧ (s.swapState ≠ 4) :=
  ⟨ss 1 (stb X), 0, by decide +kernel⟩
theorem witness_SwapProcedure_19 : ∃ s : State, (s.isTwin = true) ∧ (s.awake = true) ∧ (s.role = 1) ∧ (s.rb Reg.twnStat 6 = true) ∧ (s.swapState = 3) :=
  ⟨ss 3 (stb (X+CV)), by decide +kernel⟩
theorem witness_SwapProcedure_20 : ∃ s : State, ∃ ok : Bool, (s.isTwin = true) ∧ (s.awake = true) ∧ (s.role = 1) ∧ (s.rb Reg.twnStat 6 = true) ∧ (s.swapState = 4) :=
  ⟨ss 4 (stb X), false, by decide +kernel⟩
theorem witness_SwapProcedure_22 : ∃ s : State, (s.isTwin = true) ∧ (s.awake = true) ∧ (s.role = 1) ∧ (s.rb Reg.twnStat 6 = true) ∧ (s.swapState = 1) ∧ ((∀ f ∈ s.swapSet, (s.fn f).state = 0 ∧ f ∉ s.twn.runC)) ∧ ((∀ p ∈ s.od.committed, ∃ r, odRow p.1 = some r ∧ r.persist = true)) :=
  ⟨ss 1 (stb X), by decide +kernel⟩
theorem witness_SwapProcedure_23 : ∃ (c : Bool) (s : State), (s.isTwin = true) ∧ (s.awake = true) ∧ (s.role = 2) ∧ (s.rb Reg.twnStat 6 = true) ∧ (s.rb Reg.twnStat 5 = true) :=
  ⟨false, swf [3] (ss 1 (act X)), by decide +kernel⟩
theorem witness_SwapProcedure_24 : ∃ (ctl : SwapCtl) (s : State), (s.isTwin = false ∨ s.rb Reg.twnStat 6 = false) :=
  ⟨.begun [3], full, by decide +kernel⟩

end Swap

end Sys2Proof.Tests
end

