-- ==== Sys2Proof/Tests/WitnessC.lean ====
section
/-! SUPPORT. Witnesses for chapters 11 to 15 (power, pour, chill, host port, sensor buses, events, rings, the ladle, the Knab store): witness_<Statement>_<k> shows a state and operands that meet all hypotheses of
clause k of the statement at once. Clauses are counted from 0 in the order of the text; one whose hypotheses are among those of another has no witness of its own. -/

set_option linter.unusedVariables false
set_option Elab.async false

namespace Sys2Proof.Tests
open Sys2Proof Sys2Proof.Machine

namespace Power

theorem witness_SuppliesAndResets_0 : ∃ (pins : StrapPins) (dip : Bool) (s : State), (s.pwr.good = false ∨ (s.resetFree = true ∧ s.shakeStep = 1)) :=
  ⟨{}, false, State.reset, by decide +kernel⟩
theorem witness_SuppliesAndResets_1 : ∃ (pins : StrapPins) (dip : Bool) (s : State), (s.pwr.good = true) ∧ (s.pwr.held.isSome = true ∨ s.shakeStep ≠ 1) :=
  ⟨{}, false, full, by decide +kernel⟩
theorem witness_SuppliesAndResets_2 : ∃ (j : Nat) (s : State), (s.pwr.good = true) ∧ (s.knb.commit = none) ∧ (s.ldl.buf = []) ∧ (s.log.pending = []) :=
  ⟨0, State.reset, by decide +kernel⟩
def off (s : State) : State := pw s (fun p => { p with good := false })
def busy (s : State) : State := setMem (setRegs (fnr (odn (own s 11) [(3,0,0xB,0)]) 3) [(Reg.netSeq, 5), (Reg.rtcCtrl, 0), (Reg.rtcStat, 4), (Reg.fanRun, 7)]) [(0x50000100, 4), (0x40000010, 9)]
theorem witness_SuppliesAndResets_5 : ∃ s : State, (s.resetFree = false) :=
  ⟨off (busy full), by decide +kernel⟩
theorem witness_SuppliesAndResets_6 : ∃ s : State, (s.asleep = true) ∧ (s.resetFree = true) :=
  ⟨setRegs (busy full) [(Reg.pwrStat, 2)], by decide +kernel⟩
theorem witness_SuppliesAndResets_7 : ∃ s : State, (s.asleep = false) :=
  ⟨State.reset, by decide +kernel⟩
theorem witness_SuppliesAndResets_10 : ∃ (s : State) (u : Nat), (s.resetFree = true) ∧ (s.twn.forcedAt = some u) ∧ (u ≤ s.now) :=
  ⟨tg (tw full 1 2 OP) (fun t => { t with forcedAt := some 5 }), 5, by decide +kernel⟩
theorem witness_SuppliesAndResets_11 : ∃ s : State, (s.awake = true) ∧ (s.rb Reg.pwrWdog 16 = true) ∧ (s.pwr.wdLast + 4 * max 100 (min 10000 (s.rf Reg.pwrWdog 0 14)) ≤ s.now) :=
  ⟨setRegs full [(Reg.pwrWdog, 0x10064)], by decide +kernel⟩
theorem witness_SuppliesAndResets_12 : ∃ s : State, (s.rb Reg.pwrWdog 16 = false ∨ s.now < s.pwr.wdLast + 400) :=
  ⟨State.reset, by decide +kernel⟩
theorem witness_SuppliesAndResets_13 : ∃ s : State, (s.awake = true) ∧ (s.rb Reg.pwrWdog 16 = true) ∧ (s.rb Reg.pwrStat 2 = false) ∧ (s.pwr.wdLast + 2 * max 100 (min 10000 (s.rf Reg.pwrWdog 0 14)) ≤ s.now) :=
  ⟨setRegs full [(Reg.pwrWdog, 0x10064)], by decide +kernel⟩
theorem witness_SuppliesAndResets_14 : ∃ (who : Init) (s : State), (mayWrite who 1 s) ∧ (s.knb.owed = []) :=
  ⟨.runtime, State.reset, by decide +kernel⟩
theorem witness_SuppliesAndResets_15 : ∃ (who : Init) (s : State) (c k : Nat), (mayWrite who 1 s) ∧ (s.knb.owed = [(c, k)]) ∧ (s.knb.commit = none) ∧ (s.knb.stalledInc = []) ∧ (c < 32) ∧ (s.knabCtrVal c + k < 2 ^ 64) :=
  ⟨.runtime, { full with knb := { full.knb with owed := [(3, 9)] } }, 3, 9, by decide +kernel⟩
def hd (n : Nat) (s : State) : State := pw s (fun p => { p with held := some n })
theorem witness_SuppliesAndResets_16 : ∃ s : State, (s.pwr.held = some 2) :=
  ⟨hd 2 (setRegs State.reset [(Reg.pwrShake, 1)]), by decide +kernel⟩
theorem witness_SuppliesAndResets_17 : ∃ s : State, (s.pwr.held = some 5) ∧ (s.pwr.nrstLow = false) :=
  ⟨hd 5 State.reset, by decide +kernel⟩
theorem witness_SuppliesAndResets_18 : ∃ s : State, (s.pwr.held = some 5) ∧ (s.pwr.nrstLow = true) :=
  ⟨pw (hd 5 State.reset) (fun p => { p with nrstLow := true }), by decide +kernel⟩
theorem witness_SuppliesAndResets_19 : ∃ s : State, (s.pwr.held ≠ some 2) :=
  ⟨State.reset, by decide +kernel⟩
theorem witness_SuppliesAndResets_20 : ∃ s : State, (s.pwr.held ≠ some 5) :=
  ⟨State.reset, by decide +kernel⟩
theorem witness_SuppliesAndResets_21 : ∃ s : State, (s.resetFree = true) ∧ (s.pwr.rstoutDue = true) :=
  ⟨pw full (fun p => { p with rstoutDue := true }), by decide +kernel⟩
def bb (s : State) : State := match exec (.supplyGood { twinPos := 1, bootSrc := 0 } false) (off State.reset) with | .next t => t | _ => s
def cause (s : State) (n : Nat) : State := setRegs s [(Reg.pwrRstcause, n)]
theorem witness_ShakeoutSteps_0 : ∃ (weak : List Nat) (s : State), (s.resetFree = true) ∧ (s.shakeStep = 2) ∧ (s.rf Reg.pwrRstcause 0 3 ≠ 1) :=
  ⟨[], cause (bb full) 3, by decide +kernel⟩
theorem witness_ShakeoutSteps_1 : ∃ (weak : List Nat) (s : State), (s.resetFree = true) ∧ (s.shakeStep = 2) ∧ (s.rf Reg.pwrRstcause 0 3 = 1) ∧ (s.knabHeaderGood = true) ∧ (s.knabModeCopy = (if s.rb Reg.knbStat 1 then 1 else 0)) ∧ (s.knabWord (knabPage 60) = 0) ∧ ((∀ c, c < 32 → s.knabWord (knabCtr c + 4) = s.knabWord (knabCtr c + 8))) :=
  ⟨[], bb full, by decide +kernel⟩
def rc (s : State) : State := match exec (.knabRecall []) s with | .next t => t | _ => s
def cmb : State := bb full
theorem witness_ShakeoutSteps_2 : ∃ (weak : List Nat) (s : State), (s.shakeStep ≠ 2) :=
  ⟨[], rc cmb, by decide +kernel⟩
theorem witness_ShakeoutSteps_3 : ∃ (romOk : Bool) (s : State), (s.resetFree = true) ∧ (s.shakeStep = 4) ∧ (s.rb Reg.pwrStat 7 = false) :=
  ⟨false, rc cmb, by decide +kernel⟩
theorem witness_ShakeoutSteps_4 : ∃ s : State, (s.rb Reg.pwrStat 7 = true ∨ s.shakeStep ≠ 4) :=
  ⟨bb full, by decide +kernel⟩
def b4 := rc (bb full)
def solo (s : State) : State := setRegs s [(Reg.twnStat, 0), (Reg.rtcStat, 4)]
theorem witness_ShakeoutSteps_5 : ∃ s : State, (s.resetFree = true) ∧ (s.shakeStep = 4) ∧ (s.rb Reg.pwrStat 7 = false) ∧ (s.isTwin = false) ∧ (s.rf Reg.pwrStrap 2 2 % 3 = 0) ∧ (s.rb Reg.rtcStat 0 = false) ∧ (s.rtc.vbatLow = false) ∧ (s.rb Reg.pwrRstcause 3 = false ∨ s.rf Reg.pwrRstcause 0 3 ≠ 1) :=
  ⟨solo b4, by decide +kernel⟩
def b6 : State := match exec (.selfTest true true) b4 with | .next t => t | _ => full
def acc (s : State) : State := setRegs s [(Reg.pwrShake, 7), (Reg.pwrPour, 4 + 0x20)]
theorem witness_ShakeoutSteps_6 : ∃ (nvOk : Bool) (s : State), (s.resetFree = true) ∧ (s.shakeStep = 7) ∧ (s.pourStatus 0 = 4) ∧ (s.pourStatus 1 = 4) ∧ (s.knb.commit = none) :=
  ⟨false, acc b6, by decide +kernel⟩
theorem witness_ShakeoutSteps_7 : ∃ (nvOk : Bool) (s : State), (s.shakeStep ≠ 7) :=
  ⟨false, bb full, by decide +kernel⟩
def rty (n : Nat) (s : State) : State := pw s (fun p => { p with retryStart := some n })
theorem witness_ShakeoutSteps_8 : ∃ (s : State) (u : Nat), (s.runtimeRuns = true) ∧ (s.pwr.retryStart = some u) ∧ (u ≤ s.now) ∧ (s.nvFits (s.nvOfSet s.od.committed) = true) ∧ (s.knb.commit = none) :=
  ⟨rty 5 full, 5, by decide +kernel⟩
theorem witness_ShakeoutSteps_10 : ∃ (nvOk : Bool) (s : State), (s.pwr.retryStart = none) :=
  ⟨false, bb full, by decide +kernel⟩

end Power

namespace Pour

def po := pourOn live 0
theorem witness_PourOfImages_1 : ∃ (mode3 : Bool) (b : List Byte) (s : State), (s.portUp = true) ∧ (s.pourOpen = true) ∧ (21 ≤ b.length) ∧ (b.length ≤ 1044) ∧ (247 ≤ b.length ∨ (∀ u ∈ s.hst.pourAt, u + 1 < s.now)) :=
  ⟨false, ((bl).getD 0 []), po, by decide +kernel⟩
theorem witness_PourOfImages_2 : ∃ (mode3 : Bool) (b : List Byte) (n : Nat) (s : State), (s.portUp = true) ∧ (s.pourOpen = false) :=
  ⟨false, ((bl).getD 0 []), 0, live, by decide +kernel⟩
theorem witness_PourOfImages_3 : ∃ (mode3 : Bool) (b : List Byte) (n : Nat) (s : State), (s.portUp = true) ∧ (s.pourOpen = true) ∧ (n < 21 ∨ 1044 < n ∨ n ≠ b.length) :=
  ⟨false, ((bl).getD 0 []), 0, po, by decide +kernel⟩
theorem witness_PourOfImages_4 : ∃ (mode3 : Bool) (k : Nat) (s : State), (s.portUp = true) ∧ (k < 256) :=
  ⟨false, 0, live, by decide +kernel⟩
def pnd : List Byte := [0, 0, 0, 0] ++ beBytes 4 9 ++ List.replicate 8 0
def np (s : State) : State := up (pourOn s 1)
theorem witness_PourOfImages_5 : ∃ (p : Nat) (m : NetFrame) (s : State), 
    let netFits := fun (s : State) (p : Nat) (m : NetFrame) => s.netUp p = true ∧ s.isTwin = false ∧ m.rxEr = false ∧ m.fcs = crc32 (netBytes m) ∧
    s.netAccepts m = true ∧ netBadHeader m = false ∧ m.src % 1024 ≠ s.netAddr ∧ netSessionFits m = true ∧ m.session = 0xFFFF
    (m.typ = 0xA) ∧ (netFits s p m) ∧ (s.netPourOpen = true) :=
  ⟨0, ((bl.map (fun b => pm b) ++ [pm pnd 0xC, pm (pnd.set 7 8) 0xC]).getD 0 {}), np live, by dsimp only; decide +kernel⟩
def prt (s : State) (p : PourSt) : State := pw s (fun q => { q with pourRt := p })
def pst (n : Nat) (s : State) : State := s.setPourStatus 0 n
def h2 : PourSt := { id := 9, blocks := 1, length := 3, held := [(0, [1,2,3])] }
theorem witness_PourOfImages_6 : ∃ (p : Nat) (m : NetFrame) (s : State), 
    let netFits := fun (s : State) (p : Nat) (m : NetFrame) => s.netUp p = true ∧ s.isTwin = false ∧ m.rxEr = false ∧ m.fcs = crc32 (netBytes m) ∧
    s.netAccepts m = true ∧ netBadHeader m = false ∧ m.src % 1024 ≠ s.netAddr ∧ netSessionFits m = true ∧ m.session = 0xFFFF
    (m.typ = 0xC) ∧ (netFits s p m) ∧ (s.netPourOpen = true) ∧ 
    let k := (m.body.getD 0 0).toNat
    let q := s.pourOf k
    (k ≤ 1) ∧ (q.held ≠ []) ∧ (q.id = ofBe (slice m.body 4 4)) ∧ (s.pourStatus k < 3) ∧ (q.missing = []) :=
  ⟨0, ((bl.map (fun b => pm b) ++ [pm pnd 0xC, pm (pnd.set 7 8) 0xC]).getD 11 {}), pst 2 (prt (np live) h2), by dsimp only; decide +kernel⟩
def h0 : PourSt := { id := 9, blocks := 2, length := 1027, held := [(0, big)] }
theorem witness_PourOfImages_7 : ∃ (p : Nat) (m : NetFrame) (s : State), 
    let netFits := fun (s : State) (p : Nat) (m : NetFrame) => s.netUp p = true ∧ s.isTwin = false ∧ m.rxEr = false ∧ m.fcs = crc32 (netBytes m) ∧
    s.netAccepts m = true ∧ netBadHeader m = false ∧ m.src % 1024 ≠ s.netAddr ∧ netSessionFits m = true ∧ m.session = 0xFFFF
    (m.typ = 0xC) ∧ (netFits s p m) ∧ (s.netPourOpen = true) ∧ 
    let k := (m.body.getD 0 0).toNat
    let q := s.pourOf k
    (k ≤ 1) ∧ (q.held ≠ []) ∧ (q.id = ofBe (slice m.body 4 4)) ∧ (s.pourStatus k < 3) ∧ (q.missing ≠ []) ∧ (s.netUp 0 = true) ∧ (s.netUp 1 = true) ∧ ((s.reg Reg.netSeq).toNat % 65536 < 65534) :=
  ⟨0, ((bl.map (fun b => pm b) ++ [pm pnd 0xC, pm (pnd.set 7 8) 0xC]).getD 11 {}), pst 1 (prt (np live) h0), by dsimp only; decide +kernel⟩
theorem witness_PourOfImages_9 : ∃ s : State, (s.netPourOpen = false ∨ s.net.pourEnds = [] ∨ s.now < s.net.pourLast + 8000) :=
  ⟨live, by decide +kernel⟩
def hdr (k : Nat) (n : Nat) (m : Nat := 7) : List Byte := beBytes 4 0x57565049 ++ beBytes 1 k ++ [1, 0, 0] ++ beBytes 4 n ++ beBytes 4 (if k = 0 then 0x10000000 else 0) ++ beBytes 4 (if k = 0 then 0x10000000 else 0) ++ beBytes 4 77 ++ beBytes 4 m ++ List.replicate 32 5 ++ List.replicate 68 0 ++ List.replicate (n - 128) 1
def im (k : Nat) (i : List Byte) (s : State) (o : Nat := 0) : State := ((s.setPour k { image := i }).setPourStatus k 3).setPourStatus (1 - k) o
theorem witness_PourOfImages_10 : ∃ (k : Nat) (s : State), (k ≤ 1) ∧ (s.pourOpen = true) ∧ (s.pourStatus k = 3) ∧ (s.rf Reg.pwrPour 16 2 ≠ 2) ∧ 
    let img := (s.pourOf k).image
    let cause := s.imgCause img k
    (cause ≠ 0) :=
  ⟨0, im 0 (hdr 0 200) po, by dsimp only; decide +kernel⟩
theorem witness_PourOfImages_11 : ∃ (k : Nat) (s : State), (k ≤ 1) ∧ (s.pourOpen = true) ∧ (s.pourStatus k = 3) ∧ (s.rf Reg.pwrPour 16 2 ≠ 2) ∧ 
    let img := (s.pourOf k).image
    let cause := s.imgCause img k
    (cause = 0) :=
  ⟨1, im 1 (hdr 1 200) po, by dsimp only; decide +kernel⟩
theorem witness_PourOfImages_12 : ∃ (k : Nat) (s : State), (1 < k ∨ s.pourOpen = false ∨ s.pourStatus k ≠ 3) :=
  ⟨0, live, by decide +kernel⟩

end Pour

namespace PourRepeat

def prt (s : State) (p : PourSt) : State := pw s (fun q => { q with pourRt := p })
def pst (n : Nat) (s : State) : State := s.setPourStatus 0 n
def h0 : PourSt := { id := 9, blocks := 2, length := 1027, held := [(0, [7])] }
def np (s : State) : State := up (pourOn s 1)
def wt (n : Nat) (s : State) : State := ng s (fun x => { x with pourLast := n, pourEnds := [(0, 9)], pourEndFrom := 0x46 })
theorem witness_PourOfImages_8 : ∃ (s : State) (k : Nat), (s.isTwin = false) ∧ (s.netPourOpen = true) ∧ (s.net.pourLast + 8000 ≤ s.now) ∧ (s.net.pourEnds = [(k, (s.pourOf k).id)]) ∧ ((s.pourOf k).held ≠ []) ∧ ((s.pourOf k).missing ≠ []) ∧ (s.netUp 0 = true) ∧ ((s.reg Reg.netSeq).toNat % 65536 < 65534) :=
  ⟨wt 5 (pst 1 (prt (np live) h0)), 0, by decide +kernel⟩

end PourRepeat

namespace Chill

def ok (s : State) : State := setRegs s [(Reg.pwrWake, 3)]
theorem witness_ChillAndWake_0 : ∃ s : State, (s.runtimeRuns = true) ∧ (s.chillCode = 0) ∧ (s.pwr.chillAt = none) :=
  ⟨ok full, by decide +kernel⟩
theorem witness_ChillAndWake_1 : ∃ s : State, (s.runtimeRuns = false ∨ s.chillCode ≠ 0) :=
  ⟨fnr (ok full) 3 1, by decide +kernel⟩
theorem witness_ChillAndWake_2 : ∃ s : State, (s.isTwin = true) ∧ (s.role = 1) :=
  ⟨tw (ok full) 1 1 F, by decide +kernel⟩
theorem witness_ChillAndWake_3 : ∃ s : State, (s.isTwin = false) ∧ (s.rf Reg.pwrWake 0 6 ≠ 0) ∧ (12 ≤ s.shakeStep) ∧ (s.rb Reg.twnStat 5 = false) ∧ ((∀ f ∈ s.od.fns.map Prod.fst, (s.fn f).state ≠ 1 ∧ (s.fn f).state ≠ 3)) :=
  ⟨ok full, by decide +kernel⟩
def at_ (n : Nat) (s : State) : State := pw s (fun p => { p with chillAt := some n })
theorem witness_ChillAndWake_4 : ∃ (s : State) (u : Nat), (s.awake = true) ∧ (s.tb.running = true) ∧ (s.pwr.chillAt = some u) ∧ (u ≤ s.tb.count) ∧ (s.atBoundary 0 = true) ∧ (s.chillWaits = false) ∧ (s.hst.queue = []) :=
  ⟨at_ 5 (ok full), 5, by decide +kernel⟩
def q (s : State) (l : List (Nat × Nat)) : State := { s with hst := { s.hst with queue := l.map fun p => (p.1, BitVec.ofNat 32 p.2) } }
theorem witness_ChillAndWake_5 : ∃ (s : State) (u : Nat), ∃ a v, (s.awake = true) ∧ (s.tb.running = true) ∧ (s.pwr.chillAt = some u) ∧ (u ≤ s.tb.count) ∧ (s.atBoundary 0 = true) ∧ (s.chillWaits = false) ∧ (s.hst.queue = [(a, v)]) ∧ (s.knb.commit = none) ∧ (a % 4 = 0) ∧ (0x30000000 ≤ a) ∧ (a < 0x30004000) :=
  ⟨q (at_ 5 (ok full)) [(0x30000010, 99)], 5, 805306384, 0x00000063#32, by decide +kernel⟩
theorem witness_ChillAndWake_6 : ∃ s : State, (s.pwr.chillAt = none ∨ s.atBoundary 0 = false ∨ s.chillWaits = true) :=
  ⟨ok full, by decide +kernel⟩
theorem witness_ChillAndWake_7 : ∃ s : State, (s.chillWaits = false) :=
  ⟨ok full, by decide +kernel⟩
def sl (s : State) : State := setMem (setRegs s [(Reg.pwrStat, 2), (Reg.pwrWake, 0x3F), (Reg.pwrRetain, 0x81)]) [(0x20000100, 5), (0x20008100, 6), (0x20038004, 7)]
theorem witness_ChillAndWake_12 : ∃ (src : Nat) (s : State), (s.resetFree = true) ∧ (s.asleep = true) ∧ (src < 6) ∧ (s.rb Reg.pwrWake src = true) :=
  ⟨0, sl full, by decide +kernel⟩
theorem witness_ChillAndWake_13 : ∃ (src : Nat) (s : State), (s.asleep = false ∨ 6 ≤ src ∨ s.rb Reg.pwrWake src = false) :=
  ⟨0, ok full, by decide +kernel⟩

end Chill

namespace HostPort

theorem witness_HostPortCommands_0 : ∃ (mode3 : Bool) (s : State), (s.portUp = true) :=
  ⟨false, full, by decide +kernel⟩
theorem witness_HostPortCommands_2 : ∃ (mode3 : Bool) (s : State), (s.portUp = false) :=
  ⟨false, pw State.reset (fun p => { p with good := false }), by decide +kernel⟩
theorem witness_HostPortCommands_5 : ∃ (mode3 late : Bool) (a : Word) (c : Collision) (s : State), (s.portUp = true) ∧ (s.asleep = false) ∧ (s.hst.queue = []) ∧ (0x30000000 ≤ a.toNat) ∧ (a.toNat + 4 ≤ 0x30004000) ∧ (a.toNat % 4 = 0) :=
  ⟨false, false, 0x30000000, .none, full, by decide +kernel⟩
theorem witness_HostPortCommands_6 : ∃ (mode3 late : Bool) (a : Word) (c : Collision) (s : State), (s.portUp = true) ∧ (s.hst.queue = []) ∧ 
    let at4 := a.toNat / 4 * 4
    let code := s.hostCode at4 false
    (code ≠ 0xA5) :=
  ⟨false, false, 0x30000000, .none, asleep_, by dsimp only; decide +kernel⟩
theorem witness_HostPortCommands_7 : ∃ (mode3 late : Bool) (a : Word) (n : Nat) (s : State), (s.portUp = true) ∧ (s.asleep = false) ∧ (s.hst.queue = []) ∧ (1 ≤ n) ∧ (n ≤ 256) ∧ (0x30000000 ≤ a.toNat) ∧ (a.toNat + 4 * n ≤ 0x30004000) ∧ (a.toNat % 4 = 0) :=
  ⟨false, false, 0x30000000, 1, full, by decide +kernel⟩
theorem witness_HostPortCommands_8 : ∃ (mode3 : Bool) (a : Word) (words : List Word) (s : State), (s.portUp = true) ∧ (a.toNat + 4 * words.length < 2 ^ 32) ∧ (a.toNat % 4 = 0) ∧ (s.asleep = false) ∧ (s.hst.queue.length + words.length ≤ 16) :=
  ⟨false, 0x30000000, [], full, by decide +kernel⟩
theorem witness_HostPortCommands_9 : ∃ (mode3 : Bool) (a : Word) (words : List Word) (s : State), (s.portUp = true) ∧ (a.toNat + 4 * words.length < 2 ^ 32) ∧ (a.toNat % 4 = 0) ∧ (s.asleep = true) ∧ (words ≠ []) :=
  ⟨false, 0x30000000, [1, 2], asleep_, by decide +kernel⟩
def q (s : State) (l : List (Nat × Nat)) : State := { s with hst := { s.hst with queue := l.map fun p => (p.1, BitVec.ofNat 32 p.2) } }
theorem witness_HostPortCommands_10 : ∃ (a : Nat) (v : Word) (rest : List (Nat × Word)) (s : State), (s.portUp = true) ∧ (s.asleep = false) ∧ (s.hst.queue = (a, v) :: rest) ∧ (a % 4 = 0) ∧ (0x20038000 ≤ a) ∧ (a < 0x20040000) :=
  ⟨537104384, 7, (q full [(0x20039000, 7)]).hst.queue.tail, q full [(0x20039000, 7)], by decide +kernel⟩
theorem witness_HostPortCommands_11 : ∃ (a : Nat) (v : Word) (rest : List (Nat × Word)) (s : State), (s.portUp = true) ∧ (s.asleep = false) ∧ (s.hst.queue = (a, v) :: rest) ∧ (a % 4 = 0) ∧ (0x30000000 ≤ a) ∧ (a < 0x30004000) :=
  ⟨805306368, 7, (q full [(0x30000000, 7), (0x30000004, 8)]).hst.queue.tail, q full [(0x30000000, 7), (0x30000004, 8)], by decide +kernel⟩
theorem witness_HostPortCommands_13 : ∃ (c : Collision) (s : State), (s.hst.queue = [] ∨ s.asleep = true) :=
  ⟨.none, full, by decide +kernel⟩
theorem witness_HostPortCommands_14 : ∃ (mode3 : Bool) (v : Byte) (s : State), (s.portUp = true) ∧ (s.asleep = false) :=
  ⟨false, 0x9F, full, by decide +kernel⟩
theorem witness_HostPortCommands_15 : ∃ (mode3 : Bool) (code : Byte) (s : State), (s.portUp = true) ∧ (code.toNat ∉ [0x9F, 0x05, 0x0B, 0x0C, 0x02, 0x06, 0x20, 0x21]) :=
  ⟨false, 0x33, full, by decide +kernel⟩
theorem witness_HostPortCommands_16 : ∃ (mode3 : Bool) (code : Byte) (s : State), (s.portUp = true) ∧ (code.toNat ∈ [0x9F, 0x05, 0x0B, 0x0C, 0x02, 0x06, 0x20, 0x21]) :=
  ⟨false, 0x9F, full, by decide +kernel⟩
theorem witness_HostPortCommands_12 : ∃ (a : Nat) (v : Word) (rest : List (Nat × Word)) (c : Collision) (s : State), (s.portUp = true) ∧ (s.asleep = false) ∧ (s.hst.queue = (a, v) :: rest) ∧ (s.hostCode a true ≠ 0xA5) :=
  ⟨0x24000000, 7, [], .none, q full [(0x24000000, 7)], by decide +kernel⟩

end HostPort

namespace PlainWrites

def s0 : State := setMem full [(0x20000100, 0x12345678), (0x30000010, 0xF0F0F0F0)]
theorem witness_PlainRegisterAndMemoryWrites_0 : ∃ (who : Init) (a v : Word) (r : RegRow) (s : State), (a.toNat % 4 = 0) ∧ (placeOf a.toNat = .regs) ∧ (regRow a.toNat = some r) ∧ (regUnit a.toNat ∈ [0, 8, 15, 17, 18]) ∧ (s.absentAt a.toNat = false) ∧ ((who = .host → s.asleep = false ∧ (hostReg a.toNat = true ∨ s.hostOwns (regUnit a.toNat) = true))) :=
  ⟨.runtime, 0x60000000, 5, (regRow 0x60000000).get (by decide +kernel), s0, by decide +kernel⟩
theorem witness_PlainRegisterAndMemoryWrites_1 : ∃ (a v : Word) (s : State), (a.toNat % 4 = 0) ∧ (s.asleep = false) ∧ ((0x20038000 ≤ a.toNat ∧ a.toNat < 0x20040000) ∨ (0x30000000 ≤ a.toNat ∧ a.toNat < 0x30004000)) :=
  ⟨0x20038000, 0x20000100, s0, by decide +kernel⟩
theorem witness_PlainRegisterAndMemoryWrites_2 : ∃ (who : Init) (a v : Word) (s : State), (who ≠ .host) ∧ (a.toNat % 4 = 0) ∧ (0x20000000 ≤ a.toNat) ∧ (a.toNat < 0x20040000) :=
  ⟨.runtime, 0x20000100, 0x20000100, s0, by decide +kernel⟩
theorem witness_PlainRegisterAndMemoryWrites_3 : ∃ (who : Init) (a v : Word) (s : State), ∃ d, (who ≠ .host) ∧ (a.toNat % 4 = 0) ∧ ((0x20000000 ≤ d ∧ d < 0x20040000) ∨ (0x30000000 ≤ d ∧ d < 0x30004000)) ∧ (a.toNat = d + 0x1000000) :=
  ⟨.runtime, 0x21000100, 0x20000100, s0, 536871168, by decide +kernel⟩
theorem witness_PlainRegisterAndMemoryWrites_4 : ∃ (who : Init) (a v : Word) (s : State), ∃ d, (who ≠ .host) ∧ (a.toNat % 4 = 0) ∧ ((0x20000000 ≤ d ∧ d < 0x20040000) ∨ (0x30000000 ≤ d ∧ d < 0x30004000)) ∧ (a.toNat = d + 0x2000000) :=
  ⟨.runtime, 0x22000100, 0x20000100, s0, 536871168, by decide +kernel⟩
theorem witness_PlainRegisterAndMemoryWrites_5 : ∃ (who : Init) (a v : Word) (s : State), (who ≠ .host) ∧ (a.toNat % 4 = 0) ∧ (placeOf a.toNat = .unmapped) :=
  ⟨.runtime, 0x23000000, 5, s0, by decide +kernel⟩
theorem witness_PlainRegisterAndMemoryWrites_6 : ∃ (a v : Word) (s : State), (s.asleep = false) ∧ (a.toNat % 4 = 0) ∧ (placeOf a.toNat = .rom ∨ placeOf a.toNat = .prog ∨ (0x20000000 ≤ a.toNat ∧ a.toNat < 0x20038000)) :=
  ⟨0x20000000, 5, s0, by decide +kernel⟩
theorem witness_PlainRegisterAndMemoryWrites_7 : ∃ (a v : Word) (s : State), ∃ r, (s.asleep = false) ∧ (a.toNat % 4 = 0) ∧ (placeOf a.toNat = .regs) ∧ (regRow a.toNat = some r) ∧ (s.absentAt a.toNat = false) ∧ (hostReg a.toNat = false) ∧ (s.hostOwns (regUnit a.toNat) = false) :=
  ⟨0x60000000, 5, s0, (regRow 0x60000000).get (by decide +kernel), by decide +kernel⟩

end PlainWrites

namespace SensorBuses

def en (s : State) (b : Nat) : State := setRegs s [(Reg.sbCfg b, 1)]
theorem witness_SensorBuses_0 : ∃ (who : Init) (b : Nat) (v : Word) (s : State), (b < 3) ∧ (s.buses.length = 3) ∧ (mayWrite who 19 s) ∧ (s.sbusBusy b = false) ∧ (s.sbusOn b = true) ∧ (bitOf v 24 = true) ∧ (s.pinsDriven = true) :=
  ⟨.runtime, 1, 0xFFFFFFFF, en full 1, by decide +kernel⟩
def bs (s : State) (b : Nat) (f : BusSt → BusSt) : State := s.setBus b (f (s.bus b))
def bz (s : State) (b : Nat) : State := setRegs s [(Reg.sbStat b, 1), (Reg.sbCfg b, 1)]
theorem witness_SensorBuses_1 : ∃ (who : Init) (b : Nat) (v : Word) (s : State), (b < 3) ∧ (s.buses.length = 3) ∧ (mayWrite who 19 s) ∧ (s.sbusBusy b = true) :=
  ⟨.runtime, 0, 0, bs (bz full 0) 0 (fun b => { b with wlen := 2, rlen := 0, lastStuck := some 999999 }), by decide +kernel⟩
theorem witness_SensorBuses_2 : ∃ (b : Nat) (l : List Byte) (s : State), (b < 3) ∧ (s.buses.length = 3) ∧ (s.sbusBusy b = true) ∧ ((s.bus b).poll = none) ∧ ((s.bus b).rlen ≤ l.length) ∧ ((s.bus b).rlen ≤ 32) ∧ ((s.bus b).wlen ≤ 32) :=
  ⟨0, [], bs (bz full 0) 0 (fun b => { b with wlen := 2, rlen := 0, lastStuck := some 999999 }), by decide +kernel⟩
theorem witness_SensorBuses_3 : ∃ (b n : Nat) (addr : Bool) (s : State), (b < 2) ∧ (s.sbusBusy b = true) ∧ ((s.bus b).poll = none) ∧ ((s.bus b).wlen ≤ 32) ∧ ((addr = false → n < (s.bus b).wlen)) :=
  ⟨0, 0, false, bs (bz full 0) 0 (fun b => { b with wlen := 2, rlen := 0, lastStuck := some 999999 }), by decide +kernel⟩
theorem witness_SensorBuses_4 : ∃ (b : Nat) (s : State), (b < 2) ∧ (s.buses.length = 3) ∧ (s.sbusBusy b = true) ∧ ((s.bus b).poll = none) :=
  ⟨0, bs (bz full 0) 0 (fun b => { b with wlen := 2, rlen := 0, lastStuck := some 999999 }), by decide +kernel⟩
theorem witness_SensorBuses_5 : ∃ (b : Nat) (how : SbEnd) (s : State), (s.sbusBusy b = false) :=
  ⟨0, .ok [1], full, by decide +kernel⟩
theorem witness_SensorBuses_7 : ∃ (b : Nat) (s : State), (b < 2) ∧ (s.sbusBusy b = true) ∧ ((s.bus b).poll = none) ∧ ((s.bus b).wlen ≤ 32) ∧ ((s.bus b).rlen ≤ 32) ∧ ((s.bus b).startAt + 4 * max 1 (s.rf (Reg.sbCfg b) 8 8) ≤ s.now) :=
  ⟨0, bs (bz full 0) 0 (fun b => { b with wlen := 2, rlen := 0, lastStuck := some 999999 }), by decide +kernel⟩
theorem witness_SensorBuses_8 : ∃ (b : Nat) (s : State), (s.now < (s.bus b).startAt + 4 * max 1 (s.rf (Reg.sbCfg b) 8 8)) :=
  ⟨1, bs (bz full 1) 1 (fun b => { b with wlen := 2, rlen := 2, startAt := 999999 }), by decide +kernel⟩
def pl (s : State) (p : Nat) (f : PollSt → PollSt) : State := s.setPoll p (f (s.poll p))
def cf (s : State) : State := (odn (fnr s 5) [(0x1B, 2, 0, 1), (0x1B, 2, 1, 1), (0x1B, 2, 2, 0x44), (0x1B, 2, 4, 0), (0x1B, 2, 5, 2), (0x1B, 2, 6, 100), (0x1B, 2, 7, 0x011), (0x1B, 2, 8, 100), (0x1B, 2, 9, 5), (0x1B, 2, 0xA, 3)]).odSet (odId 0x1B 2 3) (.bytes [0x24, 1])
def ct (n : Nat) (s : State) : State := { s with tb := { s.tb with count := n } }
theorem witness_SensorBuses_11 : ∃ (p : Nat) (s : State), (p < 32) ∧ (s.pollsRun = true) ∧ (s.tb.running = true) ∧ (s.pollNat p 0 = 1) ∧ (s.pollNat p 1 < 3) ∧ (s.buses.length = 3) ∧ (s.awake = true) ∧ ((s.poll p).dueAt ≠ some s.now) ∧ (s.pollNat p 6 ≠ 0) ∧ ((s.tb.count + 4 * s.pollNat p 6 * 40 - 40 * p) % (4 * s.pollNat p 6) = 0) ∧ ((∀ q, q < p → s.pollDueNow q = true → s.pollNat q 1 ≠ s.pollNat p 1)) ∧ ((s.poll p).running = true) :=
  ⟨2, pl (ct 480 (cf full)) 2 (fun p => { p with running := true }), by decide +kernel⟩
theorem witness_SensorBuses_12 : ∃ (p : Nat) (s : State), (p < 32) ∧ (s.pollsRun = true) ∧ (s.tb.running = true) ∧ (s.pollNat p 0 = 1) ∧ (s.pollNat p 1 < 3) ∧ (s.buses.length = 3) ∧ (s.awake = true) ∧ ((s.poll p).dueAt ≠ some s.now) ∧ (s.pollNat p 6 ≠ 0) ∧ ((s.tb.count + 4 * s.pollNat p 6 * 40 - 40 * p) % (4 * s.pollNat p 6) = 0) ∧ ((∀ q, q < p → s.pollDueNow q = true → s.pollNat q 1 ≠ s.pollNat p 1)) ∧ 
    let b := s.pollNat p 1
    ((s.poll p).running = false) ∧ (s.sbusBusy b = false) ∧ ((s.bus b).poll = none) ∧ ((s.bus b).waiting = []) :=
  ⟨2, ct 480 (cf full), by dsimp only; decide +kernel⟩
theorem witness_SensorBuses_13 : ∃ (p : Nat) (s : State), (p < 32) ∧ (s.pollsRun = true) ∧ (s.tb.running = true) ∧ (s.pollNat p 0 = 1) ∧ (s.pollNat p 1 < 3) ∧ (s.buses.length = 3) ∧ (s.awake = true) ∧ ((s.poll p).dueAt ≠ some s.now) ∧ (s.pollNat p 6 ≠ 0) ∧ ((s.tb.count + 4 * s.pollNat p 6 * 40 - 40 * p) % (4 * s.pollNat p 6) = 0) ∧ ((∀ q, q < p → s.pollDueNow q = true → s.pollNat q 1 ≠ s.pollNat p 1)) ∧ 
    let b := s.pollNat p 1
    ((s.poll p).running = false) ∧ (s.sbusBusy b = true) :=
  ⟨2, bz (ct 480 (cf full)) 1, by dsimp only; decide +kernel⟩
theorem witness_SensorBuses_14 : ∃ (p : Nat) (s : State), (s.pollsRun = false ∨ s.pollNat p 0 ≠ 1 ∨ (s.poll p).dueAt = some s.now) :=
  ⟨0, full, by decide +kernel⟩
theorem witness_SensorBuses_15 : ∃ (p u : Nat) (s : State), (s.pollsRun = true) ∧ (s.awake = true) ∧ (s.pollNat p 1 < 3) ∧ (s.buses.length = 3) ∧ ((s.poll p).waitTo = some u) ∧ (u ≤ s.now) :=
  ⟨2, 2, pl (cf full) 2 (fun p => { p with running := true, waitTo := some 2 }), by decide +kernel⟩
theorem witness_SensorBuses_16 : ∃ (p : Nat) (s : State), ((s.poll p).waitTo = none) :=
  ⟨0, full, by decide +kernel⟩
def run2 (s : State) : State := pl (bs (bz (cf s) 1) 1 (fun b => { b with rlen := 2, poll := some 2 })) 2 (fun p => { p with running := true, second := true, gain := 100, offs := 3 })
theorem witness_SensorBuses_17 : ∃ (b p : Nat) (s : State), ∃ l : List Byte, (b < 3) ∧ (s.buses.length = 3) ∧ (s.sbusBusy b = true) ∧ ((s.bus b).poll = some p) ∧ ((s.bus b).waiting = []) ∧ (s.pollsRun = true) ∧ ((s.poll p).second = true) ∧ ((s.pollNat p 7).testBit 8 = false) ∧ (l.length = (s.bus b).rlen) ∧ (s.pollNat p 0xA < 256) ∧ ((s.poll p).logged = false) :=
  ⟨1, 2, run2 full, [1,2], by decide +kernel⟩
theorem witness_SensorBuses_18 : ∃ (b p : Nat) (s : State), ∃ n : Nat, (b < 3) ∧ (s.buses.length = 3) ∧ (s.sbusBusy b = true) ∧ ((s.bus b).poll = some p) ∧ ((s.bus b).waiting = []) ∧ (s.pollsRun = true) ∧ ((s.poll p).second = true) ∧ (b < 2) :=
  ⟨1, 2, run2 full, 1, by decide +kernel⟩

end SensorBuses

namespace EventsAndRings

theorem witness_ClearingOfLatches_0 : ∃ (who : Init) (hi : Bool) (v : Word) (s : State), (mayWrite who 3 s) :=
  ⟨.runtime, false, 0, full, by decide +kernel⟩
theorem witness_HostMaskAndSoftEvents_2 : ∃ (who : Init) (v : Word) (s : State), (mayWrite who 3 s) :=
  ⟨.runtime, 0, full, by decide +kernel⟩
theorem witness_RingRegisters_0 : ∃ (who : Init) (n : Nat) (v : Word) (s : State), 
    let may := fun (who : Init) (n : Nat) => who = .host → 26 ≤ n ∧ n ≤ 29
    (n < 32) ∧ (may who n) ∧ (s.ringOn n = false) ∧ (bitOf v 8 = true) ∧ 
    let f := 2 ^ fld v 0 4 * (4 * 2 ^ fld v 4 2)
    let base := (s.reg (Reg.rngBase n)).toNat
    let low := if n = 12 ∨ n = 13 ∨ (26 ≤ n ∧ n ≤ 29) then 0x20038000 else 0x20000000
    let good := 2 ≤ fld v 0 4 ∧ fld v 0 4 ≤ 12 ∧ fld v 6 2 ≠ 3 ∧ base % f = 0 ∧
      ((0x30000000 ≤ base ∧ base + f ≤ 0x30004000) ∨ (low ≤ base ∧ base + f ≤ 0x20040000))
    (good) :=
  ⟨.runtime, 7, 0x122, setRegs full [(Reg.rngBase 26, 0x20038000), (Reg.rngBase 7, 0x20000000), (Reg.rngBase 12, 0x20000000)], by dsimp only; decide +kernel⟩
theorem witness_RingRegisters_1 : ∃ (who : Init) (n : Nat) (v : Word) (s : State), 
    let may := fun (who : Init) (n : Nat) => who = .host → 26 ≤ n ∧ n ≤ 29
    (n < 32) ∧ (may who n) ∧ (s.ringOn n = false) ∧ (bitOf v 8 = true) ∧ 
    let f := 2 ^ fld v 0 4 * (4 * 2 ^ fld v 4 2)
    let base := (s.reg (Reg.rngBase n)).toNat
    let low := if n = 12 ∨ n = 13 ∨ (26 ≤ n ∧ n ≤ 29) then 0x20038000 else 0x20000000
    let good := 2 ≤ fld v 0 4 ∧ fld v 0 4 ≤ 12 ∧ fld v 6 2 ≠ 3 ∧ base % f = 0 ∧
      ((0x30000000 ≤ base ∧ base + f ≤ 0x30004000) ∨ (low ≤ base ∧ base + f ≤ 0x20040000))
    (¬good) :=
  ⟨.runtime, 7, 0x122, full, by dsimp only; decide +kernel⟩
theorem witness_RingRegisters_2 : ∃ (who : Init) (n : Nat) (v : Word) (s : State), 
    let may := fun (who : Init) (n : Nat) => who = .host → 26 ≤ n ∧ n ≤ 29
    (n < 32) ∧ (may who n) ∧ (s.ringOn n = true) ∧ (bitOf v 8 = true) ∧ (s.rb (Reg.rngCfg n) 11 = false ∨ (26 ≤ n ∧ n ≤ 29)) :=
  ⟨.runtime, 0, 0x122, full, by dsimp only; decide +kernel⟩
theorem witness_RingRegisters_5 : ∃ (who : Init) (n : Nat) (v : Word) (s : State), 
    let first := fun (who : Init) (s : State) => (who = .host → s.hst.queue = []) ∧ (who = .runtime → s.knb.stalled = [] ∧ s.knb.after = [])
    (n < 32) ∧ (first who s) ∧ ((who = .host → n = 12 ∨ (26 ≤ n ∧ n ≤ 29))) ∧ 
    let side := ringUnitProduced n = false ∧ (s.ringHostProduces n = true ↔ who = .host)
    let fits := (fld v 0 16 + 65536 - s.ringHead n) % 65536 + s.ringCount n ≤ 2 ^ s.ringDepth n
    (s.ringOn n = true) ∧ (side) ∧ (fits) :=
  ⟨.runtime, 13, 3, ring (ring full 12 2 2 1 0x20038000 3 1) 13 2 2 1 0x20038100 3 1, by dsimp only; decide +kernel⟩
theorem witness_RingRegisters_6 : ∃ (who : Init) (n : Nat) (v : Word) (s : State), 
    let first := fun (who : Init) (s : State) => (who = .host → s.hst.queue = []) ∧ (who = .runtime → s.knb.stalled = [] ∧ s.knb.after = [])
    (n < 32) ∧ (first who s) ∧ ((who = .host → n = 12 ∨ (26 ≤ n ∧ n ≤ 29))) ∧ 
    let side := ringUnitProduced n = false ∧ (s.ringHostProduces n = true ↔ who = .host)
    let fits := (fld v 0 16 + 65536 - s.ringHead n) % 65536 + s.ringCount n ≤ 2 ^ s.ringDepth n
    (s.ringOn n = true) ∧ (¬(side ∧ fits)) :=
  ⟨.runtime, 0, 0x122, full, by dsimp only; decide +kernel⟩
theorem witness_RingRegisters_7 : ∃ (who : Init) (n : Nat) (v : Word) (s : State), 
    let first := fun (who : Init) (s : State) => (who = .host → s.hst.queue = []) ∧ (who = .runtime → s.knb.stalled = [] ∧ s.knb.after = [])
    (n < 32) ∧ (first who s) ∧ ((who = .host → n = 12 ∨ (26 ≤ n ∧ n ≤ 29))) ∧ (s.ringOn n = false) :=
  ⟨.runtime, 7, 0x122, full, by dsimp only; decide +kernel⟩
theorem witness_RingRegisters_8 : ∃ (n : Nat) (v : Word) (s : State), (n < 32) ∧ (s.hst.queue ≠ []) ∧ (s.hst.queue.length < 16) ∧ (n = 12 ∨ (26 ≤ n ∧ n ≤ 29)) :=
  ⟨12, 0x122, { full with hst := { full.hst with queue := [(0x30000000, 4)] } }, by decide +kernel⟩
theorem witness_RingRegisters_9 : ∃ (n : Nat) (v : Word) (s : State), (n < 32) ∧ (s.hst.queue ≠ []) ∧ (s.hst.queue.length < 16) ∧ (n = 13 ∨ (26 ≤ n ∧ n ≤ 29)) :=
  ⟨13, 0x122, { full with hst := { full.hst with queue := [(0x30000000, 4)] } }, by decide +kernel⟩
theorem witness_RingRegisters_10 : ∃ (n : Nat) (v : Word) (s : State), (n < 32) ∧ (s.knb.stalled ≠ [] ∨ s.knb.after ≠ []) :=
  ⟨0, 0x122, { full with knb := { full.knb with after := [(0x60000000, 4)] } }, by decide +kernel⟩
theorem witness_RingRegisters_12 : ∃ (who : Init) (n : Nat) (v : Word) (s : State), 
    let first := fun (who : Init) (s : State) => (who = .host → s.hst.queue = []) ∧ (who = .runtime → s.knb.stalled = [] ∧ s.knb.after = [])
    (n < 32) ∧ (s.held = []) ∧ (first who s) ∧ ((who = .host → n = 13 ∨ (26 ≤ n ∧ n ≤ 29))) ∧ 
    let side := ringUnitConsumed n = false ∧ (s.ringHostConsumes n = true ↔ who = .host)
    let fits := (fld v 0 16 + 65536 - s.ringTail n) % 65536 ≤ s.ringCount n
    (s.ringOn n = true) ∧ (side) ∧ (fits) :=
  ⟨.runtime, 0, 0, full, by dsimp only; decide +kernel⟩
theorem witness_RingRegisters_13 : ∃ (who : Init) (n : Nat) (v : Word) (s : State), 
    let first := fun (who : Init) (s : State) => (who = .host → s.hst.queue = []) ∧ (who = .runtime → s.knb.stalled = [] ∧ s.knb.after = [])
    (n < 32) ∧ (s.held = []) ∧ (first who s) ∧ ((who = .host → n = 13 ∨ (26 ≤ n ∧ n ≤ 29))) ∧ 
    let side := ringUnitConsumed n = false ∧ (s.ringHostConsumes n = true ↔ who = .host)
    let fits := (fld v 0 16 + 65536 - s.ringTail n) % 65536 ≤ s.ringCount n
    (s.ringOn n = true) ∧ (¬(side ∧ fits)) :=
  ⟨.runtime, 0, 0x122, full, by dsimp only; decide +kernel⟩
theorem witness_RingRegisters_14 : ∃ (who : Init) (n : Nat) (v : Word) (s : State), 
    let first := fun (who : Init) (s : State) => (who = .host → s.hst.queue = []) ∧ (who = .runtime → s.knb.stalled = [] ∧ s.knb.after = [])
    (n < 32) ∧ (s.held = []) ∧ (first who s) ∧ ((who = .host → n = 13 ∨ (26 ≤ n ∧ n ≤ 29))) ∧ (s.ringOn n = false) :=
  ⟨.runtime, 7, 0x122, full, by dsimp only; decide +kernel⟩
theorem witness_RingRegisters_16 : ∃ (n : Nat) (v : Word) (s : State), (n < 26) ∧ (n ≠ 12) :=
  ⟨0, 0x122, full, by decide +kernel⟩

end EventsAndRings

namespace Ladle

def first (a : Nat) (n : Nat) (s : State) : State := setRegs s [(Reg.ldlChFirst n, a)]
theorem witness_LadleChannelControl_0 : ∃ (who : Init) (n : Nat) (s : State), 
    let may := fun (who : Init) (n : Nat) (s : State) => n < 16 ∧ mayWrite who 5 s
    (may who n s) ∧ (s.rb (Reg.ldlChCtrl n) 1 = false) ∧ 
    let a := (s.reg (Reg.ldlChFirst n)).toNat
    (s.ldlState n = 0) ∧ (s.ldlAddrOk a = true) :=
  ⟨.runtime, 2, first 0x20000100 2 full, by dsimp only; decide +kernel⟩
theorem witness_LadleChannelControl_1 : ∃ (who : Init) (n : Nat) (s : State), 
    let may := fun (who : Init) (n : Nat) (s : State) => n < 16 ∧ mayWrite who 5 s
    (may who n s) ∧ (s.rb (Reg.ldlChCtrl n) 1 = false) ∧ 
    let a := (s.reg (Reg.ldlChFirst n)).toNat
    (s.ldlState n = 0) ∧ (s.ldlAddrOk a = false) :=
  ⟨.runtime, 0, full, by dsimp only; decide +kernel⟩
def ch (s : State) (n : Nat) (st : Nat) (v : LdlCh) (r : List (Nat × Nat) := []) : State := setRegs (s.setLdlCh n v) ([(Reg.ldlChStat n, st)] ++ r)
def desc (s : State) (a src dst lf link : Nat) (user : Nat := 9) : State := setMem s [(a, src), (a+4, dst), (a+8, lf), (a+12, link), (a+0x18, user)]
def cs (st : Nat) (v : LdlCh) (cw d : Nat) : State :=
  desc (ch full 2 st v [(Reg.ldlChCtrl 2, cw), (Reg.ldlChDone 2, d), (Reg.ldlChCur 2, 0x20000200), (Reg.ldlChPcksum 2, 77)]) 0x20000300 0 0 0 (if st % 2 = 0 then 1 else 0x20000400)
theorem witness_LadleChannelControl_2 : ∃ (who : Init) (n : Nat) (s : State), 
    let may := fun (who : Init) (n : Nat) (s : State) => n < 16 ∧ mayWrite who 5 s
    (may who n s) ∧ (s.rb (Reg.ldlChCtrl n) 1 = false) ∧ (s.ldlState n ≠ 0) :=
  ⟨.runtime, 2, cs 1 {} 0 0, by dsimp only; decide +kernel⟩
theorem witness_LadleChannelControl_5 : ∃ (who : Init) (n : Nat) (s : State), 
    let may := fun (who : Init) (n : Nat) (s : State) => n < 16 ∧ mayWrite who 5 s
    (may who n s) ∧ (s.rb (Reg.ldlChCtrl n) 1 = true) ∧ (s.ldlState n = 3 ∨ s.ldlState n = 4) ∧ (s.ldlState n = 3 ∨ (s.ldlCh n).fetch.isSome = true ∨ (s.ldlCh n).moving = true ∨ (s.ldlCh n).link = true) :=
  ⟨.runtime, 2, cs 3 {} 2 0, by dsimp only; decide +kernel⟩
theorem witness_LadleChannelControl_6 : ∃ (who : Init) (n : Nat) (s : State), 
    let may := fun (who : Init) (n : Nat) (s : State) => n < 16 ∧ mayWrite who 5 s
    (may who n s) ∧ (s.rb (Reg.ldlChCtrl n) 1 = true) ∧ (s.ldlState n = 3 ∨ s.ldlState n = 4) ∧ (s.ldlState n = 4) ∧ ((s.ldlCh n).fetch = none) ∧ ((s.ldlCh n).moving = false) ∧ ((s.ldlCh n).link = false) ∧ 
    let d := (s.reg (Reg.ldlChDone n)).toNat
    (d = 0 ∨ s.word (d + 0xC) = 1) :=
  ⟨.runtime, 2, cs 4 {} 2 0, by dsimp only; decide +kernel⟩
theorem witness_LadleChannelControl_7 : ∃ (who : Init) (n : Nat) (s : State), 
    let may := fun (who : Init) (n : Nat) (s : State) => n < 16 ∧ mayWrite who 5 s
    (may who n s) ∧ (s.rb (Reg.ldlChCtrl n) 1 = true) ∧ (s.ldlState n = 3 ∨ s.ldlState n = 4) ∧ (s.ldlState n = 4) ∧ ((s.ldlCh n).fetch = none) ∧ ((s.ldlCh n).moving = false) ∧ ((s.ldlCh n).link = false) ∧ 
    let d := (s.reg (Reg.ldlChDone n)).toNat
    (d ≠ 0) ∧ (s.word (d + 0xC) ≠ 1) ∧ (s.ldlAddrOk (s.word (d + 0xC)).toNat = true) :=
  ⟨.runtime, 2, desc (ch full 2 4 {} [(Reg.ldlChCtrl 2, 2), (Reg.ldlChDone 2, 0x20000300)]) 0x20000300 0 0 0 0x20000400, by dsimp only; decide +kernel⟩
theorem witness_LadleChannelControl_8 : ∃ (who : Init) (n : Nat) (s : State), 
    let may := fun (who : Init) (n : Nat) (s : State) => n < 16 ∧ mayWrite who 5 s
    (may who n s) ∧ (s.ldlState n ≠ 0) ∧ ((s.ldlCh n).moving = false) :=
  ⟨.runtime, 2, cs 1 {} 0 0, by dsimp only; decide +kernel⟩
theorem witness_LadleChannelControl_9 : ∃ (who : Init) (n : Nat) (s : State), 
    let may := fun (who : Init) (n : Nat) (s : State) => n < 16 ∧ mayWrite who 5 s
    (may who n s) ∧ (s.ldlState n ≠ 0) ∧ ((s.ldlCh n).moving = true) ∧ (s.ringOn 25 = false) :=
  ⟨.runtime, 2, cs 1 { moving := true, words := [0x20000000, 0x20000100, 100, 0] } 0 0, by dsimp only; decide +kernel⟩
def qh (s : State) : State := { s with hst := { s.hst with queue := [(0x30000000, 4)] } }
theorem witness_LadleChannelControl_10 : ∃ (n : Nat) (s : State), (n < 16) ∧ (s.hostOwns 5 = true) ∧ (s.hst.queue ≠ []) ∧ (s.hst.queue.length < 16) :=
  ⟨0, qh (own full 5), by decide +kernel⟩
def sa (s : State) : State := { s with knb := { s.knb with after := [(0x60000000, 4)] } }
theorem witness_LadleChannelControl_11 : ∃ (n : Nat) (s : State), (n < 16) ∧ (s.knb.stalled ≠ [] ∨ s.knb.after ≠ []) :=
  ⟨0, sa full, by decide +kernel⟩
theorem witness_LadleChannelControl_12 : ∃ (who : Init) (n : Nat) (s : State), 
    let may := fun (who : Init) (n : Nat) (s : State) => n < 16 ∧ mayWrite who 5 s
    let first := fun (who : Init) (s : State) => (who = .host → s.hst.queue = []) ∧ (who = .runtime → s.knb.stalled = [] ∧ s.knb.after = [])
    (may who n s) ∧ (first who s) ∧ 
    let d := (s.reg (Reg.ldlChDone n)).toNat
    (s.ldlState n = 0 ∨ (s.ldlState n = 2 ∧ d = 0)) :=
  ⟨.runtime, 0, full, by dsimp only; decide +kernel⟩
theorem witness_LadleChannelControl_13 : ∃ (who : Init) (n : Nat) (s : State), 
    let may := fun (who : Init) (n : Nat) (s : State) => n < 16 ∧ mayWrite who 5 s
    let first := fun (who : Init) (s : State) => (who = .host → s.hst.queue = []) ∧ (who = .runtime → s.knb.stalled = [] ∧ s.knb.after = [])
    (may who n s) ∧ (first who s) ∧ 
    let d := (s.reg (Reg.ldlChDone n)).toNat
    (s.ldlState n = 2) ∧ (d ≠ 0) ∧ (s.ldlHeld n = false) ∧ (s.word (d + 0xC) = 1) :=
  ⟨.runtime, 2, cs 2 {} 0 0x20000300, by dsimp only; decide +kernel⟩
theorem witness_LadleChannelControl_14 : ∃ (who : Init) (n : Nat) (s : State), 
    let may := fun (who : Init) (n : Nat) (s : State) => n < 16 ∧ mayWrite who 5 s
    let first := fun (who : Init) (s : State) => (who = .host → s.hst.queue = []) ∧ (who = .runtime → s.knb.stalled = [] ∧ s.knb.after = [])
    (may who n s) ∧ (first who s) ∧ 
    let d := (s.reg (Reg.ldlChDone n)).toNat
    (s.ldlState n = 2) ∧ (d ≠ 0) ∧ (s.ldlHeld n = false) ∧ (s.word (d + 0xC) ≠ 1) ∧ (s.ldlAddrOk (s.word (d + 0xC)).toNat = true) :=
  ⟨.runtime, 2, desc (ch full 2 2 {} [(Reg.ldlChDone 2, 0x20000300)]) 0x20000300 0 0 0 0x20000400, by dsimp only; decide +kernel⟩
theorem witness_LadleChannelControl_15 : ∃ (who : Init) (n : Nat) (s : State), 
    let may := fun (who : Init) (n : Nat) (s : State) => n < 16 ∧ mayWrite who 5 s
    let first := fun (who : Init) (s : State) => (who = .host → s.hst.queue = []) ∧ (who = .runtime → s.knb.stalled = [] ∧ s.knb.after = [])
    (may who n s) ∧ (first who s) ∧ 
    let d := (s.reg (Reg.ldlChDone n)).toNat
    (s.ldlState n ∈ [1, 3, 4] ∨ s.ldlState n = 2 ∧ d ≠ 0 ∧ s.ldlHeld n = true) :=
  ⟨.runtime, 2, cs 1 {} 0 0, by dsimp only; decide +kernel⟩
theorem witness_LadleChannelControl_16 : ∃ (who : Init) (n : Nat) (s : State), (16 ≤ n) :=
  ⟨.runtime, 16, full, by decide +kernel⟩
def reg8 (s : State) : State := setRegs s [(Reg.ldlRegionBase 0, 0x20000000), (Reg.ldlRegionLimit 0, 0x2003FFE0), (Reg.ldlRegionPerm 0, 7)]
def mv (s : State) (src dst lf rem : Nat) (cur : Nat := 0x20000200) : State := reg8 (desc (ch s 2 1 { moving := true, words := [BitVec.ofNat 32 src, BitVec.ofNat 32 dst, BitVec.ofNat 32 lf, 9], ck := ckInit (ldlKind (BitVec.ofNat 32 lf)) } [(Reg.ldlChCur 2, cur), (Reg.ldlChCurSrc 2, src), (Reg.ldlChCurDst 2, dst), (Reg.ldlChRemain 2, rem)]) cur 0 0 lf 1)
def dat (s : State) : State := setMem s ((List.range 40).map fun i => (0x20001000 + 4*i, 0x01020304 * (i+1)))
theorem witness_LadleEngine_1 : ∃ (n : Nat) (s : State), 
    let calm := fun (s : State) => ∀ m, m < 16 → (s.ldlCh m).link = false ∧ (s.ldlState m ≠ 2 ∨ s.rb (Reg.ldlChStat m) 3 = false)
    let grants := fun (s : State) (n : Nat) => s.ldlRuns = true ∧ n < 16 ∧ calm s ∧ s.ldlGrant = some n
    let plain := fun (s : State) (n : Nat) => let lf := (s.ldlCh n).words.getD 2 0
    bitOf lf 26 = false ∧ bitOf lf 27 = false ∧ bitOf lf 29 = false ∧ bitOf lf 28 = false
    (grants s n) ∧ ((s.ldlCh n).fetch = none) ∧ ((s.ldlCh n).moving = true) ∧ (s.ldl.buf = []) ∧ ((plain s n ∨ s.rf (Reg.ldlChRemain n) 0 24 % 4 = 0 ∧ (s.reg (Reg.ldlChCurSrc n)).toNat % 4 = 0 ∧ (s.reg (Reg.ldlChCurDst n)).toNat % 4 = 0)) ∧ (0x20000000 ≤ (s.reg (Reg.ldlChCurSrc n)).toNat) ∧ ((s.reg (Reg.ldlChCurSrc n)).toNat + 64 ≤ 0x20040000) ∧ (0x20000000 ≤ (s.reg (Reg.ldlChCurDst n)).toNat) ∧ ((s.reg (Reg.ldlChCurDst n)).toNat + 64 ≤ 0x20040000) :=
  ⟨2, mv (dat full) 0x20001004 0x20002010 0x05000064 96, by dsimp only; decide +kernel⟩
def lg (s : State) (f : LdlSt → LdlSt) : State := { s with ldl := f s.ldl }
def bf1 (n : Nat) (s : State) : State := lg s (fun l => { l with buf := [(n, [3,4,5,6,7,8,9,10])] })
theorem witness_LadleEngine_2 : ∃ (n : Nat) (addr : Word) (list : List Nat) (s : State), 
    let calm := fun (s : State) => ∀ m, m < 16 → (s.ldlCh m).link = false ∧ (s.ldlState m ≠ 2 ∨ s.rb (Reg.ldlChStat m) 3 = false)
    (s.ldlRuns = true) ∧ (calm s) ∧ 
    let a := addr.toNat
    let writes := s.ldlWrongWrite n a = true
    (writes ∨ s.ldlGrant = some n) :=
  ⟨2, 0, [], bf1 2 (mv (dat full) 0x20001003 0x20002010 0x01000064 100), by dsimp only; decide +kernel⟩
theorem witness_LadleEngine_3 : ∃ (failed : List Nat) (s : State), (s.pwr.rtIn = true) ∧ (s.awake = true) ∧ (s.rb Reg.ldlStat 1 = true) :=
  ⟨[], mv (dat (setRegs full [(Reg.ldlStat, 3)])) 0x20001003 0x20002010 0x01000064 100, by decide +kernel⟩
def f (s : State) (src dst lf : Nat) (link : Nat := 1) : State := reg8 (desc (ch s 2 1 { fetch := some 0x20000200 }) 0x20000200 src dst lf link)
theorem witness_LadleEngine_4 : ∃ (n a : Nat) (s : State), 
    let calm := fun (s : State) => ∀ m, m < 16 → (s.ldlCh m).link = false ∧ (s.ldlState m ≠ 2 ∨ s.rb (Reg.ldlChStat m) 3 = false)
    let grants := fun (s : State) (n : Nat) => s.ldlRuns = true ∧ n < 16 ∧ calm s ∧ s.ldlGrant = some n
    (grants s n) ∧ ((s.ldlCh n).fetch = some a) ∧ 
    let lf := s.word (a + 8)
    let cause := s.ldlCheck (s.word a).toNat (s.word (a + 4)).toNat lf
    (fld lf 0 24 ≠ 0) ∧ (cause = 0) :=
  ⟨2, 536871424, f full 0x20001000 0x20002000 100, by dsimp only; decide +kernel⟩
theorem witness_LadleEngine_5 : ∃ (n a : Nat) (s : State), 
    let calm := fun (s : State) => ∀ m, m < 16 → (s.ldlCh m).link = false ∧ (s.ldlState m ≠ 2 ∨ s.rb (Reg.ldlChStat m) 3 = false)
    let grants := fun (s : State) (n : Nat) => s.ldlRuns = true ∧ n < 16 ∧ calm s ∧ s.ldlGrant = some n
    (grants s n) ∧ ((s.ldlCh n).fetch = some a) ∧ 
    let lf := s.word (a + 8)
    let cause := s.ldlCheck (s.word a).toNat (s.word (a + 4)).toNat lf
    (fld lf 0 24 ≠ 0) ∧ (cause ≠ 0) ∧ (s.ringOn 25 = false) ∧ (a < 2 ^ 32) ∧ (s.word (a + 0xC) = 1) ∧ (s.rb (Reg.ldlChCtrl n) 6 = false) ∧ (s.rb (Reg.ldlChStat n) 3 = false) :=
  ⟨2, 536871424, f full 0x20001001 0x20002000 0x05000064, by dsimp only; decide +kernel⟩
theorem witness_LadleEngine_6 : ∃ (n : Nat) (s : State), (s.ldlRuns = false) :=
  ⟨0, mv (dat (setRegs full [(Reg.ldlStat, 3)])) 0x20001003 0x20002010 0x01000064 100, by decide +kernel⟩
theorem witness_LadleEngine_8 : ∃ (n : Nat) (s : State), 
    let calm := fun (s : State) => ∀ m, m < 16 → (s.ldlCh m).link = false ∧ (s.ldlState m ≠ 2 ∨ s.rb (Reg.ldlChStat m) 3 = false)
    let grants := fun (s : State) (n : Nat) => s.ldlRuns = true ∧ n < 16 ∧ calm s ∧ s.ldlGrant = some n
    let plain := fun (s : State) (n : Nat) => let lf := (s.ldlCh n).words.getD 2 0
    bitOf lf 26 = false ∧ bitOf lf 27 = false ∧ bitOf lf 29 = false ∧ bitOf lf 28 = false
    let inData := fun (a n : Nat) => 0x20000000 ≤ a ∧ a + n ≤ 0x20040000
    (grants s n) ∧ ((s.ldlCh n).fetch = none) ∧ ((s.ldlCh n).moving = true) ∧ (plain s n) ∧ (s.ldl.buf.length < 4) ∧ 
    let src := (s.ldlNextRead n).1
    let b := s.ldlBurstLen n
    (inData src b) :=
  ⟨2, bf1 2 (mv (dat full) 0x20001003 0x20002010 0x01000064 100), by dsimp only; decide +kernel⟩
theorem witness_LadleEngine_9 : ∃ (n : Nat) (d : List Byte) (rest : List (Nat × List Byte)) (s : State), 
    let calm := fun (s : State) => ∀ m, m < 16 → (s.ldlCh m).link = false ∧ (s.ldlState m ≠ 2 ∨ s.rb (Reg.ldlChStat m) 3 = false)
    let plain := fun (s : State) (n : Nat) => let lf := (s.ldlCh n).words.getD 2 0
    bitOf lf 26 = false ∧ bitOf lf 27 = false ∧ bitOf lf 29 = false ∧ bitOf lf 28 = false
    let inData := fun (a n : Nat) => 0x20000000 ≤ a ∧ a + n ≤ 0x20040000
    (s.ldlRuns = true) ∧ (calm s) ∧ (n < 16) ∧ (s.ldl.buf = (n, d) :: rest) ∧ (s.ldlState n = 1) ∧ (plain s n) ∧ (0 < d.length) ∧ (d.length ≤ 64) ∧ (d.length < s.rf (Reg.ldlChRemain n) 0 24) ∧ 
    let dst := (s.reg (Reg.ldlChCurDst n)).toNat
    (inData dst d.length) :=
  ⟨2, ((bf1 2 (mv (dat full) 0x20001003 0x20002010 0x01000064 100)).ldl.buf.headD (0, [])).2, (bf1 2 (mv (dat full) 0x20001003 0x20002010 0x01000064 100)).ldl.buf.tail, bf1 2 (mv (dat full) 0x20001003 0x20002010 0x01000064 100), by dsimp only; decide +kernel⟩
theorem witness_LadleEngine_10 : ∃ (n : Nat) (s : State), 
    let calm := fun (s : State) => ∀ m, m < 16 → (s.ldlCh m).link = false ∧ (s.ldlState m ≠ 2 ∨ s.rb (Reg.ldlChStat m) 3 = false)
    let grants := fun (s : State) (n : Nat) => s.ldlRuns = true ∧ n < 16 ∧ calm s ∧ s.ldlGrant = some n
    let plain := fun (s : State) (n : Nat) => let lf := (s.ldlCh n).words.getD 2 0
    bitOf lf 26 = false ∧ bitOf lf 27 = false ∧ bitOf lf 29 = false ∧ bitOf lf 28 = false
    let inData := fun (a n : Nat) => 0x20000000 ≤ a ∧ a + n ≤ 0x20040000
    (grants s n) ∧ ((s.ldlCh n).fetch = none) ∧ ((s.ldlCh n).moving = true) ∧ (plain s n) ∧ (s.ldl.buf = []) ∧ 
    let src := (s.reg (Reg.ldlChCurSrc n)).toNat
    let dst := (s.reg (Reg.ldlChCurDst n)).toNat
    let b := min (min (s.rf (Reg.ldlChRemain n) 0 24) 64) (min (64 - src % 64) (64 - dst % 64))
    (inData src b) ∧ (inData dst b) ∧ (0 < b) ∧ (b < s.rf (Reg.ldlChRemain n) 0 24) :=
  ⟨2, mv (dat full) 0x20001003 0x20002010 0x01000064 100, by dsimp only; decide +kernel⟩
theorem witness_LadleEngine_11 : ∃ (n : Nat) (s : State), 
    let calm := fun (s : State) => ∀ m, m < 16 → (s.ldlCh m).link = false ∧ (s.ldlState m ≠ 2 ∨ s.rb (Reg.ldlChStat m) 3 = false)
    let grants := fun (s : State) (n : Nat) => s.ldlRuns = true ∧ n < 16 ∧ calm s ∧ s.ldlGrant = some n
    let plain := fun (s : State) (n : Nat) => let lf := (s.ldlCh n).words.getD 2 0
    bitOf lf 26 = false ∧ bitOf lf 27 = false ∧ bitOf lf 29 = false ∧ bitOf lf 28 = false
    let inData := fun (a n : Nat) => 0x20000000 ≤ a ∧ a + n ≤ 0x20040000
    (grants s n) ∧ ((s.ldlCh n).fetch = none) ∧ ((s.ldlCh n).moving = true) ∧ (plain s n) ∧ (s.ldl.buf = []) ∧ 
    let src := (s.reg (Reg.ldlChCurSrc n)).toNat
    let dst := (s.reg (Reg.ldlChCurDst n)).toNat
    let b := min (min (s.rf (Reg.ldlChRemain n) 0 24) 64) (min (64 - src % 64) (64 - dst % 64))
    (inData src b) ∧ (inData dst b) ∧ (0 < b) ∧ (b = s.rf (Reg.ldlChRemain n) 0 24) ∧ 
    let c := (s.reg (Reg.ldlChCur n)).toNat
    (c + 0x20 ≤ dst ∨ dst + b ≤ c) ∧ (s.word (c + 0xC) = 1) ∧ (s.rb (Reg.ldlChCtrl n) 6 = false) ∧ (s.rb (Reg.ldlChStat n) 3 = false) :=
  ⟨2, mv (dat full) 0x20001003 0x20002010 0x01000064 20, by dsimp only; decide +kernel⟩
theorem witness_LadleEngine_12 : ∃ (n : Nat) (addr : Word) (l : List Nat) (s : State), (s.ldlRuns = false) :=
  ⟨0, 0, [], mv (dat (setRegs full [(Reg.ldlStat, 3)])) 0x20001003 0x20002010 0x01000064 100, by decide +kernel⟩
theorem witness_LadleEngine_13 : ∃ (n : Nat) (s : State), ∃ a, 
    let calm := fun (s : State) => ∀ m, m < 16 → (s.ldlCh m).link = false ∧ (s.ldlState m ≠ 2 ∨ s.rb (Reg.ldlChStat m) 3 = false)
    (s.pwr.rtIn = true) ∧ (s.awake = true) ∧ (s.rb Reg.ldlStat 1 = true) ∧ (s.ldl.replay = [n]) ∧ (n < 16) ∧ (calm s) ∧ (s.rb (Reg.ldlChCtrl n) 1 = false) ∧ (s.ldl.buf = []) ∧ (s.knb.commit = none) ∧ ((s.ldlCh n).fetch = some a) :=
  ⟨2, lg (f (setRegs full [(Reg.ldlStat, 3), (Reg.ldlErraddr, 0x1234)]) 0x20001003 0x20002010 100) (fun l => { l with replay := [2] }), 536871424, by dsimp only; decide +kernel⟩
theorem witness_LadleEngine_14 : ∃ (n : Nat) (s : State), 
    let calm := fun (s : State) => ∀ m, m < 16 → (s.ldlCh m).link = false ∧ (s.ldlState m ≠ 2 ∨ s.rb (Reg.ldlChStat m) 3 = false)
    let plain := fun (s : State) (n : Nat) => let lf := (s.ldlCh n).words.getD 2 0
    bitOf lf 26 = false ∧ bitOf lf 27 = false ∧ bitOf lf 29 = false ∧ bitOf lf 28 = false
    let inData := fun (a n : Nat) => 0x20000000 ≤ a ∧ a + n ≤ 0x20040000
    (s.pwr.rtIn = true) ∧ (s.awake = true) ∧ (s.rb Reg.ldlStat 1 = true) ∧ (s.ldl.replay = [n]) ∧ (n < 16) ∧ (calm s) ∧ (s.rb (Reg.ldlChCtrl n) 1 = false) ∧ (s.ldl.buf = []) ∧ (s.knb.commit = none) ∧ ((s.ldlCh n).fetch = none) ∧ ((s.ldlCh n).moving = true) ∧ (plain s n) ∧ 
    let src := (s.reg (Reg.ldlChCurSrc n)).toNat
    let dst := (s.reg (Reg.ldlChCurDst n)).toNat
    let b := min (min (s.rf (Reg.ldlChRemain n) 0 24) 64) (min (64 - src % 64) (64 - dst % 64))
    (inData src b) ∧ (inData dst b) ∧ (0 < b) ∧ (b < s.rf (Reg.ldlChRemain n) 0 24) :=
  ⟨2, lg (mv (dat (setRegs full [(Reg.ldlStat, 3), (Reg.ldlErraddr, 0x1234)])) 0x20001003 0x20002010 0x01000064 100) (fun l => { l with replay := [2] }), by dsimp only; decide +kernel⟩
theorem witness_LadleEngine_15 : ∃ (l : List Nat) (s : State), (s.rb Reg.ldlStat 1 = false) :=
  ⟨[], full, by decide +kernel⟩

end Ladle

namespace Knab

def dat (s : State) : State := setMem s [(knabPage 70, 0x11223344), (knabPage 70 + 60, 5), (knabPage 700, 7), (knabPage 2 + 8, 9)] |> fun s => setRegs s [(Reg.knbStat, 2)]
def b : State := dat full
theorem witness_KnabJournal_0 : ∃ (who : Init) (s : State), (mayWrite who 13 s) ∧ (s.rb Reg.knbJstat 0 = false) :=
  ⟨.runtime, b, by decide +kernel⟩
def jm (s : State) (l : List (Nat × Nat)) : State := setRegs s (l.map fun p => (Reg.knbJmap p.1, 0x8000 + p.2))
theorem witness_KnabJournal_1 : ∃ (who : Init) (j : Nat) (v : Word) (s : State), (s.rb Reg.knbJstat 0 = true) ∧ (mayWrite who 13 s) :=
  ⟨.runtime, 0, 0, setRegs (jm b [(0, 70)]) [(Reg.knbJstat, 1), (Reg.knbBuf 0 3, 0xABCD)], by decide +kernel⟩
theorem witness_KnabJournal_3 : ∃ (who : Init) (j : Nat) (v : Word) (s : State), (mayWrite who 13 s) ∧ (j < 64) ∧ (s.rb Reg.knbJstat 0 = false) :=
  ⟨.runtime, 0, 0, b, by decide +kernel⟩
theorem witness_KnabJournal_4 : ∃ (who : Init) (s : State), (mayWrite who 13 s) ∧ (s.pwr.good = true) ∧ 
    let pages := s.knabValid.map Prod.snd
    let e := if pages = [] then 1 else if ¬pages.Nodup then 2 else if ∃ p ∈ pages, s.knabPages ≤ p then 3
      else if s.rb Reg.knbJstat 0 = true then 4 else if ∃ p ∈ pages, knabReserved p = true then 5 else 0
    (e ≠ 0) :=
  ⟨.runtime, b, by dsimp only; decide +kernel⟩
theorem witness_KnabJournal_5 : ∃ (who : Init) (s : State), (mayWrite who 13 s) ∧ (s.pwr.good = true) ∧ 
    let pages := s.knabValid.map Prod.snd
    let e := if pages = [] then 1 else if ¬pages.Nodup then 2 else if ∃ p ∈ pages, s.knabPages ≤ p then 3
      else if s.rb Reg.knbJstat 0 = true then 4 else if ∃ p ∈ pages, knabReserved p = true then 5 else 0
    (e = 0) :=
  ⟨.runtime, jm b [(0, 1)], by dsimp only; decide +kernel⟩
theorem witness_KnabJournal_6 : ∃ (who : Init) (v : Word) (s : State), (mayWrite who 13 s) ∧ (s.pwr.good = false) :=
  ⟨.runtime, 0, pw b (fun p => { p with good := false }), by decide +kernel⟩
def kg (s : State) (f : KnbSt → KnbSt) : State := { s with knb := f s.knb }
def cm (s : State) (l : List (Nat × Nat)) : State := setRegs (kg s (fun k => { k with commit := some { pages := l.map fun p => (p.1, List.replicate 64 (BitVec.ofNat 8 p.2)) } })) [(Reg.knbJstat, 1), (Reg.knbJseq, 0xFFFFFFFF)]
theorem witness_KnabJournal_8 : ∃ (c : KnbCommit) (s : State), (s.knb.commit = some c) ∧ (s.knb.stalled = []) ∧ (s.knb.stalledInc = []) ∧ (s.knb.after = []) ∧ (c.kind = .runtime) ∧ (c.pages.length ≤ 64) ∧ ((c.pages.map Prod.fst).Nodup) ∧ ((∀ q ∈ c.pages, q.2.length = 64 ∧ q.1 ≠ 0 ∧ q.1 < 1024 ∧ knabReserved q.1 = false)) :=
  ⟨((cm b [(130, 3)]).knb.commit.getD {}), cm b [(130, 3)], by decide +kernel⟩
theorem witness_KnabJournal_9 : ∃ s : State, (s.knb.commit = none) ∧ (s.knb.after = []) :=
  ⟨b, by decide +kernel⟩
def boot (s : State) : State := setRegs (pw (s.setBytes (knabPage 0) (knabHeaderImage 1 (List.replicate 16 none))) (fun p => { p with rtIn := false, b1 := none })) [(Reg.pwrShake, 2), (Reg.pwrStat, 0), (Reg.pwrRstcause, 1)]
def jrc (s : State) (page crc : Nat) : State :=
  let s := setMem s [(knabPage 60, 77), (knabPage 60 + 4, 77), (knabPage 60 + 8, 1), (knabPage 60 + 12, crc)]
  (s.setBytes (knabPage 61) (leBytes 2 page)).setBytes (knabPage 64) (List.replicate 64 1)
theorem witness_KnabJournal_10 : ∃ (s : State), (s.resetFree = true) ∧ (s.shakeStep = 2) ∧ (s.rf Reg.pwrRstcause 0 3 = 1) ∧ (s.knb.commit = none) ∧ (s.knabWord (knabPage 60) ≠ 0) ∧ ((∀ c, c < 32 → s.knabWord (knabCtr c + 4) = s.knabWord (knabCtr c + 8))) ∧ (s.knabHeaderGood = true) ∧ (s.knabMapLoad.knb = s.knb) ∧ (s.knabModeCopy = (if s.rb Reg.knbStat 1 then 1 else 0)) ∧ (s.pwr.straps.twinPos % 4 ≠ 3) ∧ 
    let seq := s.knabWord (knabPage 60 + 4)
    let count := (s.knabWord (knabPage 60 + 8)).toNat
    let list := s.knabBytes (knabPage 61) 128
    let page := fun (j : Nat) => ofLe (slice list (2 * j) 2)
    let data := fun (j : Nat) => s.knabBytes (knabPage (64 + j)) 64
    let good := s.knabWord (knabPage 60) = seq ∧ count ≤ 64 ∧
      (s.knabWord (knabPage 60 + 12)).toNat = crc32 (leBytes 4 count ++ list ++ (List.range count).flatMap data)
    (good) ∧ ((∀ j, j < count → 16 ≤ page j ∧ page j < 20)) ∧ (((List.range count).map page).Nodup) :=
  ⟨jrc (boot b) 16 1700700522, by dsimp only; decide +kernel⟩
theorem witness_KnabJournal_11 : ∃ (s : State), (s.resetFree = true) ∧ (s.shakeStep = 2) ∧ (s.rf Reg.pwrRstcause 0 3 = 1) ∧ (s.knb.commit = none) ∧ (s.knabWord (knabPage 60) ≠ 0) ∧ ((∀ c, c < 32 → s.knabWord (knabCtr c + 4) = s.knabWord (knabCtr c + 8))) ∧ (s.knabHeaderGood = true) ∧ (s.knabMapLoad.knb = s.knb) ∧ (s.knabModeCopy = (if s.rb Reg.knbStat 1 then 1 else 0)) ∧ (s.pwr.straps.twinPos % 4 ≠ 3) ∧ 
    let seq := s.knabWord (knabPage 60 + 4)
    let count := (s.knabWord (knabPage 60 + 8)).toNat
    let list := s.knabBytes (knabPage 61) 128
    let data := fun (j : Nat) => s.knabBytes (knabPage (64 + j)) 64
    let good := s.knabWord (knabPage 60) = seq ∧ count ≤ 64 ∧
      (s.knabWord (knabPage 60 + 12)).toNat = crc32 (leBytes 4 count ++ list ++ (List.range count).flatMap data)
    (¬good) :=
  ⟨setMem (boot b) [(knabPage 60, 5)], by dsimp only; decide +kernel⟩
theorem witness_KnabJournal_13 : ∃ (who : Init) (v : Word) (s : State), ∃ w : Nat, (mayWrite who 13 s) ∧ (s.pwr.good = true) ∧ (s.knb.commit = none) ∧ (s.knb.stalledInc = []) ∧ 
    let c := fld v 0 5
    let k := max 1 (fld v 16 16)
    (s.ldl.buf = []) ∧ (s.knabCtrVal c % 2 ^ 32 + k < 2 ^ 32) :=
  ⟨.runtime, 0, b, 0, by dsimp only; decide +kernel⟩

end Knab

namespace KnabScan

def fullR := setRegs full [(Reg.knbStat, 2)]
theorem witness_MarginScanAndRetirement_0 : ∃ (who : Init) (s : State), (mayWrite who 13 s) :=
  ⟨.runtime, fullR, by decide +kernel⟩
def kg (s : State) (f : KnbSt → KnbSt) : State := { s with knb := f s.knb }
theorem witness_MarginScanAndRetirement_1 : ∃ (weak : List Nat) (s : State), 
    let free19 := fun (s : State) => s.held.any (fun h => h.ring == 19) = false
    (s.awake = true) ∧ (s.knabRecalling = false) ∧ (s.knb.weak = []) ∧ (free19 s) ∧ (s.knabRefreshing = false) ∧ (s.knb.sliceNow = true ∨ s.knb.nextSlice ≤ s.tb.count) :=
  ⟨[], kg fullR (fun k => { k with sliceNow := true }), by dsimp only; decide +kernel⟩
def wk (s : State) (l : List Nat) : State := setRegs (kg s (fun k => { k with weak := l })) [(Reg.knbScan, 0x10)]
theorem witness_MarginScanAndRetirement_2 : ∃ (weak : List Nat) (s : State), (s.knb.weak ≠ [] ∨ s.knabRefreshing = true ∨ (s.knb.sliceNow = false ∧ s.tb.count < s.knb.nextSlice)) :=
  ⟨[], wk fullR [70], by decide +kernel⟩
theorem witness_MarginScanAndRetirement_3 : ∃ (page : Nat) (still : Bool) (s : State), 
    let free19 := fun (s : State) => s.held.any (fun h => h.ring == 19) = false
    (page ∈ s.knb.weak) ∧ (s.knb.commit = none) ∧ (s.knabRecalling = false) ∧ (s.awake = true) ∧ (free19 s) :=
  ⟨70, false, wk fullR [70], by dsimp only; decide +kernel⟩
theorem witness_MarginScanAndRetirement_4 : ∃ (page : Nat) (still : Bool) (s : State), (page ∉ s.knb.weak ∨ s.knb.commit.isSome = true) :=
  ⟨70, false, fullR, by decide +kernel⟩
def rf (p : Nat) (still : Bool) (s : State) : State := setRegs (kg s (fun k => { k with commit := some { pages := [(p, s.knabBytes (knabPage p) 64)], kind := .refresh p still } })) [(Reg.knbJstat, 1)]
theorem witness_MarginScanAndRetirement_5 : ∃ (page : Nat) (l : List Byte) (still : Bool) (s : State), 
    let ready := fun (s : State) => s.knb.stalled = [] ∧ s.knb.stalledInc = [] ∧ s.knb.after = [] ∧ s.ringFits 19 8 ∧ s.ringBelow 19 (knabPage 0) ∧
    (s.rf (Reg.rngCfg 19) 6 2 ≠ 2 ∨ s.ringOn 19 = false)
    (ready s) ∧ (page < 1024) ∧ (l.length = 64) ∧ (s.knb.commit = some { pages := [(page, l)], kind := .refresh page still }) :=
  ⟨70, fullR.knabBytes (knabPage 70) 64, true, rf 70 true fullR, by dsimp only; decide +kernel⟩
def rt (p i : Nat) (s : State) : State :=
  let h := s.pageWith 0 (knabHeaderImage s.knabModeCopy (s.knb.spares.set i (some p)))
  setRegs (kg s (fun k => { k with commit := some { pages := [(1024 + i, if p = 0 then h else s.knabBytes (knabPage p) 64), (0, h)], kind := .retire p i } })) [(Reg.knbJstat, 1)]
theorem witness_MarginScanAndRetirement_6 : ∃ (page i mode : Nat) (l header : List Byte) (spares : List (Option Nat)) (s : State), 
    let ready := fun (s : State) => s.knb.stalled = [] ∧ s.knb.stalledInc = [] ∧ s.knb.after = [] ∧ s.ringFits 19 8 ∧ s.ringBelow 19 (knabPage 0) ∧
    (s.rf (Reg.rngCfg 19) 6 2 ≠ 2 ∨ s.ringOn 19 = false)
    (ready s) ∧ (page < 1024) ∧ (i < 16) ∧ (l.length = 64) ∧ (s.knb.spares.getD i none = none) ∧ ((∀ j, j < 16 → (s.knb.spares.getD j none).getD 0 < 1024)) ∧ (spares.length = 16) ∧ ((∀ j, j < 16 → (spares.getD j none).getD 0 < 1024)) ∧ (spares.getD i none = some page) ∧ ((∀ p, p < 1024 → p ≠ page → s.knabCell (knabPage p) = State.knabCell { s with knb := { s.knb with spares := spares } } (knabPage p))) ∧ ((∀ j, j < 16 → i < j → spares.getD j none ≠ some page)) ∧ (header.length = 64) ∧ (mode < 256) ∧ (header.take 42 = knabHeaderImage mode spares) ∧ ((page = 0 → l = header)) ∧ (s.knb.commit = some { pages := [(1024 + i, l), (0, header)], kind := .retire page i }) :=
  ⟨70, 0, fullR.knabModeCopy, fullR.knabBytes (knabPage 70) 64, fullR.pageWith 0 (knabHeaderImage fullR.knabModeCopy (fullR.knb.spares.set 0 (some 70))), fullR.knb.spares.set 0 (some 70), rt 70 0 fullR, by dsimp only; decide +kernel⟩

end KnabScan

end Sys2Proof.Tests
end

