-- ==== Sys2Proof/Tests/WitnessD.lean ====
section
/-! SUPPORT. Witnesses for chapters 16 to 20 (log, RTC, keypad and lock): witness_<Statement>_<k> shows a state and operands that meet all hypotheses of
clause k of the statement at once. Clauses are counted from 0 in the order of the text; one whose hypotheses are among those of another has no witness of its own. -/

set_option linter.unusedVariables false
set_option Elab.async false

namespace Sys2Proof.Tests
open Sys2Proof Sys2Proof.Machine

namespace LogAndReads

def at_ (s : State) (f : List Nat) (e : Nat) : State := { s.setRtcFields f with rtc := { s.rtc with epoch := e, cyc := 32768000 - 4000 } }
def sec0 : Nat := secOf [0x59,0x59,0x23,0x28,3,2,0x24,0x20]
def c1 := at_ full [0x59,0x59,0x23,0x28,3,2,0x24,0x20] sec0
theorem witness_RtcTime_0 : ∃ s : State, (s.rtcHalted = true ∨ s.rtc.xstopped = true ∨ (s.asleep = false ∧ s.rtc.cyc + 8192 ≤ 1000 * (s.rtc.secLen : Int))) :=
  ⟨setRegs c1 [(Reg.rtcCtrl, 1)], by decide +kernel⟩
theorem witness_RtcTime_2 : ∃ s : State,
    let adj := fun (s : State) => sfld (s.reg Reg.rtcAdj) 0 8
    (s.rtcHalted = false) ∧ (s.rtc.xstopped = false) ∧ (s.rtcAlive = true) ∧ (s.ringFits 23 8) ∧ ((s.asleep = false ∧ 1000 * (s.rtc.secLen : Int) < s.rtc.cyc + 8192) ∨ (s.asleep = true ∧ s.rf Reg.pwrWake 0 3 = 0)) ∧ 
    let sec := (secOf s.rtcFields : Int) + (adj s + 1)
    (0 ≤ sec) ∧ (sec ≤ (rtcLastSec : Int)) :=
  ⟨c1, by dsimp only; decide +kernel⟩
theorem witness_RtcTime_3 : ∃ s : State,
    let adj := fun (s : State) => sfld (s.reg Reg.rtcAdj) 0 8
    (s.rtcHalted = false) ∧ (s.rtc.xstopped = false) ∧ (s.rtcAlive = true) ∧ (s.ringFits 23 8) ∧ ((s.asleep = false ∧ 1000 * (s.rtc.secLen : Int) < s.rtc.cyc + 8192) ∨ (s.asleep = true ∧ s.rf Reg.pwrWake 0 3 = 0)) ∧ 
    let sec := (secOf s.rtcFields : Int) + (adj s + 1)
    ((rtcLastSec : Int) < sec) :=
  ⟨at_ full (fieldsOf rtcLastSec) rtcLastSec, by dsimp only; decide +kernel⟩
theorem witness_RtcTime_4 : ∃ s : State,
    let adj := fun (s : State) => sfld (s.reg Reg.rtcAdj) 0 8
    (s.rtcHalted = false) ∧ (s.rtc.xstopped = false) ∧ (s.rtcAlive = true) ∧ (s.ringFits 23 8) ∧ ((s.asleep = false ∧ 1000 * (s.rtc.secLen : Int) < s.rtc.cyc + 8192) ∨ (s.asleep = true ∧ s.rf Reg.pwrWake 0 3 = 0)) ∧ 
    let sec := (secOf s.rtcFields : Int) + (adj s + 1)
    (sec < 0) :=
  ⟨at_ (setRegs full [(Reg.rtcAdj, 0xF0)]) (fieldsOf 3) 3, by dsimp only; decide +kernel⟩
theorem witness_RtcTime_6 : ∃ (who : Init) (v : Word) (s : State), (0 < s.rtc.secLen) ∧ (mayWrite who 12 s) ∧ (bitOf v 0 = true) :=
  ⟨.runtime, 1, c1, by decide +kernel⟩
theorem witness_RtcTime_7 : ∃ (who : Init) (v : Word) (s : State), (0 < s.rtc.secLen) ∧ (mayWrite who 12 s) ∧ (bitOf v 0 = false) :=
  ⟨.runtime, 0, c1, by decide +kernel⟩
theorem witness_RtcTime_8 : ∃ (who : Init) (i : Nat) (v : Word) (s : State), (mayWrite who 12 s) ∧ (i < 8) ∧ (s.rtcHalted = true) :=
  ⟨.runtime, 0, 0, setRegs c1 [(Reg.rtcCtrl, 1)], by decide +kernel⟩
theorem witness_RtcTime_9 : ∃ (who : Init) (i : Nat) (v : Word) (s : State), (mayWrite who 12 s) ∧ (i < 8) ∧ (s.rtcHalted = false) :=
  ⟨.runtime, 0, 0, c1, by decide +kernel⟩
theorem witness_RtcTime_10 : ∃ (who : Init) (s : State), (mayWrite who 12 s) ∧ (0 < s.rtc.secLen) :=
  ⟨.runtime, c1, by decide +kernel⟩
theorem witness_RtcTime_11 : ∃ (who : Init) (s : State), (mayWrite who 12 s) ∧ (s.rtcAlive = true) ∧ (s.ringFits 23 8) ∧ (s.rtcHalted = true) ∧ (fieldsValid s.rtcFields = true) :=
  ⟨.runtime, setRegs c1 [(Reg.rtcCtrl, 1)], by decide +kernel⟩
theorem witness_RtcTime_12 : ∃ (who : Init) (s : State), (mayWrite who 12 s) ∧ (s.rtcAlive = true) ∧ (s.ringFits 23 8) ∧ (s.rtcHalted = true) ∧ (fieldsValid s.rtcFields = false) :=
  ⟨.runtime, setRegs (at_ full [0x59,0x59,0x23,0x28,4,2,0x24,0x20] 0) [(Reg.rtcCtrl, 9)], by decide +kernel⟩
theorem witness_RtcTime_13 : ∃ (who : Init) (s : State), (mayWrite who 12 s) ∧ (s.rtcAlive = true) ∧ (s.ringFits 23 8) ∧ (s.rtcHalted = false) :=
  ⟨.runtime, c1, by decide +kernel⟩
theorem witness_RtcTime_14 : ∃ (who : Init) (v : Word) (s : State), (mayWrite who 12 s) ∧ 
    let a := sfld v 0 8
    (s.rtcHalted = false ∧ -59 ≤ a ∧ a ≤ 59) :=
  ⟨.runtime, 0, c1, by dsimp only; decide +kernel⟩
theorem witness_RtcTime_15 : ∃ (who : Init) (v : Word) (s : State), (mayWrite who 12 s) ∧ 
    let a := sfld v 0 8
    (¬(s.rtcHalted = false ∧ -59 ≤ a ∧ a ≤ 59)) :=
  ⟨.runtime, 0, setRegs c1 [(Reg.rtcCtrl, 1)], by dsimp only; decide +kernel⟩
def cnt (s : State) : State := setRegs s [(Reg.acqClipcnt, 5), (Reg.thmTj, 0x00220190), (Reg.encErr 3, 9), (Reg.cenTrcLost 3, 4), (Reg.rngDrop 2, 8)]
theorem witness_ClearingReadsAndLogWrites_7 : ∃ (who : Init) (s : State), (s.present 16 = true) :=
  ⟨.runtime, cnt full, by decide +kernel⟩
def v32 : State := { full with variant := .wv7232 }
theorem witness_ClearingReadsAndLogWrites_9 : ∃ (who : Init) (s : State), (s.present 16 = false) :=
  ⟨.runtime, cnt v32, by decide +kernel⟩
theorem witness_ClearingReadsAndLogWrites_12 : ∃ (who : Init) (n : Nat) (s : State), (n < 128) :=
  ⟨.runtime, 0, cnt full, by decide +kernel⟩
theorem witness_ClearingReadsAndLogWrites_13 : ∃ (who : Init) (n : Nat) (s : State), (n < 32) :=
  ⟨.runtime, 0, cnt full, by decide +kernel⟩
theorem witness_ClearingReadsAndLogWrites_14 : ∃ (who : Init) (n : Nat) (s : State), (n < 3) :=
  ⟨.runtime, 0, cnt full, by decide +kernel⟩
theorem witness_ClearingReadsAndLogWrites_16 : ∃ (who : Init) (n : Nat) (s : State), (n < 8) ∧ (s.present 26 = true) :=
  ⟨.runtime, 0, cnt full, by decide +kernel⟩
theorem witness_ClearingReadsAndLogWrites_17 : ∃ (who : Init) (n : Nat) (s : State), (n < 8) ∧ (s.present 26 = false) :=
  ⟨.runtime, 0, cnt v32, by decide +kernel⟩
theorem witness_ClearingReadsAndLogWrites_18 : ∃ (who : Init) (n : Nat) (s : State), (n < s.nTraces) :=
  ⟨.runtime, 0, cnt full, by decide +kernel⟩
theorem witness_ClearingReadsAndLogWrites_19 : ∃ (who : Init) (n : Nat) (s : State), (n < s.nEncs) :=
  ⟨.runtime, 0, cnt full, by decide +kernel⟩
theorem witness_ClearingReadsAndLogWrites_20 : ∃ (who : Init) (n : Nat) (s : State), (n < 4) ∧ (s.nTraces ≤ n) :=
  ⟨.runtime, 2, cnt v32, by decide +kernel⟩
theorem witness_ClearingReadsAndLogWrites_21 : ∃ (who : Init) (n : Nat) (s : State), (n < 4) ∧ (s.nEncs ≤ n) :=
  ⟨.runtime, 2, cnt v32, by decide +kernel⟩
def e1 : LogRec := { code := 0x0203, flags := 0xC0, tick := 5, rtcsec := 6, param := 7 }
def lg (s : State) (l : List LogRec) : State := { s with log := { s.log with pending := l } }
def j (s : State) : State := s.setRb Reg.knbStat 1 true
theorem witness_ClearingReadsAndLogWrites_22 : ∃ (ok : Bool) (e : LogRec) (rest : List LogRec) (s : State), (s.runtimeRuns = true) ∧ (s.knabRecalling = false) ∧ (s.log.pending = e :: rest) ∧ (s.knb.commit = none) ∧ (s.knb.stalledInc = []) ∧ ((∀ r ∈ [2, 3, 18], s.ringFits r 16 ∧ (s.ringOn r = true → s.rf (Reg.rngCfg r) 6 2 ≠ 2) ∧ s.ringBelow r (knabPage 0))) ∧ 
    let journal := s.rb Reg.knbStat 1
    (ok = true ∨ journal = false) :=
  ⟨true, (lg (j full) [e1]).log.pending.headD {}, (lg (j full) [e1]).log.pending.tail, lg (j full) [e1], by dsimp only; decide +kernel⟩
theorem witness_ClearingReadsAndLogWrites_23 : ∃ (ok : Bool) (e : LogRec) (rest : List LogRec) (s : State), (s.runtimeRuns = true) ∧ (s.knabRecalling = false) ∧ (s.log.pending = e :: rest) ∧ (s.knb.commit = none) ∧ (s.knb.stalledInc = []) ∧ ((∀ r ∈ [2, 3, 18], s.ringFits r 16 ∧ (s.ringOn r = true → s.rf (Reg.rngCfg r) 6 2 ≠ 2) ∧ s.ringBelow r (knabPage 0))) ∧ 
    let journal := s.rb Reg.knbStat 1
    (ok = false) ∧ (journal = true) :=
  ⟨false, (lg (j full) [e1]).log.pending.headD {}, (lg (j full) [e1]).log.pending.tail, lg (j full) [e1], by dsimp only; decide +kernel⟩
theorem witness_ClearingReadsAndLogWrites_24 : ∃ (ok : Bool) (s : State), (s.awake = false ∨ s.knabRecalling = true ∨ s.log.pending = [] ∨
      (s.runtimeRuns = false ∧ ∀ e ∈ s.log.pending, e.isEvent = true ∨ (e.code ≠ 0x0203 ∧ e.code ≠ 0x0201))) :=
  ⟨false, cnt full, by decide +kernel⟩

end LogAndReads

namespace RtcSupervision

theorem witness_RtcSupervision_0 : ∃ (who : Init) (v : Word) (s : State), (mayWrite who 12 s) :=
  ⟨.runtime, 0, full, by decide +kernel⟩
theorem witness_RtcSupervision_1 : ∃ (cycles : Nat) (s : State), 
    let measuring := fun (s : State) (src : Nat) => decide (s.rb Reg.rtcMeasCfg 3 = true ∧ s.rf Reg.rtcMeasCfg 0 2 = src)
    (s.awake = true) ∧ (s.ringFits 23 8) ∧ 
    let periods := (cycles :: s.rtc.periods).take 8
    let ok := periods.length == 8 && periods.all (fun p => decide (469 ≤ p ∧ p ≤ 819))
    (ok = s.rb Reg.rtcStat 9) ∧ (measuring s 1 = false) :=
  ⟨0, full, by dsimp only; decide +kernel⟩
def mc (v : Nat) (s : State := full) : State := setRegs s [(Reg.rtcMeasCfg, v)]
theorem witness_RtcSupervision_2 : ∃ (cycles : Nat) (s : State), 
    let measuring := fun (s : State) (src : Nat) => decide (s.rb Reg.rtcMeasCfg 3 = true ∧ s.rf Reg.rtcMeasCfg 0 2 = src)
    (s.awake = true) ∧ (s.ringFits 23 8) ∧ 
    let periods := (cycles :: s.rtc.periods).take 8
    let ok := periods.length == 8 && periods.all (fun p => decide (469 ≤ p ∧ p ≤ 819))
    (ok = s.rb Reg.rtcStat 9) ∧ (measuring s 1 = true) ∧ (s.rtc.measStarted = false) :=
  ⟨0, mc 0x19, by dsimp only; decide +kernel⟩
def per (s : State) (l : List Nat) : State := { s with rtc := { s.rtc with periods := l } }
def good7 := List.replicate 7 655
theorem witness_RtcSupervision_3 : ∃ (cycles : Nat) (s : State), 
    let measuring := fun (s : State) (src : Nat) => decide (s.rb Reg.rtcMeasCfg 3 = true ∧ s.rf Reg.rtcMeasCfg 0 2 = src)
    (s.awake = true) ∧ (s.ringFits 23 8) ∧ 
    let periods := (cycles :: s.rtc.periods).take 8
    let ok := periods.length == 8 && periods.all (fun p => decide (469 ≤ p ∧ p ≤ 819))
    (ok = s.rb Reg.rtcStat 9) ∧ (measuring s 1 = true) ∧ (s.rtc.measStarted = true) ∧ (s.rtc.measCount + 1 ≠ max 1 (s.rf Reg.rtcMeasCfg 8 24)) :=
  ⟨469, (let s := per (mc 0x309 (setRegs full [(Reg.rtcStat, 0x200)])) good7; { s with rtc := { s.rtc with measStarted := true, measCount := 1, measCycles := 2^39 } }), by dsimp only; decide +kernel⟩
theorem witness_RtcSupervision_4 : ∃ (cycles : Nat) (s : State), 
    let measuring := fun (s : State) (src : Nat) => decide (s.rb Reg.rtcMeasCfg 3 = true ∧ s.rf Reg.rtcMeasCfg 0 2 = src)
    (s.awake = true) ∧ (s.ringFits 23 8) ∧ 
    let periods := (cycles :: s.rtc.periods).take 8
    let ok := periods.length == 8 && periods.all (fun p => decide (469 ≤ p ∧ p ≤ 819))
    (ok = s.rb Reg.rtcStat 9) ∧ (measuring s 1 = true) ∧ (s.rtc.measStarted = true) ∧ (s.rtc.measCount + 1 = max 1 (s.rf Reg.rtcMeasCfg 8 24)) :=
  ⟨469, (let s := per (mc 0x309 (setRegs full [(Reg.rtcStat, 0x200)])) good7; { s with rtc := { s.rtc with measStarted := true, measCount := 2, measCycles := 2^40-3 } }), by dsimp only; decide +kernel⟩
theorem witness_RtcSupervision_5 : ∃ (cycles : Nat) (s : State), 
    let measuring := fun (s : State) (src : Nat) => decide (s.rb Reg.rtcMeasCfg 3 = true ∧ s.rf Reg.rtcMeasCfg 0 2 = src)
    (s.awake = true) ∧ (s.ringFits 23 8) ∧ 
    let periods := (cycles :: s.rtc.periods).take 8
    let ok := periods.length == 8 && periods.all (fun p => decide (469 ≤ p ∧ p ≤ 819))
    (ok = true) ∧ (s.rb Reg.rtcStat 9 = false) ∧ (measuring s 1 = false) :=
  ⟨469, per full good7, by dsimp only; decide +kernel⟩
theorem witness_RtcSupervision_6 : ∃ (cycles : Nat) (s : State), (s.awake = true) ∧ (s.ringFits 23 8) ∧ 
    let periods := (cycles :: s.rtc.periods).take 8
    let ok := periods.length == 8 && periods.all (fun p => decide (469 ≤ p ∧ p ≤ 819))
    (ok = false) ∧ (s.rb Reg.rtcStat 9 = true) :=
  ⟨0, per (setRegs full [(Reg.rtcStat, 0x200)]) good7, by dsimp only; decide +kernel⟩
theorem witness_RtcSupervision_7 : ∃ s : State, (s.awake = true) ∧ (s.rb Reg.rtcStat 9 = true) :=
  ⟨per (setRegs full [(Reg.rtcStat, 0x200)]) good7, by decide +kernel⟩
theorem witness_RtcSupervision_8 : ∃ s : State, (s.awake = true) ∧ (s.rb Reg.rtcStat 9 = false) :=
  ⟨full, by decide +kernel⟩
theorem witness_RtcSupervision_9 : ∃ s : State, (s.runtimeRuns = true) ∧ (s.hostOwns 12 = false) ∧ (s.rtc.measDone = true) ∧ (s.odNum 3 0 0xB ≠ 0) ∧ (s.rb Reg.rtcMeasCfg 3 = false) ∧ (s.odNat 3 0 0xC = 2) ∧ (0 < s.rtc.termN) ∧ 
    let n : Int := (s.reg Reg.rtcMeasN).toNat
    let hz : Int := if s.rf Reg.rtcMeasCfg 0 2 = 1 then s.odNat 3 0 0xD else 1
    (0 < n) ∧ (0 < hz) :=
  ⟨(let s := setRegs full [(Reg.rtcMeasN, 86400), (Reg.rtcMeasCntLo, 2831126888), (Reg.rtcMeasCfg, 0x12)]; { s with rtc := { s.rtc with measDone := true, termSum := 7*100+50, termN := 100 } }), by dsimp only; decide +kernel⟩
theorem witness_RtcSupervision_10 : ∃ s : State, (¬(s.runtimeRuns = true ∧ s.hostOwns 12 = false ∧ s.rtc.measDone = true ∧ s.odNum 3 0 0xB ≠ 0)) :=
  ⟨full, by decide +kernel⟩
theorem witness_RtcSupervision_11 : ∃ (toVbat : Bool) (s : State), (s.rtcAlive = true) ∧ (s.ringFits 23 8) ∧ (s.rtc.onVbat = toVbat) :=
  ⟨false, full, by decide +kernel⟩
theorem witness_RtcSupervision_12 : ∃ (toVbat : Bool) (s : State), (s.rtcAlive = true) ∧ (s.ringFits 23 8) ∧ (s.rtc.onVbat ≠ toVbat) :=
  ⟨false, { full with rtc := { full.rtc with onVbat := true } }, by decide +kernel⟩
theorem witness_RtcSupervision_13 : ∃ s : State, (s.rtcAlive = true) ∧ (s.rtc.vbatLow = false) :=
  ⟨full, by decide +kernel⟩
theorem witness_RtcSupervision_18 : ∃ s : State, (s.rtcAlive = true) ∧ (s.ringFits 23 8) ∧ (s.rtc.xstopped = false) :=
  ⟨full, by decide +kernel⟩
theorem witness_RtcSupervision_19 : ∃ s : State, (s.rtcAlive = true) ∧ (s.ringFits 23 8) ∧ (s.rtc.xstopped = true) :=
  ⟨{ full with rtc := { full.rtc with xstopped := true } }, by decide +kernel⟩

end RtcSupervision

namespace RtcSupervisionB

theorem witness_RtcSupervision_14 : ∃ s : State, (s.rtcAlive = true) ∧ (s.rtc.vbatLow = true) :=
  ⟨{ full with rtc := { full.rtc with vbatLow := true } }, by decide +kernel⟩
theorem witness_RtcSupervision_16 : ∃ s : State, (s.rtcAlive = false) ∧ (s.rtc.vbatLow = false) :=
  ⟨pw full (fun p => { p with good := false }), by decide +kernel⟩

end RtcSupervisionB

namespace Keypad

theorem witness_KeypadKeys_0 : ∃ (raw : List Nat) (s : State), 
    let due := fun (s : State) => s.kpdScans = true ∧ s.tb.running = true ∧ s.tb.count % (s.rf Reg.kpdCfg 12 4 + 1) = 0 ∧ s.kpd.lastScan ≠ some s.now
    (¬due s) :=
  ⟨[], live, by dsimp only; decide +kernel⟩
def kb : State := own (setRegs { full with kpd := { full.kpd with seqLo := 0x07945123, lastKey := some 0x33 } } [(Reg.kpdCtrl, 1), (Reg.kpdCfg, 0xF3|||0x200), (Reg.kpdDeb, 0x3C141403), (Reg.kpdLockcfg, 0x050A0F04), (Reg.sysOwn, 0x800), (Reg.zonPinCfg 3, 3)]) 11
def st (s : State) (n : Nat) (att pos : Nat := 0) : State := setRegs s [(Reg.kpdLock, n + 16*att + 256*pos)]
def k0 := st kb 0
theorem witness_KeypadKeys_1 : ∃ (raw : List Nat) (s : State), 
    let due := fun (s : State) => s.kpdScans = true ∧ s.tb.running = true ∧ s.tb.count % (s.rf Reg.kpdCfg 12 4 + 1) = 0 ∧ s.kpd.lastScan ≠ some s.now
    let rows := fun (s : State) => if s.variant = .wv7232 then min 8 (s.rf Reg.kpdCfg 0 4 + 1) else s.rf Reg.kpdCfg 0 4 + 1
    let cols := fun (s : State) => if s.variant = .wv7232 then min 8 (s.rf Reg.kpdCfg 4 4 + 1) else s.rf Reg.kpdCfg 4 4 + 1
    let inMatrix := fun (s : State) (k : Nat) => k / 16 < rows s ∧ k % 16 < cols s
    let need := fun (s : State) (press : Bool) =>
    if rows s * cols s ≤ 64 then max 1 (s.rf Reg.kpdDeb 0 4)
    else (4 * max 1 (s.rf Reg.kpdDeb (if press then 8 else 16) 8) + s.rf Reg.kpdCfg 12 4) / (s.rf Reg.kpdCfg 12 4 + 1)
    let settles := fun (s : State) (raw : List Nat) (k : Nat) =>
    raw.contains k = (s.key k).pressed ∨ (s.key k).count + 1 < need s (raw.contains k)
    (due s) ∧ ((∀ k < 256, inMatrix s k → settles s raw k)) :=
  ⟨[], k0, by dsimp only; decide +kernel⟩
def key (s : State) (k : Nat) (v : KeySt) : State := s.setKey k v
theorem witness_KeypadKeys_2 : ∃ (raw : List Nat) (k : Nat) (s : State), 
    let due := fun (s : State) => s.kpdScans = true ∧ s.tb.running = true ∧ s.tb.count % (s.rf Reg.kpdCfg 12 4 + 1) = 0 ∧ s.kpd.lastScan ≠ some s.now
    let rows := fun (s : State) => if s.variant = .wv7232 then min 8 (s.rf Reg.kpdCfg 0 4 + 1) else s.rf Reg.kpdCfg 0 4 + 1
    let cols := fun (s : State) => if s.variant = .wv7232 then min 8 (s.rf Reg.kpdCfg 4 4 + 1) else s.rf Reg.kpdCfg 4 4 + 1
    let inMatrix := fun (s : State) (k : Nat) => k / 16 < rows s ∧ k % 16 < cols s
    let need := fun (s : State) (press : Bool) =>
    if rows s * cols s ≤ 64 then max 1 (s.rf Reg.kpdDeb 0 4)
    else (4 * max 1 (s.rf Reg.kpdDeb (if press then 8 else 16) 8) + s.rf Reg.kpdCfg 12 4) / (s.rf Reg.kpdCfg 12 4 + 1)
    let settles := fun (s : State) (raw : List Nat) (k : Nat) =>
    raw.contains k = (s.key k).pressed ∨ (s.key k).count + 1 < need s (raw.contains k)
    let one := fun (s : State) (raw : List Nat) (k : Nat) => due s ∧ inMatrix s k ∧ raw.contains k ≠ (s.key k).pressed ∧
    need s (raw.contains k) ≤ (s.key k).count + 1 ∧ (∀ j < 256, inMatrix s j → j ≠ k → settles s raw j) ∧
    s.ringBelow 0 (knabPage 0)
    let room := fun (s : State) => s.ringOn 0 = true ∧ s.ringEsize 0 = 8 ∧ s.ringCount 0 < 2 ^ s.ringDepth 0
    (one s raw k) ∧ (raw.contains k = true) ∧ (s.knb.commit = none) ∧ (s.knb.stalledInc = []) ∧ 
    let st := s.lockState
    (st = 0 ∨ st = 3) ∧ (room s) :=
  ⟨[0x21], 33, key k0 0x21 { count := 2 }, by dsimp only; decide +kernel⟩
def fullr (s : State) : State := setRegs s [(Reg.rngHead 0, 4)]
theorem witness_KeypadKeys_3 : ∃ (raw : List Nat) (k : Nat) (s : State), 
    let due := fun (s : State) => s.kpdScans = true ∧ s.tb.running = true ∧ s.tb.count % (s.rf Reg.kpdCfg 12 4 + 1) = 0 ∧ s.kpd.lastScan ≠ some s.now
    let rows := fun (s : State) => if s.variant = .wv7232 then min 8 (s.rf Reg.kpdCfg 0 4 + 1) else s.rf Reg.kpdCfg 0 4 + 1
    let cols := fun (s : State) => if s.variant = .wv7232 then min 8 (s.rf Reg.kpdCfg 4 4 + 1) else s.rf Reg.kpdCfg 4 4 + 1
    let inMatrix := fun (s : State) (k : Nat) => k / 16 < rows s ∧ k % 16 < cols s
    let need := fun (s : State) (press : Bool) =>
    if rows s * cols s ≤ 64 then max 1 (s.rf Reg.kpdDeb 0 4)
    else (4 * max 1 (s.rf Reg.kpdDeb (if press then 8 else 16) 8) + s.rf Reg.kpdCfg 12 4) / (s.rf Reg.kpdCfg 12 4 + 1)
    let settles := fun (s : State) (raw : List Nat) (k : Nat) =>
    raw.contains k = (s.key k).pressed ∨ (s.key k).count + 1 < need s (raw.contains k)
    let one := fun (s : State) (raw : List Nat) (k : Nat) => due s ∧ inMatrix s k ∧ raw.contains k ≠ (s.key k).pressed ∧
    need s (raw.contains k) ≤ (s.key k).count + 1 ∧ (∀ j < 256, inMatrix s j → j ≠ k → settles s raw j) ∧
    s.ringBelow 0 (knabPage 0)
    (one s raw k) ∧ (raw.contains k = true) ∧ (s.knb.commit = none) ∧ (s.knb.stalledInc = []) ∧ 
    let st := s.lockState
    (st = 0 ∨ st = 3) ∧ (s.ringOn 0 = true) ∧ (s.ringEsize 0 = 8) ∧ (s.ringFull 0 = true) ∧ (s.rf (Reg.rngCfg 0) 6 2 ≠ 1) :=
  ⟨[0x21], 33, fullr (key k0 0x21 { count := 2 }), by dsimp only; decide +kernel⟩
theorem witness_KeypadKeys_4 : ∃ (raw : List Nat) (k : Nat) (s : State), 
    let due := fun (s : State) => s.kpdScans = true ∧ s.tb.running = true ∧ s.tb.count % (s.rf Reg.kpdCfg 12 4 + 1) = 0 ∧ s.kpd.lastScan ≠ some s.now
    let rows := fun (s : State) => if s.variant = .wv7232 then min 8 (s.rf Reg.kpdCfg 0 4 + 1) else s.rf Reg.kpdCfg 0 4 + 1
    let cols := fun (s : State) => if s.variant = .wv7232 then min 8 (s.rf Reg.kpdCfg 4 4 + 1) else s.rf Reg.kpdCfg 4 4 + 1
    let inMatrix := fun (s : State) (k : Nat) => k / 16 < rows s ∧ k % 16 < cols s
    let need := fun (s : State) (press : Bool) =>
    if rows s * cols s ≤ 64 then max 1 (s.rf Reg.kpdDeb 0 4)
    else (4 * max 1 (s.rf Reg.kpdDeb (if press then 8 else 16) 8) + s.rf Reg.kpdCfg 12 4) / (s.rf Reg.kpdCfg 12 4 + 1)
    let settles := fun (s : State) (raw : List Nat) (k : Nat) =>
    raw.contains k = (s.key k).pressed ∨ (s.key k).count + 1 < need s (raw.contains k)
    let one := fun (s : State) (raw : List Nat) (k : Nat) => due s ∧ inMatrix s k ∧ raw.contains k ≠ (s.key k).pressed ∧
    need s (raw.contains k) ≤ (s.key k).count + 1 ∧ (∀ j < 256, inMatrix s j → j ≠ k → settles s raw j) ∧
    s.ringBelow 0 (knabPage 0)
    let phantom := fun (s : State) (k : Nat) => s.rb Reg.kpdCfg 8 && (List.range 16).any (fun r => (List.range 16).any (fun c =>
    r != k / 16 && c != k % 16 && (s.key (16 * (k / 16) + c)).pressed && (s.key (16 * r + k % 16)).pressed && (s.key (16 * r + c)).pressed))
    let room := fun (s : State) => s.ringOn 0 = true ∧ s.ringEsize 0 = 8 ∧ s.ringCount 0 < 2 ^ s.ringDepth 0
    (one s raw k) ∧ (raw.contains k = true) ∧ (s.knb.commit = none) ∧ (s.knb.stalledInc = []) ∧ 
    let st := s.lockState
    (st = 2) ∧ (phantom s k = false) ∧ (room s) :=
  ⟨[0x21], 33, key (st k0 2) 0x21 { count := 2 }, by dsimp only; decide +kernel⟩
theorem witness_KeypadKeys_5 : ∃ (raw : List Nat) (k : Nat) (s : State), 
    let due := fun (s : State) => s.kpdScans = true ∧ s.tb.running = true ∧ s.tb.count % (s.rf Reg.kpdCfg 12 4 + 1) = 0 ∧ s.kpd.lastScan ≠ some s.now
    let rows := fun (s : State) => if s.variant = .wv7232 then min 8 (s.rf Reg.kpdCfg 0 4 + 1) else s.rf Reg.kpdCfg 0 4 + 1
    let cols := fun (s : State) => if s.variant = .wv7232 then min 8 (s.rf Reg.kpdCfg 4 4 + 1) else s.rf Reg.kpdCfg 4 4 + 1
    let inMatrix := fun (s : State) (k : Nat) => k / 16 < rows s ∧ k % 16 < cols s
    let need := fun (s : State) (press : Bool) =>
    if rows s * cols s ≤ 64 then max 1 (s.rf Reg.kpdDeb 0 4)
    else (4 * max 1 (s.rf Reg.kpdDeb (if press then 8 else 16) 8) + s.rf Reg.kpdCfg 12 4) / (s.rf Reg.kpdCfg 12 4 + 1)
    let settles := fun (s : State) (raw : List Nat) (k : Nat) =>
    raw.contains k = (s.key k).pressed ∨ (s.key k).count + 1 < need s (raw.contains k)
    let one := fun (s : State) (raw : List Nat) (k : Nat) => due s ∧ inMatrix s k ∧ raw.contains k ≠ (s.key k).pressed ∧
    need s (raw.contains k) ≤ (s.key k).count + 1 ∧ (∀ j < 256, inMatrix s j → j ≠ k → settles s raw j) ∧
    s.ringBelow 0 (knabPage 0)
    let phantom := fun (s : State) (k : Nat) => s.rb Reg.kpdCfg 8 && (List.range 16).any (fun r => (List.range 16).any (fun c =>
    r != k / 16 && c != k % 16 && (s.key (16 * (k / 16) + c)).pressed && (s.key (16 * r + k % 16)).pressed && (s.key (16 * r + c)).pressed))
    let free2 := fun (s : State) => s.ringOn 0 = true ∧ s.ringEsize 0 = 8 ∧ s.ringCount 0 + 2 ≤ 2 ^ s.ringDepth 0
    (one s raw k) ∧ (raw.contains k = true) ∧ (s.knb.commit = none) ∧ (s.knb.stalledInc = []) ∧ 
    let st := s.lockState
    (st = 1) ∧ (phantom s k = false) ∧ (free2 s) ∧ 
    let match_ := k = s.lockKey s.lockPos ∧ s.lockPos < s.lockLen
    let p := s.lockPos + 1
    (match_) ∧ (p < s.lockLen) :=
  ⟨[0x23], 35, key (st k0 1) 0x23 { count := 2 }, by dsimp only; decide +kernel⟩
theorem witness_KeypadKeys_6 : ∃ (raw : List Nat) (k : Nat) (s : State), 
    let due := fun (s : State) => s.kpdScans = true ∧ s.tb.running = true ∧ s.tb.count % (s.rf Reg.kpdCfg 12 4 + 1) = 0 ∧ s.kpd.lastScan ≠ some s.now
    let rows := fun (s : State) => if s.variant = .wv7232 then min 8 (s.rf Reg.kpdCfg 0 4 + 1) else s.rf Reg.kpdCfg 0 4 + 1
    let cols := fun (s : State) => if s.variant = .wv7232 then min 8 (s.rf Reg.kpdCfg 4 4 + 1) else s.rf Reg.kpdCfg 4 4 + 1
    let inMatrix := fun (s : State) (k : Nat) => k / 16 < rows s ∧ k % 16 < cols s
    let need := fun (s : State) (press : Bool) =>
    if rows s * cols s ≤ 64 then max 1 (s.rf Reg.kpdDeb 0 4)
    else (4 * max 1 (s.rf Reg.kpdDeb (if press then 8 else 16) 8) + s.rf Reg.kpdCfg 12 4) / (s.rf Reg.kpdCfg 12 4 + 1)
    let settles := fun (s : State) (raw : List Nat) (k : Nat) =>
    raw.contains k = (s.key k).pressed ∨ (s.key k).count + 1 < need s (raw.contains k)
    let one := fun (s : State) (raw : List Nat) (k : Nat) => due s ∧ inMatrix s k ∧ raw.contains k ≠ (s.key k).pressed ∧
    need s (raw.contains k) ≤ (s.key k).count + 1 ∧ (∀ j < 256, inMatrix s j → j ≠ k → settles s raw j) ∧
    s.ringBelow 0 (knabPage 0)
    let phantom := fun (s : State) (k : Nat) => s.rb Reg.kpdCfg 8 && (List.range 16).any (fun r => (List.range 16).any (fun c =>
    r != k / 16 && c != k % 16 && (s.key (16 * (k / 16) + c)).pressed && (s.key (16 * r + k % 16)).pressed && (s.key (16 * r + c)).pressed))
    let free2 := fun (s : State) => s.ringOn 0 = true ∧ s.ringEsize 0 = 8 ∧ s.ringCount 0 + 2 ≤ 2 ^ s.ringDepth 0
    (one s raw k) ∧ (raw.contains k = true) ∧ (s.knb.commit = none) ∧ (s.knb.stalledInc = []) ∧ 
    let st := s.lockState
    (st = 1) ∧ (phantom s k = false) ∧ (free2 s) ∧ 
    let match_ := k = s.lockKey s.lockPos ∧ s.lockPos < s.lockLen
    let p := s.lockPos + 1
    (match_) ∧ (p = s.lockLen) :=
  ⟨[0x07], 7, key (st k0 1 2 3) 0x07 { count := 2 }, by dsimp only; decide +kernel⟩
theorem witness_KeypadKeys_7 : ∃ (raw : List Nat) (k : Nat) (s : State), 
    let due := fun (s : State) => s.kpdScans = true ∧ s.tb.running = true ∧ s.tb.count % (s.rf Reg.kpdCfg 12 4 + 1) = 0 ∧ s.kpd.lastScan ≠ some s.now
    let rows := fun (s : State) => if s.variant = .wv7232 then min 8 (s.rf Reg.kpdCfg 0 4 + 1) else s.rf Reg.kpdCfg 0 4 + 1
    let cols := fun (s : State) => if s.variant = .wv7232 then min 8 (s.rf Reg.kpdCfg 4 4 + 1) else s.rf Reg.kpdCfg 4 4 + 1
    let inMatrix := fun (s : State) (k : Nat) => k / 16 < rows s ∧ k % 16 < cols s
    let need := fun (s : State) (press : Bool) =>
    if rows s * cols s ≤ 64 then max 1 (s.rf Reg.kpdDeb 0 4)
    else (4 * max 1 (s.rf Reg.kpdDeb (if press then 8 else 16) 8) + s.rf Reg.kpdCfg 12 4) / (s.rf Reg.kpdCfg 12 4 + 1)
    let settles := fun (s : State) (raw : List Nat) (k : Nat) =>
    raw.contains k = (s.key k).pressed ∨ (s.key k).count + 1 < need s (raw.contains k)
    let one := fun (s : State) (raw : List Nat) (k : Nat) => due s ∧ inMatrix s k ∧ raw.contains k ≠ (s.key k).pressed ∧
    need s (raw.contains k) ≤ (s.key k).count + 1 ∧ (∀ j < 256, inMatrix s j → j ≠ k → settles s raw j) ∧
    s.ringBelow 0 (knabPage 0)
    let phantom := fun (s : State) (k : Nat) => s.rb Reg.kpdCfg 8 && (List.range 16).any (fun r => (List.range 16).any (fun c =>
    r != k / 16 && c != k % 16 && (s.key (16 * (k / 16) + c)).pressed && (s.key (16 * r + k % 16)).pressed && (s.key (16 * r + c)).pressed))
    let free2 := fun (s : State) => s.ringOn 0 = true ∧ s.ringEsize 0 = 8 ∧ s.ringCount 0 + 2 ≤ 2 ^ s.ringDepth 0
    (one s raw k) ∧ (raw.contains k = true) ∧ (s.knb.commit = none) ∧ (s.knb.stalledInc = []) ∧ 
    let st := s.lockState
    (st = 1) ∧ (phantom s k = false) ∧ (free2 s) ∧ 
    let match_ := k = s.lockKey s.lockPos ∧ s.lockPos < s.lockLen
    let n := s.lockAttempts + 1
    (¬match_) ∧ (n < 5) :=
  ⟨[0x21], 33, key (st k0 1) 0x21 { count := 2 }, by dsimp only; decide +kernel⟩
theorem witness_KeypadKeys_8 : ∃ (raw : List Nat) (k : Nat) (s : State), 
    let due := fun (s : State) => s.kpdScans = true ∧ s.tb.running = true ∧ s.tb.count % (s.rf Reg.kpdCfg 12 4 + 1) = 0 ∧ s.kpd.lastScan ≠ some s.now
    let rows := fun (s : State) => if s.variant = .wv7232 then min 8 (s.rf Reg.kpdCfg 0 4 + 1) else s.rf Reg.kpdCfg 0 4 + 1
    let cols := fun (s : State) => if s.variant = .wv7232 then min 8 (s.rf Reg.kpdCfg 4 4 + 1) else s.rf Reg.kpdCfg 4 4 + 1
    let inMatrix := fun (s : State) (k : Nat) => k / 16 < rows s ∧ k % 16 < cols s
    let need := fun (s : State) (press : Bool) =>
    if rows s * cols s ≤ 64 then max 1 (s.rf Reg.kpdDeb 0 4)
    else (4 * max 1 (s.rf Reg.kpdDeb (if press then 8 else 16) 8) + s.rf Reg.kpdCfg 12 4) / (s.rf Reg.kpdCfg 12 4 + 1)
    let settles := fun (s : State) (raw : List Nat) (k : Nat) =>
    raw.contains k = (s.key k).pressed ∨ (s.key k).count + 1 < need s (raw.contains k)
    let one := fun (s : State) (raw : List Nat) (k : Nat) => due s ∧ inMatrix s k ∧ raw.contains k ≠ (s.key k).pressed ∧
    need s (raw.contains k) ≤ (s.key k).count + 1 ∧ (∀ j < 256, inMatrix s j → j ≠ k → settles s raw j) ∧
    s.ringBelow 0 (knabPage 0)
    let phantom := fun (s : State) (k : Nat) => s.rb Reg.kpdCfg 8 && (List.range 16).any (fun r => (List.range 16).any (fun c =>
    r != k / 16 && c != k % 16 && (s.key (16 * (k / 16) + c)).pressed && (s.key (16 * r + k % 16)).pressed && (s.key (16 * r + c)).pressed))
    let free2 := fun (s : State) => s.ringOn 0 = true ∧ s.ringEsize 0 = 8 ∧ s.ringCount 0 + 2 ≤ 2 ^ s.ringDepth 0
    (one s raw k) ∧ (raw.contains k = true) ∧ (s.knb.commit = none) ∧ (s.knb.stalledInc = []) ∧ 
    let st := s.lockState
    (st = 1) ∧ (phantom s k = false) ∧ (free2 s) ∧ 
    let match_ := k = s.lockKey s.lockPos ∧ s.lockPos < s.lockLen
    let n := s.lockAttempts + 1
    (¬match_) ∧ (n = 5) :=
  ⟨[0x21], 33, key (st k0 1 4) 0x21 { count := 2 }, by dsimp only; decide +kernel⟩
def pr : KeySt := { pressed := true, since := 5 }
theorem witness_KeypadKeys_9 : ∃ (raw : List Nat) (k : Nat) (s : State), 
    let due := fun (s : State) => s.kpdScans = true ∧ s.tb.running = true ∧ s.tb.count % (s.rf Reg.kpdCfg 12 4 + 1) = 0 ∧ s.kpd.lastScan ≠ some s.now
    let rows := fun (s : State) => if s.variant = .wv7232 then min 8 (s.rf Reg.kpdCfg 0 4 + 1) else s.rf Reg.kpdCfg 0 4 + 1
    let cols := fun (s : State) => if s.variant = .wv7232 then min 8 (s.rf Reg.kpdCfg 4 4 + 1) else s.rf Reg.kpdCfg 4 4 + 1
    let inMatrix := fun (s : State) (k : Nat) => k / 16 < rows s ∧ k % 16 < cols s
    let need := fun (s : State) (press : Bool) =>
    if rows s * cols s ≤ 64 then max 1 (s.rf Reg.kpdDeb 0 4)
    else (4 * max 1 (s.rf Reg.kpdDeb (if press then 8 else 16) 8) + s.rf Reg.kpdCfg 12 4) / (s.rf Reg.kpdCfg 12 4 + 1)
    let settles := fun (s : State) (raw : List Nat) (k : Nat) =>
    raw.contains k = (s.key k).pressed ∨ (s.key k).count + 1 < need s (raw.contains k)
    let one := fun (s : State) (raw : List Nat) (k : Nat) => due s ∧ inMatrix s k ∧ raw.contains k ≠ (s.key k).pressed ∧
    need s (raw.contains k) ≤ (s.key k).count + 1 ∧ (∀ j < 256, inMatrix s j → j ≠ k → settles s raw j) ∧
    s.ringBelow 0 (knabPage 0)
    let room := fun (s : State) => s.ringOn 0 = true ∧ s.ringEsize 0 = 8 ∧ s.ringCount 0 < 2 ^ s.ringDepth 0
    (one s raw k) ∧ (raw.contains k = false) ∧ (room s) ∧ 
    let told := (s.key k).wrote = true ∧ (s.lockState = 0 ∨ s.lockState = 3)
    (told) :=
  ⟨[], 33, key (key k0 0x21 { pr with wrote := true, count := 2 }) 0x22 { pr with count := 1 }, by dsimp only; decide +kernel⟩
theorem witness_KeypadKeys_10 : ∃ (raw : List Nat) (k : Nat) (s : State), 
    let due := fun (s : State) => s.kpdScans = true ∧ s.tb.running = true ∧ s.tb.count % (s.rf Reg.kpdCfg 12 4 + 1) = 0 ∧ s.kpd.lastScan ≠ some s.now
    let rows := fun (s : State) => if s.variant = .wv7232 then min 8 (s.rf Reg.kpdCfg 0 4 + 1) else s.rf Reg.kpdCfg 0 4 + 1
    let cols := fun (s : State) => if s.variant = .wv7232 then min 8 (s.rf Reg.kpdCfg 4 4 + 1) else s.rf Reg.kpdCfg 4 4 + 1
    let inMatrix := fun (s : State) (k : Nat) => k / 16 < rows s ∧ k % 16 < cols s
    let need := fun (s : State) (press : Bool) =>
    if rows s * cols s ≤ 64 then max 1 (s.rf Reg.kpdDeb 0 4)
    else (4 * max 1 (s.rf Reg.kpdDeb (if press then 8 else 16) 8) + s.rf Reg.kpdCfg 12 4) / (s.rf Reg.kpdCfg 12 4 + 1)
    let settles := fun (s : State) (raw : List Nat) (k : Nat) =>
    raw.contains k = (s.key k).pressed ∨ (s.key k).count + 1 < need s (raw.contains k)
    let one := fun (s : State) (raw : List Nat) (k : Nat) => due s ∧ inMatrix s k ∧ raw.contains k ≠ (s.key k).pressed ∧
    need s (raw.contains k) ≤ (s.key k).count + 1 ∧ (∀ j < 256, inMatrix s j → j ≠ k → settles s raw j) ∧
    s.ringBelow 0 (knabPage 0)
    let room := fun (s : State) => s.ringOn 0 = true ∧ s.ringEsize 0 = 8 ∧ s.ringCount 0 < 2 ^ s.ringDepth 0
    (one s raw k) ∧ (raw.contains k = false) ∧ (room s) ∧ 
    let told := (s.key k).wrote = true ∧ (s.lockState = 0 ∨ s.lockState = 3)
    (¬told) :=
  ⟨[], 33, key (st k0 1) 0x21 { pr with wrote := true, count := 2 }, by dsimp only; decide +kernel⟩
theorem witness_KeypadKeys_11 : ∃ (k : Nat) (s : State), 
    let room := fun (s : State) => s.ringOn 0 = true ∧ s.ringEsize 0 = 8 ∧ s.ringCount 0 < 2 ^ s.ringDepth 0
    (s.kpdScans = true) ∧ (k < 256) ∧ (room s) ∧ 
    let limit := 4000 * max 1 (s.rf Reg.kpdDeb 24 8)
    let stuck := (s.key k).pressed = true ∧ (s.key k).phantom = false ∧ s.rb (Reg.kpdMask (k / 32)) (k % 32) = false ∧ (s.key k).since + limit ≤ (s.now : Int)
    (stuck) :=
  ⟨1, key (key (key (setRegs (key k0 0x21 { count := 2 }) [(Reg.kpdCfg, 0x1F3)]) 0x01 pr) 0x02 pr) 0x22 pr, by dsimp only; decide +kernel⟩
theorem witness_KeypadKeys_12 : ∃ (k : Nat) (s : State), 
    let room := fun (s : State) => s.ringOn 0 = true ∧ s.ringEsize 0 = 8 ∧ s.ringCount 0 < 2 ^ s.ringDepth 0
    (s.kpdScans = true) ∧ (k < 256) ∧ (room s) ∧ 
    let limit := 4000 * max 1 (s.rf Reg.kpdDeb 24 8)
    let stuck := (s.key k).pressed = true ∧ (s.key k).phantom = false ∧ s.rb (Reg.kpdMask (k / 32)) (k % 32) = false ∧ (s.key k).since + limit ≤ (s.now : Int)
    (¬stuck) :=
  ⟨0, k0, by dsimp only; decide +kernel⟩
theorem witness_LockAndEncoders_0 : ∃ s : State,
    let free2 := fun (s : State) => s.ringOn 0 = true ∧ s.ringEsize 0 = 8 ∧ s.ringCount 0 + 2 ≤ 2 ^ s.ringDepth 0
    (free2 s) ∧ 
    let due := s.lockTimes = true ∧ s.lockState = 1 ∧ s.lockPos ≠ 0 ∧ s.kpd.compareAt + 4000 * (max 1 (min 60 (s.rf Reg.kpdLockcfg 16 6)) : Nat) ≤ s.now
    let n := s.lockAttempts + 1
    (due) ∧ (n < 5) :=
  ⟨st k0 1 0 2, by dsimp only; decide +kernel⟩
theorem witness_LockAndEncoders_1 : ∃ s : State,
    let free2 := fun (s : State) => s.ringOn 0 = true ∧ s.ringEsize 0 = 8 ∧ s.ringCount 0 + 2 ≤ 2 ^ s.ringDepth 0
    (free2 s) ∧ 
    let due := s.lockTimes = true ∧ s.lockState = 1 ∧ s.lockPos ≠ 0 ∧ s.kpd.compareAt + 4000 * (max 1 (min 60 (s.rf Reg.kpdLockcfg 16 6)) : Nat) ≤ s.now
    let n := s.lockAttempts + 1
    (due) ∧ (n = 5) :=
  ⟨st k0 1 4 1, by dsimp only; decide +kernel⟩
theorem witness_LockAndEncoders_2 : ∃ s : State,
    let free2 := fun (s : State) => s.ringOn 0 = true ∧ s.ringEsize 0 = 8 ∧ s.ringCount 0 + 2 ≤ 2 ^ s.ringDepth 0
    (free2 s) ∧ 
    let due := s.lockTimes = true ∧ s.lockState = 1 ∧ s.lockPos ≠ 0 ∧ s.kpd.compareAt + 4000 * (max 1 (min 60 (s.rf Reg.kpdLockcfg 16 6)) : Nat) ≤ s.now
    (¬due) :=
  ⟨k0, by dsimp only; decide +kernel⟩
theorem witness_LockAndEncoders_7 : ∃ (who : Init) (s : State), 
    let free2 := fun (s : State) => s.ringOn 0 = true ∧ s.ringEsize 0 = 8 ∧ s.ringCount 0 + 2 ≤ 2 ^ s.ringDepth 0
    (mayWrite who 11 s) ∧ (free2 s) ∧ (s.lockState = 0) :=
  ⟨.runtime, k0, by dsimp only; decide +kernel⟩
theorem witness_LockAndEncoders_8 : ∃ (who : Init) (s : State), 
    let free2 := fun (s : State) => s.ringOn 0 = true ∧ s.ringEsize 0 = 8 ∧ s.ringCount 0 + 2 ≤ 2 ^ s.ringDepth 0
    (mayWrite who 11 s) ∧ (free2 s) ∧ (s.lockState = 3) :=
  ⟨.runtime, st k0 3, by dsimp only; decide +kernel⟩
theorem witness_LockAndEncoders_9 : ∃ (who : Init) (s : State), 
    let free2 := fun (s : State) => s.ringOn 0 = true ∧ s.ringEsize 0 = 8 ∧ s.ringCount 0 + 2 ≤ 2 ^ s.ringDepth 0
    (mayWrite who 11 s) ∧ (free2 s) ∧ (s.lockState = 1 ∨ s.lockState = 2) :=
  ⟨.runtime, st k0 1, by dsimp only; decide +kernel⟩
theorem witness_LockAndEncoders_11 : ∃ (who : Init) (s : State), 
    let free2 := fun (s : State) => s.ringOn 0 = true ∧ s.ringEsize 0 = 8 ∧ s.ringCount 0 + 2 ≤ 2 ^ s.ringDepth 0
    (mayWrite who 11 s) ∧ (free2 s) ∧ (s.lockState = 0 ∨ s.lockState = 3) :=
  ⟨.runtime, k0, by dsimp only; decide +kernel⟩
theorem witness_LockAndEncoders_12 : ∃ (who : Init) (v : Word) (s : State), (mayWrite who 11 s) ∧ 
    let engaged := s.lockEngaged
    ((s.hostOwns 11 = true ∧ (engaged = true ∨ s.rb Reg.kpdCtrl 0 = true))) :=
  ⟨.runtime, 0, k0, by dsimp only; decide +kernel⟩
theorem witness_LockAndEncoders_13 : ∃ (who : Init) (v : Word) (s : State), (mayWrite who 11 s) ∧ 
    let engaged := s.lockEngaged
    (¬(s.hostOwns 11 = true ∧ (engaged = true ∨ s.rb Reg.kpdCtrl 0 = true))) :=
  ⟨.runtime, 0, live, by dsimp only; decide +kernel⟩
theorem witness_LockAndEncoders_17 : ∃ (who : Init) (v : Word) (s : State), (mayWrite who 11 s) ∧ 
    let engaged := s.lockEngaged
    (fld v 0 4 = s.rf Reg.kpdLockcfg 0 4) ∧ (¬(s.hostOwns 11 = true ∧ engaged = true)) :=
  ⟨.runtime, 0, live, by dsimp only; decide +kernel⟩
theorem witness_LockAndEncoders_18 : ∃ (who : Init) (v : Word) (s : State), (mayWrite who 11 s) ∧ 
    let engaged := s.lockEngaged
    (s.hostOwns 11 = true) ∧ (engaged = true) :=
  ⟨.runtime, 0, st k0 1, by dsimp only; decide +kernel⟩
theorem witness_LockAndEncoders_19 : ∃ (who : Init) (v : Word) (s : State), (mayWrite who 11 s) ∧ 
    let engaged := s.lockEngaged
    (fld v 0 4 ≠ s.rf Reg.kpdLockcfg 0 4) ∧ (¬(s.hostOwns 11 = true ∧ engaged = true)) :=
  ⟨.runtime, 0, k0, by dsimp only; decide +kernel⟩
theorem witness_LockAndEncoders_20 : ∃ (who : Init) (v : Word) (s : State), (mayWrite who 11 s) ∧ 
    let engaged := s.lockEngaged
    (s.hostOwns 11 = true ∧ engaged = true) :=
  ⟨.runtime, 0, st k0 1, by dsimp only; decide +kernel⟩
theorem witness_LockAndEncoders_22 : ∃ (who : Init) (v : Word) (s : State), (mayWrite who 11 s) ∧ 
    let engaged := s.lockEngaged
    (¬(s.hostOwns 11 = true ∧ engaged = true)) :=
  ⟨.runtime, 0, live, by dsimp only; decide +kernel⟩
theorem witness_LockAndEncoders_24 : ∃ (who : Init) (v : Word) (s : State), ∃ n, (mayWrite who 11 s) ∧ (n < s.nEncs) :=
  ⟨.runtime, 0, live, 0, by decide +kernel⟩
theorem witness_LockAndEncoders_25 : ∃ (n : Nat) (a b p : Bool) (s : State), (s.encRuns n = false) :=
  ⟨0, false, false, false, live, by decide +kernel⟩
def en (s : State) (n : Nat) (cfg : Nat) (v : EncSt) (stat : Nat) : State := (setRegs s [(Reg.encCfg n, cfg), (Reg.encStat n, stat), (Reg.encCnt n, 0xFFFF), (Reg.zonPinCfg 9, 4 + 8*n)]).setEnc n v
theorem witness_LockAndEncoders_27 : ∃ (n : Nat) (a b p : Bool) (s : State), (s.encRuns n = true) ∧ (s.kpd.encs.length = 4) ∧ ((s.enc n).resync = false) ∧ 
    let v := s.enc n
    let stat := fun (i : Nat) => s.rb (Reg.encStat n) i
    let level := fun (new last : Bool) (i : Nat) => if new = last then new else stat i
    let phase := fun (x y : Bool) => if x then (if y then 2 else 1) else if y then 3 else 0
    let old := phase (stat 0) (stat 1)
    let new := phase (level a v.a 0) (level b v.b 1)
    let turned := (!p) != stat 3
    let need := 16 * max 1 (s.rf (Reg.encCfg n) 16 8)
    (turned = false ∨ v.push + 1 < need) ∧ (old = new) :=
  ⟨1, false, false, false, ((([0,1,2,3].flatMap fun stt => [(true,true),(true,false),(false,true)].map fun (a,b) => en k0 1 0x01000A { a := a, b := b, p := true } stt)
  ++ [en k0 1 0x010008 { a := true } 0, en k0 1 0x010009 { a := true } 0, en k0 1 0x01000C { a := false } 1, en k0 1 0x01000E { a := true } 0, en k0 1 0x01000A { a := true, b := true, errAt := some 900000 } 0,
   en k0 1 0x01000A { push := 15 } 0, en k0 1 0x01000A { push := 15, p := true } 8, en (st k0 1) 1 0x01000A { push := 15 } 0]).getD 0 live), by dsimp only; decide +kernel⟩
theorem witness_LockAndEncoders_28 : ∃ (n : Nat) (a b p : Bool) (s : State), (s.encRuns n = true) ∧ (s.kpd.encs.length = 4) ∧ ((s.enc n).resync = false) ∧ 
    let v := s.enc n
    let stat := fun (i : Nat) => s.rb (Reg.encStat n) i
    let level := fun (new last : Bool) (i : Nat) => if new = last then new else stat i
    let phase := fun (x y : Bool) => if x then (if y then 2 else 1) else if y then 3 else 0
    let old := phase (stat 0) (stat 1)
    let new := phase (level a v.a 0) (level b v.b 1)
    let turned := (!p) != stat 3
    let need := 16 * max 1 (s.rf (Reg.encCfg n) 16 8)
    (turned = false ∨ v.push + 1 < need) ∧ (new = (old + 2) % 4) :=
  ⟨1, false, true, false, ((([0,1,2,3].flatMap fun stt => [(true,true),(true,false),(false,true)].map fun (a,b) => en k0 1 0x01000A { a := a, b := b, p := true } stt)
  ++ [en k0 1 0x010008 { a := true } 0, en k0 1 0x010009 { a := true } 0, en k0 1 0x01000C { a := false } 1, en k0 1 0x01000E { a := true } 0, en k0 1 0x01000A { a := true, b := true, errAt := some 900000 } 0,
   en k0 1 0x01000A { push := 15 } 0, en k0 1 0x01000A { push := 15, p := true } 8, en (st k0 1) 1 0x01000A { push := 15 } 0]).getD 5 live), by dsimp only; decide +kernel⟩
theorem witness_LockAndEncoders_29 : ∃ (n : Nat) (a b p : Bool) (s : State), (s.encRuns n = true) ∧ (s.kpd.encs.length = 4) ∧ ((s.enc n).resync = false) ∧ 
    let v := s.enc n
    let stat := fun (i : Nat) => s.rb (Reg.encStat n) i
    let level := fun (new last : Bool) (i : Nat) => if new = last then new else stat i
    let phase := fun (x y : Bool) => if x then (if y then 2 else 1) else if y then 3 else 0
    let old := phase (stat 0) (stat 1)
    let new := phase (level a v.a 0) (level b v.b 1)
    let turned := (!p) != stat 3
    let need := 16 * max 1 (s.rf (Reg.encCfg n) 16 8)
    (turned = false ∨ v.push + 1 < need) ∧ 
    let counts := new = 0 ∨ (s.rf (Reg.encCfg n) 0 2 = 1 ∧ new = 2) ∨ 2 ≤ s.rf (Reg.encCfg n) 0 2
    (new ≠ old) ∧ (new ≠ (old + 2) % 4) ∧ (¬counts) :=
  ⟨1, true, false, false, ((([0,1,2,3].flatMap fun stt => [(true,true),(true,false),(false,true)].map fun (a,b) => en k0 1 0x01000A { a := a, b := b, p := true } stt)
  ++ [en k0 1 0x010008 { a := true } 0, en k0 1 0x010009 { a := true } 0, en k0 1 0x01000C { a := false } 1, en k0 1 0x01000E { a := true } 0, en k0 1 0x01000A { a := true, b := true, errAt := some 900000 } 0,
   en k0 1 0x01000A { push := 15 } 0, en k0 1 0x01000A { push := 15, p := true } 8, en (st k0 1) 1 0x01000A { push := 15 } 0]).getD 12 live), by dsimp only; decide +kernel⟩
theorem witness_LockAndEncoders_30 : ∃ (n : Nat) (a b p : Bool) (s : State), (s.encRuns n = true) ∧ (s.kpd.encs.length = 4) ∧ ((s.enc n).resync = false) ∧ 
    let v := s.enc n
    let stat := fun (i : Nat) => s.rb (Reg.encStat n) i
    let level := fun (new last : Bool) (i : Nat) => if new = last then new else stat i
    let phase := fun (x y : Bool) => if x then (if y then 2 else 1) else if y then 3 else 0
    let old := phase (stat 0) (stat 1)
    let new := phase (level a v.a 0) (level b v.b 1)
    let turned := (!p) != stat 3
    let need := 16 * max 1 (s.rf (Reg.encCfg n) 16 8)
    (turned = false ∨ v.push + 1 < need) ∧ 
    let counts := new = 0 ∨ (s.rf (Reg.encCfg n) 0 2 = 1 ∧ new = 2) ∨ 2 ≤ s.rf (Reg.encCfg n) 0 2
    (new ≠ old) ∧ (new ≠ (old + 2) % 4) ∧ (counts) :=
  ⟨1, false, false, false, ((([0,1,2,3].flatMap fun stt => [(true,true),(true,false),(false,true)].map fun (a,b) => en k0 1 0x01000A { a := a, b := b, p := true } stt)
  ++ [en k0 1 0x010008 { a := true } 0, en k0 1 0x010009 { a := true } 0, en k0 1 0x01000C { a := false } 1, en k0 1 0x01000E { a := true } 0, en k0 1 0x01000A { a := true, b := true, errAt := some 900000 } 0,
   en k0 1 0x01000A { push := 15 } 0, en k0 1 0x01000A { push := 15, p := true } 8, en (st k0 1) 1 0x01000A { push := 15 } 0]).getD 5 live), by dsimp only; decide +kernel⟩
theorem witness_LockAndEncoders_31 : ∃ (n : Nat) (a b p : Bool) (s : State), (s.encRuns n = true) ∧ (s.kpd.encs.length = 4) ∧ ((s.enc n).resync = false) ∧ 
    let v := s.enc n
    let stat := fun (i : Nat) => s.rb (Reg.encStat n) i
    let level := fun (new last : Bool) (i : Nat) => if new = last then new else stat i
    let phase := fun (x y : Bool) => if x then (if y then 2 else 1) else if y then 3 else 0
    let old := phase (stat 0) (stat 1)
    let new := phase (level a v.a 0) (level b v.b 1)
    let turned := (!p) != stat 3
    let need := 16 * max 1 (s.rf (Reg.encCfg n) 16 8)
    (turned = true) ∧ (need ≤ v.push + 1) ∧ (old = new) ∧ (s.ringTakes 1 8 = true) ∧ 
    let held := s.rb Reg.kpdCfg 9 && s.lockEngaged
    (held = false) :=
  ⟨1, false, false, false, ((([0,1,2,3].flatMap fun stt => [(true,true),(true,false),(false,true)].map fun (a,b) => en k0 1 0x01000A { a := a, b := b, p := true } stt)
  ++ [en k0 1 0x010008 { a := true } 0, en k0 1 0x010009 { a := true } 0, en k0 1 0x01000C { a := false } 1, en k0 1 0x01000E { a := true } 0, en k0 1 0x01000A { a := true, b := true, errAt := some 900000 } 0,
   en k0 1 0x01000A { push := 15 } 0, en k0 1 0x01000A { push := 15, p := true } 8, en (st k0 1) 1 0x01000A { push := 15 } 0]).getD 17 live), by dsimp only; decide +kernel⟩
theorem witness_LockAndEncoders_32 : ∃ (n : Nat) (a b p : Bool) (s : State), (s.encRuns n = true) ∧ (s.kpd.encs.length = 4) ∧ ((s.enc n).resync = false) ∧ 
    let v := s.enc n
    let stat := fun (i : Nat) => s.rb (Reg.encStat n) i
    let level := fun (new last : Bool) (i : Nat) => if new = last then new else stat i
    let phase := fun (x y : Bool) => if x then (if y then 2 else 1) else if y then 3 else 0
    let old := phase (stat 0) (stat 1)
    let new := phase (level a v.a 0) (level b v.b 1)
    let turned := (!p) != stat 3
    let need := 16 * max 1 (s.rf (Reg.encCfg n) 16 8)
    (turned = true) ∧ (need ≤ v.push + 1) ∧ (old = new) ∧ (s.ringTakes 1 8 = true) ∧ 
    let held := s.rb Reg.kpdCfg 9 && s.lockEngaged
    (held = true) :=
  ⟨1, false, false, false, ((([0,1,2,3].flatMap fun stt => [(true,true),(true,false),(false,true)].map fun (a,b) => en k0 1 0x01000A { a := a, b := b, p := true } stt)
  ++ [en k0 1 0x010008 { a := true } 0, en k0 1 0x010009 { a := true } 0, en k0 1 0x01000C { a := false } 1, en k0 1 0x01000E { a := true } 0, en k0 1 0x01000A { a := true, b := true, errAt := some 900000 } 0,
   en k0 1 0x01000A { push := 15 } 0, en k0 1 0x01000A { push := 15, p := true } 8, en (st k0 1) 1 0x01000A { push := 15 } 0]).getD 19 live), by dsimp only; decide +kernel⟩
theorem witness_LockAndEncoders_33 : ∃ (who : Init) (n : Nat) (v : Word) (s : State), (mayWrite who 11 s) ∧ (n < 4) ∧ (s.kpd.encs.length = 4) ∧ (n < s.nEncs) :=
  ⟨.runtime, 0, 0, live, by decide +kernel⟩
theorem witness_LockAndEncoders_34 : ∃ (who : Init) (n : Nat) (v : Word) (s : State), (mayWrite who 11 s) ∧ (n < 4) ∧ (s.kpd.encs.length = 4) ∧ (s.nEncs ≤ n) :=
  ⟨.runtime, 2, 0, { en k0 2 0x14000A {} 0 with variant := .wv7232 }, by decide +kernel⟩

end Keypad

namespace Lock

def kb : State := own (setRegs { full with kpd := { full.kpd with seqLo := 0x07945123, lastKey := some 0x33 } } [(Reg.kpdCtrl, 1), (Reg.kpdCfg, 0xF3|||0x200), (Reg.kpdDeb, 0x3C141403), (Reg.kpdLockcfg, 0x050A0F04), (Reg.sysOwn, 0x800), (Reg.zonPinCfg 3, 3)]) 11
def st (s : State) (n : Nat) (att pos : Nat := 0) : State := setRegs s [(Reg.kpdLock, n + 16*att + 256*pos)]
def k0 := st kb 0
def en (s : State) (n : Nat) (cfg : Nat) (v : EncSt) (stat : Nat) : State := (setRegs s [(Reg.encCfg n, cfg), (Reg.encStat n, stat), (Reg.encCnt n, 0xFFFF), (Reg.zonPinCfg 9, 4 + 8*n)]).setEnc n v
theorem witness_LockAndEncoders_26 : ∃ (n : Nat) (a b p : Bool) (s : State), (s.encRuns n = true) ∧ (s.kpd.encs.length = 4) ∧ ((s.enc n).resync = true) :=
  ⟨1, false, false, false, en k0 1 0x01000A { a := true, resync := true } 1, by decide +kernel⟩

end Lock

end Sys2Proof.Tests
end

section
/-! PROOFS. What every command keeps: the queue, the variant, the fuses, and the order of time. -/

namespace Sys2Proof.Machine

/-- What was kept up to a command is kept in every state that the command answers. -/
theorem keeps_exec {r s : State} (c : Instr) (hk : Keeps false r s) : KeepsOut false r (exec c s) :=
  match c with
  | .baseTick => keeps_execBaseTick hk
  | .tbcountLoRead who => keeps_execTbcountLoRead who hk
  | .xtalStop => keeps_execXtalStop hk
  | .tboRange => keeps_execTboRange hk
  | .clockLost => keeps_execClockLost hk
  | .portClock p => keeps_execPortClock p hk
  | .tboLock => keeps_execTboLock hk
  | .tboDiscipline count => keeps_execTboDiscipline count hk
  | .frameBoundary => keeps_execFrameBoundary hk
  | .slotEvaluation => keeps_execSlotEvaluation hk
  | .ownershipHandover => keeps_execOwnershipHandover hk
  | .acqStart who => keeps_execAcqStart who hk
  | .acqStop who => keeps_execAcqStop who hk
  | .passStart => keeps_execPassStart hk
  | .entryStart => keeps_execEntryStart hk
  | .conversionSample code => keeps_execConversionSample code hk
  | .conversionComplete => keeps_execConversionComplete hk
  | .pvUpdate => keeps_execPvUpdate hk
  | .guardConversion code => keeps_execGuardConversion code hk
  | .fettleConversion slice code => keeps_execFettleConversion slice code hk
  | .sliceStale slice => keeps_execSliceStale slice hk
  | .staleClear slice => keeps_execStaleClear slice hk
  | .sliceCorrWrite who slice skew v => keeps_execSliceCorrWrite who slice skew v hk
  | .acqClipcntRead who => keeps_execAcqClipcntRead who hk
  | .acqSkipcntRead who => keeps_execAcqSkipcntRead who hk
  | .cenRun who => keeps_execCenRun who hk
  | .cenStop who => keeps_execCenStop who hk
  | .cenAdmit who => keeps_execCenAdmit who hk
  | .cenPeriodWrite who k v => keeps_execCenPeriodWrite who k v hk
  | .cenOvrRead who k => keeps_execCenOvrRead who k hk
  | .traceArm who t => keeps_execTraceArm who t hk
  | .traceStop who t => keeps_execTraceStop who t hk
  | .traceForce who t => keeps_execTraceForce who t hk
  | .traceConfigWrite who t reg v => keeps_execTraceConfigWrite who t reg v hk
  | .traceLostRead who t => keeps_execTraceLostRead who t hk
  | .odRead src => keeps_execOdRead src hk
  | .odWrite src nvOk => keeps_execOdWrite src nvOk hk
  | .odWriteBlock src nvOk => keeps_execOdWriteBlock src nvOk hk
  | .odCall src => keeps_execOdCall src hk
  | .functionStop f => keeps_execFunctionStop f hk
  | .functionStart f nvOk => keeps_execFunctionStart f nvOk hk
  | .functionDiscard f => keeps_execFunctionDiscard f hk
  | .functionStartCommit f => keeps_execFunctionStartCommit f hk
  | .functionStopCommit f => keeps_execFunctionStopCommit f hk
  | .odxHeatRead who => keeps_execOdxHeatRead who hk
  | .digestMismatchClear addr => keeps_execDigestMismatchClear addr hk
  | .zoneStep => keeps_execZoneStep hk
  | .zonPinCntRead who p => keeps_execZonPinCntRead who p hk
  | .scheduleEvaluate => keeps_execScheduleEvaluate hk
  | .pwmPeriod n => keeps_execPwmPeriod n hk
  | .stepPulse n => keeps_execStepPulse n hk
  | .actRunWrite who v => keeps_execActRunWrite who v hk
  | .actRelease who v => keeps_execActRelease who v hk
  | .safeTimeout n => keeps_execSafeTimeout n hk
  | .actConfigWrite who n off v => keeps_execActConfigWrite who n off v hk
  | .fanPeriod f => keeps_execFanPeriod f hk
  | .stretchWindowOpen f => keeps_execStretchWindowOpen f hk
  | .tachEdge f cycle => keeps_execTachEdge f cycle hk
  | .stretchWindowClose f => keeps_execStretchWindowClose f hk
  | .fanKickEnd f => keeps_execFanKickEnd f hk
  | .startTimeout f => keeps_execStartTimeout f hk
  | .fanWaitEnd f => keeps_execFanWaitEnd f hk
  | .fanRestartEnd f => keeps_execFanRestartEnd f hk
  | .fanRetryReset f => keeps_execFanRetryReset f hk
  | .fanClr who v => keeps_execFanClr who v hk
  | .fanRefresh who => keeps_execFanRefresh who hk
  | .fanAuto => keeps_execFanAuto hk
  | .fanAutoExit who v => keeps_execFanAutoExit who v hk
  | .fanConfigWrite who f off v => keeps_execFanConfigWrite who f off v hk
  | .shdnSensor j => keeps_execShdnSensor j hk
  | .shdnRelease => keeps_execShdnRelease hk
  | .shdnLock who => keeps_execShdnLock who hk
  | .heartbeatSend => keeps_execHeartbeatSend hk
  | .heartbeatReceive p m => keeps_execHeartbeatReceive p m hk
  | .timeReceive p m => keeps_execTimeReceive p m hk
  | .censusReceive p m => keeps_execCensusReceive p m hk
  | .notifySend => keeps_execNotifySend hk
  | .notifyAck p m => keeps_execNotifyAck p m hk
  | .notifyRetry => keeps_execNotifyRetry hk
  | .pourReceive p m => keeps_execPourReceive p m hk
  | .pourEndReceive p m => keeps_execPourEndReceive p m hk
  | .pourNakRetry => keeps_execPourNakRetry hk
  | .windowClose addr => keeps_execWindowClose addr hk
  | .frameDrop p m => keeps_execFrameDrop p m hk
  | .plcaLost p => keeps_execPlcaLost p hk
  | .plcaResume p => keeps_execPlcaResume p hk
  | .frameTransmitDone p collisions => keeps_execFrameTransmitDone p collisions hk
  | .mdioGo who v => keeps_execMdioGo who v hk
  | .mdioDone data => keeps_execMdioDone data hk
  | .rootKeyApply => keeps_execRootKeyApply hk
  | .netCounterRead who p k => keeps_execNetCounterRead who p k hk
  | .netNotlostRead who => keeps_execNetNotlostRead who hk
  | .twinKick who => keeps_execTwinKick who hk
  | .twinWatchdog => keeps_execTwinWatchdog hk
  | .twinForcedReset => keeps_execTwinForcedReset hk
  | .ownChange own alive => keeps_execOwnChange own alive hk
  | .claim => keeps_execClaim hk
  | .loneClaim => keeps_execLoneClaim hk
  | .claimDrive => keeps_execClaimDrive hk
  | .ownStuck => keeps_execOwnStuck hk
  | .sprueDown => keeps_execSprueDown hk
  | .sprueUp => keeps_execSprueUp hk
  | .transferTimeout => keeps_execTransferTimeout hk
  | .tokenDiscard wires => keeps_execTokenDiscard wires hk
  | .claimToken => keeps_execClaimToken hk
  | .releaseToken cause => keeps_execReleaseToken cause hk
  | .tickToken tb lag => keeps_execTickToken tb lag hk
  | .graftToken cls first tb entries => keeps_execGraftToken cls first tb entries hk
  | .runmapToken slots => keeps_execRunmapToken slots hk
  | .mirrorToken acts fans auto seq => keeps_execMirrorToken acts fans auto seq hk
  | .zoneToken zones sps vpvs => keeps_execZoneToken zones sps vpvs hk
  | .odxToken response record tag => keeps_execOdxToken response record tag hk
  | .netframeToken fromPartnerPort frame => keeps_execNetframeToken fromPartnerPort frame hk
  | .helloToken h => keeps_execHelloToken h hk
  | .configToken last heat hdig sdig members nvOk run => keeps_execConfigToken last heat hdig sdig members nvOk run hk
  | .imageToken kind offset total data => keeps_execImageToken kind offset total data hk
  | .swapToken ctl => keeps_execSwapToken ctl hk
  | .twinPourTimeout => keeps_execTwinPourTimeout hk
  | .swapBegin => keeps_execSwapBegin hk
  | .swap => keeps_execSwap hk
  | .forceSwap => keeps_execForceSwap hk
  | .swapFinish nvOk => keeps_execSwapFinish nvOk hk
  | .swapAbort => keeps_execSwapAbort hk
  | .swapExchange => keeps_execSwapExchange hk
  | .swapFinishCommit => keeps_execSwapFinishCommit hk
  | .twnLatecntRead who => keeps_execTwnLatecntRead who hk
  | .twnLinkerrRead who => keeps_execTwnLinkerrRead who hk
  | .supplyGood pins dip => keeps_execSupplyGood pins dip hk
  | .supplyFall jstep vbatHolds => keeps_execSupplyFall jstep vbatHolds hk
  | .supply which low => keeps_execSupply which low hk
  | .nrst => keeps_execNrst hk
  | .watchdogKick who => keeps_execWatchdogKick who hk
  | .wdogWarn => keeps_execWdogWarn hk
  | .watchdogReset => keeps_execWatchdogReset hk
  | .knabRecall weak => keeps_execKnabRecall weak hk
  | .selfTest romOk ramOk => keeps_execSelfTest romOk ramOk hk
  | .pourBlock mode3 payload lenField => keeps_execPourBlock mode3 payload lenField hk
  | .pourGo mode3 kind => keeps_execPourGo mode3 kind hk
  | .imageCheck kind => keeps_execImageCheck kind hk
  | .runtimeEntry nvOk => keeps_execRuntimeEntry nvOk hk
  | .startupCommitRetry nvOk => keeps_execStartupCommitRetry nvOk hk
  | .chillRequest => keeps_execChillRequest hk
  | .chillEntry => keeps_execChillEntry hk
  | .wake src => keeps_execWake src hk
  | .hostId mode3 => keeps_execHostId mode3 hk
  | .hostStatus mode3 => keeps_execHostStatus mode3 hk
  | .hostRead mode3 addr coll late => keeps_execHostRead mode3 addr coll late hk
  | .hostReadBurst mode3 addr count colls late => keeps_execHostReadBurst mode3 addr count colls late hk
  | .hostWrite mode3 addr words => keeps_execHostWrite mode3 addr words hk
  | .writeQueueWord coll => keeps_execWriteQueueWord coll hk
  | .hostDoorbell mode3 v => keeps_execHostDoorbell mode3 v hk
  | .badCommand mode3 code => keeps_execBadCommand mode3 code hk
  | .sbusGo who b v => keeps_execSbusGo who b v hk
  | .sbusTransactionEnd b how => keeps_execSbusTransactionEnd b how hk
  | .clockStretchTimeout b => keeps_execClockStretchTimeout b hk
  | .sbusEnable who b v stuck => keeps_execSbusEnable who b v stuck hk
  | .sbusDisable who b v => keeps_execSbusDisable who b v hk
  | .pollDue p => keeps_execPollDue p hk
  | .pollWaitEnd p => keeps_execPollWaitEnd p hk
  | .evtPendClear who hi v => keeps_execEvtPendClear who hi v hk
  | .evtClr who hi v => keeps_execEvtClr who hi v hk
  | .evtMaskHostWrite who hi v => keeps_execEvtMaskHostWrite who hi v hk
  | .evtSoft who v => keeps_execEvtSoft who v hk
  | .ringConfigWrite who n v => keeps_execRingConfigWrite who n v hk
  | .ringBaseWrite who n v => keeps_execRingBaseWrite who n v hk
  | .ringHeadWrite who n v => keeps_execRingHeadWrite who n v hk
  | .ringTailWrite who n v => keeps_execRingTailWrite who n v hk
  | .ringDropRead who n => keeps_execRingDropRead who n hk
  | .ladleStart who n => keeps_execLadleStart who n hk
  | .ladlePause who n => keeps_execLadlePause who n hk
  | .ladleResume who n => keeps_execLadleResume who n hk
  | .ladleAbort who n => keeps_execLadleAbort who n hk
  | .ladleDoorbell who n => keeps_execLadleDoorbell who n hk
  | .descriptorFetch n => keeps_execDescriptorFetch n hk
  | .burst step => keeps_execBurst step hk
  | .ladleBuserr n addr others => keeps_execLadleBuserr n addr others hk
  | .replay failed => keeps_execReplay failed hk
  | .ldlCounterRead who k => keeps_execLdlCounterRead who k hk
  | .knbJopen who => keeps_execKnbJopen who hk
  | .knbJmapWrite who j v => keeps_execKnbJmapWrite who j v hk
  | .knbCommit who => keeps_execKnbCommit who hk
  | .knabDone => keeps_execKnabDone hk
  | .counterIncrement who v cut => keeps_execCounterIncrement who v cut hk
  | .counterValueRead who => keeps_execCounterValueRead who hk
  | .sliceNow who => keeps_execSliceNow who hk
  | .scanSlice weak => keeps_execScanSlice weak hk
  | .pageRefresh page stillWeak => keeps_execPageRefresh page stillWeak hk
  | .knbWeakcntRead who => keeps_execKnbWeakcntRead who hk
  | .rtcSecond => keeps_execRtcSecond hk
  | .rtcSecRead who => keeps_execRtcSecRead who hk
  | .rtcSnap who v => keeps_execRtcSnap who v hk
  | .rtcFieldWrite who n v => keeps_execRtcFieldWrite who n v hk
  | .rtcHalt who => keeps_execRtcHalt who hk
  | .rtcRelease who => keeps_execRtcRelease who hk
  | .rtcAdj who v => keeps_execRtcAdj who v hk
  | .rtcMeasureStart who v => keeps_execRtcMeasureStart who v hk
  | .mainsrefCross cycles => keeps_execMainsrefCross cycles hk
  | .trimUpdate => keeps_execTrimUpdate hk
  | .rtcSupplySwitch toVbat => keeps_execRtcSupplySwitch toVbat hk
  | .rtcBatlow => keeps_execRtcBatlow hk
  | .rtcDomainLoss => keeps_execRtcDomainLoss hk
  | .rtcXstop => keeps_execRtcXstop hk
  | .keypadScan pressed => keeps_execKeypadScan pressed hk
  | .keyStuck key => keeps_execKeyStuck key hk
  | .entryTimeout => keeps_execEntryTimeout hk
  | .lockoutEnd => keeps_execLockoutEnd hk
  | .relock => keeps_execRelock hk
  | .kpdLock who => keeps_execKpdLock who hk
  | .kpdUnlock who => keeps_execKpdUnlock who hk
  | .kpdConfigWrite who off v => keeps_execKpdConfigWrite who off v hk
  | .kpdDropRead who => keeps_execKpdDropRead who hk
  | .encoderSample n a b p => keeps_execEncoderSample n a b p hk
  | .encoderCountWrite who n v => keeps_execEncoderCountWrite who n v hk
  | .encErrRead who n => keeps_execEncErrRead who n hk
  | .sensorConversion readings => keeps_execSensorConversion readings hk
  | .tripComparator => keeps_execTripComparator hk
  | .tripRelease => keeps_execTripRelease hk
  | .thmTjRead who => keeps_execThmTjRead who hk
  | .thmLvlcntRead who => keeps_execThmLvlcntRead who hk
  | .faultLogWrite nvOk => keeps_execFaultLogWrite nvOk hk
  | .registerWrite who addr v => keeps_execRegisterWrite who addr v hk
  | .tboRangeRecovery => keeps_execTboRangeRecovery hk
  | .nrstRelease => keeps_execNrstRelease hk
  | .xtalResume => keeps_execXtalResume hk
  | .mainsLost => keeps_execMainsLost hk
  | .rtcBatlowClear => keeps_execRtcBatlowClear hk
  | .rstoutRise => keeps_execRstoutRise hk

/-- Settles O5: every command keeps what `Keeps` names, and the queue, the variant, the fuses and the time are among it. -/
theorem commandsKeepQueueVariantFuses : Obligations.CommandsKeepQueueVariantFuses := by
  intro c s t hexec
  have hkeep : Keeps false s t := keeps_exec c (Keeps.refl false s) t hexec
  exact ⟨hkeep.pending, hkeep.variant, hkeep.fuse, hkeep.now⟩

end Sys2Proof.Machine
end

section
/-! PROOFS. Frames: what a state built by a command shares with the one it started from, and what the end of the command adds. -/

namespace Sys2Proof.Machine

/-! ### Updates of registers, memory and the notes of CEN alone -/

/-- From s to u only registers, memory and the notes that CEN keeps of events have changed. -/
def StoreFrame (s u : State) : Prop := u = { s with regs := u.regs, mem := u.mem, cen := cenNoted s u }

theorem StoreFrame.refl (s : State) : StoreFrame s s := rfl

theorem StoreFrame.trans {s u v : State} (hsu : StoreFrame s u) (huv : StoreFrame u v) : StoreFrame s v := by
  unfold StoreFrame at *
  rw [huv, hsu]
  rfl

theorem StoreFrame.knb {s u : State} (h : StoreFrame s u) : u.knb = s.knb := by rw [h]
theorem StoreFrame.variant {s u : State} (h : StoreFrame s u) : u.variant = s.variant := by rw [h]

theorem storeFrame_setReg (s : State) (a : Nat) (v : Word) : StoreFrame s (s.setReg a v) := rfl

theorem storeFrame_fire (s : State) (n : Nat) : StoreFrame s (s.fire n) := by
  unfold State.fire State.latchCore State.latchHost
  split_ifs <;> rfl

theorem storeFrame_setBytes (s : State) (a : Nat) (l : List Byte) : StoreFrame s (s.setBytes a l) := by
  induction l generalizing s a with
  | nil => exact .refl s
  | cons b l ih => exact StoreFrame.trans (u := s.setByte a b) rfl (ih _ _)

theorem storeFrame_setWord (s : State) (a : Nat) (v : Word) : StoreFrame s (s.setWord a v) := storeFrame_setBytes s a _

theorem State.hit_eq (s : State) (bit a : Nat) (host : Bool) : s.hit bit a host = { s with regs := (s.hit bit a host).regs } := rfl

/-- A fault changes the log alone. -/
theorem State.fault_eq (s : State) (code param : Nat) : s.fault code param = { s with log := (s.fault code param).log } := by
  unfold State.fault State.logAdd
  split <;> rfl

theorem State.word_congr {s t : State} (h : s.mem = t.mem) (a : Nat) : s.word a = t.word a := by
  simp only [State.word, State.bytes, State.byte_congr h]

/-! ### The end of a command -/

/-- The end of a command over a state that differs from s in what the commands of these families may touch. -/
theorem State.settle_eq_of_frame {s u : State} {m : List Host.Cell} {x : Word} {l : LogSt} {h : HstSt}
    (hu : u = { s with regs := u.regs, mem := m, lastRead := x, log := l, hst := h, cen := cenNoted s u }) :
    u.settle = { s with regs := u.settle.regs, mem := m, lastRead := x, log := l, hst := h, cen := cenNoted s u.settle } := by
  have hsettle := State.settle_eq u
  generalize u.settle = t at hsettle ⊢
  rw [hsettle, hu]
  rfl

/-- A command that comes to nothing but its end. -/
theorem changesNothing_of_done {c : Instr} {s : State} (h : exec c s = s.done) : changesNothing c s :=
  ⟨_, h, State.settle_eq _, regsKept_refl [] rfl, eventsFired_nil rfl fun _ _ => rfl⟩

/-- The latch registers lie below the units from RNG on. -/
theorem latch_notMem_of_le {a : Nat} (h : 0x60040000 ≤ a) : a ∉ latchRegs := by
  have hlow : ∀ b ∈ latchRegs, b < 0x60040000 := by decide
  exact fun ha => absurd (hlow a ha) (by omega)

end Sys2Proof.Machine
end

section
/-! PROOFS. The accesses of initiators: what a recorded access leaves in SYS_STATUS, and what the fabric writes where. -/

namespace Sys2Proof.Machine

variable (s : State)

/-! ### The access that SYS_STATUS records (R5, R53, R403, R404) -/

/-- From s to t an access at a is recorded under a bit of SYS_STATUS, with whether the host made it. -/
def Recorded (s t : State) (bit a : Nat) (host : Bool) : Prop :=
  t.rb Reg.sysStatus bit = true ∧ t.rb Reg.sysStatus 4 = host ∧
    (∀ i, i ≠ bit → i ≠ 4 → t.rb Reg.sysStatus i = s.rb Reg.sysStatus i) ∧ (t.reg Reg.sysHitaddr).toNat = a

theorem State.reg_hit_of_ne (bit a : Nat) (host : Bool) {b : Nat} (h : b ∉ [Reg.sysStatus, Reg.sysHitaddr]) :
    (s.hit bit a host).reg b = s.reg b := by
  obtain ⟨hst, had⟩ : b ≠ Reg.sysStatus ∧ b ≠ Reg.sysHitaddr := by simpa using h
  rw [State.hit, State.reg_setReg_ne _ _ _ _ had, State.reg_setRb_ne _ _ _ _ _ hst, State.reg_setRb_ne _ _ _ _ _ hst]

/-- The other bits of a register stay. -/
theorem State.rb_setRb_ne (a : Nat) {i j : Nat} (b : Bool) (hij : j ≠ i) : (s.setRb a i b).rb a j = s.rb a j := by
  by_cases hj : j < 32
  · rw [State.rb, State.reg_setRb, if_pos rfl]
    exact bitOf_putFld_apart _ _ _ _ _ hj (by omega)
  · simp [State.rb, bitOf, BitVec.getLsbD_of_ge _ _ (Nat.le_of_not_lt hj)]

theorem recorded_hit {bit a : Nat} (host : Bool) (hbit : bit < 4) (ha : a < 2 ^ 32) : Recorded s (s.hit bit a host) bit a host := by
  have hstatus : ∀ i, (s.hit bit a host).rb Reg.sysStatus i = ((s.setRb Reg.sysStatus bit true).setRb Reg.sysStatus 4 host).rb Reg.sysStatus i :=
    fun i => by rw [State.rb, State.hit, State.reg_setReg_ne _ _ _ _ (by decide), State.rb]
  refine ⟨?_, ?_, fun i h1 h2 => ?_, ?_⟩
  · rw [hstatus, State.rb_setRb_ne _ _ _ (by omega), State.rb_setRb _ _ _ _ (by omega)]
  · rw [hstatus, State.rb_setRb _ _ _ _ (by omega)]
  · rw [hstatus, State.rb_setRb_ne _ _ _ h2, State.rb_setRb_ne _ _ _ h1]
  · rw [State.hit, State.reg_setReg_same, BitVec.toNat_ofNat, Nat.mod_eq_of_lt ha]

/-- The record speaks of two registers alone. -/
theorem Recorded.congr {s t u : State} {bit a : Nat} {host : Bool} (h : Recorded s t bit a host)
    (hreg : ∀ b ∈ [Reg.sysStatus, Reg.sysHitaddr], u.reg b = t.reg b) : Recorded s u bit a host := by
  have hstatus : ∀ i, u.rb Reg.sysStatus i = t.rb Reg.sysStatus i := fun i => by rw [State.rb, State.rb, hreg _ (by simp)]
  have hhitaddr : u.reg Reg.sysHitaddr = t.reg Reg.sysHitaddr := hreg _ (by simp)
  simpa only [Recorded, hstatus, hhitaddr] using h

theorem Recorded.settle {t : State} {bit a : Nat} {host : Bool} (h : Recorded s t bit a host) : Recorded s t.settle bit a host :=
  h.congr fun b hb => State.reg_settle t b (by revert b; decide)

/-! ### Words as bytes (R18) -/

@[simp] theorem ofNat_ofLe_leBytes (v : Word) : BitVec.ofNat 32 (ofLe (leBytes 4 v.toNat)) = v := by
  rw [ofLe_leBytes, show (256 : Nat) ^ 4 = 2 ^ 32 from rfl, Nat.mod_eq_of_lt v.isLt, BitVec.ofNat_toNat, BitVec.setWidth_eq]

theorem putBytes_zero_of_length_le {l b : List Byte} (h : l.length ≤ b.length) : putBytes l 0 b = b := by
  simp [putBytes, List.drop_eq_nil_of_le h]

/-! ### The map (R402) -/

theorem within_one (a lo hi : Nat) : (within a 1 lo hi = true) = (lo ≤ a ∧ a < hi) := by
  simp [within]

theorem placeOf_data {a : Nat} (h : 0x20000000 ≤ a ∧ a < 0x20040000) : placeOf a = .data := by
  simp (disch := omega) only [placeOf, within_one, if_neg, if_pos]

theorem placeOf_win {a : Nat} (h : 0x30000000 ≤ a ∧ a < 0x30004000) : placeOf a = .win := by
  simp (disch := omega) only [placeOf, within_one, if_neg, if_pos]

/-- The addresses that the set and clear windows stand for: data RAM and the shared window. -/
abbrev inMirrored (d : Nat) : Prop := (0x20000000 ≤ d ∧ d < 0x20040000) ∨ (0x30000000 ≤ d ∧ d < 0x30004000)

theorem placeOf_setWindow {a d : Nat} (ha : a = d + 0x1000000) (h : inMirrored d) : placeOf a = .mirror true d := by
  have hd : a - 0x1000000 = d := by omega
  rcases h with h | h <;> simp (disch := omega) only [placeOf, within_one, if_neg, if_pos, hd]

theorem placeOf_clearWindow {a d : Nat} (ha : a = d + 0x2000000) (h : inMirrored d) : placeOf a = .mirror false d := by
  have hd : a - 0x2000000 = d := by omega
  rcases h with h | h <;> simp (disch := omega) only [placeOf, within_one, if_neg, if_pos, hd]

/-! ### What the fabric writes (R16, R403, R407) -/

section
variable {s : State} {a : Nat} (who : Init) (v : Word)

theorem State.fabricWrite_regs (h4 : a % 4 = 0) (hplace : placeOf a = .regs) (hpresent : s.absentAt a = false) :
    s.fabricWrite who a (leBytes 4 v.toNat) = s.regWrite who a v := by
  have ha : a / 4 * 4 = a := by omega
  simp [State.fabricWrite, hpresent, hplace, ha, h4, putBytes_zero_of_length_le]

theorem State.fabricWrite_ram (hplace : placeOf a = .data ∨ placeOf a = .win) :
    s.fabricWrite who a (leBytes 4 v.toNat) = s.setWord a v := by
  rcases hplace with hplace | hplace <;> simp [State.fabricWrite, State.absentAt, hplace, State.setWord]

theorem State.fabricWrite_mirror {set : Bool} {d : Nat} (hplace : placeOf a = .mirror set d) :
    s.fabricWrite who a (leBytes 4 v.toNat) = s.setWord d (if set then s.word d ||| v else s.word d &&& ~~~v) := by
  simp [State.fabricWrite, State.absentAt, hplace]

theorem State.fabricWrite_unmapped (hplace : placeOf a = .unmapped) (b : List Byte) :
    s.fabricWrite who a b = s.hit 2 a (who == .host) := by
  simp [State.fabricWrite, State.absentAt, hplace]

/-- A register of a unit without writes of its own takes the word under its access types (R16, R19). -/
theorem State.regWrite_plain {r : RegRow} (hunit : regUnit a ∈ [0, 8, 15, 17, 18]) (hrow : regRow a = some r) :
    s.regWrite who a v =
      s.setReg a (((s.reg a &&& ~~~(BitVec.ofNat 32 r.rw)) ||| (v &&& BitVec.ofNat 32 r.rw)) &&& ~~~(v &&& BitVec.ofNat 32 r.w1c)) := by
  have hplain : s.regWrite who a v = s.plainWrite a v := by
    simp only [List.mem_cons, List.not_mem_nil, or_false] at hunit
    rcases hunit with h | h | h | h | h <;> simp [State.regWrite, h]
  rw [hplain, State.plainWrite, hrow]

end

end Sys2Proof.Machine
end

section
/-! PROOFS. REGISTER_WRITE: what it answers for each place that it names, and the host's refusals. -/

namespace Sys2Proof.Machine

/-! ### What the command comes to -/

section
variable {s : State} {a : Word} (v : Word)

theorem exec_registerWrite_core {who : Init} (hwho : who ≠ .host) (h4 : a.toNat % 4 = 0) :
    exec (.registerWrite who a v) s = (s.fabricWrite who a.toNat (leBytes 4 v.toNat)).done := by
  cases who with
  | host => exact absurd rfl hwho
  | runtime | ladle => exact congrArg State.done (if_pos h4)

theorem exec_registerWrite_host (h4 : a.toNat % 4 = 0) : exec (.registerWrite .host a v) s = (s.hostWord a.toNat v).done := by
  have ha : a.toNat / 4 * 4 = a.toNat := by omega
  show (s.hostWord (a.toNat / 4 * 4) v).done = _
  rw [ha]

theorem exec_registerWrite_ready (h4 : a.toNat % 4 = 0) (hcode : s.hostCode a.toNat true = 0xA5) :
    exec (.registerWrite .host a v) s = (s.fabricWrite .host a.toNat (leBytes 4 v.toNat)).done := by
  rw [exec_registerWrite_host v h4, State.hostWord, if_pos hcode]

theorem exec_registerWrite_refused {code : Nat} (h4 : a.toNat % 4 = 0) (hcode : s.hostCode a.toNat true = code) (hne : code ≠ 0xA5) :
    exec (.registerWrite .host a v) s = ((s.hostHit code a.toNat).hostResult code).done := by
  subst hcode
  rw [exec_registerWrite_host v h4, State.hostWord, if_neg hne]

end

/-! ### The host's rights (R53, R402, R404) -/

section
variable {s : State} {a : Nat}

theorem hostCode_ram (hawake : s.asleep = false)
    (hplace : (0x20038000 ≤ a ∧ a < 0x20040000) ∨ (0x30000000 ≤ a ∧ a < 0x30004000)) : s.hostCode a true = 0xA5 := by
  rcases hplace with h | h
  · have hp : placeOf a = .data := placeOf_data (by omega)
    simp [State.hostCode, State.absentAt, hostProtected, hawake, hp, h]
  · simp [State.hostCode, State.absentAt, hostProtected, hawake, placeOf_win h]

theorem hostCode_protected (hawake : s.asleep = false)
    (hplace : placeOf a = .rom ∨ placeOf a = .prog ∨ (0x20000000 ≤ a ∧ a < 0x20038000)) : s.hostCode a true = 0xE5 := by
  rcases hplace with h | h | h
  · simp [State.hostCode, State.absentAt, hostProtected, hawake, h]
  · simp [State.hostCode, State.absentAt, hostProtected, hawake, h]
  · have hp : placeOf a = .data := placeOf_data (by omega)
    simp [State.hostCode, State.absentAt, hostProtected, hawake, hp, h]

/-- A defined register of a present unit is open to the host that owns the unit, and where R53 names it; else it is refused. -/
theorem hostCode_regs {r : RegRow} (hawake : s.asleep = false) (hplace : placeOf a = .regs) (hrow : regRow a = some r)
    (hpresent : s.absentAt a = false) :
    s.hostCode a true = if hostReg a = true ∨ s.hostOwns (regUnit a) = true then 0xA5 else 0xE3 := by
  simp [State.hostCode, hostProtected, hawake, hplace, hrow, hpresent]

end

/-! ### The answers -/

section
variable {c : Instr} {s : State}

/-- A command whose effect is one word of memory. -/
theorem answers_setWord {d : Nat} {x : Word} (h : exec c s = (s.setWord d x).done) :
    ∃ t, exec c s = .next t ∧ t = { s with regs := t.regs, mem := t.mem, cen := cenNoted s t } ∧ t.word d = x ∧
      memKept s t d (d + 4) ∧ regsKept s t [] ∧ eventsFired s t [] := by
  have hmem : (s.setWord d x).settle.mem = (s.setWord d x).mem := State.settle_mem _
  have hregs : (s.setWord d x).regs = s.regs := by simp
  refine ⟨_, h, by rw [hmem]; exact State.settle_eq_of_frame (storeFrame_setWord s d x), ?_, fun b hb => ?_, regsKept_refl [] hregs,
    eventsFired_nil (by simp) fun b _ => State.reg_congr hregs b⟩
  · rw [State.word_congr hmem, State.word_setWord]
  · rw [State.byte_congr hmem, State.byte_setWord_apart s d b x (by omega)]

/-- The latch registers are of EVT. -/
theorem latch_notMem_of_regUnit {a : Nat} (hunit : regUnit a ∈ [0, 8, 15, 17, 18]) : a ∉ latchRegs := by
  have hevt : ∀ b ∈ latchRegs, regUnit b = 3 := by decide
  exact fun ha => absurd (hevt a ha ▸ hunit) (by decide)

/-- A command whose effect is one register, no event latch. -/
theorem answers_setReg {a : Nat} {x : Word} (hlatch : a ∉ latchRegs) (h : exec c s = (s.setReg a x).done) :
    ∃ t, exec c s = .next t ∧ t = { s with regs := t.regs, cen := cenNoted s t } ∧ t.reg a = x ∧
      regsKept s t [a] ∧ eventsFired s t [] := by
  refine ⟨_, h, State.settle_eq_of_frame rfl, ?_, regsKept_settle fun b hb _ => ?_, eventsFired_nil rfl fun b hb => ?_⟩
  · rw [State.reg_settle _ _ hlatch, State.reg_setReg_same]
  · exact State.reg_setReg_ne _ _ _ _ (by simpa using hb)
  · exact State.reg_setReg_ne _ _ _ _ fun e => hlatch (e ▸ hb)

/-- A command that is ignored and recorded. -/
theorem answers_hit {bit a : Nat} {host : Bool} (hbit : bit < 4) (ha : a < 2 ^ 32) (h : exec c s = (s.hit bit a host).done) :
    ∃ t, exec c s = .next t ∧ t = { s with regs := t.regs, cen := cenNoted s t } ∧ Recorded s t bit a host ∧
      regsKept s t [Reg.sysStatus, Reg.sysHitaddr] ∧ eventsFired s t [] :=
  ⟨_, h, State.settle_eq_of_frame rfl, (recorded_hit s host hbit ha).settle, regsKept_settle fun _ hb _ => State.reg_hit_of_ne s _ _ _ hb,
    eventsFired_nil rfl fun b hb => State.reg_hit_of_ne s _ _ _ (by revert b; decide)⟩

/-- A result other than READY: the host's result, HOSTERR, and a value in HST_HERR (R419). -/
theorem State.hostResult_eq {code : Nat} (hcode : code ≠ 0xA5) :
    ∃ x, s.hostResult code =
      (({ s with hst := { s.hst with result := if s.hst.result = 0 then code else s.hst.result } } : State).setRb
        Reg.hstStat 2 true).setReg Reg.hstHerr x := by
  rw [State.hostResult, if_neg hcode]
  generalize ({ s with hst := { s.hst with result := if s.hst.result = 0 then code else s.hst.result } } : State) = u
  dsimp only
  split <;> exact ⟨_, rfl⟩

/-- A host word that is refused under a bit of SYS_STATUS changes nothing but the record and the host's result. -/
theorem answers_refused {bit code a : Nat} (hcode : code ≠ 0xA5) (hbit : bit < 4) (ha : a < 2 ^ 32)
    (h : exec c s = ((s.hit bit a true).hostResult code).done) :
    ∃ t, exec c s = .next t ∧
      t = { s with regs := t.regs, hst := { s.hst with result := if s.hst.result = 0 then code else s.hst.result }, cen := cenNoted s t } ∧
      Recorded s t bit a true ∧ t.rb Reg.hstStat 2 = true ∧
      regsKept s t [Reg.sysStatus, Reg.sysHitaddr, Reg.hstStat, Reg.hstHerr] ∧ eventsFired s t [] := by
  obtain ⟨x, hx⟩ := State.hostResult_eq (s := s.hit bit a true) hcode
  generalize (s.hit bit a true).hostResult code = u at h hx
  have hother : ∀ b, b ∉ [Reg.hstStat, Reg.hstHerr] → u.reg b = (s.hit bit a true).reg b := fun b hb => by
    obtain ⟨hstat, hherr⟩ : b ≠ Reg.hstStat ∧ b ≠ Reg.hstHerr := by simpa using hb
    rw [hx, State.reg_setReg_ne _ _ _ _ hherr, State.reg_setRb_ne _ _ _ _ _ hstat]
    rfl
  have hrecord : Recorded s u bit a true := (recorded_hit s true hbit ha).congr fun b hb => hother b (by revert b; decide)
  have hstat : u.rb Reg.hstStat 2 = true := by
    rw [hx, State.rb, State.reg_setReg_ne _ _ _ _ (by decide)]
    exact State.rb_setRb _ _ _ _ (by decide)
  have hlatch : ∀ b ∈ latchRegs, u.reg b = s.reg b := fun b hb =>
    (hother b (by revert b; decide)).trans (State.reg_hit_of_ne s _ _ _ (by revert b; decide))
  refine ⟨u.settle, h, ?_, hrecord.settle, ?_, regsKept_settle fun b hb _ => ?_, eventsFired_nil (by rw [hx]; rfl) hlatch⟩
  · refine State.settle_eq_of_frame ?_
    rw [hx, State.hit_eq]
    rfl
  · rwa [State.rb, State.reg_settle _ _ (by decide)]
  · simp only [List.mem_cons, not_or] at hb
    rw [hother b (by simp [hb]), State.reg_hit_of_ne s _ _ _ (by simp [hb])]

end

/-- Settles O44: each write comes to one register, one word of memory, one record, or one refusal, and the lemmas above say what
that leaves. -/
theorem plainRegisterAndMemoryWrites : Obligations.PlainRegisterAndMemoryWrites := by
  refine ⟨fun who a v r s h4 hplace hrow hunit hpresent hhost => ?_, fun a v s h4 hawake hplace => ?_,
    fun who a v s hwho h4 => ⟨fun hlo hhi => ?_, fun d hd => ⟨fun ha => ?_, fun ha => ?_⟩, fun hplace => ?_⟩,
    fun a v s hawake h4 => ⟨fun hplace => ?_, fun r hplace hrow hpresent hreg howns => ?_⟩⟩
  · have hexec : exec (.registerWrite who a v) s = (s.fabricWrite who a.toNat (leBytes 4 v.toNat)).done := by
      by_cases hwho : who = .host
      · subst hwho
        obtain ⟨hawake, hright⟩ := hhost rfl
        exact exec_registerWrite_ready v h4 (by rw [hostCode_regs hawake hplace hrow hpresent, if_pos hright])
      · exact exec_registerWrite_core v hwho h4
    rw [State.fabricWrite_regs who v h4 hplace hpresent, State.regWrite_plain who v hunit hrow] at hexec
    exact answers_setReg (latch_notMem_of_regUnit hunit) hexec
  · have hram : placeOf a.toNat = .data ∨ placeOf a.toNat = .win := hplace.imp (fun h => placeOf_data (by omega)) placeOf_win
    exact answers_setWord ((exec_registerWrite_ready v h4 (hostCode_ram hawake hplace)).trans
      (by rw [State.fabricWrite_ram _ v hram]))
  · exact answers_setWord ((exec_registerWrite_core v hwho h4).trans
      (by rw [State.fabricWrite_ram _ v (.inl (placeOf_data ⟨hlo, hhi⟩))]))
  · exact answers_setWord ((exec_registerWrite_core v hwho h4).trans
      (by rw [State.fabricWrite_mirror _ v (placeOf_setWindow ha hd), if_pos rfl]))
  · exact answers_setWord ((exec_registerWrite_core v hwho h4).trans
      (by rw [State.fabricWrite_mirror _ v (placeOf_clearWindow ha hd), if_neg Bool.false_ne_true]))
  · have hnothost : (who == Init.host) = false := by simpa using hwho
    exact answers_hit (by decide) a.isLt ((exec_registerWrite_core v hwho h4).trans
      (by rw [State.fabricWrite_unmapped _ hplace, hnothost]))
  · exact answers_refused (by decide) (by decide) a.isLt (exec_registerWrite_refused v h4 (hostCode_protected hawake hplace) (by decide))
  · have hcode : s.hostCode a.toNat true = 0xE3 := by
      rw [hostCode_regs hawake hplace hrow hpresent, if_neg (by simp [hreg, howns])]
    exact answers_refused (by decide) (by decide) a.isLt (exec_registerWrite_refused v h4 hcode (by decide))

end Sys2Proof.Machine
end

section
/-! PROOFS. Reads of registers that clear (R52), and of what a variant lacks (R5). -/

namespace Sys2Proof.Machine

section
variable {c : Instr} {s : State}

/-- The register units that every variant carries (R4). -/
theorem present_of_mem {u : Nat} (hu : u ∈ [4, 5, 6, 7, 8, 11, 13, 14, 17]) : s.present u = true := by
  have hall : ∀ v : Variant, ∀ u ∈ [4, 5, 6, 7, 8, 11, 13, 14, 17], bitOf (sysUnitsOf v) u = true := by
    intro v
    cases v <;> decide
  exact hall s.variant u hu

theorem State.readClear_present {who : Init} {u a : Nat} {m : Word} (hu : s.present u = true) :
    s.readClear who u a m =
      if who = .host ∧ s.hostOwns u = false then { s with lastRead := s.reg a } else ({ s with lastRead := s.reg a } : State).clrReg a m := by
  have hhost : (who == .host && !s.hostOwns u) = true ↔ who = .host ∧ s.hostOwns u = false := by simp
  simp only [State.readClear, hu, Bool.not_true, Bool.false_eq_true, if_false]
  exact if_congr hhost rfl rfl

theorem State.readClear_absent {who : Init} {u a : Nat} {m : Word} (hu : s.present u = false) :
    s.readClear who u a m = { (s.hit 0 a (who == .host)) with lastRead := 0 } := by
  simp [State.readClear, hu]

/-- A read of a register that clears: its value, and the register cleared, but for a host that reads a unit it does not own (R52). -/
theorem answers_readClear {who : Init} {u a : Nat} {m : Word} (hu : s.present u = true) (ha : 0x60040000 ≤ a)
    (h : exec c s = (s.readClear who u a m).done) :
    ∃ t, exec c s = .next t ∧ t = { s with regs := t.regs, lastRead := s.reg a, cen := cenNoted s t } ∧
      t.reg a = (if who = .host ∧ s.hostOwns u = false then s.reg a else s.reg a &&& ~~~m) ∧ regsKept s t [a] ∧ eventsFired s t [] := by
  rw [State.readClear_present hu] at h
  split at h
  next hhost =>
    exact ⟨_, h, State.settle_eq_of_frame rfl, by rw [if_pos hhost, State.reg_settle _ _ (latch_notMem_of_le ha)]; rfl,
      regsKept_refl _ rfl, eventsFired_nil rfl fun _ _ => rfl⟩
  next hhost =>
    refine ⟨_, h, State.settle_eq_of_frame rfl, ?_, regsKept_settle fun b hb _ => ?_, eventsFired_nil rfl fun b hb => ?_⟩
    · rw [if_neg hhost, State.reg_settle _ _ (latch_notMem_of_le ha), State.reg_clrReg, if_pos rfl]; rfl
    · rw [State.reg_clrReg, if_neg (by simpa using hb)]; rfl
    · rw [State.reg_clrReg, if_neg fun e : b = a => latch_notMem_of_le ha (e ▸ hb)]; rfl

/-- A read of an absent register: 0, recorded (R5). -/
theorem answers_absentRead {a : Nat} {host : Bool} (ha : a < 2 ^ 32)
    (h : exec c s = ({ (s.hit 0 a host) with lastRead := 0 } : State).done) :
    ∃ t, exec c s = .next t ∧ t = { s with regs := t.regs, lastRead := 0, cen := cenNoted s t } ∧ t.rb Reg.sysStatus 0 = true ∧
      (t.reg Reg.sysHitaddr).toNat = a ∧ regsKept s t [Reg.sysStatus, Reg.sysHitaddr] ∧ eventsFired s t [] := by
  have hrecord : Recorded s ({ (s.hit 0 a host) with lastRead := 0 } : State) 0 a host :=
    (recorded_hit s host (by decide) ha).congr fun _ _ => rfl
  obtain ⟨hbit, -, -, hhitaddr⟩ := hrecord.settle
  have hframe : ({ (s.hit 0 a host) with lastRead := 0 } : State) = { s with regs := (s.hit 0 a host).regs, lastRead := 0 } := by
    rw [State.hit_eq]
  have hreg : ∀ b, b ∉ [Reg.sysStatus, Reg.sysHitaddr] → ({ (s.hit 0 a host) with lastRead := 0 } : State).reg b = s.reg b :=
    fun b hb => State.reg_hit_of_ne s 0 a host hb
  exact ⟨_, h, State.settle_eq_of_frame hframe, hbit, hhitaddr, regsKept_settle fun b hb _ => hreg b hb,
    eventsFired_nil (by rw [hframe]) fun b hb => hreg b (by revert b; decide)⟩

end

end Sys2Proof.Machine
end

section
/-! PROOFS. The Knab store as its readers see it (R495, R502, R509, R510): what word writes, an increment and a transaction change. -/

namespace Sys2Proof.Machine

theorem storeFrame_knabPut (s : State) (a : Nat) (l : List Byte) : StoreFrame s (s.knabPut a l) := by
  induction l generalizing s a with
  | nil => exact .refl s
  | cons b l ih => exact StoreFrame.trans (u := s.setByte (s.knabCell a) b) rfl (ih _ _)

theorem storeFrame_knabPuts (s : State) (l : List (Nat × List Byte)) : StoreFrame s (s.knabPuts l) := by
  induction l generalizing s with
  | nil => exact .refl s
  | cons w l ih => exact (storeFrame_knabPut s w.1 w.2).trans (ih _)

theorem reg_knabPut (s : State) (a : Nat) (l : List Byte) (r : Nat) : (s.knabPut a l).reg r = s.reg r := by
  induction l generalizing s a with
  | nil => rfl
  | cons b l ih => exact ih _ _

theorem reg_knabPuts (s : State) (l : List (Nat × List Byte)) (r : Nat) : (s.knabPuts l).reg r = s.reg r := by
  induction l generalizing s with
  | nil => rfl
  | cons w l ih => exact (ih _).trans (reg_knabPut s w.1 w.2 r)

theorem knabPuts_append (s : State) (l l' : List (Nat × List Byte)) : s.knabPuts (l ++ l') = (s.knabPuts l).knabPuts l' :=
  List.foldl_append

theorem knabPuts_singleton (s : State) (a : Nat) (b : List Byte) : s.knabPuts [(a, b)] = s.knabPut a b := rfl

/-! ### Where a byte of the store stands (R495) -/

/-- An address of one of the 1,024 pages that a reader may name. -/
abbrev InStore (a : Nat) : Prop := knabPage 0 ≤ a ∧ a < knabPage 1024

theorem knabCell_cases (s : State) (a : Nat) :
    s.knabCell a = a ∨
      ∃ i < 16, s.knb.spares.getD i none = some ((a - 0x50000000) / 64) ∧ s.knabCell a = knabPage (1024 + i) + a % 64 := by
  unfold State.knabCell
  split
  next i hfind =>
    have hmem := List.mem_of_find?_eq_some hfind
    exact .inr ⟨i, by simpa using hmem, by simpa using List.find?_some hfind, rfl⟩
  next => exact .inl rfl

theorem knabCell_congr {s u : State} (h : u.knb = s.knb) (a : Nat) : u.knabCell a = s.knabCell a := by
  simp only [State.knabCell, h]

/-- Two addresses of the store stand in two places: a spare holds one page. -/
theorem knabCell_inj {s : State} {a b : Nat} (ha : InStore a) (hb : InStore b) (h : s.knabCell a = s.knabCell b) : a = b := by
  unfold InStore at ha hb
  rcases knabCell_cases s a with hca | ⟨i, _, hsi, hca⟩ <;> rcases knabCell_cases s b with hcb | ⟨j, _, hsj, hcb⟩ <;>
    rw [hca, hcb] at h
  · exact h
  · unfold knabPage at *; omega
  · unfold knabPage at *; omega
  · unfold knabPage at *
    obtain rfl : i = j := by omega
    have hpage : (a - 0x50000000) / 64 = (b - 0x50000000) / 64 := by rw [hsi] at hsj; exact Option.some.inj hsj
    omega

theorem knabCell_ge {s : State} {a : Nat} (ha : knabPage 0 ≤ a) : knabPage 0 ≤ s.knabCell a := by
  rcases knabCell_cases s a with hc | ⟨i, hi, -, hc⟩ <;> rw [hc] <;> unfold knabPage at * <;> omega

theorem knabCell_lt {s : State} {a : Nat} (ha : InStore a) : s.knabCell a < knabPage 1040 := by
  rcases knabCell_cases s a with hc | ⟨i, hi, -, hc⟩ <;> rw [hc] <;> unfold InStore knabPage at * <;> omega

/-- With no transaction in progress a reader sees the array. -/
theorem knabByte_idle {s : State} (hidle : s.knb.commit = none) (a : Nat) : s.knabByte a = s.byte (s.knabCell a) := by
  simp [State.knabByte, State.knabTarget, hidle]

theorem knabByte_congr {s u : State} (hknb : u.knb = s.knb) (hbyte : ∀ a, knabPage 0 ≤ a → u.byte a = s.byte a) {a : Nat}
    (ha : knabPage 0 ≤ a) : u.knabByte a = s.knabByte a := by
  unfold State.knabByte State.knabTarget
  rw [hknb, knabCell_congr hknb, hbyte _ (knabCell_ge ha)]

/-! ### Bytes and words as a reader sees them -/

theorem knabBytes_congr {s u : State} {a n : Nat} (h : ∀ i < n, u.knabByte (a + i) = s.knabByte (a + i)) :
    u.knabBytes a n = s.knabBytes a n :=
  List.map_congr_left fun i hi => h i (List.mem_range.mp hi)

theorem knabBytes_eq {s : State} {a : Nat} {l : List Byte} (h : ∀ i < l.length, s.knabByte (a + i) = l.getD i 0) :
    s.knabBytes a l.length = l := by
  refine List.ext_getElem (by simp [State.knabBytes]) fun i h1 h2 => ?_
  simpa [State.knabBytes, List.getElem?_eq_getElem h2] using h i h2

theorem getD_knabBytes (s : State) (a : Nat) {n i : Nat} (hi : i < n) : (s.knabBytes a n).getD i 0 = s.knabByte (a + i) := by
  simp [State.knabBytes, hi]

theorem getD_putBytes {l b : List Byte} {i k : Nat} (h : i + b.length ≤ l.length) :
    (putBytes l i b).getD k 0 = if i ≤ k ∧ k < i + b.length then b.getD (k - i) 0 else l.getD k 0 := by
  simp only [putBytes, List.getD_eq_getElem?_getD, List.getElem?_append, List.getElem?_take, List.getElem?_drop, List.length_append,
    List.length_take]
  grind

theorem getD_slice (l : List Byte) (off : Nat) {n i : Nat} (hi : i < n) : (slice l off n).getD i 0 = l.getD (off + i) 0 := by
  simp [slice, hi]

theorem knabWord_toNat {s : State} {a n : Nat} (h : ∀ i < 4, s.knabByte (a + i) = (leBytes 4 n).getD i 0) :
    (s.knabWord a).toNat = n % 2 ^ 32 := by
  have hbytes : s.knabBytes a 4 = leBytes 4 n := by simpa using knabBytes_eq (s := s) (a := a) (l := leBytes 4 n) (by simpa using h)
  rw [State.knabWord, hbytes, ofLe_leBytes, BitVec.toNat_ofNat]
  omega

theorem knabCtrVal_congr {s u : State} {c : Nat} (h : ∀ i < 12, u.knabByte (knabCtr c + i) = s.knabByte (knabCtr c + i)) :
    u.knabCtrVal c = s.knabCtrVal c := by
  have hlow : u.knabBytes (knabCtr c) 4 = s.knabBytes (knabCtr c) 4 := knabBytes_congr fun i hi => h i (by omega)
  have hhigh : u.knabBytes (knabCtr c + 8) 4 = s.knabBytes (knabCtr c + 8) 4 := knabBytes_congr fun i hi => by
    rw [Nat.add_assoc]; exact h (8 + i) (by omega)
  rw [State.knabCtrVal, State.knabWord, State.knabWord, hlow, hhigh]
  rfl

/-! ### What word writes change -/

/-- A byte at address a after word writes, where it was x before. -/
def written (l : List (Nat × List Byte)) (a : Nat) (x : Byte) : Byte :=
  l.foldl (fun x w => if w.1 ≤ a ∧ a < w.1 + w.2.length then w.2.getD (a - w.1) 0 else x) x

/-- Every address of some word writes meets a condition. -/
def WritesIn (P : Nat → Prop) (l : List (Nat × List Byte)) : Prop := ∀ w ∈ l, ∀ a, w.1 ≤ a → a < w.1 + w.2.length → P a

section
variable {P Q : Nat → Prop} {l l' : List (Nat × List Byte)}

theorem WritesIn.append (h : WritesIn P l) (h' : WritesIn P l') : WritesIn P (l ++ l') :=
  fun w hw => (List.mem_append.mp hw).elim (h w) (h' w)

theorem WritesIn.mono (h : WritesIn P l) (hPQ : ∀ a, P a → Q a) : WritesIn Q l := fun w hw a h1 h2 => hPQ a (h w hw a h1 h2)

theorem writesIn_flatMap {α : Type} {m : List α} {f : α → List (Nat × List Byte)} (h : ∀ x ∈ m, WritesIn P (f x)) :
    WritesIn P (m.flatMap f) := fun w hw =>
  let ⟨x, hx, hwx⟩ := List.mem_flatMap.mp hw
  h x hx w hwx

theorem writesIn_pageWords {p : Nat} (d : List Byte) (h : ∀ a, knabPage p ≤ a → a < knabPage p + 64 → P a) :
    WritesIn P (pageWords p d) := by
  intro w hw a h1 h2
  obtain ⟨i, hi, rfl⟩ := List.mem_map.mp hw
  simp only [slice_length, List.mem_range] at h1 h2 hi
  exact h a (by omega) (by omega)

theorem written_append (a : Nat) (x : Byte) : written (l ++ l') a x = written l' a (written l a x) := List.foldl_append

theorem written_of_writesIn {a : Nat} (h : WritesIn P l) (ha : ¬ P a) (x : Byte) : written l a x = x := by
  induction l generalizing x with
  | nil => rfl
  | cons w l ih =>
    have hw : ¬(w.1 ≤ a ∧ a < w.1 + w.2.length) := fun hin => ha (h w (by simp) a hin.1 hin.2)
    exact (ih (fun v hv => h v (by simp [hv])) _).trans (if_neg hw)

end

/-- The word writes of a page give it its contents (R502). -/
theorem written_pageWords (p : Nat) (d : List Byte) (a : Nat) (x : Byte) :
    written (pageWords p d) a x = if knabPage p ≤ a ∧ a < knabPage p + 64 then d.getD (a - knabPage p) 0 else x := by
  have hwords : ∀ n, written ((List.range n).map fun i => (knabPage p + 4 * i, slice d (4 * i) 4)) a x =
      if knabPage p ≤ a ∧ a < knabPage p + 4 * n then d.getD (a - knabPage p) 0 else x := by
    intro n
    induction n with
    | zero => rw [if_neg (by omega)]; rfl
    | succ n ih =>
      rw [List.range_succ, List.map_append, written_append, ih]
      simp only [written, List.map_cons, List.map_nil, List.foldl_cons, List.foldl_nil, slice_length]
      by_cases hlast : knabPage p + 4 * n ≤ a ∧ a < knabPage p + 4 * n + 4
      · rw [if_pos hlast, if_pos (by omega), getD_slice _ _ (by omega)]
        congr 1
        omega
      · rw [if_neg hlast]
        exact if_congr (by omega) rfl rfl
  exact hwords 16

section
variable {s : State} (hidle : s.knb.commit = none)
include hidle

theorem knabByte_knabPut {a b : Nat} {l : List Byte} (hin : ∀ x, a ≤ x → x < a + l.length → InStore x) (hb : InStore b) :
    (s.knabPut a l).knabByte b = if a ≤ b ∧ b < a + l.length then l.getD (b - a) 0 else s.knabByte b := by
  induction l generalizing s a with
  | nil => rw [if_neg (by simp)]; rfl
  | cons v l ih =>
    have ha : InStore a := hin a le_rfl (by simp)
    have hset : (s.setByte (s.knabCell a) v).knabByte b = if b = a then v else s.knabByte b := by
      rw [knabByte_idle hidle, knabByte_idle (s := s.setByte (s.knabCell a) v) hidle, State.byte_setByte,
        knabCell_congr (s := s) (u := s.setByte (s.knabCell a) v) rfl]
      exact if_congr ⟨fun h => knabCell_inj hb ha h, fun h => h ▸ rfl⟩ rfl rfl
    rw [State.knabPut, ih (s := s.setByte (s.knabCell a) v) hidle fun x h1 h2 => hin x (by omega) (by simp; omega), hset]
    simp only [List.length_cons]
    by_cases hfirst : b = a
    · subst hfirst
      rw [if_neg (by omega), if_pos rfl, if_pos (by omega), Nat.sub_self, List.getD_cons_zero]
    · rw [if_neg hfirst]
      by_cases hrest : a + 1 ≤ b ∧ b < a + 1 + l.length
      · rw [if_pos hrest, if_pos (by omega), show b - a = (b - (a + 1)) + 1 by omega, List.getD_cons_succ]
      · rw [if_neg hrest, if_neg (by omega)]

theorem knabByte_knabPuts {b : Nat} {l : List (Nat × List Byte)} (hin : WritesIn InStore l) (hb : InStore b) :
    (s.knabPuts l).knabByte b = written l b (s.knabByte b) := by
  induction l generalizing s with
  | nil => rfl
  | cons w l ih =>
    have hknb : (s.knabPut w.1 w.2).knb = s.knb := (storeFrame_knabPut s w.1 w.2).knb
    have hrest := ih (s := s.knabPut w.1 w.2) (by rw [hknb, hidle]) fun v hv => hin v (by simp [hv])
    exact hrest.trans (congrArg (written l b) (knabByte_knabPut hidle (hin w (by simp)) hb))

end

theorem byte_knabPut_off {s : State} {a b : Nat} {l : List Byte} (hin : ∀ x, a ≤ x → x < a + l.length → InStore x)
    (hb : b < knabPage 0 ∨ knabPage 1040 ≤ b) : (s.knabPut a l).byte b = s.byte b := by
  induction l generalizing s a with
  | nil => rfl
  | cons v l ih =>
    have ha : InStore a := hin a le_rfl (by simp)
    have hcell : b ≠ s.knabCell a := by
      have hlt := knabCell_lt (s := s) ha
      have hge := knabCell_ge (s := s) ha.1
      omega
    rw [State.knabPut, ih fun x h1 h2 => hin x (by omega) (by simp; omega), State.byte_setByte, if_neg hcell]

theorem byte_knabPuts_off {s : State} {b : Nat} {l : List (Nat × List Byte)} (hin : WritesIn InStore l)
    (hb : b < knabPage 0 ∨ knabPage 1040 ≤ b) : (s.knabPuts l).byte b = s.byte b := by
  induction l generalizing s with
  | nil => rfl
  | cons w l ih =>
    exact (ih (s := s.knabPut w.1 w.2) fun v hv => hin v (by simp [hv])).trans (byte_knabPut_off (hin w (by simp)) hb)

end Sys2Proof.Machine
end

section
/-! PROOFS. The increment of a spread counter (R510) and the steps of a journal transaction (R502) as word writes. -/

namespace Sys2Proof.Machine

/-! ### One increment of a counter (R509, R510) -/

theorem writesIn_knabCtrWords (c : Nat) (carry : Bool) (n : Nat) :
    WritesIn (fun a => knabCtr c ≤ a ∧ a < knabCtr c + 12) (knabCtrWords c carry n) := by
  intro w hw a h1 h2
  cases carry <;> simp only [knabCtrWords, if_true, Bool.false_eq_true, if_false, List.mem_cons, List.not_mem_nil, or_false] at hw
  · subst hw
    simp only [leBytes_length] at h1 h2
    omega
  · rcases hw with rfl | rfl | rfl <;> simp only [leBytes_length] at h1 h2 <;> omega

theorem inStore_of_knabCtr {c a : Nat} (hc : c < 32) (ha : knabCtr c ≤ a ∧ a < knabCtr c + 12) : InStore a := by
  unfold InStore knabPage knabCtr at *
  omega

/-- The low word of a counter is written with every increment (R510). -/
theorem written_knabCtrWords_low (c : Nat) (carry : Bool) (n : Nat) {i : Nat} (hi : i < 4) (x : Byte) :
    written (knabCtrWords c carry n) (knabCtr c + i) x = (leBytes 4 n).getD i 0 := by
  have h8 : ¬ 8 ≤ i := by omega
  cases carry <;> simp [knabCtrWords, written, hi, h8]

/-- H_b is written with a carry alone (R510). -/
theorem written_knabCtrWords_high (c : Nat) (carry : Bool) (n : Nat) {i : Nat} (hi : i < 4) (x : Byte) :
    written (knabCtrWords c carry n) (knabCtr c + 8 + i) x = if carry then (leBytes 4 (n / 2 ^ 32)).getD i 0 else x := by
  have h4 : ¬ knabCtr c + 8 + i < knabCtr c + 4 := by omega
  cases carry <;> simp [knabCtrWords, written, hi, h4]

section
variable {s : State} (hidle : s.knb.commit = none) {c : Nat} (hc : c < 32)
include hidle hc

/-- After the words for a value that differs from the old one above 2^32 only where a carry is written, the counter has it. -/
theorem knabCtrVal_knabPuts_knabCtrWords {n : Nat} (hn : n < 2 ^ 64) :
    (s.knabPuts (knabCtrWords c (n / 2 ^ 32 != s.knabCtrVal c / 2 ^ 32) n)).knabCtrVal c = n := by
  generalize hcarry : (n / 2 ^ 32 != s.knabCtrVal c / 2 ^ 32) = carry
  have hread : ∀ b, knabCtr c ≤ b ∧ b < knabCtr c + 12 →
      (s.knabPuts (knabCtrWords c carry n)).knabByte b = written (knabCtrWords c carry n) b (s.knabByte b) := fun b hb =>
    knabByte_knabPuts hidle ((writesIn_knabCtrWords c carry n).mono fun _ => inStore_of_knabCtr hc) (inStore_of_knabCtr hc hb)
  have hlow : ((s.knabPuts (knabCtrWords c carry n)).knabWord (knabCtr c)).toNat = n % 2 ^ 32 := knabWord_toNat fun i hi => by
    rw [hread _ (by omega), written_knabCtrWords_low _ _ _ hi]
  have hval : s.knabCtrVal c / 2 ^ 32 = (s.knabWord (knabCtr c + 8)).toNat := by
    have := (s.knabWord (knabCtr c)).isLt
    unfold State.knabCtrVal
    omega
  have hhigh : ((s.knabPuts (knabCtrWords c carry n)).knabWord (knabCtr c + 8)).toNat = n / 2 ^ 32 := by
    cases carry with
    | false =>
      have hsame : (s.knabPuts (knabCtrWords c false n)).knabBytes (knabCtr c + 8) 4 = s.knabBytes (knabCtr c + 8) 4 :=
        knabBytes_congr fun i hi => by rw [hread _ (by omega), written_knabCtrWords_high _ _ _ hi]; rfl
      rw [State.knabWord, hsame, ← State.knabWord, ← hval]
      exact (show n / 2 ^ 32 = s.knabCtrVal c / 2 ^ 32 by simpa using hcarry).symm
    | true =>
      have hword := knabWord_toNat (s := s.knabPuts (knabCtrWords c true n)) (a := knabCtr c + 8) (n := n / 2 ^ 32) fun i hi => by
        rw [hread _ (by omega), written_knabCtrWords_high _ _ _ hi]; rfl
      omega
  rw [State.knabCtrVal, hlow, hhigh]
  omega

variable (hinc : s.knb.stalledInc = [])
include hinc

omit hc in
/-- With no transaction in progress and no increment waiting, an increment is its word writes. -/
theorem knabCtrAdd_idle (k : Nat) :
    s.knabCtrAdd c k = s.knabPuts (knabCtrWords c (min (2 ^ 64 - 1) (s.knabCtrVal c + k) / 2 ^ 32 != s.knabCtrVal c / 2 ^ 32)
      (min (2 ^ 64 - 1) (s.knabCtrVal c + k))) := by
  simp [State.knabCtrAdd, State.knabTarget, hidle, hinc]

theorem knabCtrVal_knabCtrAdd (k : Nat) : (s.knabCtrAdd c k).knabCtrVal c = min (2 ^ 64 - 1) (s.knabCtrVal c + k) := by
  rw [knabCtrAdd_idle hidle hinc]
  exact knabCtrVal_knabPuts_knabCtrWords hidle hc (by omega)

theorem knabByte_knabCtrAdd_of_apart (k : Nat) {a : Nat} (ha : InStore a) (hap : ¬(knabCtr c ≤ a ∧ a < knabCtr c + 12)) :
    (s.knabCtrAdd c k).knabByte a = s.knabByte a := by
  have hin := writesIn_knabCtrWords c (min (2 ^ 64 - 1) (s.knabCtrVal c + k) / 2 ^ 32 != s.knabCtrVal c / 2 ^ 32)
    (min (2 ^ 64 - 1) (s.knabCtrVal c + k))
  rw [knabCtrAdd_idle hidle hinc, knabByte_knabPuts hidle (hin.mono fun _ => inStore_of_knabCtr hc) ha, written_of_writesIn hin hap]

theorem byte_knabCtrAdd_off (k : Nat) {a : Nat} (ha : a < knabPage 0 ∨ knabPage 1040 ≤ a) : (s.knabCtrAdd c k).byte a = s.byte a := by
  rw [knabCtrAdd_idle hidle hinc]
  exact byte_knabPuts_off ((writesIn_knabCtrWords c _ _).mono fun _ => inStore_of_knabCtr hc) ha

omit hc in
theorem storeFrame_knabCtrAdd (k : Nat) : StoreFrame s (s.knabCtrAdd c k) := by
  rw [knabCtrAdd_idle hidle hinc]
  exact storeFrame_knabPuts s _

omit hc in
theorem reg_knabCtrAdd (k r : Nat) : (s.knabCtrAdd c k).reg r = s.reg r := by
  rw [knabCtrAdd_idle hidle hinc, reg_knabPuts]

end

/-- Nobody waits for a transaction where none is in progress. -/
theorem knabSettle_idle {s : State} (hidle : s.knb.commit = none) : s.knabSettle = s := by
  simp [State.knabSettle, State.knabFinish, hidle]

/-! ### A transaction of the runtime's log pages (R502) -/

theorem inJournal_iff (a : Nat) :
    inJournal a = true ↔ (knabPage 60 ≤ a ∧ a < knabPage 63) ∨ (knabPage 64 ≤ a ∧ a < knabPage 128) := by
  simp [inJournal, inPages]

theorem writesIn_knabStep2 {pages : List (Nat × List Byte)} (hlen : pages.length ≤ 64) :
    WritesIn (fun a => inJournal a = true) (knabStep2 pages) :=
  writesIn_flatMap fun j hj => writesIn_pageWords _ fun a h1 h2 => by
    have := List.mem_range.mp hj
    rw [inJournal_iff]
    unfold knabPage at *
    omega

theorem writesIn_knabStep3 (seq : Word) (pages : List (Nat × List Byte)) :
    WritesIn (fun a => inJournal a = true) (knabStep3 seq pages) := by
  have hjournal : ∀ a, knabPage 60 ≤ a → a < knabPage 63 → inJournal a = true := fun a h1 h2 => (inJournal_iff a).mpr (.inl ⟨h1, h2⟩)
  refine ((writesIn_pageWords _ fun a h1 h2 => ?_).append (writesIn_pageWords _ fun a h1 h2 => ?_)).append fun w hw a h1 h2 => ?_
  · exact hjournal a (by unfold knabPage at *; omega) (by unfold knabPage at *; omega)
  · exact hjournal a (by unfold knabPage at *; omega) (by unfold knabPage at *; omega)
  · simp only [List.mem_cons, List.not_mem_nil, or_false] at hw
    rcases hw with rfl | rfl | rfl <;> simp only [leBytes_length] at h1 h2 <;>
      exact hjournal a (by omega) (by unfold knabPage at *; omega)

theorem writesIn_knabStep5 {pages : List (Nat × List Byte)} (hpages : ∀ p ∈ pages, p.1 < 1024) :
    WritesIn InStore (knabStep5 pages) :=
  writesIn_flatMap fun p hp => writesIn_pageWords _ fun a h1 h2 => by
    have := hpages p hp
    unfold InStore knabPage at *
    omega

theorem inStore_of_inJournal {a : Nat} (h : inJournal a = true) : InStore a := by
  rw [inJournal_iff] at h
  unfold InStore knabPage at *
  omega

/-- The word writes of a transaction, MARKER's end among them. -/
def knabStepsWords (seq : Word) (pages : List (Nat × List Byte)) : List (Nat × List Byte) :=
  knabStep2 pages ++ knabStep3 seq pages ++ knabStep5 pages ++ [(knabPage 60, [0, 0, 0, 0])]

/-- A transaction on pages 5 to 255 is its word writes and the next sequence number. -/
theorem knabSteps_eq {s : State} {pages : List (Nat × List Byte)} (hpages : ∀ p ∈ pages, 4 < p.1 ∧ p.1 < 256) :
    ∃ x, s.knabSteps pages = (s.knabPuts (knabStepsWords (s.reg Reg.knbJseq) pages)).setReg Reg.knbJseq x := by
  have hheader : pages.any (fun p => p.1 == 0) = false := by
    simp only [List.any_eq_false, beq_iff_eq]
    exact fun p hp => by have := hpages p hp; omega
  have hruntime : pages.any (fun p => (1 ≤ p.1 && p.1 ≤ 4) || (256 ≤ p.1 && p.1 < 1024)) = false := by
    simp only [List.any_eq_false, Bool.or_eq_true, Bool.and_eq_true, decide_eq_true_eq]
    exact fun p hp => by have := hpages p hp; omega
  simp only [State.knabSteps, hheader, hruntime, knabStepsWords, knabPuts_append, knabPuts_singleton, Bool.false_eq_true, if_false]
  exact ⟨_, rfl⟩

theorem writesIn_knabStepsWords (seq : Word) {pages : List (Nat × List Byte)} (hlen : pages.length ≤ 64)
    (hpages : ∀ p ∈ pages, p.1 < 1024) : WritesIn InStore (knabStepsWords seq pages) := by
  refine ((((writesIn_knabStep2 hlen).mono fun _ => inStore_of_inJournal).append
    ((writesIn_knabStep3 seq pages).mono fun _ => inStore_of_inJournal)).append (writesIn_knabStep5 hpages)).append fun w hw a h1 h2 => ?_
  obtain rfl := List.mem_singleton.mp hw
  simp only [List.length_cons, List.length_nil] at h2
  unfold InStore knabPage at *
  omega

/-- Outside the journal a transaction leaves its targets' new contents alone. -/
theorem written_knabStepsWords (seq : Word) {pages : List (Nat × List Byte)} (hlen : pages.length ≤ 64) {a : Nat}
    (ha : inJournal a = false) (x : Byte) : written (knabStepsWords seq pages) a x = written (knabStep5 pages) a x := by
  have hnot : ¬ inJournal a = true := by simp [ha]
  have hmarker : WritesIn (fun a => inJournal a = true) [(knabPage 60, [0, 0, 0, 0])] := fun w hw b h1 h2 => by
    obtain rfl := List.mem_singleton.mp hw
    simp only [List.length_cons, List.length_nil] at h2
    rw [inJournal_iff]
    unfold knabPage at *
    omega
  rw [knabStepsWords, written_append, written_append, written_append, written_of_writesIn hmarker hnot,
    written_of_writesIn (writesIn_knabStep3 seq pages) hnot, written_of_writesIn (writesIn_knabStep2 hlen) hnot]

/-- What a transaction of the runtime changes: the targets take their contents, the journal and KNB_JSEQ move on, event 27 fires. -/
structure Transacted (s u : State) (pages : List (Nat × List Byte)) : Prop where
  frame : StoreFrame s u
  regs : ∀ r, r ∉ latchRegs → r ≠ Reg.knbJseq → u.reg r = s.reg r
  fired : Fired s u [27]
  off : ∀ x, x < knabPage 0 ∨ knabPage 1040 ≤ x → u.byte x = s.byte x
  store : ∀ x, InStore x → inJournal x = false → u.knabByte x = written (knabStep5 pages) x (s.knabByte x)

theorem knabTransact_transacted {s : State} {pages : List (Nat × List Byte)} (hidle : s.knb.commit = none) (hne : pages ≠ [])
    (hlen : pages.length ≤ 64) (hpages : ∀ p ∈ pages, 4 < p.1 ∧ p.1 < 256) : Transacted s (s.knabTransact pages) pages := by
  obtain ⟨seq, hsteps⟩ := knabSteps_eq (s := s) hpages
  have hu : s.knabTransact pages = (s.knabSteps pages).fire 27 := by
    simp [State.knabTransact, hne, knabSettle_idle hidle, State.knabDone]
  have hin := writesIn_knabStepsWords (s.reg Reg.knbJseq) hlen fun p hp => (hpages p hp).2.trans (by decide)
  have hoff := fun x => byte_knabPuts_off (s := s) hin (b := x)
  have hstore := fun x => knabByte_knabPuts hidle hin (b := x)
  have hframe := storeFrame_knabPuts s (knabStepsWords (s.reg Reg.knbJseq) pages)
  have hreg := reg_knabPuts s (knabStepsWords (s.reg Reg.knbJseq) pages)
  rw [hsteps] at hu
  generalize s.knabPuts (knabStepsWords (s.reg Reg.knbJseq) pages) = v at hu hoff hstore hframe hreg
  have hframe' : StoreFrame s (v.setReg Reg.knbJseq seq) := hframe.trans (storeFrame_setReg _ _ _)
  have hreg' : ∀ r, r ≠ Reg.knbJseq → (v.setReg Reg.knbJseq seq).reg r = s.reg r := fun r hr => by
    rw [State.reg_setReg_ne _ _ _ _ hr, hreg]
  have hbyte : ∀ x, (s.knabTransact pages).byte x = v.byte x := State.byte_congr (by rw [hu, State.fire_mem, State.setReg_mem])
  refine { frame := ?_, regs := fun r hl hr => ?_, fired := ?_, off := fun x hx => by rw [hbyte, hoff x hx], store := fun x hx hj => ?_ }
  · rw [hu]
    exact hframe'.trans (storeFrame_fire _ 27)
  · rw [hu, State.reg_fire _ _ _ hl, hreg' r hr]
  · rw [hu]
    exact ((Fired.refl s).congr hframe'.variant fun r hr => hreg' r fun e => absurd (e ▸ hr) (by decide)).fire 27 (by decide)
  · rw [← written_knabStepsWords (s.reg Reg.knbJseq) hlen hj, ← hstore x hx]
    exact knabByte_congr (by rw [hu, State.fire_knb, State.setReg_knb]) (fun y _ => hbyte y) hx.1

end Sys2Proof.Machine
end

section
/-! PROOFS. An entry offered to a ring that does not hold its producer (R455, R458, R459). -/

namespace Sys2Proof.Machine

/-! ### What the words of a ring are read from -/

/-- The registers that say where ring n stands and what it takes hold in u what they hold in s. -/
def SameRing (s u : State) (n : Nat) : Prop :=
  u.reg (Reg.rngBase n) = s.reg (Reg.rngBase n) ∧ u.reg (Reg.rngCfg n) = s.reg (Reg.rngCfg n) ∧
    u.reg (Reg.rngHead n) = s.reg (Reg.rngHead n) ∧ u.reg (Reg.rngTail n) = s.reg (Reg.rngTail n)

theorem inRing_iff (s : State) (n a : Nat) :
    s.inRing n a = true ↔ (s.reg (Reg.rngBase n)).toNat ≤ a ∧ a < (s.reg (Reg.rngBase n)).toNat + 2 ^ s.ringDepth n * s.ringEsize n := by
  simp [State.inRing]

/-- The place of the next entry does not depend on TAIL. -/
theorem entryAddr_congr {s u : State} {n : Nat} (hbase : u.reg (Reg.rngBase n) = s.reg (Reg.rngBase n))
    (hcfg : u.reg (Reg.rngCfg n) = s.reg (Reg.rngCfg n)) (hhead : u.reg (Reg.rngHead n) = s.reg (Reg.rngHead n)) :
    u.ringAddr n (u.ringHead n) = s.ringAddr n (s.ringHead n) := by
  simp only [State.ringAddr, State.ringHead, State.ringDepth, State.ringEsize, State.rf, hbase, hcfg, hhead]

section
variable {s u : State} {n : Nat} (h : SameRing s u n)
include h

theorem SameRing.inRing (a : Nat) : u.inRing n a = s.inRing n a := by
  obtain ⟨hbase, hcfg, -, -⟩ := h
  rw [Bool.eq_iff_iff, inRing_iff, inRing_iff]
  simp only [State.ringDepth, State.ringEsize, State.rf, hbase, hcfg]

theorem SameRing.entryAddr : u.ringAddr n (u.ringHead n) = s.ringAddr n (s.ringHead n) := by
  obtain ⟨hbase, hcfg, hhead, -⟩ := h
  exact entryAddr_congr hbase hcfg hhead

theorem SameRing.takes (k : Nat) : u.ringTakes n k = s.ringTakes n k := by
  obtain ⟨-, hcfg, hhead, htail⟩ := h
  simp only [State.ringTakes, State.ringOn, State.ringEsize, State.ringFull, State.ringCount, State.ringHead, State.ringTail,
    State.ringDepth, State.rb, State.rf, hcfg, hhead, htail]

end

/-- Ring n, where it is on, has entries of k bytes and does not hold its producer. -/
def RingReady (s : State) (n k : Nat) : Prop := s.ringFits n k ∧ (s.ringOn n = true → s.rf (Reg.rngCfg n) 6 2 ≠ 2)

theorem SameRing.ready {s u : State} {n k : Nat} (h : SameRing s u n) (hready : RingReady s n k) : RingReady u n k := by
  obtain ⟨-, hcfg, -, -⟩ := h
  simpa only [RingReady, State.ringFits, State.ringOn, State.ringEsize, State.rb, State.rf, hcfg] using hready

/-! ### The offer -/

/-- A ring that is ready takes the entry at HEAD, over the oldest one where it is full and overwrites, or drops and counts it. -/
theorem ringOffer_cases {s : State} {n : Nat} {e : List Byte} (hready : RingReady s n e.length) :
    (s.ringTakes n e.length = false ∧ s.ringOffer n e = s.ringDropped n) ∨
      (s.ringEsize n = e.length ∧ s.ringOffer n e = s.ringPush n e) ∨
      s.ringEsize n = e.length ∧ s.ringOffer n e = ((s.setRf (Reg.rngTail n) 0 16 (s.ringTail n + 1)).ringPush n e).ringDropped n := by
  obtain ⟨hfits, hpolicy⟩ := hready
  unfold State.ringOffer State.ringTakes
  by_cases hon : s.ringOn n = true
  · have hsize : s.ringEsize n = e.length := hfits hon
    by_cases hfull : s.ringFull n = true
    · have hne := hpolicy hon
      simp only [hon, hsize, hfull, Bool.not_true, Bool.false_eq_true, if_false, bne_self_eq_false, beq_self_eq_true, Bool.true_and,
        Bool.false_or]
      split
      next => exact .inr (.inr ⟨trivial, rfl⟩)
      next h2 => exact absurd h2 hne
      next h1 _ => exact .inl ⟨by simpa using h1, rfl⟩
    · simp [hon, hsize, hfull]
  · simp [hon]

/-- What an entry offered to a ring that is ready changes: the ring's registers and storage; a ring that takes it has it at HEAD. -/
structure RingOffered (s u : State) (n : Nat) (e : List Byte) : Prop where
  frame : StoreFrame s u
  regs : ∀ r, r ∉ ringRegs n → u.reg r = s.reg r
  mem : ∀ a, s.inRing n a = false → u.byte a = s.byte a
  entry : s.ringTakes n e.length = true → u.bytes (s.ringAddr n (s.ringHead n)) e.length = e

theorem reg_ringDropped (s : State) {n r : Nat} (h : r ∉ ringRegs n) : (s.ringDropped n).reg r = s.reg r := by
  simp only [ringRegs, List.mem_cons, List.not_mem_nil, or_false, not_or] at h
  obtain ⟨-, -, hdrop, hdropf⟩ := h
  rw [State.ringDropped, State.reg_setRb_ne _ _ _ _ _ hdropf, State.reg_incSat, if_neg hdrop]

theorem reg_ringPush (s : State) (e : List Byte) {n r : Nat} (h : r ∉ ringRegs n) : (s.ringPush n e).reg r = s.reg r := by
  simp only [ringRegs, List.mem_cons, List.not_mem_nil, or_false, not_or] at h
  obtain ⟨hhead, -, -, -⟩ := h
  rw [State.ringPush, State.reg_setRf_ne _ _ _ _ _ _ hhead, State.reg_congr (State.setBytes_regs s _ _)]

/-- The storage of an entry is storage of its ring (R456). -/
theorem inRing_of_entry {s : State} {n i a : Nat} (h1 : s.ringAddr n i ≤ a) (h2 : a < s.ringAddr n i + s.ringEsize n) :
    s.inRing n a = true := by
  have hindex : i % 2 ^ s.ringDepth n + 1 ≤ 2 ^ s.ringDepth n := Nat.mod_lt _ (Nat.two_pow_pos _)
  have hsize := Nat.mul_le_mul_right (s.ringEsize n) hindex
  rw [Nat.add_mul, Nat.one_mul] at hsize
  rw [inRing_iff]
  unfold State.ringAddr at h1 h2
  omega

theorem ringPush_offered {s v : State} {n : Nat} {e : List Byte} (hsize : s.ringEsize n = e.length) (hv : StoreFrame s v)
    (hvregs : ∀ r, r ∉ ringRegs n → v.reg r = s.reg r) (hvmem : v.mem = s.mem)
    (haddr : v.ringAddr n (v.ringHead n) = s.ringAddr n (s.ringHead n)) : RingOffered s (v.ringPush n e) n e where
  frame := hv.trans (StoreFrame.trans (storeFrame_setBytes v (v.ringAddr n (v.ringHead n)) e) rfl)
  regs r hr := (reg_ringPush v e hr).trans (hvregs r hr)
  mem a ha := by
    have hout : ¬(s.ringAddr n (s.ringHead n) ≤ a ∧ a < s.ringAddr n (s.ringHead n) + e.length) := fun hin => by
      simp [inRing_of_entry (s := s) (n := n) hin.1 (hsize ▸ hin.2)] at ha
    exact (State.byte_setBytes v _ a e).trans ((if_neg (haddr ▸ hout)).trans (State.byte_congr hvmem a))
  entry _ := haddr ▸ State.bytes_setBytes_same v (v.ringAddr n (v.ringHead n)) e

theorem RingOffered.drop {s u : State} {n : Nat} {e : List Byte} (h : RingOffered s u n e) : RingOffered s (u.ringDropped n) n e where
  frame := h.frame.trans rfl
  regs r hr := (reg_ringDropped u hr).trans (h.regs r hr)
  mem := h.mem
  entry := h.entry

theorem ringOffer_offered {s : State} {n : Nat} {e : List Byte} (hready : RingReady s n e.length) :
    RingOffered s (s.ringOffer n e) n e := by
  rcases ringOffer_cases hready with ⟨hdrop, hu⟩ | ⟨hsize, hu⟩ | ⟨hsize, hu⟩ <;> rw [hu]
  · exact { frame := rfl, regs := fun r hr => reg_ringDropped s hr, mem := fun _ _ => rfl,
            entry := fun htakes => absurd (hdrop.symm.trans htakes) Bool.false_ne_true }
  · exact ringPush_offered hsize (.refl s) (fun _ _ => rfl) rfl rfl
  · have htail : ∀ r, r ≠ Reg.rngTail n → (s.setRf (Reg.rngTail n) 0 16 (s.ringTail n + 1)).reg r = s.reg r := fun r hr =>
      State.reg_setRf_ne _ _ _ _ _ _ hr
    have hne : Reg.rngBase n ≠ Reg.rngTail n ∧ Reg.rngCfg n ≠ Reg.rngTail n ∧ Reg.rngHead n ≠ Reg.rngTail n := by
      unfold Reg.rngBase Reg.rngCfg Reg.rngHead Reg.rngTail
      omega
    obtain ⟨hbase, hcfg, hhead⟩ := hne
    refine RingOffered.drop (ringPush_offered hsize rfl (fun r hr => htail r fun e => hr (by simp [ringRegs, e])) rfl ?_)
    exact entryAddr_congr (htail _ hbase) (htail _ hcfg) (htail _ hhead)

end Sys2Proof.Machine
end

section
/-! PROOFS. FAULT_LOG_WRITE: the entry at its slot, its counter, and the copies in the rings (R515, R614, R617, R618). -/

namespace Sys2Proof.Machine

/-! ### The entry in the store -/

/-- Entry bytes b written at a, with one increment of counter c: by one journal transaction, or directly (R515). -/
def State.logStore (s : State) (a c : Nat) (b : List Byte) : State :=
  if s.knabJournal then s.knabTransact [s.pagePatch a b, (12, (s.knabCtrAdd c 1).knabBytes (knabPage 12) 64)]
  else (s.knabDirect a b).knabCtrAdd c 1

/-- What the write of 16 bytes b at a with an increment of counter c changes. -/
structure LogStored (s u : State) (a c : Nat) (b : List Byte) : Prop where
  frame : StoreFrame s u
  regs : ∀ r, r ∉ latchRegs → r ∉ (if s.knabJournal then [Reg.knbJseq] else []) → u.reg r = s.reg r
  fired : Fired s u (if s.knabJournal then [27] else [])
  off : ∀ x, x < knabPage 0 ∨ knabPage 1040 ≤ x → u.byte x = s.byte x
  count : u.knabCtrVal c = min (2 ^ 64 - 1) (s.knabCtrVal c + 1)
  store : ∀ x, InStore x → ¬(knabCtr c ≤ x ∧ x < knabCtr c + 12) → (s.knabJournal && inJournal x) = false →
    u.knabByte x = if a ≤ x ∧ x < a + 16 then b.getD (x - a) 0 else s.knabByte x

section
variable {s : State} {a c : Nat} {b : List Byte}

/-- Slots of the two logs, and the counters that name the next one (R515). -/
structure LogSlot (a c : Nat) : Prop where
  lo : 0x50002000 ≤ a
  hi : a + 16 ≤ 0x50004000
  aligned : a % 16 = 0
  counter : c = 18 ∨ c = 19

theorem logSlot_logAddr (e : LogRec) (k : Nat) : LogSlot (logAddr e k) (if e.isEvent then 19 else 18) := by
  unfold logAddr
  constructor <;> split <;> omega

variable (hslot : LogSlot a c)
include hslot

theorem LogSlot.page12 : knabPage 12 ≤ knabCtr c ∧ knabCtr c + 12 ≤ knabPage 13 := by
  have hc := hslot.counter
  unfold knabPage knabCtr
  omega

theorem LogSlot.inStore {x : Nat} (h1 : a ≤ x) (h2 : x < a + 16) : InStore x := by
  obtain ⟨hlo, hhi, -, -⟩ := hslot
  unfold InStore knabPage
  omega

theorem LogSlot.outside {x : Nat} (h1 : a ≤ x) (h2 : x < a + 16) :
    ¬(knabCtr c ≤ x ∧ x < knabCtr c + 12) ∧ inJournal x = false := by
  obtain ⟨hlo, hhi, -, hc⟩ := hslot
  have hjournal : ¬ inJournal x = true := by rw [inJournal_iff]; unfold knabPage; omega
  exact ⟨by unfold knabCtr; omega, by simpa using hjournal⟩

/-- The slot lies in one page, one of 128 to 255. -/
theorem LogSlot.page : knabPage ((a - 0x50000000) / 64) = a / 64 * 64 ∧ a % 64 + 16 ≤ 64 ∧ 128 ≤ (a - 0x50000000) / 64 ∧
    (a - 0x50000000) / 64 < 256 := by
  obtain ⟨hlo, hhi, hal, -⟩ := hslot
  unfold knabPage
  omega

variable (hidle : s.knb.commit = none) (hinc : s.knb.stalledInc = []) (hlen : b.length = 16)
include hidle hinc hlen

theorem logStored_direct (hmode : s.knabJournal = false) : LogStored s (s.logStore a c b) a c b := by
  have hc : c < 32 := by have := hslot.counter; omega
  have hdirect : s.logStore a c b = (s.knabPut a b).knabCtrAdd c 1 := by
    simp [State.logStore, hmode, State.knabDirect, State.knabTarget, hidle]
  have hput : StoreFrame s (s.knabPut a b) := storeFrame_knabPut s a b
  have hidle' : (s.knabPut a b).knb.commit = none := by rw [hput.knb, hidle]
  have hinc' : (s.knabPut a b).knb.stalledInc = [] := by rw [hput.knb, hinc]
  have hin : ∀ x, a ≤ x → x < a + b.length → InStore x := fun x h1 h2 => hslot.inStore h1 (hlen ▸ h2)
  have hbyte : ∀ x, InStore x → (s.knabPut a b).knabByte x = if a ≤ x ∧ x < a + 16 then b.getD (x - a) 0 else s.knabByte x :=
    fun x hx => by rw [knabByte_knabPut hidle hin hx, hlen]
  have hreg : ∀ r, (s.logStore a c b).reg r = s.reg r := fun r => by
    rw [hdirect, reg_knabCtrAdd hidle' hinc', reg_knabPut]
  refine { frame := ?_, regs := fun r _ _ => hreg r, fired := ?_, off := fun x hx => ?_, count := ?_, store := fun x hx hctr _ => ?_ }
  · rw [hdirect]
    exact hput.trans (storeFrame_knabCtrAdd hidle' hinc' 1)
  · rw [hmode]
    exact (Fired.refl s).congr (by rw [hdirect, (hput.trans (storeFrame_knabCtrAdd hidle' hinc' 1)).variant]) fun r _ => hreg r
  · rw [hdirect, byte_knabCtrAdd_off hidle' hc hinc' 1 hx, byte_knabPut_off hin hx]
  · have hold : (s.knabPut a b).knabCtrVal c = s.knabCtrVal c := knabCtrVal_congr fun i hi => by
      have hout : ¬(a ≤ knabCtr c + i ∧ knabCtr c + i < a + 16) := fun h =>
        (hslot.outside h.1 h.2).1 ⟨by omega, by omega⟩
      rw [hbyte _ (inStore_of_knabCtr hc ⟨by omega, by omega⟩), if_neg hout]
    rw [hdirect, knabCtrVal_knabCtrAdd hidle' hc hinc', hold]
  · rw [hdirect, knabByte_knabCtrAdd_of_apart hidle' hc hinc' 1 hx hctr, hbyte x hx]

omit hidle hinc in
/-- What the transaction on the entry's page and on the counter's page makes of a byte outside the journal. -/
theorem written_logPages {counted : State} {x : Nat} :
    written (knabStep5 [s.pagePatch a b, (12, counted.knabBytes (knabPage 12) 64)]) x (s.knabByte x) =
      if knabPage 12 ≤ x ∧ x < knabPage 13 then counted.knabByte x
      else if a ≤ x ∧ x < a + 16 then b.getD (x - a) 0 else s.knabByte x := by
  obtain ⟨hpage, hoff, -, -⟩ := hslot.page
  have h13 : knabPage 13 = knabPage 12 + 64 := rfl
  have hsteps : knabStep5 [s.pagePatch a b, (12, counted.knabBytes (knabPage 12) 64)] =
      pageWords ((a - 0x50000000) / 64) (putBytes (s.knabBytes (a / 64 * 64) 64) (a % 64) b) ++
        pageWords 12 (counted.knabBytes (knabPage 12) 64) := by
    simp [knabStep5, State.pagePatch]
  rw [hsteps, written_append, written_pageWords, written_pageWords, hpage, h13]
  by_cases h12 : knabPage 12 ≤ x ∧ x < knabPage 12 + 64
  · rw [if_pos h12, if_pos h12, getD_knabBytes _ _ (by omega), Nat.add_sub_cancel' h12.1]
  · rw [if_neg h12, if_neg h12]
    by_cases hx : a / 64 * 64 ≤ x ∧ x < a / 64 * 64 + 64
    · rw [if_pos hx, getD_putBytes (by simp [State.knabBytes]; omega), getD_knabBytes _ _ (by omega), Nat.add_sub_cancel' hx.1, hlen]
      exact if_congr (by omega) (congrArg (b.getD · 0) (by omega)) rfl
    · rw [if_neg hx, if_neg (by omega)]

theorem logStored_journal (hmode : s.knabJournal = true) : LogStored s (s.logStore a c b) a c b := by
  have hc : c < 32 := by have := hslot.counter; omega
  obtain ⟨-, -, hp1, hp2⟩ := hslot.page
  obtain ⟨hctr1, hctr2⟩ := hslot.page12
  have hbounds : ∀ p ∈ [s.pagePatch a b, (12, (s.knabCtrAdd c 1).knabBytes (knabPage 12) 64)], 4 < p.1 ∧ p.1 < 256 := by
    simp only [List.mem_cons, List.not_mem_nil, or_false, forall_eq_or_imp, forall_eq, State.pagePatch]
    omega
  have htrans := knabTransact_transacted hidle (List.cons_ne_nil _ _) (by simp) hbounds
  have hu : s.logStore a c b = s.knabTransact [s.pagePatch a b, (12, (s.knabCtrAdd c 1).knabBytes (knabPage 12) 64)] := if_pos hmode
  rw [← hu] at htrans
  refine { frame := htrans.frame, regs := fun r hl hr => htrans.regs r hl (by simpa [hmode] using hr), fired := by rw [hmode]; exact htrans.fired,
           off := htrans.off, count := ?_, store := fun x hx hctr hj => ?_ }
  · rw [← knabCtrVal_knabCtrAdd hidle hc hinc]
    refine knabCtrVal_congr fun i hi => ?_
    have hj : ¬ inJournal (knabCtr c + i) = true := by rw [inJournal_iff]; unfold knabPage at *; omega
    rw [htrans.store _ (inStore_of_knabCtr hc ⟨by omega, by omega⟩) (by simpa using hj), written_logPages hslot hlen,
      if_pos ⟨by omega, by omega⟩]
  · rw [htrans.store x hx (by simpa [hmode] using hj), written_logPages hslot hlen]
    split
    next h12 =>
      have hout : ¬(a ≤ x ∧ x < a + 16) := fun h => by
        have := hslot.lo
        unfold knabPage at h12
        omega
      rw [if_neg hout, knabByte_knabCtrAdd_of_apart hidle hc hinc 1 hx hctr]
    next => rfl

/-- The entry is written to its slot, and its counter takes one increment, in journal mode and in scan mode. -/
theorem logStore_stored : LogStored s (s.logStore a c b) a c b := by
  cases hmode : s.knabJournal with
  | false => exact logStored_direct hslot hidle hinc hlen hmode
  | true => exact logStored_journal hslot hidle hinc hlen hmode

end

/-! ### The copies in the rings (R617) -/

/-- Copies of entry bytes b are offered to ring 2 or 3 and, from severity 2 on, to ring 18. -/
def State.logCopies (s : State) (e : LogRec) (b : List Byte) : State :=
  let s := s.ringOffer (if e.isEvent then 3 else 2) b
  if !e.isEvent && e.flags / 64 ≥ 2 then s.ringOffer 18 b else s

/-- What the copies of an entry change. -/
structure LogCopied (s u : State) (e : LogRec) (b : List Byte) : Prop where
  frame : StoreFrame s u
  regs : ∀ r, r ∉ ringRegs 2 ++ ringRegs 3 ++ ringRegs 18 → u.reg r = s.reg r
  mem : ∀ a, (∀ r ∈ [2, 3, 18], s.inRing r a = false) → u.byte a = s.byte a
  copy : s.ringTakes (if e.isEvent then 3 else 2) 16 = true → e.isEvent = true ∨ e.flags < 128 →
    u.bytes (s.ringAddr (if e.isEvent then 3 else 2) (s.ringHead (if e.isEvent then 3 else 2))) 16 = b
  copy18 : e.isEvent = false → 128 ≤ e.flags → s.ringTakes 18 16 = true → u.bytes (s.ringAddr 18 (s.ringHead 18)) 16 = b

theorem sameRing_of_regs {s u : State} {n k : Nat} (hne : n ≠ k) (h : ∀ r, r ∉ ringRegs k → u.reg r = s.reg r) : SameRing s u n := by
  refine ⟨h _ ?_, h _ ?_, h _ ?_, h _ ?_⟩ <;>
    simp only [ringRegs, Reg.rngBase, Reg.rngCfg, Reg.rngHead, Reg.rngTail, Reg.rngDrop, Reg.rngDropf, List.mem_cons, List.not_mem_nil,
      or_false, not_or] <;> omega

theorem logCopies_copied {s : State} {e : LogRec} {b : List Byte} (hready : ∀ r ∈ [2, 3, 18], RingReady s r 16) (hlen : b.length = 16) :
    LogCopied s (s.logCopies e b) e b := by
  generalize hring : (if e.isEvent = true then 3 else 2 : Nat) = n
  have hn : n = 2 ∨ n = 3 := by subst hring; split <;> simp
  have hmem : n ∈ [2, 3, 18] := by rcases hn with rfl | rfl <;> decide
  have hregs : ∀ r, r ∉ ringRegs 2 ++ ringRegs 3 ++ ringRegs 18 → r ∉ ringRegs n ∧ r ∉ ringRegs 18 := fun r hr => by
    simp only [List.mem_append, not_or] at hr
    rcases hn with rfl | rfl
    · exact ⟨hr.1.1, hr.2⟩
    · exact ⟨hr.1.2, hr.2⟩
  have hfirst : RingOffered s (s.ringOffer n b) n b := ringOffer_offered (hlen.symm ▸ hready n hmem)
  have hsame : SameRing s (s.ringOffer n b) 18 := sameRing_of_regs (by omega) hfirst.regs
  have hsecond : RingOffered (s.ringOffer n b) ((s.ringOffer n b).ringOffer 18 b) 18 b :=
    ringOffer_offered (hlen.symm ▸ hsame.ready (hready 18 (by decide)))
  have hu : s.logCopies e b = if !e.isEvent && e.flags / 64 ≥ 2 then (s.ringOffer n b).ringOffer 18 b else s.ringOffer n b := by
    subst hring
    rfl
  by_cases hsev : e.isEvent = false ∧ 128 ≤ e.flags
  · obtain ⟨hfault, hhigh⟩ := hsev
    rw [if_pos (by simp [hfault]; omega)] at hu
    rw [hu]
    refine { frame := hfirst.frame.trans hsecond.frame, regs := fun r hr => ?_, mem := fun a ha => ?_, copy := fun _ hlow => ?_,
             copy18 := fun _ _ htakes => ?_ }
    · exact (hsecond.regs r (hregs r hr).2).trans (hfirst.regs r (hregs r hr).1)
    · exact (hsecond.mem a (by rw [hsame.inRing]; exact ha 18 (by decide))).trans (hfirst.mem a (ha n hmem))
    · simp only [hfault, Bool.false_eq_true, false_or] at hlow
      omega
    · rw [← hsame.entryAddr]
      simpa only [hlen] using hsecond.entry (by rw [hlen, hsame.takes]; exact htakes)
  · have hlow : ¬((!e.isEvent && decide (e.flags / 64 ≥ 2)) = true) := fun h => hsev (by simp at h; exact ⟨h.1, by omega⟩)
    rw [if_neg hlow] at hu
    rw [hu]
    refine { frame := hfirst.frame, regs := fun r hr => hfirst.regs r (hregs r hr).1, mem := fun a ha => hfirst.mem a (ha n hmem),
             copy := fun htakes _ => ?_, copy18 := fun hfault hhigh => absurd ⟨hfault, hhigh⟩ hsev }
    rw [hring] at htakes ⊢
    simpa only [hlen] using hfirst.entry (by rw [hlen]; exact htakes)

/-! ### The command -/

section
variable {s : State}

theorem exec_faultLogWrite_none (ok : Bool) (h : s.logNext = none) : exec (.faultLogWrite ok) s = s.done := by
  show execFaultLogWrite ok s = _
  simp only [execFaultLogWrite, h]

theorem exec_faultLogWrite_some (ok : Bool) {e : LogRec} (h : s.logNext = some e) :
    exec (.faultLogWrite ok) s =
      if ok || !s.knabJournal then (({ s with log := { s.log with pending := s.log.pending.erase e } } : State).logWrite e).done
      else (({ s with log := { s.log with pending := s.log.pending.erase e, lost := true } } : State).fault 0x0E02 0).done := by
  show execFaultLogWrite ok s = _
  simp only [execFaultLogWrite, h]
  rfl

/-- No entry is next in reset, in chill, in a recall, with none waiting, and without the runtime unless the boot ROM writes one. -/
theorem logNext_eq_none (h : s.awake = false ∨ s.knabRecalling = true ∨ s.log.pending = [] ∨
    (s.runtimeRuns = false ∧ ∀ e ∈ s.log.pending, e.isEvent = true ∨ (e.code ≠ 0x0203 ∧ e.code ≠ 0x0201))) : s.logNext = none := by
  unfold State.logNext
  rcases h with h | h | h | ⟨hstop, hboot⟩
  · simp [h]
  · simp [h]
  · simp [h]
  · have hnone : s.log.pending.find? (fun e => !e.isEvent && (e.code == 0x0203 || e.code == 0x0201)) = none := by
      rw [List.find?_eq_none]
      intro e he
      rcases hboot e he with hevent | hcode
      · simp [hevent]
      · simp [hcode]
    simp [hstop, hnone]

theorem logNext_eq_head {e : LogRec} {rest : List LogRec} (hruns : s.runtimeRuns = true) (hrecall : s.knabRecalling = false)
    (hpending : s.log.pending = e :: rest) : s.logNext = some e := by
  have hawake : s.awake = true := by
    simp only [State.runtimeRuns, Bool.and_eq_true] at hruns
    exact hruns.1.1
  simp [State.logNext, hruns, hrecall, hawake, hpending]

/-- The bytes of entry e as it is written in s. -/
def State.logBytes (s : State) (e : LogRec) : List Byte := e.bytes s.od.heat (s.log.lost || (s.log.hlost && !e.isEvent))

theorem logBytes_length (e : LogRec) : (s.logBytes e).length = 16 := by simp [State.logBytes, LogRec.bytes]

/-- The counter of the log that entry e goes to (R515). -/
def LogRec.counter (e : LogRec) : Nat := if e.isEvent then 19 else 18

/-- The marks of lost entries after entry e is written (R618). -/
def State.logMarks (s : State) (e : LogRec) : State :=
  { s with log := { s.log with lost := false, hlost := s.log.hlost && e.isEvent } }

/-- The write of an entry: its slot and counter in the store, the marks of lost entries, the copies. -/
theorem logWrite_eq (hidle : s.knb.commit = none) (e : LogRec) :
    s.logWrite e =
      ((s.logStore (logAddr e (s.knabCtrVal e.counter)) e.counter (s.logBytes e)).logMarks e).logCopies e (s.logBytes e) := by
  rw [State.logWrite, knabSettle_idle hidle]
  rfl

/-- The registers of rings lie apart from the latches and from KNB. -/
theorem ringReg_apart {n r : Nat} (hn : n < 32) (hr : r = Reg.rngBase n ∨ r = Reg.rngCfg n ∨ r = Reg.rngHead n ∨ r = Reg.rngTail n) :
    r ∉ latchRegs ∧ r ≠ Reg.knbJseq := by
  unfold Reg.rngBase Reg.rngCfg Reg.rngHead Reg.rngTail at hr
  exact ⟨latch_notMem_of_le (by omega), by unfold Reg.knbJseq; omega⟩

/-- The store of an entry leaves the rings' registers alone. -/
theorem LogStored.sameRing {u : State} {a c : Nat} {b : List Byte} (h : LogStored s u a c b) {n : Nat} (hn : n < 32) : SameRing s u n := by
  have hreg : ∀ r, r = Reg.rngBase n ∨ r = Reg.rngCfg n ∨ r = Reg.rngHead n ∨ r = Reg.rngTail n → u.reg r = s.reg r := fun r hr => by
    obtain ⟨hlatch, hjseq⟩ := ringReg_apart hn hr
    refine h.regs r hlatch ?_
    split <;> simp [hjseq]
  exact ⟨hreg _ (by simp), hreg _ (by simp), hreg _ (by simp), hreg _ (by simp)⟩

theorem StoreFrame.logMarks {v w : State} {e : LogRec} (hsv : StoreFrame s v) (hvw : StoreFrame (v.logMarks e) w) :
    w = { s with regs := w.regs, mem := w.mem, log := (s.logMarks e).log, cen := cenNoted s w } := by
  unfold StoreFrame at *
  rw [hvw, hsv]
  rfl

/-- A ring below the store has no storage in it. -/
theorem inRing_eq_false_of_ringBelow {n x a : Nat} (h : s.ringBelow n x) (ha : x ≤ a) : s.inRing n a = false := by
  have hnot : ¬ s.inRing n a = true := by
    rw [inRing_iff]
    have : (s.reg (Reg.rngBase n)).toNat + 2 ^ s.ringDepth n * s.ringEsize n ≤ x := h
    omega
  simpa using hnot

variable {e : LogRec} (hidle : s.knb.commit = none) (hinc : s.knb.stalledInc = [])
  (hrings : ∀ r ∈ [2, 3, 18], RingReady s r 16 ∧ s.ringBelow r (knabPage 0))
include hidle hinc hrings

/-- What the command does that writes entry e: with s the state whose log holds the others. -/
theorem logWrite_settle (t : State) (ht : t = (s.logWrite e).settle) :
    let a := logAddr e (s.knabCtrVal e.counter)
    let n := if e.isEvent then 3 else 2
    t = { s with regs := t.regs, mem := t.mem, log := (s.logMarks e).log, cen := cenNoted s t } ∧
      t.knabBytes a 16 = s.logBytes e ∧ t.knabCtrVal e.counter = min (2 ^ 64 - 1) (s.knabCtrVal e.counter + 1) ∧
      (∀ x, x < knabPage 0 ∨ knabPage 1040 ≤ x → (∀ r ∈ [2, 3, 18], s.inRing r x = false) → t.byte x = s.byte x) ∧
      (∀ x, InStore x → ¬(a ≤ x ∧ x < a + 16) → ¬(knabCtr e.counter ≤ x ∧ x < knabCtr e.counter + 12) →
        (s.knabJournal && inJournal x) = false → t.knabByte x = s.knabByte x) ∧
      (s.ringTakes n 16 = true → e.isEvent = true ∨ e.flags < 128 → t.bytes (s.ringAddr n (s.ringHead n)) 16 = s.logBytes e) ∧
      (e.isEvent = false → 128 ≤ e.flags → s.ringTakes 18 16 = true → t.bytes (s.ringAddr 18 (s.ringHead 18)) 16 = s.logBytes e) ∧
      regsKept s t (ringRegs 2 ++ ringRegs 3 ++ ringRegs 18 ++ if s.knabJournal then [Reg.knbJseq] else []) ∧
      eventsFired s t (if s.knabJournal then [27] else []) := by
  intro a n
  have hlen := logBytes_length (s := s) e
  have hslot : LogSlot a e.counter := logSlot_logAddr e _
  have hst : LogStored s (s.logStore a e.counter (s.logBytes e)) a e.counter (s.logBytes e) := logStore_stored hslot hidle hinc hlen
  rw [logWrite_eq hidle] at ht
  change t = (((s.logStore a e.counter (s.logBytes e)).logMarks e).logCopies e (s.logBytes e)).settle at ht
  generalize s.logStore a e.counter (s.logBytes e) = v at hst ht
  have hsame : ∀ r ∈ [2, 3, 18], SameRing s (v.logMarks e) r := fun r hr =>
    hst.sameRing (by revert r; decide)
  have hcopied : LogCopied (v.logMarks e) ((v.logMarks e).logCopies e (s.logBytes e)) e (s.logBytes e) :=
    logCopies_copied (fun r hr => (hsame r hr).ready (hrings r hr).1) hlen
  generalize (v.logMarks e).logCopies e (s.logBytes e) = w at hcopied ht
  subst ht
  have hbyte : ∀ x, (∀ r ∈ [2, 3, 18], s.inRing r x = false) → w.settle.byte x = v.byte x := fun x hx =>
    (State.byte_congr (State.settle_mem w) x).trans (hcopied.mem x fun r hr => by rw [(hsame r hr).inRing, hx r hr])
  have hknab : ∀ x, knabPage 0 ≤ x → w.settle.knabByte x = v.knabByte x := fun x hx =>
    knabByte_congr ((State.settle_knb w).trans hcopied.frame.knb)
      (fun y hy => hbyte y fun r hr => inRing_eq_false_of_ringBelow (hrings r hr).2 hy) hx
  have hbytes : ∀ x k, w.settle.bytes x k = w.bytes x k := fun x k =>
    List.map_congr_left fun i _ => State.byte_congr (State.settle_mem w) _
  have hn : n ∈ [2, 3, 18] := by unfold n; split <;> decide
  have hslotIn : ∀ i < 16, InStore (a + i) := fun i hi => hslot.inStore (by omega) (by omega)
  have hframe := State.settle_eq_of_frame (hst.frame.logMarks hcopied.frame)
  rw [← State.settle_mem w] at hframe
  refine ⟨hframe, ?_, ?_, fun x hx hring => ?_, fun x hx hentry hctr hj => ?_,
    fun htakes hlow => ?_, fun hfault hhigh htakes => ?_, regsKept_settle fun r hr hl => ?_, ?_⟩
  · rw [← hlen]
    refine knabBytes_eq fun i hi => ?_
    have hi16 : i < 16 := hlen ▸ hi
    obtain ⟨hctr, hj⟩ := hslot.outside (x := a + i) (by omega) (by omega)
    rw [hknab _ (hslotIn i hi16).1, hst.store _ (hslotIn i hi16) hctr (by rw [hj, Bool.and_false]), if_pos (by omega), Nat.add_sub_cancel_left]
  · rw [← hst.count]
    exact knabCtrVal_congr fun i hi => hknab _ (by have := hslot.page12; unfold knabPage at *; omega)
  · rw [hbyte x hring, hst.off x hx]
  · rw [hknab x hx.1, hst.store x hx hctr hj, if_neg hentry]
  · rw [hbytes, ← (hsame n hn).entryAddr]
    exact hcopied.copy ((hsame n hn).takes 16 ▸ htakes) hlow
  · rw [hbytes, ← (hsame 18 (by decide)).entryAddr]
    exact hcopied.copy18 hfault hhigh ((hsame 18 (by decide)).takes 16 ▸ htakes)
  · simp only [List.mem_append, not_or] at hr
    exact (hcopied.regs r (by simpa only [List.mem_append, not_or] using hr.1)).trans (hst.regs r hl hr.2)
  · refine (hst.fired.congr (hcopied.frame.variant) fun r hr => hcopied.regs r ?_).done
    revert r
    decide

end

/-! ### The statement -/

theorem nTraces_le (s : State) : s.nTraces ≤ 4 := by
  unfold State.nTraces
  split <;> decide

theorem nEncs_le (s : State) : s.nEncs ≤ 4 := by
  unfold State.nEncs
  split <;> decide

theorem exec_cenOvrRead (who : Init) (s : State) {n : Nat} (hn : n < 4) :
    exec (.cenOvrRead who n) s = (s.readClear who 7 (Reg.cenOvr n) 0xFFFFFFFF).done :=
  congrArg (fun k => (s.readClear who 7 (Reg.cenOvr k) 0xFFFFFFFF).done) (Nat.mod_eq_of_lt hn)

theorem exec_zonPinCntRead (who : Init) (s : State) {n : Nat} (hn : n < 128) :
    exec (.zonPinCntRead who n) s = (s.readClear who 8 (Reg.zonPinCnt n) 0xFFFF).done :=
  congrArg (fun k => (s.readClear who 8 (Reg.zonPinCnt k) 0xFFFF).done) (Nat.mod_eq_of_lt hn)

theorem exec_ldlCounterRead (who : Init) (s : State) {n : Nat} (hn : n < 3) :
    exec (.ldlCounterRead who n) s = (s.readClear who 5 (Reg.ldlBuserrcnt + 4 * n) 0xFFFFFFFF).done :=
  congrArg (fun k => (s.readClear who 5 (Reg.ldlBuserrcnt + 4 * k) 0xFFFFFFFF).done) (Nat.mod_eq_of_lt hn)

theorem exec_netCounterRead_portA (who : Init) (s : State) {n : Nat} (hn : n < 8) :
    exec (.netCounterRead who 0 n) s = (s.readClear who 14 (Reg.netpTxfrm 0 + 4 * n) 0xFFFFFFFF).done :=
  congrArg (fun k => (s.readClear who 14 (Reg.netpTxfrm 0 + 4 * k) 0xFFFFFFFF).done) (Nat.mod_eq_of_lt hn)

theorem exec_netCounterRead_portB (who : Init) (s : State) {n : Nat} (hn : n < 8) :
    exec (.netCounterRead who 1 n) s = (s.readClear who 26 (Reg.netpTxfrm 1 + 4 * n) 0xFFFFFFFF).done :=
  congrArg (fun k => (s.readClear who 26 (Reg.netpTxfrm 1 + 4 * k) 0xFFFFFFFF).done) (Nat.mod_eq_of_lt hn)

/-- LOST of a trace channel: a register that clears, absent with the channel (R161, R169). -/
theorem exec_traceLostRead (who : Init) (s : State) {n : Nat} (hn : n < 4) :
    exec (.traceLostRead who n) s =
      (if s.nTraces ≤ n then { (s.hit 0 (Reg.cenTrcLost n) (who == .host)) with lastRead := 0 }
        else s.readClear who 7 (Reg.cenTrcLost n) 0xFFFFFFFF).done := by
  show execTraceLostRead who n s = _
  simp only [execTraceLostRead, Nat.mod_eq_of_lt hn]

/-- The error counter of an encoder, absent with the encoder (R570, R579). -/
theorem exec_encErrRead (who : Init) (s : State) {n : Nat} (hn : n < 4) :
    exec (.encErrRead who n) s =
      (if s.nEncs ≤ n then { (s.hit 0 (Reg.encErr n) (who == .host)) with lastRead := 0 }
        else s.readClear who 11 (Reg.encErr n) 0xFFFFFFFF).done := by
  show execEncErrRead who n s = _
  simp only [execEncErrRead, Nat.mod_eq_of_lt hn]

/-- Settles O60: each read is a `readClear` of its register, or of one that is absent; the write of an entry is its store, its
increment and its copies. -/
theorem clearingReadsAndLogWrites : Obligations.ClearingReadsAndLogWrites := by
  refine ⟨fun who s => ?_, fun who n s => ?_,
    fun ok e rest s hruns hrecall hpending hidle hinc hrings => ⟨fun hok => ?_, fun hfail hjournal => ?_⟩,
    fun ok s h => changesNothing_of_done (exec_faultLogWrite_none ok (logNext_eq_none h))⟩
  · exact ⟨answers_readClear (present_of_mem (by decide)) (by decide) rfl, answers_readClear (present_of_mem (by decide)) (by decide) rfl,
      answers_readClear (present_of_mem (by decide)) (by decide) rfl, answers_readClear (present_of_mem (by decide)) (by decide) rfl,
      answers_readClear (present_of_mem (by decide)) (by decide) rfl, answers_readClear (present_of_mem (by decide)) (by decide) rfl,
      answers_readClear (present_of_mem (by decide)) (by decide) rfl,
      fun htwn => ⟨answers_readClear htwn (by decide) rfl, answers_readClear htwn (by decide) rfl⟩,
      fun htwn => ⟨answers_absentRead (by decide) (congrArg State.done (State.readClear_absent htwn)),
        answers_absentRead (by decide) (congrArg State.done (State.readClear_absent htwn))⟩⟩
  · have htraces := nTraces_le s
    have hencs := nEncs_le s
    refine ⟨fun hn => answers_readClear (present_of_mem (by decide)) (by unfold Reg.cenOvr; omega) (exec_cenOvrRead who s hn),
      fun hn => answers_readClear (present_of_mem (by decide)) (by unfold Reg.zonPinCnt; omega) (exec_zonPinCntRead who s hn),
      fun _ => answers_readClear (present_of_mem (by decide)) (by unfold Reg.rngDrop; omega) rfl,
      fun hn => answers_readClear (present_of_mem (by decide)) (by unfold Reg.ldlBuserrcnt; omega) (exec_ldlCounterRead who s hn),
      fun hn => answers_readClear (present_of_mem (by decide)) (by unfold Reg.netpTxfrm; omega) (exec_netCounterRead_portA who s hn),
      fun hn hport => answers_readClear hport (by unfold Reg.netpTxfrm; omega) (exec_netCounterRead_portB who s hn),
      fun hn hport => answers_absentRead (by unfold Reg.netpTxfrm; omega)
        ((exec_netCounterRead_portB who s hn).trans (congrArg State.done (State.readClear_absent hport))),
      fun hn => ?_, fun hn => ?_, fun hn habsent => ?_, fun hn habsent => ?_⟩
    · exact answers_readClear (present_of_mem (by decide)) (by unfold Reg.cenTrcLost; omega)
        ((exec_traceLostRead who s (by omega)).trans (by rw [if_neg (by omega)]))
    · exact answers_readClear (present_of_mem (by decide)) (by unfold Reg.encErr; omega)
        ((exec_encErrRead who s (by omega)).trans (by rw [if_neg (by omega)]))
    · exact answers_absentRead (by unfold Reg.cenTrcLost; omega) ((exec_traceLostRead who s hn).trans (by rw [if_pos habsent]))
    · exact answers_absentRead (by unfold Reg.encErr; omega) ((exec_encErrRead who s hn).trans (by rw [if_pos habsent]))
  · have hexec := exec_faultLogWrite_some ok (logNext_eq_head hruns hrecall hpending)
    have hmode : (ok || !s.knabJournal) = true := by rcases hok with h | h <;> simp [h, State.knabJournal]
    rw [if_pos hmode, hpending, List.erase_cons_head] at hexec
    obtain ⟨ht, hentry, hcount, hoff, hstore, hcopy, hcopy18, hregs, hfired⟩ :=
      logWrite_settle (s := { s with log := { s.log with pending := rest } }) (e := e) hidle hinc
        (fun r hr => ⟨⟨(hrings r hr).1, (hrings r hr).2.1⟩, (hrings r hr).2.2⟩) _ rfl
    exact ⟨_, hexec, ht, hentry, hcount, hoff, fun a hlo hhi => hstore a ⟨hlo, hhi⟩, hcopy, hcopy18, hregs, hfired⟩
  · have hexec := exec_faultLogWrite_some ok (logNext_eq_head hruns hrecall hpending)
    have hmode : ¬(ok || !s.knabJournal) = true := by simp [hfail, State.knabJournal, hjournal]
    rw [if_neg hmode, hpending, List.erase_cons_head, State.fault_eq] at hexec
    exact ⟨_, hexec, State.settle_eq_of_frame rfl, regsKept_refl [] rfl, eventsFired_nil rfl fun _ _ => rfl⟩

end Sys2Proof.Machine
end

section
/-! PROOFS. What every state of the block shares: the canonical form of memory and registers, TBCOUNT, and its consistent read. -/

namespace Sys2Proof.Machine

theorem State.sound_iff (s : State) :
    s.sound = true ↔ Memory.wf s.mem = true ∧ Tab.wf regReset s.regs = true ∧ s.tb.count < 2 ^ 48 := by
  simp [State.sound, and_assoc]

/-- What every command keeps makes a sound state a sound one. -/
theorem Keeps.sound {b : Bool} {s t : State} (h : Keeps b s t) (hs : s.sound = true) : t.sound = true := by
  obtain ⟨hmem, hregs, hcount⟩ := s.sound_iff.mp hs
  exact t.sound_iff.mpr ⟨h.mem hmem, h.regs hregs, h.count hcount⟩

/-- Settles O3: soundness is among what every command keeps, and the queue is no part of it. -/
theorem everyStepKeepsSoundness : Obligations.EveryStepKeepsSoundness := by
  intro s t hs hstep
  unfold step at hstep
  split at hstep
  next =>
    cases hstep
    exact hs
  next c rest _ =>
    have hqueue : ({ s with pending := rest } : State).sound = true := hs
    exact (keeps_exec c (Keeps.refl false _) t hstep).sound hqueue

/-- Settles O2: the reset state lists no byte of memory, and its registers are few. -/
theorem resetStateIsSound : Obligations.ResetStateIsSound := by
  refine ⟨State.reset.sound_iff.mpr ⟨?_, ?_, ?_⟩, rfl, rfl, rfl⟩ <;> decide

/-- Settles O6: the read writes one register, whatever the initiator. -/
theorem tbcountReadIsConsistent : Obligations.TbcountReadIsConsistent := by
  intro who s
  have hexec : exec (.tbcountLoRead who) s = s.tbcountRead.done := rfl
  have hother : ∀ a, a ≠ Reg.tboTbcountHi → s.tbcountRead.reg a = s.reg a := fun a ha => State.reg_setReg_ne s _ _ _ ha
  refine ⟨_, hexec, ?_, ?_, ?_, regsKept_settle fun a ha _ => hother a (by simpa using ha),
    eventsFired_nil rfl fun a ha => hother a (by revert a; decide)⟩
  · rw [State.settle_lastRead]; rfl
  · rw [State.reg_settle _ _ (by decide)]
    exact State.reg_setReg_same s _ _
  · rw [State.settle_lastRead]
    exact State.settle_eq_of_frame rfl

end Sys2Proof.Machine
end

section
/-! PROOFS. Frames over registers and the notes of CEN, whatever else a command has changed; what an entry of the fault log is made of. -/

namespace Sys2Proof.Machine

variable {s u v : State}

/-- From v to u only registers have changed, and the notes that CEN, otherwise as in s, keeps of events. -/
def RegFrame (s v u : State) : Prop := u = { v with regs := u.regs, cen := cenNoted s u }

theorem RegFrame.refl (s : State) : RegFrame s s s := rfl

theorem RegFrame.setReg (h : RegFrame s v u) (a : Nat) (x : Word) : RegFrame s v (u.setReg a x) := by
  unfold RegFrame at *
  rw [h]
  rfl

theorem RegFrame.fire (h : RegFrame s v u) (n : Nat) : RegFrame s v (u.fire n) := by
  unfold RegFrame at *
  rw [storeFrame_fire u n, State.fire_mem, h]
  rfl

/-- The end of a command is such a change. -/
theorem RegFrame.settle (h : RegFrame s v u) : u.settle = { v with regs := u.settle.regs, cen := cenNoted s u.settle } := by
  have hsettle := State.settle_eq u
  generalize u.settle = t at hsettle ⊢
  rw [hsettle, h]
  rfl

/-- The end of a command over a state that differs from v in registers and CEN. -/
theorem State.settle_eq_of_cen (hu : u = { v with regs := u.regs, cen := u.cen }) :
    u.settle = { v with regs := u.settle.regs, cen := u.settle.cen } := by
  have hsettle := State.settle_eq u
  generalize u.settle = t at hsettle ⊢
  rw [hsettle, hu]

/-- A register after the end of a command, if it is no latch. -/
theorem State.rb_settle {a : Nat} (ha : a ∉ latchRegs) (i : Nat) : u.settle.rb a i = u.rb a i :=
  congrArg (bitOf · i) (State.reg_settle u a ha)

theorem State.rf_settle {a : Nat} (ha : a ∉ latchRegs) (lo w : Nat) : u.settle.rf a lo w = u.rf a lo w :=
  congrArg (fld · lo w) (State.reg_settle u a ha)

/-- What the log takes of the state in which a fault is found (R614, R615, R618). -/
theorem State.fault_log_congr (code param : Nat) (hlog : u.log = s.log) (hpwr : u.pwr = s.pwr) (hcount : u.tb.count = s.tb.count)
    (hrtc : u.rtc = s.rtc) (hreg : ∀ a ∈ [Reg.pwrStat, Reg.pwrShake, Reg.rtcStat, Reg.rtcCtrl], u.reg a = s.reg a) :
    (u.fault code param).log = (s.fault code param).log := by
  have hstat : u.reg Reg.pwrStat = s.reg Reg.pwrStat := hreg _ (by simp)
  have hruns : u.runtimeRuns = s.runtimeRuns := by
    simp only [State.runtimeRuns, State.awake, State.asleep, State.rf, State.rb, hpwr, hstat]
  have hflags : u.logFlags (faultSev code) = s.logFlags (faultSev code) := by
    unfold State.logFlags State.shakeStep State.rf State.rb
    rw [hreg Reg.pwrShake (by simp), hreg Reg.rtcStat (by simp), hreg Reg.rtcCtrl (by simp)]
  simp only [State.fault, State.logAdd, State.stamp, hruns, hflags, hlog, hcount, hrtc]
  split <;> rfl

end Sys2Proof.Machine
end

section
/-! PROOFS. The supervision of the crystal and of TBO (R28, R31, R377, R385, R544). -/

namespace Sys2Proof.Machine

variable {s : State}

/-! ### The loss of the crystal -/

theorem exec_xtalStop (hawake : s.awake = true) (hruns : s.tb.running = true) (htable : s.tb.onTable = false) :
    exec .xtalStop s = (s.xtalLost.fault 0x0101 0).done := by
  show execXtalStop s = _
  simp [execXtalStop, hawake, hruns, htable]

theorem State.reg_xtalLost {a : Nat} (ha : a ≠ Reg.tboStat) (hlatch : a ∉ latchRegs) : s.xtalLost.reg a = s.reg a :=
  (State.reg_fire _ _ _ hlatch).trans (State.reg_setRb_ne s _ _ _ _ ha)

theorem State.rb_xtalLost : s.xtalLost.rb Reg.tboStat 1 = true := by
  have hfire : s.xtalLost.reg Reg.tboStat = (s.setRb Reg.tboStat 1 true).reg Reg.tboStat := State.reg_fire _ _ _ (by decide)
  rw [State.rb, hfire]
  exact State.rb_setRb _ _ _ _ (by decide)

theorem fired_xtalLost : Fired s s.xtalLost [59] := by
  have hstat : Fired s (s.setRb Reg.tboStat 1 true) [] :=
    (Fired.refl s).congr rfl fun a ha => State.reg_setRb_ne s _ _ _ _ (by revert a; decide)
  exact (hstat.fire 59 (by decide)).congr rfl fun _ _ => rfl

/-- While TBCOUNT counts, the loss leaves it counting. -/
theorem regFrame_xtalLost (hruns : s.tb.running = true) :
    RegFrame s { s with tb := { s.tb with xtalOk := false, onTable := true } } s.xtalLost := by
  have htb : ({ s.tb with xtalOk := false, onTable := true, running := true } : TbSt) = { s.tb with xtalOk := false, onTable := true } :=
    (congrArg (fun r => ({ s.tb with xtalOk := false, onTable := true, running := r } : TbSt)) hruns).symm
  have hfire : RegFrame s s ((s.setRb Reg.tboStat 1 true).fire 59) := ((RegFrame.refl s).setReg _ _).fire 59
  rw [← htb]
  unfold State.xtalLost
  generalize (s.setRb Reg.tboStat 1 true).fire 59 = u at hfire ⊢
  unfold RegFrame at *
  rw [hfire]
  rfl

theorem answers_xtalStop (hawake : s.awake = true) (hruns : s.tb.running = true) (htable : s.tb.onTable = false) :
    ∃ t, exec .xtalStop s = .next t ∧ t.tb = { s.tb with xtalOk := false, onTable := true } ∧ t.rb Reg.tboStat 1 = true ∧
      t.log = (s.fault 0x0101 0).log ∧ t = { s with regs := t.regs, tb := t.tb, log := t.log, cen := cenNoted s t } ∧
      regsKept s t [Reg.tboStat] ∧ eventsFired s t [59] := by
  have hlost := regFrame_xtalLost hruns
  have hreg : ∀ a, (s.xtalLost.fault 0x0101 0).reg a = s.xtalLost.reg a := fun a => State.reg_fault _ _ _ a
  have hlog : (s.xtalLost.fault 0x0101 0).log = (s.fault 0x0101 0).log :=
    State.fault_log_congr _ _ (by rw [hlost]) (by rw [hlost]) (by rw [hlost]) (by rw [hlost])
      fun a ha => State.reg_xtalLost (by revert a; decide) (by revert a; decide)
  have hfault : RegFrame s { s with tb := { s.tb with xtalOk := false, onTable := true }, log := (s.fault 0x0101 0).log }
      (s.xtalLost.fault 0x0101 0) := by
    unfold RegFrame at *
    rw [← hlog, State.fault_eq, hlost]
    rfl
  have hend := hfault.settle
  refine ⟨_, exec_xtalStop hawake hruns htable, by rw [hend], ?_, by rw [hend], ?_, regsKept_settle fun a ha hlatch => ?_,
    (fired_xtalLost.congr (by simp) fun a _ => hreg a).done⟩
  · rw [State.rb_settle (by decide), State.rb, hreg]
    exact State.rb_xtalLost
  · generalize (s.xtalLost.fault 0x0101 0).settle = t at hend ⊢
    rw [hend]
    rfl
  · exact (hreg a).trans (State.reg_xtalLost (by simpa using ha) hlatch)

/-! ### The release of a held reset (R377) -/

/-- A release while NRST stands low hands the reset over to NRST. -/
theorem State.resetRelease_nrst (h : s.pwr.nrstLow = true) : s.resetRelease = { s with pwr := { s.pwr with held := some 2 } } := by
  simp [State.resetRelease, h]

theorem State.resetRelease_go (h : s.pwr.nrstLow = false) :
    s.resetRelease =
      ({ s with pwr := { s.pwr with held := none, shakeFrom := s.now, wdLast := s.now } } : State).setRf Reg.pwrShake 0 4 2 := by
  simp [State.resetRelease, State.shakeGo, h]

/-- A command that hands a held reset over to NRST. -/
theorem answers_release_nrst {c : Instr} (hexec : exec c s = s.resetRelease.done) (h : s.pwr.nrstLow = true) :
    ∃ t, exec c s = .next t ∧ t = { s with regs := t.regs, pwr := { s.pwr with held := some 2 }, cen := cenNoted s t } ∧
      regsKept s t [] ∧ eventsFired s t [] := by
  rw [State.resetRelease_nrst h] at hexec
  exact ⟨_, hexec, RegFrame.settle (v := { s with pwr := { s.pwr with held := some 2 } }) rfl, regsKept_refl [] rfl,
    eventsFired_nil rfl fun _ _ => rfl⟩

/-- A command that releases a held reset: shakeout goes to step 2. -/
theorem answers_release_go {c : Instr} (hexec : exec c s = s.resetRelease.done) (h : s.pwr.nrstLow = false) :
    ∃ t, exec c s = .next t ∧
      t = { s with regs := t.regs, pwr := { s.pwr with held := none, shakeFrom := s.now, wdLast := s.now }, cen := cenNoted s t } ∧
      t.shakeStep = 2 ∧ regsKept s t [Reg.pwrShake] ∧ eventsFired s t [] := by
  rw [State.resetRelease_go h] at hexec
  refine ⟨_, hexec, RegFrame.settle (v := { s with pwr := { s.pwr with held := none, shakeFrom := s.now, wdLast := s.now } }) rfl, ?_,
    regsKept_settle fun a ha _ => ?_, eventsFired_nil rfl fun a ha => ?_⟩
  · exact (State.rf_settle (by decide) 0 4).trans (State.rf_setRf _ _ _ _ _ (by decide))
  · exact State.reg_setRf_ne _ _ _ _ _ _ (by simpa using ha)
  · exact State.reg_setRf_ne _ _ _ _ _ _ (by revert a; decide)

theorem exec_tboRangeRecovery (hheld : s.pwr.held = some 6) : exec .tboRangeRecovery s = s.resetRelease.done := by
  show execTboRangeRecovery s = _
  simp [execTboRangeRecovery, hheld]

/-! ### Lock, and the return of the crystal -/

/-- LOCKED and PWR_STAT.TBOLOCK are set. -/
def State.lockShown (s : State) : State := (s.setRb Reg.tboStat 0 true).setRb Reg.pwrStat 6 true

theorem State.reg_lockShown {a : Nat} (h : a ∉ [Reg.tboStat, Reg.pwrStat]) : s.lockShown.reg a = s.reg a := by
  obtain ⟨htbo, hpwr⟩ : a ≠ Reg.tboStat ∧ a ≠ Reg.pwrStat := by simpa using h
  rw [State.lockShown, State.reg_setRb_ne _ _ _ _ _ hpwr, State.reg_setRb_ne _ _ _ _ _ htbo]

theorem exec_tboLock (hawake : s.awake = true) (hxtal : s.tb.xtalOk = true) (hlocked : s.rb Reg.tboStat 0 = false) :
    exec .tboLock s = ({ s.lockShown with tb := { s.tb with running := true, onTable := false } } : State).done := by
  show execTboLock s = _
  simp [execTboLock, State.lockShown, hawake, hxtal, hlocked]

theorem answers_tboLock (hawake : s.awake = true) (hxtal : s.tb.xtalOk = true) (hlocked : s.rb Reg.tboStat 0 = false) :
    ∃ t, exec .tboLock s = .next t ∧
      t = { s with regs := t.regs, tb := { s.tb with running := true, onTable := false }, cen := cenNoted s t } ∧
      t.rb Reg.tboStat 0 = true ∧ t.rb Reg.pwrStat 6 = true ∧ regsKept s t [Reg.tboStat, Reg.pwrStat] ∧ eventsFired s t [] := by
  refine ⟨_, exec_tboLock hawake hxtal hlocked, RegFrame.settle (v := { s with tb := { s.tb with running := true, onTable := false } }) rfl,
    ?_, ?_, regsKept_settle fun a ha _ => State.reg_lockShown ha, eventsFired_nil rfl fun a ha => State.reg_lockShown (by revert a; decide)⟩
  · have hother : s.lockShown.reg Reg.tboStat = (s.setRb Reg.tboStat 0 true).reg Reg.tboStat := State.reg_setRb_ne _ _ _ _ _ (by decide)
    exact (State.rb_settle (by decide) 0).trans ((congrArg (bitOf · 0) hother).trans (State.rb_setRb s _ _ _ (by decide)))
  · have hlock : s.lockShown.rb Reg.pwrStat 6 = true := State.rb_setRb _ _ _ _ (by decide)
    exact (State.rb_settle (by decide) 6).trans hlock

/-- Settles O8: each command comes to a few registers, one event or none, and the timebase or the power state. -/
theorem crystalAndTboSupervision : Obligations.CrystalAndTboSupervision := by
  refine ⟨fun s => answers_xtalStop, fun s hheld => answers_release_nrst (exec_tboRangeRecovery hheld),
    fun s hheld => answers_release_go (exec_tboRangeRecovery hheld), fun s => answers_tboLock, fun s => ⟨_, rfl, ?_, ?_, ?_, ?_⟩⟩
  · exact RegFrame.settle (v := { s with tb := { s.tb with xtalOk := true, onTable := false }, rtc := { s.rtc with xstopped := false } }) rfl
  · exact (State.rb_settle (by decide) 1).trans (State.rb_setRb s _ _ _ (by decide))
  · exact regsKept_settle fun a ha _ => State.reg_setRb_ne s _ _ _ _ (by simpa using ha)
  · exact eventsFired_nil rfl fun a ha => State.reg_setRb_ne s _ _ _ _ (by revert a; decide)

end Sys2Proof.Machine
end

section
/-! PROOFS. The registers of the rings (R53, R454-R460). -/

namespace Sys2Proof.Machine

variable {s : State} {c : Instr} {n : Nat} {v : Word}

/-! ### Addresses and fields -/

/-- The registers of a ring are no event latch. -/
theorem rngReg_notMem_latch (n : Nat) : Reg.rngCfg n ∉ latchRegs ∧ Reg.rngHead n ∉ latchRegs ∧ Reg.rngTail n ∉ latchRegs ∧
    Reg.rngBase n ∉ latchRegs := by
  refine ⟨latch_notMem_of_le ?_, latch_notMem_of_le ?_, latch_notMem_of_le ?_, latch_notMem_of_le ?_⟩ <;>
    simp only [Reg.rngCfg, Reg.rngHead, Reg.rngTail, Reg.rngBase] <;> omega

/-- A field under a mask that has all its bits. -/
theorem fld_and {m : Word} {lo w : Nat} (h : ∀ i < w, m.getLsbD (lo + i) = true) : fld (v &&& m) lo w = fld v lo w := by
  refine Nat.eq_of_testBit_eq fun i => ?_
  rw [fld_bit, fld_bit, BitVec.getLsbD_and]
  by_cases hi : i < w
  · rw [h i hi, Bool.and_true]
  · simp [hi]

/-- The bits of RNG_n_CFG that a write takes (R455): DIR of rings 26 to 29 alone. -/
def ringCfgMask (n : Nat) : Word := if 26 ≤ n ∧ n ≤ 29 then 0xFFF else 0x7FF

theorem ringCfgMask_bit (n : Nat) {i : Nat} (hi : i < 11) : (ringCfgMask n).getLsbD i = true := by
  have hall : ∀ i < 11, (0xFFF : Word).getLsbD i = true ∧ (0x7FF : Word).getLsbD i = true := by decide
  unfold ringCfgMask
  split
  · exact (hall i hi).1
  · exact (hall i hi).2

theorem fld_and_ringCfgMask {lo w : Nat} (h : lo + w ≤ 11) : fld (v &&& ringCfgMask n) lo w = fld v lo w :=
  fld_and fun _ hi => ringCfgMask_bit n (by omega)

theorem bitOf_and_ringCfgMask {i : Nat} (hi : i < 11) : bitOf (v &&& ringCfgMask n) i = bitOf v i := by
  rw [bitOf, BitVec.getLsbD_and, ringCfgMask_bit n hi, Bool.and_true, bitOf]

theorem bitOf_and_ringCfgMask_dir : bitOf (v &&& ringCfgMask n) 11 = (decide (26 ≤ n ∧ n ≤ 29) && bitOf v 11) := by
  unfold bitOf ringCfgMask
  rw [BitVec.getLsbD_and, Bool.and_comm]
  split
  next h => simp [h]
  next h => simp [h]

/-! ### What a write comes to -/

/-- A command whose effect is registers that are no event latch. -/
theorem answers_regs {u : State} (hexec : exec c s = u.done) (hframe : RegFrame s s u) (hlatch : ∀ a ∈ latchRegs, u.reg a = s.reg a) :
    ∃ t, exec c s = .next t ∧ t = { s with regs := t.regs, cen := cenNoted s t } ∧ eventsFired s t [] ∧
      ∀ a, a ∉ latchRegs → t.reg a = u.reg a :=
  ⟨_, hexec, hframe.settle, eventsFired_nil (by rw [hframe]) hlatch, fun a ha => State.reg_settle u a ha⟩

/-- The same with an entry in RNG_ERR and event 34. -/
theorem answers_ringError {u : State} {cause : Nat} (hexec : exec c s = (u.ringError cause n).done) (hframe : RegFrame s s u)
    (hlatch : ∀ a ∈ latchRegs, u.reg a = s.reg a) :
    ∃ t, exec c s = .next t ∧ (t = { s with regs := t.regs, cen := cenNoted s t } ∧
      t.reg Reg.rngErr = BitVec.ofNat 32 (0x80000000 + n * 256 + cause) ∧ eventsFired s t [34]) ∧
      ∀ a, a ∉ latchRegs → a ≠ Reg.rngErr → t.reg a = u.reg a := by
  have hreg : ∀ a, a ∉ latchRegs →
      (u.ringError cause n).settle.reg a = (u.setReg Reg.rngErr (BitVec.ofNat 32 (0x80000000 + n * 256 + cause))).reg a := fun a ha =>
    (State.reg_settle _ a ha).trans (State.reg_fire _ _ a ha)
  have hfired : Fired s (u.setReg Reg.rngErr (BitVec.ofNat 32 (0x80000000 + n * 256 + cause))) [] :=
    (Fired.refl s).congr (by rw [hframe]; rfl) fun a ha =>
      (State.reg_setReg_ne _ _ _ _ (by revert a; decide)).trans (hlatch a ha)
  exact ⟨_, hexec, ⟨((hframe.setReg _ _).fire 34).settle, (hreg _ (by decide)).trans (State.reg_setReg_same _ _ _),
    (hfired.fire 34 (by decide)).done⟩, fun a ha herr => (hreg a ha).trans (State.reg_setReg_ne _ _ _ _ herr)⟩

/-- A write within the rights of its initiator is made (R53). -/
theorem State.ringGuard_eq {who : Init} {a : Nat} {head tail : Bool} {f : State → State} (hn : n < 32)
    (hmay : who = .host → ringHostReg n head tail = true) : s.ringGuard who n a head tail f = f s := by
  have hrange : ¬ n ≥ 32 := by omega
  have hright : ¬ (who == .host && !ringHostReg n head tail) = true := by
    simp only [Bool.and_eq_true, beq_iff_eq, Bool.not_eq_true', not_and, Bool.not_eq_false]
    exact hmay
  rw [State.ringGuard, if_neg hrange, if_neg hright]

theorem ringHostReg_of_shared {head tail : Bool} (h : 26 ≤ n ∧ n ≤ 29) : ringHostReg n head tail = true := by simp [ringHostReg, h]

/-! ### RNG_n_CFG (R454, R455) -/

theorem exec_ringConfigWrite {who : Init} (hn : n < 32) (hmay : who = .host → 26 ≤ n ∧ n ≤ 29) :
    exec (.ringConfigWrite who n v) s = (s.ringCfgWrite n v).done :=
  congrArg State.done (State.ringGuard_eq hn fun hwho => ringHostReg_of_shared (hmay hwho))

theorem State.ringCfgWrite_mask : s.ringCfgWrite n v =
    if s.ringOn n then
      let u := s.setRf (Reg.rngCfg n) 8 3 (fld v 8 3)
      let u := if bitOf v 8 then u else u.ringFlush n
      if fld v 0 8 == s.rf (Reg.rngCfg n) 0 8 && bitOf (v &&& ringCfgMask n) 11 == s.rb (Reg.rngCfg n) 11 then u else u.ringError 5 n
    else if bitOf v 8 then
      if s.ringOk n v then ((s.setReg (Reg.rngCfg n) (v &&& ringCfgMask n)).setReg (Reg.rngHead n) 0).setReg (Reg.rngTail n) 0
      else (s.setReg (Reg.rngCfg n) (putBit (v &&& ringCfgMask n) 8 false)).ringError 1 n
    else s.setReg (Reg.rngCfg n) (v &&& ringCfgMask n) := by
  have hmask : (if (26 ≤ n && n ≤ 29) = true then (0xFFF : Word) else 0x7FF) = ringCfgMask n := by
    simp only [ringCfgMask, Bool.and_eq_true, decide_eq_true_eq]
  have hok : s.ringOk n (v &&& ringCfgMask n) = s.ringOk n v := by
    simp only [State.ringOk, fld_and_ringCfgMask (n := n) (v := v) (lo := 0) (w := 4) (by decide),
      fld_and_ringCfgMask (n := n) (v := v) (lo := 4) (w := 2) (by decide), fld_and_ringCfgMask (n := n) (v := v) (lo := 6) (w := 2) (by decide)]
  have h8 := bitOf_and_ringCfgMask (n := n) (v := v) (i := 8) (by decide)
  have h83 := fld_and_ringCfgMask (n := n) (v := v) (lo := 8) (w := 3) (by decide)
  have h08 := fld_and_ringCfgMask (n := n) (v := v) (lo := 0) (w := 8) (by decide)
  simp only [State.ringCfgWrite, hmask, hok, h8, h83, h08, State.rf, State.rb]
  rfl

/-- The values under which a ring is enabled (R454). -/
theorem State.ringOk_iff : s.ringOk n v = true ↔
    let f := 2 ^ fld v 0 4 * (4 * 2 ^ fld v 4 2)
    let base := (s.reg (Reg.rngBase n)).toNat
    let low := if n = 12 ∨ n = 13 ∨ (26 ≤ n ∧ n ≤ 29) then 0x20038000 else 0x20000000
    2 ≤ fld v 0 4 ∧ fld v 0 4 ≤ 12 ∧ fld v 6 2 ≠ 3 ∧ base % f = 0 ∧
      ((0x30000000 ≤ base ∧ base + f ≤ 0x30004000) ∨ (low ≤ base ∧ base + f ≤ 0x20040000)) := by
  simp only [State.ringOk, within, Bool.and_eq_true, Bool.or_eq_true, decide_eq_true_eq, beq_iff_eq, bne_iff_ne, ne_eq, and_assoc, or_assoc]

/-- The registers of a ring, and RNG_ERR, are different ones. -/
theorem rngReg_distinct (n : Nat) : Reg.rngCfg n ≠ Reg.rngHead n ∧ Reg.rngCfg n ≠ Reg.rngTail n ∧ Reg.rngHead n ≠ Reg.rngTail n ∧
    Reg.rngCfg n ≠ Reg.rngErr ∧ Reg.rngHead n ≠ Reg.rngErr ∧ Reg.rngTail n ≠ Reg.rngErr := by
  refine ⟨?_, ?_, ?_, ?_, ?_, ?_⟩ <;> simp only [Reg.rngCfg, Reg.rngHead, Reg.rngTail, Reg.rngErr] <;> omega

/-- A write that enables a ring (R454). -/
theorem answers_ringEnable {who : Init} (hn : n < 32) (hmay : who = .host → 26 ≤ n ∧ n ≤ 29) (hoff : s.ringOn n = false)
    (hen : bitOf v 8 = true) (hok : s.ringOk n v = true) :
    ∃ t, exec (.ringConfigWrite who n v) s = .next t ∧ t = { s with regs := t.regs, cen := cenNoted s t } ∧ t.ringOn n = true ∧
      t.ringHead n = 0 ∧ t.ringTail n = 0 ∧ t.reg (Reg.rngCfg n) = v &&& ringCfgMask n ∧
      regsKept s t [Reg.rngCfg n, Reg.rngHead n, Reg.rngTail n] ∧ eventsFired s t [] := by
  obtain ⟨hcfg, hhead, htail, -⟩ := rngReg_notMem_latch n
  obtain ⟨hch, hct, hht, -⟩ := rngReg_distinct n
  have hexec := exec_ringConfigWrite (s := s) (v := v) hn hmay
  have hwrite : s.ringCfgWrite n v =
      ((s.setReg (Reg.rngCfg n) (v &&& ringCfgMask n)).setReg (Reg.rngHead n) 0).setReg (Reg.rngTail n) 0 := by
    rw [State.ringCfgWrite_mask, hoff, hen, hok]; rfl
  rw [hwrite] at hexec
  have hother : ∀ a, a ≠ Reg.rngCfg n → a ≠ Reg.rngHead n → a ≠ Reg.rngTail n →
      (((s.setReg (Reg.rngCfg n) (v &&& ringCfgMask n)).setReg (Reg.rngHead n) 0).setReg (Reg.rngTail n) 0).reg a = s.reg a :=
    fun a h1 h2 h3 => by rw [State.reg_setReg_ne _ _ _ _ h3, State.reg_setReg_ne _ _ _ _ h2, State.reg_setReg_ne _ _ _ _ h1]
  obtain ⟨t, hnext, hframe, hfired, hreg⟩ := answers_regs hexec ((((RegFrame.refl s).setReg _ _).setReg _ _).setReg _ _)
    fun a ha => hother a (fun e => hcfg (e ▸ ha)) (fun e => hhead (e ▸ ha)) fun e => htail (e ▸ ha)
  have hcfgVal : t.reg (Reg.rngCfg n) = v &&& ringCfgMask n := by
    rw [hreg _ hcfg, State.reg_setReg_ne _ _ _ _ hct, State.reg_setReg_ne _ _ _ _ hch, State.reg_setReg_same]
  have hheadVal : t.reg (Reg.rngHead n) = 0 := by rw [hreg _ hhead, State.reg_setReg_ne _ _ _ _ hht, State.reg_setReg_same]
  have htailVal : t.reg (Reg.rngTail n) = 0 := by rw [hreg _ htail, State.reg_setReg_same]
  refine ⟨t, hnext, hframe, ?_, ?_, ?_, hcfgVal, fun a ha hlatch => ?_, hfired⟩
  · rw [State.ringOn, State.rb, hcfgVal, bitOf_and_ringCfgMask (by decide), hen]
  · rw [State.ringHead, State.rf, hheadVal]; rfl
  · rw [State.ringTail, State.rf, htailVal]; rfl
  · simp only [List.mem_cons, List.not_mem_nil, or_false, not_or] at ha
    obtain ⟨h1, h2, h3⟩ := ha
    exact (hreg a hlatch).trans (hother a h1 h2 h3)

/-- A write that would enable a ring with values that R454 does not allow. -/
theorem answers_ringEnable_bad {who : Init} (hn : n < 32) (hmay : who = .host → 26 ≤ n ∧ n ≤ 29) (hoff : s.ringOn n = false)
    (hen : bitOf v 8 = true) (hbad : s.ringOk n v = false) :
    ∃ t, exec (.ringConfigWrite who n v) s = .next t ∧ (t = { s with regs := t.regs, cen := cenNoted s t } ∧
      t.reg Reg.rngErr = BitVec.ofNat 32 (0x80000000 + n * 256 + 1) ∧ eventsFired s t [34]) ∧ t.ringOn n = false ∧
      regsKept s t [Reg.rngCfg n, Reg.rngErr] := by
  obtain ⟨hcfg, -, -, -⟩ := rngReg_notMem_latch n
  obtain ⟨-, -, -, herr, -⟩ := rngReg_distinct n
  have hexec := exec_ringConfigWrite (s := s) (v := v) hn hmay
  have hwrite : s.ringCfgWrite n v = (s.setReg (Reg.rngCfg n) (putBit (v &&& ringCfgMask n) 8 false)).ringError 1 n := by
    rw [State.ringCfgWrite_mask, hoff, hen, hbad]; rfl
  rw [hwrite] at hexec
  obtain ⟨t, hnext, herror, hreg⟩ := answers_ringError hexec ((RegFrame.refl s).setReg _ _) fun a ha =>
    State.reg_setReg_ne s _ _ _ fun e => hcfg (e ▸ ha)
  refine ⟨t, hnext, herror, ?_, fun a ha hlatch => ?_⟩
  · rw [State.ringOn, State.rb, hreg _ hcfg herr, State.reg_setReg_same]
    exact bitOf_putBit _ 8 false (by decide)
  · simp only [List.mem_cons, List.not_mem_nil, or_false, not_or] at ha
    obtain ⟨h1, h2⟩ := ha
    exact (hreg a hlatch h2).trans (State.reg_setReg_ne s _ _ _ h1)

/-- A write of RNG_n_CFG while EN is 1 and stays so (R455): EN, NEIEN and FULLIEN take the value. -/
theorem ringCfgWrite_on (hon : s.ringOn n = true) (hen : bitOf v 8 = true) (hdir : s.rb (Reg.rngCfg n) 11 = false ∨ (26 ≤ n ∧ n ≤ 29)) :
    ((fld v 0 8 = s.rf (Reg.rngCfg n) 0 8 ∧ ((26 ≤ n ∧ n ≤ 29) → bitOf v 11 = s.rb (Reg.rngCfg n) 11)) →
      s.ringCfgWrite n v = s.setRf (Reg.rngCfg n) 8 3 (fld v 8 3)) ∧
    (¬(fld v 0 8 = s.rf (Reg.rngCfg n) 0 8 ∧ ((26 ≤ n ∧ n ≤ 29) → bitOf v 11 = s.rb (Reg.rngCfg n) 11)) →
      s.ringCfgWrite n v = (s.setRf (Reg.rngCfg n) 8 3 (fld v 8 3)).ringError 5 n) := by
  have hdirSame : bitOf (v &&& ringCfgMask n) 11 = s.rb (Reg.rngCfg n) 11 ↔ ((26 ≤ n ∧ n ≤ 29) → bitOf v 11 = s.rb (Reg.rngCfg n) 11) := by
    rw [bitOf_and_ringCfgMask_dir]
    by_cases hshared : 26 ≤ n ∧ n ≤ 29
    · simp [hshared]
    · rw [hdir.resolve_right hshared]
      simp [hshared]
  rw [State.ringCfgWrite_mask, if_pos hon, ← hdirSame]
  dsimp only
  rw [if_pos hen]
  refine ⟨fun hsame => if_pos ?_, fun hother => if_neg ?_⟩
  · simpa using hsame
  · simpa using hother

/-- Such a write: the fields that stand, and the cause BUSY where one of them would change. -/
theorem answers_ringConfig_on {who : Init} (hn : n < 32) (hmay : who = .host → 26 ≤ n ∧ n ≤ 29) (hon : s.ringOn n = true)
    (hen : bitOf v 8 = true) (hdir : s.rb (Reg.rngCfg n) 11 = false ∨ (26 ≤ n ∧ n ≤ 29)) :
    let same := fld v 0 8 = s.rf (Reg.rngCfg n) 0 8 ∧ ((26 ≤ n ∧ n ≤ 29) → bitOf v 11 = s.rb (Reg.rngCfg n) 11)
    ∃ t, exec (.ringConfigWrite who n v) s = .next t ∧ t.rf (Reg.rngCfg n) 8 3 = fld v 8 3 ∧
      t.rf (Reg.rngCfg n) 0 8 = s.rf (Reg.rngCfg n) 0 8 ∧ t.rb (Reg.rngCfg n) 11 = s.rb (Reg.rngCfg n) 11 ∧
      t.ringHead n = s.ringHead n ∧ t.ringTail n = s.ringTail n ∧
      (same → t = { s with regs := t.regs, cen := cenNoted s t } ∧ regsKept s t [Reg.rngCfg n] ∧ eventsFired s t []) ∧
      (¬same → (t = { s with regs := t.regs, cen := cenNoted s t } ∧
        t.reg Reg.rngErr = BitVec.ofNat 32 (0x80000000 + n * 256 + 5) ∧ eventsFired s t [34]) ∧
        regsKept s t [Reg.rngCfg n, Reg.rngErr]) := by
  intro same
  obtain ⟨hcfg, hhead, htail, -⟩ := rngReg_notMem_latch n
  obtain ⟨hch, hct, -, herr, hherr, hterr⟩ := rngReg_distinct n
  obtain ⟨hsame, hother⟩ := ringCfgWrite_on hon hen hdir
  have hexec := exec_ringConfigWrite (s := s) (v := v) hn hmay
  have hframe : RegFrame s s (s.setRf (Reg.rngCfg n) 8 3 (fld v 8 3)) := (RegFrame.refl s).setReg _ _
  have hrest : ∀ a, a ≠ Reg.rngCfg n → (s.setRf (Reg.rngCfg n) 8 3 (fld v 8 3)).reg a = s.reg a := fun a => State.reg_setRf_ne s _ _ _ _ a
  have hval : (s.setRf (Reg.rngCfg n) 8 3 (fld v 8 3)).reg (Reg.rngCfg n) = putFld (s.reg (Reg.rngCfg n)) 8 3 (fld v 8 3) := by
    rw [State.reg_setRf, if_pos rfl]
  have hlatch : ∀ a ∈ latchRegs, (s.setRf (Reg.rngCfg n) 8 3 (fld v 8 3)).reg a = s.reg a := fun a ha => hrest a fun e => hcfg (e ▸ ha)
  -- The fields that t shows, from the three registers of the ring.
  have fields : ∀ t : State, (∀ a, a = Reg.rngCfg n ∨ a = Reg.rngHead n ∨ a = Reg.rngTail n →
      t.reg a = (s.setRf (Reg.rngCfg n) 8 3 (fld v 8 3)).reg a) →
      t.rf (Reg.rngCfg n) 8 3 = fld v 8 3 ∧ t.rf (Reg.rngCfg n) 0 8 = s.rf (Reg.rngCfg n) 0 8 ∧
      t.rb (Reg.rngCfg n) 11 = s.rb (Reg.rngCfg n) 11 ∧ t.ringHead n = s.ringHead n ∧ t.ringTail n = s.ringTail n := by
    intro t ht
    have htcfg := (ht _ (.inl rfl)).trans hval
    refine ⟨?_, ?_, ?_, congrArg (fld · 0 16) ((ht _ (.inr (.inl rfl))).trans (hrest _ hch.symm)),
      congrArg (fld · 0 16) ((ht _ (.inr (.inr rfl))).trans (hrest _ hct.symm))⟩
    · rw [State.rf, htcfg, fld_putFld _ _ _ _ (by decide)]
      exact Nat.mod_mod _ _
    · rw [State.rf, htcfg, fld_putFld_apart _ _ _ _ _ _ (by decide) (by decide)]
      rfl
    · rw [State.rb, htcfg, bitOf_putFld_apart _ _ _ _ _ (by decide) (by decide)]
      rfl
  by_cases h : same
  · rw [hsame h] at hexec
    obtain ⟨t, hnext, hbase, hfired, hreg⟩ := answers_regs hexec hframe hlatch
    obtain ⟨h1, h2, h3, h4, h5⟩ := fields t (by rintro a (rfl | rfl | rfl) <;> exact hreg _ ‹_›)
    exact ⟨t, hnext, h1, h2, h3, h4, h5, fun _ => ⟨hbase, fun a ha hl => (hreg a hl).trans (hrest a (by simpa using ha)), hfired⟩,
      fun hnot => absurd h hnot⟩
  · rw [hother h] at hexec
    obtain ⟨t, hnext, herror, hreg⟩ := answers_ringError hexec hframe hlatch
    obtain ⟨h1, h2, h3, h4, h5⟩ := fields t (by rintro a (rfl | rfl | rfl) <;> exact hreg _ ‹_› ‹_›)
    refine ⟨t, hnext, h1, h2, h3, h4, h5, fun hyes => absurd hyes h, fun _ => ⟨herror, fun a ha hl => ?_⟩⟩
    simp only [List.mem_cons, List.not_mem_nil, or_false, not_or] at ha
    obtain ⟨hacfg, haerr⟩ := ha
    exact (hreg a hl haerr).trans (hrest a hacfg)

/-! ### Errors over the unchanged ring, and single registers -/

/-- A write that is refused with a cause and leaves the ring's registers alone (R457). -/
theorem answers_ringRefused {cause : Nat} (hexec : exec c s = (s.ringError cause n).done) :
    ∃ t, exec c s = .next t ∧ (t = { s with regs := t.regs, cen := cenNoted s t } ∧
      t.reg Reg.rngErr = BitVec.ofNat 32 (0x80000000 + n * 256 + cause) ∧ eventsFired s t [34]) ∧ regsKept s t [Reg.rngErr] := by
  obtain ⟨t, hnext, herror, hreg⟩ := answers_ringError hexec (RegFrame.refl s) fun _ _ => rfl
  exact ⟨t, hnext, herror, fun a ha hl => hreg a hl (by simpa using ha)⟩

/-- A write of one index (R457). -/
theorem answers_ringIndex {a : Nat} (hlatch : a ∉ latchRegs) (hexec : exec c s = (s.setRf a 0 16 (fld v 0 16)).done) :
    ∃ t, exec c s = .next t ∧ t = { s with regs := t.regs, cen := cenNoted s t } ∧ t.rf a 0 16 = fld v 0 16 ∧
      regsKept s t [a] ∧ eventsFired s t [] := by
  obtain ⟨t, hnext, hframe, hfired, hreg⟩ := answers_regs hexec ((RegFrame.refl s).setReg _ _) fun b hb =>
    State.reg_setRf_ne s _ _ _ _ _ fun e => hlatch (e ▸ hb)
  refine ⟨t, hnext, hframe, ?_, fun b hb hl => (hreg b hl).trans (State.reg_setRf_ne s _ _ _ _ _ (by simpa using hb)), hfired⟩
  rw [State.rf, hreg a hlatch, ← State.rf, State.rf_setRf _ _ _ _ _ (by decide)]
  exact Nat.mod_mod _ _

theorem exec_ringBaseWrite {who : Init} (hn : n < 32) (hmay : who = .host → 26 ≤ n ∧ n ≤ 29) :
    exec (.ringBaseWrite who n v) s = (s.ringBaseWr n v).done :=
  congrArg State.done (State.ringGuard_eq hn fun hwho => ringHostReg_of_shared (hmay hwho))

/-! ### HEAD and TAIL (R456-R459) -/

/-- No earlier write of the initiator waits. -/
def NothingBefore (who : Init) (s : State) : Prop :=
  (who = .host → s.hst.queue = []) ∧ (who = .runtime → s.knb.stalled = [] ∧ s.knb.after = [])

theorem State.behind_nothing {who : Init} {a : Nat} {f : State → State} (h : NothingBefore who s) : s.behind who a v f = f s := by
  obtain ⟨hhost, hruntime⟩ := h
  cases who with
  | host => simp [State.behind, hhost rfl]
  | runtime => simp [State.behind, hruntime rfl]
  | ladle => rfl

theorem State.behind_host {a : Nat} {f : State → State} (hwait : s.hst.queue ≠ []) (hroom : s.hst.queue.length < 16) :
    s.behind .host a v f = { s with hst := { s.hst with queue := s.hst.queue ++ [(a, v)] } } := by
  simp [State.behind, hwait, hroom]

theorem State.behind_runtime {a : Nat} {f : State → State} (hwait : s.knb.stalled ≠ [] ∨ s.knb.after ≠ []) :
    s.behind .runtime a v f = { s with knb := { s.knb with after := s.knb.after ++ [(a, v)] } } := by
  have hnot : ¬(s.knb.stalled.isEmpty && s.knb.after.isEmpty) = true := by
    simpa [← not_and_or] using hwait
  rw [State.behind, if_neg hnot]

theorem exec_ringHeadWrite {who : Init} (hn : n < 32) (hmay : who = .host → n = 12 ∨ (26 ≤ n ∧ n ≤ 29)) :
    exec (.ringHeadWrite who n v) s = (s.behind who (Reg.rngHead n) v (fun s => s.ringHeadWr (who == .host) n v)).done :=
  congrArg State.done (State.ringGuard_eq hn fun hwho => by rcases hmay hwho with h | h <;> simp [ringHostReg, h])

theorem exec_ringTailWrite {who : Init} (hn : n < 32) (hmay : who = .host → n = 13 ∨ (26 ≤ n ∧ n ≤ 29)) :
    exec (.ringTailWrite who n v) s = (s.behind who (Reg.rngTail n) v (fun s => s.ringTailWr (who == .host) n v)).done :=
  congrArg State.done (State.ringGuard_eq hn fun hwho => by rcases hmay hwho with h | h <;> simp [ringHostReg, h])

/-- A side of a ring is this initiator's: it is no unit's, and the host's exactly for the host. -/
theorem ringSide_iff {unit host : Bool} {who : Init} :
    ¬(unit || host != (who == .host)) = true ↔ unit = false ∧ (host = true ↔ who = .host) := by
  cases unit <;> cases host <;> cases who <;> decide

section
variable {who : Init}

/-- What a HEAD write comes to. -/
theorem ringHeadWr_cases :
    let side := ringUnitProduced n = false ∧ (s.ringHostProduces n = true ↔ who = .host)
    let fits := (fld v 0 16 + 65536 - s.ringHead n) % 65536 + s.ringCount n ≤ 2 ^ s.ringDepth n
    (s.ringOn n = true → side → fits → s.ringHeadWr (who == .host) n v = s.setRf (Reg.rngHead n) 0 16 (fld v 0 16)) ∧
    (s.ringOn n = true → ¬(side ∧ fits) → s.ringHeadWr (who == .host) n v = s.ringError 2 n) ∧
    (s.ringOn n = false → s.ringHeadWr (who == .host) n v = s.ringError 6 n) := by
  refine ⟨fun hon hside hfits => ?_, fun hon hnot => ?_, fun hoff => ?_⟩
  · rw [State.ringHeadWr, hon, if_neg (by decide), if_neg (ringSide_iff.mpr hside), if_pos hfits]
  · rw [State.ringHeadWr, hon, if_neg (by decide)]
    split
    · rfl
    next hside => exact if_neg fun hfits => hnot ⟨ringSide_iff.mp hside, hfits⟩
  · rw [State.ringHeadWr, hoff, if_pos (by decide)]

/-- What a TAIL write comes to where no producer waits. -/
theorem ringTailWr_cases (hheld : s.held = []) :
    let side := ringUnitConsumed n = false ∧ (s.ringHostConsumes n = true ↔ who = .host)
    let fits := (fld v 0 16 + 65536 - s.ringTail n) % 65536 ≤ s.ringCount n
    (s.ringOn n = true → side → fits → s.ringTailWr (who == .host) n v = s.setRf (Reg.rngTail n) 0 16 (fld v 0 16)) ∧
    (s.ringOn n = true → ¬(side ∧ fits) → s.ringTailWr (who == .host) n v = s.ringError 3 n) ∧
    (s.ringOn n = false → s.ringTailWr (who == .host) n v = s.ringError 6 n) := by
  have hunstall : (s.setRf (Reg.rngTail n) 0 16 (fld v 0 16)).ringUnstall n = s.setRf (Reg.rngTail n) 0 16 (fld v 0 16) := by
    simp [State.ringUnstall, hheld]
  refine ⟨fun hon hside hfits => ?_, fun hon hnot => ?_, fun hoff => ?_⟩
  · rw [State.ringTailWr, hon, if_neg (by decide), if_neg (ringSide_iff.mpr hside), if_pos hfits, hunstall]
  · rw [State.ringTailWr, hon, if_neg (by decide)]
    split
    · rfl
    next hside => exact if_neg fun hfits => hnot ⟨ringSide_iff.mp hside, hfits⟩
  · rw [State.ringTailWr, hoff, if_pos (by decide)]

end

/-- An index write that joins the host's queue. -/
theorem answers_queued {a : Nat} (hexec : exec c s = ({ s with hst := { s.hst with queue := s.hst.queue ++ [(a, v)] } } : State).done) :
    ∃ t, exec c s = .next t ∧
      t = { s with regs := t.regs, hst := { s.hst with queue := s.hst.queue ++ [(a, v)] }, cen := cenNoted s t } ∧
      regsKept s t [] ∧ eventsFired s t [] :=
  ⟨_, hexec, RegFrame.settle (v := { s with hst := { s.hst with queue := s.hst.queue ++ [(a, v)] } }) rfl, regsKept_refl [] rfl,
    eventsFired_nil rfl fun _ _ => rfl⟩

/-- An index write that waits behind the runtime's stalled writes to the store. -/
theorem answers_after {a : Nat} (hexec : exec c s = ({ s with knb := { s.knb with after := s.knb.after ++ [(a, v)] } } : State).done) :
    ∃ t, exec c s = .next t ∧
      t = { s with regs := t.regs, knb := { s.knb with after := s.knb.after ++ [(a, v)] }, cen := cenNoted s t } ∧
      regsKept s t [] ∧ eventsFired s t [] :=
  ⟨_, hexec, RegFrame.settle (v := { s with knb := { s.knb with after := s.knb.after ++ [(a, v)] } }) rfl, regsKept_refl [] rfl,
    eventsFired_nil rfl fun _ _ => rfl⟩

/-- A register of a ring that the host may not write: the write is ignored and recorded (R53). -/
theorem State.ringGuard_refused {a : Nat} {head tail : Bool} {f : State → State} (hn : n < 32) (hright : ringHostReg n head tail = false) :
    s.ringGuard .host n a head tail f = s.hit 1 a true := by
  have hrange : ¬ n ≥ 32 := by omega
  simp [State.ringGuard, hrange, hright]

/-- Settles O48: a configuration, a base and an index write each come to the registers of the ring, an error, or a place in a queue. -/
theorem ringRegisters : Obligations.RingRegisters := by
  refine ⟨fun who n v s hn hmay hoff hen => ⟨fun hgood => ?_, fun hbad => ?_⟩,
    fun who n v s hn hmay hon hen hdir => answers_ringConfig_on hn hmay hon hen hdir,
    fun who n v s hn hmay => ⟨fun hoff => ?_, fun hon => ?_⟩,
    fun who n v s hn hfirst hmay => ?_,
    fun n v s hn => ⟨fun hwait hroom hmay => ?_, fun hwait hroom hmay => ?_, fun hwait => ⟨?_, ?_⟩⟩,
    fun who n v s hn hheld hfirst hmay => ?_, fun n v s hn => ⟨?_, fun hne => ?_⟩⟩
  · exact answers_ringEnable hn hmay hoff hen (State.ringOk_iff.mpr hgood)
  · exact answers_ringEnable_bad hn hmay hoff hen (Bool.eq_false_iff.mpr fun h => hbad (State.ringOk_iff.mp h))
  · obtain ⟨-, -, -, hbase⟩ := rngReg_notMem_latch n
    exact answers_setReg hbase ((exec_ringBaseWrite hn hmay).trans (by rw [State.ringBaseWr, hoff, if_neg (by decide)]))
  · exact answers_ringRefused ((exec_ringBaseWrite hn hmay).trans (by rw [State.ringBaseWr, if_pos hon]))
  · have hexec := (exec_ringHeadWrite (s := s) (v := v) hn hmay).trans (congrArg State.done (State.behind_nothing hfirst))
    obtain ⟨hfit, hnot, hoff⟩ := ringHeadWr_cases (s := s) (n := n) (v := v) (who := who)
    obtain ⟨-, hhead, htail, -⟩ := rngReg_notMem_latch n
    refine ⟨fun h1 h2 h3 => ?_, fun h1 h2 => answers_ringRefused (hexec.trans (by rw [hnot h1 h2])),
      fun h1 => answers_ringRefused (hexec.trans (by rw [hoff h1]))⟩
    obtain ⟨t, hnext, hframe, hval, hkept, hfired⟩ := answers_ringIndex hhead (hexec.trans (by rw [hfit h1 h2 h3]))
    exact ⟨t, hnext, hframe, hval, congrArg (fld · 0 16) (hkept _ (by simp) htail), hkept, hfired⟩
  · exact answers_queued ((exec_ringHeadWrite hn fun _ => hmay).trans (by rw [State.behind_host hwait hroom]))
  · exact answers_queued ((exec_ringTailWrite hn fun _ => hmay).trans (by rw [State.behind_host hwait hroom]))
  · exact answers_after ((exec_ringHeadWrite hn fun h => by cases h).trans (by rw [State.behind_runtime hwait]))
  · exact answers_after ((exec_ringTailWrite hn fun h => by cases h).trans (by rw [State.behind_runtime hwait]))
  · have hexec := (exec_ringTailWrite (s := s) (v := v) hn hmay).trans (congrArg State.done (State.behind_nothing hfirst))
    obtain ⟨hfit, hnot, hoff⟩ := ringTailWr_cases (s := s) (n := n) (v := v) (who := who) hheld
    obtain ⟨-, hhead, htail, -⟩ := rngReg_notMem_latch n
    refine ⟨fun h1 h2 h3 => ?_, fun h1 h2 => answers_ringRefused (hexec.trans (by rw [hnot h1 h2])),
      fun h1 => answers_ringRefused (hexec.trans (by rw [hoff h1]))⟩
    obtain ⟨t, hnext, hframe, hval, hkept, hfired⟩ := answers_ringIndex htail (hexec.trans (by rw [hfit h1 h2 h3]))
    exact ⟨t, hnext, hframe, hval, congrArg (fld · 0 16) (hkept _ (by simp) hhead), hkept, hfired⟩
  · have hright : ringHostReg n false false = false := by simp [ringHostReg]; omega
    obtain ⟨t, hnext, hframe, ⟨hbit, -, -, haddr⟩, hkept, hfired⟩ := answers_hit (s := s) (bit := 1) (host := true) (by decide)
      (show Reg.rngCfg n < 2 ^ 32 by simp only [Reg.rngCfg]; omega)
      (show exec (.ringConfigWrite .host n v) s = _ from congrArg State.done (State.ringGuard_refused (by omega) hright))
    exact ⟨t, hnext, hframe, hbit, haddr, hkept, hfired⟩
  · have hright : ringHostReg n true false = false := by simp [ringHostReg]; omega
    obtain ⟨t, hnext, hframe, ⟨hbit, -, -, -⟩, hkept, hfired⟩ := answers_hit (s := s) (bit := 1) (host := true) (by decide)
      (show Reg.rngHead n < 2 ^ 32 by simp only [Reg.rngHead]; omega)
      (show exec (.ringHeadWrite .host n v) s = _ from congrArg State.done (State.ringGuard_refused (by omega) hright))
    exact ⟨t, hnext, hframe, hbit, hkept, hfired⟩

end Sys2Proof.Machine
end

section
/-! PROOFS. The running set and the U_PEND of slots (R105, R106, R118): what they are read from, and what clearing bits of SSTAT leaves. -/

namespace Sys2Proof.Machine

variable {s u : State}

/-- A write by an initiator with the right, to a unit the variant has, is made (R5, R53). -/
theorem State.guardWrite_eq {who : Init} {n a : Nat} {f : State → State} (hpresent : s.present n = true) (hmay : mayWrite who n s) :
    s.guardWrite who n a f = f s := by
  have hright : ¬(who == .host && !s.hostOwns n) = true := by
    simp only [Bool.and_eq_true, beq_iff_eq, Bool.not_eq_true', not_and, Bool.not_eq_false]
    exact hmay
  rw [State.guardWrite, hpresent, if_neg (by decide), if_neg hright]

/-- The registers of CEN are no event latch. -/
theorem cenReg_notMem_latch {a : Nat} (h : 0x60070000 ≤ a) : a ∉ latchRegs := latch_notMem_of_le (by omega)

theorem State.slotWord_congr (hmem : u.mem = s.mem) (n off : Nat) : u.slotWord n off = s.slotWord n off := State.word_congr hmem _

theorem State.slotPend_congr (hmem : u.mem = s.mem) (n : Nat) : u.slotPend n = s.slotPend n := by
  simp only [State.slotPend, State.slotWord_congr hmem]

/-- Whether slot n runs is read from its configuration word, SYS_OWN, the functions and the slots that stand apart. -/
theorem State.slotRuns_congr {n : Nat} (hvariant : u.variant = s.variant) (hcoef : u.coef n 0 = s.coef n 0)
    (hown : u.reg Reg.sysOwn = s.reg Reg.sysOwn) (hod : u.od = s.od) (hapart : u.cen.apart = s.cen.apart) :
    u.slotRuns n = s.slotRuns n := by
  simp only [State.slotRuns, State.slotOn, State.nSlots, State.present, State.slotType, State.slotFunc, State.fnLive, State.fn,
    State.hostOwns, State.rb, hvariant, hcoef, hown, hod, hapart]
  rfl

/-- SSTAT of each slot stands in a word of its own. -/
theorem slotWord_setSstat (n m i : Nat) (b : Bool) :
    (s.setSstat n i b).slotWord m 0x30 = if m = n then putBit (s.slotWord n 0x30) i b else s.slotWord m 0x30 := by
  unfold State.setSstat State.slotWord slotState
  split
  next h => rw [h, State.word_setWord]
  next h => exact State.word_setWord_apart _ _ _ _ (by omega)

theorem slotPend_setSstat (n m : Nat) : (s.setSstat n 5 false).slotPend m = (s.slotPend m && m != n) := by
  unfold State.slotPend
  rw [slotWord_setSstat]
  by_cases h : m = n
  · rw [if_pos h, putBit, bitOf_putBit _ _ _ (by decide)]
    simp [h]
  · simp [h]

theorem byte_setSstat (n i : Nat) (b : Bool) {a : Nat} (ha : ¬(slotState n + 0x30 ≤ a ∧ a < slotState n + 0x34)) :
    (s.setSstat n i b).byte a = s.byte a :=
  State.byte_setWord_apart s _ a _ (by omega)

/-- A word written changes memory alone. -/
theorem State.setWord_eq (a : Nat) (v : Word) : s.setWord a v = { s with mem := (s.setWord a v).mem } := by
  unfold State.setWord
  generalize leBytes 4 _ = l
  induction l generalizing s a with
  | nil => rfl
  | cons x l ih => exact (ih (s := s.setByte a x) (a := a + 1)).trans rfl

theorem setSstat_eq (n i : Nat) (b : Bool) : s.setSstat n i b = { s with mem := (s.setSstat n i b).mem } := State.setWord_eq _ _

/-- U_PEND of the slots of a list is discarded. -/
def State.pendCleared (s : State) (l : List Nat) : State := s.forEach l (fun s n => s.setSstat n 5 false)

theorem pendCleared_cons (n : Nat) (l : List Nat) : s.pendCleared (n :: l) = (s.setSstat n 5 false).pendCleared l := by
  rw [State.pendCleared, State.forEach, List.foldl_cons, State.pendCleared, State.forEach]

theorem pendCleared_eq (l : List Nat) : s.pendCleared l = { s with mem := (s.pendCleared l).mem } := by
  induction l generalizing s with
  | nil => rfl
  | cons n l ih =>
    rw [pendCleared_cons, ih, setSstat_eq]

theorem slotPend_pendCleared (l : List Nat) (m : Nat) : (s.pendCleared l).slotPend m = (s.slotPend m && !l.contains m) := by
  induction l generalizing s with
  | nil => simp [State.pendCleared, State.forEach]
  | cons n l ih =>
    rw [pendCleared_cons, ih, slotPend_setSstat, List.contains_cons]
    by_cases h : m = n <;> simp [h, bne, Bool.and_assoc]

theorem byte_pendCleared {l : List Nat} {a : Nat} (ha : ∀ n ∈ l, ¬(slotState n + 0x30 ≤ a ∧ a < slotState n + 0x34)) :
    (s.pendCleared l).byte a = s.byte a := by
  induction l generalizing s with
  | nil => rfl
  | cons n l ih =>
    rw [pendCleared_cons, ih fun m hm => ha m (by simp [hm]), byte_setSstat n 5 false (ha n (by simp))]

theorem nSlots_le (s : State) : s.nSlots ≤ 1024 := by
  unfold State.nSlots
  split <;> decide

theorem State.word_of_bytes {a : Nat} (h : ∀ i < 4, u.byte (a + i) = s.byte (a + i)) : u.word a = s.word a := by
  unfold State.word State.bytes
  congr 2
  exact List.map_congr_left fun i hi => h i (List.mem_range.mp hi)

end Sys2Proof.Machine
end

section
/-! PROOFS. Writes of CEN_CTRL and CEN_PERIODk: admission, start and stop of the frame plan (R37, R122, R123, R126, R128, R129). -/

namespace Sys2Proof.Machine

variable {s u : State}

/-! ### Admission (R122, R123) -/

/-- The load that the admission check finds over the enabled slots. -/
def State.admitLoad (s : State) : Nat :=
  (admission ((List.range 4).map (fun k => s.enabledClasses.count k)) ((List.range 4).map s.period)).1

theorem admission_load_lt (n ns : List Nat) : (admission n ns).1 < 65536 := by
  unfold admission loadUnits
  dsimp only
  omega

/-- The registers that an admission check writes. -/
def admitRegs : List Nat := Reg.cenAdmit :: [0, 1, 2, 3].map Reg.cenLoad

/-- What an admission check leaves: its load and verdict in CEN_ADMIT, and nothing else but CEN_LOADk. -/
structure Admitted (s u : State) : Prop where
  frame : RegFrame s s u
  regs : ∀ a, a ∉ admitRegs → u.reg a = s.reg a
  load : u.rf Reg.cenAdmit 0 16 = s.admitLoad
  verdict : u.rb Reg.cenAdmit 31 = decide (s.admitLoad ≤ 8500)

theorem fld_admitWord {load : Nat} (hload : load < 65536) (worst : Nat) (b : Bool) :
    fld (putBit (BitVec.ofNat 32 (worst * 65536 + load)) 31 b) 0 16 = load := by
  rw [putBit, fld_putFld_apart _ _ _ _ _ _ (by decide) (by decide), fld, BitVec.toNat_ofNat]
  omega

theorem regFrame_forEach_setReg {l : List Nat} {f : Nat → Nat} {g : Nat → Word} (h : RegFrame s s u) :
    RegFrame s s (u.forEach l (fun s k => s.setReg (f k) (g k))) := by
  induction l generalizing u with
  | nil => exact h
  | cons k l ih => exact ih (h.setReg _ _)

theorem reg_forEach_setReg {l : List Nat} {f : Nat → Nat} {g : Nat → Word} {a : Nat} (ha : a ∉ l.map f) :
    (s.forEach l (fun s k => s.setReg (f k) (g k))).reg a = s.reg a := by
  induction l generalizing s with
  | nil => rfl
  | cons k l ih =>
    obtain ⟨hk, hl⟩ : a ≠ f k ∧ a ∉ l.map f := by simpa [not_or] using ha
    exact (ih hl).trans (State.reg_setReg_ne s _ _ _ hk)

theorem admitAll_admitted (hperiods : ∀ k < 4, s.period k ≠ 0) : Admitted s (s.admitAll s.enabledClasses) := by
  have hnone : ((List.range 4).map s.period).any (fun n => n == 0) = false := by
    simpa [List.any_eq_false] using hperiods
  have hlt := admission_load_lt ((List.range 4).map (fun k => s.enabledClasses.count k)) ((List.range 4).map s.period)
  have hload : (admission ((List.range 4).map (fun k => s.enabledClasses.count k)) ((List.range 4).map s.period)).1 = s.admitLoad := rfl
  unfold State.admitAll State.admitWith
  rw [hnone, if_neg (by decide)]
  generalize admission _ _ = r at hlt hload
  obtain ⟨load, worst, loads⟩ := r
  obtain rfl : load = s.admitLoad := hload
  refine ⟨(regFrame_forEach_setReg (RegFrame.refl s)).setReg _ _, fun a ha => ?_, ?_, ?_⟩
  · obtain ⟨hadmit, hloads⟩ : a ≠ Reg.cenAdmit ∧ a ∉ [0, 1, 2, 3].map Reg.cenLoad := by simpa [admitRegs, not_or] using ha
    exact (State.reg_setReg_ne _ _ _ _ hadmit).trans (reg_forEach_setReg hloads)
  · rw [State.rf, State.reg_setReg_same, fld_admitWord hlt]
  · rw [State.rb, State.reg_setReg_same]
    exact bitOf_putBit _ 31 _ (by decide)

/-! ### What a write of CEN_CTRL comes to -/

theorem exec_cenRun {who : Init} (hmay : mayWrite who 7 s) (hrun : s.rb Reg.cenCtrl 0 = false) :
    exec (.cenRun who) s = s.cenRunWrite.done := by
  show execCenRun who s = _
  rw [execCenRun, State.guardWrite_eq (present_of_mem (by decide)) hmay]
  refine congrArg State.done ?_
  have h0 : bitOf (1 : Word) 0 = true := by decide
  have h1 : bitOf (1 : Word) 1 = false := by decide
  rw [State.cenCtrlWrite, h1, if_neg (by decide), h0, hrun]

theorem exec_cenStop {who : Init} (hmay : mayWrite who 7 s) (hrun : s.rb Reg.cenCtrl 0 = true) :
    exec (.cenStop who) s = s.cenHalt.done := by
  show execCenStop who s = _
  rw [execCenStop, State.guardWrite_eq (present_of_mem (by decide)) hmay]
  refine congrArg State.done ?_
  have hzero : ∀ i, bitOf (0 : Word) i = false := fun i => BitVec.getLsbD_zero
  rw [State.cenCtrlWrite, hzero, if_neg (by decide), hrun]

theorem exec_cenAdmit {who : Init} (hmay : mayWrite who 7 s) (hperiods : ∀ k < 4, s.period k ≠ 0) :
    exec (.cenAdmit who) s = (s.admitAll s.enabledClasses).done := by
  show execCenAdmit who s = _
  rw [execCenAdmit, State.guardWrite_eq (present_of_mem (by decide)) hmay]
  refine congrArg State.done ?_
  have hctrl : (s.admitAll s.enabledClasses).rb Reg.cenCtrl 0 = s.rb Reg.cenCtrl 0 :=
    congrArg (bitOf · 0) ((admitAll_admitted hperiods).regs _ (by decide))
  have h0 : bitOf (putBit 2 0 (s.rb Reg.cenCtrl 0)) 0 = s.rb Reg.cenCtrl 0 := bitOf_putBit _ 0 _ (by decide)
  have h1 : bitOf (putBit 2 0 (s.rb Reg.cenCtrl 0)) 1 = true := bitOf_putFld_apart _ 0 1 _ 1 (by decide) (by decide)
  rw [State.cenCtrlWrite, h1, if_pos rfl, hctrl, h0]
  cases s.rb Reg.cenCtrl 0 <;> rfl

/-- The periods keep R37, and so none is 0. -/
theorem period_ne_zero_of_periodsOk (h : periodsOk ((List.range 4).map s.period) = true) : ∀ k < 4, s.period k ≠ 0 := by
  simp only [periodsOk, Bool.and_eq_true, List.all_eq_true, List.mem_map, List.mem_range, forall_exists_index, and_imp,
    forall_apply_eq_imp_iff₂, bne_iff_ne] at h
  exact fun k hk => (h.2 k hk).2

/-! ### The start (R129, R133) -/

/-- What the frame plan's start changes over a state that differs from s in registers alone. -/
theorem cenStart_started (hframe : RegFrame s s u) (hown : u.reg Reg.sysOwn = s.reg Reg.sysOwn) :
    u.cenStart = { s with regs := u.cenStart.regs, cen := u.cenStart.cen } ∧ u.cenStart.cen.badLogged = [] ∧
      u.cenStart.cen.frames = [{}, {}, {}, {}] ∧ u.cenStart.cen.first = (List.range s.nSlots).filter s.slotRuns ∧
      u.cenStart.cen.trc = s.cen.trc := by
  have hruns : (u.setRb Reg.cenCtrl 0 true).slotRuns = s.slotRuns := by
    refine funext fun n => State.slotRuns_congr ?_ (State.word_congr ?_ _) ?_ ?_ ?_
    · rw [hframe]; rfl
    · rw [hframe]; rfl
    · exact (State.reg_setRb_ne _ _ _ _ _ (by decide)).trans hown
    · rw [hframe]; rfl
    · rw [hframe]; rfl
  have hslots : (u.setRb Reg.cenCtrl 0 true).nSlots = s.nSlots := by rw [hframe]; rfl
  refine ⟨?_, rfl, rfl, ?_, ?_⟩
  · unfold State.cenStart
    rw [hframe]
    rfl
  · show (List.range (u.setRb Reg.cenCtrl 0 true).nSlots).filter (u.setRb Reg.cenCtrl 0 true).slotRuns = _
    rw [hruns, hslots]
  · show u.cen.trc = _
    rw [hframe]
    rfl

theorem reg_cenStart {a : Nat} (ha : a ≠ Reg.cenCtrl) : u.cenStart.reg a = u.reg a := State.reg_setRb_ne u _ _ _ _ ha

theorem rb_cenStart : u.cenStart.rb Reg.cenCtrl 0 = true := State.rb_setRb u _ _ _ (by decide)

/-- A state that differs in registers of CEN's control alone: its end answers a frame and fires nothing. -/
theorem eventsFired_nil_of_regs {l : List Nat} (hframe : RegFrame s s u) (hregs : ∀ a, a ∉ l → u.reg a = s.reg a)
    (hl : ∀ a ∈ latchRegs, a ∉ l) : eventsFired s u.settle [] :=
  eventsFired_nil (by rw [hframe]) fun a ha => hregs a (hl a ha)

theorem eq_of_noted {t : State} (h : t = { s with regs := t.regs, cen := cenNoted s t }) : t = { s with regs := t.regs, cen := t.cen } :=
  h.trans (congrArg (fun x => ({ s with regs := t.regs, cen := x } : State)) (congrArg State.cen h).symm)

/-- A write of RUN = 1 where the periods do not keep R37 sets PERIOD_FAIL alone. -/
theorem answers_periodFail (hbad : periodsOk ((List.range 4).map s.period) = false) :
    (s.cenRunWrite.settle = { s with regs := s.cenRunWrite.settle.regs, cen := cenNoted s s.cenRunWrite.settle }) ∧
      eventsFired s s.cenRunWrite.settle [] ∧ s.cenRunWrite.settle.rb Reg.cenStat 9 = true ∧ regsKept s s.cenRunWrite.settle [Reg.cenStat] := by
  have hwrite : s.cenRunWrite = s.setRb Reg.cenStat 9 true := by rw [State.cenRunWrite, hbad]; rfl
  rw [hwrite]
  have hregs : ∀ a, a ∉ [Reg.cenStat] → (s.setRb Reg.cenStat 9 true).reg a = s.reg a := fun a ha =>
    State.reg_setRb_ne s _ _ _ _ (by simpa using ha)
  exact ⟨((RegFrame.refl s).setReg _ _).settle, eventsFired_nil_of_regs ((RegFrame.refl s).setReg _ _) hregs (by decide),
    (State.rb_settle (by decide) 9).trans (State.rb_setRb s _ _ _ (by decide)), regsKept_settle fun a ha _ => hregs a ha⟩

section
variable (hok : periodsOk ((List.range 4).map s.period) = true)
include hok

theorem cenRunWrite_ok :
    s.cenRunWrite = if (s.admitAll s.enabledClasses).rb Reg.cenAdmit 31 then (s.admitAll s.enabledClasses).cenStart
      else (s.admitAll s.enabledClasses).setRb Reg.cenStat 8 true := by
  rw [State.cenRunWrite, hok]
  rfl

/-- A load that admission refuses: ADMIT_FAIL and the report (R122). -/
theorem answers_admitFail (hload : 8500 < s.admitLoad) :
    (s.cenRunWrite.settle = { s with regs := s.cenRunWrite.settle.regs, cen := cenNoted s s.cenRunWrite.settle }) ∧
      eventsFired s s.cenRunWrite.settle [] ∧ s.cenRunWrite.settle.rb Reg.cenStat 8 = true ∧
      s.cenRunWrite.settle.rb Reg.cenAdmit 31 = false ∧ s.cenRunWrite.settle.rf Reg.cenAdmit 0 16 = s.admitLoad ∧
      regsKept s s.cenRunWrite.settle ([Reg.cenStat, Reg.cenAdmit] ++ [0, 1, 2, 3].map Reg.cenLoad) := by
  obtain ⟨hframe, hregs, hval, hverdict⟩ := admitAll_admitted (period_ne_zero_of_periodsOk hok)
  have hrefused : (s.admitAll s.enabledClasses).rb Reg.cenAdmit 31 = false := by rw [hverdict]; simpa using hload
  rw [cenRunWrite_ok hok, hrefused, if_neg (by decide)]
  generalize s.admitAll s.enabledClasses = u at hframe hregs hval hrefused
  have hother : ∀ a, a ≠ Reg.cenStat → (u.setRb Reg.cenStat 8 true).reg a = u.reg a := fun a => State.reg_setRb_ne u _ _ _ a
  have hall : ∀ a, a ∉ Reg.cenStat :: admitRegs → (u.setRb Reg.cenStat 8 true).reg a = s.reg a := fun a ha => by
    obtain ⟨h1, h2⟩ := List.ne_and_not_mem_of_not_mem_cons ha
    exact (hother a h1).trans (hregs a h2)
  refine ⟨(hframe.setReg _ _).settle, eventsFired_nil_of_regs (hframe.setReg _ _) hall (by decide),
    (State.rb_settle (by decide) 8).trans (State.rb_setRb u _ _ _ (by decide)), ?_, ?_, regsKept_settle fun a ha _ => hall a ha⟩
  · exact (State.rb_settle (by decide) 31).trans ((congrArg (bitOf · 31) (hother _ (by decide))).trans hrefused)
  · exact (State.rf_settle (by decide) 0 16).trans ((congrArg (fld · 0 16) (hother _ (by decide))).trans hval)

/-- A load that admission takes: the frame plan starts (R129). -/
theorem answers_admitted (hload : s.admitLoad ≤ 8500) :
    (s.cenRunWrite.settle = { s with regs := s.cenRunWrite.settle.regs, cen := s.cenRunWrite.settle.cen }) ∧
      eventsFired s s.cenRunWrite.settle [] ∧ s.cenRunWrite.settle.rb Reg.cenCtrl 0 = true ∧
      s.cenRunWrite.settle.rb Reg.cenAdmit 31 = true ∧ s.cenRunWrite.settle.rf Reg.cenAdmit 0 16 = s.admitLoad ∧
      s.cenRunWrite.settle.cen.badLogged = [] ∧ s.cenRunWrite.settle.cen.frames = [{}, {}, {}, {}] ∧
      s.cenRunWrite.settle.cen.first = (List.range s.nSlots).filter s.slotRuns ∧ s.cenRunWrite.settle.cen.trc = s.cen.trc ∧
      regsKept s s.cenRunWrite.settle ([Reg.cenCtrl, Reg.cenAdmit] ++ [0, 1, 2, 3].map Reg.cenLoad) := by
  obtain ⟨hframe, hregs, hval, hverdict⟩ := admitAll_admitted (period_ne_zero_of_periodsOk hok)
  have htaken : (s.admitAll s.enabledClasses).rb Reg.cenAdmit 31 = true := by rw [hverdict]; simpa using hload
  rw [cenRunWrite_ok hok, htaken, if_pos rfl]
  generalize s.admitAll s.enabledClasses = u at hframe hregs hval htaken
  obtain ⟨hbase, hbad, hframes, hfirst, htrc⟩ := cenStart_started hframe (hregs _ (by decide))
  have hall : ∀ a, a ∉ Reg.cenCtrl :: admitRegs → u.cenStart.reg a = s.reg a := fun a ha => by
    obtain ⟨h1, h2⟩ := List.ne_and_not_mem_of_not_mem_cons ha
    exact (reg_cenStart h1).trans (hregs a h2)
  have hcen := State.settle_cen u.cenStart
  refine ⟨State.settle_eq_of_cen hbase, eventsFired_nil (by rw [hbase]) fun a ha => hall a (by revert a; decide),
    (State.rb_settle (by decide) 0).trans rb_cenStart, ?_, ?_, by rw [hcen]; exact hbad, by rw [hcen]; exact hframes,
    by rw [hcen]; exact hfirst, by rw [hcen]; exact htrc, regsKept_settle fun a ha _ => hall a ha⟩
  · exact (State.rb_settle (by decide) 31).trans ((congrArg (bitOf · 31) (reg_cenStart (by decide))).trans htaken)
  · exact (State.rf_settle (by decide) 0 16).trans ((congrArg (fld · 0 16) (reg_cenStart (by decide))).trans hval)

end

/-! ### The stop (R126) -/

theorem cenHalt_eq :
    s.cenHalt = { (s.setRb Reg.cenCtrl 0 false) with
      mem := ((s.setRb Reg.cenCtrl 0 false).pendCleared ((List.range s.nSlots).filter s.slotPend)).mem,
      cen := { s.cen with frames := [{}, {}, {}, {}] } } := by
  have hclear := pendCleared_eq (s := s.setRb Reg.cenCtrl 0 false) ((List.range s.nSlots).filter s.slotPend)
  have hhalt : s.cenHalt = { ((s.setRb Reg.cenCtrl 0 false).pendCleared ((List.range s.nSlots).filter s.slotPend)) with
      cen := { ((s.setRb Reg.cenCtrl 0 false).pendCleared ((List.range s.nSlots).filter s.slotPend)).cen with
        frames := [{}, {}, {}, {}] } } := rfl
  rw [hhalt]
  generalize (s.setRb Reg.cenCtrl 0 false).pendCleared ((List.range s.nSlots).filter s.slotPend) = u at hclear ⊢
  rw [hclear]
  rfl

theorem answers_cenStop {who : Init} (hmay : mayWrite who 7 s) (hrun : s.rb Reg.cenCtrl 0 = true) :
    ∃ t, exec (.cenStop who) s = .next t ∧
      t = { s with regs := t.regs, mem := t.mem, cen := { cenNoted s t with frames := [{}, {}, {}, {}] } } ∧
      t.rb Reg.cenCtrl 0 = false ∧ (∀ n, n < s.nSlots → t.slotPend n = false ∧ t.word (slotState n) = s.word (slotState n)) ∧
      memKept s t 0x40020000 0x40030000 ∧ regsKept s t [Reg.cenCtrl] ∧ eventsFired s t [] := by
  have hslots := nSlots_le s
  have hhalt := cenHalt_eq (s := s)
  have hmem : s.cenHalt.settle.mem = ((s.setRb Reg.cenCtrl 0 false).pendCleared ((List.range s.nSlots).filter s.slotPend)).mem := by
    rw [State.settle_mem, hhalt]
  have hbyte : ∀ a, (∀ n < 1024, ¬(slotState n + 0x30 ≤ a ∧ a < slotState n + 0x34)) → s.cenHalt.settle.byte a = s.byte a := fun a ha =>
    (State.byte_congr hmem a).trans ((byte_pendCleared fun n hn => ha n (by simp at hn; omega)).trans rfl)
  have hregs : ∀ a, a ≠ Reg.cenCtrl → s.cenHalt.reg a = s.reg a := fun a ha => by
    rw [hhalt]
    exact State.reg_setRb_ne s _ _ _ _ ha
  refine ⟨_, exec_cenStop hmay hrun, ?_, ?_, fun n hn => ⟨?_, ?_⟩, fun a ha => hbyte a fun n hn => ?_,
    regsKept_settle fun a ha _ => hregs a (by simpa using ha), eventsFired_nil (by rw [hhalt]; rfl) fun a ha => hregs a (by revert a; decide)⟩
  · have hsettle := State.settle_eq s.cenHalt
    generalize s.cenHalt.settle = t at hsettle ⊢
    rw [hsettle, hhalt]
    rfl
  · rw [State.rb_settle (by decide), hhalt]
    exact State.rb_setRb s _ _ _ (by decide)
  · have hctrl : (s.setRb Reg.cenCtrl 0 false).slotPend n = s.slotPend n := State.slotPend_congr rfl n
    rw [State.slotPend_congr hmem, slotPend_pendCleared, hctrl]
    cases hpend : s.slotPend n <;> simp [hn, hpend]
  · exact State.word_of_bytes fun i hi => hbyte _ fun m _ => by unfold slotState; omega
  · unfold slotState
    omega

/-! ### The statement -/

theorem exec_cenPeriodWrite {who : Init} {k : Nat} (v : Word) (hk : k < 4) (hmay : mayWrite who 7 s) :
    exec (.cenPeriodWrite who k v) s =
      (if s.rb Reg.cenCtrl 0 then s.setRb Reg.cenStat 11 true else s.setReg (Reg.cenPeriod k) (v &&& 0x1FFFFF)).done := by
  have hmod : k % 4 = k := Nat.mod_eq_of_lt hk
  refine congrArg State.done ((State.guardWrite_eq (present_of_mem (by decide)) hmay).trans ?_)
  show s.cenPeriodWr (k % 4) v = _
  rw [hmod, State.cenPeriodWr]

theorem answers_cenRun {who : Init} (hmay : mayWrite who 7 s) (hrun : s.rb Reg.cenCtrl 0 = false) :
    ∃ t, exec (.cenRun who) s = .next t ∧ t = { s with regs := t.regs, cen := t.cen } ∧ eventsFired s t [] ∧
      (periodsOk ((List.range 4).map s.period) = false → t.rb Reg.cenStat 9 = true ∧ t.cen = cenNoted s t ∧ regsKept s t [Reg.cenStat]) ∧
      (periodsOk ((List.range 4).map s.period) = true → s.admitLoad ≤ 8500 →
        t.rb Reg.cenCtrl 0 = true ∧ t.rb Reg.cenAdmit 31 = true ∧ t.rf Reg.cenAdmit 0 16 = s.admitLoad ∧
        t.cen.badLogged = [] ∧ t.cen.frames = [{}, {}, {}, {}] ∧ t.cen.first = (List.range s.nSlots).filter s.slotRuns ∧
        t.cen.trc = s.cen.trc ∧ regsKept s t ([Reg.cenCtrl, Reg.cenAdmit] ++ [0, 1, 2, 3].map Reg.cenLoad)) ∧
      (periodsOk ((List.range 4).map s.period) = true → 8500 < s.admitLoad →
        t.rb Reg.cenStat 8 = true ∧ t.rb Reg.cenAdmit 31 = false ∧ t.rf Reg.cenAdmit 0 16 = s.admitLoad ∧
        t.cen = cenNoted s t ∧ regsKept s t ([Reg.cenStat, Reg.cenAdmit] ++ [0, 1, 2, 3].map Reg.cenLoad)) := by
  refine ⟨_, exec_cenRun hmay hrun, ?_⟩
  cases hok : periodsOk ((List.range 4).map s.period) with
  | false =>
    obtain ⟨hframe, hfired, hfail, hkept⟩ := answers_periodFail hok
    exact ⟨eq_of_noted hframe, hfired, fun _ => ⟨hfail, congrArg State.cen hframe, hkept⟩, nofun, nofun⟩
  | true =>
    by_cases hload : s.admitLoad ≤ 8500
    · obtain ⟨hframe, hfired, hstarted⟩ := answers_admitted hok hload
      exact ⟨hframe, hfired, nofun, fun _ _ => hstarted, fun _ h => absurd hload (by omega)⟩
    · obtain ⟨hframe, hfired, hfail, hverdict, hval, hkept⟩ := answers_admitFail hok (by omega)
      exact ⟨eq_of_noted hframe, hfired, nofun, fun _ h => absurd h hload,
        fun _ _ => ⟨hfail, hverdict, hval, congrArg State.cen hframe, hkept⟩⟩

theorem answers_cenAdmit {who : Init} (hmay : mayWrite who 7 s) (hperiods : ∀ k < 4, s.period k ≠ 0) :
    ∃ t, exec (.cenAdmit who) s = .next t ∧ t = { s with regs := t.regs, cen := cenNoted s t } ∧
      t.rf Reg.cenAdmit 0 16 = s.admitLoad ∧ regsKept s t (Reg.cenAdmit :: [0, 1, 2, 3].map Reg.cenLoad) ∧ eventsFired s t [] := by
  obtain ⟨hframe, hregs, hval, -⟩ := admitAll_admitted hperiods
  exact ⟨_, exec_cenAdmit hmay hperiods, hframe.settle, (State.rf_settle (by decide) 0 16).trans hval,
    regsKept_settle fun a ha _ => hregs a ha, eventsFired_nil_of_regs hframe hregs (by decide)⟩

theorem answers_cenPeriodWrite {who : Init} {k : Nat} (v : Word) (hk : k < 4) (hmay : mayWrite who 7 s) :
    ∃ t, exec (.cenPeriodWrite who k v) s = .next t ∧ t = { s with regs := t.regs, cen := cenNoted s t } ∧ eventsFired s t [] ∧
      (s.rb Reg.cenCtrl 0 = false → t.reg (Reg.cenPeriod k) = v &&& 0x1FFFFF ∧ regsKept s t [Reg.cenPeriod k]) ∧
      (s.rb Reg.cenCtrl 0 = true → t.rb Reg.cenStat 11 = true ∧ regsKept s t [Reg.cenStat]) := by
  have hexec := exec_cenPeriodWrite v hk hmay
  cases hrun : s.rb Reg.cenCtrl 0 with
  | false =>
    rw [hrun, if_neg (by decide)] at hexec
    obtain ⟨t, hnext, hframe, hval, hkept, hfired⟩ :=
      answers_setReg (cenReg_notMem_latch (by simp only [Reg.cenPeriod]; omega)) hexec
    exact ⟨t, hnext, hframe, hfired, fun _ => ⟨hval, hkept⟩, nofun⟩
  | true =>
    rw [hrun, if_pos rfl] at hexec
    obtain ⟨t, hnext, hframe, hval, hkept, hfired⟩ := answers_setReg (by decide) hexec
    refine ⟨t, hnext, hframe, hfired, nofun, fun _ => ⟨?_, hkept⟩⟩
    rw [State.rb, hval]
    exact bitOf_putBit _ 11 true (by decide)

/-- Settles O13: admission, the start, the stop and a period write each come to registers of CEN, its frames, and the PEND bits. -/
theorem controlEngineRunAndPeriods : Obligations.ControlEngineRunAndPeriods :=
  ⟨fun _ _ hmay hrun => answers_cenRun hmay hrun, fun _ _ hmay hrun => answers_cenStop hmay hrun,
    fun _ _ hmay hperiods => answers_cenAdmit hmay hperiods, fun _ _ v _ hk hmay => answers_cenPeriodWrite v hk hmay⟩

end Sys2Proof.Machine
end

section
/-! PROOFS. A class-0 boundary with nothing waiting: its commits, and an overrun (R38, R39, R44, R45, R109, R124). -/

namespace Sys2Proof.Machine

variable {s u : State}

/-! ### What a boundary comes to -/

theorem State.forEach_eq_self {l : List Nat} {f : State → Nat → State} (h : ∀ n ∈ l, f s n = s) : s.forEach l f = s := by
  induction l with
  | nil => rfl
  | cons n l ih =>
    rw [State.forEach, List.foldl_cons, h n (by simp)]
    exact ih fun m hm => h m (by simp [hm])

/-- A class-0 boundary that is due after shakeout on a chip outside a flask, with no commit waiting for it, no wake, and no output
tick. -/
structure PlainBoundary (s : State) : Prop where
  due : s.boundaryDue = true
  live : s.shakeStep = 12
  solo : s.isTwin = false
  runs : s.rb Reg.cenCtrl 0 = true
  starts : s.startingClasses = [0]
  own : s.od.ownPending = none
  startup : s.od.startup = none
  fns : ∀ f ∈ fnAll, (s.fn f).state ≠ 3 ∧ (s.fn f).ready = false
  wake : s.pwr.wakeTicks = none
  ticked : s.act.tickDue = false

/-- The boundary of this tick is taken. -/
def State.boundaryTaken (s : State) : State := { s with cen := { s.cen with lastBoundary := some s.now } }

/-- No function, no mask and no start of shakeout waits. -/
theorem pendingCommits_eq_self (hown : s.od.ownPending = none) (hstartup : s.od.startup = none)
    (hfns : ∀ f ∈ fnAll, (s.fn f).state ≠ 3 ∧ (s.fn f).ready = false) : s.pendingCommits = s := by
  have htake : s.ownTake = s := by rw [State.ownTake, hown]
  have hstop : s.forEach fnAll State.fnCommitStop = s := State.forEach_eq_self fun f hf => by
    have hstate : ((s.fn f).state != 3) = true := by simpa using (hfns f hf).1
    rw [State.fnCommitStop, if_pos hstate]
  have hstart : s.forEach fnAll State.fnCommitStart = s := State.forEach_eq_self fun f hf => by
    rw [State.fnCommitStart, (hfns f hf).2]
    rfl
  have hnone : s.od.startup.isSome = false := by rw [hstartup]; rfl
  rw [State.pendingCommits, hnone, Bool.false_and, if_neg Bool.false_ne_true, State.boundaryCommits, htake, hstop, hnone,
    if_neg Bool.false_ne_true, hstart]

/-- What follows the frames of a boundary finds nothing to do. -/
theorem afterFrames_eq_self (hlive : u.shakeStep = 12) (hsolo : u.isTwin = false) (hwake : u.pwr.wakeTicks = none)
    (hticked : u.act.tickDue = false) : u.outputsLive.wakeBoundary.outTicksDue.boundaryTokens [0] = u := by
  have hout : u.outputsLive = u := by
    unfold State.outputsLive
    cases u.pwr.b1 <;> simp [hlive]
  rw [hout, State.wakeBoundary, hwake]
  simp [State.outTicksDue, hticked, State.boundaryTokens, hsolo]

/-- What a boundary that is due does after it has been taken (R38, R39). -/
def State.boundaryWork (s : State) (ks : List Nat) : State :=
  let s := (if s.isStandby then s.forEach ks State.graftsLate else s).pendingCommits.convergeRefresh
  (if s.rb Reg.cenCtrl 0 then s.boundary ks else s).outputsLive.wakeBoundary.outTicksDue.boundaryTokens ks

theorem execFrameBoundary_eq (hdue : s.boundaryDue = true) :
    execFrameBoundary s = (s.boundaryTaken.boundaryWork s.startingClasses).done := by
  rw [execFrameBoundary, if_pos hdue]
  rfl

/-- Such a boundary comes to what it does with the frames. -/
theorem exec_frameBoundary (h : PlainBoundary s) (hframes : s.boundaryTaken.boundary [0] = u)
    (hu : u = { s with regs := u.regs, mem := u.mem, log := u.log, cen := u.cen }) (hshake : u.reg Reg.pwrShake = s.reg Reg.pwrShake)
    (htwin : u.reg Reg.twnStat = s.reg Reg.twnStat) : exec .frameBoundary s = u.done := by
  have hlive : u.shakeStep = 12 := by
    rw [State.shakeStep, State.rf, hshake]
    exact h.live
  have hsolo : u.isTwin = false := by
    have hvariant : u.variant = s.variant := by rw [hu]
    simp only [State.isTwin, State.rf, State.present, htwin, hvariant]
    exact h.solo
  have hwake : u.pwr.wakeTicks = none := (congrArg (fun v : State => v.pwr.wakeTicks) hu).trans h.wake
  have hticked : u.act.tickDue = false := (congrArg (fun v : State => v.act.tickDue) hu).trans h.ticked
  have hstandby : s.boundaryTaken.isStandby = false := by
    have hsolo : s.boundaryTaken.isTwin = false := h.solo
    rw [State.isStandby, hsolo, Bool.false_and]
  have hpending : s.boundaryTaken.pendingCommits = s.boundaryTaken := pendingCommits_eq_self h.own h.startup h.fns
  have hconverge : s.boundaryTaken.convergeRefresh = s.boundaryTaken := by
    rw [State.convergeRefresh, State.mixedStandby, hstandby]
    rfl
  have hruns : s.boundaryTaken.rb Reg.cenCtrl 0 = true := h.runs
  show execFrameBoundary s = _
  rw [execFrameBoundary_eq h.due, h.starts, State.boundaryWork, hstandby, if_neg Bool.false_ne_true, hpending, hconverge, if_pos hruns,
    hframes, afterFrames_eq_self hlive hsolo hwake hticked]

/-! ### The frame of class 0 -/

theorem frame_setFrame_zero (f : FrameSt) (h : 0 < s.cen.frames.length) : (s.setFrame 0 f).frame 0 = f := by
  show (s.cen.frames.set 0 f).getD 0 {} = f
  rw [List.getD_eq_getElem?_getD, List.getElem?_set_self h, Option.getD_some]

/-- While class 0 evaluates and has slots to evaluate, no frame completes (R115, R116). -/
theorem frameAdvance_eq_self (hbusy : (s.frame 0).busy = true) (htodo : (s.frame 0).todo ≠ []) : s.frameAdvance = s := by
  refine State.forEach_eq_self (l := [0, 1, 2, 3])
    (f := fun s k => if (s.frame k).busy && (s.frame k).todo.isEmpty && !((List.range k).any (fun j => (s.frame j).busy)) then s.frameDone k else s)
    fun k _ => if_neg ?_
  rcases Nat.eq_zero_or_pos k with rfl | hk
  · simp [htodo]
  · have hblocked : (List.range k).any (fun j => (s.frame j).busy) = true := List.any_eq_true.mpr ⟨0, List.mem_range.mpr hk, hbusy⟩
    simp [hblocked]

/-- A class-0 boundary that finds its frame complete (R39). -/
theorem boundary_ok (h : (s.frame 0).busy = false) : s.boundary [0] = ((s.commitClasses [0]).openFrame 0).frameAdvance := by
  have hlate : [0].filter (fun k => (s.frame k).busy) = [] := by simp [h]
  have hok : [0].filter (fun k => !(s.frame k).busy) = [0] := by simp [h]
  have hnone : s.forEach [] State.overrun = s := by rw [State.forEach, List.foldl_nil]
  have hone : ∀ v : State, v.forEach [0] State.openFrame = v.openFrame 0 := fun v => by rw [State.forEach, List.foldl_cons, List.foldl_nil]
  rw [State.boundary, hlate, hok, hnone, hone]

theorem commitClasses_nil : s.commitClasses [] = s := by
  have hslots : (List.range s.nSlots).filter (fun n => ([] : List FrameSt).any (fun f => f.evald.contains n)) = [] := by simp
  simp only [State.commitClasses, List.map_nil, List.filter_nil, hslots]
  rfl

/-- A class-0 boundary that finds its frame unfinished (R45). -/
theorem boundary_late (h : (s.frame 0).busy = true) : s.boundary [0] = (s.overrun 0).frameAdvance := by
  have hlate : [0].filter (fun k => (s.frame k).busy) = [0] := by simp [h]
  have hok : [0].filter (fun k => !(s.frame k).busy) = [] := by simp [h]
  have hone : s.forEach [0] State.overrun = s.overrun 0 := by rw [State.forEach, List.foldl_cons, List.foldl_nil]
  have hnone : ∀ v : State, v.forEach [] State.openFrame = v := fun v => by rw [State.forEach, List.foldl_nil]
  rw [State.boundary, hlate, hok, hone, commitClasses_nil, hnone]

/-! ### The commit of one slot (R109) -/

/-- U of slot n takes U_PEND, and its PEND clears. -/
def State.slotCommitted (s : State) (n : Nat) : State := (s.setSstat n 5 false).setWord (slotState n) (s.slotWord n 4)

theorem slotCommitted_eq (n : Nat) : s.slotCommitted n = { s with mem := (s.slotCommitted n).mem } := by
  have hsstat := setSstat_eq (s := s) n 5 false
  have hword := State.setWord_eq (s := s.setSstat n 5 false) (slotState n) (s.slotWord n 4)
  rw [State.slotCommitted, hword, hsstat]

theorem slotCommitted_cen (n : Nat) : (s.slotCommitted n).cen = s.cen := by simp [State.slotCommitted, State.setSstat]

theorem slotCommitted_variant (n : Nat) : (s.slotCommitted n).variant = s.variant := by simp [State.slotCommitted, State.setSstat]

theorem byte_slotCommitted {n a : Nat} (hstate : ¬(slotState n ≤ a ∧ a < slotState n + 4))
    (hstat : ¬(slotState n + 0x30 ≤ a ∧ a < slotState n + 0x34)) : (s.slotCommitted n).byte a = s.byte a :=
  (State.byte_setWord_apart _ _ _ _ (by omega)).trans (byte_setSstat n 5 false hstat)

theorem coef_slotCommitted (n : Nat) {m : Nat} (hm : m < 1024) : (s.slotCommitted n).coef m 0 = s.coef m 0 :=
  State.word_of_bytes fun i hi => byte_slotCommitted (by unfold slotState slotCoef; omega) (by unfold slotState slotCoef; omega)

theorem word_slotCommitted (n : Nat) : (s.slotCommitted n).word (slotState n) = s.word (slotState n + 4) := State.word_setWord _ _ _

theorem slotPend_slotCommitted (n : Nat) : (s.slotCommitted n).slotPend n = false := by
  have hsame : (s.slotCommitted n).slotPend n = (s.setSstat n 5 false).slotPend n :=
    congrArg (bitOf · 5) (State.word_setWord_apart _ _ _ _ (by unfold slotState; omega))
  rw [hsame, slotPend_setSstat]
  simp

theorem lt_nSlots_of_slotRuns {n : Nat} (h : s.slotRuns n = true) : n < s.nSlots := by
  simp only [State.slotRuns, State.slotOn, Bool.and_eq_true, decide_eq_true_eq] at h
  exact h.1.1

/-- Memory written in the state words of slots alone leaves the running set. -/
theorem slotRuns_of_mem (hu : u = { s with mem := u.mem }) {m : Nat} (hcoef : u.coef m 0 = s.coef m 0) : u.slotRuns m = s.slotRuns m := by
  refine State.slotRuns_congr ?_ hcoef ?_ ?_ ?_ <;> rw [hu]
  rfl

/-- The commit of a running slot that names no destination. -/
theorem commitSlot_none {n : Nat} {dest : Word} (hpend : s.slotPend n = true) (hruns : s.slotRuns n = true) (hdest : fld dest 0 3 = 0) :
    s.commitSlot n dest = s.slotCommitted n := by
  have hn := Nat.lt_of_lt_of_le (lt_nSlots_of_slotRuns hruns) (nSlots_le s)
  have hruns' : (s.setSstat n 5 false).slotRuns n = true :=
    (slotRuns_of_mem (setSstat_eq n 5 false)
      (State.word_setWord_apart _ _ _ _ (by unfold slotState slotCoef; omega))).trans hruns
  have hword : (s.setSstat n 5 false).slotWord n 4 = s.slotWord n 4 := State.word_setWord_apart _ _ _ _ (by unfold slotState; omega)
  have hnone : ∀ v : State, (v.destination dest).1 = .none := fun v => by
    rw [State.destination, hdest]
    rfl
  simp only [State.commitSlot, hpend, hruns', hnone, hword, Bool.not_true, Bool.false_eq_true, if_false]
  rfl

/-- The commits of a complete class-0 frame with one pending slot (R39, R109). -/
theorem commitClasses_one {n : Nat} (hready : (s.frame 0).ready = true) (hevald : (s.frame 0).evald = [n])
    (hpend : s.slotPend n = true) (hruns : s.slotRuns n = true) (hdest : fld (recGet 0 (s.frame 0).dests n) 0 3 = 0) :
    s.commitClasses [0] = (s.slotCommitted n).setFrame 0 { s.frame 0 with ready := false } := by
  have hframes : ([0].map s.frame).filter (fun f => f.ready) = [s.frame 0] := by simp [hready]
  have hdests : [s.frame 0].flatMap (fun f => f.dests) = (s.frame 0).dests := by simp
  have hslots : (List.range s.nSlots).filter (fun m => [s.frame 0].any (fun f => f.evald.contains m)) = [n] := by
    have hbeq : (fun m => [s.frame 0].any (fun f => f.evald.contains m)) = (fun m => m == n) := by
      funext m
      simp [hevald, Bool.beq_eq_decide_eq]
    have hcount : (List.range s.nSlots).count n = 1 :=
      List.count_eq_one_of_mem List.nodup_range (List.mem_range.mpr (lt_nSlots_of_slotRuns hruns))
    rw [hbeq, List.filter_beq, hcount, List.replicate_one]
  have hframe : (s.slotCommitted n).frame 0 = s.frame 0 := congrArg (fun c : CenSt => c.frames.getD 0 {}) (slotCommitted_cen n)
  simp only [State.commitClasses, hframes, hdests, hslots, State.forEach, List.foldl_cons, List.foldl_nil, commitSlot_none hpend hruns hdest,
    hframe]

theorem openFrame_setFrame (f : FrameSt) :
    (s.setFrame 0 f).openFrame 0 =
      s.setFrame 0 { busy := true, todo := s.runningSlots 0, tick := s.tb.count, snap := Tab.keep s.mem isSnapped } := by
  have hrunning : (s.setFrame 0 f).runningSlots 0 = s.runningSlots 0 := rfl
  rw [State.openFrame, hrunning]
  simp only [State.setFrame, List.set_set]

/-- After the commit a new frame opens over the running slots (R39, R107). -/
theorem boundary_commits {n : Nat} (hbusy : (s.frame 0).busy = false) (hready : (s.frame 0).ready = true) (hevald : (s.frame 0).evald = [n])
    (hpend : s.slotPend n = true) (hruns : s.slotRuns n = true) (hclass : s.slotClass n = 0)
    (hdest : fld (recGet 0 (s.frame 0).dests n) 0 3 = 0) (hfour : s.cen.frames.length = 4) :
    ∃ f : FrameSt, f.busy = true ∧ f.todo = s.runningSlots 0 ∧ f.tick = s.tb.count ∧
      s.boundary [0] = { s with mem := (s.slotCommitted n).mem, cen := { s.cen with frames := s.cen.frames.set 0 f } } := by
  have hslots := nSlots_le s
  have heq := slotCommitted_eq (s := s) n
  have hrunning : (s.slotCommitted n).runningSlots 0 = s.runningSlots 0 := by
    have hn : (s.slotCommitted n).nSlots = s.nSlots := by
      rw [State.nSlots, State.nSlots, State.present, State.present, slotCommitted_variant]
    rw [State.runningSlots, State.runningSlots, hn]
    refine List.filter_congr fun m hm => ?_
    have hcoef := coef_slotCommitted (s := s) n (m := m) (by have := List.mem_range.mp hm; omega)
    rw [slotRuns_of_mem heq hcoef, State.slotClass, hcoef, State.slotClass]
  have hmem : n ∈ s.runningSlots 0 :=
    List.mem_filter.mpr ⟨List.mem_range.mpr (lt_nSlots_of_slotRuns hruns), by simp [hruns, hclass]⟩
  refine ⟨{ busy := true, todo := s.runningSlots 0, tick := s.tb.count, snap := Tab.keep (s.slotCommitted n).mem isSnapped }, rfl, rfl, rfl, ?_⟩
  have hreopened := openFrame_setFrame (s := s.slotCommitted n) { s.frame 0 with ready := false }
  have htb : (s.slotCommitted n).tb = s.tb := by simp [State.slotCommitted, State.setSstat]
  rw [boundary_ok hbusy, commitClasses_one hready hevald hpend hruns hdest, hreopened, hrunning, htb, frameAdvance_eq_self]
  · generalize s.slotCommitted n = u at heq
    rw [heq]
    rfl
  · rw [frame_setFrame_zero]
    simp [slotCommitted_cen, hfour]
  · rw [frame_setFrame_zero]
    · exact List.ne_nil_of_mem hmem
    · simp [slotCommitted_cen, hfour]

/-! ### The statement -/

theorem answers_commits {n : Nat} (h : PlainBoundary s) (hfour : s.cen.frames.length = 4) (hbusy : (s.frame 0).busy = false)
    (hready : (s.frame 0).ready = true) (hevald : (s.frame 0).evald = [n]) (hpend : s.slotPend n = true) (hruns : s.slotRuns n = true)
    (hclass : s.slotClass n = 0) (hdest : fld (recGet 0 (s.frame 0).dests n) 0 3 = 0) :
    ∃ t, exec .frameBoundary s = .next t ∧ t = { s with regs := t.regs, mem := t.mem, cen := t.cen } ∧
      t.cen = { cenNoted s t with frames := t.cen.frames, lastBoundary := some s.now } ∧ t.word (slotState n) = s.word (slotState n + 4) ∧
      t.slotPend n = false ∧ (∀ a, isSnapped a = true → ¬(slotState n ≤ a ∧ a < slotState n + 4) → t.byte a = s.byte a) ∧
      memKept s t 0x40020000 0x40030000 ∧ (t.frame 0).busy = true ∧ (t.frame 0).todo = s.runningSlots 0 ∧
      (t.frame 0).tick = s.tb.count ∧ regsKept s t [] ∧ eventsFired s t [] := by
  have hn := Nat.lt_of_lt_of_le (lt_nSlots_of_slotRuns hruns) (nSlots_le s)
  obtain ⟨f, hopen, htodo, htick, hframes⟩ :=
    boundary_commits (s := s.boundaryTaken) hbusy hready hevald hpend hruns hclass hdest hfour
  generalize hm : (s.boundaryTaken.slotCommitted n).mem = m at hframes
  generalize hu : s.boundaryTaken.boundary [0] = u at hframes
  have hcen : u.cen = { s.cen with frames := s.cen.frames.set 0 f, lastBoundary := some s.now } := congrArg State.cen hframes
  have humem : u.mem = m := congrArg State.mem hframes
  have hregs : u.regs = s.regs := by
    rw [hframes]
    rfl
  have hframe : u = { s with regs := u.regs, mem := u.mem, cen := u.cen } := by
    rw [hframes]
    rfl
  have hsettle : u.settle.mem = (s.boundaryTaken.slotCommitted n).mem := (State.settle_mem u).trans (humem.trans hm.symm)
  have hbyte : ∀ a, u.settle.byte a = (s.boundaryTaken.slotCommitted n).byte a := State.byte_congr hsettle
  have hopened : u.settle.frame 0 = f := by
    rw [State.frame, State.settle_cen, cenNoted, hcen, List.getD_eq_getElem?_getD, List.getElem?_set_self (by omega), Option.getD_some]
  refine ⟨_, exec_frameBoundary h hu (by rw [hframe]) (State.reg_congr hregs _) (State.reg_congr hregs _), ?_⟩
  have hend := State.settle_eq_of_cen (v := { s with mem := u.mem }) hframe
  rw [← State.settle_mem u] at hend
  refine ⟨hend, ?_, ?_, ?_, fun a ha hout => ?_, fun a ha => ?_, ?_⟩
  · rw [State.settle_cen u, cenNoted, cenNoted, hcen]
  · exact (State.word_congr hsettle _).trans (word_slotCommitted n)
  · exact (State.slotPend_congr hsettle n).trans (slotPend_slotCommitted n)
  · refine (hbyte a).trans ((byte_slotCommitted hout ?_).trans rfl)
    simp only [isSnapped, Bool.or_eq_true, Bool.and_eq_true, decide_eq_true_eq] at ha
    unfold slotState
    omega
  · exact (hbyte a).trans ((byte_slotCommitted (by unfold slotState; omega) (by unfold slotState; omega)).trans rfl)
  · rw [hopened]
    exact ⟨hopen, htodo, htick, regsKept_refl _ hregs, eventsFired_nil (by rw [hframe]) fun a _ => State.reg_congr hregs a⟩

/-- The frame of class 0 is marked as overrun. -/
def State.overrunMarked (s : State) : State := s.setFrame 0 { s.frame 0 with ovr := true }

/-- An unfinished frame is marked, and the overrun counted (R45, R124). -/
def State.overrunCounted (s : State) : State := (s.overrunMarked.incSat (Reg.cenOvr 0) 1).fire 4

theorem overrun_again (h : (s.frame 0).ovr = true) : s.overrun 0 = s.overrunCounted := by
  rw [State.overrun, h, Bool.not_true, if_neg Bool.false_ne_true]
  rfl

theorem overrun_first (h : (s.frame 0).ovr = false) : s.overrun 0 = (s.overrunCounted.fault 0x0401 0).fire 7 := by
  rw [State.overrun, h, Bool.not_false, if_pos rfl]
  rfl

/-- What an overrun at the boundary of s comes to, where it fires the sources of l and leaves the log x. -/
structure Overran (s : State) (x : LogSt) (l : List Nat) (u : State) : Prop where
  frame : RegFrame s.boundaryTaken.overrunMarked { s.boundaryTaken.overrunMarked with log := x } u
  counted : u.reg (Reg.cenOvr 0) = satAdd (s.reg (Reg.cenOvr 0)) 1
  kept : ∀ a, a ≠ Reg.cenOvr 0 → a ∉ latchRegs → u.reg a = s.reg a
  fired : Fired s.boundaryTaken.overrunMarked u l

theorem overrunCounted_overran : Overran s s.log [4] s.boundaryTaken.overrunCounted := by
  refine ⟨((RegFrame.refl _).setReg _ _).fire 4, ?_, fun a ha hlatch => ?_, ?_⟩
  · exact (State.reg_fire _ _ _ (by decide)).trans (State.reg_setReg_same _ _ _)
  · exact (State.reg_fire _ _ _ hlatch).trans (State.reg_setReg_ne _ _ _ _ ha)
  · have hlatch : ∀ a ∈ latchRegs, a ≠ Reg.cenOvr 0 := by decide
    have hinc : Fired s.boundaryTaken.overrunMarked (s.boundaryTaken.overrunMarked.incSat (Reg.cenOvr 0) 1) [] :=
      (Fired.refl _).congr rfl fun a ha => State.reg_setReg_ne _ _ _ _ (hlatch a ha)
    exact hinc.fire 4 (by decide)

/-- The first overrun of a frame is also logged. -/
theorem overrunLogged_overran (h : Overran s s.log [4] u) : Overran s (s.fault 0x0401 0).log [4, 7] ((u.fault 0x0401 0).fire 7) := by
  obtain ⟨hframe, hcounted, hkept, hfired⟩ := h
  have hlog : (u.fault 0x0401 0).log = (s.fault 0x0401 0).log := by
    refine State.fault_log_congr _ _ ?_ ?_ ?_ ?_ fun a ha => hkept a (by revert a; decide) (by revert a; decide) <;> rw [hframe]
    all_goals rfl
  refine ⟨RegFrame.fire ?_ 7, ?_, fun a ha hlatch => ?_, (hfired.congr ?_ fun a _ => State.reg_fault _ _ _ a).fire 7 (by decide)⟩
  · rw [← hlog, State.fault_eq]
    unfold RegFrame at *
    rw [hframe]
    rfl
  · exact (State.reg_fire _ _ _ (by decide)).trans ((State.reg_fault _ _ _ _).trans hcounted)
  · exact (State.reg_fire _ _ _ hlatch).trans ((State.reg_fault _ _ _ _).trans (hkept a ha hlatch))
  · rw [State.fault_eq]

theorem Overran.answers {x : LogSt} {l : List Nat} (hover : Overran s x l u) (h : PlainBoundary s) (hbusy : (s.frame 0).busy = true)
    (htodo : (s.frame 0).todo ≠ []) (hfour : s.cen.frames.length = 4) (hu : s.boundaryTaken.overrun 0 = u) :
    ∃ t, exec .frameBoundary s = .next t ∧ t = { s with regs := t.regs, log := t.log, cen := t.cen } ∧
      t.reg (Reg.cenOvr 0) = satAdd (s.reg (Reg.cenOvr 0)) 1 ∧ regsKept s t [Reg.cenOvr 0] ∧
      t.cen = { cenNoted s t with frames := s.cen.frames.set 0 { s.frame 0 with ovr := true }, lastBoundary := some s.now } ∧
      t.log = x ∧ eventsFired s t l := by
  obtain ⟨hframe, hcounted, hkept, hfired⟩ := hover
  have hcen : u.cen = { s.cen with
      frames := s.cen.frames.set 0 { s.frame 0 with ovr := true }, lastBoundary := some s.now, notes := u.cen.notes } := congrArg State.cen hframe
  have hbase : u = { s with regs := u.regs, log := u.log, cen := u.cen } := by
    rw [hframe]
    rfl
  have hlog : u.log = x := by rw [hframe]
  have hmarked : u.frame 0 = { s.frame 0 with ovr := true } := by
    rw [State.frame, hcen, List.getD_eq_getElem?_getD, List.getElem?_set_self (by omega), Option.getD_some]
  have hboundary : s.boundaryTaken.boundary [0] = u := by
    rw [boundary_late (s := s.boundaryTaken) hbusy, hu, frameAdvance_eq_self]
    · rw [hmarked]
      exact hbusy
    · rw [hmarked]
      exact htodo
  have hend := State.settle_eq_of_cen (v := { s with log := u.log }) hbase
  rw [← State.settle_log u] at hend
  refine ⟨_, exec_frameBoundary h hboundary (by rw [hbase]) (hkept _ (by decide) (by decide)) (hkept _ (by decide) (by decide)), hend,
    (State.reg_settle u _ (by decide)).trans hcounted, regsKept_settle fun a ha hlatch => hkept a (by simpa using ha) hlatch, ?_,
    (State.settle_log u).trans hlog, hfired.done⟩
  rw [State.settle_cen u, cenNoted, cenNoted, hcen]

theorem answers_overrun (h : PlainBoundary s) (hbusy : (s.frame 0).busy = true) (htodo : (s.frame 0).todo ≠ []) (hfour : s.cen.frames.length = 4) :
    ∃ t, exec .frameBoundary s = .next t ∧ t = { s with regs := t.regs, log := t.log, cen := t.cen } ∧
      t.reg (Reg.cenOvr 0) = satAdd (s.reg (Reg.cenOvr 0)) 1 ∧ regsKept s t [Reg.cenOvr 0] ∧
      t.cen = { cenNoted s t with frames := s.cen.frames.set 0 { s.frame 0 with ovr := true }, lastBoundary := some s.now } ∧
      ((s.frame 0).ovr = true → t.log = s.log ∧ eventsFired s t [4]) ∧
      ((s.frame 0).ovr = false → t.log = (s.fault 0x0401 0).log ∧ eventsFired s t [4, 7]) := by
  cases hovr : (s.frame 0).ovr with
  | true =>
    obtain ⟨t, hexec, hframe, hcount, hkept, hcen, hend⟩ :=
      overrunCounted_overran.answers h hbusy htodo hfour (overrun_again (s := s.boundaryTaken) hovr)
    exact ⟨t, hexec, hframe, hcount, hkept, hcen, fun _ => hend, nofun⟩
  | false =>
    obtain ⟨t, hexec, hframe, hcount, hkept, hcen, hend⟩ :=
      (overrunLogged_overran overrunCounted_overran).answers h hbusy htodo hfour (overrun_first (s := s.boundaryTaken) hovr)
    exact ⟨t, hexec, hframe, hcount, hkept, hcen, nofun, fun _ => hend⟩

/-- Settles O16: where the frame is complete its one pending slot commits and a new frame opens; where it is not, an overrun is
counted. -/
theorem boundaryCommitsAndOverrun : Obligations.BoundaryCommitsAndOverrun := by
  refine ⟨fun s n hdue hlive hsolo hcen hstarts hown hstartup hfns hwake hfour hbusy hready hevald hpend hruns hclass hdest hticked => ?_,
    fun s hdue hlive hsolo hcen hstarts hown hstartup hfns hwake hfour hbusy htodo hticked => ?_⟩
  · exact answers_commits ⟨hdue, hlive, hsolo, hcen, hstarts, hown, hstartup, hfns, hwake, hticked⟩ hfour hbusy hready hevald hpend hruns
      hclass hdest
  · exact answers_overrun ⟨hdue, hlive, hsolo, hcen, hstarts, hown, hstartup, hfns, hwake, hticked⟩ hbusy htodo hfour

end Sys2Proof.Machine
end

section
/-! PROOFS. The handover of ownership: SBUS passing to the host stops its polls (R49, R441). -/

namespace Sys2Proof.Machine

/-- A live chip at a class-0 boundary: a poll waits out its WAIT, and an accepted mask gives SBUS alone to the host. -/
def sbusPassing : State :=
  let live : State := { State.reset with
    pwr := { State.reset.pwr with good := true, held := none, rtIn := true }, now := 1000000,
    tb := { State.reset.tb with count := 12000000, running := true, xtalOk := true },
    od := { State.reset.od with ownPending := some (2 ^ 19) }, polls := [(0, { running := true, waitTo := some 1000400 })] }
  (live.setReg Reg.pwrShake 12).setReg (Reg.cenPeriod 0) 4

theorem atBoundary0_sbusPassing : sbusPassing.atBoundary0 = true := by decide +kernel

theorem hostOwns_sbusPassing : ∀ n ∈ ownable, sbusPassing.hostOwns n = false := by decide +kernel

theorem polls_ownTake_sbusPassing : sbusPassing.ownTake.polls = [(0, {})] := by decide +kernel

/-- Refutes O9: where SBUS passes to the host a run that waits out WAIT is abandoned (R441), though no unit returns. -/
theorem not_ownershipHandover : ¬ Obligations.OwnershipHandover := by
  intro h
  have hnone : ∀ n ∈ ownable, sbusPassing.hostOwns n = true → (2 ^ 19).testBit n = true := fun n hn hown =>
    absurd ((hostOwns_sbusPassing n hn).symm.trans hown) Bool.false_ne_true
  obtain ⟨t, hexec, hframe, -⟩ := h.1 sbusPassing (2 ^ 19) atBoundary0_sbusPassing rfl hnone (by decide)
  have hrun : exec .ownershipHandover sbusPassing = sbusPassing.ownTake.done := by
    show execOwnershipHandover _ = _
    rw [execOwnershipHandover, atBoundary0_sbusPassing, if_pos rfl]
  have ht : sbusPassing.ownTake.settle = t := Host.Outcome.next.inj (hrun.symm.trans hexec)
  have hstopped : t.polls = [(0, {})] := by rw [← ht, State.settle_polls, polls_ownTake_sbusPassing]
  have hkept : t.polls = [(0, { running := true, waitTo := some 1000400 })] := congrArg State.polls hframe
  exact absurd (hstopped.symm.trans hkept) (by decide)

end Sys2Proof.Machine
end

section
/-! PROOFS. What the transactions of the Knab store leave alone: the power state, and the link and the seat of a twin (R502, R503, R517). -/

namespace Sys2Proof.Machine

variable {s : State}

/-- The power state, and the link and seat of a twin. -/
def State.seat (s : State) : PwrSt × TwnSt := (s.pwr, s.twn)

/-- Steps over a list that each leave a view of the state leave it. -/
theorem foldl_view {α β : Type} (view : State → β) (f : State → α → State) (hf : ∀ s x, view (f s x) = view s) (l : List α) :
    view (l.foldl f s) = view s := by
  induction l generalizing s with
  | nil => rfl
  | cons x l ih => exact ih.trans (hf s x)

theorem seat_of_storeFrame {u : State} (h : StoreFrame s u) : u.seat = s.seat := by
  rw [h]
  rfl

theorem seat_knabPut (a : Nat) (l : List Byte) : (s.knabPut a l).seat = s.seat := seat_of_storeFrame (storeFrame_knabPut s a l)

theorem seat_knabPuts (l : List (Nat × List Byte)) : (s.knabPuts l).seat = s.seat := seat_of_storeFrame (storeFrame_knabPuts s l)

theorem seat_knabMapLoad : s.knabMapLoad.seat = s.seat := by
  unfold State.knabMapLoad
  split <;> rfl

theorem seat_setReg (a : Nat) (v : Word) : (s.setReg a v).seat = s.seat := rfl

theorem seat_knabSteps (pages : List (Nat × List Byte)) : (s.knabSteps pages).seat = s.seat := by
  unfold State.knabSteps
  extract_lets written marked mapped counted
  have hmarked : marked.seat = s.seat := by
    rw [seat_knabPut, seat_knabPuts, seat_knabPuts, seat_knabPuts]
  have hmapped : mapped.seat = marked.seat := by
    unfold mapped
    split
    · exact seat_knabMapLoad
    · rfl
  refine Eq.trans ?_ (hmapped.trans hmarked)
  split <;> rfl

theorem seat_fault (code param : Nat) : (s.fault code param).seat = s.seat := by
  rw [State.fault_eq]
  rfl

theorem seat_fire (n : Nat) : (s.fire n).seat = s.seat := seat_of_storeFrame (storeFrame_fire s n)

theorem seat_knabWeakEntry (kind spare page : Nat) : (s.knabWeakEntry kind spare page).seat = s.seat := by
  simp [State.knabWeakEntry, State.seat]

theorem seat_knabRetire (page : Nat) : (s.knabRetire page).seat = s.seat := by
  unfold State.knabRetire
  split
  · rfl
  · exact (seat_knabWeakEntry _ _ _).trans ((seat_fault _ _).trans ((seat_fire 29).trans rfl))

theorem seat_knabDone (kind : KnbKind) : (s.knabDone kind).seat = s.seat := by
  cases kind with
  | runtime => exact seat_fire 27
  | refresh page still =>
    have hentry : ((s.incSat Reg.knbWeakcnt 1).knabWeakEntry 1 0xFF page).seat = s.seat := (seat_knabWeakEntry _ _ _).trans rfl
    cases still with
    | true => exact (seat_knabRetire page).trans hentry
    | false => exact hentry
  | retire page i => exact (seat_fault _ _).trans ((seat_knabWeakEntry _ _ _).trans rfl)

theorem seat_knabDirect (a : Nat) (b : List Byte) : (s.knabDirect a b).seat = s.seat := by
  unfold State.knabDirect
  split
  · rfl
  · exact seat_knabPut a b

theorem seat_knabCtrAdd (c k : Nat) : (s.knabCtrAdd c k).seat = s.seat := by
  unfold State.knabCtrAdd
  split
  · rfl
  · exact seat_knabPuts _

theorem seat_knabFinish : s.knabFinish.seat = s.seat := by
  unfold State.knabFinish
  split
  · rfl
  · rename_i c _
    dsimp only
    refine (foldl_view State.seat (fun s (p : Nat × Nat) => s.knabCtrAdd p.1 p.2) (fun s p => seat_knabCtrAdd _ _) _).trans ?_
    refine (foldl_view State.seat (fun s (p : Nat × List Byte) => s.knabDirect p.1 p.2) (fun s p => seat_knabDirect _ _) _).trans ?_
    exact (seat_knabDone _).trans ((seat_setReg _ _).trans ((seat_knabSteps c.pages).trans rfl))

theorem State.knabFinish_pwr : s.knabFinish.pwr = s.pwr := congrArg Prod.fst seat_knabFinish

end Sys2Proof.Machine
end

section
/-! PROOFS. What every reset leaves: registers and the Knab store over a reset, and the state that all sources share (R377, R378). -/

namespace Sys2Proof.Machine

variable {s u v : State}

/-! ### The loads of a reset -/

/-- The registers that take fuse values at a reset (R100, R588, R589). -/
def fuseRegs : List Nat :=
  [Reg.tboTrim, Reg.thmVreftrim] ++ (List.range 4).flatMap (fun n => [Reg.acqSliceCorr n, Reg.acqSliceSkew n]) ++ (List.range 8).map Reg.tboTtab

/-- The registers in which a reset shows its source, the supplies, the straps and the recall. -/
def shownRegs : List Nat :=
  [Reg.pwrRstcause, Reg.pwrStat, Reg.pwrShake, Reg.pwrStrap, Reg.rtcStat, Reg.knbStat, Reg.twnStat, Reg.knbJseq]

/-- From v to u only registers, what TBO follows and the snapshots of RTC have changed, and of the registers no more than those of l. -/
structure Loaded (v : State) (l : List Nat) (u : State) : Prop where
  frame : u = { v with regs := u.regs, free := u.free, thm := u.thm, rtc := u.rtc }
  epoch : u.rtc.epoch = v.rtc.epoch
  regs : ∀ a, a ∉ l → u.reg a = v.reg a

theorem Loaded.refl (v : State) (l : List Nat) : Loaded v l v := ⟨rfl, rfl, fun _ _ => rfl⟩

theorem Loaded.setReg {l : List Nat} (h : Loaded v l u) {a : Nat} (ha : a ∈ l) (x : Word) : Loaded v l (u.setReg a x) := by
  obtain ⟨hframe, hepoch, hregs⟩ := h
  refine ⟨?_, hepoch, fun b hb => ?_⟩
  · rw [hframe]
    rfl
  · exact (State.reg_setReg_ne u _ _ _ fun (e : b = a) => hb (e ▸ ha)).trans (hregs b hb)

theorem Loaded.forEach {l ns : List Nat} {f : State → Nat → State} (h : Loaded v l u)
    (hf : ∀ n ∈ ns, ∀ w, Loaded v l w → Loaded v l (f w n)) : Loaded v l (u.forEach ns f) := by
  induction ns generalizing u with
  | nil => exact h
  | cons n ns ih =>
    rw [State.forEach, List.foldl_cons]
    exact ih (hf n (by simp) u h) fun m hm => hf m (by simp [hm])

theorem Loaded.tboFollow {l : List Nat} (h : Loaded v l u) : Loaded v l u.tboFollow := by
  obtain ⟨hframe, hepoch, hregs⟩ := h
  unfold State.tboFollow
  dsimp only
  split
  · exact ⟨by rw [hframe]; rfl, hepoch, hregs⟩
  · exact ⟨by rw [hframe], hepoch, hregs⟩

theorem Loaded.drawSub {l : List Nat} (h : Loaded v l u) : Loaded v l u.drawSub.2 := by
  obtain ⟨hframe, hepoch, hregs⟩ := h
  unfold State.drawSub
  split
  · exact ⟨hframe, hepoch, hregs⟩
  · split <;> exact ⟨by rw [hframe]; rfl, hepoch, hregs⟩

theorem Loaded.rtcCapture {l : List Nat} (h : Loaded v l u) (who : Init) : Loaded v l (u.rtcCapture who) := by
  obtain ⟨hframe, hepoch, hregs⟩ := h.drawSub
  unfold State.rtcCapture
  dsimp only
  split <;> exact ⟨by rw [hframe], hepoch, hregs⟩

theorem Loaded.linesShow {l : List Nat} (h : Loaded v l u) (hl : Reg.twnStat ∈ l) : Loaded v l u.linesShow := by
  unfold State.linesShow
  split <;> exact (h.setReg hl _).setReg hl _

theorem Loaded.loadFuses {l : List Nat} (h : Loaded v l u) (hl : ∀ a ∈ fuseRegs, a ∈ l) : Loaded v l u.loadFuses := by
  have hslices : Loaded v l u.loadSlices := h.forEach fun n hn w hw => by
    have hcorr : Reg.acqSliceCorr n ∈ fuseRegs := by revert n; decide
    have hskew : Reg.acqSliceSkew n ∈ fuseRegs := by revert n; decide
    split
    · exact (hw.setReg (hl _ hcorr) _).setReg (hl _ hskew) _
    · exact hw
  have htab : ∀ n ∈ List.range 8, Reg.tboTtab n ∈ fuseRegs := by decide
  unfold State.loadFuses
  exact (((hslices.setReg (hl _ (by decide)) _).setReg (hl _ (by decide)) _).forEach fun n hn w hw => hw.setReg (hl _ (htab n hn)) _).tboFollow

/-! ### The blank state -/

/-- The state of a reset from which its loads start. -/
structure Blank (s : State) (power : Bool) (r : State) : Prop where
  frame : r = { r with variant := s.variant, pending := s.pending, now := s.now, nv := s.nv, od := {}, acq := {}, act := {}, fan := {},
                       zon := {}, kpd := {}, ldl := {}, net := {}, hst := {}, polls := [], held := [] }
  regs : r.regs = Tab.keep s.regs (resetKeeps power)
  mem : r.mem = resetMem power s.mem
  count : r.tb.count = 0
  stopped : r.tb.running = false
  frames : r.cen.frames = [{}, {}, {}, {}]
  epoch : r.rtc.epoch = s.rtc.epoch
  rtOut : r.pwr.rtIn = false
  free : r.pwr.held = none
  nrst : r.pwr.nrstLow = s.pwr.nrstLow

/-- The registers that the loads of a reset write. -/
def loadedRegs : List Nat := fuseRegs ++ [Reg.pwrRstcause, Reg.pwrStat, Reg.rtcStat, Reg.knbStat, Reg.twnStat]

/-- The loads of a reset, in their order. -/
def State.resetLoads (r : State) (x : Word) (supply : Nat) (rtc : Word) (mode pos : Nat) : State :=
  ((((((r.loadFuses.setReg Reg.pwrRstcause x).setRf Reg.pwrStat 3 3 supply).setReg Reg.rtcStat rtc).setRf Reg.knbStat 1 1 mode).setRf
    Reg.twnStat 0 2 pos).linesShow.rtcCapture .host).rtcCapture .runtime

/-- A journal commit completes before a reset, unless the reset is a power-on (R504). -/
def State.beforeReset (s : State) (cause : Nat) : State := if cause = 1 then s else s.knabFinish

theorem fld_rstcause {cause n m warm : Nat} (hcause : cause < 8) (hn : n = 0 ∨ n = 8) (hm : m = 0 ∨ m = 16) :
    fld (BitVec.ofNat 32 (cause + n + m + warm * 65536)) 0 3 = cause := by
  rw [fld, BitVec.toNat_ofNat]
  omega

/-- A reset loads its registers over a blank state. -/
theorem resetAs_eq (s : State) (cause : Nat) :
    ∃ r x supply rtc mode pos, s.resetAs cause = r.resetLoads x supply rtc mode pos ∧
      Blank (s.beforeReset cause) (decide (cause = 1)) r ∧ (cause < 8 → fld x 0 3 = cause) := by
  unfold State.resetAs State.beforeReset
  refine ⟨_, _, _, _, _, _, rfl, ⟨rfl, rfl, rfl, rfl, rfl, rfl, rfl, rfl, rfl, rfl⟩, fun h => fld_rstcause h ?_ ?_⟩
  · exact (ite_eq_or_eq _ _ _).symm
  · exact (ite_eq_or_eq _ _ _).symm

section
variable (r : State) (x : Word) (supply : Nat) (rtc : Word) (mode pos : Nat)

theorem resetLoads_loaded : Loaded r loadedRegs (r.resetLoads x supply rtc mode pos) :=
  ((((((((Loaded.refl r loadedRegs).loadFuses (by decide)).setReg (by decide) _).setReg (by decide) _).setReg (by decide) _).setReg
    (by decide) _).setReg (by decide) _).linesShow (by decide)).rtcCapture _ |>.rtcCapture _

theorem reg_rstcause_resetLoads : (r.resetLoads x supply rtc mode pos).reg Reg.pwrRstcause = x := by
  have hlater : Loaded (r.loadFuses.setReg Reg.pwrRstcause x) [Reg.pwrStat, Reg.rtcStat, Reg.knbStat, Reg.twnStat]
      (r.resetLoads x supply rtc mode pos) :=
    ((((((Loaded.refl _ _).setReg (by decide) _).setReg (by decide) _).setReg (by decide) _).setReg (by decide) _).linesShow
      (by decide)).rtcCapture _ |>.rtcCapture _
  exact (hlater.regs _ (by decide)).trans (State.reg_setReg_same _ _ _)

/-- The lines of the flask show in bits 7 and 8 of TWN_STAT alone. -/
theorem reg_twnStat_linesShow (v : State) : ∃ b c, v.linesShow.reg Reg.twnStat = putBit (putBit (v.reg Reg.twnStat) 7 b) 8 c := by
  have hset : ∀ b c, ((v.setRb Reg.twnStat 7 b).setRb Reg.twnStat 8 c).reg Reg.twnStat = putBit (putBit (v.reg Reg.twnStat) 7 b) 8 c :=
    fun b c => (State.reg_setReg_same _ _ _).trans (congrArg (putBit · 8 c) (State.reg_setReg_same _ _ _))
  unfold State.linesShow
  split
  · exact ⟨_, _, hset _ _⟩
  · exact ⟨_, _, hset _ _⟩

/-- Of TWN_STAT a reset writes the position and the lines. -/
theorem reg_twnStat_resetLoads :
    ∃ b c, (r.resetLoads x supply rtc mode pos).reg Reg.twnStat = putBit (putBit (putFld (r.reg Reg.twnStat) 0 2 pos) 7 b) 8 c := by
  have hbefore : Loaded r (fuseRegs ++ [Reg.pwrRstcause, Reg.pwrStat, Reg.rtcStat, Reg.knbStat])
      ((((r.loadFuses.setReg Reg.pwrRstcause x).setRf Reg.pwrStat 3 3 supply).setReg Reg.rtcStat rtc).setRf Reg.knbStat 1 1 mode) :=
    (((((Loaded.refl r _).loadFuses (by decide)).setReg (by decide) _).setReg (by decide) _).setReg (by decide) _).setReg (by decide) _
  unfold State.resetLoads
  generalize State.setRf _ Reg.knbStat 1 1 mode = w at hbefore ⊢
  have hlater : ∀ v : State, Loaded v [] ((v.rtcCapture .host).rtcCapture .runtime) := fun v =>
    ((Loaded.refl v []).rtcCapture _).rtcCapture _
  obtain ⟨b, c, hlines⟩ := reg_twnStat_linesShow (w.setRf Reg.twnStat 0 2 pos)
  refine ⟨b, c, ((hlater _).regs _ (by decide)).trans (hlines.trans ?_)⟩
  rw [State.reg_setRf, if_pos rfl, hbefore.regs _ (by decide)]

end

/-! ### What every reset leaves -/

/-- What every reset leaves of s, before the end of its command: u is fresh but for registers, the clocks, the straps and the store. -/
structure Renewed (s : State) (cause : Nat) (u : State) : Prop where
  frame : u = { u with variant := s.variant, pending := s.pending, now := s.now, od := {}, acq := {}, act := {}, fan := {}, zon := {},
                       kpd := {}, ldl := {}, net := {}, hst := {}, polls := [], held := [] }
  reason : u.rf Reg.pwrRstcause 0 3 = cause
  count : u.tb.count = 0
  stopped : u.tb.running = false
  rtOut : u.pwr.rtIn = false
  frames : u.cen.frames = [{}, {}, {}, {}]
  role : u.role = 0
  nv : s.knb.commit = none → u.nv = s.nv
  store : s.knb.commit = none → ∀ a, 0x50000000 ≤ a → a < 0x50010000 → u.byte a = s.byte a
  regs : ∀ a, a ∉ shownRegs → a ∉ fuseRegs → a ∉ rtcDomainRegs → a ∉ traceKept → u.reg a = regReset a

/-- What every reset leaves of s, as the statement says it. -/
def Fresh (s t : State) (cause : Nat) : Prop :=
  t.rf Reg.pwrRstcause 0 3 = cause ∧ t.reg Reg.sysOwn = 0 ∧ t.tb.count = 0 ∧ t.tb.running = false ∧ t.pwr.rtIn = false ∧ t.od = {} ∧
  t.acq = {} ∧ t.act = {} ∧ t.fan = {} ∧ t.zon = {} ∧ t.kpd = {} ∧ t.ldl = {} ∧ t.net = {} ∧ t.hst = {} ∧ t.polls = [] ∧ t.held = [] ∧
  t.cen.frames = [{}, {}, {}, {}] ∧ t.role = 0 ∧ (s.knb.commit = none → t.nv = s.nv) ∧ t.variant = s.variant ∧ t.pending = s.pending ∧
  t.now = s.now ∧ (s.knb.commit = none → ∀ a, 0x50000000 ≤ a → a < 0x50010000 → t.byte a = s.byte a) ∧
  (∀ a, a ∉ shownRegs → a ∉ fuseRegs → a ∉ rtcDomainRegs → a ∉ traceKept → a ∉ latchRegs → t.reg a = regReset a) ∧
  (∀ n, n < 64 → t.coreLatch n = (!eventAbsent s.variant n && levelSources.contains n && t.levelCause n false))

/-- Reset clears the event latches. -/
theorem coreLatch_of_reset (hlo : u.reg Reg.evtPendLo = regReset Reg.evtPendLo) (hhi : u.reg Reg.evtPendHi = regReset Reg.evtPendHi) (n : Nat) :
    u.coreLatch n = false := by
  have hlo0 : regReset Reg.evtPendLo = 0 := by decide +kernel
  have hhi0 : regReset Reg.evtPendHi = 0 := by decide +kernel
  unfold State.coreLatch State.rb
  rw [hlo, hhi, hlo0, hhi0]
  split <;> exact BitVec.getLsbD_zero

theorem latch_notMem_kept : ∀ a ∈ latchRegs, a ∉ shownRegs ∧ a ∉ fuseRegs ∧ a ∉ rtcDomainRegs ∧ a ∉ traceKept := by decide

theorem Renewed.reg_latch {cause a : Nat} (h : Renewed s cause u) (ha : a ∈ latchRegs) : u.reg a = regReset a := by
  obtain ⟨hshown, hfuse, hdomain, htrace⟩ := latch_notMem_kept a ha
  exact h.regs a hshown hfuse hdomain htrace

theorem Renewed.settle {cause : Nat} (h : Renewed s cause u) : Fresh s u.settle cause := by
  have hframe := h.frame
  have hown : regReset Reg.sysOwn = 0 := by decide +kernel
  have hlatch : ∀ n, u.coreLatch n = false := coreLatch_of_reset (h.reg_latch (by decide)) (h.reg_latch (by decide))
  have hvariant : u.variant = s.variant := by rw [hframe]
  refine ⟨(State.rf_settle (by decide) 0 3).trans h.reason, ?_, ?_, ?_, ?_, ?_, ?_, ?_, ?_, ?_, ?_, ?_, ?_, ?_, ?_, ?_, ?_, ?_, fun hc => ?_,
    ?_, ?_, ?_, fun hc a hlo hhi => ?_, fun a hshown hfuse hdomain htrace hlatch => ?_, fun n hn => ?_⟩
  · exact (State.reg_settle u _ (by decide)).trans ((h.regs _ (by decide) (by decide) (by decide) (by decide)).trans hown)
  · rw [State.settle_tb, h.count]
  · rw [State.settle_tb, h.stopped]
  · rw [State.settle_pwr, h.rtOut]
  · exact (State.settle_od u).trans (congrArg State.od hframe)
  · exact (State.settle_acq u).trans (congrArg State.acq hframe)
  · exact (State.settle_act u).trans (congrArg State.act hframe)
  · exact (State.settle_fan u).trans (congrArg State.fan hframe)
  · exact (State.settle_zon u).trans (congrArg State.zon hframe)
  · exact (State.settle_kpd u).trans (congrArg State.kpd hframe)
  · exact (State.settle_ldl u).trans (congrArg State.ldl hframe)
  · exact (State.settle_net u).trans (congrArg State.net hframe)
  · exact (State.settle_hst u).trans (congrArg State.hst hframe)
  · exact (State.settle_polls u).trans (congrArg State.polls hframe)
  · exact (State.settle_held u).trans (congrArg State.held hframe)
  · exact (congrArg CenSt.frames (State.settle_cen u)).trans h.frames
  · exact (State.rf_settle (by decide) 2 2).trans h.role
  · rw [State.settle_nv, h.nv hc]
  · exact (State.settle_variant u).trans hvariant
  · exact (State.settle_pending u).trans (by rw [hframe])
  · exact (State.settle_now u).trans (by rw [hframe])
  · exact (State.byte_congr (State.settle_mem u) a).trans (h.store hc a hlo hhi)
  · exact (State.reg_settle u a hlatch).trans (h.regs a hshown hfuse hdomain htrace)
  · rw [(State.settle_latch u n hn).1, hlatch, hvariant, State.levelCause_settle, Bool.false_or, Bool.and_assoc]

/-- A change of the power state, and of the registers that show the reset, keeps what every reset leaves. -/
theorem Renewed.update {cause : Nat} (h : Renewed s cause u) (hframe : v = { u with regs := v.regs, pwr := v.pwr })
    (hrt : v.pwr.rtIn = false) (hcause : v.rf Reg.pwrRstcause 0 3 = u.rf Reg.pwrRstcause 0 3)
    (hregs : ∀ a, a ∉ [Reg.pwrRstcause, Reg.pwrShake, Reg.pwrStrap, Reg.knbStat] → v.reg a = u.reg a) : Renewed s cause v := by
  have hbase := h.frame
  have hshown : ∀ a, a ∉ shownRegs → a ∉ [Reg.pwrRstcause, Reg.pwrShake, Reg.pwrStrap, Reg.knbStat] := fun a ha hin =>
    ha ((by decide : ∀ a ∈ [Reg.pwrRstcause, Reg.pwrShake, Reg.pwrStrap, Reg.knbStat], a ∈ shownRegs) a hin)
  refine ⟨?_, hcause.trans h.reason, ?_, ?_, hrt, ?_, ?_, fun hc => ?_, fun hc a hlo hhi => ?_,
    fun a ha hfuse hdomain htrace => (hregs a (hshown a ha)).trans (h.regs a ha hfuse hdomain htrace)⟩
  · rw [hframe, hbase]
  · rw [hframe, h.count]
  · rw [hframe, h.stopped]
  · rw [hframe, h.frames]
  · rw [State.role, State.rf, hregs _ (by decide)]
    exact h.role
  · rw [hframe, h.nv hc]
  · have hmem : v.mem = u.mem := by rw [hframe]
    exact (State.byte_congr hmem a).trans (h.store hc a hlo hhi)

/-- What a reset comes to before its source is held or shakeout goes on. -/
structure ResetDone (s : State) (cause : Nat) (u : State) : Prop extends Renewed s cause u where
  free : u.pwr.held = none
  nrst : u.pwr.nrstLow = s.pwr.nrstLow
  shake : u.reg Reg.pwrShake = regReset Reg.pwrShake
  passive : u.rb Reg.twnStat 9 = false
  epoch : u.rtc.epoch = (s.beforeReset cause).rtc.epoch
  domain : ∀ a ∈ rtcDomainRegs, u.reg a = (s.beforeReset cause).reg a

theorem keeps_beforeReset (s : State) (cause : Nat) : Keeps true s (s.beforeReset cause) :=
  Keeps.ite (Keeps.refl true s) (keeps_knabFinish (Keeps.refl true s))

theorem State.beforeReset_pwr (s : State) (cause : Nat) : (s.beforeReset cause).pwr = s.pwr := by
  unfold State.beforeReset
  split
  · rfl
  · exact State.knabFinish_pwr

theorem State.beforeReset_idle (cause : Nat) (h : s.knb.commit = none) : s.beforeReset cause = s := by
  have hfinish : s.knabFinish = s := by rw [State.knabFinish, h]
  rw [State.beforeReset, hfinish, ite_self]

/-- A register of a blank state: its reset value, unless the reset keeps it. -/
theorem Blank.reg {power : Bool} {r : State} (h : Blank s power r) (a : Nat) : r.reg a = if resetKeeps power a then s.reg a else regReset a := by
  rw [State.reg, h.regs, Tab.get_keep]
  rfl

theorem Blank.byte {power : Bool} {r : State} (h : Blank s power r) {a : Nat} (hlo : 0x50000000 ≤ a) (hhi : a < 0x50010000) :
    r.byte a = s.byte a := by
  have hin : (decide (0x50000000 ≤ a) && decide (a < 0x50010400)) = true := by simp; omega
  rw [State.byte, h.mem, resetMem, Tab.get_keep, hin, Bool.true_or, if_pos rfl]
  rfl

/-- The registers that a reset may keep. -/
theorem resetKeeps_false {power : Bool} {a : Nat} (hdomain : a ∉ rtcDomainRegs) (htrace : a ∉ traceKept) (hstrap : a ≠ Reg.pwrStrap)
    (hseq : a ≠ Reg.knbJseq) : resetKeeps power a = false := by
  have hd : rtcDomainRegs.contains a = false := by simpa using hdomain
  have ht : traceKept.contains a = false := by simpa using htrace
  have h1 : (a == Reg.pwrStrap) = false := by simpa using hstrap
  have h2 : (a == Reg.knbJseq) = false := by simpa using hseq
  rw [resetKeeps, hd, ht, h1, h2]
  cases power <;> rfl

/-- Of TWN_STAT a reset leaves no role, and OWN not pulled. -/
theorem twnStat_unformed {x : Word} {pos : Nat} {b c : Bool} (h : x = putBit (putBit (putFld (regReset Reg.twnStat) 0 2 pos) 7 b) 8 c) :
    fld x 2 2 = 0 ∧ bitOf x 9 = false := by
  have hrole : fld (regReset Reg.twnStat) 2 2 = 0 := by decide +kernel
  have hown : bitOf (regReset Reg.twnStat) 9 = false := by decide +kernel
  rw [h]
  constructor
  · rw [putBit, fld_putFld_apart _ _ _ _ _ _ (by decide) (by decide), putBit, fld_putFld_apart _ _ _ _ _ _ (by decide) (by decide),
      fld_putFld_apart _ _ _ _ _ _ (by decide) (by decide), hrole]
  · rw [putBit, bitOf_putFld_apart _ _ _ _ _ (by decide) (by decide), putBit, bitOf_putFld_apart _ _ _ _ _ (by decide) (by decide),
      bitOf_putFld_apart _ _ _ _ _ (by decide) (by decide), hown]

theorem resetAs_done {cause : Nat} (hcause : cause < 8) : ResetDone s cause (s.resetAs cause) := by
  obtain ⟨r, x, supply, rtc, mode, pos, heq, hblank, hx⟩ := resetAs_eq s cause
  have hkeeps := keeps_beforeReset s cause
  have hnow : (s.beforeReset cause).now = s.now := (hkeeps.still rfl).1
  have hpwr := State.beforeReset_pwr s cause
  have hidle := State.beforeReset_idle (s := s) cause
  have hloaded := resetLoads_loaded r x supply rtc mode pos
  obtain ⟨b, c, htwn⟩ := reg_twnStat_resetLoads r x supply rtc mode pos
  have hrst := reg_rstcause_resetLoads r x supply rtc mode pos
  rw [hblank.reg, resetKeeps_false (by decide) (by decide) (by decide) (by decide), if_neg Bool.false_ne_true] at htwn
  obtain ⟨hrole, hown⟩ := twnStat_unformed htwn
  rw [heq]
  generalize r.resetLoads x supply rtc mode pos = u at hloaded hrole hown hrst ⊢
  obtain ⟨hframe, hepoch, hregs⟩ := hloaded
  have hbase := hblank.frame
  have hloads : ∀ a, a ∉ shownRegs → a ∉ fuseRegs → a ∉ loadedRegs := fun a hshown hfuse hin =>
    ((by decide : ∀ a ∈ loadedRegs, a ∈ shownRegs ∨ a ∈ fuseRegs) a hin).elim hshown hfuse
  have hpwru : u.pwr = r.pwr := by rw [hframe]
  have hmem : u.mem = r.mem := by rw [hframe]
  refine ⟨⟨?_, ?_, ?_, ?_, ?_, ?_, hrole, fun hc => ?_, fun hc a hlo hhi => ?_, fun a hshown hfuse hdomain htrace => ?_⟩, ?_, ?_, ?_, hown, ?_,
    fun a ha => ?_⟩
  · rw [hframe, hbase, hkeeps.variant, hkeeps.pending, hnow]
  · rw [State.rf, hrst, hx hcause]
  · rw [hframe, hblank.count]
  · rw [hframe, hblank.stopped]
  · rw [hpwru, hblank.rtOut]
  · rw [hframe, hblank.frames]
  · rw [hframe, hbase, hidle hc]
  · rw [State.byte_congr hmem, hblank.byte hlo hhi, hidle hc]
  · have hstrap : a ≠ Reg.pwrStrap := fun e => hshown (e ▸ by decide)
    have hseq : a ≠ Reg.knbJseq := fun e => hshown (e ▸ by decide)
    rw [hregs a (hloads a hshown hfuse), hblank.reg, resetKeeps_false hdomain htrace hstrap hseq, if_neg Bool.false_ne_true]
  · rw [hpwru, hblank.free]
  · rw [hpwru, hblank.nrst, hpwr]
  · rw [hregs _ (by decide), hblank.reg, resetKeeps_false (by decide) (by decide) (by decide) (by decide), if_neg Bool.false_ne_true]
  · rw [hepoch, hblank.epoch]
  · have hkept : ∀ power, resetKeeps power a = true := fun power => by simp [resetKeeps, ha]
    have hnot : ∀ a ∈ rtcDomainRegs, a ∉ loadedRegs := by decide
    rw [hregs a (hnot a ha), hblank.reg, hkept, if_pos rfl]

end Sys2Proof.Machine
end

section
/-! PROOFS. Supplies, reset sources, releases and the watchdog (R374, R375, R377-R380, R509, R587). -/

namespace Sys2Proof.Machine

variable {s u v : State}

/-! ### What every reset leaves, at the end of a command -/

/-- A source that holds the part in reset. -/
def FreshHeld (s t : State) (cause : Nat) : Prop := Fresh s t cause ∧ t.pwr.held = some cause ∧ t.shakeStep = 1

/-- A source after which shakeout runs. -/
def FreshRuns (s t : State) (cause : Nat) : Prop := Fresh s t cause ∧ t.pwr.held = none ∧ t.shakeStep = 2

/-- What a reset leaves of s it leaves of a state that agrees with s in the store, the queue and the time. -/
theorem Fresh.congr {t : State} {cause : Nat} (h : Fresh u t cause) (hcommit : u.knb.commit = s.knb.commit) (hnv : u.nv = s.nv)
    (hvariant : u.variant = s.variant) (hpending : u.pending = s.pending) (hnow : u.now = s.now) (hmem : u.mem = s.mem) : Fresh s t cause := by
  unfold Fresh at *
  rw [hcommit, hnv, hvariant, hpending, hnow] at h
  simpa only [State.byte_congr hmem] using h

theorem shakeStep_of_reset (h : u.reg Reg.pwrShake = regReset Reg.pwrShake) : u.shakeStep = 1 := by
  have hreset : fld (regReset Reg.pwrShake) 0 4 = 1 := by decide +kernel
  rw [State.shakeStep, State.rf, h, hreset]

theorem shakeStep_settle : u.settle.shakeStep = u.shakeStep := State.rf_settle (by decide) 0 4

theorem resetHeld_settle {cause : Nat} (hcause : cause < 8) :
    FreshHeld s (s.resetHeld cause).settle cause ∧ (s.resetHeld cause).settle.pwr.nrstLow = s.pwr.nrstLow := by
  have hdone := resetAs_done (s := s) hcause
  have hheld : Renewed s cause (s.resetHeld cause) := hdone.toRenewed.update rfl hdone.rtOut rfl fun _ _ => rfl
  refine ⟨⟨hheld.settle, ?_, ?_⟩, ?_⟩
  · rw [State.settle_pwr]
    rfl
  · exact shakeStep_settle.trans (shakeStep_of_reset hdone.shake)
  · rw [State.settle_pwr]
    exact hdone.nrst

/-- The release of a reset, over the state that it left. -/
theorem resetRelease_renewed {cause : Nat} (h : ResetDone s cause u) :
    Renewed s cause u.resetRelease ∧ (s.pwr.nrstLow = false → u.resetRelease.pwr.held = none ∧ u.resetRelease.shakeStep = 2) ∧
      (s.pwr.nrstLow = true → u.resetRelease.pwr.held = some 2 ∧ u.resetRelease.shakeStep = 1) := by
  have hrenewed := h.toRenewed
  have hnrst := h.nrst
  cases hlow : u.pwr.nrstLow with
  | false =>
    have hs : s.pwr.nrstLow = false := hnrst.symm.trans hlow
    rw [State.resetRelease_go hlow, hs]
    refine ⟨hrenewed.update rfl h.rtOut (congrArg (fld · 0 3) (State.reg_setRf_ne _ _ _ _ _ _ (by decide)))
      fun a ha => State.reg_setRf_ne _ _ _ _ _ _ fun e => ha (by simp [e]), fun _ => ⟨rfl, State.rf_setRf _ _ _ _ _ (by decide)⟩, nofun⟩
  | true =>
    have hs : s.pwr.nrstLow = true := hnrst.symm.trans hlow
    rw [State.resetRelease_nrst hlow, hs]
    exact ⟨hrenewed.update rfl h.rtOut rfl fun _ _ => rfl, nofun, fun _ => ⟨rfl, shakeStep_of_reset h.shake⟩⟩

theorem resetRun_settle {cause : Nat} (hcause : cause < 8) :
    FreshRuns s (s.resetRun cause).settle cause ∧ (s.resetRun cause).settle.rb Reg.twnStat 9 = false := by
  have hdone := resetAs_done (s := s) hcause
  have hruns : Renewed s cause (s.resetRun cause) :=
    hdone.toRenewed.update rfl hdone.rtOut (congrArg (fld · 0 3) (State.reg_setRf_ne _ _ _ _ _ _ (by decide)))
      fun a ha => State.reg_setRf_ne _ _ _ _ _ _ fun e => ha (by simp [e])
  refine ⟨⟨hruns.settle, ?_, ?_⟩, ?_⟩
  · rw [State.settle_pwr]
    exact hdone.free
  · exact shakeStep_settle.trans (State.rf_setRf _ _ _ _ _ (by decide))
  · exact (State.rb_settle (by decide) 9).trans
      ((congrArg (bitOf · 9) (State.reg_setRf_ne _ _ _ _ _ _ (by decide))).trans hdone.passive)

/-! ### Supplies -/

theorem resetFree_iff : s.resetFree = true ↔ s.pwr.good = true ∧ s.pwr.held = none := by
  simp [State.resetFree]

/-- Power and the straps over a reset that has been released: KNAB_MODE is sampled, and the dip noted (R374, R381). -/
def State.powered (s : State) (pins : StrapPins) (dip : Bool) : State :=
  let s := { s with pwr := { s.pwr with good := true, straps := pins } }
  ((s.setRb Reg.pwrRstcause 3 dip).setRb Reg.pwrStrap 4 (pins.knabMode % 2 == 1)).setRb Reg.knbStat 1 (pins.knabMode % 2 == 1)

theorem exec_supplyGood {pins : StrapPins} {dip : Bool} (h : s.pwr.good = false ∨ (s.resetFree = true ∧ s.shakeStep = 1)) :
    exec (.supplyGood pins dip) s = ((s.resetAs 1).resetRelease.powered pins dip).done := by
  have hgo : (s.resetFree && s.shakeStep != 1 || s.pwr.good && s.pwr.held.isSome) = false := by
    rcases h with hgood | ⟨hfree, hstep⟩
    · simp [State.resetFree, hgood]
    · have hheld := (resetFree_iff.mp hfree).2
      simp [hstep, hheld]
  show execSupplyGood pins dip s = _
  rw [execSupplyGood, hgo, if_neg Bool.false_ne_true]
  rfl

theorem reg_powered {pins : StrapPins} {dip : Bool} {a : Nat} (ha : a ∉ [Reg.pwrRstcause, Reg.pwrStrap, Reg.knbStat]) :
    (u.powered pins dip).reg a = u.reg a := by
  obtain ⟨h1, h2, h3⟩ : a ≠ Reg.pwrRstcause ∧ a ≠ Reg.pwrStrap ∧ a ≠ Reg.knbStat := by simpa using ha
  exact (State.reg_setRb_ne _ _ _ _ _ h3).trans ((State.reg_setRb_ne _ _ _ _ _ h2).trans (State.reg_setRb_ne _ _ _ _ _ h1))

theorem reg_rstcause_powered {pins : StrapPins} {dip : Bool} :
    (u.powered pins dip).reg Reg.pwrRstcause = putBit (u.reg Reg.pwrRstcause) 3 dip :=
  (State.reg_setRb_ne _ _ _ _ _ (by decide)).trans ((State.reg_setRb_ne _ _ _ _ _ (by decide)).trans (State.reg_setReg_same _ _ _))

theorem powered_renewed {cause : Nat} {pins : StrapPins} {dip : Bool} (h : Renewed s cause u) : Renewed s cause (u.powered pins dip) := by
  have hshown : ∀ a ∈ [Reg.pwrRstcause, Reg.pwrStrap, Reg.knbStat], a ∈ [Reg.pwrRstcause, Reg.pwrShake, Reg.pwrStrap, Reg.knbStat] := by decide
  refine h.update rfl h.rtOut ?_ fun a ha => reg_powered fun hin => ha (hshown a hin)
  rw [State.rf, reg_rstcause_powered, putBit, fld_putFld_apart _ _ _ _ _ _ (by decide) (by decide), State.rf]

theorem answers_supplyGood (pins : StrapPins) (dip : Bool) (h : s.pwr.good = false ∨ (s.resetFree = true ∧ s.shakeStep = 1)) :
    ∃ t, exec (.supplyGood pins dip) s = .next t ∧ (s.pwr.nrstLow = false → FreshRuns s t 1) ∧
      (s.pwr.nrstLow = true → Fresh s t 1 ∧ t.pwr.held = some 2 ∧ t.shakeStep = 1) ∧ t.pwr.good = true ∧ t.pwr.straps = pins ∧
      t.rb Reg.pwrRstcause 3 = dip ∧ t.rb Reg.knbStat 1 = decide (pins.knabMode % 2 = 1) := by
  obtain ⟨hrenewed, hgo, hlow⟩ := resetRelease_renewed (resetAs_done (s := s) (cause := 1) (by decide))
  refine ⟨_, exec_supplyGood h, ?_⟩
  generalize (s.resetAs 1).resetRelease = u at hrenewed hgo hlow ⊢
  have hfresh := (powered_renewed (pins := pins) (dip := dip) hrenewed).settle
  have hpwr : (u.powered pins dip).settle.pwr = { u.pwr with good := true, straps := pins } := State.settle_pwr _
  have hstep : (u.powered pins dip).settle.shakeStep = u.shakeStep :=
    shakeStep_settle.trans (congrArg (fld · 0 4) (reg_powered (by decide)))
  refine ⟨fun hn => ⟨hfresh, ?_, hstep.trans (hgo hn).2⟩, fun hn => ⟨hfresh, ?_, hstep.trans (hlow hn).2⟩, ?_, ?_, ?_, ?_⟩
  · rw [hpwr]
    exact (hgo hn).1
  · rw [hpwr]
    exact (hlow hn).1
  · rw [hpwr]
  · rw [hpwr]
  · rw [State.rb_settle (by decide), State.rb, reg_rstcause_powered]
    exact bitOf_putBit _ 3 _ (by decide)
  · exact (State.rb_settle (by decide) 1).trans (State.rb_setRb _ _ _ _ (by decide))

theorem changesNothing_supplyGood (pins : StrapPins) (dip : Bool) (hgood : s.pwr.good = true)
    (h : s.pwr.held.isSome = true ∨ s.shakeStep ≠ 1) : changesNothing (.supplyGood pins dip) s := by
  refine changesNothing_of_done ?_
  have hstay : (s.resetFree && s.shakeStep != 1 || s.pwr.good && s.pwr.held.isSome) = true := by
    cases hheld : s.pwr.held with
    | some _ => simp [hgood]
    | none => simpa [State.resetFree, hgood, hheld] using h
  show execSupplyGood pins dip s = _
  rw [execSupplyGood, hstay, if_pos rfl]

/-- What waits for the store is lost with the supplies (R498). -/
def State.storeDropped (s : State) : State := { s with knb := { s.knb with stalled := [], stalledInc := [], after := [] } }

/-- A fall of the supplies in which no write of the store is under way (R374, R498, R508). -/
theorem exec_supplyFall (j : Nat) (hgood : s.pwr.good = true) (hcommit : s.knb.commit = none) (hbuf : s.ldl.buf = [])
    (hpending : s.log.pending = []) :
    exec (.supplyFall j true) s =
      ({ s.storeDropped.resetAs 1 with pwr := { (s.storeDropped.resetAs 1).pwr with good := false } } : State).done := by
  have hladle : s.ldlTorn = s := by rw [State.ldlTorn, hbuf]
  have hstore : s.knabSupplyFail j = s.storeDropped := by rw [State.knabSupplyFail, hcommit, State.storeDropped]
  have hlog : s.storeDropped.logTorn = s.storeDropped := by
    have hnext : s.storeDropped.logNext = none := logNext_eq_none (.inr (.inr (.inl hpending)))
    rw [State.logTorn, hnext, ite_self]
  show execSupplyFall j true s = _
  rw [execSupplyFall, State.supplyFall, hgood, Bool.not_true, if_neg Bool.false_ne_true, hladle]
  dsimp only
  rw [hstore, hlog, if_pos rfl]

theorem answers_supplyFall (j : Nat) (hgood : s.pwr.good = true) (hcommit : s.knb.commit = none) (hbuf : s.ldl.buf = [])
    (hpending : s.log.pending = []) :
    ∃ t, exec (.supplyFall j true) s = .next t ∧ Fresh s t 1 ∧ t.pwr.good = false ∧ t.awake = false ∧ t.rtc.epoch = s.rtc.epoch ∧
      ∀ a ∈ rtcDomainRegs, t.reg a = s.reg a := by
  have hdone := resetAs_done (s := s.storeDropped) (cause := 1) (by decide)
  refine ⟨_, exec_supplyFall j hgood hcommit hbuf hpending, ?_⟩
  have hepoch : (s.storeDropped.resetAs 1).rtc.epoch = s.rtc.epoch := hdone.epoch
  have hdomain : ∀ a ∈ rtcDomainRegs, (s.storeDropped.resetAs 1).reg a = s.reg a := hdone.domain
  generalize s.storeDropped.resetAs 1 = u at hdone hepoch hdomain ⊢
  have hoff : Renewed s.storeDropped 1 { u with pwr := { u.pwr with good := false } } := hdone.toRenewed.update rfl hdone.rtOut rfl fun _ _ => rfl
  have hgone : State.pwr (State.settle { u with pwr := { u.pwr with good := false } }) = { u.pwr with good := false } := State.settle_pwr _
  refine ⟨hoff.settle.congr rfl rfl rfl rfl rfl rfl, ?_, ?_, ?_, fun a ha => ?_⟩
  · rw [hgone]
  · rw [State.awake, hgone, Bool.false_and, Bool.false_and]
  · rw [State.settle_rtc]
    exact hepoch
  · exact (State.reg_settle _ a ((by decide : ∀ a ∈ rtcDomainRegs, a ∉ latchRegs) a ha)).trans (hdomain a ha)

/-- The bit of PWR_STAT that shows a supply outside its range (R375). -/
def supplyBit : Supply → Nat
  | .vddc => 3
  | .vddio => 4
  | .vdda => 5

theorem answers_supply (which : Supply) (low : Bool) (s : State) :
    ∃ t, exec (.supply which low) s = .next t ∧ t = { s with regs := t.regs, cen := cenNoted s t } ∧
      (t.rb Reg.pwrStat (supplyBit which) = low ∧ ∀ k, k ≠ supplyBit which → t.rb Reg.pwrStat k = s.rb Reg.pwrStat k) ∧
      regsKept s t [Reg.pwrStat] ∧ eventsFired s t [] := by
  have hexec : exec (.supply which low) s = (s.setRb Reg.pwrStat (supplyBit which) low).done := by
    cases which <;> rfl
  have hbit : supplyBit which < 32 := by cases which <;> decide
  refine ⟨_, hexec, ((RegFrame.refl s).setReg _ _).settle, ⟨?_, fun k hk => ?_⟩, regsKept_settle fun a ha _ => ?_, eventsFired_nil rfl fun a ha => ?_⟩
  · exact (State.rb_settle (by decide) _).trans (State.rb_setRb _ _ _ _ hbit)
  · exact (State.rb_settle (by decide) _).trans (State.rb_setRb_ne _ _ _ hk)
  · exact State.reg_setRb_ne _ _ _ _ _ (by simpa using ha)
  · exact State.reg_setRb_ne _ _ _ _ _ (by revert a; decide)

/-! ### Reset sources -/

theorem answers_nrst_free (h : s.resetFree = true) : ∃ t, exec .nrst s = .next t ∧ FreshHeld s t 2 ∧ t.pwr.nrstLow = true := by
  have hfree : State.resetFree { s with pwr := { s.pwr with nrstLow := true } } = true := h
  have hexec : exec .nrst s = (State.resetHeld { s with pwr := { s.pwr with nrstLow := true } } 2).done := by
    show execNrst s = _
    unfold execNrst
    dsimp only
    rw [hfree, if_pos rfl]
  obtain ⟨⟨hfresh, hheld, hstep⟩, hlow⟩ :=
    resetHeld_settle (s := { s with pwr := { s.pwr with nrstLow := true } }) (cause := 2) (by decide)
  exact ⟨_, hexec, ⟨hfresh.congr rfl rfl rfl rfl rfl rfl, hheld, hstep⟩, hlow⟩

/-- A command that changes the power state alone. -/
theorem answers_pwr {c : Instr} {p : PwrSt} (hexec : exec c s = ({ s with pwr := p } : State).done) :
    ∃ t, exec c s = .next t ∧ t = { s with regs := t.regs, pwr := p, cen := cenNoted s t } ∧ regsKept s t [] ∧ eventsFired s t [] :=
  ⟨_, hexec, RegFrame.settle (v := { s with pwr := p }) rfl, regsKept_refl [] rfl, eventsFired_nil rfl fun _ _ => rfl⟩

theorem exec_nrst_held (h : s.resetFree = false) : exec .nrst s = ({ s with pwr := { s.pwr with nrstLow := true } } : State).done := by
  have hfree : State.resetFree { s with pwr := { s.pwr with nrstLow := true } } = false := h
  show execNrst s = _
  unfold execNrst
  dsimp only
  rw [hfree, if_neg Bool.false_ne_true]

theorem answers_tripComparator (hasleep : s.asleep = true) (hfree : s.resetFree = true) :
    ∃ t, exec .tripComparator s = .next t ∧ FreshHeld s t 5 := by
  have hfree' : State.resetFree { s with pwr := { s.pwr with tripPeak := max 120 s.pwr.tripPeak } } = true := hfree
  have hexec : exec .tripComparator s = (State.resetHeld { s with pwr := { s.pwr with tripPeak := max 120 s.pwr.tripPeak } } 5).done := by
    show execTripComparator s = _
    rw [execTripComparator, hasleep, if_pos rfl, State.thermalTrip, hfree', if_pos rfl]
  obtain ⟨⟨hfresh, hheld, hstep⟩, -⟩ :=
    resetHeld_settle (s := { s with pwr := { s.pwr with tripPeak := max 120 s.pwr.tripPeak } }) (cause := 5) (by decide)
  exact ⟨_, hexec, hfresh.congr rfl rfl rfl rfl rfl rfl, hheld, hstep⟩

/-- A fault of TBO holds the part in reset (R28, R377). -/
theorem tboFault_settle (both : Bool) (h : s.resetFree = true) :
    FreshHeld s (s.tboFault both).settle 6 ∧ (s.tboFault both).settle.pwr.clockLost = both := by
  obtain ⟨hgood, hnone⟩ := resetFree_iff.mp h
  have hfault : s.tboFault both =
      { (s.fire 59).resetHeld 6 with pwr := { ((s.fire 59).resetHeld 6).pwr with clockLost := both } } := by
    rw [State.tboFault, hgood, hnone]
    rfl
  have hfire := storeFrame_fire s 59
  have hmem : (s.fire 59).mem = s.mem := State.fire_mem s 59
  have hdone := resetAs_done (s := s.fire 59) (cause := 6) (by decide)
  rw [hfault, State.resetHeld]
  generalize (s.fire 59).resetAs 6 = u at hdone ⊢
  generalize s.fire 59 = w at hfire hmem hdone
  have hheld : Renewed w 6 { u with pwr := { u.pwr with held := some 6, clockLost := both } } :=
    hdone.toRenewed.update rfl hdone.rtOut rfl fun _ _ => rfl
  have hpwr : State.pwr (State.settle { u with pwr := { u.pwr with held := some 6, clockLost := both } }) =
      { u.pwr with held := some 6, clockLost := both } := State.settle_pwr _
  refine ⟨⟨hheld.settle.congr ?_ ?_ ?_ ?_ ?_ hmem, ?_, ?_⟩, ?_⟩
  · rw [hfire]
  · rw [hfire]
  · rw [hfire]
  · rw [hfire]
  · rw [hfire]
  · exact congrArg PwrSt.held hpwr
  · exact shakeStep_settle.trans (shakeStep_of_reset hdone.shake)
  · exact congrArg PwrSt.clockLost hpwr

theorem resetFree_of_awake (h : s.awake = true) : s.resetFree = true := by
  simp only [State.awake, Bool.and_eq_true] at h
  exact Bool.and_eq_true_iff.mpr h.1

theorem exec_tboRange (h : s.awake = true) : exec .tboRange s = (s.tboFault false).done := by
  show execTboRange s = _
  rw [execTboRange, h, if_pos rfl]

theorem exec_twinForcedReset {n : Nat} (hfree : s.resetFree = true) (hforced : s.twn.forcedAt = some n) (hdue : n ≤ s.now) :
    exec .twinForcedReset s = (s.resetRun 4).done := by
  show execTwinForcedReset s = _
  rw [execTwinForcedReset, hforced]
  simp [hfree, hdue]

/-! ### The general watchdog (R380, R509) -/

theorem wdogMs_eq : s.wdogMs = max 100 (min 10000 (s.rf Reg.pwrWdog 0 14)) := rfl

theorem exec_watchdogReset (hawake : s.awake = true) (hon : s.rb Reg.pwrWdog 16 = true)
    (hdue : s.pwr.wdLast + 4 * max 100 (min 10000 (s.rf Reg.pwrWdog 0 14)) ≤ s.now) : exec .watchdogReset s = (s.resetRun 3).done := by
  show execWatchdogReset s = _
  rw [execWatchdogReset, if_pos]
  simp [State.wdogRuns, hawake, hon, wdogMs_eq, ticksOfMs, hdue]

theorem exec_watchdogReset_none (h : s.rb Reg.pwrWdog 16 = false ∨ s.now < s.pwr.wdLast + 400) : exec .watchdogReset s = s.done := by
  show execWatchdogReset s = _
  rw [execWatchdogReset, if_neg]
  rcases h with hoff | hearly
  · simp [State.wdogRuns, hoff]
  · have hnot : ¬ s.pwr.wdLast + ticksOfMs s.wdogMs ≤ s.now := by
      rw [wdogMs_eq, ticksOfMs]
      omega
    simp [hnot]

/-- The rest of PWR_STAT over a write of WARN. -/
theorem and_putBit_warn (x : Word) (b : Bool) : putBit x 2 b &&& 0xFFFFFFFB = x &&& 0xFFFFFFFB := by
  refine BitVec.eq_of_getLsbD_eq fun i hi => ?_
  rw [BitVec.getLsbD_and, BitVec.getLsbD_and]
  by_cases h : i = 2
  · have hmask : (0xFFFFFFFB : Word).getLsbD 2 = false := by decide
    rw [h, hmask, Bool.and_false, Bool.and_false]
  · have hother : (putBit x 2 b).getLsbD i = x.getLsbD i := bitOf_putFld_apart x 2 1 _ i hi (by omega)
    rw [hother]

/-- A command that writes WARN and leaves the other registers. -/
theorem warn_settle {b : Bool} (hwarn : u.reg Reg.pwrStat = putBit (s.reg Reg.pwrStat) 2 b)
    (hregs : ∀ a, a ≠ Reg.pwrStat → a ∉ latchRegs → u.reg a = s.reg a) :
    u.settle.rb Reg.pwrStat 2 = b ∧ u.settle.reg Reg.pwrStat &&& 0xFFFFFFFB = s.reg Reg.pwrStat &&& 0xFFFFFFFB ∧
      regsKept s u.settle [Reg.pwrStat] := by
  refine ⟨?_, ?_, regsKept_settle fun a ha hlatch => hregs a (by simpa using ha) hlatch⟩
  · rw [State.rb_settle (by decide), State.rb, hwarn]
    exact bitOf_putBit _ 2 _ (by decide)
  · rw [State.reg_settle u _ (by decide), hwarn, and_putBit_warn]

theorem answers_wdogWarn (hawake : s.awake = true) (hon : s.rb Reg.pwrWdog 16 = true) (hunwarned : s.rb Reg.pwrStat 2 = false)
    (hdue : s.pwr.wdLast + 2 * max 100 (min 10000 (s.rf Reg.pwrWdog 0 14)) ≤ s.now) :
    ∃ t, exec .wdogWarn s = .next t ∧ t = { s with regs := t.regs, act := { s.act with stopAt := some s.now }, cen := cenNoted s t } ∧
      t.rb Reg.pwrStat 2 = true ∧ t.runtimeRuns = false ∧
      (t.reg Reg.pwrStat &&& 0xFFFFFFFB = s.reg Reg.pwrStat &&& 0xFFFFFFFB ∧ regsKept s t [Reg.pwrStat]) ∧ eventsFired s t [53] := by
  have hexec : exec .wdogWarn s =
      ((State.setRb { s with act := { s.act with stopAt := some s.now } } Reg.pwrStat 2 true).fire 53).done := by
    show execWdogWarn s = _
    rw [execWdogWarn, if_pos]
    simp [State.wdogRuns, hawake, hon, hunwarned, wdogMs_eq, hdue]
  have hframe : RegFrame s { s with act := { s.act with stopAt := some s.now } }
      ((State.setRb { s with act := { s.act with stopAt := some s.now } } Reg.pwrStat 2 true).fire 53) := by
    exact RegFrame.fire (by rfl) 53
  have hfired : Fired s ((State.setRb { s with act := { s.act with stopAt := some s.now } } Reg.pwrStat 2 true).fire 53) [53] := by
    have hset : Fired s (State.setRb { s with act := { s.act with stopAt := some s.now } } Reg.pwrStat 2 true) [] :=
      (Fired.refl s).congr rfl fun a ha => State.reg_setRb_ne _ _ _ _ _ (by revert a; decide)
    exact hset.fire 53 (by decide)
  obtain ⟨hwarn, hrest, hkept⟩ := warn_settle (s := s) (b := true)
    (u := (State.setRb { s with act := { s.act with stopAt := some s.now } } Reg.pwrStat 2 true).fire 53)
    ((State.reg_fire _ _ _ (by decide)).trans (State.reg_setReg_same _ _ _))
    fun a ha hlatch => (State.reg_fire _ _ _ hlatch).trans (State.reg_setRb_ne _ _ _ _ _ ha)
  refine ⟨_, hexec, hframe.settle, hwarn, ?_, ⟨hrest, hkept⟩, hfired.done⟩
  rw [State.runtimeRuns, hwarn, Bool.not_true, Bool.and_false]

theorem present_pwr : s.present 1 = true := by
  have hall : ∀ v : Variant, bitOf (sysUnitsOf v) 1 = true := by
    intro v
    cases v <;> decide
  exact hall s.variant

/-- The count of the watchdog starts again, and its warning goes (R380, R213). -/
def State.wdogFed (s : State) : State :=
  State.setRb { s with pwr := { s.pwr with wdLast := s.now }, act := { s.act with stopAt := none } } Reg.pwrStat 2 false

theorem exec_watchdogKick {who : Init} (hmay : mayWrite who 1 s) : exec (.watchdogKick who) s = s.wdogFed.runtimePays.done := by
  show execWatchdogKick who s = _
  rw [execWatchdogKick, State.guardWrite_eq present_pwr hmay]
  rfl

theorem reg_stat_wdogFed : s.wdogFed.reg Reg.pwrStat = putBit (s.reg Reg.pwrStat) 2 false := State.reg_setReg_same _ _ _

theorem reg_wdogFed {a : Nat} (ha : a ≠ Reg.pwrStat) : s.wdogFed.reg a = s.reg a := State.reg_setRb_ne _ _ _ _ _ ha

theorem runtimePays_nil (h : u.knb.owed = []) : u.runtimePays = u := by
  have hknb : ({ u.knb with owed := [] } : KnbSt) = u.knb := by rw [← h]
  unfold State.runtimePays
  dsimp only
  rw [h, List.foldl_nil, hknb]

/-- A kick while nothing is owed to the counters. -/
theorem answers_watchdogKick {who : Init} (hmay : mayWrite who 1 s) (howed : s.knb.owed = []) :
    ∃ t, exec (.watchdogKick who) s = .next t ∧
      t = { s with regs := t.regs, pwr := { s.pwr with wdLast := s.now }, act := { s.act with stopAt := none }, cen := cenNoted s t } ∧
      t.rb Reg.pwrStat 2 = false ∧ (t.reg Reg.pwrStat &&& 0xFFFFFFFB = s.reg Reg.pwrStat &&& 0xFFFFFFFB ∧ regsKept s t [Reg.pwrStat]) ∧
      eventsFired s t [] := by
  have hexec := exec_watchdogKick hmay
  rw [runtimePays_nil (u := s.wdogFed) howed] at hexec
  obtain ⟨hwarn, hrest, hkept⟩ := warn_settle reg_stat_wdogFed fun a ha _ => reg_wdogFed (s := s) ha
  exact ⟨_, hexec, RegFrame.settle (v := { s with pwr := { s.pwr with wdLast := s.now }, act := { s.act with stopAt := none } }) rfl, hwarn,
    ⟨hrest, hkept⟩, eventsFired_nil rfl fun a ha => reg_wdogFed (by revert a; decide)⟩

/-- Nothing is owed to the counters. -/
def State.debtCleared (s : State) : State := { s with knb := { s.knb with owed := [] } }

theorem runtimePays_one {c k : Nat} (h : u.knb.owed = [(c, k)]) : u.runtimePays = u.debtCleared.knabCtrAdd c k := by
  unfold State.runtimePays
  dsimp only
  rw [h, List.foldl_cons, List.foldl_nil]
  rfl

/-- A kick while counts are owed to one counter (R509, R510). -/
theorem answers_watchdogKick_owed {who : Init} {c k : Nat} (hmay : mayWrite who 1 s) (howed : s.knb.owed = [(c, k)])
    (hidle : s.knb.commit = none) (hinc : s.knb.stalledInc = []) (hc : c < 32) (hmax : s.knabCtrVal c + k < 2 ^ 64) :
    ∃ t, exec (.watchdogKick who) s = .next t ∧ t.rb Reg.pwrStat 2 = false ∧ t.knb.owed = [] ∧ t.knabCtrVal c = s.knabCtrVal c + k ∧
      storeKept s t (fun a => knabCtr c ≤ a && a < knabCtr c + 12) ∧
      (t.reg Reg.pwrStat &&& 0xFFFFFFFB = s.reg Reg.pwrStat &&& 0xFFFFFFFB ∧ regsKept s t [Reg.pwrStat]) ∧ eventsFired s t [] := by
  have hexec := exec_watchdogKick hmay
  rw [runtimePays_one (u := s.wdogFed) howed] at hexec
  have hidle' : s.wdogFed.debtCleared.knb.commit = none := hidle
  have hinc' : s.wdogFed.debtCleared.knb.stalledInc = [] := hinc
  have hval : s.wdogFed.debtCleared.knabCtrVal c = s.knabCtrVal c := knabCtrVal_congr fun _ _ => rfl
  have hbyte : ∀ a, s.wdogFed.debtCleared.byte a = s.byte a := fun _ => rfl
  have hknabByte : ∀ a, s.wdogFed.debtCleared.knabByte a = s.knabByte a := fun _ => rfl
  have hstat : s.wdogFed.debtCleared.reg Reg.pwrStat = putBit (s.reg Reg.pwrStat) 2 false := reg_stat_wdogFed
  have hother : ∀ a, a ≠ Reg.pwrStat → s.wdogFed.debtCleared.reg a = s.reg a := fun a ha => reg_wdogFed (s := s) ha
  have howed' : s.wdogFed.debtCleared.knb.owed = [] := rfl
  have hvariant : s.wdogFed.debtCleared.variant = s.variant := rfl
  generalize s.wdogFed.debtCleared = v at hexec hidle' hinc' hval hbyte hknabByte hstat hother howed' hvariant
  have hframe := storeFrame_knabCtrAdd (c := c) hidle' hinc' k
  have hregs : ∀ a, (v.knabCtrAdd c k).reg a = v.reg a := reg_knabCtrAdd hidle' hinc' k
  have hadded : (v.knabCtrAdd c k).knabCtrVal c = s.knabCtrVal c + k := by
    rw [knabCtrVal_knabCtrAdd hidle' hc hinc', hval]
    omega
  have hoff : ∀ a, a < knabPage 0 ∨ knabPage 1040 ≤ a → (v.knabCtrAdd c k).byte a = v.byte a := fun a ha =>
    byte_knabCtrAdd_off hidle' hc hinc' k ha
  have hapart : ∀ a, InStore a → ¬(knabCtr c ≤ a ∧ a < knabCtr c + 12) → (v.knabCtrAdd c k).knabByte a = v.knabByte a := fun a ha hout =>
    knabByte_knabCtrAdd_of_apart hidle' hc hinc' k ha hout
  generalize v.knabCtrAdd c k = w at hexec hframe hregs hadded hoff hapart
  obtain ⟨hwarn, hrest, hkept⟩ := warn_settle ((hregs _).trans hstat) fun a ha _ => (hregs a).trans (hother a ha)
  have hmem : ∀ a, w.settle.byte a = w.byte a := State.byte_congr (State.settle_mem w)
  have hstore : ∀ a, knabPage 0 ≤ a → w.settle.knabByte a = w.knabByte a := fun a ha =>
    knabByte_congr (State.settle_knb w) (fun b _ => hmem b) ha
  refine ⟨_, hexec, hwarn, ?_, ?_, ⟨fun a ha => ?_, fun a hlo hhi hout => ?_⟩, ⟨hrest, hkept⟩, eventsFired_nil ?_ fun a ha => ?_⟩
  · rw [State.settle_knb, hframe.knb, howed']
  · refine (knabCtrVal_congr fun i hi => hstore _ ?_).trans hadded
    unfold knabPage knabCtr
    omega
  · rw [hmem, hoff a (by omega), hbyte]
  · rw [hstore a hlo, hapart a ⟨hlo, hhi⟩ (by simpa using hout), hknabByte]
  · rw [hframe.variant, hvariant]
  · rw [hregs, hother a (by revert a; decide)]

/-! ### Releases -/

/-- NRST stands high. -/
def State.nrstHigh (s : State) : State := { s with pwr := { s.pwr with nrstLow := false } }

theorem exec_nrstRelease :
    exec .nrstRelease s = (if s.pwr.held = some 2 then s.nrstHigh.resetRelease else s.nrstHigh).done := rfl

theorem answers_nrstRelease (h : s.pwr.held = some 2) :
    ∃ t, exec .nrstRelease s = .next t ∧
      t = { s with regs := t.regs, cen := cenNoted s t,
                   pwr := { s.pwr with held := none, nrstLow := false, shakeFrom := s.now, wdLast := s.now } } ∧
      t.shakeStep = 2 ∧ regsKept s t [Reg.pwrShake] ∧ eventsFired s t [] := by
  have hexec : exec .nrstRelease s = s.nrstHigh.resetRelease.done := by
    rw [exec_nrstRelease, if_pos h]
  rw [State.resetRelease_go (s := s.nrstHigh) rfl] at hexec
  refine ⟨_, hexec, RegFrame.settle (s := s)
    (v := { s with pwr := { s.pwr with held := none, nrstLow := false, shakeFrom := s.now, wdLast := s.now } }) rfl, ?_,
    regsKept_settle fun a ha _ => ?_, eventsFired_nil rfl fun a ha => ?_⟩
  · exact shakeStep_settle.trans (State.rf_setRf _ _ _ _ _ (by decide))
  · exact State.reg_setRf_ne _ _ _ _ _ _ (by simpa using ha)
  · exact State.reg_setRf_ne _ _ _ _ _ _ (by revert a; decide)

theorem exec_tripRelease (h : s.pwr.held = some 5) : exec .tripRelease s = s.resetRelease.done := by
  show execTripRelease s = _
  rw [execTripRelease, if_pos h]

theorem answers_tripRelease_go (h : s.pwr.held = some 5) (hhigh : s.pwr.nrstLow = false) :
    ∃ t, exec .tripRelease s = .next t ∧
      t = { s with regs := t.regs, cen := cenNoted s t,
                   pwr := { s.pwr with held := none, nrstLow := false, shakeFrom := s.now, wdLast := s.now } } ∧
      t.shakeStep = 2 ∧ regsKept s t [Reg.pwrShake] ∧ eventsFired s t [] := by
  have hpwr : ({ s.pwr with held := none, nrstLow := false, shakeFrom := s.now, wdLast := s.now } : PwrSt) =
      { s.pwr with held := none, shakeFrom := s.now, wdLast := s.now } := by rw [← hhigh]
  rw [hpwr]
  exact answers_release_go (exec_tripRelease h) hhigh

theorem exec_rstoutRise (hfree : s.resetFree = true) (hdue : s.pwr.rstoutDue = true) :
    exec .rstoutRise s = ({ s with pwr := { s.pwr with rstout := true } } : State).done := by
  show execRstoutRise s = _
  rw [execRstoutRise, hfree, hdue, Bool.and_self, if_pos rfl]

/-- Settles O39: every source ends in one blank state with the loads of a reset; what remains is held, released, or out of power. -/
theorem suppliesAndResets : Obligations.SuppliesAndResets := by
  refine ⟨fun pins dip _ h => answers_supplyGood pins dip h, fun pins dip _ hgood h => changesNothing_supplyGood pins dip hgood h,
    fun j _ hgood hcommit hbuf hpending => answers_supplyFall j hgood hcommit hbuf hpending, ?_, fun _ h => answers_nrst_free h,
    fun _ h => answers_pwr (exec_nrst_held h), fun _ hasleep hfree => answers_tripComparator hasleep hfree, fun s h => ?_, fun s h => ?_,
    fun s h => ?_, fun s n hfree hforced hdue => ?_, fun s hawake hon hdue => ?_, fun _ h => changesNothing_of_done (exec_watchdogReset_none h),
    fun _ hawake hon hunwarned hdue => answers_wdogWarn hawake hon hunwarned hdue, fun _ _ hmay howed => answers_watchdogKick hmay howed,
    fun _ _ _ _ hmay howed hidle hinc hc hmax => answers_watchdogKick_owed hmay howed hidle hinc hc hmax, fun _ h => answers_nrstRelease h,
    fun _ h hhigh => answers_tripRelease_go h hhigh, fun _ h hlow => answers_release_nrst (exec_tripRelease h) hlow, fun s h => ?_,
    fun s h => ?_, fun _ hfree hdue => answers_pwr (exec_rstoutRise hfree hdue)⟩
  · intro which low s
    obtain ⟨t, hexec, hframe, hbits, hkept⟩ := answers_supply which low s
    refine ⟨t, hexec, hframe, ?_, hkept⟩
    cases which <;> exact hbits
  · refine changesNothing_of_done ?_
    show execTripComparator s = _
    rw [execTripComparator, h, if_neg Bool.false_ne_true]
  · exact ⟨_, exec_tboRange h, tboFault_settle false (resetFree_of_awake h)⟩
  · exact ⟨_, rfl, tboFault_settle true h⟩
  · exact ⟨_, exec_twinForcedReset hfree hforced hdue, resetRun_settle (by decide)⟩
  · exact ⟨_, exec_watchdogReset hawake hon hdue, (resetRun_settle (by decide)).1⟩
  · exact answers_pwr (by rw [exec_nrstRelease, if_neg h]; rfl)
  · refine changesNothing_of_done ?_
    show execTripRelease s = _
    rw [execTripRelease, if_neg h]

end Sys2Proof.Machine
end

section
/-! PROOFS. What decides how a base tick counts, and that the output channels leave it alone (R29, R31, R36, R198, R226). -/

namespace Sys2Proof.Machine

variable {s u v w : State}

/-! ### The view -/

/-- The registers that decide whether the part is awake, whether a chill boundary stands, and what chill entry waits for. -/
def clockRegs : List Nat := [Reg.pwrStat, Reg.cenPeriod 0, Reg.sbStat 0, Reg.sbStat 1, Reg.sbStat 2, Reg.ldlStat]

/-- What decides how a base tick counts: power, TBO, a TICK value to be loaded, whether the Knab store or the ladle is at work, and
the registers above. -/
def State.clock (s : State) : PwrSt × TbSt × Option Nat × Bool × List Nat × List (Nat × List Byte) × List Word :=
  (s.pwr, s.tb, s.twn.reload, s.knabBusy || !s.knb.stalledInc.isEmpty, s.knb.weak, s.ldl.buf, clockRegs.map s.reg)

theorem clock_ite {c : Prop} [Decidable c] (hu : u.clock = w.clock) (hv : v.clock = w.clock) : State.clock (if c then u else v) = w.clock := by
  split
  · exact hu
  · exact hv

theorem clock_setReg {a : Nat} (x : Word) (ha : a ∉ clockRegs) : (s.setReg a x).clock = s.clock := by
  have hregs : clockRegs.map (s.setReg a x).reg = clockRegs.map s.reg :=
    List.map_congr_left fun b hb => State.reg_setReg_ne s _ _ _ fun e => ha (e ▸ hb)
  unfold State.clock
  rw [hregs]
  rfl

theorem clock_fire (n : Nat) : (s.fire n).clock = s.clock := by
  have hregs : clockRegs.map (s.fire n).reg = clockRegs.map s.reg :=
    List.map_congr_left fun b hb => State.reg_fire _ _ _ ((by decide : ∀ b ∈ clockRegs, b ∉ latchRegs) b hb)
  unfold State.clock
  rw [hregs, storeFrame_fire s n]
  rfl

theorem clock_setBytes (a : Nat) (l : List Byte) : (s.setBytes a l).clock = s.clock := by
  induction l generalizing s a with
  | nil => rfl
  | cons b l ih => exact (ih (s := s.setByte a b) (a + 1)).trans rfl

/-- The registers that an entry offered to ring n may change. -/
theorem ringReg_notMem_clock : ∀ n < 32, Reg.rngHead n ∉ clockRegs ∧ Reg.rngTail n ∉ clockRegs ∧ Reg.rngDrop n ∉ clockRegs := by decide

theorem clock_ringDropped {n : Nat} (hn : n < 32) : (s.ringDropped n).clock = s.clock :=
  (clock_setReg _ (by decide)).trans (clock_setReg _ (ringReg_notMem_clock n hn).2.2)

theorem clock_ringPush {n : Nat} (hn : n < 32) (e : List Byte) : (s.ringPush n e).clock = s.clock :=
  (clock_setReg _ (ringReg_notMem_clock n hn).1).trans (clock_setBytes _ _)

theorem clock_ringOffer {n : Nat} (hn : n < 32) (e : List Byte) : (s.ringOffer n e).clock = s.clock := by
  have hdropped : ∀ v : State, (v.ringDropped n).clock = v.clock := fun v => clock_ringDropped hn
  unfold State.ringOffer
  refine clock_ite (hdropped s) (clock_ite ?_ (clock_ite (clock_ringPush hn e) ?_))
  · exact (clock_fire 34).trans ((clock_setReg _ (by decide)).trans (hdropped s))
  · split
    · exact (hdropped _).trans ((clock_ringPush hn e).trans (clock_setReg _ (ringReg_notMem_clock n hn).2.1))
    · exact clock_ite (hdropped s) rfl
    · exact hdropped s

theorem clock_knabPuts (l : List (Nat × List Byte)) : (s.knabPuts l).clock = s.clock := by
  have hregs : clockRegs.map (s.knabPuts l).reg = clockRegs.map s.reg := List.map_congr_left fun a _ => reg_knabPuts _ _ _
  unfold State.clock
  rw [hregs, storeFrame_knabPuts s l]
  rfl

/-- An increment waits for a transaction in progress: the store is then at work before and after (R503). -/
theorem clock_knabCtrAdd (c k : Nat) : (s.knabCtrAdd c k).clock = s.clock := by
  unfold State.knabCtrAdd
  split
  · rename_i hwait
    have hbusy : (s.knabBusy || !s.knb.stalledInc.isEmpty) = true := by
      cases hcommit : s.knb.commit with
      | none => simpa [State.knabTarget, State.knabBusy, hcommit] using hwait
      | some _ => simp [State.knabBusy, hcommit]
    have hlater : (s.knabBusy || !(s.knb.stalledInc ++ [(c, k)]).isEmpty) = (s.knabBusy || !s.knb.stalledInc.isEmpty) := by
      rw [hbusy]
      simp
    exact congrArg (fun b => (s.pwr, s.tb, s.twn.reload, b, s.knb.weak, s.ldl.buf, clockRegs.map s.reg)) hlater
  · exact clock_knabPuts _

/-! ### The output channels -/

theorem clock_setAct (n : Nat) (a : ActCh) : (s.setAct n a).clock = s.clock := rfl

theorem clock_setFan (f : Nat) (a : FanCh) : (s.setFan f a).clock = s.clock := rfl

section
variable {n : Nat}

theorem clock_actEntry (kind : Nat) : (s.actEntry n kind).clock = s.clock := clock_ringOffer (by decide) _

theorem clock_actLatch : (s.actLatch n).clock = s.clock := rfl

theorem clock_pwmBegin : (s.pwmBegin n).clock = s.clock := rfl

theorem clock_actEnd (resync : Bool) : (s.actEnd n resync).clock = s.clock := by
  unfold State.actEnd
  exact (clock_actEntry _).trans (clock_ite ((clock_fire 12).trans (clock_setReg _ (by decide))) (clock_setReg _ (by decide)))

theorem clock_actLeaveSafe : (s.actLeaveSafe n).clock = s.clock := (clock_actEntry 4).trans (clock_setAct _ _)

theorem clock_floatAdvance : (s.floatAdvance n).clock = s.clock := clock_ite rfl rfl

theorem clock_stepCancel : (s.stepCancel n).clock = s.clock := by
  unfold State.stepCancel
  dsimp only
  split
  · exact clock_ite rfl rfl
  · rfl

variable (hn : n < 32)
include hn

theorem clock_actStroke : (s.actStroke n).clock = s.clock :=
  clock_setReg _ ((by decide : ∀ n < 32, Reg.actnStrokes n ∉ clockRegs) n hn)

theorem clock_floatStop : (s.floatStop n).clock = s.clock := (clock_actStroke hn).trans rfl

theorem clock_floatDecide : (s.floatDecide n).clock = s.clock := by
  have hend : ∀ resync, ((s.floatStop n).actEnd n resync).clock = s.clock := fun resync => (clock_actEnd resync).trans (clock_floatStop hn)
  unfold State.floatDecide
  dsimp only
  split
  · exact clock_ite (hend _) rfl
  · exact clock_ite (hend _) rfl
  · exact clock_ite rfl (clock_ite rfl (clock_ite rfl rfl))

theorem clock_stepTurn : (s.stepTurn n).clock = s.clock := by
  unfold State.stepTurn
  exact clock_ite rfl (clock_ite (clock_stepCancel.trans (clock_actStroke hn)) rfl)

theorem clock_binaryTick : (s.binaryTick n).clock = s.clock := by
  unfold State.binaryTick
  exact clock_ite (clock_ite (clock_actStroke hn) rfl) rfl

theorem clock_actHold : (s.actHold n).clock = s.clock := by
  have hstopped : ((if (s.act1 n).drv != .none then s.floatStop n else s).stepCancel n).clock = s.clock :=
    clock_stepCancel.trans (clock_ite (clock_floatStop hn) rfl)
  unfold State.actHold
  exact clock_ite rfl (clock_ite hstopped hstopped)

theorem clock_actEnterSafe : (s.actEnterSafe n).clock = s.clock := by
  unfold State.actEnterSafe
  extract_lets held a level counted entered
  have hheld : held.clock = s.clock := (clock_actHold hn).trans (clock_ite (clock_floatStop hn) rfl)
  have hcounted : counted.clock = s.clock := (clock_ite (clock_actStroke hn) rfl).trans hheld
  exact (clock_actEntry 3).trans hcounted

theorem clock_actTick : (s.actTick n).clock = s.clock := by
  unfold State.actTick
  extract_lets a runs taken kind latched held advanced safe turned begun
  have htaken : taken.clock = s.clock := rfl
  have hlatched : latched.clock = s.clock := (clock_ite clock_actLatch rfl).trans htaken
  have hheld : held.clock = s.clock := (clock_ite (clock_actHold hn) rfl).trans hlatched
  have hadvanced : advanced.clock = s.clock := (clock_ite clock_floatAdvance rfl).trans hheld
  have hturned : turned.clock = s.clock := (clock_ite (clock_actEnterSafe hn) (clock_ite clock_actLeaveSafe rfl)).trans hadvanced
  have hbegun : begun.clock = s.clock := (clock_ite clock_pwmBegin rfl).trans hturned
  refine Eq.trans ?_ hbegun
  split
  · exact clock_ite (clock_floatDecide hn) rfl
  · exact clock_stepTurn hn
  · exact clock_ite (clock_binaryTick hn) rfl
  · rfl

end

/-- Steps over a list of channels that each leave the view leave it. -/
theorem clock_forEach {l : List Nat} {f : State → Nat → State} (hf : ∀ n ∈ l, ∀ v : State, (f v n).clock = v.clock) :
    (s.forEach l f).clock = s.clock := by
  induction l generalizing s with
  | nil => rfl
  | cons n l ih =>
    rw [State.forEach, List.foldl_cons]
    exact (ih fun m hm => hf m (by simp [hm])).trans (hf n (by simp) s)

theorem nActs_le (s : State) : s.nActs ≤ 32 := by
  unfold State.nActs
  split <;> decide

theorem nFans_le (s : State) : s.nFans ≤ 16 := by
  unfold State.nFans
  split <;> decide

theorem clock_actTicks : s.actTicks.clock = s.clock :=
  clock_ite (clock_forEach fun _ hn _ => clock_actTick (Nat.lt_of_lt_of_le (List.mem_range.mp hn) (nActs_le s))) rfl

/-! ### The fans -/

section
variable {f : Nat} (hf : f < 16)
include hf

theorem fanReg_notMem_clock : Reg.fanfRpm f ∉ clockRegs ∧ Reg.fanfOntime f ∉ clockRegs :=
  (by decide : ∀ f < 16, Reg.fanfRpm f ∉ clockRegs ∧ Reg.fanfOntime f ∉ clockRegs) f hf

theorem clock_fanEnter (st : Nat) : (s.fanEnter f st).clock = s.clock := by
  unfold State.fanEnter
  extract_lets opened a entered cleared
  have hcleared : cleared.clock = s.clock := clock_ite ((clock_setReg _ (fanReg_notMem_clock hf).1).trans (clock_setFan _ _)) (clock_setFan _ _)
  exact (clock_ite (clock_setFan _ _) rfl).trans hcleared

theorem clock_fanStart (restart : Bool) : (s.fanStart f restart).clock = s.clock := (clock_setFan _ _).trans (clock_fanEnter hf 1)

theorem clock_fanStates : (s.fanStates f).clock = s.clock := by
  unfold State.fanStates
  exact clock_ite (clock_ite (clock_fanStart hf false) rfl) (clock_ite (clock_fanEnter hf 0) (clock_ite (clock_fanEnter hf 0) rfl))

omit hf in
theorem clock_fanSlew : (s.fanSlew f).clock = s.clock := by
  unfold State.fanSlew
  exact clock_ite rfl (clock_setFan _ _)

omit hf in
theorem clock_runtimeCount (c : Nat) : (s.runtimeCount c).clock = s.clock := by
  unfold State.runtimeCount
  exact clock_ite (clock_knabCtrAdd c 1) rfl

theorem clock_fanTick : (s.fanTick f).clock = s.clock := by
  unfold State.fanTick
  extract_lets moved a second
  have hmoved : moved.clock = s.clock := (clock_fanStates hf).trans clock_fanSlew
  have hsecond : second.clock = s.clock := (clock_setReg _ (fanReg_notMem_clock hf).2).trans ((clock_setFan _ _).trans hmoved)
  exact (clock_ite hmoved (clock_ite ((clock_runtimeCount f).trans hsecond) ((clock_setFan _ _).trans hmoved)))

end

theorem clock_fanTicks : s.fanTicks.clock = s.clock :=
  clock_ite (clock_forEach fun _ hn _ => clock_fanTick (Nat.lt_of_lt_of_le (List.mem_range.mp hn) (nFans_le s))) rfl

theorem clock_outTicks : s.outTicks.clock = s.clock := clock_fanTicks.trans (clock_actTicks.trans rfl)

theorem clock_outTicksDue : s.outTicksDue.clock = s.clock := clock_ite clock_outTicks rfl

end Sys2Proof.Machine
end

section
/-! PROOFS. The base tick: time passes, TBCOUNT counts or takes the value of a TICK token, and the units leave it (R29, R31, R36, R351). -/

namespace Sys2Proof.Machine

variable {s u v w : State}

/-! ### What the view decides -/

theorem clock_eq (h : u.clock = s.clock) :
    u.pwr = s.pwr ∧ u.tb = s.tb ∧ u.twn.reload = s.twn.reload ∧
      (u.knabBusy || !u.knb.stalledInc.isEmpty) = (s.knabBusy || !s.knb.stalledInc.isEmpty) ∧ u.knb.weak = s.knb.weak ∧
      u.ldl.buf = s.ldl.buf ∧ ∀ a ∈ clockRegs, u.reg a = s.reg a := by
  unfold State.clock at h
  simp only [Prod.mk.injEq] at h
  obtain ⟨hpwr, htb, hreload, hstore, hweak, hbuf, hregs⟩ := h
  exact ⟨hpwr, htb, hreload, hstore, hweak, hbuf, List.map_inj_left.mp hregs⟩

theorem awake_of_clock (h : u.clock = s.clock) : u.awake = s.awake := by
  obtain ⟨hpwr, -, -, -, -, -, hregs⟩ := clock_eq h
  simp only [State.awake, State.asleep, State.rf, hpwr, hregs Reg.pwrStat (by decide)]

theorem chillNow_of_clock (h : u.clock = s.clock) : u.chillNow = s.chillNow := by
  obtain ⟨hpwr, htb, -, -, -, -, hregs⟩ := clock_eq h
  simp only [State.chillNow, State.atBoundary, State.period, State.rf, awake_of_clock h, hpwr, htb, hregs (Reg.cenPeriod 0) (by decide)]

theorem chillWaits_eq (s : State) :
    s.chillWaits = (s.sbusAnyBusy || ((s.knabBusy || !s.knb.stalledInc.isEmpty) ||
      (!s.knb.weak.isEmpty || (!s.ldl.buf.isEmpty || s.rb Reg.ldlStat 1)))) := by
  simp only [State.chillWaits, Bool.or_assoc]

theorem chillWaits_of_clock (h : u.clock = s.clock) : u.chillWaits = s.chillWaits := by
  obtain ⟨-, -, -, hstore, hweak, hbuf, hregs⟩ := clock_eq h
  have hbuses : u.sbusAnyBusy = s.sbusAnyBusy := by
    have hbus : ∀ b ∈ List.range 3, u.sbusBusy b = s.sbusBusy b := fun b hb =>
      congrArg (bitOf · 0) (hregs _ ((by decide : ∀ b ∈ List.range 3, Reg.sbStat b ∈ clockRegs) b hb))
    rw [State.sbusAnyBusy, State.sbusAnyBusy, Bool.eq_iff_iff, List.any_eq_true, List.any_eq_true]
    exact exists_congr fun b => and_congr_right fun hb => by rw [hbus b hb]
  rw [chillWaits_eq, chillWaits_eq, hbuses, hstore, hweak, hbuf, State.rb, hregs Reg.ldlStat (by decide), State.rb]

/-! ### Time passes -/

theorem clock_linkTick : s.linkTick.clock = s.clock := clock_ite rfl rfl

theorem clock_timePasses : s.timePasses.clock = s.clock := Eq.trans rfl clock_linkTick

theorem clock_rtcHaltShow (c : Int) : (s.rtcHaltShow c).clock = s.clock := by
  have hshow : (s.setReg Reg.rtcHaltticks (BitVec.ofNat 32 (min 0xFFFFFFFF (Int.fdiv c 1000).toNat))).clock = s.clock :=
    clock_setReg _ (by decide)
  exact hshow

theorem clock_xtalTick : s.xtalTick.clock = s.clock := clock_ite rfl (clock_ite ((clock_rtcHaltShow _).trans rfl) rfl)

/-- One tick of time, before TBCOUNT counts. -/
def State.ticked (s : State) : State := s.outTicksDue.timePasses.xtalTick

theorem clock_ticked : s.ticked.clock = s.clock := clock_xtalTick.trans (clock_timePasses.trans clock_outTicksDue)

theorem now_ticked : s.ticked.now = s.now + 1 := by
  have hout : s.outTicksDue.now = s.now := ((keeps_outTicksDue (Keeps.refl true s)).still rfl).1
  have hlink : s.outTicksDue.linkTick.now = s.outTicksDue.now := by
    unfold State.linkTick
    dsimp only
    split <;> rfl
  have hxtal : s.ticked.now = s.outTicksDue.timePasses.now := ((keeps_xtalTick (Keeps.refl true _)).still rfl).1
  rw [hxtal, ← hout, ← hlink]
  rfl

/-! ### TBCOUNT -/

theorem execBaseTick_awake (hawake : s.awake = true) :
    execBaseTick s = (if s.chillNow && s.chillWaits then s.ticked
      else if s.tb.running then s.ticked.countTick.unitTicks.tickSend else s.ticked).done := by
  have hclock := clock_ticked (s := s)
  have hasleep : s.asleep = false := by
    simp only [State.awake, Bool.and_eq_true, Bool.not_eq_true'] at hawake
    exact hawake.2
  have hticked : s.ticked.awake = true := (awake_of_clock hclock).trans hawake
  have hrunning : s.ticked.tb.running = s.tb.running := congrArg TbSt.running (clock_eq hclock).2.1
  rw [execBaseTick, hasleep, Bool.false_and, Bool.false_and, if_neg Bool.false_ne_true]
  change (if !s.ticked.awake || (s.ticked.chillNow && s.ticked.chillWaits) then s.ticked
    else if s.ticked.tb.running then s.ticked.countTick.unitTicks.tickSend else s.ticked).done = _
  rw [hticked, chillNow_of_clock hclock, chillWaits_of_clock hclock, hrunning, Bool.not_true, Bool.false_or]

theorem tickSend_unitTicks_still : u.unitTicks.tickSend.now = u.now ∧ u.unitTicks.tickSend.tb = u.tb :=
  (keeps_tickSend (keeps_unitTicks (Keeps.refl true u))).still rfl

theorem framesAbandon_eq : s.framesAbandon = { s with mem := s.framesAbandon.mem, cen := s.framesAbandon.cen } := by
  have hclear := pendCleared_eq (s := s) ((s.cen.frames.filter (fun f => f.busy)).flatMap (fun f => f.evald))
  have habandon : s.framesAbandon =
      { s.pendCleared ((s.cen.frames.filter (fun f => f.busy)).flatMap (fun f => f.evald)) with
        cen := { (s.pendCleared ((s.cen.frames.filter (fun f => f.busy)).flatMap (fun f => f.evald))).cen with
          frames := (s.pendCleared ((s.cen.frames.filter (fun f => f.busy)).flatMap (fun f => f.evald))).cen.frames.map
            (fun f => if f.busy then {} else f) } } := rfl
  rw [habandon]
  generalize s.pendCleared _ = u at hclear
  rw [hclear]

theorem countTick_none (h : s.twn.reload = none) : s.countTick = { s with tb := { s.tb with count := (s.tb.count + 1) % 2 ^ 48 } } := by
  rw [State.countTick, h]

/-- The value of a TICK token is loaded with the phase 0, and waits no longer. -/
theorem countTick_some {c : Nat} (h : s.twn.reload = some c) :
    s.countTick.now = s.now ∧ s.countTick.tb = { s.tb with count := (c + 1) % 2 ^ 48, phase := 0 } ∧ s.countTick.twn.reload = none := by
  have hload : s.countTick = State.framesAbandon
      { s with tb := { s.tb with count := (c + 1) % 2 ^ 48, phase := 0 }, twn := { s.twn with reload := none } } := by
    rw [State.countTick, h]
  rw [hload, framesAbandon_eq]
  exact ⟨rfl, rfl, rfl⟩

/-! ### The units, and the link -/

theorem clock_takeCmp : s.takeCmp.clock = s.clock := clock_forEach fun _ _ _ => rfl

theorem clock_passEnd (ready : Nat) (mid : Bool) : (s.passEnd ready mid).clock = s.clock := by
  unfold State.passEnd
  extract_lets counted a ended
  have hcounted : counted.clock = s.clock := clock_setReg _ (by decide)
  have hended : ended.clock = counted.clock := rfl
  have hacq : ∀ (v : State) (a : AcqSt), State.clock { v with acq := a } = v.clock := fun _ _ => rfl
  exact (hacq _ _).trans (clock_takeCmp.trans (hended.trans hcounted))

theorem clock_acqTick : s.acqTick.clock = s.clock := clock_ite ((clock_passEnd _ _).trans rfl) rfl

theorem clock_encEntry (n kind : Nat) : (s.encEntry n kind).clock = s.clock := by
  unfold State.encEntry
  exact clock_ite ((clock_fire 21).trans (clock_ringOffer (by decide) _)) (clock_ringOffer (by decide) _)

theorem clock_encPost (n : Nat) : (s.encPost n).clock = s.clock := clock_ite ((clock_encEntry n 1).trans rfl) rfl

theorem clock_encTicks : s.encTicks.clock = s.clock := clock_forEach fun n _ _ => clock_encPost n

theorem seat_knabTransact (pages : List (Nat × List Byte)) : (s.knabTransact pages).seat = s.seat := by
  unfold State.knabTransact
  split
  · rfl
  · exact (seat_knabDone _).trans ((seat_knabSteps _).trans (seat_knabFinish.trans seat_knabFinish))

theorem reload_strokesWrite : s.strokesWrite.twn.reload = s.twn.reload := by
  have hsettled : s.knabSettle.seat = s.seat := seat_knabFinish.trans seat_knabFinish
  unfold State.strokesWrite
  extract_lets settled total pages mark written
  have hwritten : written.seat = settled.seat := seat_knabTransact pages
  exact congrArg (fun x => x.2.reload) (hwritten.trans hsettled)

theorem reload_unitTicks : s.unitTicks.twn.reload = s.twn.reload := by
  unfold State.unitTicks
  extract_lets acquired a ticked
  have hacquired : acquired.clock = s.clock := clock_encTicks.trans clock_acqTick
  have hticked : ticked.clock = acquired.clock := clock_ite rfl clock_outTicks
  have hreload : ticked.twn.reload = s.twn.reload := (clock_eq (hticked.trans hacquired)).2.2.1
  split
  · exact reload_strokesWrite.trans hreload
  · exact hreload

theorem reload_sendToken (t : Token) : (s.sendToken t).twn.reload = s.twn.reload := by
  unfold State.sendToken
  split <;> rfl

theorem reload_mirrorSend (seq : Bool) : (s.mirrorSend seq).twn.reload = s.twn.reload := reload_sendToken _

theorem reload_zoneSend : s.zoneSend.twn.reload = s.twn.reload := by
  unfold State.zoneSend
  exact reload_sendToken _

theorem reload_zoneSendAll : s.zoneSendAll.twn.reload = s.twn.reload := by
  unfold State.zoneSendAll
  rw [reload_zoneSend]

theorem reload_formationRest : s.formationRest.twn.reload = s.twn.reload := by
  unfold State.formationRest
  split
  · rfl
  · have hgrafts : ∀ (l : List Token) (v : State), (l.foldl State.sendToken v).twn.reload = v.twn.reload := fun l v =>
      foldl_view (fun s => s.twn.reload) State.sendToken (fun _ t => reload_sendToken t) l
    rw [reload_zoneSendAll, reload_mirrorSend, hgrafts, reload_sendToken]

theorem reload_tickSend : s.tickSend.twn.reload = s.twn.reload := by
  unfold State.tickSend
  dsimp only
  split
  · split <;> exact reload_formationRest.trans (reload_sendToken _)
  · rfl

/-! ### The statement -/

/-- The tick of a part that is awake, once TBCOUNT runs and no chill waits. -/
theorem exec_baseTick_runs (hawake : s.awake = true) (hruns : s.tb.running = true) (hchill : s.chillNow = false ∨ s.chillWaits = false) :
    exec .baseTick s = s.ticked.countTick.unitTicks.tickSend.done := by
  have hgo : (s.chillNow && s.chillWaits) = false := by
    rcases hchill with h | h <;> simp [h]
  show execBaseTick s = _
  rw [execBaseTick_awake hawake, hgo, if_neg Bool.false_ne_true, hruns, if_pos rfl]

/-- The tick of a part that is awake while TBCOUNT stands. -/
theorem exec_baseTick_stands (hawake : s.awake = true) (h : s.tb.running = false ∨ (s.chillNow = true ∧ s.chillWaits = true)) :
    exec .baseTick s = s.ticked.done := by
  show execBaseTick s = _
  rw [execBaseTick_awake hawake]
  rcases h with hstopped | ⟨hnow, hwaits⟩
  · rw [hstopped, if_neg Bool.false_ne_true, ite_self]
  · rw [hnow, hwaits, Bool.and_self, if_pos rfl]

theorem exec_baseTick_asleep (hasleep : s.asleep = true) (hgood : s.pwr.good = true) (hheld : s.pwr.held = none) :
    exec .baseTick s = s.done := by
  show execBaseTick s = _
  rw [execBaseTick, hasleep, hgood, hheld]
  rfl

/-- Settles O7: the channels that act before the count leave what decides it, and the units that act after leave the count. -/
theorem baseTickCounts : Obligations.BaseTickCounts := by
  refine ⟨fun s hawake hruns hchill hnone => ?_, fun s c hawake hruns hchill hsome => ?_, fun s hawake h => ?_,
    fun s hasleep hgood hheld => changesNothing_of_done (exec_baseTick_asleep hasleep hgood hheld)⟩
  · obtain ⟨-, htb, hreload, -⟩ := clock_eq (clock_ticked (s := s))
    obtain ⟨hnow, hstill⟩ := tickSend_unitTicks_still (u := s.ticked.countTick)
    have hcount := countTick_none (hreload.trans hnone)
    refine ⟨_, exec_baseTick_runs hawake hruns hchill, ?_, ?_⟩
    · rw [State.settle_now, hnow, hcount]
      exact now_ticked
    · rw [State.settle_tb, hstill, hcount, htb]
  · obtain ⟨-, htb, hreload, -⟩ := clock_eq (clock_ticked (s := s))
    obtain ⟨hnow, hstill⟩ := tickSend_unitTicks_still (u := s.ticked.countTick)
    obtain ⟨hcnow, hctb, hcreload⟩ := countTick_some (hreload.trans hsome)
    refine ⟨_, exec_baseTick_runs hawake hruns hchill, ?_, ?_, ?_⟩
    · rw [State.settle_now, hnow, hcnow, now_ticked]
    · rw [State.settle_tb, hstill, hctb, htb]
    · rw [State.settle_twn, reload_tickSend, reload_unitTicks, hcreload]
  · refine ⟨_, exec_baseTick_stands hawake h, ?_, ?_⟩
    · rw [State.settle_now, now_ticked]
    · rw [State.settle_tb, (clock_eq clock_ticked).2.1]

end Sys2Proof.Machine
end

section
/-! PROOFS. The acquisition unit's frame, and what a read of its slices gives after a write (R86). -/

namespace Sys2Proof.Machine

variable {s u v : State}

/-- From s to u only registers, memory, the acquisition unit and the notes that CEN keeps of events have changed. -/
def AcqFrame (s u : State) : Prop := u = { s with regs := u.regs, mem := u.mem, acq := u.acq, cen := cenNoted s u }

theorem StoreFrame.acqFrame (h : StoreFrame s u) : AcqFrame s u :=
  Eq.trans h (congrArg (fun q => ({ s with regs := u.regs, mem := u.mem, acq := q, cen := cenNoted s u } : State))
    (congrArg State.acq h).symm)

theorem AcqFrame.trans (hsu : AcqFrame s u) (huv : AcqFrame u v) : AcqFrame s v := by
  unfold AcqFrame at *
  rw [huv, hsu]
  rfl

theorem AcqFrame.variant (h : AcqFrame s u) : u.variant = s.variant := by rw [h]

theorem storeFrame_settle (u : State) : StoreFrame u u.settle :=
  (State.settle_eq u).trans (congrArg (fun m => ({ u with regs := u.settle.regs, mem := m, cen := cenNoted u u.settle } : State))
    (State.settle_mem u).symm)

/-- The end of a command is such a change. -/
theorem AcqFrame.settle (h : AcqFrame s u) : AcqFrame s u.settle := h.trans (storeFrame_settle u).acqFrame

theorem State.sliceOf_setSlice (n m : Nat) (x : SliceSt) : (s.setSlice n x).sliceOf m = if m = n then x else s.sliceOf m :=
  Tab.get_put (fun _ => ({} : SliceSt)) s.acq.slices n m x

theorem State.forEach_cons (n : Nat) (l : List Nat) (f : State → Nat → State) : s.forEach (n :: l) f = (f s n).forEach l f := rfl

end Sys2Proof.Machine
end

section
/-! PROOFS. Writes of ACQ_CTRL.RUN: the start and the stop of the sequence (R72, R93, R97). -/

namespace Sys2Proof.Machine

variable {s : State}

/-! ### What a write of RUN comes to -/

theorem exec_acqStart {who : Init} (hmay : mayWrite who 6 s) :
    exec (.acqStart who) s = (if s.rb Reg.acqCtrl 0 then s else s.acqRun true).done := by
  refine congrArg State.done ((State.guardWrite_eq (present_of_mem (by decide)) hmay).trans ?_)
  have hone : bitOf (1 : Word) 0 = true := by decide
  rw [State.acqCtrlWrite, hone]
  cases s.rb Reg.acqCtrl 0 <;> rfl

theorem exec_acqStop {who : Init} (hmay : mayWrite who 6 s) :
    exec (.acqStop who) s = (if s.rb Reg.acqCtrl 0 then s.acqHalt else s).done := by
  refine congrArg State.done ((State.guardWrite_eq (present_of_mem (by decide)) hmay).trans ?_)
  have hzero : bitOf (0 : Word) 0 = false := by decide
  rw [State.acqCtrlWrite, hzero]
  cases s.rb Reg.acqCtrl 0 <;> rfl

/-! ### The start -/

/-- VALID and FRESH of decimator d clear, and its comparator waits for a first PV (R84, R93). -/
def State.decRestart (s : State) (d : Nat) : State :=
  (s.setWord (acqStatus d) (s.word (acqStatus d) &&& 0xFFFCFFFF)).setDec d
    { first := true, refBad := (s.dec d).refBad, cmp := (s.dec d).cmp }

/-- What the restart of the decimators of a list leaves. -/
structure DecsRestarted (s u : State) (l : List Nat) : Prop where
  frame : AcqFrame s u
  regs : u.regs = s.regs
  status : ∀ d, u.word (acqStatus d) = if d ∈ l then s.word (acqStatus d) &&& 0xFFFCFFFF else s.word (acqStatus d)
  bytes : ∀ a, (∀ d ∈ l, ¬(acqStatus d ≤ a ∧ a < acqStatus d + 4)) → u.byte a = s.byte a

theorem decRestart_restarted (d : Nat) : DecsRestarted s (s.decRestart d) [d] := by
  have hframe : AcqFrame s (s.setWord (acqStatus d) (s.word (acqStatus d) &&& 0xFFFCFFFF)) := (storeFrame_setWord s _ _).acqFrame
  have hmem : (s.decRestart d).mem = (s.setWord (acqStatus d) (s.word (acqStatus d) &&& 0xFFFCFFFF)).mem := rfl
  have hregs : (s.decRestart d).regs = s.regs := State.setWord_regs s (acqStatus d) (s.word (acqStatus d) &&& 0xFFFCFFFF)
  refine ⟨hframe.trans rfl, hregs, fun m => ?_, fun a ha => ?_⟩
  · rw [State.word_congr hmem]
    by_cases h : m = d
    · rw [h, State.word_setWord, if_pos (by simp)]
    · rw [State.word_setWord_apart _ _ _ _ (by unfold acqStatus; omega), if_neg (by simpa using h)]
  · rw [State.byte_congr hmem]
    have hout := ha d (by simp)
    exact State.byte_setWord_apart s _ _ _ (by omega)

theorem forEach_decRestart (l : List Nat) : DecsRestarted s (s.forEach l State.decRestart) l := by
  induction l generalizing s with
  | nil => exact ⟨rfl, rfl, fun _ => rfl, fun _ _ => rfl⟩
  | cons d l ih =>
    rw [State.forEach_cons]
    have hd := decRestart_restarted (s := s) d
    have hl := ih (s := s.decRestart d)
    refine ⟨hd.frame.trans hl.frame, hl.regs.trans hd.regs, fun m => (hl.status m).trans ?_, fun a ha => ?_⟩
    · rw [hd.status m]
      by_cases hm : m = d <;> by_cases hml : m ∈ l <;> simp [hm, hml, BitVec.and_assoc]
    · exact (hl.bytes a fun m hm => ha m (List.mem_cons_of_mem d hm)).trans
        (hd.bytes a fun m hm => ha m (by simp [List.mem_singleton.mp hm]))

/-- RUN is set and ACQ_PASSCNT cleared. -/
def State.runSet (s : State) : State := (s.setRb Reg.acqCtrl 0 true).setReg Reg.acqPasscnt 0

theorem reg_runSet {a : Nat} (ha : a ∉ [Reg.acqCtrl, Reg.acqPasscnt]) : s.runSet.reg a = s.reg a := by
  obtain ⟨hctrl, hcount⟩ : a ≠ Reg.acqCtrl ∧ a ≠ Reg.acqPasscnt := by simpa [not_or] using ha
  exact (State.reg_setReg_ne _ _ _ _ hcount).trans (State.reg_setRb_ne _ _ _ _ _ hctrl)

theorem acqRun_eq (mid : Bool) :
    ∃ q, s.acqRun mid = { s.runSet.forEach (List.range 88) State.decRestart with acq := q } ∧ q.phase = .passPending ∧ q.base = 0 :=
  ⟨_, rfl, rfl, rfl⟩

theorem answers_acqStart {who : Init} (hmay : mayWrite who 6 s) (hrun : s.rb Reg.acqCtrl 0 = false) :
    ∃ t, exec (.acqStart who) s = .next t ∧ AcqFrame s t ∧
      t.rb Reg.acqCtrl 0 = true ∧ t.reg Reg.acqPasscnt = 0 ∧ t.acq.phase = .passPending ∧ t.acq.base = 0 ∧
      (∀ d, d < 88 → t.word (acqStatus d) = s.word (acqStatus d) &&& 0xFFFCFFFF) ∧
      memKept s t 0x70000800 0x70000960 ∧ regsKept s t [Reg.acqCtrl, Reg.acqPasscnt] ∧ eventsFired s t [] := by
  have hexec := exec_acqStart hmay
  obtain ⟨q, heq, hphase, hbase⟩ := acqRun_eq (s := s) true
  obtain ⟨hframe, hregs, hstatus, hbytes⟩ := forEach_decRestart (s := s.runSet) (List.range 88)
  rw [hrun, if_neg (by decide), heq] at hexec
  generalize s.runSet.forEach (List.range 88) State.decRestart = u at hexec hframe hregs hstatus hbytes
  have hreg : ∀ a, ({ u with acq := q } : State).reg a = s.runSet.reg a := State.reg_congr hregs
  have hmem : ({ u with acq := q } : State).settle.mem = u.mem := State.settle_mem _
  have hset : AcqFrame s s.runSet := rfl
  have hacq : ({ u with acq := q } : State).settle.acq = q := State.settle_acq _
  refine ⟨_, hexec, AcqFrame.settle ((hset.trans hframe).trans rfl), ?_, ?_, by rw [hacq, hphase], by rw [hacq, hbase], fun d hd => ?_,
    fun a ha => ?_, regsKept_settle fun a ha _ => (hreg a).trans (reg_runSet ha),
    eventsFired_nil hframe.variant fun a ha => (hreg a).trans (reg_runSet (by revert a; decide))⟩
  · rw [State.rb_settle (by decide), State.rb, hreg, State.runSet, State.reg_setReg_ne _ _ _ _ (by decide)]
    exact State.rb_setRb s _ _ _ (by decide)
  · rw [State.reg_settle _ _ (by decide), hreg, State.runSet, State.reg_setReg_same]
  · rw [State.word_congr hmem, hstatus, if_pos (List.mem_range.mpr hd)]
    rfl
  · exact (State.byte_congr hmem a).trans (hbytes a fun d hd => by have := List.mem_range.mp hd; unfold acqStatus; omega)

/-! ### The stop -/

/-- The live sums and counts of all decimators clear; nothing else in memory does (R97). -/
theorem byte_clearSums (a : Nat) : s.clearSums.byte a = if 0x70001000 ≤ a ∧ a < 0x700012C0 then 0 else s.byte a := by
  have hmem : s.clearSums.mem = (s.clearMem 0x70001000 0x700012C0).mem := rfl
  rw [State.byte_congr hmem, State.byte_clearMem]
  have hzero : 0x5000004A ≤ a → memDefault a = 0 := fun h => by
    rw [memDefault, if_pos (by simp [h])]
  split
  next h => exact hzero (by omega)
  next => rfl

theorem answers_acqStop {who : Init} (hmay : mayWrite who 6 s) (hrun : s.rb Reg.acqCtrl 0 = true) :
    ∃ t, exec (.acqStop who) s = .next t ∧ AcqFrame s t ∧
      t.rb Reg.acqCtrl 0 = false ∧ t.acq.phase = .stopped ∧ (∀ a, 0x70001000 ≤ a → a < 0x700012C0 → t.byte a = 0) ∧
      memKept s t 0x70001000 0x700012C0 ∧ regsKept s t [Reg.acqCtrl] ∧ eventsFired s t [] := by
  have hexec := exec_acqStop hmay
  rw [hrun, if_pos rfl] at hexec
  have hframe : AcqFrame s s.acqHalt := rfl
  have hreg : ∀ a, a ≠ Reg.acqCtrl → s.acqHalt.reg a = s.reg a := State.reg_setRb_ne s _ _ _
  have hmem : s.acqHalt.settle.mem = s.clearSums.mem := State.settle_mem _
  have hbyte : ∀ a, s.acqHalt.settle.byte a = if 0x70001000 ≤ a ∧ a < 0x700012C0 then 0 else s.byte a := fun a =>
    (State.byte_congr hmem a).trans (byte_clearSums a)
  refine ⟨_, hexec, hframe.settle, ?_, by rw [State.settle_acq]; rfl, fun a hlo hhi => ?_, fun a ha => ?_,
    regsKept_settle fun a ha _ => hreg a (by simpa using ha), eventsFired_nil rfl fun a ha => hreg a (by revert a; decide)⟩
  · exact (State.rb_settle (by decide) 0).trans (State.rb_setRb s _ _ _ (by decide))
  · rw [hbyte, if_pos ⟨hlo, hhi⟩]
  · rw [hbyte, if_neg ha]

/-- Settles O10: a start touches RUN, the pass count, the status words and the sequence; a stop RUN, the live sums and the sequence. -/
theorem acqStartAndStop : Obligations.AcqStartAndStop := by
  refine ⟨fun _ _ hmay hrun => answers_acqStart hmay hrun, fun _ _ hmay hrun => answers_acqStop hmay hrun,
    fun _ _ hmay => ⟨fun hrun => ?_, fun hrun => ?_⟩⟩
  · exact changesNothing_of_done (by rw [exec_acqStart hmay, hrun, if_pos rfl])
  · exact changesNothing_of_done (by rw [exec_acqStop hmay, hrun, if_neg (by decide)])

end Sys2Proof.Machine
end

section
/-! PROOFS. The sequence: how a pass, an entry and a conversion start (R65-R72, R95, R97). -/

namespace Sys2Proof.Machine

variable {s u : State}

/-! ### Entries -/

/-- Whether an entry is skipped depends on the variant and on the pairs in force (R99). -/
theorem State.acqSkips_congr (hvariant : u.variant = s.variant) (hdiff : u.acq.diff = s.acq.diff) (e : AcqEntry) :
    u.acqSkips e = s.acqSkips e := by
  have hhas : u.acqHas = s.acqHas := funext fun c => by simp only [State.acqHas, State.present, hvariant]
  have hpaired : u.acqPaired = s.acqPaired := funext fun c => by simp only [State.acqPaired, hdiff]
  have hslices : u.nSlices = s.nSlices := congrArg (fun x => if bitOf (sysUnitsOf x) 20 then 4 else 2) hvariant
  rw [State.acqSkips, State.acqSkips, hhas, hpaired, hslices]

/-- The sequence where entry i starts, with its registers as they stand (R65, R95). -/
def State.entryBegun (s : State) (i : Nat) : AcqSt :=
  { s.acq with entry := i, phase := .inEntry, delayed := false, cur := s.acqEntryOf i, sampled := 0, completed := 0 }

/-- The first entry that is not skipped starts (R65, R99). -/
theorem entryFrom_runs (k : Nat) {i : Nat} (hruns : s.acqSkips (s.acqEntryOf i) = false) :
    s.entryFrom (k + 1) i = { s with acq := s.entryBegun i } := by
  have hhere : State.acqSkips { s with acq := { s.acq with entry := i } } (s.acqEntryOf i) = false :=
    (State.acqSkips_congr rfl rfl _).trans hruns
  rw [State.entryFrom]
  exact if_neg (by rw [hhere]; decide)

theorem settle_eq_of_acq (q : AcqSt) :
    ({ s with acq := q } : State).settle =
      { s with regs := ({ s with acq := q } : State).settle.regs, acq := q, cen := cenNoted s ({ s with acq := q } : State).settle } :=
  RegFrame.settle (v := { s with acq := q }) rfl

theorem exec_entryStart (hawake : s.awake = true) (hphase : s.acq.phase = .entryPending) (hready : s.acq.readyAt ≤ s.now)
    (hguard : s.acq.guardDue = []) :
    exec .entryStart s = (s.entryFrom (s.acq.len - (s.acq.entry + 1)) (s.acq.entry + 1)).done :=
  congrArg State.done (if_pos (by simp [hawake, hphase, hready, hguard]))

theorem answers_entryStart (hawake : s.awake = true) (hphase : s.acq.phase = .entryPending) (hready : s.acq.readyAt ≤ s.now)
    (hguard : s.acq.guardDue = []) (hmore : s.acq.entry + 1 < s.acq.len)
    (hruns : s.acqSkips (s.acqEntryOf (s.acq.entry + 1)) = false) :
    ∃ t, exec .entryStart s = .next t ∧
      t = { s with regs := t.regs, acq := s.entryBegun (s.acq.entry + 1), cen := cenNoted s t } ∧ regsKept s t [] ∧ eventsFired s t [] := by
  have hexec := exec_entryStart hawake hphase hready hguard
  obtain ⟨k, hk⟩ : ∃ k, s.acq.len - (s.acq.entry + 1) = k + 1 := ⟨s.acq.len - (s.acq.entry + 1) - 1, by omega⟩
  rw [hk, entryFrom_runs k hruns] at hexec
  exact ⟨_, hexec, settle_eq_of_acq _, regsKept_refl [] rfl, eventsFired_nil rfl fun _ _ => rfl⟩

/-! ### Passes -/

/-- The base slice of the pass that starts (R72). -/
def State.nextBase (s : State) : Nat :=
  if s.acq.keepBase then s.acq.base
  else if s.rb Reg.acqCfg 0 then (s.acq.base + 1) % s.nSlices else (s.acq.base + s.acq.anyCount) % s.nSlices

/-- The pass has its settings and its base slice, its sums are clear, and no entry has started (R72, R95, R97). -/
def State.passOpened (s : State) : State :=
  { s.clearSums with acq := { s.clearSums.acq with
      base := s.nextBase, keepBase := false, anyCount := 0, passNo := s.acq.passNo + 1, converted := false, len := s.acqLen,
      diff := s.reg Reg.acqDiff } }

theorem exec_passStart (hawake : s.awake = true) (hphase : s.acq.phase = .passPending) (hready : s.passReady = true)
    (hguard : s.acq.guardDue = []) : exec .passStart s = s.passStart.done :=
  congrArg State.done (if_pos (by simp [hawake, hphase, hready, hguard]))

/-- A pass whose entry 0 is not skipped differs in its memory and its acquisition unit alone. -/
theorem passStart_runs (hruns : State.acqSkips { s with acq := { s.acq with diff := s.reg Reg.acqDiff } } (s.acqEntryOf 0) = false) :
    ∃ q : AcqSt, s.passStart = { s with mem := s.clearSums.mem, acq := q } ∧ q.phase = .inEntry ∧ q.entry = 0 ∧
      q.cur = s.acqEntryOf 0 ∧ q.sampled = 0 ∧ q.anyCount = 0 ∧ q.base = s.nextBase := by
  obtain ⟨k, hk⟩ : ∃ k, s.acqLen = k + 1 := ⟨s.acqLen - 1, by unfold State.acqLen clampNat; omega⟩
  have hopen : s.passStart = s.passOpened.entryFrom s.acqLen 0 := rfl
  have hfirst : s.passOpened.acqSkips (s.passOpened.acqEntryOf 0) = false := (State.acqSkips_congr rfl rfl _).trans hruns
  rw [hopen, hk, entryFrom_runs k hfirst]
  exact ⟨_, rfl, rfl, rfl, rfl, rfl, rfl, rfl⟩

theorem answers_passStart (hawake : s.awake = true) (hphase : s.acq.phase = .passPending) (hready : s.passReady = true)
    (hguard : s.acq.guardDue = [])
    (hruns : State.acqSkips { s with acq := { s.acq with diff := s.reg Reg.acqDiff } } (s.acqEntryOf 0) = false) :
    ∃ t, exec .passStart s = .next t ∧ AcqFrame s t ∧ t.acq.phase = .inEntry ∧ t.acq.entry = 0 ∧ t.acq.cur = s.acqEntryOf 0 ∧
      t.acq.sampled = 0 ∧ t.acq.anyCount = 0 ∧ t.acq.base = s.nextBase ∧ (∀ a, 0x70001000 ≤ a → a < 0x700012C0 → t.byte a = 0) ∧
      memKept s t 0x70001000 0x700012C0 ∧ regsKept s t [] ∧ eventsFired s t [] := by
  have hexec := exec_passStart hawake hphase hready hguard
  obtain ⟨q, heq, hstarted⟩ := passStart_runs hruns
  rw [heq] at hexec
  have hacq : ({ s with mem := s.clearSums.mem, acq := q } : State).settle.acq = q := State.settle_acq _
  have hbyte : ∀ a, ({ s with mem := s.clearSums.mem, acq := q } : State).settle.byte a =
      if 0x70001000 ≤ a ∧ a < 0x700012C0 then 0 else s.byte a := fun a =>
    (State.byte_congr (State.settle_mem _) a).trans (byte_clearSums a)
  refine ⟨_, hexec, AcqFrame.settle rfl, ?_⟩
  rw [hacq]
  obtain ⟨hphase, hentry, hcur, hsampled, hany, hbase⟩ := hstarted
  exact ⟨hphase, hentry, hcur, hsampled, hany, hbase, fun a hlo hhi => (hbyte a).trans (if_pos ⟨hlo, hhi⟩),
    fun a ha => (hbyte a).trans (if_neg ha), regsKept_refl [] rfl, eventsFired_nil rfl fun _ _ => rfl⟩

/-! ### Conversions -/

theorem State.sliceFree_iff {n : Nat} : s.sliceFree n = true ↔ ∀ c ∈ s.acq.inflight, c.slice ≠ n := by
  simp [State.sliceFree]

/-- The conversion that samples next (R61, R65, R71). -/
def State.nextConv (s : State) (code : Int) : AcqConv :=
  let diff := s.acq.cur.chan % 2 == 0 && s.acqPaired s.acq.cur.chan
  { slice := s.nextSlice, code := rawCode code diff, chan := s.acq.cur.chan, fmt := s.acq.cur.fmt, dtgt := s.acq.cur.dtgt, diff := diff }

/-- The sequence after it has sampled: c counts the conversions that may go to any slice (R71). -/
def State.acqSampled (s : State) (code : Int) : AcqSt :=
  { s.acq with inflight := s.acq.inflight ++ [s.nextConv code], sampled := s.acq.sampled + 1, converted := true,
               anyCount := if s.acq.cur.slice.isNone then s.acq.anyCount + 1 else s.acq.anyCount }

theorem exec_conversionSample (code : Int) (hawake : s.awake = true) (hphase : s.acq.phase = .inEntry)
    (hmore : s.acq.sampled < s.acq.cur.rep) (hguard : s.acq.guardDue = []) (hfree : s.sliceFree s.nextSlice = true) :
    exec (.conversionSample code) s = ({ s with acq := s.acqSampled code } : State).done :=
  congrArg State.done (if_pos (by simp [hawake, hphase, hmore, hguard, hfree]))

theorem anyCount_acqSampled (code : Int) :
    (s.acqSampled code).anyCount = s.acq.anyCount + (match s.acq.cur.slice with | some _ => 0 | none => 1) := by
  unfold State.acqSampled
  cases s.acq.cur.slice <;> rfl

theorem answers_conversionSample (code : Int) (hawake : s.awake = true) (hphase : s.acq.phase = .inEntry)
    (hmore : s.acq.sampled < s.acq.cur.rep) (hguard : s.acq.guardDue = []) (hfree : ∀ c ∈ s.acq.inflight, c.slice ≠ s.nextSlice) :
    ∃ t, exec (.conversionSample code) s = .next t ∧ t = { s with regs := t.regs, acq := t.acq, cen := cenNoted s t } ∧
      t.acq = s.acqSampled code ∧ regsKept s t [] ∧ eventsFired s t [] := by
  have hexec := exec_conversionSample code hawake hphase hmore hguard (State.sliceFree_iff.mpr hfree)
  have hacq : ({ s with acq := s.acqSampled code } : State).settle.acq = s.acqSampled code := State.settle_acq _
  exact ⟨_, hexec, by rw [hacq]; exact settle_eq_of_acq _, hacq, regsKept_refl [] rfl, eventsFired_nil rfl fun _ _ => rfl⟩

/-- Settles O11: each of the three starts comes to the acquisition unit, and a pass to its live sums besides. -/
theorem passesEntriesAndSamples : Obligations.PassesEntriesAndSamples := by
  refine ⟨fun _ hawake hphase hready hguard hruns => answers_passStart hawake hphase hready hguard hruns,
    fun _ hawake hphase hready hguard hmore hruns => answers_entryStart hawake hphase hready hguard hmore hruns,
    fun code s hawake hphase hmore hguard hfree => ?_⟩
  obtain ⟨t, hexec, hframe, hacq, hkept, hfired⟩ := answers_conversionSample code hawake hphase hmore hguard hfree
  refine ⟨t, hexec, hframe, by rw [hacq]; rfl, by rw [hacq]; exact anyCount_acqSampled code, ?_, hkept, hfired⟩
  rw [hacq]
  exact List.map_append

end Sys2Proof.Machine
end

section
/-! PROOFS. Fields as integers, and the slice corrections OFFS and GAIN (R61, R87). -/

namespace Sys2Proof.Machine

variable {s u : State}

/-! ### Signed fields -/

theorem sfld_bounds (x : Word) (lo : Nat) : -32768 ≤ sfld x lo 16 ∧ sfld x lo 16 ≤ 32767 := by
  have hlt : fld x lo 16 < 65536 := Nat.mod_lt _ (by decide)
  unfold sfld
  dsimp only
  split <;> omega

/-- A signed field reads back as written, where it fits. -/
theorem sfld_putFld_ofIntN (x : Word) {y : Int} (hlo : -32768 ≤ y) (hhi : y ≤ 32767) : sfld (putFld x 0 16 (ofIntN 16 y)) 0 16 = y := by
  have hfld : fld (putFld x 0 16 (ofIntN 16 y)) 0 16 = (y % 65536).toNat := by
    rw [fld_putFld _ _ _ _ (by decide), ofIntN]
    norm_num
    omega
  rw [sfld, hfld]
  split <;> omega

theorem clampInt_bounds {lo hi : Int} (h : lo ≤ hi) (x : Int) : lo ≤ clampInt lo hi x ∧ clampInt lo hi x ≤ hi := by
  unfold clampInt
  omega

/-- A value within limits, moved by at most one and limited again, has moved by at most one. -/
theorem natAbs_clampInt_add_sub {lo hi x d : Int} (hlo : lo ≤ x) (hhi : x ≤ hi) (hd : d.natAbs ≤ 1) :
    (clampInt lo hi (x + d) - x).natAbs ≤ 1 := by
  unfold clampInt
  omega

/-! ### OFFS and GAIN -/

theorem sliceOffs_bounds (n : Nat) : -32768 ≤ s.sliceOffs n ∧ s.sliceOffs n ≤ 32767 := sfld_bounds _ 0

theorem sliceGain_bounds (n : Nat) : 0 ≤ s.sliceGain n ∧ s.sliceGain n ≤ 65535 := by
  have hlt : s.rf (Reg.acqSliceCorr n) 16 16 < 65536 := Nat.mod_lt _ (by decide)
  unfold State.sliceGain
  omega

theorem reg_setCorr_ne {n a : Nat} (offs gain : Int) (ha : a ≠ Reg.acqSliceCorr n) : (s.setCorr n offs gain).reg a = s.reg a :=
  (State.reg_setRf_ne _ _ _ _ _ _ ha).trans (State.reg_setRf_ne _ _ _ _ _ _ ha)

theorem sliceOffs_setCorr (n : Nat) (offs gain : Int) : (s.setCorr n offs gain).sliceOffs n = clampInt (-32768) 32767 offs := by
  obtain ⟨hlo, hhi⟩ := clampInt_bounds (lo := -32768) (hi := 32767) (by decide) offs
  unfold State.sliceOffs State.setCorr
  rw [State.reg_setRf, if_pos rfl, sfld, fld_putFld_apart _ _ _ _ _ _ (by decide) (by decide), State.reg_setRf, if_pos rfl]
  exact sfld_putFld_ofIntN _ hlo hhi

theorem sliceGain_setCorr (n : Nat) (offs gain : Int) : (s.setCorr n offs gain).sliceGain n = clampInt 0 65535 gain := by
  obtain ⟨hlo, hhi⟩ := clampInt_bounds (lo := 0) (hi := 65535) (by decide) gain
  unfold State.sliceGain State.setCorr
  rw [State.rf_setRf _ _ _ _ _ (by decide)]
  omega

end Sys2Proof.Machine
end

section
/-! PROOFS. The estimator: fettle conversions, stale slices, and writes of the slice corrections (R87-R91, R94, R104). -/

namespace Sys2Proof.Machine

variable {s u : State} {n : Nat}

theorem nSlices_le (s : State) : s.nSlices ≤ 4 := by
  unfold State.nSlices
  split <;> decide

theorem sliceCorr_notMem_latch (n : Nat) : Reg.acqSliceCorr n ∉ latchRegs := latch_notMem_of_le (by unfold Reg.acqSliceCorr; omega)

theorem State.sliceOf_congr (h : u.acq = s.acq) (m : Nat) : u.sliceOf m = s.sliceOf m := by unfold State.sliceOf; rw [h]

/-! ### A fettle pair (R87) -/

/-- What a fettle pair of raw codes may do to the corrections of slice n. -/
structure FettleMoved (s u : State) (n : Nat) (x85 x86 : Int) : Prop where
  frame : u = { s with regs := u.regs, free := u.free }
  regs : ∀ a, a ≠ Reg.acqSliceCorr n → u.reg a = s.reg a
  frozen : s.rb Reg.acqCfg 1 = true → u.reg (Reg.acqSliceCorr n) = s.reg (Reg.acqSliceCorr n)
  error85 : (s.fettleError (u.sliceOffs n) (u.sliceGain n) x85 x86).1 ≤ (s.fettleError (s.sliceOffs n) (s.sliceGain n) x85 x86).1
  error86 : (s.fettleError (u.sliceOffs n) (u.sliceGain n) x85 x86).2 ≤ (s.fettleError (s.sliceOffs n) (s.sliceGain n) x85 x86).2
  offs : (u.sliceOffs n - s.sliceOffs n).natAbs ≤ 1
  gain : (u.sliceGain n - s.sliceGain n).natAbs ≤ 1

/-- Where no register changes, the corrections stand still. -/
theorem FettleMoved.still (x85 x86 : Int) (hframe : u = { s with free := u.free }) : FettleMoved s u n x85 x86 := by
  have hregs : u.regs = s.regs := by rw [hframe]
  have hreg : ∀ a, u.reg a = s.reg a := State.reg_congr hregs
  have hoffs : u.sliceOffs n = s.sliceOffs n := congrArg (sfld · 0 16) (hreg _)
  have hgain : u.sliceGain n = s.sliceGain n := congrArg (fun w => (fld w 16 16 : Int)) (hreg _)
  refine ⟨?_, fun a _ => hreg a, fun _ => hreg _, ?_, ?_, ?_, ?_⟩
  · rw [hregs]; exact hframe
  · rw [hoffs, hgain]
  · rw [hoffs, hgain]
  · rw [hoffs, Int.sub_self]; decide
  · rw [hgain, Int.sub_self]; decide

theorem drawStep_natAbs_le (s : State) : s.drawStep.1.natAbs ≤ 1 := by
  unfold State.drawStep State.drawNat
  have hlt : Config.freeNat s.free % 3 < 3 := Nat.mod_lt _ (by decide)
  dsimp only
  omega

theorem fettleMove_moved (x85 x86 : Int) : FettleMoved s (s.fettleMove n x85 x86) n x85 x86 := by
  unfold State.fettleMove
  split
  next => exact .still x85 x86 rfl
  next hmoves =>
    have ho := drawStep_natAbs_le s
    have hg := drawStep_natAbs_le s.drawStep.2
    dsimp only
    generalize s.drawStep.1 = o at ho
    generalize s.drawStep.2.drawStep.1 = g at hg
    have hdrawn : s.drawStep.2.drawStep.2 = { s with free := s.drawStep.2.drawStep.2.free } := rfl
    generalize s.drawStep.2.drawStep.2 = w at hdrawn
    split
    next hnearer =>
      obtain ⟨h85, h86⟩ := Bool.and_eq_true_iff.mp hnearer
      have hreg : ∀ a, w.reg a = s.reg a := State.reg_congr (by rw [hdrawn])
      obtain ⟨hOlo, hOhi⟩ := sliceOffs_bounds (s := s) n
      obtain ⟨hGlo, hGhi⟩ := sliceGain_bounds (s := s) n
      refine ⟨?_, fun a ha => (reg_setCorr_ne _ _ ha).trans (hreg a), fun h => absurd h hmoves, ?_, ?_, ?_, ?_⟩
      · rw [hdrawn]; rfl
      · rw [sliceOffs_setCorr, sliceGain_setCorr]; exact of_decide_eq_true h85
      · rw [sliceOffs_setCorr, sliceGain_setCorr]; exact of_decide_eq_true h86
      · rw [sliceOffs_setCorr]; exact natAbs_clampInt_add_sub hOlo hOhi ho
      · rw [sliceGain_setCorr]; exact natAbs_clampInt_add_sub hGlo hGhi hg
    next => exact .still x85 x86 hdrawn

/-! ### Fettle conversions (R87, R88) -/

section FettleDue
variable (code : Int) (hawake : s.awake = true) (hn : n < s.nSlices) (hfree : s.sliceFree n = true)
  (hdue : (if s.rb Reg.acqCal 8 then 64 else 65536) ≤ (s.sliceOf n).others)
include hawake hn hfree hdue

theorem exec_fettleFirst (hfirst : (s.sliceOf n).ref85 = none) :
    exec (.fettleConversion n code) s = (s.setSlice n { s.sliceOf n with others := 0, ref85 := some (rawCode code false) }).done := by
  show execFettleConversion n code s = _
  unfold execFettleConversion
  dsimp only
  rw [if_pos (by simp [hawake, hn, hfree, hdue]), hfirst]

theorem exec_fettleSecond {x : Int} (hsecond : (s.sliceOf n).ref85 = some x) :
    exec (.fettleConversion n code) s =
      ((s.setSlice n { s.sliceOf n with others := 0, ref85 := none }).fettleMove n x (rawCode code false)).done := by
  show execFettleConversion n code s = _
  unfold execFettleConversion
  dsimp only
  rw [if_pos (by simp [hawake, hn, hfree, hdue]), hsecond]

theorem answers_fettleFirst (hfirst : (s.sliceOf n).ref85 = none) :
    ∃ t, exec (.fettleConversion n code) s = .next t ∧
      t = { s with regs := t.regs, acq := { s.acq with slices := t.acq.slices }, cen := cenNoted s t } ∧
      t.sliceOf n = { s.sliceOf n with others := 0, ref85 := some (rawCode code false) } ∧
      (∀ m, m ≠ n → t.sliceOf m = s.sliceOf m) ∧ regsKept s t [] ∧ eventsFired s t [] := by
  have hexec := exec_fettleFirst code hawake hn hfree hdue hfirst
  generalize ({ s.sliceOf n with others := 0, ref85 := some (rawCode code false) } : SliceSt) = v at hexec ⊢
  have hacq : (s.setSlice n v).settle.acq = (s.setSlice n v).acq := State.settle_acq _
  have hslice : ∀ m, (s.setSlice n v).settle.sliceOf m = if m = n then v else s.sliceOf m := fun m =>
    (State.sliceOf_congr hacq m).trans (State.sliceOf_setSlice n m v)
  exact ⟨_, hexec, by rw [hacq]; exact settle_eq_of_acq _, (hslice n).trans (if_pos rfl), fun m hm => (hslice m).trans (if_neg hm),
    regsKept_refl [] rfl, eventsFired_nil rfl fun _ _ => rfl⟩

theorem answers_fettleSecond {x : Int} (hsecond : (s.sliceOf n).ref85 = some x) :
    ∃ t, exec (.fettleConversion n code) s = .next t ∧
      t = { s with regs := t.regs, free := t.free, acq := { s.acq with slices := t.acq.slices }, cen := cenNoted s t } ∧
      t.sliceOf n = { s.sliceOf n with others := 0, ref85 := none } ∧ (∀ m, m ≠ n → t.sliceOf m = s.sliceOf m) ∧
      (s.rb Reg.acqCfg 1 = true → t.reg (Reg.acqSliceCorr n) = s.reg (Reg.acqSliceCorr n)) ∧
      (s.fettleError (t.sliceOffs n) (t.sliceGain n) x (rawCode code false)).1 ≤
        (s.fettleError (s.sliceOffs n) (s.sliceGain n) x (rawCode code false)).1 ∧
      (s.fettleError (t.sliceOffs n) (t.sliceGain n) x (rawCode code false)).2 ≤
        (s.fettleError (s.sliceOffs n) (s.sliceGain n) x (rawCode code false)).2 ∧
      (t.sliceOffs n - s.sliceOffs n).natAbs ≤ 1 ∧ (t.sliceGain n - s.sliceGain n).natAbs ≤ 1 ∧
      regsKept s t [Reg.acqSliceCorr n] ∧ eventsFired s t [] := by
  have hexec := exec_fettleSecond code hawake hn hfree hdue hsecond
  generalize ({ s.sliceOf n with others := 0, ref85 := none } : SliceSt) = v at hexec ⊢
  obtain ⟨hframe, hregs, hfrozen, h85, h86, hoffs, hgain⟩ :=
    fettleMove_moved (s := s.setSlice n v) (n := n) x (rawCode code false)
  generalize (s.setSlice n v).fettleMove n x (rawCode code false) = u at hexec hframe hregs hfrozen h85 h86 hoffs hgain
  have hacq : u.settle.acq = (s.setSlice n v).acq := (State.settle_acq u).trans (by rw [hframe])
  have hdraws : u.settle.free = u.free := State.settle_free u
  have hslice : ∀ m, u.settle.sliceOf m = if m = n then v else s.sliceOf m := fun m =>
    (State.sliceOf_congr hacq m).trans (State.sliceOf_setSlice n m v)
  have hcorr : u.settle.reg (Reg.acqSliceCorr n) = u.reg (Reg.acqSliceCorr n) :=
    State.reg_settle u _ (sliceCorr_notMem_latch n)
  have hsettleOffs : u.settle.sliceOffs n = u.sliceOffs n := congrArg (sfld · 0 16) hcorr
  have hsettleGain : u.settle.sliceGain n = u.sliceGain n := congrArg (fun w => (fld w 16 16 : Int)) hcorr
  refine ⟨_, hexec, ?_, (hslice n).trans (if_pos rfl), fun m hm => (hslice m).trans (if_neg hm), fun h => hcorr.trans (hfrozen h), ?_⟩
  · rw [hacq, hdraws]
    exact RegFrame.settle (s := s) (v := { s with free := u.free, acq := (s.setSlice n v).acq }) (by
      unfold RegFrame
      rw [hframe]
      rfl)
  · rw [hsettleOffs, hsettleGain]
    exact ⟨h85, h86, hoffs, hgain, regsKept_settle fun a ha _ => hregs a (by simpa using ha),
      eventsFired_nil (by rw [hframe]; rfl) fun a ha => hregs a fun e => sliceCorr_notMem_latch n (e ▸ ha)⟩

end FettleDue

end Sys2Proof.Machine
end

section
/-! PROOFS. Stale slices, and writes of the slice corrections (R89-R91, R94, R104). -/

namespace Sys2Proof.Machine

variable {s u : State} {n : Nat}

/-! ### The bits of ACQ_CAL and the log -/

/-- A field is 0 where none of its bits is set. -/
theorem fld_eq_zero_iff (x : Word) (w : Nat) : fld x 0 w = 0 ↔ ∀ m, m < w → bitOf x m = false := by
  constructor
  · intro h m hm
    have hbit := fld_bit x 0 w m
    rw [h, Nat.zero_testBit] at hbit
    rw [decide_eq_true hm, Bool.true_and, Nat.zero_add] at hbit
    exact hbit.symm
  · intro h
    refine Nat.eq_of_testBit_eq fun i => ?_
    rw [fld_bit, Nat.zero_add, Nat.zero_testBit, Bool.and_eq_false_imp]
    exact fun hi => h i (of_decide_eq_true hi)

/-- A cleared fault changes the log alone. -/
theorem State.faultClear_eq (code param : Nat) : s.faultClear code param = { s with log := (s.faultClear code param).log } := by
  unfold State.faultClear State.logAdd
  split <;> rfl

/-- What the event log takes of the state in which a fault has cleared (R614-R616). -/
theorem State.faultClear_log_congr (code param : Nat) (hlog : u.log = s.log) (hcount : u.tb.count = s.tb.count) (hrtc : u.rtc = s.rtc)
    (hreg : ∀ a ∈ [Reg.pwrShake, Reg.rtcStat, Reg.rtcCtrl], u.reg a = s.reg a) :
    (u.faultClear code param).log = (s.faultClear code param).log := by
  have hflags : u.logFlags 0 = s.logFlags 0 := by
    unfold State.logFlags State.shakeStep State.rf State.rb
    rw [hreg Reg.pwrShake (by simp), hreg Reg.rtcStat (by simp), hreg Reg.rtcCtrl (by simp)]
  simp only [State.faultClear, State.logAdd, State.stamp, hflags, hlog, hcount, hrtc]
  rfl

/-- After a change of ACQ_CAL alone the latches are as they were. -/
theorem fired_nil_of_cal (hvariant : u.variant = s.variant) (hreg : ∀ a, a ≠ Reg.acqCal → u.reg a = s.reg a) : Fired s u [] :=
  (Fired.refl s).congr hvariant fun a ha => hreg a (by revert a; decide)

/-! ### SLICE_STALE (R89, R90, R104) -/

/-- STALE of slice n and FAST are set. -/
def State.staleShown (s : State) (n : Nat) : State := (s.setRb Reg.acqCal n true).setRb Reg.acqCal 8 true

theorem reg_staleShown {a : Nat} (ha : a ≠ Reg.acqCal) : (s.staleShown n).reg a = s.reg a :=
  (State.reg_setRb_ne _ _ _ _ _ ha).trans (State.reg_setRb_ne _ _ _ _ _ ha)

/-- The slice's pairs count anew from the instant at which STALE is set (R91). -/
def State.staleCounted (s : State) (n : Nat) : State := s.setSlice n { s.sliceOf n with stalePairs := 0 }

theorem exec_sliceStale (hn : n < s.nSlices) (hlate : s.rf (Reg.acqSliceNopair n) 0 21 = 1048576) (hfresh : s.rb Reg.acqCal n = false) :
    exec (.sliceStale n) s = (((((s.staleShown n).fire 10).staleCounted n).fault 0x0301 n).fire 11).done :=
  congrArg State.done (if_pos (by simp [hn, hlate, hfresh]))

/-- What SLICE_STALE has changed before event 11: its bits, its count, event 10 and the fault. -/
structure StaleLogged (s u : State) (n : Nat) : Prop where
  frame : ∃ x, RegFrame s { s with log := (s.fault 0x0301 n).log, acq := { s.acq with slices := x } } u
  regs : ∀ a, a ∉ latchRegs → u.reg a = (s.staleShown n).reg a
  fired : Fired s u [10]

theorem staleLogged (s : State) (n : Nat) : StaleLogged s ((((s.staleShown n).fire 10).staleCounted n).fault 0x0301 n) n := by
  have hframe : RegFrame s s ((s.staleShown n).fire 10) := (((RegFrame.refl s).setReg _ _).setReg _ _).fire 10
  have hshown : Fired s (s.staleShown n) [] := fired_nil_of_cal rfl fun _ => reg_staleShown
  have hfired : Fired s ((s.staleShown n).fire 10) [10] := hshown.fire 10 (by decide)
  have hreg : ∀ a, a ∉ latchRegs → ((s.staleShown n).fire 10).reg a = (s.staleShown n).reg a := State.reg_fire _ 10
  generalize (s.staleShown n).fire 10 = v at hframe hfired hreg
  have hfault : ∀ a, ((v.staleCounted n).fault 0x0301 n).reg a = v.reg a := State.reg_fault _ _ _
  have hlog : ((v.staleCounted n).fault 0x0301 n).log = (s.fault 0x0301 n).log :=
    State.fault_log_congr _ _ (by rw [hframe]; rfl) (by rw [hframe]; rfl) (by rw [hframe]; rfl) (by rw [hframe]; rfl)
      fun a ha => (hreg a (by revert a; decide)).trans (reg_staleShown (by revert a; decide))
  refine ⟨⟨(v.staleCounted n).acq.slices, ?_⟩, fun a ha => (hfault a).trans (hreg a ha),
    hfired.congr (State.fault_variant _ _ _) fun a _ => hfault a⟩
  unfold RegFrame
  rw [← hlog, State.fault_eq]
  unfold State.staleCounted
  rw [hframe]
  rfl

theorem answers_sliceStale (hn : n < s.nSlices) (hlate : s.rf (Reg.acqSliceNopair n) 0 21 = 1048576)
    (hfresh : s.rb Reg.acqCal n = false) :
    ∃ t, exec (.sliceStale n) s = .next t ∧
      t = { s with regs := t.regs, log := t.log, acq := { s.acq with slices := t.acq.slices }, cen := cenNoted s t } ∧
      t.rb Reg.acqCal n = true ∧ t.rb Reg.acqCal 8 = true ∧ t.log = (s.fault 0x0301 n).log ∧
      regsKept s t [Reg.acqCal] ∧ eventsFired s t [10, 11] := by
  have hn4 : n < 4 := hn.trans_le (nSlices_le s)
  have hexec := exec_sliceStale hn hlate hfresh
  obtain ⟨⟨x, hframe⟩, hreg, hfired⟩ := staleLogged s n
  generalize (((s.staleShown n).fire 10).staleCounted n).fault 0x0301 n = u at hexec hframe hreg hfired
  have hend := (hframe.fire 11).settle
  have hshown : ∀ a, a ∉ latchRegs → (u.fire 11).settle.reg a = (s.staleShown n).reg a := fun a ha =>
    (State.reg_settle _ a ha).trans ((State.reg_fire u 11 a ha).trans (hreg a ha))
  refine ⟨_, hexec, ?_, ?_, ?_, by rw [hend], fun a ha hlatch => (hshown a hlatch).trans (reg_staleShown (by simpa using ha)),
    (hfired.fire 11 (by decide)).done⟩
  · generalize (u.fire 11).settle = t at hend
    rw [hend]
    rfl
  · rw [State.rb, hshown _ (by decide)]
    exact (State.rb_setRb_ne _ _ _ (by omega)).trans (State.rb_setRb s _ _ _ (by omega))
  · rw [State.rb, hshown _ (by decide)]
    exact State.rb_setRb _ _ _ _ (by decide)

/-! ### STALE_CLEAR (R91) -/

/-- STALE of slice n is cleared, and the event log says so. -/
def State.staleCleared (s : State) (n : Nat) : State := (s.setRb Reg.acqCal n false).faultClear 0x0301 n

theorem exec_staleClear (hn : n < s.nSlices) (hstale : s.rb Reg.acqCal n = true) (hpairs : 1024 ≤ (s.sliceOf n).stalePairs) :
    exec (.staleClear n) s =
      (if (s.staleCleared n).rf Reg.acqCal 0 4 = 0 then ((s.staleCleared n).setRb Reg.acqCal 8 false).fire 10 else s.staleCleared n).done :=
  congrArg State.done (if_pos (by simp [hn, hstale, hpairs]))

theorem reg_staleCleared (a : Nat) : (s.staleCleared n).reg a = (s.setRb Reg.acqCal n false).reg a := State.reg_faultClear _ _ _ a

theorem rb_staleCleared_ne {i : Nat} (hi : i ≠ n) : (s.staleCleared n).rb Reg.acqCal i = s.rb Reg.acqCal i := by
  rw [State.rb, reg_staleCleared]
  exact State.rb_setRb_ne s _ _ hi

theorem rb_staleCleared_same (hn : n < 4) : (s.staleCleared n).rb Reg.acqCal n = false := by
  rw [State.rb, reg_staleCleared]
  exact State.rb_setRb s _ _ _ (by omega)

/-- The STALE bits are all 0 afterwards where no other slice was stale. -/
theorem rf_staleCleared_eq_zero (hn : n < 4) :
    (s.staleCleared n).rf Reg.acqCal 0 4 = 0 ↔ ∀ m, m < 4 → m ≠ n → s.rb Reg.acqCal m = false := by
  rw [State.rf, fld_eq_zero_iff]
  refine forall_congr' fun m => forall_congr' fun _ => ?_
  show (s.staleCleared n).rb Reg.acqCal m = false ↔ _
  by_cases hm : m = n
  · simp [hm, rb_staleCleared_same hn]
  · simp [hm, rb_staleCleared_ne hm]

theorem regFrame_staleCleared : RegFrame s { s with log := (s.faultClear 0x0301 n).log } (s.staleCleared n) := by
  have hlog : (s.staleCleared n).log = (s.faultClear 0x0301 n).log :=
    State.faultClear_log_congr _ _ rfl rfl rfl fun a ha => State.reg_setRb_ne s _ _ _ _ (by revert a; decide)
  have hclear := State.faultClear_eq (s := s.setRb Reg.acqCal n false) 0x0301 n
  rw [← hlog]
  exact hclear

/-- The end of a command that has changed registers and the log. -/
theorem RegFrame.settle_logged {l : LogSt} (h : RegFrame s { s with log := l } u) :
    u.settle = { s with regs := u.settle.regs, log := u.settle.log, cen := cenNoted s u.settle } ∧ u.settle.log = l := by
  have hlog : u.settle.log = l := (State.settle_log u).trans (by rw [h])
  exact ⟨by rw [hlog]; exact h.settle, hlog⟩

/-- What STALE_CLEAR leaves, whether or not slice n was the last stale one. -/
theorem answers_staleClear (hn : n < s.nSlices) (hstale : s.rb Reg.acqCal n = true) (hpairs : 1024 ≤ (s.sliceOf n).stalePairs) :
    ∃ t, exec (.staleClear n) s = .next t ∧ t = { s with regs := t.regs, log := t.log, cen := cenNoted s t } ∧
      t.rb Reg.acqCal n = false ∧ t.log = (s.faultClear 0x0301 n).log ∧ regsKept s t [Reg.acqCal] ∧
      ((∀ m, m < 4 → m ≠ n → s.rb Reg.acqCal m = false) → t.rb Reg.acqCal 8 = false ∧ eventsFired s t [10]) ∧
      ((∃ m, m < 4 ∧ m ≠ n ∧ s.rb Reg.acqCal m = true) → t.rb Reg.acqCal 8 = s.rb Reg.acqCal 8 ∧ eventsFired s t []) := by
  have hn4 : n < 4 := hn.trans_le (nSlices_le s)
  have hexec := exec_staleClear hn hstale hpairs
  have hframe := regFrame_staleCleared (s := s) (n := n)
  have hkept : ∀ a, a ≠ Reg.acqCal → (s.staleCleared n).reg a = s.reg a := fun a ha =>
    (reg_staleCleared a).trans (State.reg_setRb_ne s _ _ _ _ ha)
  have hfired : Fired s (s.staleCleared n) [] := fired_nil_of_cal (State.faultClear_variant _ _ _) hkept
  have hcleared := rb_staleCleared_same (s := s) hn4
  have hfast := rb_staleCleared_ne (s := s) (n := n) (i := 8) (by omega)
  by_cases hlast : ∀ m, m < 4 → m ≠ n → s.rb Reg.acqCal m = false
  · rw [if_pos ((rf_staleCleared_eq_zero hn4).mpr hlast)] at hexec
    generalize s.staleCleared n = v at hexec hframe hkept hfired hcleared
    obtain ⟨hend, hlog⟩ := RegFrame.settle_logged ((hframe.setReg Reg.acqCal (putFld (v.reg Reg.acqCal) 8 1 0)).fire 10)
    have hother : ∀ a, a ≠ Reg.acqCal → (v.setRb Reg.acqCal 8 false).reg a = s.reg a := fun a ha =>
      (State.reg_setRb_ne v _ _ _ _ ha).trans (hkept a ha)
    have hafter : ∀ a, a ∉ latchRegs → ((v.setRb Reg.acqCal 8 false).fire 10).settle.reg a = (v.setRb Reg.acqCal 8 false).reg a :=
      fun a ha => (State.reg_settle _ a ha).trans (State.reg_fire _ 10 a ha)
    have hshown : Fired s (v.setRb Reg.acqCal 8 false) [] := fired_nil_of_cal hfired.1 hother
    refine ⟨_, hexec, hend, ?_, hlog, fun a ha hlatch => (hafter a hlatch).trans (hother a (by simpa using ha)),
      fun _ => ⟨?_, (hshown.fire 10 (by decide)).done⟩, fun ⟨m, hm, hne, hset⟩ => absurd hset (by rw [hlast m hm hne]; decide)⟩
    · rw [State.rb, hafter _ (by decide)]
      exact (State.rb_setRb_ne v _ _ (by omega)).trans hcleared
    · rw [State.rb, hafter _ (by decide)]
      exact State.rb_setRb v _ _ _ (by decide)
  · rw [if_neg (mt (rf_staleCleared_eq_zero hn4).mp hlast)] at hexec
    generalize s.staleCleared n = v at hexec hframe hkept hfired hcleared hfast
    obtain ⟨hend, hlog⟩ := hframe.settle_logged
    exact ⟨_, hexec, hend, (State.rb_settle (by decide) n).trans hcleared, hlog,
      regsKept_settle fun a ha _ => hkept a (by simpa using ha), fun h => absurd h hlast,
      fun _ => ⟨(State.rb_settle (by decide) 8).trans hfast, hfired.done⟩⟩

/-! ### SLICE_CORR_WRITE (R94) -/

/-- The register of slice n that a write names: SKEW or CORR. -/
def sliceReg (n : Nat) (skew : Bool) : Nat := if skew then Reg.acqSliceSkew n else Reg.acqSliceCorr n

theorem sliceReg_notMem_latch (n : Nat) (skew : Bool) : sliceReg n skew ∉ latchRegs :=
  latch_notMem_of_le (by unfold sliceReg Reg.acqSliceSkew Reg.acqSliceCorr; split <;> omega)

theorem exec_sliceCorrWrite {who : Init} (skew : Bool) (v : Word) (hn : n < s.nSlices) (hmay : mayWrite who 6 s) :
    exec (.sliceCorrWrite who n skew v) s =
      (if s.rb Reg.acqCfg 1 then s.setReg (sliceReg n skew) (if skew then v &&& 0xFF else v) else s).done := by
  have hmod : n % 4 = n := Nat.mod_eq_of_lt (hn.trans_le (nSlices_le s))
  show execSliceCorrWrite who n skew v s = _
  rw [execSliceCorrWrite, hmod, if_neg (by omega), State.guardWrite_eq (present_of_mem (by decide)) hmay, State.sliceCorrWrite]
  cases s.rb Reg.acqCfg 1 <;> cases skew <;> rfl

theorem answers_sliceCorrWrite {who : Init} (skew : Bool) (v : Word) (hn : n < s.nSlices) (hmay : mayWrite who 6 s) :
    ∃ t, exec (.sliceCorrWrite who n skew v) s = .next t ∧ t = { s with regs := t.regs, cen := cenNoted s t } ∧
      (t.reg (sliceReg n skew) = (if s.rb Reg.acqCfg 1 then (if skew then v &&& 0xFF else v) else s.reg (sliceReg n skew)) ∧
        regsKept s t [sliceReg n skew]) ∧ eventsFired s t [] := by
  have hexec := exec_sliceCorrWrite skew v hn hmay
  cases hfreeze : s.rb Reg.acqCfg 1 with
  | true =>
    rw [hfreeze, if_pos rfl] at hexec
    obtain ⟨t, hnext, hframe, hval, hkept, hfired⟩ := answers_setReg (sliceReg_notMem_latch n skew) hexec
    exact ⟨t, hnext, hframe, ⟨hval, hkept⟩, hfired⟩
  | false =>
    rw [hfreeze, if_neg (by decide)] at hexec
    exact ⟨_, hexec, State.settle_eq s, ⟨State.reg_settle s _ (sliceReg_notMem_latch n skew), regsKept_refl _ rfl⟩,
      eventsFired_nil rfl fun _ _ => rfl⟩

/-- Settles O12: a pair moves a correction only where that takes neither fettle code further off, and the rest is bits of ACQ_CAL. -/
theorem estimatorAndStaleSlices : Obligations.EstimatorAndStaleSlices :=
  ⟨fun _ code _ hawake hn hfree hdue hfirst => answers_fettleFirst code hawake hn hfree hdue hfirst,
    fun _ code _ _ hawake hn hfree hdue hsecond => answers_fettleSecond code hawake hn hfree hdue hsecond,
    fun _ _ hn hlate hfresh => answers_sliceStale hn hlate hfresh,
    fun _ _ hn hstale hpairs => answers_staleClear hn hstale hpairs,
    fun _ _ skew v _ hn hmay => answers_sliceCorrWrite skew v hn hmay⟩

end Sys2Proof.Machine
end

section
/-! PROOFS. The action at a pass end: the feedback of ACT goes by the fields of ACTn_FB that act, not by the register (R80, R209, R218). -/

namespace Sys2Proof.Machine

variable {s : State}

/-- What PV_UPDATE does where the action of R80 is due: the PVs, the presence inputs, the feedback of ACT and the fan currents. -/
def State.pvUpdated (s : State) (rs : List DecResult) : State :=
  let old := rs.map (fun (r : DecResult) => (r.d, if (s.dec r.d).first then none else some (s.cmpState r.d)))
  let s := old.foldl (fun (s : State) (p : Nat × Option Nat) => s.pinPv p.1 p.2) (s.pvAction rs)
  (s.forEach (List.range s.nActs) State.actFeedback).fanCurrents

theorem exec_pvUpdate {rs : List DecResult} (hawake : s.awake = true) (hdue : s.acq.update = some rs) :
    exec .pvUpdate s = (s.pvUpdated rs).done := by
  show execPvUpdate s = _
  rw [execPvUpdate, hawake, hdue]
  rfl

/-- The result of a pass that fed decimator 5 alone. -/
def fedFive : DecResult := { d := 5, sum := 100, n := 1, diff := false, clip := false, cfg := List.replicate 7 0, stamp := 0 }

/-- A live part whose pass fed decimator 5 alone. Channel 0 of ACT, a PWM channel, compares with decimator 0; ACTn_FB.EN has been
written 0 since the last base tick, which the channel takes at the next one (R218). -/
def feedbackLeaving : State :=
  let live : State := { State.reset with
    pwr := { State.reset.pwr with good := true, held := none, rtIn := true }, now := 1000000,
    tb := { State.reset.tb with count := 12000000, running := true, xtalOk := true },
    acq := { State.reset.acq with phase := .passPending, update := some [fedFive] } }
  ((live.setReg Reg.pwrShake 12).setReg (Reg.actnCfg 0) 1).setAct 0 { cfg := 1, fb := 0x80 }

theorem noHits_feedbackLeaving :
    ∀ p, p < 128 → feedbackLeaving.rf (Reg.zonPinCfg p) 0 3 ≠ 1 ∧ feedbackLeaving.rf (Reg.zonPinCfg p) 0 3 ≠ 2 := by decide +kernel

theorem actnFb_feedbackLeaving :
    ∀ n, n < 32 → feedbackLeaving.rb (Reg.actnFb n) 7 = false ∧ feedbackLeaving.rb (Reg.actnFb n) 8 = false := by decide +kernel

theorem fedFive_plain : fedFive.d < 88 ∧ 0 < fedFive.n ∧ fedFive.clip = false ∧ fedFive.cfg.length = 7 ∧
    feedbackLeaving.refFed fedFive.d = false := by decide +kernel

/-- The channel counts the pass as one without a fresh PV (R210). -/
theorem missed_feedbackLeaving : ((feedbackLeaving.pvUpdated [fedFive]).act1 0).missed = 1 := by decide +kernel

/-- Refutes O58: with EN of every ACTn_FB 0 a pass end still changes ACT, where a channel acts by the EN it took before (R210, R218). -/
theorem not_conversionsAndProcessValues : ¬ Obligations.ConversionsAndProcessValues := by
  intro h
  obtain ⟨-, -, hpass, -⟩ := h
  obtain ⟨hplain, -⟩ := hpass [fedFive] feedbackLeaving (by decide) rfl (by decide)
    (by simpa using fedFive_plain) noHits_feedbackLeaving actnFb_feedbackLeaving (by decide)
  obtain ⟨t, hexec, hframe, -⟩ := hplain (by decide)
  have hrun : exec .pvUpdate feedbackLeaving = (feedbackLeaving.pvUpdated [fedFive]).done := exec_pvUpdate (by decide) rfl
  have ht : (feedbackLeaving.pvUpdated [fedFive]).settle = t := Host.Outcome.next.inj (hrun.symm.trans hexec)
  have hmissed : (t.act1 0).missed = 1 := by
    rw [← ht, State.act1, State.settle_act]
    exact missed_feedbackLeaving
  have hkept : t.act = feedbackLeaving.act := by rw [hframe]
  have hstill : (t.act1 0).missed = 0 := by
    rw [State.act1, hkept]
    decide
  exact absurd (hmissed.symm.trans hstill) (by decide)

end Sys2Proof.Machine
end

section
/-! PROOFS. One evaluation: its output and its integrator within their limits (R142, R143, R146, R147). -/

namespace Sys2Proof.Machine

/-! ### Saturation and clamping (R142, R143) -/

theorem sat32_bounds (x : Int) : -2147483648 ≤ sat32 x ∧ sat32 x ≤ 2147483647 := clampInt_bounds (by decide) x

theorem cenClamp_bounds {lo hi : Int} (h : lo ≤ hi) (v : Int) : lo ≤ cenClamp v lo hi ∧ cenClamp v lo hi ≤ hi := by
  unfold cenClamp
  split_ifs <;> omega

theorem cenClamp_of_gt {lo hi : Int} (h : hi < lo) (v : Int) : cenClamp v lo hi = hi := if_pos h

/-! ### What R144 computes -/

section
variable (a : EvalInput)

theorem EvalInput.run_e : ∃ x, a.run.e = sat32 x := ⟨_, rfl⟩

theorem EvalInput.run_y : ∃ x, a.run.y = sat32 x := ⟨_, rfl⟩

theorem EvalInput.run_v : ∃ x, a.run.v = sat32 x := ⟨_, rfl⟩

theorem EvalInput.run_u : a.run.u = cenClamp a.run.v (a.c 0x60) (a.c 0x64) := rfl

/-- Only with INT does the clamped output freeze the integrator (R147). -/
theorem EvalInput.run_frz : ∃ clamped, a.run.frz = (bitOf a.cfg 5 && clamped) := ⟨_, rfl⟩

/-- With INT the integrator takes its step unless it is frozen, and is clamped either way (R146, R147). -/
theorem EvalInput.run_i : ∃ step sat, a.run.i = if bitOf a.cfg 5 then
    cenClamp (if bitOf a.cfg 5 && !a.run.frz then cenSat (a.i + step) sat else (a.i, sat)).1 (a.c 0x58) (a.c 0x5C) else 0 := ⟨_, _, rfl⟩

theorem EvalInput.run_noInt (h : bitOf a.cfg 5 = false) : a.run.i = 0 ∧ a.run.frz = false := by
  obtain ⟨clamped, hfrz⟩ := a.run_frz
  obtain ⟨step, sat, hi⟩ := a.run_i
  rw [h] at hi hfrz
  exact ⟨hi, hfrz⟩

theorem EvalInput.run_int (h : bitOf a.cfg 5 = true) : ∃ x, a.run.i = cenClamp x (a.c 0x58) (a.c 0x5C) := by
  obtain ⟨step, sat, hi⟩ := a.run_i
  exact ⟨_, hi.trans (if_pos h)⟩

theorem EvalInput.run_frozen (hfrz : a.run.frz = true) : a.run.i = cenClamp a.i (a.c 0x58) (a.c 0x5C) := by
  obtain ⟨clamped, hint⟩ := a.run_frz
  obtain ⟨step, sat, hi⟩ := a.run_i
  have h : bitOf a.cfg 5 = true := by
    rw [hfrz] at hint
    exact (Bool.and_eq_true_iff.mp hint.symm).1
  rw [h, hfrz] at hi
  exact hi

end

/-- Settles O15: the output and the integrator are clamped numbers, and the sums that R142 names are saturated ones. -/
theorem evaluationKeepsItsLimits : Obligations.EvaluationKeepsItsLimits := by
  intro a
  obtain ⟨e, he⟩ := a.run_e
  obtain ⟨y, hy⟩ := a.run_y
  obtain ⟨v, hv⟩ := a.run_v
  refine ⟨fun hle => ?_, fun hgt => ?_, a.run_noInt, fun hint hle => ?_, a.run_frozen, ?_, ?_, ?_⟩
  · rw [a.run_u]
    exact cenClamp_bounds hle _
  · rw [a.run_u]
    exact cenClamp_of_gt hgt _
  · obtain ⟨x, hx⟩ := a.run_int hint
    rw [hx]
    exact cenClamp_bounds hle _
  · rw [hv]
    exact sat32_bounds _
  · rw [he]
    exact sat32_bounds _
  · rw [hy]
    exact sat32_bounds _

end Sys2Proof.Machine
end

section
/-! PROOFS. The trace channels: arm, stop, force and configuration (R157, R162, R163). -/

namespace Sys2Proof.Machine

/-! ### What a write to a channel comes to -/

section
variable {s : State} {who : Init} {c : Nat} (hc : c < s.nTraces) (hmay : mayWrite who 7 s)
include hc

theorem trace_mod_four : c % 4 = c := Nat.mod_eq_of_lt (hc.trans_le (nTraces_le s))

include hmay

/-- A write by an initiator with the right, to a channel the variant has, is made (R53, R169). -/
theorem State.trcGuard_eq {a : Nat} {f : State → State} : s.trcGuard who c a f = f s := by
  rw [State.trcGuard, if_neg (by omega), State.guardWrite_eq (present_of_mem (by decide)) hmay]

theorem exec_traceArm : exec (.traceArm who c) s = (s.trcArm c).done := by
  obtain ⟨hstop, harm⟩ : bitOf (1 : Word) 1 = false ∧ bitOf (1 : Word) 0 = true := by decide
  show execTraceArm who c s = _
  rw [execTraceArm, trace_mod_four hc, State.trcGuard_eq hc hmay, State.trcCtrlWrite, hstop, harm]
  rfl

theorem exec_traceStop : exec (.traceStop who c) s = (s.trcStop c).done := by
  have hstop : bitOf (2 : Word) 1 = true := by decide
  show execTraceStop who c s = _
  rw [execTraceStop, trace_mod_four hc, State.trcGuard_eq hc hmay, State.trcCtrlWrite, hstop]
  rfl

theorem exec_traceForce : exec (.traceForce who c) s = (s.trcForce c).done := by
  obtain ⟨hstop, harm, hforce⟩ : bitOf (4 : Word) 1 = false ∧ bitOf (4 : Word) 0 = false ∧ bitOf (4 : Word) 2 = true := by decide
  show execTraceForce who c s = _
  rw [execTraceForce, trace_mod_four hc, State.trcGuard_eq hc hmay, State.trcCtrlWrite, hstop, harm, hforce]
  rfl

theorem exec_traceConfigWrite {i : Nat} (v : Word) (hi : i < 3) :
    exec (.traceConfigWrite who c i v) s = (s.trcConfig c i v).done := by
  show execTraceConfigWrite who c i v s = _
  rw [execTraceConfigWrite, trace_mod_four hc, Nat.mod_eq_of_lt hi, State.trcGuard_eq hc hmay]

end

section
variable {s u : State} {who : Init} {c : Nat}

/-- The end of a command over a state that differs from s in registers and trace channels. -/
theorem State.settle_eq_of_trc {l : List TrcSt} (hu : u = { s with regs := u.regs, cen := { s.cen with trc := l } }) :
    u.settle = { s with regs := u.settle.regs, cen := { cenNoted s u.settle with trc := l } } := by
  have hsettle := State.settle_eq u
  generalize u.settle = t at hsettle ⊢
  rw [hsettle, hu]
  rfl

/-! ### Arm (R162) -/

/-- A refused arm sets BADCFG and leaves STATE. -/
theorem answers_traceArm_bad (hc : c < s.nTraces) (hmay : mayWrite who 7 s) (hbad : s.trcBad c = true) :
    ∃ t, exec (.traceArm who c) s = .next t ∧ t = { s with regs := t.regs, cen := cenNoted s t } ∧ eventsFired s t [] ∧
      t.rb (Reg.cenTrcStat c) 5 = true ∧ t.trcState c = s.trcState c ∧ regsKept s t [Reg.cenTrcStat c] := by
  have hexec : exec (.traceArm who c) s = (s.setRb (Reg.cenTrcStat c) 5 true).done := by
    rw [exec_traceArm hc hmay, State.trcArm, if_pos hbad]
  obtain ⟨t, hnext, hframe, hval, hkept, hfired⟩ := answers_setReg (cenReg_notMem_latch (by simp only [Reg.cenTrcStat]; omega)) hexec
  refine ⟨t, hnext, hframe, hfired, ?_, ?_, hkept⟩
  · rw [State.rb, hval]
    exact bitOf_putBit _ 5 true (by decide)
  · rw [State.trcState, State.rf, hval]
    exact fld_putFld_apart _ 5 1 _ 0 2 (by decide) (by decide)

/-- CEN_TRCt_STAT after an arm: STATE ARMED, no flag, BADCFG as it was. -/
def armedStat (x : Word) : Word := BitVec.ofNat 32 1 ||| (x &&& 0x20)

theorem bitOf_armedStat (x : Word) {i : Nat} (h0 : i ≠ 0) (h5 : i ≠ 5) : bitOf (armedStat x) i = false := by
  have hone : (BitVec.ofNat 32 1).getLsbD i = false := by simp [h0]
  have hmask : (0x20 : Word).getLsbD i = false := by
    rw [show (0x20 : Word) = BitVec.twoPow 32 5 from rfl, BitVec.getLsbD_twoPow]
    simp [Ne.symm h5]
  rw [bitOf, armedStat, BitVec.getLsbD_or, BitVec.getLsbD_and, hone, hmask, Bool.and_false, Bool.or_false]

theorem fld_armedStat (x : Word) : fld (armedStat x) 0 2 = 1 := by
  refine Nat.eq_of_testBit_eq fun i => ?_
  rw [fld_bit, Nat.zero_add]
  rcases Nat.eq_zero_or_pos i with rfl | hi
  · simp [armedStat]
  · have hone : Nat.testBit 1 i = false := Nat.testBit_lt_two_pow (Nat.one_lt_two_pow (by omega))
    rw [hone]
    by_cases h2 : i < 2
    · have hbit : (armedStat x).getLsbD i = false := bitOf_armedStat x (by omega) (by omega)
      rw [hbit, Bool.and_false]
    · rw [decide_eq_false h2, Bool.false_and]

/-- What an arm that is taken leaves in the registers of channel c. -/
structure Armed (s u : State) (c : Nat) : Prop where
  frame : u = { s with regs := u.regs, cen := { s.cen with trc := s.cen.trc.set c { force := (s.trc c).force } } }
  stat : u.reg (Reg.cenTrcStat c) = armedStat (s.reg (Reg.cenTrcStat c))
  wptr : u.reg (Reg.cenTrcWptr c) = 0
  tpos : u.rb (Reg.cenTrcTpos c) 31 = false
  kept : ∀ a, a ∉ [Reg.cenTrcWptr c, Reg.cenTrcTpos c, Reg.cenTrcStat c] → u.reg a = s.reg a

theorem trcArm_armed (h : s.trcBad c = false) : Armed s (s.trcArm c) c := by
  have hregs : Reg.cenTrcStat c ≠ Reg.cenTrcWptr c ∧ Reg.cenTrcStat c ≠ Reg.cenTrcTpos c ∧ Reg.cenTrcWptr c ≠ Reg.cenTrcTpos c := by
    simp only [Reg.cenTrcStat, Reg.cenTrcWptr, Reg.cenTrcTpos]
    omega
  obtain ⟨hsw, hst, hwt⟩ := hregs
  have hstat : ((s.setReg (Reg.cenTrcWptr c) 0).setRb (Reg.cenTrcTpos c) 31 false).reg (Reg.cenTrcStat c) = s.reg (Reg.cenTrcStat c) := by
    rw [State.reg_setRb_ne _ _ _ _ _ hst, State.reg_setReg_ne _ _ _ _ hsw]
  have harm : s.trcArm c =
      (((s.setReg (Reg.cenTrcWptr c) 0).setRb (Reg.cenTrcTpos c) 31 false).setReg (Reg.cenTrcStat c)
        (armedStat (s.reg (Reg.cenTrcStat c)))).setTrc c { force := (s.trc c).force } := by
    rw [← hstat, State.trcArm, h, if_neg Bool.false_ne_true]
    rfl
  have hreg : ∀ a, (s.trcArm c).reg a =
      (((s.setReg (Reg.cenTrcWptr c) 0).setRb (Reg.cenTrcTpos c) 31 false).setReg (Reg.cenTrcStat c)
        (armedStat (s.reg (Reg.cenTrcStat c)))).reg a := fun a => by rw [harm]; rfl
  refine ⟨by rw [harm]; rfl, ?_, ?_, ?_, fun a ha => ?_⟩
  · rw [hreg, State.reg_setReg_same]
  · rw [hreg, State.reg_setReg_ne _ _ _ _ hsw.symm, State.reg_setRb_ne _ _ _ _ _ hwt, State.reg_setReg_same]
  · rw [State.rb, hreg, State.reg_setReg_ne _ _ _ _ hst.symm]
    exact State.rb_setRb _ _ _ _ (by decide)
  · simp only [List.mem_cons, List.not_mem_nil, or_false, not_or] at ha
    obtain ⟨hw, ht, hs⟩ := ha
    rw [hreg, State.reg_setReg_ne _ _ _ _ hs, State.reg_setRb_ne _ _ _ _ _ ht, State.reg_setReg_ne _ _ _ _ hw]

/-- An arm that is taken: the channel is ARMED, its record empty, its flags clear. -/
theorem answers_traceArm_ok (hc : c < s.nTraces) (hmay : mayWrite who 7 s) (h : s.trcBad c = false) :
    ∃ t, exec (.traceArm who c) s = .next t ∧ t = { s with regs := t.regs, cen := { cenNoted s t with trc := t.cen.trc } } ∧ eventsFired s t [] ∧
      t.cen.trc = s.cen.trc.set c { force := (s.trc c).force } ∧ t.trcState c = 1 ∧ t.reg (Reg.cenTrcWptr c) = 0 ∧
      t.rb (Reg.cenTrcTpos c) 31 = false ∧ t.rb (Reg.cenTrcStat c) 2 = false ∧ t.rb (Reg.cenTrcStat c) 3 = false ∧
      t.rb (Reg.cenTrcStat c) 4 = false ∧ regsKept s t [Reg.cenTrcWptr c, Reg.cenTrcTpos c, Reg.cenTrcStat c] := by
  have hsettle : ∀ a, 0x60070000 ≤ a → (s.trcArm c).settle.reg a = (s.trcArm c).reg a := fun a ha =>
    State.reg_settle _ a (cenReg_notMem_latch ha)
  obtain ⟨hframe, hstat, hwptr, htpos, hkept⟩ := trcArm_armed h
  have hend := State.settle_eq_of_trc hframe
  have htrc := congrArg (fun v : State => v.cen.trc) hend
  have hstatus : (s.trcArm c).settle.reg (Reg.cenTrcStat c) = armedStat (s.reg (Reg.cenTrcStat c)) :=
    (hsettle _ (by simp only [Reg.cenTrcStat]; omega)).trans hstat
  have hflag : ∀ i, i ≠ 0 → i ≠ 5 → (s.trcArm c).settle.rb (Reg.cenTrcStat c) i = false := fun i h0 h5 => by
    rw [State.rb, hstatus]
    exact bitOf_armedStat _ h0 h5
  refine ⟨_, exec_traceArm hc hmay, ?_, ?_, htrc, ?_, ?_, ?_, hflag 2 (by decide) (by decide), hflag 3 (by decide) (by decide),
    hflag 4 (by decide) (by decide), regsKept_settle fun a ha _ => hkept a ha⟩
  · rw [htrc]
    exact hend
  · refine eventsFired_nil (by rw [hframe]) fun a ha => hkept a fun hmem => ?_
    have hne : 0x60070000 ≤ a := by
      simp only [List.mem_cons, List.not_mem_nil, or_false, Reg.cenTrcStat, Reg.cenTrcWptr, Reg.cenTrcTpos] at hmem
      omega
    exact cenReg_notMem_latch hne ha
  · rw [State.trcState, State.rf, hstatus]
    exact fld_armedStat _
  · exact (hsettle _ (by simp only [Reg.cenTrcWptr]; omega)).trans hwptr
  · rw [State.rb, hsettle _ (by simp only [Reg.cenTrcTpos]; omega)]
    exact htpos

/-! ### Stop and force (R157, R163) -/

theorem answers_traceStop (hc : c < s.nTraces) (hmay : mayWrite who 7 s) :
    ∃ t, exec (.traceStop who c) s = .next t ∧ t = { s with regs := t.regs, cen := cenNoted s t } ∧ t.trcState c = 0 ∧
      (∀ i, 2 ≤ i → i < 32 → t.rb (Reg.cenTrcStat c) i = s.rb (Reg.cenTrcStat c) i) ∧ regsKept s t [Reg.cenTrcStat c] ∧
      eventsFired s t [] := by
  obtain ⟨t, hnext, hframe, hval, hkept, hfired⟩ :=
    answers_setReg (cenReg_notMem_latch (by simp only [Reg.cenTrcStat]; omega)) (exec_traceStop hc hmay)
  refine ⟨t, hnext, hframe, ?_, fun i h2 h32 => ?_, hkept, hfired⟩
  · rw [State.trcState, State.rf, hval]
    exact fld_putFld _ 0 2 0 (by decide)
  · rw [State.rb, hval]
    exact bitOf_putFld_apart _ 0 2 0 i h32 (by omega)

theorem answers_traceForce (hc : c < s.nTraces) (hmay : mayWrite who 7 s) :
    ∃ t, exec (.traceForce who c) s = .next t ∧
      t = { s with regs := t.regs, cen := { cenNoted s t with trc := s.cen.trc.set c { s.trc c with force := true } } } ∧
      regsKept s t [] ∧ eventsFired s t [] :=
  ⟨_, exec_traceForce hc hmay, State.settle_eq_of_trc rfl, regsKept_refl [] rfl, eventsFired_nil rfl fun _ _ => rfl⟩

/-! ### CFG, TRIG and LEVEL (R163) -/

theorem answers_traceConfigWrite {i : Nat} (v : Word) (hc : c < s.nTraces) (hmay : mayWrite who 7 s) (hi : i < 3) :
    ∃ t, exec (.traceConfigWrite who c i v) s = .next t ∧ t = { s with regs := t.regs, cen := cenNoted s t } ∧ eventsFired s t [] ∧
      (s.trcState c = 0 ∨ s.trcState c = 3 →
        t.reg (Reg.cenTrcCfg c + 4 * i) = v &&& trcMask i ∧ regsKept s t [Reg.cenTrcCfg c + 4 * i]) ∧
      (s.trcState c = 1 ∨ s.trcState c = 2 → t.rb Reg.cenStat 11 = true ∧ regsKept s t [Reg.cenStat]) := by
  have hexec := exec_traceConfigWrite hc hmay v hi
  by_cases hbusy : s.trcState c = 1 ∨ s.trcState c = 2
  · rw [State.trcConfig, if_pos (by simpa using hbusy)] at hexec
    obtain ⟨t, hnext, hframe, hval, hkept, hfired⟩ := answers_setReg (by decide) hexec
    refine ⟨t, hnext, hframe, hfired, fun h => by omega, fun _ => ⟨?_, hkept⟩⟩
    rw [State.rb, hval]
    exact bitOf_putBit _ 11 true (by decide)
  · rw [State.trcConfig, if_neg (by simpa using hbusy)] at hexec
    obtain ⟨t, hnext, hframe, hval, hkept, hfired⟩ :=
      answers_setReg (cenReg_notMem_latch (by simp only [Reg.cenTrcCfg]; omega)) hexec
    exact ⟨t, hnext, hframe, hfired, fun _ => ⟨hval, hkept⟩, fun h => absurd h hbusy⟩

end

/-- Settles O17: every write to a channel comes to its registers, its record, or the mark of an ignored write. -/
theorem traceChannels : Obligations.TraceChannels := by
  intro who c s hc hmay
  refine ⟨?_, answers_traceStop hc hmay, answers_traceForce hc hmay, fun i v hi => answers_traceConfigWrite v hc hmay hi⟩
  cases hbad : s.trcBad c with
  | false =>
    obtain ⟨t, hnext, hframe, hfired, harmed⟩ := answers_traceArm_ok hc hmay hbad
    exact ⟨t, hnext, hframe, hfired, fun _ => harmed, nofun⟩
  | true =>
    obtain ⟨t, hnext, hframe, hfired, hflag, hstate, hkept⟩ := answers_traceArm_bad hc hmay hbad
    have hcen : t.cen = cenNoted s t := congrArg State.cen hframe
    refine ⟨t, hnext, ?_, hfired, nofun, fun _ => ⟨hflag, hstate, hcen, hkept⟩⟩
    have htrc : t.cen.trc = s.cen.trc := by rw [hcen]; rfl
    rw [htrc]
    exact hframe

end Sys2Proof.Machine
end

section
/-! PROOFS. What one evaluation writes: the state words of its slot, and their frame (R131, R145, R148, R150). -/

namespace Sys2Proof.Machine

variable {s : State}

/-! ### Words written one after another -/

/-- Words written at offsets from a base, in order. -/
def State.putWords (s : State) (base : Nat) (l : List (Nat × Word)) : State := l.foldl (fun s p => s.setWord (base + p.1) p.2) s

theorem putWords_cons (base : Nat) (p : Nat × Word) (l : List (Nat × Word)) :
    s.putWords base (p :: l) = (s.setWord (base + p.1) p.2).putWords base l := by
  rw [State.putWords, List.foldl_cons, State.putWords]

theorem putWords_eq (base : Nat) (l : List (Nat × Word)) : s.putWords base l = { s with mem := (s.putWords base l).mem } := by
  induction l generalizing s with
  | nil => rfl
  | cons p l ih => rw [putWords_cons, ih, State.setWord_eq]

theorem byte_putWords {base x : Nat} {l : List (Nat × Word)} (h : ∀ i ∈ l.map Prod.fst, ¬(base + i ≤ x ∧ x < base + i + 4)) :
    (s.putWords base l).byte x = s.byte x := by
  induction l generalizing s with
  | nil => rfl
  | cons p l ih =>
    obtain ⟨hp, hl⟩ := List.forall_mem_cons.mp h
    rw [putWords_cons, ih hl, State.byte_setWord_apart _ _ _ _ (by omega)]

/-- Of words written at rising offsets each reads back. -/
theorem word_putWords {base : Nat} {l : List (Nat × Word)} (hrise : (l.map Prod.fst).Pairwise (fun i j => i + 4 ≤ j)) :
    ∀ p ∈ l, (s.putWords base l).word (base + p.1) = p.2 := by
  induction l generalizing s with
  | nil => nofun
  | cons q l ih =>
    obtain ⟨hq, hl⟩ := List.pairwise_cons.mp hrise
    rw [putWords_cons]
    refine List.forall_mem_cons.mpr ⟨?_, ih hl⟩
    have hlater : ((s.setWord (base + q.1) q.2).putWords base l).word (base + q.1) = (s.setWord (base + q.1) q.2).word (base + q.1) :=
      State.word_of_bytes fun i hi => byte_putWords fun j hj => by have := hq j hj; omega
    rw [hlater, State.word_setWord]

/-! ### The state words of a slot (R131) -/

/-- SSTAT after an evaluation that names nothing forbidden: the five flags of the result, and PEND. -/
def sstatWord (ohi olo frz isat sat : Bool) : Word :=
  BitVec.ofNat 32 ((if ohi then 1 else 0) + (if olo then 2 else 0) + (if frz then 4 else 0) + (if isat then 8 else 0) + (if sat then 16 else 0) + 32)

theorem bitOf_sstatWord : ∀ ohi olo frz isat sat : Bool,
    bitOf (sstatWord ohi olo frz isat sat) 0 = ohi ∧ bitOf (sstatWord ohi olo frz isat sat) 1 = olo ∧
    bitOf (sstatWord ohi olo frz isat sat) 2 = frz ∧ bitOf (sstatWord ohi olo frz isat sat) 3 = isat ∧
    bitOf (sstatWord ohi olo frz isat sat) 4 = sat ∧ bitOf (sstatWord ohi olo frz isat sat) 5 = true ∧
    bitOf (sstatWord ohi olo frz isat sat) 7 = false := by decide

/-- The state words of a slot after an evaluation of a, by their offsets: the result, and the histories shifted by one. -/
def evalWords (a : EvalInput) : List (Nat × Word) :=
  [(4, ofInt32 a.run.u), (8, ofInt32 a.run.i), (0xC, ofInt32 a.run.e), (0x10, ofInt32 (a.es.getD 0 0)), (0x14, ofInt32 (a.es.getD 1 0)),
    (0x18, ofInt32 a.run.y), (0x1C, ofInt32 (a.ys.getD 0 0)), (0x20, ofInt32 (a.ys.getD 1 0)), (0x24, ofInt32 a.run.x),
    (0x28, ofInt32 a.run.e), (0x2C, ofInt32 a.run.sp), (0x30, sstatWord a.run.ohi a.run.olo a.run.frz a.run.isat a.run.sat)]

theorem offsets_evalWords (a : EvalInput) :
    (evalWords a).map Prod.fst = [4, 8, 0xC, 0x10, 0x14, 0x18, 0x1C, 0x20, 0x24, 0x28, 0x2C, 0x30] := rfl

theorem writeSlot_eq (n : Nat) (a : EvalInput) : s.writeSlot n a a.run false = s.putWords (slotState n) (evalWords a) := by
  unfold State.writeSlot evalWords
  generalize a.run = r
  rw [if_neg Bool.false_ne_true, Nat.add_zero]
  simp only [putWords_cons]
  rfl

theorem byte_evalWords (n : Nat) (a : EvalInput) {x : Nat} (hx : ¬(slotState n + 4 ≤ x ∧ x < slotState n + 0x34)) :
    (s.putWords (slotState n) (evalWords a)).byte x = s.byte x := by
  have hoffsets : ∀ i ∈ (evalWords a).map Prod.fst, 4 ≤ i ∧ i + 4 ≤ 0x34 := by
    rw [offsets_evalWords]
    decide
  exact byte_putWords fun i hi => by have := hoffsets i hi; omega

theorem word_evalWords (n : Nat) (a : EvalInput) :
    ∀ p ∈ evalWords a, (s.putWords (slotState n) (evalWords a)).word (slotState n + p.1) = p.2 :=
  word_putWords (by rw [offsets_evalWords]; decide)

theorem coef_evalWords {n : Nat} (hn : n < 1024) (a : EvalInput) (m off : Nat) (hm : 128 * m + off + 4 ≤ 0x20000) :
    (s.putWords (slotState n) (evalWords a)).coef m off = s.coef m off :=
  State.word_of_bytes fun i hi => byte_evalWords n a (by unfold slotState slotCoef; omega)

end Sys2Proof.Machine
end

section
/-! PROOFS. SLOT_EVALUATION outside a flask, with slots of the frame left and no trace channel armed (R107, R115, R144-R149). -/

namespace Sys2Proof.Machine

variable {s u : State} {k n m : Nat} {rest : List Nat}

/-! ### The next slot, and the frames (R42, R107, R115) -/

/-- Slot n is evaluated next, in class k, and slots of its frame are left after it. -/
structure NextInFrame (s : State) (k n m : Nat) (rest : List Nat) : Prop where
  class_lt : k < 4
  frames : s.cen.frames.length = 4
  lower : ∀ j, j < k → (s.frame j).busy = false
  busy : (s.frame k).busy = true
  todo : (s.frame k).todo = n :: m :: rest

theorem NextInFrame.nextSlot (h : NextInFrame s k n m rest) : s.nextSlot = some (k, n) := by
  obtain ⟨hk, -, hlower, hbusy, htodo⟩ := h
  interval_cases k <;> simp [State.nextSlot, hlower, hbusy, htodo]

/-- While the lowest class that evaluates has slots left, no frame completes (R115, R116). -/
theorem frameAdvance_eq_self_of_todo (hlower : ∀ j, j < k → (s.frame j).busy = false) (hbusy : (s.frame k).busy = true)
    (htodo : (s.frame k).todo ≠ []) : s.frameAdvance = s := by
  refine State.forEach_eq_self (l := [0, 1, 2, 3])
    (f := fun s k => if (s.frame k).busy && (s.frame k).todo.isEmpty && !((List.range k).any (fun j => (s.frame j).busy)) then s.frameDone k else s)
    fun j _ => if_neg ?_
  rcases Nat.lt_trichotomy j k with hlt | rfl | hgt
  · simp [hlower j hlt]
  · simp [htodo]
  · have hblocked : (List.range j).any (fun i => (s.frame i).busy) = true := List.any_eq_true.mpr ⟨k, List.mem_range.mpr hgt, hbusy⟩
    simp [hblocked]

theorem frame_of_set {f : FrameSt} (hframes : u.cen.frames = s.cen.frames.set k f) (j : Nat) (hk : k < s.cen.frames.length) :
    u.frame j = if j = k then f else s.frame j := by
  rw [State.frame, hframes, List.getD_eq_getElem?_getD, List.getElem?_set]
  by_cases h : j = k
  · simp [h, hk]
  · simp [h, Ne.symm h, State.frame]

/-! ### What finds nothing to do -/

/-- The trace channels that are IDLE or DONE take no notice of an evaluation (R155). -/
theorem traceEval_idle (htrc : ∀ c, c < 4 → u.trcState c = 0 ∨ u.trcState c = 3) (n : Nat) (r : EvalResult) (tick : Nat) :
    u.traceEval n r tick = u.evalNote n := by
  refine State.forEach_eq_self fun c hc => ?_
  have hstate : (u.evalNote n).trcState c = u.trcState c := rfl
  have hidle := htrc c ((List.mem_range.mp hc).trans_le (nTraces_le _))
  rw [State.trcEval, hstate, if_neg]
  rcases hidle with h | h <;> simp [h]

theorem graftsRun_eq_self (h : u.twn.grafts = []) : u.graftsRun = u := by
  have htwn : ({ u.twn with grafts := [] } : TwnSt) = u.twn := by rw [← h]
  have hself : ({ u with twn := { u.twn with grafts := [] } } : State) = u := by rw [htwn]
  simp only [State.graftsRun, h, List.filter_nil, List.foldl_nil]
  exact hself

theorem graftSend_eq_self (h : u.isTwin = false) (k n tick : Nat) : u.graftSend k n tick = u := by
  rw [State.graftSend, h, Bool.false_and, Bool.false_and, if_neg Bool.false_ne_true]

/-! ### The state after an evaluation -/

/-- Does the evaluation of slot n in the frame of class k fire event 5 (R149)? -/
def State.clampMoved (s : State) (k n : Nat) : Bool :=
  bitOf (s.coef n 0) 12 &&
    ((bitOf (s.slotWord n 0x30) 0 && !s.slotFirst (s.frame k) n) != (s.evalInput (s.frame k) n).1.run.ohi ||
      (bitOf (s.slotWord n 0x30) 1 && !s.slotFirst (s.frame k) n) != (s.evalInput (s.frame k) n).1.run.olo)

/-- The state words of slot n are written, and event 5 has fired where the clamp pair has changed. -/
def State.evalRecorded (s : State) (k n : Nat) : State :=
  let v := s.putWords (slotState n) (evalWords (s.evalInput (s.frame k) n).1)
  if s.clampMoved k n then v.fire 5 else v

/-- The frame f with slot n, its first, evaluated under a DEST word (R107, R108). -/
def FrameSt.evaluated (f : FrameSt) (n : Nat) (dest : Word) : FrameSt :=
  { f with todo := f.todo.drop 1, evald := f.evald ++ [n], dests := recPut 0 f.dests n dest }

/-- What is left of an evaluation of slot n once its state words are written and event 5 has fired: the mark of a first evaluation,
the trace channels, the frame, and what a flask sends. -/
def State.evalFinish (v : State) (f : FrameSt) (k n : Nat) (r : EvalResult) (first : Bool) : State :=
  let v := if first then { v with cen := { v.cen with first := v.cen.first.filter (fun m => m != n) } } else v
  let v := v.traceEval n r f.tick
  let v := v.setFrame k { v.frame k with todo := f.todo.drop 1, evald := f.evald ++ [n], dests := recPut 0 f.dests n (v.coef n 8) }
  v.graftsRun.graftSend k n f.tick

/-- CEN after the evaluation of slot n in the frame f of class k. -/
def CenSt.evaluated (c : CenSt) (f : FrameSt) (k n : Nat) (first : Bool) (notes : TrcNotes) : CenSt :=
  { c with frames := c.frames.set k f, first := c.first.filter (fun i => !(i == n && first)), notes := notes }

/-- The evaluation of slot n is no longer its first. -/
def State.firstTaken (v : State) (n : Nat) (first : Bool) : State :=
  { v with cen := { v.cen with first := v.cen.first.filter (fun i => !(i == n && first)) } }

theorem firstTaken_eq (v : State) (n : Nat) (first : Bool) :
    (if first then { v with cen := { v.cen with first := v.cen.first.filter (fun m => m != n) } } else v) = v.firstTaken n first := by
  cases first with
  | true => simp [State.firstTaken, bne]
  | false => simp [State.firstTaken]

theorem evalFinish_eq {v : State} (htrc : ∀ c, c < 4 → v.trcState c = 0 ∨ v.trcState c = 3) (hgrafts : v.twn.grafts = [])
    (hsolo : v.isTwin = false) (k n : Nat) (r : EvalResult) (first : Bool) :
    v.evalFinish (v.frame k) k n r first =
      { v with cen := v.cen.evaluated ((v.frame k).evaluated n (v.coef n 8)) k n first (v.evalNote n).cen.notes } := by
  have htrace : (v.firstTaken n first).traceEval n r (v.frame k).tick = (v.firstTaken n first).evalNote n :=
    traceEval_idle (u := v.firstTaken n first) htrc n r _
  have hsent : ∀ f, (((v.firstTaken n first).evalNote n).setFrame k f).graftsRun.graftSend k n (v.frame k).tick =
      ((v.firstTaken n first).evalNote n).setFrame k f := fun f => by
    rw [graftsRun_eq_self (u := ((v.firstTaken n first).evalNote n).setFrame k f) hgrafts]
    exact graftSend_eq_self (u := ((v.firstTaken n first).evalNote n).setFrame k f) hsolo k n _
  rw [State.evalFinish, firstTaken_eq]
  dsimp only
  rw [htrace, hsent]
  rfl

theorem evalSlot_eq (hn : n < s.nSlots) (hsource : (s.evalInput (s.frame k) n).2 = false)
    (hdest : (s.destination (s.coef n 8)).2 = false) :
    s.evalSlot k n = (s.evalRecorded k n).evalFinish (s.frame k) k n (s.evalInput (s.frame k) n).1.run (s.slotFirst (s.frame k) n) := by
  have hn' := Nat.lt_of_lt_of_le hn (nSlots_le s)
  have hold : ∀ (c : Bool) (x : Word) (i : Nat), bitOf (if c then 0 else x) i = (bitOf x i && !c) := by
    intro c x i
    cases c <;> simp [bitOf]
  have hcoef := coef_evalWords (s := s) hn' (s.evalInput (s.frame k) n).1 n 0 (by omega)
  unfold State.evalRecorded State.clampMoved
  rw [← hold, ← hold, ← hcoef, ← writeSlot_eq]
  -- BADREF stands twice in the evaluation, for its bit and for its fault: both are named here, and neither is set.
  show State.evalFinish (if bitOf ((s.writeSlot n _ _ ((s.evalInput (s.frame k) n).2 || (s.destination (s.coef n 8)).2)).badRef n
    ((s.evalInput (s.frame k) n).2 || (s.destination (s.coef n 8)).2) |>.coef n 0) 12 && _ then _ else _) _ _ _ _ _ = _
  rw [hsource, hdest]
  rfl

/-! ### What writing the state words and firing event 5 leaves -/

theorem storeFrame_putWords (base : Nat) (l : List (Nat × Word)) : StoreFrame s (s.putWords base l) := by
  have hput := putWords_eq (s := s) base l
  generalize s.putWords base l = v at hput ⊢
  rw [hput]
  rfl

theorem reg_putWords (base : Nat) (l : List (Nat × Word)) (x : Nat) : (s.putWords base l).reg x = s.reg x := by
  rw [putWords_eq]
  rfl

theorem evalRecorded_cases :
    (s.clampMoved k n = true ∧ s.evalRecorded k n = (s.putWords (slotState n) (evalWords (s.evalInput (s.frame k) n).1)).fire 5) ∨
      (s.clampMoved k n = false ∧ s.evalRecorded k n = s.putWords (slotState n) (evalWords (s.evalInput (s.frame k) n).1)) := by
  unfold State.evalRecorded
  cases s.clampMoved k n with
  | true => exact .inl ⟨rfl, rfl⟩
  | false => exact .inr ⟨rfl, rfl⟩

theorem evalRecorded_mem : (s.evalRecorded k n).mem = (s.putWords (slotState n) (evalWords (s.evalInput (s.frame k) n).1)).mem := by
  obtain ⟨-, heq⟩ | ⟨-, heq⟩ := evalRecorded_cases (s := s) (k := k) (n := n)
  · rw [heq, State.fire_mem]
  · rw [heq]

theorem storeFrame_evalRecorded : StoreFrame s (s.evalRecorded k n) := by
  obtain ⟨-, heq⟩ | ⟨-, heq⟩ := evalRecorded_cases (s := s) (k := k) (n := n) <;> rw [heq]
  · exact (storeFrame_putWords _ _).trans (storeFrame_fire _ _)
  · exact storeFrame_putWords _ _

theorem reg_evalRecorded {x : Nat} (hx : x ∉ latchRegs) : (s.evalRecorded k n).reg x = s.reg x := by
  obtain ⟨-, heq⟩ | ⟨-, heq⟩ := evalRecorded_cases (s := s) (k := k) (n := n) <;> rw [heq]
  · rw [State.reg_fire _ _ _ hx, reg_putWords]
  · exact reg_putWords _ _ _

theorem fired_evalRecorded : Fired s (s.evalRecorded k n) (if s.clampMoved k n then [5] else []) := by
  have hput : Fired s (s.putWords (slotState n) (evalWords (s.evalInput (s.frame k) n).1)) [] :=
    (Fired.refl s).congr (storeFrame_putWords _ _).variant fun _ _ => reg_putWords _ _ _
  obtain ⟨hmoved, heq⟩ | ⟨hstill, heq⟩ := evalRecorded_cases (s := s) (k := k) (n := n)
  · rw [heq, hmoved]
    exact hput.fire 5 (by decide)
  · rw [heq, hstill]
    exact hput

/-! ### The statement -/

/-- What a plain evaluation asks for beside its place: the frame plan runs on a chip outside a flask, no trace channel is
armed, and the slot is enabled and names only what is allowed. -/
structure PlainEvaluation (s : State) (k n : Nat) : Prop where
  awake : s.awake = true
  runs : s.rb Reg.cenCtrl 0 = true
  solo : s.isTwin = false
  slot_lt : n < s.nSlots
  traces : ∀ c, c < 4 → s.trcState c = 0 ∨ s.trcState c = 3
  enabled : s.slotOn n = true
  sources : (s.evalInput (s.frame k) n).2 = false
  dest : (s.destination (s.coef n 8)).2 = false
  grafts : s.twn.grafts = []

/-- The state that such an evaluation ends in. -/
def State.slotEvaluated (s : State) (k n : Nat) : State :=
  { s.evalRecorded k n with
    cen := s.cen.evaluated ((s.frame k).evaluated n (s.coef n 8)) k n (s.slotFirst (s.frame k) n) ((s.evalRecorded k n).evalNote n).cen.notes }

theorem evalSlot_plain (h : PlainEvaluation s k n) : s.evalSlot k n = s.slotEvaluated k n := by
  obtain ⟨-, -, hsolo, hn, htrc, -, hsources, hdest, hgrafts⟩ := h
  have hn' := Nat.lt_of_lt_of_le hn (nSlots_le s)
  have hframe := storeFrame_evalRecorded (s := s) (k := k) (n := n)
  have hreg : ∀ x, x ∉ latchRegs → (s.evalRecorded k n).reg x = s.reg x := fun x => reg_evalRecorded
  have hcoef : (s.evalRecorded k n).coef n 8 = s.coef n 8 :=
    (State.word_congr evalRecorded_mem _).trans (coef_evalWords hn' _ n 8 (by omega))
  rw [evalSlot_eq hn hsources hdest, State.slotEvaluated, ← hcoef]
  generalize s.evalRecorded k n = v at hframe hreg
  have htwn : v.twn = s.twn := by rw [hframe]
  have hcen : v.cen = cenNoted s v := congrArg State.cen hframe
  have hfr : v.frame k = s.frame k := by
    rw [State.frame, hcen]
    rfl
  have htrc' : ∀ c, c < 4 → v.trcState c = 0 ∨ v.trcState c = 3 := fun c hc => by
    rw [State.trcState, State.rf, hreg _ (cenReg_notMem_latch (by simp only [Reg.cenTrcStat]; omega))]
    exact htrc c hc
  have hsolo' : v.isTwin = false := by
    rw [← hsolo, State.isTwin, State.isTwin, State.rf, State.rf, State.present, State.present, hreg _ (by decide), hframe.variant]
  rw [← hfr, evalFinish_eq htrc' (by rw [htwn, hgrafts]) hsolo', hcen]
  rfl

theorem exec_slotEvaluation (h : PlainEvaluation s k n) (hnext : NextInFrame s k n m rest) :
    exec .slotEvaluation s = (s.slotEvaluated k n).done := by
  have hcond : (s.awake && s.rb Reg.cenCtrl 0) = true := by rw [h.awake, h.runs]; rfl
  have hframe := fun j => frame_of_set (u := s.slotEvaluated k n) (s := s) rfl j (by rw [hnext.frames]; exact hnext.class_lt)
  have hstay : (s.slotEvaluated k n).frameAdvance = s.slotEvaluated k n := by
    refine frameAdvance_eq_self_of_todo (k := k) (fun j hj => ?_) ?_ ?_
    · rw [hframe, if_neg (by omega), hnext.lower j hj]
    · rw [hframe, if_pos rfl]
      exact hnext.busy
    · rw [hframe, if_pos rfl, FrameSt.evaluated, hnext.todo]
      exact List.cons_ne_nil _ _
  show execSlotEvaluation s = _
  simp only [execSlotEvaluation, hcond, hnext.nextSlot, h.enabled, evalSlot_plain h, hstay, if_true]

theorem answers_slotEvaluation (h : PlainEvaluation s k n) (hnext : NextInFrame s k n m rest) :
    ∃ t, exec .slotEvaluation s = .next t ∧ t = { s with regs := t.regs, mem := t.mem, cen := t.cen } ∧
      (∀ p ∈ evalWords (s.evalInput (s.frame k) n).1, t.word (slotState n + p.1) = p.2) ∧
      eventsFired s t (if s.clampMoved k n then [5] else []) ∧ memKept s t (slotState n + 4) (slotState n + 0x34) ∧ regsKept s t [] ∧
      t.frame k = (s.frame k).evaluated n (s.coef n 8) ∧
      t.cen.first = s.cen.first.filter (fun i => !(i == n && s.slotFirst (s.frame k) n)) := by
  have hbase : s.slotEvaluated k n =
      { s with regs := (s.slotEvaluated k n).regs, mem := (s.slotEvaluated k n).mem, cen := (s.slotEvaluated k n).cen } := by
    rw [State.slotEvaluated, storeFrame_evalRecorded]
  have hmem : (s.slotEvaluated k n).settle.mem = (s.putWords (slotState n) (evalWords (s.evalInput (s.frame k) n).1)).mem :=
    (State.settle_mem _).trans evalRecorded_mem
  have hend := State.settle_eq_of_cen (v := { s with mem := (s.slotEvaluated k n).mem }) hbase
  rw [← State.settle_mem (s.slotEvaluated k n)] at hend
  have hcen := State.settle_cen (s.slotEvaluated k n)
  refine ⟨_, exec_slotEvaluation h hnext, hend, fun p hp => ?_, ?_, fun x hx => ?_, ?_, ?_, ?_⟩
  · exact (State.word_congr hmem _).trans (word_evalWords n _ p hp)
  · have hfired : Fired s (s.slotEvaluated k n) (if s.clampMoved k n then [5] else []) := fired_evalRecorded.congr rfl fun _ _ => rfl
    exact hfired.done
  · exact (State.byte_congr hmem x).trans (byte_evalWords n _ hx)
  · exact regsKept_settle fun x _ hx => reg_evalRecorded hx
  · have hframes : (s.slotEvaluated k n).settle.cen.frames = s.cen.frames.set k ((s.frame k).evaluated n (s.coef n 8)) := by
      rw [hcen]
      rfl
    rw [frame_of_set hframes k (by rw [hnext.frames]; exact hnext.class_lt), if_pos rfl]
  · rw [hcen]
    rfl

/-- Settles O14: the words of `evalWords` are written, event 5 fires where the clamp pair has changed, and the frame moves on by one. -/
theorem slotEvaluationWritesItsState : Obligations.SlotEvaluationWritesItsState := by
  intro s k n m rest hawake hruns hsolo hk hfour hlower hbusy htodo hn htrc hon hsources hdest hgrafts
  obtain ⟨t, hexec, hframe, hwords, hfired, hmem, hregs, hevald, hfirst⟩ :=
    answers_slotEvaluation ⟨hawake, hruns, hsolo, hn, htrc, hon, hsources, hdest, hgrafts⟩ ⟨hk, hfour, hlower, hbusy, htodo⟩
  refine ⟨t, hexec, hframe, ?_, hmem, hregs, ?_, ?_, ?_, hfirst⟩
  · simp only [evalWords, List.forall_mem_cons] at hwords
    obtain ⟨hu, hi, he, he1, he2, hy, hy1, hy2, hx, herr, hsp, hsstat, -⟩ := hwords
    obtain ⟨hohi, holo, hfrz, hisat, hsat, hpend, hbad⟩ := bitOf_sstatWord (s.evalInput (s.frame k) n).1.run.ohi
      (s.evalInput (s.frame k) n).1.run.olo (s.evalInput (s.frame k) n).1.run.frz (s.evalInput (s.frame k) n).1.run.isat
      (s.evalInput (s.frame k) n).1.run.sat
    rw [← hsstat] at hohi holo hfrz hisat hsat hpend hbad
    exact ⟨hu, hi, he, he1, he2, hy, hy1, hy2, hx, herr, hsp, hohi, holo, hfrz, hisat, hsat, hpend, hbad, hfired⟩
  · rw [hevald, FrameSt.evaluated, htodo]
    rfl
  · rw [hevald]
    rfl
  · rw [hevald]
    exact Tab.get_put_same _ _ _ _

end Sys2Proof.Machine
end

section
/-! PROOFS. A setpoint stepped towards its target (R176): how each step ends, and what it moves by whole units. -/

namespace Sys2Proof.Machine

/-! ### A move by whole units -/

/-- A setpoint moved towards its target by `m` units (R176), wherever that ends. -/
def movedTowards (sp tgt : Int) (m : Nat) : Int := if sp < tgt then sp + m else sp - m

section
variable {sp tgt : Int} {m : Nat}

theorem natAbs_movedTowards_sub : (movedTowards sp tgt m - sp).natAbs = m := by
  unfold movedTowards
  split <;> omega

theorem movedTowards_of_lt (hshort : m < (tgt - sp).natAbs) (hup : sp < tgt) :
    sp ≤ movedTowards sp tgt m ∧ movedTowards sp tgt m < tgt := by
  rw [movedTowards, if_pos hup]
  omega

theorem movedTowards_of_gt (hshort : m < (tgt - sp).natAbs) (hdown : tgt < sp) :
    tgt < movedTowards sp tgt m ∧ movedTowards sp tgt m ≤ sp := by
  rw [movedTowards, if_neg hdown.not_gt]
  omega

end

/-! ### The ends of a step -/

section
variable {sp tgt rate : Int} {den n2 acc : Nat}

theorem rateStep_of_rest (hrest : rate = 0 ∨ sp = tgt) : rateStep sp tgt rate den n2 acc = (tgt, 0) := by
  simp [rateStep, hrest]

theorem rateStep_of_reached (hreached : (tgt - sp).natAbs ≤ (acc + rate.toNat * n2) / den) :
    rateStep sp tgt rate den n2 acc = (tgt, 0) := by
  simp [rateStep, hreached]

theorem rateStep_of_short (hrate : rate ≠ 0) (hne : sp ≠ tgt) (hshort : (acc + rate.toNat * n2) / den < (tgt - sp).natAbs) :
    rateStep sp tgt rate den n2 acc =
      (movedTowards sp tgt ((acc + rate.toNat * n2) / den), (acc + rate.toNat * n2) % den) := by
  simp [rateStep, movedTowards, hrate, hne, Nat.not_le.mpr hshort]

end

/-- Settles O18: a step that falls short moves by the quotient and keeps the remainder of one division, which together are the
whole of what it divides. -/
theorem setpointStepIsExact : Obligations.SetpointStepIsExact := by
  intro sp tgt rate den n2 acc _ hden
  refine ⟨rateStep_of_rest, fun hrate hne => ?_⟩
  rcases Nat.lt_or_ge ((acc + rate.toNat * n2) / den) (tgt - sp).natAbs with hshort | hreached
  · right
    rw [rateStep_of_short hrate hne hshort]
    refine ⟨Nat.mod_lt _ hden, ?_, movedTowards_of_lt hshort, movedTowards_of_gt hshort⟩
    rw [natAbs_movedTowards_sub]
    exact Nat.div_add_mod _ _
  · exact .inl ⟨rateStep_of_reached hreached, hreached⟩

end Sys2Proof.Machine
end

section
/-! PROOFS. The channels of ACT beside one another, and what the end of a movement leaves alone (R204, R220). -/

namespace Sys2Proof.Machine

variable {s u : State}

/-! ### One channel -/

@[simp] theorem act1_setAct_same (n : Nat) (v : ActCh) : (s.setAct n v).act1 n = v := by
  unfold State.act1 State.setAct recGet recPut
  exact Tab.get_put_same _ _ _ _

theorem act1_setAct_ne {n m : Nat} (v : ActCh) (h : m ≠ n) : (s.setAct n v).act1 m = s.act1 m := by
  unfold State.act1 State.setAct recGet recPut
  exact Tab.get_put_ne _ _ _ _ _ h

theorem act1_congr (h : u.act = s.act) (n : Nat) : u.act1 n = s.act1 n := by rw [State.act1, State.act1, h]

/-- The registers of ACT are no event latch. -/
theorem actReg_notMem_latch {a : Nat} (h : 0x60090000 ≤ a) : a ∉ latchRegs := latch_notMem_of_le (by omega)

/-! ### Entries in rings -/

theorem reg_ringOffer {n a : Nat} (e : List Byte) (hring : a ∉ ringRegs n) (herr : a ≠ Reg.rngErr) (hlatch : a ∉ latchRegs) :
    (s.ringOffer n e).reg a = s.reg a := by
  have htail : a ≠ Reg.rngTail n := fun h => hring (by simp [ringRegs, h])
  unfold State.ringOffer
  split
  · exact reg_ringDropped s hring
  · split
    · rw [State.ringError, State.reg_fire _ _ _ hlatch, State.reg_setReg_ne _ _ _ _ herr, reg_ringDropped s hring]
    · split
      · exact reg_ringPush s e hring
      · split
        · rw [reg_ringDropped _ hring, reg_ringPush _ e hring, State.reg_setRf_ne _ _ _ _ _ _ htail]
        · split
          · exact reg_ringDropped s hring
          · rfl
        · exact reg_ringDropped s hring

/-- The registers of ACT stand above those of ring 21. -/
theorem actReg_notMem_ring {a : Nat} (h : 0x60090000 ≤ a) : a ∉ ringRegs 21 ∧ a ≠ Reg.rngErr := by
  simp only [ringRegs, List.mem_cons, List.not_mem_nil, or_false, not_or, Reg.rngHead, Reg.rngTail, Reg.rngDrop, Reg.rngDropf, Reg.rngErr]
  omega

theorem reg_actEntry {a : Nat} (n kind : Nat) (h : 0x60090000 ≤ a) : (s.actEntry n kind).reg a = s.reg a :=
  reg_ringOffer _ (actReg_notMem_ring h).1 (actReg_notMem_ring h).2 (actReg_notMem_latch h)

/-! ### The end of a movement (R204, R206) -/

@[simp] theorem act_actEnd (n : Nat) (resync : Bool) : (s.actEnd n resync).act = s.act := by
  unfold State.actEnd State.actEntry
  dsimp only
  split <;> simp

theorem reg_actEnd {a : Nat} (n : Nat) (resync : Bool) (h : 0x60090000 ≤ a) (hend : a ≠ Reg.actEndf) :
    (s.actEnd n resync).reg a = s.reg a := by
  unfold State.actEnd
  dsimp only
  rw [reg_actEntry _ _ h]
  split
  · rw [State.reg_fire _ _ _ (actReg_notMem_latch h), State.reg_setRb_ne _ _ _ _ _ hend]
  · exact State.reg_setRb_ne _ _ _ _ _ hend

end Sys2Proof.Machine
end

section
/-! PROOFS. The base tick of a FLOAT channel: its model moves by one tick, then R204 decides on its pulse. -/

namespace Sys2Proof.Machine

/-! ### The model moves (R204, first part) -/

section
variable {a : ActCh} {pos full : Nat}

@[simp] theorem floatMove_drv : (floatMove a pos full).drv = a.drv := by
  unfold floatMove
  cases a.drv with
  | none => rfl
  | opening => dsimp only; split_ifs <;> rfl
  | closing => dsimp only; split_ifs <;> rfl

theorem floatMove_run_le : (floatMove a pos full).run ≤ a.run + 1 := by
  unfold floatMove
  cases a.drv with
  | none => exact Nat.le_succ _
  | opening => dsimp only; split_ifs <;> exact Nat.le_refl _
  | closing => dsimp only; split_ifs <;> exact Nat.le_refl _

theorem floatMove_of_none (h : a.drv = .none) : floatMove a pos full = { a with gap := a.gap - 1 } := by
  rw [floatMove, h]

theorem floatMove_pos_of_opening (h : a.drv = .opening) :
    (floatMove a pos full).pos = if pos < full then some (pos + 1) else a.pos := by
  rw [floatMove, h]
  dsimp only
  split_ifs <;> rfl

theorem floatMove_pos_of_closing (h : a.drv = .closing) :
    (floatMove a pos full).pos = if 0 < pos then some (pos - 1) else a.pos := by
  rw [floatMove, h]
  dsimp only
  split_ifs <;> rfl

/-- A position within a stroke of full ticks, at most one tick from pos. -/
def WithinTick (pos full pos' : Nat) : Prop := pos' ≤ full ∧ pos' ≤ pos + 1 ∧ pos ≤ pos' + 1

theorem WithinTick.refl (h : pos ≤ full) : WithinTick pos full pos := ⟨h, Nat.le_succ _, Nat.le_succ _⟩

/-- The model moves only where the stroke leaves room. -/
theorem floatMove_withinTick (hpos : a.pos.getD full = pos) (hfull : pos ≤ full) :
    WithinTick pos full ((floatMove a pos full).pos.getD full) := by
  cases hdrv : a.drv with
  | none =>
    rw [floatMove_of_none hdrv, hpos]
    exact .refl hfull
  | opening =>
    rw [floatMove_pos_of_opening hdrv]
    split
    · simp only [WithinTick, Option.getD_some]
      omega
    · rw [hpos]
      exact .refl hfull
  | closing =>
    rw [floatMove_pos_of_closing hdrv]
    split
    · simp only [WithinTick, Option.getD_some]
      omega
    · rw [hpos]
      exact .refl hfull

end

section
variable {s : State} {n : Nat}

/-- What the first part of a tick does to the channel: a pulse stays as it is, its time grows by at most one tick, a gap runs down
by one, and the position moves by at most one tick within the stroke. -/
structure FloatAdvanced (s u : State) (n : Nat) : Prop where
  regs : u.regs = s.regs
  drv : (u.act1 n).drv = (s.act1 n).drv
  run : (u.act1 n).run ≤ (s.act1 n).run + 1
  gap : (s.act1 n).drv = .none → (u.act1 n).gap = (s.act1 n).gap - 1
  pos : s.actPos n ≤ s.actFull n → WithinTick (s.actPos n) (s.actFull n) (u.actPos n)

theorem actFull_congr {u : State} (h : u.reg (Reg.actnP1 n) = s.reg (Reg.actnP1 n)) : u.actFull n = s.actFull n := by
  rw [State.actFull, State.actFull, State.rf, State.rf, h]

/-- The position of a state is that of its channel, over a stroke that is the same. -/
theorem actPos_eq {u : State} {p : Option Nat} (hpos : (u.act1 n).pos = p) (hfull : u.actFull n = s.actFull n) :
    u.actPos n = p.getD (s.actFull n) := by
  rw [State.actPos, hpos, hfull]

theorem floatAdvance_advanced : FloatAdvanced s (s.floatAdvance n) n := by
  unfold State.floatAdvance
  split
  next hchill =>
    obtain ⟨-, hpulse⟩ : (s.act1 n).chill = true ∧ (s.act1 n).drv ≠ .none := by simpa using hchill
    exact { regs := rfl, drv := rfl, run := Nat.le_succ _, gap := fun h => absurd h hpulse, pos := .refl }
  next =>
    have hact := act1_setAct_same (s := s) n (floatMove (s.act1 n) (s.actPos n) (s.actFull n))
    have hpos := actPos_eq (congrArg ActCh.pos hact) (actFull_congr (s := s) rfl)
    exact {
      regs := rfl
      drv := by simp
      run := by simpa using floatMove_run_le
      gap := fun h => by simp [floatMove_of_none h]
      pos := fun h => hpos ▸ floatMove_withinTick rfl h }

/-! ### The decision (R204, second part) -/

/-- The gap that follows a pulse, in base ticks (R204, R219). -/
def State.floatRev (s : State) (n : Nat) : Nat := 4 * min 1000 (s.rf (Reg.actnP3 n) 0 10)

/-- The shortest pulse, in base ticks (R204, R219). -/
def State.floatMinp (s : State) (n : Nat) : Nat := 4 * clampNat 100 2000 (s.rf (Reg.actnP2 n) 0 11)

theorem act1_floatStop : (s.floatStop n).act1 n = { s.act1 n with drv := .none, gap := s.floatRev n } :=
  (act1_congr (s := s.setAct n _) rfl n).trans (act1_setAct_same n _)

theorem reg_floatStop {a : Nat} (h : a ≠ Reg.actnStrokes n) : (s.floatStop n).reg a = s.reg a := by
  rw [State.floatStop, State.actStroke, State.reg_incWrap, if_neg h]
  rfl

/-- The decision comes to nothing, to the end of a pulse that has lasted MINP, or to the start of one where no gap is left. -/
theorem floatDecide_cases :
    s.floatDecide n = s ∨
    (∃ resync, (s.act1 n).drv ≠ .none ∧ s.floatMinp n ≤ (s.act1 n).run ∧ s.floatDecide n = (s.floatStop n).actEnd n resync) ∨
    ∃ d, (s.act1 n).drv = .none ∧ (s.act1 n).gap = 0 ∧ s.floatDecide n = s.setAct n { s.act1 n with drv := d, run := 0, ovr := 0 } := by
  unfold State.floatDecide
  extract_lets full c tgt db minp a pos needOpen needClose resync
  cases hdrv : a.drv with
  | opening =>
    dsimp only
    split
    next hend => exact .inr (.inl ⟨_, nofun, of_decide_eq_true (Bool.and_eq_true_iff.mp hend).1, rfl⟩)
    next => exact .inl rfl
  | closing =>
    dsimp only
    split
    next hend => exact .inr (.inl ⟨_, nofun, of_decide_eq_true (Bool.and_eq_true_iff.mp hend).1, rfl⟩)
    next => exact .inl rfl
  | none =>
    dsimp only
    split
    next => exact .inl rfl
    next hgap =>
      have hnogap : a.gap = 0 := by simpa using hgap
      split
      · exact .inr (.inr ⟨_, rfl, hnogap, rfl⟩)
      · split
        · exact .inr (.inr ⟨_, rfl, hnogap, rfl⟩)
        · exact .inl rfl

/-- The channel before and after the decision: drive and gap are kept, or a pulse that has lasted MINP has ended with the gap at REV,
or there was neither pulse nor gap. -/
def DriveDecided (minp rev : Nat) (a b : ActCh) : Prop :=
  (b.drv = a.drv ∧ b.gap = a.gap) ∨ (a.drv ≠ .none ∧ minp ≤ a.run ∧ b.drv = .none ∧ b.gap = rev) ∨ (a.drv = .none ∧ a.gap = 0)

/-- What the second part of a tick does: it leaves the position and the stroke, and decides on the pulse. -/
structure FloatDecided (s u : State) (n : Nat) : Prop where
  pos : u.actPos n = s.actPos n
  full : u.actFull n = s.actFull n
  drive : DriveDecided (s.floatMinp n) (s.floatRev n) (s.act1 n) (u.act1 n)

theorem floatDecide_decided : FloatDecided s (s.floatDecide n) n := by
  rcases floatDecide_cases (s := s) (n := n) with hsame | ⟨resync, hpulse, hlong, hstop⟩ | ⟨d, hidle, hgap, hstart⟩
  · rw [hsame]
    exact ⟨rfl, rfl, .inl ⟨rfl, rfl⟩⟩
  · have hact : (s.floatDecide n).act1 n = { s.act1 n with drv := .none, gap := s.floatRev n } := by
      rw [hstop, act1_congr (act_actEnd n resync), act1_floatStop]
    have hfull : (s.floatDecide n).actFull n = s.actFull n := actFull_congr (by
      rw [hstop, reg_actEnd n resync (by simp only [Reg.actnP1]; omega) (by simp only [Reg.actnP1, Reg.actEndf]; omega),
        reg_floatStop (by simp only [Reg.actnP1, Reg.actnStrokes]; omega)])
    exact ⟨actPos_eq (p := (s.act1 n).pos) (by rw [hact]) hfull, hfull, .inr (.inl ⟨hpulse, hlong, by rw [hact], by rw [hact]⟩)⟩
  · have hact : (s.floatDecide n).act1 n = { s.act1 n with drv := d, run := 0, ovr := 0 } := by rw [hstart, act1_setAct_same]
    have hfull : (s.floatDecide n).actFull n = s.actFull n := by rw [hstart]; rfl
    exact ⟨actPos_eq (p := (s.act1 n).pos) (by rw [hact]) hfull, hfull, .inr (.inr ⟨hidle, hgap⟩)⟩

/-! ### The statement -/

/-- Settles O23: the model moves by one tick and leaves the drive, and of the drive R204 decides by the gap and the run that are then
left. -/
theorem floatPulsesNeverReverse : Obligations.FloatPulsesNeverReverse := by
  intro s n _ hpos t a b
  obtain ⟨hregs, hdrv, hrun, hgap, hmoved⟩ := floatAdvance_advanced (s := s) (n := n)
  obtain ⟨hposKept, hfullKept, hdrive⟩ := floatDecide_decided (s := s.floatAdvance n) (n := n)
  have hreg := State.reg_congr hregs
  have hminp : (s.floatAdvance n).floatMinp n = s.floatMinp n := by rw [State.floatMinp, State.floatMinp, State.rf, State.rf, hreg]
  have hrev : (s.floatAdvance n).floatRev n = s.floatRev n := by rw [State.floatRev, State.floatRev, State.rf, State.rf, hreg]
  have hfull : t.actFull n = s.actFull n := hfullKept.trans (actFull_congr (hreg _))
  have htick : WithinTick (s.actPos n) (s.actFull n) (t.actPos n) := (congrArg _ hposKept).mpr (hmoved hpos)
  rw [hminp, hrev] at hdrive
  rw [hfull]
  rw [DriveDecided, hdrv] at hdrive
  rcases hdrive with ⟨hsame, hgapKept⟩ | ⟨hpulse, hlong, hstopped, hrested⟩ | ⟨hidle, hnogap⟩
  · exact ⟨fun h => .inl (hsame.trans h), fun h => .inl (hsame.trans h), fun h hne => absurd (hsame.trans h) hne,
      fun h _ => hgapKept.trans (hgap h), fun hne h => absurd (hsame.symm.trans h) hne, htick⟩
  · exact ⟨fun _ => .inr hstopped, fun _ => .inr hstopped, fun h => absurd h hpulse, fun h => absurd h hpulse,
      fun _ _ => ⟨hrested, hlong.trans hrun⟩, htick⟩
  · have hlast : (s.act1 n).gap ≤ 1 := by
      have hleft := hgap hidle
      omega
    exact ⟨fun h => absurd (hidle.symm.trans h) nofun, fun h => absurd (hidle.symm.trans h) nofun, fun _ _ => hlast,
      fun _ hmore => absurd hmore (Nat.not_lt.mpr hlast), fun hne => absurd hidle hne, htick⟩

end

end Sys2Proof.Machine
end

section
/-! PROOFS. Writes of the registers of ACT, and what the host's ownership refuses (R198, R200, R213, R217, R218). -/

namespace Sys2Proof.Machine

variable {s u : State}

/-- Every variant carries ACT (R4). -/
theorem present_act : s.present 9 = true := by
  unfold State.present
  cases s.variant <;> decide

/-! ### ACT_RUN and ACT_RELEASE (R200, R213, R217) -/

theorem actMask_eq : s.actMask = if s.variant = .wv7232 then 0xFFFF else 0xFFFFFFFF := by
  unfold State.actMask State.present
  cases s.variant <;> rfl

theorem exec_actRunWrite {who : Init} (v : Word) (hmay : mayWrite who 9 s) :
    exec (.actRunWrite who v) s = (s.setReg Reg.actRun (v &&& s.actMask)).done :=
  congrArg State.done (State.guardWrite_eq present_act hmay)

theorem answers_actRunWrite {who : Init} (v : Word) (hmay : mayWrite who 9 s) :
    ∃ t, exec (.actRunWrite who v) s = .next t ∧ t = { s with regs := t.regs, cen := cenNoted s t } ∧
      t.reg Reg.actRun = (if s.variant = .wv7232 then v &&& 0xFFFF else v) ∧ regsKept s t [Reg.actRun] ∧ eventsFired s t [] := by
  obtain ⟨t, hnext, hframe, hval, hkept, hfired⟩ := answers_setReg (actReg_notMem_latch (by decide)) (exec_actRunWrite v hmay)
  have hall : v &&& 0xFFFFFFFF = v := BitVec.and_allOnes
  refine ⟨t, hnext, hframe, ?_, hkept, hfired⟩
  rw [hval, actMask_eq, apply_ite (v &&& ·), hall]

theorem exec_actRelease {who : Init} (v : Word) (hmay : mayWrite who 9 s) :
    exec (.actRelease who v) s = (s.actReleaseWrite v).done :=
  congrArg State.done (State.guardWrite_eq present_act hmay)

/-- A release of one channel: it is taken where a hold time made the channel safe. -/
def State.actReleased (s : State) (n : Nat) : State :=
  if (s.act1 n).latched then s.setAct n { s.act1 n with released := true } else s

theorem actReleaseWrite_eq (v : Word) :
    s.actReleaseWrite v = s.forEach ((List.range s.nActs).filter (fun n => bitOf v n)) State.actReleased := rfl

/-- The channel after its release. -/
def ActCh.freed (a : ActCh) : ActCh := if a.latched then { a with released := true } else a

theorem freed_freed (a : ActCh) : a.freed.freed = a.freed := by
  unfold ActCh.freed
  cases hlatched : a.latched <;> simp [hlatched]

theorem act1_actReleased (n m : Nat) : (s.actReleased n).act1 m = if m = n then (s.act1 n).freed else s.act1 m := by
  unfold State.actReleased ActCh.freed
  rcases eq_or_ne m n with rfl | hne
  · rw [if_pos rfl]
    split
    · exact act1_setAct_same m _
    · rfl
  · rw [if_neg hne]
    split
    · exact act1_setAct_ne _ hne
    · rfl

/-- A release marks the channels it names, and is the same however often it names one. -/
theorem act1_forEach_actReleased (l : List Nat) (m : Nat) :
    (s.forEach l State.actReleased).act1 m = if m ∈ l then (s.act1 m).freed else s.act1 m := by
  induction l generalizing s with
  | nil => simp [State.forEach]
  | cons n l ih =>
    show ((s.actReleased n).forEach l State.actReleased).act1 m = _
    rw [ih, act1_actReleased]
    by_cases hn : m = n
    · subst hn
      simp [freed_freed]
    · simp [hn]

theorem actReleased_eq (n : Nat) : s.actReleased n = { s with act := { s.act with chans := (s.actReleased n).act.chans } } := by
  unfold State.actReleased
  split <;> rfl

theorem forEach_actReleased_eq (l : List Nat) :
    s.forEach l State.actReleased = { s with act := { s.act with chans := (s.forEach l State.actReleased).act.chans } } := by
  induction l generalizing s with
  | nil => rfl
  | cons n l ih =>
    show (s.actReleased n).forEach l State.actReleased =
      { s with act := { s.act with chans := ((s.actReleased n).forEach l State.actReleased).act.chans } }
    have hrest := ih (s := s.actReleased n)
    generalize (s.actReleased n).forEach l State.actReleased = w at hrest ⊢
    rw [hrest, actReleased_eq]

/-- The end of a command over a state that differs from s in channels of ACT. -/
theorem State.settle_eq_of_chans (hu : u = { s with act := { s.act with chans := u.act.chans } }) :
    u.settle = { s with regs := u.settle.regs, act := { s.act with chans := u.settle.act.chans }, cen := cenNoted s u.settle } := by
  have hsettle := State.settle_eq u
  generalize u.settle = t at hsettle ⊢
  rw [hsettle, hu]
  rfl

theorem answers_actRelease {who : Init} (v : Word) (hmay : mayWrite who 9 s) :
    ∃ t, exec (.actRelease who v) s = .next t ∧ t = { s with regs := t.regs, act := { s.act with chans := t.act.chans }, cen := cenNoted s t } ∧
      (∀ n, n < s.nActs → t.act1 n =
        (if bitOf v n = true ∧ (s.act1 n).latched = true then { s.act1 n with released := true } else s.act1 n)) ∧
      regsKept s t [] ∧ eventsFired s t [] := by
  have hframe : s.actReleaseWrite v = { s with act := { s.act with chans := (s.actReleaseWrite v).act.chans } } := forEach_actReleased_eq _
  have hregs : (s.actReleaseWrite v).regs = s.regs := by rw [hframe]
  refine ⟨_, exec_actRelease v hmay, State.settle_eq_of_chans hframe, fun n hn => ?_, regsKept_refl [] hregs,
    eventsFired_nil (by rw [hframe]) fun a _ => State.reg_congr hregs a⟩
  rw [act1_congr (State.settle_act _), actReleaseWrite_eq, act1_forEach_actReleased, ActCh.freed, ite_and]
  simp [hn]

/-! ### The block of a channel (R218) -/

/-- The right of ACT and a channel the variant has: the write is made. -/
theorem exec_actConfigWrite {who : Init} {n : Nat} (off : Nat) (v : Word) (hn : n < s.nActs) (hmay : mayWrite who 9 s) :
    exec (.actConfigWrite who n off v) s = (s.actWrite n (4 * (off / 4 % 16)) v).done := by
  have hmod : n % 32 = n := Nat.mod_eq_of_lt (hn.trans_le (nActs_le s))
  show execActConfigWrite who n off v s = _
  rw [execActConfigWrite, hmod, if_neg (by omega), State.guardWrite_eq present_act hmay]

/-- From s to u only registers that are no event latch have changed, and ACT. -/
structure ActFrame (s u : State) : Prop where
  eq : u = { s with regs := u.regs, act := u.act }
  latch : ∀ a ∈ latchRegs, u.reg a = s.reg a

theorem ActFrame.refl (s : State) : ActFrame s s := ⟨rfl, fun _ _ => rfl⟩

theorem ActFrame.setReg (h : ActFrame s u) {a : Nat} (v : Word) (ha : 0x60090000 ≤ a) : ActFrame s (u.setReg a v) := by
  obtain ⟨heq, hlatch⟩ := h
  refine ⟨?_, fun b hb => ?_⟩
  · rw [heq]
    rfl
  · have hne : b ≠ a := fun e => actReg_notMem_latch ha (e ▸ hb)
    rw [State.reg_setReg_ne _ _ _ _ hne, hlatch b hb]

theorem ActFrame.setAct (h : ActFrame s u) (n : Nat) (v : ActCh) : ActFrame s (u.setAct n v) := by
  obtain ⟨heq, hlatch⟩ := h
  refine ⟨?_, hlatch⟩
  rw [heq]
  rfl

theorem ActFrame.ite {c : Prop} [Decidable c] {v w : State} (hv : ActFrame s v) (hw : ActFrame s w) : ActFrame s (if c then v else w) := by
  split
  · exact hv
  · exact hw

theorem ActFrame.actIgnored (h : ActFrame s u) : ActFrame s u.actIgnored := h.setReg _ (by decide)

/-- Whatever a block register takes, refuses or hands to the channel, the write stays within ACT. -/
theorem actWrite_frame (n off : Nat) (v : Word) : ActFrame s (s.actWrite n off v) := by
  have hs := ActFrame.refl s
  have hreg : ∀ (a : Nat) (x : Word), Reg.actnCfg n ≤ a → ActFrame s (s.setReg a x) := fun a x ha =>
    hs.setReg x (by simp only [Reg.actnCfg] at ha; omega)
  unfold State.actWrite
  dsimp only
  split
  · exact .ite (hreg _ _ (by simp only [Reg.actnCfg]; omega)).actIgnored (hreg _ _ (by simp only [Reg.actnCfg]; omega))
  · exact (hreg _ _ (by simp only [Reg.actnCfg, Reg.actnCmd]; omega)).setAct _ _
  · exact .ite hs.actIgnored (hreg _ _ (by simp only [Reg.actnCfg, Reg.actnP1]; omega))
  · exact .ite hs.actIgnored (hreg _ _ (by simp only [Reg.actnCfg, Reg.actnP2]; omega))
  · exact .ite hs.actIgnored (hreg _ _ (by simp only [Reg.actnCfg, Reg.actnP3]; omega))
  · exact hreg _ _ (by simp only [Reg.actnCfg, Reg.actnSafecfg]; omega)
  · exact hreg _ _ (by simp only [Reg.actnCfg, Reg.actnSafeval]; omega)
  · exact hreg _ _ (by simp only [Reg.actnCfg, Reg.actnFb]; omega)
  · exact .ite (.ite hs.actIgnored hs) (.ite (hs.setAct _ _) hs)
  · exact hreg _ _ (by simp only [Reg.actnCfg, Reg.actnChstat]; omega)
  · exact hs

/-- The end of a command over a state that differs from s within ACT. -/
theorem ActFrame.settle_eq (h : ActFrame s u) :
    u.settle = { s with regs := u.settle.regs, act := u.settle.act, cen := cenNoted s u.settle } := by
  obtain ⟨heq, -⟩ := h
  have hsettle := State.settle_eq u
  generalize u.settle = t at hsettle ⊢
  rw [hsettle, heq]
  rfl

theorem ActFrame.eventsFired (h : ActFrame s u) : eventsFired s u.settle [] := by
  obtain ⟨heq, hlatch⟩ := h
  exact eventsFired_nil (by rw [heq]) hlatch

/-- What a write of one register leaves at the end of the command. -/
theorem settle_setReg {a : Nat} {x : Word} (hu : u = s.setReg a x) (ha : 0x60090000 ≤ a) :
    u.settle.reg a = x ∧ u.settle.act = s.act ∧ regsKept s u.settle [a] := by
  subst hu
  refine ⟨?_, State.settle_act _, regsKept_settle fun b hb _ => State.reg_setReg_ne _ _ _ _ (by simpa using hb)⟩
  rw [State.reg_settle _ _ (actReg_notMem_latch ha), State.reg_setReg_same]

/-- ACT_STAT.IGNORED after a refused change. -/
theorem settle_actIgnored (hu : u = s.actIgnored) :
    u.settle.rb Reg.actStat 1 = true ∧ u.settle.act = s.act ∧ regsKept s u.settle [Reg.actStat] := by
  obtain ⟨hval, hact, hkept⟩ := settle_setReg (hu.trans rfl) (a := Reg.actStat) (by decide)
  refine ⟨?_, hact, hkept⟩
  rw [State.rb, hval]
  exact bitOf_putBit _ 1 true (by decide)

/-! ### What a block register takes, and what R218 refuses -/

section
variable {n : Nat} {v : Word}

/-- Offsets of the block registers that take a plain write, each with the bits it has. -/
def actPlain : List (Nat × Nat) :=
  [(0x00, 0x7F), (0x08, 0x1FFFFF), (0x0C, 0x7FFFFFFF), (0x10, 0x3FF), (0x14, 0xFFFF0003), (0x18, 0xFFFFFFFF), (0x1C, 0xFFFF01FF)]

/-- The registers of a block by their offsets (06_actuators, Registers). -/
theorem actBlock_offsets (n : Nat) :
    Reg.actnP1 n = Reg.actnCfg n + 0x08 ∧ Reg.actnP2 n = Reg.actnCfg n + 0x0C ∧ Reg.actnP3 n = Reg.actnCfg n + 0x10 ∧
      Reg.actnSafecfg n = Reg.actnCfg n + 0x14 ∧ Reg.actnSafeval n = Reg.actnCfg n + 0x18 ∧ Reg.actnFb n = Reg.actnCfg n + 0x1C := by
  simp only [Reg.actnCfg, Reg.actnP1, Reg.actnP2, Reg.actnP3, Reg.actnSafecfg, Reg.actnSafeval, Reg.actnFb]
  omega

theorem actWrite_plain : ∀ p ∈ actPlain, (s.actRuns n && s.hostOwns 9) = false ∨ 0x14 ≤ p.1 →
    s.actWrite n p.1 v = s.setReg (Reg.actnCfg n + p.1) (v &&& BitVec.ofNat 32 p.2) := by
  obtain ⟨hp1, hp2, hp3, hsafecfg, hsafeval, hfb⟩ := actBlock_offsets n
  have hall : v &&& BitVec.ofNat 32 0xFFFFFFFF = v := BitVec.and_allOnes
  simp only [actPlain, List.forall_mem_cons, List.not_mem_nil, false_implies, implies_true, and_true]
  have hfree : ∀ {off : Nat}, (s.actRuns n && s.hostOwns 9) = false ∨ 0x14 ≤ off → off < 0x14 → (s.actRuns n && s.hostOwns 9) = false :=
    fun h hoff => h.resolve_right (Nat.not_le.mpr hoff)
  refine ⟨fun h => ?_, fun h => ?_, fun h => ?_, fun h => ?_, fun _ => ?_, fun _ => ?_, fun _ => ?_⟩
  · simp [State.actWrite, hfree h (by decide)]
  · simp [State.actWrite, hfree h (by decide), hp1]
  · simp [State.actWrite, hfree h (by decide), hp2]
  · simp [State.actWrite, hfree h (by decide), hp3]
  · rw [← hsafecfg]
    rfl
  · rw [← hsafeval, hall]
    rfl
  · rw [← hfb]
    rfl

theorem actWrite_refused {off : Nat} (hruns : s.actRuns n = true) (hown : s.hostOwns 9 = true) (hoff : off ∈ [0x08, 0x0C, 0x10, 0x20]) :
    s.actWrite n off v = s.actIgnored := by
  simp only [List.mem_cons, List.not_mem_nil, or_false] at hoff
  rcases hoff with rfl | rfl | rfl | rfl <;> simp [State.actWrite, hruns, hown]

theorem actWrite_otherMode (hruns : s.actRuns n = true) (hown : s.hostOwns 9 = true) (hmode : fld v 0 3 ≠ s.rf (Reg.actnCfg n) 0 3) :
    s.actWrite n 0 v = (s.setReg (Reg.actnCfg n) (putFld (v &&& 0x7F) 0 3 (s.rf (Reg.actnCfg n) 0 3))).actIgnored := by
  simp [State.actWrite, hruns, hown, hmode]

/-- A write of another MODE keeps MODE, takes the other fields, and is marked (R218). -/
theorem settle_otherMode (hu : u = (s.setReg (Reg.actnCfg n) (putFld (v &&& 0x7F) 0 3 (s.rf (Reg.actnCfg n) 0 3))).actIgnored) :
    u.settle.rb Reg.actStat 1 = true ∧ u.settle.rf (Reg.actnCfg n) 0 3 = s.rf (Reg.actnCfg n) 0 3 ∧
      u.settle.rf (Reg.actnCfg n) 3 4 = fld v 3 4 ∧ regsKept s u.settle [Reg.actStat, Reg.actnCfg n] := by
  have hcfg : 0x60090000 ≤ Reg.actnCfg n ∧ Reg.actnCfg n ≠ Reg.actStat := by
    simp only [Reg.actnCfg, Reg.actStat]
    omega
  obtain ⟨hlow, hne⟩ := hcfg
  obtain ⟨hflag, -, hkept⟩ := settle_actIgnored hu
  have hlatch := actReg_notMem_latch hlow
  have hval : u.settle.reg (Reg.actnCfg n) = putFld (v &&& 0x7F) 0 3 (s.rf (Reg.actnCfg n) 0 3) :=
    (hkept _ (by simpa using hne) hlatch).trans (State.reg_setReg_same _ _ _)
  refine ⟨hflag, ?_, ?_, fun a ha hnl => ?_⟩
  · rw [State.rf, hval, fld_putFld _ _ _ _ (by decide)]
    exact Nat.mod_eq_of_lt (Nat.mod_lt _ (by decide))
  · rw [State.rf, hval, fld_putFld_apart _ _ _ _ _ _ (by decide) (by decide)]
    exact fld_and (by decide)
  · obtain ⟨hstat, hother⟩ : a ≠ Reg.actStat ∧ a ≠ Reg.actnCfg n := by simpa using ha
    exact (hkept a (by simpa using hstat) hnl).trans (State.reg_setReg_ne _ _ _ _ hother)

/-- A command is taken by its register, and marked as written since the last base tick (R198). -/
theorem settle_actCommand (hu : u = s.actCommand n v) :
    u.settle.reg (Reg.actnCmd n) = v ∧ (u.settle.act1 n).fresh = true ∧ regsKept s u.settle [Reg.actnCmd n] := by
  have hreg : ∀ a, u.reg a = (s.setReg (Reg.actnCmd n) v).reg a := fun a => by rw [hu]; rfl
  refine ⟨?_, ?_, regsKept_settle fun a ha _ => (hreg a).trans (State.reg_setReg_ne _ _ _ _ (by simpa using ha))⟩
  · rw [State.reg_settle _ _ (actReg_notMem_latch (by simp only [Reg.actnCmd]; omega)), hreg, State.reg_setReg_same]
  · rw [act1_congr (State.settle_act u), hu, State.actCommand, act1_setAct_same]

end

/-- A write of a block register, by what R218 has it come to. -/
theorem answers_actConfigWrite {who : Init} {n : Nat} (off : Nat) (v : Word) (hn : n < s.nActs) (hmay : mayWrite who 9 s) :
    ∃ t, exec (.actConfigWrite who n off v) s = .next t ∧ t = { s with regs := t.regs, act := t.act, cen := cenNoted s t } ∧ eventsFired s t [] ∧
      (∀ p ∈ actPlain, off = p.1 → (s.actRuns n = false ∨ s.hostOwns 9 = false ∨ 0x14 ≤ off) →
        t.reg (Reg.actnCfg n + off) = v &&& BitVec.ofNat 32 p.2 ∧ t.act = s.act ∧ regsKept s t [Reg.actnCfg n + off]) ∧
      (s.actRuns n = true → s.hostOwns 9 = true → off ∈ [0x08, 0x0C, 0x10, 0x20] →
        t.rb Reg.actStat 1 = true ∧ t.act = s.act ∧ regsKept s t [Reg.actStat]) ∧
      (s.actRuns n = true → s.hostOwns 9 = true → off = 0 → fld v 0 3 ≠ s.rf (Reg.actnCfg n) 0 3 →
        t.rb Reg.actStat 1 = true ∧ t.rf (Reg.actnCfg n) 0 3 = s.rf (Reg.actnCfg n) 0 3 ∧ t.rf (Reg.actnCfg n) 3 4 = fld v 3 4 ∧
        regsKept s t [Reg.actStat, Reg.actnCfg n]) ∧
      (off = 4 → t.reg (Reg.actnCmd n) = v ∧ (t.act1 n).fresh = true ∧ regsKept s t [Reg.actnCmd n]) := by
  have hframe := actWrite_frame (s := s) n (4 * (off / 4 % 16)) v
  refine ⟨_, exec_actConfigWrite off v hn hmay, hframe.settle_eq, hframe.eventsFired, fun p hp hoff hfree => ?_,
    fun hruns hown hoff => ?_, fun hruns hown hoff hmode => ?_, fun hoff => ?_⟩
  · have haligned : ∀ p ∈ actPlain, 4 * (p.1 / 4 % 16) = p.1 := by decide
    have hfree' : (s.actRuns n && s.hostOwns 9) = false ∨ 0x14 ≤ p.1 := by
      rw [Bool.and_eq_false_iff, or_assoc, ← hoff]
      exact hfree
    rw [hoff, haligned p hp]
    exact settle_setReg (actWrite_plain p hp hfree') (by simp only [Reg.actnCfg]; omega)
  · have haligned : ∀ off ∈ [0x08, 0x0C, 0x10, 0x20], 4 * (off / 4 % 16) = off := by decide
    rw [haligned off hoff]
    exact settle_actIgnored (actWrite_refused hruns hown hoff)
  · subst hoff
    exact settle_otherMode (actWrite_otherMode hruns hown hmode)
  · subst hoff
    exact settle_actCommand rfl

/-- Settles O21: ACT_RUN, ACT_RELEASE, and the registers of a channel's block, each by what its write comes to. -/
theorem actuatorRegisterWrites : Obligations.ActuatorRegisterWrites :=
  ⟨fun _ v _ hmay => answers_actRunWrite v hmay, fun _ v _ hmay => answers_actRelease v hmay,
    fun _ _ off v _ hn hmay => answers_actConfigWrite off v hn hmay⟩

end Sys2Proof.Machine
end

section
/-! PROOFS. The fans beside one another, and the entries that FAN offers to ring 20 (R252). -/

namespace Sys2Proof.Machine

variable {s u v : State}

/-! ### One fan -/

@[simp] theorem fan1_setFan_same (f : Nat) (x : FanCh) : (s.setFan f x).fan1 f = x := by
  unfold State.fan1 State.setFan recGet recPut
  exact Tab.get_put_same _ _ _ _

theorem fan1_setFan_ne {f g : Nat} (x : FanCh) (h : g ≠ f) : (s.setFan f x).fan1 g = s.fan1 g := by
  unfold State.fan1 State.setFan recGet recPut
  exact Tab.get_put_ne _ _ _ _ _ h

@[simp] theorem reg_setFan (f : Nat) (x : FanCh) (a : Nat) : (s.setFan f x).reg a = s.reg a := rfl

theorem fan1_congr (h : u.fan = s.fan) (f : Nat) : u.fan1 f = s.fan1 f := by rw [State.fan1, State.fan1, h]

/-- The drive duty of a fan goes by its own record and by what lies outside FAN's records (R231). -/
theorem fanDuty_congr {x : FanSt} {f : Nat} (h : State.fan1 { s with fan := x } f = s.fan1 f) :
    State.fanDuty { s with fan := x } f = s.fanDuty f := by
  unfold State.fanDuty State.fanWould
  rw [h]
  rfl

/-- What a fan's record becomes, taken from a state, goes by that record and by what lies outside FAN's records. -/
def OwnRecord (g : State → Nat → FanCh) : Prop :=
  ∀ (s : State) (x : FanSt) (f : Nat), State.fan1 { s with fan := x } f = s.fan1 f → g { s with fan := x } f = g s f

/-- From s to u the records of fans alone have changed. -/
structure FansRenewed (s u : State) : Prop where
  state : u = { s with fan := u.fan }
  chans : u.fan = { s.fan with chans := u.fan.chans }

/-- The records of a list of fans are renewed, each by its own, and nothing else changes. -/
theorem forEach_setFan {g : State → Nat → FanCh} (hg : OwnRecord g) {l : List Nat} (hl : l.Nodup) :
    FansRenewed s (s.forEach l fun s f => s.setFan f (g s f)) ∧
      ∀ f, (s.forEach l fun s f => s.setFan f (g s f)).fan1 f = if f ∈ l then g s f else s.fan1 f := by
  induction l generalizing s with
  | nil => exact ⟨⟨rfl, rfl⟩, fun f => rfl⟩
  | cons n l ih =>
    obtain ⟨hn, hl⟩ := List.nodup_cons.mp hl
    obtain ⟨⟨hstate, hchans⟩, hrecords⟩ := ih (s := s.setFan n (g s n)) hl
    rw [State.forEach_cons]
    refine ⟨⟨hstate, hchans⟩, fun f => (hrecords f).trans ?_⟩
    rcases eq_or_ne f n with rfl | hne
    · rw [if_neg hn, if_pos (List.mem_cons_self), fan1_setFan_same]
    · have hkept := fan1_setFan_ne (s := s) (g s n) hne
      simp only [List.mem_cons, hne, false_or, hkept]
      exact if_congr Iff.rfl (hg s _ f hkept) rfl

/-! ### Registers of FAN and of ring 20 -/

/-- Every variant carries FAN (R4). -/
theorem present_fan : s.present 10 = true := by
  unfold State.present
  cases s.variant <;> decide

theorem fanReg_notMem_latch {a : Nat} (h : 0x600A0000 ≤ a) : a ∉ latchRegs := latch_notMem_of_le (by omega)

theorem ring20_notMem_latch {a : Nat} (h : a ∈ ringRegs 20) : a ∉ latchRegs := by
  revert a
  decide

/-- The registers of FAN stand above those of the rings. -/
theorem fanReg_notMem_ring {a : Nat} (h : 0x600A0000 ≤ a) : a ∉ ringRegs 20 := by
  have hlow : ∀ b ∈ ringRegs 20, b < 0x600A0000 := by decide
  exact fun ha => absurd (hlow a ha) (by omega)

/-! ### Entries in ring 20 (R252, R459) -/

/-- A producer that cannot wait has its entry written or dropped, whatever the ring does when it is full (R459). -/
theorem ringOffer_offered_of_cannotWait {n : Nat} {e : List Byte} (hfits : s.ringFits n e.length) (hwait : ringCannotWait n = true) :
    RingOffered s (s.ringOffer n e) n e := by
  by_cases hready : s.ringOn n = true → s.rf (Reg.rngCfg n) 6 2 ≠ 2
  · exact ringOffer_offered ⟨hfits, hready⟩
  · obtain ⟨hon, hstall⟩ : s.ringOn n = true ∧ s.rf (Reg.rngCfg n) 6 2 = 2 := by simpa using hready
    have hsize := hfits hon
    by_cases hfull : s.ringFull n = true
    · have hdrop : s.ringOffer n e = s.ringDropped n := by simp [State.ringOffer, hon, hsize, hfull, hstall, hwait]
      rw [hdrop]
      exact { frame := rfl, regs := fun r hr => reg_ringDropped s hr, mem := fun _ _ => rfl,
              entry := by simp [State.ringTakes, hfull, hstall] }
    · have hpush : s.ringOffer n e = s.ringPush n e := by simp [State.ringOffer, hon, hsize, hfull]
      rw [hpush]
      exact ringPush_offered hsize (.refl s) (fun _ _ => rfl) rfl rfl

/-- From s to u entries have been offered to ring 20: its registers and its storage alone may have changed. -/
structure FanReported (s u : State) : Prop where
  frame : StoreFrame s u
  regs : ∀ r, r ∉ ringRegs 20 → u.reg r = s.reg r
  mem : memKeptOutsideRing s u 20

/-- Where a ring stands and what its entries are like goes by two registers. -/
theorem inRing_congr {n : Nat} (hbase : u.reg (Reg.rngBase n) = s.reg (Reg.rngBase n)) (hcfg : u.reg (Reg.rngCfg n) = s.reg (Reg.rngCfg n))
    (a : Nat) : u.inRing n a = s.inRing n a := by
  rw [Bool.eq_iff_iff, inRing_iff, inRing_iff]
  simp only [State.ringDepth, State.ringEsize, State.rf, hbase, hcfg]

theorem ringFits_congr {n k : Nat} (hcfg : u.reg (Reg.rngCfg n) = s.reg (Reg.rngCfg n)) (h : s.ringFits n k) : u.ringFits n k := by
  simpa only [State.ringFits, State.ringOn, State.ringEsize, State.rb, State.rf, hcfg] using h

theorem FanReported.refl (s : State) : FanReported s s := ⟨rfl, fun _ _ => rfl, fun _ _ => rfl⟩

theorem FanReported.trans (hsu : FanReported s u) (huv : FanReported u v) : FanReported s v where
  frame := hsu.frame.trans huv.frame
  regs r hr := (huv.regs r hr).trans (hsu.regs r hr)
  mem a ha := by
    have hring := inRing_congr (hsu.regs (Reg.rngBase 20) (by decide)) (hsu.regs (Reg.rngCfg 20) (by decide)) a
    exact (huv.mem a (hring.trans ha)).trans (hsu.mem a ha)

theorem FanReported.log (h : FanReported s u) : u.log = s.log := by rw [h.frame]

theorem FanReported.fits (h : FanReported s u) (hfits : s.ringFits 20 8) : u.ringFits 20 8 :=
  ringFits_congr (h.regs _ (by decide)) hfits

theorem fanEntry_reported (hfits : s.ringFits 20 8) (b0 kind cause n : Nat) : FanReported s (s.fanEntry b0 kind cause n) := by
  have hlen : (entry8 b0 kind cause n s.stamp).length = 8 := by simp [entry8]
  obtain ⟨hframe, hregs, hmem, -⟩ := ringOffer_offered_of_cannotWait (e := entry8 b0 kind cause n s.stamp) (hlen ▸ hfits) (by decide)
  exact ⟨hframe, hregs, hmem⟩

/-- An entry for each fan of a list. -/
theorem forEach_fanEntry_reported (hfits : s.ringFits 20 8) (kind : Nat) (l : List Nat) :
    FanReported s (s.forEach l (fun s f => s.fanEntry f kind 0 (s.fan1 f).retry)) := by
  induction l generalizing s with
  | nil => exact .refl s
  | cons f l ih =>
    have hfirst := fanEntry_reported hfits f kind 0 (s.fan1 f).retry
    exact hfirst.trans (ih (hfirst.fits hfits))

end Sys2Proof.Machine
end

section
/-! PROOFS. A fan's switching period, its stretch windows and its tach edges (R222-R224, R231, R232). -/

namespace Sys2Proof.Machine

variable {s u v : State} {c : Instr} {f : Nat} {x : FanCh}

/-! ### Commands that change one fan -/

/-- From s to u registers and the record of fan f have changed, which is now x. -/
structure OneFan (s u : State) (f : Nat) (x : FanCh) : Prop where
  frame : RegFrame s { s with fan := { s.fan with chans := u.fan.chans } } u
  own : u.fan1 f = x
  others : ∀ g, g ≠ f → u.fan1 g = s.fan1 g

theorem OneFan.refl (s : State) (f : Nat) : OneFan s s f (s.fan1 f) := ⟨rfl, rfl, fun _ _ => rfl⟩

theorem OneFan.setFan (h : OneFan s u f x) (y : FanCh) : OneFan s (u.setFan f y) f y where
  frame := by
    obtain ⟨hframe, -, -⟩ := h
    unfold RegFrame at *
    rw [hframe]
    rfl
  own := fan1_setFan_same f y
  others g hg := (fan1_setFan_ne y hg).trans (h.others g hg)

theorem OneFan.setReg (h : OneFan s u f x) (a : Nat) (y : Word) : OneFan s (u.setReg a y) f x :=
  ⟨h.frame.setReg a y, h.own, h.others⟩

/-- What leaves FAN as it stands, but changes registers and the notes of CEN. -/
theorem OneFan.of_regFrame (h : OneFan s u f x) (hfan : v.fan = u.fan)
    (hframe : RegFrame s { s with fan := { s.fan with chans := u.fan.chans } } v) : OneFan s v f x where
  frame := by rw [hfan]; exact hframe
  own := (fan1_congr hfan f).trans h.own
  others g hg := (fan1_congr hfan g).trans (h.others g hg)

theorem OneFan.fire (h : OneFan s u f x) (n : Nat) : OneFan s (u.fire n) f x := h.of_regFrame (State.fire_fan _ n) (h.frame.fire n)

theorem OneFan.settle (h : OneFan s u f x) : OneFan s u.settle f x := h.of_regFrame (State.settle_fan u) h.frame.settle

/-- A command that changes one fan and registers of a list, none of them a latch. -/
theorem answers_oneFan {l : List Nat} (hexec : exec c s = u.done) (h : OneFan s u f x) (hregs : ∀ a, a ∉ l → u.reg a = s.reg a)
    (hl : ∀ a ∈ l, a ∉ latchRegs) :
    ∃ t, exec c s = .next t ∧ t = { s with regs := t.regs, fan := { s.fan with chans := t.fan.chans }, cen := cenNoted s t } ∧
      t.fan1 f = x ∧ (∀ g, g ≠ f → t.fan1 g = s.fan1 g) ∧ regsKept s t l ∧ eventsFired s t [] ∧
      ∀ a, a ∉ latchRegs → t.reg a = u.reg a := by
  obtain ⟨hframe, hown, hothers⟩ := h.settle
  exact ⟨_, hexec, hframe, hown, hothers, regsKept_settle fun a ha _ => hregs a ha,
    eventsFired_nil (by rw [h.frame]) fun a ha => hregs a fun hin => hl a hin ha, fun a ha => State.reg_settle u a ha⟩

/-! ### The switching period (R222) -/

/-- A fan's record with a switching period of p cycles and drive duty d begun (R222). -/
def FanCh.driven (a : FanCh) (d p : Nat) : FanCh := { a with pinDuty := d, pinHigh := (d * p + 127) / 255, pinPeriod := p }

theorem fanDrive_eq (f d : Nat) : s.fanDrive f d = s.setFan f ((s.fan1 f).driven d (s.fanPeriod f)) := rfl

@[simp] theorem reg_fanPeriodNew (f a : Nat) : (s.fanPeriodNew f).reg a = s.reg a := rfl

theorem OneFan.fanPeriodNew (h : OneFan s u f x) : OneFan s (u.fanPeriodNew f) f (x.driven (u.fanDuty f) (u.fanPeriod f)) := by
  rw [State.fanPeriodNew, fanDrive_eq, h.own]
  exact h.setFan _

theorem exec_fanPeriod (hf : f < s.nFans) (hstep : 8 ≤ s.shakeStep) (hawake : s.awake = true) (hclosed : (s.fan1 f).window = none) :
    exec (.fanPeriod f) s = (s.fanPeriodNew f).done := by
  show execFanPeriod f s = _
  simp [execFanPeriod, hf, hstep, hawake, hclosed]

/-! ### Stretch windows open (R223) -/

/-- The speed that a window of fan f waits for, times its pulses per revolution (R223). -/
def State.fanWindowRate (s : State) (f : Nat) : Nat := max (s.rf (Reg.fanfMeas f) 16 16) (s.rf (Reg.fanfRpm f) 0 16) * s.fanPpr f

/-- The width of a window for a rate: 8 ticks and two periods of the tach, at most 240 (R223). -/
def windowWidth (rate : Nat) : Nat := if rate = 0 then 240 else min 240 (8 + (480000 + rate - 1) / rate)

/-- The quotient in the width is rounded up. -/
theorem windowWidth_bounds (rate : Nat) :
    windowWidth rate ≤ 240 ∧ (windowWidth rate = 240 ∨ 480000 ≤ (windowWidth rate - 8) * rate) ∧
      (windowWidth rate - 9) * rate < 480000 := by
  unfold windowWidth
  split
  next hrate => simp [hrate]
  next hrate =>
    have hpos : 0 < rate := Nat.pos_of_ne_zero hrate
    have hdiv := Nat.div_add_mod (480000 + rate - 1) rate
    have hmod := Nat.mod_lt (480000 + rate - 1) hpos
    rw [Nat.mul_comm] at hdiv
    generalize (480000 + rate - 1) / rate = k at hdiv ⊢
    have hlow : (k - 1) * rate < 480000 := by
      rw [Nat.sub_mul]
      omega
    refine ⟨min_le_left _ _, ?_, ?_⟩
    · rcases Nat.le_total 240 (8 + k) with hwide | hnarrow
      · exact .inl (min_eq_left hwide)
      · rw [min_eq_right hnarrow, Nat.add_sub_cancel_left]
        right
        omega
    · exact (Nat.mul_le_mul_right rate (show min 240 (8 + k) - 9 ≤ k - 1 by omega)).trans_lt hlow

/-- Fan f with a window just opened. -/
def State.windowBegun (s : State) (f : Nat) : FanCh :=
  { s.fan1 f with window := some s.now, width := windowWidth (s.fanWindowRate f), edges := 0, winDuty := s.fanDutyApart f }

theorem exec_stretchWindowOpen (hf : f < s.nFans) (hawake : s.awake = true) (hstate : (s.fan1 f).state ∈ [2, 5, 6])
    (htach : s.fanTach f = true) (hruns : s.tb.running = true)
    (hdue : (s.tb.count + 1000 * max 1 (s.rf (Reg.fanfMeas f) 0 8) * 16 - 16 * f) % (1000 * max 1 (s.rf (Reg.fanfMeas f) 0 8)) = 0)
    (hclosed : (s.fan1 f).window = none) :
    exec (.stretchWindowOpen f) s = ((s.setFan f (s.windowBegun f)).fanDrive f 255).done := by
  have hstates : ((s.fan1 f).state = 2 ∨ (s.fan1 f).state = 5) ∨ (s.fan1 f).state = 6 := by simpa [or_assoc] using hstate
  show execStretchWindowOpen f s = _
  unfold execStretchWindowOpen
  dsimp only
  rw [if_pos (by simp [hf, hawake, hstates, htach, hruns, hdue, hclosed])]
  rfl

theorem answers_stretchWindowOpen (hf : f < s.nFans) (hawake : s.awake = true) (hstate : (s.fan1 f).state ∈ [2, 5, 6])
    (htach : s.fanTach f = true) (hruns : s.tb.running = true)
    (hdue : (s.tb.count + 1000 * max 1 (s.rf (Reg.fanfMeas f) 0 8) * 16 - 16 * f) % (1000 * max 1 (s.rf (Reg.fanfMeas f) 0 8)) = 0)
    (hclosed : (s.fan1 f).window = none) :
    ∃ t, exec (.stretchWindowOpen f) s = .next t ∧
      t = { s with regs := t.regs, fan := { s.fan with chans := t.fan.chans }, cen := cenNoted s t } ∧
      (t.fan1 f).window = some s.now ∧ (t.fan1 f).edges = 0 ∧ (t.fan1 f).pinDuty = 255 ∧ (t.fan1 f).pinHigh = (t.fan1 f).pinPeriod ∧
      (t.fan1 f).winDuty = s.fanDutyApart f ∧ (t.fan1 f).state = (s.fan1 f).state ∧
      (let rate := max (s.rf (Reg.fanfMeas f) 16 16) (s.rf (Reg.fanfRpm f) 0 16) * s.fanPpr f
       (t.fan1 f).width ≤ 240 ∧ ((t.fan1 f).width = 240 ∨ 480000 ≤ ((t.fan1 f).width - 8) * rate) ∧ ((t.fan1 f).width - 9) * rate < 480000) ∧
      (∀ g, g ≠ f → t.fan1 g = s.fan1 g) ∧ regsKept s t [] ∧ eventsFired s t [] := by
  have hopened : OneFan s ((s.setFan f (s.windowBegun f)).fanDrive f 255) f ((s.windowBegun f).driven 255 (s.fanPeriod f)) := by
    rw [fanDrive_eq, fan1_setFan_same]
    exact ((OneFan.refl s f).setFan _).setFan _
  obtain ⟨t, hnext, hframe, hown, hothers, hkept, hfired, -⟩ := answers_oneFan (l := [])
    (exec_stretchWindowOpen hf hawake hstate htach hruns hdue hclosed) hopened (fun _ _ => rfl) (by simp)
  refine ⟨t, hnext, hframe, ?_⟩
  rw [hown]
  have hhigh : (255 * s.fanPeriod f + 127) / 255 = s.fanPeriod f := by omega
  exact ⟨rfl, rfl, rfl, hhigh, rfl, rfl, windowWidth_bounds _, hothers, hkept, hfired⟩

/-! ### Tach edges (R224, R229) -/

theorem exec_tachEdge {cycle : Nat} (hf : f < s.nFans) (hawake : s.awake = true)
    (hlater : (s.fan1 f).edges = 0 ∨ (s.fan1 f).lastEdge < 4096 * s.now + cycle) (hopen : (s.fan1 f).window.isSome = true)
    (hroom : (s.fan1 f).edges < 3) :
    exec (.tachEdge f cycle) s =
      (s.setFan f { s.fan1 f with edges := (s.fan1 f).edges + 1, lastEdge := 4096 * s.now + cycle,
                                  firstEdge := if (s.fan1 f).edges = 0 then 4096 * s.now + cycle else (s.fan1 f).firstEdge }).done := by
  show execTachEdge f cycle s = _
  unfold execTachEdge State.nowCycle
  dsimp only
  rw [if_pos (by simp [hf, hawake, hlater]), if_pos (by simp [hopen, hroom])]

theorem exec_tachEdge_unheard (cycle : Nat) (hclosed : (s.fan1 f).window = none) (hstate : (s.fan1 f).state ≠ 1) :
    exec (.tachEdge f cycle) s = s.done := by
  show execTachEdge f cycle s = _
  simp [execTachEdge, hclosed, hstate]

end Sys2Proof.Machine
end

section
/-! PROOFS. A fan's stretch window closes: with a speed, or silent (R223, R224, R231, R232). -/

namespace Sys2Proof.Machine

variable {s u v : State} {f : Nat}

/-! ### What a valid window may touch -/

/-- From s to u registers, memory, the records of the fans, and what ZON keeps of the writes of virtual PVs have changed. -/
def WindowFrame (s u : State) : Prop :=
  u = { s with regs := u.regs, mem := u.mem, fan := { s.fan with chans := u.fan.chans },
               zon := { s.zon with vpvAt := u.zon.vpvAt, vpvOut := u.zon.vpvOut }, cen := cenNoted s u }

theorem WindowFrame.trans (hsu : WindowFrame s u) (huv : WindowFrame u v) : WindowFrame s v := by
  unfold WindowFrame at *
  rw [huv, hsu]
  rfl

theorem StoreFrame.windowFrame (h : StoreFrame s u) : WindowFrame s u := by
  unfold StoreFrame at h
  unfold WindowFrame
  rw [h]
  rfl

theorem OneFan.windowFrame {x : FanCh} (h : OneFan s u f x) : WindowFrame s u := by
  obtain ⟨hframe, -, -⟩ := h
  unfold RegFrame at hframe
  unfold WindowFrame
  rw [hframe]
  rfl

/-! ### The window's speed (R224) -/

/-- The speed of a valid window (R224). -/
def State.fanSpeed (s : State) (f : Nat) : Nat :=
  min 65535 (983040000 * ((s.fan1 f).edges - 1) / (s.fanPpr f * ((s.fan1 f).lastEdge - (s.fan1 f).firstEdge)))

/-- The record of a fan whose window was valid (R223, R227, R232). -/
def FanCh.heard (a : FanCh) : FanCh := { a with window := none, edges := 0, restarted := false, lastDuty := a.winDuty }

/-- A valid window closed: x in FANf_RPM, a new switching period, event 14. -/
def State.windowHeard (s : State) (f : Nat) (x : Word) : State :=
  (((s.setReg (Reg.fanfRpm f) x).setFan f (s.fan1 f).heard).fanPeriodNew f).fire 14

/-- FANf_RPM after a valid window: the speed, VALID, and no silent windows. -/
def speedWord (n : Nat) : Word := BitVec.ofNat 32 (n + 65536)

theorem speedWord_fields {n : Nat} (hn : n < 65536) :
    fld (speedWord n) 0 16 = n ∧ bitOf (speedWord n) 16 = true ∧ fld (speedWord n) 24 8 = 0 := by
  have hword : (speedWord n).toNat = n + 65536 := by
    rw [speedWord, BitVec.toNat_ofNat]
    omega
  refine ⟨?_, ?_, ?_⟩
  · rw [fld, hword]
    omega
  · rw [bitOf, BitVec.getLsbD, hword, Nat.testBit_eq_decide_div_mod_eq, decide_eq_true_eq]
    omega
  · rw [fld, hword]
    omega

theorem fanRpm_notMem_latch (f : Nat) : Reg.fanfRpm f ∉ latchRegs :=
  fanReg_notMem_latch (by simp only [Reg.fanfRpm]; omega)

theorem fanRpm_notMem_ring (f : Nat) : Reg.fanfRpm f ∉ ringRegs 20 :=
  fanReg_notMem_ring (by simp only [Reg.fanfRpm]; omega)

/-- What a valid window leaves of its fan, before the speed is copied. -/
structure WindowHeard (s u : State) (f : Nat) (x : Word) : Prop where
  fan : ∃ d p, OneFan s u f ((s.fan1 f).heard.driven d p)
  rpm : u.reg (Reg.fanfRpm f) = x
  regs : ∀ a, a ≠ Reg.fanfRpm f → a ∉ latchRegs → u.reg a = s.reg a
  fired : Fired s u [14]

theorem windowHeard_heard (x : Word) : WindowHeard s (s.windowHeard f x) f x := by
  have hone := (((OneFan.refl s f).setReg (Reg.fanfRpm f) x).setFan (s.fan1 f).heard).fanPeriodNew
  have hrpm : (((s.setReg (Reg.fanfRpm f) x).setFan f (s.fan1 f).heard).fanPeriodNew f).reg (Reg.fanfRpm f) = x := by simp
  have hregs : ∀ a, a ≠ Reg.fanfRpm f → (((s.setReg (Reg.fanfRpm f) x).setFan f (s.fan1 f).heard).fanPeriodNew f).reg a = s.reg a :=
    fun a ha => by rw [reg_fanPeriodNew, reg_setFan, State.reg_setReg_ne _ _ _ _ ha]
  unfold State.windowHeard
  generalize ((s.setReg (Reg.fanfRpm f) x).setFan f (s.fan1 f).heard).fanPeriodNew f = u at hone hrpm hregs
  have hquiet : Fired s u [] :=
    (Fired.refl s).congr (by rw [hone.frame]) fun a ha => hregs a fun e => fanRpm_notMem_latch f (e ▸ ha)
  exact { fan := ⟨_, _, hone.fire 14⟩
          rpm := (State.reg_fire _ 14 _ (fanRpm_notMem_latch f)).trans hrpm
          regs := fun a ha hlatch => (State.reg_fire _ 14 a hlatch).trans (hregs a ha)
          fired := hquiet.fire 14 (by decide) }

/-! ### The copy of the speed in a virtual PV (R224) -/

/-- Is the speed of fan f copied, and to which virtual PV (15.f.1B)? -/
abbrev State.copiesSpeed (s : State) (f : Nat) : Prop := s.runtimeRuns = true ∧ s.odNat 0x15 f 0x1B < 256

/-- The speed n of fan f copied by the runtime, where 15.f.1B names a virtual PV. -/
def State.speedCopied (s : State) (f n : Nat) : State :=
  if s.runtimeRuns && s.odNat 0x15 f 0x1B < 256 then s.vpvWrite (s.odNat 0x15 f 0x1B) (BitVec.ofNat 32 (n * 65536)) else s

theorem vpvWrite_eq (i : Nat) (x : Word) :
    s.vpvWrite i x = { s with mem := (s.setWord (vpvAddr i) x).mem,
                              zon := { s.zon with vpvAt := Tab.put (fun _ => none) s.zon.vpvAt i (some s.now),
                                                  vpvOut := noteWrite s.zon.vpvOut i x } } := by
  unfold State.vpvWrite State.setVpv
  rw [State.setWord_eq]

theorem speedCopied_of_copies {n : Nat} (h : s.copiesSpeed f) :
    s.speedCopied f n = s.vpvWrite (s.odNat 0x15 f 0x1B) (BitVec.ofNat 32 (n * 65536)) :=
  if_pos (by simpa using h)

theorem speedCopied_of_not {n : Nat} (h : ¬ s.copiesSpeed f) : s.speedCopied f n = s := if_neg (by simpa using h)

/-- What the copy changes: the named virtual PV, and what ZON keeps of it. -/
structure SpeedCopied (s u : State) (f n : Nat) : Prop where
  frame : WindowFrame s u
  regs : u.regs = s.regs
  fan : u.fan = s.fan
  word : s.copiesSpeed f → u.word (vpvAddr (s.odNat 0x15 f 0x1B)) = BitVec.ofNat 32 (n * 65536)
  out : u.zon.vpvOut = if s.copiesSpeed f then s.zon.vpvOut.filter (fun w => w.1 != s.odNat 0x15 f 0x1B) ++
    [(s.odNat 0x15 f 0x1B, BitVec.ofNat 32 (n * 65536))] else s.zon.vpvOut
  mem : ¬ s.copiesSpeed f → u.mem = s.mem
  byte : ∀ a, ¬(vpvAddr (s.odNat 0x15 f 0x1B) ≤ a ∧ a < vpvAddr (s.odNat 0x15 f 0x1B) + 4) → u.byte a = s.byte a

theorem speedCopied_copied (f n : Nat) : SpeedCopied s (s.speedCopied f n) f n := by
  by_cases h : s.copiesSpeed f
  · have hmem : (s.speedCopied f n).mem = (s.setWord (vpvAddr (s.odNat 0x15 f 0x1B)) (BitVec.ofNat 32 (n * 65536))).mem := by
      rw [speedCopied_of_copies h, vpvWrite_eq]
    rw [speedCopied_of_copies h, vpvWrite_eq] at hmem ⊢
    exact { frame := rfl, regs := rfl, fan := rfl,
            word := fun _ => (State.word_congr hmem _).trans (State.word_setWord _ _ _),
            out := (if_pos h).symm, mem := fun hnot => absurd h hnot,
            byte := fun a ha => (State.byte_congr hmem a).trans (State.byte_setWord_apart _ _ _ _ (by omega)) }
  · rw [speedCopied_of_not h]
    exact { frame := rfl, regs := rfl, fan := rfl, word := fun hcopies => absurd hcopies h, out := (if_neg h).symm,
            mem := fun _ => rfl, byte := fun _ _ => rfl }

theorem copiesSpeed_congr (hframe : WindowFrame s u) (hstat : u.reg Reg.pwrStat = s.reg Reg.pwrStat) :
    u.runtimeRuns = s.runtimeRuns ∧ u.odNat 0x15 f 0x1B = s.odNat 0x15 f 0x1B := by
  have hpwr : u.pwr = s.pwr := by rw [hframe]
  have hod : u.od = s.od := by rw [hframe]
  exact ⟨by simp only [State.runtimeRuns, State.awake, State.asleep, State.rf, State.rb, hpwr, hstat],
    by simp only [State.odNat, State.odNum, State.odGet, hod]⟩

/-! ### Back to RUN (R232) -/

/-- RUN entered with FANf_RPM as the window left it, and reported with n failures. -/
def State.foundAgain (s : State) (f n : Nat) : State :=
  ((s.fanEnter f 2).setReg (Reg.fanfRpm f) (s.reg (Reg.fanfRpm f))).fanEntry f 5 0 n

/-- The record of a fan without an open window that enters RUN. -/
def State.runBegun (s : State) (f : Nat) : FanCh :=
  { s.fan1 f with state := 2, since := s.now, window := none, edges := 0, stalls := 0 }

theorem fanEnter_run (hclosed : (s.fan1 f).window = none) :
    s.fanEnter f 2 = (s.setFan f (s.runBegun f)).setRb (Reg.fanfRpm f) 16 false := by
  simp [State.fanEnter, State.runBegun, hclosed]

/-- What the return to RUN changes: its fan, and ring 20. -/
structure FoundAgain (s u : State) (f : Nat) : Prop where
  frame : WindowFrame s u
  zon : u.zon = s.zon
  own : u.fan1 f = s.runBegun f
  others : ∀ g, g ≠ f → u.fan1 g = s.fan1 g
  regs : ∀ a, a ∉ ringRegs 20 → u.reg a = s.reg a
  mem : memKeptOutsideRing s u 20

theorem foundAgain_found (hclosed : (s.fan1 f).window = none) (hfits : s.ringFits 20 8) (n : Nat) :
    FoundAgain s (s.foundAgain f n) f := by
  have hrun : OneFan s ((s.fanEnter f 2).setReg (Reg.fanfRpm f) (s.reg (Reg.fanfRpm f))) f (s.runBegun f) := by
    rw [fanEnter_run hclosed]
    exact (((OneFan.refl s f).setFan _).setReg _ _).setReg _ _
  have hreg : ∀ a, ((s.fanEnter f 2).setReg (Reg.fanfRpm f) (s.reg (Reg.fanfRpm f))).reg a = s.reg a := fun a => by
    rw [fanEnter_run hclosed]
    by_cases ha : a = Reg.fanfRpm f
    · rw [ha, State.reg_setReg_same]
    · rw [State.reg_setReg_ne _ _ _ _ ha, State.reg_setRb_ne _ _ _ _ _ ha]
      rfl
  unfold State.foundAgain
  generalize (s.fanEnter f 2).setReg (Reg.fanfRpm f) (s.reg (Reg.fanfRpm f)) = v at hrun hreg
  have hzon : v.zon = s.zon := by rw [hrun.frame]
  have hmem : v.mem = s.mem := by rw [hrun.frame]
  obtain ⟨hstore, hregs, hbytes⟩ := fanEntry_reported (ringFits_congr (hreg _) hfits) f 5 0 n
  have hfan : (v.fanEntry f 5 0 n).fan = v.fan := by rw [hstore]
  exact { frame := hrun.windowFrame.trans hstore.windowFrame
          zon := by rw [← hzon, hstore]
          own := (fan1_congr hfan f).trans hrun.own
          others := fun g hg => (fan1_congr hfan g).trans (hrun.others g hg)
          regs := fun a ha => (hregs a ha).trans (hreg a)
          mem := fun a ha => (hbytes a ((inRing_congr (hreg _) (hreg _) a).trans ha)).trans (State.byte_congr hmem a) }

/-! ### A window with two edges or more closes -/

theorem exec_windowClose_valid {open_ : Nat} (hf : f < s.nFans) (hopen : (s.fan1 f).window = some open_) (hedges : 2 ≤ (s.fan1 f).edges)
    (hover : 3 ≤ (s.fan1 f).edges ∨ open_ + (s.fan1 f).width ≤ s.now) :
    exec (.stretchWindowClose f) s = (s.fanValid f).done := by
  show execStretchWindowClose f s = _
  simp [execStretchWindowClose, hopen, hf, hedges, hover]

/-- A valid window closed and its speed copied. -/
def State.windowEnded (s : State) (f : Nat) : State := (s.windowHeard f (speedWord (s.fanSpeed f))).speedCopied f (s.fanSpeed f)

theorem fanValid_eq :
    s.fanValid f = if (s.fan1 f).state = 5 || (s.fan1 f).state = 6 then (s.windowEnded f).foundAgain f (s.fan1 f).retry else s.windowEnded f :=
  rfl

/-- What a valid window changes, but for a return to RUN. -/
structure WindowEnded (s u : State) (f : Nat) : Prop where
  frame : WindowFrame s u
  own : ∃ d p, u.fan1 f = (s.fan1 f).heard.driven d p
  others : ∀ g, g ≠ f → u.fan1 g = s.fan1 g
  rpm : u.reg (Reg.fanfRpm f) = speedWord (s.fanSpeed f)
  regs : ∀ a, a ≠ Reg.fanfRpm f → a ∉ latchRegs → u.reg a = s.reg a
  fired : Fired s u [14]
  word : s.copiesSpeed f → u.word (vpvAddr (s.odNat 0x15 f 0x1B)) = BitVec.ofNat 32 (s.fanSpeed f * 65536)
  out : u.zon.vpvOut = if s.copiesSpeed f then s.zon.vpvOut.filter (fun w => w.1 != s.odNat 0x15 f 0x1B) ++
    [(s.odNat 0x15 f 0x1B, BitVec.ofNat 32 (s.fanSpeed f * 65536))] else s.zon.vpvOut
  mem : ¬ s.copiesSpeed f → u.mem = s.mem
  byte : ∀ a, ¬(vpvAddr (s.odNat 0x15 f 0x1B) ≤ a ∧ a < vpvAddr (s.odNat 0x15 f 0x1B) + 4) → u.byte a = s.byte a

theorem windowEnded_ended : WindowEnded s (s.windowEnded f) f := by
  obtain ⟨⟨d, p, hone⟩, hrpm, hregs, hfired⟩ := windowHeard_heard (s := s) (f := f) (speedWord (s.fanSpeed f))
  unfold State.windowEnded
  generalize s.windowHeard f (speedWord (s.fanSpeed f)) = h at hone hrpm hregs hfired
  have hframe := hone.windowFrame
  obtain ⟨hruns, hod⟩ := copiesSpeed_congr (f := f) hframe
    (hregs Reg.pwrStat (by simp only [Reg.pwrStat, Reg.fanfRpm]; omega) (by decide))
  have hzon : h.zon = s.zon := by rw [hone.frame]
  have hmem : h.mem = s.mem := by rw [hone.frame]
  obtain ⟨hcopy, hcregs, hcfan, hword, hout, hcmem, hbyte⟩ := speedCopied_copied (s := h) f (s.fanSpeed f)
  generalize h.speedCopied f (s.fanSpeed f) = u at hcopy hcregs hcfan hword hout hcmem hbyte
  have hreg := State.reg_congr hcregs
  simp only [State.copiesSpeed, hruns, hod, hzon, hmem] at hword hout hcmem hbyte
  exact { frame := hframe.trans hcopy
          own := ⟨d, p, (fan1_congr hcfan f).trans hone.own⟩
          others := fun g hg => (fan1_congr hcfan g).trans (hone.others g hg)
          rpm := (hreg _).trans hrpm
          regs := fun a ha hlatch => (hreg a).trans (hregs a ha hlatch)
          fired := hfired.congr (by rw [hcopy]) fun a _ => hreg a
          word := hword
          out := hout
          mem := hcmem
          byte := fun a ha => (hbyte a ha).trans (State.byte_congr hmem a) }

/-- What is left to do after a valid window: nothing for a fan in RUN, and otherwise the return to RUN. -/
structure BackInRun (s u : State) (f : Nat) : Prop where
  frame : WindowFrame s u
  zon : u.zon = s.zon
  own : (u.fan1 f).window = none ∧ (u.fan1 f).restarted = (s.fan1 f).restarted ∧ (u.fan1 f).lastDuty = (s.fan1 f).lastDuty ∧
    (u.fan1 f).state = 2 ∧ (u.fan1 f).retry = (s.fan1 f).retry
  others : ∀ g, g ≠ f → u.fan1 g = s.fan1 g
  regs : ∀ a, a ∉ (if (s.fan1 f).state = 2 then [] else ringRegs 20) → u.reg a = s.reg a
  byte : ∀ a, s.inRing 20 a = false ∨ (s.fan1 f).state = 2 → u.byte a = s.byte a
  mem : (s.fan1 f).state = 2 → u.mem = s.mem

theorem backInRun_of_run (hclosed : (s.fan1 f).window = none) (hrun : (s.fan1 f).state = 2) : BackInRun s s f :=
  { frame := rfl, zon := rfl, own := ⟨hclosed, rfl, rfl, hrun, rfl⟩, others := fun _ _ => rfl, regs := fun _ _ => rfl,
    byte := fun _ _ => rfl, mem := fun _ => rfl }

theorem FoundAgain.backInRun (h : FoundAgain s u f) (hnot : (s.fan1 f).state ≠ 2) : BackInRun s u f := by
  obtain ⟨hframe, hzon, hown, hothers, hregs, hmem⟩ := h
  exact { frame := hframe
          zon := hzon
          own := by rw [hown]; exact ⟨rfl, rfl, rfl, rfl, rfl⟩
          others := hothers
          regs := fun a ha => hregs a (by rwa [if_neg hnot] at ha)
          byte := fun a ha => hmem a (ha.resolve_right hnot)
          mem := fun hrun => absurd hrun hnot }

/-- After a valid window a fan that was in RUN, TACH_LOST or UNVERIFIED is in RUN. -/
theorem fanValid_backInRun (hstate : (s.fan1 f).state ∈ [2, 5, 6]) (hfits : s.ringFits 20 8) :
    BackInRun (s.windowEnded f) (s.fanValid f) f := by
  obtain ⟨-, ⟨d, p, hown⟩, -, -, hregs, -, -, -, -, -⟩ := windowEnded_ended (s := s) (f := f)
  have hclosed : ((s.windowEnded f).fan1 f).window = none := by rw [hown]; rfl
  have hsame : ((s.windowEnded f).fan1 f).state = (s.fan1 f).state := by rw [hown]; rfl
  rw [fanValid_eq]
  by_cases hrun : (s.fan1 f).state = 2
  · rw [if_neg (by simp [hrun])]
    exact backInRun_of_run hclosed (hsame.trans hrun)
  · have hlost : (s.fan1 f).state = 5 ∨ (s.fan1 f).state = 6 := by simpa [hrun] using hstate
    have hcfg := hregs (Reg.rngCfg 20) (by simp only [Reg.rngCfg, Reg.fanfRpm]; omega) (by decide)
    rw [if_pos (by simpa using hlost)]
    exact (foundAgain_found hclosed (ringFits_congr hcfg hfits) _).backInRun (by rwa [hsame])

theorem answers_windowClose_valid {open_ : Nat} (hf : f < s.nFans) (hopen : (s.fan1 f).window = some open_)
    (hstate : (s.fan1 f).state ∈ [2, 5, 6]) (hedges : 2 ≤ (s.fan1 f).edges)
    (hover : 3 ≤ (s.fan1 f).edges ∨ open_ + (s.fan1 f).width ≤ s.now) (hfits : s.ringFits 20 8) :
    ∃ t, exec (.stretchWindowClose f) s = .next t ∧
      t = { s with regs := t.regs, mem := t.mem, held := t.held, fan := { s.fan with chans := t.fan.chans },
                   zon := { s.zon with vpvAt := t.zon.vpvAt, vpvOut := t.zon.vpvOut }, cen := cenNoted s t } ∧
      (let rpm := min 65535 (983040000 * ((s.fan1 f).edges - 1) / (s.fanPpr f * ((s.fan1 f).lastEdge - (s.fan1 f).firstEdge)))
       let v := s.odNat 0x15 f 0x1B
       let copied := s.runtimeRuns = true ∧ v < 256
       t.rf (Reg.fanfRpm f) 0 16 = rpm ∧ t.rb (Reg.fanfRpm f) 16 = true ∧ t.rf (Reg.fanfRpm f) 24 8 = 0 ∧
       (copied → (s.fan1 f).state = 2 → t.word (vpvAddr v) = BitVec.ofNat 32 (rpm * 65536)) ∧
       t.zon.vpvOut = (if copied then s.zon.vpvOut.filter (fun w => w.1 != v) ++ [(v, BitVec.ofNat 32 (rpm * 65536))] else s.zon.vpvOut) ∧
       (¬copied → (s.fan1 f).state = 2 → t.mem = s.mem) ∧
       (∀ a, s.inRing 20 a = false ∨ (s.fan1 f).state = 2 → ¬(vpvAddr v ≤ a ∧ a < vpvAddr v + 4) → t.byte a = s.byte a)) ∧
      (t.fan1 f).window = none ∧ (t.fan1 f).restarted = false ∧ (t.fan1 f).lastDuty = (s.fan1 f).winDuty ∧ (t.fan1 f).state = 2 ∧
      (t.fan1 f).retry = (s.fan1 f).retry ∧ (∀ g, g ≠ f → t.fan1 g = s.fan1 g) ∧
      regsKept s t (Reg.fanfRpm f :: if (s.fan1 f).state = 2 then [] else ringRegs 20) ∧ eventsFired s t [14] := by
  have hexec := exec_windowClose_valid hf hopen hedges hover
  obtain ⟨hframe, ⟨d, p, hown⟩, hothers, hrpm, hregs, hfired, hword, hout, hmem, hbyte⟩ := windowEnded_ended (s := s) (f := f)
  have hback := fanValid_backInRun hstate hfits
  generalize s.windowEnded f = w at *
  generalize s.fanValid f = u at hexec hback
  obtain ⟨hframeB, hzonB, ⟨hclosed, hrestarted, hlast, hrun, hretry⟩, hothersB, hregsB, hbyteB, hmemB⟩ := hback
  have hsame : (w.fan1 f).state = (s.fan1 f).state := by rw [hown]; rfl
  rw [hsame] at hregsB hbyteB hmemB
  have hin : ∀ {a}, a ∉ ringRegs 20 → a ∉ (if (s.fan1 f).state = 2 then [] else ringRegs 20) := fun ha => by
    split
    · exact List.not_mem_nil
    · exact ha
  have hrpmT : u.settle.reg (Reg.fanfRpm f) = speedWord (s.fanSpeed f) :=
    (State.reg_settle u _ (fanRpm_notMem_latch f)).trans ((hregsB _ (hin (fanRpm_notMem_ring f))).trans hrpm)
  obtain ⟨hspeed, hvalid, hsilent⟩ := speedWord_fields (n := s.fanSpeed f) (Nat.lt_succ_of_le (min_le_left _ _))
  have hframeT : WindowFrame s u.settle := (hframe.trans hframeB).trans (storeFrame_settle u).windowFrame
  have hheld : u.settle.held = s.held := by rw [hframeT]
  have hmemT := State.settle_mem u
  have hfanT := fan1_congr (State.settle_fan u)
  rw [hown] at hrestarted hlast hretry
  refine ⟨_, hexec, by rw [hheld]; exact hframeT,
    ⟨by rw [State.rf, hrpmT, hspeed]; rfl, by rw [State.rb, hrpmT, hvalid], by rw [State.rf, hrpmT, hsilent],
      fun hcopied hrun => (State.word_congr (hmemT.trans (hmemB hrun)) _).trans (hword hcopied),
      (congrArg ZonSt.vpvOut ((State.settle_zon u).trans hzonB)).trans hout,
      fun hnot hrun => hmemT.trans ((hmemB hrun).trans (hmem hnot)), fun a ha hv => ?_⟩,
    ?_, ?_, ?_, ?_, ?_, fun g hg => (hfanT g).trans ((hothersB g hg).trans (hothers g hg)), regsKept_settle fun a ha hlatch => ?_,
    (hfired.congr (by rw [hframeB]) fun a ha => hregsB a (hin fun hring => ring20_notMem_latch hring ha)).done⟩
  · have hring := inRing_congr (hregs (Reg.rngBase 20) (by simp only [Reg.rngBase, Reg.fanfRpm]; omega) (by decide))
      (hregs (Reg.rngCfg 20) (by simp only [Reg.rngCfg, Reg.fanfRpm]; omega) (by decide)) a
    exact (State.byte_congr hmemT a).trans ((hbyteB a (ha.imp_left hring.trans)).trans (hbyte a hv))
  · rw [hfanT, hclosed]
  · rw [hfanT, hrestarted]
    rfl
  · rw [hfanT, hlast]
    rfl
  · rw [hfanT, hrun]
  · rw [hfanT, hretry]
    rfl
  · obtain ⟨hne, hring⟩ := List.mem_cons.not.trans not_or |>.mp ha
    exact (hregsB a hring).trans (hregs a hne hlatch)

/-! ### A silent window closes, and one that is not over -/

/-- A window closed with fewer than two edges: SILENT is k, and a new switching period begins (R223, R232). -/
def State.windowSilent (s : State) (f k : Nat) : State :=
  ((s.setFan f { s.fan1 f with window := none, edges := 0 }).setRf (Reg.fanfRpm f) 24 8 k).fanPeriodNew f

theorem windowSilent_oneFan (k : Nat) :
    ∃ d p, OneFan s (s.windowSilent f k) f (FanCh.driven { s.fan1 f with window := none, edges := 0 } d p) :=
  ⟨_, _, (((OneFan.refl s f).setFan _).setReg _ _).fanPeriodNew⟩

theorem reg_windowSilent (k : Nat) : (s.windowSilent f k).reg (Reg.fanfRpm f) = putFld (s.reg (Reg.fanfRpm f)) 24 8 k := by
  rw [State.windowSilent, reg_fanPeriodNew, State.setRf, State.reg_setReg_same, reg_setFan]

theorem reg_windowSilent_ne (k : Nat) {a : Nat} (ha : a ≠ Reg.fanfRpm f) : (s.windowSilent f k).reg a = s.reg a := by
  rw [State.windowSilent, reg_fanPeriodNew, State.reg_setRf_ne _ _ _ _ _ _ ha, reg_setFan]

theorem exec_windowClose_silent {open_ : Nat} (hf : f < s.nFans) (hopen : (s.fan1 f).window = some open_) (hedges : (s.fan1 f).edges < 2)
    (hover : open_ + (s.fan1 f).width ≤ s.now) (hfew : (s.fan1 f).state ≠ 2 ∨ s.rf (Reg.fanfRpm f) 24 8 < 2) :
    exec (.stretchWindowClose f) s = (s.windowSilent f (min 255 (s.rf (Reg.fanfRpm f) 24 8 + 1))).done := by
  have hnotThird : ((s.fan1 f).state = 2 && 3 ≤ min 255 (s.rf (Reg.fanfRpm f) 24 8 + 1)) = false := by
    simp only [Bool.and_eq_false_iff, decide_eq_false_iff_not]
    omega
  show execStretchWindowClose f s = _
  unfold execStretchWindowClose
  simp only [hopen, hf, hover, Nat.not_le.mpr hedges, hnotThird, decide_true, Bool.true_and, Bool.or_true, if_true, if_false,
    Bool.false_eq_true]
  rfl

theorem answers_windowClose_silent {open_ : Nat} (hf : f < s.nFans) (hopen : (s.fan1 f).window = some open_) (hedges : (s.fan1 f).edges < 2)
    (hover : open_ + (s.fan1 f).width ≤ s.now) (hfew : (s.fan1 f).state ≠ 2 ∨ s.rf (Reg.fanfRpm f) 24 8 < 2) :
    ∃ t, exec (.stretchWindowClose f) s = .next t ∧
      t = { s with regs := t.regs, fan := { s.fan with chans := t.fan.chans }, cen := cenNoted s t } ∧
      t.rf (Reg.fanfRpm f) 24 8 = min 255 (s.rf (Reg.fanfRpm f) 24 8 + 1) ∧ t.rf (Reg.fanfRpm f) 0 24 = s.rf (Reg.fanfRpm f) 0 24 ∧
      (t.fan1 f).window = none ∧ (t.fan1 f).state = (s.fan1 f).state ∧ (∀ g, g ≠ f → t.fan1 g = s.fan1 g) ∧
      regsKept s t [Reg.fanfRpm f] ∧ eventsFired s t [] := by
  have hexec := exec_windowClose_silent hf hopen hedges hover hfew
  have hsilent : min 255 (s.rf (Reg.fanfRpm f) 24 8 + 1) < 256 := by omega
  generalize min 255 (s.rf (Reg.fanfRpm f) 24 8 + 1) = k at hexec hsilent
  obtain ⟨d, p, hone⟩ := windowSilent_oneFan (s := s) (f := f) k
  obtain ⟨t, hnext, hframe, hown, hothers, hkept, hfired, hreg⟩ := answers_oneFan (l := [Reg.fanfRpm f]) hexec hone
    (fun a ha => reg_windowSilent_ne k (by simpa using ha)) (by simpa using fanRpm_notMem_latch f)
  have hrpm := (hreg _ (fanRpm_notMem_latch f)).trans (reg_windowSilent k)
  refine ⟨t, hnext, hframe, ?_, ?_, by rw [hown]; rfl, by rw [hown]; rfl, hothers, hkept, hfired⟩
  · rw [State.rf, hrpm, fld_putFld _ _ _ _ (by decide)]
    exact Nat.mod_eq_of_lt hsilent
  · rw [State.rf, hrpm, fld_putFld_apart _ _ _ _ _ _ (by decide) (by decide)]
    rfl

theorem exec_windowClose_early {open_ : Nat} (hopen : (s.fan1 f).window = some open_) (hedges : (s.fan1 f).edges < 3)
    (hearly : s.now < open_ + (s.fan1 f).width) : exec (.stretchWindowClose f) s = s.done := by
  show execStretchWindowClose f s = _
  simp [execStretchWindowClose, hopen, Nat.not_le.mpr hedges, Nat.not_le.mpr hearly]

/-- Settles O25: but for a valid window, which also reaches a virtual PV and ring 20, each command comes to one fan's record, with
FANf_RPM or no register. -/
theorem fanDriveAndMeasurement : Obligations.FanDriveAndMeasurement := by
  refine ⟨fun f q p s hf hstep hawake hclosed hq hp => ?_,
    fun f s hf hawake hstate htach hruns hdue hclosed => answers_stretchWindowOpen hf hawake hstate htach hruns hdue hclosed,
    fun f cycle s hf hawake hlater hopen hroom => ?_,
    fun f cycle s hclosed hstate => changesNothing_of_done (exec_tachEdge_unheard cycle hclosed hstate),
    fun f open_ s hf hopen hstate hedges _ hover hfits => answers_windowClose_valid hf hopen hstate hedges hover hfits,
    fun f open_ s hf hopen hedges hover hfew => answers_windowClose_silent hf hopen hedges hover hfew,
    fun f open_ s hopen hedges hearly => changesNothing_of_done (exec_windowClose_early hopen hedges hearly)⟩
  · subst hp hq
    obtain ⟨t, hnext, hframe, hown, hothers, hkept, hfired, -⟩ := answers_oneFan (l := [])
      (exec_fanPeriod hf hstep hawake hclosed) (OneFan.refl s f).fanPeriodNew (fun _ _ => rfl) (by simp)
    exact ⟨t, hnext, hframe, hown, hothers, hkept, hfired⟩
  · obtain ⟨t, hnext, hframe, hown, hothers, hkept, hfired, -⟩ := answers_oneFan (l := [])
      (exec_tachEdge hf hawake hlater hopen hroom) ((OneFan.refl s f).setFan _) (fun _ _ => rfl) (by simp)
    exact ⟨t, hnext, hframe, hown, hothers, hkept, hfired⟩

end Sys2Proof.Machine
end

section
/-! PROOFS. What FAN shows in a register, fires, logs and reports in ring 20: the common shape of the supervision's commands (R252). -/

namespace Sys2Proof.Machine

variable {s u v : State} {F : FanSt} {r k : Nat} {x : Word}

/-- The registers of FAN. -/
abbrev FanReg (a : Nat) : Prop := 0x600A0000 ≤ a ∧ a < 0x600B0000

/-- From s to u register r of FAN has taken x, FAN has become F, event k has fired, and what else has changed is the log and ring 20. -/
structure FanAlarm (s u : State) (F : FanSt) (r : Nat) (x : Word) (k : Nat) : Prop where
  frame : u = { s with regs := u.regs, mem := u.mem, log := u.log, fan := F, cen := cenNoted s u }
  unit : FanReg r
  reg : u.reg r = x
  regs : ∀ a, a ∉ r :: ringRegs 20 → a ∉ latchRegs → u.reg a = s.reg a
  fired : Fired s u [k]
  mem : memKeptOutsideRing s u 20

/-- The register is written, and the event fires. -/
theorem FanAlarm.of_shown (hframe : RegFrame s { s with fan := F } u) (hr : FanReg r) (hreg : u.reg r = x)
    (hregs : ∀ a, a ≠ r → u.reg a = s.reg a) (hk : k < 64) : FanAlarm s (u.fire k) F r x k where
  frame := by
    have hfire := hframe.fire k
    unfold RegFrame at hfire
    rw [hfire]
    rfl
  unit := hr
  reg := (State.reg_fire u k r (fanReg_notMem_latch hr.1)).trans hreg
  regs a ha hlatch := (State.reg_fire u k a hlatch).trans (hregs a (List.ne_of_not_mem_cons ha))
  fired :=
    ((Fired.refl s).congr (by rw [hframe]) fun a ha => hregs a fun e => fanReg_notMem_latch hr.1 (e ▸ ha)).fire k hk
  mem a _ := State.byte_congr ((State.fire_mem u k).trans (by rw [hframe])) a

section
variable (h : FanAlarm s u F r x k)
include h

/-- Registers of other units hold what they held. -/
theorem FanAlarm.reg_other {a : Nat} (ha : ¬ FanReg a) (hring : a ∉ ringRegs 20) (hlatch : a ∉ latchRegs) : u.reg a = s.reg a :=
  h.regs a (List.not_mem_cons_of_ne_of_not_mem (fun e => ha (e ▸ h.unit)) hring) hlatch

theorem FanAlarm.fits (hfits : s.ringFits 20 8) : u.ringFits 20 8 :=
  ringFits_congr (h.reg_other (by decide) (by decide) (by decide)) hfits

theorem FanAlarm.logged (l : LogSt) : FanAlarm s { u with log := l } F r x k := by
  obtain ⟨hframe, hunit, hreg, hregs, hfired, hmem⟩ := h
  refine ⟨?_, hunit, hreg, hregs, hfired, hmem⟩
  rw [hframe]
  rfl

theorem FanAlarm.fault (code param : Nat) : FanAlarm s (u.fault code param) F r x k := by
  rw [State.fault_eq]
  exact h.logged _

theorem FanAlarm.happen (src param : Nat) : FanAlarm s (u.happen src param) F r x k := h.logged _

theorem FanAlarm.setFanSt (G : FanSt) : FanAlarm s { u with fan := G } G r x k := by
  obtain ⟨hframe, hunit, hreg, hregs, hfired, hmem⟩ := h
  refine ⟨?_, hunit, hreg, hregs, hfired, hmem⟩
  rw [hframe]
  rfl

theorem FanAlarm.reported (hv : FanReported u v) : FanAlarm s v F r x k := by
  have hring := inRing_congr (h.reg_other (a := Reg.rngBase 20) (by decide) (by decide) (by decide))
    (h.reg_other (a := Reg.rngCfg 20) (by decide) (by decide) (by decide))
  obtain ⟨hframe, hunit, hreg, hregs, hfired, hmem⟩ := h
  obtain ⟨hstore, hvregs, hvmem⟩ := hv
  refine ⟨?_, hunit, (hvregs r (fanReg_notMem_ring hunit.1)).trans hreg, fun a ha hlatch => ?_,
    hfired.congr hstore.variant fun a ha => hvregs a fun hin => ring20_notMem_latch hin ha,
    fun a ha => (hvmem a ((hring a).trans ha)).trans (hmem a ha)⟩
  · unfold StoreFrame at hstore
    rw [hstore, hframe]
    rfl
  · exact (hvregs a (List.not_mem_of_not_mem_cons ha)).trans (hregs a ha hlatch)

/-- What an entry of a log is made of lies in other units (R614, R615). -/
theorem FanAlarm.reg_logged : ∀ a ∈ [Reg.pwrStat, Reg.pwrShake, Reg.rtcStat, Reg.rtcCtrl], u.reg a = s.reg a := by
  have hother : ∀ a ∈ [Reg.pwrStat, Reg.pwrShake, Reg.rtcStat, Reg.rtcCtrl], ¬ FanReg a ∧ a ∉ ringRegs 20 ∧ a ∉ latchRegs := by decide
  intro a ha
  obtain ⟨hunit, hring, hlatch⟩ := hother a ha
  exact h.reg_other hunit hring hlatch

/-- A fault found after the register is written enters the log as one found before. -/
theorem FanAlarm.fault_log (hlog : u.log = s.log) (code param : Nat) : (u.fault code param).log = (s.fault code param).log :=
  State.fault_log_congr code param hlog (by rw [h.frame]) (by rw [h.frame]) (by rw [h.frame]) h.reg_logged

/-- So does a happening. -/
theorem FanAlarm.happen_log (hlog : u.log = s.log) (src param : Nat) : (u.happen src param).log = (s.happen src param).log := by
  have hreg := h.reg_logged
  have hcount : u.tb.count = s.tb.count := by rw [h.frame]
  have hrtc : u.rtc = s.rtc := by rw [h.frame]
  have hflags : u.logFlags 0 = s.logFlags 0 := by
    unfold State.logFlags State.shakeStep State.rf State.rb
    rw [hreg Reg.pwrShake (by simp), hreg Reg.rtcStat (by simp), hreg Reg.rtcCtrl (by simp)]
  simp only [State.happen, State.logAdd, State.stamp, Bool.not_true, Bool.false_and, Bool.false_eq_true, if_false, hflags, hlog, hcount, hrtc]

/-- The end of such a command. -/
theorem FanAlarm.answers {c : Instr} (hexec : exec c s = u.done) :
    ∃ t, exec c s = .next t ∧ t = { s with regs := t.regs, mem := t.mem, held := t.held, log := t.log, fan := F, cen := cenNoted s t } ∧
      t.fan = F ∧ t.log = u.log ∧ t.reg r = x ∧ memKeptOutsideRing s t 20 ∧ regsKept s t (r :: ringRegs 20) ∧ eventsFired s t [k] := by
  obtain ⟨hframe, hunit, hreg, hregs, hfired, hmem⟩ := h
  have hstore := storeFrame_settle u
  have hheld : u.settle.held = s.held := (State.settle_held u).trans (by rw [hframe])
  refine ⟨_, hexec, ?_, (State.settle_fan u).trans (by rw [hframe]), State.settle_log u,
    (State.reg_settle u r (fanReg_notMem_latch hunit.1)).trans hreg,
    fun a ha => (State.byte_congr (State.settle_mem u) a).trans (hmem a ha), regsKept_settle hregs, hfired.done⟩
  rw [hheld, State.settle_log]
  unfold StoreFrame at hstore
  generalize u.settle = t at hstore
  rw [hstore, hframe]
  rfl

/-- The same, where of FAN the records of fans alone have changed. -/
theorem FanAlarm.answers_chans {c : Instr} (hchans : F = { s.fan with chans := F.chans }) (hexec : exec c s = u.done) :
    ∃ t, exec c s = .next t ∧
      t = { s with regs := t.regs, mem := t.mem, held := t.held, log := t.log, fan := { s.fan with chans := t.fan.chans }, cen := cenNoted s t } ∧
      t.fan = F ∧ t.log = u.log ∧ t.reg r = x ∧ memKeptOutsideRing s t 20 ∧ regsKept s t (r :: ringRegs 20) ∧ eventsFired s t [k] := by
  obtain ⟨t, hnext, hframe, hfan, hrest⟩ := h.answers hexec
  refine ⟨t, hnext, ?_, hfan, hrest⟩
  rw [hfan, ← hchans]
  exact hframe

end

end Sys2Proof.Machine
end

section
/-! PROOFS. FAN_REFRESH, autonomous mode, and its exit (R236, R239, R240). -/

namespace Sys2Proof.Machine

variable {s u : State} {who : Init} {v : Word}

/-! ### FAN_REFRESH (R236, R246) -/

theorem exec_fanRefresh (hmay : mayWrite who 10 s) : exec (.fanRefresh who) s = s.fanRefreshWrite.done :=
  congrArg State.done (State.guardWrite_eq present_fan hmay)

theorem answers_fanRefresh (hmay : mayWrite who 10 s) :
    ∃ t, exec (.fanRefresh who) s = .next t ∧
      t = { s with
        regs := t.regs,
        fan := { s.fan with written := some s.now, refresh := if 12 ≤ s.shakeStep then some s.now else s.fan.refresh },
        cen := cenNoted s t } ∧
      regsKept s t [] ∧ eventsFired s t [] := by
  have hframe : RegFrame s s.fanRefreshWrite s.fanRefreshWrite := rfl
  exact ⟨_, exec_fanRefresh hmay, hframe.settle, regsKept_refl [] rfl, eventsFired_nil rfl fun _ _ => rfl⟩

/-! ### Entry to autonomous mode (R236, R239) -/

/-- Each fan's Q from its drive duty (R239). -/
def State.fansTaken (s : State) : State :=
  s.forEach (List.range s.nFans) (fun s f => s.setFan f { s.fan1 f with q := fanQ (s.fanDuty f), slew := false })

theorem fansTaken_taken :
    FansRenewed s s.fansTaken ∧
      ∀ f, f < s.nFans → s.fansTaken.fan1 f = { s.fan1 f with q := fanQ (s.fanDuty f), slew := false } := by
  have hown : OwnRecord fun s f => { s.fan1 f with q := fanQ (s.fanDuty f), slew := false } := fun s x f h => by
    dsimp only
    rw [h, fanDuty_congr h]
  obtain ⟨hrenewed, hrecords⟩ := forEach_setFan (s := s) hown (List.nodup_range (n := s.nFans))
  exact ⟨hrenewed, fun f hf => (hrecords f).trans (if_pos (List.mem_range.mpr hf))⟩

/-- FAN_STAT in autonomous mode: AUTO is set, and the cause is the watchdog's or not. -/
def autoWord (x : Word) (warned : Bool) : Word := putBit (putBit x 0 true) 1 warned

theorem autoWord_fields (x : Word) (warned : Bool) :
    bitOf (autoWord x warned) 0 = true ∧ bitOf (autoWord x warned) 1 = warned ∧ fld (autoWord x warned) 2 2 = fld x 2 2 := by
  unfold autoWord
  refine ⟨?_, bitOf_putBit _ 1 _ (by decide), ?_⟩
  · rw [putBit, bitOf_putFld_apart _ _ _ _ _ (by decide) (by decide)]
    exact bitOf_putBit _ 0 true (by decide)
  · rw [putBit, fld_putFld_apart _ _ _ _ _ _ (by decide) (by decide), putBit, fld_putFld_apart _ _ _ _ _ _ (by decide) (by decide)]

/-- FAN_STAT shows autonomous mode and its cause. -/
def State.autoShown (s : State) (warned : Bool) : State := (s.setRb Reg.fanStat 0 true).setRb Reg.fanStat 1 warned

theorem reg_autoShown (warned : Bool) : (s.autoShown warned).reg Reg.fanStat = autoWord (s.reg Reg.fanStat) warned := by
  simp only [State.autoShown, State.setRb, State.setRf, State.reg_setReg_same]
  rfl

theorem reg_autoShown_ne (warned : Bool) {a : Nat} (ha : a ≠ Reg.fanStat) : (s.autoShown warned).reg a = s.reg a := by
  rw [State.autoShown, State.reg_setRb_ne _ _ _ _ _ ha, State.reg_setRb_ne _ _ _ _ _ ha]

/-- Every fan that runs is reported in ring 20 (R252). -/
def State.runnersReported (s : State) (l : List Nat) (kind : Nat) : State :=
  s.forEach l (fun s f => s.fanEntry f kind 0 (s.fan1 f).retry)

theorem fanAutoEnter_eq (overdue : Bool) :
    ∃ l, s.fanAutoEnter (if overdue then 0 else 1) =
      (((s.fansTaken.autoShown !overdue).fire 16).fault 0x0806 (if overdue then 0 else 1)).runnersReported l 6 := by
  cases overdue <;> exact ⟨_, rfl⟩

theorem exec_fanAuto (hawake : s.awake = true) (hstep : 12 ≤ s.shakeStep) (hoff : s.fanAutoOn = false)
    (hdue : s.fanOverdue = true ∨ s.rb Reg.pwrStat 2 = true) :
    exec .fanAuto s = (s.fanAutoEnter (if s.fanOverdue then 0 else 1)).done := by
  show execFanAuto s = _
  rw [execFanAuto, if_pos (by simpa [hawake, hstep, hoff] using hdue)]

theorem exec_fanAuto_none (h : (s.fanOverdue = false ∧ s.rb Reg.pwrStat 2 = false) ∨ s.fanAutoOn = true) :
    exec .fanAuto s = s.done := by
  show execFanAuto s = _
  rw [execFanAuto, if_neg]
  rcases h with ⟨hfresh, hunwarned⟩ | hon
  · simp [hfresh, hunwarned]
  · simp [hon]

theorem answers_fanAuto (hawake : s.awake = true) (hstep : 12 ≤ s.shakeStep) (hoff : s.fanAutoOn = false)
    (hdue : s.fanOverdue = true ∨ s.rb Reg.pwrStat 2 = true) (hfits : s.ringFits 20 8) :
    ∃ t, exec .fanAuto s = .next t ∧
      t = { s with regs := t.regs, mem := t.mem, held := t.held, log := t.log, fan := { s.fan with chans := t.fan.chans },
                   cen := cenNoted s t } ∧
      t.fanAutoOn = true ∧ t.rb Reg.fanStat 1 = !s.fanOverdue ∧ t.rf Reg.fanStat 2 2 = s.rf Reg.fanStat 2 2 ∧
      (∀ f, f < s.nFans → t.fan1 f = { s.fan1 f with q := (s.fanDuty f * 80000 + 127) / 255, slew := false }) ∧
      t.log = (s.fault 0x0806 (if s.fanOverdue then 0 else 1)).log ∧ memKeptOutsideRing s t 20 ∧
      regsKept s t (Reg.fanStat :: ringRegs 20) ∧ eventsFired s t [16] := by
  have hexec := exec_fanAuto hawake hstep hoff hdue
  generalize s.fanOverdue = overdue at hexec ⊢
  obtain ⟨l, henter⟩ := fanAutoEnter_eq (s := s) overdue
  obtain ⟨⟨htaken, hchans⟩, hrecords⟩ := fansTaken_taken (s := s)
  have hreg : ∀ a, s.fansTaken.reg a = s.reg a := fun a => by rw [htaken]; rfl
  have hbefore : RegFrame s { s with fan := s.fansTaken.fan } (s.fansTaken.autoShown !overdue) := by
    refine RegFrame.setReg (RegFrame.setReg ?_ _ _) _ _
    unfold RegFrame
    rw [htaken]
    rfl
  have hshown : FanAlarm s ((s.fansTaken.autoShown !overdue).fire 16) s.fansTaken.fan Reg.fanStat
      (autoWord (s.reg Reg.fanStat) !overdue) 16 :=
    .of_shown hbefore (by decide) ((reg_autoShown _).trans (by rw [hreg])) (fun a ha => (reg_autoShown_ne _ ha).trans (hreg a)) (by decide)
  have hlog := hshown.fault_log (by rw [State.fire_log, hbefore]) 0x0806 (if overdue then 0 else 1)
  have hreports := forEach_fanEntry_reported ((hshown.fault 0x0806 (if overdue then 0 else 1)).fits hfits) 6 l
  obtain ⟨t, hnext, hframe, hfan, hlogT, hstat, hmem, hkept, hfired⟩ :=
    ((hshown.fault _ _).reported hreports).answers_chans hchans (henter ▸ hexec)
  obtain ⟨hauto, hcause, hrest⟩ := autoWord_fields (s.reg Reg.fanStat) (!overdue)
  refine ⟨t, hnext, hframe, ?_, ?_, ?_, fun f hf => (fan1_congr hfan f).trans (hrecords f hf), hlogT.trans (hreports.log.trans hlog), hmem,
    hkept, hfired⟩
  · rw [State.fanAutoOn, State.rb, hstat, hauto]
  · rw [State.rb, hstat, hcause]
  · rw [State.rf, hstat, hrest]
    rfl

/-! ### The exit (R240) -/

theorem exec_fanAutoExit (hmay : mayWrite who 10 s) : exec (.fanAutoExit who v) s = (s.fanAutoExitWrite v).done :=
  congrArg State.done (State.guardWrite_eq present_fan hmay)

theorem exec_fanAutoExit_off (hmay : mayWrite who 10 s) (hoff : s.fanAutoOn = false) : exec (.fanAutoExit who v) s = s.done := by
  rw [exec_fanAutoExit hmay, State.fanAutoExitWrite, if_pos (by simp [hoff])]

/-- FAN_REFRESH was written within FAN_SUPERVISE (R240). -/
def State.fanFresh (s : State) : Bool := match s.fan.written with | some t => decide (s.now ≤ t + s.fanSuperviseTicks) | none => false

/-- Every fan slews from its Q back to its normal duty (R240). -/
def State.fansReleased (s : State) : State :=
  s.forEach (List.range s.nFans) (fun s f => s.setFan f { s.fan1 f with slew := true })

theorem fansReleased_released :
    FansRenewed s s.fansReleased ∧
      ∀ f, f < s.nFans → s.fansReleased.fan1 f = { s.fan1 f with slew := true } := by
  have hown : OwnRecord fun s f => { s.fan1 f with slew := true } := fun s x f h => by
    dsimp only
    rw [h]
  obtain ⟨hrenewed, hrecords⟩ := forEach_setFan (s := s) hown (List.nodup_range (n := s.nFans))
  exact ⟨hrenewed, fun f hf => (hrecords f).trans (if_pos (List.mem_range.mpr hf))⟩

theorem fanAutoExitWrite_refused (hv : bitOf v 0 = true) (hon : s.fanAutoOn = true) (h : s.fanFresh = false ∨ s.rb Reg.pwrStat 2 = true) :
    s.fanAutoExitWrite v = s.setRb Reg.fanStat 2 true := by
  have hrefused : (!s.fanFresh || s.rb Reg.pwrStat 2) = true := by simpa using h
  rw [State.fanAutoExitWrite, if_neg (by simp [hv, hon])]
  exact if_pos hrefused

theorem fanAutoExitWrite_taken (hv : bitOf v 0 = true) (hon : s.fanAutoOn = true) (hfresh : s.fanFresh = true)
    (hunwarned : s.rb Reg.pwrStat 2 = false) :
    ∃ l, s.fanAutoExitWrite v = ((((s.setRb Reg.fanStat 0 false).fire 16).fansReleased).runnersReported l 7).happen 16 7 := by
  have htaken : ¬(!s.fanFresh || s.rb Reg.pwrStat 2) = true := by simp [hfresh, hunwarned]
  rw [State.fanAutoExitWrite, if_neg (by simp [hv, hon])]
  exact ⟨_, if_neg htaken⟩

theorem answers_fanAutoExit {last : Nat} (hmay : mayWrite who 10 s) (hv : bitOf v 0 = true) (hon : s.fanAutoOn = true)
    (hwritten : s.fan.written = some last) (hlast : s.now ≤ last + s.fanSuperviseTicks) (hunwarned : s.rb Reg.pwrStat 2 = false)
    (hfits : s.ringFits 20 8) :
    ∃ t, exec (.fanAutoExit who v) s = .next t ∧
      t = { s with regs := t.regs, mem := t.mem, held := t.held, log := t.log, fan := { s.fan with chans := t.fan.chans },
                   cen := cenNoted s t } ∧
      t.fanAutoOn = false ∧ t.rf Reg.fanStat 1 3 = s.rf Reg.fanStat 1 3 ∧ (∀ f, f < s.nFans → t.fan1 f = { s.fan1 f with slew := true }) ∧
      t.log = (s.happen 16 7).log ∧ memKeptOutsideRing s t 20 ∧ regsKept s t (Reg.fanStat :: ringRegs 20) ∧ eventsFired s t [16] := by
  have hfresh : s.fanFresh = true := by rw [State.fanFresh, hwritten]; exact decide_eq_true hlast
  obtain ⟨l, hexit⟩ := fanAutoExitWrite_taken hv hon hfresh hunwarned
  have hexec := hexit ▸ exec_fanAutoExit hmay
  have hshown : FanAlarm s ((s.setRb Reg.fanStat 0 false).fire 16) s.fan Reg.fanStat (putBit (s.reg Reg.fanStat) 0 false) 16 :=
    .of_shown rfl (by decide) (State.reg_setReg_same _ _ _) (fun a ha => State.reg_setRb_ne _ _ _ _ _ ha) (by decide)
  have hlog : ((s.setRb Reg.fanStat 0 false).fire 16).log = s.log := State.fire_log _ _
  generalize (s.setRb Reg.fanStat 0 false).fire 16 = u at hexec hshown hlog
  obtain ⟨⟨hreleased, hchans⟩, hrecords⟩ := fansReleased_released (s := u)
  have hfans : u.nFans = s.nFans := by rw [hshown.frame]; rfl
  have hfan : u.fan = s.fan := by rw [hshown.frame]
  have hfree : FanAlarm s u.fansReleased u.fansReleased.fan Reg.fanStat (putBit (s.reg Reg.fanStat) 0 false) 16 := by
    have hset := hshown.setFanSt u.fansReleased.fan
    rwa [← hreleased] at hset
  have hreports := forEach_fanEntry_reported (hfree.fits hfits) 7 l
  have hreported := hfree.reported hreports
  have hlogR := hreported.happen_log (hreports.log.trans ((congrArg State.log hreleased).trans hlog)) 16 7
  obtain ⟨t, hnext, hframe, hfanT, hlogT, hstat, hmem, hkept, hfired⟩ := (hreported.happen 16 7).answers_chans (hfan ▸ hchans) hexec
  refine ⟨t, hnext, hframe, ?_, ?_, fun f hf => ?_, hlogT.trans hlogR, hmem, hkept, hfired⟩
  · rw [State.fanAutoOn, State.rb, hstat]
    exact bitOf_putBit _ 0 false (by decide)
  · rw [State.rf, hstat, putBit, fld_putFld_apart _ _ _ _ _ _ (by decide) (by decide)]
    rfl
  · rw [fan1_congr hfanT, hrecords f (hfans ▸ hf), fan1_congr hfan]

theorem answers_fanAutoExit_refused (hmay : mayWrite who 10 s) (hv : bitOf v 0 = true) (hon : s.fanAutoOn = true)
    (h : s.fan.written = none ∨ (∃ last, s.fan.written = some last ∧ last + s.fanSuperviseTicks < s.now) ∨ s.rb Reg.pwrStat 2 = true) :
    ∃ t, exec (.fanAutoExit who v) s = .next t ∧ t = { s with regs := t.regs, cen := cenNoted s t } ∧ t.rb Reg.fanStat 2 = true ∧
      t.fanAutoOn = true ∧ regsKept s t [Reg.fanStat] ∧ eventsFired s t [] := by
  have hrefused : s.fanFresh = false ∨ s.rb Reg.pwrStat 2 = true := by
    rcases h with hnone | ⟨last, hlast, hold⟩ | hwarned
    · exact .inl (by rw [State.fanFresh, hnone])
    · exact .inl (by rw [State.fanFresh, hlast]; exact decide_eq_false (Nat.not_le.mpr hold))
    · exact .inr hwarned
  have hexec := fanAutoExitWrite_refused hv hon hrefused ▸ exec_fanAutoExit hmay
  obtain ⟨t, hnext, hframe, hval, hkept, hfired⟩ := answers_setReg (fanReg_notMem_latch (by decide)) hexec
  refine ⟨t, hnext, hframe, ?_, ?_, hkept, hfired⟩
  · rw [State.rb, hval]
    exact bitOf_putBit _ 2 true (by decide)
  · rw [State.fanAutoOn, State.rb, hval]
    exact (bitOf_putFld_apart _ _ _ _ _ (by decide) (by decide)).trans hon

end Sys2Proof.Machine
end

section
/-! PROOFS. The registers of a fan's block, the SHDN path, and LOCK (R242-R244, R250). -/

namespace Sys2Proof.Machine

variable {s u : State} {who : Init} {v : Word} {f : Nat}

/-! ### The block of a fan (R250) -/

/-- The right of FAN and a fan the variant has: the write is made. -/
theorem exec_fanConfigWrite (off : Nat) (v : Word) (hf : f < s.nFans) (hmay : mayWrite who 10 s) :
    exec (.fanConfigWrite who f off v) s = (s.fanWrite f (4 * (off / 4 % 16)) v).done := by
  have hmod : f % 16 = f := Nat.mod_eq_of_lt (hf.trans_le (nFans_le s))
  show execFanConfigWrite who f off v s = _
  rw [execFanConfigWrite, hmod, if_neg (by omega), State.guardWrite_eq present_fan hmay]

/-- Offsets of the block registers that take a write, each with the bits it has. -/
def fanPlain : List (Nat × Nat) :=
  [(0x00, 0xFFFFFFFF), (0x04, 0xFFFF00FF), (0x08, 0xFFFFFFFF), (0x0C, 0xFFFFFFFF), (0x10, 0xFF), (0x14, 0xFFFFFFFF), (0x18, 0xFFFF)]

/-- Offsets of the block registers that a fan in operation keeps from the host (R250). -/
def fanGuarded : List Nat := [0x00, 0x04, 0x18]

/-- A write of a block register comes to nothing, or to a register of FAN. -/
theorem fanWrite_cases (off : Nat) (v : Word) :
    s.fanWrite f off v = s ∨ ∃ a x, 0x600A0000 ≤ a ∧ s.fanWrite f off v = s.setReg a x := by
  have hset : ∀ (a : Nat) (x : Word), Reg.fanfCfg f ≤ a → ∃ b y, 0x600A0000 ≤ b ∧ s.setReg a x = s.setReg b y := fun a x ha =>
    ⟨a, x, by simp only [Reg.fanfCfg] at ha; omega, rfl⟩
  have hguarded : ∀ (a : Nat) (x : Word), Reg.fanfCfg f ≤ a → ∃ b y, 0x600A0000 ≤ b ∧
      (if (s.hostOwns 10 && s.fanRuns f) = true then s.setRb Reg.fanStat 3 true else s.setReg a x) = s.setReg b y := fun a x ha => by
    split
    · exact ⟨Reg.fanStat, _, by decide, rfl⟩
    · exact hset a x ha
  unfold State.fanWrite
  dsimp only
  split
  · exact .inr (hguarded _ _ le_rfl)
  · exact .inr (hguarded _ _ (by simp only [Reg.fanfCfg, Reg.fanfMeas]; omega))
  · exact .inr (hset _ _ (by simp only [Reg.fanfCfg, Reg.fanfIlo]; omega))
  · exact .inr (hset _ _ (by simp only [Reg.fanfCfg, Reg.fanfIstall]; omega))
  · exact .inr (hset _ _ (by simp only [Reg.fanfCfg, Reg.fanfDemen]; omega))
  · exact .inr (hset _ _ (by simp only [Reg.fanfCfg, Reg.fanfDutycmd]; omega))
  · exact .inr (hguarded _ _ (by simp only [Reg.fanfCfg, Reg.fanfAutoch]; omega))
  · exact .inl rfl

theorem fanWrite_frame (off : Nat) (v : Word) :
    RegFrame s s (s.fanWrite f off v) ∧ ∀ a ∈ latchRegs, (s.fanWrite f off v).reg a = s.reg a := by
  rcases fanWrite_cases (s := s) (f := f) off v with hnone | ⟨a, x, ha, hset⟩
  · rw [hnone]
    exact ⟨.refl s, fun _ _ => rfl⟩
  · rw [hset]
    exact ⟨(RegFrame.refl s).setReg a x, fun b hb => State.reg_setReg_ne _ _ _ _ fun e => fanReg_notMem_latch ha (e ▸ hb)⟩

/-- After a write of one register. -/
theorem regsKept_of_setReg {t : State} {a : Nat} {x : Word} (ha : a ∉ latchRegs)
    (hreg : ∀ b, b ∉ latchRegs → t.reg b = (s.setReg a x).reg b) : t.reg a = x ∧ regsKept s t [a] :=
  ⟨(hreg a ha).trans (State.reg_setReg_same s a x),
    fun b hb hlatch => (hreg b hlatch).trans (State.reg_setReg_ne s _ _ _ (by simpa using hb))⟩

theorem fanWrite_refused {off : Nat} (hown : s.hostOwns 10 = true) (hruns : s.fanRuns f = true) (hoff : off ∈ fanGuarded) :
    s.fanWrite f off v = s.setRb Reg.fanStat 3 true := by
  simp only [fanGuarded, List.mem_cons, List.not_mem_nil, or_false] at hoff
  rcases hoff with rfl | rfl | rfl <;> simp [State.fanWrite, hown, hruns]

/-- The registers of a block by their offsets (07_fans, Registers). -/
theorem fanBlock_offsets (f : Nat) :
    Reg.fanfMeas f = Reg.fanfCfg f + 0x04 ∧ Reg.fanfIlo f = Reg.fanfCfg f + 0x08 ∧ Reg.fanfIstall f = Reg.fanfCfg f + 0x0C ∧
      Reg.fanfDemen f = Reg.fanfCfg f + 0x10 ∧ Reg.fanfDutycmd f = Reg.fanfCfg f + 0x14 ∧ Reg.fanfAutoch f = Reg.fanfCfg f + 0x18 := by
  simp only [Reg.fanfCfg, Reg.fanfMeas, Reg.fanfIlo, Reg.fanfIstall, Reg.fanfDemen, Reg.fanfDutycmd, Reg.fanfAutoch]
  omega

theorem fanWrite_plain : ∀ p ∈ fanPlain, (s.hostOwns 10 && s.fanRuns f) = false ∨ p.1 ∉ fanGuarded →
    s.fanWrite f p.1 v = s.setReg (Reg.fanfCfg f + p.1) (v &&& BitVec.ofNat 32 p.2) := by
  obtain ⟨hmeas, hilo, histall, hdemen, hdutycmd, hautoch⟩ := fanBlock_offsets f
  have hall : v &&& BitVec.ofNat 32 0xFFFFFFFF = v := BitVec.and_allOnes
  have hfree : ∀ {off : Nat}, (s.hostOwns 10 && s.fanRuns f) = false ∨ off ∉ fanGuarded → off ∈ fanGuarded →
      (s.hostOwns 10 && s.fanRuns f) = false := fun h hoff => h.resolve_right (not_not_intro hoff)
  simp only [fanPlain, List.forall_mem_cons, List.not_mem_nil, false_implies, implies_true, and_true]
  refine ⟨fun h => ?_, fun h => ?_, fun _ => ?_, fun _ => ?_, fun _ => ?_, fun _ => ?_, fun h => ?_⟩
  · rw [hall]
    simp [State.fanWrite, hfree h (by decide)]
  · simp [State.fanWrite, hfree h (by decide), hmeas]
  · rw [← hilo, hall]
    rfl
  · rw [← histall, hall]
    rfl
  · rw [← hdemen]
    rfl
  · rw [← hdutycmd, hall]
    rfl
  · simp [State.fanWrite, hfree h (by decide), hautoch]

theorem answers_fanConfigWrite (off : Nat) (v : Word) (hf : f < s.nFans) (hmay : mayWrite who 10 s) :
    ∃ t, exec (.fanConfigWrite who f off v) s = .next t ∧ t = { s with regs := t.regs, cen := cenNoted s t } ∧ eventsFired s t [] ∧
      (off ∈ fanGuarded → s.hostOwns 10 = true → s.fanRuns f = true → t.rb Reg.fanStat 3 = true ∧ regsKept s t [Reg.fanStat]) ∧
      (∀ p ∈ fanPlain, off = p.1 → s.hostOwns 10 = false ∨ s.fanRuns f = false ∨ off ∈ [0x08, 0x0C, 0x10, 0x14] →
        t.reg (Reg.fanfCfg f + off) = v &&& BitVec.ofNat 32 p.2 ∧ regsKept s t [Reg.fanfCfg f + off]) := by
  have haligned : ∀ p ∈ fanPlain, 4 * (p.1 / 4 % 16) = p.1 := by decide
  have hunguarded : ∀ p ∈ fanPlain, p.1 ∈ [0x08, 0x0C, 0x10, 0x14] → p.1 ∉ fanGuarded := by decide
  have hguarded : ∀ off ∈ fanGuarded, 4 * (off / 4 % 16) = off := by decide
  obtain ⟨hframe, hlatch⟩ := fanWrite_frame (s := s) (f := f) (4 * (off / 4 % 16)) v
  obtain ⟨t, hnext, hframeT, hfired, hreg⟩ := answers_regs (exec_fanConfigWrite off v hf hmay) hframe hlatch
  refine ⟨t, hnext, hframeT, hfired, fun hoff hown hruns => ?_, fun p hp hoff hfree => ?_⟩
  · rw [hguarded off hoff, fanWrite_refused hown hruns hoff] at hreg
    obtain ⟨hval, hkept⟩ := regsKept_of_setReg (fanReg_notMem_latch (by decide)) hreg
    refine ⟨?_, hkept⟩
    rw [State.rb, hval]
    exact bitOf_putBit _ 3 true (by decide)
  · subst hoff
    have hplain : (s.hostOwns 10 && s.fanRuns f) = false ∨ p.1 ∉ fanGuarded := by
      rcases hfree with hown | hruns | hoff
      · exact .inl (by rw [hown, Bool.false_and])
      · exact .inl (by rw [hruns, Bool.and_false])
      · exact .inr (hunguarded p hp hoff)
    rw [haligned p hp, fanWrite_plain p hp hplain] at hreg
    exact regsKept_of_setReg (fanReg_notMem_latch (by simp only [Reg.fanfCfg]; omega)) hreg

/-! ### SHDN asserted by a failed input (R243) -/

theorem exec_shdnSensor {j from_ : Nat} (hj : j < 4) (hawake : s.awake = true) (harmed : s.shdnArmed = true) (hvalid : s.shdnValid j = true)
    (hfail : (s.shdnIn j).failSince = some from_) (hlong : from_ + 40000 ≤ s.now) :
    exec (.shdnSensor j) s = (s.shdnAssert j true).done := by
  show execShdnSensor j s = _
  simp [execShdnSensor, hj, hawake, harmed, hvalid, hfail, hlong]

theorem exec_shdnSensor_none (j : Nat) (h : s.shdnArmed = false ∨ s.shdnOn = true ∨ (s.shdnIn j).failSince = none) :
    exec (.shdnSensor j) s = s.done := by
  show execShdnSensor j s = _
  unfold execShdnSensor
  rcases h with hdisarmed | hon | hgood
  · simp [hdisarmed]
  · simp [State.shdnAssert, hon]
  · simp [hgood]

/-- FAN_SHDN_STAT after a failed input has asserted SHDN: on, by a sensor. -/
def sensorWord (x : Word) : Word := putBit (putBit x 3 true) 5 true

/-- FAN_SHDN_STAT shows SHDN asserted by a sensor. -/
def State.shdnShown (s : State) : State := (s.setRb Reg.fanShdnStat 3 true).setRb Reg.fanShdnStat 5 true

theorem reg_shdnShown : s.shdnShown.reg Reg.fanShdnStat = sensorWord (s.reg Reg.fanShdnStat) := by
  simp only [State.shdnShown, State.setRb, State.setRf, State.reg_setReg_same]
  rfl

theorem reg_shdnShown_ne {a : Nat} (ha : a ≠ Reg.fanShdnStat) : s.shdnShown.reg a = s.reg a := by
  rw [State.shdnShown, State.reg_setRb_ne _ _ _ _ _ ha, State.reg_setRb_ne _ _ _ _ _ ha]

/-- FAN remembers which input has asserted SHDN. -/
def State.shdnNamed (s : State) (j : Nat) : State := { s with fan := { s.fan with shdnBy := j } }

theorem shdnAssert_sensor {j : Nat} (hoff : s.shdnOn = false) :
    ∃ b0 kind cause n, s.shdnAssert j true = ((((s.shdnShown.fire 17).shdnNamed j).fault 0x0808
      (((s.shdnShown.fire 17).shdnNamed j).shdnCh j)).fanEntry b0 kind cause n) := by
  rw [State.shdnAssert, if_neg (by simp [hoff])]
  exact ⟨_, _, _, _, rfl⟩

theorem answers_shdnSensor {j from_ : Nat} (hj : j < 4) (hawake : s.awake = true) (harmed : s.shdnArmed = true)
    (hvalid : s.shdnValid j = true) (hfail : (s.shdnIn j).failSince = some from_) (hlong : from_ + 40000 ≤ s.now) (hoff : s.shdnOn = false)
    (hfits : s.ringFits 20 8) :
    ∃ t, exec (.shdnSensor j) s = .next t ∧
      t = { s with regs := t.regs, mem := t.mem, held := t.held, log := t.log, fan := { s.fan with shdnBy := j }, cen := cenNoted s t } ∧
      t.shdnOn = true ∧ t.rb Reg.fanShdnStat 5 = true ∧ t.log = (s.fault 0x0808 (s.shdnCh j)).log ∧ memKeptOutsideRing s t 20 ∧
      regsKept s t (Reg.fanShdnStat :: ringRegs 20) ∧ eventsFired s t [17] := by
  obtain ⟨b0, kind, cause, n, hassert⟩ := shdnAssert_sensor (j := j) hoff
  have hexec := hassert ▸ exec_shdnSensor hj hawake harmed hvalid hfail hlong
  have hshown : FanAlarm s (s.shdnShown.fire 17) s.fan Reg.fanShdnStat (sensorWord (s.reg Reg.fanShdnStat)) 17 :=
    .of_shown rfl (by decide) reg_shdnShown (fun a ha => reg_shdnShown_ne ha) (by decide)
  have hlogS : (s.shdnShown.fire 17).log = s.log := State.fire_log _ _
  generalize s.shdnShown.fire 17 = u at hexec hshown hlogS
  have hfan : u.fan = s.fan := by rw [hshown.frame]
  have hnamed : FanAlarm s (u.shdnNamed j) { s.fan with shdnBy := j } Reg.fanShdnStat (sensorWord (s.reg Reg.fanShdnStat)) 17 := by
    rw [State.shdnNamed, hfan]
    exact hshown.setFanSt _
  have hch : (u.shdnNamed j).shdnCh j = s.shdnCh j := by
    rw [State.shdnCh, State.rf, hnamed.regs Reg.fanShdnSel (by decide) (by decide)]
    rfl
  rw [hch] at hexec
  have hlog := hnamed.fault_log hlogS 0x0808 (s.shdnCh j)
  have hfault := hnamed.fault 0x0808 (s.shdnCh j)
  have hreport := fanEntry_reported (hfault.fits hfits) b0 kind cause n
  obtain ⟨t, hnext, hframe, -, hlogT, hstat, hmem, hkept, hfired⟩ := (hfault.reported hreport).answers hexec
  refine ⟨t, hnext, hframe, ?_, ?_, hlogT.trans (hreport.log.trans hlog), hmem, hkept, hfired⟩
  · rw [State.shdnOn, State.rb, hstat, sensorWord, putBit, bitOf_putFld_apart _ _ _ _ _ (by decide) (by decide)]
    exact bitOf_putBit _ 3 true (by decide)
  · rw [State.rb, hstat]
    exact bitOf_putBit _ 5 true (by decide)

/-! ### The release of SHDN (R244) -/

/-- Input j has read in range for 60 s. -/
def State.shdnGood (s : State) (j : Nat) : Bool := match (s.shdnIn j).okSince with | some t => decide (t + 240000 ≤ s.now) | none => false

/-- What SHDN_RELEASE comes to, where it is due. -/
def State.shdnReleased (s : State) : State :=
  (((s.setRb Reg.fanShdnStat 3 false).fire 17).fanEntry (0xF0 + ((s.setRb Reg.fanShdnStat 3 false).fire 17).fan.shdnBy) 9 0 0).happen 17 9

theorem execShdnRelease_eq :
    execShdnRelease s = (if s.awake && s.shdnOn && !((List.range 4).filter s.shdnValid).isEmpty &&
      ((List.range 4).filter s.shdnValid).all s.shdnGood then s.shdnReleased else s).done := rfl

theorem exec_shdnRelease (hawake : s.awake = true) (hon : s.shdnOn = true) (hwatched : ∃ j, j < 4 ∧ s.shdnValid j = true)
    (hgood : ∀ j, j < 4 → s.shdnValid j = true → ∃ from_, (s.shdnIn j).okSince = some from_ ∧ from_ + 240000 ≤ s.now) :
    exec .shdnRelease s = s.shdnReleased.done := by
  have hsome : ((List.range 4).filter s.shdnValid).isEmpty = false := by
    obtain ⟨j, hj, hvalid⟩ := hwatched
    exact List.isEmpty_eq_false_iff_exists_mem.mpr ⟨j, List.mem_filter.mpr ⟨List.mem_range.mpr hj, hvalid⟩⟩
  have hall : ((List.range 4).filter s.shdnValid).all s.shdnGood = true := by
    refine List.all_eq_true.mpr fun j hj => ?_
    obtain ⟨hj, hvalid⟩ := List.mem_filter.mp hj
    obtain ⟨from_, hok, hlong⟩ := hgood j (List.mem_range.mp hj) hvalid
    rw [State.shdnGood, hok]
    exact decide_eq_true hlong
  show execShdnRelease s = _
  rw [execShdnRelease_eq, if_pos (by simp [hawake, hon, hsome, hall])]

theorem exec_shdnRelease_none {j : Nat} (hj : j < 4) (hvalid : s.shdnValid j = true) (hbad : (s.shdnIn j).okSince = none) :
    exec .shdnRelease s = s.done := by
  have hnot : ((List.range 4).filter s.shdnValid).all s.shdnGood = false :=
    List.all_eq_false.mpr ⟨j, List.mem_filter.mpr ⟨List.mem_range.mpr hj, hvalid⟩, by simp [State.shdnGood, hbad]⟩
  show execShdnRelease s = _
  rw [execShdnRelease_eq, hnot, Bool.and_false, if_neg Bool.false_ne_true]

theorem answers_shdnRelease (hawake : s.awake = true) (hon : s.shdnOn = true) (hwatched : ∃ j, j < 4 ∧ s.shdnValid j = true)
    (hgood : ∀ j, j < 4 → s.shdnValid j = true → ∃ from_, (s.shdnIn j).okSince = some from_ ∧ from_ + 240000 ≤ s.now)
    (hfits : s.ringFits 20 8) :
    ∃ t, exec .shdnRelease s = .next t ∧
      t = { s with regs := t.regs, mem := t.mem, held := t.held, log := t.log, cen := cenNoted s t } ∧
      t.shdnOn = false ∧ t.rb Reg.fanShdnStat 5 = s.rb Reg.fanShdnStat 5 ∧ t.log = (s.happen 17 9).log ∧ memKeptOutsideRing s t 20 ∧
      regsKept s t (Reg.fanShdnStat :: ringRegs 20) ∧ eventsFired s t [17] := by
  have hexec := exec_shdnRelease hawake hon hwatched hgood
  have hshown : FanAlarm s ((s.setRb Reg.fanShdnStat 3 false).fire 17) s.fan Reg.fanShdnStat (putBit (s.reg Reg.fanShdnStat) 3 false) 17 :=
    .of_shown rfl (by decide) (State.reg_setReg_same _ _ _) (fun a ha => State.reg_setRb_ne _ _ _ _ _ ha) (by decide)
  have hlogS : ((s.setRb Reg.fanShdnStat 3 false).fire 17).log = s.log := State.fire_log _ _
  unfold State.shdnReleased at hexec
  generalize (s.setRb Reg.fanShdnStat 3 false).fire 17 = u at hexec hshown hlogS
  have hreport := fanEntry_reported (hshown.fits hfits) (0xF0 + u.fan.shdnBy) 9 0 0
  have hreported := hshown.reported hreport
  have hlog := hreported.happen_log (hreport.log.trans hlogS) 17 9
  obtain ⟨t, hnext, hframe, -, hlogT, hstat, hmem, hkept, hfired⟩ := (hreported.happen 17 9).answers hexec
  refine ⟨t, hnext, hframe, ?_, ?_, hlogT.trans hlog, hmem, hkept, hfired⟩
  · rw [State.shdnOn, State.rb, hstat]
    exact bitOf_putBit _ 3 false (by decide)
  · rw [State.rb, hstat]
    exact bitOf_putFld_apart _ _ _ _ _ (by decide) (by decide)

/-! ### LOCK (R242) -/

theorem exec_shdnLock (hmay : mayWrite who 10 s) : exec (.shdnLock who) s = s.shdnDoLock.done :=
  congrArg State.done (State.guardWrite_eq present_fan hmay)

/-- The fault of a lock that is set where an SHDN_T is strapped and nothing is watched. -/
abbrev State.lockFaulty (s : State) : Prop :=
  s.rb Reg.fanShdnCtrl 0 = false ∧ s.shdnT ≠ 0 ∧ (List.range 4).any s.shdnValid = false

/-- LOCK is set, once, and the log takes the fault where there is one. -/
structure Locked (s u : State) : Prop where
  frame : RegFrame s { s with log := if s.lockFaulty then (s.fault 0x080A 0).log else s.log } u
  ctrl : u.rb Reg.fanShdnCtrl 0 = true
  regs : ∀ a, a ≠ Reg.fanShdnCtrl → u.reg a = s.reg a

/-- LOCK does not change what is watched, nor SHDN_T. -/
theorem shdnValid_setCtrl (x : Word) : (s.setReg Reg.fanShdnCtrl x).shdnValid = s.shdnValid := by
  funext j
  simp only [State.shdnValid, State.shdnCh, State.rf, State.rb, State.reg_setReg_ne s Reg.fanShdnCtrl Reg.fanShdnSel x (by decide)]
  rfl

theorem shdnT_setCtrl (x : Word) : (s.setReg Reg.fanShdnCtrl x).shdnT = s.shdnT := by
  rw [State.shdnT, State.rf, State.reg_setReg_ne _ _ _ _ (by decide)]
  rfl

theorem shdnDoLock_of_clear (hclear : s.rb Reg.fanShdnCtrl 0 = false) :
    s.shdnDoLock = if s.lockFaulty then (s.setRb Reg.fanShdnCtrl 0 true).fault 0x080A 0 else s.setRb Reg.fanShdnCtrl 0 true := by
  rw [State.shdnDoLock, if_neg (by simp [hclear])]
  dsimp only [State.setRb, State.setRf]
  rw [shdnValid_setCtrl, shdnT_setCtrl]
  exact if_congr (by simp [State.lockFaulty, hclear]) rfl rfl

theorem shdnDoLock_locked : Locked s s.shdnDoLock := by
  cases hctrl : s.rb Reg.fanShdnCtrl 0 with
  | true =>
    have hsound : ¬ s.lockFaulty := fun ⟨hclear, _⟩ => by simp [hctrl] at hclear
    rw [State.shdnDoLock, if_pos hctrl]
    exact ⟨by rw [if_neg hsound]; exact .refl s, hctrl, fun _ _ => rfl⟩
  | false =>
    have hset := State.rb_setRb s Reg.fanShdnCtrl 0 true (by decide)
    have hother : ∀ a, a ≠ Reg.fanShdnCtrl → (s.setRb Reg.fanShdnCtrl 0 true).reg a = s.reg a := fun a ha =>
      State.reg_setRb_ne _ _ _ _ _ ha
    rw [shdnDoLock_of_clear hctrl]
    by_cases hfaulty : s.lockFaulty
    · have hlog : ((s.setRb Reg.fanShdnCtrl 0 true).fault 0x080A 0).log = (s.fault 0x080A 0).log :=
        State.fault_log_congr _ _ rfl rfl rfl rfl fun a ha => hother a (by revert a; decide)
      rw [if_pos hfaulty]
      refine ⟨?_, ?_, fun a ha => (State.reg_fault _ _ _ a).trans (hother a ha)⟩
      · unfold RegFrame
        rw [if_pos hfaulty, ← hlog, State.fault_eq]
        rfl
      · rw [State.rb, State.reg_fault]
        exact hset
    · rw [if_neg hfaulty]
      exact ⟨by rw [if_neg hfaulty]; rfl, hset, hother⟩

theorem answers_shdnLock (hmay : mayWrite who 10 s) :
    ∃ t, exec (.shdnLock who) s = .next t ∧ t = { s with regs := t.regs, log := t.log, cen := cenNoted s t } ∧
      t.rb Reg.fanShdnCtrl 0 = true ∧ t.log = (if s.lockFaulty then (s.fault 0x080A 0).log else s.log) ∧
      regsKept s t [Reg.fanShdnCtrl] ∧ eventsFired s t [] := by
  obtain ⟨hframe, hctrl, hregs⟩ := shdnDoLock_locked (s := s)
  obtain ⟨hend, hlog⟩ := hframe.settle_logged
  exact ⟨_, exec_shdnLock hmay, hend, (State.rb_settle (by decide) 0).trans hctrl, hlog,
    regsKept_settle fun a ha _ => hregs a (by simpa using ha),
    eventsFired_nil (by rw [hframe]) fun a ha => hregs a (by revert a; decide)⟩

/-- Settles O27: a refresh is of FAN alone; the mode, its exit and SHDN each show a register, fire, log and report; the rest comes to
one register or to none. -/
theorem fanSupervisionAndShutdownPath : Obligations.FanSupervisionAndShutdownPath :=
  ⟨fun _ _ hmay => answers_fanRefresh hmay,
    fun _ hawake hstep hoff hdue hfits => answers_fanAuto hawake hstep hoff hdue hfits,
    fun _ h => changesNothing_of_done (exec_fanAuto_none h),
    fun _ _ _ _ hmay hv hon hwritten hlast hunwarned hfits => answers_fanAutoExit hmay hv hon hwritten hlast hunwarned hfits,
    fun _ _ _ hmay hv hon h => answers_fanAutoExit_refused hmay hv hon h,
    fun _ _ _ hmay hoff => changesNothing_of_done (exec_fanAutoExit_off hmay hoff),
    fun _ _ off v _ hf hmay => answers_fanConfigWrite off v hf hmay,
    fun _ _ _ hj hawake harmed hvalid hfail hlong hoff hfits => answers_shdnSensor hj hawake harmed hvalid hfail hlong hoff hfits,
    fun j _ h => changesNothing_of_done (exec_shdnSensor_none j h),
    fun _ hawake hon hwatched hgood hfits => answers_shdnRelease hawake hon hwatched hgood hfits,
    fun _ _ hj hvalid hbad => changesNothing_of_done (exec_shdnRelease_none hj hvalid hbad),
    fun _ _ hmay => answers_shdnLock hmay⟩

end Sys2Proof.Machine
end

section
/-! PROOFS. A request of the host port: how it is accepted, and how its answer leaves (R284, R286, R288, R290). -/

namespace Sys2Proof.Machine

variable {s u v : State} {t : Txn} {a : OdAns} {n : Nat}

/-! ### An entry offered to a ring that may hold its producer (R459) -/

/-- From s to u what a ring's offer may touch has changed: registers, memory, the held entries, and what CEN notes of events. -/
def OfferFrame (s u : State) : Prop := u = { s with regs := u.regs, mem := u.mem, held := u.held, cen := cenNoted s u }

theorem OfferFrame.trans (hsu : OfferFrame s u) (huv : OfferFrame u v) : OfferFrame s v := by
  unfold OfferFrame at *
  rw [huv, hsu]
  rfl

theorem StoreFrame.offerFrame (h : StoreFrame s u) : OfferFrame s u := by
  unfold OfferFrame
  rw [h]
  rfl

/-- An entry that fits the ring is written, dropped or held: the ring's registers and storage, and the held entries. -/
theorem ringOffer_kept {e : List Byte} (hfits : s.ringFits n e.length) :
    OfferFrame s (s.ringOffer n e) ∧ (∀ r, r ∉ ringRegs n → (s.ringOffer n e).reg r = s.reg r) ∧
      memKeptOutsideRing s (s.ringOffer n e) n := by
  by_cases hheld : s.ringOn n = true ∧ s.ringFull n = true ∧ s.rf (Reg.rngCfg n) 6 2 = 2 ∧ ringCannotWait n = false
  · obtain ⟨hon, hfull, hstall, hwait⟩ := hheld
    have hoffer : s.ringOffer n e = { s with held := s.held ++ [{ ring := n, data := e }] } := by
      simp [State.ringOffer, hon, hfits hon, hfull, hstall, hwait]
    rw [hoffer]
    exact ⟨rfl, fun _ _ => rfl, fun _ _ => rfl⟩
  · suffices h : RingOffered s (s.ringOffer n e) n e from ⟨h.frame.offerFrame, h.regs, h.mem⟩
    by_cases hready : s.ringOn n = true → s.rf (Reg.rngCfg n) 6 2 ≠ 2
    · exact ringOffer_offered ⟨hfits, hready⟩
    · obtain ⟨hon, hstall⟩ : s.ringOn n = true ∧ s.rf (Reg.rngCfg n) 6 2 = 2 := by simpa using hready
      cases hwait : ringCannotWait n with
      | true => exact ringOffer_offered_of_cannotWait hfits hwait
      | false =>
        have hfull : s.ringFull n = false := by simpa [hon, hstall, hwait] using hheld
        have hpush : s.ringOffer n e = s.ringPush n e := by simp [State.ringOffer, hon, hfits hon, hfull]
        rw [hpush]
        exact ringPush_offered (hfits hon) (.refl s) (fun _ _ => rfl) rfl rfl

/-! ### The answer to the host port (R284, R286) -/

/-- Is the record of an answer cut short: it does not fit the request's capacity or the shared window? -/
def State.odCut (s : State) (t : Txn) (a : OdAns) : Bool :=
  (s.odRecord t a).length > t.cap || t.respAt + (s.odRecord t a).length > 0x4000

/-- The bytes of an answer in the shared window. -/
def State.odBody (s : State) (t : Txn) (a : OdAns) : List Byte :=
  if s.odCut t a then (0x0A : Byte) :: ((s.odRecord t a).take 16).drop 1 else s.odRecord t a

/-- The shared window takes the answer, where it has the room. -/
def State.odBodyPut (s : State) (t : Txn) (a : OdAns) : State :=
  if t.respAt + (s.odBody t a).length ≤ 0x4000 then s.setBytes (0x30000000 + t.respAt) (s.odBody t a) else s

/-- The entry that goes to ring 13. -/
def State.odEntry (s : State) (t : Txn) (a : OdAns) : List Byte :=
  leBytes 4 t.seqNo ++ [if s.odCut t a then (0x0A : Byte) else BitVec.ofNat 8 a.code, 0, 0, 0] ++ leBytes 2 (s.odBody t a).length ++
    [0, 0, 0, 0, 0, 0]

theorem odSend_host (hport : t.port = 0) :
    s.odSend t a = if (s.odBodyPut t a).ringTakes 13 16 then ((s.odBodyPut t a).ringOffer 13 (s.odEntry t a)).fire 41
      else (s.odBodyPut t a).ringOffer 13 (s.odEntry t a) := by
  unfold State.odSend
  rw [hport]
  rfl

theorem odEntry_length : (s.odEntry t a).length = 16 := by simp [State.odEntry]

theorem odBody_length_le : (s.odBody t a).length ≤ max 16 t.cap := by
  unfold State.odBody
  cases hcut : s.odCut t a with
  | true =>
    rw [if_pos rfl, List.length_cons, List.length_drop, List.length_take]
    omega
  | false =>
    have hcap : (s.odRecord t a).length ≤ t.cap := by
      simp only [State.odCut, Bool.or_eq_false_iff, decide_eq_false_iff_not] at hcut
      omega
    rw [if_neg Bool.false_ne_true]
    omega

theorem odBodyPut_frame : StoreFrame s (s.odBodyPut t a) := by
  unfold State.odBodyPut
  split
  · exact storeFrame_setBytes _ _ _
  · exact .refl s

@[simp] theorem reg_odBodyPut (r : Nat) : (s.odBodyPut t a).reg r = s.reg r := by
  unfold State.odBodyPut
  split
  · exact State.reg_congr (State.setBytes_regs _ _ _) r
  · rfl

theorem byte_odBodyPut_off {x : Nat} (hx : x < 0x30000000 + t.respAt ∨ 0x30000000 + t.respAt + max 16 t.cap ≤ x) :
    (s.odBodyPut t a).byte x = s.byte x := by
  have hlen := odBody_length_le (s := s) (t := t) (a := a)
  unfold State.odBodyPut
  split
  · rw [State.byte_setBytes, if_neg (by omega)]
  · rfl

/-- An answer that fits stands in the window as its record. -/
theorem bytes_odBodyPut (hcap : (s.odRecord t a).length ≤ t.cap) (hwindow : t.respAt + (s.odRecord t a).length ≤ 0x4000) :
    (s.odBodyPut t a).bytes (0x30000000 + t.respAt) (s.odRecord t a).length = s.odRecord t a := by
  have hcut : s.odCut t a = false := by simp [State.odCut, hcap, hwindow]
  have hbody : s.odBody t a = s.odRecord t a := by rw [State.odBody, hcut, if_neg Bool.false_ne_true]
  rw [State.odBodyPut, hbody, if_pos hwindow]
  exact State.bytes_setBytes_same _ _ _

/-- From s to u memory is kept outside ring 13 and the place of an answer. -/
def KeptBesideAnswer (s u : State) (t : Txn) : Prop :=
  ∀ x, s.inRing 13 x = false → x < 0x30000000 + t.respAt ∨ 0x30000000 + t.respAt + max 16 t.cap ≤ x → u.byte x = s.byte x

/-- An answer made in s stands in u as its record, where that fits and lies apart from ring 13. -/
def RecordStands (s u : State) (t : Txn) (a : OdAns) : Prop :=
  (s.odRecord t a).length ≤ t.cap → t.respAt + (s.odRecord t a).length ≤ 0x4000 →
    (∀ x, 0x30000000 + t.respAt ≤ x → x < 0x30000000 + t.respAt + (s.odRecord t a).length → s.inRing 13 x = false) →
    u.bytes (0x30000000 + t.respAt) (s.odRecord t a).length = s.odRecord t a

/-- What an answer to the host port changes: ring 13, event 41 where it takes the entry, and the bytes of the answer. -/
structure HostAnswered (s u : State) (t : Txn) (a : OdAns) : Prop where
  frame : OfferFrame s u
  regs : ∀ r, r ∉ ringRegs 13 → r ∉ latchRegs → u.reg r = s.reg r
  fired : Fired s u (if s.ringTakes 13 16 then [41] else [])
  mem : KeptBesideAnswer s u t
  record : RecordStands s u t a

theorem odBodyPut_sameRing : SameRing s (s.odBodyPut t a) 13 := ⟨reg_odBodyPut _, reg_odBodyPut _, reg_odBodyPut _, reg_odBodyPut _⟩

/-- The answer's entry is offered to ring 13. -/
theorem odEntry_kept (hfits : s.ringFits 13 16) :
    OfferFrame s ((s.odBodyPut t a).ringOffer 13 (s.odEntry t a)) ∧
      (∀ r, r ∉ ringRegs 13 → ((s.odBodyPut t a).ringOffer 13 (s.odEntry t a)).reg r = s.reg r) ∧
      ∀ x, s.inRing 13 x = false → ((s.odBodyPut t a).ringOffer 13 (s.odEntry t a)).byte x = (s.odBodyPut t a).byte x := by
  obtain ⟨hframe, hregs, hmem⟩ :=
    ringOffer_kept (e := s.odEntry t a) (odEntry_length.symm ▸ ringFits_congr (reg_odBodyPut (Reg.rngCfg 13)) hfits)
  exact ⟨odBodyPut_frame.offerFrame.trans hframe, fun r hr => (hregs r hr).trans (reg_odBodyPut r),
    fun x hx => hmem x ((odBodyPut_sameRing.inRing x).trans hx)⟩

theorem fired_odSend (hport : t.port = 0) (hfits : s.ringFits 13 16) : Fired s (s.odSend t a) (if s.ringTakes 13 16 then [41] else []) := by
  have hapart : ∀ r ∈ latchRegs, r ∉ ringRegs 13 := by decide
  obtain ⟨hframe, hregs, -⟩ := odEntry_kept (t := t) (a := a) hfits
  have hoffer : Fired s ((s.odBodyPut t a).ringOffer 13 (s.odEntry t a)) [] :=
    (Fired.refl s).congr (by rw [hframe]) fun r hr => hregs r (hapart r hr)
  rw [odSend_host hport, odBodyPut_sameRing.takes]
  split
  · exact hoffer.fire 41 (by decide)
  · exact hoffer

/-- Event 41 touches neither memory nor a register other than the latches. -/
theorem odSend_after_offer (hport : t.port = 0) :
    OfferFrame ((s.odBodyPut t a).ringOffer 13 (s.odEntry t a)) (s.odSend t a) ∧
      (s.odSend t a).mem = ((s.odBodyPut t a).ringOffer 13 (s.odEntry t a)).mem ∧
      ∀ r, r ∉ latchRegs → (s.odSend t a).reg r = ((s.odBodyPut t a).ringOffer 13 (s.odEntry t a)).reg r := by
  rw [odSend_host hport]
  split
  · exact ⟨(storeFrame_fire _ _).offerFrame, State.fire_mem _ _, fun r hr => State.reg_fire _ _ r hr⟩
  · exact ⟨rfl, rfl, fun _ _ => rfl⟩

theorem odSend_answered (hport : t.port = 0) (hfits : s.ringFits 13 16) : HostAnswered s (s.odSend t a) t a := by
  obtain ⟨hframe, hregs, hmem⟩ := odEntry_kept (t := t) (a := a) hfits
  obtain ⟨hendFrame, hendMem, hendRegs⟩ := odSend_after_offer (s := s) (a := a) hport
  have hbyte : ∀ x, s.inRing 13 x = false → (s.odSend t a).byte x = (s.odBodyPut t a).byte x := fun x hx =>
    (State.byte_congr hendMem x).trans (hmem x hx)
  exact
    { frame := hframe.trans hendFrame
      regs := fun r hr hlatch => (hendRegs r hlatch).trans (hregs r hr)
      fired := fired_odSend hport hfits
      mem := fun x hx hoff => (hbyte x hx).trans (byte_odBodyPut_off hoff)
      record := fun hcap hwindow hout => by
        refine Eq.trans (List.map_congr_left fun i hi => ?_) (bytes_odBodyPut hcap hwindow)
        have hi := List.mem_range.mp hi
        exact hbyte _ (hout _ (by omega) (by omega)) }

/-! ### A transaction ends (R288, R290) -/

/-- An answer that class 30 does not count takes the transaction's place. -/
theorem txnEnd_uncounted (hcode : a.code ∉ [3, 8, 9, 0xB]) :
    s.txnEnd t a = ({ s with od := { s.od with txns := s.od.txns.erase t } } : State).odSend t a := by
  simp only [List.mem_cons, List.not_mem_nil, or_false, not_or] at hcode
  obtain ⟨h3, h8, h9, hB⟩ := hcode
  rw [State.txnEnd, State.odCountRefusal]
  simp [h3, h8, h9, hB]

/-! ### Acceptance (R286, R288) -/

/-- A request of the host port, taken from the TAIL of ring 12 and given an entry. -/
def State.odAccepted (s : State) (t : Txn) : State := (s.setRf (Reg.rngTail 12) 0 16 (s.ringTail 12 + 1)).txnAccept t

theorem reg_odAccepted {r : Nat} (hr : r ∉ [Reg.rngTail 12, Reg.odxHwm]) : (s.odAccepted t).reg r = s.reg r := by
  simp only [List.mem_cons, List.not_mem_nil, or_false, not_or] at hr
  obtain ⟨htail, hhwm⟩ := hr
  rw [← State.reg_setRf_ne s _ 0 16 (s.ringTail 12 + 1) r htail, State.odAccepted, State.txnAccept]
  exact State.reg_setRf_ne _ _ _ _ _ _ hhwm

theorem ringTail_odAccepted : (s.odAccepted t).ringTail 12 = (s.ringTail 12 + 1) % 65536 := by
  have hkept : (s.odAccepted t).reg (Reg.rngTail 12) = (s.setRf (Reg.rngTail 12) 0 16 (s.ringTail 12 + 1)).reg (Reg.rngTail 12) :=
    State.reg_setRf_ne _ _ _ _ _ _ (by decide)
  rw [State.ringTail, State.rf, hkept]
  exact State.rf_setRf _ _ _ _ _ (by decide)

/-- A record of ring 12 comes from the host port, and its integers are little-endian (R256, R286). -/
theorem odHostReq_txn {bytes : List Byte} (h : s.odHostReq = some (t, bytes)) : t.port = 0 ∧ t.little = true := by
  unfold State.odHostReq at h
  split at h
  · cases h
  · cases h
    exact ⟨rfl, rfl⟩

/-- The transaction of a request of the host port. -/
def Txn.ofReq (t : Txn) (op : Nat) (r : OdReq) : Txn := { t with op := op, id := r.id, typ := r.typ }

/-- A request that finds an entry free and passes the checks is carried out (R287, R290). -/
theorem odServe_passed {r : OdReq} {bytes : List Byte} {typ : Option Nat} {role : Nat} {forwarded nvOk : Bool}
    (hr : odParse t.little bytes = r) (hfree : s.txnFree t.port = true) (hlength : r.lengthOk = true)
    (hpass : (s.txnAccept (t.ofReq t.op r)).odRefusal r typ role forwarded = none) :
    s.odServe t bytes 0 typ role forwarded nvOk = (s.txnAccept (t.ofReq t.op r)).odRun (t.ofReq t.op r) r forwarded nvOk := by
  unfold Txn.ofReq at hpass ⊢
  unfold State.odServe
  simp only [hr, hfree, hlength, Bool.not_true, Bool.false_eq_true, if_false, bne_self_eq_false]
  rw [hpass]

theorem odRowOf_eq {bytes : List Byte} {op : Nat} (hop : (odParse true bytes).op = op) (hrow : 1 ≤ op ∧ op ≤ 4) : odRowOf bytes = op := by
  have hbyte : (bytes.getD 0 0).toNat = op := hop
  simp only [odRowOf, hbyte, Bool.and_eq_true, decide_eq_true_eq]
  split <;> omega

/-- The row of a record's own operation carries it out, once it is accepted and passes its checks (R290). -/
theorem odRequest_host {t0 : Txn} {bytes : List Byte} {op : Nat} {nvOk : Bool} (hserves : s.odServes = true)
    (hreq : s.odHostReq = some (t0, bytes)) (hop : (odParse true bytes).op = op) (hrow : 1 ≤ op ∧ op ≤ 4)
    (hlength : (odParse true bytes).lengthOk = true) (hfree : s.txnFree 0 = true)
    (hpass : (s.odAccepted (t0.ofReq op (odParse true bytes))).odRefusal (odParse true bytes) none s.hostRole false = none) :
    s.odRequest .ring12 op nvOk =
      (s.odAccepted (t0.ofReq op (odParse true bytes))).odRun (t0.ofReq op (odParse true bytes)) (odParse true bytes) false nvOk := by
  obtain ⟨hport, hlittle⟩ := odHostReq_txn hreq
  have hfree' : (s.setRf (Reg.rngTail 12) 0 16 (s.ringTail 12 + 1)).txnFree t0.port = true := hport ▸ hfree
  rw [State.odRequest, hserves, hreq]
  simp only [odRowOf_eq hop hrow, Bool.not_true, Bool.false_eq_true, if_false, bne_self_eq_false]
  unfold State.odAccepted at hpass ⊢
  have hr : odParse ({ t0 with op := op } : Txn).little bytes = odParse true bytes := congrArg (odParse · bytes) hlittle
  have hserve := odServe_passed (nvOk := nvOk) hr hfree' hlength hpass
  unfold Txn.ofReq at hserve ⊢
  dsimp only at hserve
  rw [← hserve]
  rfl

/-! ### Accepted and answered (R286, R288, R290) -/

/-- An accepted request whose transaction is over, before its answer leaves. -/
def State.odReleased (s : State) (t : Txn) : State :=
  { s.odAccepted t with od := { (s.odAccepted t).od with txns := (s.odAccepted t).od.txns.erase t } }

theorem odReleased_eq :
    s.odReleased t = { s with regs := (s.odReleased t).regs,
                              od := { s.od with counters := (s.odReleased t).od.counters, txns := (s.od.txns ++ [t]).erase t } } := rfl

theorem reg_odReleased_odAccepted (r : Nat) : (s.odReleased t).reg r = (s.odAccepted t).reg r :=
  State.reg_congr (s := s.odReleased t) (t := s.odAccepted t) rfl r

theorem reg_odReleased {r : Nat} (hr : r ∉ [Reg.rngTail 12, Reg.odxHwm]) : (s.odReleased t).reg r = s.reg r :=
  (reg_odReleased_odAccepted r).trans (reg_odAccepted hr)

theorem odReleased_sameRing : SameRing s (s.odReleased t) 13 :=
  ⟨reg_odReleased (by decide), reg_odReleased (by decide), reg_odReleased (by decide), reg_odReleased (by decide)⟩

theorem odRecord_odReleased : (s.odReleased t).odRecord t a = s.odRecord t a := rfl

/-- The request's transaction is over, and its answer, which class 30 does not count, leaves for the host port. -/
def State.odAnswered (s : State) (t : Txn) (a : OdAns) : State := (s.odReleased t).odSend t a

theorem txnEnd_odAccepted (hcode : a.code ∉ [3, 8, 9, 0xB]) : (s.odAccepted t).txnEnd t a = s.odAnswered t a := txnEnd_uncounted hcode

/-- What a request of the host port changes that is answered and does nothing else. -/
structure OnlyAnswered (s u : State) (t : Txn) (a : OdAns) : Prop where
  frame : u = { s with regs := u.regs, mem := u.mem, held := u.held, od := { s.od with counters := u.od.counters, txns := u.od.txns },
                       cen := cenNoted s u }
  length : u.od.txns.length = s.od.txns.length
  tail : u.ringTail 12 = (s.ringTail 12 + 1) % 65536
  regs : ∀ r, r ∉ [Reg.rngTail 12, Reg.odxHwm] ++ ringRegs 13 → r ∉ latchRegs → u.reg r = s.reg r
  fired : Fired s u (if s.ringTakes 13 16 then [41] else [])
  mem : KeptBesideAnswer s u t
  record : RecordStands s u t a

/-- What fires after a start that has left the latches alone has fired since. -/
theorem Fired.of_start {l : List Nat} (h : Fired v u l) (hvariant : v.variant = s.variant) (hlatch : ∀ r ∈ latchRegs, v.reg r = s.reg r) :
    Fired s u l :=
  ⟨h.1.trans hvariant, fun k hk => by
    rw [← State.coreLatch_congr (hlatch Reg.evtPendLo (by decide)) (hlatch Reg.evtPendHi (by decide)),
      ← State.hostLatch_congr (hlatch Reg.evtHpendLo (by decide)) (hlatch Reg.evtHpendHi (by decide)), ← hvariant]
    exact h.2 k hk⟩

theorem odAnswered_onlyAnswered (hport : t.port = 0) (hfits : s.ringFits 13 16) : OnlyAnswered s (s.odAnswered t a) t a := by
  have hring := odReleased_sameRing (s := s) (t := t)
  have hreleased := odReleased_eq (s := s) (t := t)
  obtain ⟨hframe, hregs, hfired, hmem, hrecord⟩ :=
    odSend_answered (s := s.odReleased t) (a := a) hport (ringFits_congr hring.2.1 hfits)
  unfold RecordStands at hrecord
  rw [odRecord_odReleased] at hrecord
  rw [hring.takes] at hfired
  unfold State.odAnswered
  generalize State.odSend _ t a = u at hframe hregs hfired hmem hrecord ⊢
  have hod : u.od = (s.odReleased t).od := by rw [hframe]
  have hframe' : u = { s with regs := u.regs, mem := u.mem, held := u.held, od := u.od, cen := cenNoted s u } := by
    rw [hod]
    unfold OfferFrame at hframe
    rw [hframe, hreleased]
    rfl
  exact
    { frame := by
        have hod' : u.od = { s.od with counters := u.od.counters, txns := u.od.txns } := by rw [hod, hreleased]
        rw [← hod']
        exact hframe'
      length := by
        have htxns : u.od.txns = (s.od.txns ++ [t]).erase t := by rw [hod, hreleased]
        simp [htxns]
      tail := by
        have htail : u.reg (Reg.rngTail 12) = (s.odAccepted t).reg (Reg.rngTail 12) :=
          (hregs _ (by decide) (by decide)).trans (reg_odReleased_odAccepted _)
        rw [State.ringTail, State.rf, htail]
        exact ringTail_odAccepted
      regs := fun r hr hlatch => by
        rw [List.mem_append, not_or] at hr
        exact (hregs r hr.2 hlatch).trans (reg_odReleased hr.1)
      fired := hfired.of_start rfl fun r hr => reg_odReleased (by revert r; decide)
      mem := fun x hx hoff => hmem x ((hring.inRing x).trans hx) hoff
      record := fun hcap hwindow hout => hrecord hcap hwindow fun x hlo hhi => (hring.inRing x).trans (hout x hlo hhi) }

section
variable (h : OnlyAnswered s u t a)
include h

/-! What stands at the end of such a command. -/

theorem OnlyAnswered.settle_frame :
    u.settle = { s with regs := u.settle.regs, mem := u.settle.mem, held := u.settle.held,
                        od := { s.od with counters := u.settle.od.counters, txns := u.settle.od.txns }, cen := cenNoted s u.settle } := by
  have hframe := h.frame
  have hsettle := State.settle_eq u
  rw [State.settle_od]
  generalize u.settle = w at hsettle ⊢
  rw [hsettle, hframe]
  rfl

theorem OnlyAnswered.settle_length : u.settle.od.txns.length = s.od.txns.length := (State.settle_od u).symm ▸ h.length

theorem OnlyAnswered.settle_tail : u.settle.ringTail 12 = (s.ringTail 12 + 1) % 65536 := (State.rf_settle (by decide) 0 16).trans h.tail

theorem OnlyAnswered.settle_mem : KeptBesideAnswer s u.settle t := fun x hx hoff =>
  (State.byte_congr (State.settle_mem u) x).trans (h.mem x hx hoff)

theorem OnlyAnswered.settle_record : RecordStands s u.settle t a := fun hcap hwindow hout => by
  rw [State.bytes]
  simp only [State.byte_congr (State.settle_mem u)]
  exact h.record hcap hwindow hout

end

end Sys2Proof.Machine
end

section
/-! PROOFS. A READ of one stored member (R275, R285, R287). -/

namespace Sys2Proof.Machine

variable {s u : State} {r : OdReq} {row : OdRow}

/-! ### One stored member -/

/-- Does a READ of one member answer a staged value: one is staged, and COMMITTED did not ask past it (R275)? -/
def State.readsStaged (s : State) (r : OdReq) : Bool := !r.flags.testBit 1 && (s.odStaged r.id).isSome

/-- The value that it answers. -/
def State.readValue (s : State) (r : OdReq) : OdVal := if s.readsStaged r then (s.odStaged r.id).getD (s.odGet r.id) else s.odGet r.id

theorem odReadOne_stored (hstored : row.stored = true) (hid : r.id ≠ odId 0x22 0 0) :
    s.odReadOne row r.id (r.flags.testBit 1) = (s.readValue r, s.readsStaged r, s) := by
  unfold State.odReadOne State.readValue State.readsStaged
  cases hcommitted : r.flags.testBit 1 with
  | true => simp [hid, hstored]
  | false =>
    cases hstaged : s.odStaged r.id with
    | some v => simp
    | none => simp [hid, hstored]

/-- What an accepted READ of one stored member has to satisfy (R287 orders 4 to 7). -/
structure PlainRead (s : State) (r : OdReq) (row : OdRow) : Prop where
  op : r.op = 1
  flags : r.flags < 4
  count : r.count = 1
  heat : r.flags.testBit 0 = true → r.expheat = s.od.heat
  member : odRow r.id = some row
  typ : row.typ = r.typ
  readable : row.rd = true
  stored : row.stored = true
  notGroups : r.id ≠ odId 0x22 0 0
  present : s.odPresent r.id = true

section
variable (h : PlainRead s r row)
include h

theorem PlainRead.ids : r.ids = [r.id] := by simp [OdReq.ids, h.count]

/-- No check refuses it (R287). -/
theorem PlainRead.passes (role : Nat) (forwarded : Bool) : s.odRefusal r none role forwarded = none := by
  have hids := h.ids
  obtain ⟨hop, hflags, hcount, hheat, hmember, htyp, hreadable, -, -, hpresent⟩ := h
  have hrange : r.rangeOk none = true := by simp [OdReq.rangeOk, hop, hflags, hcount]
  have hexists : s.odExists r 0 = 0 := by
    have hmem : ¬ odMem r.id > 0xFF := by unfold odMem; omega
    simp [State.odExists, hmem, hmember, hpresent]
  have haccess : odAccess false role r.id = 0 := by simp [odAccess, hmember, hreadable]
  have hfirst : firstFail [0] = none := rfl
  have hconflict : r.flags % 2 = 1 → ¬ r.expheat = s.od.heat → odRefuse 0xB = none := fun hodd hne =>
    absurd (hheat (by simpa using hodd)) hne
  simpa [State.odRefusal, hop, hids, hrange, hexists, haccess, hcount, hmember, htyp, hfirst] using hconflict

/-- The answer it gets (R284, R285). -/
def State.readAnswer (s : State) (r : OdReq) : OdAns :=
  if (odEnc r.little r.typ (s.readValue r)).length > 1384 then { code := 0xA }
  else { staged := s.readsStaged r, count := r.count, value := odEnc r.little r.typ (s.readValue r) }

theorem PlainRead.run (t : Txn) (forwarded nvOk : Bool) : s.odRun t r forwarded nvOk = s.txnEnd t (s.readAnswer r) := by
  have hall : s.odReadAll r = (odEnc r.little r.typ (s.readValue r), s.readsStaged r, s) := by
    simp [State.odReadAll, h.ids, h.member, h.typ, odReadOne_stored h.stored h.notGroups]
  simp only [State.odRun, h.op, hall, State.readAnswer, if_true]
  split <;> rfl

end

/-! ### The statement -/

theorem readAnswer_uncounted : (s.readAnswer r).code ∉ [3, 8, 9, 0xB] := by
  unfold State.readAnswer
  split <;> simp

/-- A READ from ring 12 that nothing refuses is answered, and nothing else. -/
theorem exec_odRead_host {t0 : Txn} {bytes : List Byte} (hserves : s.odServes = true) (hreq : s.odHostReq = some (t0, bytes))
    (hlength : (odParse true bytes).lengthOk = true) (hfree : s.txnFree 0 = true) (hread : PlainRead s (odParse true bytes) row) :
    exec (.odRead .ring12) s =
      (s.odAnswered (t0.ofReq 1 (odParse true bytes)) (s.readAnswer (odParse true bytes))).done := by
  have hread' : PlainRead (s.odAccepted (t0.ofReq 1 (odParse true bytes))) (odParse true bytes) row :=
    ⟨hread.op, hread.flags, hread.count, hread.heat, hread.member, hread.typ, hread.readable, hread.stored, hread.notGroups, hread.present⟩
  have hrequest := odRequest_host (nvOk := true) hserves hreq hread.op (by decide) hlength hfree (hread'.passes _ _)
  rw [hread'.run, txnEnd_odAccepted readAnswer_uncounted] at hrequest
  exact congrArg State.done hrequest

/-- The record of the answer to a READ (R284). -/
theorem odRecord_readAnswer {t : Txn} (hlittle : t.little = true) (hrec : r.little = true) (htyp : t.typ = r.typ) (hid : t.id = r.id)
    (hcount : r.count = 1) (hrow : row.typ = r.typ) (hfits : (odEnc true row.typ (s.readValue r)).length ≤ 1384) :
    s.odRecord t (s.readAnswer r) =
      [0, if s.readsStaged r then 1 else 0, BitVec.ofNat 8 r.typ, 0] ++ leBytes 4 r.id ++ leBytes 4 s.od.heat ++
        leBytes 2 (odEnc true row.typ (s.readValue r)).length ++ leBytes 2 1 ++ odEnc true row.typ (s.readValue r) := by
  have hanswer : s.readAnswer r = { staged := s.readsStaged r, count := 1, value := odEnc true row.typ (s.readValue r) } := by
    rw [State.readAnswer, hrec, hcount, ← hrow, if_neg (by omega)]
  rw [hanswer, State.odRecord, hlittle, htyp, hid]
  rfl

/-- Settles O28: the request is taken and answered, and all it does besides is what an answer to the host port does. -/
theorem readAnswersTheMember : Obligations.ReadAnswersTheMember := by
  intro s t0 bytes row hserves hreq r hop hlength hflags hcount hheat hmember htyp hreadable hstored hid hpresent hfree hfits
  have hread : PlainRead s r row := ⟨hop, hflags, hcount, hheat, hmember, htyp, hreadable, hstored, hid, hpresent⟩
  obtain ⟨hport, hlittle⟩ := odHostReq_txn hreq
  have hexec := exec_odRead_host hserves hreq hlength hfree hread
  have hanswered := odAnswered_onlyAnswered (t := t0.ofReq 1 r) (a := s.readAnswer r) hport hfits
  refine ⟨_, hexec, hanswered.settle_frame, hanswered.settle_length, hanswered.settle_tail, ?_, hanswered.settle_mem,
    regsKept_settle hanswered.regs, hanswered.fired.done⟩
  intro staged v body record hbody hcap hwindow hout
  have hrecord : s.odRecord (t0.ofReq 1 r) (s.readAnswer r) = record := odRecord_readAnswer hlittle rfl rfl rfl hcount htyp hbody
  have hstands := hanswered.settle_record
  unfold RecordStands at hstands
  rw [hrecord] at hstands
  exact hstands hcap hwindow hout

end Sys2Proof.Machine
end

section
/-! PROOFS. A WRITE that commits at once while a start waits for its boundary: what the store holds of the heat (R270, R274, R276). -/

namespace Sys2Proof.Machine

variable {s : State} {t0 : Txn} {bytes : List Byte} {v : OdVal}

/-! ### A WRITE that commits at once -/

/-- A WRITE from ring 12 of one member that passes its checks outside a flask, commits at once, and fits the store. -/
structure CommitsAtOnce (s : State) (t0 : Txn) (bytes : List Byte) (v : OdVal) : Prop where
  serves : s.odServes = true
  request : s.odHostReq = some (t0, bytes)
  solo : s.isTwin = false
  free : s.txnFree 0 = true
  length : (odParse true bytes).lengthOk = true
  passes : (s.odAccepted (t0.ofReq 2 (odParse true bytes))).odRefusal (odParse true bytes) none s.hostRole false = none
  op : (odParse true bytes).op = 2
  noCall : odClass (odParse true bytes).id ≠ 8
  noSwap : odClass (odParse true bytes).id ≠ 0x21
  values : (odParse true bytes).values = [v]
  count : (odParse true bytes).count = 1
  commits : (s.odAccepted (t0.ofReq 2 (odParse true bytes))).odEffect (odParse true bytes).id v = .commit
  sound : s.knb.nvFault = false
  fits : s.nvFits (s.nvWith [((odParse true bytes).id, v)]) = true

theorem isTwin_odAccepted (t : Txn) : (s.odAccepted t).isTwin = s.isTwin := by
  unfold State.isTwin State.rf
  rw [reg_odAccepted (by decide)]
  rfl

/-- Outside a flask the chip is no standby. -/
theorem isStandby_of_solo (hsolo : s.isTwin = false) : s.isStandby = false := by rw [State.isStandby, hsolo, Bool.false_and]

/-- The runtime takes the transaction of a change that fits a store in order (R270, R514). -/
theorem nvRefuses_of_fits {nv : NvSt} (hsound : s.knb.nvFault = false) (hfits : s.nvFits nv = true) (param : Nat) :
    s.nvRefuses true param nv = (false, s) := by
  simp [State.nvRefuses, hsound, hfits]

/-- One member that commits at once is carried out by `odApply`, and answered (R274, R290). -/
theorem odRun_commit {r : OdReq} {t : Txn} (hsolo : s.isTwin = false) (hop : r.op = 2) (hcall : odClass r.id ≠ 8)
    (hswap : odClass r.id ≠ 0x21) (hvalues : r.values = [v]) (hcount : r.count = 1) (hcommits : s.odEffect r.id v = .commit)
    (hsound : s.knb.nvFault = false) (hfits : s.nvFits (s.nvWith [(r.id, v)]) = true) :
    s.odRun t r false true = (s.odApply [(r.id, v)]).txnEnd t { count := 1 } := by
  have hpairs : r.ids.zip r.values = [(r.id, v)] := by simp [OdReq.ids, hcount, hvalues]
  have helsewhere : s.odElsewhere r false = false := by simp [State.odElsewhere, isStandby_of_solo hsolo, hsolo]
  have hisCall : r.isCall = false := by simp [OdReq.isCall, hop, hcall]
  have hnotSwap : r.id ≠ odId 0x21 0 5 := fun hid => hswap (by rw [hid]; decide)
  have hneeds : s.odNeedsNv [(r.id, v)] = true := by simp [State.odNeedsNv, State.mixedStandby, isStandby_of_solo hsolo, hcommits]
  unfold State.odRun
  simp only [hpairs, hop, helsewhere, hisCall, hnotSwap, hneeds, List.filter_cons, List.filter_nil, hcommits, beq_self_eq_true, if_true,
    nvRefuses_of_fits hsound hfits]
  simp [hcount, hcommits]

/-! ### What the store keeps (R276) -/

@[simp] theorem sendToken_nv (t : Token) : (s.sendToken t).nv = s.nv := by
  unfold State.sendToken
  split <;> rfl

@[simp] theorem configSend_nv : s.configSend.nv = s.nv := by
  unfold State.configSend
  split
  · exact sendToken_nv _
  · rfl

@[simp] theorem heatStep_nv : s.heatStep.nv = s.nv := by simp [State.heatStep]

@[simp] theorem odCommit_nv (p : Nat × OdVal) : (s.odCommit [p]).nv = s.nv := rfl

/-- An answer to the host port leaves what the store keeps. -/
theorem txnEnd_nv {t : Txn} {a : OdAns} (hport : t.port = 0) (hcode : a.code ∉ [3, 8, 9, 0xB]) : (s.txnEnd t a).nv = s.nv := by
  have hput : ∀ w : State, (w.odBodyPut t a).nv = w.nv := fun w => by rw [odBodyPut_frame (s := w) (t := t) (a := a)]
  rw [txnEnd_uncounted hcode, odSend_host hport]
  split <;> simp [hput]

/-- The heat page of a change stands past every start that is ready (R270 step 4, R274). -/
theorem nvHeatNext_nv_heat (vals : List (Nat × OdVal)) : (s.nvHeatNext vals).nv.heat = some (heatAfterN (s.heatAhead + 1) s.od.heat) := rfl

/-- So it does after one immediate commit of a member whose own effect is none on the store. -/
theorem odApply_commit_nv_heat {id : Nat} (hsolo : s.isTwin = false) (hcommits : s.odEffect id v = .commit)
    (hmember : ∀ w : State, (w.applyMember id).nv = w.nv) :
    (s.odApply [(id, v)]).nv.heat = some (heatAfterN (s.heatAhead + 1) s.od.heat) := by
  have hmixed : s.mixedStandby = false := by simp [State.mixedStandby, isStandby_of_solo hsolo]
  have hdone : ∀ w : State, (if w.mixedStandby then w else w.configSend).nv = w.nv := fun w => by
    split
    · rfl
    · exact configSend_nv
  have hnv : (s.odApply [(id, v)]).nv = (s.nvHeatNext [(id, v)]).nv := by
    unfold State.odApply
    simp [hcommits, hmixed, hdone, hmember]
  rw [hnv, nvHeatNext_nv_heat]

theorem CommitsAtOnce.nv_heat (h : CommitsAtOnce s t0 bytes v)
    (hmember : ∀ w : State, (w.applyMember (odParse true bytes).id).nv = w.nv) :
    ∃ t, exec (.odWrite .ring12 true) s = .next t ∧ t.nv.heat = some (heatAfterN (s.heatAhead + 1) s.od.heat) := by
  obtain ⟨hserves, hrequest, hsolo, hfree, hlength, hpasses, hop, hcall, hswap, hvalues, hcount, hcommits, hsound, hfits⟩ := h
  obtain ⟨hport, -⟩ := odHostReq_txn hrequest
  have hsolo' := (isTwin_odAccepted (t0.ofReq 2 (odParse true bytes))).trans hsolo
  have hrun := odRequest_host (nvOk := true) hserves hrequest hop (by decide) hlength hfree hpasses
  rw [odRun_commit hsolo' hop hcall hswap hvalues hcount hcommits hsound hfits] at hrun
  refine ⟨_, congrArg State.done hrun, ?_⟩
  rw [State.settle_nv, txnEnd_nv (t := t0.ofReq 2 (odParse true bytes)) hport (by decide), odApply_commit_nv_heat hsolo' hcommits hmember]
  rfl

/-! ### The counterexample -/

/-- The object that the host writes: the kind of presence input 0, a PERSIST member that no function governs. -/
def pinKind : Nat := odId 0x1A 0 0

/-- A WRITE of 1 to it. -/
def pinKindWrite : List Byte := [2, 0, 2, 0] ++ leBytes 4 pinKind ++ leBytes 4 0 ++ leBytes 2 1 ++ leBytes 2 1 ++ [1]

/-- A part that serves requests, and whose function 3 has passed step 4 of its start and waits for its boundary: the heat number is 0,
and the store already holds 1. The WRITE stands in ring 12. -/
def startWaiting : State :=
  let live : State := { State.reset with
    pwr := { State.reset.pwr with good := true, held := none, rtIn := true },
    od := { State.reset.od with serving := true, fns := [(3, { state := 1, ready := true })] },
    nv := { State.reset.nv with heat := some 1 } }
  let on := (((live.setReg Reg.pwrStat 1).setReg (Reg.rngCfg 12) 0x162).setReg (Reg.rngBase 12) 0x20002000).setReg (Reg.rngHead 12) 1
  (on.setBytes 0x20002000 (leBytes 4 77 ++ leBytes 4 0x100 ++ leBytes 2 17 ++ leBytes 2 64 ++ leBytes 4 0x800)).setBytes 0x30000100 pinKindWrite

/-- The transaction of that WRITE. -/
def pinKindTxn : Txn := { port := 0, little := true, seqNo := 77, cap := 64, respAt := 0x800 }

theorem commitsAtOnce_startWaiting : CommitsAtOnce startWaiting pinKindTxn pinKindWrite (.num 1) where
  serves := by decide +kernel
  request := by decide +kernel
  solo := by decide +kernel
  free := by decide +kernel
  length := by decide +kernel
  passes := by decide +kernel
  op := by decide +kernel
  noCall := by decide +kernel
  noSwap := by decide +kernel
  values := by decide +kernel
  count := by decide +kernel
  commits := by decide +kernel
  sound := by decide +kernel
  fits := by decide +kernel

theorem heatAhead_startWaiting : startWaiting.heatAhead = 1 := by decide +kernel

theorem heat_startWaiting : startWaiting.od.heat = 0 := by decide +kernel

/-- Refutes O30: while a start that has passed step 4 waits for its boundary, the store takes the heat number past that start's own
(R270, R274, R276), and not the one after the current. -/
theorem not_writesStageOrCommit : ¬ Obligations.WritesStageOrCommit := by
  intro h
  obtain ⟨hserves, hrequest, hsolo, hfree, hlength, hpasses, hop, hcall, hswap, hvalues, hcount, hcommits, hsound, hfits⟩ :=
    commitsAtOnce_startWaiting
  have hoff : startWaiting.ringOn 13 = false := by decide +kernel
  have hring : startWaiting.ringFits 13 16 := fun hon => absurd (hoff.symm.trans hon) Bool.false_ne_true
  obtain ⟨-, hcommit, -⟩ :=
    h startWaiting true pinKindTxn pinKindWrite hserves hrequest hring hsolo (by decide +kernel) hfree hlength hpasses
  obtain ⟨hstored, -⟩ := hcommit (.num 1) hop hcall hswap hvalues hcount hcommits
  obtain ⟨t, hexec, -, hone, -⟩ := hstored rfl hsound hfits
  obtain ⟨u, hexec', htwo⟩ := commitsAtOnce_startWaiting.nv_heat fun _ => rfl
  have htu : u = t := Host.Outcome.next.inj (hexec'.symm.trans hexec)
  rw [htu, hone, heatAhead_startWaiting, heat_startWaiting] at htwo
  exact absurd htwo (by decide)

end Sys2Proof.Machine
end

section
/-! PROOFS. The receive checks of a frame, and the windows that keep a message from being accepted twice (R309, R315, R316). -/

namespace Sys2Proof.Machine

variable {s s1 : State} {p : Nat} {m : NetFrame}

/-! ### Windows (R316) -/

/-- The receive window of a source. -/
def State.netWin (s : State) (src : Nat) : Option NetWin :=
  (s.net.windows.find? (fun (x : Nat × NetWin) => x.1 == src)).map Prod.snd

/-- A window has taken a sequence: it stands at or past it, and its map marks it while it reaches that far down. -/
def NetWin.Took (w : NetWin) (q : Nat) : Prop := q ≤ w.top ∧ (w.top - q ≤ 63 → w.map.testBit (w.top - q) = true)

/-- The source of a message has a window, and the window has taken the message's sequence. -/
def State.WindowTook (s : State) (m : NetFrame) : Prop := ∃ w, s.netWin m.src = some w ∧ w.Took m.seq

theorem State.netWindow_none (h : s.netWin m.src = none) (p : Nat) :
    s.netWindow p m = (.pass, s.netTake m.src m.seq none) ∨ s.netWindow p m = netFail m 9 (s.incSat (Reg.netpStale p) 1) := by
  unfold State.netWin at h
  unfold State.netWindow
  rw [h]
  dsimp only
  split
  · exact .inl rfl
  · exact .inr rfl

theorem State.netWindow_some {w : NetWin} (h : s.netWin m.src = some w) (p : Nat) :
    s.netWindow p m =
      if m.seq > w.top then (.pass, s.netTake m.src m.seq (some w))
      else if w.top - m.seq > 63 then netFail m 9 (s.incSat (Reg.netpStale p) 1)
      else if w.map.testBit (w.top - m.seq) then (.drop, s.incSat (Reg.netpDup p) 1)
      else (.pass, s.netTake m.src m.seq (some w)) := by
  unfold State.netWin at h
  unfold State.netWindow
  rw [h]

theorem netFail_ne_pass (m : NetFrame) (code : Nat) (s : State) : (netFail m code s).1 ≠ .pass := by
  unfold netFail
  split <;> simp

/-- A window put in place of the one that a source had is the one found for it. -/
theorem find?_filter_append_key (l : List (Nat × NetWin)) (src : Nat) (w : NetWin) :
    ((l.filter (fun x => x.1 != src) ++ [(src, w)]).find? (fun x => x.1 == src)).map Prod.snd = some w := by
  have hnone : (l.filter (fun x => x.1 != src)).find? (fun x => x.1 == src) = none := by simp
  rw [List.find?_append, hnone]
  simp

/-- A sequence that a window takes is the highest or gets its mark. -/
theorem State.netWin_netTake (s : State) (src q : Nat) (old : Option NetWin) :
    ∃ w, (s.netTake src q old).netWin src = some w ∧ w.Took q := by
  refine ⟨_, find?_filter_append_key _ _ _, ?_⟩
  match old with
  | none => simp [NetWin.Took]
  | some w =>
    by_cases hnew : q > w.top
    · have hodd : (w.map * 2 ^ min 64 (q - w.top) + 1) % 2 = 1 := by
        obtain ⟨k, hk⟩ : ∃ k, min 64 (q - w.top) = k + 1 := ⟨min 64 (q - w.top) - 1, by omega⟩
        rw [hk, pow_succ, ← Nat.mul_assoc]
        omega
      simp [NetWin.Took, hnew, Nat.testBit_zero, hodd]
    · simp [NetWin.Took, hnew, Nat.le_of_not_lt hnew]

/-- What passes the window is taken by it. -/
theorem State.netWindow_took (h : s.netWindow p m = (.pass, s1)) : s1.WindowTook m := by
  have hpass : (s.netWindow p m).1 = .pass := by rw [h]
  have htake : ∃ old, s1 = s.netTake m.src m.seq old := by
    cases hwin : s.netWin m.src with
    | none =>
      rcases State.netWindow_none hwin p with htaken | hfail
      · exact ⟨none, (Prod.mk.inj (h.symm.trans htaken)).2⟩
      · exact absurd (hfail ▸ hpass) (netFail_ne_pass _ _ _)
    | some w =>
      rw [State.netWindow_some hwin] at h hpass
      split_ifs at h hpass
      · exact ⟨_, (Prod.mk.inj h).2.symm⟩
      · exact absurd hpass (netFail_ne_pass _ _ _)
      · exact ⟨_, (Prod.mk.inj h).2.symm⟩
  obtain ⟨old, rfl⟩ := htake
  exact State.netWin_netTake s m.src m.seq old

/-- A sequence that a window has taken does not pass it. -/
theorem State.netWindow_ne_pass_of_took (h : s.WindowTook m) (p : Nat) : (s.netWindow p m).1 ≠ .pass := by
  obtain ⟨w, hwin, htop, hmark⟩ := h
  rw [State.netWindow_some hwin, if_neg (Nat.not_lt.2 htop)]
  split_ifs with hstale hdup
  · exact netFail_ne_pass _ _ _
  · simp
  · exact absurd (hmark (Nat.le_of_not_lt hstale)) hdup

/-! ### The checks before the window (R309, R315) -/

theorem State.windows_netTagFail (s : State) (src : Nat) : (s.netTagFail src).net.windows = s.net.windows := by
  unfold State.netTagFail
  dsimp only
  split <;> simp

/-- A message under a session either fails and leaves every window, or it is of a served session under a right tag, and its window
decides. -/
theorem State.netCheck_cases (hsession : m.session ≠ 0xFFFF) (s : State) (p : Nat) :
    ((s.netCheck p m).1 ≠ .pass ∧ (s.netCheck p m).2.net.windows = s.net.windows) ∨
      (s.sessionOk m.session = true ∧ m.tag = s.netTag m ∧ s.netCheck p m = (s.incSat (Reg.netpRxfrm p) 1).netWindow p m) := by
  have hserved : (s.incSat (Reg.netpRxfrm p) 1).sessionOk m.session = s.sessionOk m.session := rfl
  have htag : (s.incSat (Reg.netpRxfrm p) 1).netTag m = s.netTag m := rfl
  unfold State.netCheck
  dsimp only
  rw [hserved, htag]
  split_ifs with hfcs hmac hheader hown hfits hruns hsess hwrong
  · exact .inl ⟨by simp, rfl⟩
  · exact .inl ⟨by simp, rfl⟩
  · exact .inl ⟨by simp, rfl⟩
  · exact .inl ⟨by simp, rfl⟩
  · exact .inl ⟨by simp, rfl⟩
  · exact .inl ⟨by simp, rfl⟩
  · exact .inl ⟨netFail_ne_pass _ _ _, rfl⟩
  · exact .inl ⟨netFail_ne_pass _ _ _, State.windows_netTagFail _ _⟩
  · exact .inr ⟨by simpa using hsess, by simpa using hwrong, rfl⟩

theorem State.netCheck_took (hsession : m.session ≠ 0xFFFF) (h : s.netCheck p m = (.pass, s1)) : s1.WindowTook m := by
  rcases State.netCheck_cases hsession s p with ⟨hfail, -⟩ | ⟨-, -, hwindow⟩
  · exact absurd (congrArg Prod.fst h) hfail
  · exact State.netWindow_took (hwindow.symm.trans h)

theorem State.netCheck_ne_pass_of_took (hsession : m.session ≠ 0xFFFF) (h : s.WindowTook m) (p : Nat) : (s.netCheck p m).1 ≠ .pass := by
  rcases State.netCheck_cases hsession s p with ⟨hfail, -⟩ | ⟨-, -, hwindow⟩
  · exact hfail
  · rw [hwindow]
    exact State.netWindow_ne_pass_of_took (s := s.incSat (Reg.netpRxfrm p) 1) h p

/-- Settles O32: what passes is taken by its source's window, which then refuses it on either port, and the window is asked only
after session and tag. -/
theorem noMessageIsAcceptedTwice : Obligations.NoMessageIsAcceptedTwice := by
  refine ⟨fun s s1 p m hsession hpass q => State.netCheck_ne_pass_of_took hsession (State.netCheck_took hsession hpass) q,
    fun s p m hsession hbad => ?_⟩
  rcases State.netCheck_cases hsession s p with hfail | ⟨hserved, htag, -⟩
  · exact hfail
  · rcases hbad with hnot | hwrong
    · exact absurd (hserved.symm.trans hnot) (by decide)
    · exact absurd htag hwrong

end Sys2Proof.Machine
end

section
/-! PROOFS. The ports of NET: PLCA, PHY clocks, frames that leave or are dropped (R28, R298, R301, R306, R309, R327). -/

namespace Sys2Proof.Machine

variable {s u v : State} {p : Nat} {m : NetFrame} {c : Instr}

/-! ### The end of such a command -/

/-- The registers of NET are no event latch. -/
theorem netReg_notMem_latch {a : Nat} (h : 0x600E0000 ≤ a) : a ∉ latchRegs := latch_notMem_of_le (by omega)

/-- A command that fires the events of a list and changes registers of NET, and other parts of the state as v has them. -/
theorem answers_netFired {l events : List Nat} (hexec : exec c s = u.done) (hframe : RegFrame s v u) (hfired : Fired s u events)
    (hregs : ∀ a, a ∉ l → a ∉ latchRegs → u.reg a = s.reg a) :
    ∃ t, exec c s = .next t ∧ t = { v with regs := t.regs, cen := cenNoted s t } ∧
      (∀ a, 0x600E0000 ≤ a → t.reg a = u.reg a) ∧ regsKept s t l ∧ eventsFired s t events :=
  ⟨_, hexec, hframe.settle, fun a ha => State.reg_settle u a (netReg_notMem_latch ha), regsKept_settle hregs, hfired.done⟩

theorem fired_nil_of_netRegs {l : List Nat} (hvariant : u.variant = s.variant) (hl : ∀ a ∈ l, 0x600E0000 ≤ a)
    (hregs : ∀ a, a ∉ l → u.reg a = s.reg a) : Fired s u [] :=
  (Fired.refl s).congr hvariant fun a ha => hregs a fun hin => netReg_notMem_latch (hl a hin) ha

/-- The same without an event. -/
theorem answers_netRegs {l : List Nat} (hexec : exec c s = u.done) (hframe : RegFrame s v u) (hvariant : u.variant = s.variant)
    (hl : ∀ a ∈ l, 0x600E0000 ≤ a) (hregs : ∀ a, a ∉ l → u.reg a = s.reg a) :
    ∃ t, exec c s = .next t ∧ t = { v with regs := t.regs, cen := cenNoted s t } ∧
      (∀ a, 0x600E0000 ≤ a → t.reg a = u.reg a) ∧ regsKept s t l ∧ eventsFired s t [] :=
  answers_netFired hexec hframe (fired_nil_of_netRegs hvariant hl hregs) fun a ha _ => hregs a ha

/-- A command that changes one register of NET and what NET keeps beside its registers, and then logs a fault. -/
theorem answers_netFault {a code param : Nat} {n : NetSt} (hexec : exec c s = (u.fault code param).done)
    (hframe : RegFrame s { s with net := n } u) (ha : 0x600E0000 ≤ a ∧ a < 0x600F0000) (hregs : ∀ b, b ≠ a → u.reg b = s.reg b) :
    ∃ t, exec c s = .next t ∧
      t = { s with regs := t.regs, log := (s.fault code param).log, net := n, cen := cenNoted s t } ∧
      t.reg a = u.reg a ∧ regsKept s t [a] ∧ eventsFired s t [] := by
  have hother : ∀ b ∈ [Reg.pwrStat, Reg.pwrShake, Reg.rtcStat, Reg.rtcCtrl], ¬(0x600E0000 ≤ b ∧ b < 0x600F0000) := by decide
  have hlog : (u.fault code param).log = (s.fault code param).log :=
    State.fault_log_congr code param (by rw [hframe]) (by rw [hframe]) (by rw [hframe]) (by rw [hframe])
      fun b hb => hregs b fun e => hother b hb (e ▸ ha)
  have hfault : RegFrame s { s with log := (s.fault code param).log, net := n } (u.fault code param) := by
    unfold RegFrame at *
    rw [← hlog, State.fault_eq, hframe]
    rfl
  obtain ⟨t, hnext, hend, hreg, hkept, hfired⟩ := answers_netRegs (l := [a]) hexec hfault (by rw [hfault]) (by simpa using ha.1)
    fun b hb => (State.reg_fault u _ _ b).trans (hregs b (by simpa using hb))
  exact ⟨t, hnext, hend, (hreg a ha.1).trans (State.reg_fault u _ _ a), hkept, hfired⟩

/-! ### Bits, counters and ports -/

/-- The rest of a register over a write of one bit. -/
theorem and_putBit (x mask : Word) {i : Nat} (b : Bool) (hmask : mask.getLsbD i = false) : putBit x i b &&& mask = x &&& mask := by
  refine BitVec.eq_of_getLsbD_eq fun j hj => ?_
  rw [BitVec.getLsbD_and, BitVec.getLsbD_and]
  by_cases h : j = i
  · rw [h, hmask, Bool.and_false, Bool.and_false]
  · have hother : (putBit x i b).getLsbD j = x.getLsbD j := bitOf_putFld_apart x i 1 _ j hj (by omega)
    rw [hother]

theorem toNat_satAdd (x : Word) (k : Nat) : (satAdd x k).toNat = min 0xFFFFFFFF (x.toNat + k) := by
  rw [satAdd, BitVec.toNat_ofNat, Nat.mod_eq_of_lt (by omega)]

theorem State.reg_incSat_same (s : State) (a k : Nat) : (s.incSat a k).reg a = satAdd (s.reg a) k := State.reg_setReg_same s _ _

theorem State.reg_incSat_ne (s : State) {a b : Nat} (k : Nat) (h : b ≠ a) : (s.incSat a k).reg b = s.reg b :=
  State.reg_setReg_ne s _ _ _ h

/-- The registers of a port's block are of NET. -/
theorem netPortReg_le {off : Nat} (hoff : 0x600E0000 ≤ off) (p : Nat) : 0x600E0000 ≤ off + 256 * p := by omega

/-- A port that runs is A or B. -/
theorem State.lt_two_of_netUp (hup : s.netUp p = true) : p < 2 := by
  have hport : p = 0 ∨ p = 1 ∧ s.present 26 = true := by
    simp only [State.netUp, State.netPort, Bool.and_eq_true, Bool.or_eq_true, decide_eq_true_eq] at hup
    exact hup.1.1.1
  omega

/-! ### PLCA (R301) -/

theorem answers_plcaLost (hup : s.netUp p = true) (hplca : s.rb (Reg.netpCfg p) 0 = true) (hcoord : s.rb (Reg.netpStat p) 2 = false)
    (hfallen : s.net.fallen.getD p false = false) :
    ∃ t, exec (.plcaLost p) s = .next t ∧
      t = { s with regs := t.regs, log := (s.fault 0x0D02 p).log, net := { s.net with fallen := s.net.fallen.set p true }, cen := cenNoted s t } ∧
      t.rb (Reg.netpStat p) 1 = false ∧ t.reg (Reg.netpStat p) &&& 0xFFFFFFFD = s.reg (Reg.netpStat p) &&& 0xFFFFFFFD ∧
      regsKept s t [Reg.netpStat p] ∧ eventsFired s t [] := by
  have hp := State.lt_two_of_netUp hup
  have hexec : exec (.plcaLost p) s =
      ((({ s with net := { s.net with fallen := s.net.fallen.set p true } } : State).setRb (Reg.netpStat p) 1 false).fault 0x0D02 p).done := by
    show execPlcaLost p s = _
    rw [execPlcaLost, hup, hplca, hcoord, hfallen]
    rfl
  obtain ⟨t, hnext, hframe, hreg, hkept, hfired⟩ := answers_netFault (a := Reg.netpStat p) hexec rfl (by unfold Reg.netpStat; omega)
    fun b hb => State.reg_setRb_ne _ _ _ _ _ hb
  have hword : t.reg (Reg.netpStat p) = putBit (s.reg (Reg.netpStat p)) 1 false := hreg.trans (State.reg_setReg_same _ _ _)
  refine ⟨t, hnext, hframe, ?_, ?_, hkept, hfired⟩
  · rw [State.rb, hword]
    exact bitOf_putBit _ 1 false (by decide)
  · rw [hword]
    exact and_putBit _ _ false (by decide)

theorem answers_plcaResume (hup : s.netUp p = true) (hplca : s.rb (Reg.netpCfg p) 0 = true) :
    ∃ t, exec (.plcaResume p) s = .next t ∧
      t = { s with regs := t.regs, net := { s.net with fallen := s.net.fallen.set p false }, cen := cenNoted s t } ∧
      t.rb (Reg.netpStat p) 1 = true ∧ regsKept s t [Reg.netpStat p] ∧ eventsFired s t [] := by
  have hexec : exec (.plcaResume p) s =
      (({ s with net := { s.net with fallen := s.net.fallen.set p false } } : State).setRb (Reg.netpStat p) 1 true).done := by
    show execPlcaResume p s = _
    rw [execPlcaResume, hup, hplca]
    rfl
  obtain ⟨t, hnext, hframe, hreg, hkept, hfired⟩ := answers_netRegs (l := [Reg.netpStat p])
    (v := { s with net := { s.net with fallen := s.net.fallen.set p false } }) hexec rfl rfl
    (List.forall_mem_singleton.2 (netPortReg_le (by decide) p)) fun b hb => State.reg_setRb_ne _ _ _ _ _ (by simpa using hb)
  refine ⟨t, hnext, hframe, ?_, hkept, hfired⟩
  rw [State.rb, hreg _ (netPortReg_le (by decide) p)]
  exact State.rb_setRb _ _ _ _ (by decide)

/-! ### Frames that are cut off or have left (R28, R298, R327) -/

/-- The frames that wait on port A or on port B are replaced. -/
def State.withTx (s : State) (p : Nat) (a b : List NetFrame) : State :=
  { s with net := { s.net with txA := if p = 0 then a else s.net.txA, txB := if p = 0 then s.net.txB else b } }

theorem State.withTx_eq (s : State) (p : Nat) (a b : List NetFrame) :
    (if p = 0 then { s with net := { s.net with txA := a } } else { s with net := { s.net with txB := b } } : State) = s.withTx p a b := by
  unfold State.withTx
  split <;> rfl

@[simp] theorem State.reg_withTx (s : State) (p : Nat) (a b : List NetFrame) (r : Nat) : (s.withTx p a b).reg r = s.reg r := rfl

/-- A port shows that its clock has stopped: CLKOK cleared, DOWN set. -/
def State.clockLostShown (s : State) (p : Nat) : State := (s.setRb (Reg.netpStat p) 0 false).setRb (Reg.netpStat p) 3 true

theorem State.reg_clockLostShown {a : Nat} (ha : a ≠ Reg.netpStat p) : (s.clockLostShown p).reg a = s.reg a :=
  (State.reg_setRb_ne _ _ _ _ _ ha).trans (State.reg_setRb_ne s _ _ _ _ ha)

theorem answers_portClock (hup : s.netUp p = true) :
    ∃ t, exec (.portClock p) s = .next t ∧
      t = { s with regs := t.regs, log := (s.fault 0x0D01 p).log,
                   net := { s.net with txA := if p = 0 then s.net.txA.drop 1 else s.net.txA,
                                       txB := if p = 0 then s.net.txB else s.net.txB.drop 1 }, cen := cenNoted s t } ∧
      t.rb (Reg.netpStat p) 0 = false ∧ t.rb (Reg.netpStat p) 3 = true ∧ t.netUp p = false ∧
      regsKept s t [Reg.netpStat p] ∧ eventsFired s t [] := by
  have hp := State.lt_two_of_netUp hup
  have hexec : exec (.portClock p) s = (((s.clockLostShown p).withTx p (s.net.txA.drop 1) (s.net.txB.drop 1)).fault 0x0D01 p).done := by
    show execPortClock p s = _
    rw [execPortClock, if_pos hup, ← State.withTx_eq]
    rfl
  have hframe : RegFrame s { s with net := (s.withTx p (s.net.txA.drop 1) (s.net.txB.drop 1)).net }
      ((s.clockLostShown p).withTx p (s.net.txA.drop 1) (s.net.txB.drop 1)) := rfl
  obtain ⟨t, hnext, hend, hreg, hkept, hfired⟩ := answers_netFault (a := Reg.netpStat p) hexec hframe (by unfold Reg.netpStat; omega)
    fun b hb => (State.reg_withTx _ _ _ _ b).trans (State.reg_clockLostShown hb)
  rw [State.reg_withTx] at hreg
  have hstopped : t.rb (Reg.netpStat p) 3 = true := (congrArg (bitOf · 3) hreg).trans (State.rb_setRb _ _ _ _ (by decide))
  refine ⟨t, hnext, hend, ?_, hstopped, ?_, hkept, hfired⟩
  · exact (congrArg (bitOf · 0) hreg).trans ((State.rb_setRb_ne _ _ _ (by decide)).trans (State.rb_setRb s _ _ _ (by decide)))
  · simp [State.netUp, hstopped]

/-- A frame that has left is counted, with its collisions. -/
def State.frameCounted (s : State) (p k : Nat) : State := (s.incSat (Reg.netpTxfrm p) 1).incSat (Reg.netpCol p) k

theorem netpTxfrm_ne_netpCol (p : Nat) : Reg.netpTxfrm p ≠ Reg.netpCol p := by
  unfold Reg.netpTxfrm Reg.netpCol
  omega

theorem State.txfrm_frameCounted (s : State) (p k : Nat) :
    (s.frameCounted p k).reg (Reg.netpTxfrm p) = satAdd (s.reg (Reg.netpTxfrm p)) 1 :=
  (State.reg_incSat_ne _ _ (netpTxfrm_ne_netpCol p)).trans (State.reg_incSat_same _ _ _)

theorem State.col_frameCounted (s : State) (p k : Nat) : (s.frameCounted p k).reg (Reg.netpCol p) = satAdd (s.reg (Reg.netpCol p)) k := by
  rw [State.frameCounted, State.reg_incSat_same, State.reg_incSat_ne _ _ (netpTxfrm_ne_netpCol p).symm]

theorem State.reg_frameCounted (s : State) {p a : Nat} (k : Nat) (ha : a ∉ [Reg.netpTxfrm p, Reg.netpCol p]) :
    (s.frameCounted p k).reg a = s.reg a := by
  obtain ⟨hfrm, hcol⟩ : a ≠ Reg.netpTxfrm p ∧ a ≠ Reg.netpCol p := by simpa using ha
  exact (State.reg_incSat_ne _ _ hcol).trans (State.reg_incSat_ne _ _ hfrm)

theorem answers_frameTransmitDone {k : Nat} {rest : List NetFrame} (hup : s.netUp p = true)
    (hqueue : (if p = 0 then s.net.txA else s.net.txB) = m :: rest) :
    ∃ t, exec (.frameTransmitDone p k) s = .next t ∧
      t = { s with regs := t.regs, cen := cenNoted s t,
                   net := { s.net with txA := if p = 0 then rest else s.net.txA, txB := if p = 0 then s.net.txB else rest } } ∧
      (t.reg (Reg.netpTxfrm p)).toNat = min 0xFFFFFFFF ((s.reg (Reg.netpTxfrm p)).toNat + 1) ∧
      (t.reg (Reg.netpCol p)).toNat = min 0xFFFFFFFF ((s.reg (Reg.netpCol p)).toNat + k) ∧
      regsKept s t [Reg.netpTxfrm p, Reg.netpCol p] ∧ eventsFired s t [if p = 0 then 36 else 39] := by
  have hexec : exec (.frameTransmitDone p k) s = ((((s.withTx p rest rest).frameCounted p k).fire (if p = 0 then 36 else 39))).done := by
    show execFrameTransmitDone p s k = _
    rw [execFrameTransmitDone, hqueue, hup, ← State.withTx_eq]
    rfl
  have hframe : RegFrame s (s.withTx p rest rest) ((s.withTx p rest rest).frameCounted p k) := rfl
  have hother : ∀ a, a ∉ [Reg.netpTxfrm p, Reg.netpCol p] → ((s.withTx p rest rest).frameCounted p k).reg a = s.reg a := fun a ha =>
    (State.reg_frameCounted _ k ha).trans (State.reg_withTx _ _ _ _ a)
  have hports : ∀ a ∈ [Reg.netpTxfrm p, Reg.netpCol p], 0x600E0000 ≤ a := by
    simp only [List.forall_mem_cons, List.not_mem_nil, false_imp_iff, implies_true, and_true]
    exact ⟨netPortReg_le (by decide) p, netPortReg_le (by decide) p⟩
  have hevent : (if p = 0 then 36 else 39) < 64 := by split <;> decide
  have hreg : ∀ a, 0x600E0000 ≤ a →
      (((s.withTx p rest rest).frameCounted p k).fire (if p = 0 then 36 else 39)).reg a = ((s.withTx p rest rest).frameCounted p k).reg a :=
    fun a ha => State.reg_fire _ _ _ (netReg_notMem_latch ha)
  have hcounted : Fired s ((s.withTx p rest rest).frameCounted p k) [] := fired_nil_of_netRegs rfl hports hother
  obtain ⟨t, hnext, hend, hnet, hkept, hfired⟩ := answers_netFired hexec (hframe.fire _) (hcounted.fire _ hevent)
    fun a ha hlatch => (State.reg_fire _ _ _ hlatch).trans (hother a ha)
  refine ⟨t, hnext, hend, ?_, ?_, hkept, hfired⟩
  · rw [hnet _ (hports _ (by simp)), hreg _ (hports _ (by simp)), State.txfrm_frameCounted, toNat_satAdd, State.reg_withTx]
  · rw [hnet _ (hports _ (by simp)), hreg _ (hports _ (by simp)), State.col_frameCounted, toNat_satAdd, State.reg_withTx]

/-! ### Frames that are dropped (R306, R309) -/

/-- A dropped frame leaves what its checks left. -/
theorem exec_frameDrop (hup : s.netUp p = true) (hsolo : s.isTwin = false) (hdrop : s.netCheck p m = (.drop, u)) :
    exec (.frameDrop p m) s = u.done := by
  have hdrops : s.netDrops p m = true := by simp [State.netDrops, hdrop]
  show execFrameDrop p m s = _
  rw [execFrameDrop, hdrops]
  simp [State.netArrive, hup, hsolo, State.isStandby, hdrop]

/-- A frame that its checks drop, and that one counter has counted. -/
theorem answers_frameDrop {a : Nat} (ha : 0x600E0000 ≤ a) (hup : s.netUp p = true) (hsolo : s.isTwin = false)
    (hdrop : s.netCheck p m = (.drop, s.incSat a 1)) :
    ∃ t, exec (.frameDrop p m) s = .next t ∧ t = { s with regs := t.regs, cen := cenNoted s t } ∧
      (t.reg a).toNat = min 0xFFFFFFFF ((s.reg a).toNat + 1) ∧ regsKept s t [a] ∧ eventsFired s t [] := by
  obtain ⟨t, hnext, hframe, hreg, hrest⟩ := answers_setReg (netReg_notMem_latch ha) (exec_frameDrop hup hsolo hdrop)
  exact ⟨t, hnext, hframe, by rw [hreg, toNat_satAdd], hrest⟩

theorem State.netCheck_badFcs (h : m.rxEr = true ∨ m.fcs ≠ crc32 (netBytes m)) : s.netCheck p m = (.drop, s.incSat (Reg.netpFcserr p) 1) := by
  rw [State.netCheck, if_pos (by simpa using h)]

theorem State.netCheck_notAccepted (her : m.rxEr = false) (hfcs : m.fcs = crc32 (netBytes m)) (hmac : s.netAccepts m = false) :
    s.netCheck p m = (.drop, s.incSat (Reg.netpRxdrop p) 1) := by
  rw [State.netCheck, if_neg (by simp [her, hfcs]), if_pos (by simp [hmac])]

end Sys2Proof.Machine
end

section
/-! PROOFS. Management frames, closing windows, and a new root key (R299, R316, R318, R326). -/

namespace Sys2Proof.Machine

variable {s u : State}

/-! ### Management frames (R299) -/

theorem answers_mdioGo {who : Init} {v : Word} (hwho : who ≠ .host) (hidle : s.rb Reg.netMdio 12 = false) :
    ∃ t, exec (.mdioGo who v) s = .next t ∧ t = { s with regs := t.regs, cen := cenNoted s t } ∧
      t.reg Reg.netMdio &&& 0xFFFFEFFF = v &&& 0xFFFF0FFF ∧
      (t.rb Reg.netMdio 12 = true ↔ bitOf v 12 = true ∧ fld v 10 2 ∈ [1, 2]) ∧ regsKept s t [Reg.netMdio] ∧ eventsFired s t [] := by
  have hexec : exec (.mdioGo who v) s =
      (s.setReg Reg.netMdio (putBit (v &&& 0xFFFF0FFF) 12 (bitOf v 12 && (fld v 10 2 == 1 || fld v 10 2 == 2)))).done := by
    show execMdioGo who v s = _
    rw [execMdioGo, State.guardWrite_eq (present_of_mem (by decide)) fun h => absurd h hwho, State.netMdioWrite, hidle]
    rfl
  obtain ⟨t, hnext, hframe, hreg, hkept, hfired⟩ := answers_setReg (netReg_notMem_latch (by decide)) hexec
  refine ⟨t, hnext, hframe, ?_, ?_, hkept, hfired⟩
  · have hmask : (0xFFFF0FFF &&& 0xFFFFEFFF : Word) = 0xFFFF0FFF := by decide
    rw [hreg, and_putBit _ _ _ (by decide), BitVec.and_assoc, hmask]
  · have hgo : t.rb Reg.netMdio 12 = (bitOf v 12 && (fld v 10 2 == 1 || fld v 10 2 == 2)) := by
      rw [State.rb, hreg]
      exact bitOf_putBit _ 12 _ (by decide)
    simp [hgo]

/-- NET_MDIO after the end of a frame: GO cleared, and what a read left. -/
def mdioEndWord (x : Word) (data : Nat) : Word :=
  if fld x 10 2 = 2 then putFld (putBit x 12 false) 16 16 data else putBit x 12 false

theorem bitOf_mdioEndWord (x : Word) (data : Nat) : bitOf (mdioEndWord x data) 12 = false := by
  have hgo : bitOf (putBit x 12 false) 12 = false := bitOf_putBit x 12 false (by decide)
  unfold mdioEndWord
  split
  · exact (bitOf_putFld_apart _ 16 16 data 12 (by decide) (by decide)).trans hgo
  · exact hgo

theorem fld_mdioEndWord_fields (x : Word) (data : Nat) : fld (mdioEndWord x data) 0 12 = fld x 0 12 := by
  have hfields : fld (putBit x 12 false) 0 12 = fld x 0 12 := fld_putFld_apart x 12 1 _ 0 12 (by decide) (by decide)
  unfold mdioEndWord
  split
  · exact (fld_putFld_apart _ 16 16 data 0 12 (by decide) (by decide)).trans hfields
  · exact hfields

theorem fld_mdioEndWord_data (x : Word) {data : Nat} (hdata : data < 2 ^ 16) :
    fld (mdioEndWord x data) 16 16 = if fld x 10 2 = 2 then data else fld x 16 16 := by
  unfold mdioEndWord
  split
  · rw [fld_putFld _ 16 16 _ (by decide), Nat.mod_eq_of_lt hdata]
  · exact fld_putFld_apart x 12 1 _ 16 16 (by decide) (by decide)

/-- The fields of NET_MDIO are those of a frame that has ended. -/
def State.mdioShown (s : State) (data : Nat) : State :=
  if s.rf Reg.netMdio 10 2 = 2 then (s.setRb Reg.netMdio 12 false).setRf Reg.netMdio 16 16 data else s.setRb Reg.netMdio 12 false

theorem State.reg_mdioShown (data : Nat) : (s.mdioShown data).reg Reg.netMdio = mdioEndWord (s.reg Reg.netMdio) data := by
  unfold State.mdioShown mdioEndWord State.rf
  split
  · rw [State.reg_setRf, if_pos rfl, State.setRb, State.reg_setRf, if_pos rfl, putBit]
  · exact State.reg_setReg_same s _ _

theorem State.reg_mdioShown_ne (data : Nat) {a : Nat} (ha : a ≠ Reg.netMdio) : (s.mdioShown data).reg a = s.reg a := by
  unfold State.mdioShown
  split
  · rw [State.reg_setRf_ne _ _ _ _ _ _ ha, State.reg_setRb_ne _ _ _ _ _ ha]
  · exact State.reg_setRb_ne _ _ _ _ _ ha

theorem regFrame_mdioShown (s : State) (data : Nat) : RegFrame s s (s.mdioShown data) := by
  unfold State.mdioShown
  split <;> rfl

/-- A management frame has ended: its fields show it, and MDIO_ERR is set where a read found no PHY. -/
def State.mdioEnded (s : State) (data : BitVec 16) : State :=
  if s.rf Reg.netMdio 10 2 = 2 ∧ data = 0xFFFF then (s.mdioShown data.toNat).setRb Reg.netStat 3 true else s.mdioShown data.toNat

/-- So ends a frame that no identity read of the runtime stands behind. -/
theorem State.netMdioEnd_eq (hphy : s.net.phy = []) (data : BitVec 16) : s.netMdioEnd data.toNat = s.mdioEnded data := by
  have hnone : (s.mdioShown data.toNat).net.phy = [] := by rw [regFrame_mdioShown s data.toNat, hphy]
  have hread : s.mdioShown data.toNat = if s.rf Reg.netMdio 10 2 == 2
      then (s.setRb Reg.netMdio 12 false).setRf Reg.netMdio 16 16 data.toNat else s.setRb Reg.netMdio 12 false := by
    simp [State.mdioShown]
  have hones : data.toNat = 0xFFFF ↔ data = 0xFFFF := by
    rw [← BitVec.toNat_inj]
    rfl
  unfold State.netMdioEnd State.mdioEnded
  dsimp only
  rw [← hread]
  by_cases hfail : s.rf Reg.netMdio 10 2 = 2 ∧ data = 0xFFFF
  · rw [if_pos hfail, if_pos (by simpa [hones] using hfail), State.setRb_net, hnone]
  · rw [if_neg hfail, if_neg (by simpa [hones] using hfail), hnone]

theorem regFrame_mdioEnded (s : State) (data : BitVec 16) : RegFrame s s (s.mdioEnded data) := by
  unfold State.mdioEnded
  split
  · exact (regFrame_mdioShown s _).setReg _ _
  · exact regFrame_mdioShown s _

theorem State.reg_mdioEnded (data : BitVec 16) {a : Nat} (ha : a ≠ Reg.netStat) : (s.mdioEnded data).reg a = (s.mdioShown data.toNat).reg a := by
  unfold State.mdioEnded
  split
  · exact State.reg_setRb_ne _ _ _ _ _ ha
  · rfl

theorem State.err_mdioEnded (data : BitVec 16) :
    (s.mdioEnded data).rb Reg.netStat 3 = (s.rb Reg.netStat 3 || decide (s.rf Reg.netMdio 10 2 = 2 ∧ data = 0xFFFF)) := by
  unfold State.mdioEnded
  split
  case isTrue h => rw [State.rb_setRb _ _ _ _ (by decide), decide_eq_true h, Bool.or_true]
  case isFalse h => rw [decide_eq_false h, Bool.or_false, State.rb, State.reg_mdioShown_ne _ (by decide), State.rb]

theorem answers_mdioDone {data : BitVec 16} (hgo : s.rb Reg.netMdio 12 = true) (hphy : s.net.phy = []) :
    ∃ t, exec (.mdioDone data) s = .next t ∧ t = { s with regs := t.regs, cen := cenNoted s t } ∧ t.rb Reg.netMdio 12 = false ∧
      t.rf Reg.netMdio 0 12 = s.rf Reg.netMdio 0 12 ∧
      t.rf Reg.netMdio 16 16 = (if s.rf Reg.netMdio 10 2 = 2 then data.toNat else s.rf Reg.netMdio 16 16) ∧
      t.rb Reg.netStat 3 = (s.rb Reg.netStat 3 || decide (s.rf Reg.netMdio 10 2 = 2 ∧ data = 0xFFFF)) ∧
      regsKept s t [Reg.netMdio, Reg.netStat] ∧ eventsFired s t [] := by
  have hexec : exec (.mdioDone data) s = (s.mdioEnded data).done := by
    show execMdioDone data s = _
    rw [execMdioDone, if_pos hgo, State.netMdioEnd_eq hphy]
  have hframe := regFrame_mdioEnded s data
  have hother : ∀ a, a ∉ [Reg.netMdio, Reg.netStat] → (s.mdioEnded data).reg a = s.reg a := fun a ha => by
    obtain ⟨hmdio, hstat⟩ : a ≠ Reg.netMdio ∧ a ≠ Reg.netStat := by simpa using ha
    rw [State.reg_mdioEnded _ hstat, State.reg_mdioShown_ne _ hmdio]
  obtain ⟨t, hnext, hend, hreg, hkept, hfired⟩ := answers_netRegs hexec hframe (by rw [hframe]) (by decide) hother
  have hword : t.reg Reg.netMdio = mdioEndWord (s.reg Reg.netMdio) data.toNat := by
    rw [hreg _ (by decide), State.reg_mdioEnded _ (by decide), State.reg_mdioShown]
  refine ⟨t, hnext, hend, ?_, ?_, ?_, ?_, hkept, hfired⟩
  · exact (congrArg (bitOf · 12) hword).trans (bitOf_mdioEndWord _ _)
  · exact (congrArg (fld · 0 12) hword).trans (fld_mdioEndWord_fields _ _)
  · exact (congrArg (fld · 16 16) hword).trans (fld_mdioEndWord_data _ data.isLt)
  · exact (congrArg (bitOf · 3) (hreg _ (by decide))).trans (State.err_mdioEnded data)

/-! ### Windows that close, and a new root key (R316, R318, R327) -/

/-- The windows that stay open when the one of a source is due to close. -/
def State.openWindows (s : State) (addr : Nat) : List (Nat × NetWin) :=
  s.net.windows.filter (fun x => !(x.1 == addr && x.2.last + (ticksOfSec 180 : Nat) ≤ (s.now : Int)))

theorem State.mem_openWindows {addr : Nat} (x : Nat × NetWin) :
    x ∈ s.openWindows addr ↔ x ∈ s.net.windows ∧ ¬(x.1 = addr ∧ x.2.last + 720000 ≤ s.now) := by
  have hticks : ((ticksOfSec 180 : Nat) : Int) = 720000 := rfl
  rw [State.openWindows, List.mem_filter, ← hticks]
  refine and_congr_right fun _ => ?_
  rw [Bool.not_eq_true', Bool.eq_false_iff, Ne, Bool.and_eq_true, beq_iff_eq, decide_eq_true_eq]

theorem answers_netWindowClose {addr : Nat} (hawake : s.awake = true) :
    ∃ t, exec (.windowClose addr) s = .next t ∧
      t = { s with regs := t.regs, net := { s.net with windows := t.net.windows }, cen := cenNoted s t } ∧
      (∀ x, x ∈ t.net.windows ↔ x ∈ s.net.windows ∧ ¬(x.1 = addr ∧ x.2.last + 720000 ≤ s.now)) ∧ regsKept s t [] ∧ eventsFired s t [] := by
  have hexec : exec (.windowClose addr) s = ({ s with net := { s.net with windows := s.openWindows addr } } : State).done := by
    show execWindowClose addr s = _
    rw [execWindowClose, if_pos hawake]
    rfl
  have hframe : RegFrame s { s with net := { s.net with windows := s.openWindows addr } }
      { s with net := { s.net with windows := s.openWindows addr } } := rfl
  obtain ⟨t, hnext, hend, -, hkept, hfired⟩ := answers_netRegs (l := []) hexec hframe rfl (by simp) fun _ _ => rfl
  have hwindows : t.net.windows = s.openWindows addr := by rw [hend]
  refine ⟨t, hnext, ?_, fun x => ?_, hkept, hfired⟩
  · rw [hwindows]
    exact hend
  · rw [hwindows]
    exact State.mem_openWindows x

/-- Both limits of the sequence counter are cleared, and the counter with them. -/
def State.seqCleared (s : State) : State := ((s.setReg Reg.netSeq 0).setRb Reg.netStat 0 false).setRb Reg.netStat 1 false

theorem State.seq_seqCleared : s.seqCleared.reg Reg.netSeq = 0 :=
  (State.reg_setRb_ne _ _ _ _ _ (by decide)).trans ((State.reg_setRb_ne _ _ _ _ _ (by decide)).trans (State.reg_setReg_same s _ _))

theorem State.stat_seqCleared : s.seqCleared.reg Reg.netStat = putBit (putBit (s.reg Reg.netStat) 0 false) 1 false := by
  rw [State.seqCleared, State.reg_setRb, if_pos rfl, State.reg_setRb, if_pos rfl, State.reg_setReg_ne _ _ _ _ (by decide)]
  rfl

theorem State.reg_seqCleared {a : Nat} (ha : a ∉ [Reg.netSeq, Reg.netStat]) : s.seqCleared.reg a = s.reg a := by
  obtain ⟨hseq, hstat⟩ : a ≠ Reg.netSeq ∧ a ≠ Reg.netStat := by simpa using ha
  rw [State.seqCleared, State.reg_setRb_ne _ _ _ _ _ hstat, State.reg_setRb_ne _ _ _ _ _ hstat, State.reg_setReg_ne _ _ _ _ hseq]

/-- With its two lowest bits cleared a word holds 0 there. -/
theorem fld_bits_cleared (x : Word) : fld (putBit (putBit x 0 false) 1 false) 0 2 = 0 := by
  rw [fld_eq_zero_iff]
  intro i hi
  have hlow : bitOf (putBit (putBit x 0 false) 1 false) 0 = false :=
    (bitOf_putFld_apart _ 1 1 _ 0 (by decide) (by decide)).trans (bitOf_putBit x 0 false (by decide))
  have hhigh : bitOf (putBit (putBit x 0 false) 1 false) 1 = false := bitOf_putBit _ 1 false (by decide)
  obtain rfl | rfl : i = 0 ∨ i = 1 := by omega
  · exact hlow
  · exact hhigh

/-- A transaction in flight keeps the root key that it came under. -/
def Txn.rootKept (root : List Byte) (x : Txn) : Txn := if x.root = none then { x with root := some root } else x

/-- A new root key takes effect, but for the counter. -/
def State.rootTaken (s : State) : State :=
  { s with od := { s.od with txns := s.od.txns.map (Txn.rootKept s.netRootKey) }, net := { s.net with rootPending := none, windows := [] } }

theorem exec_rootKeyApply {old : Option (List Byte)} (hpending : s.net.rootPending = some old) :
    exec .rootKeyApply s = s.rootTaken.seqCleared.done := by
  have hkept : (fun x : Txn => if x.root.isNone then { x with root := some s.netRootKey } else x) = Txn.rootKept s.netRootKey := by
    funext x
    simp [Txn.rootKept]
  show execRootKeyApply s = _
  rw [execRootKeyApply, hpending]
  dsimp only
  rw [hkept]
  rfl

theorem answers_rootKeyApply {old : Option (List Byte)} (hpending : s.net.rootPending = some old) :
    ∃ t, exec .rootKeyApply s = .next t ∧
      t = { s with regs := t.regs, od := { s.od with txns := t.od.txns }, net := { s.net with rootPending := none, windows := [] },
                   cen := cenNoted s t } ∧
      t.rootKeyNow = s.nv.rootKey ∧ s.netRootKey = old.getD (List.replicate 16 0) ∧
      t.od.txns = s.od.txns.map (fun x => if x.root = none then { x with root := some s.netRootKey } else x) ∧
      t.reg Reg.netSeq = 0 ∧ t.rf Reg.netStat 0 2 = 0 ∧ t.rf Reg.netStat 2 2 = s.rf Reg.netStat 2 2 ∧
      regsKept s t [Reg.netSeq, Reg.netStat] ∧ eventsFired s t [] := by
  have hframe : RegFrame s s.rootTaken s.rootTaken.seqCleared := rfl
  obtain ⟨t, hnext, hend, hreg, hkept, hfired⟩ := answers_netRegs (exec_rootKeyApply hpending) hframe rfl
    (l := [Reg.netSeq, Reg.netStat]) (by decide) fun a ha => State.reg_seqCleared (s := s.rootTaken) ha
  have htxns : t.od.txns = s.rootTaken.od.txns := by rw [hend]
  have hstat : t.reg Reg.netStat = putBit (putBit (s.reg Reg.netStat) 0 false) 1 false :=
    (hreg _ (by decide)).trans (State.stat_seqCleared (s := s.rootTaken))
  refine ⟨t, hnext, ?_, ?_, ?_, htxns, (hreg _ (by decide)).trans State.seq_seqCleared, ?_, ?_, hkept, hfired⟩
  · rw [htxns]
    exact hend
  · rw [hend]
    rfl
  · rw [State.netRootKey, State.rootKeyNow, hpending]
  · exact (congrArg (fld · 0 2) hstat).trans (fld_bits_cleared _)
  · refine (congrArg (fld · 2 2) hstat).trans ?_
    exact (fld_putFld_apart _ 1 1 _ 2 2 (by decide) (by decide)).trans (fld_putFld_apart _ 0 1 _ 2 2 (by decide) (by decide))

/-- Settles O33: each command comes to registers of NET, with what NET keeps beside them, a fault or an event. -/
theorem networkPortsAndManagement : Obligations.NetworkPortsAndManagement :=
  ⟨fun _ _ => answers_plcaLost, fun _ _ => answers_plcaResume, fun _ _ => answers_portClock,
    fun _ _ _ _ _ => answers_frameTransmitDone,
    fun p _ _ hup hsolo hbad => answers_frameDrop (netPortReg_le (by decide) p) hup hsolo (State.netCheck_badFcs hbad),
    fun p _ _ hup hsolo her hfcs hmac => answers_frameDrop (netPortReg_le (by decide) p) hup hsolo (State.netCheck_notAccepted her hfcs hmac),
    fun _ _ _ => answers_mdioGo, fun _ _ => answers_mdioDone, fun _ _ => answers_netWindowClose, fun _ _ => answers_rootKeyApply⟩

end Sys2Proof.Machine
end

section
/-! PROOFS. The first TICK of a standby that takes formation anew (R351, R356, R358). -/

namespace Sys2Proof.Machine

/-- A standby whose link came back: it runs formation again (R358), and no TICK of that formation has arrived yet. -/
def standbyReforming : State :=
  { State.reset.setReg Reg.twnStat 0x46 with pwr := { State.reset.pwr with rtIn := true }, twn := { State.reset.twn with cand := true } }

/-- Its first TICK, 5 cycles late, is loaded, and TWN_ALIGN does not show the 5 cycles. -/
theorem align_tickToken_standbyReforming :
    ∃ t, exec (.tickToken 0 5) standbyReforming = .next t ∧ t.rf Reg.twnAlign 0 16 = 0 := by
  have hload : exec (.tickToken 0 5) standbyReforming =
      ({ standbyReforming with twn := { standbyReforming.twn with
          lastTick := some 0, ticksFrom := some 0, aligned := true, reload := some 0 } } : State).done := by
    show execTickToken 0 5 standbyReforming = _
    rw [execTickToken, if_neg (by decide)]
    rfl
  exact ⟨_, hload, (State.rf_settle (by decide) 0 16).trans (by decide)⟩

/-- Refutes O36: a standby that runs formation again loads TBCOUNT from its first TICK as a candidate does (R356), where the
statement has it follow that TICK and show its phase in TWN_ALIGN. -/
theorem not_sprueLinkAndMirrors : ¬ Obligations.SprueLinkAndMirrors := by
  rintro ⟨-, -, -, -, -, -, -, htick, -⟩
  have hrole : standbyReforming.role = 1 := by decide
  obtain ⟨t, hexec, ⟨-, halign⟩, -⟩ := htick 0 5 standbyReforming (by decide) (by decide) (by decide)
  obtain ⟨u, hnext, hkept⟩ := align_tickToken_standbyReforming
  obtain rfl : u = t := Host.Outcome.next.inj (hnext.symm.trans hexec)
  have hshown : u.rf Reg.twnAlign 0 16 = 5 := (if_pos (Or.inl hrole)).mp halign
  exact absurd (hkept.symm.trans hshown) (by decide)

end Sys2Proof.Machine
end

section
/-! PROOFS. The commit of FINISH on the active chip (R354, R365). -/

namespace Sys2Proof.Machine

variable {s : State}

/-- A commit of FINISH with no transaction in flight puts no token on the link. -/
theorem tx_finishCommit (htxns : s.od.txns = []) : (s.finishCommit true).twn.tx = s.twn.tx := by
  have hstep : (s.odCommit []).heatStep.swapEnd.od.txns = [] := by simp [State.heatStep, State.swapEnd, State.odCommit, htxns]
  have hanswer : (s.odCommit []).heatStep.swapEnd.swapAnswer 0 = (s.odCommit []).heatStep.swapEnd := by rw [State.swapAnswer, hstep]; rfl
  show ((s.odCommit []).heatStep.swapEnd.swapAnswer 0).twn.tx = _
  rw [hanswer]
  simp [State.heatStep, State.swapEnd, State.odCommit]

/-- The active chip of a flask in FINISHING at a class-0 boundary, over a link that is up: both transactions have ended well. -/
def activeFinishing : State :=
  let live : State := { State.reset with
    pwr := { State.reset.pwr with rtIn := true }, tb := { State.reset.tb with running := true },
    twn := { State.reset.twn with ownDone := some true, peerDone := some true } }
  ((live.setReg Reg.twnStat 0x279).setReg Reg.twnSwap 4).setReg (Reg.cenPeriod 0) 4

theorem sends_activeFinishing (t : Token) : (activeFinishing.sendToken t).twn.tx = [t] := by
  have htwin : activeFinishing.isTwin = true := by decide
  have hup : activeFinishing.rb Reg.twnStat 6 = true := by decide
  rw [State.sendToken, htwin, hup]
  rfl

/-- Refutes O38: at the commit of FINISH no CONFIG leaves, where the statement has the active send its new set. -/
theorem not_swapProcedure : ¬ Obligations.SwapProcedure := by
  rintro ⟨-, -, -, -, -, -, -, -, -, -, -, -, -, hcommit, -⟩
  obtain ⟨t, hexec, hdone, -⟩ := hcommit activeFinishing true true (by decide) (by decide) rfl rfl rfl
  obtain ⟨hframe, -⟩ := hdone rfl rfl
  have hrun : exec .swapFinishCommit activeFinishing = (activeFinishing.finishCommit true).done := by
    have hdue : (activeFinishing.isTwin && activeFinishing.awake && activeFinishing.swapState = 4 && activeFinishing.tb.running &&
        activeFinishing.atBoundary 0) = true := by decide
    exact congrArg State.done (if_pos hdue)
  obtain rfl : (activeFinishing.finishCommit true).settle = t := Host.Outcome.next.inj (hrun.symm.trans hexec)
  have hnone : (activeFinishing.finishCommit true).settle.twn.tx = [] := by rw [State.settle_twn, tx_finishCommit rfl]; rfl
  have hrole : activeFinishing.role = 2 := by decide
  have hsent := congrArg (fun u : State => u.twn.tx) hframe
  dsimp only at hsent
  rw [if_pos hrole] at hsent
  exact List.cons_ne_nil _ _ ((sends_activeFinishing _).symm.trans (hsent.symm.trans hnone))

end Sys2Proof.Machine
end

section
/-! PROOFS. CONFIG with an address of its own and 63 object pages (R354, R356 step 4, R496, R502). -/

namespace Sys2Proof.Machine

/-! ### A transaction of one page too many -/

section
variable {s : State} {pages : List (Nat × List Byte)}

/-- A transaction that leaves the header alone is its word writes, the next sequence number and the pages that the runtime reads again. -/
theorem knabSteps_eq_of_no_header (hpages : ∀ p ∈ pages, p.1 ≠ 0) : ∃ x nv, s.knabSteps pages =
    { (s.knabPuts (knabStepsWords (s.reg Reg.knbJseq) pages)).setReg Reg.knbJseq x with nv := nv } := by
  have hheader : pages.any (fun p => p.1 == 0) = false := by simpa [List.any_eq_false] using fun a b h => hpages (a, b) h
  simp only [State.knabSteps, hheader, knabStepsWords, knabPuts_append, knabPuts_singleton, Bool.false_eq_true, if_false]
  generalize State.knabPut _ (knabPage 60) _ = v
  split
  · exact ⟨_, (v.setReg _ _).nvRead, rfl⟩
  · exact ⟨_, v.nv, rfl⟩

theorem od_knabSteps_of_no_header (hpages : ∀ p ∈ pages, p.1 ≠ 0) : (s.knabSteps pages).od = s.od := by
  obtain ⟨x, nv, hsteps⟩ := knabSteps_eq_of_no_header (s := s) hpages
  rw [hsteps, State.setReg_od, storeFrame_knabPuts s]

theorem reg_knabSteps_of_no_header (hpages : ∀ p ∈ pages, p.1 ≠ 0) {r : Nat} (hr : r ≠ Reg.knbJseq) :
    (s.knabSteps pages).reg r = s.reg r := by
  obtain ⟨x, nv, hsteps⟩ := knabSteps_eq_of_no_header (s := s) hpages
  generalize hv : s.knabPuts (knabStepsWords (s.reg Reg.knbJseq) pages) = v at hsteps
  have hreg : v.reg r = s.reg r := by rw [← hv, reg_knabPuts]
  rw [← hreg, ← State.reg_setReg_ne v _ _ x hr]
  exact State.reg_congr (by rw [hsteps]) r

variable (hlen : pages.length = 65)
include hlen

/-- The 65th buffer goes behind the journal area. -/
theorem written_knabStep2_page128 (x : Byte) :
    written (knabStep2 pages) (knabPage 128 + 10) x = (pages.getD 64 (0, [])).2.getD 10 0 := by
  rw [knabStep2, hlen, show 65 = 64 + 1 from rfl, List.range_succ, List.flatMap_append, written_append, List.flatMap_singleton,
    written_pageWords, if_pos (by decide)]
  rfl

theorem writesIn_knabStep2_store : WritesIn InStore (knabStep2 pages) :=
  writesIn_flatMap fun j hj => writesIn_pageWords _ fun a h1 h2 => by
    have := List.mem_range.mp hj
    unfold InStore knabPage at *
    omega

theorem knabByte_knabSteps_page128 (hidle : s.knb.commit = none) (hpages : ∀ p ∈ pages, 0 < p.1 ∧ p.1 < 1024 ∧ p.1 ≠ 128) :
    (s.knabSteps pages).knabByte (knabPage 128 + 10) = (pages.getD 64 (0, [])).2.getD 10 0 := by
  have hmarker : WritesIn (fun a => inJournal a = true) [(knabPage 60, [0, 0, 0, 0])] := fun w hw b h1 h2 => by
    obtain rfl := List.mem_singleton.mp hw
    simp only [List.length_cons, List.length_nil] at h2
    rw [inJournal_iff]
    unfold knabPage at *
    omega
  have htargets : WritesIn (fun a => ¬(knabPage 128 ≤ a ∧ a < knabPage 129)) (knabStep5 pages) :=
    writesIn_flatMap fun p hp => writesIn_pageWords _ fun a h1 h2 => by
      have := hpages p hp
      unfold knabPage at *
      omega
  have hin : WritesIn InStore (knabStepsWords (s.reg Reg.knbJseq) pages) :=
    (((writesIn_knabStep2_store hlen).append ((writesIn_knabStep3 _ pages).mono fun _ => inStore_of_inJournal)).append
      (writesIn_knabStep5 fun p hp => (hpages p hp).2.1)).append (hmarker.mono fun _ => inStore_of_inJournal)
  obtain ⟨x, nv, hsteps⟩ := knabSteps_eq_of_no_header (s := s) fun p hp => (hpages p hp).1.ne'
  have hjournal : ¬ inJournal (knabPage 128 + 10) = true := by decide
  calc (s.knabSteps pages).knabByte (knabPage 128 + 10)
      = (s.knabPuts (knabStepsWords (s.reg Reg.knbJseq) pages)).knabByte (knabPage 128 + 10) := by rw [hsteps]; rfl
    _ = written (knabStepsWords (s.reg Reg.knbJseq) pages) (knabPage 128 + 10) (s.knabByte (knabPage 128 + 10)) :=
        knabByte_knabPuts hidle hin (by decide)
    _ = (pages.getD 64 (0, [])).2.getD 10 0 := by
        rw [knabStepsWords, written_append, written_append, written_append, written_of_writesIn hmarker hjournal,
          written_of_writesIn htargets (by decide), written_of_writesIn (writesIn_knabStep3 _ pages) hjournal,
          written_knabStep2_page128 hlen]

end

/-! ### Object records that fill 63 pages -/

/-- The members of the CONFIG: an address, and a value of member 01.0.07 whose bytes are b. -/
def addressAndBytes (b : List Byte) : List (Nat × OdVal) := [(odId 1 0 2, .num 5), (odId 1 0 7, .bytes b)]

theorem exists_odRow_member7 : ∃ r, odRow (odId 1 0 7) = some r ∧ r.persist = true ∧ r.typ = 13 := ⟨_, rfl, rfl, rfl⟩

theorem exists_odRow_address : ∃ r, odRow (odId 1 0 2) = some r ∧ r.persist = true := ⟨_, rfl, rfl⟩

section
variable {b : List Byte} (hlen : b.length = 4000) (hones : ∀ i < 4000, b.getD i 0 = 1)
include hlen

theorem length_nvStream_member7 : (nvStream [(odId 1 0 7, .bytes b)]).length = 4010 := by
  obtain ⟨r, hrow, -, htyp⟩ := exists_odRow_member7
  simp [nvStream, nvRecord, hrow, htyp, odEnc, hlen, beBytes]

include hones in
theorem getD_nvStream_member7 {i : Nat} (h6 : 6 ≤ i) (hi : i < 4006) : (nvStream [(odId 1 0 7, .bytes b)]).getD i 0 = 1 := by
  obtain ⟨r, hrow, -, htyp⟩ := exists_odRow_member7
  obtain ⟨h, hh, hstream⟩ : ∃ h : List Byte, h.length = 6 ∧ nvStream [(odId 1 0 7, .bytes b)] = h ++ (b ++ [0, 0, 0, 0]) := by
    refine ⟨beBytes 4 (odId 1 0 7) ++ [BitVec.ofNat 8 r.typ] ++ [BitVec.ofNat 8 b.length], by simp [beBytes], ?_⟩
    simp [nvStream, nvRecord, hrow, htyp, odEnc]
  rw [hstream, List.getD_append_right _ _ _ _ (by omega), List.getD_append _ _ _ _ (by omega)]
  exact hones _ (by omega)

/-- The object pages of these records. -/
def member7Pages (b : List Byte) : List (Nat × List Byte) :=
  (List.range 63).map fun j => (256 + j, fit 64 (slice (nvStream [(odId 1 0 7, .bytes b)]) (64 * j) 64))

include hones in
theorem getD_member7Page {j : Nat} (hj : j < 63) :
    (fit 64 (slice (nvStream [(odId 1 0 7, .bytes b)]) (64 * j) 64)).getD 10 0 = 1 := by
  have hfit : fit 64 (slice (nvStream [(odId 1 0 7, .bytes b)]) (64 * j) 64) = slice (nvStream [(odId 1 0 7, .bytes b)]) (64 * j) 64 := by
    simp [fit]
  rw [hfit, getD_slice _ _ (by decide)]
  exact getD_nvStream_member7 hlen hones (by omega) (by omega)

theorem nvObjPages_member7 {v : State} (hlarge : v.knabPages = 1024) : v.nvObjPages [(odId 1 0 7, .bytes b)] = member7Pages b := by
  rw [State.nvObjPages, length_nvStream_member7 hlen, hlarge]
  refine List.filter_eq_self.mpr fun p hp => ?_
  obtain ⟨j, hj, rfl⟩ := List.mem_map.mp hp
  have := List.mem_range.mp hj
  exact decide_eq_true (by dsimp only; omega)

include hones in
/-- In an empty store every object page changes, and the change rewrites them beside the pages it names. -/
theorem nvPages_member7 {v : State} {nv : NvSt} (hmem : v.mem = []) (hknb : v.knb = {}) (hlarge : v.knabPages = 1024)
    (hobjs : nv.objs = [(odId 1 0 7, .bytes b)]) (ids : List Nat) :
    v.nvPages nv ids = ids.map (fun p => (p, v.pageWith p (nvFields nv p))) ++ member7Pages b := by
  rw [State.nvPages, hobjs, nvObjPages_member7 hlen hlarge]
  refine congrArg _ (List.filter_eq_self.mpr fun p hp => ?_)
  obtain ⟨j, hj, rfl⟩ := List.mem_map.mp hp
  have hj := List.mem_range.mp hj
  have hempty : (v.knabBytes (knabPage (256 + j)) 64).getD 10 0 = 0 := by
    have hcell : v.knabByte (knabPage (256 + j) + 10) = memDefault (knabPage (256 + j) + 10) := by
      rw [knabByte_idle (by rw [hknb]), State.knabCell, hknb, State.byte, hmem]
      rfl
    have hzero : memDefault (knabPage (256 + j) + 10) = 0 := by
      unfold memDefault knabPage
      rw [if_pos]
      simp
      omega
    simpa [State.knabBytes] using hcell.trans hzero
  refine bne_iff_ne.mpr fun h => ?_
  have hsame := congrArg (List.getD · 10 0) h
  exact absurd (hempty.symm.trans (hsame.trans (getD_member7Page hlen hones hj))) (by decide)

end

/-! ### A set that a candidate takes -/

section
variable {s : State}

/-- A change of the store with no transaction in progress is one transaction on its pages (R502). -/
theorem nvStore_idle {f : NvSt → NvSt} {ids : List Nat} {more : List (Nat × List Byte)} (hidle : s.knb.commit = none)
    (hne : s.nvPages (f s.nv) ids ++ more ≠ []) :
    s.nvStore f ids more = { (s.knabSteps (s.nvPages (f s.nv) ids ++ more)).fire 27 with nv := f s.nv } := by
  simp only [State.nvStore, knabSettle_idle hidle, State.knabTransact, List.isEmpty_eq_false_iff.mpr hne, Bool.false_eq_true, if_false,
    State.knabDone]

/-- A commit that changes the address writes the identity page and the heat page. -/
theorem nvHeat_of_address_ne {nv : NvSt} (h : nv.address ≠ s.nv.address) (heat : Nat) (set : List (Nat × OdVal)) :
    ∃ n : NvSt, n.objs = nv.objs ∧ s.nvHeat nv heat set = s.nvStore (fun _ => n) [1, 2] [] := by
  refine ⟨{ nv with heat := some heat, hdig := some (s.odDigests set).1, sdig := some (s.odDigests set).2 }, rfl, ?_⟩
  rw [State.nvHeat, if_neg h]

/-- Where no function has left STOPPED and none is to run, the functions stay as they are (R354). -/
theorem fnsFollow_nil (hfns : s.od.fns = []) (again : Nat → Bool) : s.fnsFollow [] again = s := by
  have hstopped : ∀ f, s.fnHalt f = s := fun f => by
    have hfn : s.fn f = {} := by rw [State.fn, hfns]; rfl
    simp only [State.fnHalt, hfn]
  exact List.foldl_fixed' (fun f => by simpa using hstopped f) _

/-- A set becomes the committed one at a heat number, its digests with it. -/
def State.setHeld (s : State) (set : List (Nat × OdVal)) (heat : Nat) : State :=
  ({ s with od := { s.od with committed := set, heat := heat, staged := [] } } : State).odCommit []

/-- A candidate that takes a set of its own heat number, with an address: the store takes it, and the functions follow (R356). -/
theorem setTake_of_unformed {set : List (Nat × OdVal)} {run : List Nat} {a : Int} {u : State}
    (haddress : Tab.get odDefault set (odId 1 0 2) = .num a)
    (hu : u = (s.setHeld set s.od.heat).nvHeat { (s.setHeld set s.od.heat).nvOfSet set with address := a.toNat } s.od.heat set)
    (hunformed : u.rb Reg.twnStat 4 = false) : s.setTake set s.od.heat run = u.fnsFollow run (fun _ => true) := by
  simp only [State.setTake, if_pos, haddress]
  rw [if_pos (by rw [State.setHeld] at hu; rw [← hu, hunformed]; rfl), hu]
  rfl

end

/-! ### The candidate that takes them -/

/-- A candidate with an empty store and ring 10 off, over a link that is up. -/
def candidateEmpty : State :=
  { State.reset.setReg Reg.twnStat 0x42 with pwr := { State.reset.pwr with rtIn := true }, twn := { State.reset.twn with cand := true } }

/-- Ring 10 off only counts the entry of a token as dropped. -/
theorem sprueRx_of_ring_off {s : State} (hoff : s.ringOn 10 = false) :
    ∃ n, s.sprueRx = ({ s with free := n } : State).ringDropped 10 := by
  unfold State.sprueRx
  extract_lets a b c d e u took v
  have hu : u = { s with free := u.free } := rfl
  have hdrop : v = u.ringDropped 10 := if_pos (by rw [show u.ringOn 10 = false from hoff]; rfl)
  have htook : took = false := by
    have : u.ringOn 10 = false := hoff
    simp [took, State.ringTakes, this]
  exact ⟨u.free, by rw [htook, hdrop]; exact congrArg (State.ringDropped · 10) hu⟩

/-- A part with 1,024 pages on which nothing has been stored and no function has started. -/
structure Unwritten (v : State) : Prop where
  mem : v.mem = []
  knb : v.knb = {}
  nv : v.nv = {}
  baseline : v.od.baseline = []
  fns : v.od.fns = []
  large : v.knabPages = 1024

theorem Unwritten.setHeld {v : State} (hv : Unwritten v) (set : List (Nat × OdVal)) (heat : Nat) : Unwritten (v.setHeld set heat) where
  mem := hv.mem
  knb := hv.knb
  nv := hv.nv
  baseline := hv.baseline
  fns := hv.fns
  large := hv.large

theorem Unwritten.sprueRx {v : State} (hv : Unwritten v) (hoff : v.ringOn 10 = false) : Unwritten v.sprueRx := by
  obtain ⟨n, hrx⟩ := sprueRx_of_ring_off hoff
  have hlarge : v.sprueRx.knabPages = v.knabPages := by
    have hpresent : v.sprueRx.present 27 = v.present 27 := by
      rw [hrx, State.present, State.ringDropped_variant]
      rfl
    rw [State.knabPages, hpresent]
    rfl
  refine { mem := ?_, knb := ?_, nv := ?_, baseline := ?_, fns := ?_, large := hlarge.trans hv.large } <;> rw [hrx]
  · exact (State.ringDropped_mem _ 10).trans hv.mem
  · exact (State.ringDropped_knb _ 10).trans hv.knb
  · exact (State.ringDropped_nv _ 10).trans hv.nv
  · exact (congrArg OdSt.baseline (State.ringDropped_od _ 10)).trans hv.baseline
  · exact (congrArg OdSt.fns (State.ringDropped_od _ 10)).trans hv.fns

section
variable {v : State} {b : List Byte} (hv : Unwritten v) (hlen : b.length = 4000) (hones : ∀ i < 4000, b.getD i 0 = 1)
include hv

include hlen in
theorem objs_nvOfSet_addressAndBytes : (v.nvOfSet (addressAndBytes b)).objs = [(odId 1 0 7, .bytes b)] := by
  obtain ⟨r, hrow, hpersist, -⟩ := exists_odRow_member7
  have hdefault : odDefault (odId 1 0 7) = .bytes [] := by decide
  have hb : b ≠ [] := fun h => by simp [h] at hlen
  have h72 : (odId 1 0 7 == odId 1 0 2) = false := by decide
  have hother : odId 1 0 7 ≠ odId 1 0 2 := by decide
  simp [State.nvOfSet, hv.nv, hv.baseline, nvRecords, addressAndBytes, hrow, hpersist, Tab.get, hdefault, hb, h72, hother, List.lookup]

include hlen hones in
/-- The judgement takes the heat page and the 63 object pages: 64 in all. -/
theorem nvFits_addressAndBytes : v.nvFits (v.nvOfSet (addressAndBytes b)) = true := by
  have hobjs := objs_nvOfSet_addressAndBytes hv hlen
  have hrecords : ((v.nvOfSet (addressAndBytes b)).objs.flatMap nvRecord).length ≤ 64 * (v.knabPages - 256) := by
    have hstream := length_nvStream_member7 hlen
    rw [nvStream, List.length_append] at hstream
    rw [hobjs, hv.large]
    omega
  have hpages : (v.nvPages (v.nvOfSet (addressAndBytes b)) [2]).length = 64 := by
    rw [nvPages_member7 hlen hones hv.mem hv.knb hv.large hobjs]
    simp [member7Pages]
  have haddress : (v.nvOfSet (addressAndBytes b)).address = v.nv.address := rfl
  rw [State.nvFits, if_pos haddress, hpages, decide_eq_true hrecords]
  rfl

include hlen hones in
/-- A transaction of the identity page, the heat page and the 63 object pages: its 65th buffer goes to page 128. -/
theorem nvStore_member7_page128 {nv : NvSt} (hobjs : nv.objs = [(odId 1 0 7, .bytes b)]) {u : State}
    (hu : u = v.nvStore (fun _ => nv) [1, 2] []) :
    u.knabByte (knabPage 128 + 10) = 1 ∧ u.od = v.od ∧ u.reg Reg.twnStat = v.reg Reg.twnStat := by
  have hidle : v.knb.commit = none := by rw [hv.knb]
  have hpages : v.nvPages nv [1, 2] ++ [] = [(1, v.pageWith 1 (nvFields nv 1)), (2, v.pageWith 2 (nvFields nv 2))] ++ member7Pages b := by
    rw [List.append_nil]
    exact nvPages_member7 hlen hones hv.mem hv.knb hv.large hobjs [1, 2]
  rw [nvStore_idle hidle (by rw [hpages]; exact List.cons_ne_nil _ _), hpages] at hu
  generalize hall : [(1, v.pageWith 1 (nvFields nv 1)), (2, v.pageWith 2 (nvFields nv 2))] ++ member7Pages b = pages at hu
  have hcount : pages.length = 65 := by simp [← hall, member7Pages]
  have hplace : ∀ p ∈ pages, 0 < p.1 ∧ p.1 < 1024 ∧ p.1 ≠ 128 := by
    rw [← hall]
    simp only [member7Pages, List.mem_append, List.mem_cons, List.not_mem_nil, or_false, List.mem_map, List.mem_range]
    rintro p ((rfl | rfl) | ⟨j, hj, rfl⟩)
    · simp
    · simp
    · dsimp only
      omega
  have hlast : (pages.getD 64 (0, [])).2.getD 10 0 = 1 := by
    rw [← hall, List.getD_append_right _ _ _ _ (by simp)]
    simpa [member7Pages] using getD_member7Page hlen hones (j := 62) (by decide)
  have hheader : ∀ p ∈ pages, p.1 ≠ 0 := fun p hp => (hplace p hp).1.ne'
  refine ⟨?_, ?_, ?_⟩
  · have hsame : u.knabByte (knabPage 128 + 10) = (v.knabSteps pages).knabByte (knabPage 128 + 10) := by
      rw [hu]
      exact knabByte_congr (State.fire_knb (v.knabSteps pages) 27)
        (fun a _ => State.byte_congr (State.fire_mem (v.knabSteps pages) 27) a) (by decide)
    exact hsame.trans ((knabByte_knabSteps_page128 hcount hidle hplace).trans hlast)
  · rw [hu]
    exact (State.fire_od _ 27).trans (od_knabSteps_of_no_header hheader)
  · have hsame : u.reg Reg.twnStat = ((v.knabSteps pages).fire 27).reg Reg.twnStat := State.reg_congr (by rw [hu]) _
    rw [hsame, State.reg_fire _ 27 _ (by decide), reg_knabSteps_of_no_header hheader (by decide)]

include hlen hones in
/-- A candidate that takes the set writes page 128. -/
theorem knabByte_setTake_page128 (hheat : v.od.heat = 0) (hunformed : v.rb Reg.twnStat 4 = false) :
    (v.setTake (addressAndBytes b) 0 []).knabByte (knabPage 128 + 10) = 1 := by
  have hw := hv.setHeld (addressAndBytes b) v.od.heat
  have hobjs := objs_nvOfSet_addressAndBytes hw hlen
  have haddress : Tab.get odDefault (addressAndBytes b) (odId 1 0 2) = .num 5 := rfl
  generalize hu : (v.setHeld (addressAndBytes b) v.od.heat).nvHeat { (v.setHeld (addressAndBytes b) v.od.heat).nvOfSet (addressAndBytes b)
    with address := (5 : Int).toNat } v.od.heat (addressAndBytes b) = u
  obtain ⟨n, hn, hstore⟩ := nvHeat_of_address_ne (s := v.setHeld (addressAndBytes b) v.od.heat)
    (nv := { (v.setHeld (addressAndBytes b) v.od.heat).nvOfSet (addressAndBytes b) with address := (5 : Int).toNat })
    (by rw [hw.nv]; exact (by decide : (5 : Int).toNat ≠ ({} : NvSt).address)) v.od.heat (addressAndBytes b)
  obtain ⟨hbyte, hod, hreg⟩ := nvStore_member7_page128 hw hlen hones (hn.trans hobjs) (hu.symm.trans hstore)
  have hfns : u.od.fns = [] := (congrArg OdSt.fns hod).trans hw.fns
  have hkept : u.rb Reg.twnStat 4 = false := (congrArg (bitOf · 4) hreg).trans hunformed
  rw [← hheat, setTake_of_unformed haddress hu.symm hkept, fnsFollow_nil hfns, hbyte]

end

/-! ### The CONFIG token -/

theorem odDigest_congr {s u : State} (hvariant : u.variant = s.variant) (set : List (Nat × OdVal)) (p : OdRow → Bool) :
    u.odDigest set p = s.odDigest set p := by
  have hpresent : u.odPresent = s.odPresent := by
    funext id
    simp only [State.odPresent, State.present, hvariant]
  rw [State.odDigest, State.odMembers, hpresent]
  rfl

/-- The candidate once the entry for ring 10 has been dropped. -/
def candidateHeard : State := ({ candidateEmpty with twn := { candidateEmpty.twn with config := [] } } : State).sprueRx

theorem unwritten_candidateEmpty : Unwritten candidateEmpty := ⟨rfl, rfl, rfl, rfl, rfl, by decide⟩

theorem unwritten_candidateHeard : Unwritten candidateHeard :=
  Unwritten.sprueRx (v := { candidateEmpty with twn := { candidateEmpty.twn with config := [] } })
    ⟨rfl, rfl, rfl, rfl, rfl, by decide⟩ (by decide)

theorem unformed_candidateHeard : candidateHeard.rb Reg.twnStat 4 = false := by
  obtain ⟨n, hrx⟩ := sprueRx_of_ring_off (s := { candidateEmpty with twn := { candidateEmpty.twn with config := [] } }) (by decide)
  rw [candidateHeard, hrx, State.rb, reg_ringDropped _ (by decide)]
  exact (by decide : candidateEmpty.rb Reg.twnStat 4 = false)

theorem od_candidateHeard : candidateHeard.od = {} ∧ candidateHeard.variant = candidateEmpty.variant := by
  obtain ⟨n, hrx⟩ := sprueRx_of_ring_off (s := { candidateEmpty with twn := { candidateEmpty.twn with config := [] } }) (by decide)
  rw [candidateHeard, hrx, State.ringDropped_od, State.ringDropped_variant]
  exact ⟨rfl, rfl⟩

section
variable {b : List Byte} (hlen : b.length = 4000) (hones : ∀ i < 4000, b.getD i 0 = 1)
include hlen

/-- Neither member holds its default, so that the table of the members is the list of them. -/
theorem put_addressAndBytes :
    Tab.put odDefault (Tab.put odDefault [] (odId 1 0 2) (.num 5)) (odId 1 0 7) (.bytes b) = addressAndBytes b := by
  have hdefault : odDefault (odId 1 0 7) = .bytes [] := by decide
  have hb : b ≠ [] := fun h => by simp [h] at hlen
  have haddress : Tab.put odDefault [] (odId 1 0 2) (.num 5) = [(odId 1 0 2, .num 5)] := by decide
  have hkeeps : Tab.del [(odId 1 0 2, OdVal.num 5)] (odId 1 0 7) = [(odId 1 0 2, .num 5)] := by decide
  rw [haddress, Tab.put, if_neg (by simpa [hdefault] using hb), hkeeps, Tab.ins, if_neg (by decide)]
  rfl

/-- The persistent ones of these members are all of them. -/
theorem filter_foldl_put_addressAndBytes {p : Nat × OdVal → Bool} {config committed : List (Nat × OdVal)} (hconfig : config = [])
    (hcommitted : committed = []) (haddress : p (odId 1 0 2, .num 5) = true) (hvalue : p (odId 1 0 7, .bytes b) = true) :
    ((config ++ addressAndBytes b).filter p).foldl (fun (l : List (Nat × OdVal)) (q : Nat × OdVal) => Tab.put odDefault l q.1 q.2)
      (committed.filter fun q => !p q) = addressAndBytes b := by
  subst hconfig hcommitted
  rw [List.nil_append, addressAndBytes, List.filter_cons_of_pos haddress, List.filter_cons_of_pos hvalue]
  exact put_addressAndBytes hlen

include hones

/-- The last CONFIG passes the digest and the judgement of the store, and the candidate takes the set. -/
theorem exec_configToken_candidateEmpty {hdig : Nat} (hdigest : hdig = candidateEmpty.odDigest (addressAndBytes b) OdRow.persist) :
    ∃ t, exec (.configToken true 0 hdig 0 (addressAndBytes b) true []) candidateEmpty = .next t ∧ t.knabByte (knabPage 128 + 10) = 1 := by
  obtain ⟨hod, hvariant⟩ := od_candidateHeard
  have hsame : candidateHeard.odDigest (addressAndBytes b) OdRow.persist = hdig % 2 ^ 64 := by
    rw [odDigest_congr hvariant, hdigest, Nat.mod_eq_of_lt (odDigest_lt _ _ _)]
  have hfits := nvFits_addressAndBytes unwritten_candidateHeard hlen hones
  have hsound : candidateHeard.knb.nvFault = false := by rw [unwritten_candidateHeard.knb]
  have hbyte := knabByte_setTake_page128 unwritten_candidateHeard hlen hones (by rw [hod]) unformed_candidateHeard
  have hserved : exec (.configToken true 0 hdig 0 (addressAndBytes b) true []) candidateEmpty =
      ({ candidateHeard.setTake (addressAndBytes b) 0 [] with
          twn := { (candidateHeard.setTake (addressAndBytes b) 0 []).twn with configDone := true } } : State).done := by
    show execConfigToken true 0 hdig 0 (addressAndBytes b) true candidateEmpty [] = _
    rw [execConfigToken, if_neg (by decide)]
    extract_lets all w v set res bad u taken
    have hv : v = candidateHeard := rfl
    have hset : set = addressAndBytes b := by
      obtain ⟨r, hrow, hpersist, -⟩ := exists_odRow_member7
      obtain ⟨q, hrow', hpersist'⟩ := exists_odRow_address
      have hall : all = addressAndBytes b := rfl
      have hnone : v.od.committed = [] := by rw [hv, hod]
      simp only [set, hall, hnone, List.filter_nil, addressAndBytes, List.foldl_cons, List.foldl_nil, hrow, hrow', hpersist, hpersist', if_true]
      exact put_addressAndBytes hlen
    have hres : res = (false, candidateHeard) := by
      simp only [res, hset, hv]
      exact nvRefuses_of_fits hsound hfits 0
    have hbad : bad = false := congrArg Prod.fst hres
    have hu : u = candidateHeard := congrArg Prod.snd hres
    have htaken : taken = candidateHeard.setTake (addressAndBytes b) 0 [] := by simp only [taken, hu, hset]; rfl
    rw [if_neg (by decide), if_neg (by simp [hv, hset, hsame]), if_neg (by simp [hbad])]
    clear_value taken
    subst htaken
    rfl
  refine ⟨_, hserved, ?_⟩
  rw [← hbyte]
  exact knabByte_congr (State.settle_knb _) (fun a _ => State.byte_congr (State.settle_mem _) a) (by decide)

end

/-- Refutes O37: the 64 pages of a change are counted with the address as it stands, and a CONFIG that changes it rewrites the identity
page as well, so that with 63 object pages the 65th buffer falls on page 128, behind the journal area. -/
theorem not_flaskFormation : ¬ Obligations.FlaskFormation := by
  rintro ⟨-, -, -, -, -, hconfig, -⟩
  obtain ⟨b, hlen, hones⟩ : ∃ b : List Byte, b.length = 4000 ∧ ∀ i < 4000, b.getD i 0 = 1 :=
    ⟨List.replicate 4000 1, List.length_replicate, fun i hi =>
      (List.getD_eq_getElem _ _ (List.length_replicate.symm ▸ hi)).trans (List.getElem_replicate _)⟩
  obtain ⟨-, -, htaken, -⟩ := hconfig 0 (candidateEmpty.odDigest (addressAndBytes b) OdRow.persist) 0 (addressAndBytes b) [] true
    candidateEmpty (by decide) (by decide) rfl (by decide) (Or.inl rfl) (by decide)
  obtain ⟨r, hrow, hpersist, -⟩ := exists_odRow_member7
  have hset := filter_foldl_put_addressAndBytes hlen (config := candidateEmpty.twn.config) (committed := candidateEmpty.od.committed)
    (p := fun q => match odRow q.1 with | some r => r.persist | none => false) rfl rfl rfl (by simp only [hrow, hpersist])
  have hdigest := (Nat.mod_eq_of_lt (odDigest_lt _ _ _)).trans (congrArg (candidateEmpty.odDigest · OdRow.persist) hset.symm)
  have hfits := (congrArg (fun l => candidateEmpty.nvFits (candidateEmpty.nvOfSet l)) hset).trans
    (nvFits_addressAndBytes unwritten_candidateEmpty hlen hones)
  obtain ⟨t, hnext, hbyte⟩ := exec_configToken_candidateEmpty hlen hones rfl
  obtain ⟨t', hnext', -, -, hstore, -⟩ := htaken hdigest rfl hfits rfl rfl (by decide) (by decide) rfl fun f hf => absurd hf List.not_mem_nil
  obtain rfl : t = t' := Host.Outcome.next.inj (hnext.symm.trans hnext')
  have hkept := hstore (knabPage 128 + 10) (by decide) (by decide) (by decide)
  have hzero : candidateEmpty.knabByte (knabPage 128 + 10) = 0 := by decide
  exact absurd (hbyte.symm.trans (hkept.trans hzero)) (by decide)

end Sys2Proof.Machine
end

section
/-! PROOFS. The lines of the flask, its tokens and the role of a chip (R334-R336, R343, R345). -/

namespace Sys2Proof.Machine

variable {s u v : State}

/-! ### Fields and frames -/

/-- The rest of a register over a write of one field. -/
theorem and_putFld (x mask : Word) {lo w : Nat} (y : Nat) (hmask : ∀ i < 32, lo ≤ i → i < lo + w → mask.getLsbD i = false) :
    putFld x lo w y &&& mask = x &&& mask := by
  refine BitVec.eq_of_getLsbD_eq fun j hj => ?_
  rw [BitVec.getLsbD_and, BitVec.getLsbD_and, putFld_bit _ _ _ _ _ hj]
  split
  case isTrue hin => rw [hmask j hj hin.1 hin.2, Bool.and_false, Bool.and_false]
  case isFalse => rfl

theorem RegFrame.logged (h : RegFrame s v u) (l : LogSt) : RegFrame s { v with log := l } { u with log := l } := by
  unfold RegFrame at *
  rw [h]
  rfl

theorem RegFrame.setTwn (h : RegFrame s v u) (w : TwnSt) : RegFrame s { v with twn := w } { u with twn := w } := by
  unfold RegFrame at *
  rw [h]
  rfl

theorem State.happen_eq (s : State) (src param : Nat) : s.happen src param = { s with log := (s.happen src param).log } := by
  unfold State.happen State.logAdd
  split <;> rfl

theorem RegFrame.fault (h : RegFrame s v u) (code param : Nat) :
    RegFrame s { v with log := (u.fault code param).log } (u.fault code param) := by
  have hlogged := h.logged (u.fault code param).log
  rwa [← State.fault_eq] at hlogged

theorem RegFrame.happen (h : RegFrame s v u) (src param : Nat) :
    RegFrame s { v with log := (u.happen src param).log } (u.happen src param) := by
  have hlogged := h.logged (u.happen src param).log
  rwa [← State.happen_eq] at hlogged

/-! ### What the log takes of a state (R614, R615) -/

/-- Two states of which the log takes the same. -/
structure LogAlike (s u : State) : Prop where
  log : u.log = s.log
  pwr : u.pwr = s.pwr
  count : u.tb.count = s.tb.count
  rtc : u.rtc = s.rtc
  regs : ∀ a ∈ [Reg.pwrStat, Reg.pwrShake, Reg.rtcStat, Reg.rtcCtrl], u.reg a = s.reg a

theorem LogAlike.refl (s : State) : LogAlike s s := ⟨rfl, rfl, rfl, rfl, fun _ _ => rfl⟩

theorem LogAlike.trans {w : State} (h : LogAlike s u) (h' : LogAlike u w) : LogAlike s w :=
  ⟨h'.log.trans h.log, h'.pwr.trans h.pwr, h'.count.trans h.count, h'.rtc.trans h.rtc, fun a ha => (h'.regs a ha).trans (h.regs a ha)⟩

theorem LogAlike.fault (h : LogAlike s u) (code param : Nat) : LogAlike (s.fault code param) (u.fault code param) where
  log := State.fault_log_congr code param h.log h.pwr h.count h.rtc h.regs
  pwr := by simpa using h.pwr
  count := by simpa using h.count
  rtc := by simpa using h.rtc
  regs a ha := by rw [State.reg_fault, State.reg_fault, h.regs a ha]

theorem LogAlike.happen (h : LogAlike s u) (src param : Nat) : LogAlike (s.happen src param) (u.happen src param) where
  log := by
    have hflags : u.logFlags 0 = s.logFlags 0 := by
      unfold State.logFlags State.shakeStep State.rf State.rb
      rw [h.regs Reg.pwrShake (by simp), h.regs Reg.rtcStat (by simp), h.regs Reg.rtcCtrl (by simp)]
    simp only [State.happen, State.logAdd, State.stamp, Bool.not_true, Bool.false_and, Bool.false_eq_true, if_false, hflags, h.log,
      h.count, h.rtc]
  pwr := by simpa using h.pwr
  count := by simpa using h.count
  rtc := by simpa using h.rtc
  regs a ha := by rw [State.reg_happen, State.reg_happen, h.regs a ha]

/-- A write of a register that the log does not read. -/
theorem LogAlike.setReg (h : LogAlike s u) {a : Nat} (x : Word) (ha : a ∉ [Reg.pwrStat, Reg.pwrShake, Reg.rtcStat, Reg.rtcCtrl]) :
    LogAlike s (u.setReg a x) :=
  h.trans ⟨rfl, rfl, rfl, rfl, fun _ hb => State.reg_setReg_ne u _ _ _ fun e => ha (e ▸ hb)⟩

/-! ### The lines (R336, R340, R341, R343) -/

/-- Since when the conditions on the lines hold, for a chip that pulls OWN or not. -/
def TwnSt.lined (w : TwnSt) (now : Nat) (pulled : Bool) : TwnSt :=
  let own := w.ownIn && !pulled
  let stuck := !own && !w.aliveIn && !pulled
  { w with ownHighAt := if own then some (w.ownHighAt.getD now) else none,
           aliveLowAt := if w.aliveIn then none else some (w.aliveLowAt.getD now),
           bothLowAt := if stuck then some (w.bothLowAt.getD now) else none, stuckDone := stuck && w.stuckDone }

/-- TWN_STAT with two levels shown. -/
def lineWord (x : Word) (alive own : Bool) : Word := putBit (putBit x 7 alive) 8 own

theorem bitOf_lineWord_alive (x : Word) (alive own : Bool) : bitOf (lineWord x alive own) 7 = alive :=
  (bitOf_putFld_apart _ 8 1 _ 7 (by decide) (by decide)).trans (bitOf_putBit x 7 alive (by decide))

theorem bitOf_lineWord_own (x : Word) (alive own : Bool) : bitOf (lineWord x alive own) 8 = own :=
  bitOf_putBit _ 8 own (by decide)

theorem bitOf_lineWord_apart (x : Word) (alive own : Bool) {i : Nat} (hi : i < 32) (h : i < 7 ∨ 9 ≤ i) :
    bitOf (lineWord x alive own) i = bitOf x i :=
  (bitOf_putFld_apart _ 8 1 _ i hi (by omega)).trans (bitOf_putFld_apart _ 7 1 _ i hi (by omega))

theorem fld_lineWord_apart (x : Word) (alive own : Bool) {lo w : Nat} (hin : lo + w ≤ 32) (h : lo + w ≤ 7 ∨ 9 ≤ lo) :
    fld (lineWord x alive own) lo w = fld x lo w :=
  (fld_putFld_apart _ 8 1 _ lo w hin (by omega)).trans (fld_putFld_apart _ 7 1 _ lo w hin (by omega))

theorem and_lineWord (x mask : Word) (alive own : Bool) (h7 : mask.getLsbD 7 = false) (h8 : mask.getLsbD 8 = false) :
    lineWord x alive own &&& mask = x &&& mask :=
  (and_putBit _ _ _ h8).trans (and_putBit _ _ _ h7)

theorem lineRefresh_eq : s.lineRefresh = { s.linesShow with twn := s.twn.lined s.now (s.rb Reg.twnStat 9) } := by
  have hlow : (if (!s.twn.aliveIn) = true then some (s.twn.aliveLowAt.getD s.now) else none) =
      if s.twn.aliveIn = true then none else some (s.twn.aliveLowAt.getD s.now) := by
    cases s.twn.aliveIn <;> rfl
  unfold State.lineRefresh TwnSt.lined
  dsimp only
  rw [hlow]

theorem regFrame_linesShow (h : RegFrame s v u) : RegFrame s v u.linesShow := by
  unfold State.linesShow
  split
  · exact (h.setReg _ _).setReg _ _
  · exact (h.setReg _ _).setReg _ _

theorem RegFrame.lineRefresh (h : RegFrame s v u) : RegFrame s { v with twn := v.twn.lined v.now (u.rb Reg.twnStat 9) } u.lineRefresh := by
  have hnow : u.now = v.now := by rw [h]
  have htwn : u.twn = v.twn := by rw [h]
  rw [lineRefresh_eq, hnow, htwn]
  exact (regFrame_linesShow h).setTwn _

theorem reg_lineRefresh {a : Nat} (ha : a ≠ Reg.twnStat) : s.lineRefresh.reg a = s.reg a := by
  rw [lineRefresh_eq]
  show s.linesShow.reg a = _
  unfold State.linesShow
  split <;> rw [State.reg_setRb_ne _ _ _ _ _ ha, State.reg_setRb_ne _ _ _ _ _ ha]

theorem twnStat_lineRefresh : s.lineRefresh.reg Reg.twnStat =
    lineWord (s.reg Reg.twnStat) (s.isTwin && s.twn.aliveIn) (!s.isTwin || s.twn.ownIn && !s.rb Reg.twnStat 9) := by
  have hset : ∀ b c, ((s.setRb Reg.twnStat 7 b).setRb Reg.twnStat 8 c).reg Reg.twnStat = lineWord (s.reg Reg.twnStat) b c :=
    fun b c => (State.reg_setReg_same _ _ _).trans (congrArg (putBit · 8 c) (State.reg_setReg_same _ _ _))
  have hpull : (s.setRb Reg.twnStat 7 s.twn.aliveIn).rb Reg.twnStat 9 = s.rb Reg.twnStat 9 :=
    (congrArg (bitOf · 9) (State.reg_setReg_same s _ _)).trans (bitOf_putFld_apart _ 7 1 _ 9 (by decide) (by decide))
  rw [lineRefresh_eq]
  show s.linesShow.reg Reg.twnStat = _
  cases htwin : s.isTwin with
  | true => simp only [State.linesShow, htwin, if_true, hset, Bool.true_and, Bool.not_true, Bool.false_or]
  | false => simp only [State.linesShow, htwin, Bool.false_eq_true, if_false, hset, Bool.false_and, Bool.not_false, Bool.true_or]

/-- A chip is a twin by its part and its position. -/
theorem isTwin_congr (hvariant : u.variant = s.variant) (hpos : fld (u.reg Reg.twnStat) 0 2 = fld (s.reg Reg.twnStat) 0 2) :
    u.isTwin = s.isTwin := by
  simp only [State.isTwin, State.present, State.rf, hvariant, hpos]

/-- A token that leaves whether or not the link is up joins the queue (R348). -/
theorem sendToken_always {x : Token} (htwin : s.isTwin = true) (hx : tokenAlways x = true) :
    s.sendToken x = { s with twn := { s.twn with tx := tokenQueue x s.twn.tx } } := by
  simp [State.sendToken, htwin, hx]

theorem RegFrame.sendToken {x : Token} (h : RegFrame s v u) (htwin : u.isTwin = true) (hx : tokenAlways x = true) :
    RegFrame s { v with twn := { v.twn with tx := tokenQueue x v.twn.tx } } (u.sendToken x) := by
  have htwn : u.twn = v.twn := by rw [h]
  rw [sendToken_always htwin hx, htwn]
  exact h.setTwn _

theorem reg_sendToken (x : Token) (a : Nat) : (s.sendToken x).reg a = s.reg a := by
  unfold State.sendToken
  split <;> rfl

/-! ### OWN pulled and released (R336) -/

theorem rb_setRb_pull (b : Bool) : (s.setRb Reg.twnStat 9 b).rb Reg.twnStat 9 = b :=
  (congrArg (bitOf · 9) (State.reg_setReg_same s _ _)).trans (bitOf_putBit _ 9 b (by decide))

theorem isTwin_setRb_pull (b : Bool) : (s.setRb Reg.twnStat 9 b).isTwin = s.isTwin :=
  isTwin_congr rfl ((congrArg (fld · 0 2) (State.reg_setReg_same s _ _)).trans (fld_putFld_apart _ 9 1 _ 0 2 (by decide) (by decide)))

theorem regFrame_ownPull : RegFrame s { s with twn := s.twn.lined s.now true } s.ownPull := by
  have hframe := ((RegFrame.refl s).setReg Reg.twnStat (putBit (s.reg Reg.twnStat) 9 true)).lineRefresh
  rwa [show (s.setReg Reg.twnStat (putBit (s.reg Reg.twnStat) 9 true)).rb Reg.twnStat 9 = true from rb_setRb_pull true] at hframe

theorem reg_ownPull {a : Nat} (ha : a ≠ Reg.twnStat) : s.ownPull.reg a = s.reg a :=
  (reg_lineRefresh ha).trans (State.reg_setReg_ne s _ _ _ ha)

theorem twnStat_ownPull (htwin : s.isTwin = true) :
    s.ownPull.reg Reg.twnStat = lineWord (putBit (s.reg Reg.twnStat) 9 true) s.twn.aliveIn false := by
  rw [State.ownPull, twnStat_lineRefresh, isTwin_setRb_pull, htwin, rb_setRb_pull]
  simp only [Bool.true_and, Bool.not_true, Bool.and_false, Bool.or_false]
  exact congrArg (lineWord · _ _) (State.reg_setReg_same s _ _)

theorem regFrame_ownRelease :
    RegFrame s { s with twn := { s.twn.lined s.now false with drives := false, driveAt := none } } s.ownRelease := by
  have hframe := (((RegFrame.refl s).setReg Reg.twnStat (putBit (s.reg Reg.twnStat) 9 false)).setTwn
    { s.twn with drives := false, driveAt := none }).lineRefresh
  rwa [show ({ s.setReg Reg.twnStat (putBit (s.reg Reg.twnStat) 9 false) with twn := { s.twn with drives := false, driveAt := none } } :
    State).rb Reg.twnStat 9 = false from rb_setRb_pull false] at hframe

theorem reg_ownRelease {a : Nat} (ha : a ≠ Reg.twnStat) : s.ownRelease.reg a = s.reg a :=
  (reg_lineRefresh ha).trans (State.reg_setReg_ne s _ _ _ ha)

theorem twnStat_ownRelease (htwin : s.isTwin = true) :
    s.ownRelease.reg Reg.twnStat = lineWord (putBit (s.reg Reg.twnStat) 9 false) s.twn.aliveIn s.twn.ownIn := by
  let w : State := { s.setRb Reg.twnStat 9 false with twn := { s.twn with drives := false, driveAt := none } }
  have hpull : w.rb Reg.twnStat 9 = false := rb_setRb_pull false
  have hisTwin : w.isTwin = true := (isTwin_setRb_pull false).trans htwin
  have hline := twnStat_lineRefresh (s := w)
  rw [hisTwin, hpull] at hline
  simp only [Bool.true_and, Bool.not_true, Bool.not_false, Bool.and_true, Bool.false_or] at hline
  exact hline.trans (congrArg (lineWord · _ _) (State.reg_setReg_same s _ _))

/-! ### The role (R335, R349) -/

/-- TWN_STAT with a role, FORMED and, where there is one, a cause. -/
def roleWord (x : Word) (role : Nat) (formed : Bool) : Option Nat → Word
  | some c => putFld (putBit (putFld x 2 2 role) 4 formed) 16 4 c
  | none => putBit (putFld x 2 2 role) 4 formed

theorem bitOf_roleWord_formed (x : Word) (role : Nat) (formed : Bool) (cause : Option Nat) :
    bitOf (roleWord x role formed cause) 4 = formed := by
  cases cause with
  | some c => exact (bitOf_putFld_apart _ 16 4 c 4 (by decide) (by decide)).trans (bitOf_putBit _ 4 formed (by decide))
  | none => exact bitOf_putBit _ 4 formed (by decide)

theorem bitOf_roleWord_apart (x : Word) (role : Nat) (formed : Bool) (cause : Option Nat) {i : Nat} (h5 : 5 ≤ i) (hi : i < 16) :
    bitOf (roleWord x role formed cause) i = bitOf x i := by
  have hrole : bitOf (putBit (putFld x 2 2 role) 4 formed) i = bitOf x i :=
    (bitOf_putFld_apart _ 4 1 _ i (by omega) (by omega)).trans (bitOf_putFld_apart _ 2 2 _ i (by omega) (by omega))
  cases cause with
  | some c => exact (bitOf_putFld_apart _ 16 4 c i (by omega) (by omega)).trans hrole
  | none => exact hrole

theorem fld_roleWord_role (x : Word) (role : Nat) (formed : Bool) (cause : Option Nat) :
    fld (roleWord x role formed cause) 2 2 = role % 4 := by
  have hrole : fld (putBit (putFld x 2 2 role) 4 formed) 2 2 = role % 4 :=
    (fld_putFld_apart _ 4 1 _ 2 2 (by decide) (by decide)).trans (fld_putFld x 2 2 role (by decide))
  cases cause with
  | some c => exact (fld_putFld_apart _ 16 4 c 2 2 (by decide) (by decide)).trans hrole
  | none => exact hrole

theorem fld_roleWord_cause (x : Word) (role : Nat) (formed : Bool) (cause : Option Nat) :
    fld (roleWord x role formed cause) 16 4 = (cause.map (· % 16)).getD (fld x 16 4) := by
  cases cause with
  | some c => exact fld_putFld _ 16 4 c (by decide)
  | none =>
    exact (fld_putFld_apart _ 4 1 _ 16 4 (by decide) (by decide)).trans (fld_putFld_apart x 2 2 role 16 4 (by decide) (by decide))

theorem and_roleWord_some (x mask : Word) (role : Nat) (formed : Bool) (c : Nat)
    (hmask : ∀ i < 32, 2 ≤ i ∧ i < 5 ∨ 16 ≤ i ∧ i < 20 → mask.getLsbD i = false) :
    roleWord x role formed (some c) &&& mask = x &&& mask :=
  (and_putFld _ _ c fun i hi h1 h2 => hmask i hi (by omega)).trans
    ((and_putFld _ _ _ fun i hi h1 h2 => hmask i hi (by omega)).trans (and_putFld _ _ role fun i hi h1 h2 => hmask i hi (by omega)))

theorem and_roleWord_none (x mask : Word) (role : Nat) (formed : Bool) (hmask : ∀ i < 32, 2 ≤ i ∧ i < 5 → mask.getLsbD i = false) :
    roleWord x role formed none &&& mask = x &&& mask :=
  (and_putFld _ _ _ fun i hi h1 h2 => hmask i hi (by omega)).trans (and_putFld _ _ role fun i hi h1 h2 => hmask i hi (by omega))

/-- The registers that a role, FORMED and a cause stand in. -/
def State.roleShown (s : State) (role : Nat) (formed : Bool) (cause : Option Nat) : State :=
  let s := (s.setRf Reg.twnStat 2 2 role).setRb Reg.twnStat 4 formed
  match cause with
  | some c => s.setRf Reg.twnStat 16 4 c
  | none => s

theorem twnStat_roleShown (role : Nat) (formed : Bool) (cause : Option Nat) :
    (s.roleShown role formed cause).reg Reg.twnStat = roleWord (s.reg Reg.twnStat) role formed cause := by
  have hrole : ((s.setRf Reg.twnStat 2 2 role).setRb Reg.twnStat 4 formed).reg Reg.twnStat =
      putBit (putFld (s.reg Reg.twnStat) 2 2 role) 4 formed :=
    (State.reg_setReg_same _ _ _).trans (congrArg (putBit · 4 formed) (State.reg_setReg_same _ _ _))
  cases cause with
  | some c => exact (State.reg_setReg_same _ _ _).trans (congrArg (putFld · 16 4 c) hrole)
  | none => exact hrole

theorem reg_roleShown {a : Nat} (ha : a ≠ Reg.twnStat) (role : Nat) (formed : Bool) (cause : Option Nat) :
    (s.roleShown role formed cause).reg a = s.reg a := by
  have hrole : ((s.setRf Reg.twnStat 2 2 role).setRb Reg.twnStat 4 formed).reg a = s.reg a :=
    (State.reg_setReg_ne _ _ _ _ ha).trans (State.reg_setReg_ne _ _ _ _ ha)
  cases cause with
  | some c => exact (State.reg_setReg_ne _ _ _ _ ha).trans hrole
  | none => exact hrole

theorem RegFrame.roleShown (h : RegFrame s v u) (role : Nat) (formed : Bool) (cause : Option Nat) :
    RegFrame s v (u.roleShown role formed cause) := by
  cases cause with
  | some c => exact ((h.setReg _ _).setReg _ _).setReg _ _
  | none => exact (h.setReg _ _).setReg _ _

/-- What a change of the role leaves before it enters the log: event 46. -/
def State.roleEvent (s : State) (role : Nat) (formed : Bool) (cause : Option Nat) : State :=
  let s := s.roleShown role formed cause
  ({ s with twn := { s.twn with roleTick := s.stamp, kickAt := s.now }, zon := { s.zon with due := false } } : State).fire 46

/-- The parameter of ROLE_CHANGE (R616). -/
def roleParam (x : Word) (role : Nat) (formed : Bool) (cause : Option Nat) : Nat :=
  (if formed then 65536 else 0) + role * 256 + fld (roleWord x role formed cause) 16 4

/-- A new role is shown, counts from now on, and is event 46. -/
theorem roleTo_of_ne {role : Nat} (hrole : role ≠ s.role) (formed : Bool) (cause : Option Nat) :
    s.roleTo role formed cause = (s.roleEvent role formed cause).happen 46 (roleParam (s.reg Reg.twnStat) role formed cause) := by
  have hchanged : (role != s.role || formed != s.rb Reg.twnStat 4) = true := by simp [hrole]
  have hparam : (s.roleShown role formed cause).rf Reg.twnStat 16 4 = fld (roleWord (s.reg Reg.twnStat) role formed cause) 16 4 :=
    congrArg (fld · 16 4) (twnStat_roleShown role formed cause)
  unfold State.roleTo
  extract_lets changed w x
  rw [if_neg (by simp [changed, hchanged]), roleParam, ← hparam]
  rfl

theorem RegFrame.roleEvent (h : RegFrame s v u) (role : Nat) (formed : Bool) (cause : Option Nat) :
    RegFrame s { v with twn := { v.twn with roleTick := v.stamp, kickAt := v.now }, zon := { v.zon with due := false } }
      (u.roleEvent role formed cause) := by
  have hshown := h.roleShown role formed cause
  refine RegFrame.fire ?_ 46
  generalize u.roleShown role formed cause = w at hshown
  unfold RegFrame at *
  rw [hshown]
  rfl

theorem twnStat_roleEvent (role : Nat) (formed : Bool) (cause : Option Nat) :
    (s.roleEvent role formed cause).reg Reg.twnStat = roleWord (s.reg Reg.twnStat) role formed cause :=
  (State.reg_fire _ 46 _ (by decide)).trans (twnStat_roleShown role formed cause)

theorem reg_roleEvent {a : Nat} (ha : a ≠ Reg.twnStat) (hlatch : a ∉ latchRegs) (role : Nat) (formed : Bool) (cause : Option Nat) :
    (s.roleEvent role formed cause).reg a = s.reg a :=
  (State.reg_fire _ 46 _ hlatch).trans (reg_roleShown ha role formed cause)

theorem Fired.roleEvent {l : List Nat} (h : Fired s u l) (role : Nat) (formed : Bool) (cause : Option Nat) :
    Fired s (u.roleEvent role formed cause) (l ++ [46]) := by
  refine Fired.fire (h.congr ?_ fun a ha => ?_) 46 (by decide)
  · rw [(RegFrame.refl u).roleShown role formed cause]
  · exact reg_roleShown (by revert a; decide) role formed cause

end Sys2Proof.Machine
end

section
/-! PROOFS. The twin watchdog, the levels of the lines, OWN_STUCK and the tokens of a claim (R336, R338, R339, R342, R343, R345). -/

namespace Sys2Proof.Machine

variable {s u v : State} {c : Instr}

/-- The end of a command that writes TWN_STAT. -/
theorem answers_twnStat {events : List Nat} (hexec : exec c s = u.done) (hframe : RegFrame s v u)
    (hregs : ∀ a, a ≠ Reg.twnStat → a ∉ latchRegs → u.reg a = s.reg a) (hfired : Fired s u events) :
    ∃ t, exec c s = .next t ∧ t = { v with regs := t.regs, cen := cenNoted s t } ∧ t.reg Reg.twnStat = u.reg Reg.twnStat ∧
      regsKept s t [Reg.twnStat] ∧ eventsFired s t events :=
  ⟨_, hexec, hframe.settle, State.reg_settle u _ (by decide), regsKept_settle fun a ha => hregs a (by simpa using ha), hfired.done⟩

/-- The end of a command that changes only what TWN keeps beside its registers. -/
theorem answers_twn {w : TwnSt} (hexec : exec c s = ({ s with twn := w } : State).done) :
    ∃ t, exec c s = .next t ∧ t = { s with regs := t.regs, twn := w, cen := cenNoted s t } ∧ regsKept s t [] ∧ eventsFired s t [] :=
  ⟨_, hexec, ((RegFrame.refl s).setTwn w).settle, regsKept_settle fun _ _ _ => rfl, eventsFired_nil rfl fun _ _ => rfl⟩

/-! ### The twin watchdog (R339) -/

theorem answers_twinKick {who : Init} (hpresent : s.present 16 = true) (hmay : mayWrite who 16 s) :
    ∃ t, exec (.twinKick who) s = .next t ∧ t = { s with regs := t.regs, twn := { s.twn with kickAt := s.now }, cen := cenNoted s t } ∧
      regsKept s t [] ∧ eventsFired s t [] :=
  answers_twn (congrArg State.done (State.guardWrite_eq hpresent hmay))

/-- What the twin watchdog leaves of a chip that holds OWN. -/
def State.watchdogReleased (s : State) : State :=
  let u := s.ownRelease.sendToken (.release 2)
  { u with twn := { u.twn with forcedAt := some (u.now + 1) } }

theorem exec_twinWatchdog (htwin : s.isTwin = true) (hawake : s.awake = true) (hrole : s.role = 2) (hformed : s.rb Reg.twnStat 4 = true)
    (hown : s.rb Reg.twnStat 9 = true) (hdue : s.twn.kickAt + 4 ≤ s.now) : exec .twinWatchdog s = s.watchdogReleased.done := by
  show execTwinWatchdog s = _
  rw [execTwinWatchdog, if_pos (by simp [htwin, hawake, hrole, hformed, hown, hdue])]
  rfl

theorem isTwin_ownRelease (htwin : s.isTwin = true) : s.ownRelease.isTwin = true := by
  rw [isTwin_congr (s := s) (by rw [regFrame_ownRelease]), htwin]
  rw [twnStat_ownRelease htwin, fld_lineWord_apart _ _ _ (by decide) (by decide), putBit, fld_putFld_apart _ _ _ _ _ _ (by decide) (by decide)]

theorem regFrame_watchdogReleased (htwin : s.isTwin = true) :
    RegFrame s { s with twn := { s.twn.lined s.now false with
      drives := false, driveAt := none, forcedAt := some (s.now + 1), tx := (s.sendToken (.release 2)).twn.tx } } s.watchdogReleased := by
  have hsent := (regFrame_ownRelease (s := s)).sendToken (x := .release 2) (isTwin_ownRelease htwin) rfl
  rw [sendToken_always htwin (x := .release 2) rfl]
  unfold State.watchdogReleased
  generalize s.ownRelease.sendToken (.release 2) = w at hsent
  unfold RegFrame at *
  rw [hsent]
  rfl

theorem answers_twinWatchdog (htwin : s.isTwin = true) (hawake : s.awake = true) (hrole : s.role = 2) (hformed : s.rb Reg.twnStat 4 = true)
    (hown : s.rb Reg.twnStat 9 = true) (hdue : s.twn.kickAt + 4 ≤ s.now) :
    ∃ t, exec .twinWatchdog s = .next t ∧
      t = { s with regs := t.regs, cen := cenNoted s t,
                   twn := { s.twn.lined s.now false with drives := false, driveAt := none, forcedAt := some (s.now + 1),
                                                         tx := (s.sendToken (.release 2)).twn.tx } } ∧
      t.rb Reg.twnStat 7 = s.twn.aliveIn ∧ t.rb Reg.twnStat 8 = s.twn.ownIn ∧ t.rb Reg.twnStat 9 = false ∧
      t.reg Reg.twnStat &&& 0xFFFFFC7F = s.reg Reg.twnStat &&& 0xFFFFFC7F ∧ regsKept s t [Reg.twnStat] ∧ eventsFired s t [] := by
  have hreg : ∀ a, s.watchdogReleased.reg a = s.ownRelease.reg a := reg_sendToken _
  have hother : ∀ a, a ≠ Reg.twnStat → s.watchdogReleased.reg a = s.reg a := fun a ha => (hreg a).trans (reg_ownRelease ha)
  have hframe := regFrame_watchdogReleased htwin
  have hfired : Fired s s.watchdogReleased [] :=
    (Fired.refl s).congr (by rw [hframe]) fun a ha => hother a (by revert a; decide)
  obtain ⟨t, hnext, hend, hstat, hkept, hevents⟩ :=
    answers_twnStat (exec_twinWatchdog htwin hawake hrole hformed hown hdue) hframe (fun a ha _ => hother a ha) hfired
  have hword : t.reg Reg.twnStat = lineWord (putBit (s.reg Reg.twnStat) 9 false) s.twn.aliveIn s.twn.ownIn :=
    hstat.trans ((hreg _).trans (twnStat_ownRelease htwin))
  refine ⟨t, hnext, hend, ?_, ?_, ?_, ?_, hkept, hevents⟩
  · exact (congrArg (bitOf · 7) hword).trans (bitOf_lineWord_alive _ _ _)
  · exact (congrArg (bitOf · 8) hword).trans (bitOf_lineWord_own _ _ _)
  · exact (congrArg (bitOf · 9) hword).trans
      ((bitOf_lineWord_apart _ _ _ (by decide) (by decide)).trans (bitOf_putBit _ 9 false (by decide)))
  · rw [hword]
    exact (and_lineWord _ _ _ _ (by decide) (by decide)).trans (and_putBit _ _ _ (by decide))

/-! ### The levels of the lines -/

theorem answers_ownChange (own alive : Bool) :
    ∃ t, exec (.ownChange own alive) s = .next t ∧
      t = { s with regs := t.regs, cen := cenNoted s t,
                   twn := ({ s.twn with ownIn := own, aliveIn := alive } : TwnSt).lined s.now (s.rb Reg.twnStat 9) } ∧
      t.rb Reg.twnStat 7 = (s.isTwin && alive) ∧ t.rb Reg.twnStat 8 = (!s.isTwin || own && !s.rb Reg.twnStat 9) ∧
      t.reg Reg.twnStat &&& 0xFFFFFE7F = s.reg Reg.twnStat &&& 0xFFFFFE7F ∧ regsKept s t [Reg.twnStat] ∧ eventsFired s t [] := by
  let w : State := { s with twn := { s.twn with ownIn := own, aliveIn := alive } }
  have hframe := ((RegFrame.refl s).setTwn { s.twn with ownIn := own, aliveIn := alive }).lineRefresh
  have hother : ∀ a, a ≠ Reg.twnStat → w.lineRefresh.reg a = s.reg a := fun a ha => reg_lineRefresh ha
  have hfired : Fired s w.lineRefresh [] :=
    (Fired.refl s).congr (by rw [hframe]) fun a ha => hother a (by revert a; decide)
  obtain ⟨t, hnext, hend, hstat, hkept, hevents⟩ := answers_twnStat (c := .ownChange own alive) rfl hframe (fun a ha _ => hother a ha) hfired
  have hword : t.reg Reg.twnStat = lineWord (s.reg Reg.twnStat) (s.isTwin && alive) (!s.isTwin || own && !s.rb Reg.twnStat 9) :=
    hstat.trans (twnStat_lineRefresh (s := w))
  refine ⟨t, hnext, hend, ?_, ?_, ?_, hkept, hevents⟩
  · exact (congrArg (bitOf · 7) hword).trans (bitOf_lineWord_alive _ _ _)
  · exact (congrArg (bitOf · 8) hword).trans (bitOf_lineWord_own _ _ _)
  · rw [hword]
    exact and_lineWord _ _ _ _ (by decide) (by decide)

/-! ### OWN_STUCK (R343) and the drive of a claim (R340) -/

theorem answers_claimDrive {n : Nat} (hawake : s.awake = true) (hat : s.twn.driveAt = some n) (hdue : n ≤ s.now) :
    ∃ t, exec .claimDrive s = .next t ∧ t = { s with regs := t.regs, twn := { s.twn with drives := true, driveAt := none }, cen := cenNoted s t } ∧
      regsKept s t [] ∧ eventsFired s t [] := by
  refine answers_twn ?_
  show execClaimDrive s = _
  rw [execClaimDrive, hat]
  exact congrArg State.done (if_pos (by simp [hawake, hdue]))

/-- Both lines have stood low at 8 base ticks. -/
def State.stuckLogged (s : State) : State :=
  (({ s with twn := { s.twn with stuckDone := true } } : State).setRb Reg.twnStat 11 true).fault 0x0F05 0

theorem exec_ownStuck {n : Nat} (htwin : s.isTwin = true) (hawake : s.awake = true) (hat : s.twn.bothLowAt = some n) (hdue : n + 8 ≤ s.now)
    (hpull : s.rb Reg.twnStat 9 = false) (honce : s.twn.stuckDone = false) : exec .ownStuck s = s.stuckLogged.done := by
  show execOwnStuck s = _
  rw [execOwnStuck, hat]
  exact congrArg State.done (if_pos (by simp [htwin, hawake, hpull, honce, hdue]))

theorem answers_ownStuck {n : Nat} (htwin : s.isTwin = true) (hawake : s.awake = true) (hat : s.twn.bothLowAt = some n)
    (hdue : n + 8 ≤ s.now) (hpull : s.rb Reg.twnStat 9 = false) (honce : s.twn.stuckDone = false) :
    ∃ t, exec .ownStuck s = .next t ∧
      t = { s with regs := t.regs, log := (s.fault 0x0F05 0).log, twn := { s.twn with stuckDone := true }, cen := cenNoted s t } ∧
      t.rb Reg.twnStat 11 = true ∧ t.reg Reg.twnStat &&& 0xFFFFF7FF = s.reg Reg.twnStat &&& 0xFFFFF7FF ∧ regsKept s t [Reg.twnStat] ∧
      eventsFired s t [] := by
  let w : State := ({ s with twn := { s.twn with stuckDone := true } } : State).setRb Reg.twnStat 11 true
  have hreg : ∀ a, s.stuckLogged.reg a = w.reg a := State.reg_fault w _ _
  have hother : ∀ a, a ≠ Reg.twnStat → s.stuckLogged.reg a = s.reg a := fun a ha => (hreg a).trans (State.reg_setReg_ne _ _ _ _ ha)
  have halike : LogAlike s w :=
    ⟨rfl, rfl, rfl, rfl, fun a ha => State.reg_setReg_ne _ _ _ _ (by revert a; decide)⟩
  have hlog : (w.fault 0x0F05 0).log = (s.fault 0x0F05 0).log := (halike.fault _ _).log
  have hframe := (((RegFrame.refl s).setTwn { s.twn with stuckDone := true }).setReg Reg.twnStat
    (putBit (s.reg Reg.twnStat) 11 true)).fault 0x0F05 0
  have hfired : Fired s s.stuckLogged [] :=
    (Fired.refl s).congr (by rw [State.stuckLogged, State.fault_variant]; rfl) fun a ha => hother a (by revert a; decide)
  obtain ⟨t, hnext, hend, hstat, hkept, hevents⟩ :=
    answers_twnStat (exec_ownStuck htwin hawake hat hdue hpull honce) hframe (fun a ha _ => hother a ha) hfired
  have hword : t.reg Reg.twnStat = putBit (s.reg Reg.twnStat) 11 true := hstat.trans ((hreg _).trans (State.reg_setReg_same _ _ _))
  refine ⟨t, hnext, ?_, ?_, ?_, hkept, hevents⟩
  · rw [← hlog]
    exact hend
  · exact (congrArg (bitOf · 11) hword).trans (bitOf_putBit _ 11 true (by decide))
  · rw [hword]
    exact and_putBit _ _ _ (by decide)

/-! ### The tokens of a claim and a release (R342, R345) -/

theorem answers_claimToken_plain (htwin : s.isTwin = true) (hapart : s.twn.driveAt = none ∨ s.rf Reg.twnStat 0 2 ≠ 2) :
    ∃ t, exec .claimToken s = .next t ∧ t = { s with regs := t.regs, twn := { s.twn with relCause := none }, cen := cenNoted s t } ∧
      regsKept s t [] ∧ eventsFired s t [] := by
  have hstays : (s.twn.driveAt.isSome && s.rf Reg.twnStat 0 2 == 2) = false := by
    rcases hapart with hnone | hcope
    · simp [hnone]
    · simp [hcope]
  refine answers_twn ?_
  show execClaimToken s = _
  rw [execClaimToken, if_neg (by simp [htwin])]
  exact congrArg State.done (if_neg (by rw [Bool.not_eq_true]; exact hstays))

theorem answers_releaseToken {cause : Nat} (htwin : s.isTwin = true) (hrole : s.role ≠ 2) :
    ∃ t, exec (.releaseToken cause) s = .next t ∧
      t = { s with regs := t.regs, twn := { s.twn with relCause := some (cause % 256) }, cen := cenNoted s t } ∧
      regsKept s t [] ∧ eventsFired s t [] :=
  answers_twn (congrArg State.done (if_pos (by simp [htwin, hrole])))

/-- A DRAG that has claimed lets OWN go again. -/
def State.claimGiven (s : State) : State := ({ s with twn := { s.twn with relCause := none } } : State).ownRelease

theorem twnStat_claimGiven (htwin : s.isTwin = true) :
    s.claimGiven.reg Reg.twnStat = lineWord (putBit (s.reg Reg.twnStat) 9 false) s.twn.aliveIn s.twn.ownIn :=
  twnStat_ownRelease (s := { s with twn := { s.twn with relCause := none } }) htwin

theorem reg_claimGiven {a : Nat} (ha : a ≠ Reg.twnStat) : s.claimGiven.reg a = s.reg a :=
  reg_ownRelease (s := { s with twn := { s.twn with relCause := none } }) ha

theorem regFrame_claimGiven :
    RegFrame s { s with twn := { s.twn.lined s.now false with relCause := none, drives := false, driveAt := none } } s.claimGiven :=
  regFrame_ownRelease (s := { s with twn := { s.twn with relCause := none } })

theorem fld_claimGiven (htwin : s.isTwin = true) {lo w : Nat} (hin : lo + w ≤ 32) (hap : lo + w ≤ 7 ∨ 10 ≤ lo) :
    fld (s.claimGiven.reg Reg.twnStat) lo w = fld (s.reg Reg.twnStat) lo w := by
  rw [twnStat_claimGiven htwin, fld_lineWord_apart _ _ _ hin (by omega)]
  exact fld_putFld_apart _ 9 1 _ lo w hin (by omega)

/-- What of a chip that has let OWN go the log takes. -/
theorem logAlike_claimGiven : LogAlike s (s.claimGiven.roleEvent 0 false none) := by
  have hframe := (regFrame_claimGiven (s := s)).roleEvent 0 false none
  refine ⟨by rw [hframe], by rw [hframe], by rw [hframe], by rw [hframe], fun a ha => ?_⟩
  have hplace : a ≠ Reg.twnStat ∧ a ∉ latchRegs := by revert a; decide
  exact (reg_roleEvent hplace.1 hplace.2 _ _ _).trans (reg_claimGiven hplace.1)

theorem exec_claimToken (htwin : s.isTwin = true) (hclaimed : s.twn.driveAt.isSome = true) (hdrag : s.rf Reg.twnStat 0 2 = 2)
    (hrole : s.role = 2) :
    exec .claimToken s = ((s.claimGiven.roleEvent 0 false none).happen 46 (s.rf Reg.twnStat 16 4)).done := by
  have hheld : s.claimGiven.role = 2 := (fld_claimGiven htwin (by decide) (by decide)).trans hrole
  have hparam : roleParam (s.claimGiven.reg Reg.twnStat) 0 false none = s.rf Reg.twnStat 16 4 := by
    have hcause := fld_claimGiven htwin (lo := 16) (w := 4) (by decide) (by decide)
    rw [roleParam, fld_roleWord_cause]
    simp [State.rf, hcause]
  rw [← hparam, ← roleTo_of_ne (by rw [hheld]; decide)]
  show execClaimToken s = _
  rw [execClaimToken, if_neg (by simp [htwin])]
  exact congrArg State.done (if_pos (by rw [Bool.and_eq_true, beq_iff_eq]; exact ⟨hclaimed, hdrag⟩))

theorem answers_claimToken (htwin : s.isTwin = true) (hclaimed : s.twn.driveAt.isSome = true) (hdrag : s.rf Reg.twnStat 0 2 = 2)
    (hrole : s.role = 2) :
    ∃ t, exec .claimToken s = .next t ∧
      t = { s with regs := t.regs, cen := cenNoted s t, log := (s.happen 46 (s.rf Reg.twnStat 16 4)).log,
                   zon := { s.zon with due := false },
                   twn := { s.twn.lined s.now false with
                     relCause := none, drives := false, driveAt := none, roleTick := s.stamp, kickAt := s.now } } ∧
      t.role = 0 ∧ t.rb Reg.twnStat 4 = false ∧ t.rb Reg.twnStat 7 = s.twn.aliveIn ∧ t.rb Reg.twnStat 8 = s.twn.ownIn ∧
      t.rb Reg.twnStat 9 = false ∧
      t.reg Reg.twnStat &&& 0xFFFFFC63 = s.reg Reg.twnStat &&& 0xFFFFFC63 ∧ regsKept s t [Reg.twnStat] ∧ eventsFired s t [46] := by
  let w : State := s.claimGiven.roleEvent 0 false none
  let n : Nat := s.rf Reg.twnStat 16 4
  have hreg : ∀ a, (w.happen 46 n).reg a = w.reg a := State.reg_happen w 46 n
  have hother : ∀ a, a ≠ Reg.twnStat → a ∉ latchRegs → (w.happen 46 n).reg a = s.reg a := fun a ha hl =>
    (hreg a).trans ((reg_roleEvent ha hl _ _ _).trans (reg_claimGiven ha))
  have hgiven : Fired s s.claimGiven [] :=
    (Fired.refl s).congr (by rw [regFrame_claimGiven]) fun a ha => reg_claimGiven (by revert a; decide)
  have hfired : Fired s (w.happen 46 n) [46] := (hgiven.roleEvent 0 false none).congr (by rw [State.happen_variant]) fun a _ => hreg a
  obtain ⟨t, hnext, hend, hstat, hkept, hevents⟩ := answers_twnStat (exec_claimToken htwin hclaimed hdrag hrole)
    ((regFrame_claimGiven.roleEvent 0 false none).happen 46 n) hother hfired
  have hword : t.reg Reg.twnStat =
      roleWord (lineWord (putBit (s.reg Reg.twnStat) 9 false) s.twn.aliveIn s.twn.ownIn) 0 false none :=
    hstat.trans ((hreg _).trans ((twnStat_roleEvent _ _ _).trans (congrArg (roleWord · _ _ _) (twnStat_claimGiven htwin))))
  refine ⟨t, hnext, ?_, ?_, ?_, ?_, ?_, ?_, ?_, hkept, hevents⟩
  · rw [← (logAlike_claimGiven.happen 46 n).log]
    exact hend
  · exact (congrArg (fld · 2 2) hword).trans (fld_roleWord_role _ _ _ _)
  · exact (congrArg (bitOf · 4) hword).trans (bitOf_roleWord_formed _ _ _ _)
  · exact (congrArg (bitOf · 7) hword).trans ((bitOf_roleWord_apart _ _ _ _ (by decide) (by decide)).trans (bitOf_lineWord_alive _ _ _))
  · exact (congrArg (bitOf · 8) hword).trans ((bitOf_roleWord_apart _ _ _ _ (by decide) (by decide)).trans (bitOf_lineWord_own _ _ _))
  · exact (congrArg (bitOf · 9) hword).trans ((bitOf_roleWord_apart _ _ _ _ (by decide) (by decide)).trans
      ((bitOf_lineWord_apart _ _ _ (by decide) (by decide)).trans (bitOf_putBit _ 9 false (by decide))))
  · rw [hword]
    exact (and_roleWord_none _ _ _ _ (by decide)).trans ((and_lineWord _ _ _ _ (by decide) (by decide)).trans (and_putBit _ _ _ (by decide)))

end Sys2Proof.Machine
end

section
/-! PROOFS. What a claim does to keys, the lock and the sequence counter (R318, R330, R349, R578). -/

namespace Sys2Proof.Machine

variable {s u v g : State}

theorem RegFrame.setKpd (h : RegFrame s v u) (k : KpdSt) : RegFrame s { v with kpd := k } { u with kpd := k } := by
  unfold RegFrame at *
  rw [h]
  rfl

/-! ### Keys and the lock (R578) -/

theorem reg_forEach_setReg_zero (l : List Nat) (f : Nat → Nat) (a : Nat) :
    (s.forEach l fun s i => s.setReg (f i) 0).reg a = if a ∈ l.map f then 0 else s.reg a := by
  induction l generalizing s with
  | nil => rfl
  | cons i l ih =>
    rw [State.forEach_cons, ih, State.reg_setReg]
    by_cases hl : a ∈ l.map f
    · rw [if_pos hl, List.map_cons, if_pos (List.mem_cons_of_mem _ hl)]
    · rw [if_neg hl]
      exact if_congr (by simp only [List.map_cons, List.mem_cons, hl, or_false]) rfl rfl

theorem RegFrame.forEach_setReg (h : RegFrame s v u) (l : List Nat) (f : Nat → Nat) (x : Word) :
    RegFrame s v (u.forEach l fun s i => s.setReg (f i) x) := by
  induction l generalizing u with
  | nil => exact h
  | cons i l ih => exact ih (h.setReg _ _)

theorem RegFrame.keysUp (h : RegFrame s v u) : RegFrame s { v with kpd := { v.kpd with keys := [] } } u.keysUp := by
  have hkpd : u.kpd = v.kpd := by rw [h]
  have hkeys := h.setKpd { v.kpd with keys := [] }
  rw [← hkpd] at hkeys ⊢
  exact hkeys.forEach_setReg _ _ _

theorem reg_keysUp (a : Nat) : s.keysUp.reg a = if a ∈ (List.range 8).map Reg.kpdMask then 0 else s.reg a :=
  reg_forEach_setReg_zero (s := { s with kpd := { s.kpd with keys := [] } }) _ _ _

/-- The lock engages, at the start of its sequence. -/
def State.lockEngage (s : State) : State := ((s.setLock 1).setPos 0).setAttempts 0

theorem RegFrame.lockEngage (h : RegFrame s v u) : RegFrame s v u.lockEngage := ((h.setReg _ _).setReg _ _).setReg _ _

theorem reg_lockEngage {a : Nat} (ha : a ≠ Reg.kpdLock) : s.lockEngage.reg a = s.reg a :=
  (State.reg_setReg_ne _ _ _ _ ha).trans ((State.reg_setReg_ne _ _ _ _ ha).trans (State.reg_setReg_ne _ _ _ _ ha))

theorem kpdLock_lockEngage : s.lockEngage.reg Reg.kpdLock = putFld (putFld (putFld (s.reg Reg.kpdLock) 0 2 1) 8 4 0) 4 3 0 := by
  have hlock : (s.setLock 1).reg Reg.kpdLock = putFld (s.reg Reg.kpdLock) 0 2 1 := State.reg_setReg_same _ _ _
  have hpos : ((s.setLock 1).setPos 0).reg Reg.kpdLock = putFld (putFld (s.reg Reg.kpdLock) 0 2 1) 8 4 0 :=
    (State.reg_setReg_same _ _ _).trans (congrArg (putFld · 8 4 0) hlock)
  exact (State.reg_setReg_same _ _ _).trans (congrArg (putFld · 4 3 0) hpos)

/-- Keys are released; where there is a sequence the lock engages, as event 20 where it was not engaged. -/
theorem kpdTakeover_cases (s : State) :
    (s.lockLen = 0 ∧ s.kpdTakeover = s.keysUp) ∨
      (s.lockLen ≠ 0 ∧ s.lockState = 1 ∧ s.kpdTakeover = s.keysUp.lockEngage.fault 0x0904 0) ∨
      (s.lockLen ≠ 0 ∧ s.lockState ≠ 1 ∧ s.kpdTakeover = (s.keysUp.lockEngage.fault 0x0904 0).fire 20) := by
  have hcfg : s.keysUp.reg Reg.kpdLockcfg = s.reg Reg.kpdLockcfg := (reg_keysUp _).trans (if_neg (by decide))
  have hlock : s.keysUp.reg Reg.kpdLock = s.reg Reg.kpdLock := (reg_keysUp _).trans (if_neg (by decide))
  have hlen : s.keysUp.lockLen = s.lockLen := by simp only [State.lockLen, State.rf, hcfg]
  have hstate : s.keysUp.lockState = s.lockState := by simp only [State.lockState, State.rf, hlock]
  unfold State.kpdTakeover
  extract_lets w old x
  rw [hlen]
  by_cases hopen : s.lockLen = 0
  · exact .inl ⟨hopen, if_pos hopen⟩
  · rw [if_neg hopen]
    by_cases hengaged : s.lockState = 1
    · exact .inr (.inl ⟨hopen, hengaged, if_pos (hstate.trans hengaged)⟩)
    · exact .inr (.inr ⟨hopen, hengaged, if_neg fun h => hengaged (hstate.symm.trans h)⟩)

theorem RegFrame.kpdTakeover (h : RegFrame s v u) :
    RegFrame s { v with kpd := { v.kpd with keys := [] }, log := u.kpdTakeover.log } u.kpdTakeover := by
  have hlocked := h.keysUp.lockEngage.fault 0x0904 0
  rcases kpdTakeover_cases u with ⟨-, hu⟩ | ⟨-, -, hu⟩ | ⟨-, -, hu⟩
  · have hlog : u.keysUp.log = v.log := by rw [h.keysUp]
    rw [hu, hlog]
    exact h.keysUp
  · rw [hu]
    exact hlocked
  · rw [hu, State.fire_log]
    exact hlocked.fire 20

/-- A register that neither keys nor the lock stand in. -/
theorem reg_kpdTakeover {a : Nat} (hlock : a ≠ Reg.kpdLock) (hmask : a ∉ (List.range 8).map Reg.kpdMask) (hlatch : a ∉ latchRegs) :
    s.kpdTakeover.reg a = s.reg a := by
  have hup : s.keysUp.reg a = s.reg a := (reg_keysUp a).trans (if_neg hmask)
  have hengaged : (s.keysUp.lockEngage.fault 0x0904 0).reg a = s.reg a :=
    (State.reg_fault _ _ _ _).trans ((reg_lockEngage hlock).trans hup)
  rcases kpdTakeover_cases s with ⟨-, hu⟩ | ⟨-, -, hu⟩ | ⟨-, -, hu⟩ <;> rw [hu]
  · exact hup
  · exact hengaged
  · exact (State.reg_fire _ 20 _ hlatch).trans hengaged

theorem kpdMask_kpdTakeover {i : Nat} (hi : i < 8) : s.kpdTakeover.reg (Reg.kpdMask i) = 0 := by
  have hplace : ∀ j < 8, Reg.kpdMask j ≠ Reg.kpdLock ∧ Reg.kpdMask j ∉ latchRegs := by decide
  have hup : s.keysUp.reg (Reg.kpdMask i) = 0 := (reg_keysUp _).trans (if_pos (List.mem_map_of_mem (List.mem_range.mpr hi)))
  have hengaged : (s.keysUp.lockEngage.fault 0x0904 0).reg (Reg.kpdMask i) = 0 :=
    (State.reg_fault _ _ _ _).trans ((reg_lockEngage (hplace i hi).1).trans hup)
  rcases kpdTakeover_cases s with ⟨-, hu⟩ | ⟨-, -, hu⟩ | ⟨-, -, hu⟩ <;> rw [hu]
  · exact hup
  · exact hengaged
  · exact (State.reg_fire _ 20 _ (hplace i hi).2).trans hengaged

/-- KPD_LOCK of a state stands as a takeover of s leaves it. -/
def LockTaken (s u : State) : Prop :=
  if s.lockLen = 0 then u.reg Reg.kpdLock = s.reg Reg.kpdLock else u.lockState = 1 ∧ u.lockPos = 0 ∧ u.lockAttempts = 0

theorem LockTaken.congr {w : State} (h : LockTaken s u) (hlock : w.reg Reg.kpdLock = u.reg Reg.kpdLock) : LockTaken s w := by
  simpa only [LockTaken, State.lockState, State.lockPos, State.lockAttempts, State.rf, hlock] using h

theorem lockTaken_kpdTakeover : LockTaken s s.kpdTakeover := by
  have hlock : s.keysUp.reg Reg.kpdLock = s.reg Reg.kpdLock := (reg_keysUp _).trans (if_neg (by decide))
  have hengaged : s.lockLen ≠ 0 → LockTaken s s.keysUp.lockEngage := fun hlen => by
    rw [LockTaken, if_neg hlen]
    simp only [State.lockState, State.lockPos, State.lockAttempts, State.rf, kpdLock_lockEngage]
    refine ⟨?_, ?_, fld_putFld _ 4 3 0 (by decide)⟩
    · rw [fld_putFld_apart _ _ _ _ _ _ (by decide) (by decide), fld_putFld_apart _ _ _ _ _ _ (by decide) (by decide),
        fld_putFld _ _ _ _ (by decide)]
      rfl
    · rw [fld_putFld_apart _ _ _ _ _ _ (by decide) (by decide), fld_putFld _ _ _ _ (by decide)]
      rfl
  rcases kpdTakeover_cases s with ⟨hlen, hu⟩ | ⟨hlen, -, hu⟩ | ⟨hlen, -, hu⟩ <;> rw [hu]
  · rw [LockTaken, if_pos hlen]
    exact hlock
  · exact (hengaged hlen).congr (State.reg_fault _ _ _ _)
  · exact (hengaged hlen).congr ((State.reg_fire _ 20 _ (by decide)).trans (State.reg_fault _ _ _ _))

theorem Fired.kpdTakeover {l : List Nat} (h : Fired s u l) :
    Fired s u.kpdTakeover (l ++ if u.lockLen ≠ 0 ∧ u.lockState ≠ 1 then [20] else []) := by
  have hplace : ∀ a ∈ latchRegs, a ∉ (List.range 8).map Reg.kpdMask ∧ a ≠ Reg.kpdLock := by decide
  have hup : ∀ a ∈ latchRegs, u.keysUp.reg a = u.reg a := fun a ha => (reg_keysUp a).trans (if_neg (hplace a ha).1)
  have hframe : u.keysUp.lockEngage.variant = u.variant := by rw [(RegFrame.refl u).keysUp.lockEngage]
  have hengaged : Fired s (u.keysUp.lockEngage.fault 0x0904 0) l := h.congr ((State.fault_variant _ _ _).trans hframe) fun a ha =>
    (State.reg_fault _ _ _ _).trans ((reg_lockEngage (hplace a ha).2).trans (hup a ha))
  rcases kpdTakeover_cases u with ⟨hlen, hu⟩ | ⟨hlen, hstate, hu⟩ | ⟨hlen, hstate, hu⟩ <;> rw [hu]
  · rw [if_neg fun hboth => hboth.1 hlen, List.append_nil]
    exact h.congr (by rw [(RegFrame.refl u).keysUp]) hup
  · rw [if_neg fun hboth => hboth.2 hstate, List.append_nil]
    exact hengaged
  · rw [if_pos ⟨hlen, hstate⟩]
    exact hengaged.fire 20 (by decide)

theorem logAlike_lockEngage (s : State) : LogAlike s s.lockEngage :=
  ⟨rfl, rfl, rfl, rfl, fun a ha => reg_lockEngage (by revert a; decide)⟩

theorem LogAlike.kpdTakeover (h : LogAlike g u) : LogAlike (if u.lockLen = 0 then g else g.fault 0x0904 0) u.kpdTakeover := by
  have hplace : ∀ a ∈ [Reg.pwrStat, Reg.pwrShake, Reg.rtcStat, Reg.rtcCtrl],
      a ∉ (List.range 8).map Reg.kpdMask ∧ a ∉ latchRegs := by decide
  have hframe := (RegFrame.refl u).keysUp
  have hup : LogAlike u u.keysUp :=
    ⟨by rw [hframe], by rw [hframe], by rw [hframe], by rw [hframe], fun a ha => (reg_keysUp a).trans (if_neg (hplace a ha).1)⟩
  have hfault := ((h.trans hup).trans (logAlike_lockEngage _)).fault 0x0904 0
  rcases kpdTakeover_cases u with ⟨hlen, hu⟩ | ⟨hlen, hstate, hu⟩ | ⟨hlen, hstate, hu⟩ <;> rw [hu]
  · rw [if_pos hlen]
    exact h.trans hup
  · rw [if_neg hlen]
    exact hfault
  · rw [if_neg hlen]
    exact hfault.trans ⟨State.fire_log _ _, State.fire_pwr _ _, congrArg TbSt.count (State.fire_tb _ _), State.fire_rtc _ _,
      fun a ha => State.reg_fire _ 20 _ (hplace a ha).2⟩

/-! ### The sequence counter and its limits (R318) -/

/-- A limit that is reached shows in its bit of NET_STAT, and is logged the first time. -/
def State.limitReached (s : State) (i : Nat) (reached : Bool) (code : Nat) : State :=
  if reached && !s.rb Reg.netStat i then (s.setRb Reg.netStat i true).fault code 0 else s

theorem netSeqTo_eq (q : Nat) : s.netSeqTo q =
    ((s.setReg Reg.netSeq (BitVec.ofNat 32 (min 0xFFFFFFFF q))).limitReached 0 (decide (0xF0000000 ≤ min 0xFFFFFFFF q)) 0x0D05).limitReached 1
      (decide (min 0xFFFFFFFF q = 0xFFFFFFFF)) 0x0D06 := by
  simp only [State.netSeqTo, State.limitReached, Bool.and_eq_true]

section
variable {i : Nat} {reached : Bool} {code : Nat}

theorem RegFrame.limitReached (h : RegFrame s v u) :
    RegFrame s { v with log := (u.limitReached i reached code).log } (u.limitReached i reached code) := by
  unfold State.limitReached
  split
  · exact (h.setReg _ _).fault _ _
  · rw [show u.log = v.log by rw [h]]
    exact h

theorem reg_limitReached {a : Nat} (ha : a ≠ Reg.netStat) : (s.limitReached i reached code).reg a = s.reg a := by
  unfold State.limitReached
  split
  · exact (State.reg_fault _ _ _ _).trans (State.reg_setReg_ne _ _ _ _ ha)
  · rfl

theorem netStat_limitReached_of_new (h : (reached && !s.rb Reg.netStat i) = true) :
    (s.limitReached i reached code).reg Reg.netStat = putBit (s.reg Reg.netStat) i true := by
  rw [State.limitReached, if_pos h]
  exact (State.reg_fault _ _ _ _).trans (State.reg_setReg_same _ _ _)

theorem rb_limitReached (hi : i < 32) : (s.limitReached i reached code).rb Reg.netStat i = (s.rb Reg.netStat i || reached) := by
  cases hnew : reached && !s.rb Reg.netStat i with
  | true =>
    have hset : (s.limitReached i reached code).rb Reg.netStat i = true :=
      (congrArg (bitOf · i) (netStat_limitReached_of_new hnew)).trans (bitOf_putBit _ i true hi)
    obtain ⟨hreached, -⟩ := Bool.and_eq_true_iff.mp hnew
    rw [hset, hreached, Bool.or_true]
  | false =>
    rw [State.limitReached, if_neg (by rw [hnew]; exact Bool.false_ne_true)]
    cases reached with
    | false => rw [Bool.or_false]
    | true => rw [Bool.or_true, ← Bool.not_eq_false', ← Bool.true_and (!_), hnew]

theorem rb_limitReached_apart {j : Nat} (hj : j < 32) (hap : j ≠ i) : (s.limitReached i reached code).rb Reg.netStat j = s.rb Reg.netStat j := by
  by_cases hnew : (reached && !s.rb Reg.netStat i) = true
  · exact (congrArg (bitOf · j) (netStat_limitReached_of_new hnew)).trans (bitOf_putFld_apart _ i 1 _ j hj (by omega))
  · rw [State.limitReached, if_neg hnew]

theorem and_limitReached {mask : Word} (hmask : mask.getLsbD i = false) :
    (s.limitReached i reached code).reg Reg.netStat &&& mask = s.reg Reg.netStat &&& mask := by
  by_cases hnew : (reached && !s.rb Reg.netStat i) = true
  · rw [netStat_limitReached_of_new hnew]
    exact and_putBit _ _ _ hmask
  · rw [State.limitReached, if_neg hnew]

theorem LogAlike.limitReached (h : LogAlike g u) (hstat : u.rb Reg.netStat i = g.rb Reg.netStat i) :
    LogAlike (g.limitReached i reached code) (u.limitReached i reached code) := by
  unfold State.limitReached
  rw [hstat]
  split
  · have hg : LogAlike (g.setRb Reg.netStat i true) g :=
      ⟨rfl, rfl, rfl, rfl, fun a ha => (State.reg_setReg_ne _ _ _ _ (by revert a; decide)).symm⟩
    exact ((hg.trans h).setReg _ (by decide)).fault _ _
  · exact h

end

theorem RegFrame.netSeqTo (h : RegFrame s v u) (q : Nat) : RegFrame s { v with log := (u.netSeqTo q).log } (u.netSeqTo q) := by
  have hfirst := (h.setReg Reg.netSeq (BitVec.ofNat 32 (min 0xFFFFFFFF q))).limitReached (i := 0)
    (reached := decide (0xF0000000 ≤ min 0xFFFFFFFF q)) (code := 0x0D05)
  have hboth := hfirst.limitReached (i := 1) (reached := decide (min 0xFFFFFFFF q = 0xFFFFFFFF)) (code := 0x0D06)
  rw [← netSeqTo_eq] at hboth
  exact hboth

theorem reg_netSeqTo {a : Nat} (hseq : a ≠ Reg.netSeq) (hstat : a ≠ Reg.netStat) (q : Nat) : (s.netSeqTo q).reg a = s.reg a := by
  rw [netSeqTo_eq, reg_limitReached hstat, reg_limitReached hstat, State.reg_setReg_ne _ _ _ _ hseq]

theorem netSeq_netSeqTo (q : Nat) : (s.netSeqTo q).reg Reg.netSeq = BitVec.ofNat 32 (min 0xFFFFFFFF q) := by
  rw [netSeqTo_eq, reg_limitReached (by decide), reg_limitReached (by decide), State.reg_setReg_same]

theorem rb_netSeqTo (q : Nat) :
    (s.netSeqTo q).rb Reg.netStat 0 = (s.rb Reg.netStat 0 || decide (0xF0000000 ≤ q)) ∧
      (s.netSeqTo q).rb Reg.netStat 1 = (s.rb Reg.netStat 1 || decide (0xFFFFFFFF ≤ q)) := by
  have hset : ∀ j, (s.setReg Reg.netSeq (BitVec.ofNat 32 (min 0xFFFFFFFF q))).rb Reg.netStat j = s.rb Reg.netStat j := fun j =>
    congrArg (bitOf · j) (State.reg_setReg_ne _ _ _ _ (by decide))
  have hfirst : decide (0xF0000000 ≤ min 0xFFFFFFFF q) = decide (0xF0000000 ≤ q) := decide_eq_decide.mpr (by omega)
  have hlast : decide (min 0xFFFFFFFF q = 0xFFFFFFFF) = decide (0xFFFFFFFF ≤ q) := decide_eq_decide.mpr (by omega)
  rw [netSeqTo_eq, hfirst, hlast]
  constructor
  · rw [rb_limitReached_apart (by decide) (by decide), rb_limitReached (by decide), hset]
  · rw [rb_limitReached (by decide), rb_limitReached_apart (by decide) (by decide), hset]

theorem and_netSeqTo (q : Nat) : (s.netSeqTo q).reg Reg.netStat &&& 0xFFFFFFFC = s.reg Reg.netStat &&& 0xFFFFFFFC := by
  rw [netSeqTo_eq, and_limitReached (by decide), and_limitReached (by decide), State.reg_setReg_ne _ _ _ _ (by decide)]

theorem LogAlike.netSeqTo (h : LogAlike g u) (hstat : u.reg Reg.netStat = g.reg Reg.netStat) (q : Nat) :
    LogAlike (g.netSeqTo q) (u.netSeqTo q) := by
  have hseq : ∀ (w : State) x j, (w.setReg Reg.netSeq x).rb Reg.netStat j = w.rb Reg.netStat j := fun w x j =>
    congrArg (bitOf · j) (State.reg_setReg_ne w _ _ _ (by decide))
  have hbit : ∀ j, u.rb Reg.netStat j = g.rb Reg.netStat j := fun j => congrArg (bitOf · j) hstat
  have hg : ∀ x, LogAlike (g.setReg Reg.netSeq x) g := fun x =>
    ⟨rfl, rfl, rfl, rfl, fun a ha => (State.reg_setReg_ne _ _ _ _ (by revert a; decide)).symm⟩
  rw [netSeqTo_eq, netSeqTo_eq]
  refine LogAlike.limitReached (LogAlike.limitReached (((hg _).trans h).setReg _ (by decide)) ?_) ?_
  · rw [hseq, hseq, hbit]
  · rw [rb_limitReached_apart (by decide) (by decide), rb_limitReached_apart (by decide) (by decide), hseq, hseq, hbit]

end Sys2Proof.Machine
end

section
/-! PROOFS. A claim: CLAIM and LONE_CLAIM (R291, R330, R340, R341, R349). -/

namespace Sys2Proof.Machine

variable {s u v : State} {cause : Nat}

theorem RegFrame.stored {w : State} (h : RegFrame s v u) (hw : StoreFrame u w) : RegFrame s { v with mem := w.mem } w := by
  unfold RegFrame StoreFrame at *
  rw [hw, h]
  rfl

/-! ### OWN held, the role and the counts -/

/-- TWN_STAT of a chip that has claimed. -/
def claimWord (x : Word) (alive : Bool) (cause : Nat) : Word := roleWord (lineWord (putBit x 9 true) alive false) 2 false (some cause)

theorem bitOf_claimWord_apart (x : Word) (alive : Bool) (cause : Nat) {i : Nat} (hi : i = 5 ∨ i = 6) :
    bitOf (claimWord x alive cause) i = bitOf x i :=
  (bitOf_roleWord_apart _ _ _ _ (by omega) (by omega)).trans
    ((bitOf_lineWord_apart _ _ _ (by omega) (by omega)).trans (bitOf_putFld_apart _ 9 1 _ i (by omega) (by omega)))

theorem and_claimWord (x : Word) (alive : Bool) (cause : Nat) : claimWord x alive cause &&& 0xFFF0FC63 = x &&& 0xFFF0FC63 :=
  (and_roleWord_some _ _ _ _ _ (by decide)).trans ((and_lineWord _ _ _ _ (by decide) (by decide)).trans (and_putBit _ _ _ (by decide)))

/-- OWN is pulled, CLAIM leaves, and the role is shown. -/
def State.claimHeld (s : State) (cause : Nat) : State := (s.ownPull.sendToken .claim).roleEvent 2 false (some cause)

/-- What TWN and ZON keep beside their registers then. -/
def State.claimKept (s : State) : State :=
  { s with twn := { s.twn.lined s.now true with tx := tokenQueue .claim s.twn.tx, roleTick := s.stamp, kickAt := s.now },
           zon := { s.zon with due := false } }

theorem fld_twnStat_ownPull (htwin : s.isTwin = true) {lo w : Nat} (hin : lo + w ≤ 7) :
    fld (s.ownPull.reg Reg.twnStat) lo w = fld (s.reg Reg.twnStat) lo w := by
  rw [twnStat_ownPull htwin, fld_lineWord_apart _ _ _ (by omega) (.inl hin)]
  exact fld_putFld_apart _ 9 1 _ lo w (by omega) (by omega)

theorem isTwin_ownPull (htwin : s.isTwin = true) : s.ownPull.isTwin = true :=
  (isTwin_congr (by rw [regFrame_ownPull]) (fld_twnStat_ownPull htwin (by decide))).trans htwin

theorem regFrame_claimHeld (htwin : s.isTwin = true) : RegFrame s s.claimKept (s.claimHeld cause) :=
  ((regFrame_ownPull (s := s)).sendToken (x := .claim) (isTwin_ownPull htwin) rfl).roleEvent 2 false (some cause)

theorem twnStat_claimHeld (htwin : s.isTwin = true) :
    (s.claimHeld cause).reg Reg.twnStat = claimWord (s.reg Reg.twnStat) s.twn.aliveIn cause := by
  rw [State.claimHeld, twnStat_roleEvent, reg_sendToken, twnStat_ownPull htwin, claimWord]

theorem reg_claimHeld {a : Nat} (ha : a ≠ Reg.twnStat) (hlatch : a ∉ latchRegs) : (s.claimHeld cause).reg a = s.reg a :=
  (reg_roleEvent ha hlatch _ _ _).trans ((reg_sendToken _ a).trans (reg_ownPull ha))

theorem fired_claimHeld (htwin : s.isTwin = true) : Fired s (s.claimHeld cause) [46] := by
  have hsent := (regFrame_ownPull (s := s)).sendToken (x := .claim) (isTwin_ownPull htwin) rfl
  have hpulled : Fired s (s.ownPull.sendToken .claim) [] := (Fired.refl s).congr (by rw [hsent]) fun a ha =>
    (reg_sendToken _ a).trans (reg_ownPull (by revert a; decide))
  exact hpulled.roleEvent 2 false (some cause)

theorem logAlike_claimHeld (htwin : s.isTwin = true) : LogAlike s (s.claimHeld cause) := by
  have hframe := regFrame_claimHeld (cause := cause) htwin
  refine ⟨by rw [hframe]; rfl, by rw [hframe]; rfl, by rw [hframe]; rfl, by rw [hframe]; rfl, fun a ha => ?_⟩
  have hplace : a ≠ Reg.twnStat ∧ a ∉ latchRegs := by revert a; decide
  exact reg_claimHeld hplace.1 hplace.2

theorem roleTo_claim (htwin : s.isTwin = true) (hrole : s.role ≠ 2) (hcause : cause < 16) :
    (s.ownPull.sendToken .claim).roleTo 2 false (some cause) = (s.claimHeld cause).happen 46 (512 + cause) := by
  have hkept : (s.ownPull.sendToken .claim).role = s.role :=
    (congrArg (fld · 2 2) (reg_sendToken _ _)).trans (fld_twnStat_ownPull htwin (by decide))
  have hparam : ∀ x, roleParam x 2 false (some cause) = 512 + cause := fun x => by
    rw [roleParam, fld_roleWord_cause]
    simp only [Bool.false_eq_true, if_false, Option.map_some, Option.getD_some]
    omega
  rw [roleTo_of_ne (by rw [hkept]; exact hrole.symm), hparam]
  rfl

/-- ROLE_CHANGE is logged, and TWN_TAKEOVERS has counted. -/
def State.claimShown (s : State) (cause : Nat) : State :=
  let u := (s.claimHeld cause).happen 46 (512 + cause)
  u.setRf Reg.twnTakeovers 0 16 (min 0xFFFF (u.rf Reg.twnTakeovers 0 16 + 1))

theorem regFrame_claimShown (htwin : s.isTwin = true) :
    RegFrame s { s.claimKept with log := ((s.claimHeld cause).happen 46 (512 + cause)).log } (s.claimShown cause) :=
  ((regFrame_claimHeld (cause := cause) htwin).happen 46 (512 + cause)).setReg _ _

theorem reg_claimShown {a : Nat} (ha : a ≠ Reg.twnTakeovers) : (s.claimShown cause).reg a = (s.claimHeld cause).reg a :=
  (State.reg_setReg_ne _ _ _ _ ha).trans (State.reg_happen _ _ _ _)

theorem takeovers_claimShown : (s.claimShown cause).rf Reg.twnTakeovers 0 16 = min 0xFFFF (s.rf Reg.twnTakeovers 0 16 + 1) := by
  have hold : ((s.claimHeld cause).happen 46 (512 + cause)).rf Reg.twnTakeovers 0 16 = s.rf Reg.twnTakeovers 0 16 :=
    congrArg (fld · 0 16) ((State.reg_happen _ _ _ _).trans (reg_claimHeld (by decide) (by decide)))
  refine (congrArg (fld · 0 16) (State.reg_setReg_same _ _ _)).trans ((fld_putFld _ 0 16 _ (by decide)).trans ?_)
  rw [hold]
  omega

theorem fired_claimShown (htwin : s.isTwin = true) : Fired s (s.claimShown cause) [46] :=
  (fired_claimHeld (cause := cause) htwin).congr (State.happen_variant (s.claimHeld cause) 46 (512 + cause)) fun a ha =>
    reg_claimShown (by revert a; decide)

theorem logAlike_claimShown (htwin : s.isTwin = true) : LogAlike (s.happen 46 (512 + cause)) (s.claimShown cause) :=
  ((logAlike_claimHeld htwin).happen 46 (512 + cause)).setReg _ (by decide)

/-- Counter 17 has counted the takeover too, and TAKEOVER is logged. -/
def State.claimCounted (s : State) (cause : Nat) : State :=
  ((s.claimShown cause).knabCtrAdd 17 1).fault 0x0F02 (s.twn.relCause.getD 0)

/-- A claim on its way: TWN_STAT, both counts and the log stand as the claim leaves them, and registers but those of l are as they were. -/
structure Claiming (s u : State) (cause : Nat) (l events : List Nat) (g : State) : Prop where
  stat : u.reg Reg.twnStat = claimWord (s.reg Reg.twnStat) s.twn.aliveIn cause
  takeovers : u.rf Reg.twnTakeovers 0 16 = min 0xFFFF (s.rf Reg.twnTakeovers 0 16 + 1)
  regs : ∀ a, a ∉ Reg.twnStat :: Reg.twnTakeovers :: l → a ∉ latchRegs → u.reg a = s.reg a
  fired : Fired s u events
  alike : LogAlike g u
  counter : u.knabCtrVal 17 = s.knabCtrVal 17 + 1
  kept : storeKept s u (fun a => knabCtr 17 ≤ a && a < knabCtr 17 + 12)

/-- The chip that may claim: a twin that is not active, with none of what R349 and R366 end, and a store at rest. -/
structure ClaimReady (s : State) : Prop where
  twin : s.isTwin = true
  role : s.role ≠ 2
  plain : s.rb Reg.twnStat 5 = false
  runtimeOwns : s.reg Reg.sysOwn = 0
  zonesFresh : s.zoneMirrorFresh = true
  still : ∀ n, n < s.nActs → s.actMode n ≠ 1 ∧ (s.act1 n).moving = false
  idle : s.knb.commit = none
  noneWait : s.knb.stalledInc = []
  room : s.knabCtrVal 17 < 2 ^ 64 - 1
  noStart : s.role = 1 → ∀ f ∈ s.od.fns.map Prod.fst, (s.fn f).state ≠ 1

/-- A view of the store: the same bytes under the same KNB state. -/
theorem knabCtrVal_of_mem {w : State} (hmem : w.mem = u.mem) (hknb : w.knb = u.knb) (c : Nat) : w.knabCtrVal c = u.knabCtrVal c :=
  knabCtrVal_congr fun i _ => knabByte_congr hknb (fun a _ => State.byte_congr hmem a) (by unfold knabPage knabCtr; omega)

theorem storeKept_of_mem {w : State} {f : Nat → Bool} (h : storeKept s u f) (hmem : w.mem = u.mem) (hknb : w.knb = u.knb) : storeKept s w f :=
  ⟨fun a ha => (State.byte_congr hmem a).trans (h.1 a ha), fun a h0 h1 hf =>
    (knabByte_congr hknb (fun b _ => State.byte_congr hmem b) h0).trans (h.2 a h0 h1 hf)⟩

section
variable (h : ClaimReady s)
include h

theorem storeFrame_claimCounted : StoreFrame (s.claimShown cause) ((s.claimShown cause).knabCtrAdd 17 1) := by
  have hknb : (s.claimShown cause).knb = s.knb := by rw [regFrame_claimShown h.twin]; rfl
  exact storeFrame_knabCtrAdd (by rw [hknb]; exact h.idle) (by rw [hknb]; exact h.noneWait) 1

theorem regFrame_claimCounted :
    RegFrame s { s.claimKept with mem := (s.claimCounted cause).mem, log := (s.claimCounted cause).log } (s.claimCounted cause) := by
  have hframe := ((regFrame_claimShown (cause := cause) h.twin).stored (storeFrame_claimCounted h)).fault 0x0F02 (s.twn.relCause.getD 0)
  rw [State.claimCounted, State.fault_mem]
  exact hframe

theorem claiming_claimCounted : Claiming s (s.claimCounted cause) cause [] [46]
    ((s.happen 46 (512 + cause)).fault 0x0F02 (s.twn.relCause.getD 0)) := by
  have hframe := regFrame_claimShown (cause := cause) h.twin
  have hknb : (s.claimShown cause).knb = s.knb := by rw [hframe]; rfl
  have hmem : (s.claimShown cause).mem = s.mem := by rw [hframe]; rfl
  have hidle : (s.claimShown cause).knb.commit = none := by rw [hknb]; exact h.idle
  have hnone : (s.claimShown cause).knb.stalledInc = [] := by rw [hknb]; exact h.noneWait
  have hreg : ∀ a, (s.claimCounted cause).reg a = (s.claimShown cause).reg a := fun a =>
    (State.reg_fault _ _ _ _).trans (reg_knabCtrAdd hidle hnone 1 a)
  have hstore := storeFrame_claimCounted (cause := cause) h
  have hadded : storeKept (s.claimShown cause) ((s.claimShown cause).knabCtrAdd 17 1) (fun a => knabCtr 17 ≤ a && a < knabCtr 17 + 12) :=
    ⟨fun a ha => byte_knabCtrAdd_off hidle (by decide) hnone 1 (by omega), fun a h0 h1 hout =>
      knabByte_knabCtrAdd_of_apart hidle (by decide) hnone 1 ⟨h0, h1⟩ (by simpa using hout)⟩
  refine { stat := ?_, takeovers := ?_, regs := fun a ha hlatch => ?_, fired := ?_, alike := ?_, counter := ?_, kept := ?_ }
  · rw [hreg, reg_claimShown (by decide), twnStat_claimHeld h.twin]
  · exact (congrArg (fld · 0 16) (hreg _)).trans takeovers_claimShown
  · simp only [List.mem_cons, List.not_mem_nil, or_false, not_or] at ha
    rw [hreg, reg_claimShown ha.2, reg_claimHeld ha.1 hlatch]
  · exact (fired_claimShown h.twin).congr ((State.fault_variant _ _ _).trans hstore.variant) fun a _ => hreg a
  · refine LogAlike.fault ((logAlike_claimShown h.twin).trans ?_) _ _
    exact ⟨by rw [hstore], by rw [hstore], by rw [hstore], by rw [hstore], fun a _ => reg_knabCtrAdd hidle hnone 1 a⟩
  · have hroom := h.room
    have hsame : (s.claimShown cause).knabCtrVal 17 = s.knabCtrVal 17 := knabCtrVal_of_mem hmem hknb 17
    have hcount := knabCtrVal_knabCtrAdd hidle (c := 17) (by decide) hnone 1
    rw [State.claimCounted, knabCtrVal_of_mem (State.fault_mem _ _ _) (State.fault_knb _ _ _), hcount, hsame]
    omega
  · have hback : storeKept s (s.claimShown cause) (fun _ => false) :=
      ⟨fun a _ => State.byte_congr hmem a, fun a h0 _ _ => knabByte_congr hknb (fun b _ => State.byte_congr hmem b) h0⟩
    refine storeKept_of_mem ?_ (State.fault_mem _ _ _) (State.fault_knb _ _ _)
    exact ⟨fun a ha => (hadded.1 a ha).trans (hback.1 a ha), fun a h0 h1 hout => (hadded.2 a h0 h1 hout).trans (hback.2 a h0 h1 rfl)⟩

/-! ### What follows the counts -/

/-- What a claim drops or takes anew at its end. -/
def State.claimEnd (u : State) : State :=
  { u with net := { u.net with windows := [] }, od := { u.od with txns := [], ownPending := none }, zon := { u.zon with hits := [] },
           twn := { u.twn with relCause := none, driveAt := some (u.now + 1), grafts := [], cmp := [], config := [], configDone := false,
                               cand := false, reload := none, runmap := [], started := [], ticksFrom := none } }

/-- The units are the runtime's, keys are released and the lock engages. -/
def State.claimTaken (s : State) (cause : Nat) : State := ((s.claimCounted cause).setReg Reg.sysOwn 0).kpdTakeover

omit h in
/-- No channel of PWM kind runs, and none moves: a takeover leaves the channels as they are (R215). -/
theorem actTakeover_eq_self (hstill : ∀ n, n < s.nActs → s.actMode n ≠ 1 ∧ (s.act1 n).moving = false) (hact : u.act = s.act)
    (hvariant : u.variant = s.variant) : u.actTakeover = u := by
  have hpresent : u.present 23 = s.present 23 := by rw [State.present, State.present, hvariant]
  have hcount : u.nActs = s.nActs := by simp only [State.nActs, hpresent]
  have hchan : ∀ n, u.act1 n = s.act1 n := fun n => by rw [State.act1, hact, State.act1]
  refine State.forEach_eq_self fun n hn => ?_
  obtain ⟨hmode, hmoving⟩ := hstill n (hcount ▸ List.mem_range.mp hn)
  have hmode' : u.actMode n ≠ 1 := by simpa only [State.actMode, hchan] using hmode
  rw [if_neg hmode']
  exact if_neg (by rw [hchan, hmoving]; decide)

theorem fn_ne_starting (hstandby : s.role = 1) (f : Nat) : (s.fn f).state ≠ 1 := by
  by_cases hf : f ∈ s.od.fns.map Prod.fst
  · exact h.noStart hstandby f hf
  · have hdefault : s.fn f = {} := by
      rw [State.fn, recGet, Tab.get, List.lookup_eq_none_iff.mpr]
      · rfl
      · exact fun p hp => bne_iff_ne.mpr fun hpf => hf (hpf ▸ List.mem_map_of_mem hp)
    rw [hdefault]
    decide

theorem reg_setReg_sysOwn (a : Nat) : ((s.claimCounted cause).setReg Reg.sysOwn 0).reg a = (s.claimCounted cause).reg a := by
  rw [State.reg_setReg]
  split
  case isTrue hsys =>
    rw [hsys, (claiming_claimCounted h).regs _ (by decide) (by decide), h.runtimeOwns]
  case isFalse => rfl

theorem regFrame_claimTaken :
    RegFrame s { s.claimKept with
      mem := (s.claimCounted cause).mem, kpd := { s.kpd with keys := [] }, log := (s.claimTaken cause).log } (s.claimTaken cause) :=
  ((regFrame_claimCounted h).setReg Reg.sysOwn 0).kpdTakeover

theorem mem_claimTaken : (s.claimTaken cause).mem = (s.claimCounted cause).mem := by rw [regFrame_claimTaken h]

theorem reg_claimTaken {a : Nat} (hlock : a ≠ Reg.kpdLock) (hmask : a ∉ (List.range 8).map Reg.kpdMask) (hlatch : a ∉ latchRegs) :
    (s.claimTaken cause).reg a = (s.claimCounted cause).reg a :=
  (reg_kpdTakeover hlock hmask hlatch).trans (reg_setReg_sysOwn h a)

/-- The registers of the lock stand before the takeover as they stood. -/
theorem reg_lock_claimCounted : ((s.claimCounted cause).setReg Reg.sysOwn 0).reg Reg.kpdLock = s.reg Reg.kpdLock ∧
    ((s.claimCounted cause).setReg Reg.sysOwn 0).reg Reg.kpdLockcfg = s.reg Reg.kpdLockcfg := by
  have hstage := claiming_claimCounted (cause := cause) h
  exact ⟨(reg_setReg_sysOwn h _).trans (hstage.regs _ (by decide) (by decide)),
    (reg_setReg_sysOwn h _).trans (hstage.regs _ (by decide) (by decide))⟩

theorem lockTaken_claimTaken : LockTaken s (s.claimTaken cause) := by
  obtain ⟨hlock, hcfg⟩ := reg_lock_claimCounted (cause := cause) h
  have htaken := lockTaken_kpdTakeover (s := (s.claimCounted cause).setReg Reg.sysOwn 0)
  have hlen : ((s.claimCounted cause).setReg Reg.sysOwn 0).lockLen = s.lockLen := by simp only [State.lockLen, State.rf, hcfg]
  rw [LockTaken, hlen, hlock] at htaken
  exact htaken

/-- What of a claim stands once the lock has engaged. -/
theorem claiming_claimTaken : Claiming s (s.claimTaken cause) cause (Reg.kpdLock :: (List.range 8).map Reg.kpdMask)
    (46 :: if s.lockLen ≠ 0 ∧ s.lockState ≠ 1 then [20] else [])
    (if s.lockLen = 0 then (s.happen 46 (512 + cause)).fault 0x0F02 (s.twn.relCause.getD 0)
      else ((s.happen 46 (512 + cause)).fault 0x0F02 (s.twn.relCause.getD 0)).fault 0x0904 0) := by
  obtain ⟨hlock, hcfg⟩ := reg_lock_claimCounted (cause := cause) h
  obtain ⟨hstat, htakeovers, hregs, hfired, halike, hcounter, hkept⟩ := claiming_claimCounted (cause := cause) h
  have hlen : ((s.claimCounted cause).setReg Reg.sysOwn 0).lockLen = s.lockLen := by simp only [State.lockLen, State.rf, hcfg]
  have hstate : ((s.claimCounted cause).setReg Reg.sysOwn 0).lockState = s.lockState := by simp only [State.lockState, State.rf, hlock]
  have hknb : (s.claimTaken cause).knb = (s.claimCounted cause).knb := by
    rw [regFrame_claimTaken h, regFrame_claimCounted h]
  refine { stat := ?_, takeovers := ?_, regs := fun a ha hlatch => ?_, fired := ?_, alike := ?_, counter := ?_, kept := ?_ }
  · exact (reg_claimTaken h (by decide) (by decide) (by decide)).trans hstat
  · exact (congrArg (fld · 0 16) (reg_claimTaken h (by decide) (by decide) (by decide))).trans htakeovers
  · simp only [List.mem_cons, not_or] at ha
    obtain ⟨hnstat, hntake, hnlock, hnmask⟩ := ha
    exact (reg_claimTaken h hnlock hnmask hlatch).trans (hregs a (by simp [hnstat, hntake]) hlatch)
  · have hnext := (hfired.congr (v := (s.claimCounted cause).setReg Reg.sysOwn 0) rfl fun a _ => reg_setReg_sysOwn h a).kpdTakeover
    rw [hlen, hstate] at hnext
    exact hnext
  · have hnext := (halike.setReg (a := Reg.sysOwn) 0 (by decide)).kpdTakeover
    rw [hlen] at hnext
    exact hnext
  · rw [knabCtrVal_of_mem (mem_claimTaken h) hknb, hcounter]
  · exact storeKept_of_mem hkept (mem_claimTaken h) hknb

omit h in
theorem zoneMirrorFresh_congr {w : State} (hzone : w.twn.zoneAt = u.twn.zoneAt) (hnow : w.now = u.now)
    (hperiod : w.reg (Reg.cenPeriod 2) = u.reg (Reg.cenPeriod 2)) : w.zoneMirrorFresh = u.zoneMirrorFresh := by
  unfold State.zoneMirrorFresh State.period State.rf
  rw [hzone, hnow, hperiod]

theorem zoneMirrorFresh_claimTaken : (s.claimTaken cause).zoneMirrorFresh = true := by
  have hview : (s.claimTaken cause).twn.zoneAt = s.twn.zoneAt ∧ (s.claimTaken cause).now = s.now := by
    rw [regFrame_claimTaken h]
    exact ⟨rfl, rfl⟩
  have hperiod : (s.claimTaken cause).reg (Reg.cenPeriod 2) = s.reg (Reg.cenPeriod 2) :=
    (claiming_claimTaken h).regs _ (by decide) (by decide)
  exact (zoneMirrorFresh_congr hview.1 hview.2 hperiod).trans h.zonesFresh

omit h in
/-- A takeover of the network is the step of the counter, and the windows opened anew. -/
theorem netTakeover_eq {q : Nat} (hq : u.twn.seqMirror + 65536 = q) :
    u.netTakeover = { u.netSeqTo q with net := { (u.netSeqTo q).net with windows := [] } } := by
  rw [← hq, State.netTakeover]

omit h in
theorem zoneMirrorFresh_netTakeover : u.netTakeover.zoneMirrorFresh = u.zoneMirrorFresh := by
  obtain ⟨q, hq⟩ : ∃ q, u.twn.seqMirror + 65536 = q := ⟨_, rfl⟩
  have hframe := (RegFrame.refl u).netSeqTo q
  have hzone : (u.netSeqTo q).twn.zoneAt = u.twn.zoneAt := by rw [hframe]
  have hnow : (u.netSeqTo q).now = u.now := by rw [hframe]
  have hperiod : (u.netSeqTo q).reg (Reg.cenPeriod 2) = u.reg (Reg.cenPeriod 2) := reg_netSeqTo (by decide) (by decide) q
  rw [netTakeover_eq hq]
  exact zoneMirrorFresh_congr (u := u) hzone hnow hperiod

theorem claim_eq (hcause : cause < 16) :
    s.claim cause = (if s.role = 1 then (s.claimTaken cause).netTakeover else s.claimTaken cause).claimEnd := by
  have hstage := claiming_claimCounted (cause := cause) h
  have hframe := regFrame_claimCounted (cause := cause) h
  have hplain : (s.claimCounted cause).rb Reg.twnStat 5 = false :=
    (congrArg (bitOf · 5) hstage.stat).trans ((bitOf_claimWord_apart _ _ _ (.inl rfl)).trans h.plain)
  have hown : ∀ n, (s.claimCounted cause).hostOwns n = false := fun n => by
    rw [State.hostOwns, State.rb, hstage.regs _ (by decide) (by decide), h.runtimeOwns]
    exact BitVec.getLsbD_zero
  unfold State.claim
  rw [roleTo_claim h.twin h.role hcause]
  extract_lets standby rel held shown counted unbroken settled taken resumed zoned
  have hcounted : counted = s.claimCounted cause := rfl
  have hunbroken : unbroken = s.claimCounted cause := if_pos (by rw [hcounted, hplain]; rfl)
  have hod : (s.claimCounted cause).od = s.od := by rw [hframe]; rfl
  have hsettled : settled = s.claimCounted cause := by
    simp only [settled, hunbroken, standby, beq_iff_eq]
    split
    case isTrue hstandby => exact State.forEach_eq_self fun f _ => if_pos (by
      have hfn : (s.claimCounted cause).fn f = s.fn f := by rw [State.fn, hod, State.fn]
      rw [hfn]
      simpa using fn_ne_starting h hstandby f)
    case isFalse => rfl
  have htaken : taken = s.claimTaken cause := by
    have hdrop : (s.claimCounted cause).ownDrop = (s.claimCounted cause).setReg Reg.sysOwn 0 := by
      have hnone : ownable.filter (s.claimCounted cause).hostOwns = [] := List.filter_eq_nil_iff.mpr fun n _ => by rw [hown]; decide
      rw [State.ownDrop, hnone]
      rfl
    have hstill : ((s.claimCounted cause).setReg Reg.sysOwn 0).actTakeover = (s.claimCounted cause).setReg Reg.sysOwn 0 := by
      have hact : (s.claimCounted cause).act = s.act ∧ (s.claimCounted cause).variant = s.variant := by
        rw [hframe]
        exact ⟨rfl, rfl⟩
      exact actTakeover_eq_self h.still hact.1 hact.2
    simp only [taken, hsettled, hdrop, hstill]
    rfl
  have hresumed : resumed = if s.role = 1 then (s.claimTaken cause).netTakeover else s.claimTaken cause := by
    simp only [resumed, htaken, standby, beq_iff_eq]
  have hzoned : zoned = resumed := if_pos (by
    rw [hresumed]
    split
    · exact zoneMirrorFresh_netTakeover.trans (zoneMirrorFresh_claimTaken h)
    · exact zoneMirrorFresh_claimTaken h)
  rw [← hresumed, ← hzoned]
  rfl

end

/-! ### The end of a claim -/

theorem RegFrame.claimEnd (h : RegFrame s v u) : RegFrame s v.claimEnd u.claimEnd := by
  unfold RegFrame at *
  rw [h]
  rfl

section
variable {l events : List Nat} {g : State}

theorem Claiming.claimEnd (h : Claiming s u cause l events g) : Claiming s u.claimEnd cause l events g where
  stat := h.stat
  takeovers := h.takeovers
  regs := h.regs
  fired := h.fired.congr rfl fun _ _ => rfl
  alike := h.alike.trans ⟨rfl, rfl, rfl, rfl, fun _ _ => rfl⟩
  counter := h.counter
  kept := h.kept

theorem Claiming.widen {m : List Nat} (h : Claiming s u cause l events g) (hsub : ∀ a ∈ l, a ∈ m) : Claiming s u cause m events g :=
  { h with regs := fun a ha hlatch => h.regs a (fun hin => ha (by
      simp only [List.mem_cons] at hin ⊢
      exact hin.imp_right fun hin => hin.imp_right (hsub a))) hlatch }

/-- The sequence counter moves on and reaches its limits. -/
theorem Claiming.netSeqTo (h : Claiming s u cause l events g) (hstat : u.reg Reg.netStat = g.reg Reg.netStat) (q : Nat) :
    Claiming s (u.netSeqTo q) cause (Reg.netSeq :: Reg.netStat :: l) events (g.netSeqTo q) := by
  have hframe := (RegFrame.refl u).netSeqTo q
  have hmem : (u.netSeqTo q).mem = u.mem := by rw [hframe]
  have hknb : (u.netSeqTo q).knb = u.knb := by rw [hframe]
  have hother : ∀ {a}, a ≠ Reg.netSeq → a ≠ Reg.netStat → (u.netSeqTo q).reg a = u.reg a := fun h1 h2 => reg_netSeqTo h1 h2 q
  refine { stat := ?_, takeovers := ?_, regs := fun a ha hlatch => ?_, fired := ?_, alike := h.alike.netSeqTo hstat q, counter := ?_, kept := ?_ }
  · exact (hother (by decide) (by decide)).trans h.stat
  · exact (congrArg (fld · 0 16) (hother (by decide) (by decide))).trans h.takeovers
  · simp only [List.mem_cons, not_or] at ha
    obtain ⟨hnstat, hntake, hnseq, hnnet, hnl⟩ := ha
    exact (hother hnseq hnnet).trans (h.regs a (by simp [hnstat, hntake, hnl]) hlatch)
  · exact h.fired.congr (by rw [hframe]) fun a ha => hother (by revert a; decide) (by revert a; decide)
  · exact (knabCtrVal_of_mem hmem hknb 17).trans h.counter
  · exact storeKept_of_mem h.kept hmem hknb

end

/-- The entries of a claim in the log, in their order, and the limits of the sequence counter that a standby takes over. -/
def State.claimLog (s : State) (cause : Nat) (q : Option Nat) : State :=
  let u := (s.happen 46 (512 + cause)).fault 0x0F02 (s.twn.relCause.getD 0)
  let u := if s.lockLen = 0 then u else u.fault 0x0904 0
  match q with
  | some n => u.netSeqTo n
  | none => u

/-- NET_SEQ and NET_STAT as a claim leaves them, with the sequence counter of the former active or without. -/
def SeqTaken (s u : State) : Option Nat → Prop
  | some n => u.reg Reg.netSeq = BitVec.ofNat 32 (min 0xFFFFFFFF n) ∧ u.rb Reg.netStat 0 = (s.rb Reg.netStat 0 || decide (0xF0000000 ≤ n)) ∧
      u.rb Reg.netStat 1 = (s.rb Reg.netStat 1 || decide (0xFFFFFFFF ≤ n)) ∧
      u.reg Reg.netStat &&& 0xFFFFFFFC = s.reg Reg.netStat &&& 0xFFFFFFFC
  | none => u.reg Reg.netSeq = s.reg Reg.netSeq ∧ u.reg Reg.netStat = s.reg Reg.netStat

theorem SeqTaken.congr {w : State} {q : Option Nat} (h : SeqTaken s u q) (hseq : w.reg Reg.netSeq = u.reg Reg.netSeq)
    (hstat : w.reg Reg.netStat = u.reg Reg.netStat) : SeqTaken s w q := by
  cases q <;> simpa only [SeqTaken, State.rb, hseq, hstat] using h

theorem seqTaken_netSeqTo (hstat : u.reg Reg.netStat = s.reg Reg.netStat) (q : Nat) : SeqTaken s (u.netSeqTo q) (some q) := by
  have hbit : ∀ i, u.rb Reg.netStat i = s.rb Reg.netStat i := fun i => congrArg (bitOf · i) hstat
  obtain ⟨hfirst, hlast⟩ := rb_netSeqTo (s := u) q
  exact ⟨netSeq_netSeqTo q, by rw [hfirst, hbit], by rw [hlast, hbit], by rw [and_netSeqTo, hstat]⟩

/-- A claim that has been made. -/
structure ClaimDone (s u : State) (cause : Nat) (q : Option Nat) : Prop where
  frame : RegFrame s { s.claimKept.claimEnd with mem := u.mem, kpd := { s.kpd with keys := [] }, log := u.log } u
  claiming : Claiming s u cause ([Reg.netSeq, Reg.netStat, Reg.kpdLock] ++ (List.range 8).map Reg.kpdMask)
    (46 :: if s.lockLen ≠ 0 ∧ s.lockState ≠ 1 then [20] else []) (s.claimLog cause q)
  seq : SeqTaken s u q
  lock : LockTaken s u
  masks : ∀ i, i < 8 → u.reg (Reg.kpdMask i) = 0

section
variable (h : ClaimReady s) (hcause : cause < 16)
include h

theorem net_claimTaken : (s.claimTaken cause).reg Reg.netSeq = s.reg Reg.netSeq ∧ (s.claimTaken cause).reg Reg.netStat = s.reg Reg.netStat :=
  ⟨(claiming_claimTaken h).regs _ (by decide) (by decide), (claiming_claimTaken h).regs _ (by decide) (by decide)⟩

omit h in
theorem masks_claimTaken {i : Nat} (hi : i < 8) : (s.claimTaken cause).reg (Reg.kpdMask i) = 0 := kpdMask_kpdTakeover hi

theorem claimDone_unformed : ClaimDone s (s.claimTaken cause).claimEnd cause none where
  frame := by
    have hmem := mem_claimTaken h (cause := cause)
    have hframe := (regFrame_claimTaken h (cause := cause)).claimEnd
    rw [← hmem] at hframe
    exact hframe
  claiming := (claiming_claimTaken h).claimEnd.widen fun a ha => List.mem_cons_of_mem _ (List.mem_cons_of_mem _ ha)
  seq := net_claimTaken h
  lock := lockTaken_claimTaken h
  masks _ hi := masks_claimTaken hi

theorem claimDone_standby (q : Nat) : ClaimDone s ((s.claimTaken cause).netSeqTo q).claimEnd cause (some q) where
  frame := by
    have hnet := (RegFrame.refl (s.claimTaken cause)).netSeqTo q
    have hmem : ((s.claimTaken cause).netSeqTo q).mem = (s.claimCounted cause).mem := by rw [hnet, mem_claimTaken h]
    have hframe := ((regFrame_claimTaken h (cause := cause)).netSeqTo q).claimEnd
    rw [← hmem] at hframe
    exact hframe
  claiming := by
    have hlog : (if s.lockLen = 0 then (s.happen 46 (512 + cause)).fault 0x0F02 (s.twn.relCause.getD 0)
        else ((s.happen 46 (512 + cause)).fault 0x0F02 (s.twn.relCause.getD 0)).fault 0x0904 0).reg Reg.netStat = s.reg Reg.netStat := by
      split <;> simp only [State.reg_fault, State.reg_happen]
    exact ((claiming_claimTaken h).netSeqTo ((net_claimTaken h).2.trans hlog.symm) q).claimEnd
  seq := seqTaken_netSeqTo (net_claimTaken h).2 q
  lock := (lockTaken_claimTaken h).congr (reg_netSeqTo (by decide) (by decide) q)
  masks i hi := by
    have hplace : ∀ j < 8, Reg.kpdMask j ≠ Reg.netSeq ∧ Reg.kpdMask j ≠ Reg.netStat := by decide
    exact (reg_netSeqTo (hplace i hi).1 (hplace i hi).2 q).trans (masks_claimTaken hi)

include hcause in
/-- A claim takes the sequence counter of the mirror where the chip was a standby. -/
theorem claimDone_claim : ClaimDone s (s.claim cause) cause (if s.role = 1 then some (s.twn.seqMirror + 65536) else none) := by
  rw [claim_eq h hcause]
  by_cases hstandby : s.role = 1
  · have hseq : (s.claimTaken cause).twn.seqMirror = s.twn.seqMirror := by rw [regFrame_claimTaken h]; rfl
    obtain ⟨q, hq⟩ : ∃ q, s.twn.seqMirror + 65536 = q := ⟨_, rfl⟩
    rw [if_pos hstandby, if_pos hstandby, netTakeover_eq (by rw [hseq, hq]), hq]
    exact claimDone_standby h q
  · rw [if_neg hstandby, if_neg hstandby]
    exact claimDone_unformed h

end

/-! ### The commands -/

theorem shown_claimWord (x : Word) (alive : Bool) (hcause : cause < 16) :
    fld (claimWord x alive cause) 2 2 = 2 ∧ bitOf (claimWord x alive cause) 4 = false ∧ bitOf (claimWord x alive cause) 7 = alive ∧
      bitOf (claimWord x alive cause) 8 = false ∧ bitOf (claimWord x alive cause) 9 = true ∧ fld (claimWord x alive cause) 16 4 = cause := by
  refine ⟨fld_roleWord_role _ _ _ _, bitOf_roleWord_formed _ _ _ _, ?_, ?_, ?_, ?_⟩
  · exact (bitOf_roleWord_apart _ _ _ _ (by decide) (by decide)).trans (bitOf_lineWord_alive _ _ _)
  · exact (bitOf_roleWord_apart _ _ _ _ (by decide) (by decide)).trans (bitOf_lineWord_own _ _ _)
  · exact (bitOf_roleWord_apart _ _ _ _ (by decide) (by decide)).trans
      ((bitOf_lineWord_apart _ _ _ (by decide) (by decide)).trans (bitOf_putBit _ 9 true (by decide)))
  · exact (fld_roleWord_cause _ _ _ _).trans (Nat.mod_eq_of_lt hcause)

theorem exec_claim (hstandby : s.isStandby = true) (hawake : s.awake = true) (hhigh : s.ownHighFor 2 = true) :
    exec .claim s = (s.claim (if s.twn.relCause.isSome then 3 else 4)).done :=
  congrArg State.done (if_pos (by simp [hstandby, hawake, hhigh]))

theorem exec_loneClaim (htwin : s.isTwin = true) (hawake : s.awake = true) (hrole : s.role = 0) (hstarted : s.pwr.b1.isSome = true)
    (hdue : (if s.rf Reg.twnStat 0 2 = 2 then (s.ownHighFor 2 && s.aliveLowFor 2) || s.ownHighFor 4000 else s.ownHighFor 2) = true) :
    exec .loneClaim s = (s.claim 5).done := by
  show execLoneClaim s = _
  rw [execLoneClaim, if_pos]
  simpa [htwin, hawake, hrole, hstarted, beq_iff_eq] using hdue

/-- Settles O35: each command moves OWN, the role and what follows from them; both claims are one claim, of a standby or of an UNFORMED
chip. -/
theorem flaskOwnAndClaims : Obligations.FlaskOwnAndClaims := by
  unfold Obligations.FlaskOwnAndClaims
  intro lines quiet claimed
  have hclaim : ∀ (c : Instr) (s : State) (cause : Nat), s.isTwin = true → s.role ≠ 2 → quiet s → cause < 16 →
      exec c s = (s.claim cause).done →
      ∃ t, exec c s = .next t ∧ claimed s t cause (if s.role = 1 then some (s.twn.seqMirror + 65536) else none) := by
    intro c s cause htwin hrole ⟨hplain, hown, hfresh, hstill, hidle, hnone, hroom, hstart⟩ hcause hexec
    have hready : ClaimReady s := ⟨htwin, hrole, hplain, hown, hfresh, hstill, hidle, hnone, hroom, hstart⟩
    obtain ⟨hframe, hclaiming, hseq, hlock, hmasks⟩ := claimDone_claim hready hcause
    obtain ⟨hstat, htakeovers, hregs, hfired, halike, hcounter, hkept⟩ := hclaiming
    generalize (if s.role = 1 then some (s.twn.seqMirror + 65536) else none) = q at hseq halike ⊢
    obtain ⟨hrole', hformed, halive, hlow, hpull, hcauseShown⟩ := shown_claimWord (s.reg Reg.twnStat) s.twn.aliveIn hcause
    generalize s.claim cause = u at *
    have hreg : ∀ {a}, a ∉ latchRegs → u.settle.reg a = u.reg a := fun ha => State.reg_settle u _ ha
    have hword := (hreg (a := Reg.twnStat) (by decide)).trans hstat
    refine ⟨_, hexec, ?_, ?_, ?_, ?_, ?_, ?_, ?_, ?_, ?_, ?_, ?_, ?_, ?_, ?_, regsKept_settle fun a ha hlatch => ?_, hfired.done⟩
    · have hend := hframe.settle
      rw [← State.settle_mem u, halike.log] at hend
      rw [sendToken_always htwin (x := .claim) rfl]
      exact hend
    · exact (congrArg (fld · 2 2) hword).trans hrole'
    · exact (congrArg (bitOf · 4) hword).trans hformed
    · exact (congrArg (bitOf · 7) hword).trans halive
    · exact (congrArg (bitOf · 8) hword).trans hlow
    · exact (congrArg (bitOf · 9) hword).trans hpull
    · exact (congrArg (fld · 16 4) hword).trans hcauseShown
    · rw [hword, and_claimWord]
    · exact (State.rf_settle (by decide) 0 16).trans htakeovers
    · exact (knabCtrVal_of_mem (State.settle_mem u) (State.settle_knb u) 17).trans hcounter
    · exact storeKept_of_mem hkept (State.settle_mem u) (State.settle_knb u)
    · exact hseq.congr (hreg (by decide)) (hreg (by decide))
    · exact hlock.congr (hreg (by decide))
    · exact fun i hi => (hreg (by revert i; decide)).trans (hmasks i hi)
    · exact hregs a ha hlatch
  refine ⟨fun _ _ => answers_twinKick, fun _ => answers_twinWatchdog, fun s hkick => ?_, fun own alive _ => answers_ownChange own alive,
    fun s hstandby hawake hhigh hquiet => ?_, fun s hnot => ?_, fun s htwin hawake hrole hstarted hdue hquiet => ?_, fun s hnot => ?_,
    fun _ _ => answers_claimDrive, fun _ _ => answers_ownStuck, fun s hnot => ?_, fun _ => answers_claimToken,
    fun _ => answers_claimToken_plain, fun _ _ => answers_releaseToken, fun cause s hnot => ?_⟩
  · exact changesNothing_of_done (congrArg State.done (if_neg (by simp [hkick])))
  · obtain ⟨htwin, hrole⟩ := Bool.and_eq_true_iff.mp hstandby
    have hrole : s.role = 1 := beq_iff_eq.mp hrole
    have hmade := hclaim .claim s (if s.twn.relCause.isSome then 3 else 4) htwin (by omega) hquiet (by split <;> decide)
      (exec_claim hstandby hawake hhigh)
    rwa [if_pos hrole] at hmade
  · exact changesNothing_of_done (congrArg State.done (if_neg (by rcases hnot with h | h <;> simp [h])))
  · have hmade := hclaim .loneClaim s 5 htwin (by omega) hquiet (by decide) (exec_loneClaim htwin hawake hrole hstarted hdue)
    rwa [if_neg (by omega)] at hmade
  · refine changesNothing_of_done (congrArg State.done (if_neg ?_))
    rcases hnot with h | h | ⟨h2, h4000⟩
    · simp [h]
    · simp [h]
    · simp [h2, h4000]
  · refine changesNothing_of_done ?_
    show execOwnStuck s = _
    rw [execOwnStuck]
    rcases hnot with h | h
    · split
      · exact congrArg State.done (if_neg (by simp [h]))
      · rfl
    · rw [h]
  · exact changesNothing_of_done (congrArg State.done (if_neg (by rcases hnot with h | h <;> simp [h])))

end Sys2Proof.Machine
end

section
/-! PROOFS. What entry to chill and its end leave of the machine (R398, R399): time, TBCOUNT, power, the host port, the dictionary,
what the runtime has read of the store, and RAM. -/

namespace Sys2Proof.Machine

variable {s u v : State}

/-! ### Views over steps -/

/-- Steps over a list of numbers that each leave a view of the state leave it. -/
theorem forEach_view {β : Type} (view : State → β) {l : List Nat} {f : State → Nat → State}
    (hf : ∀ n ∈ l, ∀ v, view (f v n) = view v) : view (s.forEach l f) = view s := by
  induction l generalizing s with
  | nil => rfl
  | cons n l ih => exact (ih (s := f s n) fun m hm => hf m (List.mem_cons_of_mem n hm)).trans (hf n List.mem_cons_self s)

theorem ite_view {β : Type} (view : State → β) {c : Prop} [Decidable c] {x : β} (hu : view u = x) (hv : view v = x) :
    view (if c then u else v) = x := by
  split
  · exact hu
  · exact hv

/-! ### The view -/

/-- The registers by which chill and its end show. -/
def stillRegs : List Nat := [Reg.pwrStat, Reg.pwrWake, Reg.sysRamstat]

/-- What stands still in chill: time, TBCOUNT, power, the host port, the dictionary, the pages that the runtime has read, the
transaction of the store, the registers above, and every byte below the RAM of CEN. -/
def State.still (s : State) : Nat × TbSt × PwrSt × HstSt × OdSt × NvSt × Option KnbCommit × List Word × (Fin 0x40000000 → Byte) :=
  (s.now, s.tb, s.pwr, s.hst, s.od, s.nv, s.knb.commit, stillRegs.map s.reg, fun a => s.byte a)

theorem still_eq (h : u.still = s.still) :
    u.now = s.now ∧ u.tb = s.tb ∧ u.pwr = s.pwr ∧ u.hst = s.hst ∧ u.od = s.od ∧ u.nv = s.nv ∧ u.knb.commit = s.knb.commit ∧
      (∀ a ∈ stillRegs, u.reg a = s.reg a) ∧ ∀ a < 0x40000000, u.byte a = s.byte a := by
  unfold State.still at h
  simp only [Prod.mk.injEq] at h
  obtain ⟨hnow, htb, hpwr, hhst, hod, hnv, hcommit, hregs, hbytes⟩ := h
  exact ⟨hnow, htb, hpwr, hhst, hod, hnv, hcommit, List.map_inj_left.mp hregs, fun a ha => congrFun hbytes ⟨a, ha⟩⟩

theorem still_setReg {a : Nat} (x : Word) (ha : a ∉ stillRegs) : (s.setReg a x).still = s.still := by
  have hregs : stillRegs.map (s.setReg a x).reg = stillRegs.map s.reg :=
    List.map_congr_left fun b hb => State.reg_setReg_ne s _ _ _ fun e => ha (e ▸ hb)
  unfold State.still
  rw [hregs]
  rfl

theorem still_setKnb {k : KnbSt} (h : k.commit = s.knb.commit) : ({ s with knb := k } : State).still = s.still := by
  unfold State.still
  dsimp only
  rw [h]
  rfl

/-- The registers from RNG on are none of those above. -/
theorem notMem_stillRegs {a : Nat} (ha : 0x60020000 ≤ a) : a ∉ stillRegs := by
  have hlow : ∀ b ∈ stillRegs, b < 0x60020000 := by decide
  exact fun h => absurd (hlow a h) (by omega)

/-- Changes of registers and memory alone that leave those registers and the bytes below CEN. -/
theorem still_of_storeFrame (hframe : StoreFrame s u) (hregs : ∀ a ∈ stillRegs, u.reg a = s.reg a)
    (hbytes : ∀ a < 0x40000000, u.byte a = s.byte a) : u.still = s.still := by
  have hlist : stillRegs.map u.reg = stillRegs.map s.reg := List.map_congr_left hregs
  have hfun : (fun a : Fin 0x40000000 => u.byte a) = fun a : Fin 0x40000000 => s.byte a := funext fun a => hbytes a a.isLt
  unfold State.still
  rw [hlist, hfun, hframe]

theorem still_fire (n : Nat) : (s.fire n).still = s.still :=
  still_of_storeFrame (storeFrame_fire s n) (fun a ha => State.reg_fire _ _ _ ((by decide : ∀ b ∈ stillRegs, b ∉ latchRegs) a ha))
    fun a _ => State.byte_congr (State.fire_mem s n) a

theorem still_fault (code param : Nat) : (s.fault code param).still = s.still := by
  rw [State.fault_eq]
  rfl

/-! ### The Knab store -/

theorem byte_knabPut_below {a b : Nat} {l : List Byte} (ha : knabPage 0 ≤ a) (hb : b < knabPage 0) : (s.knabPut a l).byte b = s.byte b := by
  induction l generalizing s a with
  | nil => rfl
  | cons x l ih =>
    have hcell := knabCell_ge (s := s) ha
    exact (ih (s := s.setByte (s.knabCell a) x) (by omega)).trans ((State.byte_setByte s _ b x).trans (if_neg (by omega)))

/-- Word writes into the store leave what lies below it. -/
theorem byte_knabPuts_below {b : Nat} {l : List (Nat × List Byte)} (hl : ∀ w ∈ l, knabPage 0 ≤ w.1) (hb : b < knabPage 0) :
    (s.knabPuts l).byte b = s.byte b := by
  induction l generalizing s with
  | nil => rfl
  | cons w l ih =>
    exact (ih (s := s.knabPut w.1 w.2) fun x hx => hl x (List.mem_cons_of_mem w hx)).trans
      (byte_knabPut_below (hl w List.mem_cons_self) hb)

theorem still_knabPuts {l : List (Nat × List Byte)} (hl : ∀ w ∈ l, knabPage 0 ≤ w.1) : (s.knabPuts l).still = s.still :=
  still_of_storeFrame (storeFrame_knabPuts s l) (fun a _ => reg_knabPuts s l a)
    fun a ha => byte_knabPuts_below hl (ha.trans (by decide))

theorem knabCtrWords_ge (c : Nat) (carry : Bool) (n : Nat) : ∀ w ∈ knabCtrWords c carry n, knabPage 0 ≤ w.1 := by
  intro w hw
  cases carry <;> simp only [knabCtrWords, if_true, Bool.false_eq_true, if_false, List.mem_cons, List.not_mem_nil, or_false] at hw
  · subst hw
    simp only [knabPage, knabCtr]
    omega
  · rcases hw with rfl | rfl | rfl <;> simp only [knabPage, knabCtr] <;> omega

theorem still_knabCtrAdd (c k : Nat) : (s.knabCtrAdd c k).still = s.still := by
  unfold State.knabCtrAdd
  exact ite_view State.still rfl (still_knabPuts (knabCtrWords_ge c _ _))

/-- What the runtime owes to the counters goes to the store alone (R509). -/
theorem still_runtimePays : s.runtimePays.still = s.still :=
  (foldl_view State.still (fun s (p : Nat × Nat) => s.knabCtrAdd p.1 p.2) (fun _ _ => still_knabCtrAdd _ _) _).trans rfl

/-- The rewrite of the stroke totals is a transaction on pages 16 to 19 (R515). -/
theorem still_strokesWrite (hidle : s.knb.commit = none) : s.strokesWrite.still = s.still := by
  unfold State.strokesWrite
  rw [knabSettle_idle hidle]
  extract_lets base total pages mark w
  have hdone : Transacted s w pages := by
    refine knabTransact_transacted hidle (by simp [pages]) (by simp [pages]) fun p hp => ?_
    obtain ⟨j, hj, rfl⟩ := List.mem_map.mp hp
    have := List.mem_range.mp hj
    exact ⟨by dsimp only; omega, by dsimp only; omega⟩
  have hwritten : w.still = s.still := still_of_storeFrame hdone.frame
    (fun a ha => hdone.regs a ((by decide : ∀ b ∈ stillRegs, b ∉ latchRegs) a ha) ((by decide : ∀ b ∈ stillRegs, b ≠ Reg.knbJseq) a ha))
    fun a ha => hdone.off a (.inl (ha.trans (by decide)))
  clear_value w mark
  refine (still_setKnb ?_).trans hwritten
  rfl

/-! ### The units at the entry to chill (R101, R135, R216, R398, R441, R492) -/

theorem still_cenChill : s.cenChill.still = s.still := by
  have hcleared : ∀ l, (s.pendCleared l).still = s.still := fun l => by
    refine still_of_storeFrame (by rw [StoreFrame, pendCleared_eq]; rfl) (fun a _ => by rw [pendCleared_eq]; rfl) fun a ha => ?_
    exact byte_pendCleared fun n _ => by unfold slotState; omega
  unfold State.cenChill
  extract_lets w
  have hw : w.still = s.still := hcleared _
  exact hw

theorem still_stepCancel (n : Nat) : (s.stepCancel n).still = s.still := by
  unfold State.stepCancel
  dsimp only
  split
  · exact ite_view State.still rfl rfl
  · rfl

theorem still_floatStop (n : Nat) : (s.floatStop n).still = s.still :=
  (still_setReg _ (notMem_stillRegs (by unfold Reg.actnStrokes; omega))).trans rfl

theorem still_actHold (n : Nat) : (s.actHold n).still = s.still := by
  have hstopped : ((if (s.act1 n).drv != .none then s.floatStop n else s).stepCancel n).still = s.still :=
    (still_stepCancel n).trans (ite_view State.still (still_floatStop n) rfl)
  unfold State.actHold
  exact ite_view State.still rfl (ite_view State.still hstopped hstopped)

theorem still_actChill : s.actChill.still = s.still := by
  unfold State.actChill
  refine forEach_view State.still fun n _ v => ?_
  have hheld : (if v.actKind n = 2 || v.actKind n = 3 then v.actHold n else v.stepCancel n).still = v.still :=
    ite_view State.still (still_actHold n) (still_stepCancel n)
  exact hheld

theorem still_setLdlState (n x : Nat) : (s.setLdlState n x).still = s.still :=
  still_setReg _ (notMem_stillRegs (by unfold Reg.ldlChStat; omega))

theorem still_ldlChill : s.ldlChill.still = s.still := by
  unfold State.ldlChill
  extract_lets run paused
  have hpaused : paused.still = s.still := forEach_view State.still fun n _ v => still_setLdlState n 4
  exact hpaused

theorem still_pollsStop : s.pollsStop.still = s.still := by
  unfold State.pollsStop
  extract_lets w
  have hw : w.still = s.still := rfl
  refine Eq.trans ?_ hw
  refine forEach_view State.still fun b _ v => ?_
  rfl

theorem still_rtcMeasStop : s.rtcMeasStop.still = s.still := by
  have hset : (s.setRb Reg.rtcMeasCfg 3 false).still = s.still := still_setReg _ (notMem_stillRegs (by decide))
  exact hset

/-! ### The units at its end (R101, R464, R492, R526, R541, R577) -/

theorem still_ringFlush (n : Nat) : (s.ringFlush n).still = s.still := by
  unfold State.ringFlush
  extract_lets l k dropped fired
  have hdropped : dropped.still = s.still := rfl
  have hread : (l.foldl (fun v h => v.fire (ladleEvent h.data)) dropped).still = dropped.still :=
    foldl_view (s := dropped) State.still (fun v (h : HeldEntry) => v.fire (ladleEvent h.data)) (fun v h => still_fire (s := v) (ladleEvent h.data)) l
  have hfired : fired.still = s.still := ite_view State.still (hread.trans hdropped) hdropped
  clear_value fired k
  refine (ite_view State.still rfl ?_).trans hfired
  exact (still_setReg _ (notMem_stillRegs (by decide))).trans (still_setReg _ (notMem_stillRegs (by unfold Reg.rngDrop; omega)))

theorem still_ringsLost (lost : Nat) : (s.ringsLost lost).still = s.still := by
  unfold State.ringsLost
  extract_lets gone off
  have hreg : ∀ {w : State} {a : Nat} (x : Word), 0x60020000 ≤ a → (w.setReg a x).still = w.still := fun x ha =>
    still_setReg x (notMem_stillRegs ha)
  have hoff : off.still = s.still := forEach_view State.still fun n _ v =>
    (hreg _ (by unfold Reg.rngTail; omega)).trans ((hreg _ (by unfold Reg.rngHead; omega)).trans
      ((still_ringFlush n).trans (hreg _ (by unfold Reg.rngCfg; omega))))
  refine Eq.trans ?_ hoff
  split
  · exact (still_fire 34).trans (hreg _ (by decide))
  · rfl

theorem still_ldlWake (lost : Nat) : (s.ldlWake lost).still = s.still := by
  unfold State.ldlWake
  refine (forEach_view State.still fun n _ v => ?_).trans rfl
  refine ite_view State.still ?_ (still_setLdlState n 1)
  exact (still_fault _ _).trans ((still_fire 31).trans ((still_setReg _ (notMem_stillRegs (by unfold Reg.ldlChStat; omega))).trans
    ((still_setLdlState n 0).trans rfl)))

theorem still_acqWake : s.acqWake.still = s.still := by
  have hcleared : (s.clearMem 0x70001000 0x700012C0).still = s.still :=
    still_of_storeFrame rfl (fun _ _ => rfl) fun a ha => (State.byte_clearMem s _ _ a).trans (if_neg (by omega))
  unfold State.acqWake
  exact ite_view State.still rfl hcleared

theorem still_kpdWake (secs : Nat) : (s.kpdWake secs).still = s.still := by
  have hshifted : (if s.lockServed || s.kpd.heldAt.isNone then s.kpdShift (-(4000 * (secs : Int))) else s).still = s.still :=
    ite_view State.still rfl rfl
  exact hshifted

theorem still_rtcAfterChill (atSecond : Bool) : (s.rtcAfterChill atSecond).still = s.still := by
  have hshow : ∀ (w : State) (c : Int), (w.rtcHaltShow c).still = w.still := fun w c =>
    Eq.trans rfl (still_setReg (s := w) _ (notMem_stillRegs (a := Reg.rtcHaltticks) (by decide)))
  unfold State.rtcAfterChill
  exact ite_view State.still rfl (ite_view State.still ((hshow _ _).trans rfl) (ite_view State.still rfl rfl))

theorem still_rtcMeasBegin : s.rtcMeasBegin.still = s.still := by
  have hset : ∀ x, (s.setReg Reg.rtcMeasCfg x).still = s.still := fun x => still_setReg x (notMem_stillRegs (by decide))
  unfold State.rtcMeasBegin
  refine ite_view State.still rfl ?_
  unfold State.rtcMeasWrite
  exact ite_view State.still (Eq.trans rfl (hset _)) (hset _)

end Sys2Proof.Machine
end

section
/-! PROOFS. Entry to chill at its boundary, and the wake (R397-R399, R409, R444). -/

namespace Sys2Proof.Machine

variable {s u v : State}

/-! ### The request (R397) -/

/-- A function without a record stands in STOPPED. -/
theorem fn_of_notMem {f : Nat} (hf : f ∉ s.od.fns.map Prod.fst) : s.fn f = {} := by
  rw [State.fn, recGet, Tab.get, List.lookup_eq_none_iff.mpr]
  · rfl
  · exact fun p hp => bne_iff_ne.mpr fun hpf => hf (hpf ▸ List.mem_map_of_mem hp)

theorem chillCode_standby (htwin : s.isTwin = true) (hrole : s.role = 1) : s.chillCode = 3 := by
  simp [State.chillCode, htwin, hrole]

theorem chillCode_ready (hsolo : s.isTwin = false) (hwake : s.rf Reg.pwrWake 0 6 ≠ 0) (hlive : 12 ≤ s.shakeStep)
    (hmixed : s.rb Reg.twnStat 5 = false) (hfns : ∀ f ∈ s.od.fns.map Prod.fst, (s.fn f).state ≠ 1 ∧ (s.fn f).state ≠ 3) :
    s.chillCode = 0 := by
  have hnone : fnAll.any (fun f => (s.fn f).state == 1 || (s.fn f).state == 3) = false := by
    rw [List.any_eq_false]
    intro f _
    by_cases hf : f ∈ s.od.fns.map Prod.fst
    · simp [hfns f hf]
    · rw [fn_of_notMem hf]
      decide
  have hstep : ¬ s.shakeStep < 12 := by omega
  simp [State.chillCode, hsolo, hnone, hmixed, hwake, hstep]

theorem answers_chillRequest (hruns : s.runtimeRuns = true) (hcode : s.chillCode = 0) (hat : s.pwr.chillAt = none) :
    ∃ t, exec .chillRequest s = .next t ∧
      t = { s with regs := t.regs, pwr := { s.pwr with chillAt := some (s.tb.count + 8) }, cen := cenNoted s t } ∧
      regsKept s t [] ∧ eventsFired s t [] := by
  refine answers_pwr ?_
  show execChillRequest s = _
  rw [execChillRequest, hruns, hcode, if_pos (by decide), State.chillAccept, hat]

/-! ### The entry (R398) -/

/-- Chill stands: no request waits, and PWR_STAT.STATE reads CHILL. -/
def State.chilled (v : State) : State :=
  ({ v with pwr := { v.pwr with chillAt := none, chillFrom := v.rtc.epoch, wakeTicks := none } } : State).setRf Reg.pwrStat 0 2 2

/-- The units enter chill, and then the part. -/
theorem chillEnter_eq (hidle : s.knb.commit = none) : ∃ v : State, v.still = s.still ∧ s.chillEnter = v.chilled := by
  refine ⟨_, ?_, rfl⟩
  have hunits : s.strokesWrite.cenChill.actChill.acqChill.ldlChill.pollsStop.still = s.still :=
    still_pollsStop.trans (still_ldlChill.trans (Eq.trans rfl (still_actChill.trans (still_cenChill.trans (still_strokesWrite hidle)))))
  have hmeas : ∀ {w : State}, w.still = s.still → (if w.rb Reg.rtcMeasCfg 3 then w.rtcMeasStop else w).still = s.still := fun hw =>
    ite_view State.still (still_rtcMeasStop.trans hw) hw
  refine Eq.trans ?_ (hmeas hunits)
  refine forEach_view State.still fun f _ v => ?_
  rfl

/-- What chill entry leaves, once queued words are written. -/
structure ChillEntered (s t : State) : Prop where
  state : t.rf Reg.pwrStat 0 2 = 2
  asleep : t.asleep = true
  host : t.hst = s.hst
  idle : t.knb.commit = none
  request : t.pwr.chillAt = none
  tb : t.tb = s.tb
  now : t.now = s.now
  od : t.od = s.od
  nv : t.nv = s.nv
  bytes : ∀ a < 0x40000000, t.byte a = s.byte a

theorem chillEntered_settle (hidle : s.knb.commit = none) : ChillEntered s s.chillEnter.settle := by
  obtain ⟨v, hstill, hv⟩ := chillEnter_eq hidle
  obtain ⟨hnow, htb, -, hhst, hod, hnv, hcommit, -, hbytes⟩ := still_eq hstill
  rw [hv]
  have hstate : v.chilled.settle.rf Reg.pwrStat 0 2 = 2 :=
    (State.rf_settle (by decide) 0 2).trans (State.rf_setRf _ _ 0 2 2 (by decide))
  exact {
    state := hstate
    asleep := by rw [State.asleep, hstate, State.settle_pwr]; rfl
    host := (State.settle_hst _).trans hhst
    idle := (congrArg KnbSt.commit (State.settle_knb _)).trans (hcommit.trans hidle)
    request := congrArg PwrSt.chillAt (State.settle_pwr _)
    tb := (State.settle_tb _).trans htb
    now := (State.settle_now _).trans hnow
    od := (State.settle_od _).trans hod
    nv := (State.settle_nv _).trans hnv
    bytes := fun a ha => (State.byte_congr (State.settle_mem _) a).trans (hbytes a ha) }

/-- What chill entry waits for has ended. -/
theorem chillWaits_false (h : s.chillWaits = false) :
    s.sbusAnyBusy = false ∧ s.knabBusy = false ∧ s.knb.stalledInc = [] ∧ s.knb.weak = [] ∧ s.ldl.buf = [] := by
  obtain ⟨hbus, hbusy, hinc, hweak, hbuf, -⟩ : s.sbusAnyBusy = false ∧ s.knabBusy = false ∧ s.knb.stalledInc = [] ∧ s.knb.weak = [] ∧
      s.ldl.buf = [] ∧ s.rb Reg.ldlStat 1 = false := by simpa [State.chillWaits, and_assoc] using h
  exact ⟨hbus, hbusy, hinc, hweak, hbuf⟩

theorem commit_of_chillWaits (h : s.chillWaits = false) : s.knb.commit = none := by
  obtain ⟨-, hbusy, -⟩ := chillWaits_false h
  simpa [State.knabBusy] using hbusy

section
variable {n : Nat} (hawake : s.awake = true) (hruns : s.tb.running = true) (hat : s.pwr.chillAt = some n) (hdue : n ≤ s.tb.count)
  (hboundary : s.atBoundary 0 = true) (hwaits : s.chillWaits = false)
include hawake hruns hat hdue hboundary hwaits

theorem exec_chillEntry : exec .chillEntry s = (State.drainQueue s.hst.queue.length s).chillEnter.done := by
  have hnow : s.chillNow = true := by simp [State.chillNow, hat, hawake, hruns, hdue, hboundary]
  show execChillEntry s = _
  rw [execChillEntry, hnow, hwaits, if_pos (by decide)]

theorem answers_chillEntry (hqueue : s.hst.queue = []) : ∃ t, exec .chillEntry s = .next t ∧ ChillEntered s t := by
  refine ⟨_, exec_chillEntry hawake hruns hat hdue hboundary hwaits, ?_⟩
  rw [hqueue]
  exact chillEntered_settle (commit_of_chillWaits hwaits)

omit hruns hat hdue hboundary hwaits in
/-- A queued word for the shared window is written there (R418). -/
theorem queueWord_window {a : Nat} {x : Word} (hqueue : s.hst.queue = [(a, x)]) (hwindow : 0x30000000 ≤ a ∧ a < 0x30004000) :
    s.queueWord .none = ({ s with hst := { s.hst with queue := [], hbusy := false, undef := none } } : State).setWord a x := by
  have hasleep : s.asleep = false := by
    unfold State.awake at hawake
    simp only [Bool.and_eq_true, Bool.not_eq_true'] at hawake
    exact hawake.2
  generalize hw : ({ s with hst := { s.hst with queue := [], hbusy := false, undef := none } } : State) = w
  have hcode : w.hostCode a true = 0xA5 := hostCode_ram (by rw [← hw]; exact hasleep) (.inr hwindow)
  have hword : w.hostWord a x = w.setWord a x := by
    rw [State.hostWord, hcode, if_pos rfl, State.fabricWrite_ram _ _ (.inr (placeOf_win hwindow))]
  rw [State.queueWord, hqueue]
  dsimp only
  rw [hw, hword]
  exact ite_self _

theorem answers_chillEntry_queued {a : Nat} {x : Word} (hqueue : s.hst.queue = [(a, x)]) (hlo : 0x30000000 ≤ a) (hhi : a < 0x30004000) :
    ∃ t, exec .chillEntry s = .next t ∧ t.asleep = true ∧ t.hst.queue = [] ∧ t.word a = x := by
  have hdrain : State.drainQueue s.hst.queue.length s = s.queueWord .none := by
    rw [hqueue]
    exact if_neg (by simp [hqueue])
  have hexec := exec_chillEntry hawake hruns hat hdue hboundary hwaits
  rw [hdrain, queueWord_window hawake hqueue ⟨hlo, hhi⟩] at hexec
  generalize hw : ({ s with hst := { s.hst with queue := [], hbusy := false, undef := none } } : State) = w at hexec
  have hframe := storeFrame_setWord w a x
  have hentered : ChillEntered (w.setWord a x) (w.setWord a x).chillEnter.settle :=
    chillEntered_settle (by rw [hframe.knb, ← hw]; exact commit_of_chillWaits hwaits)
  refine ⟨_, hexec, hentered.asleep, ?_, ?_⟩
  · rw [hentered.host, hframe, ← hw]
  · exact (State.word_of_bytes fun i hi => hentered.bytes _ (by omega)).trans (State.word_setWord w a x)

end

theorem exec_chillEntry_none (h : s.pwr.chillAt = none ∨ s.atBoundary 0 = false ∨ s.chillWaits = true) :
    exec .chillEntry s = s.done := by
  have hnot : (s.chillNow && !s.chillWaits) = false := by
    rcases h with h | h | h
    · simp [State.chillNow, h]
    · simp only [State.chillNow, h, Bool.and_false]
      split <;> rfl
    · simp [h]
  show execChillEntry s = _
  rw [execChillEntry, hnot, if_neg Bool.false_ne_true]

/-! ### The banks that are lost (R409) -/

/-- The data banks that PWR_RETAIN does not keep, as a mask. -/
def State.lostBanks (s : State) : Nat := 255 - s.rf Reg.pwrRetain 0 8

theorem testBit_lostBanks (b : Nat) : s.lostBanks.testBit b = (decide (b < 8) && !s.rb Reg.pwrRetain b) := by
  have hlt : s.rf Reg.pwrRetain 0 8 < 2 ^ 8 := Nat.mod_lt _ (by decide)
  have hlost : s.lostBanks = 2 ^ 8 - (s.rf Reg.pwrRetain 0 8 + 1) := by unfold State.lostBanks; omega
  rw [hlost, Nat.testBit_two_pow_sub_succ hlt, State.rf, fld_bit, State.rb, bitOf, Nat.zero_add]
  by_cases hb : b < 8 <;> simp [hb]

/-- A data bank loses its contents. -/
def State.bankCleared (s : State) (b : Nat) : State := s.clearMem (0x20000000 + 0x8000 * b) (0x20000000 + 0x8000 * (b + 1))

theorem byte_banksCleared {l : List Nat} {a b : Nat} (hlo : 0x20000000 + 0x8000 * b ≤ a) (hhi : a < 0x20000000 + 0x8000 * (b + 1))
    (hb : b < 8) : (s.forEach l State.bankCleared).byte a = if b ∈ l then 0 else s.byte a := by
  induction l generalizing s with
  | nil => rfl
  | cons n l ih =>
    have hzero : memDefault a = 0 := by
      unfold memDefault
      rw [if_pos]
      simp only [Bool.or_eq_true, decide_eq_true_eq]
      omega
    have hfirst : (s.bankCleared n).byte a = if b = n then 0 else s.byte a := by
      rw [State.bankCleared, State.byte_clearMem, hzero]
      exact if_congr (by omega) rfl rfl
    rw [State.forEach_cons, ih, hfirst]
    by_cases hmem : b ∈ l <;> by_cases hn : b = n <;> simp [hmem, hn]

/-! ### The wake (R399) -/

/-- WHY shows the sources, and the banks that are not kept are lost. -/
def State.banksLost (s : State) (why : Nat) : State :=
  ((s.setRf Reg.pwrWake 8 6 why).forEach ((List.range 8).filter (fun b => s.lostBanks.testBit b)) State.bankCleared).orReg Reg.sysRamstat
    (BitVec.ofNat 32 s.lostBanks)

/-- The power state at the end of chill. -/
def PwrSt.woken (p : PwrSt) (now : Nat) : PwrSt := { p with wakeTicks := some 0, wokeAt := some now, wdLast := now }

/-- The units leave chill, and the part with them. -/
theorem wakeUp_still (why : Nat) : ∃ v : State, v.still = (s.banksLost why).still ∧
    (s.wakeUp why).still = State.still { v with pwr := v.pwr.woken v.now } := by
  unfold State.wakeUp
  extract_lets lost secs shown cleared ramLost units woken sliced
  have hlost : ramLost.still = (s.banksLost why).still := still_ringsLost lost
  have hunits : units.still = ramLost.still :=
    (still_rtcAfterChill _).trans ((still_kpdWake secs).trans (still_acqWake.trans (still_ldlWake lost)))
  exact ⟨units, hunits.trans hlost, still_rtcMeasBegin.trans (still_runtimePays.trans rfl)⟩

theorem banksCleared_rest (l : List Nat) : s.forEach l State.bankCleared = { s with mem := (s.forEach l State.bankCleared).mem } := by
  induction l generalizing s with
  | nil => rfl
  | cons n l ih =>
    rw [State.forEach_cons, ih]
    rfl

theorem banksLost_rest (why : Nat) : s.banksLost why = { s with regs := (s.banksLost why).regs, mem := (s.banksLost why).mem } := by
  rw [State.banksLost, banksCleared_rest]
  rfl

theorem reg_banksLost (why a : Nat) : (s.banksLost why).reg a =
    if a = Reg.sysRamstat then s.reg Reg.sysRamstat ||| BitVec.ofNat 32 s.lostBanks
    else if a = Reg.pwrWake then putFld (s.reg Reg.pwrWake) 8 6 why else s.reg a := by
  generalize hw : (s.setRf Reg.pwrWake 8 6 why).forEach ((List.range 8).filter (fun b => s.lostBanks.testBit b)) State.bankCleared = w
  have hreg : ∀ b, w.reg b = if b = Reg.pwrWake then putFld (s.reg Reg.pwrWake) 8 6 why else s.reg b := fun b => by
    rw [← hw, banksCleared_rest]
    exact State.reg_setRf s _ 8 6 why b
  rw [State.banksLost, hw, State.orReg, State.reg_setReg, hreg, hreg, if_neg (show ¬ Reg.sysRamstat = Reg.pwrWake by decide)]

theorem byte_banksLost (why : Nat) {a b : Nat} (hb : b < 8) (hlo : 0x20000000 + 0x8000 * b ≤ a) (hhi : a < 0x20000000 + 0x8000 * (b + 1)) :
    (s.banksLost why).byte a = if s.rb Reg.pwrRetain b = false then 0 else s.byte a := by
  have hmem : b ∈ (List.range 8).filter (fun b => s.lostBanks.testBit b) ↔ s.rb Reg.pwrRetain b = false := by
    simp [testBit_lostBanks, hb]
  exact (byte_banksCleared (s := s.setRf Reg.pwrWake 8 6 why) hlo hhi hb).trans (if_congr hmem rfl rfl)

/-- The data banks lie below the RAM of CEN. -/
theorem bank_below {a b : Nat} (hb : b < 8) (hhi : a < 0x20000000 + 0x8000 * (b + 1)) : a < 0x40000000 :=
  hhi.trans_le (show 0x20000000 + 0x8000 * (b + 1) ≤ 0x40000000 by omega)

/-- What the end of chill leaves (R399, R409). -/
structure Woken (src : Nat) (s t : State) : Prop where
  asleep : t.asleep = false
  awake : t.awake = true
  why : t.rf Reg.pwrWake 8 6 = 2 ^ src
  enables : t.rf Reg.pwrWake 0 6 = s.rf Reg.pwrWake 0 6
  state : t.rf Reg.pwrStat 0 2 = 2
  ticks : t.pwr.wakeTicks = some 0
  tb : t.tb = s.tb
  ramstat : t.rf Reg.sysRamstat 0 8 = s.rf Reg.sysRamstat 0 8 ||| s.lostBanks
  banks : ∀ b a, b < 8 → 0x20000000 + 0x8000 * b ≤ a → a < 0x20000000 + 0x8000 * (b + 1) →
    t.byte a = if s.rb Reg.pwrRetain b = false then 0 else s.byte a

theorem rf_banksLost_ramstat (why : Nat) : (s.banksLost why).rf Reg.sysRamstat 0 8 = s.rf Reg.sysRamstat 0 8 ||| s.lostBanks := by
  rw [State.rf, reg_banksLost, if_pos rfl]
  refine Nat.eq_of_testBit_eq fun i => ?_
  rw [Nat.testBit_or, State.rf, fld_bit, fld_bit, testBit_lostBanks, BitVec.getLsbD_or, BitVec.getLsbD_ofNat, testBit_lostBanks]
  by_cases hi : i < 8
  · simp [hi, show i < 32 by omega]
  · simp [hi]

theorem woken_settle {src : Nat} (hfree : s.resetFree = true) (hasleep : s.asleep = true) (hsrc : src < 6) :
    Woken src s (s.wakeUp (2 ^ src)).settle := by
  obtain ⟨v, hv, hwake⟩ := wakeUp_still (s := s) (2 ^ src)
  obtain ⟨-, htb, hpwr, -, -, -, -, hregs, hbytes⟩ := still_eq hv
  obtain ⟨-, htb', hpwr', -, -, -, -, hregs', hbytes'⟩ := still_eq hwake
  have hreg : ∀ a ∈ stillRegs, (s.wakeUp (2 ^ src)).settle.reg a = (s.banksLost (2 ^ src)).reg a := fun a ha =>
    (State.reg_settle _ a ((by decide : ∀ b ∈ stillRegs, b ∉ latchRegs) a ha)).trans ((hregs' a ha).trans (hregs a ha))
  have hbyte : ∀ a < 0x40000000, (s.wakeUp (2 ^ src)).settle.byte a = (s.banksLost (2 ^ src)).byte a := fun a ha =>
    (State.byte_congr (State.settle_mem _) a).trans ((hbytes' a ha).trans (hbytes a ha))
  have hfinal : (s.wakeUp (2 ^ src)).settle.pwr = s.pwr.woken v.now := by
    rw [State.settle_pwr, hpwr']
    dsimp only
    rw [hpwr, banksLost_rest]
  have hstatReg : (s.wakeUp (2 ^ src)).settle.reg Reg.pwrStat = s.reg Reg.pwrStat := by
    rw [hreg _ (by decide), reg_banksLost, if_neg (by decide), if_neg (by decide)]
  have hwakeReg : (s.wakeUp (2 ^ src)).settle.reg Reg.pwrWake = putFld (s.reg Reg.pwrWake) 8 6 (2 ^ src) := by
    rw [hreg _ (by decide), reg_banksLost, if_neg (by decide), if_pos rfl]
  have hstate : s.rf Reg.pwrStat 0 2 = 2 := by
    unfold State.asleep at hasleep
    simp only [Bool.and_eq_true, beq_iff_eq] at hasleep
    exact hasleep.1
  have hnot : (s.wakeUp (2 ^ src)).settle.asleep = false := by
    rw [State.asleep, hfinal]
    exact Bool.and_false _
  obtain ⟨hgood, hheld⟩ := resetFree_iff.mp hfree
  have hpow : 2 ^ src < 2 ^ 6 := Nat.pow_lt_pow_right (by decide) hsrc
  exact {
    asleep := hnot
    awake := by
      rw [State.awake, hnot, hfinal]
      simp [PwrSt.woken, hgood, hheld]
    why := by rw [State.rf, hwakeReg, fld_putFld _ _ _ _ (by decide), Nat.mod_eq_of_lt hpow]
    enables := by rw [State.rf, hwakeReg, fld_putFld_apart _ _ _ _ _ _ (by decide) (by decide), State.rf]
    state := by rw [State.rf, hstatReg]; exact hstate
    ticks := by rw [hfinal]; rfl
    tb := by rw [State.settle_tb, htb', htb, banksLost_rest]
    ramstat := (congrArg (fld · 0 8) (hreg Reg.sysRamstat (by decide))).trans (rf_banksLost_ramstat _)
    banks := fun b a hb hlo hhi => (hbyte a (bank_below hb hhi)).trans (byte_banksLost _ hb hlo hhi) }

theorem answers_wake {src : Nat} (hfree : s.resetFree = true) (hasleep : s.asleep = true) (hsrc : src < 6)
    (hon : s.rb Reg.pwrWake src = true) : ∃ t, exec (.wake src) s = .next t ∧ Woken src s t := by
  obtain ⟨hgood, hheld⟩ := resetFree_iff.mp hfree
  refine ⟨_, ?_, woken_settle hfree hasleep hsrc⟩
  show execWake src s = _
  rw [execWake, if_pos (by simp [hgood, hheld, hasleep, hsrc, hon])]
  rfl

/-! ### The obligation -/

/-- Settles O42: the request and the source against the power state, the entry and the end of chill by what stands still in them. -/
theorem chillAndWake : Obligations.ChillAndWake := by
  unfold Obligations.ChillAndWake
  refine ⟨fun s hruns hcode hat => answers_chillRequest hruns hcode hat, fun s h => ?_,
    fun s => ⟨chillCode_standby, chillCode_ready⟩, fun s n hawake hruns hat hdue hboundary hwaits => ⟨fun hqueue => ?_,
      fun a x hqueue _ _ hlo hhi => answers_chillEntry_queued hawake hruns hat hdue hboundary hwaits hqueue hlo hhi⟩,
    fun s h => changesNothing_of_done (exec_chillEntry_none h), fun s h => chillWaits_false h, fun src s hfree hasleep hsrc hon => ?_,
    fun src s h => ?_⟩
  · refine changesNothing_of_done (?_ : execChillRequest s = _)
    rw [execChillRequest, if_neg]
    rcases h with h | h <;> simp [h]
  · obtain ⟨t, hexec, h⟩ := answers_chillEntry hawake hruns hat hdue hboundary hwaits hqueue
    exact ⟨t, hexec, h.state, h.asleep, h.host, h.idle, h.request, h.tb, h.now, h.od, h.nv⟩
  · obtain ⟨t, hexec, h⟩ := answers_wake hfree hasleep hsrc hon
    refine ⟨t, hexec, h.asleep, h.awake, h.why, h.enables, h.state, h.ticks, h.tb, h.ramstat, fun b a hb hlo hhi => ?_⟩
    have hbank := h.banks b a hb hlo hhi
    exact ⟨fun hlost => hbank.trans (if_pos hlost), fun hkept => hbank.trans (if_neg (by simp [hkept]))⟩
  · refine changesNothing_of_done (?_ : execWake src s = _)
    rw [execWake, if_neg]
    rcases h with h | h | h
    · simp [h]
    · simp [Nat.not_lt.mpr h]
    · simp [h]

end Sys2Proof.Machine
end

section
/-! PROOFS. Shakeout, steps 2 and 3: the recall of the Knab store, and the straps (R381, R383, R505, R507, R513). -/

namespace Sys2Proof.Machine

variable {s u v : State}

/-! ### Frames -/

theorem RegFrame.variant (h : RegFrame s v u) : u.variant = v.variant := by rw [h]
theorem RegFrame.pwr (h : RegFrame s v u) : u.pwr = v.pwr := by rw [h]
theorem RegFrame.knb (h : RegFrame s v u) : u.knb = v.knb := by rw [h]

/-- Registers over the end of a command that changes none but those of a list, and no event latch. -/
theorem answered_of_frame {l : List Nat} (hframe : RegFrame s v u) (hvariant : v.variant = s.variant)
    (hregs : ∀ a, a ∉ l → u.reg a = s.reg a) (hl : ∀ a ∈ latchRegs, a ∉ l) :
    u.settle = { v with regs := u.settle.regs, cen := cenNoted s u.settle } ∧ regsKept s u.settle l ∧ eventsFired s u.settle [] :=
  ⟨hframe.settle, regsKept_settle fun a ha _ => hregs a ha,
    eventsFired_nil (hframe.variant.trans hvariant) fun a ha => hregs a (hl a ha)⟩

theorem RegFrame.setKnb (h : RegFrame s v u) (k : KnbSt) : RegFrame s { v with knb := k } { u with knb := k } := by
  unfold RegFrame at *
  rw [h]
  rfl

theorem RegFrame.setPwr (h : RegFrame s v u) (p : PwrSt) : RegFrame s { v with pwr := p } { u with pwr := p } := by
  unfold RegFrame at *
  rw [h]
  rfl

theorem reg_linesShow {a : Nat} (ha : a ≠ Reg.twnStat) : s.linesShow.reg a = s.reg a := by
  unfold State.linesShow
  split <;> rw [State.reg_setRb_ne _ _ _ _ _ ha, State.reg_setRb_ne _ _ _ _ _ ha]

theorem rf_linesShow {w : Nat} (hw : w ≤ 7) : s.linesShow.rf Reg.twnStat 0 w = s.rf Reg.twnStat 0 w := by
  obtain ⟨b, c, h⟩ := reg_twnStat_linesShow s
  rw [State.rf, h]
  exact fld_lineWord_apart _ b c (by omega) (by omega)

/-! ### Step 2: the recall (R505-R507, R513) -/

theorem knabMapLoad_rest : s.knabMapLoad = { s with knb := s.knabMapLoad.knb } := by
  unfold State.knabMapLoad
  split <;> rfl

theorem knabMapLoad_setReg (a : Nat) (x : Word) : (s.setReg a x).knabMapLoad.knb = s.knabMapLoad.knb := by
  have hgood : (s.setReg a x).knabHeaderGood = s.knabHeaderGood := rfl
  unfold State.knabMapLoad
  rw [hgood]
  split <;> rfl

/-- A good header takes the spare map, and of the registers it changes KNB_STAT.MODECHG alone (R507). -/
theorem knabHeader_of_good (hgood : u.knabHeaderGood = true) (hframe : RegFrame s v u) :
    RegFrame s { v with knb := u.knabMapLoad.knb } u.knabHeader ∧ u.knabHeader.rb Reg.knbStat 1 = u.rb Reg.knbStat 1 ∧
      ∀ a, a ≠ Reg.knbStat → u.knabHeader.reg a = u.reg a := by
  have hload : RegFrame s { v with knb := u.knabMapLoad.knb } u.knabMapLoad := by
    have h := hframe.setKnb u.knabMapLoad.knb
    rwa [← knabMapLoad_rest] at h
  have hreg : ∀ a, u.knabMapLoad.reg a = u.reg a := fun a => by rw [knabMapLoad_rest]; rfl
  unfold State.knabHeader
  rw [if_pos hgood]
  generalize u.knabMapLoad = w at hload hreg ⊢
  by_cases hmode : (w.knabModeCopy != if w.knabJournal then 1 else 0) = true
  · simp only [hmode, if_true]
    exact ⟨hload.setReg _ _, (State.rb_setRb_ne _ _ _ (by decide)).trans (congrArg (bitOf · 1) (hreg _)),
      fun a ha => (State.reg_setRb_ne _ _ _ _ _ ha).trans (hreg a)⟩
  · simp only [hmode, Bool.false_eq_true, if_false]
    exact ⟨hload, congrArg (bitOf · 1) (hreg _), fun a _ => hreg a⟩

/-- Without a marker the journal holds nothing to repeat, and counters of which both H agree hold (R505, R513). -/
theorem knabResolve_of_no_marker (hmarker : s.knabWord (knabPage 60) = 0) :
    s.knabResolve = s.setReg Reg.knbJseq (BitVec.ofNat 32 (knabNextSeq (s.knabWord (knabPage 60 + 4)).toNat)) := by
  unfold State.knabResolve
  simp only [hmarker, beq_self_eq_true, if_true]

theorem knabCtrRecover_of_agree {c : Nat} (h : s.knabWord (knabCtr c + 4) = s.knabWord (knabCtr c + 8)) : s.knabCtrRecover c = s := by
  simp only [State.knabCtrRecover, h, beq_self_eq_true, if_true]

theorem knabNextSeq_lt (n : Nat) : knabNextSeq n < 2 ^ 32 := by
  unfold knabNextSeq
  split
  · decide
  · exact Nat.mod_lt _ (by decide)

/-- What a recall leaves that finds a good header, no marker and no broken counter. -/
structure Recalled (s : State) (weak : List Nat) (u : State) : Prop where
  frame : RegFrame s { s with knb := { s.knabMapLoad.knb with weak := u.knb.weak } } u
  weak : u.knb.weak = if s.rb Reg.knbStat 1 then [] else weak.filter (fun p => p < s.knabPages)
  idle : u.rb Reg.knbStat 0 = false
  jseq : u.reg Reg.knbJseq = BitVec.ofNat 32 (knabNextSeq (s.knabWord (knabPage 60 + 4)).toNat)
  regs : ∀ a, a ∉ [Reg.knbStat, Reg.knbJseq, Reg.knbSpares] → u.reg a = s.reg a

theorem recalled_of_resolved {w : State} (weak : List Nat) (hresolved : s.knabResolve.forEach (List.range 32) State.knabCtrRecover = w)
    (hframe : RegFrame s s w) (hgood : w.knabHeaderGood = true) (hload : w.knabMapLoad.knb = s.knabMapLoad.knb)
    (hjseq : w.reg Reg.knbJseq = BitVec.ofNat 32 (knabNextSeq (s.knabWord (knabPage 60 + 4)).toNat))
    (hregs : ∀ a, a ≠ Reg.knbJseq → w.reg a = s.reg a) : Recalled s weak (s.knabFullRecall weak) := by
  obtain ⟨hheadframe, hheadbit, hheadreg⟩ := knabHeader_of_good hgood hframe
  have hspareframe : RegFrame s { s with knb := w.knabMapLoad.knb } w.knabHeader.knabSpares := hheadframe.setReg _ _
  have hspareknb : w.knabHeader.knabSpares.knb = s.knabMapLoad.knb := hspareframe.knb.trans hload
  have hsparebit : w.knabHeader.knabSpares.knabJournal = s.rb Reg.knbStat 1 :=
    (congrArg (bitOf · 1) (State.reg_setReg_ne w.knabHeader _ _ _ (by decide))).trans
      (hheadbit.trans (congrArg (bitOf · 1) (hregs _ (by decide))))
  have hsparereg : ∀ a, a ≠ Reg.knbStat → a ≠ Reg.knbSpares → w.knabHeader.knabSpares.reg a = w.reg a := fun a h1 h2 =>
    (State.reg_setReg_ne _ _ _ _ h2).trans (hheadreg a h1)
  unfold State.knabFullRecall
  rw [hresolved]
  dsimp only
  generalize w.knabHeader.knabSpares = x at hspareframe hspareknb hsparebit hsparereg ⊢
  have hpages : x.knabPages = s.knabPages := by
    unfold State.knabPages State.present
    rw [hspareframe.variant]
  rw [hsparebit, hpages, hspareknb]
  rw [hload] at hspareframe
  exact {
    frame := (hspareframe.setKnb _).setReg _ _
    weak := rfl
    idle := State.rb_setRb _ _ _ _ (by decide)
    jseq := (State.reg_setRb_ne _ _ _ _ _ (by decide)).trans ((hsparereg _ (by decide) (by decide)).trans hjseq)
    regs := fun a ha => by
      obtain ⟨h1, h2, h3⟩ : a ≠ Reg.knbStat ∧ a ≠ Reg.knbJseq ∧ a ≠ Reg.knbSpares := by simpa using ha
      exact (State.reg_setRb_ne _ _ _ _ _ h1).trans ((hsparereg a h1 h3).trans (hregs a h2)) }

theorem knabFullRecall_recalled (weak : List Nat) (hgood : s.knabHeaderGood = true) (hmarker : s.knabWord (knabPage 60) = 0)
    (hagree : ∀ c, c < 32 → s.knabWord (knabCtr c + 4) = s.knabWord (knabCtr c + 8)) : Recalled s weak (s.knabFullRecall weak) := by
  have hword : ∀ x a, (s.setReg Reg.knbJseq x).knabWord a = s.knabWord a := fun _ _ => rfl
  refine recalled_of_resolved (w := s.setReg Reg.knbJseq _) weak ?_ ((RegFrame.refl s).setReg _ _) hgood (knabMapLoad_setReg _ _)
    (State.reg_setReg_same _ _ _) fun a ha => State.reg_setReg_ne _ _ _ _ ha
  rw [knabResolve_of_no_marker hmarker]
  refine State.forEach_eq_self fun c hc => knabCtrRecover_of_agree ?_
  rw [hword, hword]
  exact hagree c (List.mem_range.mp hc)

/-! ### Step 3: the straps (R381) -/

/-- The straps are latched, and the position of the twin follows from them (R332, R333). -/
def State.strapped (s : State) (p : StrapPins) : State :=
  let s := ((s.setRf Reg.pwrStrap 0 2 p.twinPos).setRf Reg.pwrStrap 2 2 p.bootSrc).setRf Reg.pwrStrap 5 3 p.shdnT
  (s.setRf Reg.twnStat 0 2 (s.twinPosOf (p.twinPos % 4))).linesShow

theorem RegFrame.strapped (h : RegFrame s v u) (p : StrapPins) : RegFrame s v (u.strapped p) :=
  regFrame_linesShow ((((h.setReg _ _).setReg _ _).setReg _ _).setReg _ _)

theorem reg_strapped {p : StrapPins} {a : Nat} (h1 : a ≠ Reg.pwrStrap) (h2 : a ≠ Reg.twnStat) : (u.strapped p).reg a = u.reg a :=
  (reg_linesShow h2).trans ((State.reg_setRf_ne _ _ _ _ _ _ h2).trans ((State.reg_setRf_ne _ _ _ _ _ _ h1).trans
    ((State.reg_setRf_ne _ _ _ _ _ _ h1).trans (State.reg_setRf_ne _ _ _ _ _ _ h1))))

theorem pwrStrap_strapped (p : StrapPins) : (u.strapped p).reg Reg.pwrStrap =
    putFld (putFld (putFld (u.reg Reg.pwrStrap) 0 2 p.twinPos) 2 2 p.bootSrc) 5 3 p.shdnT := by
  refine (reg_linesShow (by decide)).trans ((State.reg_setRf_ne _ _ _ _ _ _ (by decide)).trans ?_)
  simp only [State.reg_setRf, if_pos]

theorem rf_strapped (p : StrapPins) : (u.strapped p).rf Reg.pwrStrap 0 2 = p.twinPos % 4 ∧ (u.strapped p).rf Reg.pwrStrap 2 2 = p.bootSrc % 4 ∧
    (u.strapped p).rf Reg.pwrStrap 5 3 = p.shdnT % 8 := by
  unfold State.rf
  rw [pwrStrap_strapped]
  refine ⟨?_, ?_, fld_putFld _ 5 3 _ (by decide)⟩
  · rw [fld_putFld_apart _ _ _ _ _ _ (by decide) (by decide), fld_putFld_apart _ _ _ _ _ _ (by decide) (by decide)]
    exact fld_putFld _ 0 2 _ (by decide)
  · rw [fld_putFld_apart _ _ _ _ _ _ (by decide) (by decide)]
    exact fld_putFld _ 2 2 _ (by decide)

theorem twinPosOf_lt {n : Nat} (hn : n < 4) : s.twinPosOf n < 4 := by
  unfold State.twinPosOf
  split_ifs <;> omega

theorem rf_twnStat_strapped (p : StrapPins) : (u.strapped p).rf Reg.twnStat 0 2 = u.twinPosOf (p.twinPos % 4) :=
  (rf_linesShow (by decide)).trans ((State.rf_setRf _ _ 0 2 _ (by decide)).trans
    (Nat.mod_eq_of_lt (twinPosOf_lt (Nat.mod_lt _ (by decide)))))

/-! ### The recall as a command (R383) -/

/-- Step 4 follows, and RSTOUT is to rise (R377, R383). -/
def State.recallEnded (s : State) : State := ({ s with pwr := { s.pwr with rstoutDue := true } } : State).setRf Reg.pwrShake 0 4 4

theorem reg_recallEnded {a : Nat} (ha : a ≠ Reg.pwrShake) : u.recallEnded.reg a = u.reg a := State.reg_setRf_ne _ _ _ _ _ _ ha

theorem shakeStep_recallEnded : u.recallEnded.settle.shakeStep = 4 := shakeStep_settle.trans (State.rf_setRf _ _ 0 4 4 (by decide))

theorem answers_knabRecall_warm (weak : List Nat) (hfree : s.resetFree = true) (hstep : s.shakeStep = 2) (hcause : s.rf Reg.pwrRstcause 0 3 ≠ 1) :
    ∃ t, exec (.knabRecall weak) s = .next t ∧
      t = { s with regs := t.regs, pwr := { s.pwr with rstoutDue := true }, cen := cenNoted s t } ∧ t.shakeStep = 4 ∧
      t.rb Reg.knbStat 0 = false ∧ t.reg Reg.knbStat &&& 0xFFFFFFFE = s.reg Reg.knbStat &&& 0xFFFFFFFE ∧
      regsKept s t [Reg.pwrShake, Reg.knbStat] ∧ eventsFired s t [] := by
  have hexec : exec (.knabRecall weak) s = (s.setRb Reg.knbStat 0 false).recallEnded.done := by
    show execKnabRecall weak s = _
    rw [execKnabRecall, if_neg (by simp [hfree, hstep]), if_neg hcause]
    rfl
  have hframe : RegFrame s { s with pwr := { s.pwr with rstoutDue := true } } (s.setRb Reg.knbStat 0 false).recallEnded :=
    (((RegFrame.refl s).setReg _ _).setPwr _).setReg _ _
  have hstat : (s.setRb Reg.knbStat 0 false).recallEnded.settle.reg Reg.knbStat = putBit (s.reg Reg.knbStat) 0 false :=
    (State.reg_settle _ _ (by decide)).trans ((reg_recallEnded (by decide)).trans (State.reg_setReg_same _ _ _))
  obtain ⟨heq, hkept, hfired⟩ := answered_of_frame (l := [Reg.pwrShake, Reg.knbStat]) hframe rfl (fun a ha => by
    obtain ⟨h1, h2⟩ : a ≠ Reg.pwrShake ∧ a ≠ Reg.knbStat := by simpa using ha
    exact (reg_recallEnded h1).trans (State.reg_setRb_ne _ _ _ _ _ h2)) (by decide)
  refine ⟨_, hexec, heq, shakeStep_recallEnded, ?_, ?_, hkept, hfired⟩
  · rw [State.rb, hstat]
    exact bitOf_putBit _ 0 false (by decide)
  · rw [hstat]
    exact and_putBit _ _ _ (by decide)

/-- What step 3 leaves for step 4: a TWIN_POS of 3 is logged where there is a TWN (R333). -/
def State.strapChecked (s : State) (p : StrapPins) : State := if p.twinPos % 4 = 3 && s.present 16 then s.fault 0x0F01 3 else s

theorem exec_knabRecall_cold (weak : List Nat) (hfree : s.resetFree = true) (hstep : s.shakeStep = 2) (hcause : s.rf Reg.pwrRstcause 0 3 = 1) :
    exec (.knabRecall weak) s = (((s.knabFullRecall weak).strapped s.pwr.straps).strapChecked s.pwr.straps).recallEnded.done := by
  show execKnabRecall weak s = _
  rw [execKnabRecall, if_neg (by simp [hfree, hstep]), if_pos hcause]
  rfl

/-- What the recall and the straps leave of a power-on with a good header, no marker and no broken counter. -/
structure StrapsTaken (s : State) (weak : List Nat) (u : State) : Prop where
  frame : RegFrame s { s with knb := { s.knabMapLoad.knb with weak := u.knb.weak }, log := u.log } u
  weak : u.knb.weak = if s.rb Reg.knbStat 1 then [] else weak.filter (fun p => p < s.knabPages)
  idle : u.rb Reg.knbStat 0 = false
  jseq : u.reg Reg.knbJseq = BitVec.ofNat 32 (knabNextSeq (s.knabWord (knabPage 60 + 4)).toNat)
  twinPos : u.rf Reg.pwrStrap 0 2 = s.pwr.straps.twinPos % 4
  bootSrc : u.rf Reg.pwrStrap 2 2 = s.pwr.straps.bootSrc % 4
  shdnT : u.rf Reg.pwrStrap 5 3 = s.pwr.straps.shdnT % 8
  position : u.rf Reg.twnStat 0 2 = s.twinPosOf (s.pwr.straps.twinPos % 4)
  log : u.log = if s.pwr.straps.twinPos % 4 = 3 ∧ s.present 16 = true then (s.fault 0x0F01 3).log else s.log
  regs : ∀ a, a ∉ [Reg.pwrStrap, Reg.knbStat, Reg.knbJseq, Reg.knbSpares, Reg.twnStat] → u.reg a = s.reg a

theorem reg_strapChecked (p : StrapPins) (a : Nat) : (s.strapChecked p).reg a = s.reg a := by
  unfold State.strapChecked
  split
  · exact State.reg_fault _ _ _ _
  · rfl

theorem RegFrame.strapChecked (h : RegFrame s v u) (p : StrapPins) :
    RegFrame s { v with log := (u.strapChecked p).log } (u.strapChecked p) := by
  unfold State.strapChecked
  split
  · exact h.fault _ _
  · have hlog : u.log = v.log := by rw [h]
    rw [hlog]
    exact h

theorem log_strapChecked (h : LogAlike s u) (hvariant : u.variant = s.variant) (p : StrapPins) : (u.strapChecked p).log =
    if p.twinPos % 4 = 3 ∧ s.present 16 = true then (s.fault 0x0F01 3).log else s.log := by
  have hpresent : u.present 16 = s.present 16 := by rw [State.present, State.present, hvariant]
  unfold State.strapChecked
  rw [hpresent, apply_ite State.log, (h.fault _ _).log, h.log]
  simp only [Bool.and_eq_true, decide_eq_true_eq]

theorem Recalled.strapped {weak : List Nat} (h : Recalled s weak u) :
    StrapsTaken s weak ((u.strapped s.pwr.straps).strapChecked s.pwr.straps) := by
  obtain ⟨hframe, hweak, hidle, hjseq, hregs⟩ := h
  have hvariant : u.variant = s.variant := hframe.variant
  have hstrapframe := hframe.strapped s.pwr.straps
  have hkeep : ∀ a, a ≠ Reg.pwrStrap → a ≠ Reg.twnStat → ((u.strapped s.pwr.straps).strapChecked s.pwr.straps).reg a = u.reg a :=
    fun a h1 h2 => (reg_strapChecked _ a).trans (reg_strapped h1 h2)
  have hother : ∀ a, a ∉ [Reg.pwrStrap, Reg.knbStat, Reg.knbJseq, Reg.knbSpares, Reg.twnStat] →
      ((u.strapped s.pwr.straps).strapChecked s.pwr.straps).reg a = s.reg a := fun a ha => by
    simp only [List.mem_cons, List.not_mem_nil, or_false, not_or] at ha
    obtain ⟨h1, h2, h3, h4, h5⟩ := ha
    exact (hkeep a h1 h5).trans (hregs a (by simp [h2, h3, h4]))
  have halike : LogAlike s (u.strapped s.pwr.straps) :=
    ⟨by rw [hstrapframe], hstrapframe.pwr, by rw [hstrapframe], by rw [hstrapframe],
      fun a ha => (reg_strapChecked s.pwr.straps a).symm.trans (hother a (by revert a; decide))⟩
  have hlog := log_strapChecked halike (hstrapframe.variant) s.pwr.straps
  have hcheckframe := hstrapframe.strapChecked s.pwr.straps
  have hknb : ((u.strapped s.pwr.straps).strapChecked s.pwr.straps).knb.weak = u.knb.weak := by
    rw [hcheckframe.knb]
  obtain ⟨hpos, hsrc, hshdn⟩ := rf_strapped (u := u) s.pwr.straps
  have hrf : ∀ a lo n, ((u.strapped s.pwr.straps).strapChecked s.pwr.straps).rf a lo n = (u.strapped s.pwr.straps).rf a lo n :=
    fun a lo n => congrArg (fld · lo n) (reg_strapChecked _ a)
  have htwin : u.twinPosOf (s.pwr.straps.twinPos % 4) = s.twinPosOf (s.pwr.straps.twinPos % 4) := by
    rw [State.twinPosOf, State.twinPosOf, State.present, State.present, hvariant]
  exact {
    frame := by rw [hknb]; exact hcheckframe
    weak := hknb.trans hweak
    idle := (congrArg (bitOf · 0) (hkeep _ (by decide) (by decide))).trans hidle
    jseq := (hkeep _ (by decide) (by decide)).trans hjseq
    twinPos := (hrf _ _ _).trans hpos
    bootSrc := (hrf _ _ _).trans hsrc
    shdnT := (hrf _ _ _).trans hshdn
    position := (hrf _ _ _).trans ((rf_twnStat_strapped _).trans htwin)
    log := hlog
    regs := hother }

theorem answers_knabRecall_cold (weak : List Nat) (hfree : s.resetFree = true) (hstep : s.shakeStep = 2) (hcause : s.rf Reg.pwrRstcause 0 3 = 1)
    (hgood : s.knabHeaderGood = true) (hmarker : s.knabWord (knabPage 60) = 0)
    (hagree : ∀ c, c < 32 → s.knabWord (knabCtr c + 4) = s.knabWord (knabCtr c + 8)) :
    ∃ t, exec (.knabRecall weak) s = .next t ∧
      t = { s with regs := t.regs, log := t.log, knb := { s.knabMapLoad.knb with weak := t.knb.weak },
                   pwr := { s.pwr with rstoutDue := true }, cen := cenNoted s t } ∧
      t.shakeStep = 4 ∧ t.rb Reg.knbStat 0 = false ∧
      (t.reg Reg.knbJseq).toNat = knabNextSeq (s.knabWord (knabPage 60 + 4)).toNat ∧
      (s.rb Reg.knbStat 1 = true → t.knb.weak = []) ∧ (s.rb Reg.knbStat 1 = false → ∀ p, p ∈ t.knb.weak ↔ p ∈ weak ∧ p < s.knabPages) ∧
      t.rf Reg.pwrStrap 0 2 = s.pwr.straps.twinPos % 4 ∧ t.rf Reg.pwrStrap 2 2 = s.pwr.straps.bootSrc % 4 ∧
      t.rf Reg.pwrStrap 5 3 = s.pwr.straps.shdnT % 8 ∧ t.rf Reg.twnStat 0 2 = s.twinPosOf (s.pwr.straps.twinPos % 4) ∧
      t.log = (if s.pwr.straps.twinPos % 4 = 3 ∧ s.present 16 = true then (s.fault 0x0F01 3).log else s.log) ∧
      regsKept s t [Reg.pwrShake, Reg.pwrStrap, Reg.knbStat, Reg.knbJseq, Reg.knbSpares, Reg.twnStat] ∧ eventsFired s t [] := by
  have hexec := exec_knabRecall_cold weak hfree hstep hcause
  have htaken := (knabFullRecall_recalled weak hgood hmarker hagree).strapped
  generalize ((s.knabFullRecall weak).strapped s.pwr.straps).strapChecked s.pwr.straps = x at hexec htaken
  obtain ⟨hframe, hweak, hidle, hjseq, hpos, hsrc, hshdn, htwin, hlog, hregs⟩ := htaken
  have hend : RegFrame s
      { s with knb := { s.knabMapLoad.knb with weak := x.knb.weak }, log := x.log, pwr := { s.pwr with rstoutDue := true } } x.recallEnded := by
    have hpwr : x.pwr = s.pwr := hframe.pwr
    rw [State.recallEnded, hpwr]
    exact (hframe.setPwr _).setReg _ _
  obtain ⟨heq, hkept, hfired⟩ := answered_of_frame
    (l := [Reg.pwrShake, Reg.pwrStrap, Reg.knbStat, Reg.knbJseq, Reg.knbSpares, Reg.twnStat]) hend rfl (fun a ha => by
      obtain ⟨hshake, hrest⟩ := List.ne_and_not_mem_of_not_mem_cons ha
      exact (reg_recallEnded hshake).trans (hregs a hrest)) (by decide)
  have hkeep : ∀ a, a ∉ latchRegs → a ≠ Reg.pwrShake → x.recallEnded.settle.reg a = x.reg a := fun a h1 h2 =>
    (State.reg_settle _ _ h1).trans (reg_recallEnded h2)
  have hknb : x.recallEnded.settle.knb.weak = x.knb.weak := by rw [heq]
  have hendlog : x.recallEnded.settle.log = x.log := by rw [heq]
  have hstrap : ∀ lo n, x.recallEnded.settle.rf Reg.pwrStrap lo n = x.rf Reg.pwrStrap lo n := fun lo n =>
    congrArg (fld · lo n) (hkeep _ (by decide) (by decide))
  refine ⟨_, hexec, ?_, shakeStep_recallEnded, ?_, ?_, fun hmode => ?_, fun hmode p => ?_, (hstrap _ _).trans hpos, (hstrap _ _).trans hsrc,
    (hstrap _ _).trans hshdn, (congrArg (fld · 0 2) (hkeep _ (by decide) (by decide))).trans htwin, hendlog.trans hlog, hkept, hfired⟩
  · rw [hknb, hendlog]
    exact heq
  · exact (congrArg (bitOf · 0) (hkeep _ (by decide) (by decide))).trans hidle
  · rw [hkeep _ (by decide) (by decide), hjseq, BitVec.toNat_ofNat]
    exact Nat.mod_eq_of_lt (knabNextSeq_lt _)
  · rw [hknb, hweak, if_pos hmode]
  · rw [hknb, hweak, hmode, if_neg Bool.false_ne_true, List.mem_filter, decide_eq_true_eq]

theorem exec_knabRecall_none (weak : List Nat) (hstep : s.shakeStep ≠ 2) : exec (.knabRecall weak) s = s.done := by
  show execKnabRecall weak s = _
  rw [execKnabRecall, if_pos (by simp [hstep])]

end Sys2Proof.Machine
end

section
/-! PROOFS. Shakeout, steps 4 to 6: the self-test, and what step 5 takes from the Knab store (R317, R382-R384, R507). -/

namespace Sys2Proof.Machine

variable {s u v g : State}

/-! ### What the store reads like -/

section
variable (hbytes : ∀ a, knabPage 0 ≤ a → u.knabByte a = s.knabByte a)
include hbytes

theorem knabBytes_of_alike {a : Nat} (ha : knabPage 0 ≤ a) (n : Nat) : u.knabBytes a n = s.knabBytes a n :=
  knabBytes_congr fun i _ => hbytes (a + i) (by omega)

theorem nvObjsAt_of_alike (hpages : u.knabPages = s.knabPages) {a : Nat} (ha : knabPage 0 ≤ a) (k : Nat) : u.nvObjsAt k a = s.nvObjsAt k a := by
  induction k generalizing a with
  | zero => rfl
  | succ k ih =>
    have hread : ∀ i n, u.knabBytes (a + i) n = s.knabBytes (a + i) n := fun i n => knabBytes_of_alike hbytes (by omega) n
    have hrest : ∀ i, u.nvObjsAt k (a + i) = s.nvObjsAt k (a + i) := fun i => ih (by omega)
    have hid : u.knabBytes a 4 = s.knabBytes a 4 := knabBytes_of_alike hbytes ha 4
    have hbyte : ∀ i, u.knabByte (a + i) = s.knabByte (a + i) := fun i => hbytes _ (by omega)
    simp only [State.nvObjsAt, hpages, hid, hbyte, hread, Nat.add_assoc a 5, hrest]

/-- Where the bytes of the store and its header's outcome agree, the runtime reads the same of it. -/
theorem nvRead_of_alike (hpages : u.knabPages = s.knabPages) (hheader : u.rb Reg.knbStat 2 = s.rb Reg.knbStat 2) : u.nvRead = s.nvRead := by
  have hread : ∀ p o n, u.knabBytes (knabPage p + o) n = s.knabBytes (knabPage p + o) n := fun p o n =>
    knabBytes_of_alike hbytes (by unfold knabPage; omega) n
  have hpage : ∀ p n, u.knabBytes (knabPage p) n = s.knabBytes (knabPage p) n := fun p n => hread p 0 n
  have hobjs : u.nvObjsAt 8192 (knabPage 256) = s.nvObjsAt 8192 (knabPage 256) :=
    nvObjsAt_of_alike hbytes hpages (by unfold knabPage; omega) 8192
  simp only [State.nvRead, hread, hpage, hobjs, hheader]

end

/-! ### Step 4: the self-test (R384) -/

/-- The log takes the same of two states that agree in it, in the runtime, in what stands in its flags and in its stamps (R614, R618). -/
theorem fault_log_of_flags (code param : Nat) (hlog : u.log = s.log) (hruns : u.runtimeRuns = s.runtimeRuns)
    (hflags : ∀ n, u.logFlags n = s.logFlags n) (hcount : u.tb.count = s.tb.count) (hrtc : u.rtc = s.rtc) :
    (u.fault code param).log = (s.fault code param).log := by
  simp only [State.fault, State.logAdd, State.stamp, hruns, hflags, hlog, hcount, hrtc]
  split <;> rfl

theorem fault_log_setPwrStat (x : Word) (code param : Nat) (hstate : fld x 0 2 = s.rf Reg.pwrStat 0 2) (hwarn : bitOf x 2 = s.rb Reg.pwrStat 2) :
    ((s.setReg Reg.pwrStat x).fault code param).log = (s.fault code param).log := by
  have hruns : (s.setReg Reg.pwrStat x).runtimeRuns = s.runtimeRuns := by
    simp only [State.runtimeRuns, State.awake, State.asleep, State.rf, State.rb, State.reg_setReg_same] at hstate hwarn ⊢
    rw [hstate, hwarn]
    rfl
  have hother : ∀ a, a ≠ Reg.pwrStat → (s.setReg Reg.pwrStat x).reg a = s.reg a := fun a ha => State.reg_setReg_ne _ _ _ _ ha
  have hflags : ∀ n, (s.setReg Reg.pwrStat x).logFlags n = s.logFlags n := fun n => by
    unfold State.logFlags State.shakeStep State.rf State.rb
    rw [hother Reg.pwrShake (by decide), hother Reg.rtcStat (by decide), hother Reg.rtcCtrl (by decide)]
  exact fault_log_of_flags code param rfl hruns hflags rfl rfl

theorem answers_selfTest_bad (romOk : Bool) (hfree : s.resetFree = true) (hstep : s.shakeStep = 4) (hbad : s.rb Reg.pwrStat 7 = false) :
    ∃ t, exec (.selfTest romOk (!romOk)) s = .next t ∧
      t = { s with regs := t.regs, log := (s.fault 0x0203 (if romOk then 2 else 1)).log, cen := cenNoted s t } ∧ t.rb Reg.pwrStat 7 = true ∧
      t.shakeStep = 4 ∧ t.reg Reg.pwrStat &&& 0xFFFFFF7F = s.reg Reg.pwrStat &&& 0xFFFFFF7F ∧ regsKept s t [Reg.pwrStat] ∧ eventsFired s t [] := by
  generalize hparam : (if romOk then 2 else 1) = param
  have hexec : exec (.selfTest romOk (!romOk)) s = ((s.setRb Reg.pwrStat 7 true).fault 0x0203 param).done := by
    show execSelfTest romOk (!romOk) s = _
    rw [execSelfTest, if_neg (by simp [hfree, hstep, hbad]), if_pos (by cases romOk <;> rfl), hparam]
  have hlog : ((s.setRb Reg.pwrStat 7 true).fault 0x0203 param).log = (s.fault 0x0203 param).log :=
    fault_log_setPwrStat _ _ _ (fld_putFld_apart _ _ _ _ _ _ (by decide) (by decide)) (bitOf_putFld_apart _ _ _ _ _ (by decide) (by decide))
  have hframe := ((RegFrame.refl s).setReg Reg.pwrStat (putFld (s.reg Reg.pwrStat) 7 1 1)).fault 0x0203 param
  rw [show s.setReg Reg.pwrStat (putFld (s.reg Reg.pwrStat) 7 1 1) = s.setRb Reg.pwrStat 7 true from rfl, hlog] at hframe
  have hreg : ∀ a, a ≠ Reg.pwrStat → ((s.setRb Reg.pwrStat 7 true).fault 0x0203 param).reg a = s.reg a := fun a ha =>
    (State.reg_fault _ _ _ _).trans (State.reg_setRb_ne _ _ _ _ _ ha)
  have hstat : ((s.setRb Reg.pwrStat 7 true).fault 0x0203 param).settle.reg Reg.pwrStat = putBit (s.reg Reg.pwrStat) 7 true :=
    (State.reg_settle _ _ (by decide)).trans ((State.reg_fault _ _ _ _).trans (State.reg_setReg_same _ _ _))
  obtain ⟨heq, hkept, hfired⟩ := answered_of_frame (l := [Reg.pwrStat]) hframe rfl (fun a ha => hreg a (by simpa using ha)) (by decide)
  refine ⟨_, hexec, heq, ?_, ?_, ?_, hkept, hfired⟩
  · rw [State.rb, hstat]
    exact bitOf_putBit _ 7 true (by decide)
  · exact shakeStep_settle.trans ((congrArg (fld · 0 4) (hreg _ (by decide))).trans hstep)
  · rw [hstat]
    exact and_putBit _ _ _ (by decide)

theorem exec_selfTest_none (h : s.rb Reg.pwrStat 7 = true ∨ s.shakeStep ≠ 4) : exec (.selfTest true true) s = s.done := by
  show execSelfTest true true s = _
  rw [execSelfTest, if_pos]
  rcases h with h | h <;> simp [h]

/-! ### Step 4 clears the working memories (R410) -/

/-- The memories are cleared. -/
def State.ramCleared (s : State) : State :=
  (((s.clearMem 0x10000000 0x100C0000).clearMem 0x20000000 0x20040000).clearMem 0x30000000 0x30004000).cenClear

theorem memDefault_of_lt {a : Nat} (ha : a < 0x50000000) : memDefault a = 0 := by
  unfold memDefault
  rw [if_pos (by simp [ha])]

/-- Clearing memory below the Knab store leaves zeros. -/
theorem byte_clearMem_below {lo hi : Nat} (hhi : hi ≤ 0x50000000) (a : Nat) :
    (s.clearMem lo hi).byte a = if lo ≤ a ∧ a < hi then 0 else s.byte a := by
  rw [State.byte_clearMem]
  by_cases h : lo ≤ a ∧ a < hi
  · rw [if_pos h, if_pos h, memDefault_of_lt (h.2.trans_le hhi)]
  · rw [if_neg h, if_neg h]

theorem byte_ramCleared (a : Nat) : s.ramCleared.byte a =
    if (0x10000000 ≤ a ∧ a < 0x100C0000) ∨ (0x20000000 ≤ a ∧ a < 0x20040000) ∨ (0x30000000 ≤ a ∧ a < 0x30004000) ∨
      (0x40000000 ≤ a ∧ a < 0x40040000) then 0 else s.byte a := by
  unfold State.ramCleared State.cenClear
  rw [byte_clearMem_below (by decide), byte_clearMem_below (by decide), byte_clearMem_below (by decide), byte_clearMem_below (by decide)]
  split_ifs <;> tauto

theorem byte_ramCleared_of_le {a : Nat} (ha : knabPage 0 ≤ a) : s.ramCleared.byte a = s.byte a := by
  have hlow : 0x50000000 ≤ a := ha
  rw [byte_ramCleared, if_neg (by omega)]

theorem nvRead_ramCleared : s.ramCleared.nvRead = s.nvRead :=
  nvRead_of_alike (fun _ ha => knabByte_congr (s := s) (u := s.ramCleared) rfl (fun _ hb => byte_ramCleared_of_le hb) ha) rfl rfl

/-! ### Step 5: what the runtime takes from the store (R303, R317, R383) -/

/-- Serial number and address of the pages that were read. -/
def State.identitySet (s : State) : State :=
  ((s.setReg Reg.sysSerialLo (BitVec.ofNat 32 s.nv.serial)).setReg Reg.sysSerialHi (BitVec.ofNat 32 (s.nv.serial / 2 ^ 32))).setRf
    Reg.netAddr 0 10 s.nv.address

/-- The node of the address in the two ports. -/
def State.plcaSet (s : State) (x : Nat) : State := (s.setRf (Reg.netpPlca 0) 0 5 x).setRf (Reg.netpPlca 1) 0 5 x

/-- Serial number, address and sequence counter, as the pages read. -/
def State.identityShown (s : State) : State :=
  let s := s.nvReload
  let s := (s.setReg Reg.sysSerialLo (BitVec.ofNat 32 s.nv.serial)).setReg Reg.sysSerialHi (BitVec.ofNat 32 (s.nv.serial / 2 ^ 32))
  let s := (s.setRf Reg.netAddr 0 10 s.nv.address).netSeqTo (s.nv.seqBase + 65536)
  s.forEach [0, 1] (fun s p => s.setRf (Reg.netpPlca p) 0 5 (s.nv.address % 32))

/-- The heat, the digests and the address in the dictionary. -/
def State.identityHeld (s : State) : State :=
  let s := { s with od := { s.od with heat := s.nv.heat.getD 0, hdig := s.nv.hdig.getD 0, sdig := s.nv.sdig.getD 0 } }
  s.odSet (odId 1 0 2) (.num s.nv.address)

theorem identityLoad_eq : s.identityLoad =
    { s.identityShown.identityHeld.stepFiveFaults with pwr := { s.identityShown.identityHeld.stepFiveFaults.pwr with tripPeak := 0 } } := rfl

/-- The registers of step 5. -/
def identityRegs : List Nat :=
  [Reg.sysSerialLo, Reg.sysSerialHi, Reg.netAddr, Reg.netSeq, Reg.netStat, Reg.netpPlca 0, Reg.netpPlca 1]

/-- What step 5 shows of the pages: u over a state of which they read nv. -/
structure IdentityShown (s u : State) (nv : NvSt) : Prop where
  frame : RegFrame s { s with nv := nv, log := u.log } u
  alike : LogAlike (s.netSeqTo (nv.seqBase + 65536)) u
  serialLo : u.reg Reg.sysSerialLo = BitVec.ofNat 32 nv.serial
  serialHi : u.reg Reg.sysSerialHi = BitVec.ofNat 32 (nv.serial / 2 ^ 32)
  seq : u.reg Reg.netSeq = BitVec.ofNat 32 (min 0xFFFFFFFF (nv.seqBase + 65536))
  addr : u.reg Reg.netAddr = putFld (s.reg Reg.netAddr) 0 10 nv.address
  plca : ∀ p < 2, u.reg (Reg.netpPlca p) = putFld (s.reg (Reg.netpPlca p)) 0 5 (nv.address % 32)
  regs : ∀ a, a ∉ identityRegs → u.reg a = s.reg a

theorem reg_plcaSet_of_ne {a x : Nat} (h0 : a ≠ Reg.netpPlca 0) (h1 : a ≠ Reg.netpPlca 1) : (s.plcaSet x).reg a = s.reg a :=
  (State.reg_setRf_ne _ _ _ _ _ _ h1).trans (State.reg_setRf_ne _ _ _ _ _ _ h0)

theorem reg_plcaSet {p : Nat} (hp : p < 2) (x : Nat) : (s.plcaSet x).reg (Reg.netpPlca p) = putFld (s.reg (Reg.netpPlca p)) 0 5 x := by
  obtain rfl | rfl : p = 0 ∨ p = 1 := by omega
  · exact (State.reg_setRf_ne _ _ _ _ _ _ (by decide)).trans (State.reg_setReg_same _ _ _)
  · exact (State.reg_setReg_same _ _ _).trans (congrArg (putFld · 0 5 x) (State.reg_setRf_ne _ _ _ _ _ _ (by decide)))

theorem reg_identitySet_of_ne {a : Nat} (h1 : a ≠ Reg.sysSerialLo) (h2 : a ≠ Reg.sysSerialHi) (h3 : a ≠ Reg.netAddr) :
    s.identitySet.reg a = s.reg a :=
  (State.reg_setRf_ne _ _ _ _ _ _ h3).trans ((State.reg_setReg_ne _ _ _ _ h2).trans (State.reg_setReg_ne _ _ _ _ h1))

theorem reg_identitySet : s.identitySet.reg Reg.sysSerialLo = BitVec.ofNat 32 s.nv.serial ∧
    s.identitySet.reg Reg.sysSerialHi = BitVec.ofNat 32 (s.nv.serial / 2 ^ 32) ∧
    s.identitySet.reg Reg.netAddr = putFld (s.reg Reg.netAddr) 0 10 s.nv.address := by
  refine ⟨?_, ?_, ?_⟩
  · exact (State.reg_setRf_ne _ _ _ _ _ _ (by decide)).trans ((State.reg_setReg_ne _ _ _ _ (by decide)).trans (State.reg_setReg_same _ _ _))
  · exact (State.reg_setRf_ne _ _ _ _ _ _ (by decide)).trans (State.reg_setReg_same _ _ _)
  · exact (State.reg_setReg_same _ _ _).trans (congrArg (putFld · 0 10 s.nv.address)
      ((State.reg_setReg_ne _ _ _ _ (by decide)).trans (State.reg_setReg_ne _ _ _ _ (by decide))))

theorem nv_setReg (a : Nat) (x : Word) : (s.setReg a x).nv = s.nv := rfl

theorem identityShown_eq : s.identityShown = (s.nvReload.identitySet.netSeqTo (s.nvRead.seqBase + 65536)).plcaSet
    ((s.nvReload.identitySet.netSeqTo (s.nvRead.seqBase + 65536)).nv.address % 32) := by
  have hread : s.nvReload.nv = s.nvRead := rfl
  unfold State.identityShown State.identitySet
  simp only [nv_setReg, hread]
  generalize State.netSeqTo _ _ = w
  rfl

theorem identityShown_shown : IdentityShown s s.identityShown s.nvRead := by
  have hframe : RegFrame s { s with nv := s.nvRead } s.nvReload.identitySet := by
    have hreload : RegFrame s { s with nv := s.nvRead } s.nvReload := rfl
    exact ((hreload.setReg _ _).setReg _ _).setReg _ _
  obtain ⟨hlo, hhi, haddr⟩ := reg_identitySet (s := s.nvReload)
  have hregs : ∀ a, a ≠ Reg.sysSerialLo → a ≠ Reg.sysSerialHi → a ≠ Reg.netAddr → s.nvReload.identitySet.reg a = s.reg a :=
    fun a => reg_identitySet_of_ne (s := s.nvReload)
  rw [identityShown_eq]
  generalize s.nvReload.identitySet = w at hframe hlo hhi haddr hregs
  have hbefore : LogAlike s w := ⟨by rw [hframe], hframe.pwr, by rw [hframe], by rw [hframe],
    fun a ha => hregs a (by revert a; decide) (by revert a; decide) (by revert a; decide)⟩
  have hafter := hbefore.netSeqTo (hregs _ (by decide) (by decide) (by decide)) (s.nvRead.seqBase + 65536)
  have hseqframe := hframe.netSeqTo (s.nvRead.seqBase + 65536)
  have hseq := netSeq_netSeqTo (s := w) (s.nvRead.seqBase + 65536)
  have hkept : ∀ a, a ≠ Reg.netSeq → a ≠ Reg.netStat → (w.netSeqTo (s.nvRead.seqBase + 65536)).reg a = w.reg a := fun a h1 h2 =>
    reg_netSeqTo h1 h2 _
  generalize w.netSeqTo (s.nvRead.seqBase + 65536) = x at hafter hseqframe hseq hkept ⊢
  have hnv : x.nv = s.nvRead := by rw [hseqframe]
  rw [hnv]
  have hplca : ∀ a, a ≠ Reg.netpPlca 0 → a ≠ Reg.netpPlca 1 → (x.plcaSet (s.nvRead.address % 32)).reg a = x.reg a := fun a => reg_plcaSet_of_ne
  exact {
    frame := (hseqframe.setReg _ _).setReg _ _
    alike := (hafter.setReg _ (by decide)).setReg _ (by decide)
    serialLo := (hplca _ (by decide) (by decide)).trans ((hkept _ (by decide) (by decide)).trans hlo)
    serialHi := (hplca _ (by decide) (by decide)).trans ((hkept _ (by decide) (by decide)).trans hhi)
    seq := (hplca _ (by decide) (by decide)).trans hseq
    addr := (hplca _ (by decide) (by decide)).trans ((hkept _ (by decide) (by decide)).trans haddr)
    plca := fun p hp => by
      have hplace : ∀ q < 2, Reg.netpPlca q ∉ [Reg.netSeq, Reg.netStat, Reg.sysSerialLo, Reg.sysSerialHi, Reg.netAddr] := by decide
      have hin := hplace p hp
      simp only [List.mem_cons, List.not_mem_nil, or_false, not_or] at hin
      obtain ⟨h1, h2, h3, h4, h5⟩ := hin
      rw [reg_plcaSet hp, hkept _ h1 h2, hregs _ h3 h4 h5]
    regs := fun a ha => by
      simp only [identityRegs, List.mem_cons, List.not_mem_nil, or_false, not_or] at ha
      obtain ⟨h1, h2, h3, h4, h5, h6, h7⟩ := ha
      exact (hplca a h6 h7).trans ((hkept a h4 h5).trans (hregs a h1 h2 h3)) }

/-! ### The faults that step 5 logs (R28, R339, R401, R587) -/

/-- The fault of a reset's cause, in the log of g; `peak` is the peak of a thermal trip, `lost` whether both clocks failed. -/
def causeFault (g : State) (cause peak : Nat) (lost : Bool) : State :=
  match cause with
  | 3 => g.fault 0x0202 0
  | 4 => g.fault 0x0F0A 0
  | 5 => g.fault 0x1002 peak
  | 6 => g.fault (if lost then 0x0103 else 0x0102) 0
  | _ => g

/-- The log of a fault does not depend on the peak of the last trip. -/
theorem fault_log_tripPeak (p : Int) (code param : Nat) :
    (({ s with pwr := { s.pwr with tripPeak := p } } : State).fault code param).log = (s.fault code param).log :=
  fault_log_of_flags code param rfl rfl (fun _ => rfl) rfl rfl

/-- What step 5 logs of the reset, where the calendar holds and no dip is reported. -/
theorem stepFiveFaults_eq (hstop : s.rb Reg.rtcStat 0 = false) (hbat : s.rtc.vbatLow = false)
    (hdip : s.rb Reg.pwrRstcause 3 = false ∨ s.rf Reg.pwrRstcause 0 3 ≠ 1) :
    { s.stepFiveFaults with pwr := { s.stepFiveFaults.pwr with tripPeak := 0 } } =
      { s with log := (causeFault s (s.rf Reg.pwrRstcause 0 3) (ofIntN 32 s.pwr.tripPeak) s.pwr.clockLost).log,
               pwr := { s.pwr with tripPeak := 0 } } := by
  have hfault : ∀ code param, ({ s.fault code param with pwr := { (s.fault code param).pwr with tripPeak := 0 } } : State) =
      { s with log := (s.fault code param).log, pwr := { s.pwr with tripPeak := 0 } } := fun code param => by
    rw [State.fault_eq]
  have htrip : ∀ code param, ({ s with pwr := { s.pwr with tripPeak := 0 } } : State).fault code param =
      { s with log := (s.fault code param).log, pwr := { s.pwr with tripPeak := 0 } } := fun code param => by
    rw [State.fault_eq, fault_log_tripPeak]
  unfold State.stepFiveFaults causeFault
  simp only [hstop, hbat, Bool.false_eq_true, if_false]
  generalize s.rf Reg.pwrRstcause 0 3 = c at hdip ⊢
  match c with
  | 0 => rfl
  | 1 =>
    have hnone : s.rb Reg.pwrRstcause 3 = false := hdip.resolve_right (by simp)
    simp only [hnone, Bool.false_eq_true, if_false]
  | 2 => rfl
  | 3 => exact hfault _ _
  | 4 => exact hfault _ _
  | 5 =>
    simp only [htrip]
  | 6 => exact hfault _ _
  | n + 7 => rfl

theorem causeFault_log_of_alike (h : LogAlike g u) (cause peak : Nat) (lost : Bool) :
    (causeFault u cause peak lost).log = (causeFault g cause peak lost).log := by
  unfold causeFault
  match cause with
  | 0 => exact h.log
  | 1 => exact h.log
  | 2 => exact h.log
  | 3 => exact (h.fault _ _).log
  | 4 => exact (h.fault _ _).log
  | 5 => exact (h.fault _ _).log
  | 6 => exact (h.fault _ _).log
  | n + 7 => exact h.log

/-! ### Step 6: the wait for the pour (R382) -/

/-- The wait with the host as its source. -/
def State.waitsForHost (s : State) : State :=
  ({ (s.setRf Reg.pwrShake 0 4 6).setRb Reg.pwrPour 7 true with pwr := { s.pwr with waitFrom := s.now } } : State).setRf Reg.pwrPour 16 2 0

theorem waitForPour_of_host (hsolo : s.isTwin = false) (hsrc : s.rf Reg.pwrStrap 2 2 % 3 = 0) : s.waitForPour = s.waitsForHost := by
  generalize hu : ({ (s.setRf Reg.pwrShake 0 4 6).setRb Reg.pwrPour 7 true with pwr := { s.pwr with waitFrom := s.now } } : State) = u
  have hreg : ∀ a, a ≠ Reg.pwrShake → a ≠ Reg.pwrPour → u.reg a = s.reg a := fun a h1 h2 => by
    rw [← hu]
    exact (State.reg_setRb_ne _ _ _ _ _ h2).trans (State.reg_setRf_ne _ _ _ _ _ _ h1)
  have hsolo' : u.isTwin = false := by
    rw [← hsolo]
    unfold State.isTwin State.present State.rf
    rw [hreg _ (by decide) (by decide), ← hu]
    rfl
  have hsrc' : u.rf Reg.pwrStrap 2 2 % 3 = 0 := (congrArg (fun x => fld x 2 2 % 3) (hreg _ (by decide) (by decide))).trans hsrc
  have hplace : ¬ (u.rf Reg.pwrStrap 2 2 = 1 ∨ u.rf Reg.pwrStrap 2 2 = 2) := by omega
  have hwaits : s.waitsForHost = u.setRf Reg.pwrPour 16 2 0 := congrArg (fun w => w.setRf Reg.pwrPour 16 2 0) hu
  have hboot : u.bootSource 0 = u.setRf Reg.pwrPour 16 2 0 := by
    unfold State.bootSource
    exact if_neg (by decide)
  rw [hwaits, ← hboot]
  unfold State.waitForPour
  dsimp only [State.setRb, State.setRf, State.setReg] at hu ⊢
  rw [hu, hsolo']
  simp [hplace]

/-- What the wait leaves of PWR_POUR and PWR_SHAKE. -/
theorem waitsForHost_shown : s.waitsForHost.settle.shakeStep = 6 ∧ s.waitsForHost.settle.rb Reg.pwrPour 7 = true ∧
    s.waitsForHost.settle.rf Reg.pwrPour 16 2 = 0 := by
  have hset : ((s.setRf Reg.pwrShake 0 4 6).setRb Reg.pwrPour 7 true).reg Reg.pwrPour = putBit (s.reg Reg.pwrPour) 7 true := by
    rw [State.reg_setRb, if_pos rfl, State.reg_setRf_ne _ _ _ _ _ _ (by decide), putBit]
  have hpour : s.waitsForHost.reg Reg.pwrPour = putFld (putBit (s.reg Reg.pwrPour) 7 true) 16 2 0 := by
    rw [State.waitsForHost, State.reg_setRf, if_pos rfl]
    exact congrArg (putFld · 16 2 0) hset
  have hmoved : ((s.setRf Reg.pwrShake 0 4 6).setRb Reg.pwrPour 7 true).reg Reg.pwrShake = putFld (s.reg Reg.pwrShake) 0 4 6 := by
    rw [State.reg_setRb_ne _ _ _ _ _ (by decide), State.reg_setRf, if_pos rfl]
  have hshake : s.waitsForHost.reg Reg.pwrShake = putFld (s.reg Reg.pwrShake) 0 4 6 := by
    rw [State.waitsForHost, State.reg_setRf_ne _ _ _ _ _ _ (by decide)]
    exact hmoved
  refine ⟨?_, ?_, ?_⟩
  · rw [shakeStep_settle, State.shakeStep, State.rf, hshake]
    exact fld_putFld _ 0 4 6 (by decide)
  · rw [State.rb_settle (by decide), State.rb, hpour, bitOf_putFld_apart _ _ _ _ _ (by decide) (by decide)]
    exact bitOf_putBit _ 7 true (by decide)
  · rw [State.rf_settle (by decide), State.rf, hpour]
    exact fld_putFld _ 16 2 0 (by decide)

theorem reg_waitsForHost {a : Nat} (h1 : a ≠ Reg.pwrShake) (h2 : a ≠ Reg.pwrPour) : s.waitsForHost.reg a = s.reg a :=
  (State.reg_setRf_ne _ _ _ _ _ _ h2).trans ((State.reg_setRb_ne _ _ _ _ _ h2).trans (State.reg_setRf_ne _ _ _ _ _ _ h1))

/-! ### The self-test as a command (R383, R384) -/

/-- What step 5 leaves: u over s, whose pages read nv, of a reset with a cause. -/
structure IdentityLoaded (s u : State) (nv : NvSt) : Prop where
  frame : u = { s with regs := u.regs, mem := s.ramCleared.mem, log := u.log, od := u.od, nv := nv, pwr := { s.pwr with tripPeak := 0 },
                       cen := cenNoted s u }
  log : u.log = (causeFault (s.netSeqTo (nv.seqBase + 65536)) (s.rf Reg.pwrRstcause 0 3) (ofIntN 32 s.pwr.tripPeak) s.pwr.clockLost).log
  heat : u.od.heat = nv.heat.getD 0
  hdig : u.od.hdig = nv.hdig.getD 0
  sdig : u.od.sdig = nv.sdig.getD 0
  serialLo : u.reg Reg.sysSerialLo = BitVec.ofNat 32 nv.serial
  serialHi : u.reg Reg.sysSerialHi = BitVec.ofNat 32 (nv.serial / 2 ^ 32)
  seq : u.reg Reg.netSeq = BitVec.ofNat 32 (min 0xFFFFFFFF (nv.seqBase + 65536))
  addr : u.reg Reg.netAddr = putFld (s.reg Reg.netAddr) 0 10 nv.address
  plca : ∀ p < 2, u.reg (Reg.netpPlca p) = putFld (s.reg (Reg.netpPlca p)) 0 5 (nv.address % 32)
  regs : ∀ a, a ∉ identityRegs → u.reg a = s.reg a

theorem identityLoad_loaded (hstop : s.rb Reg.rtcStat 0 = false) (hbat : s.rtc.vbatLow = false)
    (hdip : s.rb Reg.pwrRstcause 3 = false ∨ s.rf Reg.pwrRstcause 0 3 ≠ 1) : IdentityLoaded s s.ramCleared.identityLoad s.nvRead := by
  have hshown := identityShown_shown (s := s.ramCleared)
  rw [nvRead_ramCleared] at hshown
  rw [identityLoad_eq]
  generalize s.ramCleared.identityShown = x at hshown ⊢
  obtain ⟨hframe, halike, hlo, hhi, hseq, haddr, hplca, hregs⟩ := hshown
  have hcleared : LogAlike s s.ramCleared := ⟨rfl, rfl, rfl, rfl, fun _ _ => rfl⟩
  have halike' : LogAlike (s.netSeqTo (s.nvRead.seqBase + 65536)) x.identityHeld :=
    (hcleared.netSeqTo rfl _).trans (halike.trans ⟨rfl, rfl, rfl, rfl, fun _ _ => rfl⟩)
  have hpwr : x.identityHeld.pwr = s.pwr := hframe.pwr
  have hreg : ∀ a, a ∉ identityRegs → x.identityHeld.reg a = s.reg a := hregs
  have hcause : x.identityHeld.rf Reg.pwrRstcause 0 3 = s.rf Reg.pwrRstcause 0 3 := congrArg (fld · 0 3) (hreg _ (by decide))
  have hnv : x.nv = s.nvRead := by rw [hframe]
  have hfaults := stepFiveFaults_eq (s := x.identityHeld) ((congrArg (bitOf · 0) (hreg _ (by decide))).trans hstop)
    (show x.rtc.vbatLow = false by rw [hframe]; exact hbat)
    (hdip.imp (congrArg (bitOf · 3) (hreg _ (by decide))).trans fun h => hcause.trans_ne h)
  rw [hfaults, hcause, hpwr, causeFault_log_of_alike halike']
  exact {
    frame := by rw [State.identityHeld, hframe]; rfl
    log := rfl
    heat := by rw [← hnv]; rfl
    hdig := by rw [← hnv]; rfl
    sdig := by rw [← hnv]; rfl
    serialLo := hlo
    serialHi := hhi
    seq := hseq
    addr := haddr
    plca := hplca
    regs := hregs }

theorem exec_selfTest_good (hfree : s.resetFree = true) (hstep : s.shakeStep = 4) (hgood : s.rb Reg.pwrStat 7 = false) :
    exec (.selfTest true true) s = s.ramCleared.identityLoad.waitForPour.done := by
  show execSelfTest true true s = _
  rw [execSelfTest, if_neg (by simp [hfree, hstep, hgood]), if_neg (by decide)]
  rfl

theorem answers_selfTest_good (hfree : s.resetFree = true) (hstep : s.shakeStep = 4) (hgood : s.rb Reg.pwrStat 7 = false)
    (hsolo : s.isTwin = false) (hsrc : s.rf Reg.pwrStrap 2 2 % 3 = 0) (hstop : s.rb Reg.rtcStat 0 = false) (hbat : s.rtc.vbatLow = false)
    (hdip : s.rb Reg.pwrRstcause 3 = false ∨ s.rf Reg.pwrRstcause 0 3 ≠ 1) :
    ∃ t, exec (.selfTest true true) s = .next t ∧
      t = { s with regs := t.regs, mem := t.mem, log := t.log, od := t.od, nv := s.nvRead,
                   pwr := { s.pwr with waitFrom := s.now, tripPeak := 0 }, cen := cenNoted s t } ∧
      t.shakeStep = 6 ∧ t.rb Reg.pwrPour 7 = true ∧ t.rf Reg.pwrPour 16 2 = 0 ∧
      (∀ a, t.byte a = s.ramCleared.byte a) ∧
      t.reg Reg.sysSerialLo = BitVec.ofNat 32 s.nvRead.serial ∧ t.reg Reg.sysSerialHi = BitVec.ofNat 32 (s.nvRead.serial / 2 ^ 32) ∧
      t.reg Reg.netSeq = BitVec.ofNat 32 (min 0xFFFFFFFF (s.nvRead.seqBase + 65536)) ∧ t.netAddr = s.nvRead.address % 1024 ∧
      (∀ p, p < 2 → t.rf (Reg.netpPlca p) 0 5 = s.nvRead.address % 32 ∧ t.reg (Reg.netpPlca p) &&& 0xFFFFFFE0 = s.reg (Reg.netpPlca p) &&& 0xFFFFFFE0) ∧
      t.od.heat = s.nvRead.heat.getD 0 ∧ t.od.hdig = s.nvRead.hdig.getD 0 ∧ t.od.sdig = s.nvRead.sdig.getD 0 ∧
      t.log = (causeFault (s.netSeqTo (s.nvRead.seqBase + 65536)) (s.rf Reg.pwrRstcause 0 3) (ofIntN 32 s.pwr.tripPeak) s.pwr.clockLost).log ∧
      regsKept s t (Reg.pwrShake :: Reg.pwrPour :: identityRegs) ∧ eventsFired s t [] := by
  have hloaded := identityLoad_loaded hstop hbat hdip
  have hexec := exec_selfTest_good hfree hstep hgood
  generalize s.ramCleared.identityLoad = x at hloaded hexec
  obtain ⟨hframe, hlog, hheat, hhdig, hsdig, hlo, hhi, hseq, haddr, hplca, hregs⟩ := hloaded
  have hsolo' : x.isTwin = false := by
    rw [← hsolo]
    unfold State.isTwin State.present State.rf
    rw [hregs _ (by decide), hframe]
  rw [waitForPour_of_host hsolo' ((congrArg (fun y => fld y 2 2 % 3) (hregs _ (by decide))).trans hsrc)] at hexec
  have hkeep : ∀ a, a ≠ Reg.pwrShake → a ≠ Reg.pwrPour → a ∉ latchRegs → x.waitsForHost.settle.reg a = x.reg a := fun a h1 h2 h3 =>
    (State.reg_settle _ _ h3).trans (reg_waitsForHost h1 h2)
  have hend : RegFrame s { s with mem := s.ramCleared.mem, log := x.log, od := x.od, nv := s.nvRead, pwr := { s.pwr with waitFrom := s.now, tripPeak := 0 } }
      x.waitsForHost := by
    unfold RegFrame State.waitsForHost
    rw [hframe]
    rfl
  obtain ⟨heq, hkept, hfired⟩ := answered_of_frame (l := Reg.pwrShake :: Reg.pwrPour :: identityRegs) hend rfl (fun a ha => by
    obtain ⟨h1, h2, h3⟩ : a ≠ Reg.pwrShake ∧ a ≠ Reg.pwrPour ∧ a ∉ identityRegs := by simpa using ha
    exact (reg_waitsForHost h1 h2).trans (hregs a h3)) (by decide)
  obtain ⟨hstep', hwait, hsource⟩ := waitsForHost_shown (s := x)
  replace hexec : exec (.selfTest true true) s = .next x.waitsForHost.settle := hexec
  generalize x.waitsForHost.settle = t at hexec hkeep heq hkept hfired hstep' hwait hsource
  have hod : t.od = x.od := by rw [heq]
  have hmem : t.mem = s.ramCleared.mem := by rw [heq]
  have htlog : t.log = x.log := by rw [heq]
  refine ⟨t, hexec, ?_, hstep', hwait, hsource, fun a => State.byte_congr hmem a, (hkeep _ (by decide) (by decide) (by decide)).trans hlo,
    (hkeep _ (by decide) (by decide) (by decide)).trans hhi, (hkeep _ (by decide) (by decide) (by decide)).trans hseq, ?_, fun p hp => ?_,
    hod ▸ hheat, hod ▸ hhdig, hod ▸ hsdig, htlog.trans hlog, hkept, hfired⟩
  · rw [hod, hmem, htlog]
    exact heq
  · rw [State.netAddr, State.rf, hkeep _ (by decide) (by decide) (by decide), haddr]
    exact fld_putFld _ 0 10 _ (by decide)
  · have hplace : ∀ q < 2, Reg.netpPlca q ≠ Reg.pwrShake ∧ Reg.netpPlca q ≠ Reg.pwrPour ∧ Reg.netpPlca q ∉ latchRegs := by decide
    obtain ⟨h1, h2, h3⟩ := hplace p hp
    rw [State.rf, hkeep _ h1 h2 h3, hplca p hp]
    refine ⟨(fld_putFld _ 0 5 _ (by decide)).trans (Nat.mod_mod _ _), and_putFld _ _ _ (by decide)⟩

end Sys2Proof.Machine
end

section
/-! PROOFS. What the loads of shakeout leave of the store, the dictionary, the runtime and the watchdog (R383, R390-R393). -/

namespace Sys2Proof.Machine

variable {s u v : State}

/-! ### The view -/

/-- What entry to the runtime keeps through its loads: what has been read of the store, the heat, whether requests are served, the
store's transaction, the runtime, and whether the watchdog counts. -/
def State.entering (s : State) : NvSt × Nat × Bool × Option KnbCommit × Bool × Bool :=
  (s.nv, s.od.heat, s.od.serving, s.knb.commit, s.pwr.rtIn, s.rb Reg.pwrWdog 16)

theorem entering_eq_iff : u.entering = s.entering ↔ u.nv = s.nv ∧ u.od.heat = s.od.heat ∧ u.od.serving = s.od.serving ∧
    u.knb.commit = s.knb.commit ∧ u.pwr.rtIn = s.pwr.rtIn ∧ u.rb Reg.pwrWdog 16 = s.rb Reg.pwrWdog 16 := by
  simp only [State.entering, Prod.mk.injEq]

theorem entering_of_storeFrame (h : StoreFrame s u) (hreg : u.reg Reg.pwrWdog = s.reg Reg.pwrWdog) : u.entering = s.entering :=
  entering_eq_iff.mpr ⟨by rw [h], by rw [h], by rw [h], by rw [h], by rw [h], congrArg (bitOf · 16) hreg⟩

section
variable {a : Nat} (ha : 0x60010018 < a)
include ha

theorem entering_setReg (x : Word) : (s.setReg a x).entering = s.entering :=
  entering_of_storeFrame rfl (State.reg_setReg_ne _ _ _ _ ha.ne)

theorem entering_setRf (lo w x : Nat) : (s.setRf a lo w x).entering = s.entering := entering_setReg ha _

theorem entering_setRb (i : Nat) (b : Bool) : (s.setRb a i b).entering = s.entering := entering_setReg ha _

end

theorem entering_setWord (a : Nat) (x : Word) : (s.setWord a x).entering = s.entering :=
  entering_of_storeFrame (storeFrame_setWord s a x) (State.reg_congr (by simp) _)

theorem entering_fire (n : Nat) : (s.fire n).entering = s.entering :=
  entering_of_storeFrame (storeFrame_fire s n) (State.reg_fire _ _ _ (by decide))

theorem entering_fault (code param : Nat) : (s.fault code param).entering = s.entering := by
  rw [State.fault_eq]
  rfl

theorem entering_happen (src param : Nat) : (s.happen src param).entering = s.entering := by
  rw [State.happen_eq]
  rfl

theorem entering_ringOffer (n : Nat) (e : List Byte) : (s.ringOffer n e).entering = s.entering := by
  have hring : ∀ m, Reg.pwrWdog ∉ ringRegs m := fun m h => by
    simp only [ringRegs, List.mem_cons, List.not_mem_nil, or_false] at h
    unfold Reg.pwrWdog Reg.rngHead Reg.rngTail Reg.rngDrop Reg.rngDropf at h
    omega
  exact entering_eq_iff.mpr ⟨by simp, by simp, by simp, by simp, by simp,
    congrArg (bitOf · 16) (reg_ringOffer e (hring n) (by decide) (by decide))⟩

/-! ### Step 8 -/

theorem entering_runtimeLoad : s.runtimeLoad.entering = s.entering :=
  entering_of_storeFrame (storeFrame_setBytes s _ _) (State.reg_congr (State.setBytes_regs s _ _) _)

theorem entering_pwmBegin (n : Nat) : (s.pwmBegin n).entering = s.entering := rfl

theorem entering_actShakeSafe : s.actShakeSafe.entering = s.entering := by
  unfold State.actShakeSafe
  refine forEach_view State.entering fun n _ v => ?_
  extract_lets a w
  have hw : w.entering = v.entering := rfl
  exact (ite_view State.entering (entering_pwmBegin n) rfl).trans hw

theorem entering_ringEnable (n e p : Nat) : (s.ringEnable n e p).entering = s.entering := by
  have hregs : 0x60010018 < Reg.rngBase n ∧ 0x60010018 < Reg.rngHead n ∧ 0x60010018 < Reg.rngTail n ∧ 0x60010018 < Reg.rngCfg n := by
    unfold Reg.rngBase Reg.rngHead Reg.rngTail Reg.rngCfg
    omega
  obtain ⟨hbase, hhead, htail, hcfg⟩ := hregs
  unfold State.ringEnable
  extract_lets depth f base placed emptied res ne res' fe
  have hemptied : emptied.entering = s.entering := (entering_setReg htail _).trans ((entering_setReg hhead _).trans (entering_setReg hbase _))
  have hdrawn : res'.2.entering = emptied.entering := rfl
  exact (entering_setReg hcfg _).trans (hdrawn.trans hemptied)

theorem entering_ringSetup (n : Nat) : (s.ringSetup n).entering = s.entering := by
  unfold State.ringSetup
  split
  · exact entering_ringEnable n _ _
  · exact (entering_ringEnable n _ _).trans rfl

/-- The header that is rewritten is no page that the runtime has read (R507). -/
theorem entering_knabModeRewrite (hidle : s.knb.commit = none) : s.knabModeRewrite.entering = s.entering := by
  have hload : ∀ w : State, w.knabMapLoad.entering = w.entering := fun w => by
    have hcommit : w.knabMapLoad.knb.commit = w.knb.commit := by
      unfold State.knabMapLoad
      split <;> rfl
    rw [entering_eq_iff, hcommit, knabMapLoad_rest]
    exact ⟨rfl, rfl, rfl, rfl, rfl, rfl⟩
  have hputs : ∀ (w : State) l, (w.knabPuts l).entering = w.entering := fun w l =>
    entering_of_storeFrame (storeFrame_knabPuts w l) (reg_knabPuts w l _)
  have hsteps : ∀ image, (s.knabSteps [(0, image)]).entering = s.entering := fun image => by
    unfold State.knabSteps
    extract_lets written marked mapped counted
    have hwritten : written.entering = s.entering := (hputs _ _).trans ((hputs _ _).trans (hputs _ _))
    have hmarked : marked.entering = s.entering := (entering_of_storeFrame (storeFrame_knabPut _ _ _) (reg_knabPut _ _ _ _)).trans hwritten
    have hmapped : mapped.entering = s.entering := ite_view State.entering ((hload _).trans hmarked) hmarked
    have hcounted : counted.entering = s.entering := (entering_setReg (by decide) _).trans hmapped
    exact (congrArg State.entering (if_neg (by simp))).trans hcounted
  unfold State.knabModeRewrite
  refine ite_view State.entering ((entering_fault _ _).trans ?_) rfl
  rw [State.knabTransact, List.isEmpty_cons, if_neg Bool.false_ne_true, knabSettle_idle hidle]
  exact (entering_fire 27).trans (hsteps _)

section
variable (n : Nat)

theorem entering_rtcFire : (s.rtcFire n).entering = s.entering := ite_view State.entering (entering_fire n) rfl

theorem entering_rtcFault (param : Nat) : (s.rtcFault n param).entering = s.entering := ite_view State.entering (entering_fault n param) rfl

theorem entering_rtcEntry (b : Nat) : (s.rtcEntry n b).entering = s.entering := ite_view State.entering (entering_ringOffer 23 _) rfl

theorem entering_rtcSetTime : (s.rtcSetTime n).entering = s.entering := by
  unfold State.rtcSetTime
  generalize fieldsOf n = l
  have hset : (s.setRtcFields l).entering = s.entering :=
    forEach_view State.entering fun i _ _ => entering_setReg (by unfold Reg.rtcSec; omega) _
  exact Eq.trans rfl hset

end

theorem entering_rtcMove (n : Int) : (s.rtcMove n).entering = s.entering := by
  unfold State.rtcMove
  extract_lets t
  refine ite_view State.entering (entering_rtcSetTime _) (ite_view State.entering ?_ (entering_rtcSetTime _))
  exact (entering_rtcEntry _ _).trans ((entering_rtcFault _ _).trans ((entering_rtcFire _).trans ((entering_setRb (by decide) _ _).trans
    (entering_rtcSetTime _))))

theorem entering_rtcDoRelease : s.rtcDoRelease.entering = s.entering := by
  unfold State.rtcDoRelease
  refine ite_view State.entering rfl (ite_view State.entering ?_ ?_)
  · extract_lets res p drawn shown clock set
    have hshown : shown.entering = s.entering :=
      (entering_setRb (by decide) _ _).trans ((entering_setRb (by decide) _ _).trans ((entering_setRb (by decide) _ _).trans rfl))
    have hset : set.entering = s.entering := hshown
    exact (entering_rtcEntry _ _).trans hset
  · exact (entering_rtcEntry _ _).trans ((entering_rtcFault _ _).trans ((entering_rtcFire _).trans (entering_setRb (by decide) _ _)))

theorem entering_rtcResume : s.rtcResume.entering = s.entering := by
  unfold State.rtcResume
  refine ite_view State.entering rfl ?_
  extract_lets n moved released
  have hshow : ∀ w : State, w.rtcFieldsShow.entering = w.entering := fun _ => rfl
  have hmoved : moved.entering = s.entering := ite_view State.entering ((hshow _).trans (entering_rtcMove _)) rfl
  have hreleased : released.entering = s.entering := entering_rtcDoRelease.trans hmoved
  exact ite_view State.entering hreleased ((entering_rtcFault _ _).trans hreleased)

theorem entering_imgReject (k cause : Nat) : (s.imgReject k cause).entering = s.entering := by
  have hset : (s.setPour k {}).entering = s.entering := ite_view State.entering rfl rfl
  have hemptied : (s.pourEmpty k).entering = s.entering := (entering_setRf (by decide) _ _ _).trans ((entering_setRf (by decide) _ _ _).trans hset)
  unfold State.imgReject
  extract_lets shown power noted
  have hshown : shown.entering = s.entering := (entering_setRf (by decide) _ _ _).trans hemptied
  have hnoted : noted.entering = s.entering := hshown
  exact (entering_fault _ _).trans ((entering_happen _ _).trans ((entering_fire _).trans hnoted))

theorem entering_configReject : s.configReject.entering = s.entering := by
  unfold State.configReject
  generalize hw : s.imgReject 1 9 = w
  have hreject : w.entering = s.entering := by
    rw [← hw]
    exact entering_imgReject 1 9
  exact Eq.trans rfl hreject

theorem entering_configLoad : s.configLoad.2.entering = s.entering := by
  unfold State.configLoad
  extract_lets body
  split
  · exact entering_configReject
  · split
    · exact entering_configReject
    · rfl

/-! ### Steps 9 and 10: overlay and registers (R391, R392) -/

theorem entering_odSet (id : Nat) (x : OdVal) : (s.odSet id x).entering = s.entering := rfl

theorem entering_overlay (img : Option (List (Nat × OdVal))) : (s.overlay img).entering = s.entering := by
  unfold State.overlay
  extract_lets es l w
  have hw : w.entering = s.entering :=
    foldl_view State.entering (fun (s : State) (p : Nat × OdVal) => s.odSet p.1 p.2) (fun _ _ => entering_odSet _ _) l
  exact (entering_odSet _ _).trans hw

theorem entering_loadShdnSel : s.loadShdnSel.entering = s.entering := entering_setReg (by decide) _

theorem entering_shdnDoLock : s.shdnDoLock.entering = s.entering := by
  have hset : (s.setRb Reg.fanShdnCtrl 0 true).entering = s.entering := entering_setRb (by decide) _ _
  unfold State.shdnDoLock
  exact ite_view State.entering rfl (ite_view State.entering ((entering_fault _ _).trans hset) hset)

theorem entering_loadSupervise : s.loadSupervise.entering = s.entering := entering_setReg (by decide) _

theorem entering_loadTwn : s.loadTwn.entering = s.entering :=
  (entering_setReg (by decide) _).trans ((entering_setReg (by decide) _).trans ((entering_setRb (by decide) _ _).trans (entering_setReg (by decide) _)))

/-- Of PWR_WDOG the runtime writes TIMEOUT alone. -/
theorem entering_loadPwr : s.loadPwr.entering = s.entering := by
  have htimeout : (s.setRf Reg.pwrWdog 0 14 (s.odNat 0x3F 0 0xB)).entering = s.entering := by
    refine entering_eq_iff.mpr ⟨rfl, rfl, rfl, rfl, rfl, ?_⟩
    rw [State.rb, State.reg_setRf, if_pos rfl]
    exact bitOf_putFld_apart _ 0 14 _ 16 (by decide) (by decide)
  refine Eq.trans (entering_of_storeFrame ?_ ?_) htimeout
  · exact (storeFrame_setReg _ _ _).trans (storeFrame_setReg _ _ _)
  · exact (State.reg_setReg_ne _ _ _ _ (by decide)).trans (State.reg_setRf_ne _ _ _ _ _ _ (by decide))

theorem entering_rtcMeasBegin : s.rtcMeasBegin.entering = s.entering := by
  have hset : ∀ x, (s.setReg Reg.rtcMeasCfg x).entering = s.entering := fun x => entering_setReg (by decide) x
  unfold State.rtcMeasBegin
  refine ite_view State.entering rfl ?_
  unfold State.rtcMeasWrite
  exact ite_view State.entering (Eq.trans rfl (hset _)) (hset _)

theorem entering_loadRtcMember (m : Nat) : (s.loadRtcMember m).entering = s.entering := by
  have hterm : ∀ (w : State) x, (w.rtcSetTerm x).entering = w.entering := fun w x =>
    Eq.trans rfl (entering_setRf (s := w) (a := Reg.rtcTcomp) (by decide) 0 16 (ofIntN 16 x))
  have hset : ∀ on, (s.setRb Reg.rtcCtrl 3 on).entering = s.entering := fun on => entering_setRb (by decide) _ _
  unfold State.loadRtcMember
  refine ite_view State.entering (entering_setReg (by decide) _) (ite_view State.entering ?_ (ite_view State.entering
    (entering_setReg (by decide) _) (ite_view State.entering (entering_setReg (by decide) _) (ite_view State.entering entering_rtcMeasBegin rfl))))
  exact ite_view State.entering (hset _) ((hterm _ _).trans (hset _))

theorem entering_startRtc : s.startRtc.entering = s.entering :=
  entering_rtcMeasBegin.trans (forEach_view State.entering fun m _ _ => entering_loadRtcMember m)

theorem entering_loadLockcfg : s.loadLockcfg.entering = s.entering := entering_setReg (by decide) _

theorem entering_zonLoadPins : s.zonLoadPins.entering = s.entering := by
  unfold State.zonLoadPins
  refine forEach_view State.entering fun p _ v => ?_
  extract_lets src old new w
  have hw : w.entering = v.entering := entering_setReg (by unfold Reg.zonPinCfg; omega) _
  exact ite_view State.entering hw (Eq.trans rfl hw)

theorem entering_netStart : s.netStart.entering = s.entering := by
  have hnext : ∀ w : State, w.netPhyNext.entering = w.entering := fun w => by
    unfold State.netPhyNext
    split
    · exact entering_setReg (by decide) _
    · rfl
  exact (hnext _).trans rfl

end Sys2Proof.Machine
end

section
/-! PROOFS. The starts of step 10 (R270, R392, R393): the loads of a function's set. -/

namespace Sys2Proof.Machine

variable {s u v : State}

/-! ### What a function loads (R270 step 3) -/

theorem entering_loadDec (d : Nat) : (s.loadDec d).entering = s.entering := by
  simp (disch := omega) only [State.loadDec, Reg.decCfg, Reg.decGain, Reg.decOffset, Reg.cmpLo, Reg.cmpMid, Reg.cmpHi, Reg.cmpHyst,
    entering_setReg]

theorem entering_loadEntry (i : Nat) : (s.loadEntry i).entering = s.entering := by
  simp (disch := omega) only [State.loadEntry, Reg.acqSeqW0, Reg.acqSeqW1, entering_setReg]

theorem entering_loadAcq : s.loadAcq.entering = s.entering := by
  unfold State.loadAcq
  extract_lets p sampled lengths phased paired entries decs
  have hsampled : sampled.entering = s.entering := (entering_setRf (by decide) _ _ _).trans (entering_setRf (by decide) _ _ _)
  have hlengths : lengths.entering = s.entering := (entering_setReg (by decide) _).trans ((entering_setReg (by decide) _).trans hsampled)
  have hphased : phased.entering = s.entering := (entering_setReg (by decide) _).trans hlengths
  have hpaired : paired.entering = s.entering := (entering_setReg (by decide) _).trans hphased
  have hentries : entries.entering = s.entering := (forEach_view State.entering fun i _ _ => entering_loadEntry i).trans hpaired
  have hdecs : decs.entering = s.entering := (forEach_view State.entering fun d _ _ => entering_loadDec d).trans hentries
  refine Eq.trans (forEach_view State.entering fun t _ _ => forEach_view State.entering fun q _ _ => ?_) hdecs
  exact entering_setReg (by unfold Reg.acqLin; omega) _

theorem entering_coefPut (n off : Nat) (x : Word) : (s.coefPut n off x).entering = s.entering := entering_setWord _ _

theorem entering_loadSlot (n : Nat) : (s.loadSlot n).entering = s.entering := by
  have hoff : ∀ w : State, (w.slotOff n).entering = w.entering := fun w => ite_view State.entering rfl (entering_setWord _ _)
  unfold State.loadSlot
  extract_lets v i sh w0 w1 w2 w3 w4 w5
  have h0 : w0.entering = s.entering := entering_coefPut _ _ _
  have h1 : w1.entering = s.entering := (entering_coefPut _ _ _).trans ((entering_coefPut _ _ _).trans h0)
  have h2 : w2.entering = s.entering :=
    (forEach_view State.entering fun k _ _ => (entering_coefPut _ _ _).trans (entering_coefPut _ _ _)).trans h1
  have h3 : w3.entering = s.entering := (forEach_view State.entering fun k _ _ => entering_coefPut _ _ _).trans h2
  have h5 : w5.entering = s.entering := (entering_coefPut _ _ _).trans ((entering_coefPut _ _ _).trans h3)
  exact (hoff _).trans ((forEach_view State.entering fun k _ _ => entering_coefPut _ _ _).trans h5)

theorem entering_loadSlots (f : Nat) : (s.loadSlots f).entering = s.entering := by
  unfold State.loadSlots
  extract_lets moving own
  exact Eq.trans rfl (forEach_view State.entering (l := own) fun n _ v => entering_loadSlot (s := v) n)

theorem entering_loadAct (n : Nat) : (s.loadAct n).entering = s.entering := by
  have hwords : (s.loadActWords n).entering = s.entering := by
    simp (disch := omega) only [State.loadActWords, Reg.actnCfg, Reg.actnSafecfg, Reg.actnSafeval, Reg.actnFb, entering_setReg]
  unfold State.loadAct
  extract_lets v w
  have hp1 : ∀ (y : State) x, (y.setReg (Reg.actnP1 n) x).entering = y.entering := fun y x => entering_setReg (by unfold Reg.actnP1; omega) x
  have hp2 : ∀ (y : State) x, (y.setReg (Reg.actnP2 n) x).entering = y.entering := fun y x => entering_setReg (by unfold Reg.actnP2; omega) x
  have hp3 : ∀ (y : State) x, (y.setReg (Reg.actnP3 n) x).entering = y.entering := fun y x => entering_setReg (by unfold Reg.actnP3; omega) x
  have hw : w.entering = s.entering := hwords
  refine Eq.trans ?_ hw
  split
  · exact hp1 _ _
  · exact (hp3 _ _).trans ((hp2 _ _).trans (hp1 _ _))
  · exact (hp2 _ _).trans (hp1 _ _)
  · exact (hp2 _ _).trans (hp1 _ _)
  · rfl

theorem entering_loadFan (f : Nat) : (s.loadFan f).entering = s.entering := by
  unfold State.loadFan
  extract_lets v ch w1 w2 w3 w4 w5
  have h1 : w1.entering = s.entering := entering_setReg (by unfold Reg.fanfCfg; omega) _
  have h2 : w2.entering = s.entering := (entering_setReg (by unfold Reg.fanfMeas; omega) _).trans h1
  have h3 : w3.entering = s.entering :=
    (entering_setReg (by unfold Reg.fanfIstall; omega) _).trans ((entering_setReg (by unfold Reg.fanfIlo; omega) _).trans h2)
  have h4 : w4.entering = s.entering :=
    (entering_setReg (by unfold Reg.fanfAutoch; omega) _).trans ((entering_setReg (by unfold Reg.fanfDemen; omega) _).trans h3)
  have h5 : w5.entering = s.entering := (forEach_view State.entering fun i _ _ =>
    (entering_setReg (by unfold Reg.fanTabOut; omega) _).trans (entering_setReg (by unfold Reg.fanTabDem; omega) _)).trans h4
  exact (forEach_view State.entering fun i _ _ => entering_setReg (by unfold Reg.fanAutopt; omega) _).trans h5

theorem entering_loadKpd : s.loadKpd.entering = s.entering := by
  unfold State.loadKpd
  extract_lets v w1 w2
  have h1 : w1.entering = s.entering := entering_setReg (by decide) _
  have h2 : w2.entering = s.entering := (entering_setReg (by decide) _).trans h1
  have hseq : ∀ w : State, w.loadSequence.entering = w.entering := fun w => (entering_setRf (by decide) _ _ _).trans rfl
  exact (hseq _).trans (entering_loadLockcfg.trans h2)

theorem entering_loadEnc (n : Nat) : (s.loadEnc n).entering = s.entering := entering_setReg (by unfold Reg.encCfg; omega) _

theorem entering_loadSbus : s.loadSbus.entering = s.entering :=
  (entering_setReg (by unfold Reg.sbCfg; omega) _).trans
    (forEach_view State.entering fun b _ _ => entering_setReg (by unfold Reg.sbCfg; omega) _)

theorem entering_zoneLoad (z : Nat) : (s.zoneLoad z).entering = s.entering := by
  unfold State.zoneLoad
  extract_lets entry mapped quad a0 a1 fan pin
  have hmapped : mapped.entering = s.entering := forEach_view State.entering fun j _ _ => entering_setReg (by unfold Reg.zonSlotmap; omega) _
  have h0 : a0.entering = s.entering := (entering_setReg (by unfold Reg.zonActmap; omega) _).trans hmapped
  have h1 : a1.entering = s.entering := (entering_setReg (by unfold Reg.zonActmap; omega) _).trans h0
  have hfan : fan.entering = s.entering := (entering_setReg (by unfold Reg.zonFanlmap; omega) _).trans h1
  have hpin : pin.entering = s.entering := (entering_setReg (by unfold Reg.zonPinmap; omega) _).trans hfan
  exact (entering_setReg (by unfold Reg.zonPinmap; omega) _).trans hpin

theorem entering_zoneSp (i : Nat) (x : Int) : (s.zoneSp i x).entering = s.entering := by
  have hword := entering_setWord (s := s) (spAddr i) (ofInt32 x)
  exact Eq.trans rfl hword

theorem entering_zoneInit (z : Nat) : (s.zoneInit z).entering = s.entering := by
  unfold State.zoneInit
  extract_lets mode t h limT limH tsp rsp zone set tReg rReg put
  have hset : set.entering = s.entering := rfl
  have hput : put.entering = s.entering := ite_view State.entering ((entering_zoneSp _ _).trans hset) hset
  exact ite_view State.entering ((entering_zoneSp _ _).trans hput) hput

theorem entering_loadSet (f : Nat) : (s.loadSet f).entering = s.entering := by
  unfold State.loadSet
  extract_lets w
  have hw : w.entering = s.entering := entering_loadSlots f
  refine Eq.trans ?_ hw
  refine ite_view State.entering entering_loadAcq (ite_view State.entering ?_ (ite_view State.entering entering_loadKpd
    (ite_view State.entering ?_ (ite_view State.entering entering_loadSbus (ite_view State.entering ?_ (ite_view State.entering
      (entering_loadAct _) (ite_view State.entering (entering_loadFan _) rfl)))))))
  · exact forEach_view State.entering fun k _ _ => entering_setReg (by unfold Reg.cenPeriod; omega) _
  · exact forEach_view State.entering fun n _ _ => entering_loadEnc n
  · exact ite_view State.entering (entering_zoneLoad _) ((entering_zoneInit _).trans (entering_zoneLoad _))

theorem entering_fnLoad (f : Nat) : (s.fnLoad f).entering = s.entering := by
  unfold State.fnLoad
  extract_lets t
  have ht : t.entering = s.entering := (entering_loadSet f).trans rfl
  exact Eq.trans rfl ht

/-! ### A start (R270 steps 2 and 3, R392, R393) -/

theorem entering_admitWith (ns classes : List Nat) : (s.admitWith ns classes).entering = s.entering := by
  have hload : ∀ (w : State) k x, (w.setReg (Reg.cenLoad k) x).entering = w.entering := fun w k x =>
    entering_setReg (by unfold Reg.cenLoad; omega) x
  unfold State.admitWith
  refine ite_view State.entering ?_ ?_
  · extract_lets res l drawn res' w drawn' loaded
    have hdrawn : drawn'.entering = s.entering := rfl
    have hloaded : loaded.entering = drawn'.entering := forEach_view State.entering fun k _ v => by
      dsimp only
      exact hload _ k _
    exact (entering_setReg (by decide) _).trans (hloaded.trans hdrawn)
  · exact (entering_setReg (by decide) _).trans (forEach_view State.entering fun k _ _ => hload _ _ _)

theorem entering_fnValidate (f : Nat) (shake : Bool) : (s.fnValidate f shake).2.entering = s.entering := by
  unfold State.fnValidate
  extract_lets t c r
  split
  · rfl
  · split
    · exact entering_admitWith _ _
    · rfl

theorem entering_shakeStart (f : Nat) : (s.shakeStart f).entering = s.entering := by
  have hvalid := entering_fnValidate (s := s) f true
  unfold State.shakeStart
  generalize s.fnValidate f true = res at hvalid ⊢
  dsimp only
  refine ite_view State.entering ?_ ?_
  · have hloaded : (res.2.fnLoad f).entering = s.entering := (entering_fnLoad f).trans hvalid
    exact Eq.trans rfl hloaded
  · refine Eq.trans rfl ((entering_fault (s := res.2.setFn f { res.2.fn f with resp := res.1 }) 0x0204 f).trans ?_)
    exact Eq.trans rfl hvalid

end Sys2Proof.Machine
end

section
/-! PROOFS. Entry to the runtime and the journal transaction of step 10 (R277, R383, R392, R502, R514, R627). -/

namespace Sys2Proof.Machine

variable {s u v : State}

/-! ### A change of the store by one transaction (R502, R514) -/

/-- From s to u one transaction has written the pages of a list and the object pages, and the runtime holds nv. -/
structure PagesStored (s u : State) (nv : NvSt) (ids : List Nat) : Prop where
  frame : u = { s with regs := u.regs, mem := u.mem, nv := nv, cen := cenNoted s u }
  regs : ∀ r, r ∉ latchRegs → r ≠ Reg.knbJseq → u.reg r = s.reg r
  fired : Fired s u [27]
  kept : storeKept s u (fun a => inJournal a || ids.any (fun p => inPages p (p + 1) a) || inPages 256 1024 a)

theorem mem_nvPages {nv : NvSt} {ids : List Nat} {p : Nat × List Byte} (hp : p ∈ s.nvPages nv ids) : p.1 ∈ ids ∨ (256 ≤ p.1 ∧ p.1 < 1024) := by
  have hlarge : s.knabPages ≤ 1024 := by
    unfold State.knabPages
    split_ifs <;> decide
  rcases List.mem_append.mp hp with h | h
  · obtain ⟨q, hq, rfl⟩ := List.mem_map.mp h
    exact .inl hq
  · have hobj := (List.mem_filter.mp h).1
    obtain ⟨hin, hlt⟩ := List.mem_filter.mp hobj
    obtain ⟨j, -, rfl⟩ := List.mem_map.mp hin
    simp only [decide_eq_true_eq] at hlt
    exact .inr ⟨Nat.le_add_right _ _, hlt.trans_le hlarge⟩

theorem nvPages_ne_nil {nv : NvSt} {ids : List Nat} (hids : ids ≠ []) : s.nvPages nv ids ≠ [] := by
  simp [State.nvPages, hids]

theorem nvStore_stored {nv : NvSt} {ids : List Nat} (hidle : s.knb.commit = none) (hids : ids ≠ []) (hlow : ∀ p ∈ ids, 0 < p ∧ p < 1024)
    (hlen : (s.nvPages nv ids).length ≤ 64) : PagesStored s (s.nvStore (fun _ => nv) ids []) nv ids := by
  generalize hpages : s.nvPages nv ids = pages at hlen
  have hin : ∀ p ∈ pages, p.1 ∈ ids ∨ (256 ≤ p.1 ∧ p.1 < 1024) := fun p hp => mem_nvPages (hpages ▸ hp)
  have hne : pages ≠ [] := hpages ▸ nvPages_ne_nil hids
  have hbounds : ∀ p ∈ pages, 0 < p.1 ∧ p.1 < 1024 := fun p hp => (hin p hp).elim (hlow _) fun h => ⟨by omega, h.2⟩
  have hu : s.nvStore (fun _ => nv) ids [] = { (s.knabSteps pages).fire 27 with nv := nv } := by
    have hstore := nvStore_idle (f := fun _ => nv) (ids := ids) (more := []) hidle (by rwa [List.append_nil, hpages])
    rwa [List.append_nil, hpages] at hstore
  obtain ⟨seq, nv', hsteps⟩ := knabSteps_eq_of_no_header (s := s) fun p hp => (hbounds p hp).1.ne'
  have hwords := writesIn_knabStepsWords (s.reg Reg.knbJseq) hlen fun p hp => (hbounds p hp).2
  have hoff := fun x => byte_knabPuts_off (s := s) hwords (b := x)
  have hstore := fun x => knabByte_knabPuts hidle hwords (b := x)
  have hframe := storeFrame_knabPuts s (knabStepsWords (s.reg Reg.knbJseq) pages)
  have hreg := reg_knabPuts s (knabStepsWords (s.reg Reg.knbJseq) pages)
  rw [hu]
  generalize s.knabPuts (knabStepsWords (s.reg Reg.knbJseq) pages) = w at hsteps hoff hstore hframe hreg
  generalize s.knabSteps pages = y at hsteps ⊢
  have hyframe : y = { s with regs := y.regs, mem := y.mem, nv := y.nv, cen := cenNoted s y } := by
    rw [hsteps, hframe]
    rfl
  have hyreg : ∀ r, r ≠ Reg.knbJseq → y.reg r = s.reg r := fun r hr => by
    rw [hsteps]
    exact (State.reg_setReg_ne _ _ _ _ hr).trans (hreg r)
  have hymem : y.mem = w.mem := by rw [hsteps, State.setReg_mem]
  have hmem : (y.fire 27).mem = w.mem := (State.fire_mem y 27).trans hymem
  have hbyte : ∀ x, (y.fire 27).byte x = w.byte x := State.byte_congr hmem
  have hknb : (y.fire 27).knb = w.knb := by rw [State.fire_knb, hyframe, hframe.knb]
  refine { frame := ?_, regs := fun r hl hr => ?_, fired := ?_, kept := ⟨fun x hx => ?_, fun x hlo hhi hx => ?_⟩ }
  · rw [storeFrame_fire y 27, hyframe]
    rfl
  · exact (State.reg_fire _ _ _ hl).trans (hyreg r hr)
  · have hlatch : Fired s y [] := (Fired.refl s).congr (by rw [hyframe]) fun r hr => hyreg r fun e => absurd (e ▸ hr) (by decide)
    exact (hlatch.fire 27 (by decide)).congr rfl fun _ _ => rfl
  · exact (hbyte x).trans (hoff x (by omega))
  · obtain ⟨⟨hjournal, hnamed⟩, hobjs⟩ : (inJournal x = false ∧ ids.any (fun p => inPages p (p + 1) x) = false) ∧ inPages 256 1024 x = false := by
      simpa only [Bool.or_eq_false_iff] using hx
    have htargets : WritesIn (fun a => ∃ p ∈ pages, knabPage p.1 ≤ a ∧ a < knabPage p.1 + 64) (knabStep5 pages) :=
      writesIn_flatMap fun p hp => writesIn_pageWords _ fun a h1 h2 => ⟨p, hp, h1, h2⟩
    have hout : ¬ ∃ p ∈ pages, knabPage p.1 ≤ x ∧ x < knabPage p.1 + 64 := by
      rintro ⟨p, hp, h1, h2⟩
      rcases hin p hp with h | h
      · have hpage := List.any_eq_false.mp hnamed _ h
        simp only [inPages, Bool.and_eq_true, decide_eq_true_eq] at hpage
        unfold knabPage at *
        omega
      · simp only [inPages, Bool.and_eq_false_iff, decide_eq_false_iff_not] at hobjs
        unfold knabPage at *
        omega
    have hsame : State.knabByte { y.fire 27 with nv := nv } x = w.knabByte x := knabByte_congr hknb (fun a _ => hbyte a) hlo
    rw [hsame, hstore x ⟨hlo, hhi⟩, written_knabStepsWords _ hlen hjournal, written_of_writesIn htargets hout]

/-! ### The transaction of step 10 (R277, R392, R627) -/

/-- What the store takes of the committed set at step 10. -/
def State.startupNv (s : State) : NvSt :=
  { s.nvOfSet s.od.committed with
    heat := some (heatAfterN s.heatAhead s.od.heat)
    imgTag := if s.pourStatus 1 = 4 then s.pwr.cfgTag else s.nv.imgTag
    hdig := some s.ownSet
    sdig := some (s.odDigest s.od.committed OdRow.shared) }

theorem startupWrite_eq : s.startupWrite = s.nvStore (fun _ => s.startupNv) [2] [] := rfl

/-- What fits at step 10 are the heat page and the object pages. -/
theorem nvPages_startupNv : s.nvPages s.startupNv [2] =
    (2, s.pageWith 2 (nvFields s.startupNv 2)) :: (s.nvObjPages (s.nvOfSet s.od.committed).objs).filter
      (fun p => s.knabBytes (knabPage p.1) 64 != p.2) := rfl

theorem nvFits_startup : s.nvFits (s.nvOfSet s.od.committed) =
    (decide (((s.nvOfSet s.od.committed).objs.flatMap nvRecord).length ≤ 64 * (s.knabPages - 256)) &&
      decide ((s.nvPages s.startupNv [2]).length ≤ 64)) := by
  have hpages : (s.nvPages s.startupNv [2]).length = (s.nvPages (s.nvOfSet s.od.committed) [2]).length := rfl
  have haddress : (s.nvOfSet s.od.committed).address = s.nv.address := rfl
  rw [State.nvFits, hpages, if_pos haddress]

theorem startupWrite_stored (hidle : s.knb.commit = none) (hfits : s.nvFits (s.nvOfSet s.od.committed) = true) :
    PagesStored s s.startupWrite s.startupNv [2] := by
  rw [nvFits_startup, Bool.and_eq_true, decide_eq_true_eq, decide_eq_true_eq] at hfits
  rw [startupWrite_eq]
  exact nvStore_stored hidle (by simp) (by simp) hfits.2

theorem length_nvStream (objs : List (Nat × OdVal)) : (nvStream objs).length = (objs.flatMap nvRecord).length + 4 := by
  simp [nvStream]

theorem length_nvObjPages_le (objs : List (Nat × OdVal)) : (s.nvObjPages objs).length ≤ ((nvStream objs).length + 63) / 64 := by
  unfold State.nvObjPages
  exact (List.length_filter_le _ _).trans (by simp)

section
variable {n : Nat} (hn : (nvStream (nvRecords s.od.baseline s.nv s.od.committed)).length = n)
include hn

/-- Records of up to 63 pages fit beside the heat page. -/
theorem nvFits_startup_of_le (hle : n ≤ 63 * 64) : s.nvFits (s.nvOfSet s.od.committed) = true := by
  have hobjs : (s.nvOfSet s.od.committed).objs = nvRecords s.od.baseline s.nv s.od.committed := rfl
  have hsmall : 512 ≤ s.knabPages := by
    unfold State.knabPages
    split_ifs <;> decide
  have hpages := length_nvObjPages_le (s := s) (nvRecords s.od.baseline s.nv s.od.committed)
  have hrecords := length_nvStream (nvRecords s.od.baseline s.nv s.od.committed)
  rw [nvFits_startup, nvPages_startupNv, hobjs, Bool.and_eq_true, decide_eq_true_eq, decide_eq_true_eq, List.length_cons]
  have hfiltered := List.length_filter_le (fun p : Nat × List Byte => s.knabBytes (knabPage p.1) 64 != p.2)
    (s.nvObjPages (nvRecords s.od.baseline s.nv s.od.committed))
  omega

/-- Records beyond the object area do not fit. -/
theorem nvFits_startup_of_lt (hlt : 64 * (s.knabPages - 256) + 4 < n) : s.nvFits (s.nvOfSet s.od.committed) = false := by
  have hobjs : (s.nvOfSet s.od.committed).objs = nvRecords s.od.baseline s.nv s.od.committed := rfl
  have hrecords := length_nvStream (nvRecords s.od.baseline s.nv s.od.committed)
  rw [nvFits_startup, hobjs, Bool.and_eq_false_iff]
  exact .inl (decide_eq_false (by omega))

end

/-- What the transaction of step 10 leaves: `fits`, whether it completes. -/
structure StartupEnded (s : State) (fits : Bool) (u : State) : Prop where
  od : u.od = s.od
  variant : u.variant = s.variant
  now : u.now = s.now
  rtIn : u.pwr.rtIn = s.pwr.rtIn
  wdog : u.reg Reg.pwrWdog = s.reg Reg.pwrWdog
  fault : u.knb.nvFault = !fits
  taken : fits = true → u.nv = s.startupNv ∧ u.pwr.retryStart = none
  failed : fits = false → u.pwr.retryStart = some (s.now + 4000)

theorem startupTxn_ended (nvOk : Bool) (hidle : s.knb.commit = none) :
    StartupEnded s (nvOk && s.nvFits (s.nvOfSet s.od.committed)) (s.startupTxn nvOk) := by
  by_cases hfits : (nvOk && s.nvFits (s.nvOfSet s.od.committed)) = true
  · have hstored := startupWrite_stored hidle (Bool.and_eq_true_iff.mp hfits).2
    have hwdog := hstored.regs Reg.pwrWdog (by decide) (by decide)
    have hframe := hstored.frame
    rw [State.startupTxn, if_pos hfits, hfits]
    generalize s.startupWrite = w at hframe hwdog
    exact {
      od := by rw [hframe]
      variant := by rw [hframe]
      now := by rw [hframe]
      rtIn := by rw [hframe]
      wdog := hwdog
      fault := rfl
      taken := fun _ => ⟨by rw [hframe], rfl⟩
      failed := fun h => absurd h (by decide) }
  · rw [State.startupTxn, if_neg hfits, Bool.eq_false_iff.mpr hfits]
    have hframe := State.fault_eq s 0x0E02 0
    generalize s.fault 0x0E02 0 = w at hframe
    exact {
      od := by rw [hframe]
      variant := by rw [hframe]
      now := by rw [hframe]
      rtIn := by rw [hframe]
      wdog := by rw [hframe]; rfl
      fault := rfl
      taken := fun h => absurd h (by decide)
      failed := fun _ => by rw [hframe] }

/-! ### The repeat (R627) -/

/-- Only the transaction, the spares and the array say what a reader of the store sees. -/
theorem knabByte_of_store (hcommit : u.knb.commit = s.knb.commit) (hspares : u.knb.spares = s.knb.spares) (hmem : u.mem = s.mem) (a : Nat) :
    u.knabByte a = s.knabByte a := by
  unfold State.knabByte State.knabTarget State.knabCell
  rw [hcommit, hspares, State.byte_congr hmem]

theorem exec_startupCommitRetry {n : Nat} (nvOk : Bool) (hruns : s.runtimeRuns = true) (hat : s.pwr.retryStart = some n) (hdue : n ≤ s.now) :
    exec (.startupCommitRetry nvOk) s =
      (if nvOk then s.startupTxn true else { s with pwr := { s.pwr with retryStart := some (s.now + 4000) } }).done := by
  show execStartupCommitRetry nvOk s = _
  rw [execStartupCommitRetry, hat]
  dsimp only
  rw [if_neg (by simp [hruns, hdue])]

theorem exec_startupCommitRetry_none (nvOk : Bool) (h : s.pwr.retryStart = none) : exec (.startupCommitRetry nvOk) s = s.done := by
  show execStartupCommitRetry nvOk s = _
  rw [execStartupCommitRetry, h]

theorem answers_startupCommitRetry {n : Nat} (hruns : s.runtimeRuns = true) (hat : s.pwr.retryStart = some n) (hdue : n ≤ s.now)
    (hfits : s.nvFits (s.nvOfSet s.od.committed) = true) (hidle : s.knb.commit = none) :
    ∃ t, exec (.startupCommitRetry true) s = .next t ∧
      t = { s with regs := t.regs, mem := t.mem, cen := cenNoted s t, knb := { s.knb with nvFault := false },
                   pwr := { s.pwr with retryStart := none }, nv := s.startupNv } ∧
      storeKept s t (fun a => inJournal a || inPages 2 3 a || inPages 256 1024 a) ∧ regsKept s t [Reg.knbJseq] ∧ eventsFired s t [27] := by
  have hstored := startupWrite_stored hidle hfits
  have hexec := exec_startupCommitRetry true hruns hat hdue
  rw [if_pos rfl, State.startupTxn, if_pos (by rw [hfits]; rfl)] at hexec
  generalize s.startupWrite = w at hstored hexec
  obtain ⟨hframe, hregs, hfired, hoff, hstore⟩ := hstored
  generalize hu : ({ w with knb := { w.knb with nvFault := false }, pwr := { w.pwr with retryStart := none } } : State) = u at hexec
  have hureg : ∀ r, u.reg r = w.reg r := fun r => by rw [← hu]; rfl
  have humem : u.mem = w.mem := by rw [← hu]
  have huframe : RegFrame s { s with mem := u.mem, knb := { s.knb with nvFault := false }, pwr := { s.pwr with retryStart := none }, nv := s.startupNv } u := by
    unfold RegFrame
    rw [← hu, hframe]
    rfl
  have hknb : u.settle.knb = { s.knb with nvFault := false } := (State.settle_knb u).trans huframe.knb
  have hwknb : w.knb = s.knb := by rw [hframe]
  have hmem : u.settle.mem = w.mem := (State.settle_mem u).trans humem
  have hsame : ∀ a, u.settle.knabByte a = w.knabByte a := fun a =>
    knabByte_of_store (by rw [hknb, hwknb]) (by rw [hknb, hwknb]) hmem a
  refine ⟨u.settle, hexec, ?_, ⟨fun a ha => (State.byte_congr hmem a).trans (hoff a ha), fun a hlo hhi ha => (hsame a).trans (hstore a hlo hhi ?_)⟩,
    regsKept_settle fun r hr hl => (hureg r).trans (hregs r hl (by simpa using hr)), ?_⟩
  · have hend := huframe.settle
    rw [← State.settle_mem u] at hend
    exact hend
  · simpa using ha
  · exact (hfired.congr (by rw [← hu]) fun r _ => hureg r).done

end Sys2Proof.Machine
end

section
/-! PROOFS. Entry to the runtime as a command, and shakeout as a whole (R381-R384, R392, R627). -/

namespace Sys2Proof.Machine

variable {s u v : State}

/-! ### Steps 8 to 10 (R383) -/

/-- The runtime's image is loaded, it has entered, and the watchdog runs. -/
def State.runtimeEntered (s : State) : State :=
  let s := { s.runtimeLoad with pwr := { s.pwr with rtIn := true, wdLast := s.now } }
  (s.setRf Reg.pwrShake 0 4 8).setRb Reg.pwrWdog 16 true

/-- Actuators and rings are set up; TWN_STRAP is logged where there is no TWN. -/
def State.ringsReady (s : State) : State :=
  let s := s.actShakeSafe.forEach runtimeRings State.ringSetup
  let strap := s.rf Reg.pwrStrap 0 2
  if !s.present 16 && (strap = 1 || strap = 2) then s.fault 0x0F01 strap else s

/-- The configuration image is applied, and the values of the store over it. -/
def State.configTaken (s : State) : State := s.configLoad.2.overlay s.configLoad.1

/-- The units take their settings. -/
def State.unitsLoaded (s : State) : State :=
  ((s.loadShdnSel.shdnDoLock).setRf Reg.pwrShake 0 4 10).loadSupervise.loadTwn.loadPwr.startRtc.loadLockcfg.zonLoadPins.netStart

/-- Requests are served, and the functions start. -/
def State.servingStarts (s : State) : State :=
  let s := { s with od := { s.od with serving := true } }
  s.forEach (shakeOrder.filter (fun f => s.present (fnUnit f) && s.odNat 8 f 6 == 1)) State.shakeStart

/-- The state in which the transaction of step 10 is made: whether the heat is to rise has been judged. -/
def State.startsJudged (s : State) : State :=
  let s := s.runtimeEntered.ringsReady.knabModeRewrite.rtcResume.configTaken.unitsLoaded.servingStarts
  { s with od := { s.od with startup := some (decide (s.nv.hdig ≠ some s.ownSet)) } }

theorem entering_runtimeEntered :
    s.runtimeEntered.entering = (s.nv, s.od.heat, s.od.serving, s.knb.commit, true, true) := by
  obtain ⟨hnv, hheat, hserving, hcommit, -⟩ := entering_eq_iff.mp (entering_runtimeLoad (s := s))
  unfold State.runtimeEntered
  generalize s.runtimeLoad = l at hnv hheat hserving hcommit ⊢
  extract_lets l' p w
  have hdog : ((w.setRf Reg.pwrShake 0 4 8).setRb Reg.pwrWdog 16 true).rb Reg.pwrWdog 16 = true := State.rb_setRb _ _ _ _ (by decide)
  rw [State.entering, hdog, ← hnv, ← hheat, ← hserving, ← hcommit]
  rfl

theorem entering_ringsReady : s.ringsReady.entering = s.entering := by
  unfold State.ringsReady
  extract_lets w strap
  have hw : w.entering = s.entering := (forEach_view State.entering fun n _ _ => entering_ringSetup n).trans entering_actShakeSafe
  exact ite_view State.entering ((entering_fault _ _).trans hw) hw

theorem entering_configTaken : s.configTaken.entering = s.entering := (entering_overlay _).trans entering_configLoad

theorem entering_unitsLoaded : s.unitsLoaded.entering = s.entering :=
  entering_netStart.trans (entering_zonLoadPins.trans (entering_loadLockcfg.trans (entering_startRtc.trans (entering_loadPwr.trans
    (entering_loadTwn.trans (entering_loadSupervise.trans ((entering_setRf (by decide) _ _ _).trans (entering_shdnDoLock.trans
      entering_loadShdnSel))))))))

theorem entering_servingStarts : s.servingStarts.entering = (s.nv, s.od.heat, true, s.knb.commit, s.pwr.rtIn, s.rb Reg.pwrWdog 16) := by
  unfold State.servingStarts
  extract_lets o w
  have hw : w.entering = (s.nv, s.od.heat, true, s.knb.commit, s.pwr.rtIn, s.rb Reg.pwrWdog 16) := rfl
  exact (forEach_view State.entering fun f _ _ => entering_shakeStart f).trans hw

theorem entering_startsJudged (hidle : s.knb.commit = none) : s.startsJudged.entering = (s.nv, s.od.heat, true, none, true, true) := by
  have hentered := entering_runtimeEntered (s := s)
  rw [hidle] at hentered
  unfold State.startsJudged
  extract_lets w
  have hready : s.runtimeEntered.ringsReady.entering = (s.nv, s.od.heat, s.od.serving, none, true, true) := entering_ringsReady.trans hentered
  have hrewritten : s.runtimeEntered.ringsReady.knabModeRewrite.entering = (s.nv, s.od.heat, s.od.serving, none, true, true) :=
    (entering_knabModeRewrite (congrArg (fun x => x.2.2.2.1) hready)).trans hready
  have hloaded : s.runtimeEntered.ringsReady.knabModeRewrite.rtcResume.configTaken.unitsLoaded.entering =
      (s.nv, s.od.heat, s.od.serving, none, true, true) :=
    entering_unitsLoaded.trans (entering_configTaken.trans (entering_rtcResume.trans hrewritten))
  have hw : w.entering = (s.nv, s.od.heat, true, none, true, true) := by
    simp only [State.entering, Prod.mk.injEq] at hloaded
    obtain ⟨hnv, hheat, -, hcommit, hin, hdog⟩ := hloaded
    exact entering_servingStarts.trans (by rw [hnv, hheat, hcommit, hin, hdog])
  exact Eq.trans rfl hw

theorem startup_startsJudged : s.startsJudged.od.startup = some (decide (s.startsJudged.nv.hdig ≠ some s.startsJudged.ownSet)) := by
  unfold State.startsJudged
  generalize State.servingStarts _ = w
  have hset : ∀ o : Option Bool, State.ownSet { w with od := { w.od with startup := o } } = w.ownSet := fun o =>
    odDigest_congr rfl w.od.committed OdRow.persist
  simp only [hset]

theorem exec_runtimeEntry (nvOk : Bool) (hfree : s.resetFree = true) (hstep : s.shakeStep = 7) (hrt : s.pourStatus 0 = 4) (hcf : s.pourStatus 1 = 4) :
    exec (.runtimeEntry nvOk) s = ((s.startsJudged.startupTxn nvOk).setRf Reg.pwrShake 0 4 11).done := by
  show execRuntimeEntry nvOk s = _
  rw [execRuntimeEntry, if_neg (by simp [hfree, hstep, hrt, hcf])]
  rfl

theorem exec_runtimeEntry_none (nvOk : Bool) (hstep : s.shakeStep ≠ 7) : exec (.runtimeEntry nvOk) s = s.done := by
  show execRuntimeEntry nvOk s = _
  rw [execRuntimeEntry, if_pos (by simp [hstep])]

/-- The heat that the starts ahead of B1 leave. -/
theorem heat_startupNv {raise : Bool} (h : s.od.startup = some raise) :
    s.startupNv.heat = some (if raise then heatAfter s.od.heat else s.od.heat) := by
  have hahead : s.heatAhead = if raise then 1 else 0 := by rw [State.heatAhead, h]
  have hheat : s.startupNv.heat = some (heatAfterN s.heatAhead s.od.heat) := rfl
  rw [hheat, hahead]
  cases raise <;> rfl

theorem answers_runtimeEntry (nvOk : Bool) (hfree : s.resetFree = true) (hstep : s.shakeStep = 7) (hrt : s.pourStatus 0 = 4)
    (hcf : s.pourStatus 1 = 4) (hidle : s.knb.commit = none) :
    ∃ t, exec (.runtimeEntry nvOk) s = .next t ∧ t.pwr.rtIn = true ∧ t.shakeStep = 11 ∧ t.rb Reg.pwrWdog 16 = true ∧ t.od.serving = true ∧
      (let raise := decide (s.nv.hdig ≠ some t.ownSet)
       let n := (nvStream (nvRecords t.od.baseline s.nv t.od.committed)).length
       let done := decide (t.knb.nvFault = false)
       t.od.startup = some raise ∧ t.od.heat = s.od.heat ∧ (nvOk = true → n ≤ 63 * 64 → done = true) ∧
       (nvOk = false ∨ 64 * (s.knabPages - 256) + 4 < n → done = false) ∧
       (done = true → t.nv.heat = some (if raise then heatAfter s.od.heat else s.od.heat) ∧ t.nv.hdig = some t.ownSet ∧
         t.nv.sdig = some (t.odDigest t.od.committed OdRow.shared) ∧ t.pwr.retryStart = none) ∧
       (done = false → t.pwr.retryStart = some (s.now + 4000))) ∧ t.now = s.now ∧ t.tb = s.tb := by
  have hexec := exec_runtimeEntry nvOk hfree hstep hrt hcf
  have hkeeps : Keeps true s ((s.startsJudged.startupTxn nvOk).setRf Reg.pwrShake 0 4 11).settle :=
    keeps_execRuntimeEntry nvOk (Keeps.refl true s) _ hexec
  have hview := entering_startsJudged hidle
  have hstartup := startup_startsJudged (s := s)
  generalize s.startsJudged = w at hexec hkeeps hview hstartup
  simp only [State.entering, Prod.mk.injEq] at hview
  obtain ⟨hnv, hheat, hserving, hcommit, hin, hdog⟩ := hview
  have hended := startupTxn_ended nvOk hcommit
  generalize hfits : (nvOk && w.nvFits (w.nvOfSet w.od.committed)) = fits at hended
  generalize w.startupTxn nvOk = x at hexec hkeeps hended
  obtain ⟨hod, hvariant, hnow, hrtIn, hwdog, hfault, htaken, hfailed⟩ := hended
  have htpwr : (x.setRf Reg.pwrShake 0 4 11).settle.pwr = x.pwr := State.settle_pwr _
  have htod : (x.setRf Reg.pwrShake 0 4 11).settle.od = w.od := (State.settle_od _).trans hod
  have htnv : (x.setRf Reg.pwrShake 0 4 11).settle.nv = x.nv := State.settle_nv _
  have htknb : (x.setRf Reg.pwrShake 0 4 11).settle.knb = x.knb := State.settle_knb _
  have htvariant : (x.setRf Reg.pwrShake 0 4 11).settle.variant = w.variant := (State.settle_variant _).trans hvariant
  have htnow : (x.setRf Reg.pwrShake 0 4 11).settle.now = w.now := (State.settle_now _).trans hnow
  have htstep : (x.setRf Reg.pwrShake 0 4 11).settle.shakeStep = 11 := shakeStep_settle.trans (State.rf_setRf _ _ 0 4 11 (by decide))
  have htdog : (x.setRf Reg.pwrShake 0 4 11).settle.rb Reg.pwrWdog 16 = true := by
    rw [State.rb_settle (by decide), State.rb, State.reg_setRf_ne _ _ _ _ _ _ (by decide), hwdog]
    exact hdog
  replace hexec : exec (.runtimeEntry nvOk) s = .next (x.setRf Reg.pwrShake 0 4 11).settle := hexec
  generalize (x.setRf Reg.pwrShake 0 4 11).settle = t at hexec hkeeps htpwr htod htnv htknb htvariant htnow htstep htdog
  obtain ⟨htime, htb⟩ := hkeeps.still rfl
  have hset : t.ownSet = w.ownSet := by
    rw [State.ownSet, State.ownSet, htod]
    exact odDigest_congr htvariant _ _
  have hpages : w.knabPages = s.knabPages := by
    unfold State.knabPages State.present
    rw [← htvariant, hkeeps.variant]
  have hdone : decide (t.knb.nvFault = false) = fits := by
    rw [htknb, hfault]
    cases fits <;> rfl
  refine ⟨t, hexec, by rw [htpwr, hrtIn, hin], htstep, htdog, by rw [htod, hserving], ?_, htime, htb⟩
  intro raise n done
  have hraise : w.od.startup = some raise := by
    rw [hstartup, hnv, ← hset]
  have hlength : (nvStream (nvRecords w.od.baseline w.nv w.od.committed)).length = n := by
    rw [hnv, ← htod]
  have hdone' : done = fits := hdone
  refine ⟨by rw [htod, hraise], by rw [htod, hheat], fun hok hle => ?_, fun h => ?_, fun h => ?_, fun h => ?_⟩
  · rw [hdone', ← hfits, hok, nvFits_startup_of_le hlength hle]
    rfl
  · rw [hdone', ← hfits]
    rcases h with hok | hlt
    · rw [hok]
      rfl
    · rw [nvFits_startup_of_lt hlength (by rwa [hpages]), Bool.and_false]
  · obtain ⟨hxnv, hretry⟩ := htaken (hdone'.symm.trans h)
    rw [htnv, hxnv, htpwr]
    refine ⟨by rw [heat_startupNv hraise, hheat], congrArg some hset.symm, ?_, hretry⟩
    rw [htod, odDigest_congr htvariant]
    rfl
  · rw [htpwr, hfailed (hdone'.symm.trans h), ← htnow, htime]

/-! ### The obligation -/

/-- Settles O40: each step of shakeout by what it leaves, entry to the runtime by what its loads keep. -/
theorem shakeoutSteps : Obligations.ShakeoutSteps := by
  unfold Obligations.ShakeoutSteps
  refine ⟨fun weak s hfree hstep hcause => answers_knabRecall_warm weak hfree hstep hcause,
    fun weak s hfree hstep hcause hgood _ hmarker hagree => answers_knabRecall_cold weak hfree hstep hcause hgood hmarker hagree,
    fun weak s hstep => changesNothing_of_done (exec_knabRecall_none weak hstep),
    fun romOk s hfree hstep hbad => answers_selfTest_bad romOk hfree hstep hbad,
    fun s h => changesNothing_of_done (exec_selfTest_none h), fun s hfree hstep hgood hsolo hsrc hstop hbat hdip => ?_,
    fun nvOk s hfree hstep hrt hcf hidle => answers_runtimeEntry nvOk hfree hstep hrt hcf hidle,
    fun nvOk s hstep => changesNothing_of_done (exec_runtimeEntry_none nvOk hstep),
    fun s n hruns hat hdue => ⟨fun hfits hidle => answers_startupCommitRetry hruns hat hdue hfits hidle, ?_⟩, ?_⟩
  · obtain ⟨t, hexec, hframe, hstep', hwait, hsrc', hbytes, hlo, hhi, hseq, haddr, hplca, hheat, hhdig, hsdig, hlog, hkept, hfired⟩ :=
      answers_selfTest_good hfree hstep hgood hsolo hsrc hstop hbat hdip
    exact ⟨t, hexec, hframe, hstep', hwait, hsrc', fun a => (hbytes a).trans (byte_ramCleared a), hlo, hhi, hseq, haddr, hplca, hheat, hhdig,
      hsdig, hlog, hkept, hfired⟩
  · exact answers_pwr (exec_startupCommitRetry false hruns hat hdue)
  · exact fun nvOk s h => changesNothing_of_done (exec_startupCommitRetry_none nvOk h)

end Sys2Proof.Machine
end
